-- ==== Sys2Proof/Word.lean ====
section
/-! DEFINITION. The word types of the device: a byte, a 32-bit register word, and the widths of addresses.
Bit-field, byte-order and check-value helpers stand in Machine/Bits.lean. -/

namespace Sys2Proof

/-- One byte (R7, R8). -/
abbrev Byte := BitVec 8

/-- One 32-bit register word (R617: registers are read and written as aligned 32-bit words). -/
abbrev Word := BitVec 32

/-- A command, reply, event or section body: bytes in order, byte 0 first (R8, R16). -/
abbrev Body := List Byte

end Sys2Proof
end

