-- ==== Sys2Proof/Syntax.lean ====
section
/-! DEFINITION. The commands and events the block takes, with the operands each brings: one constructor per row of
spec/opcode_table.json. The table gives no word encoding for its rows; a host command's fields lie in its packet
header (R58) and its parameter body (R16), which the rows carry as they travel. -/

namespace Sys2Proof

/-- The two equal host ports (R48). -/
inductive Port where
  | A | B
deriving DecidableEq, Repr, Inhabited

/-- 0 for A, 1 for B, as in the fold word of R59 and in register strides (R53). -/
def Port.idx : Port → Nat
  | .A => 0
  | .B => 1

/-- The other port. -/
def Port.other : Port → Port
  | .A => .B
  | .B => .A

/-- What the 16-byte header of a command packet says besides its opcode and length (R58), and the port whose ring
it came through. -/
structure Req where
  /-- the issuing port -/
  port : Port
  /-- bits 5:0 of TAG -/
  tag : Fin 64
  /-- COOKIE, returned unchanged in the reply -/
  cookie : Word
  /-- FLAGS bit 0 -/
  urgent : Bool
  /-- FLAGS bit 1 -/
  ordered : Bool
deriving DecidableEq, Repr, Inhabited

/-- What takes an armed set: a head or an encode channel (R24, R73). -/
inductive Target where
  | head (h : Fin 24)
  | chan (c : Fin 16)
deriving DecidableEq, Repr

/-- What resets a port (R75, R549). -/
inductive ResetKind where
  | hotReset | linkDown | flr | perst
deriving DecidableEq, Repr

/-- The masters that read registers, each with its own latches (R619); a host port reads through BAR2, or through its BAR0 by the
offsets of R52. -/
inductive BusMaster where
  | host (p : Port)
  | bar0 (p : Port)
  | lantern (pair : Fin 4)
  | dbg
deriving DecidableEq, Repr

/-- A host write that no row of its own describes: to a port's BAR0 or to BAR2 (R52, R53, R620). -/
inductive RegWrite where
  /-- a write into the command-ring region of BAR0 -/
  | ring (off : Nat) (bytes : List Byte)
  /-- a write to BAR0 above the ring -/
  | bar0 (off len : Nat) (value : Word)
  /-- a write to BAR2 -/
  | bar2 (off len : Nat) (value : Word)
deriving DecidableEq, Repr

/-- A run of samples of one line in an ST 2110-20 packet (R177): field, line, first pixel and the samples in the
component order of the surface format. -/
structure SampleRun where
  field : Bool
  line : Nat
  pixel : Nat
  /-- pixels the run covers -/
  width : Nat
  samples : List Nat
deriving DecidableEq, Repr, Inhabited

/-- What the parse of a coded access unit says, by the coding standard (R248 to R257). Pictures are named by their picture order
count. -/
structure AuInfo where
  /-- the access unit is an IRAP picture -/
  irap : Bool
  /-- general_profile_idc or profile_idc, chroma_format_idc, bits per sample -/
  profile : Nat
  chroma : Nat
  depth : Nat
  /-- range extensions, SCC, multilayer or 3D syntax, SVC or MVC (R248) -/
  extended : Bool
  /-- flexible macroblock order or arbitrary slice order (R248) -/
  fmo : Bool
  level : Nat
  tierHigh : Bool
  /-- coded size of the frame -/
  width : Nat
  height : Nat
  /-- conformance window or cropping rectangle: left, top, width, height (R238) -/
  left : Nat
  top : Nat
  outWidth : Nat
  outHeight : Nat
  /-- CTU size of H.265 in samples -/
  ctu : Nat
  /-- decoded picture buffer size of the stream -/
  dpb : Nat
  /-- bins of the access unit -/
  bins : Nat
  /-- it closed with damaged or removed NAL units, or fails to parse somewhere (R181, R256) -/
  damaged : Bool
  /-- its decoded picture hash SEI is a CRC or a checksum, and disagrees with the decoded samples (R248, R256) -/
  hashBad : Bool
  /-- pic_output_flag is not 0 (R248) -/
  output : Bool
  /-- pictures that may precede one in decoding order and follow it in output order, and the limit of its output latency in pictures,
  0 for none (R254) -/
  reorder : Nat
  latency : Nat
  /-- a coded video sequence begins here; pictures of the one before are not output (R254) -/
  newSeq : Bool
  noPrior : Bool
  /-- picture order count -/
  poc : Int
  /-- an H.264 field, or a frame with field macroblock pairs (R255) -/
  interlaced : Bool
  /-- H.264 field: none for a frame, true for a bottom field; and whether it is the second field of the frame begun before -/
  field : Option Bool
  second : Bool
  /-- reference marks the picture takes (R239) -/
  short : Bool
  long : Bool
  /-- pictures it predicts from, and pictures that its reference marking releases (R239, R256) -/
  refs : List Int
  dropRefs : List Int
  /-- entropy segments of the picture: first row and rows of each (R226) -/
  segments : List (Nat × Nat)
deriving DecidableEq, Repr, Inhabited

/-- RTP header fields of a packet (R158, R173 to R175, R427). -/
structure Rtp where
  version : Nat
  marker : Bool
  seq : Nat
  ts : Nat
  ssrc : Nat
  payloadType : Nat
  /-- extended sequence number of the RFC 4175 payload header (R174) -/
  extSeq : Nat
deriving DecidableEq, Repr, Inhabited

/-- A PTP message as it stands in a frame (R385 to R391). -/
structure PtpMsg where
  /-- 0 Sync, 1 Delay_Req, 2 Pdelay_Req, 3 Pdelay_Resp, 8 Follow_Up, 9 Delay_Resp, 10 Pdelay_Resp_Follow_Up, 11 Announce, 12 Signaling, 13 Management -/
  kind : Nat
  domain : Nat
  seq : Nat
  twoStep : Bool
  /-- correctionField in 2^-16 ns -/
  correction : Int
  /-- the message's time in ns of PTP time: origin, precise origin, receive or response origin -/
  time : Nat
  /-- sender's clock identity and port -/
  clock : Nat
  srcPort : Nat
  /-- requesting port identity of a response -/
  reqClock : Nat
  reqPort : Nat
  /-- data set of an Announce: priority1, class, accuracy, variance, priority2, grandmaster, steps removed, UTC offset, time source -/
  prio1 : Nat
  cls : Nat
  accuracy : Nat
  variance : Nat
  prio2 : Nat
  gm : Nat
  steps : Nat
  logInterval : Int
deriving DecidableEq, Repr, Inhabited

/-- A received Ethernet frame, as its standard's header fields (R153, R155); `data` is the frame from the destination
MAC address on, without its FCS. -/
structure EthFrame where
  /-- length with the FCS -/
  len : Nat
  fcsOk : Bool
  /-- EtherType 0x88F7, or UDP port 319 or 320 -/
  ptp : Option PtpMsg
  /-- an IPv4 datagram carrying UDP -/
  udp : Bool
  /-- the IPv4 datagram is a fragment or has options (R153: malformed) -/
  badIp : Bool
  vlan : Option Nat
  srcAddr : Nat
  dstAddr : Nat
  dstPort : Nat
  /-- RTP header when the UDP payload holds 12 bytes or more and begins with version 2 -/
  rtp : Option Rtp
  /-- payload header complete and packet type supported (R155 row 8) -/
  payloadOk : Bool
  payload : List Byte
  runs : List SampleRun
  au : Option AuInfo
  data : List Byte
  /-- the lookup is behind and the MAC's receive buffer is full (R157) -/
  overrun : Bool := false
deriving DecidableEq, Repr

/-- One audio sample with the channel-status, validity and block-start bits that come with it (R424, R426). -/
structure AudioWord where
  sample : Int
  /-- the subframe's parity is wrong -/
  parityBad : Bool := false
  /-- V = 1 -/
  invalid : Bool := false
  /-- channel-status bit -/
  c : Bool := false
  /-- Z: the first frame of a block -/
  z : Bool := false
deriving DecidableEq, Repr, Inhabited

/-- One received SDI line (R183, R184, R426). -/
structure SdiLine where
  /-- active line number within its frame or field, none for a line of blanking -/
  active : Option Nat
  /-- the format found is interlaced, and the line is of the second field -/
  interlaced : Bool := false
  field2 : Bool := false
  /-- last active line of the frame -/
  last : Bool
  crcOk : Bool
  samples : List Nat
  width : Nat
  /-- rate code of ING_SDI_STAT found from TRS timing or the ST 352 packet -/
  rate : Nat
  /-- bytes 1 and 2 of an ST 352 payload identifier, if present -/
  st352 : Option Nat
  /-- embedded audio: one list of up to 16 channel words per sample instant -/
  audio : List (List AudioWord)
deriving DecidableEq, Repr

/-- A CSI-2 long packet (R200). -/
structure CsiLong where
  /-- 0 good or corrected header, else uncorrectable -/
  hdrOk : Bool
  dataType : Nat
  crcOk : Bool
  /-- word count of the header -/
  count : Nat
  samples : List Nat
deriving DecidableEq, Repr

/-- A coding engine (R225). -/
inductive Engine where
  | pe (n : Fin 32)
  | ee (n : Fin 8)
deriving DecidableEq, Repr

/-- What a DisplayPort sink reports when it is read: the highest rate code it takes, its lanes, its EDID (R361, R362). -/
structure SinkCaps where
  rate : Nat
  lanes : Nat
  edid : List Byte
deriving DecidableEq, Repr, Inhabited

/-- A CTU's entry in a statistics record: vectors, complexity, QP, mode (R294). -/
structure CtuStat where
  mvx : Int := 0
  mvy : Int := 0
  cplx : Nat := 0
  qp : Nat := 0
  mode : Nat := 0
deriving DecidableEq, Repr, Inhabited

/-- What a PE makes of one decoded CTU row by the coding standard: its lines at the stream's bit depth, and the ranges of luma columns
whose CTUs were removed or fail to parse (R238, R256). -/
structure DecRow where
  y : List (List Nat) := []
  cb : List (List Nat) := []
  cr : List (List Nat) := []
  lost : List (Nat × Nat) := []
deriving DecidableEq, Repr, Inhabited

/-- What H.265 and the firmware leave open in the parameter sets and the buffering period SEI of a key picture: the fields of VPS and SPS behind
profile_tier_level, the PPS, and the SEI's payload (R263, R264). -/
structure ParamBits where
  vps : List Byte := []
  sps : List Byte := []
  pps : List Byte := []
  period : List Byte := []
deriving DecidableEq, Repr, Inhabited

/-- What the coding engines make of one CTU row: its slice and the fill row's slice, each behind the NAL unit header, the parameter sets of
row 0, the reconstructed lines, and the row's CTU statistics (R264, R279, R294). -/
structure RowCoded where
  slice : List Byte
  fill : List Byte
  sets : ParamBits := {}
  recon : List (List Nat)
  ctus : List CtuStat
deriving DecidableEq, Repr, Inhabited

/-- The duty's ENC_PICTURE record (R299): picture counter, SEQUENCE taken, status, key decision and type, latch, RTP number of
the first packet, bucket fullness. -/
structure EncMirror where
  pic : Nat := 0
  taken : Option Nat := none
  status : Nat := 0
  key : Bool := false
  cra : Bool := false
  latched : Bool := false
  rtp : Nat := 0
  fill : Nat := 0
deriving DecidableEq, Repr, Inhabited

/-- The duty's ENC_ROW record (R299): the late flag at the input deadline; with the cap check, CRC-32C of the row's bits, its
first RTP number and its packets. -/
structure EncRowMirror where
  pic : Nat := 0
  row : Nat := 0
  late : Bool := false
  crc : Option Nat := none
  first : Nat := 0
  count : Nat := 0
deriving DecidableEq, Repr, Inhabited

/-- How a Seam link record arrived: a copy that passes its CRC and a copy that fails it, by lane, and whether the record is in
sequence and of a known type (R521, R543). -/
structure SeamWire where
  ok0 : Bool
  ok1 : Bool
  bad0 : Bool
  bad1 : Bool
  inOrder : Bool
deriving DecidableEq, Repr, Inhabited

/-- A HEARTBEAT record (R522). -/
structure Heartbeat where
  state : Nat
  pairId : Bool
  dutyOut : Bool
  eligible : Bool
  gm : Nat
  crc : Nat
deriving DecidableEq, Repr, Inhabited

/-- A LATCH record of a head (R522): grid index, flip time in ns, and the SEQUENCE latched for each configured layer. -/
structure LatchRecord where
  k : Nat
  flip : Nat
  /-- slot and SEQUENCE -/
  seqs : List (Nat × Nat)
deriving DecidableEq, Repr, Inhabited

/-- A SNAPSHOT record (R539): frame counters by head; head × 8 + layer, SEQUENCE, t_seq, t_crc; by channel, the picture counter and the
state of its latest ENC_PICTURE record. -/
structure Snapshot where
  frames : List (Nat × Nat)
  layers : List (Nat × Nat × Nat × Nat)
  chans : List (Nat × Nat × EncMirror)
deriving DecidableEq, Repr, Inhabited

/-- A request of a master to the interconnect (R490): its identity, the instance that makes it and the layer, channel or session
it serves (R627), direction, device address and length, the bytes of a write, and what the DRAM's ECC finds at the first line of a
read (0 nothing, 1 a corrected word, 2 an uncorrectable one). -/
structure MemAccess where
  master : Fin 22
  /-- MAC, SDI input, CSI-2 port, PE (32: the job dispatch), EE or head that makes the request -/
  inst : Nat
  /-- decode session (identity 14); 1 for the Canary and Flare, 0 for scan-out (identity 18) -/
  serves : Nat
  write : Bool
  addr : Nat
  len : Nat
  data : List Byte
  ecc : Fin 3
deriving DecidableEq, Repr, Inhabited

/-- A fault record as an island sends it over the fault network (R504): its time is that of detection. -/
structure FaultIn where
  island : Fin 41
  cls : Nat
  unmasked : Bool
  inst : Nat
  detail : List Byte
deriving DecidableEq, Repr, Inhabited

/-- The commands and events of the block: one constructor per row of the opcode table, in the table's order.
A row that is a host command packet carries the packet's header fields (Req) and its parameter body; a row that
makes the device read host memory carries the bytes read. The other rows carry what the event itself brings. -/
inductive Instr where
  /-- DOORBELL_WRITE (R56): Host writes HP_CMD_DB with the ring offset past the last complete packet; invalid values are ignored. -/
  | doorbellWrite (p : Port) (value : Word)
  /-- PACKET_FETCH (R55): Host-port hardware fetches a whole packet covered by the doorbell when the event ring has room, checks header, CRC and tag, and advances HP_CMD_RD. -/
  | packetFetch (p : Port)
  /-- PACKET_START (R71): The command interpreter starts the next ready fetched packet in URGENT, ring and port-alternation order. -/
  | packetStart
  /-- URGENT_PREEMPT (R71): A fetched URGENT packet preempts non-URGENT interpretation at its next preemption point. -/
  | urgentPreempt
  /-- SECOND_SET_ARM (R73): A set waiting behind an untaken armed set of the same head or channel is armed once the first is taken. -/
  | secondSetArm (t : Target)
  /-- RING_RESET (R97): Writing 1 to HP_CTL.RING_RESET discards unfetched ring contents and sets HP_CMD_RD to the last doorbell offset. -/
  | ringReset (p : Port)
  /-- EVT_EN_SET (R62): Setting HP_CTL.EVT_EN latches ring base and size, zeroes both indices and starts phase 1. -/
  | evtEnSet (p : Port)
  /-- EVT_EN_CLEAR (R63): Clearing HP_CTL.EVT_EN stops fetching; later replies are dropped and counted and their tags freed. -/
  | evtEnClear (p : Port)
  /-- FETCH_EN_WRITE (R63): Writing HP_CTL.FETCH_EN enables or stops packet fetching on the port. -/
  | fetchEnWrite (p : Port) (on : Bool)
  /-- EVT_READ_INDEX_WRITE (R68): Host writes HP_EVT_RD, freeing records, which may resume fetching and event delivery. -/
  | evtReadIndexWrite (p : Port) (value : Word)
  /-- IRQ_MODERATION_EXPIRY (R69): The HP_IRQ_MOD interval ends and a pending vector 0 message may be sent. -/
  | irqModerationExpiry (p : Port)
  /-- SEM_REQ (R78): Host writes a scope to SEM_REQ; grant or refusal is decided within 0.1 us and shown in SEM_RESULT. -/
  | semReq (p : Port) (value : Word) (other : Option Word)
  /-- SEM_REL (R80): Host writes a scope number to SEM_REL, releasing that scope if held. -/
  | semRel (p : Port) (value : Word)
  /-- SEM_REL_ALL (R80): Host writes 0x40 to SEM_REL, releasing all of the port's scopes. -/
  | semRelAll (p : Port)
  /-- PCIE_LINK_LEAVE_L0 (R81): A port's link leaves L0; its scopes are kept for 100 ms. -/
  | pcieLinkLeaveL0 (p : Port) (d3hot : Bool)
  /-- PCIE_LINK_ENTER_L0 (R81): A port's link reaches L0; LINK_UP and PORT_LINK are reported. -/
  | pcieLinkEnterL0 (p : Port) (width speed : Nat) (asked : List (Nat × Nat))
  /-- LINK_DOWN_SCOPE_TIMEOUT (R81): A link out of L0 for 100 ms has all its scopes released, with SCOPE_RELEASED and vector 3 on the other port. -/
  | linkDownScopeTimeout (p : Port)
  /-- PORT_RESET (R75): A hot reset, link-down, FLR or PERSTx_N on a port discards unstarted packets, resets port registers and releases scopes. -/
  | portReset (p : Port) (kind : ResetKind)
  /-- CTRL_RESTART_BEGIN (R25): The control-plane firmware restarts; fetching stops and unarmed shadows are discarded. -/
  | ctrlRestartBegin
  /-- CTRL_RESTART_END (R25): The control plane runs again, writes replies of armed commands, restarts interrupted commands and resumes fetching. -/
  | ctrlRestartEnd
  /-- EVIN_CHANGE_ACCEPTED (R93): An event input holds a new level for its filter time; the change is accepted and timestamped. -/
  | evinChangeAccepted (n : Fin 8) (level : Bool) (heldNs : Nat)
  /-- EVIN_STUCK_TIMEOUT (R94): An input still active after STUCK_MS raises EVIN_STUCK. -/
  | evinStuckTimeout (n : Fin 8)
  /-- PSEL_STABLE (R90): A PSEL change stable for 10 ms in pin mode selects the profile named by the pins. -/
  | pselStable (v : Fin 4)
  /-- DEV_INFO (R569): Command 0x0101 returns DEV_ID, DEV_BOOT and version numbers. -/
  | devInfo (r : Req) (b : Body)
  /-- BOOT_LOAD (R563): Command 0x0102 copies, checks and, if accepted, starts a signed firmware image. -/
  | bootLoad (r : Req) (b : Body) (image : List Byte)
  /-- FW_START (R565): Control-plane firmware powers islands, sets CTRL_RUN and raises FW_STARTED within 200 ms of the BOOT_LOAD reply. -/
  | fwStart
  /-- DEV_BOARD_TABLE (R567): Command 0x0103 checks, takes and locks the whole board table and retrains host links. -/
  | devBoardTable (r : Req) (b : Body) (image : List Byte) (linear : Bool)
  /-- EVENT_MASK (R67): Command 0x0201 sets which event groups reach the issuing port. -/
  | eventMask (r : Req) (b : Body)
  /-- PRF_LOAD (R85): Command 0x0301 reads a profile image into a slot and validates it to VALID or INVALID. -/
  | prfLoad (r : Req) (b : Body) (image : List Byte)
  /-- PRF_SELECT (R86): Command 0x0302 selects a VALID profile, replying when every head and channel has taken it. -/
  | prfSelect (r : Req) (b : Body)
  /-- PRF_PIN_MODE (R90): Command 0x0303 turns PSEL pin selection on or off. -/
  | prfPinMode (r : Req) (b : Body)
  /-- PRF_STATUS (R99): Command 0x0304 returns slot states, reasons and loaded lengths. -/
  | prfStatus (r : Req) (b : Body)
  /-- EVI_CONFIG (R95): Command 0x0310 configures an event input's enable, polarity, action, filter and stuck time. -/
  | eviConfig (r : Req) (b : Body)
  /-- CNY_LIMITS (R147): Command 0x1001 tightens the Canary limits before lock. -/
  | cnyLimits (r : Req) (b : Body)
  /-- CNY_LOCK (R145): Command 0x1002 sets the Canary lock until PORST_N. -/
  | cnyLock (r : Req) (b : Body)
  /-- CNY_HEAD_STYLE (R131): Command 0x1003 sets a head's mark style, taken at its next commit window. -/
  | cnyHeadStyle (r : Req) (b : Body)
  /-- CNY_STILL (R113): Command 0x1004 holds a VIDEO layer as STILL or returns it to live at the next commit window. -/
  | cnyStill (r : Req) (b : Body)
  /-- CNY_HISTORY (R149): Command 0x1005 copies a head's final tag-history records to host memory. -/
  | cnyHistory (r : Req) (b : Body)
  /-- ING_MAC_CONFIG (R154): Command 0x2001 enables a MAC and sets its address. -/
  | ingMacConfig (r : Req) (b : Body)
  /-- ING_CONTEXT (R169): Command 0x2002 binds, replaces or unbinds an ingest context. -/
  | ingContext (r : Req) (b : Body)
  /-- ING_MERGE (R173): Command 0x2003 sets a merge group's skew window. -/
  | ingMerge (r : Req) (b : Body)
  /-- ING_SDI (R183): Command 0x2004 sets an SDI input's allowed rates and context. -/
  | ingSdi (r : Req) (b : Body)
  /-- LODE_UPDATE (R163): Command 0x2010 adds, replaces or deletes Lode entries in order, each effective within 2 ms. -/
  | lodeUpdate (r : Req) (b : Body)
  /-- LODE_READ (R162): Command 0x2011 copies whole Lode entries to host memory. -/
  | lodeRead (r : Req) (b : Body)
  /-- ING_HOST_RING (R165): Command 0x2020 places or disables a host sample or ancillary ring. -/
  | ingHostRing (r : Req) (b : Body)
  /-- ING_INJECT (R168): Command 0x2021 queues one host Ethernet frame for the MACs in its mask. -/
  | ingInject (r : Req) (b : Body)
  /-- INJECT_FRAME_SENT (R168): A queued injected frame leaves a MAC in spare capacity; the reply follows when all MACs have sent it. -/
  | injectFrameSent (mac : Fin 16)
  /-- CAM_PORT (R194): Command 0x2801 configures or disables a CSI-2 port. -/
  | camPort (r : Req) (b : Body)
  /-- CAM_CONTEXT (R197): Command 0x2802 binds, replaces or unbinds a camera context. -/
  | camContext (r : Req) (b : Body)
  /-- CAM_PARAMS (R209): Command 0x2803 arms a parameter set taken at the next frame start. -/
  | camParams (r : Req) (b : Body)
  /-- CAM_DEFECTS (R211): Command 0x2804 arms a defect table taken at the next frame start. -/
  | camDefects (r : Req) (b : Body) (table : List Byte)
  /-- CAM_STATS_RING (R220): Command 0x2805 places or disables the camera statistics ring. -/
  | camStatsRing (r : Req) (b : Body)
  /-- DEC_SESSION (R247): Command 0x3001 binds, replaces or unbinds a decode session. -/
  | decSession (r : Req) (b : Body)
  /-- DEC_RESTART (R252): Command 0x3002 returns a session to WAIT_KEY and discards its pending pictures. -/
  | decRestart (r : Req) (b : Body)
  /-- CF_KEY_COPY (R239): Command 0x3003 copies the KEY buffer of a session or channel to host memory. -/
  | cfKeyCopy (r : Req) (b : Body)
  /-- CF_RESERVE (R230): Command 0x3010 sets the spare PEs and EEs every commit must leave free. -/
  | cfReserve (r : Req) (b : Body)
  /-- CF_ALLOC (R228): Command 0x3011 returns the owner of every PE and EE. -/
  | cfAlloc (r : Req) (b : Body)
  /-- ENC_CHANNEL (R262): Command 0x3801 binds, replaces or unbinds an encode channel. -/
  | encChannel (r : Req) (b : Body)
  /-- ENC_KEY (R288): Command 0x3802 requests a key picture on each channel of its mask. -/
  | encKey (r : Req) (b : Body)
  /-- ENC_STATS_RING (R294): Command 0x3803 places or disables the encoder statistics ring. -/
  | encStatsRing (r : Req) (b : Body)
  /-- LY_CONFIG (R338): Command 0x4001 writes a layer's configuration into the held set and arms it unless HOLD is set. -/
  | lyConfig (r : Req) (b : Body)
  /-- LY_PALETTE (R311): Command 0x4002 writes palette entries of a layer into the held set. -/
  | lyPalette (r : Req) (b : Body)
  /-- LY_COLOUR (R327): Command 0x4003 writes a layer's LUTs and matrix into the held set. -/
  | lyColour (r : Req) (b : Body) (table : List Byte)
  /-- HD_COMPOSE (R328): Command 0x4004 writes a head's background, output standard, encoding and LUT into the held set. -/
  | hdCompose (r : Req) (b : Body) (table : List Byte)
  /-- CMP_COMMIT (R338): Command 0x4005 validates and arms the held sets of every head in its mask in one cycle. -/
  | cmpCommit (r : Req) (b : Body)
  /-- CMP_DISCARD (R340): Command 0x4006 discards the held sets of the heads in its mask. -/
  | cmpDiscard (r : Req) (b : Body)
  /-- GFX_POOL (R344): Command 0x4010 allocates or frees a GRAPHIC pool. -/
  | gfxPool (r : Req) (b : Body)
  /-- GFX_UPLOAD (R342): Command 0x4011 opens, writes or finishes a GRAPHIC surface upload. -/
  | gfxUpload (r : Req) (b : Body) (data : List Byte)
  /-- HD_TIMING (R356): Command 0x4801 sets a head's or gang's raster, taken at the head's boundary. -/
  | hdTiming (r : Req) (b : Body)
  /-- HD_OUTPUT (R357): Command 0x4802 binds or unbinds a DisplayPort, SDI, ST 2110-20 or encoded-stream output. -/
  | hdOutput (r : Req) (b : Body)
  /-- HD_HOLD (R375): Command 0x4803 sets HOLD_MAX for the next give-up. -/
  | hdHold (r : Req) (b : Body)
  /-- HD_DP_AUX (R362): Command 0x4810 passes a DPCD or I2C AUX transaction to a sink with retries and timeout. -/
  | hdDpAux (r : Req) (b : Body) (answer : Fin 4) (data : List Byte)
  /-- TM_PTP_CONFIG (R385): Command 0x5001 sets the PTP domain, servo limits and enabled ports. -/
  | tmPtpConfig (r : Req) (b : Body)
  /-- TM_PORT (R388): Command 0x5002 configures a PTP port's transport, delay mode and asymmetry. -/
  | tmPort (r : Req) (b : Body)
  /-- TM_STEP (R393): Command 0x5003 schedules a step of the PTP clock at AT_SEC or at once. -/
  | tmStep (r : Req) (b : Body)
  /-- REF_CONFIG (R398): Command 0x5010 configures a DPLL reference. -/
  | refConfig (r : Req) (b : Body)
  /-- REF_DPLL (R400): Command 0x5011 sets the DPLL timers, thresholds and bandwidth. -/
  | refDpll (r : Req) (b : Body)
  /-- REF_SELECT (R405): Command 0x5012 sets the manual reference or forces HOLDOVER. -/
  | refSelect (r : Req) (b : Body)
  /-- REF_PHASE (R410): Command 0x5013 sets the grid phase offset, as a grid step or stored. -/
  | refPhase (r : Req) (b : Body)
  /-- AUD_TDM (R422): Command 0x5801 configures a TDM group. -/
  | audTdm (r : Req) (b : Body)
  /-- AUD_AES3 (R424): Command 0x5802 configures an AES3 input or output. -/
  | audAes3 (r : Req) (b : Body)
  /-- AUD_RX (R427): Command 0x5803 binds an ST 2110-30 receive stream. -/
  | audRx (r : Req) (b : Body)
  /-- AUD_TX (R429): Command 0x5804 binds an ST 2110-30 send stream. -/
  | audTx (r : Req) (b : Body)
  /-- AUD_CLOCK (R417): Command 0x5805 realigns the house clocks to A = 0 with ramps. -/
  | audClock (r : Req) (b : Body)
  /-- AUD_ROUTE (R431): Command 0x5810 changes output-channel routes at zero crossings, replying when all changes end. -/
  | audRoute (r : Req) (b : Body)
  /-- AUD_CS_READ (R424): Command 0x5811 returns a channel's last valid channel-status block. -/
  | audCsRead (r : Req) (b : Body)
  /-- TCH_CONFIG (R438): Command 0x6001 sets a front-end's mode, roles and thresholds and starts baseline capture. -/
  | tchConfig (r : Req) (b : Body)
  /-- TCH_REFERENCE (R444): Command 0x6002 loads a front-end's reference table while disabled. -/
  | tchReference (r : Req) (b : Body) (table : List Byte)
  /-- TCH_MAP (R453): Command 0x6003 maps a front-end to a head with panel delay and coefficients. -/
  | tchMap (r : Req) (b : Body)
  /-- TCH_RING (R458): Command 0x6004 places or disables the touch report ring. -/
  | tchRing (r : Req) (b : Body)
  /-- TCH_NOISE_MODE (R452): Command 0x6005 sets charger-noise control to AUTO, ON or OFF. -/
  | tchNoiseMode (r : Req) (b : Body)
  /-- TCH_REBASE (R446): Command 0x6006 sets baselines to raw counts for a node range, optionally ending contacts. -/
  | tchRebase (r : Req) (b : Body)
  /-- TCH_SELFTEST (R441): Command 0x6007 starts a 16-frame open/short test of a front-end's channels. -/
  | tchSelftest (r : Req) (b : Body) (table : List Byte)
  /-- TCH_SELFTEST_COMPLETE (R441): After 16 scan frames the self-test classifies each channel and replies. -/
  | tchSelftestComplete (f : Fin 2)
  /-- TCH_SNAPSHOT (R442): Command 0x6008 writes the next complete scan frame's node data to host memory. -/
  | tchSnapshot (r : Req) (b : Body)
  /-- DMC_TRAIN (R472): Command 0x6801 trains all DRAM channels and initialises every ECC block. -/
  | dmcTrain (r : Req) (b : Body) (pass : Word) (step : Fin 6) (durationMs : Nat)
  /-- DMC_RETRAIN_PERIOD (R471): Command 0x6802 sets the retraining period from the next period boundary. -/
  | dmcRetrainPeriod (r : Req) (b : Body)
  /-- MEM_USAGE (R478): Command 0x6803 returns DRAM allocation figures. -/
  | memUsage (r : Req) (b : Body)
  /-- MPU_ENTRY (R488): Command 0x7001 writes an MPU entry before lock. -/
  | mpuEntry (r : Req) (b : Body)
  /-- MPU_LOCK (R495): Command 0x7002 locks every MPU entry and starts access checking. -/
  | mpuLock (r : Req) (b : Body)
  /-- CHK_RUN (R503): Command 0x7010 starts a one-shot or periodic CRC run on a check-value unit. -/
  | chkRun (r : Req) (b : Body)
  /-- CHK_STOP (R501): Command 0x7011 stops a unit's run with end code STOPPED. -/
  | chkStop (r : Req) (b : Body)
  /-- FLT_READ (R506): Command 0x7020 copies fault-log records, newest first, to host memory. -/
  | fltRead (r : Req) (b : Body)
  /-- PAIR_CONFIG (R523): Command 0x7801 enables or disables pairing and sets key hold-off and audio mask. -/
  | pairConfig (r : Req) (b : Body)
  /-- PAIR_SWITCH (R530): Command 0x7802 hands duty over (mode 0) or gives it up (mode 1). -/
  | pairSwitch (r : Req) (b : Body)
  /-- PAIR_DRILL (R542): Command 0x7803 runs the hold and hatch drill on standby heads. -/
  | pairDrill (r : Req) (b : Body)
  /-- PWR_ISLAND (R560): Command 0x7C01 powers an optional island or head group off or on. -/
  | pwrIsland (r : Req) (b : Body)
  /-- PWR_THERM_WARN (R557): Command 0x7C02 sets the thermal warning threshold. -/
  | pwrThermWarn (r : Req) (b : Body)
  /-- SL_PRBS (R586): Command 0x7E01 starts a PRBS test on a lane, replying when it ends. -/
  | slPrbs (r : Req) (b : Body)
  /-- SL_PRBS_STOP (R586): Command 0x7E02 ends a running PRBS test with STOPPED. -/
  | slPrbsStop (r : Req) (b : Body)
  /-- PRBS_TEST_END (R586): A PRBS test reaches DURATION_MS, or is aborted by a command needing the lane, and replies. -/
  | prbsTestEnd (l : Fin 67) (errs : Nat)
  /-- PRBS_NOLOCK_TIMEOUT (R590): A checker not locked 100 ms after start ends the test with NOLOCK. -/
  | prbsNolockTimeout (l : Fin 67)
  /-- RING_INDEX_WRITE_ING (R165): Host writes ING_RING_RD[r], freeing ingest host-ring records. -/
  | ringIndexWriteIng (p : Port) (ring : Fin 2) (value : Word)
  /-- RING_INDEX_WRITE_CAM (R220): Host writes CAM_STATS_RD, freeing camera statistics slots. -/
  | ringIndexWriteCam (p : Port) (value : Word)
  /-- RING_INDEX_WRITE_ENC (R294): Host writes ENC_STATS_RD, freeing encoder statistics slots. -/
  | ringIndexWriteEnc (p : Port) (value : Word)
  /-- RING_INDEX_WRITE_TCH (R458): Host writes TCH_RING_RD, freeing touch report records. -/
  | ringIndexWriteTch (p : Port) (value : Word)
  /-- W1C_WRITE (R14): Host writes 1 to W1C bits of HP_STATUS, clearing them unless hardware sets them in the same cycle. -/
  | w1cWrite (p : Port) (value : Word) (hwSets : Word)
  /-- RC_REGISTER_READ (R622): A read of an RC register returns its value and clears it, with port priority on same-cycle ties. -/
  | rcRegisterRead (p : Port) (addr : Nat) (both : Bool)
  /-- LATCHING_REGISTER_READ (R619): A read of HD_FRAME_LO or TM_TIME_NS latches its companion registers for that master. -/
  | latchingRegisterRead (m : BusMaster) (addr : Nat)
  /-- REGISTER_WRITE (R620): Any other register write takes effect if host-writable, else is discarded and counted in HP_WR_DROP. -/
  | registerWrite (p : Port) (w : RegWrite) (other : Option RegWrite)
  /-- FRAME_BOUNDARY (R353): A head reaches its frame boundary: counts the frame, records flip time, takes an armed set and latches surfaces. -/
  | frameBoundary (h : Fin 24)
  /-- COMMIT_WINDOW_CLOSE (R354): A head's commit window closes WIN_LEAD lines before its boundary; sets armed later are taken a frame late. -/
  | commitWindowClose (h : Fin 24)
  /-- CANARY_EVALUATION (R117): The Canary reads a latched header and evaluates age, sequence, mismatch, frozen and fault checks on two paths. -/
  | canaryEvaluation (h : Fin 24) (l : Fin 8) (eccError disagree : Bool)
  /-- EVAL_DEADLINE_MISS (R117): A header not read by line VBLANK + y_first − 1 makes the layer fail the fault check. -/
  | evalDeadlineMiss (h : Fin 24) (l : Fin 8)
  /-- LINE_COMPOSE (R320): Composition blends one output line from the layers' line-buffer rings into the output FIFO. -/
  | lineCompose (h : Fin 24) (late : BitVec 8) (residue : Fin 3)
  /-- LINE_SCAN (R349): Scan-out sends one raster line through Flare marking to the output links. -/
  | lineScan (h : Fin 24) (markBad hatchBad : Bool)
  /-- ETH_FRAME_RECEIVE (R155): A MAC receives and timestamps a frame, which is dispatched by the first applicable row. -/
  | ethFrameReceive (mac : Fin 16) (f : EthFrame) (also : Option (Fin 16 × EthFrame))
  /-- SKEW_WINDOW_EXPIRY (R175): W after a frame's marker or a later timestamp arrived, an open frame closes. -/
  | skewWindowExpiry (c : Fin 1024)
  /-- CONTEXT_LOS_TIMEOUT (R171): No packet for LOS_MS puts a context in loss of signal and raises ING_LOS. -/
  | contextLosTimeout (c : Fin 1024)
  /-- MERGE_LEG_TIMEOUT (R182): No packet on a merge leg for LOS_MS reports leg down. -/
  | mergeLegTimeout (g : Fin 256) (leg : Fin 2)
  /-- SDI_TRS_LOSS_TIMEOUT (R171): No valid TRS for 1 ms puts an SDI context in loss of signal. -/
  | sdiTrsLossTimeout (i : Fin 16)
  /-- SDI_LINE_RECEIVE (R183): An SDI framer receives a line, checks its CRC and writes completed bands and headers. -/
  | sdiLineReceive (i : Fin 16) (line : SdiLine)
  /-- CSI_FRAME_START (R198): A frame-start short packet timestamps a new frame, takes an armed parameter set and opens a raw buffer. -/
  | csiFrameStart (port : Fin 8) (vc : Fin 4)
  /-- CSI_FRAME_END (R199): A frame-end packet closes the frame as complete, short or overlong. -/
  | csiFrameEnd (port : Fin 8) (vc : Fin 4)
  /-- CSI_LONG_PACKET (R200): A long packet is written as a line, padded, cut or discarded by its header, type, CRC and count. -/
  | csiLongPacket (port : Fin 8) (vc : Fin 4) (pkt : CsiLong)
  /-- CAM_LOS_TIMEOUT (R201): No frame start for LOS_MS, or no clock for 1 ms, puts a camera context in loss of signal. -/
  | camLosTimeout (c : Fin 16) (clockGone : Bool)
  /-- PIPE_FRAME_DONE (R206): A pipe finishes processing a frame, writes the surface header and statistics record. -/
  | pipeFrameDone (q : Fin 2) (residueBad : Bool)
  /-- PE_JOB_START (R233): A PE starts a queued CTU-row job once the row above has progressed far enough. -/
  | peJobStart (pe : Fin 32) (x : Nat)
  /-- JOB_COMPLETE (R232): A PE or EE job completes, freeing queue and ore-bin space for waiting work. -/
  | jobComplete (e : Engine) (bins : Nat) (row : DecRow)
  /-- JOB_RESIDUE_MISMATCH (R243): A residue or dual-coder mismatch abandons the row and retries it; a second declares the engine failed. -/
  | jobResidueMismatch (e : Engine) (also : Option Engine)
  /-- DEC_PICTURE_RELEASE (R254): A decoded picture is released at its output time with a new sequence and header. -/
  | decPictureRelease (n : Fin 128)
  /-- BUFFER_WAIT_END (R241): An owner waiting for an UNUSED reference buffer gets one when its marks clear. -/
  | bufferWaitEnd (n : Fin 144)
  /-- ENC_PICTURE_START (R275): At t_in(0) a channel takes a frame, sets the picture status, key decision and builds the liveness SEI. -/
  | encPictureStart (c : Fin 16) (ready : Bool) (pre : List Nat)
  /-- ENC_ROW_INPUT_DEADLINE (R278): At t_in(r) a row is dispatched with its QP, or coded as a fill row if its input is late. -/
  | encRowInputDeadline (c : Fin 16) (r : Nat) (told : Int)
  /-- ENC_ROW_OUTPUT (R284): At t_out(r) the cap bucket drains and admits the row or replaces it with a fill row, then packets leave. -/
  | encRowOutput (c : Fin 16) (row : RowCoded)
  /-- ENC_END_OF_BITSTREAM (R303): After an unbind, an end-of-bitstream packet is sent at the following t_out(0). -/
  | encEndOfBitstream (c : Fin 16)
  /-- DP_HPD_CHANGE (R361): A debounced HPD change is classified as plug, unplug or IRQ_HPD and handled. -/
  | dpHpdChange (d : Fin 16) (what : Fin 3) (sink : SinkCaps) (lostLock : Bool)
  /-- DP_LINK_TRAIN_DONE (R363): Link training ends at a rate or falls back, raising DP_LINK or DP_TRAIN_FAIL. -/
  | dpLinkTrainDone (d : Fin 16) (ok : Bool)
  /-- FLOW_PACKET_SEND (R368): An ST 2110-20 packet leaves at its scheduled time through its hardware guard. -/
  | flowPacketSend (f : Fin 48)
  /-- ENC_FLOW_PACKET_SEND (R372): An encoded-stream packet leaves through its SEND_KBPS guard. -/
  | encFlowPacketSend (c : Fin 16)
  /-- HOLD_MAX_EXPIRY (R376): The hold ends at the last boundary within HOLD_MAX and outputs switch to the hatch generator. -/
  | holdMaxExpiry (h : Fin 24)
  /-- PTP_MESSAGE_RECEIVE (R390): The management plane takes a PTP message, running BMCA and servo measurements. -/
  | ptpMessageReceive (p : Fin 17) (m : PtpMsg)
  /-- DELAY_REQ_SEND (R386): The SLAVE port sends a timestamped Delay_Req. -/
  | delayReqSend
  /-- ANNOUNCE_TIMEOUT (R392): Announce receipt timeout or 4 missing Syncs loses the master; servo to HOLDOVER. -/
  | announceTimeout (p : Fin 17)
  /-- SERVO_LOCK_DWELL_EXPIRY (R392): Offset within LOCK_NS for LOCK_S moves the servo to LOCKED. -/
  | servoLockDwellExpiry
  /-- PTP_STEP_APPLY (R394): A commanded step is applied at the step instant by every local copy and held times are adjusted. -/
  | ptpStepApply
  /-- REF_EDGE (R408): A phase reference edge measures the grid phase error. -/
  | refEdge (i : Fin 5)
  /-- REF_LOSS_DECLARED (R398): A missing or early edge declares a reference lost and removes its qualification. -/
  | refLossDeclared (i : Fin 5)
  /-- REF_FREQ_MEASURE (R399): Each second the DPLL measures every reference's frequency offset. -/
  | refFreqMeasure (ppb : List Int)
  /-- REF_QUALIFY_EXPIRY (R399): A reference free of loss within QUAL_PPB for QUAL_S becomes qualified. -/
  | refQualifyExpiry (i : Fin 5)
  /-- WTR_EXPIRY (R403): The wait-to-restore timer expires and the DPLL switches back to the manual reference. -/
  | wtrExpiry
  /-- DPLL_LOCK_ACHIEVED (R400): Phase or frequency error stays within limits for 1 s and the DPLL becomes LOCKED. -/
  | dpllLockAchieved
  /-- DPLL_LOCK_TIMEOUT (R400): A reference not locked within 20/B s loses qualification with lock timeout. -/
  | dpllLockTimeout
  /-- OSC_IN_LOSS (R380): Loss of OSC_IN is detected within 1 ms and escalated as unmasked. -/
  | oscInLoss
  /-- AUD_RATE_CLASS_CHANGE (R420): An input's measured rate changes class; MISMATCH state and AUD_RATE follow. -/
  | audRateClassChange (i : Fin 168) (mHz : Option Nat)
  /-- AUD_INPUT_SAMPLE (R430): An input sample is written to the slip FIFO, dropped if the fill exceeds 14. -/
  | audInputSample (i : Fin 168) (v : List Int)
  /-- AUD_HOUSE_SAMPLE (R430): At each house tick each output reads its slip FIFO and applies route changes and ramps. -/
  | audHouseSample
  /-- ZC_TIMEOUT (R431): No zero crossing within ZC_TIMEOUT_US starts a 32-sample ramp. -/
  | zcTimeout (o : Fin 168) (ch : Fin 64)
  /-- TDM_FRAME_RECEIVE (R423): A TDM frame delivers one sample per slot of each input port. -/
  | tdmFrameReceive (g : Fin 4) (slots : List (List Word))
  /-- AES3_FRAME_RECEIVE (R424): An AES3 frame is decoded for samples, parity, validity and channel-status blocks. -/
  | aes3FrameReceive (n : Fin 8) (a b : AudioWord)
  /-- AUD_RX_READ (R428): At its read time a sample is read from the jitter buffer, or read as 0 and counted lost. -/
  | audRxRead (r : Fin 128)
  /-- AUD_TX_PACKET_SEND (R429): At each packet-time boundary a send stream builds and sends one packet. -/
  | audTxPacketSend (t : Fin 128)
  /-- SCAN_FRAME_START (R441): A touch scan frame starts at t_k with listen, then acquisition. -/
  | scanFrameStart (f : Fin 2)
  /-- SCAN_FRAME_PROCESS (R443): After acquisition the front-end computes signals, tracks contacts, re-baselines and updates baselines. -/
  | scanFrameProcess (f : Fin 2) (raw noise : List (BitVec 16))
  /-- TOUCH_REPORT_WRITE (R456): A report with provenance is written once processing ends and the frame-on-glass record is final. -/
  | touchReportWrite (f : Fin 2)
  /-- DRAM_REFRESH (R469): A controller issues an all-bank refresh on its rota. -/
  | dramRefresh (c : Fin 32)
  /-- DRAM_RETRAIN_PAUSE (R471): A channel retrains after a refresh, or counts a failure and retries. -/
  | dramRetrainPause (c : Fin 32) (ok : Bool) (drift : Int) (pauseNs : Nat)
  /-- MR4_POLL (R470): Every 16 ms the controller reads MR4 and adjusts the refresh rate or escalates. -/
  | mr4Poll (c : Fin 32) (rate : Fin 4)
  /-- DRAM_PATROL_READ (R475): A controller patrols one ECC block, correcting or poisoning. -/
  | dramPatrolRead (c : Fin 32) (ce : Nat) (ue : List (Fin 7))
  /-- ARBITER_WINDOW_END (R476): A 1.024 us quota window ends and per-plane burst counts restart. -/
  | arbiterWindowEnd (c : Fin 32)
  /-- INTERCONNECT_REQUEST (R490): A master's request crosses the interconnect, split at 4 KiB and checked by the MPU. -/
  | interconnectRequest (a : MemAccess)
  /-- SRAM_PATROL (R480): An island patrol reads each array word once per 100 ms and corrects under R479. -/
  | sramPatrol (a : Fin 10) (island : Fin 41) (word inst : Nat) (found : Fin 3) (last : Bool)
  /-- ISLAND_CLEAR_DONE (R30): A powered-up island finishes clearing SRAM and begins accepting traffic. -/
  | islandClearDone (i : Fin 41)
  /-- CHK_RUN_END (R501): A check-value run ends with an end code and may escalate a mismatch. -/
  | chkRunEnd (u : Fin 8) (ue : Option Nat)
  /-- CHK_PERIOD_START (R503): A periodic check run starts its next run at its period boundary. -/
  | chkPeriodStart (u : Fin 8)
  /-- FAULT_RECORD_ARRIVE (R504): A fault record enters the fault log over the fault network. -/
  | faultRecordArrive (recs : List FaultIn)
  /-- DUTY_RELEASE (R508): The management plane releases duty within 1 ms of the first unmasked record. -/
  | dutyRelease
  /-- HW_DUTY_RELEASE (R509): Pair 3 lockstep, island-40 compare or watchdog releases duty in hardware within 10 us. -/
  | hwDutyRelease
  /-- ISLAND_LIVENESS_TIMEOUT (R507): A powered island silent for 3 ms is recorded as an ISLAND fault. -/
  | islandLivenessTimeout (i : Fin 41)
  /-- HEARTBEAT_WRITE (R510): A Lantern pair writes its heartbeat to the watchdog. -/
  | heartbeatWrite (p : Fin 4)
  /-- WATCHDOG_TIMEOUT (R510): A pair silent for 5 ms makes the watchdog release duty. -/
  | watchdogTimeout (p : Fin 4)
  /-- RESTART_GRACE_EXPIRY (R510): A control-plane restart lasting 2,000 ms counts as heartbeat loss of pair 0. -/
  | restartGraceExpiry
  /-- LOCKSTEP_MISMATCH (R511): A Lantern pair's checker finds a mismatch, stops both cores and records a fault. -/
  | lockstepMismatch (p : Fin 4)
  /-- DBG_AUTHENTICATE (R496): The TAP verifies the debugger's signature over its challenge and opens DBG to the interconnect. -/
  | dbgAuthenticate (challenge signature : List Byte)
  /-- SEAM_HEARTBEAT_SEND (R521): Each device sends a heartbeat record every 10 us. -/
  | seamHeartbeatSend
  /-- SEAM_HEARTBEAT_RECEIVE (R522): A partner heartbeat updates partner state, profile and grandmaster match. -/
  | seamHeartbeatReceive (w : SeamWire) (m : Heartbeat)
  /-- SEAM_DOWN_TIMEOUT (R521): No valid record for 100 us marks the Seam link down. -/
  | seamDownTimeout
  /-- LATCH_RECORD_RECEIVE (R532): The standby replaces its layer latches with the mirrored sequences. -/
  | latchRecordReceive (w : SeamWire) (h : Fin 24) (m : LatchRecord)
  /-- DECISION_RECORD_RECEIVE (R143): The standby receives the duty's glyph decisions for its marks. -/
  | decisionRecordReceive (w : SeamWire) (h : Fin 24) (l : Fin 8) (glyph checks frame : Nat)
  /-- FRAME_CRC_RECEIVE (R534): The standby compares the duty's frame CRC with its own. -/
  | frameCrcReceive (w : SeamWire) (h : Fin 24) (frame crc : Nat)
  /-- ENC_PICTURE_RECEIVE (R299): The standby applies the duty's take, status and key decisions. -/
  | encPictureReceive (w : SeamWire) (c : Fin 16) (m : EncMirror)
  /-- ENC_ROW_RECEIVE (R299): The standby receives the duty's row late flag, CRC and sequence numbers. -/
  | encRowReceive (w : SeamWire) (c : Fin 16) (m : EncRowMirror)
  /-- KEY_REQ_RECEIVE (R537): The duty latches a forwarded or pair-requested key picture, with hold-off. -/
  | keyReqReceive (w : SeamWire) (mask cause type : Nat)
  /-- GIVE_UP_RECEIVE (R527): A standby receiving GIVE_UP asserts DUTY_OUT within 100 us and takes duty. -/
  | giveUpReceive (w : SeamWire) (cause : Nat)
  /-- HANDOVER_RECEIVE (R530): The standby acknowledges a handover and prepares to assert DUTY_OUT at boundary k. -/
  | handoverReceive (w : SeamWire) (k : Nat)
  /-- HANDOVER_ACK_RECEIVE (R530): The duty notes the standby's acknowledgement of the handover. -/
  | handoverAckReceive (w : SeamWire) (k : Nat)
  /-- SNAPSHOT_REQUEST_RECEIVE (R539): The duty checks the profile CRC and sends a snapshot within 200 ms. -/
  | snapshotRequestReceive (w : SeamWire)
  /-- SNAPSHOT_RECEIVE (R539): A syncing device applies the snapshot and passes to STANDBY with channels SUPPRESSED. -/
  | snapshotReceive (w : SeamWire) (m : Snapshot)
  /-- DUTY_IN_CHANGE (R527): The DUTY_IN pin changes level. -/
  | dutyInChange (level : Bool)
  /-- DUTY_IN_LOSS_TIMEOUT (R527): DUTY_IN deasserted 1 ms with the partner not on duty makes the standby take duty. -/
  | dutyInLossTimeout
  /-- DUTY_WAIT_EXPIRY (R525): A syncing device with DUTY_IN low for DUTY_WAIT asserts DUTY_OUT. -/
  | dutyWaitExpiry
  /-- BOTH_DUTY_TIMEOUT (R529): Both devices on duty for 1 ms make PAIR_ID 1 yield within 19 ms. -/
  | bothDutyTimeout
  /-- DUTY_READBACK_MISMATCH (R543): DUTY_OUT read back differs from the command for 100 us, an unmasked fault. -/
  | dutyReadbackMismatch
  /-- PROFILE_DIFF_TIMEOUT (R531): Profile CRCs differing for more than 1 s raise PAIR_PROFILE_DIFF. -/
  | profileDiffTimeout
  /-- PORST_N_ASSERT (R549): PORST_N asserts, losing all state and floating outputs. -/
  | porstAssert
  /-- PORST_N_RELEASE (R565): PORST_N releases: straps sampled, PTP clock at 0, boot islands power up and the boot ROM starts. -/
  | porstRelease (pairId bootsel : Bool)
  /-- TRST_N_ASSERT (R549): TRST_N resets the TAP and ends DBG authentication. -/
  | trstAssert
  /-- RAIL_EXCURSION (R548): A rail outside 90 to 110 % for 10 us is recorded as a VOLTAGE fault. -/
  | railExcursion
  /-- AVS_MEASURE (R552): Every 100 us islands measure v_min and the set point is recomputed and written. -/
  | avsMeasure (i : Fin 41) (vminUv : Nat) (failing : Bool)
  /-- PMBUS_POLL (R553): Every 1 ms the AVS master reads voltage, current and status, recording faults. -/
  | pmbusPoll (ackV ackI ackS : Bool) (vout iout status : Nat) (alert : Bool)
  /-- DROOP_STRETCH (R555): A droop detector fires and the island clock stretches, or at a guarded limit a VOLTAGE fault is recorded. -/
  | droopStretch (i : Fin 41) (steps : Nat)
  /-- THERMAL_SENSOR_READ (R557): Every 100 us sensors are read for THERMAL faults and warnings. -/
  | thermalSensorRead (i : Fin 41) (c : Int)
  /-- LANE_PLL_UNLOCK (R572): A quad PLL unlocked for 10 us is recorded as a CLOCK fault. -/
  | lanePllUnlock (q : Fin 16) (video : Bool)
  /-- LANE_LOCK_CHANGE (R584): A lane loses or regains block, code or TRS lock, raising SL_LOCK. -/
  | laneLockChange (l : Fin 67) (locked : Bool) (code corrected uncorrectable : Nat)
  /-- ISLAND_CLOCK_LOSS (R512): The monitors in island 40 detect the loss of an island clock within 1 ms and record an unmasked fault of class CLOCK. -/
  | islandClockLoss (i : Fin 41)
  /-- FAULT_PORT_LIVENESS_RECORD (R507): Each island's fault port sends a liveness record on the fault network every 1 ms, which restarts that island's 3 ms silence timer. -/
  | faultPortLivenessRecord (i : Fin 41)
  /-- PRBS_CHECKER_LOCK_CHANGE (R585): A PRBS checker gains lock after 64 agreeing bits, or loses it at 32 errored bits in 1,024 and counts a relock. -/
  | prbsCheckerLockChange (l : Fin 67) (tail : List Bool) (errs : Nat)
  /-- AES3_LOCK_CHANGE (R424): An AES3 input's clock recovery gains or loses the biphase stream, changing AUD_STATUS.AES3_LOCK. -/
  | aes3LockChange (n : Fin 8) (locked : Bool)
  /-- ISLAND_POWER_OFF (R29): The island controller opens an island's power switch once every FIFO into and out of it is empty, and the island enters OFF. -/
  | islandPowerOff (i : Fin 41)
  /-- SNAPSHOT_RETRY (R539): After 3 failed snapshots, a syncing device requests the snapshot again once per second. -/
  | snapshotRetry
  /-- LATCH_WAIT_TIMEOUT (R532): 10 us after a boundary without an applied LATCH record, the standby starts fetching each layer from its own latch and counts a latch miss. -/
  | latchWaitTimeout (h : Fin 24)
  /-- EVIN_ACTION_PENDING_EXPIRY (R95): When an input's rate interval ends, such as 10 ms for PROFILE_SELECT, its pending coalesced action is carried out with the last activation. -/
  | evinActionPendingExpiry (n : Fin 8)
  /-- PULL_REST_TAKEN (R411): A head's pixel-clock pull ends in mid-frame once the remaining error has been taken up. -/
  | pullRestTaken (h : Fin 24)
  /-- CROSSING_REGISTER_READ (R617): A register read that crosses an 8-byte boundary returns all ones and is counted in HP_RD_BAD. -/
  | crossingRegisterRead (m : BusMaster) (addr len : Nat)
  /-- OFF_ISLAND_REGISTER_READ (R618): A host read of a block whose island is OFF or CLEARING is answered by the router with reset values and counted in DEV_RD_OFF. -/
  | offIslandRegisterRead (p : Port) (addr : Nat)
deriving DecidableEq, Repr

end Sys2Proof
end

