-- ==== Sys2Proof/Decode.lean ====
section
/-! DEFINITION. Words of the opcode table. Every row of spec/opcode_table.json has an empty list of fields: the table gives no row
any bits, so no word spells a command. Command packets reach the block as ring bytes and are decoded where they are fetched
(R54 to R60, Machine/Host.lean). -/

namespace Sys2Proof

/-- The command that a table word spells: none, since no row has bits. -/
def decodeTableWord (_nbits _w : Nat) : Option Instr := none

end Sys2Proof
end

