-- ==== Sys2Proof/Config.lean ====
section
/-! DEFINITION. What an implementation fixes and the spec leaves open: opaque constants with no body, so nothing can
be proved of their values. Each free value is one of these applied to a counter of State or to its operands. -/

namespace Sys2Proof.Config

/-- The die identifier, fused per die (R624). -/
opaque dieId : BitVec 64

/-- The grade of the part: false -C, true -I (R1). -/
opaque gradeI : Bool

/-- Release of the boot ROM (DEV_INFO): the spec gives no value. -/
opaque romVersion : BitVec 32

/-- Check 2 of R563 on a public key: its SHA-384 digest equals the digest in ROM, which is not published. -/
opaque keyInRom : List (BitVec 8) → Bool

/-- Check 3 of R563: a signature verifies as ECDSA P-384 with a public key over the SHA-384 digest of some bytes. -/
opaque signed : List (BitVec 8) → List (BitVec 8) → List (BitVec 8) → Bool

/-- A value that the spec leaves open, by the model's draw counter. -/
opaque freeWord : Nat → BitVec 64

/-- A sample that the spec leaves open, by a draw, a line and a place in it: what a buffer of DRAM holds before its first frame, a
line that a layer repeats where it has none, the filling of a slot behind its granules. -/
opaque freeSample : Nat → Nat → Nat → BitVec 16

/-- What the spec leaves open in the headers of a packet, by flow and sequence number: IPv4 identification, ECN and the don't-fragment
flag, and the UDP checksum (R367). -/
opaque ipOpen : Nat → Nat → BitVec 40

/-- Is pixel (x, y) of the 176 × 32 glyph box of a glyph code a foreground one: the on-die glyph ROM of R131. -/
opaque glyphRom : Nat → Nat → Nat → Bool

/-- Blanking lines above the least 3, and blanking pixels above the least 80, of a virtual head's raster, by width and
height: the spec gives only its active size and rate (ENC_CHANNEL). -/
opaque virtualBlank : Nat → Nat → BitVec 9 × BitVec 12

/-- clockIdentity of the device, which its Delay_Req carries and a Delay_Resp to it repeats (R385: the spec gives no value). -/
opaque clockId : Nat

/-- The servo's filtered offset in ns from its offset measurements, newest first, in 2^-16 ns (R391, R392: the filter is not
stated). -/
opaque servoFilter : List Int → Int

/-- RATE that the servo asks for, in 2^-48 ns per ns, from its measurements and the present RATE (R391). -/
opaque servoRate : List (Int × Int) → Int → Int

/-- RATE from the slope of the eight measurements of the first step (R390). -/
opaque servoSlope : List (Int × Int) → Int

/-- Control word that the DPLL's loop asks for, in 2^-48 ns per ns, from the reference's errors and the present word (R400). -/
opaque dpllRate : List Int → Int → Int

/-- Does the assembly window of a binding fit on chip, by the MAX_WIDTHs of the ST 2110-20 contexts in force and its own (R177,
R186): the window's size is not stated. -/
opaque windowFits : List Nat → Nat → Bool

/-- Rank of a direction (0 left, 1 right, 2 up, 3 down) among sites at the same distance from a defect (R212: the order is not stated). -/
opaque defectTie : Nat → BitVec 2

/-- The two hash functions of a Lode key: destination address and port, source address and SSRC, a wildcard as 0 (R161). -/
opaque lodeHash : Nat → Nat → Nat → Nat → BitVec 14 × BitVec 14

/-- Unaligned accesses that the firmware of a Lantern pair has made on its scratchpad by an instant (R481). -/
opaque scratchUnaligned : Nat → Nat → BitVec 32

/-- Longest wait of a Lantern pair's scratchpad DMA, in cycles, as read at an instant; of it modulo 33, for R482 bounds it by 32. -/
opaque scratchWait : Nat → Nat → Nat

/-- The (72,64) SECDED check byte of a 64-bit word (R466: the code is not stated). -/
opaque checkByte : BitVec 64 → BitVec 8

end Sys2Proof.Config
end

