-- ==== Sys2Proof/Machine/Bits.lean ====
section
/-! DEFINITION. Bit fields of register words (R8), little-endian byte packing (R9), the padding rule of R626 and
the two check values the spec defines: CRC-32C with a fold word (R59, R109, R110) and the CRC-8 of R105. -/

namespace Sys2Proof

/-- Bits hi:lo of a word, as a number (R8). -/
def Word.bits (v : Word) (hi lo : Nat) : Nat := v.toNat / 2 ^ lo % 2 ^ (hi - lo + 1)

/-- One bit of a word. -/
def Word.bit (v : Word) (i : Nat) : Bool := v.getLsbD i

/-- The word with bits hi:lo replaced by n, cut to the field (R8). -/
def Word.setBits (v : Word) (hi lo n : Nat) : Word :=
  let w := hi - lo + 1
  let mask : Word := BitVec.ofNat 32 ((2 ^ w - 1) * 2 ^ lo)
  (v &&& ~~~mask) ||| (BitVec.ofNat 32 (n * 2 ^ lo) &&& mask)

/-- The word of zeros. -/
def zeroWord : Word := 0#32

/-- A Boolean as a bit. -/
def bit01 (b : Bool) : Nat := if b then 1 else 0

/-- n as k little-endian bytes (R9). -/
def leBytes : Nat → Nat → List Byte
  | 0, _ => []
  | k + 1, n => BitVec.ofNat 8 n :: leBytes k (n / 256)

/-- The number that little-endian bytes spell (R9). -/
def leNat : List Byte → Nat
  | [] => 0
  | b :: bs => b.toNat + 256 * leNat bs

/-- The number that bytes in network order spell (R9's exception). -/
def beNat (bs : List Byte) : Nat := leNat bs.reverse

/-- n as k bytes in network order. -/
def beBytes (k n : Nat) : List Byte := (leBytes k n).reverse

/-- Bytes off to off+k-1 of a body as a little-endian number; bytes past the end count as 0. -/
def Body.le (b : Body) (off k : Nat) : Nat := leNat ((b.drop off).take k)

/-- Bytes off to off+k-1 in network order. -/
def Body.be (b : Body) (off k : Nat) : Nat := beNat ((b.drop off).take k)

/-- The byte at an offset. -/
def Body.u8 (b : Body) (off : Nat) : Nat := Body.le b off 1

/-- The 16-bit field at an offset. -/
def Body.u16 (b : Body) (off : Nat) : Nat := Body.le b off 2

/-- The 32-bit field at an offset. -/
def Body.u32 (b : Body) (off : Nat) : Nat := Body.le b off 4

/-- The 64-bit field at an offset. -/
def Body.u64 (b : Body) (off : Nat) : Nat := Body.le b off 8

/-- A k-byte field as two's complement (R623). -/
def toSigned (k n : Nat) : Int := if 2 * n < 256 ^ k then (n : Int) else (n : Int) - (256 ^ k : Nat)

/-- A signed k-byte field at an offset (R623). -/
def Body.sle (b : Body) (off k : Nat) : Int := toSigned k (Body.le b off k)

/-- The k-byte two's complement bytes of an integer. -/
def sleBytes (k : Nat) (i : Int) : List Byte := leBytes k (i % (256 ^ k : Nat)).toNat

/-- True when the k bytes at off are all 0 (a reserved field, R13). -/
def Body.zero (b : Body) (off k : Nat) : Bool := Body.le b off k == 0

/-- n rounded up to a multiple of 4 (R626). -/
def pad4 (n : Nat) : Nat := (n + 3) / 4 * 4

/-- n/d rounded up. -/
def ceilDiv (n d : Nat) : Nat := (n + d - 1) / d

/-- An integer cut to a range (R212's clipping). -/
def clampInt (lo hi : Int) (v : Int) : Int := max lo (min hi v)

/-- Round-half-up of n/d for d > 0. -/
def roundDiv (n : Int) (d : Nat) : Int := (2 * n + d) / (2 * d : Nat)

/-- One byte of the reflected CRC-32C of R59. -/
def crc32cBits : Nat → Word → Word
  | 0, c => c
  | k + 1, c => crc32cBits k (if c.getLsbD 0 then (c >>> 1) ^^^ 0x82F63B78#32 else c >>> 1)

/-- CRC-32C over bytes, from an initial register value, with the final XOR (R59). -/
def crc32cFrom (init : Word) (bs : List Byte) : Word :=
  (bs.foldl (fun c b => crc32cBits 8 (c ^^^ b.setWidth 32)) init) ^^^ 0xFFFFFFFF#32

/-- CRC-32C with a fold word XORed into the initial value (R59). -/
def crc32cFold (fold : Word) (bs : List Byte) : Word := crc32cFrom (0xFFFFFFFF#32 ^^^ fold) bs

/-- CRC-32C with nothing folded in (R109, PRF_LOAD's IMAGE_CRC). -/
def crc32c (bs : List Byte) : Word := crc32cFold 0#32 bs

/-- One byte of the CRC-8 of R105. -/
def crc8Bits : Nat → Byte → Byte
  | 0, c => c
  | k + 1, c => crc8Bits k (if c.getLsbD 7 then (c <<< 1) ^^^ 0x07#8 else c <<< 1)

/-- CRC-8 of R105: polynomial 0x07, initial value 0, no reflection, no final XOR. -/
def crc8 (bs : List Byte) : Byte := bs.foldl (fun c b => crc8Bits 8 (c ^^^ b)) 0#8

/-- The set bits of a mask below n, ascending. -/
def maskBits (m n : Nat) : List Nat := (List.range n).filter (fun i => m.testBit i)

/-- The mask whose set bits are the members of a list. -/
def bitsMask (l : List Nat) : Nat := l.foldl (fun m i => m ||| 2 ^ i) 0

/-- Bits of an LSB-first CRC with a reflected polynomial. -/
def crcLsbBits (poly : Nat) : Nat → Nat → Nat
  | 0, c => c
  | k + 1, c => crcLsbBits poly k (if c.testBit 0 then Nat.xor (c / 2) poly else c / 2)

/-- The frame check sequence that a MAC adds, as it is sent: CRC-32 of IEEE 802.3 (R168). -/
def fcs (bs : List Byte) : List Byte :=
  leBytes 4 (Nat.xor (bs.foldl (fun c b => crcLsbBits 0xEDB88320 8 (Nat.xor c b.toNat)) 0xFFFFFFFF) 0xFFFFFFFF)

end Sys2Proof
end

