-- ==== Sys2Proof/Machine/Reg.lean ====
section
/-! DEFINITION. The register map: every register of the spec's register tables by its own name, its block, its
offset, stride and member count, its access code (R12) and its reset value (R615, R616 and each block's table). -/

namespace Sys2Proof.Machine

/-- The register blocks of R615, by prefix. -/
inductive Block where
  | DEV | HP | SEM | PRF | EVI | CNY | ING | CAM | CF | DEC | ENC | LY | HD | TM | REF | AUD | TCH | DMC | SRM | MPU | CHK | FLT | PAIR | PWR | SL | LODE
deriving DecidableEq, Repr

/-- BAR2 base of a block window (R615). -/
def Block.base : Block → Nat
  | .DEV => 0x0
  | .HP => 0x10000
  | .SEM => 0x20000
  | .PRF => 0x30000
  | .EVI => 0x40000
  | .CNY => 0x100000
  | .ING => 0x110000
  | .CAM => 0x120000
  | .CF => 0x130000
  | .DEC => 0x140000
  | .ENC => 0x150000
  | .LY => 0x160000
  | .HD => 0x170000
  | .TM => 0x180000
  | .REF => 0x190000
  | .AUD => 0x1A0000
  | .TCH => 0x1B0000
  | .DMC => 0x1C0000
  | .SRM => 0x1D0000
  | .MPU => 0x1E0000
  | .CHK => 0x1F0000
  | .FLT => 0x200000
  | .PAIR => 0x210000
  | .PWR => 0x220000
  | .SL => 0x230000
  | .LODE => 0x400000

/-- Size of a block window (R615). -/
def Block.window : Block → Nat
  | .DEV => 0x1000
  | .HP => 0x2000
  | .SEM => 0x2000
  | .PRF => 0x1000
  | .EVI => 0x1000
  | .CNY => 0x2000
  | .ING => 0x10000
  | .CAM => 0x4000
  | .CF => 0x1000
  | .DEC => 0x2000
  | .ENC => 0x1000
  | .LY => 0x8000
  | .HD => 0x2000
  | .TM => 0x1000
  | .REF => 0x1000
  | .AUD => 0x2000
  | .TCH => 0x1000
  | .DMC => 0x1000
  | .SRM => 0x1000
  | .MPU => 0x8000
  | .CHK => 0x1000
  | .FLT => 0x4000
  | .PAIR => 0x1000
  | .PWR => 0x1000
  | .SL => 0x4000
  | .LODE => 0x400000

/-- The island that answers for a block (R615). -/
def Block.island : Block → Nat
  | .DEV => 36
  | .HP => 36
  | .SEM => 36
  | .PRF => 36
  | .EVI => 36
  | .CNY => 33
  | .ING => 19
  | .CAM => 25
  | .CF => 10
  | .DEC => 10
  | .ENC => 10
  | .LY => 27
  | .HD => 30
  | .TM => 37
  | .REF => 37
  | .AUD => 38
  | .TCH => 39
  | .DMC => 15
  | .SRM => 40
  | .MPU => 40
  | .CHK => 40
  | .FLT => 40
  | .PAIR => 40
  | .PWR => 40
  | .SL => 21
  | .LODE => 19

/-- The access codes of R12. -/
inductive Access where
  | RO | RW | W1C | WL | RC | WO
deriving DecidableEq, Repr

/-- The registers, by the names the spec gives them. -/
inductive Reg where
  | DEV_ID | DEV_UID_LO | DEV_UID_HI | DEV_PCI | DEV_BOOT | DEV_ROUTER | DEV_UNMAPPED | DEV_RD_OFF | DEV_SCRATCH 
  | HP_CMD_DB | HP_CMD_RD | HP_CTL | HP_STATUS | HP_EVT_BASE_LO | HP_EVT_BASE_HI | HP_EVT_SIZE | HP_EVT_WR 
  | HP_EVT_RD | HP_IRQ_MOD | HP_EVT_DROP | HP_BUSY_CNT | HP_CRC_CNT | HP_WR_DROP | HP_RD_BAD 
  | SEM_REQ | SEM_REL | SEM_HELD_LO | SEM_HELD_HI | SEM_OTHER_LO | SEM_OTHER_HI | SEM_RESULT | SEM_TIE 
  | PRF_STATE 
  | EVI_CFG | EVI_ARG | EVI_OVR | EVI_STAT 
  | CNY_CTL | CNY_LIM_BUDGET | CNY_LIM_MISC | CNY_LOCK_VIOL | CNY_LOCK_SEC | CNY_LOCK_NS | CNY_STYLE | CNY_FG 
  | CNY_BG | CNY_LSTAT | CNY_LAGE | CNY_LBUDGET | CNY_LWINDOW | CNY_EVALS | CNY_MARKED | CNY_DEADLINE | CNY_MISC 
  | ING_STATUS | ING_SAMPLE_CNT | ING_SAMPLE_DROP | ING_INJECT_CNT | ING_RING_WR | ING_RING_RD | ING_MAC_RX 
  | ING_MAC_FCS | ING_MAC_UNK | ING_MAC_MISDIR | ING_MAC_MALF | ING_MAC_OVR | ING_MG_DUP | ING_MG_LATE 
  | ING_MG_STAT | ING_CTX_STAT | ING_CTX_FRAMES | ING_CTX_CONCEALED | ING_CTX_WITHHELD | ING_CTX_LOST | ING_CTX_RATE 
  | ING_SDI_STAT | ING_SDI_CRC 
  | CAM_STATUS | CAM_STATS_WR | CAM_STATS_RD | CAM_STATS_DROP | CAM_PORT_STAT | CAM_PORT_HDR | CAM_PORT_CRC 
  | CAM_PORT_UNBOUND | CAM_CTX_STAT | CAM_CTX_FRAMES | CAM_CTX_WITHHELD | CAM_CTX_SUPERSEDED | CAM_CTX_OVERLONG 
  | CAM_CTX_LINE_ERR | CAM_CTX_QUEUE_US | CAM_CTX_FS_SEC | CAM_CTX_FS_NS | CAM_PIPE_STAT | CAM_PIPE_FRAMES 
  | CAM_PIPE_RETRY 
  | CF_STATUS | CF_JOBS_INFL | CF_JOBS_DRAM | CF_OREBIN_USE | CF_OREBIN_STALL | CF_RESERVE | CF_PE_STAT 
  | CF_PE_RETRY | CF_PE_JOBS | CF_EE_STAT | CF_EE_RETRY | CF_EE_MBINS 
  | DEC_STATUS | DEC_SESS_STAT | DEC_SESS_AU | DEC_SESS_PICS | DEC_SESS_CONCEALED | DEC_SESS_DISCARD | DEC_SESS_POOLWAIT 
  | DEC_SESS_HASH | DEC_SESS_LEVEL 
  | ENC_STATUS | ENC_STATS_WR | ENC_STATS_RD | ENC_STATS_DROP | ENC_CH_STAT | ENC_CH_PICS | ENC_CH_REPEAT 
  | ENC_CH_KEYS | ENC_CH_FILL | ENC_CH_LATE | ENC_CH_BUCKET | ENC_CH_MARGIN_US | ENC_CH_DELAY_NS | ENC_CH_KEY_OVR 
  | ENC_CH_MISMATCH | ENC_CH_POOLWAIT | ENC_CH_PAIR_DIV | ENC_CH_SKIPPED | ENC_CH_RTP 
  | LY_FLAT_USE | LY_FLAT_SPILL | LY_FLAT_INVAL | LY_STAT | LY_SRC | LY_ALLOC | LY_FETCH | LY_UMBRA | LY_UNDERRUN 
  | LY_GFX_STAT 
  | HD_OUT_STATUS | HD_HOLD_MAX | HD_STAT | HD_FRAME_LO | HD_FRAME_HI | HD_FLIP_SEC | HD_FLIP_NS | HD_LATE 
  | HD_PCLK | HD_CMP_STAT | HD_CMP_DISC | HD_CMP_BASE | HD_DP_STAT | HD_DP_HPD_CNT | HD_DP_RETRAIN | HD_SDI_STAT 
  | HD_SDI_FRAMES | HD_FLOW_STAT | HD_FLOW_PKTS | HD_FLOW_GUARD | HD_FLOW_SEQ | HD_EFLOW_STAT | HD_EFLOW_QUEUE 
  | HD_EFLOW_GUARD 
  | TM_STATUS | TM_TIME_NS | TM_TIME_SEC_LO | TM_TIME_SEC_HI | TM_TIME_FRAC | TM_RATE_LO | TM_RATE_HI | TM_OFFSET 
  | TM_MPD | TM_GM_ID_LO | TM_GM_ID_HI | TM_STEPS | TM_STEP_SEC | TM_STEP_NS | TM_STEP_AMT_LO | TM_STEP_AMT_HI 
  | TM_RATE_LIMIT | TM_PORT_STAT | TM_PORT_RX | TM_PORT_BAD | TM_PORT_ASYM 
  | REF_STATUS | REF_WTR_LEFT | REF_PHASE_OFS_LO | REF_PHASE_OFS_HI | REF_SWITCHES | REF_HO_ENTRIES | REF_LAST_STEP 
  | REF_DPLL_PPB | REF_DISAGREE_CNT | REF_CFG | REF_DELAY | REF_RATE | REF_MEAS | REF_PHASE_ERR | REF_LOSS 
  | REF_HEAD_ERR | REF_HEAD_ADJ 
  | AUD_STATUS | AUD_HOUSE_OFS | AUD_ZC_TIMEOUTS | AUD_CHANNELS | AUD_IN_STAT | AUD_IN_SLIP | AUD_IN_ERR 
  | AUD_IN_INVALID | AUD_RX_LOST | AUD_TX_PKTS 
  | TCH_STATUS | TCH_RING_WR | TCH_RING_RD | TCH_RING_DROP | TCH_FE_STAT | TCH_FE_FRAMES | TCH_FE_REPORTS 
  | TCH_FE_WITHHELD | TCH_FE_REBASE | TCH_FE_NOISE | TCH_FE_NOISE_CNT | TCH_FE_SUSPECT 
  | DMC_STATUS | DMC_ADDR_MIB | DMC_FREE_MIB | DMC_LARGEST_MIB | DMC_CH_HOT | DMC_CH_FAULT | DMC_SCRUB_PASS 
  | DMC_CH_STAT | DMC_CH_CE | DMC_CH_UE | DMC_CH_UE_ADDR | DMC_CH_REFRESH | DMC_CH_RETRAIN | DMC_CH_DRIFT 
  | DMC_CH_OVERQ | DMC_CH_MAXSTALL 
  | SRM_ARR_CE | SRM_ARR_UE | SRM_ARR_LAST | SRM_ARR_SCRUB | SRM_SCR_UNALIGNED | SRM_SCR_DMA_WAIT | SRM_CLEARS 
  | MPU_CTL | MPU_VIOL_CNT | MPU_LAST_INFO | MPU_LAST_ADDR_LO | MPU_LAST_ADDR_HI | MPU_ENT_BASE | MPU_ENT_LIMIT 
  | MPU_ENT_MASK_LO | MPU_ENT_MASK_HI | MPU_ENT_CTL | MPU_ENT_DENY | MPU_MASTER_VIOL 
  | CHK_STATUS | CHK_STAT | CHK_RESULT | CHK_EXPECT | CHK_ADDR_LO | CHK_ADDR_HI | CHK_LEN | CHK_RUNS | CHK_MISMATCH 
  | FLT_STATUS | FLT_COUNT | FLT_WR | FLT_WD | FLT_FIRST | FLT_ISL_MASKED | FLT_ISL_UNMASKED | FLT_ISL_LAST 
  | FLT_LOG 
  | PAIR_STATUS | PAIR_CFG | PAIR_SEAM_STAT | PAIR_SEAM_CRC | PAIR_TAKEOVERS | PAIR_HANDOVERS | PAIR_BOTH_DUTY 
  | PAIR_EVT_SEC | PAIR_EVT_NS | PAIR_AUD_MASK | PAIR_HEAD_STAT | PAIR_LATCH_MISS | PAIR_FCRC_DIFF | PAIR_GRID_ERR 
  | PWR_STATUS | PWR_VSET | PWR_VREAD | PWR_IREAD | PWR_TJ | PWR_THERM_WARN | PWR_PMB_ERR | PWR_ISL_STAT 
  | PWR_ISL_STRETCH | PWR_ISL_DROOP | PWR_ISL_TEMP 
  | SL_STATUS | SL_QUAD_STAT | SL_LANE_STAT | SL_LANE_ERR | SL_LANE_FEC | SL_LANE_LOCKLOSS | SL_PRBS_BITS_LO 
  | SL_PRBS_BITS_HI | SL_PRBS_ERR | SL_PRBS_STAT 
  | LODE_COUNT | LODE_UPDATES | LODE_OVERRATE | LODE_PLACE_FAIL | LODE_HITS | LODE_ENTRY 
deriving DecidableEq, Repr

/-- What the spec's register tables say of a register. -/
structure RegInfo where
  /-- its block -/
  block : Block
  /-- offset of member 0 in the block window -/
  off : Nat
  /-- distance between members of an array; 0 for a single register -/
  stride : Nat
  /-- number of members -/
  count : Nat
  /-- access code -/
  acc : Access
  /-- reset value of every member -/
  reset : Word
deriving DecidableEq, Repr

/-- The register tables of the spec, row by row. LODE_ENTRY and FLT_LOG (256 bits a member) are kept as typed
tables of State and read through their own layouts; their rows here give their place in the window. The
reset values that depend on the die, the straps or the island (DEV_ID, DEV_UID, DEV_BOOT, PAIR_STATUS,
PWR_ISL_STAT, REF_CFG) are made by State's reading of those registers. -/
def Reg.info : Reg → RegInfo
  | .DEV_ID => ⟨.DEV, 0x0, 0x0, 1, .RO, 0x9640A000#32⟩
  | .DEV_UID_LO => ⟨.DEV, 0x4, 0x0, 1, .RO, 0x00000000#32⟩
  | .DEV_UID_HI => ⟨.DEV, 0x8, 0x0, 1, .RO, 0x00000000#32⟩
  | .DEV_PCI => ⟨.DEV, 0xC, 0x0, 1, .RO, 0x96401D7B#32⟩
  | .DEV_BOOT => ⟨.DEV, 0x10, 0x0, 1, .RO, 0x00000000#32⟩
  | .DEV_ROUTER => ⟨.DEV, 0x14, 0x0, 1, .RO, 0x00000000#32⟩
  | .DEV_UNMAPPED => ⟨.DEV, 0x18, 0x0, 1, .RC, 0x00000000#32⟩
  | .DEV_RD_OFF => ⟨.DEV, 0x1C, 0x0, 1, .RC, 0x00000000#32⟩
  | .DEV_SCRATCH => ⟨.DEV, 0x20, 0x4, 2, .RW, 0x00000000#32⟩
  | .HP_CMD_DB => ⟨.HP, 0x0, 0x1000, 2, .WO, 0x00000000#32⟩
  | .HP_CMD_RD => ⟨.HP, 0x4, 0x1000, 2, .RO, 0x00000000#32⟩
  | .HP_CTL => ⟨.HP, 0x8, 0x1000, 2, .RW, 0x00000000#32⟩
  | .HP_STATUS => ⟨.HP, 0xC, 0x1000, 2, .RO, 0x00000800#32⟩
  | .HP_EVT_BASE_LO => ⟨.HP, 0x10, 0x1000, 2, .RW, 0x00000000#32⟩
  | .HP_EVT_BASE_HI => ⟨.HP, 0x14, 0x1000, 2, .RW, 0x00000000#32⟩
  | .HP_EVT_SIZE => ⟨.HP, 0x18, 0x1000, 2, .RW, 0x0000000A#32⟩
  | .HP_EVT_WR => ⟨.HP, 0x1C, 0x1000, 2, .RO, 0x00000000#32⟩
  | .HP_EVT_RD => ⟨.HP, 0x20, 0x1000, 2, .RW, 0x00000000#32⟩
  | .HP_IRQ_MOD => ⟨.HP, 0x24, 0x1000, 2, .RW, 0x00000000#32⟩
  | .HP_EVT_DROP => ⟨.HP, 0x28, 0x1000, 2, .RC, 0x00000000#32⟩
  | .HP_BUSY_CNT => ⟨.HP, 0x2C, 0x1000, 2, .RC, 0x00000000#32⟩
  | .HP_CRC_CNT => ⟨.HP, 0x30, 0x1000, 2, .RC, 0x00000000#32⟩
  | .HP_WR_DROP => ⟨.HP, 0x34, 0x1000, 2, .RC, 0x00000000#32⟩
  | .HP_RD_BAD => ⟨.HP, 0x38, 0x1000, 2, .RC, 0x00000000#32⟩
  | .SEM_REQ => ⟨.SEM, 0x0, 0x1000, 2, .WO, 0x00000000#32⟩
  | .SEM_REL => ⟨.SEM, 0x4, 0x1000, 2, .WO, 0x00000000#32⟩
  | .SEM_HELD_LO => ⟨.SEM, 0x8, 0x1000, 2, .RO, 0x00000000#32⟩
  | .SEM_HELD_HI => ⟨.SEM, 0xC, 0x1000, 2, .RO, 0x00000000#32⟩
  | .SEM_OTHER_LO => ⟨.SEM, 0x10, 0x1000, 2, .RO, 0x00000000#32⟩
  | .SEM_OTHER_HI => ⟨.SEM, 0x14, 0x1000, 2, .RO, 0x00000000#32⟩
  | .SEM_RESULT => ⟨.SEM, 0x18, 0x1000, 2, .RO, 0x00000000#32⟩
  | .SEM_TIE => ⟨.SEM, 0x1C, 0x1000, 2, .RO, 0x00000000#32⟩
  | .PRF_STATE => ⟨.PRF, 0x0, 0x0, 1, .RO, 0x00000040#32⟩
  | .EVI_CFG => ⟨.EVI, 0x100, 0x10, 8, .RO, 0x00000000#32⟩
  | .EVI_ARG => ⟨.EVI, 0x104, 0x10, 8, .RO, 0x00000000#32⟩
  | .EVI_OVR => ⟨.EVI, 0x108, 0x10, 8, .RC, 0x00000000#32⟩
  | .EVI_STAT => ⟨.EVI, 0x10C, 0x10, 8, .RO, 0x00000000#32⟩
  | .CNY_CTL => ⟨.CNY, 0x0, 0x0, 1, .RO, 0x00000000#32⟩
  | .CNY_LIM_BUDGET => ⟨.CNY, 0x4, 0x0, 1, .WL, 0x001E8480#32⟩
  | .CNY_LIM_MISC => ⟨.CNY, 0x8, 0x0, 1, .WL, 0x0008EA60#32⟩
  | .CNY_LOCK_VIOL => ⟨.CNY, 0xC, 0x0, 1, .RC, 0x00000000#32⟩
  | .CNY_LOCK_SEC => ⟨.CNY, 0x10, 0x0, 1, .RO, 0x00000000#32⟩
  | .CNY_LOCK_NS => ⟨.CNY, 0x14, 0x0, 1, .RO, 0x00000000#32⟩
  | .CNY_STYLE => ⟨.CNY, 0x100, 0x10, 24, .WL, 0x00000820#32⟩
  | .CNY_FG => ⟨.CNY, 0x104, 0x10, 24, .WL, 0x320C8000#32⟩
  | .CNY_BG => ⟨.CNY, 0x108, 0x10, 24, .WL, 0x00000000#32⟩
  | .CNY_LSTAT => ⟨.CNY, 0x400, 0x10, 192, .RO, 0x00000000#32⟩
  | .CNY_LAGE => ⟨.CNY, 0x404, 0x10, 192, .RO, 0xFFFFFFFF#32⟩
  | .CNY_LBUDGET => ⟨.CNY, 0x408, 0x10, 192, .RO, 0x00000000#32⟩
  | .CNY_LWINDOW => ⟨.CNY, 0x40C, 0x10, 192, .RO, 0x00000000#32⟩
  | .CNY_EVALS => ⟨.CNY, 0x1000, 0x10, 24, .RO, 0x00000000#32⟩
  | .CNY_MARKED => ⟨.CNY, 0x1004, 0x10, 24, .RC, 0x00000000#32⟩
  | .CNY_DEADLINE => ⟨.CNY, 0x1008, 0x10, 24, .RC, 0x00000000#32⟩
  | .CNY_MISC => ⟨.CNY, 0x100C, 0x10, 24, .RC, 0x00000000#32⟩
  | .ING_STATUS => ⟨.ING, 0x0, 0x0, 1, .RO, 0x00000000#32⟩
  | .ING_SAMPLE_CNT => ⟨.ING, 0x4, 0x0, 1, .RC, 0x00000000#32⟩
  | .ING_SAMPLE_DROP => ⟨.ING, 0x8, 0x0, 1, .RC, 0x00000000#32⟩
  | .ING_INJECT_CNT => ⟨.ING, 0xC, 0x0, 1, .RC, 0x00000000#32⟩
  | .ING_RING_WR => ⟨.ING, 0x10, 0x8, 2, .RO, 0x00000000#32⟩
  | .ING_RING_RD => ⟨.ING, 0x14, 0x8, 2, .RW, 0x00000000#32⟩
  | .ING_MAC_RX => ⟨.ING, 0x100, 0x20, 16, .RO, 0x00000000#32⟩
  | .ING_MAC_FCS => ⟨.ING, 0x104, 0x20, 16, .RC, 0x00000000#32⟩
  | .ING_MAC_UNK => ⟨.ING, 0x108, 0x20, 16, .RC, 0x00000000#32⟩
  | .ING_MAC_MISDIR => ⟨.ING, 0x10C, 0x20, 16, .RC, 0x00000000#32⟩
  | .ING_MAC_MALF => ⟨.ING, 0x110, 0x20, 16, .RC, 0x00000000#32⟩
  | .ING_MAC_OVR => ⟨.ING, 0x114, 0x20, 16, .RC, 0x00000000#32⟩
  | .ING_MG_DUP => ⟨.ING, 0x1000, 0x10, 256, .RO, 0x00000000#32⟩
  | .ING_MG_LATE => ⟨.ING, 0x1004, 0x10, 256, .RC, 0x00000000#32⟩
  | .ING_MG_STAT => ⟨.ING, 0x1008, 0x10, 256, .RO, 0x00000000#32⟩
  | .ING_CTX_STAT => ⟨.ING, 0x4000, 0x20, 1024, .RO, 0x00000000#32⟩
  | .ING_CTX_FRAMES => ⟨.ING, 0x4004, 0x20, 1024, .RO, 0x00000000#32⟩
  | .ING_CTX_CONCEALED => ⟨.ING, 0x4008, 0x20, 1024, .RC, 0x00000000#32⟩
  | .ING_CTX_WITHHELD => ⟨.ING, 0x400C, 0x20, 1024, .RC, 0x00000000#32⟩
  | .ING_CTX_LOST => ⟨.ING, 0x4010, 0x20, 1024, .RC, 0x00000000#32⟩
  | .ING_CTX_RATE => ⟨.ING, 0x4014, 0x20, 1024, .RC, 0x00000000#32⟩
  | .ING_SDI_STAT => ⟨.ING, 0xC000, 0x10, 16, .RO, 0x00000000#32⟩
  | .ING_SDI_CRC => ⟨.ING, 0xC004, 0x10, 16, .RC, 0x00000000#32⟩
  | .CAM_STATUS => ⟨.CAM, 0x0, 0x0, 1, .RO, 0x00000000#32⟩
  | .CAM_STATS_WR => ⟨.CAM, 0x4, 0x0, 1, .RO, 0x00000000#32⟩
  | .CAM_STATS_RD => ⟨.CAM, 0x8, 0x0, 1, .RW, 0x00000000#32⟩
  | .CAM_STATS_DROP => ⟨.CAM, 0xC, 0x0, 1, .RC, 0x00000000#32⟩
  | .CAM_PORT_STAT => ⟨.CAM, 0x100, 0x20, 8, .RO, 0x00000000#32⟩
  | .CAM_PORT_HDR => ⟨.CAM, 0x104, 0x20, 8, .RC, 0x00000000#32⟩
  | .CAM_PORT_CRC => ⟨.CAM, 0x108, 0x20, 8, .RC, 0x00000000#32⟩
  | .CAM_PORT_UNBOUND => ⟨.CAM, 0x10C, 0x20, 8, .RC, 0x00000000#32⟩
  | .CAM_CTX_STAT => ⟨.CAM, 0x1000, 0x40, 16, .RO, 0x00000000#32⟩
  | .CAM_CTX_FRAMES => ⟨.CAM, 0x1004, 0x40, 16, .RO, 0x00000000#32⟩
  | .CAM_CTX_WITHHELD => ⟨.CAM, 0x1008, 0x40, 16, .RC, 0x00000000#32⟩
  | .CAM_CTX_SUPERSEDED => ⟨.CAM, 0x100C, 0x40, 16, .RC, 0x00000000#32⟩
  | .CAM_CTX_OVERLONG => ⟨.CAM, 0x1010, 0x40, 16, .RC, 0x00000000#32⟩
  | .CAM_CTX_LINE_ERR => ⟨.CAM, 0x1014, 0x40, 16, .RC, 0x00000000#32⟩
  | .CAM_CTX_QUEUE_US => ⟨.CAM, 0x1018, 0x40, 16, .RO, 0x00000000#32⟩
  | .CAM_CTX_FS_SEC => ⟨.CAM, 0x101C, 0x40, 16, .RO, 0x00000000#32⟩
  | .CAM_CTX_FS_NS => ⟨.CAM, 0x1020, 0x40, 16, .RO, 0x00000000#32⟩
  | .CAM_PIPE_STAT => ⟨.CAM, 0x2000, 0x10, 2, .RO, 0x00000000#32⟩
  | .CAM_PIPE_FRAMES => ⟨.CAM, 0x2004, 0x10, 2, .RO, 0x00000000#32⟩
  | .CAM_PIPE_RETRY => ⟨.CAM, 0x2008, 0x10, 2, .RC, 0x00000000#32⟩
  | .CF_STATUS => ⟨.CF, 0x0, 0x0, 1, .RO, 0x00000000#32⟩
  | .CF_JOBS_INFL => ⟨.CF, 0x4, 0x0, 1, .RO, 0x00000000#32⟩
  | .CF_JOBS_DRAM => ⟨.CF, 0x8, 0x0, 1, .RO, 0x00000000#32⟩
  | .CF_OREBIN_USE => ⟨.CF, 0xC, 0x0, 1, .RO, 0x00000000#32⟩
  | .CF_OREBIN_STALL => ⟨.CF, 0x10, 0x0, 1, .RC, 0x00000000#32⟩
  | .CF_RESERVE => ⟨.CF, 0x14, 0x0, 1, .RO, 0x00000000#32⟩
  | .CF_PE_STAT => ⟨.CF, 0x100, 0x10, 32, .RO, 0x00000000#32⟩
  | .CF_PE_RETRY => ⟨.CF, 0x104, 0x10, 32, .RC, 0x00000000#32⟩
  | .CF_PE_JOBS => ⟨.CF, 0x108, 0x10, 32, .RO, 0x00000000#32⟩
  | .CF_EE_STAT => ⟨.CF, 0x400, 0x10, 8, .RO, 0x00000000#32⟩
  | .CF_EE_RETRY => ⟨.CF, 0x404, 0x10, 8, .RC, 0x00000000#32⟩
  | .CF_EE_MBINS => ⟨.CF, 0x408, 0x10, 8, .RO, 0x00000000#32⟩
  | .DEC_STATUS => ⟨.DEC, 0x0, 0x0, 1, .RO, 0x00000000#32⟩
  | .DEC_SESS_STAT => ⟨.DEC, 0x1000, 0x20, 128, .RO, 0x00000000#32⟩
  | .DEC_SESS_AU => ⟨.DEC, 0x1004, 0x20, 128, .RO, 0x00000000#32⟩
  | .DEC_SESS_PICS => ⟨.DEC, 0x1008, 0x20, 128, .RO, 0x00000000#32⟩
  | .DEC_SESS_CONCEALED => ⟨.DEC, 0x100C, 0x20, 128, .RC, 0x00000000#32⟩
  | .DEC_SESS_DISCARD => ⟨.DEC, 0x1010, 0x20, 128, .RC, 0x00000000#32⟩
  | .DEC_SESS_POOLWAIT => ⟨.DEC, 0x1014, 0x20, 128, .RC, 0x00000000#32⟩
  | .DEC_SESS_HASH => ⟨.DEC, 0x1018, 0x20, 128, .RC, 0x00000000#32⟩
  | .DEC_SESS_LEVEL => ⟨.DEC, 0x101C, 0x20, 128, .RO, 0x00000000#32⟩
  | .ENC_STATUS => ⟨.ENC, 0x0, 0x0, 1, .RO, 0x00000000#32⟩
  | .ENC_STATS_WR => ⟨.ENC, 0x4, 0x0, 1, .RO, 0x00000000#32⟩
  | .ENC_STATS_RD => ⟨.ENC, 0x8, 0x0, 1, .RW, 0x00000000#32⟩
  | .ENC_STATS_DROP => ⟨.ENC, 0xC, 0x0, 1, .RC, 0x00000000#32⟩
  | .ENC_CH_STAT => ⟨.ENC, 0x100, 0x40, 16, .RO, 0x00000000#32⟩
  | .ENC_CH_PICS => ⟨.ENC, 0x104, 0x40, 16, .RO, 0x00000000#32⟩
  | .ENC_CH_REPEAT => ⟨.ENC, 0x108, 0x40, 16, .RC, 0x00000000#32⟩
  | .ENC_CH_KEYS => ⟨.ENC, 0x10C, 0x40, 16, .RO, 0x00000000#32⟩
  | .ENC_CH_FILL => ⟨.ENC, 0x110, 0x40, 16, .RC, 0x00000000#32⟩
  | .ENC_CH_LATE => ⟨.ENC, 0x114, 0x40, 16, .RC, 0x00000000#32⟩
  | .ENC_CH_BUCKET => ⟨.ENC, 0x118, 0x40, 16, .RO, 0x00000000#32⟩
  | .ENC_CH_MARGIN_US => ⟨.ENC, 0x11C, 0x40, 16, .RO, 0x00000000#32⟩
  | .ENC_CH_DELAY_NS => ⟨.ENC, 0x120, 0x40, 16, .RO, 0x00000000#32⟩
  | .ENC_CH_KEY_OVR => ⟨.ENC, 0x124, 0x40, 16, .RC, 0x00000000#32⟩
  | .ENC_CH_MISMATCH => ⟨.ENC, 0x128, 0x40, 16, .RC, 0x00000000#32⟩
  | .ENC_CH_POOLWAIT => ⟨.ENC, 0x12C, 0x40, 16, .RC, 0x00000000#32⟩
  | .ENC_CH_PAIR_DIV => ⟨.ENC, 0x130, 0x40, 16, .RC, 0x00000000#32⟩
  | .ENC_CH_SKIPPED => ⟨.ENC, 0x134, 0x40, 16, .RC, 0x00000000#32⟩
  | .ENC_CH_RTP => ⟨.ENC, 0x138, 0x40, 16, .RO, 0x00000000#32⟩
  | .LY_FLAT_USE => ⟨.LY, 0x0, 0x0, 1, .RO, 0x00000000#32⟩
  | .LY_FLAT_SPILL => ⟨.LY, 0x4, 0x0, 1, .RC, 0x00000000#32⟩
  | .LY_FLAT_INVAL => ⟨.LY, 0x8, 0x0, 1, .RO, 0x00000000#32⟩
  | .LY_STAT => ⟨.LY, 0x1000, 0x20, 192, .RO, 0x00000000#32⟩
  | .LY_SRC => ⟨.LY, 0x1004, 0x20, 192, .RO, 0x00000000#32⟩
  | .LY_ALLOC => ⟨.LY, 0x1008, 0x20, 192, .RO, 0x00000000#32⟩
  | .LY_FETCH => ⟨.LY, 0x100C, 0x20, 192, .RO, 0x00000000#32⟩
  | .LY_UMBRA => ⟨.LY, 0x1010, 0x20, 192, .RO, 0x00000000#32⟩
  | .LY_UNDERRUN => ⟨.LY, 0x1014, 0x20, 192, .RC, 0x00000000#32⟩
  | .LY_GFX_STAT => ⟨.LY, 0x4000, 0x10, 256, .RO, 0x00000000#32⟩
  | .HD_OUT_STATUS => ⟨.HD, 0x0, 0x0, 1, .RO, 0x00000000#32⟩
  | .HD_HOLD_MAX => ⟨.HD, 0x4, 0x0, 1, .RO, 0x000000C8#32⟩
  | .HD_STAT => ⟨.HD, 0x100, 0x20, 24, .RO, 0x00000000#32⟩
  | .HD_FRAME_LO => ⟨.HD, 0x104, 0x20, 24, .RO, 0x00000000#32⟩
  | .HD_FRAME_HI => ⟨.HD, 0x108, 0x20, 24, .RO, 0x00000000#32⟩
  | .HD_FLIP_SEC => ⟨.HD, 0x10C, 0x20, 24, .RO, 0x00000000#32⟩
  | .HD_FLIP_NS => ⟨.HD, 0x110, 0x20, 24, .RO, 0x00000000#32⟩
  | .HD_LATE => ⟨.HD, 0x114, 0x20, 24, .RC, 0x00000000#32⟩
  | .HD_PCLK => ⟨.HD, 0x118, 0x20, 24, .RO, 0x00000000#32⟩
  | .HD_CMP_STAT => ⟨.HD, 0x800, 0x10, 24, .RO, 0x00000000#32⟩
  | .HD_CMP_DISC => ⟨.HD, 0x804, 0x10, 24, .RC, 0x00000000#32⟩
  | .HD_CMP_BASE => ⟨.HD, 0x808, 0x10, 24, .RO, 0x00000000#32⟩
  | .HD_DP_STAT => ⟨.HD, 0xA00, 0x20, 16, .RO, 0x00F00000#32⟩
  | .HD_DP_HPD_CNT => ⟨.HD, 0xA04, 0x20, 16, .RC, 0x00000000#32⟩
  | .HD_DP_RETRAIN => ⟨.HD, 0xA08, 0x20, 16, .RC, 0x00000000#32⟩
  | .HD_SDI_STAT => ⟨.HD, 0xC00, 0x10, 16, .RO, 0x00000000#32⟩
  | .HD_SDI_FRAMES => ⟨.HD, 0xC04, 0x10, 16, .RO, 0x00000000#32⟩
  | .HD_FLOW_STAT => ⟨.HD, 0x1000, 0x20, 48, .RO, 0x00000000#32⟩
  | .HD_FLOW_PKTS => ⟨.HD, 0x1004, 0x20, 48, .RO, 0x00000000#32⟩
  | .HD_FLOW_GUARD => ⟨.HD, 0x1008, 0x20, 48, .RC, 0x00000000#32⟩
  | .HD_FLOW_SEQ => ⟨.HD, 0x100C, 0x20, 48, .RO, 0x00000000#32⟩
  | .HD_EFLOW_STAT => ⟨.HD, 0x1800, 0x10, 16, .RO, 0x00000000#32⟩
  | .HD_EFLOW_QUEUE => ⟨.HD, 0x1804, 0x10, 16, .RO, 0x00000000#32⟩
  | .HD_EFLOW_GUARD => ⟨.HD, 0x1808, 0x10, 16, .RC, 0x00000000#32⟩
  | .TM_STATUS => ⟨.TM, 0x0, 0x0, 1, .RO, 0x87C07F00#32⟩
  | .TM_TIME_NS => ⟨.TM, 0x4, 0x0, 1, .RO, 0x00000000#32⟩
  | .TM_TIME_SEC_LO => ⟨.TM, 0x8, 0x0, 1, .RO, 0x00000000#32⟩
  | .TM_TIME_SEC_HI => ⟨.TM, 0xC, 0x0, 1, .RO, 0x00000000#32⟩
  | .TM_TIME_FRAC => ⟨.TM, 0x10, 0x0, 1, .RO, 0x00000000#32⟩
  | .TM_RATE_LO => ⟨.TM, 0x14, 0x0, 1, .RO, 0x00000000#32⟩
  | .TM_RATE_HI => ⟨.TM, 0x18, 0x0, 1, .RO, 0x00000000#32⟩
  | .TM_OFFSET => ⟨.TM, 0x1C, 0x0, 1, .RO, 0x00000000#32⟩
  | .TM_MPD => ⟨.TM, 0x20, 0x0, 1, .RO, 0x00000000#32⟩
  | .TM_GM_ID_LO => ⟨.TM, 0x24, 0x0, 1, .RO, 0x00000000#32⟩
  | .TM_GM_ID_HI => ⟨.TM, 0x28, 0x0, 1, .RO, 0x00000000#32⟩
  | .TM_STEPS => ⟨.TM, 0x2C, 0x0, 1, .RO, 0x00000000#32⟩
  | .TM_STEP_SEC => ⟨.TM, 0x30, 0x0, 1, .RO, 0x00000000#32⟩
  | .TM_STEP_NS => ⟨.TM, 0x34, 0x0, 1, .RO, 0x00000000#32⟩
  | .TM_STEP_AMT_LO => ⟨.TM, 0x38, 0x0, 1, .RO, 0x00000000#32⟩
  | .TM_STEP_AMT_HI => ⟨.TM, 0x3C, 0x0, 1, .RO, 0x00000000#32⟩
  | .TM_RATE_LIMIT => ⟨.TM, 0x40, 0x0, 1, .RC, 0x00000000#32⟩
  | .TM_PORT_STAT => ⟨.TM, 0x100, 0x10, 17, .RO, 0x00300000#32⟩
  | .TM_PORT_RX => ⟨.TM, 0x104, 0x10, 17, .RO, 0x00000000#32⟩
  | .TM_PORT_BAD => ⟨.TM, 0x108, 0x10, 17, .RC, 0x00000000#32⟩
  | .TM_PORT_ASYM => ⟨.TM, 0x10C, 0x10, 17, .RO, 0x00000000#32⟩
  | .REF_STATUS => ⟨.REF, 0x0, 0x0, 1, .RO, 0x3F000000#32⟩
  | .REF_WTR_LEFT => ⟨.REF, 0x4, 0x0, 1, .RO, 0x00000000#32⟩
  | .REF_PHASE_OFS_LO => ⟨.REF, 0x8, 0x0, 1, .RO, 0x00000000#32⟩
  | .REF_PHASE_OFS_HI => ⟨.REF, 0xC, 0x0, 1, .RO, 0x00000000#32⟩
  | .REF_SWITCHES => ⟨.REF, 0x10, 0x0, 1, .RO, 0x00000000#32⟩
  | .REF_HO_ENTRIES => ⟨.REF, 0x14, 0x0, 1, .RO, 0x00000000#32⟩
  | .REF_LAST_STEP => ⟨.REF, 0x18, 0x0, 1, .RO, 0x00000000#32⟩
  | .REF_DPLL_PPB => ⟨.REF, 0x1C, 0x0, 1, .RO, 0x00000000#32⟩
  | .REF_DISAGREE_CNT => ⟨.REF, 0x20, 0x0, 1, .RC, 0x00000000#32⟩
  | .REF_CFG => ⟨.REF, 0x100, 0x20, 5, .RO, 0x00000000#32⟩
  | .REF_DELAY => ⟨.REF, 0x104, 0x20, 5, .RO, 0x00000000#32⟩
  | .REF_RATE => ⟨.REF, 0x108, 0x20, 5, .RO, 0x00000000#32⟩
  | .REF_MEAS => ⟨.REF, 0x10C, 0x20, 5, .RO, 0x00000000#32⟩
  | .REF_PHASE_ERR => ⟨.REF, 0x110, 0x20, 5, .RO, 0x00000000#32⟩
  | .REF_LOSS => ⟨.REF, 0x114, 0x20, 5, .RC, 0x00000000#32⟩
  | .REF_HEAD_ERR => ⟨.REF, 0x400, 0x10, 24, .RO, 0x00000000#32⟩
  | .REF_HEAD_ADJ => ⟨.REF, 0x404, 0x10, 24, .RC, 0x00000000#32⟩
  | .AUD_STATUS => ⟨.AUD, 0x0, 0x0, 1, .RO, 0x00000000#32⟩
  | .AUD_HOUSE_OFS => ⟨.AUD, 0x4, 0x0, 1, .RO, 0x00000000#32⟩
  | .AUD_ZC_TIMEOUTS => ⟨.AUD, 0x8, 0x0, 1, .RC, 0x00000000#32⟩
  | .AUD_CHANNELS => ⟨.AUD, 0xC, 0x0, 1, .RO, 0x00000000#32⟩
  | .AUD_IN_STAT => ⟨.AUD, 0x100, 0x10, 168, .RO, 0x00000000#32⟩
  | .AUD_IN_SLIP => ⟨.AUD, 0x104, 0x10, 168, .RC, 0x00000000#32⟩
  | .AUD_IN_ERR => ⟨.AUD, 0x108, 0x10, 168, .RC, 0x00000000#32⟩
  | .AUD_IN_INVALID => ⟨.AUD, 0x10C, 0x10, 168, .RC, 0x00000000#32⟩
  | .AUD_RX_LOST => ⟨.AUD, 0x1000, 0x10, 128, .RC, 0x00000000#32⟩
  | .AUD_TX_PKTS => ⟨.AUD, 0x1800, 0x10, 128, .RO, 0x00000000#32⟩
  | .TCH_STATUS => ⟨.TCH, 0x0, 0x0, 1, .RO, 0x00000000#32⟩
  | .TCH_RING_WR => ⟨.TCH, 0x4, 0x0, 1, .RO, 0x00000000#32⟩
  | .TCH_RING_RD => ⟨.TCH, 0x8, 0x0, 1, .RW, 0x00000000#32⟩
  | .TCH_RING_DROP => ⟨.TCH, 0xC, 0x0, 1, .RC, 0x00000000#32⟩
  | .TCH_FE_STAT => ⟨.TCH, 0x100, 0x40, 2, .RO, 0x00000000#32⟩
  | .TCH_FE_FRAMES => ⟨.TCH, 0x104, 0x40, 2, .RO, 0x00000000#32⟩
  | .TCH_FE_REPORTS => ⟨.TCH, 0x108, 0x40, 2, .RO, 0x00000000#32⟩
  | .TCH_FE_WITHHELD => ⟨.TCH, 0x10C, 0x40, 2, .RC, 0x00000000#32⟩
  | .TCH_FE_REBASE => ⟨.TCH, 0x110, 0x40, 2, .RC, 0x00000000#32⟩
  | .TCH_FE_NOISE => ⟨.TCH, 0x114, 0x40, 2, .RO, 0x00000000#32⟩
  | .TCH_FE_NOISE_CNT => ⟨.TCH, 0x118, 0x40, 2, .RC, 0x00000000#32⟩
  | .TCH_FE_SUSPECT => ⟨.TCH, 0x11C, 0x40, 2, .RO, 0x00000000#32⟩
  | .DMC_STATUS => ⟨.DMC, 0x0, 0x0, 1, .RO, 0x00000000#32⟩
  | .DMC_ADDR_MIB => ⟨.DMC, 0x4, 0x0, 1, .RO, 0x00000000#32⟩
  | .DMC_FREE_MIB => ⟨.DMC, 0x8, 0x0, 1, .RO, 0x00000000#32⟩
  | .DMC_LARGEST_MIB => ⟨.DMC, 0xC, 0x0, 1, .RO, 0x00000000#32⟩
  | .DMC_CH_HOT => ⟨.DMC, 0x10, 0x0, 1, .RO, 0x00000000#32⟩
  | .DMC_CH_FAULT => ⟨.DMC, 0x14, 0x0, 1, .RO, 0x00000000#32⟩
  | .DMC_SCRUB_PASS => ⟨.DMC, 0x18, 0x0, 1, .RO, 0x00000000#32⟩
  | .DMC_CH_STAT => ⟨.DMC, 0x100, 0x40, 32, .RO, 0x00000000#32⟩
  | .DMC_CH_CE => ⟨.DMC, 0x104, 0x40, 32, .RC, 0x00000000#32⟩
  | .DMC_CH_UE => ⟨.DMC, 0x108, 0x40, 32, .RC, 0x00000000#32⟩
  | .DMC_CH_UE_ADDR => ⟨.DMC, 0x10C, 0x40, 32, .RO, 0x00000000#32⟩
  | .DMC_CH_REFRESH => ⟨.DMC, 0x110, 0x40, 32, .RO, 0x00000000#32⟩
  | .DMC_CH_RETRAIN => ⟨.DMC, 0x114, 0x40, 32, .RO, 0x00000000#32⟩
  | .DMC_CH_DRIFT => ⟨.DMC, 0x118, 0x40, 32, .RO, 0x00000000#32⟩
  | .DMC_CH_OVERQ => ⟨.DMC, 0x11C, 0x40, 32, .RC, 0x00000000#32⟩
  | .DMC_CH_MAXSTALL => ⟨.DMC, 0x120, 0x40, 32, .RC, 0x00000000#32⟩
  | .SRM_ARR_CE => ⟨.SRM, 0x100, 0x10, 10, .RC, 0x00000000#32⟩
  | .SRM_ARR_UE => ⟨.SRM, 0x104, 0x10, 10, .RC, 0x00000000#32⟩
  | .SRM_ARR_LAST => ⟨.SRM, 0x108, 0x10, 10, .RO, 0x00000000#32⟩
  | .SRM_ARR_SCRUB => ⟨.SRM, 0x10C, 0x10, 10, .RO, 0x00000000#32⟩
  | .SRM_SCR_UNALIGNED => ⟨.SRM, 0x400, 0x10, 4, .RO, 0x00000000#32⟩
  | .SRM_SCR_DMA_WAIT => ⟨.SRM, 0x404, 0x10, 4, .RC, 0x00000000#32⟩
  | .SRM_CLEARS => ⟨.SRM, 0x800, 0x4, 41, .RO, 0x00000000#32⟩
  | .MPU_CTL => ⟨.MPU, 0x0, 0x0, 1, .RO, 0x00000000#32⟩
  | .MPU_VIOL_CNT => ⟨.MPU, 0x4, 0x0, 1, .RC, 0x00000000#32⟩
  | .MPU_LAST_INFO => ⟨.MPU, 0x8, 0x0, 1, .RO, 0x00000000#32⟩
  | .MPU_LAST_ADDR_LO => ⟨.MPU, 0xC, 0x0, 1, .RO, 0x00000000#32⟩
  | .MPU_LAST_ADDR_HI => ⟨.MPU, 0x10, 0x0, 1, .RO, 0x00000000#32⟩
  | .MPU_ENT_BASE => ⟨.MPU, 0x1000, 0x20, 256, .WL, 0x00000000#32⟩
  | .MPU_ENT_LIMIT => ⟨.MPU, 0x1004, 0x20, 256, .WL, 0x00000000#32⟩
  | .MPU_ENT_MASK_LO => ⟨.MPU, 0x1008, 0x20, 256, .WL, 0x00000000#32⟩
  | .MPU_ENT_MASK_HI => ⟨.MPU, 0x100C, 0x20, 256, .WL, 0x00000000#32⟩
  | .MPU_ENT_CTL => ⟨.MPU, 0x1010, 0x20, 256, .WL, 0x00000000#32⟩
  | .MPU_ENT_DENY => ⟨.MPU, 0x1014, 0x20, 256, .RO, 0x00000000#32⟩
  | .MPU_MASTER_VIOL => ⟨.MPU, 0x4000, 0x4, 64, .RC, 0x00000000#32⟩
  | .CHK_STATUS => ⟨.CHK, 0x0, 0x0, 1, .RO, 0x00000000#32⟩
  | .CHK_STAT => ⟨.CHK, 0x100, 0x40, 8, .RO, 0x00000000#32⟩
  | .CHK_RESULT => ⟨.CHK, 0x104, 0x40, 8, .RO, 0x00000000#32⟩
  | .CHK_EXPECT => ⟨.CHK, 0x108, 0x40, 8, .RO, 0x00000000#32⟩
  | .CHK_ADDR_LO => ⟨.CHK, 0x10C, 0x40, 8, .RO, 0x00000000#32⟩
  | .CHK_ADDR_HI => ⟨.CHK, 0x110, 0x40, 8, .RO, 0x00000000#32⟩
  | .CHK_LEN => ⟨.CHK, 0x114, 0x40, 8, .RO, 0x00000000#32⟩
  | .CHK_RUNS => ⟨.CHK, 0x118, 0x40, 8, .RO, 0x00000000#32⟩
  | .CHK_MISMATCH => ⟨.CHK, 0x11C, 0x40, 8, .RC, 0x00000000#32⟩
  | .FLT_STATUS => ⟨.FLT, 0x0, 0x0, 1, .RO, 0x00000000#32⟩
  | .FLT_COUNT => ⟨.FLT, 0x4, 0x0, 1, .RO, 0x00000000#32⟩
  | .FLT_WR => ⟨.FLT, 0x8, 0x0, 1, .RO, 0x00000000#32⟩
  | .FLT_WD => ⟨.FLT, 0xC, 0x0, 1, .RO, 0x00000000#32⟩
  | .FLT_FIRST => ⟨.FLT, 0x10, 0x4, 8, .RO, 0x00000000#32⟩
  | .FLT_ISL_MASKED => ⟨.FLT, 0x100, 0x10, 41, .RC, 0x00000000#32⟩
  | .FLT_ISL_UNMASKED => ⟨.FLT, 0x104, 0x10, 41, .RO, 0x00000000#32⟩
  | .FLT_ISL_LAST => ⟨.FLT, 0x108, 0x10, 41, .RO, 0x00000000#32⟩
  | .FLT_LOG => ⟨.FLT, 0x1000, 0x20, 256, .RO, 0x00000000#32⟩
  | .PAIR_STATUS => ⟨.PAIR, 0x0, 0x0, 1, .RO, 0x00200000#32⟩
  | .PAIR_CFG => ⟨.PAIR, 0x4, 0x0, 1, .RO, 0x00000000#32⟩
  | .PAIR_SEAM_STAT => ⟨.PAIR, 0x8, 0x0, 1, .RO, 0x00000000#32⟩
  | .PAIR_SEAM_CRC => ⟨.PAIR, 0xC, 0x4, 2, .RC, 0x00000000#32⟩
  | .PAIR_TAKEOVERS => ⟨.PAIR, 0x14, 0x0, 1, .RO, 0x00000000#32⟩
  | .PAIR_HANDOVERS => ⟨.PAIR, 0x18, 0x0, 1, .RO, 0x00000000#32⟩
  | .PAIR_BOTH_DUTY => ⟨.PAIR, 0x1C, 0x0, 1, .RC, 0x00000000#32⟩
  | .PAIR_EVT_SEC => ⟨.PAIR, 0x20, 0x0, 1, .RO, 0x00000000#32⟩
  | .PAIR_EVT_NS => ⟨.PAIR, 0x24, 0x0, 1, .RO, 0x00000000#32⟩
  | .PAIR_AUD_MASK => ⟨.PAIR, 0x30, 0x4, 4, .RO, 0x00000000#32⟩
  | .PAIR_HEAD_STAT => ⟨.PAIR, 0x100, 0x10, 24, .RO, 0x00000000#32⟩
  | .PAIR_LATCH_MISS => ⟨.PAIR, 0x104, 0x10, 24, .RC, 0x00000000#32⟩
  | .PAIR_FCRC_DIFF => ⟨.PAIR, 0x108, 0x10, 24, .RC, 0x00000000#32⟩
  | .PAIR_GRID_ERR => ⟨.PAIR, 0x10C, 0x10, 24, .RO, 0x00000000#32⟩
  | .PWR_STATUS => ⟨.PWR, 0x0, 0x0, 1, .RO, 0x00000000#32⟩
  | .PWR_VSET => ⟨.PWR, 0x4, 0x0, 1, .RO, 0x00000000#32⟩
  | .PWR_VREAD => ⟨.PWR, 0x8, 0x0, 1, .RO, 0x00000000#32⟩
  | .PWR_IREAD => ⟨.PWR, 0xC, 0x0, 1, .RO, 0x00000000#32⟩
  | .PWR_TJ => ⟨.PWR, 0x10, 0x0, 1, .RO, 0x00000000#32⟩
  | .PWR_THERM_WARN => ⟨.PWR, 0x14, 0x0, 1, .RO, 0x0000005F#32⟩
  | .PWR_PMB_ERR => ⟨.PWR, 0x18, 0x0, 1, .RC, 0x00000000#32⟩
  | .PWR_ISL_STAT => ⟨.PWR, 0x100, 0x10, 41, .RO, 0x00000000#32⟩
  | .PWR_ISL_STRETCH => ⟨.PWR, 0x104, 0x10, 41, .RO, 0x00000000#32⟩
  | .PWR_ISL_DROOP => ⟨.PWR, 0x108, 0x10, 41, .RC, 0x00000000#32⟩
  | .PWR_ISL_TEMP => ⟨.PWR, 0x10C, 0x10, 41, .RO, 0x00000000#32⟩
  | .SL_STATUS => ⟨.SL, 0x0, 0x0, 1, .RO, 0x00000000#32⟩
  | .SL_QUAD_STAT => ⟨.SL, 0x100, 0x10, 16, .RO, 0x00000000#32⟩
  | .SL_LANE_STAT => ⟨.SL, 0x1000, 0x40, 67, .RO, 0x00000000#32⟩
  | .SL_LANE_ERR => ⟨.SL, 0x1004, 0x40, 67, .RC, 0x00000000#32⟩
  | .SL_LANE_FEC => ⟨.SL, 0x1008, 0x40, 67, .RC, 0x00000000#32⟩
  | .SL_LANE_LOCKLOSS => ⟨.SL, 0x100C, 0x40, 67, .RC, 0x00000000#32⟩
  | .SL_PRBS_BITS_LO => ⟨.SL, 0x1010, 0x40, 67, .RO, 0x00000000#32⟩
  | .SL_PRBS_BITS_HI => ⟨.SL, 0x1014, 0x40, 67, .RO, 0x00000000#32⟩
  | .SL_PRBS_ERR => ⟨.SL, 0x1018, 0x40, 67, .RO, 0x00000000#32⟩
  | .SL_PRBS_STAT => ⟨.SL, 0x101C, 0x40, 67, .RO, 0x00000000#32⟩
  | .LODE_COUNT => ⟨.LODE, 0x0, 0x0, 1, .RO, 0x00000000#32⟩
  | .LODE_UPDATES => ⟨.LODE, 0x4, 0x0, 1, .RO, 0x00000000#32⟩
  | .LODE_OVERRATE => ⟨.LODE, 0x8, 0x0, 1, .RC, 0x00000000#32⟩
  | .LODE_PLACE_FAIL => ⟨.LODE, 0xC, 0x0, 1, .RC, 0x00000000#32⟩
  | .LODE_HITS => ⟨.LODE, 0x10, 0x0, 1, .RO, 0x00000000#32⟩
  | .LODE_ENTRY => ⟨.LODE, 0x200000, 0x20, 65536, .RO, 0x00000000#32⟩

/-- The registers of the DEV block. -/
def Reg.listDEV : List Reg :=
  [.DEV_ID, .DEV_UID_LO, .DEV_UID_HI, .DEV_PCI, .DEV_BOOT, .DEV_ROUTER, .DEV_UNMAPPED, .DEV_RD_OFF, .DEV_SCRATCH]

/-- The registers of the HP block. -/
def Reg.listHP : List Reg :=
  [.HP_CMD_DB, .HP_CMD_RD, .HP_CTL, .HP_STATUS, .HP_EVT_BASE_LO, .HP_EVT_BASE_HI, .HP_EVT_SIZE, .HP_EVT_WR, .HP_EVT_RD, .HP_IRQ_MOD, .HP_EVT_DROP, .HP_BUSY_CNT, .HP_CRC_CNT, .HP_WR_DROP, .HP_RD_BAD]

/-- The registers of the SEM block. -/
def Reg.listSEM : List Reg :=
  [.SEM_REQ, .SEM_REL, .SEM_HELD_LO, .SEM_HELD_HI, .SEM_OTHER_LO, .SEM_OTHER_HI, .SEM_RESULT, .SEM_TIE]

/-- The registers of the PRF block. -/
def Reg.listPRF : List Reg :=
  [.PRF_STATE]

/-- The registers of the EVI block. -/
def Reg.listEVI : List Reg :=
  [.EVI_CFG, .EVI_ARG, .EVI_OVR, .EVI_STAT]

/-- The registers of the CNY block. -/
def Reg.listCNY : List Reg :=
  [.CNY_CTL, .CNY_LIM_BUDGET, .CNY_LIM_MISC, .CNY_LOCK_VIOL, .CNY_LOCK_SEC, .CNY_LOCK_NS, .CNY_STYLE, .CNY_FG, .CNY_BG, .CNY_LSTAT, .CNY_LAGE, .CNY_LBUDGET, .CNY_LWINDOW, .CNY_EVALS, .CNY_MARKED, .CNY_DEADLINE, .CNY_MISC]

/-- The registers of the ING block. -/
def Reg.listING : List Reg :=
  [.ING_STATUS, .ING_SAMPLE_CNT, .ING_SAMPLE_DROP, .ING_INJECT_CNT, .ING_RING_WR, .ING_RING_RD, .ING_MAC_RX, .ING_MAC_FCS, .ING_MAC_UNK, .ING_MAC_MISDIR, .ING_MAC_MALF, .ING_MAC_OVR, .ING_MG_DUP, .ING_MG_LATE, .ING_MG_STAT, .ING_CTX_STAT, .ING_CTX_FRAMES, .ING_CTX_CONCEALED, .ING_CTX_WITHHELD, .ING_CTX_LOST, .ING_CTX_RATE, .ING_SDI_STAT, .ING_SDI_CRC]

/-- The registers of the CAM block. -/
def Reg.listCAM : List Reg :=
  [.CAM_STATUS, .CAM_STATS_WR, .CAM_STATS_RD, .CAM_STATS_DROP, .CAM_PORT_STAT, .CAM_PORT_HDR, .CAM_PORT_CRC, .CAM_PORT_UNBOUND, .CAM_CTX_STAT, .CAM_CTX_FRAMES, .CAM_CTX_WITHHELD, .CAM_CTX_SUPERSEDED, .CAM_CTX_OVERLONG, .CAM_CTX_LINE_ERR, .CAM_CTX_QUEUE_US, .CAM_CTX_FS_SEC, .CAM_CTX_FS_NS, .CAM_PIPE_STAT, .CAM_PIPE_FRAMES, .CAM_PIPE_RETRY]

/-- The registers of the CF block. -/
def Reg.listCF : List Reg :=
  [.CF_STATUS, .CF_JOBS_INFL, .CF_JOBS_DRAM, .CF_OREBIN_USE, .CF_OREBIN_STALL, .CF_RESERVE, .CF_PE_STAT, .CF_PE_RETRY, .CF_PE_JOBS, .CF_EE_STAT, .CF_EE_RETRY, .CF_EE_MBINS]

/-- The registers of the DEC block. -/
def Reg.listDEC : List Reg :=
  [.DEC_STATUS, .DEC_SESS_STAT, .DEC_SESS_AU, .DEC_SESS_PICS, .DEC_SESS_CONCEALED, .DEC_SESS_DISCARD, .DEC_SESS_POOLWAIT, .DEC_SESS_HASH, .DEC_SESS_LEVEL]

/-- The registers of the ENC block. -/
def Reg.listENC : List Reg :=
  [.ENC_STATUS, .ENC_STATS_WR, .ENC_STATS_RD, .ENC_STATS_DROP, .ENC_CH_STAT, .ENC_CH_PICS, .ENC_CH_REPEAT, .ENC_CH_KEYS, .ENC_CH_FILL, .ENC_CH_LATE, .ENC_CH_BUCKET, .ENC_CH_MARGIN_US, .ENC_CH_DELAY_NS, .ENC_CH_KEY_OVR, .ENC_CH_MISMATCH, .ENC_CH_POOLWAIT, .ENC_CH_PAIR_DIV, .ENC_CH_SKIPPED, .ENC_CH_RTP]

/-- The registers of the LY block. -/
def Reg.listLY : List Reg :=
  [.LY_FLAT_USE, .LY_FLAT_SPILL, .LY_FLAT_INVAL, .LY_STAT, .LY_SRC, .LY_ALLOC, .LY_FETCH, .LY_UMBRA, .LY_UNDERRUN, .LY_GFX_STAT]

/-- The registers of the HD block. -/
def Reg.listHD : List Reg :=
  [.HD_OUT_STATUS, .HD_HOLD_MAX, .HD_STAT, .HD_FRAME_LO, .HD_FRAME_HI, .HD_FLIP_SEC, .HD_FLIP_NS, .HD_LATE, .HD_PCLK, .HD_CMP_STAT, .HD_CMP_DISC, .HD_CMP_BASE, .HD_DP_STAT, .HD_DP_HPD_CNT, .HD_DP_RETRAIN, .HD_SDI_STAT, .HD_SDI_FRAMES, .HD_FLOW_STAT, .HD_FLOW_PKTS, .HD_FLOW_GUARD, .HD_FLOW_SEQ, .HD_EFLOW_STAT, .HD_EFLOW_QUEUE, .HD_EFLOW_GUARD]

/-- The registers of the TM block. -/
def Reg.listTM : List Reg :=
  [.TM_STATUS, .TM_TIME_NS, .TM_TIME_SEC_LO, .TM_TIME_SEC_HI, .TM_TIME_FRAC, .TM_RATE_LO, .TM_RATE_HI, .TM_OFFSET, .TM_MPD, .TM_GM_ID_LO, .TM_GM_ID_HI, .TM_STEPS, .TM_STEP_SEC, .TM_STEP_NS, .TM_STEP_AMT_LO, .TM_STEP_AMT_HI, .TM_RATE_LIMIT, .TM_PORT_STAT, .TM_PORT_RX, .TM_PORT_BAD, .TM_PORT_ASYM]

/-- The registers of the REF block. -/
def Reg.listREF : List Reg :=
  [.REF_STATUS, .REF_WTR_LEFT, .REF_PHASE_OFS_LO, .REF_PHASE_OFS_HI, .REF_SWITCHES, .REF_HO_ENTRIES, .REF_LAST_STEP, .REF_DPLL_PPB, .REF_DISAGREE_CNT, .REF_CFG, .REF_DELAY, .REF_RATE, .REF_MEAS, .REF_PHASE_ERR, .REF_LOSS, .REF_HEAD_ERR, .REF_HEAD_ADJ]

/-- The registers of the AUD block. -/
def Reg.listAUD : List Reg :=
  [.AUD_STATUS, .AUD_HOUSE_OFS, .AUD_ZC_TIMEOUTS, .AUD_CHANNELS, .AUD_IN_STAT, .AUD_IN_SLIP, .AUD_IN_ERR, .AUD_IN_INVALID, .AUD_RX_LOST, .AUD_TX_PKTS]

/-- The registers of the TCH block. -/
def Reg.listTCH : List Reg :=
  [.TCH_STATUS, .TCH_RING_WR, .TCH_RING_RD, .TCH_RING_DROP, .TCH_FE_STAT, .TCH_FE_FRAMES, .TCH_FE_REPORTS, .TCH_FE_WITHHELD, .TCH_FE_REBASE, .TCH_FE_NOISE, .TCH_FE_NOISE_CNT, .TCH_FE_SUSPECT]

/-- The registers of the DMC block. -/
def Reg.listDMC : List Reg :=
  [.DMC_STATUS, .DMC_ADDR_MIB, .DMC_FREE_MIB, .DMC_LARGEST_MIB, .DMC_CH_HOT, .DMC_CH_FAULT, .DMC_SCRUB_PASS, .DMC_CH_STAT, .DMC_CH_CE, .DMC_CH_UE, .DMC_CH_UE_ADDR, .DMC_CH_REFRESH, .DMC_CH_RETRAIN, .DMC_CH_DRIFT, .DMC_CH_OVERQ, .DMC_CH_MAXSTALL]

/-- The registers of the SRM block. -/
def Reg.listSRM : List Reg :=
  [.SRM_ARR_CE, .SRM_ARR_UE, .SRM_ARR_LAST, .SRM_ARR_SCRUB, .SRM_SCR_UNALIGNED, .SRM_SCR_DMA_WAIT, .SRM_CLEARS]

/-- The registers of the MPU block. -/
def Reg.listMPU : List Reg :=
  [.MPU_CTL, .MPU_VIOL_CNT, .MPU_LAST_INFO, .MPU_LAST_ADDR_LO, .MPU_LAST_ADDR_HI, .MPU_ENT_BASE, .MPU_ENT_LIMIT, .MPU_ENT_MASK_LO, .MPU_ENT_MASK_HI, .MPU_ENT_CTL, .MPU_ENT_DENY, .MPU_MASTER_VIOL]

/-- The registers of the CHK block. -/
def Reg.listCHK : List Reg :=
  [.CHK_STATUS, .CHK_STAT, .CHK_RESULT, .CHK_EXPECT, .CHK_ADDR_LO, .CHK_ADDR_HI, .CHK_LEN, .CHK_RUNS, .CHK_MISMATCH]

/-- The registers of the FLT block. -/
def Reg.listFLT : List Reg :=
  [.FLT_STATUS, .FLT_COUNT, .FLT_WR, .FLT_WD, .FLT_FIRST, .FLT_ISL_MASKED, .FLT_ISL_UNMASKED, .FLT_ISL_LAST, .FLT_LOG]

/-- The registers of the PAIR block. -/
def Reg.listPAIR : List Reg :=
  [.PAIR_STATUS, .PAIR_CFG, .PAIR_SEAM_STAT, .PAIR_SEAM_CRC, .PAIR_TAKEOVERS, .PAIR_HANDOVERS, .PAIR_BOTH_DUTY, .PAIR_EVT_SEC, .PAIR_EVT_NS, .PAIR_AUD_MASK, .PAIR_HEAD_STAT, .PAIR_LATCH_MISS, .PAIR_FCRC_DIFF, .PAIR_GRID_ERR]

/-- The registers of the PWR block. -/
def Reg.listPWR : List Reg :=
  [.PWR_STATUS, .PWR_VSET, .PWR_VREAD, .PWR_IREAD, .PWR_TJ, .PWR_THERM_WARN, .PWR_PMB_ERR, .PWR_ISL_STAT, .PWR_ISL_STRETCH, .PWR_ISL_DROOP, .PWR_ISL_TEMP]

/-- The registers of the SL block. -/
def Reg.listSL : List Reg :=
  [.SL_STATUS, .SL_QUAD_STAT, .SL_LANE_STAT, .SL_LANE_ERR, .SL_LANE_FEC, .SL_LANE_LOCKLOSS, .SL_PRBS_BITS_LO, .SL_PRBS_BITS_HI, .SL_PRBS_ERR, .SL_PRBS_STAT]

/-- The registers of the LODE block. -/
def Reg.listLODE : List Reg :=
  [.LODE_COUNT, .LODE_UPDATES, .LODE_OVERRATE, .LODE_PLACE_FAIL, .LODE_HITS, .LODE_ENTRY]

/-- Every register. -/
def Reg.all : List Reg :=
  Reg.listDEV ++ Reg.listHP ++ Reg.listSEM ++ Reg.listPRF ++ Reg.listEVI ++ Reg.listCNY ++ Reg.listING ++ Reg.listCAM ++ Reg.listCF ++ Reg.listDEC ++ Reg.listENC ++ Reg.listLY ++ Reg.listHD ++ Reg.listTM ++ Reg.listREF ++ Reg.listAUD ++ Reg.listTCH ++ Reg.listDMC ++ Reg.listSRM ++ Reg.listMPU ++ Reg.listCHK ++ Reg.listFLT ++ Reg.listPAIR ++ Reg.listPWR ++ Reg.listSL ++ Reg.listLODE

/-- Guarded islands (R31). -/
def guarded (i : Nat) : Bool := decide (30 ≤ i ∧ i ≤ 35)

/-- Nominal clock of an island in MHz (R27). -/
def clockMhz (i : Nat) : Nat :=
  if i ≤ 7 then 1100 else if i ≤ 9 then 1200 else if i = 10 then 1100 else if i ≤ 14 then 1000 else if i ≤ 18 then 1067
  else if i ≤ 26 then 800 else if i ≤ 29 then 1000 else if i ≤ 35 then 800 else if i = 36 then 1000 else if i = 37 then 500
  else if i = 38 then 200 else 100

/-- Islands that are always on (R559). -/
def alwaysOn (i : Nat) : Bool := decide (i ≤ 19) || i == 36 || i == 37 || i == 40

/-- Reset value of a register member: the table's, or by member where the table says so (R398 for REF_CFG, R568 for
PWR_ISL_STAT). -/
def Reg.resetOf (r : Reg) (i : Nat) : Word :=
  match r with
  | .REF_CFG => if i = 0 then 0#32 else 0x0E000000#32
  | .PWR_ISL_STAT => BitVec.ofNat 32 ((if guarded i then 2 ^ 29 else 0) + (if alwaysOn i then 2 ^ 28 else 0) + clockMhz i)
  | _ => r.info.reset

/-- BAR2 offset of member i of a register (R616). -/
def Reg.addr (r : Reg) (i : Nat) : Nat := r.info.block.base + r.info.off + i * r.info.stride

/-- Does BAR2 offset a name a member of this register, and which. -/
def Reg.member (r : Reg) (a : Nat) : Option Nat :=
  let lo := r.addr 0
  if a < lo then none
  else if r.info.stride = 0 then (if a = lo then some 0 else none)
  else if (a - lo) % r.info.stride = 0 ∧ (a - lo) / r.info.stride < r.info.count then some ((a - lo) / r.info.stride)
  else none

/-- The register member at a BAR2 offset (R615: an offset that names no register has none). -/
def Reg.atAddr (a : Nat) : Option (Reg × Nat) :=
  Reg.all.findSome? (fun r => (r.member a).map (fun i => (r, i)))

/-- The block whose window a BAR2 offset lies in (R615). -/
def Block.atAddr (a : Nat) : Option Block :=
  [Block.DEV, .HP, .SEM, .PRF, .EVI, .CNY, .ING, .CAM, .CF, .DEC, .ENC, .LY, .HD, .TM, .REF, .AUD, .TCH, .DMC, .SRM,
   .MPU, .CHK, .FLT, .PAIR, .PWR, .SL, .LODE].find? (fun b => decide (b.base ≤ a ∧ a < b.base + b.window))

end Sys2Proof.Machine
end

