-- ==== Sys2Proof/Machine/Tbl.lean ====
section
/-! DEFINITION. Sparse tables: a list of (key, value) pairs with strictly rising keys. An unlisted key holds a
default, and no listed value equals it, so equal tables are equal data. Registers, arrayed units and rings use it. -/

namespace Sys2Proof

/-- A sparse table in one canonical form (Tbl.wf). -/
abbrev Tbl (α : Type) := List (Nat × α)

/-- The listed value of a key. -/
def Tbl.find {α : Type} : Tbl α → Nat → Option α
  | [], _ => none
  | (k, v) :: t, i => if k = i then some v else Tbl.find t i

/-- The table without a key. -/
def Tbl.erase {α : Type} : Tbl α → Nat → Tbl α
  | [], _ => []
  | (k, v) :: t, i => if k = i then Tbl.erase t i else (k, v) :: Tbl.erase t i

/-- The table with a key listed in its place. -/
def Tbl.insert {α : Type} : Tbl α → Nat → α → Tbl α
  | [], i, x => [(i, x)]
  | (k, v) :: t, i, x =>
    if i < k then (i, x) :: (k, v) :: t
    else if i = k then (i, x) :: t
    else (k, v) :: Tbl.insert t i x

/-- The value of a key: the listed one, or the default d. -/
def Tbl.getD {α : Type} (t : Tbl α) (d : α) (i : Nat) : α := (Tbl.find t i).getD d

/-- Writes a key; writing the default takes the entry out. -/
def Tbl.setD {α : Type} [DecidableEq α] (t : Tbl α) (d : α) (i : Nat) (x : α) : Tbl α :=
  if x = d then Tbl.erase t i else Tbl.insert t i x

/-- The value of a key of a table whose default is the type's reset value. -/
def Tbl.get {α : Type} [Inhabited α] (t : Tbl α) (i : Nat) : α := Tbl.getD t default i

/-- Writes a key of a table whose default is the type's reset value. -/
def Tbl.set {α : Type} [Inhabited α] [DecidableEq α] (t : Tbl α) (i : Nat) (x : α) : Tbl α := Tbl.setD t default i x

/-- Changes one entry. -/
def Tbl.modify {α : Type} [Inhabited α] [DecidableEq α] (t : Tbl α) (i : Nat) (f : α → α) : Tbl α :=
  Tbl.set t i (f (Tbl.get t i))

/-- Every listed key is above a bound, the keys rise strictly, and no value is the default of its key. -/
def Tbl.wfFrom {α : Type} [DecidableEq α] (d : Nat → α) : Nat → Tbl α → Bool
  | _, [] => true
  | lo, (k, v) :: t => decide (lo ≤ k) && decide (v ≠ d k) && Tbl.wfFrom d (k + 1) t

/-- The canonical form of a table with a default for every key. -/
def Tbl.wf {α : Type} [DecidableEq α] (d : Nat → α) (t : Tbl α) : Bool := Tbl.wfFrom d 0 t

end Sys2Proof
end

