-- ==== Sys2Proof/Machine/StHost.lean ====
section
/-! DEFINITION. State of the host interface: the two ports, the command interpreter, the semaphore, the profile
store and the event inputs (R48 to R99). Registers live in State's register table under their own names. -/

namespace Sys2Proof.Machine

/-- A tag in flight (R70): from the fetch of its packet until its reply. -/
structure InFlight where
  tag : Nat
  urgent : Bool
  /-- place of the packet in its port's ring order -/
  seq : Nat
deriving DecidableEq, Repr, Inhabited

/-- A fetched command packet (R58). -/
structure Packet where
  req : Req
  opcode : Nat
  body : Body
  /-- place of the packet in its port's ring order -/
  seq : Nat
  /-- KIND bit 2: interpretation began again after a control-plane restart (R25, R64) -/
  restarted : Bool := false
  /-- the scopes its port held when it started, which its scope check goes by (R74) -/
  held : BitVec 64 := 0
  /-- when it was fetched (R354) -/
  fetched : Nat := 0
deriving DecidableEq, Repr, Inhabited

/-- A 64-byte record of an event ring (R64). -/
structure Record where
  code : Nat
  tag : Nat := 0
  kind : Nat
  status : Nat := 0
  reason : Nat := 0
  cookieSeq : Word
  body : List Byte
  phase : Nat
deriving DecidableEq, Repr, Inhabited

/-- The 64 bytes of a record: header, body, zeros (R64). -/
def Record.bytes (r : Record) : List Byte :=
  leBytes 2 r.code ++ leBytes 1 r.tag ++ leBytes 1 r.kind ++ leBytes 2 r.status ++ leBytes 2 r.reason
    ++ leBytes 4 r.cookieSeq.toNat ++ leBytes 2 r.body.length ++ leBytes 1 0 ++ leBytes 1 r.phase
    ++ (r.body ++ List.replicate 48 0#8).take 48

/-- One host port: its command ring in BAR0, its tags, its event ring's latched placement (R52 to R75). -/
structure HostPort where
  /-- the 256 KiB command ring in BAR0, byte by byte; unwritten bytes are 0 -/
  ring : Tbl Byte := []
  /-- the last valid doorbell offset (R56) -/
  lastDb : Nat := 0
  /-- the tags in flight (R70) -/
  tags : List InFlight := []
  /-- packets fetched and not started, in ring order -/
  fetched : List Packet := []
  /-- number of packets fetched so far, the next packet's place in ring order -/
  nextPkt : Nat := 0
  /-- event-ring base latched when EVT_EN was set (R62) -/
  evtBase : Nat := 0
  /-- log2 of the records of the ring, latched likewise -/
  evtLog2 : Nat := 0
  /-- PHASE of the current pass (R65) -/
  phase : Bool := true
  /-- the port's next event sequence number (R68) -/
  seq : Word := 0
  /-- events dropped since the last EVT_OVERFLOW -/
  dropped : Nat := 0
  /-- event groups kept out by EVENT_MASK: bit g set stops group g; none after reset (R67) -/
  blockMask : Nat := 0
  /-- the link is in L0 -/
  linkUp : Bool := false
  /-- the function is in power state D3hot, not D0 (R49) -/
  d3hot : Bool := false
  /-- when the link left L0, while it has not returned (R81) -/
  downSince : Option Nat := none
  /-- end of the running vector 0 moderation interval (R69) -/
  modUntil : Option Nat := none
  /-- records written in the running interval that vector 0 has not announced -/
  modPending : Bool := false
deriving DecidableEq, Repr, Inhabited

/-- How far a command that waits for heads and channels has come (R73, R86). -/
structure Waiter where
  req : Req
  opcode : Nat
  restarted : Bool := false
  /-- heads that have not taken the command's set -/
  heads : List Nat := []
  /-- encode channels that have not taken it -/
  chans : List Nat := []
  /-- profile slot, for a selection -/
  slot : Option Nat := none
  /-- masks for the reply -/
  headsTaken : Nat := 0
  headsLate : Nat := 0
  chansTaken : Nat := 0
  late : Bool := false
  superseded : Bool := false
  /-- PTP times of the first and last take, in ns -/
  first : Option Nat := none
  last : Nat := 0
  /-- reply fields already known -/
  body : List Byte := []
  /-- the instance the command waits on, for commands that wait on something other than heads -/
  inst : Nat := 0
  /-- number of the waiting command -/
  id : Nat := 0
  /-- the Canary refused a set of the command at its take (R146) -/
  refused : Bool := false
  /-- a layer that the command's commit left on a head is pre-decimated (R20, R321) -/
  degraded : Bool := false
deriving DecidableEq, Repr, Inhabited

/-- A reply that waits for the end of a control-plane restart (R25). -/
structure DueReply where
  req : Req
  opcode : Nat
  restarted : Bool
  status : Nat
  reason : Nat
  body : List Byte
deriving DecidableEq, Repr, Inhabited

/-- The one command interpreter of Lantern pairs 0 and 1 (R71). -/
structure Interp where
  /-- the packet being interpreted -/
  current : Option Packet := none
  /-- non-URGENT work that an URGENT packet preempted -/
  suspended : Option Packet := none
  /-- the port whose URGENT packet starts next when both have one (R71 item 3) -/
  turnUrgent : Port := .A
  /-- the same for non-URGENT packets -/
  turnPlain : Port := .A
  /-- commands whose sets are armed and whose replies are still to come (R73) -/
  waiters : List Waiter := []
  /-- number of the next waiting command -/
  nextId : Nat := 0
  /-- when the open control-plane restart began (R25) -/
  restart : Option Nat := none
  /-- interrupted packets that start again first after the restart (R25) -/
  again : List Packet := []
  /-- replies that fell due during the restart (R25) -/
  due : List DueReply := []
deriving DecidableEq, Repr, Inhabited

/-- The semaphore: which port holds which scope (R76). -/
structure Sem where
  heldA : BitVec 64 := 0
  heldB : BitVec 64 := 0
deriving DecidableEq, Repr, Inhabited

/-- One section of a profile image (R83). -/
structure Section where
  opcode : Nat
  inst : Nat
  body : Body
deriving DecidableEq, Repr, Inhabited

/-- One slot of the profile store; its state is a field of PRF_STATE (R82, R84). -/
structure Slot where
  sections : List Section := []
  /-- loaded image length in bytes -/
  len : Nat := 0
  /-- reject reason, kept while the slot is INVALID -/
  reason : Nat := 0
deriving DecidableEq, Repr, Inhabited

/-- The profile controller: heads and channels that have still to take the pending profile, and who selected it. -/
structure Profiles where
  slots : Tbl Slot := []
  /-- heads that have not taken the pending profile -/
  headsLeft : List Nat := []
  /-- channels that have not taken it -/
  chansLeft : List Nat := []
  /-- masks and times of the switch in progress, for its replies (R86, R88) -/
  takenH : Nat := 0
  lateH : Nat := 0
  takenC : Nat := 0
  first : Option Nat := none
  last : Nat := 0
  /-- the Canary refused a set of the switch in progress (R146) -/
  refused : Bool := false
  /-- the newest selection: its device time and its place in the order of R89 -/
  lastSel : Option (Nat × Nat) := none
  /-- source and input number or port of the pending selection (PRF_SWITCHED) -/
  src : Nat := 0
  srcArg : Nat := 0
deriving DecidableEq, Repr, Inhabited

/-- One event input EVIN[n] (R93 to R95). -/
structure EvIn where
  /-- when the input became active -/
  activeAt : Option Nat := none
  /-- the last action carried out: start of its rate interval -/
  lastAction : Option Nat := none
  /-- the last EVIN_EDGE: start of its 1 ms interval -/
  lastEdge : Option Nat := none
  /-- an activation waiting for the end of the rate interval -/
  pendingAct : Bool := false
  /-- the last EVIN_OVERRUN -/
  lastOverrun : Option Nat := none
deriving DecidableEq, Repr, Inhabited

/-- The rate limit of one event code and instance: changes counted since the last event, and when events were raised. -/
structure EvLimit where
  count : Nat := 0
  times : List Nat := []
deriving DecidableEq, Repr, Inhabited

/-- What leaves the device, or a read of it answers: the outside world's side of a step. -/
inductive Output where
  /-- an MSI-X message (R51) -/
  | irq (p : Port) (vector : Nat)
  /-- a record written into a port's event ring at an index (R62) -/
  | record (p : Port) (index : Nat) (r : Record)
  /-- a DMA write into host memory through a port (R50) -/
  | dma (p : Port) (addr : Nat) (bytes : List Byte)
  /-- the answer to a register read -/
  | readData (m : BusMaster) (addr : Nat) (value : Nat)
  /-- an Ethernet frame or packet leaves a MAC: kind code and its bytes -/
  | packet (mac kind : Nat) (bytes : List Byte)
  /-- a record leaves on the Seam link: type and bytes -/
  | seam (kind : Nat) (bytes : List Byte)
  /-- a line leaves a video output: TYPE × 256 + INDEX, line, link components of each pixel (R358) -/
  | video (output line : Nat) (pixels : List (List Int))
  /-- a frame starts on a video output: OUT_STD and OUT_ENC of its metadata, and its blanking lines (R359, R365) -/
  | frameStart (output std enc blanking : Nat)
  /-- a host transaction goes out on a DisplayPort transmitter's AUX: operation, address and write data or length (R362) -/
  | aux (dp op addr : Nat) (bytes : List Byte)
  /-- what a DisplayPort transmitter writes to its sink of each lane's level at the start of link training: voltage swing level and
  4 times the pre-emphasis level, or in 128b/132b modes the TX FFE preset (R363, R581) -/
  | dpLevels (dp : Nat) (levels : List Nat)
  /-- a PMBus transaction with the regulator: its address, the clock in kHz, the command, and what is written (R553) -/
  | pmbus (addr khz command value : Nat)
  /-- an audio sample leaves an output channel (output × 64 + channel) -/
  | sample (channel : Nat) (value : Int)
  /-- the channel-status block of an AES3 output channel that starts with its next frame (R424) -/
  | channelStatus (channel : Nat) (bytes : List Byte)
deriving DecidableEq, Repr

end Sys2Proof.Machine
end

