-- ==== Sys2Proof/Machine/StAudio.lean ====
section
/-! DEFINITION. State of the audio ports, house clocks, streams and routes (R416 to R437). -/

namespace Sys2Proof.Machine

/-- Channel status of one input channel (R424): bits of the block under way, the last valid block, the previous sample. -/
structure CsChan where
  /-- frames since the last Z; none before the first -/
  run : Option Nat := none
  bits : List Bool := []
  last : Option (List Byte) := none
  prev : Int := 0
deriving DecidableEq, Repr, Inhabited

/-- One audio input (R419 to R421, R430); its class and state are fields of AUD_IN_STAT. -/
structure AudIn where
  chans : Nat := 0
  muteInvalid : Bool := false
  /-- slip FIFO, oldest first: one list of channel samples per sample instant -/
  fifo : List (List Int) := []
  /-- samples delivered at the present and the previous house tick -/
  cur : List Int := []
  prev : List Int := []
deriving DecidableEq, Repr, Inhabited

/-- One output channel and its route change (R431 to R433). -/
structure AudChan where
  /-- input and channel sent, none for silence -/
  src : Option (Nat × Nat) := none
  /-- target of the change under way -/
  want : Option (Option (Nat × Nat)) := none
  /-- 0 none, 1 waits for a zero crossing of the old signal, 2 of the new one, 3 ramp-down, 4 ramp-up, 5 waits for a block start,
  6 stops at a block start (R425) -/
  stage : Nat := 0
  /-- house tick at which the stage began, and the timeout in µs -/
  since : Nat := 0
  timeoutUs : Nat := 5000
  rampK : Nat := 0
  /-- the AUD_ROUTE that made the change -/
  cmd : Option Nat := none
deriving DecidableEq, Repr, Inhabited

/-- An AUD_ROUTE whose changes have not all ended (R431). -/
structure RouteCmd where
  id : Nat
  req : Req
  restarted : Bool := false
  left : List Nat := []
  applied : Nat := 0
  superseded : Nat := 0
  timeouts : Nat := 0
deriving DecidableEq, Repr, Inhabited

/-- One ST 2110-30 receive stream (R428). -/
structure RxStream where
  bound : Bool := false
  cfg : Body := []
  /-- extended RTP timestamp of the next sample to read -/
  nextT : Nat := 0
  /-- jitter buffer by RTP timestamp -/
  buf : Tbl (Option (List Int)) := []
deriving DecidableEq, Repr, Inhabited

/-- One ST 2110-30 send stream (R429). -/
structure TxStream where
  bound : Bool := false
  cfg : Body := []
  /-- house samples of the packet under way, their first house index, and the PTP time of its tick -/
  acc : List (List Int) := []
  first : Nat := 0
  at0 : Nat := 0
  /-- packets ready to leave: samples, first index, PTP time -/
  ready : List (List (List Int) × Nat × Nat) := []
  seq : Nat := 0
  /-- guard: what it held, in units of txCost, and when (R429) -/
  tokens : Nat := 0
  tokensAt : Nat := 0
deriving DecidableEq, Repr, Inhabited

/-- The audio block. -/
structure Audio where
  /-- bodies of AUD_TDM by group and of AUD_AES3 by DIR × 8 + INDEX -/
  tdm : Tbl Body := []
  aes : Tbl Body := []
  ins : Tbl AudIn := []
  /-- channel status by input × 64 + channel -/
  cs : Tbl CsChan := []
  /-- output channels by output × 64 + channel -/
  outs : Tbl AudChan := []
  cmds : List RouteCmd := []
  nextCmd : Nat := 0
  rx : Tbl RxStream := []
  tx : Tbl TxStream := []
  /-- next sample of the 96 kHz house clock (R417) -/
  tick : Nat := 0
  /-- A of R417 in ns -/
  ofs : Int := 0
  /-- AUD_CLOCK waits for the ramps before the clocks jump -/
  realign : Bool := false
deriving DecidableEq, Repr, Inhabited

end Sys2Proof.Machine
end

