-- ==== Sys2Proof/Machine/StBoard.lean ====
section
/-! DEFINITION. State of power and start-up (R546 to R570), of the serial lanes (R571 to R591) and of the DRAM
controllers and on-chip memory (R462 to R486). -/

namespace Sys2Proof.Machine

/-! ### Power -/

/-- A PWR_ISLAND that waits for its islands (R560). -/
structure PwrCmd where
  req : Req
  restarted : Bool := false
  islands : List Nat := []
  on : Bool := false
deriving DecidableEq, Repr, Inhabited

/-- The island controller, the AVS master and the sensors. -/
structure Power where
  /-- islands that wait to power up, with the cause code of PWR_ISLAND_STATE; at most one clears at a time (R561) -/
  queue : List (Nat × Nat) := []
  /-- cause of the running power-up of each island -/
  cause : Tbl Nat := []
  cmds : List PwrCmd := []
  /-- the regulator's voltage as last written, in mV; its power-on default is 0.75 V (R553) -/
  vout : Nat := 750
  /-- the last write that lowered it -/
  lastFall : Nat := 0
  /-- consecutive READ_VOUT values out of range, and transactions without acknowledge (R554) -/
  badReads : Nat := 0
  nacks : Nat := 0
  /-- STATUS_WORD as last read (R570) -/
  status : Nat := 0
  /-- consecutive sensor readings out of range, by island (R557) -/
  hot : Tbl Nat := []
  /-- last PWR_THERM by island -/
  warned : Tbl (Option Nat) := []
  /-- stretches of the last 1 µs by guarded island: time and length in fs (R556) -/
  stretch : Tbl (List (Nat × Nat)) := []
  /-- THERMTRIP_N is driven low (R558) -/
  trip : Bool := false
  /-- PORST_N is asserted (R549); it is when the rails come up (R547) -/
  porst : Bool := true
  /-- device time at which PORST_N was released (R99) -/
  released : Nat := 0
deriving DecidableEq, Repr, Inhabited

/-! ### Serial lanes -/

/-- A PRBS test on a lane (R585, R586). -/
structure Prbs where
  req : Req
  restarted : Bool := false
  dir : Nat := 0
  rateKbps : Nat := 0
  durationMs : Nat := 0
  start : Nat := 0
  /-- first lock -/
  locked1 : Option Nat := none
  /-- locked without a break since -/
  since : Option Nat := none
  /-- bits of the locked intervals that have ended -/
  bits : Nat := 0
deriving DecidableEq, Repr, Inhabited

/-- Settings of a host lane: the presets for 8.0, 16.0 and 32.0 GT/s and the receiver's, at first those of the boot ROM (R550,
R578, R582). -/
structure HostLane where
  preset8 : Nat := 7
  preset16 : Nat := 7
  preset32 : Nat := 7
  ctle : Nat := 8
  vga : Nat := 8
  dfe1 : Int := 0
deriving DecidableEq, Repr, Inhabited

/-- The serial lanes: tests by lane, and the host lanes' settings, with the preset each transmits with while its link is in L0 (none
at 2.5 and 5.0 GT/s) and the requests that the last equalization rejected: host lane and preset asked for (R578). -/
structure Lanes where
  tests : Tbl (Option Prbs) := []
  host : Tbl HostLane := []
  sends : Tbl (Option Nat) := []
  rejected : List (Nat × Nat) := []
deriving DecidableEq, Repr, Inhabited

/-! ### DRAM and SRAM -/

/-- A request for one ECC block as it waits in a DRAM controller or before it (R469): the access it belongs to, whether it is that
access's first, its address, its length, and the bytes it writes. -/
structure DramReq where
  acc : MemAccess := default
  first : Bool := false
  addr : Nat := 0
  len : Nat := 0
  data : List Byte := []
deriving DecidableEq, Repr, Inhabited

/-- One DRAM channel (R469 to R476). -/
structure DmcCh where
  /-- next refresh on the rota, and the end of the last refresh or retraining pause -/
  nextRefresh : Nat := 0
  pauseEnd : Nat := 0
  /-- next retraining pause by its period, consecutive failures, and when a failed pause is retried at the earliest -/
  nextRetrain : Nat := 0
  fails : Nat := 0
  retryAt : Option Nat := none
  /-- next MR4 poll (R470) -/
  nextMr4 : Nat := 0
  /-- next ECC block of the patrol, in local order, and when it is read (R475) -/
  patrol : Nat := 0
  nextPatrol : Nat := 0
  /-- bursts of the window: data, control, management, and the window's end (R476) -/
  dataB : Nat := 0
  ctlB : Nat := 0
  mgmtB : Nat := 0
  windowEnd : Nat := 0
  /-- requests that wait in the controller, oldest first, at most 64 (R469, R476, R484) -/
  queue : List DramReq := []
  /-- ECC blocks whose check lines the controller caches, latest used first, at most 64 (R467) -/
  checks : List Nat := []
deriving DecidableEq, Repr, Inhabited

/-- The DRAM controllers, DRAM content and the SRAM patrols. -/
structure Memory where
  /-- end of initialisation (R469) -/
  t0 : Nat := 0
  ch : Tbl DmcCh := []
  /-- start of a period from which the retraining period in force counts (R471) -/
  base : Nat := 0
  /-- a retraining period in ms that waits, and the period boundary it applies from (R471) -/
  newPeriod : Option (Nat × Nat) := none
  /-- DRAM bytes that interconnect writes have left, by device address; an unlisted byte of DRAM that no object of the model
  occupies or has occupied reads 0, as initialisation leaves it (DMC_TRAIN) -/
  bytes : Tbl Byte := []
  /-- runs of granules that objects have occupied and left -/
  stale : List (Nat × Nat) := []
  /-- poisoned lines: device address / 64 (R466) -/
  poison : List Nat := []
  /-- jobs that an uncorrectable ore-bin word has made repeat: their numbers (R479) -/
  oreBad : List Nat := []
deriving DecidableEq, Repr, Inhabited

end Sys2Proof.Machine
end

