-- ==== Sys2Proof/Machine/StDuty.lean ====
section
/-! DEFINITION. State of the fault log, the watchdog, the MPU's violation reporting, the check-value units (R487 to
R519) and the pair sequencer (R520 to R545). -/

namespace Sys2Proof.Machine

/-- A fault record (R504). -/
structure FaultRec where
  time : Nat := 0
  island : Nat := 0
  cls : Nat := 0
  sev : Nat := 0
  action : Nat := 0
  inst : Nat := 0xFFFF
  seq : Nat := 0
  detail : List Byte := []
deriving DecidableEq, Repr, Inhabited

/-- One check-value unit's run (R498 to R503). -/
structure ChkUnit where
  cfg : Body := []
  /-- the command that waits for a one-shot run -/
  req : Option Req := none
  restarted : Bool := false
  /-- a run is in progress since; none between the runs of a periodic unit -/
  started : Option Nat := none
  /-- start of the next run of a periodic unit -/
  nextAt : Nat := 0
  /-- an access wrote into the range while the run lasted (R500) -/
  dirty : Bool := false
  /-- PTP times of the last run's start and end (R500) -/
  startTime : Nat := 0
  endTime : Nat := 0
deriving DecidableEq, Repr, Inhabited

/-- The fault log, watchdog and check-value units. -/
structure Flt where
  /-- newest first, at most 256 -/
  log : List FaultRec := []
  /-- island and instance of every unmasked record since PORST_N -/
  unmasked : List (Nat × Nat) := []
  /-- the record whose release by the management plane is due, and by when (R508) -/
  release : Option (Nat × Nat) := none
  /-- last heartbeat of each Lantern pair; none: not watched (R510) -/
  beats : Tbl (Option Nat) := []
  /-- last liveness record of each island (R507) -/
  alive : Tbl (Option Nat) := []
  chk : Tbl ChkUnit := []
  /-- DBG has authenticated (R496) -/
  dbg : Bool := false
  /-- Lantern pairs that a lockstep mismatch, poisoned data or a denied read has stopped (R474, R492, R511) -/
  halted : List Nat := []
  /-- the open restart has used up its 2,000 ms (R510) -/
  graceSpent : Bool := false
  /-- heads whose Canary SRAM has lost a word (R479) -/
  cnySram : List Nat := []
deriving DecidableEq, Repr, Inhabited

/-- The pair sequencer; its state and levels are fields of PAIR_STATUS (R523). -/
structure Pair where
  /-- a profile has been taken since the last give-up (R523, R526) -/
  taken : Bool := false
  /-- DUTY_IN has been read asserted since SYNCING was entered (R527) -/
  sawIn : Bool := false
  /-- DUTY_IN deasserted, and DUTY_IN asserted beside DUTY_OUT, without a break since -/
  inLow : Option Nat := some 0
  inHigh : Option Nat := none
  /-- start of DUTY_WAIT, and the last time the Seam link reported a partner on duty (R525) -/
  waitFrom : Nat := 0
  partnerSeen : Option Nat := none
  /-- last valid record, last heartbeat sent, and since when both lanes have lost block lock (R521) -/
  lastRec : Nat := 0
  lastHb : Nat := 0
  unlocked : Option Nat := some 0
  /-- records of the current millisecond (PAIR_SEAM_STAT) -/
  recMs : Nat := 0
  recCount : Nat := 0
  /-- partner's last heartbeat: DUTY_OUT, profile CRC, and its PAIR_ID equals this device's -/
  partnerOut : Bool := false
  partnerCrc : Nat := 0
  conflict : Bool := false
  /-- profile CRCs differ since, and PAIR_PROFILE_DIFF has been raised for it (R531) -/
  diffSince : Option Nat := none
  diffTold : Bool := false
  /-- the PAIR_SWITCH commands that wait, the boundary chosen, and its acknowledgement (R530) -/
  switchReqs : List Waiter := []
  handover : Option Nat := none
  acked : Bool := false
  /-- PAIR_SEAM cause DUTY_WIRE last raised -/
  wireAt : Option Nat := none
  /-- failed snapshots and the last request (R539) -/
  snapFails : Nat := 0
  snapAt : Option Nat := none
  /-- the PAIR_DRILL that runs, and those behind it with HOLD_FRAMES and HATCH_FRAMES (R542) -/
  drill : Option Waiter := none
  drillNext : List (Waiter × Nat × Nat) := []
deriving DecidableEq, Repr, Inhabited

end Sys2Proof.Machine
end

