-- ==== Sys2Proof/Machine/StSurf.lean ====
section
/-! DEFINITION. Frame tags, surface headers and surface pools (R100 to R112, R186, R187, R237 to R241). -/

namespace Sys2Proof.Machine

/-- A frame tag (R100). -/
structure Tag where
  sourceId : Nat := 0
  flags : Nat := 0
  seq : Nat := 0
  /-- tag time in ns, seconds modulo 2^30 (R106) -/
  time : Nat := 0
  basis : Nat := 0
  /-- TAG_CRC as stored -/
  crc : Byte := 0
deriving DecidableEq, Repr, Inhabited

/-- Bytes 0 to 11 and 13 to 15 of a tag: what TAG_CRC covers (R100, R105). -/
def Tag.covered (t : Tag) : List Byte :=
  leBytes 8 (t.time / 1000000000 % 2 ^ 30 * 2 ^ 34 + t.time % 1000000000 * 16 + t.basis % 4 * 4)
    ++ leBytes 4 t.seq ++ leBytes 1 t.flags ++ leBytes 2 t.sourceId

/-- The 16 bytes of a tag (R100). -/
def Tag.bytes (t : Tag) : List Byte :=
  (t.covered.take 12) ++ [t.crc] ++ t.covered.drop 12

/-- The tag with the check value R105 gives it. -/
def Tag.sealed (t : Tag) : Tag := { t with crc := crc8 t.covered }

/-- FLAGS bits of R107. -/
def fCLAMPED : Nat := 0x80
/-- FLAGS.OVERLONG (R107). -/
def fOVERLONG : Nat := 0x40
/-- FLAGS.CONCEALED (R107). -/
def fCONCEALED : Nat := 0x20
/-- FLAGS.INTERLACED (R107). -/
def fINTERLACED : Nat := 0x10
/-- FLAGS.STILL (R107). -/
def fSTILL : Nat := 0x08

/-- A complete surface header (R108). -/
structure Header where
  tag : Tag := {}
  contentCrc : Word := 0
  integrityCrc : Word := 0
  width : Nat := 0
  height : Nat := 0
  format : Nat := 0
  /-- master identity of the writing block -/
  writer : Nat := 0
  /-- 0 VIDEO, 1 GRAPHIC, 2 STILL -/
  cls : Nat := 0
  /-- DONE_TIME in ns of PTP time -/
  done : Nat := 0
deriving DecidableEq, Repr, Inhabited

/-- Header bytes 0 to 19 and 24 to 63: what INTEGRITY_CRC covers (R108, R110). -/
def Header.covered (h : Header) : List Byte :=
  h.tag.bytes ++ leBytes 4 h.contentCrc.toNat
    ++ leBytes 2 h.width ++ leBytes 2 h.height ++ leBytes 1 h.format ++ leBytes 1 h.writer ++ leBytes 1 h.cls ++ [0#8]
    ++ leBytes 4 (h.done / 1000000000 % 2 ^ 32) ++ leBytes 4 (h.done % 1000000000) ++ List.replicate 24 0#8

/-- The 64 bytes of a header (R108). -/
def Header.bytes (h : Header) : List Byte :=
  (h.covered.take 20) ++ leBytes 4 h.integrityCrc.toNat ++ h.covered.drop 20

/-- The integrity check value of a header at a surface address (R110). -/
def Header.integrity (h : Header) (addr : Nat) : Word :=
  crc32cFold (BitVec.ofNat 32 (addr / 2 ^ 12) ^^^ BitVec.ofNat 32 h.tag.seq) h.covered

/-- CONTENT_CRC of a picture: every sample as 16 bits, little-endian, in raster order (R109). -/
def contentCrc (lines : List (List Nat)) : Word := crc32c ((lines.map (fun l => (l.map (leBytes 2)).flatten)).flatten)

/-- One surface of a pool: its address in DRAM, its header when complete, its samples line by line, and its holders. -/
structure Surface where
  addr : Nat := 0
  header : Option Header := none
  lines : List (List Nat) := []
  /-- device time at which its header was accepted (R108, R115) -/
  since : Nat := 0
  /-- PTP times at which the bands of its frame were written before the frame closed (R273) -/
  bandAt : List Nat := []
  /-- its header has been overwritten with zeros since it was allocated (R187) -/
  zeroed : Bool := false
  /-- a writer has taken it and not yet released or abandoned it (R187) -/
  busy : Bool := false
  /-- holders that pin it (R115, R187, R239): 0 to 23 heads, 32 to 47 encode channels, 64 + slot a STILL layer, 300 its owner, 303 the
  newest surface that a replaced pool left (R169) -/
  pins : List Nat := []
  /-- reference marks SHORT, LONG and KEY (R239) -/
  short : Bool := false
  long : Bool := false
  key : Bool := false
  /-- bytes written over the interconnect since its writer took or released it, by their place in the surface (R112) -/
  patch : Tbl Byte := []
deriving DecidableEq, Repr, Inhabited

/-- A surface pool (R186, R187) or the reference pool of a decode session (R237, R238). -/
structure Pool where
  bound : Bool := false
  sourceId : Nat := 0xFFFF
  maxW : Nat := 0
  maxH : Nat := 0
  /-- FORMAT code of its surfaces -/
  format : Nat := 0
  /-- 0 VIDEO, 1 GRAPHIC (R111) -/
  cls : Nat := 0
  /-- foreign-write state (R112) -/
  foreign : Bool := false
  surfs : List Surface := []
  /-- indices of the complete surfaces, oldest first -/
  order : List Nat := []
  /-- surface being written -/
  writing : Option Nat := none
  /-- SEQUENCE of the next released frame (R102) -/
  nextSeq : Nat := 0
  /-- newest complete surface of the pool that a replacement left behind, until the first frame of the new one (R169) -/
  oldNewest : Option Surface := none
  /-- surfaces of replaced pools, kept while they are pinned (R169, R258) -/
  old : List Surface := []
  /-- input of the source reports loss of signal (R124) -/
  los : Bool := false
  /-- a fault of the writing block stands since the pool's last frame (R125) -/
  writerFault : Bool := false
deriving DecidableEq, Repr, Inhabited

end Sys2Proof.Machine
end

