-- ==== Sys2Proof/Machine/StInput.lean ====
section
/-! DEFINITION. State of ingest (R153 to R193), the camera ports and image pipes (R194 to R224). -/

namespace Sys2Proof.Machine

/-! ### Ingest -/

/-- One Lode entry in use, without its VALID bit (R159). -/
structure LodeEntry where
  dst : Nat
  src : Nat
  dport : Nat
  vlan : Nat
  ssrc : Nat
  /-- SRC_ANY and SSRC_ANY -/
  srcAny : Bool
  ssrcAny : Bool
  type : Nat
  leg : Nat
  context : Nat
  group : Nat
  macMask : Nat
  /-- LAST_HIT in ms of PTP time -/
  lastHit : Nat := 0
  /-- until when an uncorrectable word makes the entry invalid (R479) -/
  lostUntil : Nat := 0
deriving DecidableEq, Repr, Inhabited

/-- The Lode table: entries by index, and the updates of the current 1 s period (R158, R163). -/
structure Lode where
  entries : Tbl (Option LodeEntry) := []
  /-- start times of recent updates -/
  recent : List Nat := []
deriving DecidableEq, Repr, Inhabited

/-- One MAC's configuration (R154). -/
structure MacSt where
  enabled : Bool := false
  address : Nat := 0
  /-- the lanes have block lock -/
  locked : Bool := false
deriving DecidableEq, Repr, Inhabited

/-- A frame being assembled in a context (R175 to R181). -/
structure OpenFrame where
  /-- the binding it opened under (R169) -/
  cfg : Body := []
  /-- arrival of the first packet, ns of PTP time -/
  arrival : Nat := 0
  /-- steps of the PTP clock since then (R394) -/
  moved : Int := 0
  /-- RTP timestamp, that of the first field; and the second field's once it is known (R180) -/
  ts : Nat := 0
  ts2 : Option Nat := none
  /-- the previous frame's marker packet, once its number is known (R175) -/
  prevEnd : Option Nat := none
  /-- the packet that carries the first pixel of the frame, once accepted -/
  start : Option Nat := none
  /-- no frame came before it: the input was joined here -/
  joined : Bool := false
  /-- marker packet's number, once accepted, and the leg that brought it first -/
  marker : Option Nat := none
  markerLeg : Nat := 0
  /-- accepted numbers of the frame -/
  seqs : List Nat := []
  /-- W in ns for this frame (R173) -/
  skew : Nat := 0
  /-- when the skew window ends, once it runs -/
  deadline : Option Nat := none
  /-- address of the surface taken; none: the frame found none (R187) or carries no pixels -/
  surface : Option Nat := none
  /-- runs accepted before their band was written, and those of the patch list (R177, R178) -/
  runs : List SampleRun := []
  patchRuns : List SampleRun := []
  /-- bands written so far, and their lines by line number (R177) -/
  written : Nat := 0
  out : Tbl (List Nat) := []
  /-- PTP time at which each band was written: the band cursor that low-delay encoding follows (R273) -/
  bandAt : List Nat := []
  /-- packets in the patch list, and those it had no room for (R178) -/
  patches : Nat := 0
  dropped : Nat := 0
  /-- an SDI line with a check error was received (R183) -/
  concealed : Bool := false
  /-- the source is interlaced (R180, R183) -/
  interlaced : Bool := false
  /-- largest line and pixel seen, plus 1 -/
  height : Nat := 0
  width : Nat := 0
  /-- payloads of a coded access unit by number, and what its parse says -/
  parts : List (Nat × List Byte) := []
  au : Option AuInfo := none
deriving DecidableEq, Repr, Inhabited

/-- One ingest context (R169); its binding is the body of the ING_CONTEXT that bound it. -/
structure IngCtx where
  bound : Bool := false
  cfg : Body := []
  /-- a replacement or an unbind that waits for the input's next frame boundary -/
  next : Option Body := none
  /-- the waiting change is a profile's, which the slot's copy holds already (R91) -/
  nextQuiet : Bool := false
  los : Bool := false
  lastPkt : Nat := 0
  /-- open frames, oldest first: with a skew window the next frame opens before this one closes -/
  frames : List OpenFrame := []
  /-- last number of the latest frame that has closed (R175, R176) -/
  lastEnd : Option Nat := none
  /-- width and height of the last frame that closed with its marker (R188) -/
  geo : Nat × Nat := (0, 0)
  /-- last extended number accepted (R174) -/
  lastSeq : Nat := 0
  /-- the last frame was too large (R188) -/
  tooLarge : Bool := false
  /-- arrival times and sizes of the packets of the last 10 ms, and the times of the discards of the last second (R172) -/
  recent : List (Nat × Nat) := []
  rateDrops : List Nat := []
  /-- merge group of the entries that name it, 0xFFFF for none (R159, R191) -/
  group : Nat := 0xFFFF
  /-- packets in the packet buffers that an uncorrectable word has spoilt, and the numbers of those already discarded and counted
  whose frame is still open (R479) -/
  spoilt : Nat := 0
  spoiltSeqs : List Nat := []
deriving DecidableEq, Repr, Inhabited

/-- One ST 2022-7 merge group (R173, R182). -/
structure MergeGroup where
  skewMs : Nat := 0
  /-- W for the next frame to open -/
  nextSkew : Nat := 0
  /-- accepted extended numbers, newest first, at most 65,536 -/
  seen : List Nat := []
  lastA : Nat := 0
  lastB : Nat := 0
  upA : Bool := false
  upB : Bool := false
  aheadB : Bool := false
  context : Nat := 0
deriving DecidableEq, Repr, Inhabited

/-- One SDI input (R183). -/
structure SdiIn where
  rates : Nat := 0
  context : Nat := 0
  lock : Bool := false
  lastTrs : Nat := 0
  /-- an ST 352 packet has come since the last frame ended -/
  seen352 : Bool := false
deriving DecidableEq, Repr, Inhabited

/-- A host ring placed through a port (R165, R220, R294, R458). -/
structure HostRing where
  log2 : Nat := 0
  addr : Nat := 0
  port : Port := .A
  /-- PHASE bit of the current pass -/
  phase : Nat := 1
  /-- frames or reports not delivered since the previous record -/
  skipped : Nat := 0
  /-- records that the host has not read -/
  unread : Nat := 0
deriving DecidableEq, Repr, Inhabited

/-- Records of a ring. -/
def HostRing.size (x : HostRing) : Nat := 2 ^ x.log2

/-- The next record would overwrite an unread one (R165, R220, R458). -/
def HostRing.full (x : HostRing) : Bool := decide (x.size ≤ x.unread)

/-- A record has been written and the write index stands at nx: PHASE flips at each new pass. -/
def HostRing.wrote (x : HostRing) (nx : Nat) : HostRing :=
  { x with skipped := 0, unread := x.unread + 1, phase := if nx = 0 then 1 - x.phase else x.phase }

/-- The host has written its read index: equal indices mean that everything has been read (log 162). -/
def HostRing.readTo (x : HostRing) (wr rd : Nat) : HostRing := { x with unread := (wr + x.size - rd % x.size) % x.size }

/-- One frame in the injection queue (R168). -/
structure Inject where
  req : Req
  /-- the reply's RESTARTED bit -/
  restarted : Bool := false
  macs : List Nat
  bytes : List Byte
deriving DecidableEq, Repr, Inhabited

/-- The ingest block. -/
structure Ingest where
  macs : Tbl MacSt := []
  ctx : Tbl IngCtx := []
  groups : Tbl MergeGroup := []
  sdi : Tbl SdiIn := []
  ring0 : HostRing := {}
  ring1 : HostRing := {}
  /-- token bucket of ring 0, 1,000,000 a record (a token fills in that many ns), and when it was last filled (R166) -/
  tokens : Nat := 50000000
  tokensAt : Nat := 0
  inject : List Inject := []
deriving DecidableEq, Repr, Inhabited

/-! ### Cameras -/

/-- One CSI-2 port (R194). -/
structure CamPort where
  enabled : Bool := false
  /-- body of the CAM_PORT in force -/
  cfg : Body := []
  clock : Bool := false
deriving DecidableEq, Repr, Inhabited

/-- A raw frame: writing, waiting or processing (R202). -/
structure RawFrame where
  /-- the binding it opened under (R211) -/
  cfg : Body := []
  /-- its raw buffer: 0 to 2 -/
  buf : Nat := 0
  /-- frame-start time, ns of PTP time (R198) -/
  start : Nat := 0
  /-- its lines as 12-bit values -/
  lines : List (List Nat) := []
  /-- lines received, those past HEIGHT counted and not kept -/
  count : Nat := 0
  flags : Nat := 0
  /-- parameter set and defect table that applied at its frame start (R209) -/
  params : Body := []
  defects : List (Nat × Nat) := []
  /-- when it closed -/
  closed : Nat := 0
deriving DecidableEq, Repr, Inhabited

/-- State of a raw buffer (R202). -/
inductive RawState where
  | free | writing | waiting | processing
deriving DecidableEq, Repr, Inhabited

/-- An armed parameter set or defect table with the command that waits for its take (R209 to R211). -/
structure ArmedParams where
  req : Req
  /-- a profile section: no command waits -/
  quiet : Bool := false
  restarted : Bool := false
  body : Body := []
  defects : List (Nat × Nat) := []
deriving DecidableEq, Repr, Inhabited

/-- One camera context (R197, R202). -/
structure CamCtx where
  bound : Bool := false
  cfg : Body := []
  next : Option Body := none
  /-- the waiting change is a profile's, which the slot's copy holds already (R91) -/
  nextQuiet : Bool := false
  params : Body := []
  defects : List (Nat × Nat) := []
  armedSet : Option ArmedParams := none
  armedDef : Option ArmedParams := none
  writing : Option RawFrame := none
  waiting : Option RawFrame := none
  processing : Option RawFrame := none
  los : Bool := false
  lastFs : Nat := 0
  /-- previous released frame's parameter set, for the motion vector (R218) -/
  prevSet : Option Body := none
  /-- the last four statistics records (R220) -/
  stats : List (List Byte) := []
deriving DecidableEq, Repr, Inhabited

/-- State of a context's raw buffer i (R202). -/
def CamCtx.rawState (x : CamCtx) (i : Nat) : RawState :=
  if x.writing.any (fun f => f.buf == i) then .writing
  else if x.waiting.any (fun f => f.buf == i) then .waiting
  else if x.processing.any (fun f => f.buf == i) then .processing else .free

/-- A free raw buffer of a context; there is always one at a frame start (R203). -/
def CamCtx.freeRaw (x : CamCtx) : Nat := ((List.range 3).find? (fun i => x.rawState i == .free)).getD 0

/-- One image pipe (R205, R206). -/
structure Pipe where
  busy : Option Nat := none
  started : Nat := 0
  /-- the frame in process has been retried (R221) -/
  retried : Bool := false
  /-- addresses of the surfaces taken for its colour picture and its IR plane; none: withheld, or no plane (R187, R216) -/
  colour : Option Nat := none
  infra : Option Nat := none
deriving DecidableEq, Repr, Inhabited

/-- The camera block. -/
structure Camera where
  ports : Tbl CamPort := []
  ctx : Tbl CamCtx := []
  pipes : Tbl Pipe := []
  ring : HostRing := {}
deriving DecidableEq, Repr, Inhabited

end Sys2Proof.Machine
end

