-- ==== Sys2Proof/Machine/StEnc.lean ====
section
/-! DEFINITION. State of the encode channels (R262 to R306). -/

namespace Sys2Proof.Machine

/-- A key request in a channel's latch (R288). -/
structure KeyReq where
  /-- 0 command, 1 event input, 3 pair, 6 deferred (R306) -/
  cause : Nat := 0
  /-- 0 the channel's KEY_TYPE, 1 IDR, 2 CRA -/
  type : Nat := 0
  /-- PTP time at which it reached the latch -/
  time : Nat := 0
deriving DecidableEq, Repr, Inhabited

/-- An ENC_KEY whose reply is still to come. -/
structure KeyCmd where
  req : Req
  restarted : Bool := false
  /-- PTP time of its requests -/
  time : Nat := 0
  /-- channels that have not started their key picture -/
  left : List Nat := []
  lowest : Nat := 0
  taken : Nat := 0
  coalesced : Nat := 0
  deferred : Nat := 0
  picture : Nat := 0
  tk : Nat := 0
deriving DecidableEq, Repr, Inhabited

/-- A row of a picture after its input deadline. -/
structure EncRow where
  late : Bool := false
  qp : Nat := 0
  /-- the input lines that the row codes, in the channel's format (R265) -/
  input : List (List Nat) := []
deriving DecidableEq, Repr, Inhabited

/-- A picture between its start and its last row's output. -/
structure EncPic where
  /-- picture counter, grid index and t_k -/
  num : Nat := 0
  k : Nat := 0
  tk : Nat := 0
  /-- 0 P, 1 IDR, 2 CRA, 3 repeat (R294) -/
  kind : Nat := 0
  status : Nat := 0
  tag : Option Tag := none
  /-- NAL unit of the liveness SEI -/
  sei : List Byte := []
  keyOff : Nat := 0
  /-- cause of a key picture (R306) -/
  cause : Nat := 0
  /-- every row is intra-fill (R289) -/
  filled : Bool := false
  /-- complexity of each CTU row (R272) -/
  cplx : List Nat := []
  rows : List EncRow := []
  out : Nat := 0
  fills : Nat := 0
  lates : Nat := 0
  /-- some row is an intra-fill row -/
  intra : Bool := false
  bits : Nat := 0
  ctus : List CtuStat := []
  buf : Option Nat := none
  concealed : Bool := false
  /-- a suppressed channel resumes with this picture when row 0 agrees with the duty's (R300) -/
  resumes : Bool := false
deriving DecidableEq, Repr, Inhabited

/-- An ENC_CHANNEL armed for a channel's next picture start, with the waiting command and the profile slot of a selection
(R86, R301). -/
structure ChanArm where
  body : Body := []
  /-- reference buffers allocated for it: their addresses -/
  bufs : List Nat := []
  cmd : Option Nat := none
  slot : Option Nat := none
deriving DecidableEq, Repr, Inhabited

/-- One encode channel; its state is a field of ENC_CH_STAT (R305). -/
structure EncChan where
  bound : Bool := false
  cfg : Body := []
  /-- a replacement, or an unbind, for the next picture start (R301, R303), and sets waiting behind it (R73) -/
  next : Option ChanArm := none
  second : List ChanArm := []
  /-- profile slot whose configuration the channel runs (R91) -/
  slot : Option Nat := none
  /-- picture counter of the next picture and its grid index -/
  pic : Nat := 0
  nextK : Nat := 0
  /-- pictures whose rows have not all left, oldest first -/
  pics : List EncPic := []
  /-- last taken frame: its tag, the address of its surface, and whether its header is still to come (R274, R277) -/
  taken : Option Tag := none
  takenAt : Option Nat := none
  takenOpen : Bool := false
  /-- the pool has held a frame since binding -/
  everFull : Bool := false
  /-- t_seq, and the CONTENT_CRC and t_crc of R275 -/
  tSeq : Nat := 0
  crc : Option Word := none
  tCrc : Int := 0
  /-- no frame is taken until one passes both checks (R277) -/
  distrust : Bool := false
  prevMismatch : Bool := false
  prevConcealed : Bool := false
  prevFill : Nat := 0
  prevLate : Nat := 0
  /-- key latch (R288), pictures since the last key picture, and the cause of a key picture that is due anyway -/
  latch : List KeyReq := []
  sinceKey : Nat := 0
  needKey : Option Nat := some 4
  /-- cap bucket: fullness in bits, remainder of the drain in 10^-6 bits, last output time (R284) -/
  fill : Nat := 0
  fillRem : Nat := 0
  lastOut : Nat := 0
  /-- RTP number of the next packet -/
  rtpSeq : Nat := 0
  /-- the picture as reconstructed, row by row, up to the rows that have left -/
  recon : List (List Nat) := []
  /-- CTU statistics of the last picture in which each CTU was coded normally (R295) -/
  stats : List CtuStat := []
  /-- input margins of the last second: PTP time and ns (R278) -/
  margins : List (Nat × Int) := []
  /-- an end-of-bitstream packet is due at this output time, with its RTP timestamp's PTP time (R303) -/
  eob : Option (Nat × Nat) := none
  /-- status that the last ENC_STATUS_CHANGE reported -/
  shown : Nat := 0
  /-- the duty's records of recent pictures and rows (R299) -/
  mirror : List EncMirror := []
  mirrorRows : List EncRowMirror := []
  /-- last RTP number of the duty's latest ENC_ROW record -/
  mirrorSeq : Nat := 0
  /-- the record of the channel's latest picture, as this device sent it on duty (R299, R539) -/
  told : EncMirror := {}
  /-- after a takeover, the RTP number of the next picture's first packet (R536) -/
  resume : Option Nat := none
  /-- a pair-requested key picture is deferred until (R537) -/
  heldKey : Option Nat := none
deriving DecidableEq, Repr, Inhabited

/-- The encode channels and their statistics ring (R294). -/
structure Encoder where
  chan : Tbl EncChan := []
  keyCmds : List KeyCmd := []
  ring : HostRing := {}
deriving DecidableEq, Repr, Inhabited

end Sys2Proof.Machine
end

