-- ==== Sys2Proof/Machine/StFabric.lean ====
section
/-! DEFINITION. State of the coding fabric and the decode sessions (R225 to R261). -/

namespace Sys2Proof.Machine

/-- A job: one stage of one CTU row of one picture of a channel or session (R232). Owners are the codes of CF_ALLOC for
channels (0 to 15) and 64 + session for decode sessions. -/
structure Job where
  owner : Nat := 0
  pic : Nat := 0
  row : Nat := 0
  /-- rows of the picture, and CTUs of a row -/
  rows : Nat := 0
  cols : Nat := 0
  /-- entropy segment of the picture that the row's syntax is in (R226) -/
  seg : Nat := 0
  /-- number of the job in dispatch order -/
  num : Nat := 0
  /-- mismatches of this job on its present engine (R243, R244) -/
  bad : Nat := 0
  /-- this attempt has started, and the CTUs it has completed (R233) -/
  started : Bool := false
  ctus : Nat := 0
  /-- its reconstruction is complete: in-loop filters and ZLC write are left (R225, R233) -/
  recon : Bool := false
  /-- its EE stalls for a granule, and the stall is counted (R227) -/
  stalled : Bool := false
deriving DecidableEq, Repr, Inhabited

/-- One PE or EE (R228, R232, R244). -/
structure EngineSt where
  /-- an encode channel 0 to 15, the decode pool 0x40, or none for a spare -/
  owner : Option Nat := none
  failed : Bool := false
  failedJob : Nat := 0
  /-- at most 16 jobs, first to run first -/
  queue : List Job := []
  /-- bins beyond the last whole million (CF_EE_MBINS) -/
  binRem : Nat := 0
deriving DecidableEq, Repr, Inhabited

/-- The fabric: engines, their allocation, job lists in DRAM, ore bins, and the progress of pictures by owner, picture and row. -/
structure Fabric where
  pe : Tbl EngineSt := []
  ee : Tbl EngineSt := []
  /-- engines that each channel and the pool (0x40) hold, in the index order of R234, where a spare takes a failed engine's place
  (R244) -/
  places : Tbl (List Nat) := []
  eePlaces : Tbl (List Nat) := []
  /-- engines that the latest commit gives each channel, from its next frame boundary (R228, R229) -/
  plan : Tbl (List Nat) := []
  eePlan : Tbl (List Nat) := []
  /-- pixel and entropy jobs that wait in DRAM job lists, by owner, in order (R232) -/
  dram : Tbl (List Job) := []
  dramEe : Tbl (List Job) := []
  /-- ore-bin granules in use, one for each row whose syntax stands in an ore bin (R227) -/
  ore : List (Nat × Nat × Nat) := []
  /-- rows reconstructed or replaced by a fill row, and rows filtered and written (R233) -/
  rowsRecon : List (Nat × Nat × Nat) := []
  rowsDone : List (Nat × Nat × Nat) := []
  /-- EE of an entropy segment: owner, picture, segment, engine (R226) -/
  segEng : List (Nat × Nat × Nat × Nat) := []
  /-- the pool's picture in dispatch: owner and picture (R235) -/
  current : Option (Nat × Nat) := none
  /-- encode rows whose coded bits are complete: channel, picture, row, PTP time -/
  coded : List (Nat × Nat × Nat × Nat) := []
  nextNum : Nat := 0
deriving DecidableEq, Repr, Inhabited

/-- Samples of 4:2:0 lines: luma, and the two chroma components at half the lines and half the width. -/
structure Planes where
  y : List (List Nat) := []
  cb : List (List Nat) := []
  cr : List (List Nat) := []
deriving DecidableEq, Repr, Inhabited

/-- An access unit taken by a session and not yet released as a picture (R247). -/
structure DecAu where
  tag : Tag := {}
  info : AuInfo := default
  bytes : Nat := 0
  pic : Nat := 0
  /-- coded video sequence it belongs to, counted by the session (R254) -/
  cvs : Nat := 0
  /-- it has waited for a buffer, and the wait is counted (R241) -/
  waited : Bool := false
  /-- buffer of the reference pool that it is decoded into -/
  buf : Option Nat := none
  /-- engines of the pool since its start (R229) -/
  pes : List Nat := []
  ees : List Nat := []
  concealed : Bool := false
  /-- rows decoded so far, at 10 bits, by row -/
  got : Tbl Planes := []
  /-- its last row has completed, and the picture it made: the frame, or the field -/
  decoded : Bool := false
  picture : Planes := {}
  /-- the frame's second field has joined it (R255) -/
  joined : Bool := false
deriving DecidableEq, Repr, Inhabited

/-- A picture marked for reference: its picture order count, its buffer, and whether it is concealed (R239, R256). -/
structure RefPic where
  poc : Int := 0
  buf : Nat := 0
  concealed : Bool := false
deriving DecidableEq, Repr, Inhabited

/-- One decode session; its binding is the body of its DEC_SESSION, its state a field of DEC_SESS_STAT (R247, R250). -/
structure DecSession where
  bound : Bool := false
  cfg : Body := []
  next : Option Body := none
  /-- the waiting change is a profile's, which the slot's copy holds already (R91) -/
  nextQuiet : Bool := false
  /-- in decode order -/
  aus : List DecAu := []
  /-- bytes of the bitstream buffer in use -/
  bufUse : Nat := 0
  /-- access units of the last second: time, bins, and 1 unless it is a second field (R249) -/
  recent : List (Nat × Nat × Nat) := []
  /-- when the measured rate last exceeded 110 % of the declaration (R252) -/
  overAt : Option Nat := none
  /-- pictures marked for reference (R239) -/
  refs : List RefPic := []
  /-- most recent complete picture in decode order (R256) -/
  last : Planes := {}
  nextPic : Nat := 0
  cvs : Nat := 0
  /-- what the parse of the latest access unit said -/
  stream : AuInfo := default
  /-- its engine failed without a spare (R245) -/
  stopped : Bool := false
deriving DecidableEq, Repr, Inhabited

end Sys2Proof.Machine
end

