-- ==== Sys2Proof/Machine/StHead.lean ====
section
/-! DEFINITION. State of a head: its shadow sets (R337, R338, R356), raster and frame counter (R347 to R354), what its
layers have latched and how the Canary last judged them (R115 to R126), its tag history (R149), its composed lines
(R320), its flatten entries (R331), and the outputs bound to heads (R357 to R372). -/

namespace Sys2Proof.Machine

/-- The shadow set of one layer slot (R337). -/
structure LayerSh where
  /-- LY_CONFIG body; empty: never configured -/
  cfg : Body := []
  /-- palette entries by index; unlisted entries are 0 (R311) -/
  palette : Tbl Nat := []
  /-- M, IOFF and OOFF as LY_COLOUR carries them -/
  colour : Body := []
  /-- 3 × 1,024 entries each, once loaded -/
  pre : List Nat := []
  post : List Nat := []
deriving DecidableEq, Repr, Inhabited

/-- A complete set of a head: layers, background and output stage, Canary style, raster, outputs. -/
structure HeadSet where
  layers : Tbl LayerSh := []
  /-- HD_COMPOSE body -/
  comp : Body := []
  lut : List Nat := []
  /-- CNY_HEAD_STYLE body; empty: the style of reset -/
  style : Body := []
  /-- HD_TIMING body; empty: none -/
  timing : Body := []
deriving DecidableEq, Repr, Inhabited

/-- A set armed for a head, or waiting behind an armed one (R24, R73). -/
structure Arm where
  /-- a profile: it starts from an empty configuration (R86) -/
  fresh : Bool := false
  edits : List Section := []
  port : Port := .A
  /-- the waiting command, and the profile slot for a selection -/
  cmd : Option Nat := none
  slot : Option Nat := none
  /-- fetch of its packet (R354) -/
  since : Nat := 0
  /-- armed after the window of its due boundary closed -/
  late : Bool := false
  /-- the coming boundary does not take it -/
  skip : Bool := false
deriving DecidableEq, Repr, Inhabited

/-- The outcome of an evaluation: glyph, CHECKS bits, age in µs, and its PTP time (R117, R130). -/
structure Verdict where
  glyph : Nat := 0
  checks : Nat := 0
  age : Nat := 0xFFFFFFFF
  time : Nat := 0
deriving DecidableEq, Repr, Inhabited

/-- What a layer slot has latched and how its checks stand. -/
structure LayerRun where
  /-- the surface latched for the current frame (R115, R315) -/
  surf : Option Surface := none
  /-- pool it was latched from; 65535: none -/
  pool : Nat := 65535
  /-- a VIDEO layer held as STILL (R113) -/
  still : Bool := false
  /-- SEQUENCE and tag time last evaluated (R122) -/
  seq : Option (Nat × Nat) := none
  /-- t_seq and t_crc in ns of PTP time (R121, R123) -/
  tSeq : Nat := 0
  crc : Option Word := none
  tCrc : Nat := 0
  /-- the pool has held a complete surface since the binding was taken (R124) -/
  everFull : Bool := false
  /-- the Canary's own verdict of the current frame or field, once evaluated -/
  own : Option Verdict := none
  /-- the verdict in force has been settled and reported -/
  settled : Bool := false
  /-- the verdict in force: glyph and CHECKS that Flare draws -/
  drawn : Nat × Nat := (0, 0)
  /-- glyph that the last event reported (R152), and frames marked since -/
  shown : Nat := 0
  marked : Nat := 0
  /-- the current frame has been counted as marked, and has raised its event (R152) -/
  counted : Bool := false
  told : Bool := false
  /-- the duty's mirrored glyph and CHECKS of the frame (R143) -/
  mirror : Option (Nat × Nat) := none
  /-- a latch or decision miss of the frame (R534) -/
  miss : Bool := false
  differs : Bool := false
  /-- frames for which surface, shadows, palette and LUTs have stayed the same (R332) -/
  same : Nat := 0
  /-- LY_NOPOOL as last reported -/
  noPool : Bool := false
  /-- shadow, surface address and SEQUENCE of the previous frame, for R332 -/
  was : Option (LayerSh × Nat × Nat) := none
  /-- pre-decimation in force (R321), and bands covered in this frame (R335) -/
  hp : Nat := 0
  vp : Nat := 0
  covered : List Nat := []
  /-- visible in this frame, and fully covered -/
  vis : Bool := false
  full : Bool := false
  /-- its previous composed line (R322) -/
  prevLine : List (List Int) := []
deriving DecidableEq, Repr, Inhabited

/-- One layer entry of a tag-history record (R149). -/
structure HistLayer where
  tag : Tag := {}
  ageUs : Nat := 0xFFFFFFFF
  glyph : Nat := 0
  checks : Nat := 0
  cls : Nat := 3
  state : Nat := 0
  x0 : Nat := 0
  x1 : Nat := 0
  y0 : Nat := 0
  y1 : Nat := 0
deriving DecidableEq, Repr, Inhabited

/-- A tag-history record of one frame (R149, R150). -/
structure HistRec where
  frame : Nat := 0
  flip : Nat := 0
  layers : Tbl HistLayer := []
  /-- blanking lines, raster and mark style of the frame -/
  v : Nat := 0
  timing : Body := []
  style : Body := []
  /-- the head's last active line has been scanned -/
  final : Bool := false
deriving DecidableEq, Repr, Inhabited

/-- A tile in the flatten cache or in the head's flatten pool (R331, R333): kind 0 base, 1 + layer otherwise. -/
structure FlatTile where
  kind : Nat := 0
  tile : Nat := 0
  granules : Nat := 0
  spilled : Bool := false
deriving DecidableEq, Repr, Inhabited

/-- A composed line waiting in the output FIFO (R320): line number and pixels after stage 8. -/
structure FifoLine where
  line : Nat := 0
  px : List (List Int) := []
deriving DecidableEq, Repr, Inhabited

/-- A frame that scan-out has finished, for the packets that leave after it (R368): counter, flip time, blanking lines,
grid index and stage-11 lines. -/
structure ScanFrame where
  frame : Nat := 0
  flip : Nat := 0
  v : Nat := 0
  k : Nat := 0
  lines : List (List (List Int)) := []
deriving DecidableEq, Repr, Inhabited

/-- One head. -/
structure Head where
  set : HeadSet := {}
  /-- the held set, the port that wrote it, and whether under scope 0 (R338, R340) -/
  held : List Section := []
  heldPort : Port := .A
  held0 : Bool := false
  armed : Option Arm := none
  second : List Arm := []
  /-- the commit window of the coming boundary has closed, and when a window last closed (R354) -/
  closed : Bool := false
  lastClose : Option Nat := none
  /-- device time of the last take (R354) -/
  lastTake : Nat := 0
  /-- grid time of the coming boundary (R348, R411) -/
  nextB : Int := 0
  /-- a raster change waits for the first boundary of its grid (R356) -/
  reraster : Bool := false
  /-- 48-bit frame counter of the current frame, none before the first boundary (R353) -/
  frame : Option Nat := none
  /-- PTP time of the last boundary -/
  flip : Nat := 0
  layers : Tbl LayerRun := []
  fifo : List FifoLine := []
  /-- records of the last 8 frames, newest first (R149) -/
  hist : List HistRec := []
  /-- layers in the base and frames for which base and background stayed the same (R331, R332) -/
  baseLen : Nat := 0
  baseSame : Nat := 0
  baseWas : Body := []
  flat : List FlatTile := []
  /-- address of the DRAM flatten pool (R333) -/
  flatPool : Option Nat := none
  /-- stage-11 lines of the current frame scanned so far, and the frame before -/
  lines : List (List (List Int)) := []
  prev : ScanFrame := {}
  /-- grid index of the last boundary (R348) -/
  gridK : Nat := 0
  /-- blanking lines of the current frame, at its boundary (R349) -/
  v : Nat := 0
  /-- the standby waits for the LATCH record of this boundary time (R532) -/
  latchWait : Option Nat := none
  /-- FRAME_CRC of recent frames by frame counter: own and the duty's (R534) -/
  crcOwn : List (Nat × Nat) := []
  crcPeer : List (Nat × Nat) := []
  /-- pull of the pixel clock (R411): its sign while one runs, and the device time at which the remaining error is taken, if
  that falls inside the frame -/
  pull : Int := 0
  pullEnd : Option Nat := none
  /-- err has not yet stayed below 1 ns since a grid step; frames adjusted and lines added since (R415) -/
  aligning : Bool := false
  adjusted : Nat := 0
  added : Int := 0
  /-- end of the hold, in PTP ns (R375) -/
  holdEnd : Option Nat := none
  /-- profile slot whose configuration the head runs (R91) -/
  slot : Option Nat := none
  /-- frame counter to adopt at the next boundary (R539) -/
  adopt : Option Nat := none
  /-- residue mismatches of the line being composed (R514) -/
  retried : Bool := false
  /-- the flows of the current and of the previous frame are withheld (R534) -/
  withheld : Bool := false
  prevWithheld : Bool := false
  /-- consecutive boundaries whose mirrored flip time agreed within 100 ns, and the grid index of the last one mirrored (R531) -/
  agreed : Nat := 0
  agreedK : Nat := 0
  /-- PAIR_DRILL (R542): 0 none, 1 from the next boundary, 2 holding, 3 hatching; the held frame; frames left of each stage -/
  drillPhase : Nat := 0
  drillFrame : ScanFrame := {}
  drillHold : Nat := 0
  drillHatch : Nat := 0
  drillOk : Bool := true
deriving DecidableEq, Repr, Inhabited

/-- A sink behind a DisplayPort transmitter (R361, R362). -/
structure DpSink where
  /-- highest rate code and lanes of its DPCD capabilities; 15 for none -/
  rate : Nat := 15
  lanes : Nat := 0
  edid : List Byte := []
deriving DecidableEq, Repr, Inhabited

/-- Run-time state of an ST 2110-20 or encoded-stream flow (R366 to R372). -/
structure FlowRun where
  /-- next extended sequence number, none before the first packet -/
  nextSeq : Nat := 0
  /-- frame counter of the frame being sent, and packets sent of it -/
  frame : Option Nat := none
  sent : Nat := 0
  /-- what the guard held, and when (R369, R372); the packet at its head has been counted as held -/
  tokens : Nat := 0
  tokensAt : Nat := 0
  held : Bool := false
  /-- packets queued, for an encoded-stream flow, and the queue's lengths of the last second: time and bits -/
  queue : List (List Byte) := []
  depths : List (Nat × Nat) := []
deriving DecidableEq, Repr, Inhabited

/-- The composition and scan-out blocks. -/
structure Heads where
  head : Tbl Head := []
  /-- outputs bound, by TYPE × 256 + INDEX: the HD_OUTPUT body (R357) -/
  outs : Tbl Body := []
  sinks : Tbl DpSink := []
  flows : Tbl FlowRun := []
deriving DecidableEq, Repr, Inhabited

end Sys2Proof.Machine
end

