-- ==== Sys2Proof/Machine/StTime.lean ====
section
/-! DEFINITION. State of the PTP clock and its servo (R382 to R397), the references and the DPLL's grid (R398 to R412). -/

namespace Sys2Proof.Machine

/-- A clock that runs from device time: its value and rate since a moment. -/
structure ClockSt where
  /-- value at device time `at0`, in units of 2^-48 ns (R382) -/
  acc : Int := 0
  at0 : Nat := 0
  /-- rate offset in units of 2^-48 ns per ns (R383) -/
  rate : Int := 0
deriving DecidableEq, Repr, Inhabited

/-- A clock's value at a device time, in units of 2^-48 ns: 2 ns × (1 + RATE × 2^-48) per 500 MHz cycle
(R382); a time before `at0` is read back along the same line. -/
def ClockSt.fixAt (c : ClockSt) (now : Nat) : Int := c.acc + (((now / 2 : Nat) : Int) - (c.at0 / 2 : Nat)) * 2 * (2 ^ 48 + c.rate)

/-- A clock's value at a device time, whole ns. -/
def ClockSt.nsAt (c : ClockSt) (now : Nat) : Int := c.fixAt now / 2 ^ 48

/-- The clock with a new rate from a moment on. -/
def ClockSt.withRate (c : ClockSt) (now : Nat) (rate : Int) : ClockSt := { acc := c.fixAt now, at0 := now, rate := rate }

/-- The clock stepped by s ns at a moment. -/
def ClockSt.step (c : ClockSt) (now : Nat) (s : Int) : ClockSt := { c with acc := c.fixAt now + s * 2 ^ 48, at0 := now }

/-- The clock stepped by s ps at a moment. -/
def ClockSt.stepPs (c : ClockSt) (now : Nat) (s : Int) : ClockSt := { c with acc := c.fixAt now + s * 2 ^ 48 / 1000, at0 := now }

/-- A mean over time of a word that changes in steps: its integral from a moment up to a moment. -/
structure Avg where
  sum : Int := 0
  from0 : Nat := 0
  at0 : Nat := 0
deriving DecidableEq, Repr, Inhabited

/-- The word has stood at w up to now. -/
def Avg.add (a : Avg) (now : Nat) (w : Int) : Avg := { a with sum := a.sum + w * (now - a.at0 : Nat), at0 := now }

/-- The mean up to the latest moment; the word itself over no time. -/
def Avg.mean (a : Avg) (w : Int) : Int := if a.at0 ≤ a.from0 then w else a.sum / (a.at0 - a.from0 : Nat)

/-- One PTP port (R386); its state is a field of TM_PORT_STAT. -/
structure PtpPort where
  /-- body of its TM_PORT -/
  cfg : Body := []
  /-- foreign masters heard: latest Announce, device times of the last two -/
  heard : List (PtpMsg × Nat × Option Nat) := []
  /-- the port's best qualified foreign master -/
  best : Option PtpMsg := none
  lastAnn : Nat := 0
deriving DecidableEq, Repr, Inhabited

/-- One DPLL reference (R398, R399); its settings are in REF_CFG, REF_DELAY and REF_RATE. -/
structure RefSt where
  /-- no loss stands against it, and its last 1 s offset lay within QUAL_PPB -/
  alive : Bool := false
  inRange : Bool := true
  /-- since when it has been enabled, free of loss and in range -/
  goodSince : Option Nat := none
  /-- device time of the last edge, or of the moment the reference was enabled -/
  lastEdge : Nat := 0
  seen : Bool := false
  /-- last phase error against the grid, in ps (R408), and consecutive edges with |e| above PASS_NS (R409) -/
  errPs : Int := 0
  jumps : Nat := 0
  /-- 1 s offsets of the last 10 s, newest first, in ppb -/
  win : List Int := []
deriving DecidableEq, Repr, Inhabited

/-- A TM_STEP that waits for its second (R393). -/
structure StepCmd where
  req : Req
  restarted : Bool := false
  atSec : Nat := 0
  mode : Nat := 0
  amount : Int := 0
deriving DecidableEq, Repr, Inhabited

/-- The clock, its servo, the references and the grid. -/
structure TimeSt where
  ptp : ClockSt := {}
  /-- the grid counter (R381) while it does not equal PTP time plus the offset -/
  grid : ClockSt := {}
  /-- the DPLL is LOCKED on PTP: the grid equals PTP time plus the REF_PHASE offset (R381) -/
  onPtp : Bool := false
  /-- REF_PHASE offset in ps (R410) -/
  ofsPs : Int := 0
  /-- body of the last TM_PTP_CONFIG; none before the first -/
  cfg : Body := []
  ports : Tbl PtpPort := []
  /-- offset measurements, newest first: PTP time and offset in 2^-16 ns (R382, R390) -/
  meas : List (Int × Int) := []
  /-- filtered offset in ns, and mean path delay in 2^-16 ns -/
  filt : Int := 0
  mpd : Int := 0
  /-- the Sync whose Follow_Up is awaited: sequence, receive time and correction in 2^-16 ns -/
  sync : Option (Nat × Int × Int) := none
  /-- last Sync's origin time with its corrections, and its receive time, for the path delay, in 2^-16 ns -/
  t12 : Int × Int := (0, 0)
  /-- the Delay_Req in flight: sequence, and send time in 2^-16 ns -/
  delayReq : Option (Nat × Int) := none
  nextDelaySeq : Nat := 0
  /-- since when the filtered offset has stayed within LOCK_NS -/
  inLock : Option Nat := none
  lastSync : Nat := 0
  lastAlert : Option Nat := none
  /-- one-second averages of RATE for HOLDOVER, device second and 2^-48 units (R392) -/
  rateHist : List (Nat × Int) := []
  steps : List StepCmd := []
  /-- body of the REF_DPLL in force; none: the reset values of the command's table -/
  dcfg : Body := []
  refs : Tbl RefSt := []
  /-- end of the wait-to-restore timer -/
  wtrAt : Option Nat := none
  /-- start of the switch in progress (R400) -/
  switchAt : Nat := 0
  /-- since when the phase or frequency error of C has been within the lock limits -/
  errSince : Option Nat := none
  /-- the DPLL has been LOCKED since PORST_N -/
  wasLocked : Bool := false
  /-- one-second averages of the control word, device second and 2^-48 units, newest first, at most 660 (R407) -/
  hist : List (Nat × Int) := []
  /-- last REF_FREQ_MEASURE, and the averages since then of the control word and of RATE (R407) -/
  measAt : Nat := 0
  ctlAvg : Avg := {}
  rateAvg : Avg := {}
  /-- last change of the control word, and the word that HOLDOVER or FREERUN slews to (R401, R407) -/
  ctlAt : Nat := 0
  hoWord : Option Int := none
  /-- the disagreeing pair of R404, while one stands -/
  disagree : Option (Nat × Nat) := none
  /-- steps of the tag times by source ID: highest SEQUENCE released and the step (R395) -/
  seqSteps : List (Nat × Nat × Int) := []
deriving DecidableEq, Repr, Inhabited

/-- PTP time in ns at a device time: seconds wrap at 2^48 (R382). -/
def TimeSt.ptpAt (t : TimeSt) (now : Nat) : Nat := (t.ptp.nsAt now % (2 ^ 48 * 1000000000)).toNat

/-- Grid time at a device time, in units of 2^-48 ns (R381). -/
def TimeSt.gridFix (t : TimeSt) (now : Nat) : Int :=
  if t.onPtp then t.ptp.fixAt now + t.ofsPs * 2 ^ 48 / 1000 else t.grid.fixAt now

/-- Grid time in ns at a device time (R381). -/
def TimeSt.gridAt (t : TimeSt) (now : Nat) : Int := t.gridFix now / 2 ^ 48

end Sys2Proof.Machine
end

