-- ==== Sys2Proof/Machine/StTouch.lean ====
section
/-! DEFINITION. State of the touch front-ends (R438 to R461). -/

namespace Sys2Proof.Machine

/-- One node (R439, R442 to R449): last raw count, baseline, reference value in force, and how the last frame left it. -/
structure TNode where
  raw : Int := 0
  base : Int := 0
  refv : Int := 0
  suspect : Bool := false
  touched : Bool := false
  frozen : Bool := false
deriving DecidableEq, Repr, Inhabited

/-- A contact (R449 to R451): its peak node, position in 1/256 of a node pitch, peak value. -/
structure Contact where
  id : Nat := 0
  node : Nat := 0
  sx : Int := 0
  sy : Int := 0
  value : Int := 0
  suspect : Bool := false
  /-- consecutive frames it has been present -/
  seen : Nat := 1
  /-- sample time of its DOWN report -/
  down : Option Nat := none
  /-- multiples of HELD_S reached -/
  held : Nat := 0
deriving DecidableEq, Repr, Inhabited

/-- One entry of a report before its provenance is known. -/
structure TEntry where
  con : Contact := {}
  isDown : Bool := false
  isUp : Bool := false
  /-- this frame completed a multiple of HELD_S -/
  heldNow : Bool := false
deriving DecidableEq, Repr, Inhabited

/-- A report that waits for the final records of its frames (R456). -/
structure TReport where
  k : Nat := 0
  ts : Nat := 0
  noise : Bool := false
  overflow : Bool := false
  reset : Bool := false
  freq : Nat := 0
  entries : List TEntry := []
  /-- contacts that have reached a multiple of HELD_S and found no place in the record (R451) -/
  heldOnly : List TEntry := []
deriving DecidableEq, Repr, Inhabited

/-- A TCH_SELFTEST under way: frames left, sums per node, channels with a frozen node. -/
structure SelfTest where
  req : Req
  restarted : Bool := false
  limits : List Byte := []
  /-- its first frame has started -/
  live : Bool := false
  left : Nat := 16
  sums : List Nat := []
  frozen : List Nat := []
deriving DecidableEq, Repr, Inhabited

/-- A command of a front-end that waits for its next frame, with its body. -/
structure TchCmd where
  req : Req
  restarted : Bool := false
  body : Body := []
  /-- the frame that it waits for has started -/
  live : Bool := false
deriving DecidableEq, Repr, Inhabited

/-- One front-end; enable, mode and drive frequency are fields of TCH_FE_STAT. -/
structure TouchFe where
  cfg : Body := []
  /-- TCH_CONFIG, TCH_MAP and TCH_NOISE_MODE for the next scan-frame boundary -/
  next : Option Body := none
  nextMap : Option Body := none
  /-- the waiting map is a profile's, which the slot's copy holds already (R91) -/
  mapQuiet : Bool := false
  nextCtl : Option Nat := none
  /-- reference table; empty: none valid -/
  table : List Nat := []
  map : Body := []
  /-- number of the next scan frame, whether one is under way, its number and start in PTP ns -/
  nextK : Nat := 0
  running : Bool := false
  k : Nat := 0
  tk : Nat := 0
  nodes : List TNode := []
  /-- frames captured and sums, while baselines are captured -/
  capture : Option (Nat × List Nat) := none
  contacts : List Contact := []
  /-- contacts ended and not yet reported; RESET of the next report -/
  ended : List Contact := []
  reset : Bool := false
  /-- the drive frequency changed at the last boundary -/
  moved : Bool := false
  /-- noise at each code; frames above NOISE_ENTER and below NOISE_EXIT -/
  noise : List Nat := []
  above : Nat := 0
  below : Nat := 0
  rebases : List TchCmd := []
  tests : List SelfTest := []
  snaps : List TchCmd := []
  reports : List TReport := []
  skipped : Nat := 0
  /-- device times of the records of the last second (R457) -/
  sent : List Nat := []
deriving DecidableEq, Repr, Inhabited

/-- The touch block. -/
structure Touch where
  fe : Tbl TouchFe := []
  ring : HostRing := {}
  /-- a ring placement for the next scan-frame boundary -/
  nextRing : Option HostRing := none
deriving DecidableEq, Repr, Inhabited

end Sys2Proof.Machine
end

