-- ==== Sys2Proof/Machine/State.lean ====
section
/-! DEFINITION. The state of the block as plain data, its fault and refusal reasons, and the state after reset. -/

namespace Sys2Proof.Machine

/-- Why a step stops with a fault. No rule of the spec stops the device: a fault record is an effect on State. -/
inductive Fault where
  /-- raised by no command of this model (safe): the spec describes an effect for every one -/
  | none
deriving DecidableEq, Repr

/-- Why a command is refused by the model. -/
inductive Refusal where
  /-- raised by Dispatch alone, for a row without a meaning (safe) -/
  | notModelled (mnemonic : String)
deriving DecidableEq, Repr

/-- Where bring-up stands (R92, R565 to R567). -/
structure Boot where
  /-- the port the boot ROM uses -/
  port : Port := .A
  /-- the board table is taken and locked -/
  board : Bool := false
  /-- the board table's bytes -/
  table : Body := []
  /-- the image that the boot ROM accepted: FW_VERSION, SEC_VERSION and its debug public key, if any (R562, R563) -/
  fwVersion : Nat := 0
  secVersion : Nat := 0
  debugKey : Body := []
  /-- the accepted image has still to start (R565) -/
  starting : Bool := false
  /-- some profile has been taken since power-up -/
  taken : Bool := false
deriving DecidableEq, Repr, Inhabited

/-- A request that waits in a crossing: a part of an access to the register window, a read of one word, or a request for a DRAM
controller whose queue is full (R28, R30, R469). -/
inductive XReq where
  | access (a : MemAccess) (k : BusMaster) (addr len : Nat) (data : List Byte)
  | word (k : BusMaster) (addr : Nat)
  | dram (q : DramReq)
deriving DecidableEq, Repr

/-- One handshake crossing between two islands: at most 4 entries, oldest first, and the requests with which the writing island
stalls behind them (R28). -/
structure Crossing where
  fifo : List XReq := []
  stalled : List XReq := []
deriving DecidableEq, Repr, Inhabited

/-- The state of the block. -/
structure State where
  /-- commands that wait, first in, first out -/
  pending : List Instr := []
  /-- device time in ns -/
  now : Nat := 0
  /-- every register of the spec's tables, by BAR2 offset; unlisted members hold their reset values -/
  regs : Tbl Word := []
  portA : HostPort := {}
  portB : HostPort := {}
  interp : Interp := {}
  sem : Sem := {}
  prof : Profiles := {}
  evin : Tbl EvIn := []
  evLim : Tbl EvLimit := []
  tm : TimeSt := {}
  ing : Ingest := {}
  lode : Lode := {}
  cam : Camera := {}
  fab : Fabric := {}
  dec : Tbl DecSession := []
  pools : Tbl Pool := []
  /-- DRAM runs in use: first granule and number of granules (R478) -/
  runs : Tbl Nat := []
  /-- granules of addressable DRAM, by the board table (R462) -/
  dramGranules : Nat := 57344
  /-- where bring-up stands (R566) -/
  boot : Boot := {}
  enc : Encoder := {}
  hd : Heads := {}
  flt : Flt := {}
  pair : Pair := {}
  pwr : Power := {}
  sl : Lanes := {}
  mem : Memory := {}
  aud : Audio := {}
  tch : Touch := {}
  /-- values latched by a register read, by master × 64 + head, or + 63 for the PTP time (R619) -/
  latches : Tbl (List Word) := []
  /-- the crossings in which something waits, by writing island × 64 + reading island (R28, R30) -/
  xing : Tbl Crossing := []
  /-- the MODEL's own counter of free values drawn -/
  free : Nat := 0
  /-- what has left the device, newest first -/
  out : List Output := []
deriving DecidableEq, Repr, Inhabited

/-- The machine right after reset. -/
def State.reset : State := {}

end Sys2Proof.Machine
end

