-- ==== Sys2Proof/Machine/Ops.lean ====
section
/-! DEFINITION. The shared operations: registers by name (R12, R623), the PTP time of an event (R66), the event rings
with replies, events and interrupts (R51, R62 to R69), event rate limits, the scope check (R74, R77), the order of
statuses (R20) and the one form every command takes (R19, R74). -/

namespace Sys2Proof.Machine

/-! ### Registers -/

/-- The stored value of a register member: the listed one, or the table's reset value. -/
def State.getReg (s : State) (r : Reg) (i : Nat) : Word :=
  if i < r.info.count then Tbl.getD s.regs (r.resetOf i) (r.addr i) else r.resetOf i

/-- Writes a register member; a number at or past the register's member count names no register (R616). -/
def State.setReg (s : State) (r : Reg) (i : Nat) (v : Word) : State :=
  if i < r.info.count then { s with regs := Tbl.setD s.regs (r.resetOf i) (r.addr i) v } else s

/-- A field of a register. -/
def State.regBits (s : State) (r : Reg) (i hi lo : Nat) : Nat := (s.getReg r i).bits hi lo

/-- One bit of a register. -/
def State.regBit (s : State) (r : Reg) (i k : Nat) : Bool := (s.getReg r i).bits k k == 1

/-- Writes a field of a register. -/
def State.setBits (s : State) (r : Reg) (i hi lo n : Nat) : State := s.setReg r i ((s.getReg r i).setBits hi lo n)

/-- Writes one bit of a register. -/
def State.setBit (s : State) (r : Reg) (i k : Nat) (b : Bool) : State := s.setBits r i k k (bit01 b)

/-- Adds to a saturating field (R623). -/
def State.addSatBits (s : State) (r : Reg) (i hi lo n : Nat) : State :=
  s.setBits r i hi lo (min (2 ^ (hi - lo + 1) - 1) (s.regBits r i hi lo + n))

/-- Adds to a saturating 32-bit counter (R623). -/
def State.addSat (s : State) (r : Reg) (i n : Nat) : State := s.addSatBits r i 31 0 n

/-- Counts one in a saturating counter. -/
def State.bumpSat (s : State) (r : Reg) (i : Nat) : State := s.addSat r i 1

/-- Adds to a wrapping field (R623). -/
def State.addWrapBits (s : State) (r : Reg) (i hi lo n : Nat) : State :=
  s.setBits r i hi lo ((s.regBits r i hi lo + n) % 2 ^ (hi - lo + 1))

/-- Counts one in a wrapping 32-bit counter. -/
def State.bumpWrap (s : State) (r : Reg) (i : Nat) : State := s.addWrapBits r i 31 0 1

/-! ### Ports, outputs and interrupts -/

/-- The state of a port. -/
def State.port (s : State) : Port → HostPort
  | .A => s.portA
  | .B => s.portB

/-- Replaces the state of a port. -/
def State.setPort (s : State) (p : Port) (h : HostPort) : State :=
  match p with
  | .A => { s with portA := h }
  | .B => { s with portB := h }

/-- Changes the state of a port. -/
def State.modPort (s : State) (p : Port) (f : HostPort → HostPort) : State := s.setPort p (f (s.port p))

/-- Something leaves the device. -/
def State.emit (s : State) (o : Output) : State := { s with out := o :: s.out }

/-- An MSI-X message (R51). -/
def State.irq (s : State) (p : Port) (v : Nat) : State := s.emit (.irq p v)

/-- HP_CTL.EVT_EN of a port (R62). -/
def State.evtEn (s : State) (p : Port) : Bool := s.regBit .HP_CTL p.idx 1

/-- Records of a port's event ring (R62). -/
def State.evtSize (s : State) (p : Port) : Nat := 2 ^ (s.port p).evtLog2

/-- Records written and not yet read (R62). -/
def State.unread (s : State) (p : Port) : Nat :=
  (s.regBits .HP_EVT_WR p.idx 15 0 + s.evtSize p - s.regBits .HP_EVT_RD p.idx 15 0 % s.evtSize p) % s.evtSize p

/-- Free records: size - 1 minus the unread ones (R62, R68). -/
def State.freeRecords (s : State) (p : Port) : Nat := s.evtSize p - 1 - s.unread p

/-- One microsecond, millisecond and second in ns of device time. -/
def us : Nat := 1000
/-- One millisecond in ns. -/
def ms : Nat := 1000000
/-- One second in ns. -/
def sec : Nat := 1000000000

/-- Vector 0 for a new record, under the moderation of R69. -/
def State.signal0 (s : State) (p : Port) : State :=
  let m := min 1000 (s.regBits .HP_IRQ_MOD p.idx 9 0)
  if m = 0 then s.irq p 0
  else
    match (s.port p).modUntil with
    | none => (s.modPort p (fun h => { h with modUntil := some (s.now + m * us) })).irq p 0
    | some _ => s.modPort p (fun h => { h with modPending := true })

/-- Writes a record at HP_EVT_WR and advances it; PHASE flips when the index wraps (R62, R65). -/
def State.pushRecord (s : State) (p : Port) (r : Record) : State :=
  let i := s.regBits .HP_EVT_WR p.idx 15 0
  let n := (i + 1) % s.evtSize p
  let s1 := s.emit (.record p i { r with phase := bit01 (s.port p).phase })
  let s2 := s1.setBits .HP_EVT_WR p.idx 15 0 n
  if n = 0 then s2.modPort p (fun h => { h with phase := !h.phase }) else s2

/-! ### Time -/

/-- The management clock's PTP time in ns (R381, R24: one PTP clock). -/
def State.ptp (s : State) : Nat := s.tm.ptpAt s.now

/-- A PTP time in the 8-byte format of R66. -/
def timeBytes (t : Nat) : List Byte := leBytes 4 (t / sec % 2 ^ 32) ++ leBytes 4 (t % sec)

/-! ### Events (R66 to R68) -/

/-- Does a port's mask pass an event group (R67). -/
def State.passes (s : State) (p : Port) (code : Nat) : Bool := !(s.port p).blockMask.testBit (code / 256)

/-- An event falls due for one port: it takes a sequence number and is written, or dropped for lack of space. Vector 2 of an
event-ring overflow is sent once per episode of drops, at its first (R51 does not say how often; DESIGN CHOICE, log 147). -/
def State.eventTo (s : State) (p : Port) (t code : Nat) (fields : List Byte) : State :=
  if s.evtEn p && s.passes p code then
    let n := (s.port p).seq
    let s1 := s.modPort p (fun h => { h with seq := h.seq + 1 })
    if s.freeRecords p ≤ 64 then
      let first := (s.port p).dropped == 0
      let s2 := (s1.bumpSat .HP_EVT_DROP p.idx).setBit .HP_STATUS p.idx 2 true
      let s3 := s2.modPort p (fun h => { h with dropped := h.dropped + 1 })
      if first then s3.irq p 2 else s3
    else
      (s1.pushRecord p { code := code, kind := 1, cookieSeq := n, body := (timeBytes t ++ fields).take 48, phase := 0 }).signal0 p
  else s

/-- An event with a body time of its own, for every port that passes it (R67). -/
def State.eventAt (s : State) (t code : Nat) (fields : List Byte) : State :=
  (s.eventTo .A t code fields).eventTo .B t code fields

/-- An event whose body time is the time the condition was found. -/
def State.event (s : State) (code : Nat) (fields : List Byte) : State := s.eventAt s.ptp code fields

/-- The count and the raising times that a rate-limited event keeps for one code and instance. -/
def State.lim (s : State) (code inst : Nat) : EvLimit := Tbl.get s.evLim (code * 65536 + inst)

/-- Replaces an event's rate-limit entry. -/
def State.setLim (s : State) (code inst : Nat) (l : EvLimit) : State :=
  { s with evLim := Tbl.set s.evLim (code * 65536 + inst) l }

/-- An event raised at most once per second per instance, giving the count since the previous one (R166, R187, R224,
R261 and their like); `mk` builds its fields from that count. -/
def State.eventPerSec (s : State) (code inst n : Nat) (mk : Nat → List Byte) : State :=
  let l := s.lim code inst
  let total := l.count + n
  match l.times with
  | t :: _ =>
    if s.now < t + sec then s.setLim code inst { l with count := total }
    else (s.setLim code inst { count := 0, times := [s.now] }).event code (mk total)
  | [] => (s.setLim code inst { count := 0, times := [s.now] }).event code (mk total)

/-- May an event limited to n per second per instance be raised now (R152, R193, R224). -/
def State.evAllowed (s : State) (code inst n : Nat) : Bool :=
  ((s.lim code inst).times.filter (fun t => decide (s.now < t + sec))).length < n

/-- An event raised on a change, at most n times per second per instance; more changes are left to the counters. -/
def State.eventLimited (s : State) (code inst n t : Nat) (fields : List Byte) : State :=
  if s.evAllowed code inst n then
    let l := s.lim code inst
    (s.setLim code inst { l with times := s.now :: l.times.filter (fun x => decide (s.now < x + sec)) }).eventAt t code fields
  else s

/-! ### Replies (R64, R67, R70) -/

/-- The KIND byte of a reply (R64). -/
def replyKind (urgent restarted : Bool) : Nat := 2 * bit01 urgent + 4 * bit01 restarted

/-- Writes a reply record into the issuing port's ring, a CHECKFAIL one counted in HP_CRC_CNT, or discards and counts it while
EVT_EN is 0 (R63, R64, R97). -/
def State.putReply (s : State) (r : Req) (op status reason : Nat) (restarted : Bool) (body : List Byte) : State :=
  let p := r.port
  if s.evtEn p then
    let s0 := if status = 8 then s.bumpSat .HP_CRC_CNT p.idx else s
    let s1 := s0.pushRecord p { code := op, tag := r.tag.val, kind := replyKind r.urgent restarted, status := status,
                                reason := reason, cookieSeq := r.cookie, body := body, phase := 0 }
    if r.urgent then s1.irq p 1 else s1.signal0 p
  else s.bumpSat .HP_EVT_DROP p.idx

/-- Frees a tag (R70). -/
def State.freeTag (s : State) (r : Req) : State :=
  s.modPort r.port (fun h => { h with tags := h.tags.filter (fun t => t.tag != r.tag.val) })

/-- A reply of the firmware: it frees the tag, or waits for the end of an open restart (R25). -/
def State.replyR (s : State) (r : Req) (op status reason : Nat) (restarted : Bool) (body : List Byte) : State :=
  match s.interp.restart with
  | some _ => { s with interp := { s.interp with due := s.interp.due ++ [⟨r, op, restarted, status, reason, body⟩] } }
  | none => (s.putReply r op status reason restarted body).freeTag r

/-! ### Status codes (R19) and common reject reasons (R21) -/

/-- The status codes of R19. -/
inductive Status where
  | OK | BUSY | DENIED | BADPARAM | LOCKED | NORESOURCE | LATE | REJECTED | CHECKFAIL | NOTREADY | DEGRADED | NOTDUTY
deriving DecidableEq, Repr

/-- Code of a status (R19). -/
def Status.code : Status → Nat
  | .OK => 0 | .BUSY => 1 | .DENIED => 2 | .BADPARAM => 3 | .LOCKED => 4 | .NORESOURCE => 5 | .LATE => 6
  | .REJECTED => 7 | .CHECKFAIL => 8 | .NOTREADY => 9 | .DEGRADED => 10 | .NOTDUTY => 11

/-- LINEBUF (R21). -/
def rLINEBUF : Nat := 1
/-- BANDWIDTH (R21). -/
def rBANDWIDTH : Nat := 2
/-- ENGINES (R21). -/
def rENGINES : Nat := 3
/-- CANARYLIMIT (R21). -/
def rCANARYLIMIT : Nat := 4
/-- FORMAT (R21). -/
def rFORMAT : Nat := 5

/-! ### The semaphore's answers (R76, R77) -/

/-- The scopes a port holds. -/
def State.heldOf (s : State) : Port → BitVec 64
  | .A => s.sem.heldA
  | .B => s.sem.heldB

/-- Does a port hold scope n. -/
def State.holds (s : State) (p : Port) (n : Nat) : Bool := (s.heldOf p).getLsbD n

/-- Do held scopes give what a command needs: each scope named, or scope 0 (R77). -/
def scopesOk (held : BitVec 64) (need : List Nat) : Bool :=
  need.isEmpty || held.getLsbD 0 || need.all (fun n => held.getLsbD n)

/-- Scope of a head (R76). -/
def scopeHead (h : Nat) : Nat := 5 + h
/-- Scope of an encode channel (R76). -/
def scopeChan (c : Nat) : Nat := 29 + c

/-! ### Readiness -/

/-- The control-plane firmware runs: CTRL_RUN (R92, R565). -/
def State.fwRuns (s : State) : Bool := s.regBit .HP_STATUS 0 12

/-- DRAM has been trained: DMC_STATUS.TRAINED (R472). -/
def State.trained (s : State) : Bool := s.regBit .DMC_STATUS 0 31

/-- The MPU entries are locked: MPU_CTL.LOCKED (R495). -/
def State.mpuLocked (s : State) : Bool := s.regBit .MPU_CTL 0 31

/-- The Canary lock is set: CNY_CTL.LOCKED (R145). -/
def State.cnyLocked (s : State) : Bool := s.regBit .CNY_CTL 0 31

/-- Opcodes whose execution needs no DRAM and no earlier step than the board table (R566: the time, reference, ingest MAC,
touch and pair groups), and those of the ports, lanes, power and protection blocks, whose effects lie outside DRAM. -/
def noDramOps : List Nat :=
  [0x0201, 0x0304, 0x0310, 0x2001, 0x5001, 0x5002, 0x5003, 0x5010, 0x5011, 0x5012, 0x5013,
   0x6001, 0x6002, 0x6003, 0x6004, 0x6005, 0x6006, 0x6007, 0x6008, 0x7020, 0x7801, 0x7802, 0x7803,
   0x7C01, 0x7C02, 0x7E01, 0x7E02, 0x3010, 0x3011, 0x0303, 0x4803, 0x4810, 0x6802, 0x2003]

/-- Is a prerequisite of a command still missing (R92, R144, R472, R495, R566). -/
def State.notReady (s : State) (op : Nat) : Bool :=
  if op / 256 = 0x01 then (op == 0x0103 && !s.fwRuns)
  else if !s.fwRuns then true
  else if op = 0x6803 ∨ op = 0x0201 then false
  else if !s.boot.board then true
  else if op = 0x7001 ∨ op = 0x7002 then false
  else if op = 0x6801 then !s.mpuLocked
  else if noDramOps.contains op then false
  else if op = 0x0301 ∨ op = 0x0302 then !s.trained || !s.cnyLocked
  else !s.trained

/-! ### One command (R19, R20, R74) -/

/-- The conditions of a command that R20 ranks after BADPARAM, and the reply body that goes with a refusal. -/
structure Pre where
  notReady : Bool := false
  denied : Bool := false
  locked : Bool := false
  notDuty : Bool := false
  noRes : Bool := false
  rej : Option Nat := none
  checkFail : Bool := false
  rbody : List Byte := []

/-- A Lantern pair of the command interpreter has stopped (R71, R511). -/
def State.ctrlHalted (s : State) : Bool := s.flt.halted.contains 0 || s.flt.halted.contains 1

/-- The interpreter is free for this packet: it is being interpreted, or none is (R71); never during a restart (R25) nor while
one of its Lantern pairs is stopped. -/
def State.canRun (s : State) (r : Req) (op : Nat) : Bool :=
  s.interp.restart.isNone && !s.ctrlHalted &&
    match s.interp.current with
    | none => true
    | some p => p.req == r && p.opcode == op

/-- The scopes that a command's check goes by: those its port held at its start (R74). -/
def State.heldAt (s : State) (r : Req) (op : Nat) : BitVec 64 :=
  match s.interp.current with
  | some p => if p.req = r ∧ p.opcode = op then p.held else s.heldOf r.port
  | none => s.heldOf r.port

/-- KIND bit 2 of the packet being interpreted. -/
def State.isRestarted (s : State) : Bool :=
  match s.interp.current with
  | some p => p.restarted
  | none => false

/-- The interpreter leaves the packet; preempted work resumes (R71, R73). -/
def State.endInterp (s : State) : State :=
  { s with interp := { s.interp with current := s.interp.suspended, suspended := none } }

/-- The first status that applies before execution, in the order of R20; none when the command executes. CHECKFAIL here is
that of an image or check value, which the firmware finds. -/
def firstStatus (bad : Bool) (notReady denied : Bool) (c : Pre) : Option (Status × Nat) :=
  if c.checkFail then some (.CHECKFAIL, 0)
  else if bad then some (.BADPARAM, 0)
  else if notReady || c.notReady then some (.NOTREADY, 0)
  else if denied || c.denied then some (.DENIED, 0)
  else if c.locked then some (.LOCKED, 0)
  else if c.notDuty then some (.NOTDUTY, 0)
  else if c.noRes then some (.NORESOURCE, 0)
  else c.rej.map (fun x => (.REJECTED, x))

/-- What a command's execution answers: at once with a status and a body, later, when something has been taken, or a status
that the execution itself finds, with its reason. -/
inductive Answer where
  | now (s : State) (st : Status) (body : List Byte)
  | later (s : State)
  | refuse (s : State) (st : Status) (reason : Nat) (body : List Byte)

/-- One command packet from its start to its reply or to the arming of its shadows: the statuses of R20 in their order,
then the effect. While another packet is interpreted, or during a restart, the packet has not started and nothing
changes (R25, R71). -/
def command (op : Nat) (r : Req) (s : State) (need : List Nat) (bad : Bool) (c : Pre)
    (eff : State → Answer) : Host.Outcome State Fault Refusal :=
  if s.canRun r op then
    let held := scopesOk (s.heldAt r op) need
    let rs := s.isRestarted
    let s1 := s.endInterp
    match firstStatus bad (s.notReady op) (!held) c with
    | some (st, reason) => .next (s1.replyR r op st.code reason rs c.rbody)
    | none =>
      match eff s1 with
      | .now s2 st body => .next (s2.replyR r op st.code 0 rs body)
      | .later s2 => .next s2
      | .refuse s2 st reason body => .next (s2.replyR r op st.code reason rs body)
  else .next s

/-- The answer OK with no body. -/
def done (s : State) : Answer := .now s .OK []

end Sys2Proof.Machine
end

