-- ==== Sys2Proof/Machine/AudioOps.lean ====
section
/-! DEFINITION. Audio as the other blocks see it: inputs, outputs and channels (R419), house ticks (R417), the change of a
route (R431, R433), and what the outputs do at a give-up (R434). -/

namespace Sys2Proof.Machine

/-- An audio input. -/
def State.ain (s : State) (i : Nat) : AudIn := Tbl.get s.aud.ins i

/-- Replaces an audio input, keeping FILL of AUD_IN_STAT in step. -/
def State.setAin (s : State) (i : Nat) (x : AudIn) : State :=
  ({ s with aud := { s.aud with ins := Tbl.set s.aud.ins i x } }).setBits .AUD_IN_STAT i 25 22 (min 15 x.fifo.length)

/-- Key of a channel of an output or input. -/
def audKey (o ch : Nat) : Nat := 64 * o + ch

/-- An output channel. -/
def State.aout (s : State) (k : Nat) : AudChan := Tbl.get s.aud.outs k

/-- Replaces an output channel. -/
def State.setAout (s : State) (k : Nat) (x : AudChan) : State := { s with aud := { s.aud with outs := Tbl.set s.aud.outs k x } }

/-- A receive stream. -/
def State.rxs (s : State) (r : Nat) : RxStream := Tbl.get s.aud.rx r
/-- A send stream. -/
def State.txs (s : State) (t : Nat) : TxStream := Tbl.get s.aud.tx t

/-- Grid time of sample n of the 96 kHz house clock (R417). -/
def State.tickTime (s : State) (n : Nat) : Int := (n * 1000000000 / 96000 : Nat) + s.aud.ofs

/-- AUD_STATUS.GAVE_UP. -/
def State.audGaveUp (s : State) : Bool := s.regBit .AUD_STATUS 0 30

/-- An input that has a rate: one in use, or an SDI input, which has 48 kHz only (R416, R426). -/
def State.ainRated (s : State) (i : Nat) : Bool := s.regBit .AUD_IN_STAT i 31 || (decide (24 ≤ i) && decide (i < 40))

/-- A channel of an input is non-PCM: its last valid channel status has byte 0 bit 1 set (R425). -/
def State.nonPcm (s : State) (src : Option (Nat × Nat)) : Bool :=
  match src with
  | none => false
  | some (i, ch) => match (Tbl.get s.aud.cs (audKey i ch)).last with
    | some b => (b.headD 0).getLsbD 1
    | none => false

/-- An AUD_ROUTE's change of a channel has ended or been superseded; the command is answered after its last one (R431). -/
def State.routeDone (s : State) (cmd : Option Nat) (key : Nat) (superseded : Bool) : State :=
  match cmd with
  | none => s
  | some id =>
    match s.aud.cmds.find? (fun c => c.id == id) with
    | none => s
    | some c =>
      let c1 := { c with left := c.left.erase key, applied := c.applied + bit01 (!superseded), superseded := c.superseded + bit01 superseded }
      if c1.left.isEmpty then
        ({ s with aud := { s.aud with cmds := s.aud.cmds.filter (fun c => c.id != id) } }).replyR c1.req 0x5810 0 0 c1.restarted
          (leBytes 2 c1.applied ++ leBytes 2 c1.superseded ++ leBytes 2 c1.timeouts ++ leBytes 2 0 ++ timeBytes s.ptp)
      else { s with aud := { s.aud with cmds := s.aud.cmds.map (fun (z : RouteCmd) => if z.id = id then c1 else z) } }

/-- Rate of an output: 96 kHz. -/
def State.aout96 (s : State) (o : Nat) : Bool :=
  if o < 16 then ((Tbl.get s.aud.tdm (o / 4)).u8 1).testBit 2
  else if o < 24 then ((Tbl.get s.aud.aes (8 + (o - 16))).u8 2).testBit 1
  else if o < 40 then false
  else ((s.txs (o - 40)).cfg.u8 1).testBit 1

/-- Channels of an output (R419). -/
def State.aoutChans (s : State) (o : Nat) : Nat :=
  if o < 16 then (Tbl.get s.aud.tdm (o / 4)).u8 2 else if o < 24 then 2 else if o < 40 then 16 else (s.txs (o - 40)).cfg.u8 2

/-- An output is in use. -/
def State.aoutOn (s : State) (o : Nat) : Bool :=
  if o < 16 then ((Tbl.get s.aud.tdm (o / 4)).u8 1).testBit 0 && ((Tbl.get s.aud.tdm (o / 4)).u8 3).testBit (o % 4)
  else if o < 24 then ((Tbl.get s.aud.aes (8 + (o - 16))).u8 2).testBit 0
  else if o < 40 then !(Tbl.get s.hd.outs (256 + (o - 24))).isEmpty
  else (s.txs (o - 40)).bound

/-- An output that has a rate: one in use, or an SDI output, which has 48 kHz only (R416, R426). -/
def State.aoutRated (s : State) (o : Nat) : Bool := s.aoutOn o || (decide (24 ≤ o) && decide (o < 40))

/-- An output channel that sends: of an output in use, below its number of channels. -/
def State.chanInUse (s : State) (key : Nat) : Bool := s.aoutOn (key / 64) && decide (key % 64 < s.aoutChans (key / 64))

/-- A pending change of a channel that does not send any more, or not yet, has nothing to wait for: it ends (DESIGN CHOICE, log 215). -/
def State.endIdle (s : State) (key : Nat) : State :=
  let x := s.aout key
  if x.stage = 0 ∨ s.chanInUse key then s
  else (s.setAout key { x with src := x.want.getD x.src, want := none, stage := 0, cmd := none }).routeDone x.cmd key false

/-- A change of an output channel (R431, R433): a pending one is superseded, its later stage waits for the new target; a
channel with a non-PCM signal changes at the next block start (R425). -/
def State.changeRoute (s : State) (key : Nat) (target : Option (Nat × Nat)) (timeoutUs : Nat) (cmd : Option Nat) : State :=
  let x := s.aout key
  let coded := s.nonPcm x.src || s.nonPcm target
  let s2 : State :=
    if x.stage = 0 then
      if x.src = target then s.routeDone cmd key false
      else s.setAout key { x with want := some target, stage := if coded then 5 else 1, since := s.aud.tick, timeoutUs := timeoutUs, cmd := cmd }
    else
      let s1 := s.routeDone x.cmd key true
      let st := if x.stage = 6 then 6 else if coded then 5 else if x.stage = 4 then 2 else if x.stage = 5 then 1 else x.stage
      s1.setAout key { x with want := some target, stage := st, since := if x.stage = 4 ∨ x.stage = 5 then s.aud.tick else x.since, timeoutUs := timeoutUs, cmd := cmd }
  s2.endIdle key

/-- The house clocks start at the first enable of any audio port (R417); an SDI input or output is one through its embedded audio. -/
def State.startHouse (s : State) : State :=
  if s.regBit .AUD_STATUS 0 31 then s
  else
    let g := s.tm.gridAt s.now
    ({ s with aud := { s.aud with tick := (g * 96000 / 1000000000).toNat + 1 } }).setBit .AUD_STATUS 0 31 true

/-- An output that comes into use starts each of its routes under R431, from silence (log 215). -/
def State.startOutput (s : State) (o : Nat) : State :=
  (s.aud.outs.filter (fun e => e.1 / 64 == o && e.2.stage == 0 && e.2.src.isSome)).foldl (fun (s : State) e =>
    (s.setAout e.1 { e.2 with src := none }).changeRoute e.1 e.2.src e.2.timeoutUs none) s

/-- A channel begins to stop: a ramp-down (R432), which a ramp-up under way turns into at the level it has reached (log 215); a non-PCM
signal stops at a block start instead (R425). What it sent is what it starts with again where `back` says so. -/
def AudChan.stop (x : AudChan) (coded back : Bool) : AudChan :=
  if x.stage = 3 ∨ x.stage = 6 then x
  else if x.stage = 4 then { x with src := x.want.getD none, stage := 3, rampK := 32 - x.rampK }
  else if x.src.isNone then x
  else { x with want := if back then some (x.want.getD x.src) else x.want, stage := if coded then 6 else 3, rampK := 0 }

/-- At a give-up the TDM, AES3 and embedded SDI outputs ramp down and stay silent, and the send streams stop (R434). -/
def State.audioGiveUp (s : State) : State :=
  let s1 := s.setBit .AUD_STATUS 0 30 true
  s1.aud.outs.foldl (fun s e =>
    if e.1 < audKey 40 0 then s.setAout e.1 (e.2.stop (s1.nonPcm e.2.src) false) else s) s1

end Sys2Proof.Machine
end

