-- ==== Sys2Proof/Machine/Surf.lean ====
section
/-! DEFINITION. Surface pools: taking a surface for a new frame, releasing a frame with its header and both check
values, the newest complete surface, pins and pool keys (R100 to R110, R115, R187, R239, R240). -/

namespace Sys2Proof.Machine

/-- Pool of ingest context c. -/
def poolIng (c : Nat) : Nat := c
/-- Pool of camera context c (colour). -/
def poolCam (c : Nat) : Nat := 2048 + c
/-- IR pool of camera context c. -/
def poolIr (c : Nat) : Nat := 2064 + c
/-- Pool of decode session n. -/
def poolDec (n : Nat) : Nat := 2080 + n
/-- GRAPHIC pool g. -/
def poolGfx (g : Nat) : Nat := 2304 + g
/-- Reference pool of encode channel c. -/
def poolEnc (c : Nat) : Nat := 4096 + c

/-- A surface pool. -/
def State.pool (s : State) (k : Nat) : Pool := Tbl.get s.pools k
/-- Replaces a pool. -/
def State.setPool (s : State) (k : Nat) (p : Pool) : State := { s with pools := Tbl.set s.pools k p }
/-- Changes a pool. -/
def State.modPool (s : State) (k : Nat) (f : Pool → Pool) : State := s.setPool k (f (s.pool k))

/-- The surface of an index. -/
def Pool.surf (p : Pool) (i : Nat) : Surface := p.surfs.getD i default
/-- Changes the surface of an index. -/
def Pool.modSurf (p : Pool) (i : Nat) (f : Surface → Surface) : Pool := { p with surfs := p.surfs.modify i f }

/-- The surface of an address, in the pool or among those a replaced pool left. -/
def Pool.atAddr (p : Pool) (addr : Nat) : Option Surface := (p.surfs ++ p.old).find? (fun f => f.addr == addr)

/-- Changes the surface of an address, in the pool or among those a replaced pool left. -/
def Pool.modAt (p : Pool) (addr : Nat) (f : Surface → Surface) : Pool :=
  let g := fun (x : Surface) => if x.addr = addr then f x else x
  { p with surfs := p.surfs.map g, old := p.old.map g, oldNewest := p.oldNewest.map g }

/-- Index of the newest complete surface. -/
def Pool.newestIdx (p : Pool) : Option Nat := p.order.getLast?

/-- The newest complete surface: this pool's, or the one a replaced pool left until the first frame is complete (R169). -/
def Pool.newest (p : Pool) : Option Surface :=
  match p.newestIdx with
  | some i => some (p.surf i)
  | none => p.oldNewest

/-- The newest surface that was complete before a device time: one completed at that very time does not count (R115). -/
def Pool.newestBefore (p : Pool) (t : Nat) : Option Surface :=
  match (p.order.filter (fun i => decide ((p.surf i).since < t))).getLast? with
  | some i => some (p.surf i)
  | none => p.oldNewest

/-- A pinned surface, one being written, or a marked reference buffer (R115, R187, R239). -/
def Surface.inUse (f : Surface) : Bool := !f.pins.isEmpty || f.busy || f.short || f.long || f.key

/-- The surface a writer takes at a frame start (R187): the lowest index without a complete header, else the oldest complete
one; never a pinned or marked one, one being written, or the newest. -/
def Pool.candidate (p : Pool) : Option Nat :=
  let free := fun i => !(p.surf i).inUse && p.writing != some i
  match (List.range p.surfs.length).find? (fun i => (p.surf i).header.isNone && free i) with
  | some i => some i
  | none => (p.order.dropLast).find? free

/-- Takes a surface: its header is overwritten with zeros before the first pixel (R187, R240). -/
def Pool.take (p : Pool) : Option (Nat × Pool) :=
  p.candidate.map (fun i =>
    (i, { (p.modSurf i (fun f => { f with header := none, lines := [], bandAt := [], zeroed := true, busy := true, patch := [] })) with order := p.order.filter (· != i), writing := some i }))

/-- The interconnect's class of a surface by the identity of its writer (R111, R487): 0 VIDEO, 1 GRAPHIC. -/
def classOf (master : Nat) : Nat := if master = 8 ∨ master = 10 ∨ master = 12 ∨ master = 13 ∨ master = 14 then 0 else 1

/-- The header of a released frame, sealed with both check values at the surface's address (R105, R108 to R110). -/
def mkHeader (tag : Tag) (content : Word) (w h fmt master addr done : Nat) : Header :=
  let hd : Header := { tag := tag.sealed, contentCrc := content, width := w, height := h, format := fmt, writer := master,
                       cls := classOf master, done := done }
  { hd with integrityCrc := hd.integrity addr }

/-- FLAGS.STILL and CLASS of the header of a surface that a STILL layer holds, or that the last one has let go; the check values
stay right where they were right (R107, R108; log 154). -/
def Header.hold (hd : Header) (addr : Nat) (on : Bool) : Header :=
  let f := hd.tag.flags
  let fl := if on then f ||| fSTILL else f - (f &&& fSTILL)
  let ok := crc8 hd.tag.covered = hd.tag.crc ∧ hd.integrity addr = hd.integrityCrc
  let h1 : Header := { hd with tag := { hd.tag with flags := fl }, cls := if on then 2 else 0 }
  if ok then
    let h2 : Header := { h1 with tag := h1.tag.sealed }
    { h2 with integrityCrc := h2.integrity addr }
  else h1

/-- What a writer knows of a finished frame. -/
structure FrameOut where
  lines : List (List Nat)
  width : Nat
  height : Nat
  time : Nat
  basis : Nat
  flags : Nat
  master : Nat
  /-- when its bands were written, where the writer's cursor is known (R273) -/
  bandAt : List Nat := []

/-- The surface with the header of a finished frame: PTP time `now`, device time `dev` (R100, R108). -/
def Surface.seal (g : Surface) (source seq fmt : Nat) (f : FrameOut) (now dev : Nat) : Surface :=
  let tag : Tag := { sourceId := source, flags := f.flags, seq := seq, time := f.time % (2 ^ 30 * 1000000000), basis := f.basis }
  { g with lines := f.lines, since := dev, busy := false, bandAt := f.bandAt, patch := []
           header := some (mkHeader tag (contentCrc f.lines) f.width f.height fmt f.master g.addr now) }

/-- Releases the frame written into surface i: the header goes last, the surface becomes the newest complete one, and
SEQUENCE advances (R102, R108, R190); a surface that a replaced pool left is the source's newest no more (R169). -/
def Pool.release (p : Pool) (i : Nat) (f : FrameOut) (now dev : Nat) : Pool :=
  let p1 := p.modSurf i (fun g => g.seal p.sourceId p.nextSeq p.format f now dev)
  { p1 with order := p1.order.filter (· != i) ++ [i], writing := if p.writing = some i then none else p.writing
            nextSeq := (p.nextSeq + 1) % 2 ^ 32, oldNewest := if p.order.isEmpty then p.oldNewest else none, writerFault := false
            old := p.old.map (fun g => { g with pins := g.pins.filter (· != 303) }) }

/-- Releases the frame written into the surface at an address. One of a pool that has been replaced since becomes the source's
newest until the first frame of the new pool is complete (R169). -/
def Pool.releaseAt (p : Pool) (addr source fmt : Nat) (f : FrameOut) (now dev : Nat) : Pool :=
  match p.surfs.findIdx? (fun g => g.addr == addr) with
  | some i => p.release i f now dev
  | none =>
    match p.old.find? (fun g => g.addr == addr) with
    | none => p
    | some g =>
      let g1 := g.seal source p.nextSeq fmt f now dev
      let newest := p.order.isEmpty && source == p.sourceId
      { p with old := p.old.map (fun x => if x.addr = addr then { g1 with pins := if newest then 303 :: x.pins else x.pins }
                        else if newest then { x with pins := x.pins.filter (· != 303) } else x)
               nextSeq := if source = p.sourceId then (p.nextSeq + 1) % 2 ^ 32 else p.nextSeq
               oldNewest := if newest then some g1 else p.oldNewest }

/-- Gives up the surface being written; it stays without a header (R187). -/
def Pool.abandon (p : Pool) : Pool :=
  { p with writing := none, surfs := match p.writing with | some i => p.surfs.modify i (fun g => { g with busy := false }) | none => p.surfs }

/-- Gives up the surface at an address. -/
def Pool.abandonAt (p : Pool) (addr : Nat) : Pool :=
  let f := fun (g : Surface) => if g.addr = addr then { g with busy := false } else g
  { p with surfs := p.surfs.map f, old := p.old.map f
           writing := match p.writing with | some i => if (p.surf i).addr = addr then none else some i | none => none }

/-- Adds a holder to a surface (R115, R239). -/
def Pool.pin (p : Pool) (i holder : Nat) : Pool := p.modSurf i (fun f => { f with pins := holder :: f.pins })

/-- Takes a holder off every surface of a pool. -/
def Pool.unpin (p : Pool) (holder : Nat) : Pool :=
  { p with surfs := p.surfs.map (fun f => { f with pins := f.pins.filter (· != holder) })
           old := p.old.map (fun f => { f with pins := f.pins.filter (· != holder) }) }

/-- Draws a free value: the model's own counter advances. -/
def State.draw (s : State) : Nat × State := (s.free, { s with free := s.free + 1 })

/-! ### DRAM allocation (R478) -/

/-- Bytes of an allocation granule, 2 MiB (R478). -/
def granule : Nat := 2097152

/-- First address of DRAM in the device address space (R613). -/
def dramBase : Nat := 0x010000000000

/-- First-fit: the lowest start at or above `at0` where n granules lie free below `cap`; runs are sorted by start. -/
def firstFit (n cap : Nat) : List (Nat × Nat) → Nat → Option Nat
  | [], at0 => if at0 + n ≤ cap then some at0 else none
  | (st, len) :: t, at0 => if at0 + n ≤ st then some at0 else firstFit n cap t (max at0 (st + len))

/-- Allocates one contiguous run for an object of some bytes (R478); none when no run is free. -/
def State.alloc (s : State) (bytes : Nat) : Option (Nat × State) :=
  let n := max 1 (ceilDiv bytes granule)
  (firstFit n s.dramGranules s.runs 512).map (fun st =>
    (dramBase + st * granule, { s with runs := Tbl.insert s.runs st n }))

/-- Allocates k objects of the same size, or none of them. -/
def State.allocMany (s : State) (bytes : Nat) : Nat → Option (List Nat × State)
  | 0 => some ([], s)
  | k + 1 =>
    match s.alloc bytes with
    | none => none
    | some (a, s1) => (State.allocMany s1 bytes k).map (fun r => (a :: r.1, r.2))

/-- Returns the granules of the object at an address (R478). -/
def State.release (s : State) (addr : Nat) : State :=
  let k := (addr - dramBase) / granule
  { s with runs := Tbl.erase s.runs k, mem := { s.mem with stale := (k, Tbl.get s.runs k) :: s.mem.stale.filter (fun e => e.1 != k) } }

/-- Returns the granules of several objects. -/
def State.releaseAll (s : State) (addrs : List Nat) : State := addrs.foldl State.release s

/-- Tiles of a ZLC surface (R312). -/
def zlcTiles (w h : Nat) : Nat := ceilDiv w 64 * ceilDiv h 16

/-- Slot bytes of a ZLC format (R312). -/
def zlcSlot (fmt : Nat) : Nat := if fmt = 0x21 then 1920 else if fmt = 0x22 then 3840 else 2560

/-- Worst-case ZLC size: header, directory and slots (R312). -/
def zlcSize (w h fmt : Nat) : Nat :=
  let t := zlcTiles w h
  64 + ceilDiv t 64 * 64 + t * zlcSlot fmt

/-! ### Binding and freeing pools -/

/-- A freshly allocated pool (R186). -/
def newPool (addrs : List Nat) (src w h fmt seq cls : Nat) : Pool :=
  { bound := true, sourceId := src, maxW := w, maxH := h, format := fmt, cls := cls, nextSeq := seq,
    surfs := addrs.map (fun a => { addr := a }) }

/-- Surfaces of a pool that is replaced or freed: those that nothing holds return their granules now, those pinned or being
written stay until they are let go (R169, R258). -/
def Pool.leftover (p : Pool) : List Surface × List Nat :=
  let all := (p.old ++ p.surfs).map (fun f => { f with pins := f.pins.filter (· != 303) })
  let kept := fun (f : Surface) => !f.pins.isEmpty || f.busy
  (all.filter kept, (all.filter (fun f => !kept f)).map (·.addr))

/-- Frees a pool; pinned surfaces stay until they are let go. -/
def State.freePool (s : State) (k : Nat) : State :=
  let o := s.pool k
  (s.releaseAll o.leftover.2).setPool k { (default : Pool) with old := o.leftover.1 }

/-- Lets go the surfaces of replaced pools that nothing pins any more (R169, R258). -/
def State.collect (s : State) (k : Nat) : State :=
  let o := s.pool k
  let dead := (o.old.filter (fun f => f.pins.isEmpty && !f.busy)).map (·.addr)
  (s.releaseAll dead).setPool k { o with old := o.old.filter (fun f => !f.pins.isEmpty || f.busy) }

/-- Keys of the bound pools that carry a source ID. -/
def State.poolsOf (s : State) (src : Nat) : List Nat :=
  (s.pools.filter (fun e => e.2.bound && e.2.cls == 0 && e.2.sourceId == src)).map (·.1)

/-- The PTP time nearest an arrival that maps to an RTP timestamp of a clock of hz Hz (R103). -/
def rtpToPtp (hz ts arrival : Nat) : Nat :=
  let a := arrival * hz / 1000000000
  let d : Int := ((ts : Int) - a) % (2 ^ 32 : Nat)
  let d' := if 2 * d < (2 ^ 32 : Nat) then d else d - (2 ^ 32 : Nat)
  ceilDiv (((a : Int) + d').toNat * 1000000000) hz

/-- Tag time, basis and flags of a frame by the rules of R103 and R104: a capture time later than the arrival is clamped. -/
def tagTime (basis0 : Bool) (hz ts arrival : Nat) : Nat × Nat × Nat :=
  if basis0 then
    let t := rtpToPtp hz ts arrival
    if arrival < t then (arrival, 1, fCLAMPED) else (t, 0, 0)
  else (arrival, 1, 0)

/-! ### Tags and headers checked (R105, R106, R110, R122, R395) -/

/-- A tag time, known modulo 2^30 s, brought next to a PTP time (R106). -/
def nearTag (tag now : Nat) : Int :=
  let m := 2 ^ 30 * sec
  let d := ((tag : Int) - now + (2 ^ 29 * sec : Nat)) % (m : Nat) - (2 ^ 29 * sec : Nat)
  (now : Int) + d

/-- The tag time that the checks use: the stored time plus the steps recorded for its source (R395). -/
def State.tagTimeOf (s : State) (t : Tag) : Int :=
  nearTag t.time s.ptp + ((s.tm.seqSteps.filter (fun e => e.1 == t.sourceId && decide ((e.2.1 + 2 ^ 32 - t.seq) % 2 ^ 32 < 2 ^ 31))).map
    (fun e => e.2.2)).sum

/-- Pool of a VIDEO source: the bound one that carries the source ID. -/
def State.poolOfSource (s : State) (src : Nat) : Option Nat := ((s.poolsOf src).filter (fun k => decide (k < 2304)))[0]?

/-- A header as it stands in DRAM: bytes written over the interconnect lie over those of its writer (R112). -/
def Surface.headerBytes (f : Surface) (hd : Header) : List Byte := hd.bytes.zipIdx.map (fun e => (Tbl.find f.patch e.2).getD e.1)

/-- Integrity of a surface header as it stands in DRAM: both check values (R105, R110, R122). -/
def headerBad (f : Surface) (hd : Header) : Bool :=
  if f.patch.all (fun e => decide (64 ≤ e.1)) then decide (crc8 hd.tag.covered ≠ hd.tag.crc) || decide (hd.integrity f.addr ≠ hd.integrityCrc)
  else
    let b := f.headerBytes hd
    decide (crc8 (b.take 12 ++ (b.drop 13).take 3) ≠ b.getD 12 0)
      || decide (crc32cFold (BitVec.ofNat 32 (f.addr / 2 ^ 12) ^^^ BitVec.ofNat 32 (Body.u32 b 8)) (b.take 20 ++ b.drop 24) ≠ BitVec.ofNat 32 (Body.u32 b 20))

/-- SEQUENCE a lies behind b by less than 2^31 (R122). -/
def seqBack (a b : Nat) : Bool := decide ((b + 2 ^ 32 - a) % 2 ^ 32 ≠ 0 ∧ (b + 2 ^ 32 - a) % 2 ^ 32 < 2 ^ 31)

end Sys2Proof.Machine
end

