-- ==== Sys2Proof/Machine/Heads.lean ====
section
/-! DEFINITION. Heads as the other blocks see them: rasters and gangs (R347 to R352), virtual heads, islands (R27),
outputs bound, and what the outputs do at a give-up (R374 to R376). -/

namespace Sys2Proof.Machine

/-- A head. -/
def State.head (s : State) (h : Nat) : Head := Tbl.get s.hd.head h
/-- Replaces a head, keeping HELD and ARMED of its status register in step (R345). -/
def State.setHead (s : State) (h : Nat) (x : Head) : State :=
  let s1 := { s with hd := { s.hd with head := Tbl.set s.hd.head h x } }
  (s1.setBit .HD_CMP_STAT h 31 (!x.held.isEmpty)).setBit .HD_CMP_STAT h 30 x.armed.isSome
/-- Changes a head. -/
def State.modHead (s : State) (h : Nat) (f : Head → Head) : State := s.setHead h (f (s.head h))

/-! ### Rasters (fields of HD_TIMING) -/

/-- A flag of an HD_TIMING body: 0 ENABLE, 1 INTERLACED, 2 GANG, 3 GANG_MAP. -/
def tFlag (b : Body) (k : Nat) : Bool := (b.u8 1).testBit k
/-- H_ACTIVE. -/
def tHact (b : Body) : Nat := b.u16 4
/-- H_TOTAL. -/
def tHtot (b : Body) : Nat := b.u16 10
/-- V_ACTIVE. -/
def tVact (b : Body) : Nat := b.u16 12
/-- V_TOTAL. -/
def tVtot (b : Body) : Nat := b.u16 18
/-- RATE_NUM. -/
def tNum (b : Body) : Nat := b.u16 20
/-- RATE_DEN. -/
def tDen (b : Body) : Nat := b.u16 22
/-- PHASE_NS. -/
def tPhase (b : Body) : Nat := b.u32 24
/-- WIN_LEAD in force: 0 selects 2 lines (R347). -/
def tLead (b : Body) : Nat := if b.u8 2 = 0 then 2 else b.u8 2
/-- Nominal blanking lines. -/
def tVnom (b : Body) : Nat := tVtot b - tVact b
/-- Frame period in ns. -/
def tTf (b : Body) : ℚ := 1000000000 * (tDen b : ℚ) / tNum b
/-- Nominal line period in ns. -/
def tTl (b : Body) : ℚ := tTf b / tVtot b

/-- Frame boundary k of a raster on the grid (R348). -/
def boundaryAt (b : Body) (k : Nat) : Nat := k * tDen b * 1000000000 / tNum b + tPhase b

/-- The first boundary of a raster after a grid time, and its index (R348). -/
def boundaryAfter (b : Body) (g : Int) : Nat × Nat :=
  let k0 := (g - tPhase b).toNat * tNum b / (max 1 (tDen b) * 1000000000)
  let k := if (boundaryAt b k0 : Int) > g then k0 else if (boundaryAt b (k0 + 1) : Int) > g then k0 + 1 else k0 + 2
  (k, boundaryAt b k)

/-- The raster of a head runs: HD_STAT.ENABLED. -/
def State.running (s : State) (h : Nat) : Bool := s.regBit .HD_STAT h 31

/-- A raster that makes a gang: ENABLE and GANG (R351). -/
def isGang (b : Body) : Bool := tFlag b 0 && tFlag b 2

/-- First head of the gang that holds head h, if one exists (R351). -/
def State.gangOf (s : State) (h : Nat) : Option Nat :=
  let g := h / 4 * 4
  if isGang (s.head g).set.timing then some g else none

/-- A member of a gang other than its first head: it takes no commands of its own (R307, R351). -/
def State.gangMember (s : State) (h : Nat) : Bool := h % 4 != 0 && (s.gangOf h).isSome

/-- A head that feeds an encode channel: HD_STAT.VIRTUAL (R262). -/
def State.isVirtual (s : State) (h : Nat) : Bool := s.regBit .HD_STAT h 24

/-- OUT_MODE of a head: 0 normal, 1 hold, 2 hatch (R375, R376). -/
def State.outMode (s : State) (h : Nat) : Nat := s.regBits .HD_STAT h 23 22

/-- Composition island of a head (R27, R627). -/
def islCmp (h : Nat) : Nat := 27 + h / 8
/-- Scan-out island of a head. -/
def islSco (h : Nat) : Nat := 30 + h / 8
/-- Canary island of a head. -/
def islCny (h : Nat) : Nat := 33 + h / 8

/-- An unmasked record names this head's composition, Canary or scan-out (R125, R375, R627). -/
def State.headFault (s : State) (h : Nat) : Bool :=
  s.flt.unmasked.any (fun e => e.2 == h && (e.1 == islCmp h || e.1 == islSco h || e.1 == islCny h))

/-- The HD_OUTPUT bodies bound, with their keys TYPE × 256 + INDEX. -/
def State.outputs (s : State) : List (Nat × Body) := s.hd.outs

/-- HEAD of an HD_OUTPUT body. -/
def oHead (b : Body) : Nat := b.u8 3

/-! ### What outputs do at a give-up (R374 to R376) -/

/-- Sets a head's output mode and its bit of HD_OUT_STATUS. -/
def State.setOutMode (s : State) (h m : Nat) : State :=
  (s.setBits .HD_STAT h 23 22 m).setBit .HD_OUT_STATUS 0 h (m != 0)

/-- The hatch generators of a head take its outputs (R376). -/
def State.startHatch (s : State) (h cause : Nat) : State :=
  if s.outMode h = 2 then s
  else ((s.setOutMode h 2).modHead h (fun x => { x with holdEnd := none })).event 0x4805 [BitVec.ofNat 8 h, 1#8, BitVec.ofNat 8 cause]

/-- HOLD_MAX in ms (R375). -/
def State.holdMax (s : State) : Nat := s.regBits .HD_HOLD_MAX 0 7 0

/-- From the give-up instant a head holds, or hatches when its path has a fault or HOLD_MAX is 0 (R375, R376). -/
def State.headGiveUp (s : State) (h : Nat) : State :=
  if !s.running h || s.isVirtual h || s.outMode h != 0 then s
  else if s.headFault h then s.startHatch h 1
  else if s.holdMax = 0 then s.startHatch h 0
  else ((s.setOutMode h 1).modHead h (fun x => { x with holdEnd := some (s.ptp + s.holdMax * ms) })).event 0x4805
    [BitVec.ofNat 8 h, 0#8, 0#8]

/-- Every flow stops (R374). -/
def State.stopFlows (s : State) : State :=
  let s1 := (List.range 48).foldl (fun s f => s.setBit .HD_FLOW_STAT f 30 false) s
  (List.range 16).foldl (fun s c => s.setBit .HD_EFLOW_STAT c 30 false) s1

/-- The outputs at a give-up: flows stop, heads hold or hatch, audio falls silent (R374 to R376, R434). -/
def State.outputsGiveUp (s : State) : State :=
  (((List.range 24).foldl State.headGiveUp s.stopFlows).audioGiveUp).setBit .HD_OUT_STATUS 0 31 true

end Sys2Proof.Machine
end

