-- ==== Sys2Proof/Machine/FaultOps.lean ====
section
/-! DEFINITION. Duty and faults as shared operations: the pair state and DUTY_OUT (R523, R526), the give-up, and the
entry of a fault record into the log with its classes, counters, events and escalation (R504 to R509, R524). -/

namespace Sys2Proof.Machine

/-! ### Fault classes (R505, R543) -/

/-- SRAM_CE. -/
def fcSRAM_CE : Nat := 0x01
/-- SRAM_UE. -/
def fcSRAM_UE : Nat := 0x02
/-- DRAM_UE. -/
def fcDRAM_UE : Nat := 0x03
/-- DRAM_CHANNEL. -/
def fcDRAM_CHANNEL : Nat := 0x04
/-- RETRY. -/
def fcRETRY : Nat := 0x05
/-- ENGINE. -/
def fcENGINE : Nat := 0x06
/-- LOCKSTEP. -/
def fcLOCKSTEP : Nat := 0x07
/-- CANARY. -/
def fcCANARY : Nat := 0x08
/-- UNDERRUN. -/
def fcUNDERRUN : Nat := 0x09
/-- FLOW_GUARD. -/
def fcFLOW_GUARD : Nat := 0x0A
/-- CLOCK. -/
def fcCLOCK : Nat := 0x0B
/-- ISLAND. -/
def fcISLAND : Nat := 0x0C
/-- MPU. -/
def fcMPU : Nat := 0x0D
/-- COMMIT_REFUSED. -/
def fcCOMMIT : Nat := 0x0E
/-- WATCHDOG. -/
def fcWATCHDOG : Nat := 0x0F
/-- CHECK. -/
def fcCHECK : Nat := 0x10
/-- THERMAL. -/
def fcTHERMAL : Nat := 0x11
/-- VOLTAGE. -/
def fcVOLTAGE : Nat := 0x12
/-- FIRMWARE. -/
def fcFIRMWARE : Nat := 0x13
/-- DUTY_READBACK. -/
def fcDUTY_READBACK : Nat := 0x20
/-- SEAM_PROTOCOL. -/
def fcSEAM : Nat := 0x21
/-- DRILL. -/
def fcDRILL : Nat := 0x22
/-- SNAPSHOT. -/
def fcSNAPSHOT : Nat := 0x23

/-! ### Duty (R523 to R526) -/

/-- DUTY_OUT of this device. -/
def State.onDuty (s : State) : Bool := s.regBit .PAIR_STATUS 0 25
/-- STATE of the pair sequencer (R523). -/
def State.pairState (s : State) : Nat := s.regBits .PAIR_STATUS 0 31 29
/-- PAIR_CFG.ENABLE. -/
def State.paired (s : State) : Bool := s.regBit .PAIR_CFG 0 31

/-- Drives DUTY_OUT and notes the time of the change (R526, R527). -/
def State.setDutyOut (s : State) (b : Bool) : State :=
  if s.onDuty = b then s
  else ((s.setBit .PAIR_STATUS 0 25 b).setReg .PAIR_EVT_SEC 0 (BitVec.ofNat 32 (s.ptp / sec))).setReg .PAIR_EVT_NS 0
    (BitVec.ofNat 32 (s.ptp % sec))

/-- Moves the pair sequencer to a state and raises PAIR_STATE (R523, R545). SYNCING starts with what DUTY_IN reads now (R527), and a
handover that a standby has acknowledged ends when it leaves STANDBY (R530). -/
def State.setPairState (s : State) (st cause : Nat) : State :=
  let old := s.pairState
  if old = st then s
  else
    let s1 := ((s.setBits .PAIR_STATUS 0 31 29 st).setBit .PAIR_STATUS 0 21 (st != 5)).setBit .CNY_CTL 0 30 (st == 2)
    let p := { s1.pair with handover := if st = 2 ∨ st = 3 then s1.pair.handover else none }
    let s2 := { s1 with pair := if st = 1 then { p with sawIn := s1.regBit .PAIR_STATUS 0 24, waitFrom := s1.now, snapAt := none, snapFails := 0 } else p }
    s2.event 0x7801 [BitVec.ofNat 8 st, BitVec.ofNat 8 old, BitVec.ofNat 8 cause]

/-- SUPPRESSED channels of a device that takes duty code a key picture next, with cause 3; its first packet carries the number
`jump` after the last one of the duty's latest ENC_ROW record (R536). -/
def State.resumeChans (s : State) (jump : Nat) : State :=
  { s with enc := { s.enc with chan := s.enc.chan.map (fun (e : Nat × EncChan) =>
      if s.regBits .ENC_CH_STAT e.1 31 30 = 3 then (e.1, { e.2 with needKey := some 3, resume := some ((e.2.mirrorSeq + jump) % 65536) }) else e) } }

/-- Kinds of Seam link records, in the order of R522. -/
inductive SeamKind where
  | heartbeat | latch | decision | frameCrc | encPicture | encRow | keyReq | giveUp | handover | handoverAck | snapshot | snapshotReq
deriving DecidableEq, Repr

/-- A number for each kind, in the order of R522. -/
def SeamKind.code : SeamKind → Nat
  | .heartbeat => 0 | .latch => 1 | .decision => 2 | .frameCrc => 3 | .encPicture => 4 | .encRow => 5 | .keyReq => 6
  | .giveUp => 7 | .handover => 8 | .handoverAck => 9 | .snapshot => 10 | .snapshotReq => 11

/-- Sends a record on both lanes of the Seam link, while pairing is on; each copy ends with the CRC-32C of its bytes (R521, R522). -/
def State.seam (s : State) (k : SeamKind) (bytes : List Byte) : State :=
  if s.paired then s.emit (.seam k.code (bytes ++ leBytes 4 (crc32c bytes).toNat)) else s

/-- The PAIR_SWITCH commands that wait are answered: DUTY_OUT has been deasserted (R530, PAIR_SWITCH). -/
def State.answerSwitch (s : State) : State :=
  s.pair.switchReqs.foldl (fun (s : State) w => s.replyR w.req 0x7802 0 0 w.restarted (timeBytes s.ptp))
    { s with pair := { s.pair with handover := none, acked := false, switchReqs := [] } }

/-- The duty's give-up: DUTY_OUT falls, GIVE_UP is sent, outputs stop, hold or hatch (R374, R526). Cause: 0 fault, 1 event
input, 2 PAIR_SWITCH. -/
def State.giveUp (s : State) (cause : Nat) : State :=
  let s1 := (s.setDutyOut false).seam .giveUp (leBytes 1 cause)
  let s2 := ({ s1 with pair := { s1.pair with taken := false } }).answerSwitch
  let bad := s2.regBit .FLT_STATUS 0 28
  (s2.setPairState (if bad then 5 else 4) (if cause = 0 then 3 else 2)).outputsGiveUp

/-! ### The fault log (R504 to R509) -/

/-- The 32 bytes of a record (R504). -/
def FaultRec.bytes (r : FaultRec) : List Byte :=
  timeBytes r.time ++ leBytes 1 r.island ++ leBytes 1 r.cls ++ leBytes 1 r.sev ++ leBytes 1 r.action ++ leBytes 2 r.inst
    ++ leBytes 2 r.seq ++ (r.detail ++ List.replicate 16 0#8).take 16

/-- The copy of the first unmasked record follows its ACTION: FLT_FIRST[2] bits 31:24, once, and its SEQ is in FLT_FIRST[3]
(R506, R509; DEDUCED, log 222). -/
def State.firstAction (s : State) (seq action : Nat) : State :=
  if s.regBit .FLT_STATUS 0 31 ∧ s.regBits .FLT_FIRST 3 31 16 = seq ∧ s.regBits .FLT_FIRST 2 31 24 = 0 then s.setBits .FLT_FIRST 2 31 24 action else s

/-- Sets ACTION of the logged record with a sequence number, and raises FLT_ESCALATED for it (R506, R509). -/
def State.setAction (s0 : State) (seq action : Nat) : State :=
  let s := s0.firstAction seq action
  match s.flt.log.find? (fun r => r.seq == seq) with
  | none => s
  | some r =>
    let s1 := { s with flt := { s.flt with log := s.flt.log.map (fun (x : FaultRec) => if x.seq = seq then { x with action := action } else x) } }
    s1.eventAt r.time 0x7021 (leBytes 1 r.island ++ leBytes 1 r.cls ++ leBytes 1 action ++ leBytes 1 0 ++ leBytes 2 seq)

/-- DETAIL of a record: what the class gives, or 16 free bytes where the spec states none (R504). -/
def State.detailOf (s : State) (detail : List Byte) : List Byte × State :=
  if detail.isEmpty then
    let (k, s1) := s.draw
    let (j, s2) := s1.draw
    (leBytes 8 (Config.freeWord k).toNat ++ leBytes 8 (Config.freeWord j).toNat, s2)
  else (detail, s)

/-- A record enters the log: ring, counters, first unmasked record, FLT_RECORD (R504, R506). -/
def State.logRecord (s0 : State) (island cls sev inst : Nat) (detail0 : List Byte) : State × FaultRec :=
  let (detail, s) := s0.detailOf detail0
  let seq := s.regBits .FLT_COUNT 0 15 0
  let r : FaultRec := { time := s.ptp, island := island, cls := cls, sev := sev, inst := inst, seq := seq, detail := detail }
  let s1 := { s with flt := { s.flt with log := (r :: s.flt.log).take 256 } }
  let s2 := (s1.bumpWrap .FLT_COUNT 0).addWrapBits .FLT_WR 0 7 0 1
  let s3 := s2.setReg .FLT_ISL_LAST island (BitVec.ofNat 32 (cls % 256 + 256 * (sev % 2)))
  if sev = 0 then
    let s4 := s3.bumpSat .FLT_ISL_MASKED island
    (s4.eventPerSec 0x7020 (island * 256 + cls) 1 (fun n => (r.bytes.drop 8) ++ leBytes 4 n), r)
  else
    let s4 := s3.bumpSat .FLT_ISL_UNMASKED island
    let first := !s4.regBit .FLT_STATUS 0 31
    let s5 := if first then
        (List.range 8).foldl (fun s k => s.setReg .FLT_FIRST k (BitVec.ofNat 32 (Body.u32 r.bytes (4 * k))))
          (((s4.setBit .FLT_STATUS 0 31 true).setBits .FLT_STATUS 0 15 8 island).setBits .FLT_STATUS 0 7 0 cls)
      else s4
    let s6 := { s5 with flt := { s5.flt with unmasked := s5.flt.unmasked ++ [(island, inst)] } }
    (((s6.setBit .FLT_STATUS 0 28 true).event 0x7020 ((r.bytes.drop 8) ++ leBytes 4 0)), r)

/-- A device that is not on duty and has an unmasked record is INELIGIBLE, and its outputs act as at a give-up (R524). -/
def State.ineligible (s : State) : State :=
  if s.pairState = 5 then s else (s.setPairState 5 3).outputsGiveUp

/-- A fault record (R504): a masked one causes no action; the first unmasked one on duty makes the management plane's
release due within 1 ms; every other unmasked one carries ACTION 3 (R508, R524). -/
def State.fault (s : State) (island cls sev inst : Nat) (detail : List Byte) : State :=
  let (s1, r) := s.logRecord island cls sev inst detail
  if sev = 0 then s1
  else if s1.onDuty then
    match s1.flt.release with
    | none => { s1 with flt := { s1.flt with release := some (r.seq, s1.now + ms) } }
    | some _ => s1.setAction r.seq 3
  else (s1.setAction r.seq 3).ineligible

/-- An unmasked record of a source that releases duty in hardware, with ACTION 2 (R509): an earlier record whose release
was still due carries ACTION 3. -/
def State.faultHw (s : State) (island cls inst : Nat) (detail : List Byte) : State :=
  let (s1, r) := s.logRecord island cls 1 inst detail
  if s1.onDuty then
    let s2 := match s1.flt.release with
      | some e => ({ s1 with flt := { s1.flt with release := none } }).setAction e.1 3
      | none => s1
    let s3 := (s2.setBit .FLT_STATUS 0 30 true).setBit .FLT_STATUS 0 29 true
    (s3.giveUp 0).setAction r.seq 2
  else (s1.setAction r.seq 3).ineligible

/-- The release by the management plane that is due (R508). -/
def State.mgmtRelease (s : State) : State :=
  match s.flt.release with
  | none => s
  | some e =>
    let s1 := { s with flt := { s.flt with release := none } }
    if s1.onDuty then ((s1.setBit .FLT_STATUS 0 30 true).giveUp 0).setAction e.1 1
    else (s1.setAction e.1 3).ineligible

end Sys2Proof.Machine
end

