-- ==== Sys2Proof/Machine/Board.lean ====
section
/-! DEFINITION. The board table as the other blocks see it (R463, R567, R573 to R583), PRBS tests on lanes (R585, R586),
island power (R29, R30, R559 to R561) and the voltage set point (R552, R553). -/

namespace Sys2Proof.Machine

/-! ### Sections of the board table (R579) -/

/-- Offset of the section of a TYPE; 0 when the table has none. -/
def tabSec (t : Body) (ty : Nat) : Nat :=
  (((List.range 5).find? (fun k => t.u16 (16 + 12 * k) == ty)).map (fun k => t.u32 (20 + 12 * k))).getD 0

/-- PROTOCOL of quad q (R573, R580). -/
def qProto (t : Body) (q : Nat) : Nat := t.u8 (tabSec t 1 + 8 * q)
/-- LANE_MASK of quad q. -/
def qMask (t : Body) (q : Nat) : Nat := t.u8 (tabSec t 1 + 8 * q + 1)
/-- ETH_MODE nibble of lane n of quad q. -/
def qEthMode (t : Body) (q n : Nat) : Nat := t.u16 (tabSec t 1 + 8 * q + 2) / 16 ^ n % 16
/-- DP_MAX_RATE of quad q. -/
def qDpMax (t : Body) (q : Nat) : Nat := t.u8 (tabSec t 1 + 8 * q + 4)
/-- POLARITY of quad q. -/
def qPolarity (t : Body) (q : Nat) : Nat := t.u8 (tabSec t 1 + 8 * q + 5)

/-- Lanes of a quad that its protocol uses. -/
def qLanes (t : Body) (q : Nat) : List Nat := (maskBits (qMask t q) 4).map (fun n => 4 * q + n)

/-- The lanes of each MAC, in number order (R574). -/
def boardMacs (t : Body) : List (List Nat) :=
  ((List.range 16).map (fun q =>
    if qProto t q = 1 then [[4 * q, 4 * q + 1, 4 * q + 2, 4 * q + 3]] else if qProto t q = 2 then (qLanes t q).map (fun l => [l]) else [])).flatten

/-- The lane of each SDI input and output, in number order (R574). -/
def boardSdi (t : Body) : List Nat := ((List.range 16).map (fun q => if qProto t q = 3 then qLanes t q else [])).flatten

/-- The quad of each DisplayPort transmitter, in number order (R574). -/
def boardDp (t : Body) : List Nat := (List.range 16).filter (fun q => qProto t q == 4)

/-- The board table in force; empty before it is taken. -/
def State.board (s : State) : Body := if s.boot.board then s.boot.table else []

/-- Does the board table number MAC m (R154, R574). -/
def State.macOnBoard (s : State) (m : Nat) : Bool := decide (m < (boardMacs s.board).length)
/-- Lanes of MAC m. -/
def State.macLanes (s : State) (m : Nat) : List Nat := (boardMacs s.board).getD m []
/-- Does the board table number SDI input and output i. -/
def State.sdiOnBoard (s : State) (i : Nat) : Bool := decide (i < (boardSdi s.board).length)
/-- Lane of SDI input and output i. -/
def State.sdiLanes (s : State) (i : Nat) : List Nat := ((boardSdi s.board)[i]?).toList
/-- Quad of DisplayPort transmitter d. -/
def State.dpQuad (s : State) (d : Nat) : Option Nat := (boardDp s.board)[d]?
/-- Lanes of DisplayPort transmitter d that the board wires. -/
def State.dpLanes (s : State) (d : Nat) : List Nat := ((s.dpQuad d).map (qLanes s.board)).getD []

/-- Rate of a MAC in bit/s (R573, R580). -/
def State.macRate (s : State) (m : Nat) : ℚ :=
  match s.macLanes m with
  | [l] => if qEthMode s.board (l / 4) (l % 4) < 2 then 10000000000 else 25000000000
  | [] => 0
  | _ => 100000000000

/-- Receive and transmit corrections of PTP port p, in 0.1 ns, by the mode of its quad (R387, R388). -/
def State.stampCorr (s : State) (p : Nat) : Nat × Nat :=
  if p = 16 then (2100, 1360)
  else
    match s.macLanes p with
    | [] => (0, 0)
    | [l] =>
      match qEthMode s.board (l / 4) (l % 4) with
      | 0 => (312, 248)
      | 1 => (1346, 520)
      | 2 => (186, 142)
      | 3 => (604, 301)
      | _ => (2435, 713)
    | _ => (1528, 586)

/-- PTP time in units of 2^-16 ns, the clock's visible fraction (R382). -/
def State.ptpFine (s : State) : Int := s.tm.ptp.fixAt s.now % (2 ^ 48 * 1000000000 * 2 ^ 48) / 2 ^ 32

/-- Timestamp, in 2^-16 ns, of what port p receives now: the raw time at the PCS less the receive correction (R387). Corrections are
rounded down to this unit (DESIGN CHOICE, log 210). -/
def State.rxFine (s : State) (p : Nat) : Int := s.ptpFine - (s.stampCorr p).1 * 65536 / 10

/-- Timestamp, in 2^-16 ns, of what port p sends now: the raw time plus the transmit correction (R387). -/
def State.txFine (s : State) (p : Nat) : Int := s.ptpFine + (s.stampCorr p).2 * 65536 / 10

/-- MAC timestamp of a frame that port p receives now, in ns of PTP time: its arrival time (R103, R154, R387). -/
def State.rxTime (s : State) (p : Nat) : Nat := (s.rxFine p / 65536 % (2 ^ 48 * 1000000000)).toNat

/-- Island of a lane (R571). -/
def islLane (l : Nat) : Nat := if l < 64 then 21 + l / 16 else 37

/-- VOUT_MIN_MV and VOUT_MAX_MV (R567). -/
def State.voutRange (s : State) : Nat × Nat := (s.board.u16 (tabSec s.board 5 + 2), s.board.u16 (tabSec s.board 5 + 4))

/-! ### PRBS tests -/

/-- A lane's running test. -/
def State.prbs (s : State) (l : Nat) : Option Prbs := Tbl.get s.sl.tests l

/-- Puts a test on a lane or takes it off. -/
def State.setPrbs (s : State) (l : Nat) (t : Option Prbs) : State :=
  ({ s with sl := { s.sl with tests := Tbl.set s.sl.tests l t } }).setBit .SL_LANE_STAT l 28 t.isSome

/-- Bits counted so far: the locked intervals at the lane's rate (R585). -/
def Prbs.count (t : Prbs) (now : Nat) : Nat :=
  t.bits + (match t.since with | some a => (now - a) * t.rateKbps / 1000000 | none => 0)

/-- SL_PRBS_BITS (R590). -/
def State.setPrbsBits (s : State) (l n : Nat) : State :=
  (s.setReg .SL_PRBS_BITS_LO l (BitVec.ofNat 32 n)).setReg .SL_PRBS_BITS_HI l (BitVec.ofNat 32 (n / 2 ^ 32 % 65536))

/-- Rate of an Ethernet lane in Mbit/s, rounded down (R573). -/
def ethMbps (t : Body) (l : Nat) : Nat := if qProto t (l / 4) = 2 ∧ qEthMode t (l / 4) (l % 4) < 2 then 10312 else 25781

/-- Rate class of a rate in Mbit/s (R581). -/
def rateClass (mbps : Nat) : Nat := if mbps ≤ 6000 then 0 else if mbps ≤ 12500 then 1 else if mbps ≤ 20625 then 2 else 3

/-- Settings of a lane for one rate class: swing code, pre- and post-cursor taps, DP_LEVEL, and the receiver's peaking, gain and first
tap (R581). -/
structure LaneEq where
  amp : Nat
  pre : Nat
  post : Nat
  level : Nat
  ctle : Nat
  vga : Nat
  dfe1 : Int
deriving DecidableEq, Repr

/-- The 8-byte entry at an offset of the board table (R581, R582). -/
def laneEq (t : Body) (o : Nat) : LaneEq :=
  { amp := t.u8 o, pre := t.u8 (o + 1), post := t.u8 (o + 2), level := t.u8 (o + 3), ctle := t.u8 (o + 4), vga := t.u8 (o + 5), dfe1 := Body.sle t (o + 6) 1 }

/-- Differential output swing in mV, and the main cursor in units of 1/64 (R581). -/
def LaneEq.swing (x : LaneEq) : Nat := 300 + 25 * x.amp
/-- The main cursor. -/
def LaneEq.main (x : LaneEq) : Nat := 64 - x.pre - x.post

/-- The entry of lane l for a rate class (R581, R582). -/
def entryOf (t : Body) (l cls : Nat) : LaneEq :=
  if l < 64 then laneEq t (tabSec t 2 + 8 * (4 * l + cls)) else laneEq t (tabSec t 3 + 8 * (l - 64))

/-- The settings that a lane applies: those of the rate class in force, from the moment the board table is taken; before it the lane
is in electrical idle, as a lane that its quad does not use is (R573, R583). -/
def State.laneEq (s : State) (l : Nat) : Option LaneEq :=
  if s.boot.board && (decide (64 ≤ l) || (qMask s.boot.table (l / 4)).testBit (l % 4)) then
    some (entryOf s.boot.table l (s.regBits .SL_LANE_STAT l 27 26))
  else none

/-- A lane's transmitter rate in Mbit/s with its class, and whether it sends (R581, R583, R590). -/
def State.setLaneRate (s : State) (l mbps : Nat) (on : Bool) : State :=
  ((s.setBits .SL_LANE_STAT l 25 0 mbps).setBits .SL_LANE_STAT l 27 26 (rateClass mbps)).setBit .SL_LANE_STAT l 29 on

/-- The transmitter of a lane goes back to its block after a test: an Ethernet lane sends at its own rate, the Seam link and
management lanes at theirs, and an SDI or DisplayPort lane stops until its block uses it (R583, R586). -/
def State.restoreLane (s : State) (l : Nat) : State :=
  if 64 ≤ l then s
  else if qProto s.board (l / 4) = 1 ∨ qProto s.board (l / 4) = 2 then s.setLaneRate l (ethMbps s.board l) true
  else s.setLaneRate l (s.regBits .SL_LANE_STAT l 25 0) false

/-- A test ends with an end code: its registers, its reply and SL_PRBS_DONE (R586, R591). -/
def State.endPrbs (s : State) (l code : Nat) : State :=
  match s.prbs l with
  | none => s
  | some t =>
    let bits := t.count s.now % 2 ^ 48
    let errs := (s.getReg .SL_PRBS_ERR l).toNat
    let s0 := if t.dir.testBit 0 then s.restoreLane l else s
    let s1 := (((s0.setPrbs l none).setPrbsBits l bits).setBits .SL_PRBS_STAT l 28 26 code).setBit .SL_PRBS_STAT l 31 false
    let lockUs := match t.locked1 with | some a => (a - t.start) / us | none => 0
    let s2 := s1.replyR t.req 0x7E01 0 0 t.restarted
      (leBytes 1 code ++ leBytes 1 0 ++ leBytes 2 (s1.regBits .SL_PRBS_STAT l 15 0) ++ leBytes 4 lockUs ++ leBytes 8 bits ++ leBytes 8 errs)
    s2.event 0x7E03 (leBytes 1 l ++ leBytes 1 code ++ List.replicate 6 0#8 ++ leBytes 8 bits ++ leBytes 8 errs)

/-- A command or commit that needs lanes ends the tests on them with ABORTED (R586). -/
def State.endPrbsOf (s : State) (lanes : List Nat) : State := lanes.foldl (fun s l => s.endPrbs l 3) s

/-! ### Lanes in service (R572, R576, R577, R584) -/

/-- Protocol code of a lane; the Seam link and management lanes have none in R573, and their events carry a free byte. -/
def State.laneProto (s : State) (l : Nat) : Nat × State :=
  if l < 64 then (qProto s.board (l / 4), s)
  else
    let (k, s1) := s.draw
    ((Config.freeWord k).toNat % 256, s1)

/-- Which block sees the lock of a lane: the MAC of an Ethernet lane, up when all its lanes are locked (ING_STATUS). -/
def State.macsFollow (s : State) : State :=
  (List.range 16).foldl (fun (s : State) m =>
    let ls := s.macLanes m
    let up := !ls.isEmpty && ls.all (fun l => s.regBit .SL_LANE_STAT l 30)
    let x := Tbl.get s.ing.macs m
    ({ s with ing := { s.ing with macs := Tbl.set s.ing.macs m { x with locked := up } } }).setBit .ING_STATUS 0 (16 + m) (x.enabled && up)) s

/-- A Seam link lane gains or loses block lock (R521, R576). -/
def State.seamLaneLock (s : State) (n : Nat) (locked : Bool) : State :=
  let s1 := s.setBit .PAIR_SEAM_STAT 0 n locked
  let dark := s1.regBits .PAIR_SEAM_STAT 0 1 0 == 0
  let s2 : State := { s1 with pair := { s1.pair with unlocked := if dark then some (s1.pair.unlocked.getD s1.now) else none } }
  if locked then s2 else s2.bumpSat .PAIR_SEAM_CRC n

/-- A lane in service gains or loses its block, code or TRS lock: RX_LOCK, the counters of a loss, SL_LOCK at most 10 times per
second, and the block that sees it (R584). -/
def State.laneLock (s : State) (l : Nat) (locked : Bool) : State :=
  if s.regBit .SL_LANE_STAT l 30 = locked then s
  else
    let s1 : State := s.setBit .SL_LANE_STAT l 30 locked
    let s2 : State := if locked then s1
      else (if l = 66 then s1 else s1.bumpSat .SL_LANE_ERR l).bumpSat .SL_LANE_LOCKLOSS l
    let (proto, s3) := s2.laneProto l
    let s4 : State := s3.eventLimited 0x7E01 l 10 s3.ptp [BitVec.ofNat 8 l, BitVec.ofNat 8 (bit01 locked), BitVec.ofNat 8 proto]
    if l < 64 then s4.macsFollow else if l < 66 then s4.seamLaneLock (l - 64) locked else s4

/-! ### The host ports' links (R49, R550, R578, R582) -/

/-- Host lanes of a port (R48). -/
def portLanes (p : Port) : List Nat := (List.range 4).map (· + 4 * p.idx)

/-- Settings of host lane l in the board table (R582). -/
def hostEntry (t : Body) (l : Nat) : HostLane :=
  let e := tabSec t 3 + 24 + 8 * l
  { preset8 := t.u8 e, preset16 := t.u8 (e + 1), preset32 := t.u8 (e + 2), ctle := t.u8 (e + 4), vga := t.u8 (e + 5), dfe1 := Body.sle t (e + 6) 1 }

/-- The preset of a lane at a link rate; at 2.5 and 5.0 GT/s the negotiated de-emphasis applies instead (R578). -/
def HostLane.preset (x : HostLane) (speed : Nat) : Option Nat :=
  match speed with
  | 3 => some x.preset8
  | 4 => some x.preset16
  | 5 => some x.preset32
  | _ => none

/-- The link of a port comes up or goes down: HP_STATUS and PORT_LINK (R97). -/
def State.setLink (s : State) (p : Port) (up : Bool) (width speed : Nat) : State :=
  let s1 := ((s.setBits .HP_STATUS p.idx 10 8 width).setBits .HP_STATUS p.idx 7 4 speed).setBit .HP_STATUS p.idx 0 up
  (s1.modPort p (fun h => { h with linkUp := up, downSince := if up then none else some s.now })).event 0x0201
    (leBytes 1 p.idx ++ leBytes 1 (bit01 up))

/-- The link leaves L0; its lanes stop sending. -/
def State.linkLeave (s : State) (p : Port) : State :=
  if (s.port p).linkUp then
    ({ s with sl := { s.sl with sends := (portLanes p).foldl (fun t l => Tbl.set t l none) s.sl.sends } }).setLink p false 0 0
  else s

/-- The link trains to L0: every lane in use transmits with its preset for the rate and rejects each request of the downstream port
for another one (R578). `asked`: lane of the port and preset. -/
def State.linkTrain (s : State) (p : Port) (width speed : Nat) (asked : List (Nat × Nat)) : State :=
  let pre := fun (l : Nat) => (Tbl.get s.sl.host l).preset speed
  let sends := (portLanes p).foldl (fun t l => Tbl.set t l (if l % 4 < width then pre l else none)) s.sl.sends
  let no := (asked.filter (fun e => decide (e.1 < width) && (pre (4 * p.idx + e.1)).isSome && pre (4 * p.idx + e.1) != some e.2)).map (fun e => (4 * p.idx + e.1, e.2))
  ({ s with sl := { s.sl with sends := sends, rejected := no } }).setLink p true width speed

/-- The host lanes take the board table's settings, and the boot port's link retrains (R550, R582). -/
def State.takeHostLanes (s : State) (t : Body) : State :=
  let p := s.boot.port
  let w := s.regBits .HP_STATUS p.idx 10 8
  let v := s.regBits .HP_STATUS p.idx 7 4
  let s1 : State := { s with sl := { s.sl with host := (List.range 8).foldl (fun x l => Tbl.set x l (hostEntry t l)) s.sl.host } }
  if (s.port p).linkUp then (s1.linkLeave p).linkTrain p w v [] else s1

/-! ### The voltage set point (R552, R553) -/

/-- STATE of an island (R559): 0 OFF, 1 CLEARING, 2 ON. -/
def State.island (s : State) (i : Nat) : Nat := s.regBits .PWR_ISL_STAT i 31 30

/-- Demand of a powered island in mV; one that has not measured counts with VOUT_MAX_MV. -/
def State.demandOf (s : State) (i : Nat) : Nat :=
  let d := s.regBits .PWR_ISL_STAT i 27 16
  if d = 0 then s.voutRange.2 else d

/-- The set point: the greatest demand among powered islands, rounded up to 5 mV and clamped. -/
def State.setPoint (s : State) : Nat :=
  let d := (List.range 41).foldl (fun m i => if s.island i = 0 then m else max m (s.demandOf i)) 0
  min s.voutRange.2 (max s.voutRange.1 (ceilDiv d 5 * 5))

/-- A PMBus transaction with the regulator that a board table names: PMB_ADDR and PMB_KHZ (R553, R567). -/
def State.pmbus (s : State) (t : Body) (command value : Nat) : State :=
  s.emit (.pmbus (t.u8 (tabSec t 5)) (if t.u8 (tabSec t 5 + 1) = 1 then 400 else 100) command value)

/-- One VOUT_COMMAND write. -/
def State.writeVout (s : State) (mv : Nat) : State := ({ s with pwr := { s.pwr with vout := mv } }).pmbus s.board 0x21 mv

/-- Writes upwards by at most 25 mV each until the target; `fuel` bounds the writes. -/
def State.raiseVout (s : State) (mv : Nat) : Nat → State
  | 0 => s
  | n + 1 => if mv ≤ s.pwr.vout then s else State.raiseVout (s.writeVout (min mv (s.pwr.vout + 25))) mv n

/-- The AVS master's work on a new set point: at once upwards, by 5 mV at most once per 1 ms downwards (R553). -/
def State.avs (s : State) : State :=
  if !s.regBit .PWR_STATUS 0 31 then s
  else
    let p := s.setPoint
    let s1 := s.setBits .PWR_VSET 0 10 0 p
    if s1.pwr.vout < p then s1.raiseVout p 64
    else if p < s1.pwr.vout ∧ s1.pwr.lastFall + ms ≤ s1.now then
      ({ s1 with pwr := { s1.pwr with lastFall := s1.now } }).writeVout (max p (s1.pwr.vout - 5))
    else s1

/-! ### Island power -/

/-- PWR_STATUS.POWERING and ISLANDS_ON follow the islands (R568). -/
def State.countIslands (s : State) : State :=
  (s.setBits .PWR_STATUS 0 5 0 ((List.range 41).filter (fun i => s.island i == 2)).length).setBit .PWR_STATUS 0 28
    ((List.range 41).any (fun i => s.island i == 1))

/-- An island enters a state; PWR_ISLAND_STATE gives the cause (R559, R570). -/
def State.setIsland (s : State) (i st cause : Nat) : State :=
  ((s.setBits .PWR_ISL_STAT i 31 30 st).countIslands).event 0x7C01 [BitVec.ofNat 8 i, BitVec.ofNat 8 st, BitVec.ofNat 8 cause]

/-- Lanes of an island of lane quads (R27, R571). -/
def islandLanes (i : Nat) : List Nat := if 21 ≤ i ∧ i ≤ 24 then (List.range 16).map (· + 16 * (i - 21)) else []

/-- A register member is one of a head or of its layers (R307): it belongs to the islands of the head's group, through whichever
island it is read (R615). -/
def headReg (h : Nat) (a : Nat) : Bool :=
  match Reg.atAddr a with
  | some (r, k) => (r.info.block == .CNY || r.info.block == .LY || r.info.block == .HD) &&
      ((r.info.count == 24 && k == h) || (r.info.count == 192 && k / 8 == h))
  | none => false

/-- A register member of the block that an island of one block holds, or of its lanes and quads, ports or pipe. -/
def islandReg (i : Nat) (a : Nat) : Bool :=
  match Reg.atAddr a with
  | some (r, k) =>
    if i = 38 then r.info.block == .AUD
    else if i = 39 then r.info.block == .TCH
    else if 21 ≤ i ∧ i ≤ 24 then r.info.block == .SL && ((decide (64 ≤ r.info.count) && k / 16 == i - 21) || (r.info.count == 16 && k / 4 == i - 21))
    else if i = 25 ∨ i = 26 then r.info.block == .CAM && ((r.info.count == 8 && k / 4 == i - 25) || (r.info.count == 2 && k == i - 25))
    else false
  | none => false

/-- Registers whose members a predicate picks go back to their reset values. -/
def State.wipeRegs (s : State) (p : Nat → Bool) : State := { s with regs := s.regs.filter (fun e => !p e.1) }

/-- The registers of a head and of its layers are reset. -/
def State.wipeHead (s : State) (h : Nat) : State := s.wipeRegs (headReg h)

/-- The registers of an island of one block are reset. -/
def State.wipeIsland (s : State) (i : Nat) : State := s.wipeRegs (islandReg i)

/-- A head of a group that has no power: sets, line buffers, flatten entries, tag history and registers are gone; what the firmware
holds for it in its own memory stays. -/
def State.dropHead (s : State) (h : Nat) : State :=
  let x := s.head h
  let s1 := match x.flatPool with | some a => s.release a | none => s
  (s1.wipeHead h).setHead h { held := x.held, heldPort := x.heldPort, held0 := x.held0, armed := x.armed, second := x.second }

/-- What an island holds is gone: no data survives its power-off, and its clear leaves all of its SRAM empty (R30, R483). The islands
that PWR_ISLAND can power off are those of R560; what the firmware keeps elsewhere stays (log 152). -/
def State.dropData (s : State) (i : Nat) : State :=
  let s1 := s.wipeIsland i
  if i = 20 then
    { s1 with ing := { s1.ing with macs := s1.ing.macs.map (fun e => if 8 ≤ e.1 then (e.1, { e.2 with enabled := false, address := 0 }) else e) } }
  else if i = 25 ∨ i = 26 then
    { s1 with cam := { s1.cam with ports := s1.cam.ports.filter (fun e => e.1 / 4 != i - 25), pipes := s1.cam.pipes.filter (fun e => e.1 != i - 25) } }
  else if 27 ≤ i ∧ i < 36 then (List.range 8).foldl (fun (s : State) k => s.dropHead (8 * ((i - 27) % 3) + k)) s1
  else if i = 38 then { s1 with aud := { s1.aud with tdm := [], aes := [], ins := [], cs := [], outs := [], rx := [], tx := [] } }
  else if i = 39 then { s1 with tch := {} }
  else s1

/-- The SRAM clear of an island at its power-up (R30, R483). -/
def State.clearSram (s : State) (i : Nat) : State := (s.dropData i).bumpWrap .SRM_CLEARS i

/-- The switch of an island closes and its clear begins: its demand counts with VOUT_MAX_MV until it measures. -/
def State.startIsland (s : State) (i cause : Nat) : State :=
  let s1 := ({ s with pwr := { s.pwr with cause := Tbl.set s.pwr.cause i cause } }).setBits .PWR_ISL_STAT i 27 16 0
  (s1.setIsland i 1 cause).avs

/-- The clear ends and the island accepts traffic. -/
def State.finishIsland (s : State) (i : Nat) : State :=
  let s1 := (s.clearSram i).setIsland i 2 (Tbl.get s.pwr.cause i)
  { s1 with flt := { s1.flt with alive := Tbl.set s1.flt.alive i (some s1.now) } }

/-- A command or commit that needs an OFF island powers it up before it goes on (R561). -/
def State.powerUpFor (s : State) (i cause : Nat) : State :=
  if s.island i = 0 then (s.startIsland i cause).finishIsland i else s

/-- The same, for a command. -/
def State.powerUp (s : State) (i : Nat) : State := s.powerUpFor i 1

/-- Powers up several islands in ascending order. -/
def State.powerUpAll (s : State) (l : List Nat) : State := l.foldl State.powerUp s

/-- Islands of the head group that holds head h (R27, R560). -/
def islandsOfHead (h : Nat) : List Nat := [islCmp h, islSco h, islCny h]

end Sys2Proof.Machine
end

