-- ==== Sys2Proof/Machine/Slots.lean ====
section
/-! DEFINITION. The profile store's slots (R82, R84), the running copy of the ACTIVE slot (R91), and pools staged for a
binding that waits for its input's boundary (R169, R258). -/

namespace Sys2Proof.Machine

/-! ### The profile store's running copy (R91) -/

/-- The packet is a PRF_LOAD that loads slot n: its body names the slot and its port holds the slot's scope (PRF_LOAD). -/
def Packet.loads (k : Packet) (n : Nat) : Bool :=
  k.opcode == 0x0301 && k.body.length == 20 && k.body.u8 0 == n && k.body.zero 1 3 && k.body.u32 12 % 4 == 0 && decide (k.body.u32 12 ≤ 4194304)
    && scopesOk k.held [1 + n]

/-- A PRF_LOAD into the slot has started and not ended (R84). -/
def State.slotLoading (s : State) (n : Nat) : Bool :=
  !s.notReady 0x0301 && (s.interp.current.toList ++ s.interp.suspended.toList ++ s.interp.again).any (fun k => k.loads n)

/-- STATE of a profile slot (R84): a slot that is neither PENDING nor ACTIVE is LOADING while its PRF_LOAD runs. -/
def State.slotState (s : State) (n : Nat) : Nat :=
  let kept := s.regBits .PRF_STATE 0 (19 + 4 * n) (16 + 4 * n)
  if kept ≠ 3 ∧ kept ≠ 4 ∧ s.slotLoading n then 5 else kept
/-- PRF_STATE with the states of the slots (R84, R99). -/
def State.prfState (s : State) : Word :=
  (List.range 4).foldl (fun (w : Word) n => w.setBits (19 + 4 * n) (16 + 4 * n) (s.slotState n)) (s.getReg .PRF_STATE 0)
/-- Writes the state of a slot. -/
def State.setSlotState (s : State) (n st : Nat) : State := s.setBits .PRF_STATE 0 (19 + 4 * n) (16 + 4 * n) st
/-- Some slot is PENDING. -/
def State.pendingSlot (s : State) : Option Nat := (List.range 4).find? (fun n => s.slotState n == 3)
/-- The ACTIVE slot, once a profile has been taken. -/
def State.activeSlot (s : State) : Option Nat := if s.regBit .PRF_STATE 0 6 then none else some (s.regBits .PRF_STATE 0 1 0)
/-- A profile slot. -/
def State.slot (s : State) (n : Nat) : Slot := Tbl.get s.prof.slots n
/-- Replaces a profile slot. -/
def State.setSlot (s : State) (n : Nat) (x : Slot) : State := { s with prof := { s.prof with slots := Tbl.set s.prof.slots n x } }

/-- Instance number of a section (R83). -/
def instOf (op : Nat) (b : Body) : Nat :=
  if op = 0x2002 ∨ op = 0x3001 then b.u16 0
  else if op = 0x4001 ∨ op = 0x4002 ∨ op = 0x4003 then 8 * b.u8 0 + b.u8 1
  else if op = 0x4802 ∨ op = 0x5802 then 256 * b.u8 0 + b.u8 1
  else if op = 0x5810 then 0
  else b.u8 0

/-- A change of the running configuration is taken: the copy of the slot that runs is updated (R91); later sections change
what earlier ones set (R83). -/
def State.storeEdit (s : State) (slot : Option Nat) (op : Nat) (b : Body) : State :=
  match slot with
  | none => s
  | some n => s.setSlot n { (s.slot n) with sections := (s.slot n).sections ++ [⟨op, instOf op b, b⟩] }

/-- The slot whose profile the bindings run: the PENDING one, whose bindings took effect at the selection, else the ACTIVE one. -/
def State.storeSlot (s : State) : Option Nat := s.pendingSlot.or s.activeSlot

/-- A command's change of the running configuration is taken: the slot's copy takes it, unless the slot already ends in it (R91). -/
def State.storeTaken (s : State) (op : Nat) (b : Body) : State :=
  match s.storeSlot with
  | none => s
  | some n =>
    match (s.slot n).sections.reverse.find? (fun e => e.opcode == op && e.inst == instOf op b) with
    | some e => if e.body = b then s else s.storeEdit (some n) op b
    | none => s.storeEdit (some n) op b

/-! ### Staged pools (R169) -/

/-- Key of the pool that waits to replace pool k. -/
def poolNext (k : Nat) : Nat := 8192 + k
/-- Key of the three raw buffers of a camera context (R202). -/
def poolRaw (c : Nat) : Nat := 6144 + c

/-- Allocates the buffers of a waiting pool; none when DRAM has no room (R169, R186). An earlier waiting pool goes.
Class 3 marks buffers that hold no surfaces. -/
def State.stagePool (s : State) (k cls depth bytes src w h fmt : Nat) : Option State :=
  let s0 := s.freePool (poolNext k)
  (s0.allocMany bytes depth).map (fun e =>
    e.2.setPool (poolNext k) { newPool e.1 src w h fmt 0 cls with bound := false })

/-- A waiting pool takes the place of pool k: one of the same source keeps its sequence, its loss of signal and the newest
surface (R169). -/
def State.adoptPool (s : State) (k : Nat) : State :=
  let n := s.pool (poolNext k)
  if n.surfs.isEmpty then s
  else
    let o := s.pool k
    let keep := o.bound && o.sourceId == n.sourceId
    let last := if keep then o.newest else none
    let held : Pool := match last with
      | some f => o.modAt f.addr (fun g => { g with pins := 304 :: g.pins })
      | none => o
    let left := held.leftover
    let p : Pool := { n with bound := true, nextSeq := if keep then o.nextSeq else 0, los := keep && o.los, oldNewest := last
                             old := left.1.map (fun g => { g with pins := g.pins.map (fun h => if h = 304 then 303 else h) }) }
    ((s.releaseAll left.2).setPool k p).setPool (poolNext k) default

/-- A waiting pool is not needed any more. -/
def State.unstage (s : State) (k : Nat) : State := s.freePool (poolNext k)

/-- Source IDs held: by the bound VIDEO pools and by those that wait (R170), with the pool each belongs to. -/
def State.sourcesHeld (s : State) : List (Nat × Nat) :=
  s.pools.filterMap (fun e =>
    if e.2.cls != 0 || e.2.sourceId == 0xFFFF || e.2.surfs.isEmpty then none
    else if 8192 ≤ e.1 then some (e.1 - 8192, e.2.sourceId)
    else if e.2.bound then some (e.1, e.2.sourceId) else none)

/-- Does a pool other than k hold a source ID (R170). -/
def State.sourceClash (s : State) (src k : Nat) : Bool := s.sourcesHeld.any (fun e => e.2 == src && e.1 != k)

/-- Would new pools of some keys make more than 256 sources (R170). -/
def State.sourcesFull (s : State) (ks : List Nat) : Bool :=
  decide (256 < (((s.sourcesHeld.map (·.1)).filter (fun k => !ks.contains k)).dedup).length + ks.length)

end Sys2Proof.Machine
end

