-- ==== Sys2Proof/Machine/Wire.lean ====
section
/-! DEFINITION. Packets of the output packetizers: Ethernet, IPv4 and UDP headers (R367) and RTP headers (R297, R367, R429). -/

namespace Sys2Proof.Machine

/-- Header checksum of IPv4: the complement of the ones' complement sum of the 16-bit words (RFC 791; PRESUMED, log 204). -/
def ipChecksum (l : List Byte) : Nat :=
  let sum := ((List.range (l.length / 2)).map (fun k => beNat ((l.drop (2 * k)).take 2))).sum
  let once := sum % 65536 + sum / 65536
  65535 - (once % 65536 + once / 65536)

/-- An IPv4 header without options, protocol UDP, for a datagram of n bytes (R367): DSCP, TTL and the addresses of a flow's body. -/
def ipHeader (o : Body) (n : Nat) (f : BitVec 40) : List Byte :=
  let a := [0x45#8, BitVec.ofNat 8 (4 * o.u8 34) ||| (f.extractLsb' 16 2).setWidth 8] ++ beBytes 2 (20 + n) ++ beBytes 2 (f.extractLsb' 0 16).toNat
    ++ beBytes 2 (if f.getLsbD 18 then 0x4000 else 0) ++ [BitVec.ofNat 8 (o.u8 35), 17#8]
  let z := (o.drop 20).take 4 ++ (o.drop 16).take 4
  a ++ beBytes 2 (ipChecksum (a ++ z)) ++ z

/-- A packet of a flow as its MAC sends it, without the frame check sequence: Ethernet header from the flow's DST_MAC and the MAC's
address with one 802.1Q tag when VLAN bit 15 is set, IPv4, UDP, and the payload (R367). Bytes 12 to 40 of the body hold the addressing
fields. -/
def wirePacket (o : Body) (mac flow seq : Nat) (pay : List Byte) : List Byte :=
  let f := Config.ipOpen flow seq
  (o.drop 28).take 6 ++ beBytes 6 mac ++ (if (o.u16 14).testBit 15 then beBytes 2 0x8100 ++ beBytes 2 (o.u16 14 % 32768) else []) ++ beBytes 2 0x0800
    ++ ipHeader o (8 + pay.length) f ++ (o.drop 26).take 2 ++ (o.drop 24).take 2 ++ beBytes 2 (8 + pay.length) ++ beBytes 2 (f.extractLsb' 24 16).toNat ++ pay

/-- A 12-byte RTP header: version 2, marker and payload type, sequence number, timestamp, SSRC. -/
def rtpHeader (marker : Bool) (pt seq ts ssrc : Nat) : List Byte :=
  [0x80#8, BitVec.ofNat 8 (128 * bit01 marker + pt % 128)] ++ beBytes 2 (seq % 65536) ++ beBytes 4 (ts % 2 ^ 32) ++ beBytes 4 ssrc

/-- RTP timestamp floor(t × hz / 10^9) mod 2^32 of a PTP time in ns (R297, R367, R429). -/
def rtpTs (hz t : Nat) : Nat := t * hz / 1000000000 % 2 ^ 32

/-- The MAC's own address. -/
def State.macAddr (s : State) (m : Nat) : Nat := (Tbl.get s.ing.macs m).address

end Sys2Proof.Machine
end

