-- ==== Sys2Proof/Machine/Audio.lean ====
section
/-! DEFINITION. Audio ports and clocks: the layers of an input (R419 to R421), TDM (R422, R423), AES3 and channel status
(R424, R425), streams (R427 to R429), slip (R430), routing with zero crossings and ramps (R431 to R433), and the commands
of group 0x58. -/

namespace Sys2Proof.Machine

/-! ### Inputs -/

/-- AUD_IN_STAT.ENABLED. -/
def State.ainOn (s : State) (i : Nat) : Bool := s.regBit .AUD_IN_STAT i 31
/-- Declared rate of an input: 96 kHz. -/
def State.ain96 (s : State) (i : Nat) : Bool := s.regBit .AUD_IN_STAT i 28
/-- The input's class differs from its declared rate (R421). -/
def State.mismatch (s : State) (i : Nat) : Bool := s.regBits .AUD_IN_STAT i 30 29 != (if s.ain96 i then 2 else 1)

/-- An input starts: its slip FIFO holds 8 samples, of silence (R430); each route from it starts under R431 (R421). -/
def State.startInput (s : State) (i : Nat) : State :=
  let x := s.ain i
  let z := List.replicate x.chans (0 : Int)
  let s1 := s.setAin i { x with fifo := List.replicate 8 z, cur := z, prev := z }
  s1.aud.outs.foldl (fun s e =>
    match e.2.src with
    | some (j, ch) => if j = i ∧ e.2.stage = 0 then (s.setAout e.1 { e.2 with src := none }).changeRoute e.1 (some (i, ch)) e.2.timeoutUs none else s
    | none => s) s1

/-- Enables an input with its declared rate and channels, or disables it. Settings in force stay in force; an input that comes into use
has no class until it has been measured, one that goes out of use has none (DEDUCED, log 216). -/
def State.setInput (s : State) (i : Nat) (on r96 : Bool) (chans : Nat) (mute : Bool) : State :=
  if s.ainOn i && on && s.ain96 i == r96 && (s.ain i).chans == chans then s.setAin i { (s.ain i) with muteInvalid := mute }
  else
    let s0 := if on && s.ainOn i then s else s.setBits .AUD_IN_STAT i 30 29 0
    let s1 := ((s0.setAin i { (s0.ain i) with chans := chans, muteInvalid := mute, fifo := [] }).setBit .AUD_IN_STAT i 31 on).setBit .AUD_IN_STAT i 28 r96
    let s2 := s1.setBit .AUD_IN_STAT i 27 (on && s1.mismatch i)
    if on && !s1.mismatch i then s2.startInput i else s2

/-- Class of a measured rate in mHz; none: no frame edges, or no packets, for 10 ms (R420). -/
def sampleClass : Option Nat → Nat
  | none => 0
  | some m => if 47952000 ≤ m ∧ m ≤ 48048000 then 1 else if 95904000 ≤ m ∧ m ≤ 96096000 then 2 else 3

/-- AUD_RATE_CLASS_CHANGE: the measured rate of an enabled input, in mHz, is in another class (R420, R421, R437). -/
def execAudRateClassChange (i : Fin 168) (mHz : Option Nat) (s : State) : Host.Outcome State Fault Refusal :=
  let old := s.regBits .AUD_IN_STAT i 30 29
  let cls := sampleClass mHz
  if !s.ainOn i ∨ old = cls then .next s
  else
    let was := s.mismatch i
    let s1 := s.setBits .AUD_IN_STAT i 30 29 cls
    let s2 := s1.setBit .AUD_IN_STAT i 27 (s1.mismatch i)
    let s3 := if was && !s1.mismatch i then s2.startInput i else s2
    .next (s3.event 0x5801 (leBytes 2 i ++ leBytes 1 cls ++ leBytes 1 old ++ leBytes 4 (mHz.getD 0 / 1000)))

/-- One slip counted: AUD_IN_SLIP and AUD_SLIP (R430, R437). The pending count holds drops, and repeats × 2^32. -/
def State.countSlip (s : State) (i : Nat) (drop : Bool) : State :=
  (if drop then s.addSatBits .AUD_IN_SLIP i 31 16 1 else s.addSatBits .AUD_IN_SLIP i 15 0 1).eventPerSec 0x5802 i
    (if drop then 1 else 2 ^ 32) (fun n => leBytes 2 i ++ leBytes 2 0 ++ leBytes 4 (n % 2 ^ 32) ++ leBytes 4 (n / 2 ^ 32))

/-- An input can slip: any but a port of a master TDM group, whose samples come at the house clock itself (R430). -/
def State.canSlip (s : State) (i : Nat) : Bool := !(decide (i < 16) && s.regBit .AUD_STATUS 0 (8 + i / 4))

/-- Writes one sample instant of an input to its slip FIFO: dropped when the fill would exceed 14 (R430). -/
def State.audWrite (s : State) (i : Nat) (v : List Int) : State :=
  if !s.ainOn i || s.mismatch i then s
  else
    let x := s.ain i
    if s.canSlip i && decide (14 < x.fifo.length + 1) then s.countSlip i true else s.setAin i { x with fifo := x.fifo ++ [v] }

/-- AUD_INPUT_SAMPLE: an input delivers one sample of each of its channels (R430). -/
def execAudInputSample (i : Fin 168) (v : List Int) (s : State) : Host.Outcome State Fault Refusal := .next (s.audWrite i v)

/-- Reads an input at a house tick: zeros while its class differs (R421); a read that would leave fewer than 2 samples
repeats the previous one (R430). -/
def State.audRead (s : State) (i : Nat) : State :=
  let x := s.ain i
  if s.mismatch i then s.setAin i { x with prev := x.cur, cur := List.replicate x.chans 0 }
  else
    match x.fifo with
    | v :: t => if s.canSlip i && decide (x.fifo.length < 3) then (s.countSlip i false).setAin i { x with prev := x.cur } else s.setAin i { x with prev := x.cur, cur := v, fifo := t }
    | [] => (if s.canSlip i then s.countSlip i false else s).setAin i { x with prev := x.cur }

/-! ### Channel status (R424, R426) -/

/-- CRC of a professional channel-status block as AES3 defines it: x^8 + x^4 + x^3 + x^2 + 1, all ones first, bits in order
of transmission (PRESUMED, log 21). -/
def csCrc (b : List Byte) : Byte :=
  b.foldl (fun c x => (List.range 8).foldl (fun (c : Byte) _ => if c.getLsbD 0 then (c >>> 1) ^^^ 0xB8#8 else c >>> 1) (c ^^^ x)) 0xFF#8

/-- 192 bits as 24 bytes, the first bit lowest. -/
def csBytes (bits : List Bool) : List Byte :=
  (List.range 24).map (fun k => BitVec.ofNat 8 (bitsMask ((List.range 8).filter (fun j => bits.getD (8 * k + j) false))))

/-- Counts a parity error, or a block or CRC error, of an input (R424, R437). -/
def State.csError (s : State) (i : Nat) (parity : Bool) : State :=
  (if parity then s.addSatBits .AUD_IN_ERR i 31 16 1 else s.addSatBits .AUD_IN_ERR i 15 0 1).eventPerSec 0x5804 i
    (if parity then 1 else 2 ^ 32) (fun n => leBytes 2 i ++ leBytes 2 0 ++ leBytes 4 (n % 2 ^ 32) ++ leBytes 4 (n / 2 ^ 32))

/-- A block of 192 frames is complete: in the professional format its CRC is checked; a valid block that differs raises
AUD_CS (R424). -/
def State.csBlock (s : State) (i ch : Nat) (bits : List Bool) : State :=
  let b := csBytes bits
  let k := audKey i ch
  let x := Tbl.get s.aud.cs k
  if bits.headD false && csCrc (b.take 23) != b.getD 23 0 then s.csError i false
  else
    let s1 := { s with aud := { s.aud with cs := Tbl.set s.aud.cs k { x with last := some b } } }
    let s2 := s1.setBit .AUD_IN_STAT i 26 ((List.range 16).any (fun c => s1.nonPcm (some (i, c))))
    if x.last = some b then s2 else s2.event 0x5803 (leBytes 2 i ++ leBytes 1 ch ++ List.replicate 5 0#8 ++ b)

/-- One word of an input channel: block framing, channel status, parity and validity (R424); its sample as delivered. -/
def State.csWord (s : State) (i ch : Nat) (countBlock : Bool) (w : AudioWord) : Int × State :=
  let k := audKey i ch
  let x := Tbl.get s.aud.cs k
  let put := fun (s : State) (f : CsChan → CsChan) => { s with aud := { s.aud with cs := Tbl.set s.aud.cs k (f (Tbl.get s.aud.cs k)) } }
  let err := fun (s : State) => if countBlock then s.csError i false else s
  let s1 : State := match x.run, w.z with
    | none, false => s
    | none, true => put s (fun y => { y with run := some 1, bits := [w.c] })
    | some n, true =>
      let s1 := if n = 192 then s.csBlock i ch x.bits else err s
      put s1 (fun y => { y with run := some 1, bits := [w.c] })
    | some n, false =>
      if 192 ≤ n then err (put s (fun y => { y with run := none, bits := [] }))
      else put s (fun y => { y with run := some (n + 1), bits := y.bits ++ [w.c] })
  let s2 := if w.invalid then s1.bumpSat .AUD_IN_INVALID i else s1
  let s3 := if w.parityBad then s2.csError i true else s2
  let v := if w.parityBad then x.prev else if w.invalid && (s.ain i).muteInvalid then 0 else w.sample
  (v, put s3 (fun y => { y with prev := v }))

/-- The words of one sample instant of an input, written to its FIFO. -/
def State.csInstant (s : State) (i : Nat) (each : Bool) (ws : List AudioWord) : State :=
  let (vs, s1) := ws.zipIdx.foldl (fun (acc : List Int × State) e =>
    let (v, s1) := acc.2.csWord i e.2 (each || e.2 == 0) e.1
    (acc.1 ++ [v], s1)) ([], s)
  s1.audWrite i vs

/-- Embedded audio of SDI input n, for the router (R185, R426). -/
def State.audioSdi (s : State) (n : Nat) (l : List (List AudioWord)) : State :=
  l.foldl (fun s ws => s.csInstant (24 + n) true ws) s

/-- TDM_FRAME_RECEIVE: one frame of a group gives one sample per slot of each input port: bits 31:8 of the slot (R423). -/
def execTdmFrameReceive (g : Fin 4) (slots : List (List Word)) (s : State) : Host.Outcome State Fault Refusal :=
  .next ((List.range 4).foldl (fun s n =>
    let p := 4 * g.val + n
    if s.ainOn p then s.audWrite p (((slots.getD n []).take (s.ain p).chans).map (fun w => toSigned 3 (w.bits 31 8))) else s) s)

/-- AES3_FRAME_RECEIVE: an AES3 frame brings two subframes; a Z preamble of the first starts the block of both (R424). -/
def execAes3FrameReceive (n : Fin 8) (a b : AudioWord) (s : State) : Host.Outcome State Fault Refusal :=
  if s.ainOn (16 + n) then .next (s.csInstant (16 + n) false [a, { b with z := a.z }]) else .next s

/-- AES3_LOCK_CHANGE: clock recovery of an enabled input gains or loses the biphase stream; a block under way is given up (R424). -/
def execAes3LockChange (n : Fin 8) (locked : Bool) (s : State) : Host.Outcome State Fault Refusal :=
  let s1 := s.setBit .AUD_STATUS 0 n (locked && s.ainOn (16 + n))
  .next (if locked then s1 else { s1 with aud := { s1.aud with cs := [audKey (16 + n) 0, audKey (16 + n) 1].foldl (fun t k =>
    Tbl.set t k { (Tbl.get t k) with run := none, bits := [] }) s1.aud.cs } })

/-! ### Receive streams (R427, R428) -/

/-- Rate of a stream body in Hz. -/
def strHz (b : Body) : Nat := if (b.u8 1).testBit 1 then 96000 else 48000
/-- L24 of a stream body. -/
def strL24 (b : Body) : Bool := (b.u8 1).testBit 2
/-- Samples per packet of a stream body (R427). -/
def strSpp (b : Body) : Nat := strHz b / 1000 * (match b.u8 1 / 8 % 4 with | 0 => 125 | 1 => 250 | _ => 1000) / 1000

/-- Read time in ns of PTP time of the sample with extended timestamp T (R428). -/
def rxReadTime (b : Body) (t : Nat) : Nat := ceilDiv (t * 1000000000) (strHz b) + b.u16 6 * us

/-- A 32-bit timestamp extended to the value nearest to the PTP epoch's count (R428). -/
def extendTs (hz ts ptp : Nat) : Nat :=
  let a := ptp * hz / 1000000000
  let d : Int := ((ts : Int) - a) % (2 ^ 32 : Nat)
  ((a : Int) + (if 2 * d < (2 ^ 32 : Nat) then d else d - (2 ^ 32 : Nat))).toNat

/-- Samples lost by a receive stream: AUD_RX_LOST and AUD_RX_LOSS. -/
def State.rxLost (s : State) (r n : Nat) : State :=
  (s.addSat .AUD_RX_LOST r n).eventPerSec 0x5805 r n (fun k => leBytes 1 r ++ leBytes 3 0 ++ leBytes 4 k)

/-- The first samples of a payload, as L24 or as L16, which enters as s << 8 (R418, R427). -/
def payloadSamples (l24 : Bool) : Nat → List Byte → List Int
  | 0, _ => []
  | n + 1, l =>
    let k := if l24 then 3 else 2
    (if l24 then toSigned 3 (beNat (l.take k)) else toSigned 2 (beNat (l.take k)) * 256) :: payloadSamples l24 n (l.drop k)

/-- The sample instants of a packet's payload for a stream: every channel of one, big-endian, then the next (R427). -/
def streamSamples (b : Body) (payload : List Byte) : List (List Int) :=
  let k := b.u8 2 * (if strL24 b then 3 else 2)
  (List.range (payload.length / max 1 k)).map (fun i => payloadSamples (strL24 b) (b.u8 2) (payload.drop (k * i)))

/-- The samples of an ST 2110-30 packet enter the jitter buffer of each stream bound to the context; those past their read
time are discarded and counted (R428). -/
def State.audioPacket (s : State) (c : Nat) (rtp : Rtp) (payload : List Byte) : State :=
  (s.aud.rx.filter (fun e => e.2.bound && e.2.cfg.u16 4 == c)).foldl (fun (s : State) (e : Nat × RxStream) =>
    let x := e.2
    let audio := streamSamples x.cfg payload
    let t0 := extendTs (strHz x.cfg) rtp.ts s.ptp
    let gone := fun (i : Nat) => decide (rxReadTime x.cfg (t0 + i) < s.ptp) || decide (t0 + i < x.nextT)
    let late := (audio.zipIdx.filter (fun v => gone v.2)).length
    let buf := audio.zipIdx.foldl (fun b v => if gone v.2 then b else Tbl.set b (t0 + v.2) (some v.1)) x.buf
    let s1 := { s with aud := { s.aud with rx := Tbl.set s.aud.rx e.1 { x with buf := buf } } }
    if late = 0 then s1 else s1.rxLost e.1 late) s

/-- AUD_RX_READ: at its read time the next sample of a stream is read, or read as 0 and counted lost (R428). -/
def execAudRxRead (r : Fin 128) (s : State) : Host.Outcome State Fault Refusal :=
  let x := s.rxs r
  if !x.bound ∨ s.ptp < rxReadTime x.cfg x.nextT then .next s
  else
    let v := Tbl.get x.buf x.nextT
    let s1 := { s with aud := { s.aud with rx := Tbl.set s.aud.rx r { x with buf := Tbl.set x.buf x.nextT none, nextT := x.nextT + 1 } } }
    let s2 := if v.isNone then s1.rxLost r 1 else s1
    .next (s2.audWrite (40 + r) (v.getD (List.replicate (x.cfg.u8 2) 0)))

/-! ### Outputs -/

/-- The signal of a source at the present and the previous tick; silence is 0. -/
def State.signal (s : State) (src : Option (Nat × Nat)) : Int × Int :=
  match src with
  | none => (0, 0)
  | some (i, ch) => ((s.ain i).cur.getD ch 0, (s.ain i).prev.getD ch 0)

/-- A zero crossing, counting 0 as positive (R431). -/
def crossing (v : Int × Int) : Bool := v.1 == 0 || (decide (0 ≤ v.1) != decide (0 ≤ v.2))

/-- A zero-crossing wait has lasted ZC_TIMEOUT_US: a ramp starts instead (R431, R432). -/
def State.zcTimeout (s : State) (key : Nat) : State :=
  let x := s.aout key
  if (x.stage = 1 ∨ x.stage = 2) ∧ x.since ≤ s.aud.tick ∧ x.timeoutUs * 96 ≤ (s.aud.tick - x.since) * 1000 ∧ !s.aud.realign then
    let s1 := (s.setAout key { x with stage := if x.stage = 1 then 3 else 4, rampK := 0 }).bumpSat .AUD_ZC_TIMEOUTS 0
    match x.cmd with
    | none => s1
    | some id => { s1 with aud := { s1.aud with cmds := s1.aud.cmds.map (fun (c : RouteCmd) => if c.id = id then { c with timeouts := c.timeouts + 1 } else c) } }
  else s

/-- A change of a channel that has a non-PCM signal by now goes on without zero crossing and ramp (R425). -/
def State.codedStage (s : State) (key : Nat) : State :=
  let x := s.aout key
  if x.stage = 0 ∨ x.stage = 5 ∨ x.stage = 6 ∨ !(s.nonPcm x.src || s.nonPcm (x.want.getD none)) then s
  else s.setAout key { x with stage := if x.stage = 3 then 6 else 5 }

/-- ZC_TIMEOUT of an output channel (R431); none applies to a non-PCM signal (R425). -/
def execZcTimeout (o : Fin 168) (ch : Fin 64) (s : State) : Host.Outcome State Fault Refusal :=
  .next ((s.codedStage (audKey o ch)).zcTimeout (audKey o ch))

/-- One output channel at house tick n: its sample, and the route change carried on (R425, R431, R432). -/
def State.chanStep (s0 : State) (key n : Nat) : Int × State :=
  let s := (s0.codedStage key).zcTimeout key
  let x := s.aout key
  let r96 := s.aout96 (key / 64)
  let next := n + if r96 then 1 else 2
  let block := decide ((if r96 then n else n / 2) % 192 = 0)
  let a := s.signal x.src
  let b := s.signal (x.want.getD none)
  let fin := fun (s : State) (x : AudChan) => (s.setAout key { x with src := x.want.getD none, want := none, stage := 0, cmd := none }).routeDone x.cmd key false
  match x.stage with
  | 1 => if crossing a then (0, s.setAout key { x with stage := 2, src := none, since := next }) else (a.1, s)
  | 2 => if crossing b && !s.aud.realign then (b.1, fin s x) else (0, s)
  | 3 =>
    let v := (a.1 * (31 - x.rampK : Int) + 16) / 32
    if x.rampK < 31 then (v, s.setAout key { x with rampK := x.rampK + 1 })
    else (v, s.setAout key { x with src := none, stage := if x.want.isSome then 2 else 0, since := next })
  | 4 =>
    let v := (b.1 * (x.rampK + 1 : Int) + 16) / 32
    if x.rampK < 31 then (v, s.setAout key { x with rampK := x.rampK + 1 }) else (v, fin s x)
  | 5 => if block && !s.aud.realign then (b.1, fin s x) else (a.1, s)
  | 6 => if block then (0, s.setAout key { x with src := none, stage := if x.want.isSome then 5 else 0 }) else (a.1, s)
  | _ => (a.1, s)

/-- The channel-status block an AES3 output sends (R424): the routed source's with CS_COPY, else professional, PCM, the
sample frequency and a 24-bit word length (bit places PRESUMED from AES3, log 21). -/
def State.csOut (s : State) (o ch : Nat) : List Byte :=
  let copied := match (s.aout (audKey o ch)).src with
    | some (i, c) => if ((Tbl.get s.aud.aes (8 + (o - 16))).u8 2).testBit 3 then (Tbl.get s.aud.cs (audKey i c)).last else none
    | none => none
  let b := (copied.getD ([if s.aout96 o then 0x01#8 else 0x81#8, 0#8, 0x2C#8, 0#8, if s.aout96 o then 0x10#8 else 0#8] ++ List.replicate 18 0#8)).take 23
  b ++ [csCrc b]

/-- The samples of one output at a house tick: all its channels in order; a TDM, AES3 or SDI output sends them once the first
profile has been taken (R566), a send stream gathers them (R429). -/
def State.outStep (s : State) (o n : Nat) : State :=
  let idx := if s.aout96 o then n else n / 2
  let stops := (List.range (s.aoutChans o)).filter (fun ch => [3, 6].contains (s.aout (audKey o ch)).stage)
  let (vs, s1) := (List.range (s.aoutChans o)).foldl (fun (acc : List Int × State) ch =>
    let (v, t) := acc.2.chanStep (audKey o ch) n
    (acc.1 ++ [v], t)) ([], s)
  if o < 40 then
    if !s1.boot.taken then s1
    else
      let s2 := if 16 ≤ o ∧ o < 24 ∧ idx % 192 = 0 then
          (s1.emit (.channelStatus (audKey o 0) (s1.csOut o 0))).emit (.channelStatus (audKey o 1) (s1.csOut o 1)) else s1
      vs.zipIdx.foldl (fun s e => s.emit (.sample (audKey o e.2) (if s.audGaveUp && !stops.contains e.2 then 0 else e.1))) s2
  else
    let t := o - 40
    let x := s1.txs t
    let spp := max 1 (strSpp x.cfg)
    let start := s1.ptp - (s1.tm.gridAt s1.now - s1.tickTime n).toNat
    let x1 := if x.acc.isEmpty then (if idx % spp = 0 then { x with acc := [vs], first := idx, at0 := start } else x) else { x with acc := x.acc ++ [vs] }
    let x2 := if spp ≤ x1.acc.length then { x1 with acc := [], ready := x1.ready ++ [(x1.acc, x1.first, x1.at0)] } else x1
    { s1 with aud := { s1.aud with tx := Tbl.set s1.aud.tx t x2 } }

/-- The house clocks jump once every output has ramped down (R417). -/
def State.houseJump (s : State) : State :=
  if !s.aud.realign || s.aud.outs.any (fun e => (e.2.stage == 3 || e.2.stage == 6) && s.chanInUse e.1) then s
  else
    let g := s.tm.gridAt s.now
    let n := (g * 96000 / 1000000000).toNat + 1
    ({ s with aud := { s.aud with realign := false, ofs := 0, tick := n, outs := s.aud.outs.map (fun (e : Nat × AudChan) => (e.1, { e.2 with since := n })),
                                      tx := s.aud.tx.map (fun (e : Nat × TxStream) => (e.1, { e.2 with acc := [] })) } }).setReg
      .AUD_HOUSE_OFS 0 0#32

/-- AUD_HOUSE_SAMPLE: a tick of the 96 kHz house clock, and of the 48 kHz one on even samples (R417): each input is read, then
each output sends (R430, R431). -/
def execAudHouseSample (s : State) : Host.Outcome State Fault Refusal :=
  let n := s.aud.tick
  if !s.regBit .AUD_STATUS 0 31 ∨ s.tm.gridAt s.now < s.tickTime n then .next s
  else
    let s0 := s.aud.outs.foldl (fun (s : State) e => s.endIdle e.1) s
    let s1 := (List.range 168).foldl (fun s i => if s.ainOn i && (s.ain96 i || n % 2 == 0) then s.audRead i else s) s0
    let s2 := (List.range 168).foldl (fun s o => if s.aoutOn o && (s.aout96 o || n % 2 == 0) then s.outStep o n else s) s1
    .next ({ s2 with aud := { s2.aud with tick := n + 1 } }).houseJump

/-- A grid step of g ns does not move the house clocks: A takes −g (R417). -/
def State.houseStep (s : State) (g : Int) : State :=
  if !s.regBit .AUD_STATUS 0 31 then s
  else
    let a := s.aud.ofs - g
    ({ s with aud := { s.aud with ofs := a } }).setReg .AUD_HOUSE_OFS 0 (BitVec.ofInt 32 (clampInt (-(2 ^ 31 : Int)) (2 ^ 31 - 1) a))

/-! ### Send streams (R429) -/

/-- A 24-bit sample as L24 or, rounded and clipped, as L16 (R418), big-endian. -/
def wireSample (l24 : Bool) (v : Int) : List Byte :=
  if l24 then (sleBytes 3 v).reverse else (sleBytes 2 (clampInt (-32768) 32767 ((v + 128) / 256))).reverse

/-- Bytes of payload of a send stream's packet. -/
def txPayload (b : Body) : Nat := strSpp b * b.u8 2 * (if strL24 b then 3 else 2)

/-- Wire rate of the send streams of a MAC in bit/s (R370, R429). -/
def audTxRate (l : List Body) (m : Nat) : ℚ :=
  ((l.filter (fun b => b.u8 3 == m)).map (fun b =>
    ((14 + (if (b.u16 14).testBit 15 then 4 else 0) + 20 + 8 + 12 + txPayload b + 4 + 20 : Nat) : ℚ) * 8 * strHz b / max 1 (strSpp b))).sum

/-- Bodies of the bound send streams. -/
def State.txBodies (s : State) : List Body := (s.aud.tx.filter (fun e => e.2.bound)).map (fun e => e.2.cfg)

/-- This device sends stream t: on duty, or as a standby with its bit of AUD_MASK (R538); never after a give-up (R434). -/
def State.txSends (s : State) (t : Nat) : Bool :=
  !s.audGaveUp && s.boot.taken && (s.onDuty || (s.paired && s.regBit .PAIR_AUD_MASK (t / 32) (t % 32)))

/-- Cost of a packet at a send stream's guard, in units of which a sample clock gives its rate per ns (R429). -/
def txCost (b : Body) : Nat := strSpp b * 1000000000

/-! ### Commands -/

/-- The settings of an AUD_TDM body (R422): inputs of the group's input ports. -/
def State.applyTdm (s : State) (b : Body) : State :=
  let g := b.u8 0
  let on := (b.u8 1).testBit 0
  let s1 := ({ s with aud := { s.aud with tdm := Tbl.set s.aud.tdm g b } }).setBit .AUD_STATUS 0 (8 + g) (on && (b.u8 1).testBit 1)
  let s2 := (List.range 4).foldl (fun s1 n =>
    let t := s1.setInput (4 * g + n) (on && !(b.u8 3).testBit n) ((b.u8 1).testBit 2) (b.u8 2) false
    if t.aoutOn (4 * g + n) && !s.aoutOn (4 * g + n) then t.startOutput (4 * g + n) else t) s1
  if on then s2.startHouse else s2

/-- Routes between ports in use join two rates (R416). -/
def State.ratesJoin (s : State) : Bool :=
  s.aud.outs.any (fun e => s.aoutRated (e.1 / 64) &&
    ((e.2.src.toList ++ (e.2.want.bind id).toList).any (fun x => s.ainRated x.1 && s.ain96 x.1 != s.aout96 (e.1 / 64))))

/-- An AUD_TDM body outside the limits of R422 and R435. -/
def tdmBad (b : Body) : Bool :=
  b.length != 4 || decide (3 < b.u8 0) || decide (15 < b.u8 1) || !([2, 4, 8, 16].contains (b.u8 2)) || decide (15 < b.u8 3)

/-- AUD_TDM 0x5801 (R422); a rate that joins two rates on a route in force is refused (R416). -/
def execAudTdm (r : Req) (b : Body) (s : State) : Host.Outcome State Fault Refusal :=
  command 0x5801 r s [50] (tdmBad b) { rej := if (s.applyTdm b).ratesJoin then some rFORMAT else none } (fun s => done (((s.powerUp 38).applyTdm b).storeTaken 0x5801 b))

/-- The settings of an AUD_AES3 body (R424). -/
def State.applyAes3 (s : State) (b : Body) : State :=
  let on := (b.u8 2).testBit 0
  let s1 := { s with aud := { s.aud with aes := Tbl.set s.aud.aes (8 * b.u8 0 + b.u8 1) b } }
  let s2 := if b.u8 0 = 0 then s1.setInput (16 + b.u8 1) on ((b.u8 2).testBit 1) 2 ((b.u8 2).testBit 2) else s1
  let s3 := if b.u8 0 = 0 ∧ !on then s2.setBit .AUD_STATUS 0 (b.u8 1) false else s2
  let s4 := if s3.aoutOn (16 + b.u8 1) && !s.aoutOn (16 + b.u8 1) then s3.startOutput (16 + b.u8 1) else s3
  if on then s4.startHouse else s4

/-- An AUD_AES3 body outside its limits. -/
def aesBad (b : Body) : Bool := b.length != 4 || decide (1 < b.u8 0) || decide (7 < b.u8 1) || decide (15 < b.u8 2) || b.u8 3 != 0

/-- AUD_AES3 0x5802 (R424). -/
def execAudAes3 (r : Req) (b : Body) (s : State) : Host.Outcome State Fault Refusal :=
  command 0x5802 r s [50] (aesBad b) { rej := if (s.applyAes3 b).ratesJoin then some rFORMAT else none } (fun s => done (((s.powerUp 38).applyAes3 b).storeTaken 0x5802 b))

/-- Channels of every bound stream but one (R427). -/
def State.streamChans (s : State) (tx : Bool) (k : Nat) : Nat :=
  (s.aud.rx.map (fun e => if e.2.bound && !(!tx && e.1 == k) then e.2.cfg.u8 2 else 0)).sum
    + (s.aud.tx.map (fun e => if e.2.bound && !(tx && e.1 == k) then e.2.cfg.u8 2 else 0)).sum

/-- A stream body outside the limits that AUD_RX and AUD_TX share (R427, R435). -/
def streamBad (b : Body) : Bool :=
  b.length != 44 || decide (127 < b.u8 0) || decide (31 < b.u8 1) || !b.zero 8 4 || !b.zero 12 2 || !b.zero 41 3
    || ((b.u8 1).testBit 0 && (b.u8 1 / 8 % 4 == 3 || b.u8 2 == 0 || decide (64 < b.u8 2)))

/-- AUD_CHANNELS follows the bound streams. -/
def State.countChans (s : State) : State := s.setReg .AUD_CHANNELS 0 (BitVec.ofNat 32 (s.streamChans true 128))

/-- Binds or unbinds a receive stream: reading begins with the sample whose read time comes next (R428). -/
def State.applyRx (s : State) (b : Body) : State :=
  let r := b.u8 0
  let on := (b.u8 1).testBit 0
  let x : RxStream := if on then { bound := true, cfg := b, nextT := (s.ptp - b.u16 6 * us) * strHz b / 1000000000 + 1 } else {}
  let s1 := ({ s with aud := { s.aud with rx := Tbl.set s.aud.rx r x } }).countChans
  let s2 := s1.setInput (40 + r) on ((b.u8 1).testBit 1) (if on then b.u8 2 else 0) false
  if on then s2.startHouse else s2

/-- AUD_RX 0x5803: binds stream r to an ingest context of type 2 (R427). -/
def execAudRx (r : Req) (b : Body) (s : State) : Host.Outcome State Fault Refusal :=
  let on := (b.u8 1).testBit 0
  let c := Tbl.get s.ing.ctx (b.u16 4)
  command 0x5803 r s [50] (streamBad b || b.u8 3 != 0 ||
      (on && (decide (b.u16 6 < 125) || decide (20000 < b.u16 6) || decide (1023 < b.u16 4) || !c.bound || c.cfg.u8 2 != 2)))
    { noRes := on && decide (1024 < s.streamChans false (b.u8 0) + b.u8 2)
      rej := if (on && decide (1440 < txPayload b)) || (s.applyRx b).ratesJoin then some rFORMAT else none }
    (fun s => done (((s.powerUp 38).applyRx b).storeTaken 0x5803 b))

/-- Binds or unbinds a send stream; its sequence numbers start at 0 (R367, R429). -/
def State.applyTx (s : State) (b : Body) : State :=
  let t := b.u8 0
  let on := (b.u8 1).testBit 0
  let x : TxStream := if on then { bound := true, cfg := b, tokens := 2 * txCost b, tokensAt := s.now } else {}
  let s1 := ({ s with aud := { s.aud with tx := Tbl.set s.aud.tx t x } }).countChans
  if on then (if s.aoutOn (40 + t) then s1 else s1.startOutput (40 + t)).startHouse else s1

/-- Wire rate of all flows of a MAC but its send streams, in bit/s: given by the caller's configuration (R370). -/
def txOver (s : State) (others : ℚ) (b : Body) : Bool :=
  let l := (s.aud.tx.filter (fun e => e.2.bound && e.1 != b.u8 0)).map (fun e => e.2.cfg)
  decide (s.macRate (b.u8 3) * 95 / 100 < others + audTxRate (l ++ [b]) (b.u8 3))

/-- A body outside the limits of AUD_ROUTE: ports and channels that R419 numbers. -/
def routeBad (b : Body) : Bool :=
  let n := b.u16 0
  n == 0 || decide (509 < n) || decide (50000 < b.u16 2) || b.length != 4 + 8 * n ||
    (List.range n).any (fun k =>
      let o := b.u16 (4 + 8 * k)
      let src := b.u16 (8 + 8 * k)
      let maxCh := if o < 16 then 16 else if o < 24 then 2 else if o < 40 then 16 else 64
      let srcMax := if src < 16 then 16 else if src < 24 then 2 else if src < 40 then 16 else 64
      decide (167 < o) || decide (maxCh ≤ b.u8 (6 + 8 * k)) || (src != 0xFFFF && (decide (167 < src) || decide (srcMax ≤ b.u8 (7 + 8 * k))))
        || !b.zero (10 + 8 * k) 2)

/-- A channel that a port in use does not have (R419). -/
def State.routeChans (s : State) (b : Body) : Bool :=
  (List.range (b.u16 0)).any (fun k =>
    let o := b.u16 (4 + 8 * k)
    let i := b.u16 (8 + 8 * k)
    (s.aoutOn o && decide (s.aoutChans o ≤ b.u8 (6 + 8 * k))) || (i != 0xFFFF && s.ainOn i && decide ((s.ain i).chans ≤ b.u8 (7 + 8 * k))))

/-- Some route joins two rates (R416), by ports in use: a port that is not has no rate (log 215). -/
def State.routeFormat (s : State) (b : Body) : Bool :=
  (List.range (b.u16 0)).any (fun k =>
    let o := b.u16 (4 + 8 * k)
    let i := b.u16 (8 + 8 * k)
    i != 0xFFFF && s.ainRated i && s.aoutRated o && s.ain96 i != s.aout96 o)

/-- Target of change k of an AUD_ROUTE body. -/
def routeTarget (b : Body) (k : Nat) : Option (Nat × Nat) :=
  if b.u16 (8 + 8 * k) = 0xFFFF then none else some (b.u16 (8 + 8 * k), b.u8 (7 + 8 * k))

/-- Makes the changes of an AUD_ROUTE body in order (R433). -/
def State.applyRoutes (s : State) (b : Body) (cmd : Option Nat) : State :=
  (List.range (b.u16 0)).foldl (fun s k => s.changeRoute (audKey (b.u16 (4 + 8 * k)) (b.u8 (6 + 8 * k))) (routeTarget b k) (b.u16 2) cmd) s

/-- AUD_ROUTE 0x5810: answered when every change has ended or has been superseded (R431). -/
def execAudRoute (r : Req) (b : Body) (s : State) : Host.Outcome State Fault Refusal :=
  command 0x5810 r s [50] (routeBad b || s.routeChans b) { rej := if s.routeFormat b then some rFORMAT else none } (fun s1 =>
    let id := s1.aud.nextCmd
    let keys := (List.range (b.u16 0)).map (fun k => audKey (b.u16 (4 + 8 * k)) (b.u8 (6 + 8 * k)))
    let c : RouteCmd := { id := id, req := r, restarted := s.isRestarted, left := keys }
    .later (({ s1 with aud := { s1.aud with cmds := s1.aud.cmds ++ [c], nextCmd := id + 1 } }).applyRoutes b (some id) |>.storeTaken 0x5810 b))

/-- AUD_CLOCK 0x5805: with REALIGN every output ramps down, the house clocks jump to A = 0, and every output starts again
(R417). -/
def execAudClock (r : Req) (b : Body) (s : State) : Host.Outcome State Fault Refusal :=
  command 0x5805 r s [50] (b.length != 4 || decide (1 < b.u8 0) || !b.zero 1 3) {} (fun s =>
    if b.u8 0 = 0 ∨ !s.regBit .AUD_STATUS 0 31 then done s
    else
      done { s with aud := { s.aud with realign := true, outs := s.aud.outs.map (fun (e : Nat × AudChan) =>
        (e.1, e.2.stop (s.nonPcm e.2.src) true)) } })

/-- AUD_CS_READ 0x5811: a channel's last valid channel-status block, or zeros (R424). -/
def execAudCsRead (r : Req) (b : Body) (s : State) : Host.Outcome State Fault Refusal :=
  command 0x5811 r s [] (b.length != 4 || decide (b.u16 0 < 16) || decide (39 < b.u16 0) || decide (15 < b.u8 2) || b.u8 3 != 0) {} (fun s =>
    .now s .OK (((Tbl.get s.aud.cs (audKey (b.u16 0) (b.u8 2))).last).getD (List.replicate 24 0#8)))

end Sys2Proof.Machine
end

