-- ==== Sys2Proof/Machine/EncTake.lean ====
section
/-! DEFINITION. Encode channels and the frames they have taken: the check of a frame taken while open, at the moment its header is
complete (R277). -/

namespace Sys2Proof.Machine

/-- A channel. -/
def State.chan (s : State) (c : Nat) : EncChan := Tbl.get s.enc.chan c
/-- Replaces a channel, keeping KEY_PENDING in step (R305). -/
def State.setChan (s : State) (c : Nat) (x : EncChan) : State :=
  ({ s with enc := { s.enc with chan := Tbl.set s.enc.chan c x } }).setBit .ENC_CH_STAT c 28 (!x.latch.isEmpty)
/-- Changes a channel. -/
def State.modChan (s : State) (c : Nat) (f : EncChan → EncChan) : State := s.setChan c (f (s.chan c))
/-- The surface that a channel has taken, while its pool still holds it. -/
def State.takenSurf (s : State) (x : EncChan) : Option (Nat × Surface) :=
  match s.poolOfSource (x.cfg.u16 4), x.takenAt with
  | some k, some a => ((s.pool k).atAddr a).map (fun f => (k, f))
  | _, _ => none

/-- The header of the frame that a channel has taken is complete: both checks, CONCEALED, and the CONTENT_CRC of R275 (R277). -/
def State.checkTaken (s : State) (c : Nat) : State :=
  let x := s.chan c
  match (s.takenSurf x).bind (fun e => e.2.header.map (fun hd => (e.2, hd))) with
  | none => s
  | some (f, hd) =>
    if some hd.tag.seq != x.taken.map (fun t => t.seq) then s
    else
      let x1 := if x.crc = some hd.contentCrc then x else { x with crc := some hd.contentCrc, tCrc := s.tagTimeOf hd.tag }
      if !x.takenOpen then s.setChan c x1
      else
        let conc := hd.tag.flags / 32 % 2 == 1
        let x2 := { x1 with takenOpen := false, prevConcealed := x1.prevConcealed || conc, taken := some hd.tag }
        if headerBad f hd then
          ((s.setChan c { x2 with prevMismatch := true, distrust := true }).bumpSat .ENC_CH_MISMATCH c).event 0x3806
            ([BitVec.ofNat 8 c, 0#8, 0#8, 0#8] ++ leBytes 4 hd.tag.seq)
        else s.setChan c x2

/-- A frame of pool k has its header: the channels that took it while it was open check it now (R277). -/
def State.headerDone (s : State) (k : Nat) : State :=
  (s.enc.chan.filter (fun e => e.2.takenOpen && s.poolOfSource (e.2.cfg.u16 4) == some k)).foldl (fun (s : State) e => s.checkTaken e.1) s

end Sys2Proof.Machine
end

