-- ==== Sys2Proof/Machine/Scaler.lean ====
section
/-! DEFINITION. The scaler that composition and the image pipes share: positions and passes (R323), table ratios and
coefficients (R325), and the averaging of an image pipe's pre-reduction (R213). The ROM tables of R325 are the results
of a double-precision formula; the model computes the same formula in 64-bit fixed point and exact fractions. -/

namespace Sys2Proof.Machine

/-- A plane of samples, line by line. -/
abbrev Plane := List (List Int)

/-- A sample of a plane; the caller keeps the position inside it. -/
def Plane.px (p : Plane) (x y : Int) : Int := (p.getD y.toNat []).getD x.toNat 0

/-- One in the fixed point of the coefficient formula. -/
def fxOne : Int := 2 ^ 64

/-- π in that fixed point, to the nearest unit. -/
def fxPi : Int := 57952155664616982739

/-- Sum of the first n terms of the sine series, from a term and its index. -/
def sinTerms (x2 : Int) : Nat → Nat → Int → Int
  | 0, _, _ => 0
  | n + 1, k, t => t + sinTerms x2 n (k + 2) (-(t * x2 / fxOne) / ((k + 1) * (k + 2) : Nat))

/-- sin(π n / d) in fixed point, for d > 0. -/
def sinPi (n : Int) (d : Nat) : Int :=
  let m := n % (2 * d : Nat)
  let s : Int := if m < d then 1 else -1
  let r := m % (d : Nat)
  let q := if 2 * r ≤ d then r else (d : Int) - r
  let x := fxPi * q / (d : Nat)
  s * sinTerms (x * x / fxOne) 14 1 x

/-- sinc(n / d) in fixed point. -/
def fxSinc (n : Int) (d : Nat) : Int := if n = 0 then fxOne else sinPi n d * fxOne / (fxPi * n / (d : Nat))

/-- The kernel w(n / d) of a coefficient set, in fixed point (R325); a is 4 horizontally and 3 vertically. -/
def scKernel (set a : Nat) (n : Int) (d : Nat) : Int :=
  let t := (n.natAbs : Int) * fxOne / (d : Nat)
  match set with
  | 0 => if n.natAbs < a * d then fxSinc n d * fxSinc n (a * d) / fxOne else 0
  | 1 =>
    let t2 := t * t / fxOne
    let t3 := t2 * t / fxOne
    if n.natAbs ≤ d then (3 * t3 - 5 * t2) / 2 + fxOne
    else if n.natAbs < 2 * d then (-t3 + 5 * t2) / 2 - 4 * t + 2 * fxOne else 0
  | 2 => max 0 (fxOne - t)
  | _ => if -(d : Int) ≤ 2 * n ∧ 2 * n < d then fxOne else 0

/-- Four times the table ratio: the smallest of 1, 1.25, 1.5, 2, 2.5, 3, 4 that is at least step / 65,536 (R325). -/
def scRatio4 (step : Nat) : Nat :=
  ([4, 5, 6, 8, 10, 12].find? (fun r => decide (4 * step ≤ r * 65536))).getD 16

/-- Coefficients of a set, direction, table ratio and phase: 8 horizontal or 6 vertical taps (R325). -/
def scCoef (set : Nat) (horiz : Bool) (r4 p : Nat) : List Int :=
  let ks : List Int := if horiz then [-3, -2, -1, 0, 1, 2, 3, 4] else [-2, -1, 0, 1, 2, 3]
  let raw := ks.map (fun k => scKernel set (if horiz then 4 else 3) (64 * k - p) (16 * r4))
  let tot := raw.sum
  let c := raw.map (fun w => (2 * 4096 * w + tot) / (2 * tot))
  let fix := 4096 - c.sum
  let z := (if horiz then 3 else 2) + (if p < 32 then 0 else 1)
  c.modify z (· + fix)

/-- step = floor(w' × 65,536 / dst) (R323). -/
def scStep (w dst : Nat) : Nat := w * 65536 / max 1 dst

/-- Position of output index n of a region with origin x0 (R323). -/
def scPos (x0 : Int) (step n : Nat) : Int := x0 * 65536 + ((step : Int) - 65536) / 2 + n * step

/-- One output of a pass: taps around the position, sources kept within lo to hi, rounded and clipped to cmin to cmax. -/
def scTap (set : Nat) (horiz : Bool) (x0 : Int) (step n : Nat) (lo hi cmin cmax : Int) (rd : Int → Int) : Int :=
  let pos := scPos x0 step n
  let i := pos / 65536
  let p := (pos / 1024 % 64).toNat
  let c := scCoef set horiz (scRatio4 step) p
  let base : Int := if horiz then -3 else -2
  let sum := (c.zipIdx.map (fun e => e.1 * rd (clampInt lo hi (i + base + e.2)))).sum
  clampInt cmin cmax ((sum + 2048) / 4096)

/-- Scales a whole plane of w × h to dw × dh, lines first and then columns (R323). -/
def scPlane (set w h dw dh : Nat) (cmin cmax : Int) (p : Plane) : Plane :=
  let sv := scStep h dh
  let sh := scStep w dw
  (List.range dh).map (fun y =>
    let line := (List.range w).map (fun x =>
      scTap set false 0 sv y 0 (h - 1 : Int) cmin cmax (fun j => p.px x j))
    (List.range dw).map (fun x => scTap set true 0 sh x 0 (w - 1 : Int) cmin cmax (fun i => line.getD i.toNat 0)))

/-- Averages pairs of adjacent samples of a line; an odd last one is paired with itself (R213). -/
def halveLine : List Int → List Int
  | [] => []
  | [a] => [(a + a + 1) / 2]
  | a :: b :: t => (a + b + 1) / 2 :: halveLine t

/-- Averages pairs of lines (R213). -/
def halveLines : Plane → Plane
  | [] => []
  | [a] => [a.map (fun v => (v + v + 1) / 2)]
  | a :: b :: t => List.zipWith (fun x y => (x + y + 1) / 2) a b :: halveLines t

/-- The scaler of an image pipe: directions above 4:1 are halved first (R213). -/
def pipeScale (set w h dw dh : Nat) (cmin cmax : Int) (p : Plane) : Plane :=
  let hh := decide (4 * dw < w)
  let hv := decide (4 * dh < h)
  let p1 := if hh then p.map halveLine else p
  let p2 := if hv then halveLines p1 else p1
  scPlane set (if hh then ceilDiv w 2 else w) (if hv then ceilDiv h 2 else h) dw dh cmin cmax p2

end Sys2Proof.Machine
end

