-- ==== Sys2Proof/Machine/PipePixels.lean ====
section
/-! DEFINITION. The processing chain of an image pipe (R212 to R215) and the statistics taken at its tap (R218).
The 4 × 4 site patterns of RGBW and RGB-IR are not drawn by the spec (PRESUMED, log 6). -/

namespace Sys2Proof.Machine

/-- Mosaic channel of a pattern position: 0 R, 1 G or C, 2 B, 3 W or IR (R214, R218). -/
def patternAt (mosaic x y : Nat) : Nat :=
  if mosaic < 2 then ([[0, 1], [1, 2]].getD (y % 2) []).getD (x % 2) 0
  else if mosaic = 2 then ([[3, 2, 3, 1], [2, 3, 1, 3], [3, 1, 3, 0], [1, 3, 0, 3]].getD (y % 4) []).getD (x % 4) 0
  else ([[2, 1, 0, 1], [1, 3, 1, 3], [0, 1, 2, 1], [1, 3, 1, 3]].getD (y % 4) []).getD (x % 4) 0

/-- Channel of a raw site, with PHASE the pattern position of the top-left sample (R214). -/
def siteAt (mosaic phase x y : Nat) : Nat :=
  if mosaic < 2 then patternAt mosaic (x + phase % 2) (y + phase / 2) else patternAt mosaic (x + phase % 4) (y + phase / 4)

/-- Round-half-up mean of a list; 0 for none. -/
def meanOf (l : List Int) : Int := if l.isEmpty then 0 else roundDiv l.sum l.length

/-- Median of a list, halves of the middle pair rounded up (R212). -/
def medianOf (l : List Int) : Int :=
  let m := l.mergeSort (· ≤ ·)
  let n := m.length
  if n = 0 then 0 else if n % 2 = 1 then m.getD (n / 2) 0 else (m.getD (n / 2 - 1) 0 + m.getD (n / 2) 0 + 1) / 2

/-- Sites of a channel in the row and the column of (x, y), each with its distance and direction (R212). -/
def crossSites (mosaic phase ch w h : Nat) (p : Plane) (x y : Int) : List (Nat × Nat × Int) :=
  (([(-1, 0), (1, 0), (0, -1), (0, 1)] : List (Int × Int)).zipIdx.map (fun (d, i) =>
    (List.range 16).filterMap (fun k =>
      let a := x + ((k + 1 : Nat) : Int) * d.1
      let b := y + ((k + 1 : Nat) : Int) * d.2
      if 0 ≤ a ∧ a < w ∧ 0 ≤ b ∧ b < h ∧ siteAt mosaic phase a.toNat b.toNat = ch then some (k + 1, i, p.px a b) else none))).flatten

/-- The nearest site of a channel from (x, y) in a direction, inside the plane, within 4 steps. -/
def nearest (mosaic phase ch w h : Nat) (p : Plane) (x y dx dy : Int) : Option Int :=
  ([1, 2, 3, 4] : List Int).findSome? (fun k =>
    let a := x + k * dx
    let b := y + k * dy
    if 0 ≤ a ∧ a < w ∧ 0 ≤ b ∧ b < h ∧ siteAt mosaic phase a.toNat b.toNat = ch then some (p.px a b) else none)

/-- Black level per mosaic channel (R212). -/
def stBlack (ps : Body) (lines : List (List Nat)) : Plane :=
  lines.zipIdx.map (fun ly => ly.1.zipIdx.map (fun sx =>
    clampInt 0 4095 ((sx.1 : Int) - ps.u16 (4 + 2 * siteAt (ps.u8 1) (ps.u8 2) sx.2 ly.2))))

/-- Defect correction: the median of the four nearest sites of the same channel in the row and the column (R212); which of several at
the same distance count is open (log 181). -/
def stDefect (ps : Body) (w h : Nat) (sites : List (Nat × Nat)) (p : Plane) : Plane :=
  let rank := fun (e : Nat × Nat × Int) => 64 * e.1 + 4 * (Config.defectTie e.2.1).toNat + e.2.1
  sites.foldl (fun q e =>
    let ch := siteAt (ps.u8 1) (ps.u8 2) e.1 e.2
    let near := ((crossSites (ps.u8 1) (ps.u8 2) ch w h p e.1 e.2).mergeSort (fun a b => decide (rank a ≤ rank b))).take 4
    q.modify e.2 (fun l => l.set e.1 (medianOf (near.map (·.2.2))))) p

/-- The plane at the statistics tap of R212. -/
def statsPlane (b : Body) (f : RawFrame) : Plane :=
  stDefect f.params (b.u16 12) (b.u16 14) f.defects (stBlack f.params f.lines)

/-- The tap's values as numbers. -/
def statsTap (b : Body) (f : RawFrame) : List (List Nat) := (statsPlane b f).map (fun l => l.map Int.toNat)

/-- Values of channel k over a rectangle of sites, raster order. -/
def sitesIn (mosaic phase : Nat) (tap : List (List Nat)) (x0 x1 y0 y1 k : Nat) : List Nat :=
  ((List.range (y1 - y0)).map (fun j => (List.range (x1 - x0)).filterMap (fun i =>
    if siteAt mosaic phase (x0 + i) (y0 + j) = k then some ((tap.getD (y0 + j) []).getD (x0 + i) 0) else none))).flatten

/-- Histogram of channel k: 256 bins by v >> 4; channel 3 is zero for two-by-two mosaics (R218). -/
def histogram (mosaic phase : Nat) (tap : List (List Nat)) (k : Nat) : List Nat :=
  let vs := if mosaic < 2 ∧ k = 3 then [] else sitesIn mosaic phase tap 0 ((tap.map List.length).foldl max 0) 0 tap.length k
  (List.range 256).map (fun b => (vs.filter (fun v => v / 16 == b)).length)

/-- The stored 12-bit value of a data type's greatest sample (R200). -/
def rawMax (dt : Nat) : Nat := if dt = 0x2A then 255 * 16 else if dt = 0x2B then 1023 * 4 else 4095

/-- Zone (i, j): means of R, G and B sites rounded down, and saturated raw sites (R218). -/
def zoneOf (mosaic phase w h top : Nat) (tap raw : List (List Nat)) (i j : Nat) : Nat × Nat × Nat × Nat :=
  let x0 := i * w / 32
  let x1 := (i + 1) * w / 32
  let y0 := j * h / 32
  let y1 := (j + 1) * h / 32
  let mean := fun k => let l := sitesIn mosaic phase tap x0 x1 y0 y1 k; l.sum / max 1 l.length
  let sat := ((List.range (y1 - y0)).map (fun b => (((raw.getD (y0 + b) []).drop x0).take (x1 - x0)).countP (· == top))).sum
  (mean 0, mean 1, mean 2, min 65535 sat)

/-- Sites of a channel in the window of radius r around (x, y). -/
def windowOf (mosaic phase ch w h r : Nat) (p : Plane) (x y : Nat) : List Int :=
  ((List.range (2 * r + 1)).map (fun j => (List.range (2 * r + 1)).filterMap (fun i =>
    let a : Int := x + i - r
    let b : Int := y + j - r
    if 0 ≤ a ∧ a < w ∧ 0 ≤ b ∧ b < h ∧ siteAt mosaic phase a.toNat b.toNat = ch then some (p.px a b) else none))).flatten

/-- IR subtraction of an RGB-IR mosaic (R212). -/
def stIr (ps : Body) (w h : Nat) (p : Plane) : Plane :=
  if ps.u8 1 ≠ 3 then p
  else p.zipIdx.map (fun ly => ly.1.zipIdx.map (fun sx =>
    let k := siteAt 3 (ps.u8 2) sx.2 ly.2
    if k = 3 then sx.1
    else clampInt 0 4095 (sx.1 - roundDiv (meanOf (windowOf 3 (ps.u8 2) 3 w h 1 p sx.2 ly.2) * ps.u16 (38 + 2 * k)) 1024)))

/-- White balance (R212). -/
def stWb (ps : Body) (p : Plane) : Plane :=
  p.zipIdx.map (fun ly => ly.1.zipIdx.map (fun sx =>
    clampInt 0 4095 (roundDiv (sx.1 * ps.u16 (12 + 2 * siteAt (ps.u8 1) (ps.u8 2) sx.2 ly.2)) 1024)))

/-- The primary plane at a site (R214): the sample itself, else the mean of the nearest pair with the smaller difference. -/
def primaryAt (mosaic phase ch w h : Nat) (p : Plane) (x y : Nat) : Int :=
  if siteAt mosaic phase x y = ch then p.px x y
  else
    let g := fun (d : Int × Int) => nearest mosaic phase ch w h p x y d.1 d.2
    let hz := [g (-1, 0), g (1, 0)].filterMap id
    let vt := [g (0, -1), g (0, 1)].filterMap id
    let diff := fun (l : List Int) => match l with | [a, b] => some (a - b).natAbs | _ => none
    match diff hz, diff vt with
    | some a, some b => if a < b then meanOf hz else if b < a then meanOf vt else meanOf (hz ++ vt)
    | some _, none => meanOf hz
    | none, some _ => meanOf vt
    | none, none => meanOf (hz ++ vt)

/-- The three planes that the colour matrix receives at a site (R214). -/
def reconstruct (ps : Body) (w h : Nat) (p : Plane) (x y : Nat) : List Int :=
  let m := ps.u8 1
  let ph := ps.u8 2
  let win := fun ch => meanOf (windowOf m ph ch w h 2 p x y)
  [win 0, if m = 2 then win 1 else primaryAt m ph 1 w h p x y, win 2]

/-- Colour matrix and gamma (R212). -/
def matGamma (ps : Body) (v : List Int) : List Int :=
  (List.range 3).map (fun i =>
    let o := clampInt 0 4095 (roundDiv ((List.range 3).map (fun j => ps.sle (20 + 2 * (3 * i + j)) 2 * v.getD j 0)).sum 1024)
    let n := o.toNat
    let l := fun k => ps.u16 (48 + 2 * min 1023 k)
    clampInt 0 1023 (((l (n / 4) * (4 - n % 4) + l (n / 4 + 1) * (n % 4) + 2) / 4 : Nat)))

/-- Kr and Kb in ten-thousandths: BT.709 or BT.2020 (R133, R212). -/
def kr (cs : Nat) : Int := if cs = 0 then 2126 else 2627
/-- Kb in ten-thousandths. -/
def kb (cs : Nat) : Int := if cs = 0 then 722 else 593

/-- 10-bit narrow-range Y'CbCr of a 10-bit full-range pixel, rounded (R212). -/
def toYcc (cs : Nat) (v : List Int) : List Int :=
  let r := v.getD 0 0
  let g := v.getD 1 0
  let b := v.getD 2 0
  let y4 := kr cs * r + (10000 - kr cs - kb cs) * g + kb cs * b
  let y := clampInt 64 940 (64 + roundDiv (876 * y4) 10230000)
  let c := fun (x k : Int) => clampInt 64 960 (512 + roundDiv (896 * (10000 * x - y4)) (2 * (10000 - k) * 1023).toNat)
  [y, c b (kb cs), c r (kr cs)]

/-- Chroma of pixels 2k and 2k + 1 combined (R212). -/
def pairChroma : List Int → List Int
  | a :: b :: t => (a + b + 1) / 2 :: pairChroma t
  | [a] => [a]
  | [] => []

/-- Interleaves luma and chroma lines in the 4:2:2 order Y, Cb, Cr, Y. -/
def weave422 : List Int → List Int → List Int → List Nat
  | y0 :: y1 :: ys, b :: bs, r :: rs => y0.toNat :: b.toNat :: r.toNat :: y1.toNat :: weave422 ys bs rs
  | [y0], b :: _, r :: _ => [y0.toNat, b.toNat, r.toNat]
  | _, _, _ => []

/-- The colour surface of a processed frame: the whole chain of R212. -/
def pipeColour (b : Body) (f : RawFrame) : List (List Nat) :=
  let ps := f.params
  let w := b.u16 12
  let h := b.u16 14
  let p := stWb ps (stIr ps w h (statsPlane b f))
  let ycc := (List.range h).map (fun y => (List.range w).map (fun x =>
    toYcc (ps.u8 3 / 2 % 2) (matGamma ps (reconstruct ps w h p x y))))
  let pl := fun k => ycc.map (fun l => l.map (fun v => v.getD k 0))
  let set := ps.u8 3 / 4 % 4
  let ow := b.u16 16
  let oh := b.u16 18
  let yy := pipeScale set w h ow oh 64 940 (pl 0)
  let ch := fun k => pipeScale set (ceilDiv w 2) h (ceilDiv ow 2) oh 64 960 ((pl k).map pairChroma)
  let bb := ch 1
  let rr := ch 2
  (List.range oh).map (fun y => weave422 (yy.getD y []) (bb.getD y []) (rr.getD y []))

/-- The IR surface: the IR sites at the tap, mapped onto narrow range, neutral chroma (R215). -/
def pipeIr (b : Body) (f : RawFrame) : List (List Nat) :=
  let tap := statsPlane b f
  let w := b.u16 12
  let h := b.u16 14
  (List.range (h / 2)).map (fun y =>
    let ys := (List.range (w / 2)).map (fun x =>
      let vs := ((List.range 2).map (fun j => (List.range 2).filterMap (fun i =>
        if siteAt 3 (f.params.u8 2) (2 * x + i) (2 * y + j) = 3 then some (tap.px (2 * x + i) (2 * y + j)) else none))).flatten
      64 + ((vs.getD 0 0) * 876 + 2048) / 4096)
    let n := List.replicate (ceilDiv (w / 2) 2) (512 : Int)
    weave422 ys n n)

end Sys2Proof.Machine
end

