-- ==== Sys2Proof/Machine/Camera.lean ====
section
/-! DEFINITION. The CSI-2 ports, camera contexts and image pipes: packets and raw frames (R198 to R204), pipe selection
(R205, R206), parameter sets (R209 to R211), release, statistics and the statistics ring (R216 to R220), residue retry
(R221), and the commands of group 0x28 that need no commit validation. -/

namespace Sys2Proof.Machine

/-- A CSI-2 port. -/
def State.cport (s : State) (p : Nat) : CamPort := Tbl.get s.cam.ports p
/-- Replaces a CSI-2 port. -/
def State.setCport (s : State) (p : Nat) (x : CamPort) : State :=
  ({ s with cam := { s.cam with ports := Tbl.set s.cam.ports p x } }).setBit .CAM_STATUS 0 p (x.enabled && x.clock)
/-- A camera context. -/
def State.cctx (s : State) (c : Nat) : CamCtx := Tbl.get s.cam.ctx c
/-- Replaces a camera context, keeping its status register in step (R223). -/
def State.setCctx (s : State) (c : Nat) (x : CamCtx) : State :=
  let s1 := ({ s with cam := { s.cam with ctx := Tbl.set s.cam.ctx c x } }).setBit .CAM_STATUS 0 (16 + c) x.los
  let w : Word := ((((((zeroWord.setBits 31 31 (bit01 x.bound)).setBits 30 30 (bit01 x.los)).setBits 29 27 (x.cfg.u8 2)).setBits
    26 25 (x.cfg.u8 3)).setBits 24 24 (bit01 x.writing.isSome)).setBits 23 23 (bit01 x.waiting.isSome)).setBits 22 22
      (bit01 x.processing.isSome)
  s1.setReg .CAM_CTX_STAT c (w.setBits 21 21 (bit01 (x.armedSet.isSome || x.armedDef.isSome)))
/-- Changes a camera context. -/
def State.modCctx (s : State) (c : Nat) (f : CamCtx → CamCtx) : State := s.setCctx c (f (s.cctx c))
/-- An image pipe. -/
def State.pipe (s : State) (q : Nat) : Pipe := Tbl.get s.cam.pipes q
/-- Replaces an image pipe, keeping its status register in step. -/
def State.setPipe (s : State) (q : Nat) (x : Pipe) : State :=
  (({ s with cam := { s.cam with pipes := Tbl.set s.cam.pipes q x } }).setBit .CAM_PIPE_STAT q 31 x.busy.isSome).setBits
    .CAM_PIPE_STAT q 27 24 (x.busy.getD 0)

/-- Port of a binding. -/
def cPort (b : Body) : Nat := b.u8 2
/-- SOURCE_ID of a binding. -/
def cSource (b : Body) : Nat := b.u16 8
/-- WIDTH of a binding. -/
def cW (b : Body) : Nat := b.u16 12
/-- HEIGHT of a binding. -/
def cH (b : Body) : Nat := b.u16 14
/-- Bits per sample of a data type (R195). -/
def cBits (dt : Nat) : Nat := if dt = 0x2A then 8 else if dt = 0x2B then 10 else 12

/-- The bound context of a port and virtual channel (R197). -/
def State.camOf (s : State) (p v : Nat) : Option Nat :=
  (List.range 16).find? (fun c => (s.cctx c).bound && cPort (s.cctx c).cfg == p && (s.cctx c).cfg.u8 3 == v)

/-- CAM_LOS on every change, at most 10 a second (R201, R224). -/
def State.setCamLos (s : State) (c : Nat) (lost : Bool) (t : Nat) : State :=
  let x := s.cctx c
  if x.los = lost then s
  else
    let s1 := (s.setCctx c { x with los := lost }).modPool (poolCam c) (fun p => { p with los := lost })
    let s2 := if x.cfg.u8 6 = 0 then s1 else s1.modPool (poolIr c) (fun p => { p with los := lost })
    s2.eventLimited 0x2801 c 10 t (leBytes 1 c ++ leBytes 1 (bit01 lost) ++ leBytes 2 0 ++ leBytes 2 (cSource x.cfg))

/-- Fields of the counted events of R224. -/
def camFields (c lines n : Nat) : List Byte := leBytes 1 c ++ leBytes 3 0 ++ leBytes 2 lines ++ leBytes 2 0 ++ leBytes 4 n

/-! ### The pipe (R205, R206) -/

/-- Processing time of a frame in ns: WIDTH × HEIGHT at 2.4 Gpixel/s plus 5 µs (R206). -/
def pipeNs (b : Body) : Nat := cW b * cH b * 10 / 24 + 5 * us

/-- Contexts of a pipe: those on ports 0 to 3, or on ports 4 to 7 (R197). -/
def State.pipeCtxs (s : State) (q : Nat) : List Nat :=
  (List.range 16).filter (fun c => (s.cctx c).bound && cPort (s.cctx c).cfg / 4 == q)

/-- The waiting frame with the earliest frame-start time, the lower context on a tie (R205). -/
def State.earliest (s : State) : List Nat → Option (Nat × RawFrame)
  | [] => none
  | c :: t =>
    match (s.cctx c).waiting, State.earliest s t with
    | none, b => b
    | some f, none => some (c, f)
    | some f, some (d, g) => if g.start < f.start then some (d, g) else some (c, f)

/-- Takes a surface of a camera pool for a frame whose processing begins: its header is zeroed before the first pixel. Without
one, or in a pool that a change of binding has made too small for it (DESIGN CHOICE, log 179), the frame is withheld with NOBUF
(R187, R216). -/
def State.camTakeSurface (s : State) (c k w h : Nat) : Option Nat × State :=
  let p := s.pool k
  match if w ≤ p.maxW ∧ h ≤ p.maxH then p.take else none with
  | some (i, p1) => (some (p1.surf i).addr, s.setPool k p1)
  | none =>
    let s1 := s.addSatBits .CAM_CTX_WITHHELD c 15 0 1
    (none, s1.eventPerSec 0x2805 c 1 (fun _ => camFields c 0 (s1.regBits .CAM_CTX_WITHHELD c 15 0)))

/-- The pipe of a frame writes an IR plane (R215). -/
def RawFrame.infrared (f : RawFrame) : Bool := f.cfg.u8 6 != 0 && f.params.u8 3 % 2 == 1

/-- An idle pipe takes its next frame, and the surfaces it writes (R187, R205, R216). -/
def State.pipeSelect (s : State) (q : Nat) : State :=
  if (s.pipe q).busy.isSome then s
  else
    match s.earliest (s.pipeCtxs q) with
    | none => s
    | some (c, f) =>
      let (a, s1) := s.camTakeSurface c (poolCam c) (f.cfg.u16 16) (f.cfg.u16 18)
      let (d, s2) := if a.isSome && f.infrared then s1.camTakeSurface c (poolIr c) (cW f.cfg / 2) (cH f.cfg / 2) else (none, s1)
      ((s2.modCctx c (fun x => { x with waiting := none, processing := some f })).setPipe q
        { busy := some c, started := s.now, colour := a, infra := d }).setReg .CAM_CTX_QUEUE_US c (BitVec.ofNat 32 ((s.now - f.closed) / us))

/-- The pipe lets go the frame it is on: its surfaces stay without a header (R187). -/
def State.pipeDrop (s : State) (q : Nat) : State :=
  let p := s.pipe q
  match p.busy with
  | none => s
  | some c =>
    let give := fun (s : State) (k : Nat) (a : Option Nat) => match a with
      | some x => (s.modPool k (fun y => y.abandonAt x)).collect k
      | none => s
    (give (give s (poolCam c) p.colour) (poolIr c) p.infra).setPipe q {}

/-- A frame that completes in the very cycle in which its pipe has selected one of another context was a candidate too: the earlier
frame start goes first (R205). A frame of the same context counts as started (R204). -/
def State.pipeAgain (s : State) (q c : Nat) (start : Nat) : State :=
  let p := s.pipe q
  match p.busy with
  | none => s
  | some d =>
    match (s.cctx d).processing with
    | none => s
    | some g =>
      if d ≠ c ∧ p.started = s.now ∧ !p.retried ∧ (s.cctx d).waiting.isNone ∧ (start < g.start ∨ (start = g.start ∧ c < d)) then
        (s.pipeDrop q).modCctx d (fun x => { x with waiting := some g, processing := none })
      else s

/-- An open frame closes short: it is withheld, and its raw buffer is free at once (R199, R211). -/
def State.shortCam (s : State) (c : Nat) : State :=
  match (s.cctx c).writing with
  | none => s
  | some f =>
    ((s.modCctx c (fun y => { y with writing := none })).addSatBits .CAM_CTX_WITHHELD c 31 16 1).eventPerSec 0x2802 c 1 (camFields c f.count)

/-- An open frame closes (R199): short frames are withheld; a complete one waits for the pipe and supersedes an older one
that still waits (R204). -/
def State.closeCam (s : State) (c : Nat) : State :=
  let x := s.cctx c
  match x.writing with
  | none => s
  | some f =>
    let h := cH f.cfg
    if f.count < h then s.shortCam c
    else
      let q := cPort f.cfg / 4
      let f1 := { f with closed := s.now, flags := if h < f.count then f.flags ||| fOVERLONG else f.flags }
      let s1 := if h < f.count then
          (s.bumpSat .CAM_CTX_OVERLONG c).eventPerSec 0x2803 c 1 (camFields c f.count) else s
      let s2 := if x.waiting.isSome then
          (s1.bumpSat .CAM_CTX_SUPERSEDED c).eventPerSec 0x2804 c 1 (camFields c 0) else s1
      ((s2.setCctx c { x with writing := none, waiting := some f1 }).pipeAgain q c f.start).pipeSelect q

/-! ### Loads and virtual channels shown (R196, R208, R223) -/

/-- Capacity of a port in Mbit/s times 7: lanes × rate, or trios × symbol rate × 16/7 (R196). -/
def portCap7 (b : Body) : Nat := if b.u8 2 = 0 then 7 * b.u8 3 * b.u16 4 else 16 * b.u8 3 * b.u16 4

/-- Declared pixel rate of a binding (R196, R208). -/
def camRate (b : Body) : ℚ := (cW b * cH b * b.u16 20 : ℚ) / max 1 (b.u16 22)

/-- Raw bit rate of the contexts bound to a port, in bit/s, with a list of bindings (R196). -/
def portBits (l : List Body) (p : Nat) : ℚ := ((l.filter (fun b => cPort b == p)).map (fun b => camRate b * cBits (b.u8 4))).sum

/-- Bindings of a context: the one in force, and the one that waits. -/
def CamCtx.bindings (x : CamCtx) : List Body := (if x.bound then [x.cfg] else []) ++ (x.next.toList.filter (fun b => b.u8 1 == 1))

/-- The newest bindings: those that the next frame starts leave in force. -/
def State.camBindings (s : State) : List (Nat × Body) :=
  (List.range 16).filterMap (fun c =>
    let x := s.cctx c
    match x.next with
    | some b => if b.u8 1 = 0 then none else some (c, b)
    | none => if x.bound then some (c, x.cfg) else none)

/-- The bindings in force. -/
def State.camInForce (s : State) : List (Nat × Body) :=
  (List.range 16).filterMap (fun c => if (s.cctx c).bound then some (c, (s.cctx c).cfg) else none)

/-- Is a port's declared load above 90 % of its capacity (R196). -/
def portOver (bits : ℚ) (b : Body) : Bool := decide ((9 * portCap7 b * 1000000 : ℚ) < 70 * bits)

/-- Shows a port's configuration, load and bound virtual channels (R223). -/
def State.showCport (s : State) (p : Nat) : State :=
  let x := s.cport p
  let bound := (s.camInForce.map (·.2)).filter (fun b => cPort b == p)
  let load := (portBits bound p * 7 / (max 1 (portCap7 x.cfg) * 1000)).floor.toNat
  let w : Word := (((zeroWord.setBits 31 31 (bit01 x.enabled)).setBits 30 30 (x.cfg.u8 2)).setBits 29 28 (x.cfg.u8 3)).setBits 27 15 (x.cfg.u16 4)
  s.setReg .CAM_PORT_STAT p ((w.setBits 14 4 (if x.cfg.isEmpty then 0 else min 1000 load)).setBits 3 0 (bitsMask (bound.map (fun b => b.u8 3))))

/-- Shows the ports, and the load of each pipe in units of 0.001 Gpixel/s (R208, R223). -/
def State.showCams (s : State) : State :=
  let s1 := (List.range 8).foldl State.showCport s
  (List.range 2).foldl (fun (s : State) q =>
    let load : ℚ := ((s.camInForce.filter (fun e => cPort e.2 / 4 == q)).map (fun e => camRate e.2)).sum
    s.setBits .CAM_PIPE_STAT q 11 0 (load / 1000000).floor.toNat) s1

/-- Puts a camera binding in force with the pools and raw buffers allocated for it (R169, R202, R211). The pipe drops what
it still holds of a context that is unbound. -/
def State.applyCam (s : State) (c : Nat) (b : Body) (quiet : Bool) : State :=
  let s1 := if quiet then s else s.storeTaken 0x2802 b
  if b.u8 1 = 0 then
    let mine := (List.range 2).filter (fun q => (s1.pipe q).busy == some c)
    let s2 := mine.foldl State.pipeDrop s1
    let s3 := ((s2.freePool (poolCam c)).freePool (poolIr c)).freePool (poolRaw c)
    (mine.foldl State.pipeSelect (s3.setCctx c default)).showCams
  else
    let s2 := ((s1.adoptPool (poolCam c)).adoptPool (poolIr c)).adoptPool (poolRaw c)
    let s3 := if b.u8 6 = 0 then s2.freePool (poolIr c) else s2
    let s4 := s3.modCctx c (fun y => { y with bound := true, cfg := b, next := none, lastFs := if y.bound then y.lastFs else s.now })
    let los := (s4.cctx c).los
    let s5 := s4.modPool (poolCam c) (fun p => { p with los := los })
    (if b.u8 6 = 0 then s5 else s5.modPool (poolIr c) (fun p => { p with los := los })).showCams

/-- A camera binding takes hold. A context that still stands on its port and virtual channel, with a move waiting, moves with it, so
that no two bound contexts share one (R197; log 176); `fuel` bounds that chain by the number of contexts. -/
def State.camTake (s : State) (c : Nat) (b : Body) (quiet : Bool) : Nat → State
  | 0 => s.applyCam c b quiet
  | fuel + 1 =>
    let s1 := s.applyCam c b quiet
    let other := (List.range 16).find? (fun d =>
      d != c && b.u8 1 == 1 && (s1.cctx d).bound && cPort (s1.cctx d).cfg == cPort b && (s1.cctx d).cfg.u8 3 == b.u8 3)
    match other with
    | none => s1
    | some d =>
      match (s1.cctx d).next with
      | none => s1
      | some b1 => State.camTake (s1.shortCam d) d b1 (s1.cctx d).nextQuiet fuel

/-- A waiting change of a binding takes hold at a frame start; its open frame closes short (R211). -/
def State.camBoundary (s : State) (c : Nat) : State :=
  match (s.cctx c).next with
  | none => s
  | some b => (s.shortCam c).camTake c b (s.cctx c).nextQuiet 16

/-- The reply of CAM_PARAMS and CAM_DEFECTS. -/
def State.camReply (s : State) (op : Nat) (a : ArmedParams) (t : Nat) (replaced : Bool) : State :=
  if a.quiet then s else s.replyR a.req op 0 0 a.restarted ((if replaced then List.replicate 8 0#8 else timeBytes t) ++ leBytes 1 (bit01 replaced))

/-- A packet shows that a port's clock is there (R201, R223). -/
def State.portAlive (s : State) (p : Nat) : State :=
  if (s.cport p).clock then s else s.setCport p { (s.cport p) with clock := true }

/-- The context whose frame starts with a frame-start packet: the one in force there, else the one whose waiting binding names the
port and virtual channel (DEDUCED, log 178). -/
def State.camStarting (s : State) (p v : Nat) : Option Nat :=
  match s.camOf p v with
  | some c => some c
  | none => (List.range 16).find? (fun c => (s.cctx c).bound && (s.cctx c).next.any (fun b => b.u8 1 == 1 && cPort b == p && b.u8 3 == v))

/-- A frame of a context opens: loss of signal ends, armed sets are taken, and a free raw buffer takes the frame-start time (R198,
R201, R203, R209). -/
def State.openCam (s : State) (c : Nat) : State :=
  let t := s.ptp
  let s1 := s.setCamLos c false t
  let x := s1.cctx c
  let s2 := match x.armedSet with
    | some a => (if a.quiet then s1 else s1.storeTaken 0x2803 a.body).camReply 0x2803 a t false
    | none => s1
  let s3 := match x.armedDef with | some a => s2.camReply 0x2804 a t false | none => s2
  let ps := (x.armedSet.map (·.body)).getD x.params
  let df := (x.armedDef.map (·.defects)).getD x.defects
  let f : RawFrame := { cfg := x.cfg, buf := x.freeRaw, start := t, params := ps, defects := df }
  let s4 := s3.modCctx c (fun y => { y with params := ps, defects := df, armedSet := none, armedDef := none, lastFs := s.now, writing := some f })
  (s4.setReg .CAM_CTX_FS_SEC c (BitVec.ofNat 32 (t / sec))).setReg .CAM_CTX_FS_NS c (BitVec.ofNat 32 (t % sec))

/-- CSI_FRAME_START: a waiting change of the binding takes hold, and its open frame closes short (R211); otherwise an open frame
closes (R199). A frame of the context that is bound there now opens; where none is, the packet counts as one of an unbound
virtual channel (R197). -/
def execCsiFrameStart (port : Fin 8) (vc : Fin 4) (s : State) : Host.Outcome State Fault Refusal :=
  if !(s.cport port).enabled then .next s
  else
    let s1 := match (s.portAlive port).camStarting port vc with
      | none => s.portAlive port
      | some c => let a := s.portAlive port; if (a.cctx c).next.isSome then a.camBoundary c else a.closeCam c
    match s1.camOf port vc with
    | none => .next (s1.bumpSat .CAM_PORT_UNBOUND port)
    | some c => .next (s1.openCam c)

/-- CSI_FRAME_END: the frame closes (R199). -/
def execCsiFrameEnd (port : Fin 8) (vc : Fin 4) (s : State) : Host.Outcome State Fault Refusal :=
  if !(s.cport port).enabled then .next s
  else
    let s1 := s.portAlive port
    match s1.camOf port vc with
    | none => .next (s1.bumpSat .CAM_PORT_UNBOUND port)
    | some c => .next (s1.closeCam c)

/-- A line cut or padded to WIDTH, its samples as 12-bit values (R200, R202). -/
def fitLine (w bits : Nat) (l : List Nat) : List Nat :=
  ((l ++ List.replicate w (l.getLastD 0)).take w).map (fun v => v * 2 ^ (12 - bits))

/-- A line of an open frame by the rows of R200 below the first; lines past HEIGHT are counted and not kept (R199). Embedded data is
received and discarded, and is no line of the picture (R195; DEDUCED, log 180: it does not count as another data type). -/
def State.camLine (s : State) (port c : Nat) (f : RawFrame) (pkt : CsiLong) : State :=
  let lineErr := fun (s : State) => (s.bumpSat .CAM_CTX_LINE_ERR c).eventPerSec 0x2806 c 1 (camFields c 0)
  let b := f.cfg
  let bits := cBits (b.u8 4)
  if pkt.dataType = 0x12 then s
  else if pkt.dataType ≠ b.u8 4 then lineErr s
  else
    let odd := pkt.count != cW b * bits / 8
    let s1 := if !pkt.crcOk then s.bumpSat .CAM_PORT_CRC port else if odd then lineErr s else s
    let f1 := { f with count := f.count + 1, flags := if !pkt.crcOk || odd then f.flags ||| fCONCEALED else f.flags
                       lines := if f.count < cH b then f.lines ++ [fitLine (cW b) bits pkt.samples] else f.lines }
    s1.modCctx c (fun y => { y with writing := some f1 })

/-- CSI_LONG_PACKET: a line by the first row of R200 that applies. -/
def execCsiLongPacket (port : Fin 8) (vc : Fin 4) (pkt : CsiLong) (s : State) : Host.Outcome State Fault Refusal :=
  if !(s.cport port).enabled then .next s
  else
    let s1 := s.portAlive port
    if !pkt.hdrOk then .next (s1.bumpSat .CAM_PORT_HDR port)
    else
      match s1.camOf port vc with
      | none => .next (s1.bumpSat .CAM_PORT_UNBOUND port)
      | some c =>
        match (s1.cctx c).writing with
        | none => .next s1
        | some f => .next (s1.camLine port c f pkt)

/-- A context loses its signal: its open frame closes, and the report carries the time of its last frame start (R199, R201, R224). -/
def State.loseCam (s : State) (c : Nat) : State := (s.closeCam c).setCamLos c true (s.tm.ptpAt (s.cctx c).lastFs)

/-- The contexts in force on a port. -/
def State.camsOn (s : State) (p : Nat) : List Nat := (s.camInForce.filter (fun e => cPort e.2 == p)).map (·.1)

/-- CAM_LOS_TIMEOUT: no frame start for LOS_MS, or the port disabled (R201). `clockGone`: the port's clock lane, or every trio, has
been absent for 1 ms, which every context on the port reports. -/
def execCamLosTimeout (c : Fin 16) (clockGone : Bool) (s : State) : Host.Outcome State Fault Refusal :=
  let x := s.cctx c
  let k := cPort x.cfg
  let p := s.cport k
  if !x.bound then .next s
  else if clockGone && p.enabled then .next ((s.camsOn k).foldl State.loseCam (s.setCport k { p with clock := false }))
  else if x.lastFs + x.cfg.u16 24 * ms ≤ s.now ∨ !p.enabled ∨ !p.clock then .next (s.loseCam c)
  else .next s

/-! ### Release and statistics (R216 to R220) -/

/-- A 12,352-byte statistics record (R219). The motion vector is open: its value is a free one (R218). -/
def statsRecord (c : Nat) (b : Body) (f : RawFrame) (tag : Tag) (valid : Bool) (gx gy latency queue phase : Nat) : List Byte :=
  let mosaic := f.params.u8 1
  let tap := statsTap b f
  let hist := (List.range 4).map (fun k => histogram mosaic (f.params.u8 2) tap k)
  let zones := (List.range 1024).map (fun i => zoneOf mosaic (f.params.u8 2) (cW b) (cH b) (rawMax (b.u8 4)) tap f.lines (i % 32) (i / 32))
  tag.bytes ++ leBytes 1 c ++ leBytes 1 mosaic ++ leBytes 1 phase ++ leBytes 1 (bit01 valid) ++ leBytes 2 (cW b) ++ leBytes 2 (cH b)
    ++ leBytes 2 gx ++ leBytes 2 gy ++ leBytes 4 latency ++ leBytes 4 queue ++ List.replicate 28 0#8
    ++ (hist.map (fun h => (h.map (leBytes 4)).flatten)).flatten
    ++ (zones.map (fun z => leBytes 2 z.1 ++ leBytes 2 z.2.1 ++ leBytes 2 z.2.2.1 ++ leBytes 2 z.2.2.2)).flatten

/-- Writes a record into the next 16 KiB slot of the statistics ring, or drops it when the slot is unread (R220). -/
def State.camStats (s : State) (rec0 : List Byte) : State :=
  let x := s.cam.ring
  if x.log2 = 0 then s
  else
    let w := s.regBits .CAM_STATS_WR 0 9 0
    let nx := (w + 1) % x.size
    if x.full then
      (s.bumpSat .CAM_STATS_DROP 0).eventPerSec 0x2808 0 1 (fun k => leBytes 4 0 ++ leBytes 4 k)
    else
      ({ s with cam := { s.cam with ring := x.wrote nx } }.emit
        (.dma x.port (x.addr + w * 16384) (rec0.set 18 (BitVec.ofNat 8 x.phase)))).setBits .CAM_STATS_WR 0 9 0 nx

/-- The processed frame of a context is released into the surfaces taken for it, with its statistics record (R215, R216, R218 to
R220). -/
def State.camRelease (s : State) (c q : Nat) (f : RawFrame) : State :=
  let x := s.cctx c
  let b := f.cfg
  let p := s.pipe q
  let put := fun (s : State) (k src : Nat) (a : Nat) (out : FrameOut) => ((s.modPool k (fun y => y.releaseAt a src 0x20 out s.ptp s.now)).collect k).headerDone k
  let out : FrameOut := { lines := pipeColour b f, width := b.u16 16, height := b.u16 18, time := f.start, basis := 2,
                          flags := f.flags, master := 12 + q }
  match p.colour with
  | none => s
  | some a =>
    let seq := (s.pool (poolCam c)).nextSeq
    let s1 := put s (poolCam c) (cSource b) a out
    let s2 := match p.infra with
      | some d => put s1 (poolIr c) (b.u16 10) d { out with lines := pipeIr b f, width := cW b / 2, height := cH b / 2 }
      | none => s1
    let valid := x.prevSet == some f.params
    let (k, s3) := s2.draw
    let gx := if valid then ((Config.freeWord k).toNat % 1024 + 65536 - 512) % 65536 else 0
    let gy := if valid then ((Config.freeWord k).toNat / 1024 % 512 + 65536 - 256) % 65536 else 0
    let tag : Tag := { sourceId := cSource b, flags := f.flags, seq := seq, time := f.start % (2 ^ 30 * 1000000000), basis := 2 }
    let rec0 := statsRecord c b f tag.sealed valid gx gy ((s3.ptp - f.start) / us) (s3.regBits .CAM_CTX_QUEUE_US c 31 0) 0
    ((s3.bumpWrap .CAM_CTX_FRAMES c).modCctx c (fun y =>
      { y with prevSet := some f.params, stats := (rec0 :: y.stats).take 4 })).camStats rec0

/-- CAM_RETRY: 1 the retry passed, 2 the frame was withheld (R221, R224). -/
def State.camRetry (s : State) (q c how : Nat) : State := s.event 0x2807 (leBytes 1 q ++ leBytes 1 c ++ leBytes 1 how)

/-- A second residue mismatch withholds the frame: its surfaces stay without a header, and every pool that the pipe writes has a
faulty writer (R125, R221). -/
def State.pipeWithhold (s : State) (q c : Nat) : State :=
  let s1 := ((s.pipeDrop q).modCctx c (fun x => { x with processing := none })).camRetry q c 2
  (s1.pipeCtxs q).foldl (fun (s : State) d =>
    (s.modPool (poolCam d) (fun y => { y with writerFault := true })).modPool (poolIr d) (fun y => { y with writerFault := true })) s1

/-- PIPE_FRAME_DONE: the pipe has processed its frame. A residue mismatch processes it again once; a second withholds it and
escalates (R221). Otherwise the surface and the record are written and the next frame is selected (R205, R206). -/
def execPipeFrameDone (q : Fin 2) (residueBad : Bool) (s : State) : Host.Outcome State Fault Refusal :=
  let p := s.pipe q
  match p.busy with
  | none => .next s
  | some c =>
    match (s.cctx c).processing with
    | none => .next (s.pipeDrop q)
    | some f =>
      if s.now < p.started + pipeNs f.cfg then .next s
      else if residueBad && !p.retried then
        .next (((s.setPipe q { p with retried := true, started := s.now }).bumpSat .CAM_PIPE_RETRY q).fault (25 + q) fcRETRY 0 q [])
      else if residueBad then
        .next ((((s.bumpWrap .CAM_PIPE_FRAMES q).pipeWithhold q c).fault (25 + q) fcRETRY 1 q []).pipeSelect q)
      else
        let s1 := s.bumpWrap .CAM_PIPE_FRAMES q
        let s2 := if p.retried then s1.camRetry q c 1 else s1
        let s3 := (s2.camRelease c q f).modCctx c (fun x => { x with processing := none })
        .next ((s3.setPipe q default).pipeSelect q)

/-! ### Commands -/

/-- CAM_PARAMS 0x2803: arms a parameter set for the next frame start; one already armed is replaced (R209, R210). -/
def camParamsBad (s : State) (b : Body) : Bool :=
  let c := b.u8 0
  b.length != 2096 || decide (15 < c) || decide (3 < b.u8 1) || decide ((if b.u8 1 < 2 then 3 else 15) < b.u8 2) || decide (15 < b.u8 3)
    || (List.range 4).any (fun k => decide (4095 < b.u16 (4 + 2 * k))) || (List.range 3).any (fun k => decide (2048 < b.u16 (38 + 2 * k)))
    || !b.zero 44 4 || (List.range 1024).any (fun k => decide (1023 < b.u16 (48 + 2 * k)))
    || (b.u8 3 % 2 == 1 && (b.u8 1 != 3 || (s.cctx c).cfg.u8 6 == 0))

/-- Arms a set for a context, answering the one it replaces (R210). -/
def State.armParams (s : State) (c : Nat) (a : ArmedParams) : State :=
  let x := s.cctx c
  let s1 := match x.armedSet with | some o => s.camReply 0x2803 o 0 true | none => s
  s1.modCctx c (fun y => { y with armedSet := some a })

/-- CAM_PARAMS 0x2803. -/
def execCamParams (r : Req) (b : Body) (s : State) : Host.Outcome State Fault Refusal :=
  command 0x2803 r s [48] (camParamsBad s b) {} (fun s1 =>
    .later (s1.armParams (b.u8 0) { req := r, restarted := s.isRestarted, body := b }))

/-- The sites of a defect table: column and line (CAM_DEFECTS). -/
def defectSites (t : Body) (n : Nat) : List (Nat × Nat) :=
  (List.range n).map (fun k => (t.u32 (4 * k) % 8192, t.u32 (4 * k) / 8192 % 8192))

/-- Ascending raster order inside WIDTH × HEIGHT, reserved bits 0 (CAM_DEFECTS). -/
def defectsOk (b t : Body) (n : Nat) : Bool :=
  let l := defectSites t n
  (List.range n).all (fun k => decide (t.u32 (4 * k) < 2 ^ 26)) && l.all (fun e => decide (e.1 < cW b) && decide (e.2 < cH b))
    && (List.range (n - 1)).all (fun k =>
      let a := l.getD k (0, 0)
      let c := l.getD (k + 1) (0, 0)
      decide (a.2 * 8192 + a.1 < c.2 * 8192 + c.1))

/-- CAM_DEFECTS 0x2804: arms a defect table read from host memory (R211). -/
def execCamDefects (r : Req) (b : Body) (table : List Byte) (s : State) : Host.Outcome State Fault Refusal :=
  let c := b.u8 0
  let n := b.u16 2
  command 0x2804 r s [48] (b.length != 12 || decide (15 < c) || !b.zero 1 1 || decide (4096 < n)
      || !defectsOk (s.cctx c).cfg table n) {} (fun s1 =>
    let x := s1.cctx c
    let s2 := match x.armedDef with | some o => s1.camReply 0x2804 o 0 true | none => s1
    let a : ArmedParams := { req := r, restarted := s.isRestarted, body := b, defects := defectSites table n }
    .later (s2.modCctx c (fun y => { y with armedDef := some a })))

/-- CAM_STATS_RING 0x2805: places or disables the ring; indices and phase start afresh (R220). -/
def execCamStatsRing (r : Req) (b : Body) (s : State) : Host.Outcome State Fault Refusal :=
  let n := b.u8 0
  command 0x2805 r s [48] (b.length != 12 || (n != 0 && (decide (n < 4) || decide (10 < n))) || !b.zero 1 3 || b.u64 4 % 4096 != 0) {} (fun s =>
    done ((({ s with cam := { s.cam with ring := { log2 := n, addr := b.u64 4, port := r.port } } }).setReg .CAM_STATS_WR 0 0#32).setReg
      .CAM_STATS_RD 0 0#32))

/-- A value written to a ring read index: it counts from the port that placed the ring, any other write is dropped and counted (R620). -/
def State.writeRingCam (s : State) (p : Port) (v : Word) : State :=
  let x := s.cam.ring
  if x.log2 ≠ 0 ∧ x.port = p then
    ({ s with cam := { s.cam with ring := x.readTo (s.regBits .CAM_STATS_WR 0 9 0) (v.bits 9 0) } }).setReg .CAM_STATS_RD 0 (v &&& 0x3FF#32)
  else s.bumpSat .HP_WR_DROP p.idx

/-- RING_INDEX_WRITE_CAM: only the port that placed the ring frees slots (R220, R620). -/
def execRingIndexWriteCam (p : Port) (value : Word) (s : State) : Host.Outcome State Fault Refusal :=
  .next (s.writeRingCam p value)

/-- CAM_PORT 0x2801: configures or disables a port; disabling closes the open frames of its contexts, which report loss of signal
(R194, R199, R201). An enabled port counts its clock as present until it is found absent (DEDUCED, log 177). -/
def execCamPort (r : Req) (b : Body) (s : State) : Host.Outcome State Fault Refusal :=
  let p := b.u8 0
  let en := b.u8 1 == 1
  let wOk := if b.u8 2 = 0 then (b.u8 3 == 1 || b.u8 3 == 2 || b.u8 3 == 4) else decide (1 ≤ b.u8 3 ∧ b.u8 3 ≤ 3)
  let rOk := decide (80 ≤ b.u16 4 ∧ b.u16 4 ≤ if b.u8 2 = 0 then 4500 else 6000)
  command 0x2801 r s [48] (b.length != 8 || decide (7 < p) || decide (1 < b.u8 1) || decide (1 < b.u8 2) || !wOk || !rOk || !b.zero 6 2)
    { rej := if en && portOver (portBits (s.camBindings.map (·.2)) p) b then some rBANDWIDTH else none } (fun s =>
    let s1 := if en then s else (s.camsOn p).foldl State.loseCam s
    done (((if en then s1.powerUp (25 + p / 4) else s1).setCport p { (s1.cport p) with enabled := en, cfg := b, clock := en }).showCport p))

end Sys2Proof.Machine
end

