-- ==== Sys2Proof/Machine/Zlc.lean ====
section
/-! DEFINITION. The ZLC surface format, down to the bit (R312 to R314): prediction, code values, groups, tiles and the
bytes of a whole surface. -/

namespace Sys2Proof.Machine

/-- The prediction of R314 from left a, upper b and upper-left c. -/
def zlcPredict (first row col : Bool) (a b c : Nat) : Nat :=
  if first then 512 else if row then a else if col then b
  else if max a b ≤ c then min a b else if c ≤ min a b then max a b else a + b - c

/-- The code value m of a sample s predicted as p (R314). -/
def zlcCode (s p : Nat) : Nat :=
  let e : Int := ((s : Int) - p + 512) % 1024 - 512
  if 0 ≤ e then (2 * e).toNat else (-2 * e - 1).toNat

/-- The sample that a code value gives back (R314). -/
def zlcUncode (m p : Nat) : Nat :=
  let e : Int := if m % 2 = 0 then (m / 2 : Nat) else -(((m + 1) / 2 : Nat) : Int)
  (((p : Int) + e) % 1024).toNat

/-- n as k bits, most significant first. -/
def msbBits : Nat → Nat → List Bool
  | 0, _ => []
  | k + 1, n => n.testBit k :: msbBits k n

/-- The bits of one code value under parameter k (R314). -/
def zlcBits (k m : Nat) : List Bool :=
  if m / 2 ^ k < 12 then List.replicate (m / 2 ^ k) true ++ false :: msbBits k m
  else List.replicate 12 true ++ msbBits 10 m

/-- The parameter with the fewest bits, the smaller on a tie (R314). -/
def zlcBestK (ms : List Nat) : Nat :=
  let cost := fun k => ((ms.map (zlcBits k)).map List.length).sum
  (List.range 11).foldl (fun best k => if cost k < cost best then k else best) 0

/-- One group of samples: k in 4 bits, then each code value (R314). -/
def zlcGroup (ms : List Nat) : List Bool :=
  let k := zlcBestK ms
  msbBits 4 k ++ (ms.map (zlcBits k)).flatten

/-- Reads one code value under k (R314); none when the bits run out. -/
def zlcReadOne (k : Nat) (bs : List Bool) : Option (Nat × List Bool) :=
  let q := (bs.takeWhile id).length
  if q < 12 then
    let r := bs.drop (q + 1)
    if r.length < k ∨ bs.length ≤ q then none
    else some (q * 2 ^ k + (r.take k).foldl (fun n b => 2 * n + bit01 b) 0, r.drop k)
  else
    let r := bs.drop 12
    if r.length < 10 then none else some ((r.take 10).foldl (fun n b => 2 * n + bit01 b) 0, r.drop 10)

/-- Reads n code values under k. -/
def zlcReadMany (k : Nat) : Nat → List Bool → Option (List Nat × List Bool)
  | 0, bs => some ([], bs)
  | n + 1, bs =>
    match zlcReadOne k bs with
    | none => none
    | some (m, r) => (zlcReadMany k n r).map (fun x => (m :: x.1, x.2))

/-- Reads a group of n samples; k from 11 to 15 is reserved and fails (R314). -/
def zlcReadGroup (n : Nat) (bs : List Bool) : Option (List Nat × List Bool) :=
  let k := (bs.take 4).foldl (fun n b => 2 * n + bit01 b) 0
  if bs.length < 4 ∨ 10 < k then none else zlcReadMany k n (bs.drop 4)

/-- Splits a list into pieces of n, the last one shorter; `fuel` bounds the walk. -/
def chunksOf (n : Nat) : Nat → List Nat → List (List Nat)
  | 0, _ => []
  | f + 1, l => if l.isEmpty then [] else l.take n :: chunksOf n f (l.drop n)

/-- The coded bits of one plane of a tile, given as lines (R314). -/
def zlcPlaneBits (p : List (List Nat)) : List Bool :=
  let g := fun (x y : Nat) => (p.getD y []).getD x 0
  let ms := (p.zipIdx.map (fun ly => ly.1.zipIdx.map (fun sx =>
    zlcCode sx.1 (zlcPredict (sx.2 == 0 && ly.2 == 0) (ly.2 == 0) (sx.2 == 0) (g (sx.2 - 1) ly.2) (g sx.2 (ly.2 - 1))
      (g (sx.2 - 1) (ly.2 - 1)))))).flatten
  ((chunksOf 16 ms.length ms).map zlcGroup).flatten

/-- Packs bits into bytes, bit 7 first, padded with zeros; `fuel` bounds the walk. -/
def packBits : Nat → List Bool → List Byte
  | 0, _ => []
  | f + 1, bs =>
    if bs.isEmpty then []
    else BitVec.ofNat 8 (((bs ++ List.replicate 8 false).take 8).foldl (fun n b => 2 * n + bit01 b) 0) :: packBits f (bs.drop 8)

/-- Zero bytes up to a whole number of n bytes. -/
def padTo (n : Nat) (l : List Byte) : List Byte := l ++ List.replicate (ceilDiv l.length n * n - l.length) 0#8

/-- Sample c of pixel (x, y) of a stored line list in a ZLC format (components 0 Y' or R', 1 Cb or G', 2 Cr or B'). -/
def zlcSample (fmt : Nat) (lines : List (List Nat)) (c x y : Nat) : Nat :=
  let l := lines.getD y []
  if fmt = 0x22 then l.getD (3 * x + c) 0
  else if c = 0 then (if fmt = 0x21 ∧ y % 2 = 1 then l.getD x 0 else l.getD (4 * (x / 2) + (if x % 2 = 0 then 0 else 3)) 0)
  else l.getD (4 * (x / 2) + c) 0

/-- The planes of tile t, edge samples copied from the last column and line (R313, R314). -/
def zlcTilePlanes (fmt w h : Nat) (lines : List (List Nat)) (t : Nat) : List (List (List Nat)) :=
  let per := ceilDiv w 64
  let x0 := t % per * 64
  let y0 := t / per * 16
  let cw := fun c => if c = 0 ∨ fmt = 0x22 then 1 else 2
  let ch := fun c => if c = 0 ∨ fmt ≠ 0x21 then 1 else 2
  (List.range 3).map (fun c =>
    let pw := ceilDiv w (cw c)
    let ph := ceilDiv h (ch c)
    (List.range (16 / ch c)).map (fun j => (List.range (64 / cw c)).map (fun i =>
      let x := min (pw - 1) (x0 / cw c + i)
      let y := min (ph - 1) (y0 / ch c + j)
      zlcSample fmt lines c (x * cw c) (y * ch c))))

/-- A tile's directory byte and its bytes: coded, or raw when the coded tile would exceed its slot (R313, R314). -/
def zlcTile (fmt : Nat) (planes : List (List (List Nat))) : Nat × List Byte :=
  let bits := (planes.map zlcPlaneBits).flatten
  let s := zlcSlot fmt
  if bits.length ≤ 8 * s then
    let bytes := padTo 64 (packBits bits.length bits)
    (bytes.length / 64, bytes)
  else
    let raw := (planes.flatten.flatten.map (msbBits 10)).flatten
    (128 + s / 64, packBits raw.length raw)

/-- Bytes laid at the start of n places; what no rule writes into the rest is not known. -/
def laidIn (n : Nat) (l : List Byte) : List (Option Byte) := (l.map some ++ List.replicate (n - l.length) none).take n

/-- The bytes of a ZLC surface behind its 64-byte header: directory, then one slot per tile (R312). A slot holds only the granules
that its directory byte counts (R313). -/
def zlcBody (fmt w h : Nat) (lines : List (List Nat)) : List (Option Byte) :=
  let t := zlcTiles w h
  let tiles := (List.range t).map (fun k => zlcTile fmt (zlcTilePlanes fmt w h lines k))
  laidIn (ceilDiv t 64 * 64) (tiles.map (fun e => BitVec.ofNat 8 e.1)) ++ (tiles.map (fun e => laidIn (zlcSlot fmt) e.2)).flatten

/-! ### Linear surfaces (R310) -/

/-- Pitch of a linear surface in bytes (R310). -/
def linPitch (fmt w : Nat) : Nat :=
  let n := if fmt = 0x01 ∨ fmt = 0x02 then 4 * w else if fmt = 0x08 then w else if fmt = 0x09 then ceilDiv w 2 else 2 * w
  ceilDiv n 256 * 256

/-- Bytes of a linear surface (R310). -/
def linSize (fmt w h : Nat) : Nat :=
  256 + linPitch fmt w * (if fmt = 0x10 then 2 * h else if fmt = 0x11 then h + h / 2 else h)

/-- Byte k of a number. -/
def byteOf (v k : Nat) : Byte := BitVec.ofNat 8 (v / 256 ^ k)

/-- Byte x of line j of a linear surface: a pixel word, an index, two indices, or a 16-bit container of the luma plane or of the CbCr
plane behind it (R310); none beyond the last pixel of a line. -/
def linByte (fmt w h : Nat) (lines : List (List Nat)) (j x : Nat) : Option Byte :=
  let g := fun (i : Nat) => (lines.getD j []).getD i 0
  if fmt = 0x01 then (if x / 4 < w then some (byteOf (g (4 * (x / 4) + (3 - x % 4))) 0) else none)
  else if fmt = 0x02 then
    let p := 4 * (x / 4)
    (if x / 4 < w then some (byteOf (g p * 2 ^ 30 + g (p + 1) * 2 ^ 20 + g (p + 2) * 2 ^ 10 + g (p + 3)) (x % 4)) else none)
  else if fmt = 0x08 then (if x < w then some (byteOf (g x) 0) else none)
  else if fmt = 0x09 then (if 2 * x + 1 < w then some (byteOf (g (2 * x) + 16 * g (2 * x + 1)) 0) else none)
  else
    let f := if fmt = 0x11 then 0x21 else 0x20
    if w ≤ x / 2 then none
    else if j < h then some (byteOf (zlcSample f lines 0 (x / 2) j) (x % 2))
    else some (byteOf (zlcSample f lines (1 + x / 2 % 2) (x / 4 * 2) (if fmt = 0x11 then 2 * (j - h) else j - h)) (x % 2))

/-! ### The bytes of a surface in DRAM -/

/-- Bytes of a pool's surface (R186, R310, R312). -/
def Pool.surfSize (p : Pool) : Nat := if p.cls = 1 then linSize p.format p.maxW p.maxH else zlcSize p.maxW p.maxH p.format

/-- A byte of a surface at an offset, in a pool of format `fmt`: what the interconnect has written, the header as written or the
zeros a writer starts with (R108, R187), and the pixels of a complete surface in its format's layout (R310, R312). -/
def Surface.byteAt (f : Surface) (fmt off : Nat) : Option Byte :=
  match Tbl.find f.patch off with
  | some b => some b
  | none =>
    let (code, w, h) := match f.header with
      | some hd => (hd.format, hd.width, hd.height)
      | none => (fmt, (f.lines.getD 1 []).length, f.lines.length)
    if off < 64 then
      match f.header with
      | some hd => hd.bytes[off]?
      | none => if f.zeroed then some 0#8 else none
    else if f.lines.isEmpty ∨ (f.header.isNone ∧ code < 0x20) then none
    else if code < 0x20 then (if off < 256 then none else linByte code w h f.lines ((off - 256) / linPitch code w) ((off - 256) % linPitch code w))
    else ((zlcBody code w h f.lines)[off - 64]?).join

end Sys2Proof.Machine
end

