-- ==== Sys2Proof/Machine/Pixels.lean ====
section
/-! DEFINITION. The path of a pixel through stages 1 to 10 of R308, with every rounding step: reading and widening
(R309 to R311, R315 to R317), pre-decimation (R318, R321), the scaler (R323), colour conversion (R326 to R328), effective
alpha (R329) and blending (R330). A pixel is a list of three components and its alpha. -/

namespace Sys2Proof.Machine

/-! ### Fields of LY_CONFIG -/

/-- A flag of LY_CONFIG: 0 ENABLE, 1 HOLD, 2 FIT, 3 PREMULT, 4 STATIC, 5 OPAQUE. -/
def lFlag (b : Body) (k : Nat) : Bool := (b.u8 2).testBit k
/-- The layer is bound to a GRAPHIC pool. -/
def lGfx (b : Body) : Bool := b.u8 3 == 1
/-- PLANE_ALPHA. -/
def lAlpha (b : Body) : Nat := b.u16 6
/-- DST_X. -/
def lDx (b : Body) : Int := b.sle 8 2
/-- DST_Y. -/
def lDy (b : Body) : Int := b.sle 10 2
/-- DST_W. -/
def lDw (b : Body) : Nat := b.u16 12
/-- DST_H. -/
def lDh (b : Body) : Nat := b.u16 14
/-- HPREDEC. -/
def lHpre (b : Body) : Nat := b.u8 26 % 8
/-- VPREDEC. -/
def lVpre (b : Body) : Nat := b.u8 26 / 16 % 8
/-- SOURCE_ID of the liveness block (R148). -/
def lSource (b : Body) : Nat := b.u16 32
/-- BUDGET_US. -/
def lBudget (b : Body) : Nat := b.u32 36
/-- WINDOW_MS. -/
def lWindow (b : Body) : Nat := b.u32 40

/-- A rectangle of columns x0 to x1 and lines y0 to y1, both inclusive. -/
structure Rect where
  x0 : Nat
  x1 : Nat
  y0 : Nat
  y1 : Nat
deriving DecidableEq, Repr, Inhabited

/-- The visible rectangle of a layer: destination within the active area; none when empty (R127). -/
def visRect (b : Body) (hact vact : Nat) : Option Rect :=
  let x0 := max 0 (lDx b)
  let y0 := max 0 (lDy b)
  let x1 := min (hact : Int) (lDx b + lDw b)
  let y1 := min (vact : Int) (lDy b + lDh b)
  if x0 < x1 ∧ y0 < y1 then some ⟨x0.toNat, (x1 - 1).toNat, y0.toNat, (y1 - 1).toNat⟩ else none

/-! ### Stage 1 (R309 to R311, R317) -/

/-- Widens a 10-bit R'G'B' sample. -/
def widen10 (v : Nat) : Int := (v * 4 + v / 256 : Nat)
/-- Widens an 8-bit sample. -/
def widen8 (v : Nat) : Int := (v * 16 + v / 16 : Nat)

/-- Unpacks an ARGB2101010 word (R310, R311). -/
def unpack2101010 (w : Nat) : List Int :=
  [widen10 (w / 2 ^ 20 % 1024), widen10 (w / 2 ^ 10 % 1024), widen10 (w % 1024), ((w / 2 ^ 30 % 4) * 1365 : Nat)]

/-- Is a FORMAT code a Y'CbCr one. -/
def isYcc (fmt : Nat) : Bool := fmt == 0x10 || fmt == 0x11 || fmt == 0x20 || fmt == 0x21
/-- Does a FORMAT carry alpha (R309). -/
def hasAlpha (fmt : Nat) : Bool := fmt == 0x01 || fmt == 0x02 || fmt == 0x08 || fmt == 0x09

/-- Chroma component c (1 Cb, 2 Cr) at a luma position, brought to 4:4:4 (R317). -/
def chroma444 (fmt w h : Nat) (lines : List (List Nat)) (c x y : Nat) : Int :=
  let f := if fmt = 0x11 ∨ fmt = 0x21 then 0x21 else 0x20
  let rows := if f = 0x21 then ceilDiv h 2 else h
  let cols := ceilDiv w 2
  let at0 := fun (k j : Int) =>
    let kk := (clampInt 0 (cols - 1 : Int) k).toNat
    let jj := (clampInt 0 (rows - 1 : Int) j).toNat
    ((4 * zlcSample f lines c (2 * kk) (if f = 0x21 then 2 * jj else jj) : Nat) : Int)
  let col := fun (k : Int) =>
    if f = 0x21 then
      let j : Int := (y / 2 : Nat)
      (3 * at0 k j + at0 k (if y % 2 = 0 then j - 1 else j + 1) + 2) / 4
    else at0 k y
  let k : Int := (x / 2 : Nat)
  if x % 2 = 0 then col k else (col k + col (k + 1) + 1) / 2

/-- A pixel of a surface after stage 1 (R317). -/
def fetchPx (fmt w h : Nat) (lines : List (List Nat)) (pal : Tbl Nat) (opq : Bool) (x y : Nat) : List Int :=
  let l := lines.getD y []
  let g := fun k => l.getD (4 * x + k) 0
  let px := if isYcc fmt then
      [((4 * zlcSample (if fmt = 0x11 ∨ fmt = 0x21 then 0x21 else 0x20) lines 0 x y : Nat) : Int),
       chroma444 fmt w h lines 1 x y, chroma444 fmt w h lines 2 x y, 4095]
    else if fmt = 0x22 then (List.range 3).map (fun c => widen10 (l.getD (3 * x + c) 0)) ++ [4095]
    else if fmt = 0x01 then [widen8 (g 1), widen8 (g 2), widen8 (g 3), widen8 (g 0)]
    else if fmt = 0x02 then [widen10 (g 1), widen10 (g 2), widen10 (g 3), ((g 0 * 1365 : Nat) : Int)]
    else unpack2101010 (Tbl.getD pal 0 (l.getD x 0))
  if opq then px.take 3 ++ [4095] else px

/-! ### Source region, pre-decimation, scaler (R316, R318, R321, R323) -/

/-- What a layer reads: the surface's format, size and lines, its source region, and the pre-decimation in force. -/
structure LayerView where
  fmt : Nat
  w : Nat
  h : Nat
  lines : List (List Nat)
  pal : Tbl Nat
  opq : Bool
  rx : Nat
  ry : Nat
  rw : Nat
  rh : Nat
  hp : Nat
  vp : Nat

/-- Width of the pre-decimated region (R318). -/
def LayerView.pw (v : LayerView) : Nat := ceilDiv v.rw (2 ^ v.hp)
/-- Height of the pre-decimated region. -/
def LayerView.ph (v : LayerView) : Nat := ceilDiv v.rh (2 ^ v.vp)

/-- A source pixel: the nearest one inside the region and the surface (R316). -/
def LayerView.px (v : LayerView) (x y : Int) : List Int :=
  let cx := clampInt 0 (v.w - 1 : Int) (clampInt v.rx ((v.rx + v.rw : Nat) - 1 : Int) x)
  let cy := clampInt 0 (v.h - 1 : Int) (clampInt v.ry ((v.ry + v.rh : Nat) - 1 : Int) y)
  fetchPx v.fmt v.w v.h v.lines v.pal v.opq cx.toNat cy.toNat

/-- A pre-decimated pixel (R318). -/
def LayerView.pre (v : LayerView) (i j : Nat) : List Int :=
  let n := 2 ^ v.hp
  let grp := (List.range n).map (fun k => v.px ((v.rx + i * n + k : Nat) : Int) ((v.ry + j * 2 ^ v.vp : Nat) : Int))
  (List.range 4).map (fun c => ((grp.map (fun p => p.getD c 0)).sum + (n / 2 : Nat)) / (n : Nat))

/-- One scaled line of a layer, at destination line n: the vertical pass over the region's columns, then the horizontal
pass for the destination columns n0 to n0 + cnt - 1 (R323). -/
def LayerView.scaled (v : LayerView) (set dw dh n n0 cnt : Nat) : List (List Int) :=
  let sv := scStep v.ph dh
  let sh := scStep v.pw dw
  let row := (List.range v.pw).map (fun i => (List.range 4).map (fun c =>
    scTap set false 0 sv n 0 (v.ph - 1 : Int) 0 4095 (fun j => (v.pre i j.toNat).getD c 0)))
  (List.range cnt).map (fun k => (List.range 4).map (fun c =>
    scTap set true 0 sh (n0 + k) 0 (v.pw - 1 : Int) 0 4095 (fun i => (row.getD i.toNat []).getD c 0)))

/-- Pre-decimation in force for a FIT layer in one direction: the smallest h at or above the configured one that fits the
allocation a (columns only) and 4 × the destination (R321). -/
def fitPre (cfg size dst : Nat) (a : Option Nat) : Nat :=
  ((List.range 8).find? (fun h => decide (cfg ≤ h) && decide (ceilDiv size (2 ^ h) ≤ 4 * dst) &&
    (match a with | some n => decide (ceilDiv (ceilDiv size (2 ^ h)) 64 * 64 ≤ n) | none => true))).getD 7

/-! ### Colour (R326 to R328) -/

/-- Clips a component to 12 bits. -/
def clip12 (v : Int) : Int := clampInt 0 4095 v

/-- Stage 5: Y'CbCr to R'G'B' by preset (R326). -/
def stage5 (preset : Nat) (p : List Int) : List Int :=
  if preset = 0 then p
  else
    let y := p.getD 0 0 - 256
    let u := p.getD 1 0 - 2048
    let v := p.getD 2 0 - 2048
    let (krv, kgu, kgv, kbu) : Int × Int × Int × Int := if preset = 1 then (7370, -877, -2191, 8684) else (6901, -770, -2674, 8805)
    [clip12 ((4787 * y + krv * v + 2048) / 4096), clip12 ((4787 * y + kgu * u + kgv * v + 2048) / 4096),
     clip12 ((4787 * y + kbu * u + 2048) / 4096), p.getD 3 0]

/-- The LUT rule of R327 for component c of a table of 3 × 1,024 entries. -/
def lutOut (t : List Nat) (c : Nat) (v : Int) : Int :=
  let n := v.toNat
  let e := fun k => t.getD (1024 * c + min 1023 k) 0
  clip12 (((e (n / 4) * (4 - n % 4) + e (n / 4 + 1) * (n % 4) + 2) / 4 : Nat))

/-- Applies a LUT to the three components. -/
def applyLut (t : List Nat) (p : List Int) : List Int := (List.range 3).map (fun c => lutOut t c (p.getD c 0)) ++ p.drop 3

/-- The programmable matrix of R327; the body holds M, IOFF and OOFF from byte 0. -/
def applyMatrix (m : Body) (p : List Int) : List Int :=
  (List.range 3).map (fun i =>
    clip12 (((((List.range 3).map (fun j => m.sle (2 * (3 * i + j)) 2 * (p.getD j 0 - (m.u16 (18 + 2 * j) : Int)))).sum + 2048) / 4096)
      + m.sle (24 + 2 * i) 2)) ++ p.drop 3

/-- Stage 6 of a layer (R327). -/
def stage6 (sh : LayerSh) (p : List Int) : List Int :=
  let c := sh.cfg.u8 29
  let p1 := if c.testBit 0 then applyLut sh.pre p else p
  let p2 := if c.testBit 1 then applyMatrix sh.colour p1 else p1
  if c.testBit 2 then applyLut sh.post p2 else p2

/-- p13 of a PLANE_ALPHA (R329). -/
def alpha13 (a : Int) : Int := a + a / 2048

/-- Stage 7: effective alpha (R329). -/
def stage7 (alpha : Nat) (p : List Int) : List Int := p.take 3 ++ [clip12 ((p.getD 3 0 * alpha13 alpha + 2048) / 4096)]

/-- Stage 8: one layer's pixel over the destination (R330). -/
def blend (premult : Bool) (alpha : Nat) (src dst : List Int) : List Int :=
  let a13 := alpha13 (src.getD 3 0)
  (List.range 3).map (fun c =>
    let v := src.getD c 0
    let d := dst.getD c 0
    let t := if premult then 4096 * ((v * alpha13 alpha + 2048) / 4096) else a13 * v
    clip12 ((t + (4096 - a13) * d + 2048) / 4096))

/-- Stage 9 and 10 of a head (R328): FLAGS, OUT_STD and OUT_ENC of its HD_COMPOSE body, and its output LUT. -/
def stage10 (comp : Body) (lut : List Nat) (p : List Int) : List Int :=
  let q := if (comp.u8 1).testBit 0 then applyLut lut p else p
  let r := q.getD 0 0
  let g := q.getD 1 0
  let b := q.getD 2 0
  let narrow := fun v => clampInt 16 4079 v
  match comp.u8 3 with
  | 1 => q.map (fun v => narrow ((3505 * v + 2048) / 4096 + 256))
  | 2 =>
    let m : List (List Int) := if comp.u8 2 = 0 then [[745, 2507, 253], [-411, -1381, 1792], [1792, -1628, -164]]
      else [[921, 2376, 208], [-501, -1291, 1792], [1792, -1648, -144]]
    m.zipIdx.map (fun e => narrow ((e.1.getD 0 0 * r + e.1.getD 1 0 * g + e.1.getD 2 0 * b + 2048) / 4096 + (if e.2 = 0 then 256 else 2048)))
  | _ => q

/-! ### A layer's line, and the composed line -/

/-- What a layer shows: its shadow, the surface it latched, its GRAPHIC class, and the pre-decimation in force. -/
structure LayerShow where
  sh : LayerSh
  surf : Option Surface
  gfx : Bool
  hp : Nat
  vp : Nat

/-- The view of a latched surface (R316). -/
def LayerShow.view (l : LayerShow) (f : Surface) : LayerView :=
  let b := l.sh.cfg
  let hd := f.header.getD default
  let fit := lFlag b 2
  { fmt := hd.format, w := hd.width, h := hd.height, lines := f.lines, pal := l.sh.palette, opq := lFlag b 5
    rx := if fit then 0 else b.u16 16, ry := if fit then 0 else b.u16 18
    rw := if fit then hd.width else b.u16 20, rh := if fit then hd.height else b.u16 22, hp := l.hp, vp := l.vp }

/-- Stage-7 pixels of a layer on output line y, over its visible columns (R308, R315). -/
def LayerShow.line (l : LayerShow) (r : Rect) (y : Nat) : List (List Int) :=
  let b := l.sh.cfg
  let cnt := r.x1 - r.x0 + 1
  let raw := match l.surf with
    | some f => (l.view f).scaled (b.u8 27) (lDw b) (lDh b) ((y : Int) - lDy b).toNat ((r.x0 : Int) - lDx b).toNat cnt
    | none => if l.gfx then List.replicate cnt [0, 0, 0, 0] else List.replicate cnt [256, 2048, 2048, 4095]
  raw.map (fun p => stage7 (lAlpha b) (stage6 l.sh (stage5 (b.u8 28) p)))

/-- Lays a layer's line over a line of the head. -/
def overLine (b : Body) (r : Rect) (px dst : List (List Int)) : List (List Int) :=
  dst.zipIdx.map (fun e =>
    if r.x0 ≤ e.2 ∧ e.2 ≤ r.x1 then blend (lFlag b 3) (lAlpha b) (px.getD (e.2 - r.x0) []) e.1 else e.1)

/-! ### Umbra (R334 to R336) -/

/-- Is a layer opaque for Umbra (R334). -/
def LayerShow.isOpaque (l : LayerShow) : Bool :=
  let b := l.sh.cfg
  lFlag b 0 && lAlpha b == 4095 &&
    match l.surf with
    | none => !l.gfx
    | some f => !hasAlpha ((f.header.getD default).format) || lFlag b 5

/-- Every column of x0 to x1 lies in some span. -/
def spansCover (x0 x1 : Nat) (spans : List (Nat × Nat)) : Bool :=
  (List.range (x1 + 1 - x0)).all (fun k => spans.any (fun e => decide (e.1 ≤ x0 + k ∧ x0 + k ≤ e.2)))

/-- Is band k of a layer covered by the opaque layers above it (R335). -/
def bandCovered (vact : Nat) (r : Rect) (above : List Rect) (k : Nat) : Bool :=
  let lo := 16 * k
  let hi := min (vact - 1) (16 * k + 15)
  decide (r.y0 ≤ hi ∧ lo ≤ r.y1) &&
    spansCover r.x0 r.x1 ((above.filter (fun a => decide (a.y0 ≤ lo ∧ hi ≤ a.y1))).map (fun a => (a.x0, a.x1)))

/-- Bands that a visible rectangle meets. -/
def bandsOf (r : Rect) : List Nat := (List.range (r.y1 / 16 + 1)).filter (fun k => decide (r.y0 / 16 ≤ k))

end Sys2Proof.Machine
end

