-- ==== Sys2Proof/Machine/Conf.lean ====
section
/-! DEFINITION. A configuration as commits see it: bindings, head sets and outputs; edits of a head's set (R337, R338,
R342); and the validation of R339 in the order of R47: formats, engines (R40, R41), line buffers (R319), bandwidth (R38,
R341) and Canary limits (R147). -/

namespace Sys2Proof.Machine

/-! ### Edits of a head's set -/

/-- The 16-bit entries of an inline table. -/
def tableOf (bs : List Byte) (n : Nat) : List Nat := (List.range n).map (fun k => Body.u16 bs (2 * k))

/-- Applies one section to a head's set (R337, R342). -/
def HeadSet.edit (x : HeadSet) (e : Section) : HeadSet :=
  let b := e.body
  if e.opcode = 0x4001 then
    { x with layers := Tbl.modify x.layers (b.u8 1) (fun l => { l with cfg := b.set 2 (BitVec.ofNat 8 (b.u8 2 &&& 0xFD)) }) }
  else if e.opcode = 0x4002 then
    { x with layers := Tbl.modify x.layers (b.u8 1) (fun l =>
        { l with palette := (List.range (b.u16 4)).foldl (fun p k => Tbl.setD p 0 (b.u8 3 + k) (b.u32 (8 + 4 * k))) l.palette }) }
  else if e.opcode = 0x4003 then
    let w := b.u8 3
    let t := b.drop 48
    { x with layers := Tbl.modify x.layers (b.u8 1) (fun l =>
        { l with colour := if w.testBit 1 then (b.drop 4).take 30 else l.colour
                 pre := if w.testBit 0 then tableOf t 3072 else l.pre
                 post := if w.testBit 2 then tableOf (if w.testBit 0 then t.drop 6144 else t) 3072 else l.post }) }
  else if e.opcode = 0x4004 then
    { x with comp := b.take 16, lut := if 24 < b.length then tableOf (b.drop 24) 3072 else x.lut }
  else if e.opcode = 0x1003 then { x with style := b }
  else if e.opcode = 0x4801 then { x with timing := b }
  else x

/-- The set that an arm produces: a profile starts from an empty one and keeps the style in force (R82, R86). -/
def HeadSet.arm (x : HeadSet) (a : Arm) : HeadSet := a.edits.foldl HeadSet.edit (if a.fresh then { style := x.style } else x)

/-- Applies the HD_OUTPUT sections of a list to the bound outputs (R356). -/
def editOuts (t : Tbl Body) (l : List Section) : Tbl Body :=
  l.foldl (fun t e =>
    if e.opcode = 0x4802 then Tbl.set t (e.body.u8 0 * 256 + e.body.u8 1) (if e.body.u8 2 = 1 then e.body else []) else t) t

/-! ### Configurations -/

/-- Everything a commit's validation looks at. -/
structure Conf where
  ing : List (Nat × Body) := []
  cam : List (Nat × Body) := []
  dec : List (Nat × Body) := []
  enc : List (Nat × Body) := []
  /-- bodies of the audio send streams -/
  tx : List Body := []
  heads : List (Nat × HeadSet) := []
  outs : Tbl Body := []

/-- Bindings in force or waiting of ingest contexts. -/
def State.ingBindings (s : State) : List (Nat × Body) :=
  s.ing.ctx.filterMap (fun e =>
    match e.2.next with
    | some b => if b.u8 28 = 0 then none else some (e.1, b)
    | none => if e.2.bound then some (e.1, e.2.cfg) else none)

/-- Bindings in force or waiting of decode sessions. -/
def State.decBindings (s : State) : List (Nat × Body) :=
  s.dec.filterMap (fun e =>
    match e.2.next with
    | some b => if b.u8 2 = 0 then none else some (e.1, b)
    | none => if e.2.bound then some (e.1, e.2.cfg) else none)

/-- Bindings in force or waiting of encode channels. -/
def State.encBindings (s : State) : List (Nat × Body) :=
  s.enc.chan.filterMap (fun e =>
    match (e.2.next.toList ++ e.2.second).getLast? with
    | some a => if a.body.u8 1 = 0 then none else some (e.1, a.body)
    | none => if e.2.bound then some (e.1, e.2.cfg) else none)

/-- The set a head will have once everything armed for it has been taken. -/
def Head.nextSet (x : Head) : HeadSet := (x.armed.toList ++ x.second).foldl HeadSet.arm x.set

/-- The outputs that will be bound then. -/
def State.nextOuts (s : State) : Tbl Body :=
  s.hd.head.foldl (fun t e => (e.2.armed.toList ++ e.2.second).foldl (fun t a => editOuts t a.edits) t) s.hd.outs

/-- The newest configuration of the device: in force, armed and waiting. -/
def State.conf (s : State) : Conf :=
  { ing := s.ingBindings, cam := s.camBindings, dec := s.decBindings, enc := s.encBindings, tx := s.txBodies
    heads := (List.range 24).map (fun h => (h, (s.head h).nextSet)), outs := s.nextOuts }

/-- Replaces or adds one entry of an association list. -/
def assocSet {α : Type} (l : List (Nat × α)) (k : Nat) (v : Option α) : List (Nat × α) :=
  match v with
  | none => l.filter (fun e => e.1 != k)
  | some x => if l.any (fun e => e.1 == k) then l.map (fun e => if e.1 = k then (k, x) else e) else l ++ [(k, x)]

/-- The configuration with edits applied to heads and outputs. -/
def Conf.edit (c : Conf) (l : List (Nat × List Section)) : Conf :=
  { c with heads := c.heads.map (fun e => (e.1, ((l.filter (fun x => x.1 == e.1)).map (·.2)).flatten.foldl HeadSet.edit e.2))
           outs := l.foldl (fun t x => editOuts t x.2) c.outs }

/-- A head's set in a configuration. -/
def Conf.head (c : Conf) (h : Nat) : HeadSet := ((c.heads.find? (fun e => e.1 == h)).map (·.2)).getD {}

/-- The configuration without what stands for the members of its gangs: they have no slots of their own (R307, R351). -/
def Conf.ganged (c : Conf) : Conf :=
  { c with heads := c.heads.map (fun e => (e.1, if e.1 % 4 ≠ 0 ∧ isGang (c.head (e.1 / 4 * 4)).timing then {} else e.2)) }

/-- Is a head a virtual one, and which channel it feeds (R262). -/
def Conf.virtualOf (c : Conf) (h : Nat) : Option Body := (c.enc.find? (fun e => e.2.u8 2 == 1 && e.2.u8 3 == h)).map (·.2)

/-- The raster of a head: its HD_TIMING, or for a virtual head the channel's geometry and rate. -/
def Conf.rate (c : Conf) (h : Nat) : ℚ :=
  match c.virtualOf h with
  | some b => (b.u16 12 : ℚ) / max 1 (b.u16 14)
  | none => if tFlag (c.head h).timing 0 then (tNum (c.head h).timing : ℚ) / max 1 (tDen (c.head h).timing) else 0

/-- Active width and height of a head's raster. -/
def Conf.active (c : Conf) (h : Nat) : Nat × Nat :=
  match c.virtualOf h with
  | some b => (b.u16 8, b.u16 10)
  | none => (tHact (c.head h).timing, tVact (c.head h).timing)

/-- Enabled layers of a head's set. -/
def HeadSet.enabled (x : HeadSet) : List (Nat × LayerSh) := x.layers.filter (fun e => lFlag e.2.cfg 0)

/-! ### Formats (R118, R324, R347, R350, R357, R358, R364, R368, R533) -/

/-- A CROP layer above 4:1 in the scaler (R324). -/
def layerFormatBad (b : Body) : Bool :=
  !lFlag b 2 && (decide (262144 < scStep (ceilDiv (b.u16 20) (2 ^ lHpre b)) (lDw b)) ||
    decide (262144 < scStep (ceilDiv (b.u16 22) (2 ^ lVpre b)) (lDh b)))

/-- Pixel clock in Hz (R347). -/
def pixelClock (b : Body) : ℚ := (tHtot b : ℚ) * tVtot b * tNum b / max 1 (tDen b)

/-- A raster that is refused with FORMAT (R118, R347, R350, R533). -/
def timingFormatBad (paired : Bool) (b : Body) : Bool :=
  let g := tFlag b 2
  let v := tVnom b
  let pc := pixelClock b
  decide (v < (if g then 6 else 3)) || decide ((if g then 2048 else 1024) < v)
    || decide (pc < (if g then 100000000 else 25000000)) || decide ((if g then 2376000000 else 594000000) < pc)
    || (tFlag b 1 && !(tHact b == 1920 && tVact b == 1080 && tVtot b == 1125
        && ((tNum b == 25 * tDen b && tHtot b == 2640) || (tNum b == 30 * tDen b && tHtot b == 2200) || (tNum b * 1001 == 30000 * tDen b && tHtot b == 2200))))
    || (paired && decide (((v : ℚ) - 1) * tTl b < 20000))

/-- Total pixels of a line of the SMPTE rasters at a rate, for 1,920 active pixels of a progressive or interlaced raster at its field
rate: 2,750 up to 24 Hz, 2,640 at 25 and 50, 2,200 at 30 and 60 (ST 274, ST 2048; PRESUMED, log 205). -/
def smpteTotal (num den : Nat) : Nat :=
  if num = 25 * den ∨ num = 50 * den then 2640 else if num * 1001 = 24000 * den ∨ num = 24 * den then 2750 else 2200

/-- The raster of an SDI output by RATE code (R364). -/
def sdiRaster (code : Nat) (b : Body) : Bool :=
  let rate := fun (n d : Nat) => decide (tNum b * d = n * tDen b)
  let full := tVtot b == tVact b / 1080 * 1125 && tHtot b == tHact b / 1920 * smpteTotal (tNum b) (tDen b)
  match code with
  | 1 => full && tFlag b 1 && tHact b == 1920 && tVact b == 1080 && (rate 25 1 || rate 30000 1001 || rate 30 1)
  | 2 => full && !tFlag b 1 && tHact b == 1920 && tVact b == 1080 && (rate 50 1 || rate 60000 1001 || rate 60 1)
  | 4 => full && !tFlag b 1 && tHact b == 3840 && tVact b == 2160 && (rate 24000 1001 || rate 24 1 || rate 25 1 || rate 30000 1001 || rate 30 1)
  | 5 => full && !tFlag b 1 && tHact b == 3840 && tVact b == 2160 && (rate 50 1 || rate 60000 1001 || rate 60 1)
  | _ => false

/-- The raster that an output carries: the head's, or a quarter of the gang's for a member (R352). -/
def memberRaster (b : Body) (member : Nat) : Body :=
  if member = 4 then b
  else b.take 1 ++ leBytes 3 0 ++ leBytes 2 (tHact b / 2) ++ (b.drop 6).take 4 ++ leBytes 2 (tHtot b / 2) ++ leBytes 2 (tVact b / 2)
    ++ (b.drop 14).take 4 ++ leBytes 2 (tVtot b / 2) ++ b.drop 20

/-- Bytes of a line on an ST 2110-20 flow (R366). -/
def flowBytes (b : Body) (hact : Nat) : Nat := if b.u8 5 = 2 then hact * 5 / 2 else hact * 15 / 4

/-- Packets P of a line of a flow (R366). -/
def flowP (b : Body) (hact : Nat) : Nat := ceilDiv (flowBytes b hact) (max 1 (b.u16 12))

/-- CMAX of ST 2110-21 type W (PRESUMED, log 9): the greater of 16 and NPACKETS / 21,600 of the frame period in s. -/
def cmaxW (npackets : Nat) (tf : ℚ) : ℚ := max 16 ((npackets : ℚ) * 1000000000 / (21600 * tf))

/-- Quadrant map of a gang (R352). -/
def quadMap (b : Body) : Bool := tFlag b 2 && tFlag b 3

/-- An output binding that is refused with FORMAT: a MEMBER that the gang's map does not have, lanes outside LANE_MASK, or a format
or rate that the output does not carry (R352, R357, R358, R364, R368, R575). -/
def outFormatBad (s : State) (c : Conf) (o : Body) : Bool :=
  if o.u8 0 = 3 then false
  else if (o.u8 4 != 4) != quadMap (c.head (oHead o)).timing then true
  else if o.u8 0 == 0 && !((List.range (o.u8 9)).all (fun n => (((s.dpQuad (o.u8 1)).map (qMask s.board)).getD 0).testBit n)) then true
  else
    let x := c.head (oHead o)
    let t := memberRaster x.timing (o.u8 4)
    let ycc := o.u8 5 == 2
    let enc := x.comp.u8 3
    (ycc != (enc == 2)) || (o.u8 0 == 1 && (!ycc || !sdiRaster (o.u8 8) t || (tFlag x.timing 2 && !tFlag x.timing 3)))
      || (o.u8 0 == 2 && o.u8 9 == 2 &&
        decide ((flowP o (tHact t) : ℚ) > cmaxW (flowP o (tHact t) * tVact t) (tTf t)))

/-- An ingest binding of a mode that its input does not have (R153; log 174): an ST 2110-20 source past the 100 Gbit/s of one MAC, an
SDI source past 4096 × 2160 or the 11.88 Gbit/s of a 12G link. -/
def ingFormatBad (b : Body) : Bool :=
  let bits := if b.u8 11 = 2 then 30 else if b.u8 11 = 1 then 16 else 20
  let load : ℚ := (b.u16 12 * b.u16 14 * b.u16 16 * bits : ℚ) / max 1 (b.u16 18)
  (b.u8 2 == 1 && decide (100000000000 < load))
    || (b.u8 2 == 6 && (decide (4096 < b.u16 12) || decide (2160 < b.u16 14) || decide (11880000000 < load)))

/-- Some part of a configuration is refused with FORMAT. -/
def Conf.formatBad (c : Conf) (s : State) : Bool :=
  c.ing.any (fun e => ingFormatBad e.2) || c.heads.any (fun e => e.2.enabled.any (fun l => layerFormatBad l.2.cfg)
      || (e.2.timing != [] && tFlag e.2.timing 0 && ((c.virtualOf e.1).isSome || timingFormatBad s.paired e.2.timing)))
    || c.outs.any (fun o => outFormatBad s c o.2)

/-! ### Engines (R40, R41, R230, R266) -/

/-- PEs and EEs of an encode channel. -/
def encNeed (b : Body) : Nat × Nat :=
  (ceilDiv (b.u16 8 * b.u16 10 * b.u16 12) (max 1 (b.u16 14) * 1000000000), ceilDiv (b.u16 50) 4800)

/-- PEs and EEs of the decode pool. -/
def poolNeed (l : List (Nat × Body)) : Nat × Nat :=
  let px : ℚ := (l.map (fun e => (e.2.u16 8 * e.2.u16 10 * e.2.u16 12 : ℚ) / max 1 (e.2.u16 14))).sum
  ((px / 1000000000).ceil.toNat, ceilDiv ((l.map (fun e => e.2.u32 16)).sum) 4800)

/-- PEs and EEs that a configuration needs in all. -/
def Conf.need (c : Conf) : Nat × Nat :=
  let p := poolNeed c.dec
  (((c.enc.map (fun e => (encNeed e.2).1)).sum + p.1), ((c.enc.map (fun e => (encNeed e.2).2)).sum + p.2))

/-- Engines that have not failed. -/
def State.healthy (s : State) : Nat × Nat :=
  (((List.range 32).filter (fun n => !(Tbl.get s.fab.pe n).failed)).length,
   ((List.range 8).filter (fun n => !(Tbl.get s.fab.ee n).failed)).length)

/-- More engines needed than there are, with the reserve of CF_RESERVE kept free (R40, R41, R230). -/
def Conf.enginesOver (c : Conf) (s : State) : Bool :=
  let n := c.need
  let h := s.healthy
  decide (h.1 < n.1 + s.regBits .CF_RESERVE 0 3 0) || decide (h.2 < n.2 + s.regBits .CF_RESERVE 0 9 8)

/-! ### Line buffers (R319) -/

/-- Allocation A of a layer (R319). -/
def allocOf (b : Body) : Nat :=
  if lFlag b 2 then b.u16 24 else max (b.u16 24) (ceilDiv (ceilDiv (b.u16 20) (2 ^ lHpre b)) 64 * 64)

/-- Sum of allocations of a head's enabled layers. -/
def HeadSet.lbUsed (x : HeadSet) : Nat := (x.enabled.map (fun e => allocOf e.2.cfg)).sum

/-- A head's set does not fit its pool, or a layer exceeds 8,192 (R319). -/
def HeadSet.lbOver (x : HeadSet) : Bool :=
  x.enabled.any (fun e => decide (8192 < allocOf e.2.cfg)) || decide ((if tFlag x.timing 2 then 98304 else 24576) < x.lbUsed)

/-! ### Bandwidth (R38, R189, R217, R266, R341, R360, R370) -/

/-- Bytes per pixel of a FORMAT, in halves (R309). -/
def bpp2 (fmt : Nat) : Nat :=
  if fmt = 0x01 ∨ fmt = 0x02 ∨ fmt = 0x10 then 8 else if fmt = 0x08 then 2 else if fmt = 0x09 then 1 else if fmt = 0x11 then 6 else 4

/-- Declared maximum of a VIDEO source (R341): ingest context, decode session, camera colour or IR plane. -/
def Conf.sourceSize (c : Conf) (src : Nat) : Nat × Nat :=
  match c.ing.find? (fun e => (e.2.u8 2 == 1 || e.2.u8 2 == 6) && e.2.u16 4 == src) with
  | some e => (e.2.u16 12, e.2.u16 14)
  | none =>
    match c.dec.find? (fun e => e.2.u16 4 == src) with
    | some e => (e.2.u16 8, e.2.u16 10)
    | none =>
      match c.cam.find? (fun e => e.2.u16 8 == src) with
      | some e => (e.2.u16 16, e.2.u16 18)
      | none =>
        match c.cam.find? (fun e => e.2.u8 6 != 0 && e.2.u16 10 == src) with
        | some e => (e.2.u16 12 / 2, e.2.u16 14 / 2)
        | none => (0, 0)

/-- Demand of one enabled layer in bytes per second (R341). -/
def Conf.layerDemand (c : Conf) (s : State) (h : Nat) (l : LayerSh) : ℚ :=
  let b := l.cfg
  let p := s.pool (poolGfx (b.u16 4))
  let size := if lFlag b 2 then (if lGfx b then (p.maxW, p.maxH) else c.sourceSize (lSource b)) else (b.u16 20, b.u16 22)
  let bpp : ℚ := (if lGfx b then (if p.bound then bpp2 p.format else 0) else 4 : Nat) / 2
  let act := c.active h
  match visRect b act.1 act.2 with
  | none => 0
  | some r =>
    let vis := (r.x1 - r.x0 + 1) * (r.y1 - r.y0 + 1)
    bpp * size.1 * size.2 * vis / max 1 (lDw b * lDh b) / 2 ^ (lHpre b + lVpre b) * c.rate h

/-- Data-plane DRAM demand in bytes per second (R38): layers, ingest, cameras, sessions, channels and the 5 GB/s line. -/
def Conf.demand (c : Conf) (s : State) : ℚ :=
  let rate := fun (n d : Nat) => (n : ℚ) / max 1 d
  (c.heads.map (fun e => (e.2.enabled.map (fun l => c.layerDemand s e.1 l.2)).sum)).sum
    + (c.ing.map (fun e => if e.2.u8 2 = 1 ∨ e.2.u8 2 = 6 then 2 * (e.2.u16 12 * e.2.u16 14 : ℚ) * rate (e.2.u16 16) (e.2.u16 18) else 0)).sum
    + (c.cam.map (fun e => ((if e.2.u8 6 = 0 then 3 else 7 / 2 : ℚ) * (e.2.u16 12 * e.2.u16 14) + 2 * (e.2.u16 16 * e.2.u16 18))
        * rate (e.2.u16 20) (e.2.u16 22))).sum
    + (c.dec.map (fun e => 15 / 4 * (e.2.u16 8 * e.2.u16 10 : ℚ) * rate (e.2.u16 12) (e.2.u16 14))).sum
    + (c.enc.map (fun e => 27 / 4 * (e.2.u16 8 * e.2.u16 10 : ℚ) * rate (e.2.u16 12) (e.2.u16 14))).sum
    + 5000000000

/-- Four-lane capacity of a DisplayPort rate in bit/s (R360). -/
def dpCapacity : Nat → ℚ
  | 0 => 77370000000
  | 1 => 52220000000
  | 2 => 38690000000
  | 3 => 25920000000
  | 4 => 17280000000
  | _ => 0

/-- Does a head's pixel clock fit a DisplayPort rate and lane count (R360). -/
def dpFits (pc : ℚ) (fmt rate lanes : Nat) : Bool :=
  decide (pc * (if fmt = 0 then 30 else if fmt = 1 then 24 else 20) ≤ dpCapacity rate * lanes / 4)

/-- Bytes of one flow packet on the wire beside its part of the line, preamble, FCS and gap included (R366, R367). -/
def flowWire (o : Body) : Nat := 14 + (if (o.u16 14).testBit 15 then 4 else 0) + 20 + 8 + 12 + 8 + 4 + 20

/-- Wire rate of a bound flow in bit/s: packets for TYPE 2, SEND_KBPS for TYPE 3 (R370, R372). -/
def Conf.flowRate (c : Conf) (o : Body) : ℚ :=
  if o.u8 0 = 3 then (o.le 41 3 : ℚ) * 1000000
  else
    let t := memberRaster (c.head (oHead o)).timing (o.u8 4)
    ((flowP o (tHact t) * flowWire o + flowBytes o (tHact t)) * tVact t * 8 : ℚ) * tNum t / max 1 (tDen t)

/-- Wire rate of the video flows of a MAC in bit/s (R370). -/
def Conf.flowsOf (c : Conf) (m : Nat) : ℚ :=
  ((c.outs.filter (fun e => decide (2 ≤ e.2.u8 0) && e.2.u8 10 == m)).map (fun e => c.flowRate e.2)).sum

/-- A link or MAC of the configuration is over its capacity (R360, R370). -/
def Conf.linksOver (c : Conf) (s : State) : Bool :=
  c.outs.any (fun e => e.2.u8 0 == 0 &&
      !dpFits (pixelClock (memberRaster (c.head (oHead e.2)).timing (e.2.u8 4))) (e.2.u8 5) (e.2.u8 8) (e.2.u8 9))
    || (List.range 16).any (fun m =>
      decide (s.macRate m * 95 / 100 < c.flowsOf m + audTxRate c.tx m))

/-- Camera ports and pipes over their limits (R196, R208). -/
def Conf.camerasOver (c : Conf) (s : State) : Bool :=
  (List.range 8).any (fun p => (s.cport p).enabled && portOver (portBits (c.cam.map (·.2)) p) (s.cport p).cfg)
    || (List.range 2).any (fun q => decide (2400000000 < ((c.cam.filter (fun e => cPort e.2 / 4 == q)).map (fun e =>
      camRate e.2)).sum))

/-- More than 330 GB/s, or a link, MAC, port or pipe over its limit. -/
def Conf.bandwidthOver (c : Conf) (s : State) : Bool :=
  decide (330000000000 < c.demand s) || c.linksOver s || c.camerasOver s

/-! ### Canary limits (R146, R147) -/

/-- BORDER of a style in force. -/
def stBorder (st : Body) : Nat := if st.isEmpty then 8 else st.u8 1
/-- SCALE of a style in force. -/
def stScale (st : Body) : Nat := if st.isEmpty then 2 else st.u8 2
/-- POSITION of a style in force. -/
def stPos (st : Body) : Nat := if st.isEmpty then 0 else st.u8 3
/-- Foreground of a style in force. -/
def stFg (st : Body) : Nat := if st.isEmpty then 0x320C8000 else st.u32 4
/-- Background of a style in force. -/
def stBg (st : Body) : Nat := if st.isEmpty then 0 else st.u32 8

/-- Y' of a mark colour in ten-thousandths of a code value (R133). -/
def markLuma (std col : Nat) : Int :=
  let cs := if std = 0 then 0 else 1
  kr cs * (col / 2 ^ 20 % 1024 : Nat) + (10000 - kr cs - kb cs) * (col / 2 ^ 10 % 1024 : Nat) + kb cs * (col % 1024 : Nat)

/-- A budget outside the limits: the hard-wired ones hold whatever the host's field says (R147). -/
def State.budgetBad (s : State) (us0 : Nat) : Bool := decide (us0 < 1000) || decide (min 2000000 (s.regBits .CNY_LIM_BUDGET 0 20 0) < us0)
/-- A frozen window outside the limits (R147). -/
def State.windowBad (s : State) (w : Nat) : Bool :=
  if w = 0 then s.regBit .CNY_LIM_MISC 0 31 else decide (w < 500) || decide (min 60000 (s.regBits .CNY_LIM_MISC 0 15 0) < w)

/-- The first setting of a head's set that fails the Canary: 0 budget, 1 window, 2 border, 3 contrast (R147, R152). The style of
reset counts on a head with a VIDEO layer. -/
def State.canaryBad (s : State) (x : HeadSet) : Option Nat :=
  let live := x.enabled.filter (fun e => !lGfx e.2.cfg)
  if live.any (fun e => s.budgetBad (lBudget e.2.cfg)) then some 0
  else if live.any (fun e => s.windowBad (lWindow e.2.cfg)) then some 1
  else if x.style.isEmpty && live.isEmpty then none
  else if decide (stBorder x.style < max 8 (s.regBits .CNY_LIM_MISC 0 23 16)) || decide (64 < stBorder x.style) then some 2
  else if decide ((markLuma (x.comp.u8 2) (stFg x.style) - markLuma (x.comp.u8 2) (stBg x.style)).natAbs < 4000000) then some 3
  else none

/-- Liveness settings of an encode channel outside the limits (R276). -/
def State.encCanaryBad (s : State) (b : Body) : Bool := b.u8 2 == 0 && (s.budgetBad (b.u32 36) || s.windowBad (b.u32 40))

/-! ### The whole validation (R47, R339) -/

/-- The first reason for which a configuration is rejected, in the order of R47. -/
def Conf.reject (c0 : Conf) (s : State) : Option Nat :=
  let c := c0.ganged
  if c.formatBad s then some rFORMAT
  else if c.enginesOver s then some rENGINES
  else if c.heads.any (fun e => e.2.lbOver) then some rLINEBUF
  else if c.bandwidthOver s then some rBANDWIDTH
  else if c.heads.any (fun e => (s.canaryBad e.2).isSome) || c.enc.any (fun e => s.encCanaryBad e.2) then some rCANARYLIMIT
  else none

/-- Device data-plane demand in units of 0.01 GB/s, rounded down (CMP_COMMIT). -/
def Conf.demandUnits (c : Conf) (s : State) : Nat := (c.ganged.demand s / 10000000).floor.toNat

/-- AUD_TX 0x5804: binds send stream t to a MAC (R429); over 95 % of the MAC's rate it is refused with BANDWIDTH (R370). -/
def execAudTx (r : Req) (b : Body) (s : State) : Host.Outcome State Fault Refusal :=
  let on := (b.u8 1).testBit 0
  command 0x5804 r s [50] (streamBad b || b.u16 4 != 0 || (on && (decide (15 < b.u8 3) || !s.macOnBoard (b.u8 3) || decide (63 < b.u8 34) || b.u8 35 == 0)))
    { noRes := on && decide (1024 < s.streamChans true (b.u8 0) + b.u8 2)
      rej := if (on && decide (1440 < txPayload b)) || (s.applyTx b).ratesJoin then some rFORMAT
             else if on && txOver s (s.conf.flowsOf (b.u8 3)) b then some rBANDWIDTH else none }
    (fun s => done (((if on && decide (8 ≤ b.u8 3) then s.powerUp 20 else s).powerUp 38).applyTx b |>.storeTaken 0x5804 b))

end Sys2Proof.Machine
end

