-- ==== Sys2Proof/Machine/Engines.lean ====
section
/-! DEFINITION. Engines of the coding fabric and their jobs: queues and job lists (R232), ore bins (R227), dispatch of encode rows
(R234) and of the decode pool (R235), the order of rows (R233), and the end of jobs whose picture is gone. -/

namespace Sys2Proof.Machine

/-! ### Engines -/

/-- A PE. -/
def State.peSt (s : State) (n : Nat) : EngineSt := Tbl.get s.fab.pe n
/-- An EE. -/
def State.eeSt (s : State) (n : Nat) : EngineSt := Tbl.get s.fab.ee n
/-- OWNER of an engine's status register (R259). -/
def EngineSt.ownerCode (e : EngineSt) : Nat :=
  if e.failed then 3 else match e.owner with | none => 0 | some o => if o = 0x40 then 2 else 1
/-- Replaces a PE, keeping its status register in step (R259). -/
def State.setPe (s : State) (n : Nat) (e : EngineSt) : State :=
  let s1 := { s with fab := { s.fab with pe := Tbl.set s.fab.pe n e } }
  (((s1.setBits .CF_PE_STAT n 31 30 e.ownerCode).setBits .CF_PE_STAT n 27 24 (if e.ownerCode = 1 then e.owner.getD 0 else 0)).setBits
    .CF_PE_STAT n 23 16 e.failedJob).setBits .CF_PE_STAT n 4 0 e.queue.length
/-- Replaces an EE, keeping its status register in step (R259). -/
def State.setEe (s : State) (n : Nat) (e : EngineSt) : State :=
  let s1 := { s with fab := { s.fab with ee := Tbl.set s.fab.ee n e } }
  (((s1.setBits .CF_EE_STAT n 31 30 e.ownerCode).setBits .CF_EE_STAT n 27 24 (if e.ownerCode = 1 then e.owner.getD 0 else 0)).setBits
    .CF_EE_STAT n 23 16 e.failedJob).setBits .CF_EE_STAT n 4 0 e.queue.length

/-- CF_JOBS_INFL, CF_JOBS_DRAM and CF_OREBIN_USE (R227, R232). -/
def State.countJobs (s : State) : State :=
  let q := (s.fab.pe.map (fun e => e.2.queue.length)).sum
  let d := (s.fab.dram.map (fun e => e.2.length)).sum + (s.fab.dramEe.map (fun e => e.2.length)).sum
  ((s.setBits .CF_JOBS_INFL 0 9 0 q).setReg .CF_JOBS_DRAM 0 (BitVec.ofNat 32 d)).setBits .CF_OREBIN_USE 0 8 0 s.fab.ore.length

/-- PEs that an owner holds, in index order (R234). -/
def State.pesOf (s : State) (o : Nat) : List Nat := Tbl.get s.fab.places o
/-- EEs that an owner holds, in index order. -/
def State.eesOf (s : State) (o : Nat) : List Nat := Tbl.get s.fab.eePlaces o

/-- The engine with the fewest queued jobs, the lowest-numbered on a tie (R235). -/
def fewest (len : Nat → Nat) : List Nat → Option Nat
  | [] => none
  | n :: t =>
    match fewest len t with
    | none => some n
    | some m => if len m < len n ∨ (len m = len n ∧ m < n) then some m else some n

/-! ### Queues (R232) -/

/-- A job enters a PE's queue and gets its number. -/
def State.pushPe (s : State) (n : Nat) (j : Job) : State :=
  let e := s.peSt n
  ({ s with fab := { s.fab with nextNum := s.fab.nextNum + 1 } }).setPe n { e with queue := e.queue ++ [{ j with num := s.fab.nextNum }] }

/-- A row of an entropy segment enters an EE's queue and gets its number; the EE keeps the segment (R226). -/
def State.pushEe (s : State) (n : Nat) (j : Job) : State :=
  let e := s.eeSt n
  let seg := if s.fab.segEng.any (fun x => x.1 == j.owner && x.2.1 == j.pic && x.2.2.1 == j.seg) then s.fab.segEng
    else (j.owner, j.pic, j.seg, n) :: s.fab.segEng
  ({ s with fab := { s.fab with nextNum := s.fab.nextNum + 1, segEng := seg } }).setEe n { e with queue := e.queue ++ [{ j with num := s.fab.nextNum }] }

/-- A pixel job joins the owner's job list in DRAM. -/
def State.toDram (s : State) (j : Job) : State := { s with fab := { s.fab with dram := Tbl.modify s.fab.dram j.owner (· ++ [j]) } }
/-- An entropy job joins the owner's job list in DRAM. -/
def State.toDramEe (s : State) (j : Job) : State := { s with fab := { s.fab with dramEe := Tbl.modify s.fab.dramEe j.owner (· ++ [j]) } }

/-- A pixel job goes to a PE with room among its 16 places, else to the job list. -/
def State.offerPe (s : State) (n : Option Nat) (j : Job) : State :=
  match n with
  | some n => if (s.peSt n).queue.length < 16 then s.pushPe n j else s.toDram j
  | none => s.toDram j
/-- The same for an entropy job. -/
def State.offerEe (s : State) (n : Option Nat) (j : Job) : State :=
  match n with
  | some n => if (s.eeSt n).queue.length < 16 then s.pushEe n j else s.toDramEe j
  | none => s.toDramEe j

/-! ### Dispatch of a channel (R234) -/

/-- PE index r mod n of an encode row. -/
def State.chanPe (s : State) (j : Job) : Option Nat := let l := s.pesOf j.owner; l[j.row % l.length]?

/-- Jobs of a channel that wait go to their engines while these have room, in order: rows to the PE of their index, entropy rows to
the channel's EE with the fewest jobs (log 187). -/
def State.refillChan (s : State) (o : Nat) : State :=
  let s1 := (Tbl.get s.fab.dram o).foldl (fun s j => s.offerPe (s.chanPe j) j) { s with fab := { s.fab with dram := Tbl.set s.fab.dram o [] } }
  (Tbl.get s1.fab.dramEe o).foldl (fun s j => s.offerEe (fewest (fun n => (s.eeSt n).queue.length) (s.eesOf o)) j)
    { s1 with fab := { s1.fab with dramEe := Tbl.set s1.fab.dramEe o [] } }

/-! ### Dispatch of the decode pool (R229, R235) -/

/-- The access unit of a picture of a decode session. -/
def State.auOf (s : State) (o pic : Nat) : Option DecAu := (Tbl.get s.dec (o - 64)).aus.find? (fun a => a.pic == pic)
/-- Tag time of the picture of a waiting decode job. -/
def State.jobTime (s : State) (j : Job) : Nat := ((s.auOf j.owner j.pic).map (fun a => a.tag.time)).getD 0
/-- PEs of a picture: those the pool had when the picture started, or what it has where none of them is left. -/
def State.picPes (s : State) (o pic : Nat) : List Nat :=
  match (s.auOf o pic).map (fun a => a.pes) with | some (n :: t) => n :: t | _ => s.pesOf 0x40
/-- EEs of a picture. -/
def State.picEes (s : State) (o pic : Nat) : List Nat :=
  match (s.auOf o pic).map (fun a => a.ees) with | some (n :: t) => n :: t | _ => s.eesOf 0x40

/-- The job list whose first picture goes next: the earliest tag time, then the lower session number. -/
def State.earliestJob (s : State) (l : List (Nat × List Job)) : Option Job :=
  l.foldl (fun (best : Option Job) e =>
    match e.2, best with
    | [], _ => best
    | j :: _, none => some j
    | j :: _, some k => if s.jobTime j < s.jobTime k ∨ (s.jobTime j = s.jobTime k ∧ j.owner < k.owner) then some j else best) none

/-- Waiting rows of decode pictures go to the pool, picture by picture, each to the PE with the fewest jobs; a picture in dispatch is
finished first. `fuel` bounds the rows. -/
def State.refillPool (s : State) : Nat → State
  | 0 => s
  | fuel + 1 =>
    let waits := s.fab.dram.filter (fun e => decide (64 ≤ e.1))
    let first := match s.fab.current with
      | some c => ((Tbl.get s.fab.dram c.1).find? (fun (j : Job) => j.pic == c.2)).or (s.earliestJob waits)
      | none => s.earliestJob waits
    match first with
    | none => s
    | some j =>
      match fewest (fun n => (s.peSt n).queue.length) (s.picPes j.owner j.pic) with
      | none => s
      | some n =>
        if (s.peSt n).queue.length < 16 then
          State.refillPool (({ s with fab := { s.fab with dram := Tbl.modify s.fab.dram j.owner (fun l => l.erase j)
                                                          current := some (j.owner, j.pic) } }).pushPe n j) fuel
        else s

/-- Waiting entropy jobs of the sessions, picture by picture in the order of R235; `fuel` bounds the pictures. -/
def State.eeOrder (s : State) (l : List (Nat × List Job)) : Nat → List Job
  | 0 => []
  | fuel + 1 =>
    match s.earliestJob l with
    | none => []
    | some j =>
      let mine := fun (k : Job) => k.owner == j.owner && k.pic == j.pic
      ((l.map (fun e => e.2)).flatten.filter mine) ++ s.eeOrder (l.map (fun e => (e.1, e.2.filter (fun k => !mine k)))) fuel

/-- EE for a row of a segment: the one that has the segment, else the one with the fewest jobs (R226, R235). -/
def State.segEe (s : State) (j : Job) : Option Nat :=
  match s.fab.segEng.find? (fun x => x.1 == j.owner && x.2.1 == j.pic && x.2.2.1 == j.seg) with
  | some x => some x.2.2.2
  | none => fewest (fun n => (s.eeSt n).queue.length) (s.picEes j.owner j.pic)

/-- Waiting entropy jobs of the sessions go to the pool's EEs while these have room; a full EE holds back only its own segments
(log 186). -/
def State.refillEes (s : State) : State :=
  let waits := s.fab.dramEe.filter (fun e => decide (64 ≤ e.1))
  (s.eeOrder waits ((waits.map (fun e => e.2.length)).sum)).foldl (fun s j => s.offerEe (s.segEe j) j)
    { s with fab := { s.fab with dramEe := s.fab.dramEe.filter (fun e => decide (e.1 < 64)) } }

/-- Engines with room take waiting jobs (R232, R234, R235). -/
def State.refill (s : State) : State :=
  let chans := ((s.fab.dram ++ s.fab.dramEe).map (fun e => e.1)).filter (fun o => decide (o < 64))
  let s1 := chans.foldl (fun s o => s.refillChan o) s
  ((s1.refillPool (((s1.fab.dram.filter (fun e => decide (64 ≤ e.1))).map (fun e => e.2.length)).sum)).refillEes).countJobs

/-! ### Ore bins (R227) -/

/-- Granules an owner may hold before it uses shared ones. -/
def oreReserve (o : Nat) : Nat := if o < 16 then 4 else 1

/-- Granules an owner holds. -/
def State.oreUse (s : State) (o : Nat) : Nat := (s.fab.ore.filter (fun x => x.1 == o)).length

/-- Granules reserved by bound channels and sessions. -/
def State.oreReserved (s : State) : Nat :=
  4 * ((List.range 16).filter (fun c => s.regBits .ENC_CH_STAT c 31 30 != 0)).length + (s.dec.filter (fun e => e.2.bound)).length

/-- A row has a granule, or finds a free one: within its owner's reservation, or among the shared ones. -/
def State.oreFree (s : State) (x : Nat × Nat × Nat) : Bool :=
  s.fab.ore.contains x || decide (s.oreUse x.1 < oreReserve x.1)
    || decide ((((s.fab.ore.map (fun e => e.1)).dedup).map (fun o => s.oreUse o - oreReserve o)).sum + s.oreReserved < 256)

/-- A row takes its granule. -/
def State.oreTake (s : State) (x : Nat × Nat × Nat) : State :=
  if s.fab.ore.contains x then s else { s with fab := { s.fab with ore := x :: s.fab.ore } }
/-- A row's granule is free again. -/
def State.oreDrop (s : State) (x : Nat × Nat × Nat) : State := { s with fab := { s.fab with ore := s.fab.ore.filter (fun y => y != x) } }

/-! ### The order of rows (R225, R233) -/

/-- What a job is about: owner, picture and row. -/
def Job.key (j : Job) : Nat × Nat × Nat := (j.owner, j.pic, j.row)

/-- The job that a PE works on: its first whose reconstruction is not complete. -/
def EngineSt.running (e : EngineSt) : Option Job := e.queue.find? (fun j => !j.recon)

/-- Changes the job of a number in a queue. -/
def EngineSt.modJob (e : EngineSt) (num : Nat) (f : Job → Job) : EngineSt :=
  { e with queue := e.queue.map (fun (j : Job) => if j.num = num then f j else j) }

/-- The row above has been reconstructed, or there is none. -/
def State.aboveDone (s : State) (j : Job) : Bool := j.row == 0 || s.fab.rowsRecon.contains (j.owner, j.pic, j.row - 1)

/-- CTU x of a row may start: the row above has completed CTU x + 1, or entirely. -/
def State.ctuReady (s : State) (j : Job) (x : Nat) : Bool :=
  s.aboveDone j || s.fab.pe.any (fun e => e.2.queue.any (fun q =>
    q.owner == j.owner && q.pic == j.pic && q.row + 1 == j.row && decide (x + 2 ≤ q.ctus)))

/-- Some of a row's syntax is still to be parsed (R225). -/
def State.entropyLeft (s : State) (j : Job) : Bool :=
  s.fab.ee.any (fun e => e.2.queue.any (fun q => q.key == j.key)) || (Tbl.get s.fab.dramEe j.owner).any (fun q => q.key == j.key)

/-- The row below has been reconstructed, or there is none: the in-loop filters of the row may run. -/
def State.belowDone (s : State) (j : Job) : Bool := decide (j.rows ≤ j.row + 1) || s.fab.rowsRecon.contains (j.owner, j.pic, j.row + 1)

/-- A row counts as reconstructed. -/
def State.noteRecon (s : State) (x : Nat × Nat × Nat) : State :=
  if s.fab.rowsRecon.contains x then s else { s with fab := { s.fab with rowsRecon := x :: s.fab.rowsRecon } }

/-- Jobs of a picture whose row and the row below are reconstructed are filtered and written: they leave their PEs (log 185). -/
def State.settleRows (s : State) (o pic : Nat) : State :=
  (List.range 32).foldl (fun (s : State) n =>
    let e := s.peSt n
    let out := fun (j : Job) => j.owner == o && j.pic == pic && j.recon && s.belowDone j
    let l := e.queue.filter out
    if l.isEmpty then s
    else
      let s1 := (s.setPe n { e with queue := e.queue.filter (fun j => !out j) }).addWrapBits .CF_PE_JOBS n 31 0 l.length
      { s1 with fab := { s1.fab with rowsDone := l.map Job.key ++ s1.fab.rowsDone } }) s

/-- Job lists, granules and progress of pictures that are gone. -/
def Fabric.drop (f : Fabric) (gone : Nat → Nat → Bool) : Fabric :=
  let row := fun (x : Nat × Nat × Nat) => !gone x.1 x.2.1
  let lists := fun (t : Tbl (List Job)) => (t.map (fun e => (e.1, e.2.filter (fun j => !gone j.owner j.pic)))).filter (fun e => !e.2.isEmpty)
  { f with dram := lists f.dram, dramEe := lists f.dramEe, ore := f.ore.filter row, rowsRecon := f.rowsRecon.filter row
           rowsDone := f.rowsDone.filter row, segEng := f.segEng.filter (fun x => !gone x.1 x.2.1), coded := f.coded.filter (fun x => !gone x.1 x.2.1) }

/-- Jobs of pictures that are gone leave queues and lists with all that stands for them. -/
def State.dropJobs (s : State) (gone : Nat → Nat → Bool) : State :=
  let keep := fun (j : Job) => !gone j.owner j.pic
  let s1 := (List.range 32).foldl (fun (s : State) k =>
    let e := s.peSt k
    if e.queue.all keep then s else s.setPe k { e with queue := e.queue.filter keep }) { s with fab := s.fab.drop gone }
  (List.range 8).foldl (fun (s : State) k =>
    let e := s.eeSt k
    if e.queue.all keep then s else s.setEe k { e with queue := e.queue.filter keep }) s1

end Sys2Proof.Machine
end

