-- ==== Sys2Proof/Machine/Decode.lean ====
section
/-! DEFINITION. Decode sessions: acceptance of access units with the checks of R248 and R249, the session states (R250 to R252),
buffers and their marks (R238 to R241), the pixels of decoded rows with concealment (R238, R256), fields (R255), output order
(R254), release of pictures (R253), completion of jobs (R225 to R235), and the commands DEC_RESTART and CF_KEY_COPY. -/

namespace Sys2Proof.Machine

/-! ### Sessions -/

/-- A session. -/
def State.sess (s : State) (n : Nat) : DecSession := Tbl.get s.dec n
/-- Changes a session. -/
def State.modSess (s : State) (n : Nat) (f : DecSession → DecSession) : State := { s with dec := Tbl.modify s.dec n f }
/-- STATE of a session (R250). -/
def State.sessState (s : State) (n : Nat) : Nat := s.regBits .DEC_SESS_STAT n 31 30

/-- CODEC of a declaration. -/
def dCodec (b : Body) : Nat := b.u8 3
/-- POOL_DEPTH of a declaration. -/
def dDepth (b : Body) : Nat := b.u8 6
/-- PEAK_MBINS of a declaration. -/
def dBins (b : Body) : Nat := b.u32 16

/-- Moves a session to a state with a reason; DEC_STATE on every change (R250, R261). -/
def State.setSess (s : State) (n st reason : Nat) (info : AuInfo) : State :=
  if s.sessState n = st ∧ s.regBits .DEC_SESS_STAT n 29 27 = reason then s
  else
    ((s.setBits .DEC_SESS_STAT n 31 30 st).setBits .DEC_SESS_STAT n 29 27 reason).event 0x3001
      (leBytes 2 n ++ leBytes 1 st ++ leBytes 1 reason ++ leBytes 2 info.level ++ leBytes 2 info.width ++ leBytes 2 info.height)

/-- Buffers of a pool held by STILL layers (R249, R259). -/
def Pool.stills (p : Pool) : Nat := (p.surfs.filter (fun f => f.pins.any (fun h => decide (64 ≤ h ∧ h < 256)))).length

/-- Keeps a session's pool counts in its status register (R259). -/
def State.showPool (s : State) (n : Nat) : State :=
  let p := s.pool (poolDec n)
  (((s.setBits .DEC_SESS_STAT n 15 10 p.stills).setBits .DEC_SESS_STAT n 9 5
    (p.surfs.filter (fun f => !f.inUse)).length).setBits .DEC_SESS_STAT n 4 0 p.surfs.length).setBit
    .DEC_SESS_STAT n 25 (p.surfs.any (·.key))

/-- Bins and frames measured over the last second, this access unit counted; two fields are one frame (R249). -/
def measured (d : DecSession) (now : Nat) (info : AuInfo) : List (Nat × Nat × Nat) :=
  (now, info.bins, bit01 (!info.second)) :: d.recent.filter (fun e => decide (now < e.1 + sec))

/-- The rate checks of R249: more than 110 % of the declared frame rate, or of the declared bin rate, over 1 s. -/
def overRate (b : Body) (m : List (Nat × Nat × Nat)) : Bool × Bool :=
  (decide (110 * b.u16 12 < 100 * (m.map (·.2.2)).sum * b.u16 14), decide (110 * dBins b * 1000000 < 100 * (m.map (·.2.1)).sum))

/-- Coding tools that the sessions support, by profile_idc (R248; the numbers are those of the coding standards, PRESUMED, log 183). -/
def toolsOk (codec : Nat) (i : AuInfo) : Bool :=
  !i.extended &&
    (if codec = 0 then (i.profile == 1 || i.profile == 2) && i.chroma == 1 && decide (i.depth ≤ 10)
     else (i.profile == 66 || i.profile == 77 || i.profile == 100) && decide (i.chroma ≤ 1) && i.depth == 8 && !i.fmo)

/-- The first row of R249 that an access unit fails, as the REASON code; PROFILE when only its tools fail (R251, R257). -/
def auReason (b : Body) (stills : Nat) (m : List (Nat × Nat × Nat)) (info : AuInfo) : Option Nat :=
  if info.level > b.u8 7 ∨ (info.tierHigh ∧ b.u8 24 % 2 = 0) then some 1
  else if info.width > b.u16 8 ∨ info.height > b.u16 10 then some 3
  else if (overRate b m).1 then some 4
  else if (overRate b m).2 then some 5
  else if info.dpb + 1 > dDepth b - stills then some 6
  else if !toolsOk (dCodec b) info then some 2
  else none

/-- Discards an access unit (R250). -/
def State.discardAu (s : State) (n : Nat) : State := s.bumpSat .DEC_SESS_DISCARD n

/-! ### Pixels of decoded pictures (R238, R255, R256) -/

/-- Lines of a picture: the frame's, or the field's. -/
def picLines (i : AuInfo) : Nat := if i.field.isSome then i.height / 2 else i.height
/-- Lines of a CTU row: macroblock pairs in H.264 (R232, R233). -/
def rowLines (codec : Nat) (i : AuInfo) : Nat := if codec = 1 then 32 else max 16 i.ctu
/-- CTU rows of a picture. -/
def picRows (codec : Nat) (i : AuInfo) : Nat := max 1 (ceilDiv (picLines i) (rowLines codec i))
/-- CTUs of a row. -/
def picCols (codec : Nat) (i : AuInfo) : Nat := ceilDiv i.width (if codec = 1 then 16 else max 16 i.ctu)

/-- Some lines of a picture: n of luma from line a, half as many of chroma. -/
def Planes.part (p : Planes) (a n : Nat) : Planes :=
  { y := (p.y.drop a).take n, cb := (p.cb.drop (a / 2)).take (ceilDiv n 2), cr := (p.cr.drop (a / 2)).take (ceilDiv n 2) }
/-- Lines below each other. -/
def Planes.append (p q : Planes) : Planes := { y := p.y ++ q.y, cb := p.cb ++ q.cb, cr := p.cr ++ q.cr }
/-- Every other line from the first, or from the second. -/
def everyOther (l : List (List Nat)) (second : Bool) : List (List Nat) :=
  (List.range ((l.length + bit01 (!second)) / 2)).map (fun i => l.getD (2 * i + bit01 second) [])
/-- One field of a frame. -/
def Planes.field (p : Planes) (bottom : Bool) : Planes :=
  { y := everyOther p.y bottom, cb := everyOther p.cb bottom, cr := everyOther p.cr bottom }
/-- Lines of two fields in turn. -/
def weave (a b : List (List Nat)) : List (List Nat) := ((a.zip b).map (fun e => [e.1, e.2])).flatten
/-- The frame of two fields. -/
def Planes.weave (top bottom : Planes) : Planes :=
  { y := Machine.weave top.y bottom.y, cb := Machine.weave top.cb bottom.cb, cr := Machine.weave top.cr bottom.cr }

/-- A line of w samples: those decoded, widened; where CTUs are lost, those of the older line, or 512 (R238, R256). -/
def decLine (k w : Nat) (lost : List (Nat × Nat)) (old new : List Nat) : List Nat :=
  (List.range w).map (fun x =>
    match new[x]? with
    | some v => if lost.any (fun r => decide (r.1 ≤ x) && decide (x < r.2)) then old.getD x 512 else v * k
    | none => old.getD x 512)

/-- The 10-bit lines of row r of a picture: samples of 8 bits shifted left by 2, Cb and Cr 512 in a monochrome one, lost CTUs from the
co-located area of the most recent complete picture (R238, R256). -/
def decodedRow (codec : Nat) (i : AuInfo) (last : Planes) (r : Nat) (row : DecRow) : Planes :=
  let h := rowLines codec i
  let n := min h (picLines i - r * h)
  let old := (match i.field with | some b => last.field b | none => last).part (r * h) h
  let k := 2 ^ (10 - i.depth)
  let half := row.lost.map (fun e => (e.1 / 2, ceilDiv e.2 2))
  let w2 := ceilDiv i.width 2
  let chroma := fun (o l : List (List Nat)) => (List.range (ceilDiv n 2)).map (fun j =>
    if i.chroma = 0 then List.replicate w2 512 else decLine k w2 half (o.getD j []) (l.getD j []))
  { y := (List.range n).map (fun j => decLine k i.width row.lost (old.y.getD j []) (row.y.getD j []))
    cb := chroma old.cb row.cb, cr := chroma old.cr row.cr }

/-- The frame that a picture makes: its own, that of its two fields, or that of a lone field with its lines repeated (R255). -/
def DecAu.frame (a : DecAu) : Planes :=
  if a.info.field.isSome && !a.joined then a.picture.weave a.picture else a.picture

/-- Stored lines of a window of a picture, in the component order of FORMAT 0x21 (R238, R309): even lines carry Y, Cb, Cr, Y for
each pair of pixels, odd lines luma alone. -/
def Planes.stored (p : Planes) (left top w h : Nat) : List (List Nat) :=
  (List.range h).map (fun j =>
    let y := p.y.getD (top + j) []
    if j % 2 = 1 then (y.drop left).take w
    else ((List.range (ceilDiv w 2)).map (fun i =>
      let c := fun (l : List (List Nat)) => (l.getD ((top + j) / 2) []).getD (left / 2 + i) 512
      [y.getD (left + 2 * i) 512, c p.cb, c p.cr, y.getD (left + 2 * i + 1) 512])).flatten)

/-- Stored lines of a picture: those of its conformance window or cropping rectangle. -/
def DecAu.stored (a : DecAu) : List (List Nat) := a.frame.stored a.info.left a.info.top a.info.outWidth a.info.outHeight

/-! ### Starting a picture (R235, R239 to R241) -/

/-- Reference pictures lose their marks: those the stream's marking names, or all of them where a new sequence begins (R239). -/
def State.markRefs (s : State) (n : Nat) (a : DecAu) : State :=
  let d := s.sess n
  let out := d.refs.filter (fun r => a.info.newSeq || a.info.dropRefs.contains r.poc)
  (s.modPool (poolDec n) (fun p => out.foldl (fun p r => p.modSurf r.buf (fun f => { f with short := false, long := false })) p)).modSess n
    (fun d => { d with refs := d.refs.filter (fun r => !out.contains r) })

/-- Buffers of pictures that will not be output are no longer held for output. -/
def State.freeBufs (s : State) (n : Nat) (l : List DecAu) : State :=
  s.modPool (poolDec n) (fun p => (l.filterMap (·.buf)).foldl (fun p i => p.modSurf i (fun f => { f with busy := false })) p)

/-- Where a sequence begins that suppresses the output of prior pictures, those that wait are discarded (R254). -/
def State.dropPrior (s : State) (n : Nat) (a : DecAu) : State :=
  if a.info.newSeq && a.info.noPrior then
    let out := (s.sess n).aus.filter (fun x => decide (x.cvs < a.cvs))
    (s.freeBufs n out).modSess n (fun d => { d with aus := d.aus.filter (fun x => !out.contains x) })
  else s

/-- Buffer of the first field of the frame that an access unit's second field completes (R255). -/
def DecSession.mateBuf (d : DecSession) (a : DecAu) : Option Nat :=
  if a.info.second then (d.aus.find? (fun x => x.pic + 1 == a.pic && x.info.field.isSome)).bind (·.buf) else none

/-- Entropy and pixel jobs of a picture (R225, R226, R232). -/
def picJobs (n codec : Nat) (a : DecAu) : List Job × List Job :=
  let base : Job := { owner := 64 + n, pic := a.pic, rows := picRows codec a.info, cols := picCols codec a.info }
  (((List.range a.info.segments.length).map (fun g =>
      let e := a.info.segments.getD g (0, 0)
      (List.range e.2).map (fun r => { base with seg := g, row := e.1 + r }))).flatten,
   (List.range (picRows codec a.info)).map (fun r => { base with row := r }))

/-- A picture starts in a buffer with the pool's engines: its reference marks, its damage, and its jobs (R229, R239, R256). -/
def State.startAu (s : State) (n i : Nat) (a : DecAu) : State :=
  let d := s.sess n
  let gone := a.info.refs.any (fun p => match d.refs.find? (fun r => r.poc == p) with | some r => r.concealed | none => true)
  let refs := if (a.info.short || a.info.long) && !d.refs.any (fun r => r.buf == i) then d.refs ++ [{ poc := a.info.poc, buf := i }] else d.refs
  let a1 : DecAu := { a with buf := some i, pes := s.pesOf 0x40, ees := s.eesOf 0x40, concealed := a.info.damaged || gone }
  let s1 := s.modPool (poolDec n) (fun p => p.modSurf i (fun f => { f with short := f.short || a.info.short, long := f.long || a.info.long }))
  let s2 := s1.modSess n (fun d => { d with refs := refs, aus := d.aus.map (fun x => if x.pic = a.pic then a1 else x) })
  let jobs := picJobs n (dCodec d.cfg) a
  (jobs.2.foldl (fun s j => s.toDram j) (jobs.1.foldl (fun s j => s.toDramEe j) s2)).refill

/-- The next access unit of a session starts once the one before it is decoded (log 184): in the buffer of its first field, or in an
UNUSED one; without one the session waits, and the wait is counted (R240, R241). -/
def State.tryStart (s : State) (n : Nat) : State :=
  let d := s.sess n
  match d.aus.find? (fun a => !a.decoded) with
  | none => s
  | some a =>
    if a.buf.isSome || d.stopped then s
    else
      let s1 := (s.markRefs n a).dropPrior n a
      let s2 := match d.mateBuf a with
        | some i => s1.startAu n i a
        | none =>
          match (s1.pool (poolDec n)).take with
          | some (i, p) => (s1.setPool (poolDec n) { p with writing := none }).startAu n i a
          | none =>
            if a.waited then s1
            else (s1.bumpSat .DEC_SESS_POOLWAIT n).modSess n (fun d =>
              { d with aus := d.aus.map (fun (x : DecAu) => if x.pic = a.pic then { x with waited := true } else x) })
      s2.showPool n

/-- The session waits for an UNUSED buffer (R241). -/
def DecSession.waiting (d : DecSession) : Bool := d.aus.any (fun a => a.waited && a.buf.isNone)

/-- Drops the access units of a session that have not been released, with their buffers and jobs (R252, R258). -/
def State.dropAus (s : State) (n : Nat) : State :=
  let d := s.sess n
  let bufs := d.aus.filterMap (·.buf)
  let s1 := s.modPool (poolDec n) (fun p => bufs.foldl (fun p i => p.modSurf i (fun f => { f with short := false, long := false, busy := false })) p)
  ((s1.dropJobs (fun o _ => o == 64 + n)).modSess n (fun d =>
    { d with aus := [], bufUse := 0, refs := d.refs.filter (fun r => !bufs.contains r.buf) })).refill

/-! ### Release (R253 to R255) -/

/-- A decoded picture is whole: a frame, two fields, or a field whose partner does not come (R255). `final`: nothing more is taken. -/
def DecSession.whole (d : DecSession) (final : Bool) (a : DecAu) : Bool :=
  a.info.field.isNone || a.joined ||
    ((final || decide (a.pic + 1 < d.nextPic)) && !d.aus.any (fun x => x.pic == a.pic + 1 && x.info.second))

/-- Decoded pictures that wait for output. -/
def DecSession.outs (d : DecSession) (final : Bool) : List DecAu := (d.aus.takeWhile (·.decoded)).filter (fun a => a.info.output && d.whole final a)

/-- The next picture in output order: by sequence, then by picture order count (R254). -/
def firstOut (l : List DecAu) : Option DecAu :=
  l.foldl (fun (m : Option DecAu) a =>
    match m with
    | none => some a
    | some b => if a.cvs < b.cvs ∨ (a.cvs = b.cvs ∧ a.info.poc < b.info.poc) then some a else some b) none

/-- The output process is due to release a picture (R254): more wait than the stream reorders, one has reached the latency limit, a
later sequence has begun, the decoded picture buffer is full for the next access unit, or nothing more is taken (log 189). -/
def DecSession.outDue (d : DecSession) (marked : Nat) (final : Bool) : Bool :=
  let l := d.outs final
  let upTo := ((d.aus.find? (fun a => !a.decoded)).map (·.pic)).getD d.nextPic
  let info := ((d.aus.takeWhile (·.decoded)).getLast?.map (·.info)).getD default
  final || decide (info.reorder < l.length)
    || (info.latency != 0 && l.any (fun a => decide (info.latency < upTo - a.pic)))
    || l.any (fun a => d.aus.any (fun x => decide (a.cvs < x.cvs)))
    || (match d.aus.find? (fun a => !a.decoded && a.buf.isNone) with | some a => decide (a.info.dpb ≤ marked) | none => false)

/-- Buffers of a session that its decoded picture buffer counts: marked for reference, or waiting for output. -/
def Pool.marked (p : Pool) : Nat := (p.surfs.filter (fun f => f.short || f.long || f.busy)).length

/-- Releases a decoded picture with a new SEQUENCE, its samples and its header (R253, R255); it becomes the newest output, which its
owner holds (R239). -/
def State.releasePic (s : State) (n : Nat) (a : DecAu) : State :=
  let conc := a.concealed || (a.info.field.isSome && !a.joined)
  let flags := a.tag.flags / 128 * 128 + (if a.info.interlaced then fINTERLACED else 0) + (if conc then fCONCEALED else 0)
  let s1 := if conc then
      (s.bumpSat .DEC_SESS_CONCEALED n).eventPerSec 0x3002 n 1 (fun c => leBytes 2 n ++ leBytes 2 0 ++ leBytes 4 c)
    else s
  match a.buf with
  | none => s1
  | some i =>
    let s2 := s1.modPool (poolDec n) (fun p =>
      ((p.unpin 300).release i { lines := a.stored, width := a.info.outWidth, height := a.info.outHeight, time := a.tag.time,
                                 basis := a.tag.basis, flags := flags, master := 14 } s1.ptp s1.now).pin i 300)
    let s3 := (s2.collect (poolDec n)).modSess n (fun d => { d with aus := d.aus.filter (fun x => x.pic != a.pic) })
    ((s3.bumpWrap .DEC_SESS_PICS n).showPool n).tryStart n

/-- Pictures already decoded and waiting for output are released at once, in output order (R251). -/
def State.flushPics (s : State) (n : Nat) : State :=
  if (s.sess n).stopped then s
  else
    (List.range (s.sess n).aus.length).foldl (fun (s : State) _ =>
      match firstOut ((s.sess n).outs true) with
      | some a => s.releasePic n a
      | none => s) s

/-! ### Acceptance (R249 to R252, R257) -/

/-- A session accepts a closed access unit. One that does not fit into the bitstream buffer is discarded unread (log 190). -/
def State.auAccept (s : State) (n : Nat) (tag : Tag) (info : AuInfo) (bytes : Nat) : State :=
  let d := s.sess n
  if !d.bound || s.sessState n = 0 then s
  else
    let m := measured d s.now info
    let ov := overRate d.cfg m
    let s0 := s.modSess n (fun d => { d with recent := m, stream := info, overAt := if ov.1 || ov.2 then some s.now else d.overAt })
    if d.bufUse + bytes > d.cfg.u32 20 * 1024 then
      (s0.discardAu n).eventPerSec 0x3003 n 1 (fun c => leBytes 2 n ++ leBytes 2 0 ++ leBytes 4 c)
    else
      let why := auReason d.cfg (s.pool (poolDec n)).stills m info
      let take := fun (s : State) =>
        let s1 := (s.bumpWrap .DEC_SESS_AU n).setBits .DEC_SESS_LEVEL n 15 8 info.level
        let s2 := s1.modSess n (fun d =>
          let q := if info.newSeq then d.cvs + 1 else d.cvs
          { d with aus := d.aus ++ [{ tag := tag, info := info, bytes := bytes, pic := d.nextPic, cvs := q }], cvs := q
                   nextPic := d.nextPic + 1, bufUse := d.bufUse + bytes })
        s2.tryStart n
      let quiet := match d.overAt with | none => true | some t => decide (t + sec ≤ s.now)
      let why0 := s.regBits .DEC_SESS_STAT n 29 27
      match s.sessState n with
      | 1 => match why with
          | some x => (s0.discardAu n).setSess n 3 x info
          | none => if info.irap then take (s0.setSess n 2 0 info) else s0.discardAu n
      | 2 => match why with
          | none => take s0
          | some x => ((s0.discardAu n).setSess n 3 x info).flushPics n
      | _ => if info.irap && why.isNone && (quiet || (why0 != 4 && why0 != 5)) then take (s0.setSess n 2 0 info)
          else s0.discardAu n

/-! ### Completion (R225 to R235, R239, R256) -/

/-- A second field joins the first field's picture in their buffer (R255); answers the picture that the access unit is now part of. -/
def DecSession.join (d : DecSession) (a : DecAu) : DecAu × DecSession :=
  match (if a.info.second then d.aus.find? (fun x => x.pic + 1 == a.pic && x.info.field.isSome && x.decoded) else none) with
  | none => (a, { d with aus := d.aus.map (fun x => if x.pic = a.pic then a else x) })
  | some f =>
    let px := if a.info.field = some false then a.picture.weave f.picture else f.picture.weave a.picture
    let g : DecAu := { f with picture := px, joined := true, concealed := f.concealed || a.concealed }
    (g, { d with aus := (d.aus.filter (fun x => x.pic != a.pic)).map (fun x => if x.pic = f.pic then g else x) })

/-- All rows of a picture are done: its samples stand in its buffer, damage and a hash mismatch are known, an IRAP picture without
CONCEALED takes the KEY mark, and the next access unit starts (R239, R248, R255, R256). -/
def State.picDecoded (s : State) (n pic : Nat) : State :=
  let d := s.sess n
  match d.aus.find? (fun a => a.pic == pic) with
  | none => s
  | some a0 =>
    let codec := dCodec d.cfg
    let px := (List.range (picRows codec a0.info)).foldl (fun (p : Planes) r => p.append (Tbl.get a0.got r)) {}
    let hash := a0.info.hashBad && codec == 0 && (d.cfg.u8 24).testBit 1
    let conc := a0.concealed || hash
    let s1 := if hash then
        (s.bumpSat .DEC_SESS_HASH n).eventPerSec 0x3004 n 1 (fun c => leBytes 2 n ++ leBytes 2 0 ++ leBytes 4 c)
      else s
    let (a, d1) := d.join { a0 with decoded := true, picture := px, got := [], concealed := conc }
    let done := a.info.field.isNone || a.joined
    let refs := d.refs.map (fun (r : RefPic) =>
      if some r.buf = a.buf then { r with concealed := conc } else if a.info.irap ∧ !conc then { r with concealed := false } else r)
    let d2 : DecSession := { d1 with
      bufUse := d.bufUse - a.bytes, refs := refs, last := if done then a.picture else d.last
      aus := if a.info.output then d1.aus else d1.aus.filter (fun x => x.pic != a.pic) }
    let s2 := s1.modSess n (fun _ => d2)
    let s3 := match a.buf with
      | none => s2
      | some i => s2.modPool (poolDec n) (fun p =>
          let p1 := p.modSurf i (fun f => { f with lines := a.stored, busy := f.busy && a.info.output })
          if a.info.irap && done && !a.concealed then
            { p1 with surfs := (p1.surfs.map (fun (f : Surface) => { f with key := false })).modify i (fun (f : Surface) => { f with key := true }) }
          else p1)
    (s3.showPool n).tryStart n

/-- PE_JOB_START: a PE starts CTU x of the row it works on (R225, R233). A row starts once its syntax is parsed, in encode once it has a
granule for what it writes. -/
def execPeJobStart (pe : Fin 32) (x : Nat) (s : State) : Host.Outcome State Fault Refusal :=
  let e := s.peSt pe
  match e.running with
  | none => .next s
  | some j =>
    let ready := if j.owner < 64 then s.oreFree j.key else !s.entropyLeft j
    if !e.failed && decide (x < j.cols) && decide (j.ctus ≤ x) && s.ctuReady j x && ready then
      let s1 := s.setPe pe (e.modJob j.num (fun j => { j with started := true, ctus := x }))
      .next (if j.owner < 64 then (s1.oreTake j.key).countJobs else s1)
    else .next s

/-- Millions of bins that an EE has processed (R259). -/
def State.countBins (s : State) (n bins : Nat) : State :=
  let e := s.eeSt n
  let t := e.binRem + bins
  (s.setEe n { e with binRem := t % 1000000 }).addWrapBits .CF_EE_MBINS n 31 0 (t / 1000000)

/-- A decode picture all of whose rows are done is decoded. -/
def State.checkPicture (s : State) (j : Job) : State :=
  if 64 ≤ j.owner ∧ (List.range j.rows).all (fun r => s.fab.rowsDone.contains (j.owner, j.pic, r)) then
    (s.dropJobs (fun o p => o == j.owner && p == j.pic)).picDecoded (j.owner - 64) j.pic
  else s

/-- The reconstruction of a PE's row is complete. A decoded row's samples are kept and its granule is free (R227, R238, R256); an
encode row goes to an EE of its channel (R225). Jobs whose in-loop filters can now run are completed, and waiting jobs move up. -/
def State.rowRecon (s : State) (n : Nat) (j : Job) (row : DecRow) : State :=
  let s1 := (s.setPe n ((s.peSt n).modJob j.num (fun j => { j with recon := true }))).noteRecon j.key
  let s2 := if j.owner < 64 then
      s1.toDramEe { owner := j.owner, pic := j.pic, row := j.row, rows := j.rows, cols := j.cols, seg := j.row }
    else
      (s1.oreDrop j.key).modSess (j.owner - 64) (fun d =>
        { d with aus := d.aus.map (fun a => if a.pic = j.pic then
            { a with got := Tbl.set a.got j.row (decodedRow (dCodec d.cfg) a.info d.last j.row row), concealed := a.concealed || row.lost != [] } else a) })
  ((s2.settleRows j.owner j.pic).checkPicture j).refill

/-- JOB_COMPLETE: a PE completes the reconstruction of the row it works on, with the samples of a decoded one, or an EE its first row,
with the bins it processed (R225, R232, R233). An EE whose row finds no free granule stalls; the stall is counted once (R227). -/
def execJobComplete (e : Engine) (bins : Nat) (row : DecRow) (s : State) : Host.Outcome State Fault Refusal :=
  match e with
  | .pe n =>
    let st := s.peSt n
    match st.running with
    | some j => .next (if j.started && !st.failed && s.aboveDone j then s.rowRecon n j row else s)
    | none => .next s
  | .ee n =>
    let st := s.eeSt n
    match st.queue with
    | [] => .next s
    | j :: q =>
      if st.failed then .next s
      else if 64 ≤ j.owner ∧ s.oreFree j.key = false then
        .next (if j.stalled then s else (s.setEe n { st with queue := { j with stalled := true } :: q }).bumpSat .CF_OREBIN_STALL 0)
      else
        let s1 := (s.setEe n { st with queue := q }).countBins n bins
        let s2 := if j.owner < 64 then
            let t := s1.oreDrop j.key
            { t with fab := { t.fab with coded := (j.owner, j.pic, j.row, t.ptp) :: t.fab.coded } }
          else s1.oreTake j.key
        .next s2.refill

/-- DEC_PICTURE_RELEASE: the next picture in output order leaves when the standard's output process is due (R253 to R255). A session
that has stopped releases none (R245). -/
def execDecPictureRelease (n : Fin 128) (s : State) : Host.Outcome State Fault Refusal :=
  let d := s.sess n
  let final := s.sessState n != 2
  match firstOut (d.outs final) with
  | some a => .next (if d.outDue (s.pool (poolDec n)).marked final && !d.stopped then s.releasePic n a else s)
  | none => .next s

/-- DEC_RESTART 0x3002: a bound session returns to WAIT_KEY at once; its access units and undelivered pictures go (R252). -/
def execDecRestart (r : Req) (b : Body) (s : State) : Host.Outcome State Fault Refusal :=
  let n := b.u16 0
  command 0x3002 r s [49] (b.length != 4 || !b.zero 2 2 || decide (127 < n) || !(s.sess n).bound) {} (fun s =>
    done (((s.dropAus n).setSess n 1 0 (s.sess n).stream).showPool n))

/-- NOKEYPIC (CF_KEY_COPY). -/
def rNOKEYPIC : Nat := 0x0130

/-- The bytes of a reference buffer: its header, zeros while it has none (R240), and the ZLC data of its lines (R237, R312 to R314);
what its writer leaves unwritten is free, by draw k. -/
def Surface.keyBytes (f : Surface) (fmt k : Nat) : List Byte :=
  let l := match f.header with
    | some hd => hd.bytes.map some ++ zlcBody fmt hd.width hd.height f.lines
    | none => List.replicate 64 (some 0#8) ++ zlcBody fmt (f.lines.getD 1 []).length f.lines.length f.lines
  l.zipIdx.map (fun e => ((Tbl.find f.patch e.2).or e.1).getD ((Config.freeSample k 0 e.2).setWidth 8))

/-- CF_KEY_COPY 0x3003: copies the buffer that carries KEY, header and ZLC data, to host memory (R239). The buffer is held while it
is copied, which here is within the command. -/
def execCfKeyCopy (r : Req) (b : Body) (s : State) : Host.Outcome State Fault Refusal :=
  let kind := b.u8 0
  let n := b.u16 2
  let p := s.pool (if kind = 0 then poolDec n else poolEnc n)
  let buf := p.surfs.find? (·.key)
  let data := (buf.map (fun f => f.keyBytes p.format s.free)).getD []
  command 0x3003 r s [] (b.length != 16 || !b.zero 1 1 || decide (1 < kind) || decide ((if kind = 0 then 127 else 15) < n)
      || decide (b.u32 12 < data.length))
    { rej := if buf.isNone then some rNOKEYPIC else none } (fun s =>
      .now (s.draw.2.emit (.dma r.port (b.u64 4) data)) .OK (leBytes 4 data.length ++ (data.take 16)))

end Sys2Proof.Machine
end

