-- ==== Sys2Proof/Machine/Fabric.lean ====
section
/-! DEFINITION. Allocation of coding engines (R228 to R230), retry, failure and failover (R243 to R246), and the commands
CF_RESERVE and CF_ALLOC. -/

namespace Sys2Proof.Machine

/-! ### Placement (R228) -/

/-- Up to four engines inside one island of four: the lowest-numbered island with enough free ones, and the lowest-numbered of
these; without such an island the lowest free ones (R228 step 2). -/
def placeFew (free : List Nat) (n : Nat) : List Nat :=
  match (List.range 8).find? (fun i => decide (n ≤ (free.filter (fun e => e / 4 == i)).length)) with
  | some i => (free.filter (fun e => e / 4 == i)).take n
  | none => free.take n

/-- Whole free islands first, lowest first, for more than four engines, then the remainder (R228 step 3). -/
def placeMany (free : List Nat) (n : Nat) : List Nat → List Nat
  | [] => placeFew free n
  | i :: is =>
    let whole := free.filter (fun e => e / 4 == i)
    if 4 < n ∧ whole.length = 4 then whole ++ placeMany (free.filter (fun e => e / 4 != i)) (n - 4) is
    else placeMany free n is

/-- Engines for a need of n among the free ones, ascending. -/
def place (free : List Nat) (n : Nat) : List Nat :=
  if n ≤ 4 then placeFew free n else placeMany free n [0, 1, 2, 3, 4, 5, 6, 7]

/-- Engines of a set, ascending. -/
def ascending (l : List Nat) : List Nat := (List.range 32).filter (fun n => l.contains n)

/-- Places channels in ascending number: those that keep their engines come with them, the others get engines among the free ones
(R228 steps 1 to 3). Answers the places and the engines left. -/
def placeChans (free : List Nat) : List (Nat × Nat × Option (List Nat)) → List (Nat × List Nat) × List Nat
  | [] => ([], free)
  | (c, _, some l) :: t => let r := placeChans free t; ((c, l) :: r.1, r.2)
  | (c, n, none) :: t =>
    let l := place free n
    let r := placeChans (free.filter (fun k => !l.contains k)) t
    ((c, ascending l) :: r.1, r.2)

/-- Places the channels and then the pool on the healthy engines of a kind (R228 steps 1 to 5). -/
def placeAll (healthy : List Nat) (needs : List (Nat × Nat × Option (List Nat))) (pool : Nat) : Tbl (List Nat) :=
  let kept := (needs.filterMap (fun e => e.2.2)).flatten
  let r := placeChans (healthy.filter (fun k => !kept.contains k)) needs
  (r.1 ++ [(0x40, r.2.take pool)]).foldl (fun (t : Tbl (List Nat)) (e : Nat × List Nat) => Tbl.set t e.1 e.2) []

/-- Healthy spare PEs and EEs: those that no channel or pool holds or is about to hold. -/
def State.spares (s : State) : List Nat × List Nat :=
  let held := fun (t : Tbl (List Nat)) (n : Nat) => t.any (fun e => e.2.contains n)
  ((List.range 32).filter (fun n => !(s.peSt n).failed && !held s.fab.places n && !held s.fab.plan n),
   (List.range 8).filter (fun n => !(s.eeSt n).failed && !held s.fab.eePlaces n && !held s.fab.eePlan n))

/-- CF_STATUS and the pool counts of DEC_STATUS follow the engines (R259, R260). -/
def State.showEngines (s : State) : State :=
  let sp := s.spares
  let pf := ((List.range 32).filter (fun n => (s.peSt n).failed)).length
  let ef := ((List.range 8).filter (fun n => (s.eeSt n).failed)).length
  let few := decide (sp.1.length < s.regBits .CF_RESERVE 0 3 0) || decide (sp.2.length < s.regBits .CF_RESERVE 0 9 8)
  let s1 := ((((s.setBits .CF_STATUS 0 27 24 ef).setBits .CF_STATUS 0 23 16 pf).setBits .CF_STATUS 0 15 12 sp.2.length).setBits
    .CF_STATUS 0 11 6 sp.1.length).setBit .CF_STATUS 0 0 few
  ((s1.setBits .DEC_STATUS 0 15 8 (s.pesOf 0x40).length).setBits .DEC_STATUS 0 19 16 (s.eesOf 0x40).length)

/-- Owner of an engine by the places: the lowest-numbered channel that holds it, else the pool (log 188). -/
def ownerOf (t : Tbl (List Nat)) (k : Nat) : Option Nat := (t.find? (fun e => e.2.contains k)).map (·.1)

/-- The engines show who holds them (R259, R260, R305). -/
def State.showOwners (s : State) : State :=
  let s1 := (List.range 32).foldl (fun (s : State) k =>
    let e := s.peSt k
    if e.failed ∨ e.owner = ownerOf s.fab.places k then s else s.setPe k { e with owner := ownerOf s.fab.places k }) s
  let s2 := (List.range 8).foldl (fun (s : State) k =>
    let e := s.eeSt k
    if e.failed ∨ e.owner = ownerOf s.fab.eePlaces k then s else s.setEe k { e with owner := ownerOf s.fab.eePlaces k }) s1
  ((List.range 16).foldl (fun (s : State) c => s.setBits .ENC_CH_STAT c 23 16 (s.pesOf c).length) s2).showEngines

/-- At a commit the firmware places the engines for the newest configuration: a channel that keeps both its counts keeps its engines.
The channels take theirs at their frame boundaries, one that holds none at once, and the pool's sessions at their picture starts
(R228, R229). -/
def State.allocate (s : State) : State :=
  let c := s.conf
  let n := poolNeed c.dec
  let kept := fun (o : Nat) (k : Nat × Nat) => decide ((Tbl.get s.fab.plan o).length = k.1) && decide ((Tbl.get s.fab.eePlan o).length = k.2)
  let keep := fun (o : Nat) (k : Nat × Nat) (t : Tbl (List Nat)) => if kept o k then some (Tbl.get t o) else none
  let hp := (List.range 32).filter (fun k => !(s.peSt k).failed)
  let he := (List.range 8).filter (fun k => !(s.eeSt k).failed)
  let pe := placeAll hp (c.enc.map (fun e => (e.1, (encNeed e.2).1, keep e.1 (encNeed e.2) s.fab.plan))) n.1
  let ee := placeAll he (c.enc.map (fun e => (e.1, (encNeed e.2).2, keep e.1 (encNeed e.2) s.fab.eePlan))) n.2
  let now := fun (old new : Tbl (List Nat)) =>
    new.foldl (fun (t : Tbl (List Nat)) (e : Nat × List Nat) => if e.1 = 0x40 ∨ Tbl.get t e.1 = [] then Tbl.set t e.1 e.2 else t) (Tbl.erase old 0x40)
  (({ s with fab := { s.fab with plan := Tbl.erase pe 0x40, eePlan := Tbl.erase ee 0x40
                                 places := now s.fab.places pe, eePlaces := now s.fab.eePlaces ee } }).showOwners).refill

/-- At its frame boundary a channel takes the engines that the latest commit gives it, if any; an unbound one holds none (R229). -/
def State.takeEngines (s : State) (c : Nat) (bound : Bool) : State :=
  let pe := if bound then Tbl.get s.fab.plan c else []
  let ee := if bound then Tbl.get s.fab.eePlan c else []
  if (s.pesOf c = pe ∧ s.eesOf c = ee) ∨ (bound ∧ pe = []) then s
  else ({ s with fab := { s.fab with places := Tbl.set s.fab.places c pe, eePlaces := Tbl.set s.fab.eePlaces c ee } }).showOwners

/-! ### Bindings of decode sessions (R247, R258) -/

/-- TYPE of an ingest binding (R160). -/
def iType (b : Body) : Nat := b.u8 2

/-- A binding of coded video, whose access units go to a decode session (R160). -/
def iCoded (b : Body) : Bool := iType b == 4 || iType b == 5

/-- A bound context that feeds decode session n reports loss of signal (R124). -/
def State.sessLos (s : State) (n : Nat) : Bool :=
  s.ing.ctx.any (fun e => e.2.bound && e.2.los && iCoded e.2.cfg && e.2.cfg.u16 8 == n)

/-- The pool of decode session n reads the loss of signal of what feeds it (R124). -/
def State.showSessLos (s : State) (n : Nat) : State := s.modPool (poolDec n) (fun p => { p with los := s.sessLos n })

/-- A session shows its declaration and DEC_STATUS the number bound (R259). -/
def State.showDec (s : State) (n : Nat) : State :=
  let d := s.sess n
  (((s.setBits .DEC_SESS_STAT n 26 26 (if d.bound then dCodec d.cfg else 0)).setBits .DEC_SESS_LEVEL n 7 0
    (if d.bound then d.cfg.u8 7 else 0)).showPool n).setBits .DEC_STATUS 0 7 0 (s.dec.filter (fun e => e.2.bound)).length

/-- The owner lets go of its newest output, and no surface of the pool is the source's newest any more: a session bound afresh has
none (R250, R258). -/
def State.disown (s : State) (n : Nat) : State :=
  s.modPool (poolDec n) (fun p => { (p.unpin 300) with order := [], oldNewest := none })

/-- A declaration is in force. A new pool, or another codec, starts the session afresh in WAIT_KEY (R250); any other change
keeps its state. -/
def State.applyDec (s : State) (n : Nat) (b : Body) (quiet : Bool) : State :=
  let d := s.sess n
  let s1 := if quiet then s else s.storeTaken 0x3001 b
  if b.u8 2 = 0 then
    (((((s1.dropAus n).disown n).freePool (poolDec n)).modSess n (fun _ => default)).setSess n 0 0 default).setBits .DEC_SESS_LEVEL n 15 8 0
      |>.showDec n
  else if d.bound && (s.pool (poolNext (poolDec n))).surfs.isEmpty && dCodec d.cfg == dCodec b then
    (s1.modSess n (fun d => { d with cfg := b, next := none })).showDec n
  else
    let s2 := (((s1.dropAus n).disown n).adoptPool (poolDec n)).modSess n (fun d => { (default : DecSession) with bound := true, cfg := b, nextPic := d.nextPic })
    ((s2.setSess n 1 0 default).showSessLos n).showDec n

/-- A waiting unbind or rebind takes effect at an access-unit boundary of the session (R258). -/
def State.sessBoundary (s : State) (n : Nat) : State :=
  match (s.sess n).next with
  | none => s
  | some b => s.applyDec n b (s.sess n).nextQuiet

/-! ### Retry and failover (R243 to R245) -/

/-- Code of an engine's kind in the events of group 0x30. -/
def engKind : Engine → Nat
  | .pe _ => 0
  | .ee _ => 1
/-- Number of an engine. -/
def engNum : Engine → Nat
  | .pe n => n.val
  | .ee n => n.val
/-- Island of an engine (R27). -/
def engIsland : Engine → Nat
  | .pe n => n.val / 4
  | .ee n => 8 + n.val / 4

/-- State of an engine. -/
def State.engine (s : State) : Engine → EngineSt
  | .pe n => s.peSt n.val
  | .ee n => s.eeSt n.val
/-- Replaces an engine's state. -/
def State.setEngine (s : State) (e : Engine) (x : EngineSt) : State :=
  match e with
  | .pe n => s.setPe n.val x
  | .ee n => s.setEe n.val x

/-- Owner code of CF_ALLOC. -/
def EngineSt.code (e : EngineSt) : Nat := if e.failed then 0xFF else e.owner.getD 0xFE

/-- The spare that takes a failed engine's work: the lowest-numbered in its island, else the lowest anywhere (R244). -/
def State.spareFor (s : State) (e : Engine) : Option Nat :=
  let l := match e with | .pe _ => s.spares.1 | .ee _ => s.spares.2
  match l.find? (fun k => k / 4 == (engNum e) / 4) with
  | some k => some k
  | none => l[0]?

/-- CF_NOSPARE is raised when a failover leaves fewer spares than CF_RESERVE requires (R230). -/
def State.checkSpares (s : State) : State :=
  let s1 := s.showEngines
  if s1.regBit .CF_STATUS 0 0 then s1.event 0x3013 [BitVec.ofNat 8 s1.spares.1.length, BitVec.ofNat 8 s1.spares.2.length] else s1

/-- A failed engine's number in a list gives way to its spare's, or leaves it (R244). -/
def swapNum (n : Nat) (k : Option Nat) (l : List Nat) : List Nat :=
  match k with
  | some k => l.map (fun m => if m = n then k else m)
  | none => l.filter (fun m => m != n)

/-- The spare stands in for a failed engine wherever the engine stood: with its channel or pool, in pictures under way, and for the
entropy segments it had (R244). -/
def State.swapEngine (s : State) (e : Engine) (k : Option Nat) : State :=
  let n := engNum e
  let tbl := fun (t : Tbl (List Nat)) => (t.map (fun p => (p.1, swapNum n k p.2))).filter (fun p => p.2 != [])
  let aus := fun (f : DecAu → DecAu) => s.dec.foldl (fun (t : Tbl DecSession) d => Tbl.modify t d.1 (fun x => { x with aus := x.aus.map f })) s.dec
  match e with
  | .pe _ => { s with fab := { s.fab with places := tbl s.fab.places, plan := tbl s.fab.plan }, dec := aus (fun a => { a with pes := swapNum n k a.pes }) }
  | .ee _ =>
    let seg := s.fab.segEng.filterMap (fun x => if x.2.2.2 = n then k.map (fun k => (x.1, x.2.1, x.2.2.1, k)) else some x)
    { s with fab := { s.fab with eePlaces := tbl s.fab.eePlaces, eePlan := tbl s.fab.eePlan, segEng := seg }
             dec := aus (fun a => { a with ees := swapNum n k a.ees }) }

/-- A job starts again from the beginning of its row (R243, R244). -/
def Job.again (j : Job) (bad : Nat) : Job := { j with bad := bad, started := false, ctus := 0, stalled := false }

/-- Jobs join a spare's queue behind what it still holds; what finds no place waits in its owner's job list (R232, R244). -/
def State.moveJobs (s : State) (e : Engine) (k : Nat) (l : List Job) : State :=
  match e with
  | .pe _ =>
    let x := s.peSt k
    (l.drop (16 - x.queue.length)).foldl (fun s j => s.toDram j) (s.setPe k { x with queue := x.queue ++ l.take (16 - x.queue.length) })
  | .ee _ =>
    let x := s.eeSt k
    (l.drop (16 - x.queue.length)).foldl (fun s j => s.toDramEe j) (s.setEe k { x with queue := x.queue ++ l.take (16 - x.queue.length) })

/-- A session that its engine leaves without a spare stops producing pictures: nothing of it runs any more (R245). -/
def State.stopOwner (s : State) (o : Nat) : State :=
  if o < 64 then s
  else (s.dropJobs (fun p _ => p == o)).modSess (o - 64) (fun d => { d with stopped := true })

/-- An engine is declared failed while it runs job j: its queue moves to a spare that takes its place, beginning with that job, or the
failure is unmasked, and sessions with jobs on it stop. A channel that is short of engines shows FAULT (R42, R244, R245, R275). -/
def State.failEngine (s : State) (e : Engine) (j : Job) : State :=
  let x := s.engine e
  let spare := s.spareFor e
  let code := x.owner.getD 0xFE
  let q := j.again 0 :: x.queue.filter (fun k => k.num != j.num)
  let s1 := (s.setEngine e { x with failed := true, failedJob := j.num % 256, queue := [], owner := none }).event 0x3011
    [BitVec.ofNat 8 (engKind e), BitVec.ofNat 8 (engNum e), BitVec.ofNat 8 code, BitVec.ofNat 8 (bit01 spare.isSome)]
  let s2 := s1.swapEngine e spare
  match spare with
  | some k =>
    let s3 := ((s2.moveJobs e k q).showOwners).event 0x3012
      ([BitVec.ofNat 8 (engKind e), BitVec.ofNat 8 (engNum e), BitVec.ofNat 8 k, 0#8] ++ leBytes 2 q.length)
    ((s3.fault (engIsland e) fcENGINE 0 (engNum e) []).checkSpares).countJobs
  | none =>
    let s3 := (q.map (fun k => k.owner)).foldl (fun (s : State) o => s.stopOwner o) s2
    ((s3.showOwners).fault (engIsland e) fcENGINE 1 (engNum e) []).refill

/-- The job that an engine executes: a PE's running row, an EE's first one unless it stalls. -/
def State.executing (s : State) (e : Engine) : Option Job :=
  match e with
  | .pe n => (s.peSt n).running.filter (fun j => j.started)
  | .ee n => (s.eeSt n).queue.head?.filter (fun j => !j.stalled)

/-- The first mismatch in a job abandons the row and repeats it from its start (R243). -/
def State.retryJob (s : State) (e : Engine) (j : Job) : State :=
  let s1 := s.setEngine e ((s.engine e).modJob j.num (fun j => j.again 1))
  let s2 := match e with | .pe n => s1.bumpSat .CF_PE_RETRY n.val | .ee n => s1.bumpSat .CF_EE_RETRY n.val
  let s3 := s2.eventPerSec 0x3010 ((engKind e) * 64 + (engNum e)) 1 (fun c => [BitVec.ofNat 8 (engKind e), BitVec.ofNat 8 (engNum e), 0#8, 0#8] ++ leBytes 4 c)
  s3.fault (engIsland e) fcRETRY 0 (engNum e) []

/-- Engines of a mismatch in ascending order, PEs before EEs (R245). -/
def engOrder (e : Engine) (also : Option Engine) : List Engine :=
  match also with
  | none => [e]
  | some f => if engKind f * 64 + engNum f < engKind e * 64 + engNum e then [f, e] else if e = f then [e] else [e, f]

/-- JOB_RESIDUE_MISMATCH: the first mismatch in the job that an engine executes repeats the row; a second one in the same job declares
the engine failed. `also`: another engine whose mismatch falls into the same cycle; both are unavailable before spares are taken
(R243 to R246). -/
def execJobResidueMismatch (e : Engine) (also : Option Engine) (s : State) : Host.Outcome State Fault Refusal :=
  let hit := (engOrder e also).filterMap (fun x => if (s.engine x).failed then none else (s.executing x).map (fun j => (x, j)))
  let dead := hit.filter (fun h => h.2.bad != 0)
  let s1 := (hit.filter (fun h => h.2.bad == 0)).foldl (fun (s : State) h => s.retryJob h.1 h.2) s
  let s2 := dead.foldl (fun (s : State) h => s.setEngine h.1 { s.engine h.1 with failed := true }) s1
  .next (dead.foldl (fun (s : State) h => s.failEngine h.1 h.2) s2)

/-- BUFFER_WAIT_END: a session that waits for an UNUSED buffer gets one once the marks of one have cleared (R239, R241). An
encode channel never waits (R267). -/
def execBufferWaitEnd (n : Fin 144) (s : State) : Host.Outcome State Fault Refusal :=
  if n.val < 128 && (s.sess n).waiting then .next (s.tryStart n) else .next s

/-! ### CF_RESERVE and CF_ALLOC -/

/-- CF_RESERVE 0x3010: spare PEs and EEs that every commit must leave free (R230). -/
def execCfReserve (r : Req) (b : Body) (s : State) : Host.Outcome State Fault Refusal :=
  let set := fun (s : State) => (s.setBits .CF_RESERVE 0 3 0 (b.u8 0)).setBits .CF_RESERVE 0 9 8 (b.u8 1)
  command 0x3010 r s [0] (b.length != 4 || !b.zero 2 2 || decide (8 < b.u8 0) || decide (2 < b.u8 1))
    { rej := if s.conf.enginesOver (set s) then some rENGINES else none } (fun s => done (set s).showEngines)

/-- CF_ALLOC 0x3011: the owner of every engine (R228). -/
def execCfAlloc (r : Req) (b : Body) (s : State) : Host.Outcome State Fault Refusal :=
  command 0x3011 r s [] (b.length != 0) {} (fun s =>
    .now s .OK ((List.range 32).map (fun n => BitVec.ofNat 8 (s.peSt n).code) ++ (List.range 8).map (fun n => BitVec.ofNat 8 (s.eeSt n).code)))

end Sys2Proof.Machine
end

