-- ==== Sys2Proof/Machine/Packets.lean ====
section
/-! DEFINITION. The kinds of Ethernet frames that dispatch tells apart (R155), and RTP payloads of coded video (R153, R181): the packets of RFC 7798 (H.265) and RFC 6184 (H.264), and the NAL units
that an access unit's packets carry whole. The payload formats are those of the two RFCs (PRESUMED, log 161). -/

namespace Sys2Proof

/-- Destination MAC address of a frame. -/
def EthFrame.dst (f : EthFrame) : Nat := Body.be f.data 0 6

/-- A broadcast frame. -/
def EthFrame.broadcast (f : EthFrame) : Bool := f.dst == 2 ^ 48 - 1

/-- Addressed neither to a MAC nor to a group (R155 row 3). -/
def EthFrame.elsewhere (f : EthFrame) (address : Nat) : Bool := f.dst != address && !(Body.u8 f.data 0).testBit 0

/-- A pause frame, EtherType 0x8808: received and discarded (R153). -/
def EthFrame.pause (f : EthFrame) : Bool := Body.be f.data 12 2 == 0x8808

/-- A control frame (R155 row 4): not IPv4 carrying UDP, or broadcast. -/
def EthFrame.control (f : EthFrame) : Bool := f.broadcast || !f.udp

/-- Type of an RTP payload: the NAL unit type of its first bytes. -/
def nalKind (h264 : Bool) (p : List Byte) : Nat := if h264 then Body.u8 p 0 % 32 else Body.u8 p 0 / 2 % 64

/-- Bytes of the payload header: H.265 has two, H.264 one. -/
def nalHead (h264 : Bool) : Nat := if h264 then 1 else 2

/-- A payload that is cut short or of a packet type that is not supported: PACI packets, DONL and interleaved mode (R153, R155
row 8). -/
def nalBad (h264 : Bool) (p : List Byte) : Bool :=
  let k := nalKind h264 p
  decide (p.length < nalHead h264)
    || (if h264 then decide (24 < k ∧ k < 28) || decide (28 < k) || k == 0 || (k == 28 && decide (p.length < 3))
        else decide (49 < k) || (k == 49 && decide (p.length < 4)))

/-- The NAL units of an aggregation packet, each behind its 16-bit size. -/
def aggregated : Nat → List Byte → List (List Byte)
  | 0, _ => []
  | k + 1, p =>
    let n := Body.be p 0 2
    if p.length < 3 ∨ n = 0 ∨ p.length < 2 + n then [] else (p.drop 2).take n :: aggregated k (p.drop (2 + n))

/-- The NAL unit header that a fragmentation unit stands for. -/
def fuHeader (h264 : Bool) (p : List Byte) : List Byte :=
  if h264 then leBytes 1 (Body.u8 p 0 / 32 * 32 + Body.u8 p 1 % 32)
  else leBytes 1 (Body.u8 p 0 / 128 * 128 + Body.u8 p 2 % 64 * 2 + Body.u8 p 0 % 2) ++ leBytes 1 (Body.u8 p 1)

/-- The NAL units that packets in sequence carry whole. A fragmentation unit with a missing fragment is damaged and is removed
(R181); `open0` is the unit being put together, with the number of its next fragment. -/
def wholeNals (h264 : Bool) : List (Nat × List Byte) → Option (Nat × List Byte) → List (List Byte)
  | [], _ => []
  | (q, p) :: rest, open0 =>
    let k := nalKind h264 p
    let n := nalHead h264
    if k = (if h264 then 24 else 48) then aggregated p.length (p.drop n) ++ wholeNals h264 rest none
    else if k = (if h264 then 28 else 49) then
      let f := Body.u8 p n
      let unit := if f.testBit 7 then some (fuHeader h264 p ++ p.drop (n + 1))
        else match open0 with
          | some (m, u) => if m = q then some (u ++ p.drop (n + 1)) else none
          | none => none
      match unit with
      | some u => if f.testBit 6 then u :: wholeNals h264 rest none else wholeNals h264 rest (some ((q + 1) % 2 ^ 32, u))
      | none => wholeNals h264 rest none
    else p :: wholeNals h264 rest none

/-- NAL units among the packets: those whole, and fragmentation units begun. -/
def nalsBegun (h264 : Bool) (l : List (Nat × List Byte)) : Nat :=
  (l.map (fun e =>
    let k := nalKind h264 e.2
    if k = (if h264 then 24 else 48) then (aggregated e.2.length (e.2.drop (nalHead h264))).length
    else if k = (if h264 then 28 else 49) then bit01 ((Body.u8 e.2 (nalHead h264)).testBit 7) else 1)).sum

end Sys2Proof
end

