-- ==== Sys2Proof/Machine/Ingest.lean ====
section
/-! DEFINITION. Ethernet and SDI ingest: dispatch of received frames (R155), the Lode lookup and updates (R158 to R164),
the host rings (R165 to R167), injection (R168), assembly and the ST 2022-7 merge (R173 to R182), SDI lines (R183, R184),
loss of signal (R171), and the commands of group 0x20 that need no commit validation. -/

namespace Sys2Proof.Machine

/-! ### Contexts -/

/-- An ingest context. -/
def State.ictx (s : State) (c : Nat) : IngCtx := Tbl.get s.ing.ctx c
/-- Replaces an ingest context, keeping its status register in step (R191). -/
def State.setIctx (s : State) (c : Nat) (x : IngCtx) : State :=
  let s1 := { s with ing := { s.ing with ctx := Tbl.set s.ing.ctx c x } }
  let st := zeroWord
  let st1 := (((st.setBits 31 31 (bit01 x.bound)).setBits 30 30 (bit01 x.los)).setBits 29 27 (if x.bound then x.cfg.u8 2 else 0)).setBits
    26 26 (bit01 (!x.frames.isEmpty))
  let st2 := if x.group < 256 then (st1.setBits 23 16 x.group).setBits 15 15 1 else st1
  s1.setReg .ING_CTX_STAT c st2
/-- Changes an ingest context. -/
def State.modIctx (s : State) (c : Nat) (f : IngCtx → IngCtx) : State := s.setIctx c (f (s.ictx c))

/-- SOURCE_ID of a binding. -/
def iSource (b : Body) : Nat := b.u16 4
/-- LOS_MS of a binding. -/
def iLos (b : Body) : Nat := b.u16 6
/-- SAMPLING of a binding. -/
def iSampling (b : Body) : Nat := b.u8 11
/-- FORMAT code of the surfaces of a binding (R309). -/
def iFormat (b : Body) : Nat := if iSampling b = 2 then 0x22 else 0x20
/-- A binding that owns a VIDEO pool (R169). -/
def iPooled (b : Body) : Bool := iType b == 1 || iType b == 6

/-- The binding of a context that its next frame boundary leaves in force. -/
def IngCtx.newest (x : IngCtx) : Body :=
  match x.next with
  | some b => if b.u8 28 = 0 then [] else b
  | none => if x.bound then x.cfg else []

/-- A merge group. -/
def State.mgrp (s : State) (g : Nat) : MergeGroup := Tbl.get s.ing.groups g
/-- Replaces a merge group, keeping its status register in step (R191). -/
def State.setMgrp (s : State) (g : Nat) (m : MergeGroup) : State :=
  let s1 := { s with ing := { s.ing with groups := Tbl.set s.ing.groups g m } }
  s1.setReg .ING_MG_STAT g ((((zeroWord.setBits 23 8 m.skewMs).setBits 3 3 (bit01 m.aheadB)).setBits 1 1 (bit01 m.upB)).setBits
    0 0 (bit01 m.upA))

/-- The pool of the source that a context carries reads its loss of signal (R124). -/
def State.showLos (s : State) (c : Nat) : State :=
  let x := s.ictx c
  if iPooled x.cfg then s.modPool (poolIng c) (fun p => { p with los := x.los })
  else if iCoded x.cfg then s.showSessLos (x.cfg.u16 8) else s

/-- Reports a change of a context's loss of signal (R171, R193); the Canary reads it from the source's pool (R124). -/
def State.setLos (s : State) (c : Nat) (lost : Bool) (t : Nat) : State :=
  let x := s.ictx c
  if x.los = lost then s
  else ((s.setIctx c { x with los := lost }).showLos c).eventLimited 0x2001 c 10 t
    (leBytes 2 c ++ leBytes 1 (bit01 lost) ++ leBytes 1 0 ++ leBytes 2 (iSource x.cfg))

/-- Puts a binding in force with the pool that was allocated for it when the command was accepted (R169). A context counts its
LOS_MS from its bind until a packet is delivered (DESIGN CHOICE, log 163). -/
def State.applyBinding (s : State) (c : Nat) (b : Body) (quiet : Bool) : State :=
  let old := s.ictx c
  let s1 := if quiet then s else s.storeTaken 0x2002 b
  let s2 :=
    if b.u8 28 = 0 then
      ((if iPooled old.cfg then s1.freePool (poolIng c) else s1).setIctx c { (default : IngCtx) with group := old.group })
    else
      let s2 := if iPooled b then s1.adoptPool (poolIng c) else if iPooled old.cfg then s1.freePool (poolIng c) else s1
      (s2.modIctx c (fun x => { x with bound := true, cfg := b, next := none, lastPkt := if x.bound then x.lastPkt else s.now })).showLos c
  if iCoded old.cfg then s2.showSessLos (old.cfg.u16 8) else s2

/-- Open frames of a context are given up: their surfaces stay without a header (R169, R187). -/
def State.dropFrames (s : State) (c : Nat) : State :=
  let k := poolIng c
  let s1 := (s.ictx c).frames.foldl (fun (s : State) f => match f.surface with
    | some a => (s.modPool k (fun p => p.abandonAt a)).collect k
    | none => s) s
  s1.modIctx c (fun x => { x with frames := [] })

/-- A waiting replacement or unbind takes hold at a frame boundary of the input (R169). An unbind discards the open frames; a
replacement lets them close under the binding they opened with. -/
def State.ctxBoundary (s : State) (c : Nat) : State :=
  match (s.ictx c).next with
  | none => s
  | some b =>
    let s1 := if b.u8 28 = 0 then s.dropFrames c else s
    (s1.modIctx c (fun x => { x with next := none })).applyBinding c b (s.ictx c).nextQuiet

/-! ### Host rings (R165 to R167) -/

/-- An ingest host ring. -/
def State.iring (s : State) (r : Nat) : HostRing := if r = 0 then s.ing.ring0 else s.ing.ring1
/-- Replaces an ingest host ring. -/
def State.setIring (s : State) (r : Nat) (x : HostRing) : State :=
  if r = 0 then { s with ing := { s.ing with ring0 := x } } else { s with ing := { s.ing with ring1 := x } }

/-- A record that would overwrite an unread one is dropped and counted, each with its event (log 97); else it is written and the
index advances (R165). -/
def State.ringRecord (s : State) (r t mac reason len ctx : Nat) (dat : List Byte) : State :=
  let x := s.iring r
  if x.log2 = 0 then s
  else if x.full then
    (s.bumpSat .ING_SAMPLE_DROP 0).event 0x2007 (leBytes 1 r ++ leBytes 3 0 ++ leBytes 4 1)
  else
    let w := s.regBits .ING_RING_WR r 13 0
    let nx := (w + 1) % x.size
    let rec0 := timeBytes t ++ leBytes 1 mac ++ leBytes 1 reason ++ leBytes 2 len ++ leBytes 2 ctx ++ leBytes 2 x.phase
      ++ leBytes 4 x.skipped ++ List.replicate 12 0#8 ++ (dat ++ List.replicate 224 0#8).take 224
    let s1 := ((s.emit (.dma x.port (x.addr + w * 256) rec0)).setBits .ING_RING_WR r 13 0 nx).setIring r (x.wrote nx)
    if r = 0 then s1.bumpSat .ING_SAMPLE_CNT 0 else s1

/-- A frame that does not reach its ring whole counts once in the SKIPPED of the ring's next record (R167). -/
def State.ringSkip (s : State) (r : Nat) : State :=
  if (s.iring r).log2 = 0 then s else s.setIring r { (s.iring r) with skipped := (s.iring r).skipped + 1 }

/-- A frame goes to a ring in the records its data takes; one of which a record was dropped was not delivered (R165, R167). -/
def State.ringFrame (s : State) (r t mac reason len ctx : Nat) (dat : List (List Byte)) : State :=
  let s1 := dat.foldl (fun (s : State) d => s.ringRecord r t mac reason len ctx d) s
  if s1.regBits .ING_RING_WR r 13 0 = (s.regBits .ING_RING_WR r 13 0 + dat.length) % (s.iring r).size then s1 else s1.ringSkip r

/-- Units of the token bucket that make one record: a token fills in 1,000,000 ns (R166). -/
def tokenUnit : Nat := 1000000

/-- The token bucket of ring 0: 1,000 records a second, 50 deep (R166). -/
def State.tokens (s : State) : Nat := min (50 * tokenUnit) (s.ing.tokens + (s.now - s.ing.tokensAt))

/-- A frame for ring 0 if a token is there; otherwise it is counted as skipped only (R166). A token is taken by every frame that
comes to the ring, also while the ring is disabled or full (DESIGN CHOICE, log 164: the spec does not say). -/
def State.sampleFrame (s : State) (mac reason : Nat) (f : EthFrame) : State :=
  let k := s.tokens
  let s1 := { s with ing := { s.ing with tokens := k, tokensAt := s.now } }
  if k < tokenUnit then s1.ringSkip 0
  else ({ s1 with ing := { s1.ing with tokens := k - tokenUnit } }).ringFrame 0 (s.rxTime mac) mac reason (f.len - 4) 0xFFFF [f.data]

/-- The pieces of an RFC 8331 payload that fill the DATA of consecutive records (R167). -/
def chunks224 (l : List Byte) : List (List Byte) := (List.range (max 1 (ceilDiv l.length 224))).map (fun i => (l.drop (224 * i)).take 224)

/-! ### Lode lookup (R158, R161) -/

/-- Entries in use with their indices. -/
def State.lodeList (s : State) : List (Nat × LodeEntry) := s.lode.entries.filterMap (fun e => e.2.map (fun x => (e.1, x)))

/-- The three probes of R158 in order; the first is skipped for a payload without an RTP header. An entry that has lost a word is
invalid (R479). -/
def State.lodeLookup (s : State) (f : EthFrame) : Option (Nat × LodeEntry) :=
  let l : List (Nat × LodeEntry) := s.lodeList.filter (fun e => e.2.dst == f.dstAddr && e.2.dport == f.dstPort && decide (e.2.lostUntil ≤ s.now))
  let exact : Option (Nat × LodeEntry) := match f.rtp with
    | none => none
    | some r => l.find? (fun e => !e.2.srcAny && !e.2.ssrcAny && e.2.src == f.srcAddr && e.2.ssrc == r.ssrc)
  match exact with
  | some e => some e
  | none =>
    match l.find? (fun e => !e.2.srcAny && e.2.ssrcAny && e.2.src == f.srcAddr) with
    | some e => some e
    | none => l.find? (fun e => e.2.srcAny && e.2.ssrcAny)

/-- Notes a match: LODE_HITS and the entry's LAST_HIT in ms of PTP time (R159). -/
def State.lodeHit (s : State) (i : Nat) (e : LodeEntry) : State :=
  ({ s with lode := { s.lode with entries := Tbl.set s.lode.entries i (some { e with lastHit := s.ptp / ms % 2 ^ 32 }) } }).bumpWrap
    .LODE_HITS 0

/-- A context's merge group is that of the first entry that names it with one (R159, R191; log 165). -/
def State.showGroup (s : State) (c : Nat) : State :=
  let g := ((s.lodeList.find? (fun e => e.2.context == c && decide (e.2.group < 256))).map (fun e => e.2.group)).getD 0xFFFF
  if (s.ictx c).group = g then s else s.modIctx c (fun x => { x with group := g })

/-! ### Assembly (R173 to R181) -/

/-- The 32-bit value nearest to the last accepted one that ends in a 16-bit number (R174). -/
def extend16 (last seq : Nat) : Nat :=
  let d := (seq + 65536 - last % 65536) % 65536
  if d < 32768 then (last + d) % 2 ^ 32 else (last + 2 ^ 32 + d - 65536) % 2 ^ 32

/-- Extended sequence number of a packet (R174). -/
def extSeq (video : Bool) (last : Nat) (r : Rtp) : Nat := if video then r.extSeq * 65536 + r.seq else extend16 last r.seq

/-- a is after b, modulo 2^32. -/
def seqAfter (a b : Nat) : Bool := decide ((a + 2 ^ 32 - b) % 2 ^ 32 ≠ 0 ∧ (a + 2 ^ 32 - b) % 2 ^ 32 < 2 ^ 31)

/-- The earliest of some numbers. -/
def seqMin (l : List Nat) : Option Nat :=
  l.foldl (fun a b => match a with | none => some b | some m => some (if seqAfter m b then b else m)) none
/-- The latest of some numbers. -/
def seqMax (l : List Nat) : Option Nat :=
  l.foldl (fun a b => match a with | none => some b | some m => some (if seqAfter b m then b else m)) none

/-- Samples per two pixels of a sampling: 4 for 4:2:2, 6 for RGB. -/
def perPair (sampling : Nat) : Nat := if sampling = 2 then 6 else 4

/-- Samples of w pixels. -/
def samplesOf (sampling w : Nat) : Nat := w * perPair sampling / 2

/-- Black samples of a line (R309: narrow range): Y' 64, Cb and Cr 512; R'G'B' 0. -/
def blackLine (sampling w : Nat) : List Nat :=
  if sampling = 2 then List.replicate (3 * w) 0
  else ((List.range w).map (fun x => if x % 2 = 0 then [64, 512, 512] else [64])).flatten

/-- Lays a run of samples over a line. -/
def overlay (line : List Nat) (at0 : Nat) (run : List Nat) : List Nat := (line.take at0) ++ run ++ line.drop (at0 + run.length)

/-- Line number of a run: interlaced fields interleave (R180). -/
def runLine (il : Bool) (r : SampleRun) : Nat := if il then 2 * r.line + bit01 r.field else r.line

/-- Bands of a field of an interlaced binding: the second field's bands follow the first's (R177, R180; log 166). -/
def fieldBands (b : Body) : Nat := ceilDiv (ceilDiv (b.u16 14) 2) 16

/-- Band of a run (R177). -/
def runBand (b : Body) (il : Bool) (r : SampleRun) : Nat := (if il && r.field then fieldBands b else 0) + r.line / 16

/-- Lines of a band (R177). -/
def bandLines (b : Body) (il : Bool) (k : Nat) : List Nat :=
  (List.range 16).map (fun j =>
    if il then (if k < fieldBands b then 2 * (16 * k + j) else 2 * (16 * (k - fieldBands b) + j) + 1) else 16 * k + j)

/-- Runs laid over a line; 8-bit samples fill the upper bits of the surface's (R309). -/
def layRuns (b : Body) (il : Bool) (runs : List SampleRun) (y : Nat) (base : List Nat) : List Nat :=
  (runs.filter (fun r => runLine il r == y)).foldl (fun l r =>
    overlay l (samplesOf (iSampling b) r.pixel) (if iSampling b = 1 then r.samples.map (· * 4) else r.samples)) base

/-- A line of what missing pixels take: the previous complete surface's, and black beyond it or where there is none (R177). -/
def fillLine (b : Body) (prev : Option Surface) (y : Nat) : List Nat :=
  let black := blackLine (iSampling b) (b.u16 12)
  match prev with
  | none => black
  | some f => let l := f.lines.getD y []; (l ++ black.drop l.length).take black.length

/-- Writes the bands below k that have not been written, at a PTP time: what is missing is filled now (R177). -/
def OpenFrame.writeTo (f : OpenFrame) (k : Nat) (prev : Option Surface) (now : Nat) : OpenFrame :=
  let ys := ((List.range (k - f.written)).map (fun i => bandLines f.cfg f.interlaced (f.written + i))).flatten
  { f with written := max f.written k, bandAt := f.bandAt ++ List.replicate (k - f.written) now
           out := ys.foldl (fun t y => Tbl.set t y (layRuns f.cfg f.interlaced f.runs y (fillLine f.cfg prev y))) f.out }

/-- A time of the frame on the clock as it has been stepped since the frame opened (R382, R394). -/
def OpenFrame.onClock (f : OpenFrame) (t : Nat) : Nat := ((t + f.moved) % (2 ^ 48 * sec : Nat)).toNat

/-- Arrival of the frame's first packet, or the SAV time of its first line, on the present clock (R103, R394). -/
def OpenFrame.atArrival (f : OpenFrame) : Nat := f.onClock f.arrival

/-- Tag time, basis and flags of a frame with an RTP timestamp (R103, R104), moved with the clock (R394). -/
def OpenFrame.tagTime (f : OpenFrame) : Nat × Nat × Nat :=
  let (t, basis, cl) := Sys2Proof.Machine.tagTime (f.cfg.u8 3 == 0) 90000 f.ts f.arrival
  (f.onClock t, basis, cl)

/-- The picture of a frame of some size: its bands, with the tiles that patches touch written again (R177, R178). -/
def OpenFrame.picture (f : OpenFrame) (w h : Nat) (prev : Option Surface) : List (List Nat) :=
  let bands := if f.interlaced then 2 * fieldBands f.cfg else ceilDiv h 16
  let g := f.writeTo bands prev 0
  (List.range h).map (fun y => (layRuns f.cfg f.interlaced f.patchRuns y (Tbl.get g.out y)).take (samplesOf (iSampling f.cfg) w))

/-- Pixels that no accepted run covers remain filled (R177, R178). -/
def OpenFrame.uncovered (f : OpenFrame) (w h : Nat) : Bool :=
  (List.range h).any (fun y => decide ((((f.runs ++ f.patchRuns).filter (fun r => runLine f.interlaced r == y)).map (·.width)).sum < w))

/-- Size of a frame: what its packets showed; where its marker packet never came, no less than the last frame's that did
(DESIGN CHOICE, log 166: nothing else tells a lost last line from one that was not sent). -/
def OpenFrame.size (f : OpenFrame) (geo : Nat × Nat) : Nat × Nat :=
  if f.marker.isSome then (f.width, f.height) else (max f.width geo.1, max f.height geo.2)

/-- The first number of a frame, where it is known: the packet that starts the picture, the one after the previous frame's
marker, or, where the input was joined, the first one accepted (R175). -/
def OpenFrame.first (f : OpenFrame) : Option Nat :=
  match f.start, f.prevEnd with
  | some q, _ => some q
  | none, some m => some ((m + 1) % 2 ^ 32)
  | none, none => if f.joined then seqMin f.seqs else none

/-- Rule 1 of R175: every number from the first to the marker has been accepted. -/
def OpenFrame.full (f : OpenFrame) : Bool :=
  match f.marker, f.first with
  | some m, some a => decide (f.seqs.length = (m + 2 ^ 32 - a) % 2 ^ 32 + 1)
  | _, _ => false

/-- The last number of a frame: its marker, the number before the next frame known, or the last one accepted (R175). -/
def OpenFrame.lastNum (f : OpenFrame) (next : Option Nat) : Nat :=
  match f.marker, next with
  | some m, _ => m
  | none, some n => (n + 2 ^ 32 - 1) % 2 ^ 32
  | none, none => (seqMax f.seqs).getD 0

/-- Numbers of a frame that were never accepted (R178). -/
def OpenFrame.lost (f : OpenFrame) (next : Option Nat) : Nat :=
  let a := match f.prevEnd, f.first with
    | some m, _ => some ((m + 1) % 2 ^ 32)
    | none, some q => some q
    | none, none => seqMin f.seqs
  match a with
  | some q => (f.lastNum next + 1 + 2 ^ 32 - q) % 2 ^ 32 - f.seqs.length
  | none => 0

/-- The first number of a frame after f among the open ones and a packet that is about to open one. -/
def nextFirst (fs : List OpenFrame) (f : OpenFrame) (opening : Option Nat) : Option Nat :=
  let e := (seqMax f.seqs).getD 0
  seqMin ((fs.filterMap (fun g => seqMin g.seqs) ++ opening.toList).filter (fun q => seqAfter q e))

/-- Raises ING_FORMAT at the first frame that is too large and again when one fits (R188, R193). -/
def State.noteSize (s : State) (c : Nat) (big : Bool) (w h : Nat) : State :=
  let x := s.ictx c
  if x.tooLarge = big then s
  else (s.setIctx c { x with tooLarge := big }).eventLimited 0x2002 c 10 s.ptp
    (leBytes 2 c ++ leBytes 1 (bit01 big) ++ leBytes 1 0 ++ leBytes 2 w ++ leBytes 2 h)

/-- The previous complete surface of the pool that a surface address belongs to (R177). -/
def Pool.previous (p : Pool) (addr : Nat) : Option Surface :=
  if p.surfs.any (fun g => g.addr == addr) then p.newestIdx.map p.surf else p.oldNewest

/-- A picture of a context is ready: it is released with header and tag (R108, R190), or withheld when it is larger than its
binding allows (R188). The registers count released pictures; an access unit of a coded context is none (DESIGN CHOICE, log 167). -/
def State.releaseIngest (s : State) (c : Nat) (f : OpenFrame) (time basis flags master : Nat) : State :=
  let b := f.cfg
  let k := poolIng c
  let (w, h) := f.size (s.ictx c).geo
  let big := decide (w > b.u16 12) || decide (h > b.u16 14)
  let s1 := s.noteSize c big w h
  match f.surface with
  | none => s1
  | some a =>
    if big then ((s1.modPool k (fun p => p.abandonAt a)).collect k).addSatBits .ING_CTX_WITHHELD c 15 0 1
    else
      let conc := f.concealed || f.uncovered w h
      let out : FrameOut := { lines := f.picture w h ((s1.pool k).previous a), width := w, height := h, time := time, basis := basis
                              flags := flags + (if conc then fCONCEALED else 0) + (if f.interlaced then fINTERLACED else 0), master := master, bandAt := f.bandAt }
      let s2 := (((s1.modPool k (fun p => p.releaseAt a (iSource b) (iFormat b) out s.ptp s.now)).collect k).headerDone k).bumpWrap .ING_CTX_FRAMES c
      if conc then s2.bumpSat .ING_CTX_CONCEALED c else s2

/-- The access unit of a coded context goes to its decode session: the NAL units that its packets carry whole (R181). -/
def State.passUnit (s : State) (c : Nat) (f : OpenFrame) (lost : Nat) (time basis flags : Nat) : State :=
  let b := f.cfg
  let h264 := iType b == 5
  let parts := f.parts.mergeSort (fun x y => !seqAfter x.1 y.1)
  let nals := wholeNals h264 parts none
  match f.au with
  | none => s
  | some a =>
    let a1 := { a with damaged := a.damaged || decide (0 < lost) || nals.length != nalsBegun h264 parts }
    (s.sessBoundary (b.u16 8)).auAccept (b.u16 8)
      { time := time, basis := basis, flags := flags + (if a1.damaged then fCONCEALED else 0) } a1 (nals.map (·.length)).sum

/-- The k-th open frame of a context closes (R175 to R181): the missing numbers are counted, its end is where the next frame
begins, and its picture or access unit is passed on. `opening` is the number of a packet about to open a frame. -/
def State.closeFrame (s : State) (c k : Nat) (opening : Option Nat) : State :=
  let x := s.ictx c
  match x.frames[k]? with
  | none => s
  | some f =>
    let next := nextFirst (x.frames.eraseIdx k) f opening
    let e := f.lastNum next
    let told := x.spoiltSeqs.filter (fun q => !seqAfter q e && !f.seqs.contains q && (match f.prevEnd with | some m => seqAfter q m | none => true))
    let lost := f.lost next - (if x.group < 256 then 0 else f.dropped) - told.length
    let s1 := s.setIctx c { x with
      spoiltSeqs := x.spoiltSeqs.filter (fun q => seqAfter q e)
      frames := (x.frames.eraseIdx k).modify k (fun g => { g with prevEnd := g.prevEnd.or (some e) })
      lastEnd := some (match x.lastEnd with | some o => if seqAfter o e then o else e | none => e)
      geo := if f.marker.isSome then (f.width, f.height) else x.geo }
    let s2 := if lost = 0 then s1 else s1.addSat .ING_CTX_LOST c lost
    let s3 := if x.group < 256 then s2.setMgrp x.group { (s2.mgrp x.group) with aheadB := f.markerLeg == 1 } else s2
    let (t, basis, cl) := f.tagTime
    if iType f.cfg = 1 then s3.releaseIngest c f t basis cl 8
    else if iCoded f.cfg then s3.passUnit c f lost t basis cl
    else s3

/-- Closes every open frame of a context whose time has come: complete, or past its window (R175; W = 0 ends the window at
once). Oldest first; `fuel` bounds the walk by the number of open frames. With no frame left open the input stands at a
boundary: a waiting unbind discards the last one (R169). -/
def State.closeDue (s : State) (c : Nat) (opening : Option Nat) : Nat → State
  | 0 => s
  | fuel + 1 =>
    let x := s.ictx c
    match x.frames.findIdx? (fun f => f.full || (match f.deadline with | some d => decide (d ≤ s.now) | none => false)) with
    | none => s
    | some k =>
      let last := x.frames.length == 1 && opening.isNone
      let gone := last && x.next.any (fun b => b.u8 28 == 0)
      let s1 := if gone then s else s.closeFrame c k opening
      State.closeDue (if last then s1.ctxBoundary c else s1) c opening fuel

/-- Closes what is due of a context. -/
def State.closeAll (s : State) (c : Nat) (opening : Option Nat) : State := s.closeDue c opening (s.ictx c).frames.length

/-- At a frame's first packet the writer takes a surface, or withholds the frame with NOBUF (R187). -/
def State.takeForCtx (s : State) (c : Nat) : Option Nat × State :=
  match (s.pool (poolIng c)).take with
  | some (i, p) => (some (p.surf i).addr, s.setPool (poolIng c) p)
  | none =>
    let s1 := s.addSatBits .ING_CTX_WITHHELD c 31 16 1
    (none, s1.eventPerSec 0x2004 c 1 (fun _ => leBytes 2 c ++ leBytes 2 0 ++ leBytes 4 (s1.regBits .ING_CTX_WITHHELD c 31 16)))

/-- How many open frames come before a number. -/
def IngCtx.before (x : IngCtx) (seq : Nat) : Nat :=
  (x.frames.takeWhile (fun f => match seqMin f.seqs with | some q => seqAfter seq q | none => true)).length

/-- Opens a frame at its first packet, in its place among the open ones (R175, R187), with the W of its merge group (R173). -/
def State.openFrame (s : State) (mac c seq : Nat) (r : Rtp) (second : Bool) : State :=
  let x := s.ictx c
  let s1 := if x.group < 256 then
      let m := s.mgrp x.group
      s.setMgrp x.group { m with skewMs := if m.nextSkew = 0 then m.skewMs else m.nextSkew, nextSkew := 0 }
    else s
  let w := if x.group < 256 then (s1.mgrp x.group).skewMs * ms else 0
  let (a, s2) := if iType x.cfg = 1 then s1.takeForCtx c else (none, s1)
  let k := x.before seq
  let f : OpenFrame := {
    cfg := x.cfg, arrival := s.rxTime mac, ts := r.ts, ts2 := if second then some r.ts else none, skew := w, surface := a
    interlaced := iType x.cfg == 1 && x.cfg.u8 20 == 1, joined := k == 0 && x.lastEnd.isNone
    prevEnd := if k = 0 then x.lastEnd else (x.frames[k - 1]?).bind (·.marker) }
  s2.modIctx c (fun y => { y with frames := y.frames.take k ++ [f] ++ (y.frames.drop k).modify 0 (fun g => { g with prevEnd := none }) })

/-- A late packet: counted in its merge group, or in its context without one (R176, R178). -/
def State.latePacket (s : State) (c : Nat) : State :=
  let g := (s.ictx c).group
  if g < 256 then s.bumpSat .ING_MG_LATE g else s.bumpSat .ING_CTX_LOST c

/-- Puts an accepted packet into an open frame (R177, R178, R181): its pixels into its band, which ends the bands two or more
above, or into the patch list where its band has been written; coded bytes and the parse result into its access unit. `now` is device
time, `ptp` PTP time. The second result says that the patch list had no room. -/
def OpenFrame.add (f : OpenFrame) (prev : Option Surface) (seq leg now ptp : Nat) (r : Rtp) (e : EthFrame) : OpenFrame × Bool :=
  let il := f.interlaced
  let band := (e.runs.map (runBand f.cfg il)).foldl max 0
  let isPatch := !e.runs.isEmpty && decide (band < f.written)
  if isPatch && decide (4096 ≤ f.patches) then ({ f with dropped := f.dropped + 1 }, true)
  else
    let f1 := if isPatch then { f with patchRuns := f.patchRuns ++ e.runs, patches := f.patches + 1 }
      else ({ f with runs := f.runs ++ e.runs }).writeTo (band - 1) prev ptp
    let second := e.runs.any (·.field)
    let ends := r.marker && (!il || second)
    let begins := e.runs.any (fun x => x.line == 0 && x.pixel == 0 && !x.field)
    ({ f1 with
      seqs := if f.seqs.contains seq then f.seqs else seq :: f.seqs
      height := (e.runs.map (fun x => runLine il x + 1)).foldl max f.height
      width := (e.runs.map (fun x => x.pixel + x.width)).foldl max f.width
      parts := if iCoded f.cfg then (seq, e.payload) :: f.parts else []
      au := match e.au with | some a => some a | none => f.au
      ts := if il && !second then r.ts else f.ts
      ts2 := if il && second then some r.ts else f.ts2
      start := if begins then some seq else f.start
      marker := if ends then f.marker.or (some seq) else f.marker
      markerLeg := if ends && f.marker.isNone then leg else f.markerLeg
      deadline := if ends then some ((f.deadline.getD (now + f.skew)).min (now + f.skew)) else f.deadline }, false)

/-- The open frame that a packet belongs to: the one of its timestamp, or, of an interlaced source, the one that it completes with
its other field (R175, R180). -/
def IngCtx.frameOf (x : IngCtx) (seq : Nat) (r : Rtp) (e : EthFrame) : Option Nat :=
  let second := e.runs.any (·.field)
  match x.frames.findIdx? (fun f => f.ts == r.ts || f.ts2 == some r.ts) with
  | some k => some k
  | none =>
    let k := x.before seq
    let other := fun (j : Nat) (p : OpenFrame → Bool) => if (match x.frames[j]? with | some f => f.interlaced && p f | none => false) then some j else none
    if second then (if k = 0 then none else other (k - 1) (fun f => f.ts2.isNone))
    else other k (fun f => f.ts2 == some f.ts && f.runs.all (·.field))

/-- A packet goes into the k-th open frame; a marker packet is the end of the frame before the next one, and frames before it
whose marker has not come close W after it (R175 rule 3). -/
def State.putPacket (s : State) (c k seq leg : Nat) (r : Rtp) (e : EthFrame) : State :=
  let x := s.ictx c
  match x.frames[k]? with
  | none => s
  | some f =>
    let prev := f.surface.bind (fun a => (s.pool (poolIng c)).previous a)
    let (f1, full) := f.add prev seq leg s.now s.ptp r e
    let fs := (x.frames.set k f1).modify (k + 1) (fun g => { g with prevEnd := g.prevEnd.or f1.marker })
    let fs1 := fs.mapIdx (fun i g => if i < k ∧ g.marker.isNone then { g with deadline := some (g.deadline.getD (s.now + g.skew)) } else g)
    let s1 := s.setIctx c { x with frames := fs1 }
    if full then s1.latePacket c else s1.closeAll c none

/-- A packet accepted for a context of type 1, 4 or 5 (R175 to R178). One of a frame before the latest that has closed, with no frame
open for it, belongs to a closed frame (DEDUCED, log 168). The packet that opens a frame finds a waiting change in force; after
an unbind it is one of a context that is not bound (R155 row 7, R164). -/
def State.assemblePacket (s : State) (mac c seq leg : Nat) (r : Rtp) (e : EthFrame) : State :=
  let x := s.ictx c
  match x.frameOf seq r e with
  | some k => s.putPacket c k seq leg r e
  | none =>
    if (match x.lastEnd with | some m => !seqAfter seq m | none => false) then s.latePacket c
    else
      let s1 := s.setIctx c { x with frames := x.frames.mapIdx (fun i g =>
        if i < x.before seq ∧ g.marker.isNone then { g with deadline := some (g.deadline.getD (s.now + g.skew)) } else g) }
      let s2 := (if x.next.any (fun b => b.u8 28 == 0) then s1 else s1.closeAll c (some seq)).ctxBoundary c
      let y := s2.ictx c
      if !y.bound ∨ iType y.cfg ≠ iType x.cfg then s2.bumpSat .ING_MAC_UNK mac
      else (s2.openFrame mac c seq r (e.runs.any (·.field))).putPacket c (y.before seq) seq leg r e

/-- Rate cap of a coded-video context over the last 10 ms (R172): true when the packet must go. The whole frame counts, with its
FCS (DESIGN CHOICE, log 169: the spec does not say which bytes). -/
def overCap (x : IngCtx) (now len : Nat) : Bool :=
  let w := x.recent.filter (fun e => decide (now < e.1 + 10 * ms))
  decide (x.cfg.u32 24 * 10 < ((w.map (·.2)).sum + len) * 8)

/-- A packet over the rate cap goes: the first in a second raises ING_RATE with the discards of the last second (R172, R193). -/
def State.rateDrop (s : State) (c : Nat) : State :=
  let l := s.now :: (s.ictx c).rateDrops.filter (fun t => decide (s.now < t + sec))
  ((s.modIctx c (fun x => { x with rateDrops := l })).bumpSat .ING_CTX_RATE c).eventPerSec 0x2006 c 1
    (fun _ => leBytes 2 c ++ leBytes 2 0 ++ leBytes 4 l.length)

/-- Delivers a packet to its context, past its merge group (R155 row 9, R171, R172). -/
def State.deliver (s : State) (mac c seq leg : Nat) (r : Rtp) (e : EthFrame) : State :=
  let x := s.ictx c
  let s0 := s.modIctx c (fun y => { y with lastSeq := seq })
  if iCoded x.cfg && overCap x s.now e.len then s0.rateDrop c
  else
    let recent := if iCoded x.cfg then (s.now, e.len) :: x.recent.filter (fun z => decide (s.now < z.1 + 10 * ms)) else []
    let s1 := s0.modIctx c (fun y => { y with lastPkt := s.now, recent := recent })
    let s2 := s1.setLos c false s.ptp
    if iType x.cfg = 2 then s2.audioPacket c r e.payload
    else if iType x.cfg = 3 then s2.ringFrame 1 (s.rxTime mac) mac 3 (e.len - 4) c (chunks224 e.payload)
    else s2.assemblePacket mac c seq leg r e

/-- A packet arrives on a leg of a merge group: leg up (R182), then first copy, duplicate or late copy (R173, R176). -/
def State.mergePacket (s : State) (mac c g leg : Nat) (r : Rtp) (e : EthFrame) : State :=
  let m := s.mgrp g
  let wasUp := if leg = 0 then m.upA else m.upB
  let m1 := if leg = 0 then { m with lastA := s.now, upA := true } else { m with lastB := s.now, upB := true }
  let s1 := s.setMgrp g { m1 with context := c }
  let s2 := if wasUp then s1 else s1.eventLimited 0x2005 g 10 s.ptp (leBytes 2 g ++ leBytes 1 leg ++ leBytes 1 1)
  let seq := extSeq (iType (s.ictx c).cfg == 1) (s.ictx c).lastSeq r
  if m.seen.contains seq then s2.bumpWrap .ING_MG_DUP g
  else if m.seen.length ≥ 65536 ∧ m.seen.all (fun k => seqAfter k seq) then s2.latePacket c
  else
    let s3 := s2.setMgrp g { s2.mgrp g with seen := (seq :: m.seen).take 65536 }
    s3.deliver mac c seq leg r e

/-- A packet that an uncorrectable word of the packet buffers has spoilt is discarded and counted; its number stays missing, so that
merge or concealment applies (R479). -/
def State.spoilPacket (s : State) (c seq : Nat) : State :=
  (s.modIctx c (fun x => { x with spoilt := x.spoilt - 1, spoiltSeqs := seq :: x.spoiltSeqs })).bumpSat .ING_CTX_LOST c

/-- Rows 4 to 9 of R155 for a frame addressed to this MAC. -/
def State.classify (s : State) (mac : Nat) (f : EthFrame) : State :=
  let unk := fun (s : State) => s.bumpSat .ING_MAC_UNK mac
  if f.control then (unk s).sampleFrame mac (if f.udp then 2 else 1) f
  else
    match s.lodeLookup f with
    | none =>
      ((unk s).sampleFrame mac 0 f).eventPerSec 0x2003 mac 1 (fun k => leBytes 1 mac ++ leBytes 3 0 ++ leBytes 4 k)
    | some (i, e) =>
      let s1 := s.lodeHit i e
      let x := s1.ictx e.context
      let vlanBad := e.vlan / 32768 = 1 ∧ f.vlan ≠ some (e.vlan % 4096)
      let macBad := e.macMask ≠ 0 ∧ !e.macMask.testBit mac
      if vlanBad ∨ macBad then s1.bumpSat .ING_MAC_MISDIR mac
      else if e.type = 0 ∨ !x.bound ∨ iType x.cfg ≠ e.type then unk s1
      else
        match f.rtp with
        | none => s1.bumpSat .ING_MAC_MALF mac
        | some r =>
          if f.badIp ∨ r.version ≠ 2 ∨ !f.payloadOk ∨ (iCoded x.cfg && nalBad (e.type == 5) f.payload) then s1.bumpSat .ING_MAC_MALF mac
          else if 0 < x.spoilt then s1.spoilPacket e.context (extSeq (e.type == 1) x.lastSeq r)
          else if e.group < 256 then s1.mergePacket mac e.context e.group (e.leg % 2) r f
          else s1.deliver mac e.context (extSeq (e.type == 1) x.lastSeq r) 0 r f

/-- A MAC receives a frame and dispatches it by the first row of R155 that applies. A disabled MAC receives nothing (R154); a
frame below 256 bytes that finds the lookup behind is discarded (R157); a PTP frame is the management plane's (row 2). -/
def State.receive (s : State) (mac : Nat) (f : EthFrame) : State :=
  let m := Tbl.get s.ing.macs mac
  if !m.enabled then s
  else
    let s1 := s.bumpWrap .ING_MAC_RX mac
    if !f.fcsOk ∨ f.len < 64 ∨ 9600 < f.len then s1.bumpSat .ING_MAC_FCS mac
    else if f.overrun ∧ f.len < 256 then s1.bumpSat .ING_MAC_OVR mac
    else if f.ptp.isSome then s1
    else if f.elsewhere m.address then s1.bumpSat .ING_MAC_MISDIR mac
    else if f.pause then s1
    else s1.classify mac f

/-- ETH_FRAME_RECEIVE: a MAC receives a frame (R155). `also` is a frame that another MAC has received in the same cycle of
island 19: a control frame of the two takes its token first (R166). -/
def execEthFrameReceive (mac : Fin 16) (f : EthFrame) (also : Option (Fin 16 × EthFrame)) (s : State) : Host.Outcome State Fault Refusal :=
  match also with
  | none => .next (s.receive mac f)
  | some (m, g) => .next (if g.control && !f.control then (s.receive m g).receive mac f else (s.receive mac f).receive m g)

/-- SKEW_WINDOW_EXPIRY: W after the marker, or after a later timestamp, an open frame closes (R175). -/
def execSkewWindowExpiry (c : Fin 1024) (s : State) : Host.Outcome State Fault Refusal := .next (s.closeAll c none)

/-- An SDI input. -/
def State.sdi (s : State) (i : Nat) : SdiIn := Tbl.get s.ing.sdi i
/-- Replaces an SDI input. -/
def State.setSdi (s : State) (i : Nat) (x : SdiIn) : State :=
  ({ s with ing := { s.ing with sdi := Tbl.set s.ing.sdi i x } }).setBit .ING_STATUS 0 i x.lock

/-- When an SDI context last had a valid TRS from an input that feeds it; from its bind on where none ever came (R171, log 163). -/
def State.sdiAlive (s : State) (c : Nat) : Nat :=
  (s.ing.sdi.filter (fun e => e.2.context == c)).foldl (fun t e => max t e.2.lastTrs) (s.ictx c).lastPkt

/-- An SDI context whose framer has found no valid TRS for 1 ms reports loss of signal (R171). -/
def State.sdiLoss (s : State) (c : Nat) : State :=
  let x := s.ictx c
  if x.bound && iType x.cfg == 6 && decide (s.sdiAlive c + ms ≤ s.now) then s.setLos c true (s.tm.ptpAt (s.sdiAlive c)) else s

/-- CONTEXT_LOS_TIMEOUT: no packet delivered for LOS_MS; with a merge group only when both legs are down (R171, R182). An SDI
context has had no valid TRS for 1 ms. -/
def execContextLosTimeout (c : Fin 1024) (s : State) : Host.Outcome State Fault Refusal :=
  let x := s.ictx c
  let legs := x.group < 256 && ((s.mgrp x.group).upA || (s.mgrp x.group).upB)
  if x.bound && iType x.cfg != 6 && decide (x.lastPkt + iLos x.cfg * ms ≤ s.now) && !legs then
    .next (s.setLos c true (s.tm.ptpAt x.lastPkt))
  else .next (s.sdiLoss c)

/-- MERGE_LEG_TIMEOUT: no packet on a leg for the context's LOS_MS (R182). -/
def execMergeLegTimeout (g : Fin 256) (leg : Fin 2) (s : State) : Host.Outcome State Fault Refusal :=
  let m := s.mgrp g
  let los := iLos (s.ictx m.context).cfg * ms
  let down := fun (m : MergeGroup) => (s.setMgrp g m).eventLimited 0x2005 g 10 s.ptp (leBytes 2 g ++ leBytes 1 leg ++ leBytes 1 0)
  if leg = 0 then (if m.upA && decide (m.lastA + los ≤ s.now) then .next (down { m with upA := false }) else .next s)
  else (if m.upB && decide (m.lastB + los ≤ s.now) then .next (down { m with upB := false }) else .next s)

/-! ### SDI (R183, R184) -/

/-- SDI_TRS_LOSS_TIMEOUT: no valid TRS for 1 ms, whether the input was locked before or not (R171). -/
def execSdiTrsLossTimeout (i : Fin 16) (s : State) : Host.Outcome State Fault Refusal :=
  let x := s.sdi i
  if x.lastTrs + ms ≤ s.now then
    let s1 : State := if x.lock then
        (((s.sdiLanes i).foldl (fun (s : State) l => s.laneLock l false) s).setSdi i { x with lock := false }).setBit .ING_SDI_STAT i 31 false
      else s
    .next (s1.sdiLoss x.context)
  else .next s

/-- The frame of an SDI context closes after its last active line (R184, R188). -/
def State.closeSdi (s : State) (c : Nat) (f : OpenFrame) : State :=
  ((s.modIctx c (fun x => { x with frames := [], geo := (f.width, f.height) })).releaseIngest c f (f.atArrival) 1 0 10).ctxBoundary c

/-- An active line of an SDI frame: the first one opens the frame with its SAV time, and the last one closes it (R184, R187). A
frame that has not ended when the next begins is given up. The scan is the one the framer finds (R183). -/
def State.sdiActive (s : State) (c y : Nat) (line : SdiLine) : State :=
  let s1 := if y = 0 ∧ !(line.interlaced && line.field2) then
      let a := (s.dropFrames c).ctxBoundary c
      if (a.ictx c).bound ∧ iType (a.ictx c).cfg = 6 then
        let (k, b) := a.takeForCtx c
        b.modIctx c (fun z => { z with frames := [{ cfg := z.cfg, arrival := s.ptp, surface := k, interlaced := line.interlaced }] })
      else a
    else s
  match (s1.ictx c).frames with
  | [] => s1
  | f :: _ =>
    let run : SampleRun := { field := line.field2, line := y, pixel := 0, width := line.width, samples := line.samples }
    let prev := f.surface.bind (fun a => (s1.pool (poolIng c)).previous a)
    let f1 := ({ f with runs := f.runs ++ [run], height := max f.height (runLine f.interlaced run + 1), width := max f.width line.width,
                        marker := if line.last then some 0 else none,
                        concealed := f.concealed || !line.crcOk }).writeTo (runBand f.cfg f.interlaced { run with line := y + 1 }) prev s.ptp
    let s2 := s1.modIctx c (fun z => { z with frames := [f1] })
    if line.last then s2.closeSdi c f1 else s2

/-- SDI_LINE_RECEIVE: a framer receives a line of an allowed rate, checks its CRC and writes it (R183, R184, R187). ST352 falls
when a frame ends without an ST 352 packet: the format then comes from TRS timing. Embedded audio goes to the router (R185). -/
def execSdiLineReceive (i : Fin 16) (line : SdiLine) (s : State) : Host.Outcome State Fault Refusal :=
  let x := s.sdi i
  if x.rates = 0 ∨ !(x.rates.testBit (line.rate - 1)) ∨ line.rate = 0 then .next s
  else
    let s0 : State := (s.sdiLanes i).foldl (fun (s : State) l => s.laneLock l true) s
    let seen := x.seen352 || line.st352.isSome
    let s1 := s0.setSdi i { x with lock := true, lastTrs := s.now, seen352 := seen && !line.last }
    let st0 := ((s1.getReg .ING_SDI_STAT i).setBits 31 31 1).setBits 30 28 line.rate
    let st1 := match line.st352 with
      | some v => (st0.setBits 27 27 1).setBits 15 0 v
      | none => if line.last && !seen then st0.setBits 27 27 0 else st0
    let s2 := (s1.setReg .ING_SDI_STAT i (st1.setBits 26 16 x.context)).audioSdi i line.audio
    let s3 := if line.crcOk then s2 else s2.bumpSat .ING_SDI_CRC i
    let c := x.context
    if !(s3.ictx c).bound ∨ iType (s3.ictx c).cfg ≠ 6 then .next s3
    else
      let s4 := s3.setLos c false s.ptp
      match line.active with
      | none => .next s4
      | some y => .next (s4.sdiActive c y line)

/-! ### Injection (R168) -/

/-- ING_INJECT 0x2021: queues a frame for the MACs of its mask; the reply waits until every one has sent it. -/
def execIngInject (r : Req) (b : Body) (s : State) : Host.Outcome State Fault Refusal :=
  let len := b.u16 2
  command 0x2021 r s [45] (b.length != 4 + pad4 len || b.u16 0 == 0 || decide (len < 60) || decide (1514 < len))
    { noRes := decide (64 ≤ s.ing.inject.length) } (fun s1 =>
    .later { s1 with ing := { s1.ing with inject := s1.ing.inject ++
      [{ req := r, restarted := s.isRestarted, macs := maskBits (b.u16 0) 16, bytes := (b.drop 4).take len }] } })

/-! ### Commands -/

/-- ING_MAC_CONFIG 0x2001: enables a MAC that the board table numbers and sets its address (R154); a lane in a PRBS test goes
back to its block (R586). -/
def execIngMacConfig (r : Req) (b : Body) (s : State) : Host.Outcome State Fault Refusal :=
  let m := b.u8 0
  command 0x2001 r s [45] (b.length != 8 || decide (15 < m) || decide (1 < b.u8 1) || b.u8 2 % 2 == 1 || !(s.macOnBoard m)) {} (fun s1 =>
    let s2 := s1.endPrbsOf (s1.macLanes m)
    let x := Tbl.get s2.ing.macs m
    let en := b.u8 1 == 1
    let s3 := { s2 with ing := { s2.ing with macs := Tbl.set s2.ing.macs m { x with enabled := en, address := b.be 2 6 } } }
    let s4 := s3.setBit .ING_STATUS 0 (16 + m) (en && x.locked)
    done (if en && decide (8 ≤ m) then s4.powerUp 20 else s4))

/-- ING_MERGE 0x2003: W for the next frame to open (R173). -/
def execIngMerge (r : Req) (b : Body) (s : State) : Host.Outcome State Fault Refusal :=
  command 0x2003 r s [45] (b.length != 4 || decide (255 < b.u16 0) || decide (b.u16 2 < 1) || decide (150 < b.u16 2)) {} (fun s =>
    let m := s.mgrp (b.u16 0)
    done (s.setMgrp (b.u16 0) (if m.skewMs = 0 then { m with skewMs := b.u16 2, nextSkew := 0 } else { m with nextSkew := b.u16 2 })))

/-- ING_SDI 0x2004: allowed rates and context of an SDI input (R183), whose embedded audio is an audio input (R419, R426); FORMAT when its lane's quad is not assigned to SDI. -/
def execIngSdi (r : Req) (b : Body) (s : State) : Host.Outcome State Fault Refusal :=
  let i := b.u8 0
  let c := b.u16 2
  command 0x2004 r s [45] (b.length != 4 || decide (15 < i) || decide (31 < b.u8 1) || decide (1023 < c)
      || (b.u8 1 != 0 && !((s.ictx c).bound && iType (s.ictx c).cfg == 6)))
    { rej := if s.sdiOnBoard i then none else some rFORMAT } (fun s =>
    let s0 := s.endPrbsOf (s.sdiLanes i)
    let x := s0.sdi i
    let s1 := s0.setSdi i { x with rates := b.u8 1, context := c, lock := x.lock && b.u8 1 != 0, seen352 := false }
    let s2 := s1.setInput (24 + i) (b.u8 1 != 0) false 16 false
    done (if b.u8 1 = 0 then s2.setReg .ING_SDI_STAT i 0#32 else ((s2.powerUp 38).startHouse).setBits .ING_SDI_STAT i 26 16 c))

/-- DUPLICATE (LODE_UPDATE). -/
def rDUPLICATE : Nat := 0x0110
/-- NOKEY (LODE_UPDATE). -/
def rNOKEY : Nat := 0x0111

/-- The entry that 32 bytes spell (R159). -/
def lodeOf (b : Body) : LodeEntry :=
  { dst := b.be 0 4, src := b.be 4 4, dport := b.be 8 2, vlan := b.u16 10, ssrc := b.be 12 4, srcAny := b.u8 16 / 2 % 2 == 1,
    ssrcAny := b.u8 16 / 4 % 2 == 1, type := b.u8 17, leg := b.u8 18, context := b.u16 20, group := b.u16 22, macMask := b.u16 24 }

/-- The 32 bytes of an entry (R159). -/
def LodeEntry.bytes (e : LodeEntry) : List Byte :=
  beBytes 4 e.dst ++ beBytes 4 e.src ++ beBytes 2 e.dport ++ leBytes 2 e.vlan ++ beBytes 4 e.ssrc
    ++ leBytes 1 (1 + 2 * bit01 e.srcAny + 4 * bit01 e.ssrcAny) ++ leBytes 1 e.type ++ leBytes 1 e.leg ++ leBytes 1 0
    ++ leBytes 2 e.context ++ leBytes 2 e.group ++ leBytes 2 e.macMask ++ leBytes 2 0 ++ leBytes 4 e.lastHit

/-- Same key, a wildcard counting as part of it and its ignored field not (R158, R159). -/
def sameKey (a b : LodeEntry) : Bool :=
  a.dst == b.dst && a.dport == b.dport && a.srcAny == b.srcAny && a.ssrcAny == b.ssrcAny
    && (a.srcAny || a.src == b.src) && (a.ssrcAny || a.ssrc == b.ssrc)

/-- The type that an entry naming a bound context must have: its newest binding's (R160, log 171). -/
def State.ctxType (s : State) (c : Nat) : Option Nat :=
  let b := (s.ictx c).newest
  if b.isEmpty then none else some (iType b)

/-- A record of LODE_UPDATE that the layout of R159 and R160 refuses, for add and replace; the key fields alone count for a
delete. An entry to be written with VALID 0 is none (DESIGN CHOICE, log 172: the spec gives it no status). -/
def badRecord (s : State) (op : Nat) (resv : Bool) (b : Body) : Bool :=
  let e := lodeOf b
  op == 0 || decide (3 < op) || !resv || (e.srcAny && !e.ssrcAny) || decide (7 < b.u8 16) ||
    (op != 3 && (b.u8 16 % 2 == 0 || decide (5 < e.type) || (e.group != 0xFFFF && decide (1 < e.leg)) || b.u8 19 != 0 || decide (1023 < e.context)
      || (decide (255 < e.group) && e.group != 0xFFFF) || e.vlan / 4096 % 8 != 0 || b.u16 26 != 0
      || (match s.ctxType e.context with | some t => t != e.type | none => false)))

/-- The two buckets of a key, wildcard fields hashed as 0 (R161). -/
def LodeEntry.buckets (e : LodeEntry) : Nat × Nat :=
  let h := Config.lodeHash e.dst e.dport (if e.srcAny then 0 else e.src) (if e.ssrcAny then 0 else e.ssrc)
  (h.1.toNat, h.2.toNat)

/-- Indices of the places of a key: bucket n holds the entries 4 n to 4 n + 3 (R161; log 173). -/
def LodeEntry.places (e : LodeEntry) : List Nat :=
  ([e.buckets.1, e.buckets.2].dedup.map (fun n => (List.range 4).map (fun k => 4 * n + k))).flatten

/-- Is an index of the table free. -/
def Lode.free (l : Lode) (i : Nat) : Bool := (Tbl.get l.entries i).isNone

/-- One of some indices, as a free value picks it: the firmware chooses (R161). -/
def pickOne (l : List Nat) (v : Nat) : Nat := l.getD (v % l.length) 0

/-- A free place among some, with the table after the moves that make it: an entry moves to its alternative bucket, where it is
written, with its LAST_HIT, before the old copy goes (R161, R162). `v` is the firmware's free choice; entries in `kept` stay, and
`fuel` bounds the chain of moves. -/
def Lode.room (l : Lode) (places kept : List Nat) (v : Nat) : Nat → Option (Nat × Lode)
  | 0 => none
  | fuel + 1 =>
    match places.filter l.free with
    | i :: rest => some (pickOne (i :: rest) v, l)
    | [] =>
      let i := pickOne (places.filter (fun p => !kept.contains p)) v
      match Tbl.get l.entries i with
      | none => none
      | some o =>
        match Lode.room l (o.places.filter (fun p => p / 4 != i / 4)) (i :: kept) (v / 8) fuel with
        | none => none
        | some (j, m) => some (i, { m with entries := Tbl.set (Tbl.set m.entries j (some o)) i none })

/-- A free place of the table for a new entry, and the table with the entries moved for it: one in the key's two buckets while
moves make room there, else the lowest free index, for an add below 90 % succeeds (R161; log 173). -/
def Lode.place (l : Lode) (e : LodeEntry) (v : Nat) : Nat × Lode :=
  match l.room e.places [] v 8 with
  | some r => r
  | none => (((List.range (l.entries.length + 1)).find? l.free).getD 0, l)

/-- One record of LODE_UPDATE in order (R159 to R163); the status and reason when it fails. An add finds a place below 90 %
of the entries (R161); from there on the firmware may fail, which the spec leaves open and a free value decides. -/
def State.lodeRecord (s : State) (rec0 : Body) : Except (Status × Nat × State) State :=
  let op := rec0.u8 0
  let b := rec0.drop 4
  let e := lodeOf b
  if badRecord s op (rec0.zero 1 3) b then .error (.BADPARAM, 0, s)
  else
    let found := s.lodeList.find? (fun x => sameKey x.2 e)
    let n := s.lodeList.length
    let count := fun (s : State) (l : Lode) (old : Nat) =>
      let recent := s.now :: l.recent.filter (fun t => decide (s.now < t + sec))
      let s1 := ({ s with lode := { l with recent := recent.take 4097 } }).bumpWrap .LODE_UPDATES 0
      let s2 := if recent.length > 4096 then s1.bumpSat .LODE_OVERRATE 0 else s1
      ((s2.setReg .LODE_COUNT 0 (BitVec.ofNat 32 s2.lodeList.length)).showGroup old).showGroup e.context
    match op, found with
    | 1, some _ => .error (.REJECTED, rDUPLICATE, s)
    | 1, none =>
      let (k, s1) := s.draw
      if n ≥ 65536 ∨ (n ≥ 58982 ∧ (Config.freeWord k).getLsbD 63) then .error (.NORESOURCE, 0, s1.bumpSat .LODE_PLACE_FAIL 0)
      else
        let (i, l) := s1.lode.place e (Config.freeWord k).toNat
        .ok (count s1 { l with entries := Tbl.set l.entries i (some e) } e.context)
    | 2, some (i, o) => .ok (count s { s.lode with entries := Tbl.set s.lode.entries i (some { e with lastHit := o.lastHit }) } o.context)
    | 3, some (i, o) => .ok (count s { s.lode with entries := Tbl.set s.lode.entries i none } o.context)
    | _, _ => .error (.REJECTED, rNOKEY, s)

/-- Records of LODE_UPDATE from the k-th on: how many took effect, the failure if any, and the state. -/
def State.lodeRecords (s : State) (b : Body) : Nat → Nat → Nat × Option (Status × Nat) × State
  | 0, k => (k, none, s)
  | n + 1, k =>
    match s.lodeRecord ((b.drop (4 + 36 * k)).take 36) with
    | .error (st, why, s1) => (k, some (st, why), s1)
    | .ok s1 => State.lodeRecords s1 b n (k + 1)

/-- LODE_UPDATE 0x2010: the records in order; the first that fails stops the command and the earlier ones stand (R162). -/
def execLodeUpdate (r : Req) (b : Body) (s : State) : Host.Outcome State Fault Refusal :=
  let n := b.u16 0
  let rs := s.isRestarted
  command 0x2010 r s [45] (n == 0 || decide (113 < n) || b.length != 4 + 36 * n || !b.zero 2 2) {} (fun s =>
    let (k, fail, s1) := s.lodeRecords b n 0
    let body := leBytes 2 k ++ leBytes 2 (if fail.isSome then k else 0xFFFF) ++ leBytes 4 s1.lodeList.length
    match fail with
    | none => .now s1 .OK body
    | some (st, why) => .later (s1.replyR r 0x2010 st.code why rs body))

/-- LODE_READ 0x2011: copies whole entries to host memory (R162); one that is not valid as zeros (DESIGN CHOICE, log 175). -/
def execLodeRead (r : Req) (b : Body) (s : State) : Host.Outcome State Fault Refusal :=
  let first := b.u32 0
  let n := b.u32 4
  command 0x2011 r s [] (b.length != 16 || decide (65535 < first) || n == 0 || decide (65536 < first + n)) {} (fun s =>
    let l := s.lodeList.filter (fun e => decide (first ≤ e.1 ∧ e.1 < first + n))
    let dat := ((List.range n).map (fun k =>
      match l.find? (fun e => e.1 == first + k) with
      | some e => e.2.bytes
      | none => List.replicate 32 0#8)).flatten
    .now (s.emit (.dma r.port (b.u64 8) dat)) .OK (leBytes 4 l.length))

/-- ING_HOST_RING 0x2020: places or disables a ring; its indices return to 0 and its phase to 1 (R165). -/
def execIngHostRing (r : Req) (b : Body) (s : State) : Host.Outcome State Fault Refusal :=
  let k := b.u8 0
  let n := b.u8 1
  command 0x2020 r s [45] (b.length != 12 || decide (1 < k) || (n != 0 && (decide (n < 8) || decide (14 < n))) || !b.zero 2 2
      || b.u64 4 % 4096 != 0) {} (fun s =>
    done (((s.setIring k { log2 := n, addr := b.u64 4, port := r.port }).setReg .ING_RING_WR k 0#32).setReg .ING_RING_RD k 0#32))

/-- A value written to a ring read index: it counts from the port that placed the ring, any other write is dropped and counted (R620). -/
def State.writeRingIng (s : State) (p : Port) (ring : Nat) (v : Word) : State :=
  let x := s.iring ring
  if x.log2 ≠ 0 ∧ x.port = p then
    (s.setIring ring (x.readTo (s.regBits .ING_RING_WR ring 13 0) (v.bits 13 0))).setReg .ING_RING_RD ring (v &&& 0x3FFF#32)
  else s.bumpSat .HP_WR_DROP p.idx

/-- RING_INDEX_WRITE_ING: the port that placed the ring frees records; another port's write is dropped (R165, R620). -/
def execRingIndexWriteIng (p : Port) (ring : Fin 2) (value : Word) (s : State) : Host.Outcome State Fault Refusal :=
  .next (s.writeRingIng p ring value)

end Sys2Proof.Machine
end

