-- ==== Sys2Proof/Machine/Bindings.lean ====
section
/-! DEFINITION. The commands that bind sources: ING_CONTEXT (R169, R170, R186), CAM_CONTEXT (R196, R197, R208, R211, R222)
and DEC_SESSION (R247 to R250, R258). -/

namespace Sys2Proof.Machine

/-- A rate of n/d Hz above 120 Hz, or without a value. -/
def rateBad (n d : Nat) : Bool := n == 0 || d == 0 || decide (120 * d < n)

/-! ### Ingest contexts -/

/-- A replacement keeps the pool when source, geometry, depth and sampling stay (R169). -/
def keepsIngPool (old new : Body) : Bool :=
  !old.isEmpty && iPooled old && iSource old == iSource new && (old.drop 10).take 6 == (new.drop 10).take 6

/-- Field rules of ING_CONTEXT and the rules of R170; a context has the type of the entries that name it (R160). -/
def ingBad (s : State) (b : Body) : Bool :=
  let t := iType b
  let pooled := iPooled b
  let coded := t == 4 || t == 5
  b.length != 32 || decide (1023 < b.u16 0) || decide (1 < b.u8 28) || !b.zero 29 3 ||
    (b.u8 28 == 1 &&
      (decide (6 < t) || s.lodeList.any (fun e => e.2.context == b.u16 0 && e.2.type != t) || decide (1 < b.u8 3) || (b.u8 3 == 0 && !(t == 1 || coded)) || b.u16 6 == 0 || decide (1000 < b.u16 6)
        || (coded && (decide (127 < b.u16 8) || b.u32 24 == 0 || decide (800000 < b.u32 24)))
        || (!coded && (b.u16 8 != 0 || b.u32 24 != 0))
        || (pooled && (iSource b == 0xFFFF || s.sourceClash (iSource b) (poolIng (b.u16 0)) || decide (b.u8 10 < 3)
            || decide (16 < b.u8 10) || decide (2 < b.u8 11) || decide (b.u16 12 < 16) || decide (7680 < b.u16 12)
            || decide (b.u16 14 < 16) || decide (4320 < b.u16 14) || rateBad (b.u16 16) (b.u16 18) || decide (1 < b.u8 20)
            || decide (1 < b.u8 21) || decide (2 < b.u8 22) || decide (2 < b.u8 23)))))

/-- Does the on-chip assembly window of a binding fit beside those in force (R177, R186): its size is not stated. -/
def State.windowFits (s : State) (b : Body) : Bool :=
  iType b != 1 || Config.windowFits ((s.ing.ctx.filter (fun e => e.2.bound && iType e.2.cfg == 1)).map (fun e => e.2.cfg.u16 12)) (b.u16 12)

/-- The pool of a binding is allocated at bind time (R186); one that is kept needs none. -/
def State.stageIng (s : State) (b : Body) : Option State :=
  let c := b.u16 0
  let old := (s.ictx c).newest
  if b.u8 28 = 0 ∨ !iPooled b ∨ keepsIngPool (s.ictx c).cfg b then some (s.unstage (poolIng c))
  else if (s.ictx c).next.isSome ∧ keepsIngPool old b then some s
  else if s.sourcesFull [poolIng c] ∨ !s.windowFits b then none
  else s.stagePool (poolIng c) 0 (b.u8 10) (zlcSize (b.u16 12) (b.u16 14) (iFormat b)) (iSource b) (b.u16 12) (b.u16 14) (iFormat b)

/-- Arms a binding: at the input's next frame boundary, or at once where no frame is open (DEDUCED: between two frames). `quiet`:
it comes from a profile (R91). -/
def State.bindIng (s : State) (b : Body) (quiet : Bool) : State :=
  let c := b.u16 0
  if (s.ictx c).bound && !(s.ictx c).frames.isEmpty then s.modIctx c (fun x => { x with next := some b, nextQuiet := quiet })
  else if b.u8 28 = 0 && !(s.ictx c).bound then s
  else s.applyBinding c b quiet

/-- The configuration with an ingest binding. -/
def Conf.withIng (c : Conf) (b : Body) : Conf :=
  { c with ing := assocSet c.ing (b.u16 0) (if b.u8 28 = 1 then some b else none) }

/-- ING_CONTEXT 0x2002: binds, replaces or unbinds an ingest context. -/
def execIngContext (r : Req) (b : Body) (s : State) : Host.Outcome State Fault Refusal :=
  command 0x2002 r s [45] (ingBad s b)
    { noRes := (s.stageIng b).isNone, rej := (s.conf.withIng b).reject s }
    (fun s => done (((s.stageIng b).getD s).bindIng b false))

/-! ### Camera contexts -/

/-- Field rules of CAM_CONTEXT, with R197 and R222: a port and virtual channel is taken by the binding in force and by one that waits
for it; reserved fields count in an unbind too (R13). A context above 15 is
NORESOURCE (R46). -/
def camBad (s : State) (b : Body) : Bool :=
  let c := b.u8 0
  let ir := b.u8 6
  b.length != 28 || decide (1 < b.u8 1) || b.u8 7 != 0 || !b.zero 26 2 ||
    (b.u8 1 == 1 &&
      (decide (7 < b.u8 2) || decide (3 < b.u8 3) || decide (b.u8 5 < 3) || decide (16 < b.u8 5)
        || (ir != 0 && (decide (ir < 3) || decide (16 < ir))) || b.u16 8 == 0xFFFF
        || ((b.u16 10 == 0xFFFF) != (ir == 0)) || (ir != 0 && b.u16 8 == b.u16 10)
        || decide (cW b < 16) || decide (8192 < cW b) || cW b % 4 != 0 || decide (cH b < 16) || decide (4320 < cH b) || cH b % 4 != 0
        || decide (8 * b.u16 16 < cW b) || decide (cW b < b.u16 16) || b.u16 16 % 2 != 0
        || decide (8 * b.u16 18 < cH b) || decide (cH b < b.u16 18) || b.u16 18 % 2 != 0
        || rateBad (b.u16 20) (b.u16 22) || b.u16 24 == 0 || decide (1000 < b.u16 24)
        || s.sourceClash (b.u16 8) (poolCam c) || (ir != 0 && s.sourceClash (b.u16 10) (poolIr c))
        || (List.range 16).any (fun d => d != c && (s.cctx d).bindings.any (fun o => cPort o == cPort b && o.u8 3 == b.u8 3))))

/-- Pools and raw buffers of a camera binding; those that stay the same are kept (R169, R202). -/
def State.stageCam (s : State) (b : Body) : Option State :=
  let c := b.u8 0
  let old := (s.cctx c).cfg
  if b.u8 1 = 0 then some (((s.unstage (poolCam c)).unstage (poolIr c)).unstage (poolRaw c))
  else
    let keepC := (s.cctx c).bound && cSource old == cSource b && old.u8 5 == b.u8 5 && (old.drop 16).take 4 == (b.drop 16).take 4
    let keepI := b.u8 6 == 0 || ((s.cctx c).bound && old.u8 6 == b.u8 6 && old.u16 10 == b.u16 10 && (old.drop 12).take 4 == (b.drop 12).take 4)
    let keepR := (s.cctx c).bound && (old.drop 12).take 4 == (b.drop 12).take 4
    if s.sourcesFull ([poolCam c] ++ (if b.u8 6 = 0 then [] else [poolIr c])) then none
    else
      let colour := fun (s : State) =>
        if keepC then some (s.unstage (poolCam c))
        else s.stagePool (poolCam c) 0 (b.u8 5) (zlcSize (b.u16 16) (b.u16 18) 0x20) (b.u16 8) (b.u16 16) (b.u16 18) 0x20
      let infra := fun (s : State) =>
        if keepI then some (s.unstage (poolIr c))
        else s.stagePool (poolIr c) 0 (b.u8 6) (zlcSize (cW b / 2) (cH b / 2) 0x20) (b.u16 10) (cW b / 2) (cH b / 2) 0x20
      let raw := fun (s : State) =>
        if keepR then some (s.unstage (poolRaw c)) else s.stagePool (poolRaw c) 3 3 (cW b * cH b * 3 / 2) 0xFFFF 0 0 0
      ((colour s).bind infra).bind raw

/-- Arms a camera binding: a bound context changes at its next frame start (R211), an unbound one at once. -/
def State.bindCam (s : State) (b : Body) (quiet : Bool) : State :=
  let c := b.u8 0
  if (s.cctx c).bound then s.modCctx c (fun x => { x with next := some b, nextQuiet := quiet })
  else if b.u8 1 = 0 then s
  else (s.powerUp (25 + cPort b / 4)).camTake c b quiet 16

/-- The configuration with a camera binding. -/
def Conf.withCam (c : Conf) (b : Body) : Conf :=
  { c with cam := assocSet c.cam (b.u8 0) (if b.u8 1 = 1 then some b else none) }

/-- CAM_CONTEXT 0x2802: binds, replaces or unbinds a camera context; a data type outside R195 is refused with FORMAT. -/
def execCamContext (r : Req) (b : Body) (s : State) : Host.Outcome State Fault Refusal :=
  command 0x2802 r s [48] (camBad s b)
    { noRes := decide (15 < b.u8 0) || (s.stageCam b).isNone
      rej := if b.u8 1 == 1 && !([0x2A, 0x2B, 0x2C].contains (b.u8 4)) then some rFORMAT else (s.conf.withCam b).reject s }
    (fun s => done (((s.stageCam b).getD s).bindCam b false))

/-! ### Decode sessions -/

/-- Field rules of DEC_SESSION, with the ranges of R249; reserved fields count in an unbind too (R13). A session above 127 is
NORESOURCE (R46). -/
def decBad (s : State) (b : Body) : Bool :=
  let n := b.u16 0
  b.length != 28 || decide (1 < b.u8 2) || decide (3 < b.u8 24) || !b.zero 25 3 ||
    (b.u8 2 == 1 &&
      (decide (1 < b.u8 3) || b.u16 4 == 0xFFFF || s.sourceClash (b.u16 4) (poolDec n) || decide (b.u8 6 < 4) || decide (24 < b.u8 6)
        || b.u16 8 == 0 || b.u16 10 == 0 || b.u16 8 % 8 != 0 || b.u16 10 % 8 != 0 || rateBad (b.u16 12) (b.u16 14)
        || b.u32 16 == 0 || decide (4800 < b.u32 16) || decide (b.u32 20 < 256) || decide (65536 < b.u32 20)))

/-- A declaration beyond the coding tools and pictures that sessions support (R248, R249). -/
def decFormat (b : Body) : Bool :=
  if dCodec b = 0 then decide (183 < b.u8 7) || decide (8192 < b.u16 8) || decide (4320 < b.u16 10)
  else decide (52 < b.u8 7) || decide (4096 < b.u16 8) || decide (2304 < b.u16 10) || (b.u8 24).testBit 0

/-- A rebind that keeps the session's pool: another codec starts the session afresh (R250, R258). -/
def keepsDecPool (d : DecSession) (b : Body) : Bool :=
  d.bound && dCodec d.cfg == dCodec b && d.cfg.u16 4 == b.u16 4 && d.cfg.u8 6 == b.u8 6 && (d.cfg.drop 8).take 4 == (b.drop 8).take 4

/-- The reference pool of a declaration (R186, R237, R238). -/
def State.stageDec (s : State) (b : Body) : Option State :=
  let n := b.u16 0
  if b.u8 2 = 0 ∨ keepsDecPool (s.sess n) b then some (s.unstage (poolDec n))
  else if s.sourcesFull [poolDec n] then none
  else s.stagePool (poolDec n) 0 (b.u8 6) (zlcSize (b.u16 8) (b.u16 10) 0x21) (b.u16 4) (b.u16 8) (b.u16 10) 0x21

/-- Arms a declaration: an unbind, or a change of codec or maximum picture, waits for the next access-unit boundary (R258);
with no picture in decoding the session stands at one (DEDUCED). Anything else is in force at once. -/
def State.bindDec (s : State) (b : Body) (quiet : Bool) : State :=
  let n := b.u16 0
  let d := s.sess n
  let waits := d.bound && (b.u8 2 == 0 || dCodec d.cfg != dCodec b || (d.cfg.drop 8).take 4 != (b.drop 8).take 4)
  if waits then
    let s1 := s.modSess n (fun d => { d with next := some b, nextQuiet := quiet })
    if d.aus.all (·.decoded) then s1.sessBoundary n else s1
  else if b.u8 2 = 0 then s
  else s.applyDec n b quiet

/-- The configuration with a decode session. -/
def Conf.withDec (c : Conf) (b : Body) : Conf :=
  { c with dec := assocSet c.dec (b.u16 0) (if b.u8 2 = 1 then some b else none) }

/-- DEC_SESSION 0x3001: binds, replaces or unbinds a decode session. -/
def execDecSession (r : Req) (b : Body) (s : State) : Host.Outcome State Fault Refusal :=
  command 0x3001 r s [49] (decBad s b)
    { noRes := decide (127 < b.u16 0) || (s.stageDec b).isNone
      rej := if b.u8 2 == 1 && decFormat b then some rFORMAT else (s.conf.withDec b).reject s }
    (fun s => done (((s.stageDec b).getD s).bindDec b false).allocate)

end Sys2Proof.Machine
end

