-- ==== Sys2Proof/Machine/Canary.lean ====
section
/-! DEFINITION. The Canary (R111 to R152): rasters and spans of evaluation, the checks and the glyph table, what a verdict
changes in registers, history and events, the mirrored decisions of a pair, and the commands of group 0x10. -/

namespace Sys2Proof.Machine

/-! ### Rasters of heads -/

/-- The channel body that a virtual head feeds (R262). -/
def State.channelOf (s : State) (h : Nat) : Option Body :=
  (s.enc.chan.find? (fun e => e.2.bound && e.2.cfg.u8 2 == 1 && e.2.cfg.u8 3 == h)).map (fun e => e.2.cfg)

/-- The raster that the picture clock of a channel gives its virtual head; the totals are free within R347. -/
def virtualRaster (h : Nat) (c : Body) : Body :=
  let f := Config.virtualBlank (c.u16 8) (c.u16 10)
  leBytes 1 h ++ [1#8, 0#8, 0#8] ++ leBytes 2 (c.u16 8) ++ leBytes 4 0 ++ leBytes 2 (c.u16 8 + 80 + f.2.toNat)
    ++ leBytes 2 (c.u16 10) ++ leBytes 4 0 ++ leBytes 2 (c.u16 10 + 3 + f.1.toNat) ++ leBytes 2 (c.u16 12) ++ leBytes 2 (c.u16 14)
    ++ leBytes 4 (c.u32 16)

/-- The raster of a head: its HD_TIMING, or that of the channel it feeds. -/
def State.rasterOf (s : State) (h : Nat) : Body :=
  match s.channelOf h with
  | some c => virtualRaster h c
  | none => (s.head h).set.timing

/-- The raster in which a head's lines are counted: the member's under GANG_MAP 1 (R352, R411). -/
def lineRaster (b : Body) : Body := if quadMap b then memberRaster b 0 else b

/-- Nominal time of n lines of a raster in ns, rounded down. -/
def linesNs (b : Body) (n : Nat) : Nat := n * tDen b * 1000000000 / (max 1 (tNum b) * max 1 (tVtot b))

/-- The same, rounded up: a time in whole ns lies before the start of a line when it is less than this. -/
def linesNsUp (b : Body) (n : Nat) : Nat := ceilDiv (n * tDen b * 1000000000) (max 1 (tNum b) * max 1 (tVtot b))

/-- tl_up of R119 in ns. -/
def tlUp (b : Body) : Nat := ceilDiv (tDen b * 1000000000 * 4097) (max 1 (tNum b) * max 1 (tVtot b) * 4096)

/-- Nominal blanking lines at a frame boundary: 22 of the 45 for an interlaced raster of ST 274 (R350, R411). -/
def vNom (b : Body) : Nat := if tFlag b 1 then 22 else tVnom (lineRaster b)

/-- Lines from the frame boundary to the first active line of a field: the second field follows 540 lines and 23 of blanking
of ST 274 (R350). -/
def fieldOffset (v field : Nat) : Nat := if field = 1 then v + 563 else v

/-- First and last line of a rectangle as scan-out counts them from the boundary, in the member that scans each (R119, R128,
R129); none when no line of the field belongs to it. -/
def scanSpan (b : Body) (v field : Nat) (r : Rect) : Option (Nat × Nat) :=
  if tFlag b 1 then
    let first := (r.y0 + 1 - field) / 2
    let last1 := (r.y1 + 2 - field) / 2
    if first < last1 then some (fieldOffset v field + first, fieldOffset v field + last1 - 1) else none
  else if quadMap b then
    let half := tVact b / 2
    if r.y1 < half then some (v + r.y0, v + r.y1)
    else if half ≤ r.y0 then some (v + (r.y0 - half), v + (r.y1 - half))
    else some (v, v + max (half - 1) (r.y1 - half))
  else some (v + r.y0, v + r.y1)

/-- FIELD of a head. -/
def State.fieldOf (s : State) (h : Nat) : Nat := s.regBits .HD_STAT h 29 29

/-- Slot of a layer (R307). -/
def slotOf (h l : Nat) : Nat := 8 * h + l

/-- A layer's shadow in force. -/
def Head.shadow (x : Head) (l : Nat) : LayerSh := Tbl.get x.set.layers l
/-- A layer's run-time state. -/
def Head.layer (x : Head) (l : Nat) : LayerRun := Tbl.get x.layers l
/-- Changes a layer's run-time state. -/
def State.modLayer (s : State) (h l : Nat) (f : LayerRun → LayerRun) : State :=
  s.modHead h (fun x => { x with layers := Tbl.modify x.layers l f })

/-- A layer is configured: it has a configuration with ENABLE set. -/
def LayerSh.on (l : LayerSh) : Bool := l.cfg != [] && lFlag l.cfg 0

/-- CLASS of a layer: 0 VIDEO, 1 GRAPHIC, 2 STILL, 3 not configured (R111, R113). -/
def Head.classOf (x : Head) (l : Nat) : Nat :=
  if !(x.shadow l).on then 3 else if lGfx (x.shadow l).cfg then 1 else if (x.layer l).still then 2 else 0

/-- The visible rectangle of a layer of a head (R127). -/
def State.rectOf (s : State) (h l : Nat) : Option Rect :=
  let b := s.rasterOf h
  visRect ((s.head h).shadow l).cfg (tHact b) (tVact b)

/-! ### Marks (R131 to R134) -/

/-- The glyph box of a mark: its rectangle and scale; none when no scale fits (R131, R132). -/
def glyphBox (st : Body) (r : Rect) : Option (Rect × Nat) :=
  let b := stBorder st
  let w := r.x1 + 1 - r.x0
  let h := r.y1 + 1 - r.y0
  let k := min (stScale st) (min ((w - 2 * b) / 176) ((h - 2 * b) / 32))
  if k = 0 then none
  else
    let p := stPos st
    let x0 := if p % 2 = 0 then r.x0 + b else r.x1 + 1 - b - 176 * k
    let y0 := if p / 2 = 0 then r.y0 + b else r.y1 + 1 - b - 32 * k
    some (⟨x0, x0 + 176 * k - 1, y0, y0 + 32 * k - 1⟩, k)

/-- Is (x, y) inside a rectangle. -/
def Rect.has (r : Rect) (x y : Nat) : Bool := decide (r.x0 ≤ x ∧ x ≤ r.x1 ∧ r.y0 ≤ y ∧ y ≤ r.y1)

/-- Is (x, y) in the border of a rectangle. -/
def inBorder (b : Nat) (r : Rect) (x y : Nat) : Bool :=
  r.has x y && decide (x < r.x0 + b ∨ r.x1 < x + b ∨ y < r.y0 + b ∨ r.y1 < y + b)

/-- What a mark draws at (x, y): some true for foreground, some false for background, none where it draws nothing
(R131, R132). -/
def markAt (st : Body) (glyph : Nat) (r : Rect) (x y : Nat) : Option Bool :=
  let hatch := decide ((x + y) % 16 < 8)
  match glyphBox st r with
  | none => if r.has x y then some hatch else none
  | some (g, k) =>
    if g.has x y then some (Config.glyphRom glyph ((x - g.x0) / k) ((y - g.y0) / k))
    else if inBorder (stBorder st) r x y then some hatch else none

/-- A mark colour as a stage-11 pixel: widened, then the head's own matrix and range (R134; log 30). -/
def markColour (comp : Body) (col : Nat) : List Int :=
  stage10 (comp.set 1 (BitVec.ofNat 8 (comp.u8 1 &&& 0xFE))) [] [widen10 (col / 2 ^ 20 % 1024), widen10 (col / 2 ^ 10 % 1024), widen10 (col % 1024)]

/-! ### Times and checks (R106, R119 to R125, R395) -/

/-- Pool of a layer; none while its source or pool is not bound (R111, R315). -/
def State.poolOfLayer (s : State) (b : Body) : Option Nat :=
  if lGfx b then (if (s.pool (poolGfx (b.u16 4))).bound then some (poolGfx (b.u16 4)) else none) else s.poolOfSource (lSource b)

/-- Image pipe that writes the pools of a camera context: ports 0 to 3 go to pipe 0, 4 to 7 to pipe 1 (R197). -/
def State.pipeOf (s : State) (c : Nat) : Nat := (Tbl.get s.cam.ctx c).cfg.u8 2 / 4

/-- An unmasked record names the block that writes a pool: its image pipe, or its session or the session's engine without
a spare (R125, R245, R627). -/
def State.writerFaulty (s : State) (k : Nat) : Bool :=
  (s.pool k).writerFault ||
    (if poolCam 0 ≤ k ∧ k < poolIr 0 then s.flt.unmasked.contains (25 + s.pipeOf (k - poolCam 0), s.pipeOf (k - poolCam 0))
     else if poolIr 0 ≤ k ∧ k < poolDec 0 then s.flt.unmasked.contains (25 + s.pipeOf (k - poolIr 0), s.pipeOf (k - poolIr 0))
     else if poolDec 0 ≤ k ∧ k < poolGfx 0 then (s.dec.any (fun e => e.1 + poolDec 0 == k && e.2.stopped)) else false)

/-- A path fault of a head's composition or scan-out (R125), or a word lost by its Canary's SRAM (R479). -/
def State.pathFault (s : State) (h : Nat) : Bool :=
  s.flt.cnySram.contains h ||
  s.flt.unmasked.any (fun e => e.2 == h && (e.1 == islCmp h || e.1 == islSco h))

/-- The first row of R130 that applies to the failed checks. -/
def glyphOf (checks : Nat) (still : Bool) : Nat :=
  if checks.testBit 5 then 5
  else if checks.testBit 3 then 4
  else if checks.testBit 4 then 3
  else if checks.testBit 0 || checks.testBit 1 then 1
  else if checks.testBit 2 then 2
  else if still then 6 else 0

/-- A layer's checks at PTP time `now` with predicted time tp: the failed bits, the age in ns where there is a tag, and the
layer's observations after the evaluation (R119 to R125). A layer with no surface fails the age and sequence checks (log 31), and
the mismatch check while its pool's foreign-write state is set (R112). -/
def State.checksOf (s : State) (h l : Nat) (tp : Int) (now : Nat) : Nat × Option Int × LayerRun :=
  let x := s.head h
  let b := (x.shadow l).cfg
  let r := x.layer l
  let fault := s.pathFault h || s.writerFaulty r.pool
  let pool := s.pool r.pool
  match r.surf.bind (fun f => f.header.map (fun hd => (f, hd))) with
  | none =>
    let los := pool.los || !r.everFull
    (bitsMask ((if r.still then [] else [0, 1] ++ (if los then [4] else [])) ++ (if pool.foreign then [3] else []) ++ (if fault then [5] else [])), none, r)
  | some (f, hd) =>
    let t := s.tagTimeOf hd.tag
    let fresh := r.seq.map (·.1) != some hd.tag.seq
    let tSeq := if fresh then now else r.tSeq
    let budget : Int := (lBudget b * us : Nat)
    let age := tp - t
    let aged := decide (age > budget)
    let seqd := decide (tp - (tSeq : Int) > budget)
    let frozen := lWindow b != 0 && decide (tp - (r.tCrc : Int) > (lWindow b * ms : Nat))
    let bad0 := headerBad f hd || hd.tag.sourceId != lSource b || pool.foreign
    let moved := match r.seq with
      | none => false
      | some (q, qt) => seqBack hd.tag.seq q || (q == hd.tag.seq && qt != hd.tag.time)
    let mism := bad0 || (!r.still && (moved || decide (t > (now : Int))))
    let noSrc := (aged || seqd) && (pool.los || !r.everFull)
    let live := if r.still then [] else (if aged then [0] else []) ++ (if seqd then [1] else []) ++ (if frozen then [2] else []) ++ (if noSrc then [4] else [])
    (bitsMask (live ++ (if mism then [3] else []) ++ (if fault then [5] else [])), some age,
      { r with seq := some (hd.tag.seq, hd.tag.time), tSeq := tSeq })

/-- A layer latches a surface: the first one that carries a CONTENT_CRC gives t_crc its tag time (R123). -/
def State.noteContent (s : State) (r : LayerRun) (f : Surface) : LayerRun :=
  match f.header with
  | some hd => if r.crc = some hd.contentCrc then r else { r with crc := some hd.contentCrc, tCrc := (s.tagTimeOf hd.tag).toNat }
  | none => r

/-! ### The verdict in force -/

/-- An event limited by the count kept under another code, as CNY_MARK and CNY_CLEAR share one limit (R152). -/
def State.eventShared (s : State) (key inst t code : Nat) (fields : List Byte) : State :=
  let l := s.lim key inst
  (s.setLim key inst { l with times := s.now :: l.times.filter (fun x => decide (s.now < x + sec)) }).eventAt t code fields

/-- The 6 bytes of a head's frame counter. -/
def State.frameBytes (s : State) (h : Nat) : List Byte := leBytes 6 ((s.head h).frame.getD 0)

/-- Changes the newest history record's entry of a layer (R149). -/
def State.modHist (s : State) (h l : Nat) (f : HistLayer → HistLayer) : State :=
  s.modHead h (fun x =>
    match x.hist with
    | [] => x
    | r :: rs => { x with hist := { r with layers := Tbl.modify r.layers l f } :: rs })

/-- A layer's glyph changes: CNY_MARK or CNY_CLEAR, once per frame and at most 10 times per second per layer, else FLAPS; a frame
that is marked counts once, both fields together (R152). -/
def State.reportGlyph (s : State) (h l g checks age t : Nat) : State :=
  let r := (s.head h).layer l
  let prev := r.shown
  let s1 := s.modLayer h l (fun r => { r with
    shown := g, counted := r.counted || g != 0, told := r.told || (g != prev && s.evAllowed 0x1001 (slotOf h l) 10)
    marked := if g = 0 then 0 else if prev = 0 then 1 else if r.counted then r.marked else r.marked + 1 })
  if g = prev then s1
  else if r.told || !s1.evAllowed 0x1001 (slotOf h l) 10 then s1.addSatBits .CNY_MISC h 15 0 1
  else
    let tag := ((r.surf.bind (fun f => f.header)).map (fun hd => hd.tag.bytes)).getD (List.replicate 16 0#8)
    if g ≠ 0 then
      s1.eventShared 0x1001 (slotOf h l) t 0x1001
        ([BitVec.ofNat 8 h, BitVec.ofNat 8 l, BitVec.ofNat 8 g, BitVec.ofNat 8 checks] ++ tag ++ leBytes 4 age ++ s.frameBytes h)
    else
      s1.eventShared 0x1001 (slotOf h l) t 0x1002
        ([BitVec.ofNat 8 h, BitVec.ofNat 8 l, BitVec.ofNat 8 prev, 0#8] ++ leBytes 4 r.marked ++ s.frameBytes h)

/-- This device is the standby of a pair (R143). -/
def State.isStandby (s : State) : Bool := s.pairState == 2

/-- The verdict in force becomes final for the frame: registers, history and events (R130, R143, R149, R151). -/
def State.settle (s : State) (h l : Nat) : State :=
  let r := (s.head h).layer l
  match r.own with
  | none => s
  | some v =>
    if r.settled then s
    else
      let (g, c) := if s.isStandby then
          match r.mirror with
          | some (mg, mc) => if mg = 0 then (v.glyph, v.checks) else (mg, mc ||| 0x80)
          | none => (v.glyph, v.checks)
        else (v.glyph, v.checks)
      let k := slotOf h l
      let s1 := s.modLayer h l (fun r => { r with settled := true, drawn := (g, c), differs := s.isStandby && (match r.mirror with
        | some m => m.1 == 0 && v.glyph != 0 | none => false) })
      let s2 := (s1.setBits .CNY_LSTAT k 23 16 c).setBits .CNY_LSTAT k 15 12 g
      let s3 := if g = 0 then s2 else (if r.counted then s2 else s2.bumpSat .CNY_MARKED h).setBit .CNY_CTL 0 h true
      (s3.modHist h l (fun e => { e with ageUs := v.age, glyph := g, checks := c })).reportGlyph h l g c v.age v.time

/-- The own verdict of a layer: counters, LAGE, the DECISION record to a standby (R522), and the settlement where nothing
more is awaited. -/
def State.judge (s : State) (h l : Nat) (v : Verdict) : State :=
  let s1 := ((s.modLayer h l (fun r => { r with own := some v })).bumpWrap .CNY_EVALS h).setReg .CNY_LAGE (slotOf h l) (BitVec.ofNat 32 v.age)
  let s2 := if s1.onDuty then s1.seam .decision (leBytes 1 h ++ leBytes 1 l ++ leBytes 1 v.glyph ++ leBytes 1 v.checks ++ s.frameBytes h) else s1
  if s2.isStandby && ((s2.head h).layer l).mirror.isNone then s2 else s2.settle h l

/-- May a layer be evaluated in this frame or field: R117's three conditions, no hold or hatch (R375), and not yet done;
answers its span. -/
def State.evaluable (s : State) (h l : Nat) : Option (Nat × Nat) :=
  let x := s.head h
  let r := x.layer l
  let c := x.classOf l
  if s.running h && x.frame.isSome && s.outMode h == 0 && (c == 0 || c == 2) && r.own.isNone && !r.full && !s.gangMember h then
    (s.rectOf h l).bind (fun rc => scanSpan (s.rasterOf h) x.v (s.fieldOf h) rc)
  else none

/-- The deadline of R117 for a span: the start of the line before its first one; an evaluation is complete before it. -/
def State.evalDeadline (s : State) (h first : Nat) : Nat := (s.head h).flip + linesNsUp (lineRaster (s.rasterOf h)) (first - 1)

/-- CANARY_EVALUATION: the Canary reads a latched header and evaluates the layer on two paths (R117 to R130, R141). -/
def execCanaryEvaluation (h : Fin 24) (l : Fin 8) (eccError disagree : Bool) (s : State) : Host.Outcome State Fault Refusal :=
  match s.evaluable h l with
  | none => .next s
  | some (first, last) =>
    let now := s.ptp
    if s.evalDeadline h first ≤ now then .next s
    else if eccError then .next (s.judge h l { glyph := 5, checks := 0x20, time := now })
    else
      let tp : Int := ((s.head h).flip + (last + 1) * tlUp (lineRaster (s.rasterOf h)) + 4 : Nat)
      let (c0, age, r1) := s.checksOf h l tp now
      let old := ((s.head h).layer l).seq
      let c1 := if disagree then c0 ||| 0x20 else c0
      let c := if glyphOf c1 r1.still = 6 then c1 ||| 0x40 else c1
      let ageUs := match age with | some a => min 0xFFFFFFFE (a / (us : Nat)).toNat | none => 0xFFFFFFFF
      let s1 := s.modLayer h l (fun _ => r1)
      let s2 := match old, r1.seq with
        | some q, some n => if !r1.still && seqBack n.1 q.1 then
            s1.event 0x1006 ([BitVec.ofNat 8 h.val, BitVec.ofNat 8 l.val, 0#8, 0#8] ++ leBytes 4 q.1 ++ leBytes 4 n.1) else s1
        | _, _ => s1
      let s3 := s2.judge h l { glyph := glyphOf c r1.still, checks := c, age := ageUs, time := now }
      .next (if disagree then s3.fault (islCny h) fcCANARY 1 h [] else s3)

/-- EVAL_DEADLINE_MISS: a header not read in time fails the fault check, counts, and is recorded (R117, R125, R505). -/
def execEvalDeadlineMiss (h : Fin 24) (l : Fin 8) (s : State) : Host.Outcome State Fault Refusal :=
  match s.evaluable h l with
  | none => .next s
  | some (first, _) =>
    let now := s.ptp
    if now < s.evalDeadline h first then .next s
    else
      let s1 := (s.bumpSat .CNY_DEADLINE h).event 0x1007 ([BitVec.ofNat 8 h.val, BitVec.ofNat 8 l.val, 0#8, 0#8] ++ s.frameBytes h)
      .next ((s1.judge h l { glyph := 5, checks := 0x20, time := now }).fault (islCny h) fcCANARY 1 h [])

/-- A decision that arrives now is later than 1 line before y_first (R143). -/
def State.decisionLate (s : State) (h l : Nat) : Bool :=
  let b := s.rasterOf h
  match (s.rectOf h l).bind (fun r => scanSpan b (s.head h).v (s.fieldOf h) r) with
  | some (first, _) => decide ((s.head h).flip + linesNs (lineRaster b) (first - 1) < s.ptp)
  | none => false

/-- The standby's wait for a layer's mirrored decision ends, 1 line before y_first: its own decision stands and the miss
counts (R143). -/
def State.pairMiss (s : State) (h l : Nat) : State :=
  let r := (s.head h).layer l
  if s.isStandby && r.mirror.isNone && !r.settled && r.own.isSome then
    let s1 := (s.addSatBits .CNY_MISC h 31 16 1).modLayer h l (fun r => { r with miss := true })
    (s1.settle h l).event 0x1009 ([BitVec.ofNat 8 h, BitVec.ofNat 8 l, 0#8, 0#8] ++ leBytes 4 (s1.regBits .CNY_MISC h 31 16))
  else s

/-! ### Commands of group 0x10 -/

/-- CNY_LIMITS 0x1001: tightens the limits before lock (R147). -/
def execCnyLimits (r : Req) (b : Body) (s : State) : Host.Outcome State Fault Refusal :=
  let bud := b.u32 0
  let win := b.u32 4
  let req := b.u8 8
  let bor := b.u8 9
  command 0x1001 r s [54]
    (b.length != 12 || decide (bud < 1000) || decide (2000000 < bud) || decide (win < 500) || decide (60000 < win) || decide (1 < req)
      || decide (bor < 8) || decide (64 < bor) || !b.zero 10 2)
    { locked := s.cnyLocked }
    (fun s =>
      let s1 := s.setBits .CNY_LIM_BUDGET 0 20 0 bud
      done (((s1.setBit .CNY_LIM_MISC 0 31 (req == 1)).setBits .CNY_LIM_MISC 0 23 16 bor).setBits .CNY_LIM_MISC 0 15 0 win))

/-- CNY_LOCK 0x1002: sets the Canary lock until PORST_N (R145). -/
def execCnyLock (r : Req) (b : Body) (s : State) : Host.Outcome State Fault Refusal :=
  command 0x1002 r s [0] (b.length != 4 || b.u32 0 != 0x4C4F434B) { locked := s.cnyLocked }
    (fun s =>
      let t := s.ptp
      let s1 := ((s.setBit .CNY_CTL 0 31 true).setReg .CNY_LOCK_SEC 0 (BitVec.ofNat 32 (t / sec))).setReg .CNY_LOCK_NS 0 (BitVec.ofNat 32 (t % sec))
      .now (s1.event 0x1003 [BitVec.ofNat 8 r.port.idx]) .OK (timeBytes t))

/-- The 16-byte header and eight entries of a history record (R149). -/
def HistRec.bytes (r : HistRec) : List Byte :=
  leBytes 6 r.frame ++ leBytes 2 0 ++ timeBytes r.flip ++
    ((List.range 8).map (fun l =>
      match Tbl.find r.layers l with
      | none => List.replicate 32 0#8
      | some e => e.tag.bytes ++ leBytes 4 e.ageUs ++ leBytes 1 e.glyph ++ leBytes 1 e.checks ++ leBytes 1 e.cls ++ leBytes 1 e.state
          ++ leBytes 2 e.x0 ++ leBytes 2 e.x1 ++ leBytes 2 e.y0 ++ leBytes 2 e.y1)).flatten

/-- CNY_HISTORY 0x1005: copies the final records, newest first (R149, R150). -/
def execCnyHistory (r : Req) (b : Body) (s : State) : Host.Outcome State Fault Refusal :=
  command 0x1005 r s [] (b.length != 16 || decide (23 < b.u8 0) || !b.zero 1 3 || decide (b.u32 12 < 2176)) {}
    (fun s =>
      let recs := (s.head (b.u8 0)).hist.filter (fun x => x.final)
      let s1 := if recs.isEmpty then s else s.emit (.dma r.port (b.u64 4) ((recs.map HistRec.bytes).flatten))
      .now s1 .OK (leBytes 1 recs.length ++ leBytes 1 0 ++ leBytes 6 ((recs.head?.map (fun x => x.frame)).getD 0)))

end Sys2Proof.Machine
end

