-- ==== Sys2Proof/Machine/Arms.lean ====
section
/-! DEFINITION. Shadow sets from command to take (R24, R73, R86, R91, R337 to R340, R354 to R356): waiting commands and
their replies, arming, the take of a set at a boundary with everything that follows it, the binding of outputs, and the end
of a profile switch. -/

namespace Sys2Proof.Machine

/-! ### Waiting commands (R73) -/

/-- The head with the fullest line-buffer pool of a configuration, and its pixels in use; the lowest on a tie. -/
def fullestPool (hs : List (Nat × HeadSet)) : Nat × Nat :=
  let key := fun (x : HeadSet) => x.lbUsed * (if tFlag x.timing 2 then 1 else 4)
  (hs.foldl (fun (a : Nat × Nat × Nat) e => if a.2.1 < key e.2 then (e.1, key e.2, e.2.lbUsed) else a) (0, 0, 0)
    |> fun (a : Nat × Nat × Nat) => (a.1, a.2.2))

/-- Sets in force of all heads. -/
def State.headSets (s : State) : List (Nat × HeadSet) := (List.range 24).map (fun h => (h, (s.head h).set))

/-- Reply body of a commit (CMP_COMMIT). -/
def State.commitBody (s : State) (w : Waiter) : List Byte :=
  let p := fullestPool s.headSets
  leBytes 3 w.headsTaken ++ leBytes 3 w.headsLate ++ leBytes 2 0 ++ timeBytes (w.first.getD 0) ++ timeBytes w.last
    ++ leBytes 4 (s.conf.demandUnits s) ++ leBytes 1 p.1 ++ leBytes 3 0 ++ leBytes 4 p.2

/-- Reply body of PRF_SELECT. -/
def selectBody (w : Waiter) : List Byte :=
  leBytes 3 w.headsTaken ++ leBytes 3 w.headsLate ++ leBytes 2 w.chansTaken ++ leBytes 1 (bit01 w.superseded) ++ leBytes 7 0
    ++ (match w.first with | some t => timeBytes t | none => leBytes 8 0) ++ (match w.first with | some _ => timeBytes w.last | none => leBytes 8 0)

/-- The reply of a command that waited: REJECTED when the Canary refused one of its sets (R146), LATE when one was taken a
frame late, DEGRADED when a layer is pre-decimated at the take, else OK (R20). -/
def State.replyWaiter (s : State) (w : Waiter) : State :=
  let body := if 0x4001 ≤ w.opcode ∧ w.opcode ≤ 0x4005 then s.commitBody w
    else if w.opcode = 0x0302 then selectBody w
    else w.body
  if w.refused then s.replyR w.req w.opcode Status.REJECTED.code rCANARYLIMIT w.restarted body
  else s.replyR w.req w.opcode (if w.late then Status.LATE.code else if w.degraded then Status.DEGRADED.code else 0) 0 w.restarted body

/-- Changes one waiting command; it is answered and leaves when nothing is left to wait for. -/
def State.stepWaiter (s : State) (id : Nat) (f : Waiter → Waiter) : State :=
  match s.interp.waiters.find? (fun w => w.id == id) with
  | none => s
  | some w =>
    let w1 := f w
    if w1.heads.isEmpty && w1.chans.isEmpty then
      ({ s with interp := { s.interp with waiters := s.interp.waiters.filter (fun x => x.id != id) } }).replyWaiter w1
    else { s with interp := { s.interp with waiters := s.interp.waiters.map (fun (x : Waiter) => if x.id = id then w1 else x) } }

/-- A new waiting command; answers its number. -/
def State.newWaiter (s : State) (w : Waiter) : Nat × State :=
  let i := s.interp.nextId
  (i, { s with interp := { s.interp with waiters := s.interp.waiters ++ [{ w with id := i }], nextId := i + 1 } })

/-- Fetch time of the packet being interpreted (R354). -/
def State.fetchOf (s : State) (r : Req) (op : Nat) : Nat :=
  match s.interp.current with
  | some p => if p.req = r ∧ p.opcode = op then p.fetched else s.now
  | none => s.now

/-! ### Outputs (R357 to R372) -/

/-- A DisplayPort transmitter's sink. -/
def State.sink (s : State) (d : Nat) : DpSink := Tbl.get s.hd.sinks d
/-- A flow's run: 0 to 47 ST 2110-20, 64 + c encoded stream. -/
def State.flow (s : State) (f : Nat) : FlowRun := Tbl.get s.hd.flows f
/-- Replaces a flow's run. -/
def State.setFlow (s : State) (f : Nat) (x : FlowRun) : State := { s with hd := { s.hd with flows := Tbl.set s.hd.flows f x } }

/-- Kbit/s of one lane at a DisplayPort rate code (R359). -/
def dpMbps (rate : Nat) : Nat := [20000, 13500, 10000, 8100, 5400].getD rate 0
/-- Mbit/s of an SDI lane at a RATE code (R364, R581). -/
def sdiMbps (code : Nat) : Nat := [0, 1485, 2970, 2970, 5940, 11880].getD code 0

/-- Body of the output bound under a key. -/
def State.outBody (s : State) (key : Nat) : Body := Tbl.get s.hd.outs key
/-- The outputs of a head, with their keys. -/
def State.outsOf (s : State) (h : Nat) : List (Nat × Body) := s.hd.outs.filter (fun e => decide (e.2.u8 0 < 3) && oHead e.2 == h)

/-- The first rate at or below code `from0` that passes R360's check, among those the sink takes (R363). -/
def State.dpRateFrom (s : State) (o : Body) (from0 : Nat) : Option Nat :=
  let pc := pixelClock (memberRaster (s.rasterOf (oHead o)) (o.u8 4))
  ([0, 1, 2, 3, 4].filter (fun r => decide (from0 ≤ r))).find? (fun r => dpFits pc (o.u8 5) r (o.u8 9))

/-- The levels that transmitter d writes to its sink at a rate code: in the 8b/10b modes bits 3:0 of each lane's DP_LEVEL, in the
128b/132b modes its TX FFE preset (R363, R581). -/
def State.dpLevels (s : State) (d rate lanes : Nat) : List Nat :=
  ((s.dpLanes d).take lanes).map (fun l =>
    let v := (entryOf s.board l (rateClass (dpMbps rate))).level
    if rate < 3 then v / 16 else v % 16)

/-- Link training of transmitter d starts: the lowest of MAX_RATE, the sink's and the board's rate that passes R360; when
none passes, the output stays off and DP_TRAIN_FAIL tells why (R363). The rate being tried stands in RATE. -/
def State.startTraining (s : State) (d : Nat) : State :=
  let o := s.outBody d
  let sk := s.sink d
  let bmax := (s.dpQuad d).map (qDpMax s.board)
  let start := max (o.u8 8) (max sk.rate (bmax.getD 0))
  let s1 := s.setBit .HD_DP_STAT d 29 false
  if o.isEmpty || !s.boot.taken || !s.regBit .HD_DP_STAT d 30 then s1
  else
    match if sk.lanes < o.u8 9 then none else s.dpRateFrom o start with
    | some r => ((s1.setBits .HD_DP_STAT d 23 20 r).setBits .HD_DP_STAT d 19 17 (o.u8 9)).emit (.dpLevels d (s.dpLevels d r (o.u8 9)))
    | none => (s1.setBits .HD_DP_STAT d 23 20 15).event 0x4803
        [BitVec.ofNat 8 d, BitVec.ofNat 8 start, if sk.lanes < o.u8 9 || decide (4 < start) then 0#8 else 2#8]

/-- A DisplayPort link goes off; DP_LINK reports a trained one as lost. -/
def State.dpOff (s : State) (d : Nat) : State :=
  let was := s.regBit .HD_DP_STAT d 29
  let s1 := ((s.setBit .HD_DP_STAT d 29 false).setBits .HD_DP_STAT d 23 20 15).setBits .HD_DP_STAT d 19 17 0
  let s2 := (s.dpLanes d).foldl (fun (s : State) l => s.setLaneRate l (s.regBits .SL_LANE_STAT l 25 0) false) s1
  if was then s2.event 0x4802 [BitVec.ofNat 8 d, 0#8, 15#8, 0#8] else s2

/-- An output takes a binding, or is unbound (R356, R357). -/
def State.applyOut (s : State) (key : Nat) (o : Body) : State :=
  let i := key % 256
  let on := !o.isEmpty
  match key / 256 with
  | 0 =>
    if !on then (((s.dpOff i).setBit .HD_DP_STAT i 31 false).setBits .HD_DP_STAT i 28 24 0).setBits .HD_DP_STAT i 16 12 0
    else
      let s1 := (((s.setBit .HD_DP_STAT i 31 true).setBits .HD_DP_STAT i 28 24 (oHead o)).setBits .HD_DP_STAT i 16 14 (o.u8 4)).setBits .HD_DP_STAT i 13 12 (o.u8 5)
      (s1.endPrbsOf (s1.dpLanes i)).startTraining i
  | 1 =>
    let l := s.sdiLanes i
    if !on then l.foldl (fun (s : State) x => s.setLaneRate x (s.regBits .SL_LANE_STAT x 25 0) false) (s.setReg .HD_SDI_STAT i 0#32)
    else
      let s1 := ((((s.setBit .HD_SDI_STAT i 31 true).setBit .HD_SDI_STAT i 30 s.boot.taken).setBits .HD_SDI_STAT i 29 27 (o.u8 8)).setBits
        .HD_SDI_STAT i 26 22 (oHead o)).setBits .HD_SDI_STAT i 21 19 (o.u8 4)
      l.foldl (fun (s : State) x => s.setLaneRate x (sdiMbps (o.u8 8)) s.boot.taken) (s1.endPrbsOf l)
  | 2 =>
    if !on then (s.setReg .HD_FLOW_STAT i 0#32).setFlow i {}
    else
      let t := memberRaster (s.rasterOf (oHead o)) (o.u8 4)
      let s1 := ((((s.setBit .HD_FLOW_STAT i 31 true).setBits .HD_FLOW_STAT i 29 28 (o.u8 9)).setBits .HD_FLOW_STAT i 27 23 (oHead o)).setBits
        .HD_FLOW_STAT i 22 19 (o.u8 10)).setBits .HD_FLOW_STAT i 18 16 (o.u8 4)
      (s1.setBits .HD_FLOW_STAT i 7 0 (flowP o (tHact t))).setFlow i {}
  | _ =>
    if !on then (s.setReg .HD_EFLOW_STAT i 0#32).setFlow (64 + i) {}
    else ((s.setBit .HD_EFLOW_STAT i 31 true).setBits .HD_EFLOW_STAT i 27 24 (o.u8 10)).setFlow (64 + i) {}

/-- An HD_OUTPUT section is taken. -/
def State.takeOut (s : State) (b : Body) : State :=
  let key := b.u8 0 * 256 + b.u8 1
  let o : Body := if b.u8 2 = 1 then b else []
  let s1 := ({ s with hd := { s.hd with outs := Tbl.set s.hd.outs key o } }).applyOut key o
  if b.u8 0 = 1 ∧ b.u8 2 = 1 then (if s.aoutOn (24 + b.u8 1) then s1 else s1.startOutput (24 + b.u8 1)).startHouse else s1

/-- An SDI output whose head a profile leaves out is unbound and goes on sending, at its rate, black (R86; log 155). -/
def State.sdiBlack (s : State) (key : Nat) : State :=
  (({ s with hd := { s.hd with outs := Tbl.set s.hd.outs key [] } }).setBit .HD_SDI_STAT (key % 256) 31 false).setBits .HD_SDI_STAT (key % 256) 26 19 0

/-- What a raster change does to the outputs of a head: links retrain, SDI outputs take the new format, flows restart their
schedule (R356). -/
def State.restartOuts (s : State) (h : Nat) : State :=
  (s.outsOf h).foldl (fun (s : State) e =>
    match e.1 / 256 with
    | 0 => if s.regBit .HD_DP_STAT (e.1 % 256) 29 then (s.bumpSat .HD_DP_RETRAIN (e.1 % 256)).startTraining (e.1 % 256) else s.startTraining (e.1 % 256)
    | 2 =>
      let t := memberRaster (s.rasterOf h) (e.2.u8 4)
      (s.setBits .HD_FLOW_STAT (e.1 % 256) 7 0 (flowP e.2 (tHact t))).setFlow (e.1 % 256) { (s.flow (e.1 % 256)) with sent := 0, frame := none }
    | _ => s) s

/-! ### The end of a profile switch (R86, R523, R526) -/

/-- Every head and channel has taken the pending profile: slot states, PRF_SWITCHED, the waiting commands' replies, and duty
for a device in SOLO. -/
def State.profileDone (s : State) (n : Nat) : State :=
  let prev := s.activeSlot
  let s1 := match prev with
    | some p => if p ≠ n then s.setSlotState p 1 else s
    | none => s
  let s2 := (((s1.setSlotState n 4).setBits .PRF_STATE 0 1 0 n).setBit .PRF_STATE 0 6 false).addWrapBits .PRF_STATE 0 15 8 1
  let s3 := s2.event 0x0301 [BitVec.ofNat 8 n, BitVec.ofNat 8 s2.prof.src, BitVec.ofNat 8 s2.prof.srcArg]
  let first := !s3.boot.taken
  let s4 := { s3 with boot := { s3.boot with taken := true }
                      pair := { s3.pair with taken := true, waitFrom := if first then s3.now else s3.pair.waitFrom } }
  let ws := s4.interp.waiters.filter (fun w => w.opcode == 0x0302 && w.slot == some n)
  let s5 : State := ws.foldl (fun (s : State) (w : Waiter) => s.stepWaiter w.id (fun w => { w with heads := [], chans := [] })) s4
  let s5 : State := if first then s5.hd.outs.foldl (fun (s : State) (e : Nat × Body) =>
      if e.1 / 256 = 0 then s.startTraining (e.1 % 256) else if e.1 / 256 = 1 then
        (s.sdiLanes (e.1 % 256)).foldl (fun (s : State) l => s.setBit .SL_LANE_STAT l 29 true) (s.setBit .HD_SDI_STAT (e.1 % 256) 30 true)
      else s) s5 else s5
  if s5.pairState = 0 ∧ !s5.regBit .FLT_STATUS 0 28 then s5.setDutyOut true else s5

/-- The masks, times and outcome of the switch in progress, as a PRF_SELECT that waits for it replies them (R86 to R88). -/
def Waiter.ofSwitch (w : Waiter) (p : Profiles) : Waiter :=
  { w with headsTaken := p.takenH, headsLate := p.lateH, chansTaken := p.takenC, late := p.lateH != 0, refused := p.refused
           first := p.first, last := p.last }

/-- A head (below 24) or channel (32 + its number) leaves those that have still to take the pending profile; the last one ends the
switch (R86). -/
def State.profileStep (s : State) (n h : Nat) (f : Profiles → Profiles) : State :=
  if s.pendingSlot = some n ∧ (s.prof.headsLeft.contains h ∨ (32 ≤ h ∧ s.prof.chansLeft.contains (h - 32))) then
    let p := f s.prof
    let p1 := { p with headsLeft := p.headsLeft.erase h, chansLeft := if 32 ≤ h then p.chansLeft.erase (h - 32) else p.chansLeft }
    let s1 := { s with prof := p1, interp := { s.interp with waiters := s.interp.waiters.map (fun (w : Waiter) =>
      if w.opcode = 0x0302 ∧ w.slot = some n then w.ofSwitch p1 else w) } }
    if p1.headsLeft.isEmpty && p1.chansLeft.isEmpty then s1.profileDone n else s1
  else s

/-- A head or channel that the pending profile configures has taken it (R86). -/
def State.profileTook (s : State) (n h : Nat) (late : Bool) (t : Nat) : State :=
  s.profileStep n h (fun p =>
    if 32 ≤ h then { p with takenC := p.takenC ||| 2 ^ (h - 32), first := some (p.first.getD t), last := t }
    else { p with takenH := p.takenH ||| 2 ^ h, lateH := if late then p.lateH ||| 2 ^ h else p.lateH, first := some (p.first.getD t), last := t })

/-- A head or channel keeps its old configuration: the Canary refused its set, or DRAM has no room for it (R146; log 148). -/
def State.profileKept (s : State) (n h : Nat) (refused : Bool) : State :=
  s.profileStep n h (fun p => { p with refused := p.refused || refused })

/-! ### The raster in registers -/

/-- HD_STAT and HD_PCLK follow the raster in force; a gang's members show it as well (R378). -/
def State.showHead (s : State) (h : Nat) : State :=
  let b := s.rasterOf h
  let on := !b.isEmpty && tFlag b 0
  let one := fun (s : State) (k m : Nat) (gang : Bool) =>
    let s1 := ((((s.setBit .HD_STAT k 31 on).setBit .HD_STAT k 30 (on && tFlag b 1)).setBit .HD_STAT k 28 (on && gang)).setBit .HD_STAT k 27
      (on && gang && tFlag b 3)).setBits .HD_STAT k 26 25 (if on && gang then m else 0)
    let s2 := ((s1.setBit .HD_STAT k 24 (s1.channelOf h).isSome).setBits .HD_STAT k 21 15 (if on then tLead b else 0))
    let s3 := s2.setReg .HD_PCLK k (if on then BitVec.ofNat 32 ((pixelClock b / 1000).floor.toNat) else 0#32)
    if on then s3 else (s3.setBit .HD_STAT k 29 false).setBits .HD_STAT k 12 0 0
  if on && tFlag b 2 then (List.range 4).foldl (fun (s : State) m => one s (h + m) m true) s else one s h 0 false

/-! ### Taking a set -/

/-- The binding of a layer: what the Canary's per-layer state depends on (R116). -/
def bindingOf (b : Body) : Body := if b.isEmpty then [] else b.drop 3 |>.take 3 |>.append ((b.drop 32).take 2)

/-- A surface as a STILL layer holds it, or as the last one lets it go (R107, R108). -/
def Surface.hold (f : Surface) (on : Bool) : Surface := { f with header := f.header.map (fun hd => hd.hold f.addr on) }

/-- Ends the STILL of a layer and lets its surface go (R113). -/
def State.endStill (s : State) (h l : Nat) : State :=
  let r := (s.head h).layer l
  let s1 := s.modPool r.pool (fun p =>
    let p1 := p.unpin (64 + slotOf h l)
    match r.surf with
    | some f => p1.modAt f.addr (fun g => if g.pins.any (fun n => decide (64 ≤ n ∧ n < 256)) then g else g.hold false)
    | none => p1)
  (s1.collect r.pool).modLayer h l (fun r => { r with still := false })

/-- The newest surface of a pool that was complete before this cycle (R115). -/
def State.newestOf (s : State) (k : Nat) : Option Surface := (s.pool k).newestBefore s.now

/-- Pre-decimation of a FIT layer for a surface of some size (R321). -/
def fitOf (b : Body) (w h : Nat) : Nat × Nat := (fitPre (lHpre b) w (lDw b) (some (b.u16 24)), fitPre (lVpre b) h (lDh b) none)

/-- A layer is pre-decimated beyond what its configuration asks for (R321). -/
def degrades (b : Body) (w h : Nat) : Bool :=
  lFlag b 2 && (decide (lHpre b < (fitOf b w h).1) || decide (lVpre b < (fitOf b w h).2))

/-- Some layer of the set that a head has taken will be pre-decimated in the frame that starts (R20, R321; log 150). -/
def State.degradesNow (s : State) (h : Nat) : Bool :=
  s.running h && (s.head h).set.enabled.any (fun e =>
    let r := (s.head h).layer e.1
    match if r.still then r.surf else (s.poolOfLayer e.2.cfg).bind s.newestOf with
    | some f => (f.header.map (fun hd => degrades e.2.cfg hd.width hd.height)).getD false
    | none => false)

/-- Adds a holder to the surface at an address, in the pool or among those a replaced pool left (R115). -/
def Pool.pinAt (p : Pool) (addr holder : Nat) : Pool := p.modAt addr (fun x => { x with pins := holder :: x.pins })

/-- CNY_STILL is taken (R113): the layer keeps the newest complete surface, pinned for as long as it is STILL, or follows
its pool again. -/
def State.applyStill (s : State) (h : Nat) (b : Body) : State :=
  let l := b.u8 1
  let r := (s.head h).layer l
  if b.u8 2 = 1 then
    if r.still then s
    else
      let k := (s.poolOfLayer ((s.head h).shadow l).cfg).getD r.pool
      match s.newestOf k with
      | some f => (s.modPool k (fun p => (p.modAt f.addr (fun g => g.hold true)).pinAt f.addr (64 + slotOf h l))).modLayer h l
          (fun r => { r with still := true, surf := some (f.hold true), pool := k })
      | none => s.modLayer h l (fun r => { r with still := true, surf := none, pool := k })
  else if r.still then s.endStill h l else s

/-- Reply body of CNY_STILL: tag of the held surface, or zeros, and the frame counter. -/
def State.stillBody (s : State) (h : Nat) (b : Body) : List Byte :=
  let r := (s.head h).layer (b.u8 1)
  (if r.still then ((r.surf.bind (fun f => f.header)).map (fun hd => hd.tag.bytes)).getD (List.replicate 16 0#8) else List.replicate 16 0#8)
    ++ s.frameBytes h

/-- Layers whose binding a take changes lose the state of their checks (R116); a held picture of such a layer is let go, and the
foreign-write state of the pool that is bound afresh clears (R112). -/
def State.rebind (s : State) (h : Nat) (old new : HeadSet) : State :=
  (List.range 8).foldl (fun (s : State) l =>
    let a := (Tbl.get old.layers l).cfg
    let b := (Tbl.get new.layers l).cfg
    if bindingOf a = bindingOf b then s
    else
      let s1 := (if ((s.head h).layer l).still then s.endStill h l else s).modLayer h l (fun r =>
        { r with seq := none, tSeq := 0, crc := none, tCrc := 0, everFull := false, surf := none })
      match if (Tbl.get new.layers l).on && !lGfx b then s1.poolOfSource (lSource b) else none with
      | some k => s1.modPool k (fun p => { p with foreign := false })
      | none => s1) s

/-- Registers that follow a head's set: style, encodings, allocations, budgets (R151, R344, R345). -/
def State.showSet (s : State) (h : Nat) : State :=
  let x := (s.head h).set
  let s1 := if x.style.isEmpty then s else
    ((((s.setBits .CNY_STYLE h 15 8 (stBorder x.style)).setBits .CNY_STYLE h 7 4 (stScale x.style)).setBits .CNY_STYLE h 1 0 (stPos x.style)).setReg
      .CNY_FG h (BitVec.ofNat 32 (stFg x.style))).setReg .CNY_BG h (BitVec.ofNat 32 (stBg x.style))
  let s2 := ((s1.setBits .HD_CMP_STAT h 28 27 (x.comp.u8 3)).setBits .HD_CMP_STAT h 26 25 (x.comp.u8 2)).setBits .HD_CMP_STAT h 16 0 x.lbUsed
  (List.range 8).foldl (fun (s : State) l =>
    let sh := Tbl.get x.layers l
    let live := sh.on && !lGfx sh.cfg
    let k := slotOf h l
    ((s.setReg .CNY_LBUDGET k (BitVec.ofNat 32 (if live then lBudget sh.cfg else 0))).setReg .CNY_LWINDOW k
      (BitVec.ofNat 32 (if live then lWindow sh.cfg else 0))).setReg .LY_ALLOC k (BitVec.ofNat 32 (if sh.on then allocOf sh.cfg else 0))) s2

/-- Layers of the base: the longest run of enabled layers from below that are GRAPHIC and STATIC (R331). -/
def HeadSet.baseOf (x : HeadSet) : Nat := (x.enabled.takeWhile (fun e => lGfx e.2.cfg && lFlag e.2.cfg 4)).length

/-- Bytes of a head's DRAM flatten pool (R333); 0 when nothing is flattened. -/
def flatBytes (x : HeadSet) (b : Body) : Nat :=
  let n := x.baseOf
  let tiles := ceilDiv (tHact b) 64 * ceilDiv (tVact b) 16
  let above := ((x.enabled.drop n).filter (fun e => lGfx e.2.cfg && lFlag e.2.cfg 4)).map (fun e =>
    match visRect e.2.cfg (tHact b) (tVact b) with
    | none => 0
    | some r => (r.x1 / 64 + 1 - r.x0 / 64) * (r.y1 / 16 + 1 - r.y0 / 16))
  (if n = 0 then 0 else 4608 * tiles) + 6144 * above.sum

/-- The DRAM flatten pool of a taken set is allocated, or stays where its size is the same; NOPOOL shows where DRAM has no room (R333).
Tiles that lay in a pool that goes are gone with it. -/
def State.allocFlat (s : State) (h : Nat) : State :=
  let n := flatBytes (s.head h).set (s.rasterOf h)
  let same := match (s.head h).flatPool with
    | some a => n != 0 && Tbl.get s.runs ((a - dramBase) / granule) == max 1 (ceilDiv n granule)
    | none => false
  let s1 := match (s.head h).flatPool with
    | some a => (s.release a).modHead h (fun x => { x with flatPool := none, flat := x.flat.filter (fun t => !t.spilled) })
    | none => s
  if same then s.setBit .HD_CMP_STAT h 29 false
  else if n = 0 then s1.setBit .HD_CMP_STAT h 29 false
  else
    match s1.alloc n with
    | some (a, s2) => (s2.modHead h (fun x => { x with flatPool := some a })).setBit .HD_CMP_STAT h 29 false
    | none => s1.setBit .HD_CMP_STAT h 29 true

/-- Does a taken timing change the raster in force (R356). -/
def rasterChange (old new : Body) : Bool := (old.take 2 ++ old.drop 4) != (new.take 2 ++ new.drop 4)

/-- A head takes an armed set: hardware validation (R146), the set and its outputs, layer state, registers, the stored copy,
and the command or profile that waits (R24, R73, R86). -/
def State.takeArm (s : State) (h : Nat) (a : Arm) : State :=
  let x := s.head h
  let new := x.set.arm a
  let bad := if s.cnyLocked then s.canaryBad new else none
  match bad with
  | some k =>
    let s1 := (s.event 0x1008 ([BitVec.ofNat 8 h, 0#8] ++ leBytes 2 k)).fault 11 fcCOMMIT 1 0 []
    let s2 := match a.cmd with
      | some id => s1.stepWaiter id (fun w => { w with heads := w.heads.erase h, refused := true })
      | none => s1
    match a.slot with
    | some n => s2.profileKept n h true
    | none => s2
  | none =>
    let t := s.ptp
    let change := rasterChange x.set.timing new.timing
    let s1 := ((s.setHead h { x with set := new, lastTake := s.now, slot := if a.slot.isSome then a.slot else x.slot }).rebind h x.set new)
    let s2 := (a.edits.filter (fun e => e.opcode == 0x4802)).foldl (fun (s : State) e => s.takeOut e.body) s1
    let s3 := if a.fresh then
        ((s.outsOf h).filter (fun o => !a.edits.any (fun e => e.opcode == 0x4802 && e.body.u8 0 * 256 + e.body.u8 1 == o.1))).foldl
          (fun (s : State) o => if a.edits.isEmpty && o.1 / 256 == 1 then s.sdiBlack o.1 else s.takeOut (o.2.set 2 0#8)) s2
      else s2
    let members := fun (s : State) => (List.range 3).foldl (fun (s : State) m => s.showHead (h + m + 1)) s
    let s3' : State := if change ∧ (isGang x.set.timing ∨ isGang new.timing) then members s3 else s3
    let s4 := if change then (s3'.showHead h).restartOuts h else s3'.showHead h
    let s5 := (s4.showSet h).allocFlat h
    let s6 := if s5.outMode h = 0 ∨ a.slot.isNone then s5 else (s5.setOutMode h 0).modHead h (fun x => { x with holdEnd := none })
    let s7 := if a.fresh then s6 else a.edits.foldl (fun (s : State) e => if e.opcode = 0x1004 then s else s.storeEdit (s.head h).slot e.opcode e.body) s6
    let s8 := if a.late then (s7.bumpSat .HD_LATE h).eventPerSec 0x4807 h 1 (fun n => [BitVec.ofNat 8 h, 0#8, 0#8, 0#8] ++ leBytes 4 n) else s7
    let stills := a.edits.filter (fun (e : Section) => e.opcode == 0x1004)
    let s8' : State := stills.foldl (fun (s : State) (e : Section) => s.applyStill h e.body) s8
    let body := match stills with | e :: _ => s8'.stillBody h e.body | [] => []
    let s9 := match a.cmd with
      | some id => s8'.stepWaiter id (fun w =>
          { w with body := body, degraded := w.degraded || (decide (0x4001 ≤ w.opcode ∧ w.opcode ≤ 0x4005) && s8'.degradesNow h)
                   heads := w.heads.erase h, headsTaken := w.headsTaken ||| 2 ^ h, late := w.late || a.late
                   headsLate := if a.late then w.headsLate ||| 2 ^ h else w.headsLate, first := some (w.first.getD t), last := t })
      | none => s8'
    match a.slot with
    | some n => s9.profileTook n h a.late t
    | none => s9

/-! ### Arming -/

/-- The set that a head would run with would give it a raster. -/
def HeadSet.enables (x : HeadSet) : Bool := !x.timing.isEmpty && tFlag x.timing 0

/-- Puts an arm in front of the coming boundaries (R73, R354): late when a window closed between the time the set fell due
and now; not for a boundary whose window has closed. -/
def State.armNow (s : State) (h : Nat) (a : Arm) : State :=
  let x := s.head h
  let nb := if s.running h then x.nextB else ((boundaryAfter (x.set.arm a).timing (s.tm.gridAt s.now)).2 : Int)
  let late := match x.lastClose with | some c => decide (a.since < c ∧ c ≤ s.now) | none => false
  s.setHead h { x with nextB := nb, armed := some { a with late := late && s.running h, skip := x.closed && s.running h } }

/-- A set comes to the front of a head. A head whose raster does not run and does not start with the set has no boundary to
wait for: it takes the set at once (log 32). -/
def State.armFirst (s : State) (h : Nat) (a : Arm) : State :=
  if !s.running h && !((s.head h).set.arm a).enables then s.takeArm h a else s.armNow h a

/-- Arms a set for a head; behind an untaken set, or sets that wait for SECOND_SET_ARM, it waits its turn (R73). -/
def State.armHead (s : State) (h : Nat) (a : Arm) : State :=
  let x := s.head h
  if x.armed.isSome || !x.second.isEmpty then s.setHead h { x with second := x.second ++ [a] }
  else s.armFirst h a

/-! ### Held sets (R338, R340) -/

/-- Discards a held set with a cause: HD_CMP_DISC and CMP_HELD_DISCARDED. -/
def State.discardHeld (s : State) (h cause : Nat) : State :=
  let x := s.head h
  if x.held.isEmpty then s
  else ((s.setHead h { x with held := [] }).bumpSat .HD_CMP_DISC h).event 0x4005
    [BitVec.ofNat 8 h, BitVec.ofNat 8 cause, BitVec.ofNat 8 x.heldPort.idx]

/-- A port has lost scopes: the held sets it wrote under them are discarded (R340). -/
def State.discardLost (s : State) (p : Port) (lost : BitVec 64) : State :=
  (List.range 24).foldl (fun (s : State) h =>
    let x := s.head h
    if x.heldPort = p ∧ (if x.held0 then lost.getLsbD 0 else lost.getLsbD (scopeHead h)) then s.discardHeld h 1 else s) s

/-- A section written into a head's held set by a port (R338). -/
def State.hold (s : State) (h : Nat) (p : Port) (e : Section) : State :=
  s.modHead h (fun x => { x with held := x.held ++ [e], heldPort := p, held0 := !s.holds p (scopeHead h) })

end Sys2Proof.Machine
end

