-- ==== Sys2Proof/Machine/Compose.lean ====
section
/-! DEFINITION. Composition (R307 to R346): the commands that write held sets and arm them, GRAPHIC pools and uploads, the
flatten cache, and the composition of one output line. CNY_HEAD_STYLE and CNY_STILL arm their sets here as well. -/

namespace Sys2Proof.Machine

/-! ### Commits (R338, R339) -/

/-- Validates and arms the held sets of some heads: all of them or none (R339); heads without a held set are ignored. -/
def State.commit (s : State) (r : Req) (op since : Nat) (rs : Bool) (heads : List Nat) : Answer :=
  let hs := heads.filter (fun h => !(s.head h).held.isEmpty)
  let c := s.conf.edit (hs.map (fun h => (h, (s.head h).held)))
  match c.reject s with
  | some k => .refuse (hs.foldl (fun (s : State) h => s.discardHeld h 4) s) .REJECTED k []
  | none =>
    let w : Waiter := { req := r, opcode := op, restarted := rs, heads := hs }
    if hs.isEmpty then .now s .OK (s.commitBody w)
    else
      let (id, s1) := (s.powerUpAll ((hs.map islandsOfHead).flatten)).newWaiter w
      .later (hs.foldl (fun (s : State) h =>
        let x := s.head h
        (s.setHead h { x with held := [] }).armHead h { edits := x.held, port := x.heldPort, cmd := some id, since := since }) s1)

/-- Arms one section for a head on its own, as HD_TIMING, CNY_HEAD_STYLE and CNY_STILL do. -/
def State.armOne (s : State) (r : Req) (op since : Nat) (rs : Bool) (h : Nat) (e : Section) : Answer :=
  let (id, s1) := (s.powerUpAll (islandsOfHead h)).newWaiter { req := r, opcode := op, restarted := rs, heads := [h] }
  .later (s1.armHead h { edits := [e], port := r.port, cmd := some id, since := since })

/-- Writes a section into the held set, and commits it unless HOLD is set (R338). -/
def State.holdOrCommit (s : State) (r : Req) (op since : Nat) (rs hold : Bool) (h : Nat) (e : Section) : Answer :=
  let s1 := s.hold h r.port e
  if hold then done s1 else s1.commit r op since rs [h]

/-! ### Bounds of the commands (R343) -/

/-- Head and layer numbers of a command; a member of a gang takes none (R307). -/
def headBad (s : State) (h : Nat) : Bool := decide (23 < h) || s.gangMember h

/-- BADPARAM of an LY_CONFIG body. -/
def lyConfigBad (s : State) (b : Body) : Bool :=
  b.length != 48 || headBad s (b.u8 0) || decide (7 < b.u8 1) || decide (63 < b.u8 2) || decide (1 < b.u8 3)
    || (if lGfx b then decide (255 < b.u16 4) else b.u16 4 != 0xFFFF) || decide (4095 < lAlpha b)
    || decide (lDx b < -8192) || decide (8191 < lDx b) || decide (lDy b < -8192) || decide (8191 < lDy b)
    || decide (lDw b < 16) || decide (8192 < lDw b) || decide (lDh b < 16) || decide (8192 < lDh b)
    || (!lFlag b 2 && (b.u16 20 == 0 || b.u16 22 == 0 || decide (8192 < b.u16 16 + b.u16 20) || decide (4320 < b.u16 18 + b.u16 22)))
    || b.u16 24 % 64 != 0 || (lFlag b 2 && b.u16 24 == 0) || (b.u8 26).testBit 3 || (b.u8 26).testBit 7 || decide (3 < b.u8 27)
    || decide (2 < b.u8 28) || decide (7 < b.u8 29) || !b.zero 30 2
    || (!lGfx b && (lSource b == 0xFFFF || lFlag b 4 || !b.zero 34 2 || !b.zero 44 4))

/-- BADPARAM of an LY_PALETTE body. -/
def lyPaletteBad (s : State) (b : Body) : Bool :=
  b.length != 8 + 4 * b.u16 4 || headBad s (b.u8 0) || decide (7 < b.u8 1) || (b.u8 2 != 0 && b.u8 2 != 2) || b.u16 4 == 0
    || decide (256 < b.u8 3 + b.u16 4) || !b.zero 6 2

/-- Entries of LUT data above 4,095. -/
def lutBad (t : List Byte) : Bool := (tableOf t (t.length / 2)).any (fun v => decide (4095 < v))

/-- LUTs that WHICH supplies. -/
def lutsOf (w : Nat) : Nat := bit01 (w.testBit 0) + bit01 (w.testBit 2)

/-- BADPARAM of the fixed LY_COLOUR body and its tables. -/
def lyColourBad (s : State) (b : Body) (t : List Byte) : Bool :=
  b.length != 48 || headBad s (b.u8 0) || decide (7 < b.u8 1) || (b.u8 2 != 0 && b.u8 2 != 2) || decide (7 < b.u8 3)
    || (List.range 3).any (fun k => decide (4095 < b.u16 (22 + 2 * k)) || decide (b.sle (28 + 2 * k) 2 < -4096) || decide (4095 < b.sle (28 + 2 * k) 2))
    || !b.zero 34 6 || lutBad t

/-- BADPARAM of the fixed HD_COMPOSE body and its table. -/
def hdComposeBad (s : State) (b : Body) (t : List Byte) : Bool :=
  b.length != 24 || headBad s (b.u8 0) || decide (3 < b.u8 1) || decide (3 < b.u8 2) || decide (2 < b.u8 3)
    || (List.range 3).any (fun k => decide (4095 < b.u16 (4 + 2 * k))) || !b.zero 10 6 || lutBad t

/-- n bytes of host data; bytes the host does not supply count as 0. -/
def takePad (n : Nat) (t : List Byte) : List Byte := (t ++ List.replicate n 0#8).take n

/-! ### Commands 0x4001 to 0x4006 -/

/-- LY_CONFIG 0x4001. -/
def execLyConfig (r : Req) (b : Body) (s : State) : Host.Outcome State Fault Refusal :=
  let f := s.fetchOf r 0x4001
  let rs := s.isRestarted
  command 0x4001 r s [scopeHead (b.u8 0)] (lyConfigBad s b) {}
    (fun s => s.holdOrCommit r 0x4001 f rs (lFlag b 1) (b.u8 0) ⟨0x4001, slotOf (b.u8 0) (b.u8 1), b⟩)

/-- LY_PALETTE 0x4002 (R311). -/
def execLyPalette (r : Req) (b : Body) (s : State) : Host.Outcome State Fault Refusal :=
  let f := s.fetchOf r 0x4002
  let rs := s.isRestarted
  command 0x4002 r s [scopeHead (b.u8 0)] (lyPaletteBad s b) {}
    (fun s => s.holdOrCommit r 0x4002 f rs (lFlag b 1) (b.u8 0) ⟨0x4002, slotOf (b.u8 0) (b.u8 1), b⟩)

/-- LY_COLOUR 0x4003 (R327). -/
def execLyColour (r : Req) (b : Body) (table : List Byte) (s : State) : Host.Outcome State Fault Refusal :=
  let f := s.fetchOf r 0x4003
  let rs := s.isRestarted
  let t := takePad (6144 * lutsOf (b.u8 3)) table
  command 0x4003 r s [scopeHead (b.u8 0)] (lyColourBad s b t) {}
    (fun s => s.holdOrCommit r 0x4003 f rs (lFlag b 1) (b.u8 0) ⟨0x4003, slotOf (b.u8 0) (b.u8 1), b.take 40 ++ leBytes 8 0 ++ t⟩)

/-- HD_COMPOSE 0x4004 (R328). -/
def execHdCompose (r : Req) (b : Body) (table : List Byte) (s : State) : Host.Outcome State Fault Refusal :=
  let f := s.fetchOf r 0x4004
  let rs := s.isRestarted
  let t := if b.u64 16 = 0 then [] else takePad 6144 table
  command 0x4004 r s [scopeHead (b.u8 0)] (hdComposeBad s b t) {}
    (fun s => s.holdOrCommit r 0x4004 f rs ((b.u8 1).testBit 1) (b.u8 0) ⟨0x4004, b.u8 0, b.take 16 ++ leBytes 8 0 ++ t⟩)

/-- CMP_COMMIT 0x4005 (R338, R339). -/
def execCmpCommit (r : Req) (b : Body) (s : State) : Host.Outcome State Fault Refusal :=
  let f := s.fetchOf r 0x4005
  let rs := s.isRestarted
  let hs := maskBits (b.le 0 3) 24
  command 0x4005 r s (hs.map scopeHead) (b.length != 4 || hs.isEmpty || !b.zero 3 1 || hs.any (fun h => s.gangMember h && !(s.head h).held.isEmpty)) {} (fun s => s.commit r 0x4005 f rs hs)

/-- CMP_DISCARD 0x4006 (R340). -/
def execCmpDiscard (r : Req) (b : Body) (s : State) : Host.Outcome State Fault Refusal :=
  let hs := maskBits (b.le 0 3) 24
  command 0x4006 r s (hs.map scopeHead) (b.length != 4 || !b.zero 3 1) {}
    (fun s => done (hs.foldl (fun (s : State) h => s.discardHeld h 0) s))

/-! ### CNY_HEAD_STYLE and CNY_STILL -/

/-- BADPARAM of a CNY_HEAD_STYLE body; border and contrast fall under R147. -/
def styleBad (s : State) (b : Body) : Bool :=
  b.length != 12 || headBad s (b.u8 0) || b.u8 2 == 0 || decide (8 < b.u8 2) || decide (3 < b.u8 3)
    || decide (2 ^ 30 ≤ b.u32 4) || decide (2 ^ 30 ≤ b.u32 8)

/-- CNY_HEAD_STYLE 0x1003: a mark style, taken at the head's next commit window (R131, R133, R145). -/
def execCnyHeadStyle (r : Req) (b : Body) (s : State) : Host.Outcome State Fault Refusal :=
  let f := s.fetchOf r 0x1003
  let rs := s.isRestarted
  let e : Section := ⟨0x1003, b.u8 0, b⟩
  command 0x1003 r s [54] (styleBad s b)
    { rej := if (s.canaryBad ((s.head (b.u8 0)).nextSet.edit e)).isSome then some rCANARYLIMIT else none }
    (fun s => s.armOne r 0x1003 f rs (b.u8 0) e)

/-- Surfaces of a pool that nothing pins, once one more is held. -/
def Pool.freeAfterHold (p : Pool) : Nat :=
  (p.surfs.filter (fun f => f.pins.isEmpty)).length - (match p.newestIdx with | some i => bit01 (p.surf i).pins.isEmpty | none => 0)

/-- CNY_STILL 0x1004: holds a VIDEO layer as STILL or returns it to live (R113). -/
def execCnyStill (r : Req) (b : Body) (s : State) : Host.Outcome State Fault Refusal :=
  let f := s.fetchOf r 0x1004
  let rs := s.isRestarted
  let h := b.u8 0
  let l := b.u8 1
  let x := s.head h
  let k := s.poolOfLayer (x.shadow l).cfg
  command 0x1004 r s [scopeHead h]
    (b.length != 4 || headBad s h || decide (7 < l) || decide (1 < b.u8 2) || !b.zero 3 1 || (x.classOf l != 0 && x.classOf l != 2))
    { noRes := b.u8 2 == 1 && !(x.layer l).still && (match k with | some k => decide ((s.pool k).freeAfterHold < 2) | none => false) }
    (fun s => s.armOne r 0x1004 f rs h ⟨0x1004, slotOf h l, b⟩)

/-! ### GRAPHIC pools (R310, R344) -/

/-- LY_GFX_STAT follows a pool (R344). -/
def State.showGfx (s : State) (g owner : Nat) : State :=
  let p := s.pool (poolGfx g)
  if !p.bound then s.setReg .LY_GFX_STAT g 0#32
  else
    (((((((s.setBit .LY_GFX_STAT g 31 true).setBit .LY_GFX_STAT g 30 p.writing.isSome).setBits .LY_GFX_STAT g 23 16 p.format).setBits
      .LY_GFX_STAT g 15 12 p.surfs.length).setBits .LY_GFX_STAT g 11 8 (p.newestIdx.getD 0)).setBits .LY_GFX_STAT g 4 0 owner))

/-- A layer of the running configuration binds GRAPHIC pool g. -/
def State.gfxInUse (s : State) (g : Nat) : Bool :=
  (List.range 24).any (fun h => (s.head h).set.enabled.any (fun e => lGfx e.2.cfg && e.2.cfg.u16 4 == g))

/-- INUSE, reason of GFX_POOL. -/
def rINUSE : Nat := 0x0140

/-- GFX_POOL 0x4010: allocates or frees a GRAPHIC pool. -/
def execGfxPool (r : Req) (b : Body) (s : State) : Host.Outcome State Fault Refusal :=
  let g := b.u16 0
  let fmt := b.u8 4
  let w := b.u16 8
  let h := b.u16 10
  let k := poolGfx g
  let alloc := b.u8 3 == 1
  let old := s.pool k
  let freed := if old.bound then s.freePool k else s
  let got := freed.allocMany (linSize fmt w h) (b.u8 5)
  command 0x4010 r s [scopeHead (b.u8 2)]
    (b.length != 12 || decide (255 < g) || decide (23 < b.u8 2) || decide (1 < b.u8 3) || !b.zero 6 2
      || (alloc && (!([0x01, 0x02, 0x08, 0x09, 0x10, 0x11].contains fmt) || decide (b.u8 5 < 2) || decide (8 < b.u8 5)
        || decide (w < 16) || decide (8192 < w) || decide (h < 16) || decide (4320 < h)
        || (decide (0x10 ≤ fmt) && w % 2 != 0) || (fmt == 0x11 && h % 2 != 0))))
    { noRes := alloc && got.isNone, rej := if s.gfxInUse g && old.bound then some rINUSE else none }
    (fun s =>
      let f := if old.bound then s.freePool k else s
      if !alloc then done (f.showGfx g 0)
      else
        match f.allocMany (linSize fmt w h) (b.u8 5) with
        | none => .now s .NORESOURCE []
        | some (addrs, s1) => done ((s1.setPool k { newPool addrs 0xFFFF w h fmt 0 1 with old := (s1.pool k).old }).showGfx g (b.u8 2)))

/-- Little-endian word i of n bytes in host data. -/
def hostWord (d : List Byte) (off n : Nat) : Nat := Body.le d off n

/-- The samples that an upload brings for pixel columns 0 to w - 1 of line y of a rectangle of h lines, in the layout of the
model's lines (R310; log 10): alpha, R', G', B'; an index; or Y'CbCr as Y, Cb, Cr, Y. -/
def uploadLine (fmt pitch w h : Nat) (d : List Byte) (y : Nat) : List Nat :=
  let at0 := y * pitch
  let lu := fun x => hostWord d (at0 + 2 * x) 2 % 1024
  if fmt = 0x01 then ((List.range w).map (fun x => let v := hostWord d (at0 + 4 * x) 4; [v / 2 ^ 24, v / 2 ^ 16 % 256, v / 2 ^ 8 % 256, v % 256])).flatten
  else if fmt = 0x02 then ((List.range w).map (fun x => let v := hostWord d (at0 + 4 * x) 4; [v / 2 ^ 30, v / 2 ^ 20 % 1024, v / 2 ^ 10 % 1024, v % 1024])).flatten
  else if fmt = 0x08 then (List.range w).map (fun x => hostWord d (at0 + x) 1)
  else if fmt = 0x09 then (List.range w).map (fun x => hostWord d (at0 + x / 2) 1 / 16 ^ (x % 2) % 16)
  else if fmt = 0x11 ∧ y % 2 = 1 then (List.range w).map lu
  else
    let c0 := h * pitch + (if fmt = 0x11 then y / 2 else y) * pitch
    ((List.range (w / 2)).map (fun k =>
      [lu (2 * k), hostWord d (c0 + 4 * k) 2 % 1024, hostWord d (c0 + 4 * k + 2) 2 % 1024, lu (2 * k + 1)])).flatten

/-- What the DRAM of a surface holds before its first pixels, for a sample of line j: free, by draw k, within the sample's range. -/
def staleSample (fmt k j i : Nat) : Nat :=
  let v := (Config.freeSample k j i).toNat
  if fmt = 0x01 ∨ fmt = 0x08 then v % 256 else if fmt = 0x09 then v % 16 else if fmt = 0x02 ∧ i % 4 = 0 then v % 4 else v % 1024

/-- Samples per pixel, in halves, of a line of a format. -/
def perPixel2 (fmt y : Nat) : Nat :=
  if fmt = 0x01 ∨ fmt = 0x02 then 8 else if fmt = 0x08 ∨ fmt = 0x09 ∨ (fmt = 0x11 ∧ y % 2 = 1) then 2 else 4

/-- Lays an uploaded rectangle over the lines of a surface; samples that it has never held stand free, by draw k. -/
def uploadInto (fmt w h x y rw rh pitch k : Nat) (d : List Byte) (lines : List (List Nat)) : List (List Nat) :=
  (List.range h).map (fun j =>
    let n := perPixel2 fmt j
    let l := (List.range (w * n / 2)).map (fun i => ((lines.getD j [])[i]?).getD (staleSample fmt k j i))
    if y ≤ j ∧ j < y + rh then
      let up := uploadLine fmt pitch rw rh d (j - y)
      l.take (x * n / 2) ++ up ++ l.drop (x * n / 2 + up.length)
    else l)

/-- GFX_UPLOAD 0x4011: opens, writes or finishes a GRAPHIC surface (R108, R187). Pixels that no upload writes stay as they stood in the
surface's DRAM. -/
def execGfxUpload (r : Req) (b : Body) (data : List Byte) (s : State) : Host.Outcome State Fault Refusal :=
  let g := b.u16 0
  let k := poolGfx g
  let p := s.pool k
  let fl := b.u8 2
  let start := fl.testBit 0
  let w := b.u16 8
  let h := b.u16 10
  let owner := s.regBits .LY_GFX_STAT g 4 0
  let opened := if start then p.abandon.take else p.writing.map (fun i => (i, p))
  command 0x4011 r s [scopeHead owner]
    (b.length != 24 || decide (255 < g) || !p.bound || decide (7 < fl) || !b.zero 3 1 || decide (p.maxW < b.u16 4 + w) || decide (p.maxH < b.u16 6 + h)
      || (fl != 4 && (w == 0 || h == 0)) || (!start && p.writing.isNone) || (decide (0x10 ≤ p.format) && (b.u16 4 % 2 != 0 || w % 2 != 0))
      || (p.format == 0x11 && (b.u16 6 % 2 != 0 || h % 2 != 0)))
    { noRes := start && opened.isNone }
    (fun s =>
      match opened with
      | none => .now s .NORESOURCE []
      | some (i, p1) =>
        let before := if start then (p.surf i).lines else (p1.surf i).lines
        let base := if fl.testBit 1 then (p.newest.map (fun f => f.lines)).getD before else before
        let p3 := p1.modSurf i (fun f =>
          { f with lines := uploadInto p.format p.maxW p.maxH (b.u16 4) (b.u16 6) w h (b.u32 12) s.free data base })
        let t := s.ptp
        let out : FrameOut := { lines := (p3.surf i).lines, width := p.maxW, height := p.maxH, time := t, basis := 1, flags := 0, master := 4 + r.port.idx }
        let p4 := if fl.testBit 2 then p3.release i out t s.now else p3
        .now ((s.draw.2.setPool k p4).showGfx g owner) .OK (leBytes 1 i ++ leBytes 7 0 ++ (if fl.testBit 2 then timeBytes t else leBytes 8 0)))

/-! ### The flatten cache (R331 to R333) -/

/-- Granules of the cache in use by all heads. -/
def State.flatUsed (s : State) : Nat := (s.hd.head.map (fun e => ((e.2.flat.filter (fun t => !t.spilled)).map (fun t => t.granules)).sum)).sum

/-- Registers that follow a head's flatten entries. -/
def State.showFlat (s : State) (h : Nat) : State :=
  let fl := (s.head h).flat
  let base := fl.filter (fun t => t.kind == 0)
  ((s.setReg .LY_FLAT_USE 0 (BitVec.ofNat 32 s.flatUsed)).setBits .HD_CMP_BASE h 31 16 (base.filter (fun t => !t.spilled)).length).setBits
    .HD_CMP_BASE h 15 0 (base.filter (fun t => t.spilled)).length

/-- Takes the entries of some kinds off a head (R332). -/
def State.dropFlat (s : State) (h : Nat) (p : FlatTile → Bool) : State :=
  let x := s.head h
  let n := (x.flat.filter p).length
  if n = 0 then s
  else ((s.setHead h { x with flat := x.flat.filter (fun t => !p t) }).addWrapBits .LY_FLAT_INVAL 0 31 0 n).showFlat h

/-- Writes one tile: into the cache while it has room, else into the head's flatten pool when its size is below what it saves.
Its compressed size is free within the bound of its kind: 72 granules for a base tile, 96 for a layer tile (R333). -/
def State.writeTile (s : State) (h kind tile saved : Nat) : State :=
  let (k, s1) := s.draw
  let n := 1 + (Config.freeWord k).toNat % (if kind = 0 then 72 else 96)
  let x := s1.head h
  if s1.flatUsed + n ≤ 1048576 then s1.setHead h { x with flat := x.flat ++ [⟨kind, tile, n, false⟩] }
  else if x.flatPool.isSome && decide (64 * n < saved) then
    ((s1.setHead h { x with flat := x.flat ++ [⟨kind, tile, n, true⟩] }).bumpSat .LY_FLAT_SPILL 0).eventPerSec 0x4004 h 1
      (fun c => [BitVec.ofNat 8 h, 0#8, 0#8, 0#8] ++ leBytes 4 c)
  else s1

/-- Bytes that the layers of a tile would fetch for it at one source pixel per output pixel: the tile's 1,024 pixels at the
formats' bytes per pixel (R309). -/
def State.tileSaved (s : State) (h : Nat) (ls : List Nat) : Nat :=
  (ls.map (fun l => 512 * bpp2 (((((s.head h).layer l).surf.bind (fun f => f.header)).map (fun hd => hd.format)).getD 0x20))).sum

/-- Once the last line of a band is composed, the tiles of entries in their third frame are written (R332); tiles of covered
bands are skipped. -/
def State.flatten (s : State) (h y : Nat) : State :=
  let x := s.head h
  let b := s.rasterOf h
  if y % 16 != 15 && y + 1 != tVact b then s
  else
    let band := y / 16
    let per := ceilDiv (tHact b) 64
    let ls := x.set.enabled.map (fun e => e.1)
    let baseLs := ls.take x.baseLen
    let met := baseLs.filter (fun l => match s.rectOf h l with | some r => decide (r.y0 / 16 ≤ band ∧ band ≤ r.y1 / 16) | none => false)
    let skipped := !met.isEmpty && met.all (fun l => (x.layer l).covered.contains band)
    let s1 := if x.baseLen ≠ 0 ∧ x.baseSame = 3 ∧ !skipped then
        (List.range per).foldl (fun (s : State) c => s.writeTile h 0 (band * per + c) (s.tileSaved h baseLs)) s
      else s
    let s2 := (x.set.enabled.drop x.baseLen).foldl (fun (s : State) (e : Nat × LayerSh) =>
      let run := x.layer e.1
      match s.rectOf h e.1 with
      | none => s
      | some r =>
        if lGfx e.2.cfg && lFlag e.2.cfg 4 && run.same == 3 && !run.covered.contains band && decide (r.y0 / 16 ≤ band ∧ band ≤ r.y1 / 16) then
          (List.range (r.x1 / 64 + 1 - r.x0 / 64)).foldl (fun (s : State) c =>
            s.writeTile h (1 + e.1) (band * per + r.x0 / 64 + c) (s.tileSaved h [e.1])) s
        else s) s1
    if s2.free = s.free then s else s2.showFlat h

/-! ### One output line (R308, R320, R322, R514) -/

/-- The active line that is composed and scanned as number i of a frame: an interlaced head sends the even lines, then the odd
ones; members of a quadrant map scan the upper and lower half side by side (R350, R352). -/
def nthLine (b : Body) (i : Nat) : Nat :=
  if tFlag b 1 then (if i < tVact b / 2 then 2 * i else 2 * (i - tVact b / 2) + 1)
  else if quadMap b then (if i % 2 = 0 then i / 2 else tVact b / 2 + i / 2)
  else i

/-- Lines of the frame composed so far. -/
def Head.composed (x : Head) : Nat := x.lines.length + x.fifo.length

/-- A layer as it shows in this frame. -/
def Head.show (x : Head) (l : Nat) : LayerShow :=
  let r := x.layer l
  { sh := x.shadow l, surf := r.surf, gfx := lGfx (x.shadow l).cfg, hp := r.hp, vp := r.vp }

/-- A head's background as a pixel (HD_COMPOSE, R330). -/
def bgOf (comp : Body) : List Int := [((comp.u16 4 : Nat) : Int), ((comp.u16 6 : Nat) : Int), ((comp.u16 8 : Nat) : Int)]

/-- Layers whose source lines a line needs that had not come: layers that `late` names, but for covered bands, which fetch none
(R322, R336). -/
def Head.lateOn (x : Head) (l y late : Nat) : Bool := late.testBit l && !(x.layer l).covered.contains (y / 16)

/-- The line of a layer that is late before its first line of the frame: nothing to repeat is known, so its pixels are free, by draw
k (log 197). -/
def freeLine (k n : Nat) : List (List Int) :=
  (List.range n).map (fun i => (List.range 4).map (fun c => (((Config.freeSample k c i).toNat % 4096 : Nat) : Int)))

/-- Blends the enabled layers of a line, late ones with their previous line; answers the stage-8 pixels and each layer's line. -/
def Head.blendLine (x : Head) (b : Body) (y late k : Nat) : List (List Int) × List (Nat × List (List Int)) :=
  x.set.enabled.foldl (fun (a : List (List Int) × List (Nat × List (List Int))) e =>
    match visRect e.2.cfg (tHact b) (tVact b) with
    | none => a
    | some r =>
      if r.y0 ≤ y ∧ y ≤ r.y1 then
        let px := if !x.lateOn e.1 y late then (x.show e.1).line r y
          else if (x.layer e.1).prevLine.isEmpty then freeLine k (r.x1 + 1 - r.x0) else (x.layer e.1).prevLine
        (overLine e.2.cfg r px a.1, a.2 ++ [(e.1, px)])
      else a) (List.replicate (tHact b) (bgOf x.set.comp), [])

/-- A line-buffer underrun of a layer (R322). -/
def State.underrun (s : State) (h l y : Nat) : State :=
  ((s.bumpSat .LY_UNDERRUN (slotOf h l)).eventPerSec 0x4002 (slotOf h l) 1 (fun n =>
    [BitVec.ofNat 8 h, BitVec.ofNat 8 l, 0#8, 0#8] ++ leBytes 2 y ++ leBytes 2 0 ++ leBytes 4 n)).fault (islCmp h) fcUNDERRUN 1 h []

/-- LINE_COMPOSE: composition blends the next output line into the 4-line FIFO. `late` names the layers whose source line was
not in its ring; `residue` counts mod-3 mismatches of the line (R320, R322, R514). -/
def execLineCompose (h : Fin 24) (late : BitVec 8) (residue : Fin 3) (s : State) : Host.Outcome State Fault Refusal :=
  let x := s.head h
  let b := s.rasterOf h
  if !s.running h || s.gangMember h || x.frame.isNone || s.outMode h == 2 || x.latchWait.isSome || decide (4 ≤ x.fifo.length)
      || decide (tVact b ≤ x.composed) then .next s
  else
    let y := nthLine b x.composed
    let (px, lines) := x.blendLine b y late.toNat s.free
    let lates := (lines.filter (fun e => x.lateOn e.1 y late.toNat)).map (fun e => e.1)
    let s1 := lines.foldl (fun (s : State) (e : Nat × List (List Int)) => s.modLayer h e.1 (fun r => { r with prevLine := e.2 }))
      (if lates.isEmpty then s else s.draw.2)
    let s2 := (s1.modHead h (fun x => { x with fifo := x.fifo ++ [⟨y, px⟩] })).flatten h y
    let s3 := lates.foldl (fun (s : State) l => s.underrun h l y) s2
    let s4 := if residue.val = 0 then s3 else s3.fault (islCmp h) fcRETRY 0 h []
    .next (if residue.val = 2 then s4.fault (islCmp h) fcRETRY 1 h [] else s4)

end Sys2Proof.Machine
end

