-- ==== Sys2Proof/Machine/Scan.lean ====
section
/-! DEFINITION. Scan-out (R347 to R379, R411): the frame boundary with take, latch, geometry and grid alignment, the commit
window, one scanned line with Flare's marks and the link encoders, DisplayPort links, hold and hatch. -/

namespace Sys2Proof.Machine

/-! ### The head's clock (R348, R411) -/

/-- The time a head's boundaries lie on: grid time, or PTP time for a virtual head (ENC_CHANNEL, R268). -/
def State.headTime (s : State) (h : Nat) : Int := if (s.channelOf h).isSome then (s.ptp : Int) else s.tm.gridAt s.now

/-- PULL_PPM in force (REF_DPLL). -/
def State.pullPpm (s : State) : Nat := if s.tm.dcfg.isEmpty then 10 else s.tm.dcfg.u8 13

/-- What R411 gives for a frame: err in ps, blanking lines, the next boundary in ns, the pull's sign, and the time in ns into
the frame at which the pull has taken the rest, if it does. -/
structure Align where
  errPs : Int
  v : Nat
  next : Int
  pull : Int
  takenNs : Option Nat

/-- Rounds n/d to nearest, halves away from zero (R411). -/
def roundAway (n : Int) (d : Nat) : Int := if 0 ≤ n then (2 * n + d) / (2 * d : Nat) else -((2 * -n + d) / (2 * d : Nat))

/-- R411 for a frame that starts at grid time b0 with raster `b`. -/
def alignFrame (b : Body) (ppm : Nat) (b0 : Int) : Align :=
  let lb := lineRaster b
  let vn := vNom b
  let tfPs : Nat := tDen b * 1000000000000 / max 1 (tNum b)
  let tlPs : Nat := max 1 (tDen b * 1000000000000 / max 1 (tNum b * tVtot lb))
  let e0 := b0 * 1000 + tfPs
  let (_, nb) := boundaryAfter b (e0 / 1000)
  let raw := (nb : Int) * 1000 - e0
  let m := raw % (tfPs : Int)
  let err0 := if 2 * m ≤ tfPs then m else m - tfPs
  let err := if err0.natAbs ≤ 1000 then 0 else err0
  let n0 := roundAway err tlPs
  let n := if 0 < n0 then min n0 (vn : Int) else max n0 (3 - (vn : Int))
  let rest := err - n * tlPs
  let frame := (tfPs : Int) + n * tlPs
  let pulls := n = n0 ∧ 1000 ≤ rest.natAbs
  let cap : Int := frame * ppm / 1000000
  let taken : Int := if pulls then clampInt (-cap) cap rest else 0
  { errPs := err, v := (vn + n).toNat
    next := if err = 0 then (if raw.natAbs ≤ 1000 then (nb : Int) else (e0 + err0) / 1000) else (b0 * 1000 + frame + taken) / 1000
    pull := if pulls then (if 0 < rest then 1 else -1) else 0
    takenNs := if pulls ∧ (rest.natAbs : Int) ≤ cap then some (rest.natAbs * 1000 / max 1 ppm) else none }

/-- The boundary of a virtual head that follows a PTP time: its blanking lines before a t_k of its channel. -/
def virtualNext (b : Body) (t : Int) : Int :=
  let v := linesNs b (tVnom b)
  ((boundaryAfter b (t + v)).2 : Int) - v

/-- The head takes the grid for the frame that starts: blanking, next boundary, pull, and the registers of R411. -/
def State.alignHead (s : State) (h : Nat) (b0 : Int) : State :=
  let b := s.rasterOf h
  let setV := fun (s : State) (v : Nat) => s.setBits .HD_STAT h 12 0 v
  if (s.channelOf h).isSome then
    setV (s.modHead h (fun x => { x with v := tVnom b, nextB := virtualNext b b0, gridK := (boundaryAfter b (b0 + linesNs b (tVnom b) - 1)).1 })) (tVnom b)
  else
    let a := alignFrame b s.pullPpm b0
    let x := s.head h
    let s1 := setV (s.modHead h (fun x => { x with v := a.v, nextB := a.next, pull := a.pull, pullEnd := a.takenNs.map (fun n => s.now + n), gridK := (boundaryAfter b (b0 - 1)).1 })) a.v
    let s2 := s1.setReg .REF_HEAD_ERR h (BitVec.ofInt 32 (a.errPs / 1000))
    let moved := a.v ≠ vNom b ∨ a.pull ≠ 0
    let s3 := if moved then s2.bumpSat .REF_HEAD_ADJ h else s2
    if x.aligning then
      let n := x.adjusted + bit01 moved
      let lines := x.added + ((a.v : Int) - vNom b)
      if a.errPs.natAbs < 1000 then
        (s3.modHead h (fun x => { x with aligning := false, adjusted := 0, added := 0 })).event 0x5014
          ([BitVec.ofNat 8 h, 0#8, 0#8, 0#8] ++ leBytes 4 n ++ sleBytes 4 lines)
      else s3.modHead h (fun x => { x with adjusted := n, added := lines })
    else s3

/-! ### The latch (R115, R315, R321, R335) -/

/-- Lets go every surface a head has pinned. -/
def State.unpinHead (s : State) (h : Nat) : State :=
  (s.pools.filter (fun e => e.2.surfs.any (fun f => f.pins.contains h) || e.2.old.any (fun f => f.pins.contains h))).foldl
    (fun (s : State) e =>
      let s1 := (s.modPool e.1 (fun p => p.unpin h)).collect e.1
      if poolDec 0 ≤ e.1 ∧ e.1 < poolGfx 0 then s1.showPool (e.1 - poolDec 0) else s1) s

/-- LY_NOPOOL of a GRAPHIC layer, on every change (R315, R346). -/
def State.noPool (s : State) (h l : Nat) (missing : Bool) (pool t : Nat) : State :=
  if ((s.head h).layer l).noPool = missing then s
  else (s.modLayer h l (fun r => { r with noPool := missing })).eventLimited 0x4003 (slotOf h l) 10 t
    ([BitVec.ofNat 8 h, BitVec.ofNat 8 l, BitVec.ofNat 8 (bit01 missing), 0#8] ++ leBytes 2 pool)

/-- One layer latches: the newest complete surface of its pool, pinned for the frame; a STILL layer keeps its own. -/
def State.latchLayer (s : State) (h l t : Nat) : State :=
  let x := s.head h
  let sh := x.shadow l
  if !sh.on then s.modLayer h l (fun r => { r with surf := none, noPool := false, prevLine := [] })
  else
    let k := s.poolOfLayer sh.cfg
    let s0 := s.modLayer h l (fun r => { r with prevLine := [], noPool := r.noPool && lGfx sh.cfg })
    let s1 := if lGfx sh.cfg then s0.noPool h l k.isNone (sh.cfg.u16 4) t else s0
    if (x.layer l).still then s1
    else
      match k.bind (fun k => (s1.newestOf k).map (fun f => (k, f))) with
      | some (k, f) =>
        let s2 := (s1.modPool k (fun p => p.pinAt f.addr h)).modLayer h l (fun r =>
          { (s1.noteContent r f) with surf := some f, pool := k, everFull := true })
        if poolDec 0 ≤ k ∧ k < poolGfx 0 then s2.showPool (k - poolDec 0) else s2
      | none => s1.modLayer h l (fun r => { r with surf := none, pool := k.getD 65535 })

/-- Pre-decimation in force for a latched surface, and LY_DEGRADED on a change (R321). -/
def State.predecimate (s : State) (h l t : Nat) : State :=
  let x := s.head h
  let b := (x.shadow l).cfg
  let hd := ((x.layer l).surf.bind (fun f => f.header)).getD default
  let has := ((x.layer l).surf.bind (fun f => f.header)).isSome
  let fit := (x.shadow l).on && lFlag b 2 && has
  let on := (x.shadow l).on
  let hp := if fit then (fitOf b hd.width hd.height).1 else if on then lHpre b else 0
  let vp := if fit then (fitOf b hd.width hd.height).2 else if on then lVpre b else 0
  let deg := fit && degrades b hd.width hd.height
  let k := slotOf h l
  let was := s.regBit .LY_STAT k 27
  let s1 := ((((s.modLayer h l (fun r => { r with hp := hp, vp := vp })).setBit .LY_STAT k 27 deg).setBit .CNY_LSTAT k 26 deg).setBits .LY_STAT k 15 13 hp).setBits .LY_STAT k 12 10 vp
  if was = deg then s1
  else s1.eventLimited 0x4001 k 10 t
    ([BitVec.ofNat 8 h, BitVec.ofNat 8 l, BitVec.ofNat 8 (bit01 deg), BitVec.ofNat 8 (hp + 16 * vp)] ++ leBytes 2 hd.width ++ leBytes 2 hd.height)

/-- Bands of a layer that the opaque layers above it cover (R334, R335). -/
def State.coveredBands (s : State) (h l : Nat) : List Nat :=
  match s.rectOf h l with
  | none => []
  | some r =>
    let x := s.head h
    let above := (x.set.enabled.filter (fun e => decide (l < e.1) && (x.show e.1).isOpaque)).filterMap (fun e => s.rectOf h e.1)
    (bandsOf r).filter (bandCovered (tVact (s.rasterOf h)) r above)

/-- Geometry and registers of a layer for the frame that starts (R127, R151, R335, R344). LY_FETCH counts bytes of a
memory system that the spec does not describe to the byte: a free value. -/
def State.geometry (s : State) (h l : Nat) : State :=
  let x := s.head h
  let sh := x.shadow l
  let k := slotOf h l
  let cls := x.classOf l
  let r := s.rectOf h l
  let bands := ((r.map bandsOf).getD []).length
  let cov := s.coveredBands h l
  let vis := sh.on && r.isSome
  let full := vis && bands != 0 && cov.length == bands
  let hd := ((x.layer l).surf.bind (fun f => f.header)).getD default
  let s1 := s.modLayer h l (fun y => { y with covered := cov, vis := vis, full := full })
  let s2 := ((((s1.setBit .CNY_LSTAT k 31 sh.on).setBits .CNY_LSTAT k 30 29 cls).setBit .CNY_LSTAT k 28 vis).setBit .CNY_LSTAT k 27 full)
  let s3 := (((((s2.setBit .LY_STAT k 31 sh.on).setBits .LY_STAT k 30 29 cls).setBit .LY_STAT k 28 (sh.on && lFlag sh.cfg 2)).setBit .LY_STAT k 24 full).setBits
    .LY_STAT k 23 16 hd.format).setBits .LY_STAT k 9 8 (if sh.on then sh.cfg.u8 27 else 0)
  let s4 := (s3.setReg .LY_SRC k (BitVec.ofNat 32 (hd.width * 65536 + hd.height))).setReg .LY_UMBRA k (BitVec.ofNat 32 (bands * 65536 + cov.length))
  if sh.on && (x.layer l).surf.isSome && !full then
    let (n, s5) := s4.draw
    s5.setReg .LY_FETCH k ((Config.freeWord n).setWidth 32)
  else s4.setReg .LY_FETCH k 0#32

/-- Counts frames of sameness and invalidates flatten entries whose inputs changed (R332). -/
def State.sameness (s : State) (h : Nat) : State :=
  let x := s.head h
  let s1 := (List.range 8).foldl (fun (s : State) l =>
    let r := x.layer l
    let cur := r.surf.bind (fun f => f.header.map (fun hd => (x.shadow l, f.addr, hd.tag.seq)))
    if (x.shadow l).on && cur.isSome && decide (r.was = cur) then s.modLayer h l (fun r => { r with same := r.same + 1 })
    else ((s.modLayer h l (fun r => { r with was := cur, same := 1 })).dropFlat h (fun t => t.kind == 1 + l))) s
  let y := s1.head h
  let n := y.set.baseOf
  let base := y.set.enabled.take n
  let key := leBytes 1 n ++ (y.set.comp.drop 4).take 6
  let same := n != 0 && y.baseWas == key && base.all (fun e => decide (1 < (y.layer e.1).same))
  let s2 := s1.setHead h { y with baseLen := n, baseWas := key, baseSame := if same then y.baseSame + 1 else 1 }
  let s3 := if same then s2 else s2.dropFlat h (fun t => t.kind == 0)
  (List.range 8).foldl (fun (s : State) l =>
    let inBase := base.any (fun e => e.1 == l)
    let z := s.head h
    (s.setBit .LY_STAT (slotOf h l) 25 inBase).setBit .LY_STAT (slotOf h l) 26
      (!inBase && decide (4 ≤ (z.layer l).same) && z.flat.any (fun t => t.kind == 1 + l))) s3

/-- The history entry of a layer at the boundary (R149, R150). -/
def State.histLayer (s : State) (h l : Nat) : HistLayer :=
  let x := s.head h
  let r := x.layer l
  let rc := (s.rectOf h l).getD ⟨0, 0, 0, 0⟩
  { tag := ((r.surf.bind (fun f => f.header)).map (fun hd => hd.tag)).getD {}, glyph := r.drawn.1, checks := r.drawn.2, cls := x.classOf l
    state := bit01 r.vis + 2 * bit01 r.full + 4 * bit01 (s.regBit .LY_STAT (slotOf h l) 27), x0 := rc.x0, x1 := rc.x1, y0 := rc.y0, y1 := rc.y1 }

/-- A new history record; the oldest of eight is overwritten (R149). -/
def State.pushHist (s : State) (h : Nat) : State :=
  let x := s.head h
  let ls := (List.range 8).filter (fun l => (x.shadow l).on)
  let r : HistRec := { frame := x.frame.getD 0, flip := x.flip, v := x.v, timing := s.rasterOf h, style := x.set.style
                       layers := ls.map (fun l => (l, s.histLayer h l)) }
  s.setHead h { x with hist := (r :: x.hist).take 8 }

/-- The per-frame state of a layer's check begins anew; a layer that will not be evaluated shows no glyph (R126, R150). -/
def State.freshLayer (s : State) (h l : Nat) : State :=
  let s1 := s.modLayer h l (fun r => { r with own := none, settled := false, drawn := (0, 0), mirror := none, miss := false, differs := false, counted := false, told := false })
  let r := (s1.head h).layer l
  let c := (s1.head h).classOf l
  if (c == 0 || c == 2) && r.vis && !r.full then s1
  else ((((s1.setReg .CNY_LAGE (slotOf h l) 0xFFFFFFFF#32).setBits .CNY_LSTAT (slotOf h l) 23 16 0).setBits .CNY_LSTAT (slotOf h l) 15 12 0)).reportGlyph
    h l 0 0 0xFFFFFFFF s1.ptp

/-- All layers latch and take their geometry. -/
def State.latchAll (s : State) (h t : Nat) : State :=
  let s1 := (List.range 8).foldl (fun (s : State) l => s.latchLayer h l t) (s.unpinHead h)
  let s2 := (List.range 8).foldl (fun (s : State) l => s.predecimate h l t) s1
  let s3 := (List.range 8).foldl (fun (s : State) l => s.geometry h l) s2
  let s4 := (List.range 8).foldl (fun (s : State) l => s.freshLayer h l) s3
  (s4.sameness h).setBit .CNY_CTL 0 h false

/-! ### Pair work at a boundary (R522, R532, R539, R542) -/

/-- The LATCH record of a boundary: head, k, flip time, frame counter and the SEQUENCE of each configured layer. -/
def State.latchRecord (s : State) (h : Nat) : List Byte :=
  let x := s.head h
  leBytes 1 h ++ leBytes 1 (bitsMask ((List.range 8).filter (fun l => ((x.layer l).surf.bind (fun f => f.header)).isSome))) ++ leBytes 6 x.gridK
    ++ timeBytes x.flip ++ leBytes 6 (x.frame.getD 0)
    ++ ((List.range 8).map (fun l => leBytes 4 (((((x.layer l).surf).bind (fun f => f.header)).map (fun hd => hd.tag.seq)).getD 0))).flatten

/-- Head with the shortest frame period among the running physical ones. -/
def State.fastest (s : State) : Option Nat :=
  let hs := (List.range 24).filter (fun h => s.running h && !s.gangMember h && (s.channelOf h).isNone)
  hs.foldl (fun (m : Option Nat) h =>
    match m with
    | none => some h
    | some k => if tNum (s.rasterOf k) * tDen (s.rasterOf h) < tNum (s.rasterOf h) * tDen (s.rasterOf k) then some h else m) none

/-- A drill starts on its heads: each holds from its next boundary (R542). -/
def State.startDrill (s : State) (w : Waiter) (hold hatch : Nat) : State :=
  w.heads.foldl (fun (s : State) h => s.modHead h (fun x => { x with drillPhase := 1, drillHold := hold, drillHatch := hatch, drillOk := true }))
    (({ s with pair := { s.pair with drill := some w } }).setBit .PAIR_STATUS 0 18 true)

/-- A head's drill ends; when it was the last, the command is answered and the next drill starts (R542). -/
def State.drillEnd (s : State) (h : Nat) (passed aborted : Bool) : State :=
  let s1 := s.modHead h (fun x => { x with drillPhase := 0, drillHold := 0, drillHatch := 0 })
  match s1.pair.drill with
  | none => s1
  | some w =>
    let w1 := { w with heads := w.heads.erase h, headsTaken := if passed then w.headsTaken ||| 2 ^ h else w.headsTaken
                       headsLate := if aborted then w.headsLate ||| 2 ^ h else w.headsLate }
    if w1.heads.isEmpty then
      let body := leBytes 3 w1.headsTaken ++ leBytes 3 w1.headsLate
      let s2 := ((({ s1 with pair := { s1.pair with drill := none } }).setBit .PAIR_STATUS 0 18 false).replyR w1.req 0x7803 0 0 w1.restarted body).event 0x7807 body
      match s2.pair.drillNext with
      | (n, a, b) :: rest => ({ s2 with pair := { s2.pair with drillNext := rest } }).startDrill n a b
      | [] => s2
    else { s1 with pair := { s1.pair with drill := some w1 } }

/-- A device that takes duty ends its drills at once, those that wait among them, and the heads are normal from their next boundary
(R542). -/
def State.abortDrills (s : State) : State :=
  let wait := s.pair.drillNext
  let s0 := { s with pair := { s.pair with drillNext := [] } }
  let s1 := match s0.pair.drill with
    | none => s0
    | some w => w.heads.foldl (fun (s : State) h => s.drillEnd h false true) s0
  wait.foldl (fun (s : State) e =>
    let body := leBytes 3 0 ++ leBytes 3 (bitsMask e.1.heads)
    (s.replyR e.1.req 0x7803 0 0 e.1.restarted body).event 0x7807 body) s1

/-- A handover that the partner does not carry through is abandoned: every PAIR_SWITCH that waits for it answers NOPARTNER (R530). -/
def State.abandonHandover (s : State) : State :=
  s.pair.switchReqs.foldl (fun (s : State) w => s.replyR w.req 0x7802 Status.REJECTED.code 0x0181 w.restarted [])
    { s with pair := { s.pair with handover := none, acked := false, switchReqs := [] } }

/-- The standby of a handover asserts DUTY_OUT at boundary k, which ends its drills; a handover without acknowledgement is abandoned at k - 1 (R530). -/
def State.handoverStep (s : State) (h : Nat) : State :=
  match s.pair.handover with
  | none => s
  | some k =>
    if s.fastest ≠ some h then s
    else if s.isStandby then
      if k ≤ (s.head h).gridK then
        let s1 := ((({ s with pair := { s.pair with handover := none } }).setDutyOut true).bumpWrap .PAIR_HANDOVERS 0).resumeChans 1
        (s1.setPairState 3 6).abortDrills
      else s
    else if s.onDuty && !s.pair.acked && decide (k ≤ (s.head h).gridK + 1) then s.abandonHandover
    else s

/-- A drill's stages move at the head's boundaries (R542): the held frame's CRC is compared with the duty's. -/
def State.drillStep (s : State) (h : Nat) : State :=
  let x := s.head h
  match x.drillPhase with
  | 1 => s.setHead h { x with drillPhase := 2, drillFrame := x.prev, drillOk := true }
  | 2 =>
    if 1 < x.drillHold then s.setHead h { x with drillHold := x.drillHold - 1 }
    else
      let own := (x.crcOwn.find? (fun e => e.1 == x.drillFrame.frame)).map (fun e => e.2)
      let peer := (x.crcPeer.find? (fun e => e.1 == x.drillFrame.frame)).map (fun e => e.2)
      let ok := peer.isSome && own == peer
      let s1 := s.setHead h { x with drillPhase := 3, drillHold := 0, drillOk := x.drillOk && ok }
      if peer.isSome && own != peer then s1.fault (islSco h) fcDRILL 1 h [] else s1
  | 3 =>
    if 1 < x.drillHatch then s.setHead h { x with drillHatch := x.drillHatch - 1 }
    else s.drillEnd h x.drillOk false
  | _ => s

/-! ### FRAME_BOUNDARY (R349, R353 to R356) -/

/-- Flip time and counter of a boundary, in state and registers (R353). -/
def State.countFrame (s : State) (h : Nat) : State :=
  let x := s.head h
  let n := (x.adopt.getD (match x.frame with | some f => f + 1 | none => 0)) % 2 ^ 48
  let t := s.ptp
  let old : ScanFrame := { frame := x.frame.getD 0, flip := x.flip, v := x.v, k := x.gridK, lines := x.lines }
  let s1 := s.setHead h { x with frame := some n, adopt := none, flip := t, prev := old, lines := [], fifo := [], closed := false
                                 retried := false, prevWithheld := x.withheld, withheld := false }
  ((((s1.setReg .HD_FRAME_LO h (BitVec.ofNat 32 n)).setReg .HD_FRAME_HI h (BitVec.ofNat 32 (n / 2 ^ 32))).setReg .HD_FLIP_SEC h
    (BitVec.ofNat 32 (t / sec))).setReg .HD_FLIP_NS h (BitVec.ofNat 32 (t % sec))).setBit .HD_STAT h 29 false

/-- A head that has taken a set without a raster stops: marks that show are reported as cleared (R152), nothing stays latched or
composed but what a STILL layer holds; the tag history stays (R149). -/
def State.stopHead (s : State) (h : Nat) : State :=
  let s0 := (List.range 8).foldl (fun (s : State) l => (s.modLayer h l (fun r => { r with told := false })).reportGlyph h l 0 0 0xFFFFFFFF s.ptp) s
  let s1 := (s0.unpinHead h).modHead h (fun x => { x with
    frame := none, lines := [], fifo := [], reraster := false, closed := false, lastClose := none
    layers := (x.layers.filter (fun e => e.2.still)).map (fun e => (e.1, { (default : LayerRun) with still := true, surf := e.2.surf, pool := e.2.pool })) })
  (List.range 8).foldl (fun (s : State) l =>
    let x := s.head h
    ((((s.setBits .CNY_LSTAT (slotOf h l) 28 0 0).setBit .CNY_LSTAT (slotOf h l) 31 (x.shadow l).on).setBits .CNY_LSTAT (slotOf h l) 30 29 (x.classOf l)).setReg
      .CNY_LAGE (slotOf h l) 0xFFFFFFFF#32).setReg .LY_STAT (slotOf h l) 0#32)
    ((s.outsOf h).foldl (fun (s : State) e => if e.1 / 256 = 2 then s.setBit .HD_FLOW_STAT (e.1 % 256) 30 false else s)
      ((s1.dropFlat h (fun _ => true)).setBit .CNY_CTL 0 h false))

/-- A head becomes a member of a gang: it has no slots, no raster and no commits of its own any more (R307, R351). Sets that waited for
its boundaries are not taken, and their commands are answered without it (log 206). -/
def State.joinGang (s : State) (k : Nat) : State :=
  let x := s.head k
  let s1 := (List.range 8).foldl (fun (s : State) l => if (x.layer l).still then s.endStill k l else s) s
  let s2 := (x.armed.toList ++ x.second).foldl (fun (s : State) a =>
    match a.cmd with
    | some id => s.stepWaiter id (fun w => { w with heads := w.heads.erase k })
    | none => s) s1
  let s3 := match x.flatPool with | some a => s2.release a | none => s2
  let s4 := s3.modHead k (fun x => { x with set := {}, armed := none, second := [], flatPool := none, slot := none })
  ((s4.stopHead k).showSet k).showHead k

/-- A frame starts on the video outputs of a head that send: its colorimetry, EOTF and range, for the metadata of DisplayPort (R359) and
the payload identifier of SDI, and the blanking lines that the frame leaves with (R365). -/
def State.videoFrames (s : State) (h : Nat) : State :=
  let x := s.head h
  (s.outsOf h).foldl (fun (s : State) e =>
    let sends := if e.1 / 256 = 0 then s.regBit .HD_DP_STAT (e.1 % 256) 29 else e.1 / 256 = 1 && s.regBit .HD_SDI_STAT (e.1 % 256) 30
    if sends ∧ s.outMode h ≠ 2 then s.emit (.frameStart e.1 (x.set.comp.u8 2) (x.set.comp.u8 3) x.v) else s) s

/-- The head's boundary proper: the counter, the armed set, the latch and the grid (R115, R353, R354, R356, R375, R411). -/
def State.boundary (s : State) (h : Nat) (b0 : Int) (started : Bool) : State :=
  let hold := s.outMode h == 1
  let s1 := s.countFrame h
  let x := s1.head h
  let s2 := match x.armed with
    | some a => if hold then s1 else if a.skip then s1.setHead h { x with armed := some { a with skip := false } }
                else (s1.setHead h { x with armed := none, reraster := false }).takeArm h a
    | none => s1
  if (s2.rasterOf h).isEmpty || !s2.running h then s2.stopHead h
  else
    let gang := isGang (s2.head h).set.timing && !isGang x.set.timing
    let s2' : State := if gang then (List.range 3).foldl (fun (s : State) m => s.joinGang (h + m + 1)) s2 else s2
    let s3 := if hold then s2' else s2'.latchAll h (s2'.head h).flip
    let s4 := ((s3.alignHead h b0).pushHist h).videoFrames h
    let s5 := if started then s4.eventAt (s4.head h).flip 0x4806 ([BitVec.ofNat 8 h, 0#8, 0#8, 0#8] ++ s4.frameBytes h) else s4
    let s6 := if s5.onDuty then s5.seam .latch (s5.latchRecord h)
      else if s5.isStandby && s5.regBit .PAIR_STATUS 0 23 then s5.modHead h (fun x => { x with latchWait := some s5.now }) else s5
    (s6.drillStep h).handoverStep h

/-- FRAME_BOUNDARY: a head reaches its frame boundary. A raster change first extends the blanking to the first boundary of the
new grid (R356); a held head whose hold would pass HOLD_MAX hatches (R375, R376). -/
def execFrameBoundary (h : Fin 24) (s : State) : Host.Outcome State Fault Refusal :=
  let x := s.head h
  let run := s.running h
  let due := match x.armed with | some a => if a.skip || s.outMode h == 1 then none else some a | none => none
  let want := due.map (fun a => (x.set.arm a).timing)
  let starts := !run && (match due with | some a => (x.set.arm a).enables | none => false)
  if s.gangMember h || (!run && !starts) || decide (s.headTime h < x.nextB) then .next s
  else
    let change := run && !x.reraster && (match want with | some t => rasterChange x.set.timing t && !t.isEmpty && tFlag t 0 | none => false)
    let nb : Int := (boundaryAfter (want.getD []) (x.nextB - 1)).2
    if change && decide (s.headTime h < nb) then .next (s.setHead h { x with reraster := true, nextB := nb })
    else
      let ended := s.outMode h == 1 && (match x.holdEnd with
        | some e => decide (e < s.ptp + linesNs (s.rasterOf h) (tVtot (s.rasterOf h))) | none => false)
      let s1 := if ended then s.startHatch h 0 else s
      .next (s1.boundary h x.nextB (starts || change || x.reraster))

/-- COMMIT_WINDOW_CLOSE: the window of the coming boundary closes WIN_LEAD lines before it (R354). -/
def execCommitWindowClose (h : Fin 24) (s : State) : Host.Outcome State Fault Refusal :=
  let x := s.head h
  let b := s.rasterOf h
  if !s.running h || s.gangMember h || x.closed || decide (s.headTime h < x.nextB - linesNs b (tLead b)) then .next s
  else .next (s.setHead h { x with closed := true, lastClose := some s.now })

/-- PULL_REST_TAKEN: a head's pull ends in mid-frame once the remaining error has been taken (R411). -/
def execPullRestTaken (h : Fin 24) (s : State) : Host.Outcome State Fault Refusal :=
  let x := s.head h
  match x.pullEnd with
  | some t => if s.now < t then .next s else .next (s.setHead h { x with pull := 0, pullEnd := none })
  | none => .next s

/-- HOLD_MAX_EXPIRY: the hold ends at the last boundary within HOLD_MAX and the outputs hatch (R375, R376). -/
def execHoldMaxExpiry (h : Fin 24) (s : State) : Host.Outcome State Fault Refusal :=
  let x := s.head h
  let b := s.rasterOf h
  match x.holdEnd with
  | some e => if s.outMode h == 1 && decide (e < x.flip + 2 * linesNs b (tVtot b)) && decide (x.nextB ≤ s.headTime h) then .next (s.startHatch h 0) else .next s
  | none => .next s

/-- HD_HOLD 0x4803: HOLD_MAX for the next give-up (R375). -/
def execHdHold (r : Req) (b : Body) (s : State) : Host.Outcome State Fault Refusal :=
  command 0x4803 r s [47] (b.length != 4 || decide (200 < b.u16 0) || !b.zero 2 2) {}
    (fun s => done (s.setBits .HD_HOLD_MAX 0 7 0 (b.u16 0)))

/-! ### Link encoders (R358, R376) -/

/-- Stage 12 of a component: 10 or 8 bits (R358). -/
def reduce12 (fmt : Nat) (v : Int) : Int := if fmt = 1 then min 255 ((v + 8) / 16) else min 1023 ((v + 2) / 4)

/-- Combines the chroma of pixel pairs of a line at 12 bits: even pixels carry Y, Cb and Cr, odd ones Y alone (R358). -/
def pair422 : List (List Int) → List (List Int)
  | a :: b :: t =>
    [a.getD 0 0, (a.getD 1 0 + b.getD 1 0 + 1) / 2, (a.getD 2 0 + b.getD 2 0 + 1) / 2] :: [b.getD 0 0] :: pair422 t
  | l => l

/-- A line at a link: stage 12, with the range of SDI and ST 2110-20 (R358). -/
def linkLine (fmt : Nat) (limited : Bool) (px : List (List Int)) : List (List Int) :=
  let p := if fmt = 2 then pair422 px else px.map (fun v => v.take 3)
  p.map (fun v => v.map (fun c => let d := reduce12 fmt c; if limited && fmt == 2 then clampInt 4 1019 d else d))

/-- A pixel of the hatch by link format and range (R376). -/
def hatchPx (fmt enc x y : Nat) : List Int :=
  let light := decide ((x + y) % 64 < 32)
  if fmt = 2 then (if x % 2 = 0 then [if light then 502 else 64, 512, 512] else [if light then 502 else 64])
  else
    let v : Int := if enc = 1 then (if fmt = 1 then (if light then 126 else 16) else (if light then 502 else 64))
      else (if light then (if fmt = 1 then 128 else 512) else 0)
    [v, v, v]

/-- The part of gang or head line y that an output of a member carries, with the output's own line number (R352). -/
def memberPart (b : Body) (member y : Nat) (px : List (List Int)) : Option (Nat × List (List Int)) :=
  if member = 4 then some (y, px)
  else
    let half := tVact b / 2
    if y / half = member / 2 then
      some (y % half, if member % 2 = 0 then px.take (tHact b / 2) else px.drop (tHact b / 2))
    else none

/-- A line leaves on the DisplayPort and SDI outputs of a head that send; `hatch` replaces the pixels (R357, R376). -/
def State.sendLine (s : State) (h y : Nat) (px : List (List Int)) (hatch : Bool) : State :=
  let b := s.rasterOf h
  let enc := (s.head h).set.comp.u8 3
  (s.outsOf h).foldl (fun (s : State) e =>
    let i := e.1 % 256
    let sends := if e.1 / 256 = 0 then s.regBit .HD_DP_STAT i 29 else e.1 / 256 = 1 && s.regBit .HD_SDI_STAT i 30
    if !sends then s
    else
      match memberPart b (e.2.u8 4) y px with
      | none => s
      | some (line, part) =>
        let fmt := e.2.u8 5
        let w := if e.2.u8 4 = 4 then tHact b else tHact b / 2
        let out := if hatch then (List.range w).map (fun x => hatchPx fmt enc x line) else linkLine fmt (e.1 / 256 == 1) part
        s.emit (.video e.1 line out)) s

/-! ### LINE_SCAN (R131, R134, R142, R349) -/

/-- Draws the marks of the layers over a stage-10 line (R130, R131, R134). -/
def Head.markLine (x : Head) (b : Body) (y : Nat) (px : List (List Int)) : List (List Int) :=
  (List.range 8).foldl (fun (px : List (List Int)) l =>
    let g := (x.layer l).drawn.1
    match (if g = 0 then none else visRect (x.shadow l).cfg (tHact b) (tVact b)) with
    | none => px
    | some r =>
      if r.y0 ≤ y ∧ y ≤ r.y1 then
        let fg := markColour x.set.comp (stFg x.set.style)
        let bg := markColour x.set.comp (stBg x.set.style)
        px.zipIdx.map (fun e => match markAt x.set.style g r e.2 y with | some true => fg | some false => bg | none => e.1)
      else px) px

/-- The stage-11 lines of a frame in raster order, from the order they were scanned in. -/
def rasterOrder (b : Body) (lines : List (List (List Int))) : List (List (List Int)) :=
  let n := tVact b
  let idx := fun (y : Nat) =>
    if tFlag b 1 then (if y % 2 = 0 then y / 2 else n / 2 + y / 2)
    else if quadMap b then (if y < n / 2 then 2 * y else 2 * (y - n / 2) + 1)
    else y
  (List.range n).map (fun y => lines.getD (idx y) [])

/-- FRAME_CRC: CRC-32C of the stage-11 pixels in raster order, each component as 16 bits (R522). -/
def frameCrc (b : Body) (lines : List (List (List Int))) : Nat :=
  (crc32c (((rasterOrder b lines).map (fun l => (l.map (fun p => ((p.take 3).map (fun c => leBytes 2 c.toNat)).flatten)).flatten)).flatten)).toNat

/-- A FRAME_CRC of this device or of the duty is known: the two of one frame are compared once (R534). -/
def State.noteCrc (s : State) (h frame crc : Nat) (own : Bool) : State :=
  let x := s.head h
  let other := (if own then x.crcPeer else x.crcOwn).find? (fun e => e.1 == frame)
  let s1 := s.setHead h (if own then { x with crcOwn := ((frame, crc) :: x.crcOwn).take 128 } else { x with crcPeer := ((frame, crc) :: x.crcPeer).take 128 })
  match other with
  | none => s1
  | some e =>
    if e.2 = crc then s1.setBits .PAIR_HEAD_STAT h 29 24 (min 63 (s1.regBits .PAIR_HEAD_STAT h 29 24 + 1))
    else (s1.setBits .PAIR_HEAD_STAT h 29 24 0).bumpSat .PAIR_FCRC_DIFF h

/-- The head's last active line has been scanned: the history record is final, FRAME_CRC is known, SDI frames count (R150, R522). -/
def State.frameScanned (s : State) (h : Nat) : State :=
  let x := s.head h
  let b := s.rasterOf h
  let s1 := s.setHead h { x with hist := match x.hist with | r :: rs => { r with final := true } :: rs | [] => [] }
  let s2 := (s1.outsOf h).foldl (fun (s : State) e =>
    if e.1 / 256 = 1 && s.regBit .HD_SDI_STAT (e.1 % 256) 30 then s.bumpWrap .HD_SDI_FRAMES (e.1 % 256) else s) s1
  if !s2.paired || s2.outMode h == 2 then s2
  else
    let c := frameCrc b x.lines
    let f := x.frame.getD 0
    if s2.onDuty then s2.seam .frameCrc (leBytes 1 h ++ leBytes 6 f ++ leBytes 4 c) else s2.noteCrc h f c true

/-- Layers whose first line is about to be scanned: a header not yet read fails the fault check (R117), and a decision that
has not come is missed (R143). -/
def State.firstLines (s : State) (h i : Nat) : State :=
  let b := s.rasterOf h
  let x := s.head h
  let at0 := if tFlag b 1 then (if i < tVact b / 2 then x.v + i else fieldOffset x.v 1 + (i - tVact b / 2)) else if quadMap b then x.v + i / 2 else x.v + i
  (List.range 8).foldl (fun (s : State) l =>
    let s1 := match s.evaluable h l with
      | some (first, _) => if first ≤ at0 then
          ((((s.bumpSat .CNY_DEADLINE h).event 0x1007 ([BitVec.ofNat 8 h, BitVec.ofNat 8 l, 0#8, 0#8] ++ s.frameBytes h)).judge h l
            { glyph := 5, checks := 0x20, time := s.ptp }).fault (islCny h) fcCANARY 1 h []) else s
      | none => s
    match (s1.rectOf h l).bind (fun r => scanSpan b x.v (s1.fieldOf h) r) with
    | some (first, _) => if first ≤ at0 then s1.pairMiss h l else s1
    | none => s1) s

/-- LINE_SCAN: scan-out sends the next active line through the output stages and Flare to the links. `markBad` is a mismatch of
the CRC that Flare computes over the marks it draws (R142), `hatchBad` one of the hatch check of a drill (R542). A held head with a
fault on its path hatches from this line on (R376). -/
def execLineScan (h : Fin 24) (markBad hatchBad : Bool) (s0 : State) : Host.Outcome State Fault Refusal :=
  let s := if s0.outMode h == 1 && s0.headFault h then s0.startHatch h 1 else s0
  let b := s.rasterOf h
  let i := (s.head h).lines.length
  if !s.running h || s.gangMember h || (s.head h).frame.isNone || decide (tVact b ≤ i) then .next s
  else
    let finish := fun (s : State) =>
      let n := (s.head h).lines.length
      if n = tVact b then s.frameScanned h
      else if tFlag b 1 && n == tVact b / 2 && s.outMode h == 1 then s.setBit .HD_STAT h 29 true
      else if tFlag b 1 && n == tVact b / 2 then
        (List.range 8).foldl (fun (s : State) l => s.modLayer h l (fun r => { r with own := none, settled := false, drawn := (0, 0), mirror := none })) (s.setBit .HD_STAT h 29 true)
      else s
    if s.outMode h == 2 then
      let y := nthLine b i
      .next (finish ((s.sendLine h y [] true).modHead h (fun x => { x with lines := x.lines ++ [[]] })))
    else
      match (s.head h).fifo with
      | [] => .next s
      | f :: rest =>
        let s1 := if s.outMode h == 0 then s.firstLines h i else s
        let x := s1.head h
        let px10 := f.px.map (stage10 x.set.comp x.set.lut)
        let px := x.markLine b f.line px10
        let s2 := s1.setHead h { x with fifo := rest, lines := x.lines ++ [px] }
        let held := (rasterOrder b x.drillFrame.lines).getD f.line []
        let s3 := if x.drillPhase = 2 then s2.sendLine h f.line held false
          else if x.drillPhase = 3 then s2.sendLine h f.line [] true
          else s2.sendLine h f.line px false
        let s4 := if hatchBad ∧ x.drillPhase = 3 then (s3.modHead h (fun x => { x with drillOk := false })).fault (islSco h) fcDRILL 1 h [] else s3
        let s5 := if markBad && (List.range 8).any (fun l => (x.layer l).drawn.1 != 0) then s4.fault (islCny h) fcCANARY 1 h [] else s4
        .next (finish s5)

/-! ### HD_TIMING and HD_OUTPUT (R347, R356, R357) -/

/-- BADPARAM of an HD_TIMING body (R347). -/
def timingBad (s : State) (b : Body) : Bool :=
  let g := tFlag b 2
  let ha := tHact b
  let va := tVact b
  b.length != 28 || headBad s (b.u8 0) || decide (15 < b.u8 1) || decide (3 < b.u8 3) || (g && b.u8 0 % 4 != 0)
    || (tFlag b 0 && (
      (if g then decide (ha < 1280) || decide (7680 < ha) || ha % 4 != 0 || decide (va < 960) || decide (4320 < va) || va % 2 != 0
       else decide (ha < 640) || decide (3840 < ha) || ha % 2 != 0 || decide (va < 480) || decide (2160 < va))
      || decide (tHtot b < ha + (if g then 160 else 80)) || decide (ha + (if g then 8192 else 4096) < tHtot b)
      || tDen b == 0 || decide (tNum b * 1001 < 24000 * tDen b) || decide ((if g then 60 else 120) * tDen b < tNum b)
      || decide (64 < b.u8 2) || decide (va ≤ tLead b)
      || decide (tHtot b - ha ≤ b.u16 6 + b.u16 8) || decide (tVnom b ≤ b.u16 14 + b.u16 16)
      || decide (tDen b * 1000000000 < (tPhase b + 1) * tNum b)))

/-- HD_TIMING 0x4801: a head's or gang's raster, taken at the head's boundary (R356). -/
def execHdTiming (r : Req) (b : Body) (s : State) : Host.Outcome State Fault Refusal :=
  let f := s.fetchOf r 0x4801
  let rs := s.isRestarted
  let h := b.u8 0
  let e : Section := ⟨0x4801, h, b⟩
  command 0x4801 r s (if tFlag b 2 then (List.range 4).map (fun m => scopeHead (h + m)) else [scopeHead h]) (timingBad s b)
    { rej := (s.conf.edit [(h, [e])]).reject s }
    (fun s => (if tFlag b 2 then s.powerUpAll ((List.range 4).map (fun m => islandsOfHead (h + m))).flatten else s).armOne r 0x4801 f rs h e)

/-- BADPARAM of the addressing fields of a flow (R366, R367). -/
def flowFieldsBad (s : State) (b : Body) : Bool :=
  decide (15 < b.u8 10) || !s.macOnBoard (b.u8 10) || decide (63 < b.u8 34) || b.u8 35 == 0

/-- PEAK_KBPS of an encode channel's binding in force or waiting; 0 when unbound. -/
def State.peakOf (s : State) (c : Nat) : Nat := ((s.encBindings.find? (fun e => e.1 == c)).map (fun e => e.2.u32 20)).getD 0

/-- A field that the TYPE of an HD_OUTPUT body does not use is not 0 (its page; DEDUCED: such a parameter is invalid, R19). -/
def outputUnused (b : Body) : Bool :=
  match b.u8 0 with
  | 0 => !(b.zero 10 1 && b.zero 12 32)
  | 1 => !(b.zero 9 2 && b.zero 12 32)
  | 2 => !(b.zero 8 1 && b.zero 41 3)
  | _ => !(b.zero 4 2 && b.zero 8 2 && b.zero 12 2 && b.zero 36 5)

/-- BADPARAM of an HD_OUTPUT body (R357, R366, R372, R377). -/
def outputBad (s : State) (b : Body) : Bool :=
  let ty := b.u8 0
  let h := oHead b
  let on := b.u8 2 == 1
  b.length != 44 || decide (3 < ty) || decide (1 < b.u8 2) || !b.zero 6 2 || !b.zero 11 1 || outputUnused b
    || (if ty = 3 then h != 0xFF || decide (15 < b.u8 1) || (on && (flowFieldsBad s b || decide (100 * 1000 * b.le 41 3 < 105 * s.peakOf (b.u8 1))))
        else headBad s h)
    || (on && ty != 3 && ((s.channelOf h).isSome || (s.conf.virtualOf h).isSome || decide (4 < b.u8 4) || decide (2 < b.u8 5)
      || (match ty with
          | 0 => decide (4 < b.u8 8) || !([1, 2, 4].elem (b.u8 9))
          | 1 => !([1, 2, 4, 5].elem (b.u8 8))
          | _ => b.u8 5 == 1 || decide (2 < b.u8 9) || flowFieldsBad s b || decide (b.u16 12 < 200) || decide (1440 < b.u16 12)
                || b.u16 12 % (if b.u8 5 = 2 then 5 else 15) != 0 || decide (b.u8 40 < 96) || decide (127 < b.u8 40))))

/-- NORESOURCE of an HD_OUTPUT: no such transmitter, output or flow (R377, R574). -/
def State.outputNone (s : State) (b : Body) : Bool :=
  match b.u8 0 with
  | 0 => (s.dpQuad (b.u8 1)).isNone
  | 1 => !s.sdiOnBoard (b.u8 1)
  | 2 => decide (47 < b.u8 1)
  | _ => false

/-- Islands of the blocks that an enabled output needs: its MAC, its lanes, and for SDI the audio it embeds (R27, R561). -/
def State.islandsOfOut (s : State) (b : Body) : List Nat :=
  if b.u8 2 ≠ 1 then []
  else match b.u8 0 with
    | 0 => (s.dpLanes (b.u8 1)).map islLane
    | 1 => (s.sdiLanes (b.u8 1)).map islLane ++ [38]
    | _ => if 8 ≤ b.u8 10 then [20] else []

/-- HD_OUTPUT 0x4802: binds or unbinds an output, taken at the head's boundary; an encoded-stream flow has no head and is taken
at once (R356, R357; log 33). -/
def execHdOutput (r : Req) (b : Body) (s : State) : Host.Outcome State Fault Refusal :=
  let f := s.fetchOf r 0x4802
  let rs := s.isRestarted
  let h := oHead b
  let e : Section := ⟨0x4802, b.u8 0 * 256 + b.u8 1, b⟩
  command 0x4802 r s [if b.u8 0 = 3 then scopeChan (b.u8 1) else scopeHead h] (outputBad s b)
    { noRes := s.outputNone b
      rej := (s.conf.edit [(h, [e])]).reject s }
    (fun s =>
      let s1 := s.powerUpAll (s.islandsOfOut b)
      if b.u8 0 = 3 then done ((s1.takeOut b).storeEdit s1.storeSlot 0x4802 b) else s1.armOne r 0x4802 f rs h e)

/-! ### DisplayPort links (R361 to R363) -/

/-- HD_DP_AUX 0x4810: a DPCD or I2C transaction. `answer` is the sink's final answer after retries (0 ACK, 1 NACK, 2 DEFER,
3 timeout) and `data` what it returns (R362). -/
def execHdDpAux (r : Req) (b : Body) (answer : Fin 4) (data : List Byte) (s : State) : Host.Outcome State Fault Refusal :=
  let d := b.u8 0
  let op := b.u8 1
  let len := b.u8 2
  let a := b.u32 4 % 2 ^ 20
  let bound := s.regBit .HD_DP_STAT d 31
  let write := op == 1 || op == 3
  command 0x4810 r s (if write then [if bound then scopeHead (s.regBits .HD_DP_STAT d 28 24) else 0] else [])
    (b.length != 24 || decide (15 < d) || (s.dpQuad d).isNone || decide (3 < op) || len == 0 || decide (16 < len) || !b.zero 3 1
      || (op == 1 && bound && decide (a ≤ 0x1FF) && decide (0x100 < a + len)))
    {}
    (fun s =>
      let n := if answer.val = 0 then len else 0
      .now (s.emit (.aux d op (if op < 2 then a else b.u32 4)
        (if write then (b.drop 8).take len else leBytes 1 len))) .OK
        (leBytes 1 answer.val ++ leBytes 1 n ++ leBytes 2 0 ++
          (if write then List.replicate 16 0#8 else takePad 16 (data.take n))))

/-- DP_HPD_CHANGE: a debounced change of HPD: 0 unplug, 1 plug with what the sink reports, 2 IRQ_HPD with the link status
(R361, R363). -/
def execDpHpdChange (d : Fin 16) (what : Fin 3) (sink : SinkCaps) (lostLock : Bool) (s : State) : Host.Outcome State Fault Refusal :=
  if (s.dpQuad d).isNone then .next s
  else
    let s1 := (s.bumpSat .HD_DP_HPD_CNT d).event 0x4801 [BitVec.ofNat 8 d.val, BitVec.ofNat 8 what.val]
    let setSink := fun (s : State) (x : DpSink) => { s with hd := { s.hd with sinks := Tbl.set s.hd.sinks d x } }
    if what.val = 0 then .next (setSink ((s1.dpOff d).setBit .HD_DP_STAT d 30 false) {})
    else if what.val = 1 then
      .next ((setSink (s1.setBit .HD_DP_STAT d 30 true) { (default : DpSink) with rate := sink.rate, lanes := sink.lanes, edid := sink.edid.take 512 }).startTraining d)
    else if s1.regBit .HD_DP_STAT d 29 then
      if lostLock then
        .next (((s1.event 0x4802 [BitVec.ofNat 8 d.val, 0#8, BitVec.ofNat 8 (s1.regBits .HD_DP_STAT d 23 20), BitVec.ofNat 8 (s1.regBits .HD_DP_STAT d 19 17)]).bumpSat .HD_DP_RETRAIN d).startTraining d)
      else .next s1
    else .next (s1.startTraining d)

/-- DP_LINK_TRAIN_DONE: training ends at the rate being tried, or falls back to the next lower one that passes R360 (R363). -/
def execDpLinkTrainDone (d : Fin 16) (ok : Bool) (s : State) : Host.Outcome State Fault Refusal :=
  let o := s.outBody d
  let rate := s.regBits .HD_DP_STAT d 23 20
  if o.isEmpty || !s.regBit .HD_DP_STAT d 30 || s.regBit .HD_DP_STAT d 29 || rate == 15 then .next s
  else if ok then
    let s1 := ((s.dpLanes d).take (o.u8 9)).foldl (fun (s : State) l => s.setLaneRate l (dpMbps rate) true) (s.setBit .HD_DP_STAT d 29 true)
    .next (s1.event 0x4802 [BitVec.ofNat 8 d.val, 1#8, BitVec.ofNat 8 rate, BitVec.ofNat 8 (o.u8 9)])
  else
    match s.dpRateFrom o (rate + 1) with
    | some r => .next (s.setBits .HD_DP_STAT d 23 20 r)
    | none =>
      let top := max (o.u8 8) (max (s.sink d).rate (((s.dpQuad d).map (qDpMax s.board)).getD 0))
      .next ((s.dpOff d).event 0x4803 [BitVec.ofNat 8 d.val, BitVec.ofNat 8 top, 1#8])

end Sys2Proof.Machine
end

