-- ==== Sys2Proof/Machine/Flows.lean ====
section
/-! DEFINITION. What leaves a MAC: ST 2110-20 flows (R366 to R369, R534, R535), send streams (R429), encoded-stream flows (R372),
injected frames (R168), and the order in which a MAC sends them (R370). -/

namespace Sys2Proof.Machine

/-! ### ST 2110-20 flows (R366 to R369, R534, R535) -/

/-- 10-bit samples packed most significant bit first. -/
def pack10 (l : List Int) : List Byte := packBits (10 * l.length) ((l.map (fun v => msbBits 10 v.toNat)).flatten)

/-- Bytes of a line on a flow: pgroups of Cb, Y, Cr, Y or of four R'G'B' pixels (R366). -/
def flowLine (fmt : Nat) (px : List (List Int)) : List Byte :=
  let l := linkLine fmt true px
  if fmt = 2 then
    pack10 (((List.range (l.length / 2)).map (fun k =>
      let a := l.getD (2 * k) []
      [a.getD 1 0, a.getD 0 0, a.getD 2 0, (l.getD (2 * k + 1) []).getD 0 0])).flatten)
  else pack10 l.flatten

/-- Device is aligned on a head with the duty (R531). -/
def State.aligned (s : State) (h : Nat) : Bool :=
  s.regBit .PAIR_STATUS 0 19 && s.regBit .PAIR_STATUS 0 20 && decide (60 ≤ (s.head h).agreed) && decide ((s.head h).gridK ≤ (s.head h).agreedK + 1)

/-- Why a standby withholds a head's flows for the current frame, by the reason codes of PAIR_FRAME_DIFF (R534, R542). -/
def State.withholdReason (s : State) (h : Nat) : Option Nat :=
  let x := s.head h
  let ls := (List.range 8).map (fun l => x.layer l)
  if !s.aligned h then some 3
  else if x.latchWait.isSome || ls.any (fun r => r.miss && !r.settled) then some 0
  else if ls.any (fun r => r.miss) then some 1
  else if ls.any (fun r => r.differs) then some 4
  else if s.regBits .PAIR_HEAD_STAT h 29 24 < 8 then some 2
  else if x.drillPhase ≠ 0 then some 3 else none

/-- The decision whether a standby sends a head's current frame, made with its first packet (R534). -/
def State.decideSend (s : State) (h : Nat) : State :=
  if !s.isStandby || (s.head h).withheld then s
  else
    match s.withholdReason h with
    | none => s.setBit .PAIR_HEAD_STAT h 30 true
    | some k =>
      let s1 := (s.modHead h (fun x => { x with withheld := true })).setBit .PAIR_HEAD_STAT h 30 false
      (s1.addSatBits .PAIR_HEAD_STAT h 23 0 1).eventPerSec 0x7805 h 1 (fun n => [BitVec.ofNat 8 h, BitVec.ofNat 8 k, 0#8, 0#8] ++ leBytes 4 n)

/-- The device sends IP outputs in its present state (R92, R523). -/
def State.ipOn (s : State) : Bool := s.boot.taken && ((s.pairState == 0 && !s.regBit .HD_OUT_STATUS 0 31) || s.pairState == 3 || s.pairState == 2)

/-- The frame a flow sends from: its own until all packets are out, then the head's current one; with its lines, whether it is
the current one, and the packets already sent of it. -/
def State.flowFrame (s : State) (h f n : Nat) : Option (ScanFrame × Bool × Nat) :=
  let x := s.head h
  let fl := s.flow f
  match x.frame with
  | none => none
  | some cur =>
    let now : ScanFrame := { frame := cur, flip := x.flip, v := x.v, k := x.gridK, lines := x.lines }
    if fl.frame = some cur then (if fl.sent < n then some (now, true, fl.sent) else none)
    else if fl.frame = some x.prev.frame ∧ fl.sent < n then some (x.prev, false, fl.sent)
    else some (now, true, 0)

/-- The next packet of a flow whose line has been scanned: the frame it belongs to, whether that is the current one, the packets sent of
it, and the packet's place. -/
structure FlowNext where
  fr : ScanFrame
  current : Bool
  sent : Nat
  /-- packets per line, and per frame or field -/
  p : Nat
  np : Nat
  /-- field, its line, packet of the line, and the index of the scanned line -/
  field : Nat
  yf : Nat
  i : Nat
  row : Nat
  /-- PTP time of the frame or field, and the scheduled departure, the first whole ns not before it -/
  tb : Nat
  at0 : Nat

/-- Scheduled departure of packet i of line y behind `base` lines of blanking, from the frame boundary in ns rounded up (R368); a frame
has n packets in all. -/
def departure (lb : Body) (shaping p n base y i : Nat) : Nat :=
  let unit := tDen lb * 1000000000
  let per := max 1 (tNum lb) * max 1 (tVtot lb)
  match shaping with
  | 1 => ceilDiv (((base + 1) * n + (p * y + i) * tVtot lb) * unit) (per * max 1 n)
  | 2 => ceilDiv ((base + 1 + y) * unit) per
  | _ => ceilDiv (((base + 1 + y) * p + i) * unit) (per * p)

/-- The next packet of flow f, where the device sends it and its line has been scanned. -/
def State.flowNext (s : State) (f : Nat) : Option FlowNext :=
  let o := s.outBody (512 + f)
  let h := oHead o
  let b := s.rasterOf h
  let t := memberRaster b (o.u8 4)
  let p := max 1 (flowP o (tHact t))
  let n := p * tVact t
  if o.isEmpty || !s.ipOn || s.outMode h != 0 then none
  else
    match s.flowFrame h f n with
    | none => none
    | some (fr, current, sent) =>
      let y := sent / p
      let il := tFlag b 1
      let field := if il && decide (tVact t / 2 ≤ y) then 1 else 0
      let yf := if field = 1 then y - tVact t / 2 else y
      let base := fieldOffset fr.v field
      let row := if il then y else if o.u8 4 = 4 then y else 2 * y + o.u8 4 / 2
      if fr.lines.length ≤ row then none
      else some {
        fr := fr, current := current, sent := sent, p := p, np := if il then n / 2 else n, field := field, yf := yf, i := sent % p, row := row
        tb := if field = 1 then fr.flip + linesNs (lineRaster b) (base - 23) else fr.flip
        at0 := fr.flip + departure (lineRaster b) (o.u8 9) p n base yf (sent % p) }

/-- Cost of a packet at a flow's guard, in units of which one line, or one frame, gives a packet's share per ns (R369). -/
def flowCost (b : Body) : Nat := max 1 (tDen b) * 1000000000

/-- Units that a flow's guard gains per ns: P packets per line for N and W, all packets of a frame per frame for NL (R369). -/
def flowGain (b : Body) (o : Body) : Nat :=
  let t := memberRaster b (o.u8 4)
  let p := max 1 (flowP o (tHact t))
  tNum b * p * (if o.u8 9 = 1 then tVact t else tVtot (lineRaster b))

/-- What a flow's guard holds: 4 packets at most, or P packets for W (R369). -/
def State.flowLevel (s : State) (f : Nat) : Nat :=
  let o := s.outBody (512 + f)
  let b := s.rasterOf (oHead o)
  let p := max 1 (flowP o (tHact (memberRaster b (o.u8 4))))
  let depth := (if o.u8 9 = 2 then p else 4) * flowCost b
  let fl := s.flow f
  if fl.frame.isNone then depth else min depth (fl.tokens + (s.now - fl.tokensAt) * flowGain b o)

/-- A standby does not send the frame of a packet (R534). -/
def State.flowWithheld (s : State) (h : Nat) (current : Bool) : Bool :=
  s.isStandby && (if current then (s.head h).withheld || (s.withholdReason h).isSome else (s.head h).prevWithheld)

/-- Scheduled time of the packet of flow f that could leave now. -/
def State.flowDue (s : State) (f : Nat) : Option Nat :=
  match s.flowNext f with
  | none => none
  | some x =>
    let h := oHead (s.outBody (512 + f))
    if x.at0 ≤ s.ptp ∧ !s.flowWithheld h x.current ∧ flowCost (s.rasterOf h) ≤ s.flowLevel f then some x.at0 else none

/-- The flow of a MAC whose packet goes first: the earliest scheduled one, the lower flow number on equal times (R370). -/
def State.flowFirst (s : State) (mac : Nat) : Option Nat :=
  ((List.range 48).foldl (fun (m : Option (Nat × Nat)) f =>
    if (s.outBody (512 + f)).isEmpty ∨ (s.outBody (512 + f)).u8 10 ≠ mac then m
    else
      match s.flowDue f, m with
      | none, _ => m
      | some t, none => some (t, f)
      | some t, some e => if t < e.1 then some (t, f) else m) none).map (fun e => e.2)

/-- FLOW_PACKET_SEND: the next packet of flow f leaves, at its scheduled time, through the guard, and in its MAC's order (R366 to R370). -/
def execFlowPacketSend (f : Fin 48) (s : State) : Host.Outcome State Fault Refusal :=
  let o := s.outBody (512 + f)
  let h := oHead o
  let b := s.rasterOf h
  match s.flowNext f with
  | none => .next s
  | some x =>
    if s.ptp < x.at0 then .next s
    else
      let s0 := if x.current then s.decideSend h else s
      let fl := s0.flow f
      if s0.flowWithheld h x.current then
        .next ((s0.setFlow f { fl with frame := some x.fr.frame, sent := x.np * (if tFlag b 1 then 2 else 1) }).setBit .HD_FLOW_STAT f 30 false)
      else if s0.flowLevel f < flowCost b then
        if fl.held then .next s0
        else .next ((((s0.setFlow f { fl with held := true }).bumpSat .HD_FLOW_GUARD f).eventPerSec 0x4804 f 1 (fun c => [BitVec.ofNat 8 f.val, 0#8, 0#8, 0#8] ++ leBytes 4 c)).fault
          (islSco h) fcFLOW_GUARD 1 h [])
      else if s0.flowFirst (o.u8 10) ≠ some f.val then .next s0
      else
        let k := if tFlag b 1 then 2 * x.fr.k + x.field else x.fr.k
        let seq := if s0.paired then (k * x.np + x.sent % x.np) % 2 ^ 32 else fl.nextSeq
        let part := match memberPart b (o.u8 4) (nthLine b x.row) (x.fr.lines.getD x.row []) with | some e => e.2 | none => []
        let pb := o.u16 12
        let pay := ((flowLine (o.u8 5) part).drop (x.i * pb)).take pb
        let off := if o.u8 5 = 2 then x.i * pb / 5 * 2 else x.i * pb / 15 * 4
        let srd := beBytes 2 (seq / 65536) ++ beBytes 2 pay.length ++ beBytes 2 (x.yf + 32768 * x.field) ++ beBytes 2 off
        let pkt := wirePacket o (s0.macAddr (o.u8 10)) f seq
          (rtpHeader (decide (x.sent % x.np + 1 = x.np)) (o.u8 40) (seq % 65536) (rtpTs 90000 x.tb) (o.be 36 4) ++ srd ++ pay)
        let s1 := s0.setFlow f { fl with frame := some x.fr.frame, sent := x.sent + 1, nextSeq := (seq + 1) % 2 ^ 32, held := false
                                         tokens := s0.flowLevel f - flowCost b, tokensAt := s0.now }
        let s2 := ((s1.setBit .HD_FLOW_STAT f 30 true).bumpWrap .HD_FLOW_PKTS f).setReg .HD_FLOW_SEQ f (BitVec.ofNat 32 seq)
        .next (s2.emit (.packet (o.u8 10) 20 pkt))

/-! ### Send streams (R429) -/

/-- What the guard of a send stream holds: two packets at most, one more per packet time (R429). -/
def State.txLevel (s : State) (t : Nat) : Nat :=
  let x := s.txs t
  min (2 * txCost x.cfg) (x.tokens + (s.now - x.tokensAt) * strHz x.cfg)

/-- Send stream t has a packet that could leave now. -/
def State.txDue (s : State) (t : Nat) : Bool := !(s.txs t).ready.isEmpty && s.txSends t && decide (txCost (s.txs t).cfg ≤ s.txLevel t)

/-- A send stream of a MAC has a packet that could leave now. -/
def State.txFirst (s : State) (mac : Nat) : Bool := s.aud.tx.any (fun e => e.2.bound && e.2.cfg.u8 3 == mac && s.txDue e.1)

/-- AUD_TX_PACKET_SEND: the packet of a packet time leaves through the guard of one packet per packet time, depth 2 (R429), behind the
ST 2110-20 packets of its MAC (R370). Its sequence number counts packets, or in a pair is its first house sample's packet index
(R538). -/
def execAudTxPacketSend (t : Fin 128) (s : State) : Host.Outcome State Fault Refusal :=
  let x := s.txs t
  match x.ready with
  | [] => .next s
  | (vs, first, at0) :: rest =>
    let b := x.cfg
    if s.txLevel t < txCost b || (s.txSends t && (s.flowFirst (b.u8 3)).isSome) then .next s
    else
      let seq := if s.paired then first / max 1 (strSpp b) % 65536 else x.seq
      let x1 := { x with ready := rest, seq := (x.seq + 1) % 65536, tokens := s.txLevel t - txCost b, tokensAt := s.now }
      let s1 := { s with aud := { s.aud with tx := Tbl.set s.aud.tx t x1 } }
      if !s.txSends t then .next s1
      else
        .next ((s1.bumpWrap .AUD_TX_PKTS t).emit (.packet (b.u8 3) 3 (wirePacket b (s.macAddr (b.u8 3)) (128 + t) seq
          (rtpHeader false (b.u8 40) seq (rtpTs (strHz b) at0) (b.be 36 4) ++ ((vs.map (fun l => (l.map (wireSample (strL24 b))).flatten)).flatten)))))

/-! ### Encoded-stream flows (R372) -/

/-- Wire bits of a packet: its frame check sequence, preamble and gap with it (R372). -/
def wireBits (p : List Byte) : Nat := 8 * (p.length + 24)

/-- Thousandths of a bit that a channel's guard holds before a packet of some bits: SEND_KBPS, a depth of two such packets (R372). -/
def State.eflowLevel (s : State) (c bits : Nat) : Nat :=
  let fl := s.flow (64 + c)
  if fl.frame.isNone then 2000 * bits else min (2000 * bits) (fl.tokens + (s.now - fl.tokensAt) * (s.outBody (768 + c)).le 41 3)

/-- Channel c has a packet that could leave now. -/
def State.encDue (s : State) (c : Nat) : Bool :=
  !(s.outBody (768 + c)).isEmpty && s.ipOn &&
    match (s.flow (64 + c)).queue with
    | [] => false
    | p :: _ => decide (1000 * wireBits p ≤ s.eflowLevel c (wireBits p))

/-- The lowest channel of a MAC with a packet that could leave now (R370). -/
def State.encFirst (s : State) (mac : Nat) : Option Nat :=
  (List.range 16).find? (fun c => (s.outBody (768 + c)).u8 10 == mac && s.encDue c)

/-- ENC_FLOW_PACKET_SEND: the next packet of a channel's encoded stream leaves through its SEND_KBPS guard of 2 packets, behind the
ST 2110-20 and ST 2110-30 packets and the lower channels of its MAC (R370, R372). -/
def execEncFlowPacketSend (c : Fin 16) (s : State) : Host.Outcome State Fault Refusal :=
  let o := s.outBody (768 + c)
  let f := 64 + c.val
  let fl := s.flow f
  if o.isEmpty || !s.ipOn then .next s
  else
    match fl.queue with
    | [] => .next s
    | pkt :: rest =>
      if s.eflowLevel c (wireBits pkt) < 1000 * wireBits pkt then
        if fl.held then .next s
        else .next (((s.setFlow f { fl with held := true }).bumpSat .HD_EFLOW_GUARD c).eventPerSec 0x4804 f 1 (fun n => [BitVec.ofNat 8 f, 0#8, 0#8, 0#8] ++ leBytes 4 n))
      else if (s.flowFirst (o.u8 10)).isSome || s.txFirst (o.u8 10) || s.encFirst (o.u8 10) != some c.val then .next s
      else
        let s1 := s.setFlow f { fl with queue := rest, held := false, frame := some 0, tokens := s.eflowLevel c (wireBits pkt) - 1000 * wireBits pkt, tokensAt := s.now }
        .next ((s1.setBit .HD_EFLOW_STAT c 30 true).emit (.packet (o.u8 10) 21 pkt))

/-! ### Injected frames (R168) -/

/-- INJECT_FRAME_SENT: the oldest queued frame for a MAC leaves it with the FCS that the MAC adds, behind everything else that the MAC
could send (R168, R370); after the last MAC the command is answered. It leaves a MAC that is not enabled too (DESIGN CHOICE, log 170:
the spec does not say). -/
def execInjectFrameSent (mac : Fin 16) (s : State) : Host.Outcome State Fault Refusal :=
  match s.ing.inject.find? (fun q => q.macs.contains mac.val) with
  | none => .next s
  | some q =>
    if (s.flowFirst mac).isSome || s.txFirst mac || (s.encFirst mac).isSome then .next s
    else
      let q1 := { q with macs := q.macs.filter (· != mac.val) }
      let s1 := s.emit (.packet mac 0 (q.bytes ++ fcs q.bytes))
      if q1.macs.isEmpty then
        let s2 := ({ s1 with ing := { s1.ing with inject := s1.ing.inject.erase q } }).bumpSat .ING_INJECT_CNT 0
        .next (s2.replyR q.req 0x2021 0 0 q.restarted [])
      else .next { s1 with ing := { s1.ing with inject := s1.ing.inject.map (fun z => if z = q then q1 else z) } }

end Sys2Proof.Machine
end

