-- ==== Sys2Proof/Machine/Encoder.lean ====
section
/-! DEFINITION. The live encoder (R262 to R306): the picture clock (R268, R269), the frame taken and its status (R274 to
R277), key pictures (R288 to R291), the liveness SEI (R292, R293), QP and the cap bucket (R284 to R286), fill rows and repeat
pictures (R278 to R280), RTP output (R296, R297), statistics (R294, R295), the mirrored decisions of a pair (R299, R300), and
the commands of group 0x38. What the coding engines make of a row comes as the row's operand. -/

namespace Sys2Proof.Machine

/-! ### Fields of an ENC_CHANNEL body -/

/-- DELAY_ROWS. -/
def eDelay (b : Body) : Nat := b.u16 6
/-- WIDTH. -/
def eW (b : Body) : Nat := b.u16 8
/-- HEIGHT. -/
def eH (b : Body) : Nat := b.u16 10
/-- RATE_NUM. -/
def eNum (b : Body) : Nat := b.u16 12
/-- RATE_DEN. -/
def eDen (b : Body) : Nat := b.u16 14
/-- PHASE_NS. -/
def ePhase (b : Body) : Nat := b.u32 16
/-- PEAK_KBPS. -/
def ePeak (b : Body) : Nat := b.u32 20
/-- BUF_BITS. -/
def eBuf (b : Body) : Nat := b.u32 24
/-- Input is a virtual head. -/
def eVirtual (b : Body) : Bool := b.u8 2 == 1
/-- A FLAGS bit: 0 PREANALYSIS, 1 STATS, 2 PROFILE. -/
def eFlag (b : Body) (k : Nat) : Bool := (b.u8 31).testBit k
/-- CTU rows, R_rows (R269). -/
def eRows (b : Body) : Nat := ceilDiv (eH b) 64
/-- CTUs in a row. -/
def eCols (b : Body) : Nat := ceilDiv (eW b) 64
/-- PEs of the channel, n (R40). -/
def ePes (b : Body) : Nat := (encNeed b).1
/-- Low-delay mode (R272). -/
def eLow (b : Body) : Bool := decide (eDelay b < eRows b)
/-- FORMAT of the reconstructed pictures. -/
def eFormat (b : Body) : Nat := if eFlag b 2 then 0x20 else 0x21

/-! ### The picture clock (R268, R269) -/

/-- t_k. -/
def eTk (b : Body) (k : Nat) : Nat := k * eDen b * 1000000000 / max 1 (eNum b) + ePhase b
/-- Time of n lines of the channel's active picture, rounded down. -/
def eLines (b : Body) (n : Nat) : Nat := n * eDen b * 1000000000 / max 1 (eNum b * eH b)
/-- t_in(r) of the picture that starts at t_k. -/
def eTinAt (b : Body) (tk r : Nat) : Nat := tk + eLines b (min (64 * (r + 1)) (eH b))
/-- t_in(r) of picture k. -/
def eTin (b : Body) (k r : Nat) : Nat := eTinAt b (eTk b k) r
/-- The fixed delay Δ. -/
def eDelta (b : Body) : Nat := eLines b ((ePes b + eDelay b) * 64) + 12000
/-- t_out(r) of the picture that starts at t_k. -/
def eToutAt (b : Body) (tk r : Nat) : Nat := eTinAt b tk r + eDelta b
/-- t_out(r) of picture k. -/
def eTout (b : Body) (k r : Nat) : Nat := eToutAt b (eTk b k) r
/-- The first picture of a channel's grid whose t_in(0) is not yet past. -/
def eFirst (b : Body) (t : Nat) : Nat :=
  let k := (t - ePhase b) * eNum b / (max 1 (eDen b) * 1000000000)
  if t ≤ eTin b k 0 then k else k + 1

/-! ### Channels -/

/-- STATE of a channel (R305). -/
def State.chanState (s : State) (c : Nat) : Nat := s.regBits .ENC_CH_STAT c 31 30
/-- Moves a channel to a state and raises ENC_STATE (R305, R306). -/
def State.setChanState (s : State) (c st cause : Nat) : State :=
  (((s.setBits .ENC_CH_STAT c 31 30 st).setBit .ENC_STATUS 0 (16 + c) (decide (2 ≤ st))).setBit .ENC_STATUS 0 c (st == 3)).event 0x3801
    [BitVec.ofNat 8 c, BitVec.ofNat 8 st, BitVec.ofNat 8 cause]

/-! ### Key requests (R288, R299, R537) -/

/-- A key request reaches a channel's latch at PTP time t; one that joins another for the same picture is counted. Answers
whether it was coalesced. -/
def State.keyRequest (s : State) (c cause type t : Nat) : Bool × State :=
  let x := s.chan c
  let tk := eTk x.cfg x.nextK
  let co := x.latch.any (fun q => decide (q.time < tk) == decide (t < tk))
  let s1 := if co then s.bumpSat .ENC_CH_KEY_OVR c else s
  (co, s1.setChan c { x with latch := x.latch ++ [{ cause := cause, type := type, time := t }] })

/-- A KEY_REQ record to the duty: channel mask, cause and type (R299, R522). -/
def State.forwardKey (s : State) (mask cause type : Nat) : State :=
  s.seam .keyReq (leBytes 2 mask ++ leBytes 1 cause ++ leBytes 1 type)

/-- Key requests on a mask of channels, or their forwarding by a standby (R299); answers the coalesced ones. -/
def State.keyRequests (s : State) (mask cause type : Nat) : Nat × State :=
  if s.isStandby then (0, s.forwardKey mask cause type)
  else (maskBits mask 16).foldl (fun (a : Nat × State) c =>
    if (a.2.chan c).bound then
      let r := a.2.keyRequest c cause type a.2.ptp
      (if r.1 then a.1 ||| 2 ^ c else a.1, r.2)
    else a) (0, s)

/-- A pair-requested key picture reaches the duty's latch, or is held back by KEY_HOLDOFF_MS (R300, R537). -/
def State.pairKey (s : State) (c : Nat) : State :=
  let hold := s.regBits .PAIR_CFG 0 15 0
  if !(s.chan c).bound then s
  else if hold = 0 then (s.keyRequest c 3 0 s.ptp).2
  else s.modChan c (fun x => { x with heldKey := some (x.heldKey.getD (s.ptp + hold * ms)) })

/-! ### Taking a binding (R301 to R303) -/

/-- The changes of R302 end the sequence: INPUT, HEAD, PROFILE, geometry, rate, phase, delay, cap and bin rate. -/
def newSequence (a b : Body) : Bool :=
  a.u8 2 != b.u8 2 || a.u8 3 != b.u8 3 || eFlag a 2 != eFlag b 2 || (a.drop 6).take 22 != (b.drop 6).take 22 || a.u16 50 != b.u16 50

/-- A replacement needs reference buffers of another size or format. -/
def newBuffers (a b : Body) : Bool := a.isEmpty || eFlag a 2 != eFlag b 2 || (a.drop 8).take 4 != (b.drop 8).take 4

/-- The channel lets go of the frame it holds. -/
def State.dropTaken (s : State) (c : Nat) : State :=
  let x := s.chan c
  let s1 := match s.poolOfSource (x.cfg.u16 4) with
    | some k => (s.modPool k (fun p => p.unpin (32 + c))).collect k
    | none => s
  s1.modChan c (fun x => { x with taken := none, takenAt := none, takenOpen := false, everFull := false, tSeq := 0, crc := none, tCrc := 0, distrust := false })

/-- The virtual head of a binding starts on the picture clock, or stops (R262, ENC_CHANNEL). -/
def State.startVirtual (s : State) (b : Body) : State :=
  if eVirtual b then
    let h := b.u8 3
    (s.modHead h (fun x => { x with nextB := virtualNext (s.rasterOf h) s.ptp, frame := none })).showHead h
  else s

/-- Registers that show a binding (R305). -/
def State.showChan (s : State) (c : Nat) : State :=
  let b := (s.chan c).cfg
  ((((s.setBit .ENC_CH_STAT c 29 (eVirtual b)).setBits .ENC_CH_STAT c 15 8 (eDelay b)).setBit .ENC_CH_STAT c 7 (eLow b)).setBit .ENC_CH_STAT c 6
    (eFlag b 0)).setReg .ENC_CH_DELAY_NS c (BitVec.ofNat 32 (eDelta b))

/-- The reference pool of a binding that needs other buffers: those allocated when it was armed (R301). -/
def State.adoptBufs (s : State) (c : Nat) (b : Body) (bufs : List Nat) : State :=
  let o := (s.pool (poolEnc c)).leftover
  (s.releaseAll o.2).setPool (poolEnc c) { newPool bufs 0xFFFF (eW b) (eH b) (eFormat b) 0 2 with old := o.1 }

/-- A binding comes into force: buffers, input, clock, engines and registers. -/
def State.applyChan (s : State) (c : Nat) (b : Body) (bufs : List Nat) : State :=
  let x := s.chan c
  let fresh := !x.bound
  let seq := !fresh && newSequence x.cfg b
  let src := fresh || x.cfg.u16 4 != b.u16 4 || x.cfg.u8 2 != b.u8 2
  let head := fresh || x.cfg.u8 2 != b.u8 2 || x.cfg.u8 3 != b.u8 3 || (x.cfg.drop 8).take 12 != (b.drop 8).take 12
  let s1 := if src then s.dropTaken c else s
  let s2 := if newBuffers x.cfg b && !bufs.isEmpty then s1.adoptBufs c b bufs
    else if newBuffers x.cfg b then
      match s1.allocMany (zlcSize (eW b) (eH b) (eFormat b)) 4 with
      | some (l, s2) => s2.adoptBufs c b l
      | none => s1.adoptBufs c b []
    else s1.releaseAll bufs
  let s3 := s2.modChan c (fun x =>
    let y : EncChan := if fresh then { second := x.second, next := x.next, slot := x.slot } else x
    { y with bound := true, cfg := b
             nextK := if fresh || seq then eFirst b s.ptp else x.nextK
             needKey := if fresh then some 4 else if seq then some 5 else x.needKey
             stats := if newBuffers x.cfg b then [] else x.stats
             recon := if newBuffers x.cfg b then [] else x.recon
             fill := min y.fill (eBuf b - 8192) })
  let s4 := if head && !fresh && eVirtual x.cfg then (s3.stopHead (x.cfg.u8 3)).showHead (x.cfg.u8 3) else s3
  let s5 := if head then s4.startVirtual b else s4
  s5.showChan c

/-- The channel ends: nothing of it remains but the counters (R303). -/
def State.endChan (s : State) (c : Nat) : State :=
  let x := s.chan c
  let s1 := (s.dropTaken c).freePool (poolEnc c)
  let s2 := s1.setChan c { (default : EncChan) with second := x.second, next := x.next }
  let s3 := if eVirtual x.cfg then (s2.stopHead (x.cfg.u8 3)).showHead (x.cfg.u8 3) else s2
  let s4 := ((s3.dropJobs (fun o _ => o == c)).takeEngines c false).refill
  ((s4.setBits .ENC_CH_STAT c 29 0 0).setReg .ENC_CH_DELAY_NS c 0#32).setChanState c 0 1

/-- The encoded-stream flow of a channel changes with the channel when a profile switches it (R86). -/
def State.flowProfile (s : State) (n c : Nat) : State :=
  let es := (s.slot n).sections.filter (fun e => e.opcode == 0x4802 && e.inst == 768 + c)
  let o := s.outBody (768 + c)
  if es.isEmpty then (if o.isEmpty then s else s.takeOut (o.set 2 0#8)) else es.foldl (fun (s : State) e => s.takeOut e.body) s

/-- A channel has taken an armed ENC_CHANNEL: the waiting command, the profile, the stored copy (R24, R73, R86, R91). -/
def State.tookChan (s : State) (c : Nat) (a : ChanArm) : State :=
  let t := s.ptp
  let s1 := match a.slot with
    | some n => (s.modChan c (fun x => { x with slot := some n })).flowProfile n c
    | none => s.storeEdit (s.chan c).slot 0x3801 a.body
  let s2 := match a.cmd with
    | some id => s1.stepWaiter id (fun w => { w with chans := w.chans.erase c, chansTaken := w.chansTaken ||| 2 ^ c, first := some (w.first.getD t), last := t })
    | none => s1
  match a.slot with
  | some n => s2.profileTook n (32 + c) false t
  | none => s2

/-- The armed set of a channel is taken at its picture start; the one behind it moves up when SECOND_SET_ARM runs (R73). An
unbind ends the pictures; the end-of-bitstream packet is due at the following output time (R303). -/
def State.takeChan (s : State) (c : Nat) (a : ChanArm) : State :=
  let x := s.chan c
  let s1 := s.modChan c (fun x => { x with next := none })
  let s2 := if a.body.u8 1 = 1 then s1.applyChan c a.body a.bufs
    else if x.pic = 0 then s1.endChan c
    else s1.modChan c (fun x => { x with eob := some (eTout x.cfg x.nextK 0, eTk x.cfg x.nextK - ePhase x.cfg) })
  s2.tookChan c a

/-- An ENC_CHANNEL comes to the front of a channel; an unbound channel takes a binding at once (R301). -/
def State.armChanFirst (s : State) (c : Nat) (a : ChanArm) : State :=
  let x := s.chan c
  if !x.bound then
    if a.body.u8 1 = 1 then ((s.applyChan c a.body a.bufs).setChanState c 1 0).tookChan c a else s.tookChan c a
  else s.setChan c { x with next := some a }

/-- Arms an ENC_CHANNEL for a channel; behind an untaken one, or those that wait for SECOND_SET_ARM, it waits its turn (R73). -/
def State.armChan (s : State) (c : Nat) (a : ChanArm) : State :=
  let x := s.chan c
  if x.next.isSome || !x.second.isEmpty then s.setChan c { x with second := x.second ++ [a] }
  else s.armChanFirst c a

/-! ### NAL units of an access unit (R263, R264) -/

/-- Levels of H.265 Tables A.8 and A.9 (PRESUMED, log 194): 30 times the level, MaxLumaPs, MaxLumaSr, and MaxBR, which equals MaxCPB, of the
Main and the High tier. -/
def encLevels : List (Nat × Nat × Nat × Nat × Nat) :=
  [(30, 36864, 552960, 128, 0), (60, 122880, 3686400, 1500, 0), (63, 245760, 7372800, 3000, 0), (90, 552960, 16588800, 6000, 0)
   , (93, 983040, 33177600, 10000, 0), (120, 2228224, 66846720, 12000, 30000), (123, 2228224, 133693440, 20000, 50000)
   , (150, 8912896, 267386880, 25000, 100000), (153, 8912896, 534773760, 40000, 160000), (156, 8912896, 1069547520, 60000, 240000)
   , (180, 35651584, 1069547520, 60000, 240000), (183, 35651584, 2139095040, 120000, 480000), (186, 35651584, 4278190080, 240000, 800000)]

/-- MaxCPB of a level and tier where it differs from MaxBR: level 1 (Table A.8). -/
def levelCpb (idc br : Nat) : Nat := if idc = 30 then 350 else br

/-- The lowest level whose limits the geometry, frame rate, cap and bucket of a binding fit, as general_level_idc, and whether it takes the
High tier (R263); none: no level fits. -/
def encLevel (b : Body) : Option (Nat × Bool) :=
  let k := if eFlag b 2 then 1834 else 1100
  let fits := fun (idc br : Nat) => decide (ePeak b * 1000 ≤ br * k) && decide (eBuf b ≤ levelCpb idc br * k)
  let ps := eW b * eH b
  (encLevels.find? (fun l =>
    decide (ps ≤ l.2.1) && decide (eW b * eW b ≤ 8 * l.2.1) && decide (eH b * eH b ≤ 8 * l.2.1) && decide (ps * eNum b ≤ l.2.2.1 * eDen b)
      && (fits l.1 l.2.2.2.1 || fits l.1 l.2.2.2.2))).map (fun l => (l.1, !fits l.1 l.2.2.2.1))

/-- profile_tier_level of a binding: Main 10, or Main 4:2:2 10 with its constraint flags; the tier and the level (R263; bit places PRESUMED
from H.265 7.3.3, log 194). -/
def profileTierLevel (b : Body) : List Byte :=
  let (idc, high) := (encLevel b).getD (186, true)
  let tier := 32 * bit01 high
  (if eFlag b 2 then [BitVec.ofNat 8 (tier + 4), 0x08#8, 0#8, 0#8, 0#8, 0x9D#8, 0x08#8] else [BitVec.ofNat 8 (tier + 2), 0x20#8, 0#8, 0#8, 0#8, 0x90#8, 0#8])
    ++ [0#8, 0#8, 0#8, 0#8, BitVec.ofNat 8 idc]

/-- Inserts emulation prevention bytes into a NAL unit: no two zero bytes are followed by a byte below 4. -/
def emulate : Nat → List Byte → List Byte
  | _, [] => []
  | z, x :: t => if 2 ≤ z ∧ x.toNat < 4 then 3#8 :: x :: emulate (if x = 0#8 then 1 else 0) t else x :: emulate (if x = 0#8 then z + 1 else 0) t

/-- A NAL unit of a type, in layer 0 and sub-layer 0. -/
def nalUnit (type : Nat) (payload : List Byte) : List Byte := [BitVec.ofNat 8 (2 * type), 0x01#8] ++ payload

/-- The NAL units before the slices of an access unit: delimiter, in a key picture VPS, SPS, PPS and the buffering period SEI, and the
liveness SEI (R264). `sets` are the fields behind profile_tier_level (log 194). -/
def unitHead (b : Body) (key : Bool) (sets : ParamBits) (sei : List Byte) : List (List Byte) :=
  let ptl := profileTierLevel b
  [nalUnit 35 [if key then 0x10#8 else 0x30#8]]
    ++ (if key then [nalUnit 32 (emulate 0 ([0x0C#8, 0x01#8, 0xFF#8, 0xFF#8] ++ ptl ++ sets.vps)), nalUnit 33 (emulate 0 ([0x01#8] ++ ptl ++ sets.sps))
                     , nalUnit 34 (emulate 0 sets.pps), nalUnit 39 (emulate 0 sets.period)] else [])
    ++ [sei]

/-- Type of a picture's slice NAL units: IDR_W_RADL, CRA_NUT or TRAIL_R (R263). -/
def sliceType (kind : Nat) : Nat := if kind = 1 then 19 else if kind = 2 then 21 else 1

/-! ### ENC_CHANNEL (R262, R276, R285, R304) -/

/-- BADPARAM of an ENC_CHANNEL body. -/
def chanBad (s : State) (b : Body) : Bool :=
  b.length != 52 || decide (1 < b.u8 1) || b.u8 49 != 0 || decide (7 < b.u8 31) ||
    (b.u8 1 == 1 && (decide (1 < b.u8 2)
      || (if eVirtual b then decide (23 < b.u8 3) || s.gangMember (b.u8 3) || b.u16 4 != 0xFFFF else b.u16 4 == 0xFFFF)
      || decide (eW b < 256) || decide (8192 < eW b) || eW b % 8 != 0 || decide (eH b < 144) || decide (4320 < eH b) || eH b % 8 != 0
      || eNum b == 0 || eDen b == 0 || decide (120 * eDen b < eNum b)
      || decide (eDelay b < 2) || decide (2 * eRows b < eDelay b)
      || decide (eDen b * 1000000000 ≤ ePhase b * eNum b)
      || decide (ePeak b < 1000) || decide (2000000 < ePeak b) || decide (ePeak b * 64 * eDen b * 1000 < 8192 * eNum b * eH b)
      || decide (eBuf b < 32768) || decide (400000000 < eBuf b)
      || decide (51 < b.u8 28) || decide (b.u8 28 < b.u8 29) || decide (1 < b.u8 30)
      || decide (b.u16 34 < 256) || decide (8900 < b.u16 34) || decide (b.u8 48 < 96) || decide (127 < b.u8 48)
      || b.u16 50 == 0 || decide (4800 < b.u16 50)))

/-- FORMAT of an ENC_CHANNEL body: no level of H.265 Table A.8 fits, pre-analysis that
R272 refuses, or a virtual head that has another raster. -/
def State.chanFormat (s : State) (b : Body) : Bool :=
  (encLevel b).isNone
    || (eFlag b 0 && (eLow b || decide (ePes b * 1000000000 * max 1 (eDen b) * 16 < 17 * eW b * eH b * eNum b)))
    || (eVirtual b && !(s.head (b.u8 3)).nextSet.timing.isEmpty)

/-- Allocates the buffers that a replacement needs, beside what stands and waits before it; none where DRAM has no room. -/
def State.stageChan (s : State) (c : Nat) (b : Body) : Option (List Nat × State) :=
  let old := (((s.chan c).next.toList ++ (s.chan c).second).getLast?.map (fun a => a.body)).getD (s.chan c).cfg
  if b.u8 1 = 1 ∧ newBuffers (if old.u8 1 = 1 then old else []) b then s.allocMany (zlcSize (eW b) (eH b) (eFormat b)) 4
  else some ([], s)

/-- ENC_CHANNEL 0x3801: binds, replaces or unbinds a channel. -/
def execEncChannel (r : Req) (b : Body) (s : State) : Host.Outcome State Fault Refusal :=
  let c := b.u8 0
  let on := b.u8 1 == 1
  let rs := s.isRestarted
  command 0x3801 r s (if c < 16 then [scopeChan c] else []) (chanBad s b)
    { noRes := decide (15 < c) || (s.stageChan c b).isNone
      rej := if on && s.chanFormat b then some rFORMAT
             else ({ s.conf with enc := assocSet s.conf.enc c (if on then some b else none) } : Conf).reject s }
    (fun s =>
      match s.stageChan c b with
      | none => done s
      | some (bufs, s1) =>
        if !(s1.chan c).bound && (s1.chan c).second.isEmpty then done (s1.armChan c { body := b, bufs := bufs }).allocate
        else
          let (id, s2) := s1.newWaiter { req := r, opcode := 0x3801, restarted := rs, chans := [c] }
          .later (s2.armChan c { body := b, cmd := some id, bufs := bufs }).allocate)

/-! ### ENC_KEY and ENC_STATS_RING -/

/-- ENC_KEY 0x3802: requests key pictures; the reply follows the start of the last one (R288). -/
def execEncKey (r : Req) (b : Body) (s : State) : Host.Outcome State Fault Refusal :=
  let m := b.u16 0
  let l := maskBits m 16
  let rs := s.isRestarted
  command 0x3802 r s (l.map scopeChan) (b.length != 4 || b.u8 3 != 0 || m == 0 || decide (2 < b.u8 2) || l.any (fun c => !(s.chan c).bound)) {}
    (fun s =>
      let (co, s1) := s.keyRequests m 0 (b.u8 2)
      .later { s1 with enc := { s1.enc with keyCmds := s1.enc.keyCmds ++
        [{ req := r, restarted := rs, time := s.ptp, left := l, lowest := l.headD 0, coalesced := co }] } })

/-- Does a port hold the scope of some encode channel. -/
def anyChanScope (held : BitVec 64) : Bool := held.getLsbD 0 || (List.range 16).any (fun c => held.getLsbD (scopeChan c))

/-- ENC_STATS_RING 0x3803: places the statistics ring, or disables it (R294). -/
def execEncStatsRing (r : Req) (b : Body) (s : State) : Host.Outcome State Fault Refusal :=
  let n := b.u8 0
  command 0x3803 r s [] (b.length != 12 || !b.zero 1 3 || (n != 0 && (decide (n < 4) || decide (9 < n) || b.u64 4 % 4096 != 0)))
    { denied := !anyChanScope (s.heldAt r 0x3803) }
    (fun s => done (({ s with enc := { s.enc with ring := { log2 := n, addr := b.u64 4, port := r.port } } }).setBits
      .ENC_STATS_WR 0 8 0 0 |>.setBits .ENC_STATS_RD 0 8 0 0))

/-- A value written to a ring read index: it counts from the port that placed the ring, any other write is dropped and counted (R620). -/
def State.writeRingEnc (s : State) (p : Port) (v : Word) : State :=
  let x := s.enc.ring
  if x.log2 ≠ 0 ∧ x.port = p then
    ({ s with enc := { s.enc with ring := x.readTo (s.regBits .ENC_STATS_WR 0 8 0) (v.bits 8 0) } }).setReg .ENC_STATS_RD 0 (v &&& 0x1FF#32)
  else s.bumpSat .HP_WR_DROP p.idx

/-- Host write of ENC_STATS_RD, through the port that placed the ring (R294). -/
def execRingIndexWriteEnc (p : Port) (value : Word) (s : State) : Host.Outcome State Fault Refusal :=
  .next (s.writeRingEnc p value)

/-! ### The liveness SEI (R292) -/

/-- The 64-byte payload of R292. -/
def seiPayload (status flags c : Nat) (tag : Option Tag) (ageUs pic prevFill prevLate tk budget : Nat) : List Byte :=
  let head := [BitVec.ofNat 8 status, BitVec.ofNat 8 flags, BitVec.ofNat 8 c] ++ ((tag.map (fun t => t.bytes.reverse)).getD (List.replicate 16 0#8))
    ++ beBytes 4 ageUs ++ beBytes 6 pic ++ [BitVec.ofNat 8 (min 255 prevFill), BitVec.ofNat 8 (min 255 prevLate)]
    ++ beBytes 4 (tk / sec % 2 ^ 32) ++ beBytes 4 (tk % sec) ++ beBytes 4 budget
  let covered := (BitVec.ofNat 8 status) :: head.drop 1
  beBytes 4 0x5A484556 ++ beBytes 4 0x4C495645 ++ beBytes 4 0x96400001 ++ beBytes 4 0x53564352 ++ [1#8] ++ head.take 2 ++ head.drop 2
    ++ beBytes 4 (crc32c ([1#8] ++ covered)).toNat

/-- The prefix SEI NAL unit that carries it: user_data_unregistered, 64 bytes. -/
def seiNal (payload : List Byte) : List Byte := [0x4E#8, 0x01#8] ++ emulate 0 ([5#8, 64#8] ++ payload ++ [0x80#8])

/-! ### The picture start (R274 to R277, R288 to R293) -/

/-- The frame a channel could take: the tag, its surface's address, and whether it is still being written. -/
structure Cand where
  tag : Tag
  addr : Nat
  opened : Bool
  width : Nat
  height : Nat

/-- Bands of 16 lines that row r of a channel's picture needs (R273). -/
def eBands (b : Body) (r : Nat) : Nat := ceilDiv (min (64 * (r + 1)) (eH b)) 16

/-- The newest frame that ingest is writing into pool k whose first CTU row is readable, with the tag fields that the writer
publishes: the time, and the number that the frame will get (R273, R274). The size is known only when it closes. -/
def State.openIngest (s : State) (b : Body) (k : Nat) : Option Cand :=
  let fs := ((Tbl.get s.ing.ctx k).frames.filter (fun f => f.surface.isSome)).zipIdx
  ((fs.filter (fun e => decide (eBands b 0 ≤ e.1.bandAt.length))).getLast?).bind (fun e =>
    let f := e.1
    let (t, basis, cl) := if iType f.cfg = 1 then f.tagTime else (f.atArrival, 1, 0)
    f.surface.map (fun a =>
      { tag := { sourceId := iSource f.cfg, flags := cl + (if f.interlaced then fINTERLACED else 0), seq := ((s.pool k).nextSeq + e.2) % 2 ^ 32,
                 time := t % (2 ^ 30 * sec), basis := basis }
        addr := a, opened := true, width := eW b, height := eH b }))

/-- The frame that an image pipe is writing into pool k; `ready` says that its band cursor has passed the first CTU row (R206, R273). -/
def State.openCamera (s : State) (k : Nat) (ready : Bool) : Option Cand :=
  if !ready then none
  else
    ([0, 1].filterMap (fun q =>
      let p := s.pipe q
      p.busy.bind (fun c => (s.cctx c).processing.bind (fun f =>
        let at0 := if k = poolCam c then p.colour else if k = poolIr c then p.infra else none
        let half := if k = poolCam c then 1 else 2
        at0.map (fun a =>
          ({ tag := { sourceId := if half = 1 then cSource f.cfg else f.cfg.u16 10, flags := f.flags, seq := (s.pool k).nextSeq
                      time := f.start % (2 ^ 30 * sec), basis := 2 }
             addr := a, opened := true, width := if half = 1 then f.cfg.u16 16 else cW f.cfg / 2
             height := if half = 1 then f.cfg.u16 18 else cH f.cfg / 2 } : Cand)))))).head?

/-- The newest frame of a channel's pool whose first CTU row is readable (R273, R274). Frames still being written count in
low-delay mode, except those of decode sessions; a channel that distrusts the pool waits for a complete one that passes both
checks (R277). -/
def State.candidate (s : State) (c : Nat) (ready : Bool) : Option Cand :=
  let x := s.chan c
  match s.poolOfSource (x.cfg.u16 4) with
  | none => none
  | some k =>
    let p := s.pool k
    let complete := (p.newestIdx).bind (fun i => (p.surf i).header.map (fun hd => (i, hd)))
    let ok := match complete with | some (i, hd) => !x.distrust || !headerBad (p.surf i) hd | none => false
    let opened := if eLow x.cfg && decide (k < poolDec 0) && !x.distrust then (if k < poolCam 0 then s.openIngest x.cfg k else s.openCamera k ready) else none
    match opened with
    | some o => some o
    | none => if ok then complete.map (fun e => { tag := e.2.tag, addr := (p.surf e.1).addr, opened := false, width := e.2.width, height := e.2.height }) else none

/-- An unmasked fault names the writer, the channel's engines or its output path, or has left the channel with fewer engines than it
needs (R245, R275, R627). -/
def State.chanFault (s : State) (c k : Nat) : Bool :=
  let mac := (s.outBody (768 + c)).u8 10
  let need := encNeed (s.chan c).cfg
  s.writerFaulty k || decide ((s.pesOf c).length < need.1) || decide ((s.eesOf c).length < need.2)
    || (s.pesOf c).any (fun p => s.flt.unmasked.contains (p / 4, p))
    || (s.eesOf c).any (fun e => s.flt.unmasked.contains (8 + e / 4, e)) || s.flt.unmasked.contains (19 + mac / 8, c)

/-- Status of a picture (R275), and the frame it takes. -/
def State.pictureStatus (s : State) (c : Nat) (ready : Bool) (tin last : Nat) : Nat × Option Cand :=
  let x := s.chan c
  let b := x.cfg
  if eVirtual b then (7, none)
  else
    let k := (s.poolOfSource (b.u16 4)).getD 0
    let p := s.pool k
    let cand := s.candidate c ready
    let back := match cand, x.taken with | some f, some t => seqBack f.tag.seq t.seq | _, _ => false
    let newer := cand.filter (fun f => match x.taken with | some t => f.tag.seq != t.seq && !seqBack f.tag.seq t.seq | none => true)
    let bad := match cand with
      | some f => f.tag.sourceId != b.u16 4 || back || decide ((tin : Int) < s.tagTimeOf f.tag) || p.foreign
      | none => p.foreign
    let fmt := match newer with | some f => f.width != eW b || f.height != eH b || f.tag.flags / 16 % 2 == 1 | none => false
    let use := if bad || fmt then none else newer
    let tag := match use with | some f => some f.tag | none => x.taken
    let tSeq := if use.isSome then tin else x.tSeq
    let age : Option Int := tag.map (fun t => (last : Int) - s.tagTimeOf t)
    let stale := (match age with | some a => decide ((b.u32 36 * us : Nat) < a) | none => true) || decide (b.u32 36 * us < last - tSeq)
    let held := x.everFull || p.newest.isSome || use.isSome
    let tCrc : Int := match use with
      | some f => if f.opened then x.tCrc else
          (match (p.atAddr f.addr).bind (fun g => g.header) with | some hd => if x.crc = some hd.contentCrc then x.tCrc else s.tagTimeOf hd.tag | none => x.tCrc)
      | none => x.tCrc
    let frozen := b.u32 40 != 0 && (x.crc.isSome || use.isSome) && decide ((b.u32 40 * ms : Nat) < (last : Int) - tCrc)
    let st := if s.chanFault c k then 5 else if bad then 4 else if fmt then 8
      else if stale && (!held || p.los) then 3 else if stale then 1 else if frozen then 2 else 0
    (st, use)

/-- The channel takes a frame: it is pinned in place of the one before, and frames never taken are counted (R274). -/
def State.takeFrame (s : State) (c : Nat) (f : Cand) (tin : Nat) : State :=
  let x := s.chan c
  match s.poolOfSource (x.cfg.u16 4) with
  | none => s
  | some k =>
    let skip := match x.taken with | some t => (f.tag.seq + 2 ^ 32 - t.seq) % 2 ^ 32 - 1 | none => 0
    let s1 := (s.modPool k (fun p => (p.unpin (32 + c)).pinAt f.addr (32 + c))).collect k
    (s1.setChan c { x with taken := some f.tag, takenAt := some f.addr, takenOpen := f.opened, everFull := true, tSeq := tin, distrust := false }).addSat
      .ENC_CH_SKIPPED c skip

/-- Requests of the latch that apply to the picture at t_k, with a pair's held request once it is due (R288, R537). -/
def EncChan.applying (x : EncChan) (tk : Nat) : List KeyReq :=
  x.latch.filter (fun q => decide (q.time < tk)) ++ (match x.heldKey with | some t => if t ≤ tk then [{ cause := 3, type := 0, time := t }] else [] | none => [])

/-- Why the next picture is a key picture, if it is one: the cause of R306. -/
def EncChan.keyCause (x : EncChan) (tk : Nat) : Option Nat :=
  match x.needKey with
  | some k => some k
  | none =>
    match x.applying tk with
    | q :: _ => some q.cause
    | [] => if x.cfg.u16 32 != 0 && decide (x.cfg.u16 32 ≤ x.sinceKey) then some 2 else none

/-- CRA or IDR for a key picture: a request that names IDR, then one that names CRA, then KEY_TYPE (R288). -/
def EncChan.keyCra (x : EncChan) (tk : Nat) : Bool :=
  let l := x.applying tk
  if l.any (fun q => q.type == 1) then false else if l.any (fun q => q.type == 2) then true else x.cfg.u8 30 == 1

/-- A buffer of the channel's reference pool that carries no mark and no holder (R239, R267). -/
def Pool.unusedBuf (p : Pool) : Option Nat := (List.range p.surfs.length).find? (fun i => !(p.surf i).inUse)

/-- 6 × ceiling(log2(e / a)) for e > a, else 0 (R290); `fuel` bounds the doublings. -/
def keyOffset (e a : Nat) : Nat → Nat
  | 0 => 0
  | n + 1 => if e ≤ a then 0 else 6 + keyOffset e (2 * a) n

/-- ENC_KEY commands that wait on channel c: it has started its key picture, or the picture was deferred (R267, R288). -/
def State.keyCmdsStep (s : State) (c t tk pic : Nat) (deferred : Bool) : State :=
  let cmds := s.enc.keyCmds.map (fun (w : KeyCmd) =>
    if !w.left.contains c || decide (tk ≤ w.time) then w
    else if deferred then { w with deferred := w.deferred ||| 2 ^ c }
    else { w with left := w.left.erase c, taken := w.taken ||| 2 ^ c, picture := if c = w.lowest then pic else w.picture, tk := if c = w.lowest then t else w.tk })
  let done := cmds.filter (fun w => w.left.isEmpty)
  done.foldl (fun (s : State) (w : KeyCmd) =>
    s.replyR w.req 0x3802 0 0 w.restarted (leBytes 2 w.taken ++ leBytes 2 w.coalesced ++ leBytes 2 w.deferred ++ leBytes 2 0 ++ leBytes 6 w.picture
      ++ leBytes 2 0 ++ timeBytes w.tk)) { s with enc := { s.enc with keyCmds := cmds.filter (fun w => !w.left.isEmpty) } }

/-- A status change is reported at most 10 times per second; the next event reports the current status (R306). -/
def State.reportStatus (s : State) (c st pic : Nat) (tag : Option Tag) : State :=
  let x := s.chan c
  let s1 := s.setBits .ENC_CH_STAT c 27 24 st
  if x.shown = st || !s1.evAllowed 0x3802 c 10 then s1
  else (s1.eventLimited 0x3802 c 10 s.ptp ([BitVec.ofNat 8 c, BitVec.ofNat 8 st, BitVec.ofNat 8 x.shown, 0#8]
      ++ ((tag.map (fun t => t.bytes)).getD (List.replicate 16 0#8)) ++ leBytes 6 pic)).modChan c (fun x => { x with shown := st })

/-- Sum of CPLX of each CTU row of a picture's statistics. -/
def rowCplx (b : Body) (l : List CtuStat) : List Nat :=
  (List.range (eRows b)).map (fun j => (((l.drop (j * eCols b)).take (eCols b)).map (fun e => e.cplx)).sum)

/-- The ENC_PICTURE record (R299). -/
def mirrorBytes (c : Nat) (m : EncMirror) : List Byte :=
  [BitVec.ofNat 8 c, BitVec.ofNat 8 m.status, BitVec.ofNat 8 (bit01 m.taken.isSome + 2 * bit01 m.key + 4 * bit01 m.cra + 8 * bit01 m.latched), 0#8]
    ++ leBytes 6 m.pic ++ leBytes 4 (m.taken.getD 0) ++ leBytes 2 m.rtp ++ leBytes 4 m.fill

/-- The duty's decision for a channel's picture, on a standby (R299). -/
def State.mirrorOf (s : State) (c pic : Nat) : Option EncMirror :=
  if s.isStandby then (s.chan c).mirror.find? (fun m => m.pic == pic) else none

/-- The candidate that carries the SEQUENCE the duty took. -/
def State.candidateSeq (s : State) (c seq : Nat) (ready : Bool) : Option Cand :=
  let x := s.chan c
  match s.poolOfSource (x.cfg.u16 4) with
  | none => none
  | some k =>
    let p := s.pool k
    match p.order.find? (fun i => match (p.surf i).header with | some hd => hd.tag.seq == seq | none => false) with
    | some i => (p.surf i).header.map (fun hd => { tag := hd.tag, addr := (p.surf i).addr, opened := false, width := hd.width, height := hd.height })
    | none => (s.candidate c ready).filter (fun f => f.tag.seq == seq)

/-- A picture of the channel starts at t_in(0): frame, status, key decision, buffer, SEI, and the pair's record. -/
def State.startEncPicture (s0 : State) (c : Nat) (ready : Bool) (pre : List Nat) : State :=
  let s := s0.checkTaken c
  let x0 := s.chan c
  let b := x0.cfg
  let k := x0.nextK
  let tk := eTk b k
  let tin := eTin b k 0
  let last := eTout b k (eRows b - 1)
  let st0 := s.chanState c
  let own := s.pictureStatus c ready tin last
  let mir := s.mirrorOf c x0.pic
  let decided : Nat × Option Cand := match mir with
    | some m => (m.status, match m.taken with
        | some q => if x0.taken.map (fun t => t.seq) = some q then none else s.candidateSeq c q ready
        | none => none)
    | none => own
  let s1 := match decided.2 with | some f => s.takeFrame c f tin | none => s
  let x := s1.chan c
  let newFrame := decided.2.isSome
  let wantKey : Option Nat := match mir with
    | some m => if m.key then some ((x.keyCause tk).getD 3) else none
    | none => x.keyCause tk
  let cra := match mir with | some m => m.cra | none => x.keyCra tk
  let suppressed := st0 == 3 && x.resume.isNone
  let resumes := suppressed && (match mir with | some m => m.key | none => false)
  let badSt := [5, 4, 8, 3, 1].contains decided.1
  let pool := s1.pool (poolEnc c)
  let coded := wantKey.isSome || (!(badSt || (!eVirtual b && !newFrame)) && !suppressed)
  let buf := if coded then pool.unusedBuf else none
  let noBuf := coded && buf.isNone
  let key := if noBuf then none else wantKey
  let kind := if noBuf || !coded then 3 else if key.isSome then (if cra then 2 else 1) else 0
  let filled := key.isSome && !eVirtual b && x.taken.isNone
  let tag := if eVirtual b then none else x.taken
  let ageUs : Nat := match tag with | some t => (((last : Int) - s1.tagTimeOf t).toNat / us) % 2 ^ 32 | none => 0xFFFFFFFF
  let marked := eVirtual b && (List.range 8).any (fun l => ((s1.head (b.u8 3)).layer l).drawn.1 != 0)
  let flags := 128 * bit01 (kind == 3) + 64 * bit01 key.isSome + 32 * bit01 filled + 16 * bit01 x.prevMismatch + 8 * bit01 x.prevConcealed
    + 4 * bit01 marked + 2 * bit01 (eVirtual b)
  let sei := seiNal (seiPayload decided.1 flags c tag ageUs x.pic x.prevFill x.prevLate tk (if eVirtual b then 0 else b.u32 36))
  let (d, s2) := if key.isSome then s1.draw else (0, s1)
  let cplx := if eFlag b 0 then pre else rowCplx b x.stats
  let budget := ePeak b * 1000 * eDen b / max 1 (eNum b) + eBuf b / 2
  let p : EncPic := { num := x.pic, k := k, tk := tk, kind := kind, status := decided.1, tag := tag, sei := sei
                      keyOff := if key.isSome then keyOffset (Config.freeWord d).toNat budget 64 else 0, cause := key.getD 0, filled := filled, cplx := cplx
                      buf := buf, concealed := match tag with | some t => t.flags / 32 % 2 == 1 | none => false, resumes := resumes }
  let pool1 := match buf with
    | some i =>
      let prev := pool.writing.map (fun j => (pool.surf j).addr)
      let q := { pool with surfs := pool.surfs.map (fun (f : Surface) =>
        { f with short := prev == some f.addr, pins := if f.pins.contains 301 then f.pins else f.pins.filter (· != 300) }) }
      { (q.modSurf i (fun f => { f with header := none, lines := [], pins := if key.isSome then [300, 301] else [300] })) with writing := some i }
    | none => pool
  let lat := if key.isSome then x.latch.filter (fun q => decide (tk ≤ q.time))
    else if noBuf && wantKey.isSome then { cause := 6, type := if cra then 2 else 1, time := 0 } :: x.latch.filter (fun q => decide (tk ≤ q.time)) else x.latch
  let x1 : EncChan := { x with pics := x.pics ++ [p], pic := (x.pic + 1) % 2 ^ 48, nextK := k + 1, latch := lat
                               heldKey := if key.isSome then none else x.heldKey
                               needKey := if wantKey.isSome then none else x.needKey
                               sinceKey := if key.isSome then 1 else x.sinceKey + 1
                               prevMismatch := false, prevConcealed := false, prevFill := 0, prevLate := 0
                               rtpSeq := match x.resume, mir with | some q, _ => q | none, some m => if resumes then m.rtp else x.rtpSeq | none, none => x.rtpSeq
                               fill := match mir with | some m => if resumes then m.fill else x.fill | none => x.fill
                               resume := none }
  let s3 := (s2.setPool (poolEnc c) pool1).setChan c x1
  let s4 := if kind = 3 then s3.bumpSat .ENC_CH_REPEAT c else if key.isSome then s3.bumpWrap .ENC_CH_KEYS c else s3
  let s5 := if noBuf then (s4.bumpSat .ENC_CH_POOLWAIT c).eventPerSec 0x3809 c 1 (fun n => [BitVec.ofNat 8 c, 0#8, 0#8, 0#8] ++ leBytes 4 n) else s4
  let s6 := if key.isSome then s5.keyCmdsStep c tk tk x.pic false else if noBuf && wantKey.isSome then s5.keyCmdsStep c tk tk x.pic true else s5
  let s7 := s6.reportStatus c decided.1 x.pic tag
  let s8 := if st0 = 1 then s7.setChanState c 2 4 else if st0 = 3 && x.resume.isSome then s7.setChanState c 2 3 else s7
  let m : EncMirror := { pic := x.pic, taken := if newFrame then x.taken.map (fun t => t.seq) else none, status := decided.1, key := key.isSome
                         cra := cra, latched := !x1.latch.isEmpty, rtp := x1.rtpSeq, fill := x1.fill }
  if s8.onDuty then (s8.modChan c (fun y => { y with told := m })).seam .encPicture (mirrorBytes c m) else s8

/-- ENC_PICTURE_START: at t_in(0) of a channel's next picture. An armed set is taken first; a new picture grid makes the channel
wait for the first t_in(0) of that grid (R301 to R303). The channel takes the engines of the latest commit (R229). -/
def execEncPictureStart (c : Fin 16) (ready : Bool) (pre : List Nat) (s : State) : Host.Outcome State Fault Refusal :=
  let x := s.chan c
  if !x.bound || x.eob.isSome || decide (s.ptp < eTin x.cfg x.nextK 0) then .next s
  else
    let s1 := match x.next with | some a => s.takeChan c a | none => s
    let y := s1.chan c
    if !y.bound || y.eob.isSome || decide (s1.ptp < eTin y.cfg y.nextK 0) then .next s1
    else .next ((s1.takeEngines c true).startEncPicture c ready pre)

/-! ### Rows at their input deadline (R278, R286) -/

/-- round(3 × log2(row / mean)) clamped to -3 and 3, for row and mean above 0 (R286). -/
def aqOf (row mean : ℚ) : Int :=
  [-2, -1, 0, 1, 2, 3].foldl (fun (a : Int) (j : Int) => if mean ^ 6 * (2 : ℚ) ^ (2 * j - 1) ≤ row ^ 6 then j else a) (-3)

/-- Fullness and remainder of the bucket after draining until t (R284). -/
def EncChan.drained (x : EncChan) (t : Nat) : Nat × Nat :=
  let d := ePeak x.cfg * (t - x.lastOut) + x.fillRem
  (x.fill - d / 1000000, d % 1000000)

/-- QP of row r at time t (R286). -/
def EncChan.rowQp (x : EncChan) (p : EncPic) (aq : Int) (t : Nat) : Nat :=
  let b := x.cfg
  let g := (x.drained t).1
  if 9 * eBuf b < 10 * g then 51
  else
    let off := if 2 * g ≤ eBuf b then 0 else min 12 (ceilDiv (12 * (2 * g - eBuf b)) (eBuf b))
    (clampInt (b.u8 29) 51 ((b.u8 28 : Int) + p.keyOff + aq + off)).toNat

/-- The adaptive offset of a row; free where the picture has no complexity to compare (R286). -/
def State.rowAq (s : State) (p : EncPic) (rows r : Nat) : Int × State :=
  let t := p.cplx.sum
  let row := p.cplx.getD r 0
  if t = 0 then
    let (k, s1) := s.draw
    ((((Config.freeWord k).toNat % 7 : Nat) : Int) - 3, s1)
  else if row = 0 then (-3, s) else (aqOf row (t / max 1 rows), s)

/-- The duty's record of a row, on a standby (R299). -/
def State.rowMirror (s : State) (c pic row : Nat) : Option EncRowMirror :=
  if s.isStandby then (s.chan c).mirrorRows.find? (fun m => m.pic == pic && m.row == row) else none

/-- Changes one picture of a channel. -/
def EncChan.modPic (x : EncChan) (num : Nat) (f : EncPic → EncPic) : EncChan :=
  { x with pics := x.pics.map (fun (p : EncPic) => if p.num = num then f p else p) }

/-- A late row is counted and reported (R278). -/
def State.noteLate (s : State) (c num : Nat) : State :=
  let s1 := (s.modChan c (fun x => { (x.modPic num (fun p => { p with lates := p.lates + 1 })) with prevLate := x.prevLate + 1 })).bumpSat .ENC_CH_LATE c
  s1.eventPerSec 0x3804 c 1 (fun n => [BitVec.ofNat 8 c, 0#8, 0#8, 0#8] ++ leBytes 4 n ++ leBytes 4 (s1.getReg .ENC_CH_MARGIN_US c).toNat)

/-- The ENC_ROW record (R299). -/
def rowMirrorBytes (c : Nat) (m : EncRowMirror) : List Byte :=
  [BitVec.ofNat 8 c, BitVec.ofNat 8 m.row, BitVec.ofNat 8 (bit01 m.late + 2 * bit01 m.crc.isSome), 0#8] ++ leBytes 6 m.pic ++ leBytes 4 (m.crc.getD 0)
    ++ leBytes 2 m.first ++ leBytes 2 m.count

/-- PTP time at which row r of the frame that a channel reads became readable (R273, R278): none while it is not; unknown to the model,
outer none, where an image pipe's cursor or a virtual head's scan-out brings the rows. -/
def State.rowReadable (s : State) (c r : Nat) : Option (Option Nat) :=
  let x := s.chan c
  match s.takenSurf x with
  | none => if eVirtual x.cfg then none else some none
  | some (k, f) =>
    if eVirtual x.cfg || (eLow x.cfg && decide (poolCam 0 ≤ k) && decide (k < poolDec 0)) then none
    else
      let band := eBands x.cfg r - 1
      match f.header with
      | some hd => some (some (if eLow x.cfg then f.bandAt.getD band hd.done else hd.done))
      | none => some (((Tbl.get s.ing.ctx k).frames.find? (fun g => g.surface == some f.addr)).bind (fun g => g.bandAt[band]?))

/-- t_in(r) minus the time at which row r became readable, in ns; below 0 the row is late. `told` is what the command says of rows whose
writer the model does not follow, and how late a row is that is not readable yet (R278). -/
def State.rowMargin (s : State) (c r tin : Nat) (told : Int) : Int :=
  match s.rowReadable c r with
  | none => told
  | some (some t) => (tin : Int) - t
  | some none => min told (-1)

/-- Lines of a surface that row r of a channel's picture codes, in the channel's format (R265): 4:2:2 chroma lines 2j and 2j + 1 are
averaged to 4:2:0, 4:2:0 chroma lines are repeated to 4:2:2, and RGB goes through the Y'CbCr stage of R212. -/
def inputLines (b : Body) (fmt cs : Nat) (lines : List (List Nat)) (r : Nat) : List (List Nat) :=
  let w := eW b
  let ycc := fun x y => toYcc cs ((List.range 3).map (fun c => ((zlcSample fmt lines c x y : Nat) : Int)))
  let luma := fun x y => if fmt = 0x22 then ((ycc x y).getD 0 0).toNat else zlcSample fmt lines 0 x y
  let chroma := fun (c i y : Nat) =>
    if fmt = 0x22 then (((ycc (2 * i) y).getD c 0 + (ycc (2 * i + 1) y).getD c 0 + 1) / 2).toNat
    else zlcSample fmt lines c (2 * i) (if fmt = 0x21 then y / 2 * 2 else y)
  let out := fun (c i y : Nat) =>
    if eFlag b 2 ∨ fmt = 0x21 then chroma c i y else (chroma c i (y / 2 * 2) + chroma c i (y / 2 * 2 + 1) + 1) / 2
  (List.range (min 64 (eH b - 64 * r))).map (fun j =>
    let y := 64 * r + j
    if !eFlag b 2 && y % 2 == 1 then (List.range w).map (fun x => luma x y)
    else ((List.range (w / 2)).map (fun i => [luma (2 * i) y, out 1 i y, out 2 i y, luma (2 * i + 1) y])).flatten)

/-- The input of row r: the taken frame's lines as they stand at the input deadline, so that later patches do not enter it (R265, R277).
Rows of image pipes at work and of virtual heads pass through the band ring, which the model does not hold (log 196). -/
def State.rowInput (s : State) (c r : Nat) : List (List Nat) :=
  let x := s.chan c
  match s.takenSurf x with
  | none => []
  | some (k, f) =>
    let cs := if k < poolCam 0 then min 1 ((Tbl.get s.ing.ctx k).cfg.u8 22) else 0
    match f.header with
    | some hd => inputLines x.cfg hd.format cs f.lines r
    | none =>
      match (Tbl.get s.ing.ctx k).frames.find? (fun g => g.surface == some f.addr) with
      | some g => inputLines x.cfg (iFormat g.cfg) cs ((List.range (eH x.cfg)).map (fun y => Tbl.get g.out y)) r
      | none => []

/-- ENC_ROW_INPUT_DEADLINE: at t_in(r) the row goes to its PE with its QP, or is late and counts as reconstructed (R233, R278). `told` is the margin
of a row whose writer the model does not follow (R273). Rows of repeat and filled pictures read no input. -/
def execEncRowInputDeadline (c : Fin 16) (r : Nat) (told : Int) (s : State) : Host.Outcome State Fault Refusal :=
  let x := s.chan c
  match x.pics.getLast? with
  | none => .next s
  | some p =>
    if p.rows.length != r || decide (eRows x.cfg ≤ r) || decide (s.ptp < eTinAt x.cfg p.tk r) then .next s
    else
      let reads := p.kind != 3 && !p.filled
      let (aq, s0) := if reads then s.rowAq p (eRows x.cfg) r else (0, s)
      let qp := x.rowQp p aq (eTinAt x.cfg p.tk r)
      let margin := s.rowMargin c r (eTinAt x.cfg p.tk r) told
      let late := reads && (match s.rowMirror c p.num r with | some m => m.late | none => decide (margin < 0))
      let ms0 := (s.ptp, margin) :: x.margins.filter (fun e => decide (s.ptp < e.1 + sec))
      let least := ms0.foldl (fun (m : Int) e => min m e.2) margin
      let s1 := s0.modChan c (fun x => { (x.modPic p.num (fun p =>
        { p with rows := p.rows ++ [{ late := late, qp := qp,
                                      input := if reads && !late then s.rowInput c r else [] }] })) with
        margins := if reads then ms0 else x.margins })
      let s2 := if reads then s1.setReg .ENC_CH_MARGIN_US c (BitVec.ofInt 32 (least / 1000)) else s1
      let s3 := if late then (((s2.noteLate c p.num).noteRecon (c, p.num, r)).settleRows c p.num).refill
        else if reads then (s2.toDram { owner := c, pic := p.num, row := r, rows := eRows x.cfg, cols := eCols x.cfg }).refill
        else s2
      let s4 := if r = 0 && (p.kind == 1 || p.kind == 2) then
          s3.eventAt p.tk 0x3805 ([BitVec.ofNat 8 c, BitVec.ofNat 8 p.cause, BitVec.ofNat 8 qp, 0#8] ++ leBytes 6 p.num) else s3
      .next (if s4.onDuty then s4.seam .encRow (rowMirrorBytes c { pic := p.num, row := r, late := late }) else s4)

/-! ### Rows at their output time (R284, R296, R297, R300) -/

/-- RTP payloads of a NAL unit: a single NAL unit packet, or fragmentation units of exactly MTU_PAYLOAD bytes (R296). -/
def rtpPayloads (mtu : Nat) (nal : List Byte) : List (List Byte) :=
  if nal.length ≤ mtu then [nal]
  else
    let h0 := nal.headD 0#8
    let ty := h0.toNat / 2 % 64
    let data := nal.drop 2
    let n := ceilDiv data.length (mtu - 3)
    (List.range n).map (fun i =>
      [BitVec.ofNat 8 (h0.toNat / 128 * 128 + 98 + h0.toNat % 2), nal.getD 1 0#8, BitVec.ofNat 8 (128 * bit01 (i == 0) + 64 * bit01 (i + 1 == n) + ty)]
        ++ (data.drop (i * (mtu - 3))).take (mtu - 3))

/-- Bits queued in a flow. -/
def FlowRun.bits (f : FlowRun) : Nat := (f.queue.map wireBits).sum

/-- Packets join the channel's flow; HD_EFLOW_QUEUE follows (R270, R372). -/
def State.queuePackets (s : State) (c : Nat) (pk : List (List Byte)) : State :=
  let f := s.flow (64 + c)
  let f1 := { f with queue := f.queue ++ pk }
  let ds := (s.now, f1.bits) :: f.depths.filter (fun e => decide (s.now < e.1 + sec))
  (s.setFlow (64 + c) { f1 with depths := ds }).setReg .HD_EFLOW_QUEUE c (BitVec.ofNat 32 (ds.foldl (fun m e => max m e.2) 0))

/-- May a channel's packets leave: bound output, a state that sends, not SUPPRESSED (R300, R523, R536). -/
def State.chanSends (s : State) (c : Nat) : Bool := !(s.outBody (768 + c)).isEmpty && s.ipOn && s.chanState c == 2

/-- The packets of some NAL units in order, from a sequence number; the marker stands on the very last packet when `last`. -/
def State.nalPackets (s : State) (c : Nat) (nals : List (List Byte)) (last : Bool) (seq tsTime : Nat) : List (List Byte) :=
  let x := s.chan c
  let o := s.outBody (768 + c)
  let pay := (nals.map (rtpPayloads (x.cfg.u16 34))).flatten
  (List.range pay.length).map (fun i =>
    wirePacket o (s.macAddr (o.u8 10)) (64 + c) (seq + i)
      (rtpHeader (last && i + 1 == pay.length) (x.cfg.u8 48) (seq + i) (rtpTs 90000 tsTime) (x.cfg.be 44 4) ++ pay.getD i []))

/-- One line of a fill row's reconstruction: Y' 512, Cb 512, Cr 512, in the component order of the format. -/
def greyLine (fmt w y : Nat) : List Nat := if fmt = 0x21 ∧ y % 2 = 1 then List.replicate w 512 else List.replicate (2 * w) 512

/-- Reconstruction after row r: a skip-fill row leaves the previous picture's lines, an intra-fill row is grey (R279). -/
def EncChan.reconRow (x : EncChan) (r : Nat) (fillRow intra : Bool) (lines : List (List Nat)) : List (List Nat) :=
  let h := eH x.cfg
  let w := eW x.cfg
  let base := if x.recon.length = h then x.recon else (List.range h).map (greyLine (eFormat x.cfg) w)
  let n := min 64 (h - 64 * r)
  let new := if fillRow then (if intra then (List.range n).map (greyLine (eFormat x.cfg) w) else (base.drop (64 * r)).take n)
    else (List.range n).map (fun i => lines.getD i [])
  base.take (64 * r) ++ new ++ base.drop (64 * r + n)

/-- Largest vector of a channel in pixels, horizontally and vertically; a candidate beyond it is clipped (R283). -/
def mvRange (b : Body) : Int × Int := if 3840 < eW b then (256, 128) else if 1920 < eW b then (128, 64) else (64, 32)

/-- The CTU entries of a row for the statistics record, vectors within their range (R283), and the channel's memory of normally coded CTUs (R294, R295). -/
def rowStats (b : Body) (old : List CtuStat) (r qp : Nat) (mode : Option Nat) (l : List CtuStat) : List CtuStat × List CtuStat :=
  let n := eCols b
  let base := if old.length = n * eRows b then old else List.replicate (n * eRows b) default
  let prev := (base.drop (r * n)).take n
  match mode with
  | some m => (prev.map (fun e => { e with qp := qp, mode := m }), base)
  | none =>
    let new := (List.range n).map (fun i =>
      let e := l.getD i default
      { e with qp := qp, mvx := clampInt (-4 * (mvRange b).1) (4 * (mvRange b).1) e.mvx, mvy := clampInt (-4 * (mvRange b).2) (4 * (mvRange b).2) e.mvy })
    (new, base.take (r * n) ++ new ++ base.drop (r * n + n))

/-- Component-wise median of a list of numbers; free where the two middle ones of an even count differ (R282). -/
def State.median (s : State) (l : List Int) : Int × State :=
  let o := l.mergeSort (fun a b => decide (a ≤ b))
  let a := o.getD ((o.length - 1) / 2) 0
  let b := o.getD (o.length / 2) 0
  if a = b then (a, s)
  else
    let (k, s1) := s.draw
    (a + (((Config.freeWord k).toNat : Int) % (b - a + 1)), s1)

/-- Mean slice QP, rounded down. -/
def EncPic.meanQp (p : EncPic) : Nat := (p.rows.map (fun e => e.qp)).sum / max 1 p.rows.length

/-- The statistics record of a finished picture, and its delivery to the host ring (R294). -/
def State.writeStats (s0 : State) (c : Nat) (p : EncPic) : State :=
  let x := s0.chan c
  let b := x.cfg
  let (gx, sA) := s0.median (p.ctus.map (fun e => e.mvx))
  let (gy, s) := sA.median (p.ctus.map (fun e => e.mvy))
  let e := s.enc.ring
  if !eFlag b 1 || e.log2 = 0 then s
  else
    let w := s.regBits .ENC_STATS_WR 0 8 0 % e.size
    let nx := (w + 1) % e.size
    if e.full then
      (s.bumpSat .ENC_STATS_DROP 0).eventPerSec 0x3808 0 1 (fun k => leBytes 4 0 ++ leBytes 4 k)
    else
      let rec0 := ((p.tag.map (fun t => t.bytes)).getD (List.replicate 16 0#8)) ++ leBytes 6 p.num ++ leBytes 1 c ++ leBytes 1 p.kind ++ leBytes 1 p.status
        ++ leBytes 1 p.meanQp ++ leBytes 1 p.fills ++ leBytes 1 p.lates ++ leBytes 4 p.bits ++ leBytes 4 x.fill ++ leBytes 2 (eCols b) ++ leBytes 1 (eRows b)
        ++ leBytes 1 e.phase ++ sleBytes 2 gx ++ sleBytes 2 gy ++ leBytes 4 ((p.ctus.map (fun t => t.cplx)).sum) ++ leBytes 16 0
        ++ (p.ctus.map (fun t => sleBytes 2 t.mvx ++ sleBytes 2 t.mvy ++ leBytes 2 (min 65535 t.cplx) ++ leBytes 1 t.qp ++ leBytes 1 t.mode)).flatten
      let s1 := (s.emit (.dma e.port (e.addr + w * 131072) rec0)).setBits .ENC_STATS_WR 0 8 0 nx
      { s1 with enc := { s1.enc with ring := e.wrote nx } }

/-- A picture's last row has left: its buffer, marks, statistics and registers (R237, R239, R291, R294). -/
def State.endEncPicture (s : State) (c : Nat) (p : EncPic) : State :=
  let x := s.chan c
  let b := x.cfg
  let key := p.kind == 1 || p.kind == 2
  let mark := key && !p.intra && !p.concealed
  let s1 := match p.buf with
    | some i => s.modPool (poolEnc c) (fun q =>
        let later := x.pics.any (fun o => o.num != p.num && o.buf == some i)
        if later then q
        else
          let hd := fun (f : Surface) => mkHeader (p.tag.getD default) (contentCrc x.recon) (eW b) (eH b) (eFormat b) 15 f.addr s.ptp
          let q1 := q.modSurf i (fun f => { f with lines := x.recon, header := some (hd f), pins := f.pins.filter (fun h => h != 301 && !(h == 300 && q.writing != some i)) })
          if mark then { q1 with surfs := (q1.surfs.map (fun (f : Surface) => { f with key := false })).modify i (fun (f : Surface) => { f with key := true }) } else q1)
    | none => s
  let s2 := (s1.writeStats c p).modChan c (fun x => { x with pics := x.pics.filter (fun (o : EncPic) => o.num != p.num) })
  ((s2.dropJobs (fun o q => o == c && q == p.num)).refill).bumpWrap .ENC_CH_PICS c

/-- A standby's own row differs from the duty's, or the duty's record has not come: the channel is SUPPRESSED from that row on
and asks for a key picture (R300). -/
def State.diverge (s : State) (c row num tout : Nat) : State :=
  (((s.setChanState c 3 2).bumpSat .ENC_CH_PAIR_DIV c).eventAt tout 0x3807 ([BitVec.ofNat 8 c, BitVec.ofNat 8 row, 0#8, 0#8] ++ leBytes 6 num)).forwardKey (2 ^ c) 3 0

/-- ENC_ROW_OUTPUT: at t_out(r) of the oldest picture's next row the bucket drains, the row is admitted or replaced, and its packets
join the flow. -/
def execEncRowOutput (c : Fin 16) (row : RowCoded) (s : State) : Host.Outcome State Fault Refusal :=
  let x := s.chan c
  match x.pics with
  | [] => .next s
  | p :: _ =>
    let b := x.cfg
    let r := p.out
    let t := eToutAt b p.tk r
    match p.rows[r]? with
    | none => .next s
    | some er =>
      if s.ptp < t then .next s
      else
        let key := p.kind == 1 || p.kind == 2
        let reads := p.kind != 3 && !p.filled && !er.late
        let readyBy := t - eLines b 64
        let slow := reads && !s.fab.coded.any (fun e => e.1 == c.val && e.2.1 == p.num && e.2.2.1 == r && decide (e.2.2.2 ≤ readyBy))
        let slow := match s.rowMirror c p.num r with | some m => reads && m.late | none => slow
        let pre := if r = 0 then unitHead b key row.sets p.sei else []
        let (f0, rem) := x.drained t
        let coded := nalUnit (sliceType p.kind) row.slice
        let bitsOf := fun (n : List Byte) => 8 * ((pre.map (fun l => l.length)).sum + n.length)
        let tooBig := reads && !slow && decide (eBuf b < f0 + bitsOf coded + 8192)
        let isFill := !reads || slow || tooBig
        let nal := if isFill then nalUnit (sliceType p.kind) row.fill else coded
        let bits := bitsOf nal
        let mode := if isFill then some (if p.kind = 3 then 0 else if key then 5 else 4) else none
        let st := rowStats b x.stats r er.qp mode row.ctus
        let first := x.rtpSeq
        let lastRow := r + 1 == eRows b
        let tsTime := p.tk - ePhase b
        let pk := s.nalPackets c (pre ++ [nal]) lastRow first tsTime
        let crc := (crc32c ((pre.flatten) ++ nal)).toNat
        let p1 : EncPic := { p with out := r + 1, bits := p.bits + bits, ctus := p.ctus ++ st.1, intra := p.intra || (isFill && key)
                                    fills := p.fills + bit01 tooBig }
        let s1 := s.modChan c (fun x => { (x.modPic p.num (fun _ => p1)) with fill := f0 + bits, fillRem := rem, lastOut := t, stats := st.2
                                                                              recon := x.reconRow r isFill key row.recon
                                                                              rtpSeq := (x.rtpSeq + pk.length) % 65536, prevFill := x.prevFill + bit01 tooBig })
        let s2 := s1.setReg .ENC_CH_BUCKET c (BitVec.ofNat 32 (f0 + bits))
        let s3 := if slow then s2.noteLate c p.num else s2
        let s4 := if tooBig then
            let old := s3.lim 0x3803 c
            let s3a := s3.addSatBits .ENC_CH_FILL c (if key then 31 else 15) (if key then 16 else 0) 1
            let n := if key then 65536 else 1
            let l := s3a.lim 0x3803 c
            let tot := old.count + n
            let due := match l.times with | t0 :: _ => decide (t0 + sec ≤ s3a.now) | [] => true
            if due then (s3a.setLim 0x3803 c { count := 0, times := [s3a.now] }).event 0x3803
                ([BitVec.ofNat 8 c, 0#8, 0#8, 0#8] ++ leBytes 4 (tot % 65536) ++ leBytes 4 (tot / 65536))
            else s3a.setLim 0x3803 c { l with count := tot }
          else s3
        let s5 := if r = 0 then s4.setReg .ENC_CH_RTP c (BitVec.ofNat 32 first) else s4
        let agree := match s.rowMirror c p.num r with | some m => m.crc == some crc | none => false
        let s6 := if s5.isStandby then
            if s5.chanState c = 2 && !agree then s5.diverge c r p.num t
            else if s5.chanState c = 3 && r == 0 && p.resumes && agree then s5.setChanState c 2 3 else s5
          else s5
        let s7 := if s6.onDuty then s6.seam .encRow (rowMirrorBytes c { pic := p.num, row := r, late := er.late || slow, crc := some crc, first := first, count := pk.length }) else s6
        let s8 := if s7.chanSends c then s7.queuePackets c pk else s7
        .next (if lastRow then s8.endEncPicture c p1 else s8)

/-- ENC_END_OF_BITSTREAM: the last packet of an unbound channel, with the marker bit, once every row has left (R303). -/
def execEncEndOfBitstream (c : Fin 16) (s : State) : Host.Outcome State Fault Refusal :=
  let x := s.chan c
  match x.eob with
  | none => .next s
  | some (t, ts) =>
    if s.ptp < t || !x.pics.isEmpty then .next s
    else
      let s1 := if s.chanSends c then s.queuePackets c (s.nalPackets c [[0x4A#8, 0x01#8]] true x.rtpSeq ts) else s
      .next (s1.endChan c)

end Sys2Proof.Machine
end

