-- ==== Sys2Proof/Machine/Touch.lean ====
section
/-! DEFINITION. Touch: layout and nodes (R438, R439), the scan frame (R441 to R443), baselines (R444 to R448), contacts (R449 to
R451), charger noise (R452), provenance from the tag history (R453 to R456), reports and their ring (R457, R458), the commands
and events of group 0x60 (R461). -/

namespace Sys2Proof.Machine

/-! ### Fields of TCH_CONFIG and the layout (R438, R439) -/

/-- SELF. -/
def tcSelf (b : Body) : Bool := b.u8 1 / 2 % 2 == 1
/-- ENABLE. -/
def tcOn (b : Body) : Bool := b.u8 1 % 2 == 1
/-- Role of channel n. -/
def tcRole (b : Body) (n : Nat) : Nat := b.u8 (4 + n / 4) / 4 ^ (n % 4) % 4
/-- Channels of a role, ascending. -/
def tcChans (b : Body) (role : Nat) : List Nat := (List.range 96).filter (fun n => tcRole b n == role)
/-- Channels used, ascending: the nodes of a self-mode layout. -/
def tcUsed (b : Body) : List Nat := (List.range 96).filter (fun n => tcRole b n == 1 || tcRole b n == 2)
/-- Nodes of the layout. -/
def tcNodes (b : Body) : Nat :=
  if b.isEmpty then 0 else if tcSelf b then (tcUsed b).length else (tcChans b 1).length * (tcChans b 2).length
/-- Drive frequency of a code in kHz (R442). -/
def freqKhz (n : Nat) : Nat := 100 + 50 * n

/-- Nodes of one axis of a self-mode layout, as node numbers: role 1 rows, role 2 columns. -/
def axisNodes (b : Body) (role : Nat) : List Nat :=
  let u := tcUsed b
  (List.range u.length).filter (fun i => tcRole b (u.getD i 0) == role)

/-- What an electrode does: it follows the shield, is driven, or is sensed (R438, R440). -/
inductive Electrode where
  | shield | drive | sense
deriving DecidableEq, Repr, Inhabited

/-- Channel n of a front-end while row channel `row` has its drive phase: unused channels, and TX channels outside their drive phase,
follow the shield; in self mode every used channel is sensed (R440). -/
def electrode (b : Body) (row n : Nat) : Electrode :=
  match tcRole b n with
  | 1 => if tcSelf b then .sense else if n = row then .drive else .shield
  | 2 => .sense
  | _ => .shield

/-- The neighbours of a node (R439). -/
def neighbours (b : Body) (n : Nat) : List Nat :=
  if tcSelf b then
    let ax := axisNodes b (tcRole b ((tcUsed b).getD n 0))
    let i := ax.findIdx (· == n)
    (if i = 0 then [] else [ax.getD (i - 1) 0]) ++ (if i + 1 < ax.length then [ax.getD (i + 1) 0] else [])
  else
    let w := max 1 (tcChans b 2).length
    let h := (tcChans b 1).length
    let t := n / w
    let r := n % w
    ([(-1, -1), (-1, 0), (-1, 1), (0, -1), (0, 1), (1, -1), (1, 0), (1, 1)] : List (Int × Int)).filterMap (fun d =>
      let y := (t : Int) + d.1
      let x := (r : Int) + d.2
      if 0 ≤ y ∧ y < h ∧ 0 ≤ x ∧ x < w then some (y.toNat * w + x.toNat) else none)

/-- BADPARAM of a TCH_CONFIG (R438, R459). -/
def tchConfigBad (b : Body) : Bool :=
  let ny := (tcChans b 1).length
  let nx := (tcChans b 2).length
  b.length != 48 || decide (1 < b.u8 0) || decide (3 < b.u8 1) || decide (b.u8 2 < 1) || decide (4 < b.u8 2) || decide (b.u8 3 < 4) || decide (12 < b.u8 3)
    || (List.range 96).any (fun n => tcRole b n == 3) || decide (ny < 8) || decide (88 < ny) || decide (nx < 8) || decide (88 < nx)
    || (!tcSelf b && decide (2304 < nx * ny))
    || [28, 32, 34].any (fun o => b.u16 o == 0 || decide (32767 < b.u16 o)) || b.u16 30 == 0 || decide (b.u16 28 ≤ b.u16 30)
    || b.u8 36 == 0 || decide (7 < b.u8 37) || !(b.u8 36).testBit (b.u8 37) || decide (b.u8 38 < 16) || decide (64 < b.u8 38) || !b.zero 39 1
    || decide (b.u16 40 ≤ b.u16 42) || decide (b.u16 44 < 1) || decide (3600 < b.u16 44) || !b.zero 46 2

/-! ### Front-ends -/

/-- A front-end. -/
def State.tfe (s : State) (f : Nat) : TouchFe := Tbl.get s.tch.fe f
/-- Changes a front-end. -/
def State.modTfe (s : State) (f : Nat) (g : TouchFe → TouchFe) : State :=
  { s with tch := { s.tch with fe := Tbl.modify s.tch.fe f g } }
/-- A front-end scans. -/
def State.tfeOn (s : State) (f : Nat) : Bool := s.regBit .TCH_FE_STAT f 31
/-- A front-end is in charger-noise mode. -/
def State.tfeNoise (s : State) (f : Nat) : Bool := s.regBit .TCH_FE_STAT f 27
/-- Drive code of a front-end. -/
def State.tfeFreq (s : State) (f : Nat) : Nat := s.regBits .TCH_FE_STAT f 24 22
/-- Start of scan frame k in PTP ns (R441). -/
def scanAt (k : Nat) : Nat := k * 1000000000 / 240
/-- First scan frame that starts at or after a PTP time. -/
def scanFrom (t : Nat) : Nat :=
  let k := t * 240 / 1000000000
  if t ≤ scanAt k then k else k + 1

/-! ### Values of a node (R442, R445, R449) -/

/-- S against the node's own baseline. -/
def ownS (self : Bool) (z : TNode) : Int := if self then z.raw - z.base else z.base - z.raw
/-- The value that detection uses: S_ref for a SUSPECT node. -/
def valS (self : Bool) (z : TNode) : Int := if z.suspect then (if self then z.raw - z.refv else z.refv - z.raw) else ownS self z

/-- Node n's value beats its neighbour's; the lower number wins a tie. -/
def beats (v : Nat → Int) (n m : Nat) : Bool := decide (v m < v n ∨ (v m = v n ∧ n < m))

/-- Touched nodes that are the greatest among their neighbours (R449). -/
def peaksOf (b : Body) (zs : List TNode) : List Nat :=
  let v := fun n => valS (tcSelf b) (zs.getD n default)
  (List.range zs.length).filter (fun n => (zs.getD n default).touched && (neighbours b n).all (fun m => beats v n m))

/-- Centroid of the positive values of a node and its neighbours along one coordinate, in 1/256 of a pitch. -/
def centroid (b : Body) (zs : List TNode) (n : Nat) (at' : Nat → Nat) : Int :=
  let w := fun m => max 0 (valS (tcSelf b) (zs.getD m default))
  let l := n :: neighbours b n
  let total := (l.map w).sum
  if total = 0 then 256 * (at' n : Int) else (l.map (fun m => w m * (256 * (at' m : Int)))).sum / total

/-- Peaks in ascending order of strength rank: greatest value first, the lower number on a tie. -/
def rankPeaks (v : Nat → Int) (l : List Nat) : List Nat := l.mergeSort (fun a b => decide (v b < v a ∨ (v a = v b ∧ a ≤ b)))

/-- The contacts of a frame, the greatest value first, and OVERFLOW (R449). -/
def contactsOf (b : Body) (zs : List TNode) : List Contact × Bool :=
  let self := tcSelf b
  let v := fun n => valS self (zs.getD n default)
  let ps := peaksOf b zs
  if self then
    let ys := rankPeaks v (ps.filter (fun n => (axisNodes b 1).elem n))
    let xs := rankPeaks v (ps.filter (fun n => (axisNodes b 2).elem n))
    match ys, xs with
    | y :: yt, x :: xt =>
      let pos := fun (role : Nat) (n : Nat) => (axisNodes b role).findIdx (· == n)
      ([{ node := if v y < v x then x else y, sx := centroid b zs x (pos 2), sy := centroid b zs y (pos 1), value := max (v x) (v y)
          suspect := (zs.getD x default).suspect || (zs.getD y default).suspect }], !yt.isEmpty || !xt.isEmpty)
    | _, _ => ([], false)
  else
    let w := max 1 (tcChans b 2).length
    let r := rankPeaks v ps
    (r.map (fun n => { node := n, sx := centroid b zs n (fun m => m % w), sy := centroid b zs n (fun m => m / w), value := v n
                       suspect := (zs.getD n default).suspect }), decide (10 < r.length))

/-! ### Tracking (R450) -/

/-- Squared distance of two contacts in units of (1/256 pitch)². -/
def dist2 (a b : Contact) : Nat := ((a.sx - b.sx) ^ 2 + (a.sy - b.sy) ^ 2).natAbs

/-- Takes pairs in order, each previous ID and each new contact once. -/
def takePairs : List (Nat × Nat × Nat) → List Nat → List Nat → List (Nat × Nat)
  | [], _, _ => []
  | (_, p, n) :: t, ps, ns =>
    if ps.elem p || ns.elem n then takePairs t ps ns else (p, n) :: takePairs t (p :: ps) (n :: ns)

/-- Pairs of previous IDs and new contacts' places within 2 node pitches, nearest first, lower ID on a tie. -/
def pairUp (old new : List Contact) : List (Nat × Nat) :=
  let all := (old.map (fun a => (List.range new.length).filterMap (fun j =>
    let d := dist2 a (new.getD j {})
    if d ≤ 262144 then some (d, a.id, j) else none))).flatten
  takePairs (all.mergeSort (fun a b => decide (a.1 < b.1 ∨ (a.1 = b.1 ∧ (a.2.1 < b.2.1 ∨ (a.2.1 = b.2.1 ∧ a.2.2 ≤ b.2.2)))))) [] []

/-- New contacts take their pair's identity, or the lowest ID that no previous or unreported contact holds; with none left they are not
tracked. A contact that has been at a SUSPECT node stays SUSPECT (R445). -/
def assign (old : List Contact) (busy : List Nat) (pairs : List (Nat × Nat)) : Nat → List Contact → List Nat → List Contact
  | _, [], _ => []
  | j, c :: t, given =>
    match pairs.find? (fun p => p.2 == j) with
    | some p =>
      let o := (old.find? (fun a => a.id == p.1)).getD {}
      { c with id := o.id, seen := o.seen + 1, down := o.down, held := o.held, suspect := c.suspect || o.suspect } :: assign old busy pairs (j + 1) t given
    | none =>
      match (List.range 16).find? (fun i => !(busy.elem i) && !(given.elem i)) with
      | some i => { c with id := i } :: assign old busy pairs (j + 1) t (i :: given)
      | none => assign old busy pairs (j + 1) t given

/-- A contact's DOWN and HELD at sample time ts (R449, R451). -/
def stepContact (b : Body) (ts : Nat) (c : Contact) : Contact × TEntry :=
  match c.down with
  | none =>
    if b.u8 2 ≤ c.seen then let c1 := { c with down := some ts }; (c1, { con := c1, isDown := true }) else (c, {})
  | some d =>
    let m := (ts - d) / (b.u16 44 * sec)
    let c1 := { c with held := max c.held m }
    (c1, { con := c1, heldNow := decide (c.held < m) })

/-- Contacts in order of strength, of which the first n that are due have a place in the report: a contact without one is not DOWN
before it gets one (R449, R458). The contacts, the entries, and the contacts without a place that have reached a multiple of HELD_S. -/
def stepAll (b : Body) (ts : Nat) : Nat → List Contact → List Contact × List TEntry × List TEntry
  | _, [] => ([], [], [])
  | n, c :: t =>
    let r := stepContact b ts c
    if r.2.con.down.isNone then
      let q := stepAll b ts n t
      (r.1 :: q.1, q.2.1, q.2.2)
    else
      match n with
      | k + 1 =>
        let q := stepAll b ts k t
        (r.1 :: q.1, r.2 :: q.2.1, q.2.2)
      | 0 =>
        let q := stepAll b ts 0 t
        (if c.down.isNone then c :: q.1 else r.1 :: q.1, q.2.1, if r.2.heldNow then r.2 :: q.2.2 else q.2.2)

/-- What tracking makes of a frame: contacts, those that ended, entries of the live ones, and those that only TOUCH_HELD tells. -/
def track (b : Body) (fe : TouchFe) (new : List Contact) (ts : Nat) : TouchFe × List TEntry × List TEntry :=
  let pairs := pairUp fe.contacts new
  let busy := fe.contacts.map (fun c => c.id) ++ fe.ended.map (fun c => c.id)
  let gone := fe.contacts.filter (fun c => c.down.isSome && !pairs.any (fun p => p.1 == c.id))
  let ended := fe.ended ++ gone
  let l := stepAll b ts (10 - ended.length) (assign fe.contacts busy pairs 0 new [])
  ({ fe with contacts := l.1, ended := ended }, l.2)

/-! ### Baselines (R444 to R448) -/

/-- Adds a baseline change to a node; a SUSPECT node's reference value moves with it. -/
def TNode.adjust (z : TNode) (d : Int) : TNode := { z with base := z.base + d, refv := if z.suspect then z.refv + d else z.refv }

/-- R448: the nodes that tracked in the last frame give the change that a new drive frequency makes. -/
def freqShift (zs : List TNode) (raw : List Nat) : List TNode :=
  let ds := (zs.zip raw).filterMap (fun (e : TNode × Nat) => if e.1.frozen then none else some ((e.2 : Int) - e.1.raw))
  let d := if ds.isEmpty then 0 else roundAway ds.sum ds.length
  zs.map (fun z => z.adjust d)

/-- Hysteresis of a node (R449). -/
def TNode.feel (b : Body) (gain : Nat) (z : TNode) : TNode :=
  let v := 16 * valS (tcSelf b) z
  { z with touched := if z.touched then decide ((b.u16 30 * gain : Nat) ≤ v) else decide ((b.u16 28 * gain : Nat) ≤ v) }

/-- R446: nodes not in a contact far below their baseline take the raw count; how many did. -/
def reBaseline (b : Body) (inCon : List Nat) (zs : List TNode) : List TNode × Nat :=
  let hit := fun (i : Nat) (z : TNode) => !(inCon.elem i) && decide (ownS (tcSelf b) z ≤ -(b.u16 32 : Int))
  let l := zs.mapIdx (fun i z => if hit i z then ({ z with base := z.raw, suspect := false }, 1) else (z, 0))
  (l.map (fun x => x.1), (l.map (fun x => x.2)).sum)

/-- R447: the frozen set, and the baselines of tracking and frozen nodes. -/
def settleNodes (b : Body) (gain : Nat) (inCon : List Nat) (zs : List TNode) : List TNode :=
  let near := inCon ++ (inCon.map (neighbours b)).flatten
  let l := zs.mapIdx (fun i z => { z with frozen := near.elem i || decide ((b.u16 30 * gain : Nat) ≤ 16 * ownS (tcSelf b) z) })
  let k := b.u8 3
  let inc := fun (z : TNode) => (z.raw - z.base + 2 ^ (k - 1)) / 2 ^ k
  let incs := (l.filter (fun z => !z.frozen)).map inc
  let cm := if incs.isEmpty then 0 else roundAway incs.sum incs.length
  l.map (fun z => z.adjust (if z.frozen then cm else inc z))

/-- One captured frame; after the eighth, the baselines and the SUSPECT nodes (R444, R445). -/
def TouchFe.capture1 (fe : TouchFe) (raw : List Nat) (n : Nat) (sums : List Nat) : TouchFe :=
  let sums1 := sums.mapIdx (fun i x => x + raw.getD i 0)
  let zs := fe.nodes.mapIdx (fun i z => { z with raw := (raw.getD i 0 : Nat) })
  if n + 1 < 8 then { fe with nodes := zs, moved := false, capture := some (n + 1, sums1) }
  else
    { fe with capture := none, moved := false
              nodes := zs.mapIdx (fun i z =>
                let bse : Int := (sums1.getD i 0 + 4) / 8
                let rf : Int := fe.table.getD i 0
                { z with base := bse, refv := rf, suspect := decide ((fe.cfg.u16 34 : Int) < |bse - rf|), touched := false, frozen := false }) }

/-! ### Taking settings at a scan-frame boundary -/

/-- Every contact ends with RESET (R451). -/
def TouchFe.endAll (fe : TouchFe) : TouchFe :=
  { fe with ended := fe.ended ++ fe.contacts.filter (fun c => c.down.isSome), contacts := [], reset := fe.reset || fe.contacts.any (fun c => c.down.isSome) }

/-- Entries of contacts that ended. -/
def upEntries (l : List Contact) : List TEntry := l.map (fun c => { con := c, isUp := true })

/-- Registers that follow a front-end: counts, capture, table. -/
def State.showTfe (s : State) (f : Nat) : State :=
  let x := s.tfe f
  let s1 : State := ((s.setBits .TCH_FE_STAT f 15 12 (min 10 (x.contacts.filter (fun c => c.down.isSome)).length)).setBit .TCH_FE_STAT f 29
    (x.capture.isSome && s.tfeOn f)).setBit .TCH_FE_STAT f 28 (!x.table.isEmpty)
  (s1.setBits .TCH_FE_STAT f 11 0 (tcNodes x.cfg)).setBits .TCH_FE_SUSPECT f 11 0 (x.nodes.filter (fun z => z.suspect)).length

/-- TCH_NOISE: charger-noise mode entered or left, at a drive code, with the N that decided (R452, R461). -/
def State.tellNoise (s : State) (f : Nat) (on byCmd : Bool) (code n : Nat) : State :=
  s.event 0x6003 ([BitVec.ofNat 8 f, BitVec.ofNat 8 (bit01 on), BitVec.ofNat 8 (bit01 byCmd), 0#8] ++ leBytes 2 (freqKhz code) ++ leBytes 2 n)

/-- A TCH_CONFIG ends the self-tests under way, whose nodes it captures afresh, and the snapshots that no frame or no room follows:
they are answered NOTREADY (DESIGN CHOICE, log 219). -/
def State.dropTchCmds (s : State) (f : Nat) (b : Body) : State :=
  let x := s.tfe f
  let stays := fun (c : TchCmd) => tcOn b && decide (8 * tcNodes b ≤ c.body.u32 12)
  let s1 := x.tests.foldl (fun (s : State) t => s.replyR t.req 0x6007 9 0 t.restarted []) (s.modTfe f (fun x => { x with tests := [], snaps := x.snaps.filter stays }))
  (x.snaps.filter (fun c => !stays c)).foldl (fun (s : State) c => s.replyR c.req 0x6008 9 0 c.restarted []) s1

/-- Entries of ended contacts in reports of at most 10. -/
def upReports (r : TReport) (l : List Contact) : List TReport :=
  (List.range (ceilDiv l.length 10)).map (fun i => { r with entries := upEntries ((l.drop (10 * i)).take 10) })

/-- A TCH_CONFIG is taken: contacts end, capture begins, the table goes when roles or mode change (R444, R451); a front-end that
stops reports its ended contacts at once. -/
def State.takeTchConfig (s : State) (f : Nat) (b : Body) : State :=
  let x := s.tfe f
  let n := tcNodes b
  let sameLayout := x.cfg.u8 1 / 2 % 2 == b.u8 1 / 2 % 2 && (x.cfg.drop 4).take 24 == (b.drop 4).take 24 && !x.cfg.isEmpty
  let on := tcOn b
  let was := s.tfeOn f
  let y : TouchFe := x.endAll
  let rep : List TReport := if was && !on then
      upReports { k := y.k, ts := y.tk + 2000000, noise := s.tfeNoise f, reset := y.reset, freq := s.tfeFreq f } y.ended else []
  let y1 : TouchFe := { y with tests := x.tests, snaps := x.snaps, cfg := b, next := none, table := if sameLayout then y.table else []
                               nodes := (List.range n).map (fun _ => {}), capture := if on then some (0, List.replicate n 0) else none
                               running := false, moved := false, above := 0, below := 0, reports := y.reports ++ rep
                               ended := if was && !on then [] else y.ended, reset := if was && !on then false else y.reset
                               nextK := if was then y.nextK else scanFrom s.ptp }
  let s0 : State := if was && !on && s.tfeNoise f then s.tellNoise f false true (x.cfg.u8 37) (x.noise.getD (x.cfg.u8 37) 0) else s
  let s1 : State := s0.modTfe f (fun _ => y1)
  let s2 : State := ((s1.setBit .TCH_FE_STAT f 31 on).setBit .TCH_FE_STAT f 30 (tcSelf b)).setBit .TCH_STATUS 0 f on
  let s3 : State := if was && on then s2
    else ((s2.setBits .TCH_FE_STAT f 24 22 (b.u8 37)).setBit .TCH_FE_STAT f 27 false).setBit .TCH_STATUS 0 (2 + f) false
  ((if on then s3.powerUp 39 else s3).showTfe f).dropTchCmds f b

/-- A TCH_MAP is in force, and in the stored copy unless it is a profile's (R91, R453). -/
def State.takeTchMap (s0 : State) (f : Nat) (b : Body) (quiet : Bool) : State :=
  let on := b.u8 1 != 0xFF
  let s := if quiet then s0 else s0.storeTaken 0x6003 b
  ((s.modTfe f (fun x => { x with map := if on then b else [], nextMap := none })).setBit .TCH_FE_STAT f 16 on).setBits .TCH_FE_STAT f 21 17
    (if on then b.u8 1 else 0)

/-- A TCH_MAP from a command or a profile: at the next boundary, or at once while the front-end does not scan. -/
def State.applyTchMap (s : State) (b : Body) (quiet : Bool) : State :=
  if s.tfeOn (b.u8 0) then s.modTfe (b.u8 0) (fun x => { x with nextMap := some b, mapQuiet := quiet }) else s.takeTchMap (b.u8 0) b quiet

/-- A ring placement is in force: indices 0, phase 1 (TCH_RING). -/
def State.takeTchRing (s : State) (r : HostRing) : State :=
  let s1 : State := { s with tch := { s.tch with ring := r, nextRing := none } }
  ((s1.setReg .TCH_RING_WR 0 0#32).setReg .TCH_RING_RD 0 0#32).setBit .TCH_STATUS 0 4 (r.log2 != 0)

/-! ### Charger noise (R452) -/

/-- The allowed code with the lowest noise, lower code on a tie. -/
def quietest (b : Body) (noise : List Nat) : Nat :=
  (maskBits (b.u8 36) 8).foldl (fun (m : Nat) n => if noise.getD n 0 < noise.getD m 0 then n else m) ((maskBits (b.u8 36) 8).headD (b.u8 37))

/-- Mode and drive code that the noise counts and the control ask for. -/
def State.noiseWant (s : State) (f : Nat) : Bool × Nat :=
  let x := s.tfe f
  let b := x.cfg
  let on := s.tfeNoise f
  let cur := s.tfeFreq f
  let ctl := s.regBits .TCH_FE_STAT f 26 25
  let q := quietest b x.noise
  if ctl = 2 then (false, b.u8 37)
  else if !on then (if ctl = 1 ∨ 3 ≤ x.above then (true, q) else (false, b.u8 37))
  else if ctl = 0 ∧ 240 ≤ x.below then (false, b.u8 37)
  else if 3 ≤ x.above ∧ 2 * x.noise.getD q 0 < x.noise.getD cur 0 then (true, q)
  else (true, if (b.u8 36).testBit cur then cur else q)

/-- The boundary's noise decision: mode, drive code, TCH_NOISE, counts. -/
def State.takeNoise (s : State) (f : Nat) : State :=
  let (on, code) := s.noiseWant f
  let was := s.tfeNoise f
  let cur := s.tfeFreq f
  let x := s.tfe f
  let n := x.noise.getD (if on then cur else x.cfg.u8 37) 0
  let s1 : State := if code = cur then s
    else (s.setBits .TCH_FE_STAT f 24 22 code).modTfe f (fun x => { x with moved := true, above := 0, below := 0 })
  if on = was then s1
  else
    let s2 : State := ((s1.setBit .TCH_FE_STAT f 27 on).setBit .TCH_STATUS 0 (2 + f) on).modTfe f (fun x => { x with above := 0, below := 0 })
    let s3 : State := if on then s2.bumpSat .TCH_FE_NOISE_CNT f else s2
    s3.tellNoise f on (s.regBits .TCH_FE_STAT f 26 25 != 0) code n

/-- A TCH_REBASE at its boundary: B takes R, SUSPECT clears; nodes in or next to a contact are skipped, or with FORCE their
contacts end (R451). -/
def State.doRebase (s : State) (f : Nat) (c : TchCmd) : State :=
  let x := s.tfe f
  let b := c.body
  let n := x.nodes.length
  let first := if b.u16 4 = 0 then 0 else b.u16 2
  let count := if b.u16 4 = 0 then n else b.u16 4
  let inR := fun (i : Nat) => decide (first ≤ i ∧ i < first + count ∧ i < n)
  let near := fun (k : Contact) => k.node :: neighbours x.cfg k.node
  let force := b.u8 1 == 1
  let held := (x.contacts.map near).flatten
  let skip := if force then [] else (List.range n).filter (fun i => inR i && held.elem i)
  let zs := x.nodes.mapIdx (fun i z => if inR i && !(skip.elem i) then { z with base := z.raw, suspect := false, touched := false } else z)
  let hit := fun (k : Contact) => force && (near k).any inR
  let gone := x.contacts.filter (fun k => hit k && k.down.isSome)
  let y : TouchFe := { x with nodes := zs, contacts := x.contacts.filter (fun k => !hit k), ended := x.ended ++ gone, reset := x.reset || !gone.isEmpty }
  let done := ((List.range n).filter (fun i => inR i && !(skip.elem i))).length
  ((s.modTfe f (fun _ => y)).showTfe f).replyR c.req 0x6006 0 0 c.restarted (leBytes 2 done ++ leBytes 2 skip.length)

/-- What waits for a scan-frame boundary is taken in order: ring, map, noise control, configuration, rebases. -/
def State.tchBoundary (s : State) (f : Nat) : State :=
  let s1 : State := match s.tch.nextRing with | some r => s.takeTchRing r | none => s
  let s2 : State := match (s1.tfe f).nextMap with | some b => s1.takeTchMap f b (s1.tfe f).mapQuiet | none => s1
  let s3 : State := match (s2.tfe f).nextCtl with
    | some c => (s2.setBits .TCH_FE_STAT f 26 25 c).modTfe f (fun x => { x with nextCtl := none })
    | none => s2
  let rb := (s3.tfe f).rebases
  let s4 : State := rb.foldl (fun (s : State) c => s.doRebase f c) (s3.modTfe f (fun x => { x with rebases := [] }))
  match (s4.tfe f).next with
  | some b => s4.takeTchConfig f b
  | none => s4

/-- SCAN_FRAME_START: scan frame k of an enabled front-end starts at t_k; what waits for the boundary is taken (R441, R442,
R444, R452). -/
def execScanFrameStart (f : Fin 2) (s : State) : Host.Outcome State Fault Refusal :=
  let x := s.tfe f
  if !s.tfeOn f || x.running || decide (s.ptp < scanAt x.nextK) then .next s
  else
    let s1 : State := s.tchBoundary f
    if s1.tfeOn f then
      .next (((s1.takeNoise f).bumpWrap .TCH_FE_FRAMES f).modTfe f (fun y => { y with running := true, k := y.nextK, tk := scanAt y.nextK, nextK := y.nextK + 1
                                                                                      tests := y.tests.map (fun t => { t with live := true })
                                                                                      snaps := y.snaps.map (fun c => { c with live := true }) }))
    else .next s1

/-! ### The frame's processing (R443) -/

/-- Sums of the self-tests under way (TCH_SELFTEST). -/
def stepTest (b : Body) (zs : List TNode) (t : SelfTest) : SelfTest :=
  if t.left = 0 ∨ !t.live then t
  else
    let w := max 1 (tcChans b 2).length
    let chans := fun (i : Nat) => if tcSelf b then [(tcUsed b).getD i 0] else [(tcChans b 1).getD (i / w) 0, (tcChans b 2).getD (i % w) 0]
    let fr := ((zs.mapIdx (fun i z => if z.frozen then chans i else [])).flatten).filter (fun c => !(t.frozen.elem c))
    { t with left := t.left - 1, sums := zs.mapIdx (fun i z => t.sums.getD i 0 + z.raw.toNat), frozen := t.frozen ++ fr.eraseDups }

/-- The 8 bytes of a node in a snapshot (TCH_SNAPSHOT). -/
def TNode.bytes (z : TNode) : List Byte :=
  leBytes 2 z.raw.toNat ++ sleBytes 2 z.base ++ sleBytes 2 z.refv ++ [BitVec.ofNat 8 (bit01 z.suspect + 2 * bit01 z.frozen + 4 * bit01 z.touched), 0#8]

/-- The noise of the listen period, its counts and registers (R452). -/
def State.listen (s : State) (f : Nat) (noise : List Nat) : State :=
  let b := (s.tfe f).cfg
  let nc := noise.getD (s.tfeFreq f) 0
  let nn := noise.getD (b.u8 37) 0
  let s1 : State := s.modTfe f (fun x => { x with noise := noise.take 8, above := if b.u16 40 < nc then x.above + 1 else 0, below := if nn < b.u16 42 then x.below + 1 else 0 })
  s1.setReg .TCH_FE_NOISE f (BitVec.ofNat 32 (min 65535 nc * 65536 + min 65535 nn))

/-- Steps 1 to 4 of R443 on a front-end's nodes, and the entries of step 5; how many nodes R446 re-baselined; OVERFLOW. -/
def TouchFe.scan (fe : TouchFe) (raw : List Nat) (gain : Nat) : TouchFe × (List TEntry × List TEntry) × Nat × Bool :=
  let b := fe.cfg
  let zs0 := if fe.moved then freqShift fe.nodes raw else fe.nodes
  let zs1 := (zs0.mapIdx (fun i z => { z with raw := (raw.getD i 0 : Nat) })).map (TNode.feel b gain)
  let (cs, ovf) := contactsOf b zs1
  let (fe1, es) := track b { fe with moved := false } cs (fe.tk + 2000000)
  let inCon := peaksOf b zs1
  let (zs2, n) := reBaseline b inCon zs1
  ({ fe1 with nodes := settleNodes b gain inCon zs2 }, es, n, ovf)

/-- The report of a frame, if a contact is there or has ended (R457); ended contacts beyond 10 wait for the next. -/
def State.buildReport (s : State) (f : Nat) (es : List TEntry × List TEntry) (ovf : Bool) : State :=
  let x := s.tfe f
  let ups := x.ended.take 10
  if ups.isEmpty && es.1.isEmpty && es.2.isEmpty then s
  else
    let l := (upEntries ups ++ es.1).mergeSort (fun a b => decide (a.con.id ≤ b.con.id))
    s.modTfe f (fun x => { x with ended := x.ended.drop 10, reset := false, reports := x.reports ++
      [{ k := x.k, ts := x.tk + 2000000, noise := s.tfeNoise f, overflow := ovf, reset := x.reset
         freq := s.tfeFreq f, entries := l, heldOnly := es.2 }] })

/-- TCH_SUSPECT at the end of a capture (R445). -/
def State.tellSuspect (s : State) (f : Nat) : State :=
  let zs := (s.tfe f).nodes
  let l := (List.range zs.length).filter (fun i => (zs.getD i default).suspect)
  match l with
  | [] => s
  | a :: _ => s.event 0x6001 ([BitVec.ofNat 8 f, 0#8] ++ leBytes 2 l.length ++ leBytes 2 a)

/-- Snapshots that wait take this frame (TCH_SNAPSHOT). -/
def State.snapshots (s : State) (f : Nat) : State :=
  let x := s.tfe f
  let dat := (x.nodes.map TNode.bytes).flatten
  (x.snaps.filter (fun c => c.live)).foldl (fun (s : State) c => (s.emit (.dma c.req.port (c.body.u64 4) dat)).replyR c.req 0x6008 0 0 c.restarted
    (leBytes 4 x.k ++ leBytes 2 x.nodes.length)) (s.modTfe f (fun x => { x with snaps := x.snaps.filter (fun c => !c.live) }))

/-- The noise and detection of a frame that is not captured. -/
def State.scanNodes (s : State) (f : Nat) (raw : List Nat) : State :=
  let x := s.tfe f
  let gain := if s.tfeNoise f then x.cfg.u8 38 else 16
  let (y, es, n, ovf) := x.scan raw gain
  let s1 : State := s.modTfe f (fun _ => y)
  let s2 : State := if n = 0 then s1 else (s1.addSat .TCH_FE_REBASE f n).eventPerSec 0x6004 f n (fun k => [BitVec.ofNat 8 f, 0#8, 0#8, 0#8] ++ leBytes 4 k)
  s2.buildReport f es ovf

/-- SCAN_FRAME_PROCESS: the 16-bit raw counts of a frame and the noise of its listen period go through capture or the five steps of
R443; self-tests and snapshots take the frame. -/
def execScanFrameProcess (f : Fin 2) (counts listened : List (BitVec 16)) (s : State) : Host.Outcome State Fault Refusal :=
  let x := s.tfe f
  let raw := counts.map BitVec.toNat
  let noise := listened.map BitVec.toNat
  if !s.tfeOn f || !x.running || decide (s.ptp < x.tk + 3750000) then .next s
  else
    let s1 : State := s.listen f noise
    let s2 : State := match x.capture with
      | some (n, sums) =>
        let t : State := (s1.modTfe f (fun y => y.capture1 raw n sums)).buildReport f ([], []) false
        if n = 7 then t.tellSuspect f else t
      | none => s1.scanNodes f raw
    let s3 : State := s2.modTfe f (fun y => { y with running := false, tests := y.tests.map (stepTest y.cfg y.nodes) })
    .next ((s3.snapshots f).showTfe f)

/-! ### Provenance and reports (R453 to R458) -/

/-- A contact's point in head or gang coordinates (R453). -/
def mapPoint (m : Body) (c : Contact) : Int × Int :=
  let k := fun i => m.sle (8 + 4 * i) 4
  ((k 0 * c.sx + k 1 * c.sy + k 2) / 65536, (k 3 * c.sx + k 4 * c.sy + k 5) / 65536)

/-- Time from a frame boundary until line y has left Flare: V, the lines above it and itself, in the raster that scans it (R454). -/
def lineOut (b : Body) (v y : Nat) : Nat :=
  let lb := lineRaster b
  if quadMap b then linesNs lb (v + y % max 1 (tVact lb) + 1)
  else if tFlag b 1 then linesNs lb (fieldOffset v (y % 2) + y / 2 + 1)
  else linesNs lb (v + y + 1)

/-- What the history says of a point: no history, or the record; none while the record is not final yet. -/
def State.glassAt (s : State) (h y tg : Nat) : Option (Option HistRec) :=
  match (s.head h).hist.find? (fun r => decide (r.flip + lineOut r.timing r.v y ≤ tg)) with
  | none => some none
  | some r => if r.final then some (some r) else none

/-- Is the point inside a layer's visible rectangle. -/
def HistLayer.has (e : HistLayer) (x y : Nat) : Bool := e.state % 2 == 1 && (Rect.mk e.x0 e.x1 e.y0 e.y1).has x y

/-- Provenance of one entry: X, Y, state bits beyond the contact's own, LAYER, VLAYER, and the history entry behind VLAYER
with its frame and the class of LAYER. -/
structure Prov where
  x : Nat := 0
  y : Nat := 0
  bits : Nat := 0
  layer : Nat := 0xFF
  vlayer : Nat := 0xFF
  glyph : Nat := 0
  checks : Nat := 0
  cls : Nat := 3
  covered : Nat := 0
  tag : List Byte := List.replicate 16 0#8
  frame : Nat := 0
  age : Nat := 0xFFFFFFFF
deriving DecidableEq, Repr, Inhabited

/-- A point inside a record (R454). -/
def provIn (r : HistRec) (x y : Nat) : Prov :=
  let hits := r.layers.filter (fun e => e.2.has x y)
  let top := hits.getLast?
  let v := (hits.filter (fun e => e.2.cls == 0 || e.2.cls == 2)).getLast?
  let p : Prov := { x := x, y := y, frame := r.frame, layer := (top.map (fun e => e.1)).getD 0xFF, cls := (top.map (fun e => e.2.cls)).getD 3 }
  match v with
  | none => p
  | some (l, e) =>
    let mark := e.glyph != 0 && (markAt r.style e.glyph ⟨e.x0, e.x1, e.y0, e.y1⟩ x y).isSome
    { p with vlayer := l, glyph := e.glyph, checks := e.checks, covered := e.state / 2 % 2, tag := e.tag.bytes, age := e.ageUs, bits := 128 * bit01 mark }

/-- Provenance of a contact; none while its frame's record is not final (R453 to R455). -/
def State.provOf (s : State) (f ts : Nat) (c : Contact) : Option Prov :=
  let m := (s.tfe f).map
  if m.isEmpty then some { bits := 32 }
  else
    let h := m.u8 1
    let b := s.rasterOf h
    let (x, y) := mapPoint m c
    if x < 0 ∨ y < 0 ∨ (tHact b : Int) ≤ x ∨ (tVact b : Int) ≤ y then
      if b.isEmpty then some { x := (x % 65536).toNat, y := (y % 65536).toNat, bits := 32 }
      else some { x := (x % 65536).toNat, y := (y % 65536).toNat, bits := 64 }
    else
      match s.glassAt h y.toNat (ts - m.u32 4 * 1000) with
      | none => none
      | some none => some { x := x.toNat, y := y.toNat, bits := 32 }
      | some (some r) => some (provIn r x.toNat y.toNat)

/-- STATE of an entry (R458). -/
def TEntry.bits (e : TEntry) : Nat :=
  bit01 e.isDown + 2 * bit01 (!e.isDown && !e.isUp) + 4 * bit01 e.isUp + 8 * bit01 e.con.suspect + 16 * bit01 (decide (1 ≤ e.con.held))

/-- The 48 bytes of an entry at sample time ts (R458). -/
def entryBytes (ts : Nat) (e : TEntry) (p : Prov) : List Byte :=
  leBytes 1 e.con.id ++ leBytes 1 (e.bits + p.bits) ++ leBytes 2 p.x ++ leBytes 2 p.y ++ leBytes 2 (min 65535 e.con.value.toNat)
    ++ leBytes 1 p.layer ++ leBytes 1 p.vlayer ++ leBytes 1 p.glyph ++ leBytes 1 p.checks ++ leBytes 1 p.cls ++ leBytes 1 p.covered ++ leBytes 2 0
    ++ p.tag ++ leBytes 6 p.frame ++ leBytes 2 0 ++ leBytes 4 p.age ++ leBytes 4 ((ts - (e.con.down.getD ts)) / ms)

/-- The 512 bytes of a record (R458). -/
def TReport.bytes (r : TReport) (f head phase skipped : Nat) (es : List (List Byte)) : List Byte :=
  let hd := timeBytes r.ts ++ leBytes 4 r.k ++ leBytes 1 f ++ leBytes 1 head ++ leBytes 1 es.length
    ++ leBytes 1 (phase + 2 * bit01 r.noise + 4 * bit01 r.overflow + 8 * bit01 r.reset) ++ leBytes 2 (freqKhz r.freq) ++ leBytes 2 0
    ++ leBytes 4 skipped ++ leBytes 8 0
  (hd ++ es.flatten ++ List.replicate 512 0#8).take 512

/-- X and Y of an entry while no map is in force are values the spec does not state: free ones. -/
def State.freePoint (s : State) (f : Nat) (p : Prov) : State × Prov :=
  if (s.tfe f).map.isEmpty then
    let (k, s1) := s.draw
    let v := (Config.freeWord k).toNat
    (s1, { p with x := v % 65536, y := v / 65536 % 65536 })
  else (s, p)

/-- TOUCH_HELD of an entry (R451). -/
def State.tellHeld (s : State) (f ts : Nat) (e : TEntry) (p : Prov) : State :=
  if e.heldNow then
    s.eventAt ts 0x6002 ([BitVec.ofNat 8 f, BitVec.ofNat 8 e.con.id] ++ leBytes 2 p.x ++ leBytes 2 p.y ++ leBytes 2 0
      ++ leBytes 4 ((ts - (e.con.down.getD ts)) / ms) ++ [BitVec.ofNat 8 p.vlayer, BitVec.ofNat 8 p.glyph, 0#8, 0#8] ++ p.tag)
  else s

/-- A record reaches the ring, or is dropped while the slot is unread, or withheld by the guard (R457, R458). -/
def State.putReport (s : State) (f : Nat) (r : TReport) (es : List (List Byte)) : State :=
  let x := s.tfe f
  let g := s.tch.ring
  let recent := x.sent.filter (fun t => decide (s.now < t + sec))
  let skip := fun (s : State) => s.modTfe f (fun y => { y with skipped := y.skipped + 1, sent := recent })
  let w := s.regBits .TCH_RING_WR 0 11 0
  let nx := (w + 1) % g.size
  if g.log2 = 0 then s
  else if 240 ≤ recent.length then (skip s).bumpSat .TCH_FE_WITHHELD f
  else if g.full then
    ((skip s).bumpSat .TCH_RING_DROP 0).eventPerSec 0x6005 f 1 (fun n => leBytes 4 0 ++ leBytes 4 n)
  else
    let head := if x.map.isEmpty then 0xFF else x.map.u8 1
    let s1 : State := (s.emit (.dma g.port (g.addr + w * 512) (r.bytes f head g.phase x.skipped es))).setBits .TCH_RING_WR 0 11 0 nx
    let s2 : State := { s1 with tch := { s1.tch with ring := g.wrote nx } }
    (s2.bumpWrap .TCH_FE_REPORTS f).modTfe f (fun y => { y with skipped := 0, sent := s.now :: recent })

/-- TOUCH_REPORT_WRITE: the oldest report of a front-end leaves once its frame's processing time is over and the records of its frames on
glass are final (R456). -/
def execTouchReportWrite (f : Fin 2) (s : State) : Host.Outcome State Fault Refusal :=
  match (s.tfe f).reports with
  | [] => .next s
  | r :: rest =>
    let prov := fun (e : TEntry) => (e, s.provOf f r.ts e.con)
    let ps := r.entries.map prov
    let hs := r.heldOnly.map prov
    if s.ptp < r.ts + 2100000 ∨ (ps ++ hs).any (fun p => p.2.isNone) then .next s
    else
      let s0 : State := s.modTfe f (fun x => { x with reports := rest })
      let s1 : State := hs.foldl (fun (s : State) (p : TEntry × Option Prov) =>
        let q := s.freePoint f (p.2.getD {})
        q.1.tellHeld f r.ts p.1 q.2) s0
      let out := ps.foldl (fun (a : State × List (List Byte)) (p : TEntry × Option Prov) =>
        let q := a.1.freePoint f (p.2.getD {})
        (q.1.tellHeld f r.ts p.1 q.2, a.2 ++ [entryBytes r.ts p.1 q.2])) (s1, [])
      .next (out.1.putReport f r out.2)

/-! ### Commands -/

/-- TCH_CONFIG 0x6001: mode, roles and thresholds, at the next scan-frame boundary (R438, R444). -/
def execTchConfig (r : Req) (b : Body) (s : State) : Host.Outcome State Fault Refusal :=
  let f := b.u8 0
  let old := (s.tfe f).next.getD (s.tfe f).cfg
  let sameLayout := !old.isEmpty && tcSelf old == tcSelf b && (old.drop 4).take 24 == (b.drop 4).take 24
  command 0x6001 r s [51] (tchConfigBad b) { notReady := tcOn b && (!sameLayout || (s.tfe f).table.isEmpty) } (fun s =>
    done (if s.tfeOn f then s.modTfe f (fun x => { x with next := some b }) else s.takeTchConfig f b))

/-- TCH_REFERENCE 0x6002: a reference table for a disabled front-end (R444). -/
def execTchReference (r : Req) (b : Body) (table : List Byte) (s : State) : Host.Outcome State Fault Refusal :=
  let f := b.u8 0
  command 0x6002 r s [51] (b.length != 12 || decide (1 < f) || !b.zero 1 1 || b.u16 2 == 0 || b.u16 2 != tcNodes (s.tfe f).cfg || s.tfeOn f) {} (fun s =>
    done ((s.modTfe f (fun x => { x with table := (List.range (b.u16 2)).map (fun i => Body.u16 table (2 * i)) })).showTfe f))

/-- BADPARAM of a TCH_MAP. -/
def tchMapBad (b : Body) : Bool :=
  b.length != 32 || decide (1 < b.u8 0) || (decide (23 < b.u8 1) && b.u8 1 != 0xFF) || !b.zero 2 2 || decide (100000 < b.u32 4)

/-- TCH_MAP 0x6003: head, display delay and coefficients (R453). -/
def execTchMap (r : Req) (b : Body) (s : State) : Host.Outcome State Fault Refusal :=
  command 0x6003 r s [51] (tchMapBad b) {} (fun s => done (s.applyTchMap b false))

/-- TCH_RING 0x6004: places or disables the report ring (R458). -/
def execTchRing (r : Req) (b : Body) (s : State) : Host.Outcome State Fault Refusal :=
  let n := b.u8 0
  command 0x6004 r s [51] (b.length != 12 || (n != 0 && (decide (n < 6) || decide (12 < n))) || !b.zero 1 3 || b.u64 4 % 4096 != 0) {} (fun s =>
    let g : HostRing := { log2 := n, addr := b.u64 4, port := r.port }
    done (if s.tfeOn 0 || s.tfeOn 1 then { s with tch := { s.tch with nextRing := some g } } else s.takeTchRing g))

/-- TCH_NOISE_MODE 0x6005: AUTO, ON or OFF (R452). -/
def execTchNoiseMode (r : Req) (b : Body) (s : State) : Host.Outcome State Fault Refusal :=
  let f := b.u8 0
  command 0x6005 r s [51] (b.length != 4 || decide (1 < f) || decide (2 < b.u8 1) || !b.zero 2 2) {} (fun s =>
    done (if s.tfeOn f then s.modTfe f (fun x => { x with nextCtl := some (b.u8 1) }) else s.setBits .TCH_FE_STAT f 26 25 (b.u8 1)))

/-- TCH_REBASE 0x6006: new baselines at the next scan-frame boundary; a front-end that does not scan has no contacts and takes
them at once. -/
def execTchRebase (r : Req) (b : Body) (s : State) : Host.Outcome State Fault Refusal :=
  let f := b.u8 0
  let rs := s.isRestarted
  command 0x6006 r s [51] (b.length != 8 || decide (1 < f) || decide (1 < b.u8 1) || !b.zero 6 2
      || (b.u16 4 != 0 && decide (tcNodes (s.tfe f).cfg < b.u16 2 + b.u16 4))) {} (fun s =>
    let c : TchCmd := { req := r, restarted := rs, body := b }
    .later (if s.tfeOn f then s.modTfe f (fun x => { x with rebases := x.rebases ++ [c] }) else s.doRebase f c))

/-- TCH_SELFTEST 0x6007: averages over 16 frames against limits from host memory. -/
def execTchSelftest (r : Req) (b : Body) (table : List Byte) (s : State) : Host.Outcome State Fault Refusal :=
  let f := b.u8 0
  let rs := s.isRestarted
  command 0x6007 r s [51] (b.length != 12 || decide (1 < f) || !b.zero 1 3) { notReady := !s.tfeOn f || (s.tfe f).capture.isSome } (fun s =>
    .later (s.modTfe f (fun x => { x with tests := x.tests ++ [{ req := r, restarted := rs, limits := table }] })))

/-- Sum of 16 raw counts over the nodes on a channel, and how many raw counts it sums (TCH_SELFTEST); none for a channel without
nodes. -/
def channelSum (b : Body) (sums : List Nat) (c : Nat) : Option (Nat × Nat) :=
  let w := max 1 (tcChans b 2).length
  let on := fun (i : Nat) => if tcSelf b then (tcUsed b).getD i 0 == c else (tcChans b 1).getD (i / w) 96 == c || (tcChans b 2).getD (i % w) 96 == c
  let l := (List.range sums.length).filter on
  if l.isEmpty then none else some ((l.map (fun i => sums.getD i 0)).sum, 16 * l.length)

/-- TCH_SELFTEST_COMPLETE: a test whose 16 frames are done is answered. -/
def execTchSelftestComplete (f : Fin 2) (s : State) : Host.Outcome State Fault Refusal :=
  match (s.tfe f).tests.find? (fun t => t.left == 0) with
  | none => .next s
  | some t =>
    let b := (s.tfe f).cfg
    let verdict := fun (c : Nat) => match channelSum b t.sums c with
      | none => 0
      | some (m, k) => if t.frozen.elem c then 3 else if m < k * Body.u16 t.limits (4 * c) then 1 else if k * Body.u16 t.limits (4 * c + 2) < m then 2 else 0
    let mask := fun (v : Nat) => leBytes 12 (bitsMask ((List.range 96).filter (fun c => verdict c == v)))
    let s1 : State := s.modTfe f (fun x => { x with tests := x.tests.filter (fun u => u != t) })
    .next (s1.replyR t.req 0x6007 0 0 t.restarted (mask 1 ++ mask 2 ++ mask 3))

/-- TCH_SNAPSHOT 0x6008: the next complete scan frame into host memory. -/
def execTchSnapshot (r : Req) (b : Body) (s : State) : Host.Outcome State Fault Refusal :=
  let f := b.u8 0
  let rs := s.isRestarted
  command 0x6008 r s [] (b.length != 16 || decide (1 < f) || !b.zero 1 3 || decide (b.u32 12 < 8 * tcNodes (s.tfe f).cfg)) { notReady := !s.tfeOn f } (fun s =>
    .later (s.modTfe f (fun x => { x with snaps := x.snaps ++ [{ req := r, restarted := rs, body := b }] })))

/-- A value written to a ring read index: it counts from the port that placed the ring, any other write is dropped and counted (R620). -/
def State.writeRingTch (s : State) (p : Port) (v : Word) : State :=
  let x := s.tch.ring
  if x.log2 ≠ 0 ∧ x.port = p then
    ({ s with tch := { s.tch with ring := x.readTo (s.regBits .TCH_RING_WR 0 11 0) (v.bits 11 0) } }).setReg .TCH_RING_RD 0 (v &&& 0xFFF#32)
  else s.bumpSat .HP_WR_DROP p.idx

/-- RING_INDEX_WRITE_TCH: the port that placed the ring frees records (R458, R620). -/
def execRingIndexWriteTch (p : Port) (value : Word) (s : State) : Host.Outcome State Fault Refusal :=
  .next (s.writeRingTch p value)

end Sys2Proof.Machine
end

