-- ==== Sys2Proof/Machine/Time.lean ====
section
/-! DEFINITION. Time and references: PTP ports, the best master and the servo (R385 to R392), steps of the clock and the
times they move (R393 to R397), references and their qualification (R398, R399), the DPLL's selection, switching and holdover
(R400 to R407), phase measurement and grid steps (R408 to R412), the commands and events of group 0x50 (R415). -/

namespace Sys2Proof.Machine

/-! ### The clock and its registers (R382 to R384) -/

/-- A register that shows a signed number, saturating. -/
def State.setSigned (s : State) (r : Reg) (i : Nat) (v : Int) : State :=
  s.setReg r i (BitVec.ofInt 32 (clampInt (-(2 ^ 31 : Int)) (2 ^ 31 - 1) v))

/-- Units of RATE in n ppm, rounded down (R383). -/
def ppmUnits (n : Nat) : Int := (n * 2 ^ 48 / 1000000 : Nat)

/-- ppb of a rate in units of 2^-48. -/
def ppbOf (r : Int) : Int := r * 1000000000 / 2 ^ 48

/-- The control word that the grid runs with, in 2^-48 ns per ns of OSC_IN. -/
def State.ctlWord (s : State) : Int := if s.tm.onPtp then s.tm.ptp.rate else s.tm.grid.rate

/-- The control word and RATE have stood up to now: their averages (R407). -/
def State.accrue (s : State) : State :=
  { s with tm := { s.tm with ctlAvg := s.tm.ctlAvg.add s.now s.ctlWord, rateAvg := s.tm.rateAvg.add s.now s.tm.ptp.rate } }

/-- The grid from here on runs by itself with a rate, limited to ±100 ppm (R401). -/
def State.freeGrid (s : State) (rate : Int) : State :=
  let a := s.accrue
  let w := clampInt (-(ppmUnits 100)) (ppmUnits 100) rate
  { a with tm := { a.tm with grid := { acc := a.tm.gridFix a.now, at0 := a.now, rate := w }, onPtp := false
                             ctlAt := if w = s.ctlWord then a.tm.ctlAt else a.now } }

/-- How far the control word may change now: 2 ppm per second (R401). -/
def State.slewRoom (s : State) : Int := ppmUnits 2 * (min (s.now - s.tm.ctlAt) sec : Nat) / sec

/-- The control word goes towards a target as fast as R401 lets it. -/
def State.slewTo (s : State) (target : Int) : State := s.freeGrid (clampInt (s.ctlWord - s.slewRoom) (s.ctlWord + s.slewRoom) target)

/-- May the DPLL's output be a word now, by its range and its slew (R401). -/
def State.wordOk (s : State) (w : Int) : Bool := decide (w.natAbs ≤ (ppmUnits 100).natAbs) && decide ((w - s.ctlWord).natAbs ≤ s.slewRoom.natAbs)

/-- Writes RATE (R383). A grid that equals PTP time follows it as far as R401 lets it; else the loop tracks PTP from there (log 211). -/
def State.setRate (s : State) (r : Int) : State :=
  let s1 := if !s.tm.onPtp || s.wordOk r then s.accrue else s.slewTo r
  let c := if s1.tm.onPtp && r != s.ctlWord then s.now else s1.tm.ctlAt
  ({ s1 with tm := { s1.tm with ptp := s1.tm.ptp.withRate s.now r, ctlAt := c } }).setReg .TM_RATE_LO 0 (BitVec.ofInt 32 r)
    |>.setReg .TM_RATE_HI 0 (BitVec.ofInt 32 (r / 2 ^ 32))

/-- MAX_PPM, LOCK_NS and ANN_TIMEOUT in force (TM_PTP_CONFIG). -/
def State.maxPpm (s : State) : Nat := s.tm.cfg.u16 2
/-- LOCK_NS. -/
def State.lockNs (s : State) : Nat := s.tm.cfg.u32 4
/-- ANN_TIMEOUT. -/
def State.annTimeout (s : State) : Nat := s.tm.cfg.u8 1

/-- The servo asks for a rate: clamped to ±MAX_PPM, each clamped update counted and told at most once a second (R383, R415). -/
def State.servoRate (s : State) (want : Int) : State :=
  let m := ppmUnits s.maxPpm
  let r := clampInt (-m) m want
  let s1 := s.setRate r
  if r = want then s1
  else (s1.bumpSat .TM_RATE_LIMIT 0).eventPerSec 0x5005 0 1 (fun n => leBytes 4 0 ++ leBytes 4 n)

/-- Servo state (R389). -/
def State.servo (s : State) : Nat := s.regBits .TM_STATUS 0 29 27
/-- SLAVE_PORT; 31 none. -/
def State.slavePort (s : State) : Nat := s.regBits .TM_STATUS 0 26 22
/-- The first step has been taken (R390). -/
def State.stepped (s : State) : Bool := s.regBit .TM_STATUS 0 30

/-! ### The DPLL's registers and settings -/

/-- DPLL state (R400). -/
def State.dpll (s : State) : Nat := s.regBits .REF_STATUS 0 31 30
/-- C, the current reference; 7 none (R402). -/
def State.curRef (s : State) : Nat := s.regBits .REF_STATUS 0 29 27
/-- M, the manual reference; 7 none (R402). -/
def State.manRef (s : State) : Nat := s.regBits .REF_STATUS 0 26 24
/-- Reference i is qualified (R399). -/
def State.refQual (s : State) (i : Nat) : Bool := s.regBit .REF_STATUS 0 (14 + i) && decide (i < 5)
/-- Reference i is enabled (R398). -/
def State.refOn (s : State) (i : Nat) : Bool := s.regBit .REF_CFG i 31
/-- TYPE of reference i (R398). -/
def State.refType (s : State) (i : Nat) : Nat := if i = 0 then 0 else s.regBits .REF_CFG i 30 28
/-- RANK of reference i. -/
def State.refRank (s : State) (i : Nat) : Nat := s.regBits .REF_CFG i 27 25
/-- PTP, 1PPS and frame pulses fix phase (R398). -/
def State.refPhase (s : State) (i : Nat) : Bool := i == 0 || s.refType i == 1 || s.refType i == 4
/-- REF_MEAS, signed ppb. -/
def State.refMeas (s : State) (i : Nat) : Int := (s.getReg .REF_MEAS i).toInt
/-- Period of a 1PPS or frame-pulse reference in ps. -/
def State.refPeriodPs (s : State) (i : Nat) : Nat :=
  if s.refType i = 4 then s.regBits .REF_RATE i 15 0 * 1000000000000 / max 1 (s.regBits .REF_RATE i 31 16) else 1000000000000

/-- The body that REF_DPLL has set, or its reset values. -/
def State.dplCfg (s : State) : Body :=
  if s.tm.dcfg.isEmpty then
    leBytes 2 60 ++ leBytes 2 10 ++ leBytes 4 10000 ++ leBytes 2 100 ++ leBytes 2 10 ++ [1#8, 10#8] ++ leBytes 2 0 ++ leBytes 4 2000 ++ leBytes 4 500
  else s.tm.dcfg

/-- A reference's run-time state. -/
def State.ref (s : State) (i : Nat) : RefSt := Tbl.get s.tm.refs i
/-- Changes a reference's run-time state. -/
def State.modRef (s : State) (i : Nat) (f : RefSt → RefSt) : State :=
  { s with tm := { s.tm with refs := Tbl.modify s.tm.refs i f } }

/-- Mean of the one-second averages from t − guard − window to t − guard (R407); t in device seconds. -/
def windowMean (hist : List (Nat × Int)) (t guard window : Nat) : Option Int :=
  let l := hist.filter (fun e => decide (t ≤ e.1 + guard + window) && decide (e.1 + guard ≤ t))
  if l.isEmpty then none else some ((l.map (fun e => e.2)).sum / l.length)

/-- The DPLL changes state, with REF_STATE (R400, R415). -/
def State.setDpll (s : State) (st cause : Nat) : State :=
  let s1 := s.setBits .REF_STATUS 0 31 30 st
  let c := if s1.curRef = 7 then 0xFF else s1.curRef
  s1.event 0x5010 [BitVec.ofNat 8 st, BitVec.ofNat 8 c, BitVec.ofNat 8 cause, BitVec.ofNat 8 (bit01 (s1.regBit .REF_STATUS 0 21))]

/-- The grid runs without a reference, towards a word (R401, R407). -/
def State.holdAt (s : State) (w : Int) : State :=
  let s1 := s.slewTo w
  { s1 with tm := { s1.tm with hoWord := some w } }

/-- The DPLL lets go of its reference: HOLDOVER with the rate of R407. -/
def State.holdover (s : State) (cause : Nat) : State :=
  let d := s.dplCfg
  let m := windowMean s.tm.hist (s.now / sec) (d.u16 10) (d.u16 8)
  let s1 := s.holdAt (m.getD s.ctlWord)
  let s2 := ((s1.setBit .REF_STATUS 0 21 m.isNone).setBits .REF_STATUS 0 29 27 7).setBit .REF_STATUS 0 19 false
  (({ s2 with tm := { s2.tm with errSince := none } }).bumpWrap .REF_HO_ENTRIES 0).setDpll 3 cause

/-! ### Grid steps (R409, R411) -/

/-- The grid moves by e ps: the grid itself when it runs from its own counter, the step's record, the house clocks, the
heads, which keep their coming boundaries' instants, and the phase errors of the references. -/
def State.gridStep (s : State) (e : Int) (cause : Nat) : State :=
  let ns := e / 1000
  let s1 := if s.tm.onPtp then s else { s with tm := { s.tm with grid := s.tm.grid.stepPs s.now e } }
  let s2 := (s1.setSigned .REF_LAST_STEP 0 ns).event 0x5013 ([BitVec.ofNat 8 cause, 0#8, 0#8, 0#8] ++ sleBytes 8 ns)
  let s3 := (List.range 24).foldl (fun (s : State) h =>
    if s.running h && (s.channelOf h).isNone then
      s.modHead h (fun x => { x with nextB := x.nextB + ns, aligning := true, adjusted := 0, added := 0 })
    else s) (s2.houseStep ns)
  [1, 2, 3, 4].foldl (fun (s : State) i => if (s.ref i).seen then s.modRef i (fun r => { r with errPs := r.errPs - e }) else s) s3

/-- PTP's phase error against the grid in ps (R408). -/
def State.ptpErr (s : State) : Int := (s.tm.ptp.fixAt s.now - s.tm.gridFix s.now) * 1000 / 2 ^ 48 + s.tm.ofsPs

/-! ### Selection (R402 to R406) -/

/-- The wait-to-restore timer stops (R403). -/
def State.stopWtr (s : State) : State :=
  (({ s with tm := { s.tm with wtrAt := none } }).setBit .REF_STATUS 0 23 false).setReg .REF_WTR_LEFT 0 0#32

/-- The grid step of a switch to reference i (R409). -/
def State.switchStep (s : State) (i : Nat) : State :=
  if i = 0 then
    let s1 : State := s.gridStep s.ptpErr 0
    { s1 with tm := { s1.tm with errSince := some s1.now } }
  else if s.refPhase i && (s.ref i).seen then s.gridStep (s.ref i).errPs 0
  else s

/-- A switch to reference i: HOLDOVER while it is decided, then LOCKING, with the grid step of a phase reference (R406,
R409). -/
def State.switchTo (s : State) (i cause : Nat) : State :=
  let s1 : State := s.holdover cause
  let s2 : State := ((s1.setBits .REF_STATUS 0 29 27 i).setBit .REF_STATUS 0 19 true).bumpWrap .REF_SWITCHES 0
  let s3 : State := { s2 with tm := { s2.tm with switchAt := s2.now, errSince := none, hoWord := none } }
  let s4 : State := (s3.modRef i (fun r => { r with jumps := 0 })).setDpll 1 cause
  (if i = s4.manRef then s4.stopWtr else s4).switchStep i

/-- The first pair of qualified enabled references of equal rank that differ by more than DISAGREE_PPB among a list (R404). -/
def State.disagreeing (s : State) (l : List Nat) : Option (Nat × Nat) :=
  let lim : Int := s.dplCfg.u32 16
  let ok := fun (i : Nat) => s.refOn i && s.refQual i
  ((l.map (fun i => l.map (fun j => (i, j)))).flatten.filter (fun (e : Nat × Nat) =>
    decide (e.1 < e.2) && ok e.1 && ok e.2 && s.refRank e.1 == s.refRank e.2 && decide (lim < |s.refMeas e.1 - s.refMeas e.2|)))[0]?

/-- B of R402. -/
def State.refB (s : State) : List Nat :=
  let q := [0, 1, 2, 3, 4].filter (fun i => s.refOn i && s.refQual i && i != s.manRef)
  q.filter (fun i => q.all (fun j => decide (s.refRank i ≤ s.refRank j)))

/-- The DPLL evaluates the table of R402; `atOnce` for a REF_SELECT (R405) or the end of the wait-to-restore timer. -/
def State.selectRef (s : State) (cause : Nat) (atOnce : Bool) : State :=
  let m := s.manRef
  let c := s.curRef
  if m = 7 then s
  else if s.regBit .REF_STATUS 0 22 then (if s.dpll = 3 then s else s.holdover cause)
  else if c = m ∧ s.refQual m then s
  else if s.refQual m ∧ (c = 7 ∨ ¬ s.refQual c ∨ atOnce) then s.switchTo m cause
  else if c < 5 ∧ s.refQual c then s
  else
    match s.refB with
    | [] =>
      if s.tm.wasLocked then (if s.dpll = 3 then s else s.holdover cause)
      else if s.dpll = 0 then s
      else (((s.holdAt 0).setBits .REF_STATUS 0 29 27 7).setBit .REF_STATUS 0 19 false).setDpll 0 cause
    | b :: l =>
      match s.disagreeing (b :: l) with
      | some _ => (s.setBit .REF_STATUS 0 22 true).holdover 3
      | none => s.switchTo b cause

/-- A disagreement begins or ends (R404): REF_DISAGREE, its count, and the table. -/
def State.checkDisagree (s : State) : State :=
  let new := s.disagreeing [0, 1, 2, 3, 4]
  let diff := fun (e : Nat × Nat) => leBytes 4 (s.refMeas e.1 - s.refMeas e.2).natAbs
  let ev := fun (s : State) (e : Nat × Nat) (b : Nat) => s.event 0x5012 ([BitVec.ofNat 8 e.1, BitVec.ofNat 8 e.2, BitVec.ofNat 8 b, 0#8] ++ diff e)
  if new = s.tm.disagree then s
  else
    let s1 := match s.tm.disagree with | some e => ev s e 0 | none => s
    let s2 := match new with | some e => (ev s1 e 1).bumpSat .REF_DISAGREE_CNT 0 | none => s1
    (({ s2 with tm := { s2.tm with disagree := new } }).setBit .REF_STATUS 0 20 new.isSome).selectRef 3 false

/-- REF_QUAL (R415). -/
def State.refQualEvent (s : State) (i qual cause : Nat) : State :=
  s.event 0x5011 ([BitVec.ofNat 8 i, BitVec.ofNat 8 qual, BitVec.ofNat 8 cause, 0#8] ++ sleBytes 4 (s.refMeas i))

/-- A reference loses qualification: cause 0 edges, 1 frequency, 2 servo, 3 configuration, 4 lock timeout. The losses of R398
and R399 are counted; the wait-to-restore timer of M stops; the table is evaluated (R399, R402, R403). -/
def State.refLost (s : State) (i cause : Nat) : State :=
  let declared := cause != 1 && cause != 4
  let s1 := if declared then s.bumpSat .REF_LOSS i else s
  let s2 := s1.modRef i (fun r => { r with alive := r.alive && !declared, goodSince := if cause = 4 then some s1.now else none, jumps := 0 })
  if s2.refQual i then
    let s3 := (s2.setBit .REF_STATUS 0 (14 + i) false).refQualEvent i 0 cause
    let s4 := if i = s3.manRef then s3.stopWtr else s3
    (s4.selectRef 0 false).checkDisagree
  else s2

/-- A reference becomes qualified; the wait-to-restore timer starts when it is M and C is another (R399, R402, R403). -/
def State.refGained (s : State) (i : Nat) : State :=
  let s1 := (s.setBit .REF_STATUS 0 (14 + i) true).refQualEvent i 1 5
  let s2 := if i = s1.manRef ∧ s1.curRef ≠ i ∧ s1.curRef ≠ 7 then
      let w := s1.dplCfg.u16 0
      (({ s1 with tm := { s1.tm with wtrAt := some (s1.now + w * sec) } }).setBit .REF_STATUS 0 23 true).setReg .REF_WTR_LEFT 0 (BitVec.ofNat 32 w)
    else s1
  (s2.selectRef 4 false).checkDisagree

/-! ### Steps of the PTP clock (R393 to R397) -/

/-- A held PTP time moved by a step; times wrap with the clock (R382). -/
def movePtp (a : Int) (t : Nat) : Nat := ((t + a) % (2 ^ 48 * 1000000000 : Nat)).toNat

/-- Frames under way in ingest, cameras and decoders keep their ages (R394). -/
def State.moveInputs (s : State) (a : Int) : State :=
  let m := movePtp a
  let frame := fun (f : OpenFrame) => { f with moved := f.moved + a, bandAt := f.bandAt.map m }
  let raw := fun (f : RawFrame) => { f with start := m f.start }
  let au := fun (x : DecAu) => { x with tag := { x.tag with time := m x.tag.time } }
  let ctx := s.ing.ctx.foldl (fun (t : Tbl IngCtx) e => Tbl.modify t e.1 (fun x => { x with frames := x.frames.map frame })) s.ing.ctx
  let cam := s.cam.ctx.foldl (fun (t : Tbl CamCtx) e => Tbl.modify t e.1 (fun x =>
    { x with writing := x.writing.map raw, waiting := x.waiting.map raw, processing := x.processing.map raw })) s.cam.ctx
  let dec := s.dec.foldl (fun (t : Tbl DecSession) e => Tbl.modify t e.1 (fun x => { x with aus := x.aus.map au })) s.dec
  let tx := s.aud.tx.foldl (fun (t : Tbl TxStream) e => Tbl.modify t e.1 (fun x =>
    { x with at0 := m x.at0, ready := x.ready.map (fun r => (r.1, r.2.1, m r.2.2)) })) s.aud.tx
  let surf := fun (f : Surface) => { f with bandAt := f.bandAt.map m }
  let pools := s.pools.foldl (fun (t : Tbl Pool) e => Tbl.modify t e.1 (fun x => { x with surfs := x.surfs.map surf })) s.pools
  { s with ing := { s.ing with ctx := ctx }, cam := { s.cam with ctx := cam }, dec := dec, aud := { s.aud with tx := tx }, pools := pools }

/-- Times of takes in replies still to come move (R394). -/
def State.moveWaiters (s : State) (a : Int) : State :=
  let m := movePtp a
  { s with interp := { s.interp with waiters := s.interp.waiters.map (fun w => { w with first := w.first.map m, last := if w.first.isSome then m w.last else w.last }) }
           prof := { s.prof with first := s.prof.first.map m, last := if s.prof.first.isSome then m s.prof.last else s.prof.last } }

/-- First picture of a channel's grid not earlier than a PTP time (R396). -/
def eFrom (b : Body) (t : Nat) : Nat :=
  let k := (t - ePhase b) * eNum b / (max 1 (eDen b) * 1000000000)
  if t ≤ eTk b k then k else if t ≤ eTk b (k + 1) then k + 1 else k + 2

/-- One encode channel at a step: its held times move, and its next picture is the first of its grid on the stepped clock that
is not earlier than the end of the present picture period (R394, R396). -/
def moveChan (a : Int) (now : Nat) (x : EncChan) : EncChan :=
  let m := movePtp a
  let mi := fun (t : Nat) => if t = 0 then 0 else m t
  { x with pics := x.pics.map (fun p => { p with tk := m p.tk })
           nextK := if x.pic = 0 then eFirst x.cfg now else eFrom x.cfg (m (eTk x.cfg x.nextK))
           tSeq := mi x.tSeq, tCrc := if x.tCrc = 0 then 0 else x.tCrc + a, lastOut := mi x.lastOut
           latch := x.latch.map (fun q => { q with time := m q.time }), margins := x.margins.map (fun e => (m e.1, e.2))
           eob := x.eob.map (fun e => (m e.1, m e.2)), heldKey := x.heldKey.map m }

/-- A virtual head follows its channel onto the stepped clock. -/
def State.moveVirtual (s : State) (h c oldK : Nat) (oldT : Nat) : State :=
  let x := s.chan c
  let v := linesNs (s.rasterOf h) (tVnom (s.rasterOf h))
  s.modHead h (fun y =>
    let k := if y.nextB ≤ (eTk x.cfg oldK : Int) && decide ((oldT : Int) ≤ y.nextB) then x.nextK else x.nextK + 1
    { y with nextB := (eTk x.cfg k : Int) - v })

/-- The encode channels at a step. -/
def State.moveEncoder (s : State) (a : Int) : State :=
  let t0 := movePtp (-a) s.ptp
  let s1 := s.enc.chan.foldl (fun (s : State) e =>
    if e.2.bound then
      let s1 := s.setChan e.1 (moveChan a s.ptp e.2)
      (List.range 24).foldl (fun (s : State) h => if e.2.cfg.u8 2 == 1 && e.2.cfg.u8 3 == h then s.moveVirtual h e.1 e.2.nextK t0 else s) s1
    else s) s
  { s1 with enc := { s1.enc with keyCmds := s1.enc.keyCmds.map (fun (k : KeyCmd) => { k with time := movePtp a k.time, tk := if k.tk = 0 then 0 else movePtp a k.tk }) }
            fab := { s1.fab with coded := s1.fab.coded.map (fun (e : Nat × Nat × Nat × Nat) => (e.1, e.2.1, e.2.2.1, movePtp a e.2.2.2)) } }

/-- The heads at a step: flip times, that of a tag-history record until it is final, ends of holds, t_seq and t_crc of their layers
(R394, R395). -/
def State.moveHeads (s : State) (a : Int) : State :=
  let m := movePtp a
  let mi := fun (t : Nat) => if t = 0 then 0 else m t
  s.hd.head.foldl (fun (s : State) e => s.modHead e.1 (fun x =>
    { x with hist := x.hist.map (fun r => if r.final then r else { r with flip := mi r.flip })
             flip := mi x.flip, prev := { x.prev with flip := mi x.prev.flip }, holdEnd := x.holdEnd.map m
             layers := x.layers.foldl (fun (t : Tbl LayerRun) l => Tbl.modify t l.1 (fun r => { r with tSeq := mi r.tSeq, tCrc := mi r.tCrc })) x.layers })) s

/-- The touch front-ends at a step: the frame under way completes, the next is the first of the stepped grid that does not start
before its end (R441). -/
def State.moveTouch (s : State) (a : Int) : State :=
  let m := movePtp a
  [0, 1].foldl (fun (s : State) f => s.modTfe f (fun x =>
    { x with tk := if x.tk = 0 then 0 else m x.tk, nextK := if x.nextK = 0 then 0 else scanFrom (m (scanAt x.nextK))
             contacts := x.contacts.map (fun c => { c with down := c.down.map m }), ended := x.ended.map (fun c => { c with down := c.down.map m })
             reports := x.reports.map (fun r => { r with ts := m r.ts }) })) s

/-- The clock's own part of a step: its value, the servo's measurements, the Canary's note of every bound source (R395). -/
def State.stepClock (s : State) (a : Int) : State :=
  let notes := (s.pools.filter (fun e => e.2.bound)).map (fun e => (e.2.sourceId, (e.2.nextSeq + 2 ^ 32 - 1) % 2 ^ 32, a))
  let f := a * 65536
  { s with tm := { s.tm with ptp := s.tm.ptp.step s.now a, seqSteps := s.tm.seqSteps ++ notes
                             meas := s.tm.meas.map (fun (e : Int × Int) => (e.1 + f, e.2 - f))
                             sync := s.tm.sync.map (fun (e : Nat × Int × Int) => (e.1, e.2.1 + f, e.2.2)), t12 := (s.tm.t12.1, s.tm.t12.2 + f)
                             delayReq := s.tm.delayReq.map (fun (e : Nat × Int) => (e.1, e.2 + f)) } }

/-- The registers of a step's instant and amount, and TM_STEPPED (R397, R413). -/
def State.showStep (s : State) (a : Int) (how : Nat) : State :=
  let t := s.ptp
  let s1 : State := ((s.bumpWrap .TM_STEPS 0).setReg .TM_STEP_SEC 0 (BitVec.ofNat 32 (t / sec))).setReg .TM_STEP_NS 0 (BitVec.ofNat 32 (t % sec))
  let s2 : State := (s1.setReg .TM_STEP_AMT_LO 0 (BitVec.ofInt 32 a)).setReg .TM_STEP_AMT_HI 0 (BitVec.ofInt 32 (a / 2 ^ 32))
  (s2.setBit .TM_STATUS 0 30 true).event 0x5003 (sleBytes 8 a ++ [BitVec.ofNat 8 how])

/-- The clock steps by a ns, on every local copy at once; everything that holds a PTP time moves with it; `how` is 0 for the
first step, 1 for TM_STEP (R394 to R397). -/
def State.ptpStep (s : State) (a : Int) (how : Nat) : State :=
  let s1 : State := (((((s.stepClock a).moveInputs a).moveHeads a).moveEncoder a).moveTouch a).moveWaiters a
  let s2 : State := s1.showStep a how
  if s2.curRef = 0 then s2.gridStep (a * 1000) 2 else s2

/-! ### The servo (R389 to R392) -/

/-- The servo changes state, with TM_STATE and what reference 0 takes from it (R398, R399). -/
def State.setServo (s : State) (st : Nat) : State :=
  let old := s.servo
  if old = st then s
  else
    let s1 := (s.setBits .TM_STATUS 0 29 27 st).event 0x5001 ([BitVec.ofNat 8 st, BitVec.ofNat 8 old, BitVec.ofNat 8 s.slavePort, 0#8]
      ++ sleBytes 4 (clampInt (-(2 ^ 31 : Int)) (2 ^ 31 - 1) s.tm.filt))
    let s2 := { s1 with tm := { s1.tm with inLock := none } }
    if old = 3 then (if s2.refOn 0 then s2.refLost 0 2 else s2.modRef 0 (fun r => { r with alive := false, goodSince := none }))
    else if st = 3 then s2.modRef 0 (fun r => { r with alive := true, goodSince := if s2.refOn 0 && r.inRange then some s2.now else none })
    else s2

/-- The servo into HOLDOVER: RATE at the average of its own history (R392, R407). -/
def State.servoHoldover (s : State) : State :=
  if s.servo = 4 then s
  else
    let d := s.dplCfg
    let s1 := match windowMean s.tm.rateHist (s.now / sec) (d.u16 10) (d.u16 8) with
      | some r => s.setRate r
      | none => s
    s1.setServo 4

/-- The offset of the filter as registers show it. -/
def State.showOffset (s : State) (f : Int) : State := ({ s with tm := { s.tm with filt := f } }).setSigned .TM_OFFSET 0 f

/-- Mean of the fourth and fifth of eight values in 2^-16 ns, rounded down to 1 ns (R390). -/
def median8 (l : List Int) : Int :=
  let m := l.mergeSort (fun a b => decide (a ≤ b))
  (m.getD 3 0 + m.getD 4 0) / 131072

/-- The first step (R390). -/
def State.firstStep (s : State) : State :=
  let last := s.tm.meas.take 8
  let a := median8 (last.map (fun e => e.2))
  let s1 := s.ptpStep a 0
  let s2 := s1.servoRate (Config.servoSlope last)
  (s2.showOffset (Config.servoFilter (s2.tm.meas.map (fun e => e.2)))).setServo 2

/-- TM_OFFSET while the filtered offset exceeds STEP_ALERT_US, at most once per 10 s (R391). -/
def State.offsetAlert (s : State) : State :=
  let due : Bool := match s.tm.lastAlert with | some t => decide (t + 10 * sec ≤ s.now) | none => true
  if decide (s.tm.cfg.u32 12 * 1000 < s.tm.filt.natAbs) && due then
    ({ s with tm := { s.tm with lastAlert := some s.now } }).event 0x5004 (sleBytes 8 s.tm.filt)
  else s

/-- One offset measurement, the master's time less the clock's, at PTP time t, both in 2^-16 ns (R390 to R392). -/
def State.measure (s : State) (t off : Int) : State :=
  let s1 := { s with tm := { s.tm with meas := (t, off) :: s.tm.meas } }
  let offs := s1.tm.meas.map (fun e => e.2)
  let f := Config.servoFilter offs
  match s1.servo with
  | 1 =>
    let l := offs.take 8
    let s2 := s1.showOffset f
    if l.length = 8 ∧ l.all (fun a => l.all (fun b => decide (a - b ≤ 65536000))) then s2.firstStep else s2
  | 0 => s1
  | _ =>
    let s2 := ((if s1.servo = 4 then s1.setServo 2 else s1).showOffset f).offsetAlert
    let s3 := s2.servoRate (Config.servoRate s2.tm.meas s2.tm.ptp.rate)
    let lock := s3.lockNs
    let s4 := { s3 with tm := { s3.tm with inLock := if f.natAbs ≤ lock then some (s3.tm.inLock.getD s3.now) else none } }
    if s4.servo = 3 ∧ 4 * lock < f.natAbs then s4.setServo 2 else s4

/-- SERVO_LOCK_DWELL_EXPIRY: the filtered offset has stayed within LOCK_NS for LOCK_S (R392). -/
def execServoLockDwellExpiry (s : State) : Host.Outcome State Fault Refusal :=
  match s.tm.inLock with
  | some t => if s.servo = 2 ∧ t + s.tm.cfg.u16 8 * sec ≤ s.now then .next (s.setServo 3) else .next s
  | none => .next s

/-! ### Ports and the best master (R385, R386) -/

/-- 2^k seconds in ns, for the message intervals. -/
def logNs (k : Int) : Nat := if 0 ≤ k then sec * 2 ^ k.toNat else sec / 2 ^ (-k).toNat

/-- A PTP port. -/
def State.ptpPort (s : State) (p : Nat) : PtpPort := Tbl.get s.tm.ports p
/-- Changes a PTP port. -/
def State.modPtpPort (s : State) (p : Nat) (f : PtpPort → PtpPort) : State :=
  { s with tm := { s.tm with ports := Tbl.modify s.tm.ports p f } }
/-- Port p is enabled (R386). -/
def State.ptpOn (s : State) (p : Nat) : Bool := s.regBit .TM_PORT_STAT p 31

/-- Lexicographic order of lists of numbers of one length. -/
def lexLt : List Nat → List Nat → Bool
  | a :: l, b :: m => if a = b then lexLt l m else decide (a < b)
  | _, _ => false

/-- Is announce a, heard on port p, better than b heard on port q (the default BMCA of IEEE 1588-2019). -/
def annBetter (p : Nat) (a : PtpMsg) (q : Nat) (b : PtpMsg) : Bool :=
  if a.gm = b.gm then lexLt [a.steps, a.clock, a.srcPort, p] [b.steps, b.clock, b.srcPort, q]
  else lexLt [a.prio1, a.cls, a.accuracy, a.variance, a.prio2, a.gm] [b.prio1, b.cls, b.accuracy, b.variance, b.prio2, b.gm]

/-- The best of a port's qualified foreign masters: two Announces within four intervals, fewer than 255 steps. -/
def bestHeard (now timeout : Nat) (heard : List (PtpMsg × Nat × Option Nat)) : Option PtpMsg :=
  let ok := heard.filter (fun (e : PtpMsg × Nat × Option Nat) => match e.2.2 with
    | some p => decide (e.2.1 ≤ p + 4 * logNs e.1.logInterval) && decide (now ≤ e.2.1 + timeout * logNs e.1.logInterval) && decide (e.1.steps < 255)
    | none => false)
  ok.foldl (fun (b : Option PtpMsg) (e : PtpMsg × Nat × Option Nat) => match b with
    | some m => if annBetter 0 e.1 0 m then some e.1 else some m
    | none => some e.1) none

/-- The best port: the one whose best master wins. -/
def State.bestPort (s : State) : Option (Nat × PtpMsg) :=
  (List.range 17).foldl (fun (b : Option (Nat × PtpMsg)) p =>
    if s.ptpOn p then
      match (s.ptpPort p).best, b with
      | some m, some (q, n) => if annBetter p m q n then some (p, m) else some (q, n)
      | some m, none => some (p, m)
      | none, _ => b
    else b) none

/-- The master that the SLAVE port follows. -/
def State.master (s : State) : Option PtpMsg := if s.slavePort < 17 then (s.ptpPort s.slavePort).best else none

/-- The BMCA's decision, given the master followed before it: port states, TM_MASTER, and the servo (R386, R392, R415). -/
def State.bmca (s : State) (oldPort : Nat) (old : Option PtpMsg) : State :=
  let best := s.bestPort
  let port := match best with | some (p, _) => p | none => 31
  let same := match best, old with
    | some (p, m), some o => p == oldPort && m.clock == o.clock && m.srcPort == o.srcPort
    | none, none => true
    | _, _ => false
  let sameGm := match best, old with
    | some (p, m), some o => p == oldPort && m.gm == o.gm
    | _, _ => false
  let s1 := (List.range 17).foldl (fun (s : State) p =>
    if s.ptpOn p then
      let st := match best with
        | some (q, m) =>
          if p = q then (if same && s.regBits .TM_PORT_STAT p 23 20 == 9 then 9 else 8)
          else match (s.ptpPort p).best with
            | some n => if n.gm = m.gm then 7 else 4
            | none => 4
        | none => 4
      s.setBits .TM_PORT_STAT p 23 20 st
    else s) (s.setBits .TM_STATUS 0 26 22 port)
  let s2 := match best with
    | some (p, m) =>
      let s2 := ((s1.setReg .TM_GM_ID_LO 0 (BitVec.ofNat 32 (m.gm % 2 ^ 32))).setReg .TM_GM_ID_HI 0 (BitVec.ofNat 32 (m.gm / 2 ^ 32))).setBits .TM_STATUS 0 7 0 m.cls
      if sameGm then s2 else s2.event 0x5002 (beBytes 8 m.gm ++ [BitVec.ofNat 8 p, BitVec.ofNat 8 m.cls])
    | none => s1
  if same then s2
  else
    let s3 := { s2 with tm := { s2.tm with sync := none, delayReq := none, lastSync := s2.now } }
    match s3.servo with
    | 0 => if best.isSome then ({ s3 with tm := { s3.tm with meas := [] } }).setServo 1 else s3
    | 1 => ({ s3 with tm := { s3.tm with meas := [] } }).setServo (if best.isSome then 1 else 0)
    | _ => if best.isSome then s3 else s3.servoHoldover

/-- A message that R385 does not support, or malformed: another domain, a kind that only masters or peer-to-peer ports take, an
interval outside its range. -/
def State.ptpBad (s : State) (m : PtpMsg) : Bool :=
  m.domain != s.regBits .TM_STATUS 0 15 8 || [1, 2, 3, 10].elem m.kind || decide (13 < m.kind) || ([4, 5, 6, 7].elem m.kind)
    || (m.kind == 0 && (decide (m.logInterval < -7) || decide (1 < m.logInterval)))
    || (m.kind == 11 && (decide (m.logInterval < -3) || decide (1 < m.logInterval)))

/-- An Announce: the foreign master list, the port's best, the BMCA. -/
def State.announce (s : State) (p : Nat) (m : PtpMsg) : State :=
  let oldPort := s.slavePort
  let old := s.master
  let isMe := fun (e : PtpMsg × Nat × Option Nat) => e.1.clock == m.clock && e.1.srcPort == m.srcPort
  let x := s.ptpPort p
  let prev := (x.heard.find? isMe).map (fun e => e.2.1)
  let heard := (m, s.now, prev) :: x.heard.filter (fun e => !isMe e)
  let best := bestHeard s.now s.annTimeout heard
  let fromBest := match best with | some b => b.clock == m.clock && b.srcPort == m.srcPort | none => false
  let s1 := s.modPtpPort p (fun x => { x with heard := heard, best := best, lastAnn := if fromBest then s.now else x.lastAnn })
  s1.bmca oldPort old

/-- DelayAsymmetry of a port in 2^-16 ns, rounded down (R388). -/
def State.asymFine (s : State) (p : Nat) : Int := (s.getReg .TM_PORT_ASYM p).toInt * 65536 / 1000

/-- A Sync's times are complete, in 2^-16 ns: one offset measurement (R390). -/
def State.syncDone (s : State) (p : Nat) (t1 t2 corr : Int) : State :=
  let t := t1 + corr + s.asymFine p
  ({ s with tm := { s.tm with t12 := (t, t2) } }).measure t2 (t + s.tm.mpd - t2)

/-- A Delay_Resp to this port completes a path delay (R390). -/
def State.delayResp (s : State) (p : Nat) (m : PtpMsg) : State :=
  match s.tm.delayReq with
  | some (seq, t3) =>
    if seq = m.seq ∧ m.reqClock = Config.clockId ∧ m.reqPort = p + 1 then
      let t4 : Int := m.time * 65536 - m.correction
      let d := ((s.tm.t12.2 - s.tm.t12.1) + (t4 - t3 + s.asymFine p)) / 2
      ((({ s with tm := { s.tm with mpd := d, delayReq := none } }).setReg .TM_MPD 0 (BitVec.ofNat 32 (d / 65536).toNat)).setBits .TM_PORT_STAT p 7 0
        (m.logInterval % 256).toNat)
    else s
  | none => s

/-- PTP_MESSAGE_RECEIVE: the management plane takes a PTP message of a port (R385 to R392); its receive time is the
timestamp of R387 at the present moment. Messages of a master other than the one followed, Management and Signaling messages have no effect. -/
def execPtpMessageReceive (p : Fin 17) (m : PtpMsg) (s : State) : Host.Outcome State Fault Refusal :=
  if !s.ptpOn p then .next s
  else
    let s1 := s.bumpWrap .TM_PORT_RX p
    if s1.ptpBad m then .next (s1.bumpSat .TM_PORT_BAD p)
    else
      let mine := s1.slavePort == p.val && (match s1.master with | some b => b.clock == m.clock && b.srcPort == m.srcPort | none => false)
      match m.kind with
      | 11 => .next (s1.announce p m)
      | 0 =>
        if mine then
          let s2 := (s1.setBits .TM_PORT_STAT p 15 8 (m.logInterval % 256).toNat).setBits .TM_PORT_STAT p 23 20 9
          let s3 := { s2 with tm := { s2.tm with lastSync := s2.now } }
          if m.twoStep then .next { s3 with tm := { s3.tm with sync := some (m.seq, s3.rxFine p, m.correction) } }
          else .next (s3.syncDone p (m.time * 65536) (s3.rxFine p) m.correction)
        else .next s1
      | 8 =>
        match s1.tm.sync with
        | some (seq, t2, c) =>
          if mine && seq == m.seq then .next (({ s1 with tm := { s1.tm with sync := none } }).syncDone p (m.time * 65536) t2 (c + m.correction))
          else .next s1
        | none => .next s1
      | 9 => if mine then .next (s1.delayResp p m) else .next s1
      | _ => .next s1

/-- DELAY_REQ_SEND: the SLAVE port sends a timestamped Delay_Req; on a MAC in the place of an injected frame, behind all other traffic
(R370, R386, R387). -/
def execDelayReqSend (s : State) : Host.Outcome State Fault Refusal :=
  let p := s.slavePort
  if 16 < p then .next s
  else if p < 16 ∧ ((s.flowFirst p).isSome ∨ s.txFirst p ∨ (s.encFirst p).isSome) then .next s
  else
    let b := (s.ptpPort p).cfg
    let n := s.tm.nextDelaySeq
    let dest := if s.regBit .TM_PORT_STAT p 29 then beBytes 8 ((s.master.map (fun m => m.clock)).getD 0) else beBytes 4 0xE0000181
    let s1 := { s with tm := { s.tm with delayReq := some (n, s.txFine p), nextDelaySeq := (n + 1) % 65536 } }
    .next (s1.emit (.packet p 30 (leBytes 1 (bit01 (s.regBit .TM_PORT_STAT p 30)) ++ (b.drop 3).take 7 ++ dest ++ [1#8]
      ++ leBytes 1 (s.regBits .TM_STATUS 0 15 8) ++ beBytes 8 Config.clockId ++ beBytes 2 (p + 1) ++ beBytes 2 n)))

/-- ANNOUNCE_TIMEOUT: the announce receipt timeout of a port, or four missing Sync intervals of the SLAVE port, takes the
port's best master away (R392). -/
def execAnnounceTimeout (p : Fin 17) (s : State) : Host.Outcome State Fault Refusal :=
  match (s.ptpPort p).best with
  | none => .next s
  | some b =>
    let ann := decide ((s.ptpPort p).lastAnn + s.annTimeout * logNs b.logInterval ≤ s.now)
    let syn := s.slavePort == p.val && decide (s.tm.lastSync + 4 * logNs (toSigned 1 (s.regBits .TM_PORT_STAT p 15 8)) ≤ s.now)
    if s.ptpOn p && (ann || syn) then
      let oldPort := s.slavePort
      let old := s.master
      let s1 := if syn && s.stepped then s.servoHoldover else s
      .next ((s1.modPtpPort p (fun x =>
        let heard := x.heard.filter (fun e => !(e.1.clock == b.clock && e.1.srcPort == b.srcPort))
        let best := bestHeard s.now s.annTimeout heard
        { x with heard := heard, best := best, lastAnn := s.now })).bmca oldPort old)
    else .next s

/-! ### Commands of the clock -/

/-- TM_PTP_CONFIG 0x5001: domain, servo limits, ports (R385, R391). -/
def execTmPtpConfig (r : Req) (b : Body) (s : State) : Host.Outcome State Fault Refusal :=
  let ports := b.u32 16
  command 0x5001 r s [46] (b.length != 20 || decide (127 < b.u8 0) || decide (b.u8 1 < 2) || decide (10 < b.u8 1) || decide (b.u16 2 < 1)
      || decide (500 < b.u16 2) || decide (b.u32 4 < 10) || decide (10000 < b.u32 4) || decide (b.u16 8 < 1) || decide (600 < b.u16 8)
      || !b.zero 10 2 || decide (b.u32 12 < 1) || decide (10000000 < b.u32 12) || decide (2 ^ 17 ≤ ports)) {} (fun s =>
    let change := s.tm.cfg.isEmpty || s.tm.cfg.u8 0 != b.u8 0 || s.tm.cfg.u32 16 != ports
    let s0 := if ports.testBit 16 then s.endPrbsOf [66] else s
    let s1 := ({ s0 with tm := { s0.tm with cfg := b } }).setBits .TM_STATUS 0 15 8 (b.u8 0)
    if !change then done s1
    else
      let s2 := (List.range 17).foldl (fun (s : State) p =>
        ((s.modPtpPort p (fun x => { x with heard := [], best := none })).setBit .TM_PORT_STAT p 31 (ports.testBit p)).setBits .TM_PORT_STAT p 23 20
          (if ports.testBit p then 4 else 3)) s1
      let s3 := ({ s2 with tm := { s2.tm with sync := none, delayReq := none } }).setBits .TM_STATUS 0 26 22 31
      done (if s3.stepped then s3.servoHoldover else ({ s3 with tm := { s3.tm with meas := [] } }).setServo 0))

/-- TM_PORT 0x5002: transport, delay mode and asymmetry of a port (R388). -/
def execTmPort (r : Req) (b : Body) (s : State) : Host.Outcome State Fault Refusal :=
  let p := b.u8 0
  let asym := b.sle 12 4
  command 0x5002 r s [46] (b.length != 24 || decide (16 < p) || decide (1 < b.u8 1) || decide (1 < b.u8 2) || decide (63 < b.u8 3)
      || !b.zero 10 2 || decide (asym < -1000000) || decide (1000000 < asym) || !b.zero 22 2) {} (fun s =>
    let s1 := s.modPtpPort p (fun x => { x with cfg := b })
    done (((s1.setBit .TM_PORT_STAT p 30 (b.u8 1 == 1)).setBit .TM_PORT_STAT p 29 (b.u8 2 == 1)).setReg .TM_PORT_ASYM p (BitVec.ofInt 32 asym)))

/-- Seconds from the clock's present second to a second given by its low 32 bits; none when that second has begun. -/
def secondsTo (ptp atSec : Nat) : Option Nat :=
  let d := (atSec + 2 ^ 32 - ptp / sec % 2 ^ 32) % 2 ^ 32
  if d = 0 ∨ 2 ^ 31 ≤ d then none else some d

/-- Amount of a step: the filtered offset, or the command's amount (TM_STEP). -/
def State.stepAmount (s : State) (mode : Nat) (amount : Int) : Int := if mode = 0 then s.tm.filt else amount

/-- Reply of TM_STEP. -/
def stepBody (s : State) (a : Int) : List Byte := timeBytes s.ptp ++ sleBytes 8 a

/-- TM_STEP 0x5003: a step now, or at the start of a second of the clock before the step (R393). -/
def execTmStep (r : Req) (b : Body) (s : State) : Host.Outcome State Fault Refusal :=
  let mode := b.u8 0
  let at0 := b.u32 4
  let amt := b.sle 8 8
  let rs := s.isRestarted
  command 0x5003 r s [0] (b.length != 16 || decide (1 < mode) || !b.zero 1 3
      || (mode == 1 && (amt == 0 || decide (2 ^ 28 * sec < amt.natAbs))) || (at0 != 0 && (secondsTo s.ptp at0).isNone))
    { notReady := !s.stepped || (mode == 0 && s.servo != 2 && s.servo != 3) } (fun s =>
    if at0 = 0 then
      let a := s.stepAmount mode amt
      let s1 := s.ptpStep a 1
      .now s1 .OK (stepBody s1 a)
    else .later { s with tm := { s.tm with steps := s.tm.steps ++ [{ req := r, restarted := rs, atSec := at0, mode := mode, amount := amt }] } })

/-- PTP_STEP_APPLY: the clock has reached the second of a TM_STEP that waits (R393, R394). -/
def execPtpStepApply (s : State) : Host.Outcome State Fault Refusal :=
  match s.tm.steps.find? (fun c => (secondsTo s.ptp c.atSec).isNone) with
  | none => .next s
  | some c =>
    let s1 := { s with tm := { s.tm with steps := s.tm.steps.erase c } }
    let a := s1.stepAmount c.mode c.amount
    let s2 := s1.ptpStep a 1
    .next (s2.replyR c.req 0x5003 0 0 c.restarted (stepBody s2 a))

/-! ### Commands of the references -/

/-- REF_CONFIG 0x5010: a reference's enable, rank, type, edge, delay and rate (R398, R399). -/
def execRefConfig (r : Req) (b : Body) (s : State) : Host.Outcome State Fault Refusal :=
  let i := b.u8 0
  let frame := b.u8 2 == 4
  let num := b.u16 12
  let den := b.u16 14
  command 0x5010 r s [46] (b.length != 16 || decide (4 < i) || decide (1 < b.u8 1) || decide (7 < b.u8 3) || !b.zero 5 3
      || (i != 0 && (decide (b.u8 2 < 1) || decide (4 < b.u8 2) || decide (1 < b.u8 4) || decide (100000000 < b.u32 8)
        || (frame && (den == 0 || decide (num * 1001 < 24000 * den) || decide (120 * den < num)))))) {} (fun s =>
    let cfg : Word := BitVec.ofNat 32 (b.u8 1 * 2 ^ 31 + (if i = 0 then 0 else b.u8 2 * 2 ^ 28) + b.u8 3 * 2 ^ 25 + (if i = 0 then 0 else b.u8 4 * 2 ^ 24))
    let delay : Word := BitVec.ofNat 32 (if i = 0 then 0 else b.u32 8)
    let rate : Word := BitVec.ofNat 32 (if i = 0 ∨ !frame then 0 else num * 2 ^ 16 + den)
    if s.getReg .REF_CFG i = cfg ∧ s.getReg .REF_DELAY i = delay ∧ s.getReg .REF_RATE i = rate then done s
    else
      let was := s.refOn i
      let s1 := ((s.setReg .REF_CFG i cfg).setReg .REF_DELAY i delay).setReg .REF_RATE i rate
      let s2 := if was then s1.refLost i 3 else s1
      let on := b.u8 1 == 1
      let alive := if i = 0 then s2.servo == 3 else on
      done (s2.modRef i (fun _ => { alive := alive, goodSince := if on && alive then some s2.now else none, lastEdge := s2.now })))

/-- REF_DPLL 0x5011: timers, limits and bandwidth (R400). -/
def execRefDpll (r : Req) (b : Body) (s : State) : Host.Outcome State Fault Refusal :=
  command 0x5011 r s [46] (b.length != 24 || decide (b.u16 0 < 1) || decide (600 < b.u16 0) || decide (b.u16 2 < 1) || decide (600 < b.u16 2)
      || decide (b.u32 4 < 100) || decide (100000 < b.u32 4) || decide (b.u16 8 < 10) || decide (600 < b.u16 8) || decide (b.u16 10 < 1)
      || decide (60 < b.u16 10) || decide (2 < b.u8 12) || decide (b.u8 13 < 1) || decide (100 < b.u8 13) || !b.zero 14 2
      || decide (b.u32 16 < 100) || decide (50000 < b.u32 16) || decide (b.u32 20 < 50) || decide (100000 < b.u32 20)) {} (fun s =>
    done ({ s with tm := { s.tm with dcfg := b } }).checkDisagree)

/-- REF_SELECT 0x5012: names M, taken at once, or forces HOLDOVER (R405). -/
def execRefSelect (r : Req) (b : Body) (s : State) : Host.Outcome State Fault Refusal :=
  let m := b.u8 0
  command 0x5012 r s [46] (b.length != 4 || !b.zero 1 3 || (m != 0xFF && (decide (4 < m) || !s.refOn m))) {} (fun s =>
    let s1 := if m = 0xFF then s.setBit .REF_STATUS 0 22 true
      else
        let s1 := (s.setBits .REF_STATUS 0 26 24 m).setBit .REF_STATUS 0 22 false
        s1.stopWtr
    let s2 := s1.selectRef 2 true
    .now s2 .OK [BitVec.ofNat 8 (if s2.curRef = 7 then 0xFF else s2.curRef), BitVec.ofNat 8 s2.dpll])

/-- Limit of a REF_PHASE change in ps: half the shortest frame period of the enabled heads other than virtual ones (R410). -/
def State.phaseLimit (s : State) : ℚ :=
  ((List.range 24).filter (fun h => s.running h && (s.channelOf h).isNone && !s.gangMember h)).foldl
    (fun (m : ℚ) h => min m (tTf (s.rasterOf h) * 500)) 500000000000

/-- A changed offset reaches the grid while C fixes phase; the answer's STEP_PS (R410). -/
def State.phaseStep (s : State) (d : Int) : State × Int :=
  if s.curRef < 5 && s.refPhase s.curRef then (s.gridStep d 1, d) else (s, 0)

/-- The offset in force and its registers; the references' targets move with it (R408, R410). -/
def State.setPhase (s : State) (new : Int) : State :=
  let d := new - s.tm.ofsPs
  let s : State := [1, 2, 3, 4].foldl (fun (s : State) i => if (s.ref i).seen then s.modRef i (fun r => { r with errPs := r.errPs + d }) else s) s
  (({ s with tm := { s.tm with ofsPs := new } }).setReg .REF_PHASE_OFS_LO 0 (BitVec.ofInt 32 new)).setReg .REF_PHASE_OFS_HI 0 (BitVec.ofInt 32 (new / 2 ^ 32))

/-- REF_PHASE 0x5013: the phase offset, as a grid step while C fixes phase (R409, R410). -/
def execRefPhase (r : Req) (b : Body) (s : State) : Host.Outcome State Fault Refusal :=
  let new := b.sle 0 8
  command 0x5013 r s [46] (b.length != 8 || decide (s.phaseLimit < ((new - s.tm.ofsPs).natAbs : ℚ))) {} (fun s =>
    let p := (s.setPhase new).phaseStep (new - s.tm.ofsPs)
    .now p.1 .OK (sleBytes 8 p.2))

/-! ### Edges, measurements and timers (R398 to R404, R408, R409) -/

/-- Phase error of an edge of a phase reference at a grid time, both in ps: the least change of the grid that puts the edge on
its target (R408, R409). -/
def State.edgeErr (s : State) (i : Nat) (g : Int) : Int :=
  let x := g - s.tm.ofsPs
  if s.refType i = 4 then
    let num := max 1 (s.regBits .REF_RATE i 31 16)
    let den := max 1 (s.regBits .REF_RATE i 15 0)
    let target := fun (k : Int) => k * den * 1000000000 / num * 1000
    let k := x * num / (den * 1000000000000 : Nat)
    let lo := target k - x
    let hi := target (k + 1) - x
    if hi ≤ -lo then hi else lo
  else
    let m := (-x) % 1000000000000
    if 2 * m ≤ 1000000000000 then m else m - 1000000000000

/-- The DPLL's output follows its loop, by at most 2 ppm per second and within ±100 ppm (R401). -/
def State.loopRate (s : State) (errs : List Int) : State :=
  if s.tm.onPtp then s else s.slewTo (Config.dpllRate errs s.tm.grid.rate)

/-- The lock condition's clock: since when an error of C has been within its limit (R400). -/
def State.lockClock (s : State) (ok : Bool) : State :=
  { s with tm := { s.tm with errSince := if ok then some (s.tm.errSince.getD s.now) else none } }

/-- An edge is proof of a live signal; its loss, if one stood, ends here (R398, R399). -/
def State.reviveRef (s : State) (i : Nat) : State :=
  s.modRef i (fun r => if r.alive then r else { r with alive := true, goodSince := if r.inRange then some s.now else none })

/-- An edge of C: the loop tracks errors up to PASS_NS and no others, the fourth larger one in a row is a grid step (R408, R409). -/
def State.trackEdge (s : State) (i : Nat) (e prev : Int) : State :=
  let n := if s.dplCfg.u32 20 * 1000 < e.natAbs then (s.ref i).jumps + 1 else 0
  let s1 : State := if n = 4 then s.gridStep e 3 else if n = 0 then s.loopRate [e, prev] else s
  (s1.modRef i (fun r => { r with jumps := n % 4 })).lockClock (decide (e.natAbs ≤ 50000) || n == 4)

/-- An edge of a phase reference, dt ns after the one before it, that is not early (R408); one that comes
late declares a loss (R398). -/
def State.phaseEdge (s : State) (i dt : Nat) : State :=
  let x := s.ref i
  let e := s.edgeErr i (s.tm.gridFix s.now * 1000 / 2 ^ 48 - (s.getReg .REF_DELAY i).toNat)
  let late := x.seen && decide (s.refPeriodPs i < (dt - ms) * 1000)
  let s1 : State := if !late then s.reviveRef i else if x.alive then s.refLost i 0 else s
  let s2 : State := (s1.modRef i (fun r => { r with lastEdge := s.now, seen := true, errPs := e })).setSigned .REF_PHASE_ERR i (e / 1000)
  if s2.curRef = i then s2.trackEdge i e x.errPs else s2

/-- REF_EDGE: an edge of a reference input. A clock reference's edge ends its loss; a phase reference's edge that comes early
declares one, any other measures the phase error (R398, R408, R409). -/
def execRefEdge (i : Fin 5) (s : State) : Host.Outcome State Fault Refusal :=
  let x := s.ref i
  let dt := s.now - x.lastEdge
  if i = 0 ∨ !s.refOn i then .next s
  else if !s.refPhase i then .next ((s.reviveRef i).modRef i (fun r => { r with lastEdge := s.now, seen := true }))
  else if x.seen && decide ((dt + ms) * 1000 < s.refPeriodPs i) then
    .next ((if x.alive then s.refLost i 0 else s).modRef i (fun r => { r with lastEdge := s.now }))
  else .next (s.phaseEdge i dt)

/-- REF_LOSS_DECLARED: the monitor of an enabled input finds no edge for too long, or a clock's period below half the
nominal (R398). -/
def execRefLossDeclared (i : Fin 5) (s : State) : Host.Outcome State Fault Refusal :=
  if i = 0 ∨ !s.refOn i ∨ !(s.ref i).alive then .next s
  else if s.refPhase i ∧ (s.now - (s.ref i).lastEdge) * 1000 < s.refPeriodPs i + 1000000000 then .next s
  else .next (s.refLost i 0)

/-- One reference's part of the 1 s measurement: its 10 s window, REF_MEAS, its range (R399). -/
def State.measureRef (s : State) (i : Nat) (ppb : Int) : State :=
  if !s.refOn i || !(s.ref i).alive then s
  else
    let win := (ppb :: (s.ref i).win).take 10
    let ok := decide (ppb.natAbs ≤ s.dplCfg.u32 4)
    let s1 := s.setSigned .REF_MEAS i (win.sum / win.length)
    let s2 := s1.modRef i (fun r => { r with win := win, inRange := ok, goodSince := if ok then some (r.goodSince.getD s1.now) else none })
    if !ok && s2.refQual i then s2.refLost i 1 else s2

/-- One second of history, averages since the last: the control word's while LOCKED, RATE's while the servo steers (R392, R407). -/
def State.keepHistory (s : State) : State :=
  let k := s.now / sec
  let a := s.accrue.tm
  let h := if s.dpll = 2 then ((k, a.ctlAvg.mean s.ctlWord) :: s.tm.hist).take 660 else s.tm.hist
  let g := if s.servo = 2 ∨ s.servo = 3 then ((k, a.rateAvg.mean s.tm.ptp.rate) :: s.tm.rateHist).take 660 else s.tm.rateHist
  let v : Avg := { from0 := s.now, at0 := s.now }
  { s with tm := { s.tm with measAt := s.now, hist := h, rateHist := g, ctlAvg := v, rateAvg := v } }

/-- The grid equals PTP time plus the offset again once the loop has brought it there (R381). -/
def State.rejoin (s : State) : State :=
  if s.dpll = 2 && s.curRef = 0 && !s.tm.onPtp && decide (s.ptpErr.natAbs ≤ 2000) && s.wordOk s.tm.ptp.rate then
    let a := s.accrue
    { a with tm := { a.tm with onPtp := true, ctlAt := a.now } }
  else s

/-- The second of a DPLL without a reference, of PTP, whose edge this moment counts as (DEDUCED, log 211), and of a clock: the word
slews, or the loop takes the error (R400, R401, R408). -/
def State.trackMeasure (s : State) (ppb : List Int) : State :=
  let c := s.curRef
  let w := s.ctlWord
  if c = 7 then (match s.tm.hoWord with | some t => s.slewTo t | none => s)
  else if c = 0 then ((s.trackEdge 0 s.ptpErr (s.ref 0).errPs).modRef 0 (fun r => { r with errPs := s.ptpErr })).rejoin
  else if c < 5 && !s.refPhase c then
    let e := ppb.getD c 0 + (if s.servo = 3 ∨ s.servo = 4 then ppbOf s.tm.ptp.rate else 0) - ppbOf w
    (s.loopRate [e]).lockClock (decide (e.natAbs ≤ 10))
  else s

/-- The registers that the 1 s measurement refreshes. -/
def State.showMeasure (s : State) : State :=
  let s1 : State := s.setSigned .REF_DPLL_PPB 0 (ppbOf s.ctlWord)
  let s2 : State := if s1.refOn 0 then s1.setSigned .REF_PHASE_ERR 0 (s1.ptpErr / 1000) else s1
  let left := match s2.tm.wtrAt with | some t => ceilDiv (t - s2.now) sec | none => 0
  s2.setReg .REF_WTR_LEFT 0 (BitVec.ofNat 32 left)

/-- REF_FREQ_MEASURE: once per second the DPLL takes every reference's frequency offset in ppb, one second of its control word's
and of RATE's history, and checks ranges and disagreements (R399, R404, R407). -/
def execRefFreqMeasure (ppb : List Int) (s : State) : Host.Outcome State Fault Refusal :=
  if s.now < s.tm.measAt + sec then .next s
  else
    let s1 : State := (s.keepHistory.showMeasure).trackMeasure ppb
    .next (([0, 1, 2, 3, 4].foldl (fun (s : State) i => s.measureRef i (ppb.getD i 0)) s1).checkDisagree)

/-- REF_QUALIFY_EXPIRY: a reference enabled, free of loss and within QUAL_PPB for QUAL_S becomes qualified (R399). -/
def execRefQualifyExpiry (i : Fin 5) (s : State) : Host.Outcome State Fault Refusal :=
  match (s.ref i).goodSince with
  | some t =>
    if s.refOn i && (s.ref i).alive && !s.refQual i && decide (t + s.dplCfg.u16 2 * sec ≤ s.now) then .next (s.refGained i) else .next s
  | none => .next s

/-- WTR_EXPIRY: the wait-to-restore timer ends and the DPLL goes back to M; a switch in progress completes first (R402,
R403). -/
def execWtrExpiry (s : State) : Host.Outcome State Fault Refusal :=
  match s.tm.wtrAt with
  | some t =>
    if t ≤ s.now ∧ !s.regBit .REF_STATUS 0 19 then
      .next (s.stopWtr.selectRef 1 true)
    else .next s
  | none => .next s

/-- DPLL_LOCK_ACHIEVED: the error of C has stayed within its limit for 1 s (R400); on PTP the grid then equals PTP time plus the
offset (R381). -/
def execDpllLockAchieved (s : State) : Host.Outcome State Fault Refusal :=
  match s.tm.errSince with
  | some t =>
    if s.dpll = 1 ∧ t + sec ≤ s.now then
      let a := s.accrue
      let p := s.curRef == 0 && decide (s.tm.ptp.rate.natAbs ≤ (ppmUnits 100).natAbs)
      .next ((({ a with tm := { a.tm with wasLocked := true, onPtp := p, ctlAvg := { from0 := a.now, at0 := a.now } } }).setBit .REF_STATUS 0 19 false).setBit .REF_STATUS 0 21 false
        |>.setDpll 2 5)
    else .next s
  | none => .next s

/-- DPLL_LOCK_TIMEOUT: no lock within 20 / B seconds takes the reference's qualification (R400). -/
def execDpllLockTimeout (s : State) : Host.Outcome State Fault Refusal :=
  let lim := match s.dplCfg.u8 12 with | 0 => 200 | 1 => 20 | _ => 2
  if s.dpll = 1 ∧ s.tm.switchAt + lim * sec ≤ s.now then .next (s.refLost s.curRef 4) else .next s

/-- OSC_IN_LOSS: the monitor of island 40 finds OSC_IN gone: an unmasked fault (R380). -/
def execOscInLoss (s : State) : Host.Outcome State Fault Refusal :=
  if s.regBit .TM_STATUS 0 31 then .next ((s.setBit .TM_STATUS 0 31 false).fault 40 fcCLOCK 1 0xFFFF []) else .next s

end Sys2Proof.Machine
end

