-- ==== Sys2Proof/Machine/Lanes.lean ====
section
/-! DEFINITION. The serial lanes: PRBS tests (R585 to R588), losses of lock and of PLLs (R572, R576, R577, R584) and the
commands and events of group 0x7E (R590, R591). -/

namespace Sys2Proof.Machine

/-! ### PRBS tests -/

/-- The two taps of a pattern's polynomial: PRBS7, PRBS15 and PRBS31 (R585). -/
def prbsTaps (pattern : Nat) : Nat × Nat :=
  match pattern with | 0 => (7, 6) | 1 => (15, 14) | _ => (31, 28)

/-- The pattern's next bit after the bits sent or received so far, oldest first. -/
def prbsNext (pattern : Nat) (bits : List Bool) : Bool :=
  let t := prbsTaps pattern
  xor (bits.getD (bits.length - t.1) false) (bits.getD (bits.length - t.2) false)

/-- A checker locks on the bits received last, oldest first: each of the last 64 agrees with the pattern predicted from the bits
before it (R585). -/
def prbsLocks (pattern : Nat) (bits : List Bool) : Bool :=
  decide ((prbsTaps pattern).1 + 64 ≤ bits.length) && (List.range 64).all (fun k =>
    let n := bits.length - 64 + k
    bits.getD n false == prbsNext pattern (bits.take n))

/-- A locked checker loses lock on the last 1,024 bits, each true where it is in error: 32 or more are (R585). -/
def prbsLoses (wrong : List Bool) : Bool := wrong.length == 1024 && decide (32 ≤ (wrong.filter id).length)

/-- A lane carries live traffic (R586). -/
def State.laneBusy (s : State) (l : Nat) : Bool :=
  if l = 66 then s.ptpOn 16
  else if 64 ≤ l then s.pairState != 0
  else (List.range 16).any (fun k =>
    ((s.macLanes k).elem l && (Tbl.get s.ing.macs k).enabled)
      || ((s.sdiLanes k).elem l && ((s.sdi k).rates != 0 || !(s.outBody (256 + k)).isEmpty || s.regBit .HD_SDI_STAT k 30))
      || ((s.dpLanes k).elem l && !(s.outBody k).isEmpty))

/-- RATE_KBPS fits the lane: 1,250,000 on lane 66, 25,781,250 on lanes 64 and 65, any in range on a multiprotocol lane. -/
def prbsRateOk (l rate : Nat) : Bool :=
  if l = 66 then rate == 1250000
  else if 64 ≤ l then rate == 25781250
  else decide (1250000 ≤ rate) && decide (rate ≤ 28125000)

/-- SL_PRBS 0x7E01: a generator, a checker or both on one lane; the reply follows at the test's end (R585 to R588). -/
def execSlPrbs (r : Req) (b : Body) (s : State) : Host.Outcome State Fault Refusal :=
  let l := b.u8 0
  let rs := s.isRestarted
  command 0x7E01 r s [53] (b.length != 12 || decide (66 < l) || decide (2 < b.u8 1) || b.u8 2 == 0 || decide (3 < b.u8 2) || !b.zero 3 1
      || !prbsRateOk l (b.u32 4) || decide (86400000 < b.u32 8))
    { noRes := (s.prbs l).isSome, rej := if s.laneBusy l then some 0x01A0 else none }
    (fun s =>
      let t : Prbs := { req := r, restarted := rs, dir := b.u8 2, rateKbps := b.u32 4, durationMs := b.u32 8, start := s.now }
      let s1 : State := ((s.setPrbs l (some t)).setPrbsBits l 0).setReg .SL_PRBS_ERR l 0#32
      let s2 : State := s1.setReg .SL_PRBS_STAT l (BitVec.ofNat 32 (b.u8 1 * 2 ^ 29))
      .later (if t.dir.testBit 0 then s2.setLaneRate l (b.u32 4 / 1000) true else s2))

/-- SL_PRBS_STOP 0x7E02: the running test ends with STOPPED, and its own reply follows. -/
def execSlPrbsStop (r : Req) (b : Body) (s : State) : Host.Outcome State Fault Refusal :=
  command 0x7E02 r s [53] (b.length != 4 || decide (66 < b.u8 0) || !b.zero 1 3) {} (fun s => done (s.endPrbs (b.u8 0) 2))

/-- Errored bits counted by a locked checker. -/
def State.addPrbsErrs (s : State) (l n : Nat) : State := s.addSat .SL_PRBS_ERR l n

/-- PRBS_TEST_END: DURATION_MS have passed; `errs` are the errored bits since the checker last locked (R586). -/
def execPrbsTestEnd (l : Fin 67) (errs : Nat) (s : State) : Host.Outcome State Fault Refusal :=
  match s.prbs l with
  | some t =>
    if t.durationMs ≠ 0 ∧ t.start + t.durationMs * ms ≤ s.now then
      .next ((if t.since.isSome then s.addPrbsErrs l errs else s).endPrbs l 1)
    else .next s
  | none => .next s

/-- PRBS_NOLOCK_TIMEOUT: a checker has not locked within 100 ms of the start (SL_PRBS). -/
def execPrbsNolockTimeout (l : Fin 67) (s : State) : Host.Outcome State Fault Refusal :=
  match s.prbs l with
  | some t =>
    if t.dir.testBit 1 && t.locked1.isNone && decide (t.start + 100 * ms ≤ s.now) then .next (s.endPrbs l 4) else .next s
  | none => .next s

/-- PRBS_CHECKER_LOCK_CHANGE: a checker without lock has received `tail` last, and locks where these bits agree with the pattern; one
in lock marks the errors of its last 1,024 bits in `tail`, and loses lock at 32, with `errs` errored bits since it locked (R585). -/
def execPrbsCheckerLockChange (l : Fin 67) (tail : List Bool) (errs : Nat) (s : State) : Host.Outcome State Fault Refusal :=
  match s.prbs l with
  | none => .next s
  | some t =>
    if !t.dir.testBit 1 then .next s
    else if t.since.isNone then
      if prbsLocks (s.regBits .SL_PRBS_STAT l 30 29) tail then
        .next ((s.setPrbs l (some { t with since := some s.now, locked1 := some (t.locked1.getD s.now) })).setBit .SL_PRBS_STAT l 31 true)
      else .next s
    else if prbsLoses tail then
      let n := t.count s.now
      let s1 : State := ((s.setPrbs l (some { t with since := none, bits := n })).setPrbsBits l n).setBit .SL_PRBS_STAT l 31 false
      .next ((s1.addPrbsErrs l errs).addSatBits .SL_PRBS_STAT l 15 0 1)
    else .next s

/-! ### Lock -/

/-- LANE_PLL_UNLOCK: a PLL of a quad in use is out of lock for 10 µs (R572). -/
def execLanePllUnlock (q : Fin 16) (video : Bool) (s : State) : Host.Outcome State Fault Refusal :=
  let k := if video then 18 else 19
  if s.regBit .SL_STATUS 0 q && s.regBit .SL_QUAD_STAT q k then
    .next ((s.setBit .SL_QUAD_STAT q k false).fault (21 + q / 4) fcCLOCK 1 0xFFFF [])
  else .next s

/-- Has the lane a receiver in service: an Ethernet or SDI lane that the board wires, or a dedicated lane of a device that has
its board table (R573, R583). -/
def State.laneServes (s : State) (l : Nat) : Bool :=
  s.boot.board && (decide (64 ≤ l) || (s.regBit .SL_LANE_STAT l 31 && qProto s.board (l / 4) != 4))

/-- A lane whose mode of R573 and R580 has FEC. -/
def State.laneFec (s : State) (l : Nat) : Bool :=
  decide (l < 64) && (qProto s.board (l / 4) == 1 || (qProto s.board (l / 4) == 2 && [1, 3, 4].contains (qEthMode s.board (l / 4) (l % 4))))

/-- Errors that a lane has counted since the row before: invalid sync headers, or code and disparity errors, except on an SDI
lane; codewords on a FEC lane, with SL_FEC (R584). -/
def State.laneErrors (s : State) (l code corrected uncorrectable : Nat) : State :=
  let s1 : State := if l < 64 ∧ qProto s.board (l / 4) = 3 then s else s.addSat .SL_LANE_ERR l code
  if s1.laneFec l then
    let s2 : State := (s1.addSatBits .SL_LANE_FEC l 15 0 corrected).addSatBits .SL_LANE_FEC l 31 16 uncorrectable
    if uncorrectable = 0 then s2 else s2.eventPerSec 0x7E02 l uncorrectable (fun n => leBytes 1 l ++ leBytes 3 0 ++ leBytes 4 n)
  else s1

/-- LANE_LOCK_CHANGE: a receiver gains or loses block, code or TRS lock, or keeps it; with the errors of its protocol since the
row before (R576, R577, R584). -/
def execLaneLockChange (l : Fin 67) (locked : Bool) (code corrected uncorrectable : Nat) (s : State) : Host.Outcome State Fault Refusal :=
  if s.laneServes l then .next ((s.laneErrors l code corrected uncorrectable).laneLock l locked) else .next s

end Sys2Proof.Machine
end

