-- ==== Sys2Proof/Machine/Power.lean ====
section
/-! DEFINITION. Power and start-up: reset pins and straps (R549 to R551), the firmware image and the bring-up (R562 to R567),
the board table's checks (R462 to R464, R567, R573 to R583), the adaptive core voltage and its regulator (R552 to R556),
temperature (R557, R558), islands (R29, R30, R559 to R561) and the commands and events of groups 0x01 and 0x7C (R569, R570). -/

namespace Sys2Proof.Machine

/-! ### Values that registers show (R569) -/

/-- DEV_BOOT: the stored stage and straps with the states it shows. -/
def State.devBoot (s : State) : Word :=
  let set := fun (w : Word) (i : Nat) (b : Bool) => w.setBits i i (bit01 b)
  set (set (set (set (set (s.getReg .DEV_BOOT 0) 26 s.boot.board) 25 s.mpuLocked) 24 s.trained) 23 s.cnyLocked) 22 s.boot.taken

/-- DEV_ID with its grade bit (R1, R624). -/
def State.devId (s : State) : Word := (s.getReg .DEV_ID 0).setBits 0 0 (bit01 Config.gradeI)

/-! ### Reset pins (R549 to R551) -/

/-- PORST_N_ASSERT: every island, lock, table, SRAM and DRAM content is lost and every output ball floats. -/
def execPorstAssert (s : State) : Host.Outcome State Fault Refusal :=
  .next { (default : State) with pending := s.pending, now := s.now, free := s.free, out := s.out }

/-- Islands that power up by themselves at the release of PORST_N (R565). -/
def bootIslands : List Nat := [11, 27, 36, 37, 40]

/-- PORST_N_RELEASE: straps sampled, PTP clock and grid at 0, the boot islands power up and clear (R550, R551, R565). -/
def execPorstRelease (pairId bootsel : Bool) (s : State) : Host.Outcome State Fault Refusal :=
  if !s.pwr.porst then .next s
  else
    let s1 : State := { s with pwr := { s.pwr with porst := false, released := s.now }
                               boot := { s.boot with port := if bootsel then .B else .A }
                               tm := { s.tm with ptp := { acc := 0, at0 := s.now, rate := 0 }, grid := { acc := 0, at0 := s.now, rate := 0 } } }
    let s2 : State := ((s1.setBit .DEV_BOOT 0 28 bootsel).setBit .DEV_BOOT 0 27 pairId).setBit .PAIR_STATUS 0 22 pairId
    .next (bootIslands.foldl (fun (s : State) i => s.startIsland i 2) s2)

/-- TRST_N_ASSERT: the TAP returns to Test-Logic-Reset and DBG authentication ends (R549). -/
def execTrstAssert (s : State) : Host.Outcome State Fault Refusal :=
  .next { s with flt := { s.flt with dbg := false } }

/-- RAIL_EXCURSION: a rail below 90 % or above 110 % for 10 µs is an unmasked VOLTAGE fault of island 40 (R548). -/
def execRailExcursion (s : State) : Host.Outcome State Fault Refusal := .next (s.fault 40 fcVOLTAGE 1 0xFFFF [])

/-! ### The firmware image (R562, R563) -/

/-- DEV_INFO 0x0101: identity and versions. -/
def execDevInfo (r : Req) (b : Body) (s : State) : Host.Outcome State Fault Refusal :=
  command 0x0101 r s [] (b.length != 0) {} (fun s =>
    .now s .OK (leBytes 4 s.devId.toNat ++ leBytes 4 s.devBoot.toNat ++ leBytes 4 Config.romVersion.toNat
      ++ leBytes 4 (if s.fwRuns then s.boot.fwVersion else 0)))

/-- Check 1 of R563: header and section table against LEN. -/
def imageShape (m : List Byte) (len : Nat) : Bool :=
  let n := Body.u16 m 6
  let secs := (List.range n).map (fun k => (Body.u8 m (128 + 16 * k), Body.u32 m (132 + 16 * k), Body.u32 m (136 + 16 * k)))
  let count := fun (ty : Nat) => (secs.filter (fun x => x.1 == ty)).length
  Body.u32 m 0 == 0x5A4D4657 && Body.u16 m 4 == 1 && decide (1 ≤ n) && decide (n ≤ 16) && Body.u32 m 8 == len && m.length == len && len % 4 == 0
    && secs.all (fun x => decide (1 ≤ x.1) && decide (x.1 ≤ 6) && decide (x.2.1 + x.2.2 ≤ len - 96))
    && [1, 2, 3, 4, 5].all (fun ty => count ty == 1) && decide (count 6 ≤ 1)

/-- Check 5 of R563: every section's check value. -/
def imageCrcs (m : List Byte) : Bool :=
  (List.range (Body.u16 m 6)).all (fun k =>
    crc32c ((m.drop (Body.u32 m (132 + 16 * k))).take (Body.u32 m (136 + 16 * k))) == BitVec.ofNat 32 (Body.u32 m (140 + 16 * k)))

/-- FAIL of an image: the first check that fails, 0 when it is accepted (R563). -/
def imageFail (m : List Byte) (len : Nat) : Nat :=
  let key := (m.drop 24).take 97
  if !imageShape m len then 1
  else if !Config.keyInRom key then 2
  else if !Config.signed key (m.take (len - 96)) (m.drop (len - 96)) then 3
  else if Body.u32 m 12 < 1 then 4
  else if !imageCrcs m then 5
  else 0

/-- An accepted image waits to start (R565). -/
def State.acceptImage (s : State) (m : List Byte) : State :=
  let dbg := match (List.range (Body.u16 m 6)).find? (fun k => Body.u8 m (128 + 16 * k) == 6) with
    | some k => (m.drop (Body.u32 m (132 + 16 * k))).take (Body.u32 m (136 + 16 * k))
    | none => []
  (({ s with boot := { s.boot with starting := true, fwVersion := Body.u32 m 16, secVersion := Body.u32 m 12, debugKey := dbg } }).setBits
    .DEV_BOOT 0 31 29 2).setBits .DEV_BOOT 0 15 0 (Body.u32 m 12 % 65536)

/-- BOOT_LOAD 0x0102: the boot ROM copies and checks an image from the boot port's host memory (R563 to R565); a failed check stands
before the field rules (R20). Firmware, which checks no image, answers LOCKED; between the ROM's reply and the firmware's start
nothing is interpreted. -/
def execBootLoad (r : Req) (b : Body) (image : List Byte) (s : State) : Host.Outcome State Fault Refusal :=
  let m := image.take (b.u32 8)
  if s.boot.starting || (!s.fwRuns && r.port != s.boot.port) then .next s
  else
    command 0x0102 r s [] (b.length != 16 || ((s.fwRuns || imageFail m (b.u32 8) == 0) && (decide (16777216 < b.u32 8) || !b.zero 12 4)))
      { locked := s.fwRuns } (fun s =>
      let f := imageFail m (b.u32 8)
      let body := leBytes 1 f ++ leBytes 3 0 ++ leBytes 4 (Body.u32 m 16)
      if f = 0 then .now (s.acceptImage m) .OK body
      else .refuse (s.setBits .DEV_BOOT 0 21 19 f) .CHECKFAIL 0 body)

/-! ### The board table (R462 to R464, R567, R579 to R583) -/

/-- One 8-byte lane entry is in range (R581); `dp` allows a DP_LEVEL. -/
def laneEntryOk (t : Body) (o : Nat) (dp : Bool) : Bool :=
  decide (t.u8 o ≤ 31) && decide (t.u8 (o + 1) ≤ 15) && decide (t.u8 (o + 2) ≤ 31) && decide (t.u8 (o + 1) + t.u8 (o + 2) ≤ 48)
    && (dp || t.u8 (o + 3) == 0) && decide (t.u8 (o + 4) ≤ 15) && decide (t.u8 (o + 5) ≤ 15)
    && decide (-32 ≤ Body.sle t (o + 6) 1) && decide (Body.sle t (o + 6) 1 ≤ 31) && t.u8 (o + 7) == 0

/-- One quad entry is in range (R573, R580). -/
def quadOk (t : Body) (q : Nat) : Bool :=
  let p := qProto t q
  let m := qMask t q
  decide (p ≤ 4) && decide (m < 16)
    && (match p with | 0 => m == 0 | 1 => m == 15 | 4 => m == 1 || m == 3 || m == 15 | _ => true)
    && (List.range 4).all (fun n => if p == 2 && m.testBit n then decide (qEthMode t q n ≤ 4) else qEthMode t q n == 0)
    && (if p == 4 then decide (qDpMax t q ≤ 4) else qDpMax t q == 0) && t.u16 (tabSec t 1 + 8 * q + 6) == 0

/-- The quad and lane sections (R573, R574, R580, R581). -/
def lanesOk (t : Body) : Bool :=
  (List.range 16).all (quadOk t) && decide ((boardMacs t).length ≤ 16) && decide ((boardSdi t).length ≤ 16) && decide ((boardDp t).length ≤ 16)
    && (List.range 64).all (fun l =>
      let o := tabSec t 2 + 32 * l
      if (qMask t (l / 4)).testBit (l % 4) then (List.range 4).all (fun c => laneEntryOk t (o + 8 * c) (qProto t (l / 4) == 4)) else t.zero o 32)

/-- The dedicated lanes (R582). -/
def dedicatedOk (t : Body) : Bool :=
  let o := tabSec t 3
  [0, 8, 16].all (fun k => laneEntryOk t (o + k) false)
    && (List.range 8).all (fun h =>
      let e := o + 24 + 8 * h
      [0, 1, 2].all (fun k => decide (t.u8 (e + k) ≤ 10)) && t.u8 (e + 3) == 0 && decide (t.u8 (e + 4) ≤ 15) && decide (t.u8 (e + 5) ≤ 15)
        && decide (-32 ≤ Body.sle t (e + 6) 1) && decide (Body.sle t (e + 6) 1 ≤ 31) && t.u8 (e + 7) == 0)

/-- A mask has its base bit, no other below `low`, and none above `top` (R464). -/
def maskOk (m base low top : Nat) : Bool := m.testBit base && m % 2 ^ low == 2 ^ base && decide (m < 2 ^ (top + 1))

/-- The DRAM section (R463, R464). -/
def dramOk (t : Body) : Bool :=
  let o := tabSec t 4
  let d := t.u8 o
  let r := t.u8 (o + 1)
  let top := if d = 1 ∨ r = 2 then 36 else 35
  decide (d ≤ 1) && (r == 1 || (r == 2 && d == 0)) && decide (16 ≤ t.u16 (o + 2)) && decide (t.u16 (o + 2) ≤ 1024)
    && (List.range 5).all (fun i => maskOk (t.u64 (o + 8 + 8 * i)) (9 + i) 14 top)
    && (List.range 2).all (fun j => maskOk (t.u32 (o + 48 + 4 * j)) (11 + j) 15 (top - 5))
    && (List.range 2).all (fun j => maskOk (t.u32 (o + 56 + 4 * j)) (13 + j) 15 (top - 5))
    && decide (t.u8 (o + 64) ≤ 5) && decide (t.u8 (o + 65) ≤ 6) && decide (t.u8 (o + 66) ≤ 5) && t.u8 (o + 67) == 0

/-- The power section (R567). -/
def powerOk (t : Body) : Bool :=
  let o := tabSec t 5
  decide (8 ≤ t.u8 o) && decide (t.u8 o ≤ 0x77) && decide (t.u8 (o + 1) ≤ 1) && decide (675 ≤ t.u16 (o + 2)) && decide (t.u16 (o + 2) ≤ 750)
    && decide (750 ≤ t.u16 (o + 4)) && decide (t.u16 (o + 4) ≤ 825) && t.u16 (o + 6) == 0

/-- Length of each section type (R579). -/
def secLen : Nat → Nat
  | 1 => 128 | 2 => 2048 | 3 => 88 | 4 => 68 | 5 => 8 | _ => 0

/-- The container (R579). -/
def containerOk (t : Body) (len : Nat) : Bool :=
  let secs := (List.range 5).map (fun k => (t.u16 (16 + 12 * k), t.u32 (20 + 12 * k), t.u32 (24 + 12 * k)))
  decide (len ≤ 65536) && t.length == len && t.u32 0 == 0x5A4D4254 && t.u16 4 == 1 && t.u16 6 == 5 && t.u32 8 == len && t.u32 12 == 0
    && [1, 2, 3, 4, 5].all (fun ty => secs.any (fun x => x.1 == ty))
    && (List.range 5).all (fun k => t.u16 (18 + 12 * k) == 0)
    && secs.all (fun x => x.2.1 % 4 == 0 && x.2.2 == secLen x.1 && decide (x.2.1 + x.2.2 ≤ len))
    && secs.all (fun x => secs.all (fun y => x.1 == y.1 || decide (x.2.1 + x.2.2 ≤ y.2.1) || decide (y.2.1 + y.2.2 ≤ x.2.1)))

/-- Every check of R579. -/
def tableOk (t : Body) (len : Nat) : Bool := containerOk t len && lanesOk t && dedicatedOk t && dramOk t && powerOk t

/-- First block number of R574 on a quad. -/
def firstBlock (t : Body) (q : Nat) : Nat :=
  match qProto t q with
  | 1 | 2 => (boardMacs t).findIdx (fun m => m.any (fun l => l / 4 == q))
  | 3 => (boardSdi t).findIdx (fun l => l / 4 == q)
  | 4 => (boardDp t).findIdx (· == q)
  | _ => 0

/-- The lanes take the table's settings: quad and lane registers; Ethernet, Seam link and management lanes leave electrical
idle (R583, R590). -/
def State.wireLanes (s : State) (t : Body) : State :=
  let s1 : State := (List.range 16).foldl (fun (s : State) q =>
    let used := qProto t q != 0
    (((((s.setBits .SL_QUAD_STAT q 31 24 (qProto t q)).setBits .SL_QUAD_STAT q 23 20 (qMask t q)).setBit .SL_QUAD_STAT q 19 used).setBit .SL_QUAD_STAT q 18
      (qProto t q == 3)).setBits .SL_QUAD_STAT q 11 8 (if used then firstBlock t q % 16 else 0)).setBits .SL_QUAD_STAT q 7 0 (qPolarity t q) |>.setBit
      .SL_STATUS 0 q used) s
  let s2 : State := (List.range 64).foldl (fun (s : State) l =>
    if (qMask t (l / 4)).testBit (l % 4) then
      let s1 := s.setBit .SL_LANE_STAT l 31 true
      if qProto t (l / 4) = 1 ∨ qProto t (l / 4) = 2 then s1.setLaneRate l (ethMbps t l) true else s1
    else s) s1
  (((s2.setLaneRate 64 25781 true).setLaneRate 65 25781 true).setLaneRate 66 1250 true).setBit .SL_STATUS 0 31 true

/-- The board table is taken whole (R567): lanes, DRAM configuration, AVS master; last the boot port's link retrains (R550). -/
def State.takeBoard (s : State) (t : Body) : State :=
  let o := tabSec t 4
  let big := t.u8 o == 1 || t.u8 (o + 1) == 2
  let s1 : State := { s with boot := { s.boot with board := true, table := t }, dramGranules := if big then 57344 else 28672 }
  let s2 : State := ((s1.setBit .DMC_STATUS 0 28 (t.u8 o == 1)).setBit .DMC_STATUS 0 27 (t.u8 (o + 1) == 2)).setBits .DMC_STATUS 0 10 0 (t.u16 (o + 2))
  (((s2.wireLanes t).setBit .PWR_STATUS 0 31 true).avs).takeHostLanes t

/-- DEV_BOARD_TABLE 0x0103: checks, takes and locks the board table. A table that passes every check has the regulator's VOUT_MODE
read; `linear` is what it says, and one that is not linear leaves everything as it was (R553, R567, R579). -/
def execDevBoardTable (r : Req) (b : Body) (image : List Byte) (linear : Bool) (s : State) : Host.Outcome State Fault Refusal :=
  let t := image.take (b.u32 8)
  command 0x0103 r s [0] (b.length != 16 || !tableOk t (b.u32 8))
    { locked := s.boot.board, checkFail := b.length == 16 && crc32c t != BitVec.ofNat 32 (b.u32 12) }
    (fun s =>
      let s1 := s.pmbus t 0x20 0
      if linear then done (s1.takeBoard t) else .refuse s1 .REJECTED 0x0192 [])

/-! ### Adaptive core voltage (R552 to R554) -/

/-- AVS_MEASURE: an island's replica minimum in µV, and whether its replicas fail at the rail in force (R552 to R554). -/
def execAvsMeasure (i : Fin 41) (vminUv : Nat) (failing : Bool) (s : State) : Host.Outcome State Fault Refusal :=
  if s.island i ≠ 2 then .next s
  else
    let d := ceilDiv (vminUv * (if guarded i then 108 else 103)) 100000
    let s1 : State := (s.setBits .PWR_ISL_STAT i 27 16 (min 4095 d)).avs
    .next (if failing then (s1.setBit .PWR_STATUS 0 30 true).fault i fcVOLTAGE 1 0xFFFF [] else s1)

/-- One PMBus read: a transaction without acknowledge is counted, the third in a row is a fault (R554). -/
def State.pmbusAck (s : State) (ack : Bool) : State :=
  if ack then { s with pwr := { s.pwr with nacks := 0 } }
  else
    let n := s.pwr.nacks + 1
    let s1 : State := ({ s with pwr := { s.pwr with nacks := n } }).bumpSat .PWR_PMB_ERR 0
    if n = 3 then (s1.setBit .PWR_STATUS 0 30 true).fault 40 fcVOLTAGE 1 0xFFFF [] else s1

/-- READ_VOUT answered (R554). -/
def State.readVout (s : State) (v : Nat) : State :=
  let bad := decide (v + 15 < s.regBits .PWR_VSET 0 10 0) || decide (s.voutRange.2 + 15 < v)
  let n := if bad then s.pwr.badReads + 1 else 0
  let s1 : State := ({ s with pwr := { s.pwr with badReads := n } }).setBits .PWR_VREAD 0 10 0 v
  if n = 2 then (s1.setBit .PWR_STATUS 0 30 true).fault 40 fcVOLTAGE 1 0xFFFF [] else s1

/-- STATUS_WORD shows a VOUT, IOUT, OFF or TEMPERATURE fault, at the bits of PMBus 1.3 (PRESUMED, log 60, as are the command codes). -/
def statusBad (w : Nat) : Bool := w.testBit 15 || w.testBit 14 || w.testBit 6 || w.testBit 2

/-- PMBUS_POLL: READ_VOUT, READ_IOUT and STATUS_WORD with their acknowledges, and PMB_ALERT_N low (R553, R554). -/
def execPmbusPoll (ackV ackI ackS : Bool) (vout iout status : Nat) (alert : Bool) (s : State) : Host.Outcome State Fault Refusal :=
  if !s.regBit .PWR_STATUS 0 31 then .next s
  else
    let bad := (ackS && statusBad status) || alert
    let s1 : State := (s.pmbus s.board 0x8B 0).pmbusAck ackV
    let s2 : State := if ackV then s1.readVout vout else s1
    let s3 : State := (s2.pmbus s.board 0x8C 0).pmbusAck ackI
    let s4 : State := if ackI then s3.setBits .PWR_IREAD 0 11 0 iout else s3
    let s5a : State := (s4.pmbus s.board 0x79 0).pmbusAck ackS
    let s5 : State := if ackS then { s5a with pwr := { s5a.pwr with status := status } } else s5a
    let s6 : State := if bad then ((s5.bumpSat .PWR_PMB_ERR 0).setBit .PWR_STATUS 0 30 true).fault 40 fcVOLTAGE 1 0xFFFF [] else s5
    let n := bit01 (!ackV) + bit01 (!ackI) + bit01 (!ackS) + bit01 bad
    let s7 : State := if n = 0 then s6 else s6.eventPerSec 0x7C04 40 n (fun k => leBytes 2 s6.pwr.status ++ leBytes 2 0 ++ leBytes 4 k)
    .next s7.avs

/-! ### Clock stretching (R555, R556) -/

/-- Stretched time of the last µs of a guarded island, in fs. -/
def State.stretched (s : State) (i : Nat) : Nat :=
  (((Tbl.get s.pwr.stretch i).filter (fun e => decide (s.now < e.1 + us))).map (fun e => e.2)).sum

/-- A firing that a guarded island's limit refuses (R556). -/
def State.refuseStretch (s : State) (i : Nat) : State :=
  let s1 : State := s.bumpSat .PWR_ISL_DROOP i
  let s2 : State := if s1.regBit .PWR_STATUS 0 31 then s1.writeVout (s1.pwr.vout + 10) else s1
  (s2.fault i fcVOLTAGE 1 0xFFFF []).eventPerSec 0x7C03 i 1 (fun n => [BitVec.ofNat 8 i, 0#8, 0#8, 0#8] ++ leBytes 4 n)

/-- DROOP_STRETCH: a droop of some threshold steps lengthens the next cycle by a quarter period each, up to a whole one; in a
guarded island the window of R556 limits it. -/
def execDroopStretch (i : Fin 41) (steps : Nat) (s : State) : Host.Outcome State Fault Refusal :=
  if s.island i = 0 ∨ steps = 0 then .next s
  else
    let len := 1000000000 / clockMhz i * min 4 steps / 4
    if guarded i ∧ 125000000 < s.stretched i + len then .next (s.refuseStretch i)
    else
      let w := (s.now, len) :: (Tbl.get s.pwr.stretch i).filter (fun e => decide (s.now < e.1 + us))
      .next (({ s with pwr := { s.pwr with stretch := Tbl.set s.pwr.stretch i (if guarded i then w else []) } }).bumpWrap .PWR_ISL_STRETCH i)

/-! ### Temperature (R557, R558) -/

/-- Reading of an island's sensor as stored, in °C. -/
def State.tempOf (s : State) (i : Nat) : Int := toSigned 1 (s.regBits .PWR_ISL_TEMP i 7 0)

/-- PWR_TJ and THERM_WARN follow the readings. -/
def State.showTemps (s : State) : State :=
  let hot := (List.range 41).foldl (fun (m : Nat) i => if s.tempOf m < s.tempOf i then i else m) 0
  ((s.setBits .PWR_TJ 0 15 8 hot).setBits .PWR_TJ 0 7 0 (s.regBits .PWR_ISL_TEMP hot 7 0)).setBit .PWR_STATUS 0 29
    ((List.range 41).any (fun i => decide ((s.regBits .PWR_THERM_WARN 0 7 0 : Int) ≤ s.tempOf i)))

/-- PWR_THERM, at most once per 10 s per island (R557). -/
def State.warnTherm (s : State) (i : Nat) (c : Int) : State :=
  let due : Bool := match Tbl.get s.pwr.warned i with | some t => decide (t + 10 * sec ≤ s.now) | none => true
  if decide ((s.regBits .PWR_THERM_WARN 0 7 0 : Int) ≤ c) && due then
    ({ s with pwr := { s.pwr with warned := Tbl.set s.pwr.warned i (some s.now) } }).event 0x7C02 ([BitVec.ofNat 8 i] ++ sleBytes 1 c)
  else s

/-- THERMAL_SENSOR_READ: a junction reading in °C: warning, fault on the third reading out of range, THERMTRIP_N at 125 °C
(R557, R558). -/
def execThermalSensorRead (i : Fin 41) (c : Int) (s : State) : Host.Outcome State Fault Refusal :=
  let bad := decide (105 < c) || decide (c < (if Config.gradeI then -40 else 0))
  let n := if bad then Tbl.get s.pwr.hot i + 1 else 0
  let s1 : State := (s.setBits .PWR_ISL_TEMP i 7 0 (clampInt (-128) 127 c % 256).toNat).showTemps
  let s2 : State := ({ s1 with pwr := { s1.pwr with hot := Tbl.set s1.pwr.hot i n, trip := s1.pwr.trip || decide (125 ≤ c) } }).warnTherm i c
  .next (if n = 3 then s2.fault i fcTHERMAL 1 0xFFFF [] else s2)

/-- PWR_THERM_WARN 0x7C02: the warning threshold (R557). -/
def execPwrThermWarn (r : Req) (b : Body) (s : State) : Host.Outcome State Fault Refusal :=
  command 0x7C02 r s [53] (b.length != 4 || decide (b.u8 0 < 60) || decide (104 < b.u8 0) || !b.zero 1 3) {} (fun s =>
    done (s.setBits .PWR_THERM_WARN 0 7 0 (b.u8 0)).showTemps)

/-! ### Islands (R559 to R561) -/

/-- The islands that a PWR_ISLAND names. -/
def islandGroup (i : Nat) : List Nat := if 27 ≤ i ∧ i ≤ 29 then [i, i + 3, i + 6] else [i]

/-- The running configuration uses a block of the island or group (R560). -/
def State.islandBusy (s : State) (i : Nat) : Bool :=
  if i = 20 then (List.range 8).any (fun m => (Tbl.get s.ing.macs (8 + m)).enabled)
  else if 21 ≤ i ∧ i ≤ 24 then (List.range 4).any (fun k => qProto s.board (4 * (i - 21) + k) != 0) && s.boot.board
  else if i = 25 ∨ i = 26 then
    s.cam.ctx.any (fun e => (e.2.bound && cPort e.2.cfg / 4 == i - 25) || e.2.next.any (fun b => b.u8 1 == 1 && cPort b / 4 == i - 25)) || s.cam.ports.any (fun e => e.2.enabled && e.1 / 4 == i - 25)
  else if 27 ≤ i ∧ i ≤ 29 then (List.range 8).any (fun k => s.running (8 * (i - 27) + k))
  else if i = 38 then (List.range 168).any (fun k => s.ainOn k || s.aoutOn k)
  else if i = 39 then s.tfeOn 0 || s.tfeOn 1
  else false

/-- The next island that waits powers up, when none is clearing (R561). -/
def State.nextIsland (s : State) : State :=
  if (List.range 41).any (fun i => s.island i == 1) then s
  else
    let q := s.pwr.queue.mergeSort (fun a b => decide (a.1 ≤ b.1))
    match q with
    | [] => s
    | (i, c) :: t =>
      let s1 : State := { s with pwr := { s.pwr with queue := t } }
      if s1.island i = 0 then s1.startIsland i c else s1

/-- PWR_ISLAND commands whose islands have all reached the state asked for are answered. -/
def State.answerIslands (s : State) : State :=
  let ready := fun (c : PwrCmd) => c.islands.all (fun i => s.island i == if c.on then 2 else 0)
  (s.pwr.cmds.filter ready).foldl (fun (s : State) (c : PwrCmd) => s.replyR c.req 0x7C01 0 0 c.restarted [])
    { s with pwr := { s.pwr with cmds := s.pwr.cmds.filter (fun c => !ready c) } }

/-- PWR_ISLAND 0x7C01: an optional island or head group on or off; the reply follows when it is (R560, R561). -/
def execPwrIsland (r : Req) (b : Body) (s : State) : Host.Outcome State Fault Refusal :=
  let i := b.u8 0
  let on := b.u8 1 == 1
  let rs := s.isRestarted
  let g := islandGroup i
  command 0x7C01 r s [53] (b.length != 4 || !((decide (20 ≤ i) && decide (i ≤ 29)) || i == 38 || i == 39) || decide (1 < b.u8 1) || !b.zero 2 2)
    { rej := if !on && s.islandBusy i then some 0x0191 else none }
    (fun s =>
      let off := g.filter (fun k => s.island k == 0)
      let s1 : State := { s with pwr := { s.pwr with cmds := s.pwr.cmds ++ [{ req := r, restarted := rs, islands := g, on := on }]
                                                     queue := if on then s.pwr.queue ++ off.map (fun k => (k, 0)) else s.pwr.queue } }
      .later s1.nextIsland.answerIslands)

end Sys2Proof.Machine
end

