-- ==== Sys2Proof/Machine/Regs.lean ====
section
/-! DEFINITION. What a register shows when it is read (R12, R616 to R619): stored values, values computed from the state, the
latched registers of each master, and the 256-bit registers word by word. -/

namespace Sys2Proof.Machine

/-! ### DRAM figures (R465, R478, R484) -/

/-- Granules in use. -/
def State.usedGranules (s : State) : Nat := (s.runs.map (fun e => e.2)).sum

/-- Longest gap between runs sorted by start, from `at0` up to `cap`. -/
def largestGap (cap : Nat) : List (Nat × Nat) → Nat → Nat
  | [], at0 => cap - at0
  | (st, n) :: t, at0 => max (st - at0) (largestGap cap t (max at0 (st + n)))

/-- Addressable capacity in MiB (R462). -/
def State.addrMib (s : State) : Nat := 2 * s.dramGranules
/-- Free granules in MiB; the firmware's 1 GiB is none of them (R478). -/
def State.freeMib (s : State) : Nat := 2 * (s.dramGranules - 512 - s.usedGranules)
/-- Largest free run in MiB. -/
def State.largestMib (s : State) : Nat := 2 * largestGap s.dramGranules s.runs 512

/-- The retraining period in force in ms: one set by DMC_RETRAIN_PERIOD counts from its period boundary (R471). -/
def State.retrainMs (s : State) : Nat :=
  match s.mem.newPeriod with
  | some (p, t) => if t ≤ s.now then p else s.regBits .DMC_STATUS 0 10 0
  | none => s.regBits .DMC_STATUS 0 10 0

/-! ### Computed values -/

/-- HP_STATUS with its tag counts, OTHER_UP and CTRL_RUN, which reads 0 while the firmware restarts (R25, R97). -/
def State.hpStatus (s : State) (p : Port) : Word :=
  let tags := (s.port p).tags
  (((s.getReg .HP_STATUS p.idx).setBits 23 20 (tags.filter (fun t => t.urgent)).length).setBits 19 13 tags.length).setBits 1 1
    (bit01 (s.port p.other).linkUp) |>.setBits 12 12 (bit01 (s.fwRuns && s.interp.restart.isNone))

/-- The port of a register's member number (R53). -/
def portOf (i : Nat) : Port := if i = 0 then .A else .B

/-- Words 0 and 1 of a 64-bit vector. -/
def half (v : BitVec 64) (hi : Bool) : Word := BitVec.ofNat 32 (if hi then v.toNat / 2 ^ 32 else v.toNat)

/-- FLT_WD with the pairs now silent for more than 1 ms (R518). -/
def State.fltWd (s : State) : Word :=
  (s.getReg .FLT_WD 0).setBits 3 0 (bitsMask ((List.range 4).filter (fun p =>
    match Tbl.get s.flt.beats p with | some t => decide (t + ms < s.now) | none => false)))

/-- Bits counted by the test on a lane, or by the last one (R590). -/
def State.prbsBits (s : State) (l : Nat) : Nat :=
  match s.prbs l with
  | some t => t.count s.now % 2 ^ 48
  | none => (s.getReg .SL_PRBS_BITS_LO l).toNat + 2 ^ 32 * (s.getReg .SL_PRBS_BITS_HI l).toNat

/-- What a register member holds now, the latched ones apart. -/
def State.readReg (s : State) (r : Reg) (i : Nat) : Word :=
  match r with
  | .DEV_ID => s.devId
  | .DEV_UID_LO => half Config.dieId false
  | .DEV_UID_HI => half Config.dieId true
  | .DEV_BOOT => s.devBoot
  | .HP_STATUS => s.hpStatus (portOf i)
  | .PRF_STATE => s.prfState
  | .HP_CMD_DB | .SEM_REQ | .SEM_REL => 0#32
  | .SEM_HELD_LO => half (s.heldOf (portOf i)) false
  | .SEM_HELD_HI => half (s.heldOf (portOf i)) true
  | .SEM_OTHER_LO => half (s.heldOf (portOf i).other) false
  | .SEM_OTHER_HI => half (s.heldOf (portOf i).other) true
  | .SEM_TIE => s.getReg .SEM_TIE 0
  | .TM_TIME_NS => BitVec.ofNat 32 (s.ptp % sec)
  | .DMC_ADDR_MIB => if s.trained then BitVec.ofNat 32 s.addrMib else 0#32
  | .DMC_FREE_MIB => if s.trained then BitVec.ofNat 32 s.freeMib else 0#32
  | .DMC_LARGEST_MIB => if s.trained then BitVec.ofNat 32 s.largestMib else 0#32
  | .DMC_STATUS => (s.getReg .DMC_STATUS 0).setBits 10 0 s.retrainMs
  | .DMC_CH_STAT => ((s.getReg .DMC_CH_STAT i).setBits 28 28 (bit01 (decide (s.now < (Tbl.get s.mem.ch i).pauseEnd)))).setBits 6 0
      (Tbl.get s.mem.ch i).queue.length
  | .FLT_WD => s.fltWd
  | .SL_PRBS_BITS_LO => BitVec.ofNat 32 (s.prbsBits i)
  | .SL_PRBS_BITS_HI => BitVec.ofNat 32 (s.prbsBits i / 2 ^ 32)
  | .SRM_SCR_UNALIGNED => if s.fwRuns then Config.scratchUnaligned i s.now else 0#32
  | .SRM_SCR_DMA_WAIT => if s.fwRuns then BitVec.ofNat 32 (Config.scratchWait i s.now % 33) else 0#32
  | _ => s.getReg r i

/-! ### Latched registers (R353, R384, R619) -/

/-- Number of a master among those that read registers. -/
def busNum : BusMaster → Nat
  | .host p | .bar0 p => p.idx
  | .lantern p => 2 + p
  | .dbg => 6

/-- The register whose read latches this one, as the key of a master's latch, with the place among the latched words. -/
def latchKey (r : Reg) (i : Nat) : Option (Nat × Nat) :=
  match r with
  | .TM_TIME_SEC_LO => some (63, 0)
  | .TM_TIME_SEC_HI => some (63, 1)
  | .TM_TIME_FRAC => some (63, 2)
  | .HD_FRAME_HI => some (i, 0)
  | .HD_FLIP_SEC => some (i, 1)
  | .HD_FLIP_NS => some (i, 2)
  | _ => none

/-- The words that a read of this register latches, and under which key. -/
def State.latchWords (s : State) (r : Reg) (i : Nat) : Option (Nat × List Word) :=
  match r with
  | .TM_TIME_NS =>
    let t := s.ptp / sec
    some (63, [BitVec.ofNat 32 t, BitVec.ofNat 32 (t / 2 ^ 32 % 65536), BitVec.ofNat 32 ((s.tm.ptp.fixAt s.now % 2 ^ 48).toNat / 2 ^ 32)])
  | .HD_FRAME_LO => some (i, [s.getReg .HD_FRAME_HI i, s.getReg .HD_FLIP_SEC i, s.getReg .HD_FLIP_NS i])
  | _ => none

/-- A master's read of a register member: the value, and the state with what the read latches. -/
def State.readBy (s : State) (m : BusMaster) (r : Reg) (i : Nat) : Word × State :=
  let s1 : State := match s.latchWords r i with
    | some (k, ws) => { s with latches := Tbl.set s.latches (busNum m * 64 + k) ws }
    | none => s
  match latchKey r i with
  | some (k, n) => ((Tbl.get s.latches (busNum m * 64 + k)).getD n (r.resetOf i), s1)
  | none => (s.readReg r i, s1)

/-! ### A word of the register window -/

/-- Word k of FLT_LOG[n] (R504, R518): places not written since PORST_N read 0. -/
def State.logWord (s : State) (n k : Nat) : Word :=
  let j := (s.regBits .FLT_WR 0 7 0 + 255 - n) % 256
  match s.flt.log[j]? with
  | some r => BitVec.ofNat 32 (Body.u32 r.bytes (4 * k))
  | none => 0#32

/-- Word k of LODE_ENTRY[e] (R159, R192); an entry that is not valid reads zeros (DESIGN CHOICE, log 175). -/
def State.lodeWord (s : State) (e k : Nat) : Word :=
  match Tbl.get s.lode.entries e with
  | some x => BitVec.ofNat 32 (Body.u32 x.bytes (4 * k))
  | none => 0#32

/-- First offsets of the 256-bit registers. -/
def logBase : Nat := 0x201000
/-- First offset of LODE_ENTRY. -/
def lodeBase : Nat := 0x600000

/-- A master reads the aligned word at an offset of the register window; an offset that names no register reads 0 (R615). -/
def State.readWord (s : State) (m : BusMaster) (a : Nat) : Word × State :=
  if logBase ≤ a ∧ a < logBase + 8192 then (s.logWord ((a - logBase) / 32) ((a - logBase) % 32 / 4), s)
  else if lodeBase ≤ a ∧ a < lodeBase + 2097152 then (s.lodeWord ((a - lodeBase) / 32) ((a - lodeBase) % 32 / 4), s)
  else
    match Reg.atAddr a with
    | none => (0#32, s)
    | some (r, i) =>
      let (v, s1) := s.readBy m r i
      if r.info.acc = .RC then (v, s1.setReg r i 0#32) else (v, s1)

/-- What the router answers for an island that is not ON: the reset value (R618). -/
def offValue (a : Nat) : Word :=
  match Reg.atAddr a with
  | some (r, i) => r.resetOf i
  | none => 0#32

/-- The island that answers for an offset is not ON. -/
def State.offAt (s : State) (a : Nat) : Bool :=
  match Block.atAddr a with
  | some b => s.island b.island != 2
  | none => false

end Sys2Proof.Machine
end

