-- ==== Sys2Proof/Machine/Host.lean ====
section
/-! DEFINITION. The host ports (R48 to R75): doorbell, fetch, the start order of packets, event rings, links and resets; the
control-plane restart (R25); the semaphore (R76 to R81); and the host's register accesses (R12, R14, R53, R617 to R622). -/

namespace Sys2Proof.Machine

/-! ### Command ring and doorbell (R54 to R56) -/

/-- Bytes of a command ring. -/
def ringSize : Nat := 262144

/-- Offset of the next packet to fetch (HP_CMD_RD). -/
def State.cmdRd (s : State) (p : Port) : Nat := s.regBits .HP_CMD_RD p.idx 17 0
/-- Bytes from HP_CMD_RD to an offset, counted forward with wrap. -/
def State.span (s : State) (p : Port) (off : Nat) : Nat := (off + ringSize - s.cmdRd p) % ringSize
/-- Bytes of the ring from an offset, with wrap (R54). -/
def HostPort.bytes (h : HostPort) (off n : Nat) : Body := (List.range n).map (fun k => Tbl.get h.ring ((off + k) % ringSize))

/-- RING_ERROR: the event, HP_STATUS.RING_ERR and vector 2 (R51, R56, R60). -/
def State.ringError (s : State) (p : Port) (off kind : Nat) : State :=
  ((s.setBit .HP_STATUS p.idx 3 true).irq p 2).event 0x0204 (leBytes 4 off ++ leBytes 1 kind)

/-- A value written to HP_CMD_DB (R56). -/
def State.doorbell (s : State) (p : Port) (v : Word) : State :=
  let off := v.bits 17 0
  let last := (s.port p).lastDb
  if off = last then s
  else if off % 4 ≠ 0 ∨ s.span p off < s.span p last then s.ringError p off 0
  else s.modPort p (fun h => { h with lastDb := off })

/-- DOORBELL_WRITE: a valid offset becomes the last doorbell; an invalid one raises RING_ERROR (R56). -/
def execDoorbellWrite (p : Port) (value : Word) (s : State) : Host.Outcome State Fault Refusal := .next (s.doorbell p value)

/-! ### Fetch (R55, R57 to R60, R63, R68, R70) -/

/-- Once more than 64 records are free after drops, one EVT_OVERFLOW gives the count (R68). -/
def State.noteOverflow (s : State) (p : Port) : State :=
  let n := (s.port p).dropped
  if n ≠ 0 ∧ s.evtEn p ∧ 64 < s.freeRecords p then
    (s.modPort p (fun h => { h with dropped := 0 })).eventTo p s.ptp 0x0203 (leBytes 4 n)
  else s

/-- The firmware fetches, or the boot ROM does on its port until it has accepted an image (R92, R565). -/
def State.mayFetch (s : State) (p : Port) : Bool :=
  s.regBit .HP_CTL p.idx 0 && s.evtEn p && s.interp.restart.isNone && !s.boot.starting && (s.fwRuns || p == s.boot.port)

/-- Host-port hardware's own reply: it takes no tag (R57). -/
def State.hwReply (s : State) (r : Req) (op : Nat) (st : Status) : State := s.putReply r op st.code 0 false []

/-- A tag that may be taken: not in flight, and no fifth URGENT one (R70). -/
def State.tagFree (s : State) (r : Req) : Bool :=
  !(s.port r.port).tags.any (fun t => t.tag == r.tag.val) &&
    !(r.urgent && decide (4 ≤ ((s.port r.port).tags.filter (fun t => t.urgent)).length))

/-- A packet's 16 header bytes with its body, once it is whole: CRC, tag and reserved bits in the order of R20; a good one
takes its tag and waits for its start. -/
def State.accept (s : State) (r : Req) (h body : Body) : State :=
  let p := r.port
  let op := h.u16 0
  let fold : Word := BitVec.ofNat 32 (256 * p.idx + r.tag.val)
  if crc32cFold fold (h.take 12 ++ body) ≠ BitVec.ofNat 32 (h.u32 12) then s.hwReply r op .CHECKFAIL
  else if !s.tagFree r then (s.bumpSat .HP_BUSY_CNT p.idx).hwReply r op .BUSY
  else if 64 ≤ h.u8 2 ∨ 4 ≤ h.u8 3 then s.hwReply r op .BADPARAM
  else
    s.modPort p (fun x => { x with
      tags := x.tags ++ [{ tag := r.tag.val, urgent := r.urgent, seq := x.nextPkt }]
      fetched := x.fetched ++ [{ req := r, opcode := op, body := body, seq := x.nextPkt, fetched := s.now }]
      nextPkt := x.nextPkt + 1 })

/-- Request fields of a header (R58). -/
def reqOf (p : Port) (h : Body) : Req :=
  { port := p, tag := Fin.ofNat 64 (h.u8 2), cookie := BitVec.ofNat 32 (h.u32 8), urgent := (h.u8 3).testBit 0, ordered := (h.u8 3).testBit 1 }

/-- The next packet of a port's ring. -/
def State.fetch (s : State) (p : Port) : State :=
  let rd := s.cmdRd p
  let left := s.span p (s.port p).lastDb
  let h := (s.port p).bytes rd 16
  let len := h.u16 4
  if left < 16 then s
  else if len % 4 ≠ 0 ∨ 4080 < len ∨ h.u16 6 ≠ 1 then
    ((s.hwReply (reqOf p h) (h.u16 0) .BADPARAM).setBits .HP_CMD_RD p.idx 17 0 (s.port p).lastDb).ringError p rd 1
  else if left < 16 + len then s
  else (s.accept (reqOf p h) h ((s.port p).bytes (rd + 16) len)).setBits .HP_CMD_RD p.idx 17 0 ((rd + 16 + len) % ringSize)

/-- PACKET_FETCH: fetches one whole packet that the doorbell covers, while the event ring has more free records than tags are in
flight (R55, R63, R68). -/
def execPacketFetch (p : Port) (s : State) : Host.Outcome State Fault Refusal :=
  let s0 := s.noteOverflow p
  if s0.mayFetch p && decide ((s0.port p).tags.length < s0.freeRecords p) then .next (s0.fetch p) else .next s0

/-! ### The start of packets (R71 to R74) -/

/-- Opcodes that R17 and the blocks' chapters define. -/
def opcodes : List Nat :=
  [0x0101, 0x0102, 0x0103, 0x0201, 0x0301, 0x0302, 0x0303, 0x0304, 0x0310, 0x1001, 0x1002, 0x1003, 0x1004, 0x1005,
   0x2001, 0x2002, 0x2003, 0x2004, 0x2010, 0x2011, 0x2020, 0x2021, 0x2801, 0x2802, 0x2803, 0x2804, 0x2805,
   0x3001, 0x3002, 0x3003, 0x3010, 0x3011, 0x3801, 0x3802, 0x3803, 0x4001, 0x4002, 0x4003, 0x4004, 0x4005, 0x4006, 0x4010, 0x4011,
   0x4801, 0x4802, 0x4803, 0x4810, 0x5001, 0x5002, 0x5003, 0x5010, 0x5011, 0x5012, 0x5013,
   0x5801, 0x5802, 0x5803, 0x5804, 0x5805, 0x5810, 0x5811, 0x6001, 0x6002, 0x6003, 0x6004, 0x6005, 0x6006, 0x6007, 0x6008,
   0x6801, 0x6802, 0x6803, 0x7001, 0x7002, 0x7010, 0x7011, 0x7020, 0x7801, 0x7802, 0x7803, 0x7C01, 0x7C02, 0x7E01, 0x7E02]

/-- Every earlier packet of the port has been answered, as ORDERED asks (R72). -/
def State.orderMet (s : State) (k : Packet) : Bool :=
  !k.req.ordered || !(s.port k.req.port).tags.any (fun t => decide (t.seq < k.seq))

/-- The packet of a class that a port could start: the first of that class in ring order, if ORDERED lets it (R71 item 2). -/
def State.startCandidate (s : State) (p : Port) (urgent : Bool) : Option Packet :=
  ((s.port p).fetched.find? (fun k => k.req.urgent == urgent)).filter s.orderMet

/-- The port that starts next in a class: both in turn while both have a packet ready (R71 item 3). -/
def State.nextPacket (s : State) (urgent : Bool) : Option Packet :=
  let turn := if urgent then s.interp.turnUrgent else s.interp.turnPlain
  (s.startCandidate turn urgent).or (s.startCandidate turn.other urgent)

/-- A packet starts: an undefined opcode is answered BADPARAM, and preempted work resumes (R18, R71); else it is interpreted, its
scope check going by the scopes its port holds now (R74). -/
def State.startPacket (s : State) (k : Packet) : State :=
  let p := k.req.port
  let s1 := s.modPort p (fun h => { h with fetched := h.fetched.filter (fun x => x.seq != k.seq) })
  let s2 : State := { s1 with interp := if k.req.urgent then { s1.interp with turnUrgent := p.other } else { s1.interp with turnPlain := p.other } }
  if opcodes.contains k.opcode then { s2 with interp := { s2.interp with current := some { k with held := s2.heldOf p } } }
  else s2.endInterp.replyR k.req k.opcode Status.BADPARAM.code 0 k.restarted []

/-- A packet interrupted by a restart starts again before any other (R25). -/
def State.startAgain (s : State) (k : Packet) : State :=
  { s with interp := { s.interp with again := s.interp.again.tail, current := some { k with held := s.heldOf k.req.port } } }

/-- PACKET_START: the interpreter, being free, starts the next ready packet: interrupted ones, then URGENT ones, then the others
(R25, R71). -/
def execPacketStart (s : State) : Host.Outcome State Fault Refusal :=
  if s.interp.current.isSome || s.interp.restart.isSome || s.ctrlHalted || s.boot.starting then .next s
  else
    match s.interp.again with
    | k :: _ => .next (s.startAgain k)
    | [] =>
      match (s.nextPacket true).or (s.nextPacket false) with
      | some k => .next (s.startPacket k)
      | none => .next s

/-- URGENT_PREEMPT: at a preemption point an URGENT packet that is ready takes the interpreter from non-URGENT work, which
resumes after it (R71). -/
def execUrgentPreempt (s : State) : Host.Outcome State Fault Refusal :=
  match s.interp.current, s.nextPacket true with
  | some c, some k =>
    if c.req.urgent || s.interp.suspended.isSome || s.interp.restart.isSome || s.ctrlHalted then .next s
    else .next ({ s with interp := { s.interp with current := none, suspended := some c } } |>.startPacket k)
  | _, _ => .next s

/-- SECOND_SET_ARM: a head or channel that has taken its armed set arms the next one waiting (R73). -/
def execSecondSetArm (t : Target) (s : State) : Host.Outcome State Fault Refusal :=
  match t with
  | .head h =>
    let x := s.head h
    match x.armed, x.second with
    | none, a :: rest => .next ((s.setHead h { x with second := rest }).armFirst h { a with since := max a.since x.lastTake })
    | _, _ => .next s
  | .chan c =>
    let x := s.chan c
    match x.next, x.second with
    | none, a :: rest => .next ((s.setChan c { x with second := rest }).armChanFirst c a)
    | _, _ => .next s

/-! ### Port registers (R62, R63, R68, R69, R97) -/

/-- RING_RESET: the unfetched contents go (R97). -/
def State.ringReset (s : State) (p : Port) : State := s.setBits .HP_CMD_RD p.idx 17 0 (s.port p).lastDb

/-- RING_RESET. -/
def execRingReset (p : Port) (s : State) : Host.Outcome State Fault Refusal := .next (s.ringReset p)

/-- EVT_EN set: latches base and size, zeroes the indices, starts with phase 1 and sequence number 0; a size outside 10 to 16
leaves it unset (R62, R65, R68, R97). -/
def State.evtOn (s : State) (p : Port) : State :=
  let i := p.idx
  let n := s.regBits .HP_EVT_SIZE i 4 0
  if s.evtEn p || decide (n < 10) || decide (16 < n) then s
  else
    let base := (s.getReg .HP_EVT_BASE_LO i).toNat + 2 ^ 32 * (s.getReg .HP_EVT_BASE_HI i).toNat
    (((s.setBit .HP_CTL i 1 true).setBits .HP_EVT_WR i 15 0 0).setBits .HP_EVT_RD i 15 0 0).modPort p (fun h =>
      { h with evtBase := base, evtLog2 := n, phase := true, seq := 0, dropped := 0 })

/-- EVT_EN_SET. -/
def execEvtEnSet (p : Port) (s : State) : Host.Outcome State Fault Refusal := .next (s.evtOn p)

/-- EVT_EN_CLEAR: later replies are counted drops, later events are dropped uncounted (R63). -/
def execEvtEnClear (p : Port) (s : State) : Host.Outcome State Fault Refusal := .next (s.setBit .HP_CTL p.idx 1 false)

/-- FETCH_EN_WRITE (R63). -/
def execFetchEnWrite (p : Port) (on : Bool) (s : State) : Host.Outcome State Fault Refusal := .next (s.setBit .HP_CTL p.idx 0 on)

/-- The host's read index: frees records (R62, R68). -/
def State.evtRead (s : State) (p : Port) (v : Word) : State := (s.setBits .HP_EVT_RD p.idx 15 0 (v.bits 15 0)).noteOverflow p

/-- EVT_READ_INDEX_WRITE. -/
def execEvtReadIndexWrite (p : Port) (value : Word) (s : State) : Host.Outcome State Fault Refusal := .next (s.evtRead p value)

/-- IRQ_MODERATION_EXPIRY: the interval of vector 0 ends; records it held back are announced and start another (R69). -/
def execIrqModerationExpiry (p : Port) (s : State) : Host.Outcome State Fault Refusal :=
  match (s.port p).modUntil with
  | none => .next s
  | some t =>
    if s.now < t then .next s
    else
      let s1 := s.modPort p (fun h => { h with modUntil := none, modPending := false })
      .next (if (s.port p).modPending then s1.signal0 p else s1)

/-- HP_CTL written whole: RING_RESET, EVT_EN and FETCH_EN (R97). -/
def State.writeCtl (s : State) (p : Port) (v : Word) : State :=
  let s1 := if v.bit 2 then s.ringReset p else s
  let s2 := if v.bit 1 then s1.evtOn p else s1.setBit .HP_CTL p.idx 1 false
  s2.setBit .HP_CTL p.idx 0 (v.bit 0)

/-- A write of 1s to HP_STATUS clears RING_ERR and EVT_OVF, but for those that hardware sets in the same cycle (R14). -/
def State.clearStatus (s : State) (p : Port) (v hwSets : Word) : State :=
  let bit := fun (s : State) (k : Nat) => s.setBit .HP_STATUS p.idx k ((s.regBit .HP_STATUS p.idx k && !v.bit k) || hwSets.bit k)
  bit (bit s 2) 3

/-- W1C_WRITE. -/
def execW1cWrite (p : Port) (value hwSets : Word) (s : State) : Host.Outcome State Fault Refusal := .next (s.clearStatus p value hwSets)

/-! ### The semaphore (R76 to R81) -/

/-- Replaces the scopes a port holds. -/
def State.setHeld (s : State) (p : Port) (v : BitVec 64) : State :=
  { s with sem := match p with | .A => { s.sem with heldA := v } | .B => { s.sem with heldB := v } }

/-- The bit of a scope. -/
def scopeBit (n : Nat) : BitVec 64 := BitVec.ofNat 64 (2 ^ n)

/-- Why a request for scope n is refused, 0 when it is granted (R78, R98). -/
def semWhy (mine other : BitVec 64) (n : Nat) : Nat :=
  if mine.getLsbD n then 0
  else if other.getLsbD n then 1
  else if (n = 0 ∧ other ≠ 0) ∨ (n ≠ 0 ∧ other.getLsbD 0) then 2
  else 0

/-- Decides one request: SEM_RESULT, the grant, and the other port's vector 3 where the scopes change (R51, R78). `before` is
what the other port held before a tie's first decision, for WHY 3 (R79). -/
def State.semDecide (s : State) (p : Port) (n : Nat) (before : Option (BitVec 64)) : State :=
  let w := semWhy (s.heldOf p) (s.heldOf p.other) n
  let lost := w != 0 && (match before with | some b => semWhy (s.heldOf p) b n == 0 | none => false)
  let why := if lost then 3 else w
  let r := (s.addWrapBits .SEM_RESULT p.idx 31 16 1).setBits .SEM_RESULT p.idx 15 0 (256 * why + 128 * bit01 (w == 0) + n)
  if w = 0 ∧ !(s.holds p n) then (r.setHeld p (s.heldOf p ||| scopeBit n)).irq p.other 3 else r

/-- Two requests of one cycle are a tie when they name one scope, or one of them scope 0 (R79). -/
def semTie (a b : Nat) : Bool := a == b || a == 0 || b == 0

/-- Both ports request in one cycle. -/
def State.semBoth (s : State) (a b : Nat) : State :=
  if semTie a b then
    let first := portOf (s.regBits .SEM_TIE 0 0 0)
    let n := fun (p : Port) => if p = .A then a else b
    let s1 := s.semDecide first (n first) none
    let s2 := s1.semDecide first.other (n first.other) (some (s.heldOf first))
    (s2.setBit .SEM_TIE 0 0 (!s.regBit .SEM_TIE 0 0)).addSatBits .SEM_TIE 0 31 1 1
  else (s.semDecide .A a none).semDecide .B b none

/-- SEM_REQ: port p requests a scope; `other` is what the other port requests in the same cycle (R78, R79). -/
def execSemReq (p : Port) (value : Word) (other : Option Word) (s : State) : Host.Outcome State Fault Refusal :=
  let n := value.bits 5 0
  match other with
  | none => .next (s.semDecide p n none)
  | some o => .next (if p = .A then s.semBoth n (o.bits 5 0) else s.semBoth (o.bits 5 0) n)

/-- Scopes leave a port: its vector 3 too when it did not release them itself, and SCOPE_RELEASED on the other port (R51, R80,
R81). Held sets written under them are discarded (R340). -/
def State.releaseScopes (s : State) (p : Port) (mask : BitVec 64) (forced : Bool) : State :=
  let lost := s.heldOf p &&& mask
  if lost = 0 then s
  else
    let s1 := s.setHeld p (s.heldOf p &&& ~~~mask)
    let s2 := if forced then
        ((s1.eventTo p.other s.ptp 0x0202 (leBytes 1 p.idx ++ leBytes 3 0 ++ leBytes 8 lost.toNat)).irq p 3).irq p.other 3
      else s1.irq p.other 3
    s2.discardLost p lost

/-- A value written to SEM_REL (R80). -/
def State.semRelease (s : State) (p : Port) (v : Word) : State :=
  let n := v.bits 6 0
  if n = 64 then s.releaseScopes p (BitVec.allOnes 64) false
  else if 64 < n then s
  else s.releaseScopes p (scopeBit n) false

/-- SEM_REL. -/
def execSemRel (p : Port) (value : Word) (s : State) : Host.Outcome State Fault Refusal := .next (s.semRelease p value)

/-- SEM_REL_ALL: 0x40 written to SEM_REL. -/
def execSemRelAll (p : Port) (s : State) : Host.Outcome State Fault Refusal := .next (s.releaseScopes p (BitVec.allOnes 64) false)

/-! ### Links and port resets (R75, R81, R549, R550) -/

/-- The PCIe parts that each port supports beside its rates and widths (R49). -/
structure PcieParts where
  functions : Nat := 1
  bar0 : Nat := ringSize + 0x40000
  bar2 : Nat := 67108864
  vectors : Nat := 4
  /-- Advanced Error Reporting -/
  aer : Bool := true
  maxPayload : Nat := 512
  maxReadRequest : Nat := 4096
deriving DecidableEq, Repr

/-- Both ports support the same parts (R48, R49). -/
def pcieParts : PcieParts := {}

/-- The PCIe configuration identity of a port (R625). Both BARs are 64-bit and non-prefetchable. -/
structure PciIdentity where
  vendor : Nat
  device : Nat
  revision : Nat
  classCode : Nat
  subVendor : Nat
  subsystem : Nat
  bar0Size : Nat
  bar2Size : Nat
  bars64 : Bool
  prefetchable : Bool
deriving DecidableEq, Repr

/-- What configuration space shows of a port: the identity registers' vendor, device and stepping; the ports differ in the Subsystem
ID alone (R624, R625). -/
def State.pciIdentity (s : State) (p : Port) : PciIdentity :=
  { vendor := s.regBits .DEV_PCI 0 15 0, device := s.regBits .DEV_PCI 0 31 16, revision := s.devId.bits 15 8, classCode := 0x048000, subVendor := 0x1D7B
    subsystem := p.idx, bar0Size := pcieParts.bar0, bar2Size := pcieParts.bar2, bars64 := true, prefetchable := false }

/-- PCIE_LINK_LEAVE_L0: the 100 ms of R81 begin; `d3hot` when the function has entered D3hot (R49; log 153). -/
def execPcieLinkLeaveL0 (p : Port) (d3hot : Bool) (s : State) : Host.Outcome State Fault Refusal :=
  .next ((s.modPort p (fun h => { h with d3hot := h.d3hot || d3hot })).linkLeave p)

/-- PCIE_LINK_ENTER_L0: at a width and a rate of R49, with the presets that the downstream port asks for (R578); the port that is not
the boot port trains only once the board table is taken (R550). The function is in D0 again. -/
def execPcieLinkEnterL0 (p : Port) (width speed : Nat) (asked : List (Nat × Nat)) (s : State) : Host.Outcome State Fault Refusal :=
  if (s.port p).linkUp || !([1, 2, 4].contains width) || decide (speed < 1) || decide (5 < speed) || (p != s.boot.port && !s.boot.board) then .next s
  else .next ((s.modPort p (fun h => { h with d3hot := false })).linkTrain p width speed asked)

/-- LINK_DOWN_SCOPE_TIMEOUT: a link away from L0 for 100 ms costs its port all its scopes (R81). -/
def execLinkDownScopeTimeout (p : Port) (s : State) : Host.Outcome State Fault Refusal :=
  match (s.port p).downSince with
  | some t =>
    if t + 100 * ms ≤ s.now then
      .next ((s.modPort p (fun h => { h with downSince := none })).releaseScopes p (BitVec.allOnes 64) true)
    else .next s
  | none => .next s

/-- What every reset of a port discards (R75). -/
def State.resetPort (s : State) (p : Port) : State :=
  let gone := (s.port p).fetched.map (fun k => k.seq)
  (((s.modPort p (fun h => { h with d3hot := false, fetched := [], tags := h.tags.filter (fun t => !gone.contains t.seq), lastDb := 0 })).setBits
    .HP_CMD_RD p.idx 17 0 0).setBits .HP_EVT_WR p.idx 15 0 0).setReg .HP_CTL p.idx 0#32

/-- PORT_RESET: a hot reset, a Function Level Reset and PERST release the port's scopes at once; link-down and PERST also take
the link out of L0 (R75, R81, R549). -/
def execPortReset (p : Port) (kind : ResetKind) (s : State) : Host.Outcome State Fault Refusal :=
  let s1 := s.resetPort p
  let s2 := if kind = .linkDown then s1 else s1.releaseScopes p (BitVec.allOnes 64) true
  .next (if kind = .linkDown ∨ kind = .perst then s2.linkLeave p else s2)

/-! ### The control-plane restart (R25) -/

/-- Whole packets from an offset within a span; `fuel` bounds the walk. -/
def HostPort.waiting (h : HostPort) (off span : Nat) : Nat → Nat
  | 0 => 0
  | fuel + 1 =>
    let len := Body.u16 (h.bytes off 16) 4
    if span < 16 ∨ len % 4 ≠ 0 ∨ 4080 < len ∨ span < 16 + len then 0
    else 1 + HostPort.waiting h ((off + 16 + len) % ringSize) (span - 16 - len) fuel

/-- Packets waiting in both rings (CTRL_RESTART). -/
def State.ringPackets (s : State) : Nat :=
  [Port.A, Port.B].foldl (fun n p => n + (s.port p).waiting (s.cmdRd p) (s.span p (s.port p).lastDb) (ringSize / 16)) 0

/-- CTRL_RESTART. -/
def State.restartEvent (s : State) (phase : Nat) : State := s.event 0x0205 (leBytes 1 phase ++ leBytes 3 0 ++ leBytes 4 s.ringPackets)

/-- CTRL_RESTART_BEGIN: interpretation is cut and will start again; held sets are discarded; pairs 0 and 1 are not watched. One
that begins while another is open extends it (R25, R340, R510). -/
def execCtrlRestartBegin (s : State) : Host.Outcome State Fault Refusal :=
  if !s.fwRuns then .next s
  else if s.interp.restart.isSome then .next s
  else
    let cut := (s.interp.current.toList ++ s.interp.suspended.toList).map (fun k => { k with restarted := true })
    let s1 : State := { s with interp := { s.interp with current := none, suspended := none, again := cut ++ s.interp.again, restart := some s.now } }
    let s2 : State := { s1 with flt := { s1.flt with beats := Tbl.set (Tbl.set s1.flt.beats 0 none) 1 none, graceSpent := false } }
    .next ((List.range 24).foldl (fun s h => s.discardHeld h 2) (s2.restartEvent 0))

/-- CTRL_RESTART_END: fetching resumes, the replies that fell due are written, and stopped pairs 0 and 1 run again (R25). -/
def execCtrlRestartEnd (s : State) : Host.Outcome State Fault Refusal :=
  if s.interp.restart.isNone then .next s
  else
    let due := s.interp.due
    let s1 : State := { s with interp := { s.interp with restart := none, due := [] }, flt := { s.flt with halted := s.flt.halted.filter (fun p => 2 ≤ p) } }
    .next (due.foldl (fun s d => s.replyR d.req d.opcode d.status d.reason d.restarted d.body) (s1.restartEvent 1))

/-! ### Register reads (R12, R14, R617 to R622) -/

/-- A same-cycle tie at the register router (R621, R622). -/
def State.routerTie (s : State) : State := (s.setBit .DEV_ROUTER 0 0 (!s.regBit .DEV_ROUTER 0 0)).addSatBits .DEV_ROUTER 0 31 1 1

/-- One host read of an aligned word: the router answers for an island that is not ON (R618). -/
def State.hostRead (s : State) (p : Port) (a : Nat) : State :=
  if s.offAt a then (s.bumpSat .DEV_RD_OFF 0).emit (.readData (.host p) a (offValue a).toNat)
  else
    let (v, s1) := s.readWord (.host p) a
    s1.emit (.readData (.host p) a v.toNat)

/-- RC_REGISTER_READ: the value, then the register clears; when both ports read it in one cycle, the port of PRIO receives the
value (R14, R622). -/
def execRcRegisterRead (p : Port) (addr : Nat) (both : Bool) (s : State) : Host.Outcome State Fault Refusal :=
  if both then
    let first := portOf (s.regBits .DEV_ROUTER 0 0 0)
    let s1 : State := (s.hostRead first addr).hostRead first.other addr
    .next (if (Reg.atAddr addr).any (fun x => x.1.info.acc == .RC) then s1.routerTie else s1)
  else .next (s.hostRead p addr)

/-- OFF_ISLAND_REGISTER_READ: a host read whose block's island is OFF or CLEARING answers the reset value and is counted; of an
island that is ON it is a plain read (R618). -/
def execOffIslandRegisterRead (p : Port) (addr : Nat) (s : State) : Host.Outcome State Fault Refusal := .next (s.hostRead p (addr / 4 * 4))

/-! ### Register writes (R13, R53, R617, R620) -/

/-- A write to an HP_ or SEM_ register of a port that its access code allows; none for the others (R12, R97, R98). -/
def State.portWrite (s : State) (r : Reg) (p : Port) (v : Word) : Option State :=
  match r with
  | .HP_CMD_DB => some (s.doorbell p v)
  | .HP_CTL => some (s.writeCtl p v)
  | .HP_STATUS => some (s.clearStatus p v 0#32)
  | .HP_EVT_BASE_LO => some (s.setReg .HP_EVT_BASE_LO p.idx (v &&& 0xFFFFF000#32))
  | .HP_EVT_BASE_HI => some (s.setReg .HP_EVT_BASE_HI p.idx v)
  | .HP_EVT_SIZE => some (s.setReg .HP_EVT_SIZE p.idx (v &&& 0x1F#32))
  | .HP_EVT_RD => some (s.evtRead p v)
  | .HP_IRQ_MOD => some (s.setReg .HP_IRQ_MOD p.idx (v &&& 0x3FF#32))
  | .SEM_REQ => some (s.semDecide p (v.bits 5 0) none)
  | .SEM_REL => some (s.semRelease p v)
  | _ => none

/-- Bytes written into the command-ring region of BAR0 (R52, R54). -/
def State.ringWrite (s : State) (p : Port) (off : Nat) (bytes : List Byte) : State :=
  s.modPort p (fun h => { h with ring := bytes.zipIdx.foldl (fun t (b, k) => if off + k < ringSize then Tbl.set t (off + k) b else t) h.ring })

/-- BAR2 offset of the register that a BAR0 offset above the command ring names for a port (R52). -/
def bar0Addr (p : Port) (off : Nat) : Option Nat :=
  if off < 0x40000 ∨ 0x42000 ≤ off then none
  else if off < 0x41000 then some (0x10000 + 0x1000 * p.idx + (off - 0x40000))
  else some (0x20000 + 0x1000 * p.idx + (off - 0x41000))

/-- A write to BAR0 above the ring: the registers of this port; anything else is ignored (R12, R52). -/
def State.bar0Write (s : State) (p : Port) (off len : Nat) (v : Word) : State :=
  if len ≠ 4 ∨ off % 4 ≠ 0 then s
  else
    match (bar0Addr p off).bind Reg.atAddr with
    | some (r, _) => (s.portWrite r p v).getD s
    | none => s

/-- A write to BAR2 that takes effect: an HP_ or SEM_ register of the port it belongs to, or DEV_SCRATCH (R53, R620). -/
def State.bar2Reg (s : State) (a : Nat) (v : Word) : Option State :=
  match Reg.atAddr a with
  | some (.DEV_SCRATCH, i) => some (s.setReg .DEV_SCRATCH i v)
  | some (r, i) => s.portWrite r (portOf i) v
  | none => none

/-- One host write: into the command ring, to BAR0 or to BAR2; a BAR2 write without effect is counted (R53, R620). -/
def State.hostWrite (s : State) (p : Port) (w : RegWrite) : State :=
  match w with
  | .ring off bytes => s.ringWrite p off bytes
  | .bar0 off len v => s.bar0Write p off len v
  | .bar2 off len v =>
    if len ≠ 4 ∨ off % 4 ≠ 0 then s.bumpSat .HP_WR_DROP p.idx
    else
      match Reg.atAddr off with
      | some (.ING_RING_RD, i) => s.writeRingIng p i v
      | some (.CAM_STATS_RD, _) => s.writeRingCam p v
      | some (.ENC_STATS_RD, _) => s.writeRingEnc p v
      | some (.TCH_RING_RD, _) => s.writeRingTch p v
      | _ => (s.bar2Reg off v).getD (s.bumpSat .HP_WR_DROP p.idx)

/-- The register member that a host write names, with its value. -/
def writeTarget (p : Port) : RegWrite → Option (Reg × Nat × Word)
  | .ring _ _ => none
  | .bar0 off len v => if len ≠ 4 ∨ off % 4 ≠ 0 then none else ((bar0Addr p off).bind Reg.atAddr).map (fun x => (x.1, x.2, v))
  | .bar2 off len v => if len ≠ 4 ∨ off % 4 ≠ 0 then none else (Reg.atAddr off).map (fun x => (x.1, x.2, v))

/-- Writes of both ports in one cycle: to the same register in the order of DEV_ROUTER.PRIO, which flips (R621); requests of the two
ports' scopes by the rules of a tie (R79); else each on its own. -/
def State.hostWrites (s : State) (a b : RegWrite) : State :=
  match writeTarget .A a, writeTarget .B b with
  | some (ra, ia, va), some (rb, ib, vb) =>
    if ra = rb ∧ ia = ib then
      let first := portOf (s.regBits .DEV_ROUTER 0 0 0)
      (if first = .A then (s.hostWrite .A a).hostWrite .B b else (s.hostWrite .B b).hostWrite .A a).routerTie
    else if ra = .SEM_REQ ∧ rb = .SEM_REQ then
      if ia = 0 then s.semBoth (va.bits 5 0) (vb.bits 5 0) else s.semBoth (vb.bits 5 0) (va.bits 5 0)
    else (s.hostWrite .A a).hostWrite .B b
  | _, _ => (s.hostWrite .A a).hostWrite .B b

/-- REGISTER_WRITE: a host write; `other` is what the other port writes in the same cycle (R53, R620, R621). -/
def execRegisterWrite (p : Port) (w : RegWrite) (other : Option RegWrite) (s : State) : Host.Outcome State Fault Refusal :=
  match other with
  | none => .next (s.hostWrite p w)
  | some o => .next (if p = .A then s.hostWrites w o else s.hostWrites o w)

end Sys2Proof.Machine
end

