-- ==== Sys2Proof/Machine/Protect.lean ====
section
/-! DEFINITION. Protection and faults: the MPU and its violations (R487 to R497, R627), the check-value units (R498 to R503), the
arrival of fault records, liveness, the watchdog and lockstep (R504 to R511), and the commands and events of group 0x70. -/

namespace Sys2Proof.Machine

/-! ### The MPU (R488 to R491) -/

/-- VALID, LOCK, WRITE and READ of an entry. -/
def State.mpuValid (s : State) (n : Nat) : Bool := s.regBit .MPU_ENT_CTL n 31
/-- LOCK of an entry. -/
def State.mpuEntLocked (s : State) (n : Nat) : Bool := s.regBit .MPU_ENT_CTL n 2

/-- An entry's 4 KiB range contains an address. -/
def State.mpuCovers (s : State) (n addr : Nat) : Bool :=
  decide ((s.getReg .MPU_ENT_BASE n).toNat ≤ addr / 4096) && decide (addr / 4096 ≤ (s.getReg .MPU_ENT_LIMIT n).toNat)

/-- A master's bit of an entry's mask. -/
def State.mpuMask (s : State) (n m : Nat) : Bool :=
  if m < 32 then s.regBit .MPU_ENT_MASK_LO n m else s.regBit .MPU_ENT_MASK_HI n (m - 32)

/-- A device address of the register window or of addressable DRAM; every other one is reserved (R613). -/
def State.mapped (s : State) (addr : Nat) : Bool :=
  decide (addr < 0x4000000) || (decide (dramBase ≤ addr) && decide (addr < dramBase + s.dramGranules * granule))

/-- The lowest-numbered entry that matches an access part by its first byte; none can match a reserved range (R490, R614). -/
def State.mpuMatch (s : State) (m addr : Nat) : Option Nat :=
  if s.mapped addr then (List.range 256).find? (fun n => s.mpuValid n && s.mpuCovers n addr && s.mpuMask n m) else none

/-- Is a part allowed by the entries (R490). -/
def State.mpuGrants (s : State) (m addr : Nat) (write : Bool) : Bool :=
  match s.mpuMatch m addr with
  | some n => s.regBit .MPU_ENT_CTL n (if write then 1 else 0)
  | none => false

/-- Before MPU_LOCK every access is allowed (R489). -/
def State.mpuAllows (s : State) (m addr : Nat) (write : Bool) : Bool := !s.mpuLocked || s.mpuGrants m addr write

/-- The region of a violation: the lowest-numbered valid entry over the address, regardless of mask (R493). -/
def State.mpuRegion (s : State) (addr : Nat) : Nat :=
  ((List.range 256).find? (fun n => s.mpuValid n && s.mpuCovers n addr)).getD 0x1FF

/-! ### Islands of masters and blocks (R627) -/

/-- The island recorded for a request: by master identity, the instance that made it, and for scan-out and Canary which. -/
def islandOf (m inst serves : Nat) : Nat :=
  if m ≤ 3 then 11 + m
  else if m = 4 ∨ m = 5 then 36
  else if m = 8 ∨ m = 9 then 19 + inst / 8
  else if m = 10 then 21 + inst / 16
  else if m = 11 then 25 + inst / 4
  else if m = 12 ∨ m = 13 then 13 + m
  else if m = 14 ∨ m = 15 then (if inst < 32 then inst / 4 else 10)
  else if m = 16 then 8 + inst / 4
  else if m = 17 then 27 + inst / 8
  else if m = 18 then (if serves = 0 then 30 else 33) + inst / 8
  else if m = 19 then 38
  else if m = 20 then 39
  else 40

/-- A violation or poisoned read by these masters makes no fault record (R497). -/
def outsider (m : Nat) : Bool := m == 4 || m == 5 || m == 6 || m == 21

/-- Instance written to the record: a Lantern pair, engine, head or port; 0xFFFF for a unit that has none. -/
def instOfMaster (m inst : Nat) : Nat := if m ≤ 3 then m else if m = 12 ∨ m = 13 then m - 12 else if m = 7 ∨ 19 ≤ m then 0xFFFF else inst

/-- DETAIL of a record about an address: bytes 16 to 23 hold it, and the spec states nothing for the rest (R504). -/
def State.addrDetail (s : State) (addr : Nat) : List Byte × State :=
  let (k, s1) := s.draw
  (leBytes 8 addr ++ leBytes 8 (Config.freeWord k).toNat, s1)

/-- A fault record about an address. -/
def State.faultAt (s : State) (island cls sev inst addr : Nat) : State :=
  let (d, s1) := s.addrDetail addr
  s1.fault island cls sev inst d

/-! ### Violations (R492, R493, R497) -/

/-- MPU_VIOLATION, at most 10 times per second per master, with the parts denied since the last one (R497, R519). -/
def State.violEvent (s : State) (m : Nat) (mk : Nat → List Byte) : State :=
  let l := s.lim 0x7001 m
  let n := l.count + 1
  if s.evAllowed 0x7001 m 10 then
    (s.setLim 0x7001 m { count := 0, times := s.now :: l.times.filter (fun x => decide (s.now < x + sec)) }).event 0x7001 (mk n)
  else s.setLim 0x7001 m { l with count := n }

/-- A denied part: counters, the last violation, the event, and for a master of the device an unmasked fault. Only a posted
write is imprecise, and its address field is 0. -/
def State.violate (s : State) (m inst serves addr : Nat) (write posted : Bool) : State :=
  let region := s.mpuRegion addr
  let s1 : State := (s.bumpSat .MPU_VIOL_CNT 0).bumpSat .MPU_MASTER_VIOL m
  let s2 : State := match s.mpuMatch m addr with | some n => s1.bumpWrap .MPU_ENT_DENY n | none => s1
  let s3 : State := s2.setReg .MPU_LAST_INFO 0
    (BitVec.ofNat 32 (2 ^ 31 + bit01 posted * 2 ^ 30 + bit01 write * 2 ^ 29 + m * 2 ^ 23 + region))
  let s4 : State := if posted then s3
    else (s3.setReg .MPU_LAST_ADDR_LO 0 (BitVec.ofNat 32 addr)).setReg .MPU_LAST_ADDR_HI 0 (BitVec.ofNat 32 (addr / 2 ^ 32 % 4096))
  let s5 : State := s4.violEvent m (fun n =>
    [BitVec.ofNat 8 m, BitVec.ofNat 8 (bit01 write + 2 * bit01 posted + 4 * bit01 (!outsider m))] ++ leBytes 2 region ++ leBytes 4 n
      ++ leBytes 8 (if posted then 0 else addr))
  if outsider m then s5 else s5.faultAt (islandOf m inst serves) fcMPU 1 (instOfMaster m inst) (if posted then 0 else addr)

/-! ### MPU_ENTRY and MPU_LOCK -/

/-- Number of valid entries. -/
def State.mpuCount (s : State) : Nat := ((List.range 256).filter (fun n => s.mpuValid n)).length

/-- The entry that an MPU_ENTRY names: its number, or the lowest invalid one for 0xFFFF. -/
def State.mpuTarget (s : State) (n : Nat) : Option Nat :=
  if n = 0xFFFF then (List.range 256).find? (fun k => !s.mpuValid k) else some n

/-- Writes an entry (R488, R516). -/
def State.writeEntry (s : State) (n flags base limit : Nat) (mask : Nat) : State :=
  let s1 : State := (s.setReg .MPU_ENT_BASE n (BitVec.ofNat 32 base)).setReg .MPU_ENT_LIMIT n (BitVec.ofNat 32 limit)
  let s2 : State := (s1.setReg .MPU_ENT_MASK_LO n (BitVec.ofNat 32 mask)).setReg .MPU_ENT_MASK_HI n (BitVec.ofNat 32 (mask / 2 ^ 32))
  let ctl := flags % 4 + flags / 8 % 2 * 4 + flags / 4 % 2 * 2 ^ 31
  let s3 : State := s2.setReg .MPU_ENT_CTL n (BitVec.ofNat 32 ctl)
  s3.setBits .MPU_CTL 0 8 0 s3.mpuCount

/-- MPU_ENTRY 0x7001: writes an entry before the lock; LOCKED when the entry is locked (R488, R495). -/
def execMpuEntry (r : Req) (b : Body) (s : State) : Host.Outcome State Fault Refusal :=
  let n := b.u16 0
  let t := s.mpuTarget n
  command 0x7001 r s [52] (b.length != 20 || (decide (255 < n) && n != 0xFFFF) || decide (15 < b.u8 2) || !b.zero 3 1 || decide (b.u32 8 < b.u32 4))
    { locked := s.mpuLocked || (match t with | some k => s.mpuEntLocked k | none => false), noRes := t.isNone }
    (fun s => let k := (s.mpuTarget n).getD 0
      .now (s.writeEntry k (b.u8 2) (b.u32 4) (b.u32 8) (b.u64 12)) .OK (leBytes 2 k))

/-- Addresses at which the entry that decides an access of the firmware region can change: its start and the bounds of entries. -/
def State.fwPages (s : State) : List Nat :=
  0 :: ((List.range 256).filter (fun n => s.mpuValid n)).flatMap (fun n =>
    [(s.getReg .MPU_ENT_BASE n).toNat * 4096 - dramBase, ((s.getReg .MPU_ENT_LIMIT n).toNat + 1) * 4096 - dramBase])

/-- Every 4 KiB of the firmware region is readable and writable by Lantern pairs 0 to 3 (MPU_LOCK). -/
def State.fwRegionOk (s : State) : Bool :=
  (s.fwPages.filter (fun o => decide (o < 2 ^ 30))).all (fun o =>
    [0, 1, 2, 3].all (fun m => s.mpuGrants m (dramBase + o) false && s.mpuGrants m (dramBase + o) true))

/-- LOCK on every entry, valid or not (R495). -/
def State.lockEntries (s : State) : State := (List.range 256).foldl (fun (s : State) n => s.setBit .MPU_ENT_CTL n 2 true) s

/-- MPU_LOCK 0x7002: locks every entry until PORST_N; access checking starts (R489, R495). -/
def execMpuLock (r : Req) (b : Body) (s : State) : Host.Outcome State Fault Refusal :=
  command 0x7002 r s [0] (b.length != 4 || b.u32 0 != 0x4D50554C)
    { locked := s.mpuLocked, rej := if s.fwRegionOk then none else some 0x0171 }
    (fun s =>
      let n := s.mpuCount
      let s1 : State := (s.lockEntries.setBits .MPU_CTL 0 8 0 n).setBit .MPU_CTL 0 31 true
      .now (s1.event 0x7002 ([BitVec.ofNat 8 r.port.idx, 0#8] ++ leBytes 2 n)) .OK (leBytes 2 n ++ leBytes 6 0 ++ timeBytes s1.ptp))

/-! ### Check values (R498, R499) -/

/-- One bit of an MSB-first CRC of w bits. -/
def crcMsbBits (w poly : Nat) : Nat → Nat → Nat
  | 0, c => c
  | k + 1, c => crcMsbBits w poly k (if c.testBit (w - 1) then Nat.xor (c * 2 % 2 ^ w) poly else c * 2 % 2 ^ w)

/-- The check value of R498 over bytes, with a fold word (R499). -/
def checkValue (poly fold : Nat) (bs : List Byte) : Nat :=
  match poly with
  | 0 => Nat.xor (bs.foldl (fun c b => crcLsbBits 0x82F63B78 8 (Nat.xor c b.toNat)) (Nat.xor 0xFFFFFFFF (fold % 2 ^ 32))) 0xFFFFFFFF
  | 1 => Nat.xor (bs.foldl (fun c b => crcLsbBits 0xEDB88320 8 (Nat.xor c b.toNat)) (Nat.xor 0xFFFFFFFF (fold % 2 ^ 32))) 0xFFFFFFFF
  | 2 => bs.foldl (fun c b => crcMsbBits 16 0x1021 8 (Nat.xor c (b.toNat * 256))) (Nat.xor 0xFFFF (fold % 2 ^ 16))
  | _ => bs.foldl (fun c b => crcMsbBits 8 0x07 8 (Nat.xor c b.toNat)) (fold % 2 ^ 8)

/-! ### DRAM content -/

/-- The model knows the bytes of a granule: no object occupies it or has occupied it, and it is none of the firmware's. -/
def State.known (s : State) (g : Nat) : Bool :=
  decide (512 ≤ g) && decide (g < s.dramGranules)
    && !(s.runs.any (fun e => decide (e.1 ≤ g) && decide (g < e.1 + e.2))) && !(s.mem.stale.any (fun e => decide (e.1 ≤ g) && decide (g < e.1 + e.2)))

/-- The byte of a surface or reference buffer at a device address, where the model knows it (R108, R187, R310, R312). -/
def State.surfaceByte (s : State) (addr : Nat) : Option Byte :=
  (s.pools.filter (fun e => decide (e.1 < poolRaw 0))).findSome? (fun e =>
    ((e.2.old ++ e.2.surfs).find? (fun f => decide (f.addr ≠ 0 ∧ f.addr ≤ addr ∧ addr < f.addr + e.2.surfSize))).bind (fun f =>
      f.byteAt e.2.format (addr - f.addr)))

/-- Byte k of two samples of a raw buffer: 12 bits each, in three bytes, the first sample in the low bits (R9, R202). -/
def packed12 (l : List Nat) (k : Nat) : Byte :=
  let v := l.getD (k / 3 * 2) 0 + 4096 * l.getD (k / 3 * 2 + 1) 0
  BitVec.ofNat 8 (v / 2 ^ (8 * (k % 3)))

/-- A byte of a raw frame's lines in its buffer at an offset: line by line (R202); lines not yet written are not known. -/
def RawFrame.byteAt (f : RawFrame) (off : Nat) : Option Byte :=
  let n := cW f.cfg * 3 / 2
  (f.lines[off / max 1 n]?).map (fun l => packed12 l (off % max 1 n))

/-- A byte of a camera context's raw buffers, where a frame that is writing, waiting or processing has written it (R202). -/
def State.rawByte (s : State) (addr : Nat) : Option Byte :=
  (List.range 16).findSome? (fun c =>
    let x := s.cctx c
    (x.writing.toList ++ x.waiting.toList ++ x.processing.toList).findSome? (fun f =>
      let base := ((s.pool (poolRaw c)).surf f.buf).addr
      if base ≠ 0 ∧ base ≤ addr ∧ addr < base + cW f.cfg * cH f.cfg * 3 / 2 then f.byteAt (addr - base) else none))

/-- The byte at a device address, where the model knows it: a reserved range reads zeros (R614). -/
def State.dramByte (s : State) (addr : Nat) : Option Byte :=
  if !s.mapped addr then some 0#8
  else if addr < 0x4000000 then none
  else if s.known ((addr - dramBase) / granule) then some (Tbl.get s.mem.bytes addr) else (s.surfaceByte addr).or (s.rawByte addr)

/-- The bytes of a range, when the model knows them all. -/
def State.dramBytes (s : State) (addr : Nat) : Nat → Option (List Byte)
  | 0 => some []
  | k + 1 =>
    match s.dramByte addr, s.dramBytes (addr + 1) k with
    | some b, some t => some (b :: t)
    | _, _ => none

/-! ### Check-value units (R500 to R503) -/

/-- A unit. -/
def State.chk (s : State) (u : Nat) : ChkUnit := Tbl.get s.flt.chk u
/-- Replaces a unit; CHK_STATUS and BUSY follow. -/
def State.setChk (s : State) (u : Nat) (x : ChkUnit) : State :=
  let busy := x.started.isSome || decide (0 < x.cfg.u32 24)
  (({ s with flt := { s.flt with chk := Tbl.set s.flt.chk u x } }).setBit .CHK_STATUS 0 u busy).setBit .CHK_STAT u 31 busy

/-- A unit is busy: a one-shot run in progress, or a periodic one until CHK_STOP (R503). -/
def State.chkBusy (s : State) (u : Nat) : Bool := s.regBit .CHK_STATUS 0 u

/-- The unit that a CHK_RUN names. -/
def State.chkUnit (s : State) (n : Nat) : Option Nat :=
  if n = 0xFF then (List.range 8).find? (fun u => !s.chkBusy u) else if s.chkBusy n then none else some n

/-- The registers of a unit take a run's settings (R517). -/
def State.showChk (s : State) (u : Nat) (b : Body) : State :=
  let flags := b.u8 3
  let st := (decide (0 < b.u32 24), b.u8 1, b.u8 2, flags.testBit 1, flags.testBit 0)
  let s1 : State := ((((s.setBit .CHK_STAT u 30 st.1).setBits .CHK_STAT u 29 28 st.2.1).setBits .CHK_STAT u 27 26 st.2.2.1).setBit .CHK_STAT u 25
    st.2.2.2.1).setBit .CHK_STAT u 24 st.2.2.2.2
  (((s1.setReg .CHK_EXPECT u (BitVec.ofNat 32 (b.u32 16))).setReg .CHK_ADDR_LO u (BitVec.ofNat 32 (b.u32 4))).setReg .CHK_ADDR_HI u
    (BitVec.ofNat 32 (b.u32 8 % 4096))).setReg .CHK_LEN u (BitVec.ofNat 32 (b.u32 12))

/-- CHK_RUN 0x7010: one run, or a run every PERIOD_MS; a one-shot run is answered at its end (R503). -/
def execChkRun (r : Req) (b : Body) (s : State) : Host.Outcome State Fault Refusal :=
  let rs := s.isRestarted
  let flags := b.u8 3
  let one := b.u32 24 == 0
  command 0x7010 r s [52] (b.length != 28 || (decide (7 < b.u8 0) && b.u8 0 != 0xFF) || decide (3 < b.u8 1) || decide (3 < b.u8 2) || decide (3 < flags)
      || (flags.testBit 1 && !flags.testBit 0) || decide (2 ^ 44 ≤ b.u64 4) || decide (b.u32 12 < 1) || decide (1073741824 < b.u32 12)
      || decide (60000 < b.u32 24))
    { noRes := (s.chkUnit (b.u8 0)).isNone }
    (fun s =>
      let u := (s.chkUnit (b.u8 0)).getD 0
      let x : ChkUnit := { cfg := b, req := if one then some r else none, restarted := rs, started := some s.now,
                           nextAt := s.now + b.u32 24 * ms, startTime := s.ptp, endTime := (s.chk u).endTime }
      let s1 : State := (s.showChk u b).setChk u x
      if one then .later s1 else .now s1 .OK (leBytes 1 u ++ leBytes 15 0))

/-- A run ends with a code and, where it has one, a result (R501, R519). -/
def State.endChk (s : State) (u code : Nat) (result : Option Nat) : State :=
  let x := s.chk u
  let one := x.cfg.u32 24 == 0
  let s1 : State := (s.setBits .CHK_STAT u 23 20 code).bumpWrap .CHK_RUNS u
  let s2 : State := match result with | some v => s1.setReg .CHK_RESULT u (BitVec.ofNat 32 v) | none => s1
  let s3 : State := s2.setChk u { x with started := none, req := none, endTime := s.ptp, dirty := false, cfg := if one then [] else x.cfg }
  let v := result.getD 0
  let esc := x.cfg.u8 3 / 2 % 2 == 1
  let s4 : State := if code = 2 then (s3.bumpSat .CHK_MISMATCH u).event 0x7011
      ([BitVec.ofNat 8 u, BitVec.ofNat 8 (bit01 esc), 0#8, 0#8] ++ leBytes 4 v ++ leBytes 4 (x.cfg.u32 16) ++ leBytes 8 (x.cfg.u64 4)) else s3
  let s5 : State := if one then s4.event 0x7010
      ([BitVec.ofNat 8 u, BitVec.ofNat 8 code, 0#8, 0#8] ++ leBytes 4 v ++ leBytes 4 (x.cfg.u32 16)) else s4
  let s6 : State := match x.req with
    | some r => s5.replyR r 0x7010 0 0 x.restarted (leBytes 1 u ++ leBytes 1 code ++ leBytes 2 0 ++ leBytes 4 v ++ timeBytes s.ptp)
    | none => s5
  if code = 2 ∧ esc then s6.faultAt 40 fcCHECK 1 u (x.cfg.u64 4) else s6

/-- CHK_STOP 0x7011: a running run ends with STOPPED, and a periodic one starts no further run (R501). -/
def execChkStop (r : Req) (b : Body) (s : State) : Host.Outcome State Fault Refusal :=
  let u := b.u8 0
  command 0x7011 r s [52] (b.length != 4 || decide (7 < u) || !b.zero 1 3) {} (fun s =>
    let s1 : State := if (s.chk u).started.isSome then s.endChk u 5 none else s
    done (s1.setChk u { (s1.chk u) with cfg := [] }))

/-- First addresses of the 4 KiB parts of a range. -/
def chkParts (addr len : Nat) : List Nat :=
  (List.range ((addr + len - 1) / 4096 + 1 - addr / 4096)).map (fun k => if k = 0 then addr else (addr / 4096 + k) * 4096)

/-- The first 4 KiB part of a range that the MPU denies to the check-value units. -/
def State.chkDenied (s : State) (addr len : Nat) : Option Nat :=
  if !s.mpuLocked then none else (chkParts addr len).find? (fun a => !s.mpuGrants 21 a false)

/-- A run's parts in reserved ranges are counted before the MPU's lock, one access for each (R614; DESIGN CHOICE, log 228). -/
def State.chkUnmapped (s : State) (addr len : Nat) : State :=
  if s.mpuLocked then s else s.addSatBits .DEV_UNMAPPED 0 31 0 ((chkParts addr len).filter (fun a => !s.mapped a)).length

/-- The first poisoned line of a range, or the uncorrectable line that the run itself finds (R474, R501). -/
def State.chkPoison (s : State) (addr len : Nat) (ue : Option Nat) : Option Nat :=
  ((s.mem.poison.map (fun l => l * 64)) ++ ue.toList).foldl (fun (m : Option Nat) a =>
    if addr < a + 64 ∧ a < addr + len then some (match m with | some x => min x a | none => a) else m) none

/-- The fold word of a run (R499). -/
def chkFold (b : Body) : Nat :=
  let a := b.u64 4 / 4096 % 2 ^ 32
  match b.u8 2 with | 0 => 0 | 1 => a | 2 => b.u32 20 | _ => Nat.xor a (b.u32 20)

/-- Width in bits of a check value (R498). -/
def chkWidth (poly : Nat) : Nat := if poly < 2 then 32 else if poly = 2 then 16 else 8

/-- The result of a run: of the bytes of the range, or a free value where a write fell into the run or the model does not know
the bytes (R500). -/
def State.chkResult (s : State) (u : Nat) : Nat × State :=
  let x := s.chk u
  let poly := x.cfg.u8 1
  match if x.dirty then none else s.dramBytes (x.cfg.u64 4) (x.cfg.u32 12) with
  | some bs => (checkValue poly (chkFold x.cfg) bs, s)
  | none =>
    let (k, s1) := s.draw
    ((Config.freeWord k).toNat % 2 ^ chkWidth poly, s1)

/-- A denied read part comes before the poisoned line. -/
def deniedFirst (d p : Option Nat) : Bool :=
  match d, p with
  | some a, some b => decide (a ≤ b)
  | some _, none => true
  | none, _ => false

/-- CHK_PERIOD_START: the next run of a periodic unit, at the later of its period boundary and the end of the previous run (R503). -/
def execChkPeriodStart (u : Fin 8) (s : State) : Host.Outcome State Fault Refusal :=
  let x := s.chk u
  if x.started.isNone && decide (0 < x.cfg.u32 24) && decide (x.nextAt ≤ s.now) then
    .next (s.setChk u { x with started := some s.now, startTime := s.ptp, nextAt := x.nextAt + x.cfg.u32 24 * ms })
  else .next s

/-! ### The fault log (R506) -/

/-- FLT_READ 0x7020: copies records, newest first, to host memory. -/
def execFltRead (r : Req) (b : Body) (s : State) : Host.Outcome State Fault Refusal :=
  let n := b.u16 0
  command 0x7020 r s [] (b.length != 12 || decide (n < 1) || decide (256 < n) || !b.zero 2 2) {} (fun s =>
    let l := s.flt.log.take n
    let s1 : State := if l.isEmpty then s else s.emit (.dma r.port (b.u64 4) (l.flatMap FaultRec.bytes))
    .now s1 .OK (leBytes 2 l.length ++ leBytes 2 ((l.head?.map (fun x => x.seq)).getD 0)))

/-! ### Records and releases (R504 to R509) -/

/-- A record of a source that releases duty in hardware: the watchdog, lockstep of pair 3, the comparison of island 40 (R509). -/
def hwSource (island cls : Nat) : Bool := cls == fcWATCHDOG || (cls == fcLOCKSTEP && (island == 14 || island == 40))

/-- One record from the fault network enters the log. -/
def State.arrive (s : State) (f : FaultIn) : State :=
  if f.unmasked && hwSource f.island f.cls then s.faultHw f.island f.cls (f.inst % 65536) f.detail
  else s.fault f.island (f.cls % 256) (bit01 f.unmasked) (f.inst % 65536) f.detail

/-- FAULT_RECORD_ARRIVE: records detected in the same cycle are stored in ascending island number (R26, R504). -/
def execFaultRecordArrive (recs : List FaultIn) (s : State) : Host.Outcome State Fault Refusal :=
  .next ((recs.mergeSort (fun a b => decide (a.island ≤ b.island))).foldl State.arrive s)

/-- DUTY_RELEASE: the management plane releases duty for the first unmasked record (R508). -/
def execDutyRelease (s : State) : Host.Outcome State Fault Refusal := .next s.mgmtRelease

/-- HW_DUTY_RELEASE: the two copies of island 40's logic disagree; duty is released by hardware (R507, R509). The other two
sources of R509 are LOCKSTEP_MISMATCH and WATCHDOG_TIMEOUT. -/
def execHwDutyRelease (s : State) : Host.Outcome State Fault Refusal := .next (s.faultHw 40 fcLOCKSTEP 0xFFFF [])

/-- FAULT_PORT_LIVENESS_RECORD: a powered island's liveness record restarts its silence timer (R507). -/
def execFaultPortLivenessRecord (i : Fin 41) (s : State) : Host.Outcome State Fault Refusal :=
  if s.island i = 2 then .next { s with flt := { s.flt with alive := Tbl.set s.flt.alive i (some s.now) } } else .next s

/-- ISLAND_LIVENESS_TIMEOUT: a powered island has sent nothing for 3 ms (R507). -/
def execIslandLivenessTimeout (i : Fin 41) (s : State) : Host.Outcome State Fault Refusal :=
  match Tbl.get s.flt.alive i with
  | some t =>
    if s.island i = 2 ∧ t + 3 * ms ≤ s.now then
      .next (({ s with flt := { s.flt with alive := Tbl.set s.flt.alive i none } }).fault i fcISLAND 1 0xFFFF [])
    else .next s
  | none => .next s

/-! ### Watchdog and lockstep (R510, R511) -/

/-- The longest heartbeat gap so far, in units of 0.1 ms (FLT_WD). -/
def State.noteGap (s : State) (from0 : Nat) : State :=
  s.setBits .FLT_WD 0 15 8 (max (s.regBits .FLT_WD 0 15 8) (min 255 ((s.now - from0) / (ms / 10))))

/-- HEARTBEAT_WRITE: a pair that runs writes its heartbeat; during a control-plane restart pairs 0 and 1 are not watched, and
after it again from their first heartbeat (R510). -/
def execHeartbeatWrite (p : Fin 4) (s : State) : Host.Outcome State Fault Refusal :=
  if s.flt.halted.contains p || !s.fwRuns || (decide (p.val < 2) && s.interp.restart.isSome) then .next s
  else
    let s1 : State := match Tbl.get s.flt.beats p with | some t => s.noteGap t | none => s
    .next { s1 with flt := { s1.flt with beats := Tbl.set s1.flt.beats p (some s1.now) } }

/-- WATCHDOG_TIMEOUT: a watched pair has written nothing for 5 ms (R509, R510). -/
def execWatchdogTimeout (p : Fin 4) (s : State) : Host.Outcome State Fault Refusal :=
  match Tbl.get s.flt.beats p with
  | some t =>
    if t + 5 * ms ≤ s.now then
      let s1 : State := s.noteGap t
      .next (({ s1 with flt := { s1.flt with beats := Tbl.set s1.flt.beats p none } }).faultHw (11 + p) fcWATCHDOG p [])
    else .next s
  | none => .next s

/-- RESTART_GRACE_EXPIRY: a control-plane restart has lasted 2,000 ms; it counts as a heartbeat loss of pair 0 (R510). -/
def execRestartGraceExpiry (s : State) : Host.Outcome State Fault Refusal :=
  match s.interp.restart with
  | some t =>
    if t + 2000 * ms ≤ s.now ∧ !s.flt.graceSpent then
      .next (({ s with flt := { s.flt with graceSpent := true } }).faultHw 11 fcWATCHDOG 0 [])
    else .next s
  | none => .next s

/-- A Lantern pair stops (R474, R492, R511). -/
def State.haltPair (s : State) (p : Nat) : State :=
  { s with flt := { s.flt with halted := if s.flt.halted.contains p then s.flt.halted else p :: s.flt.halted } }

/-- LOCKSTEP_MISMATCH: both cores of the pair stop; pair 3 releases duty in hardware (R509, R511). -/
def execLockstepMismatch (p : Fin 4) (s : State) : Host.Outcome State Fault Refusal :=
  let s1 : State := s.haltPair p
  .next (if p.val = 3 then s1.faultHw 14 fcLOCKSTEP 3 [] else s1.fault (11 + p) fcLOCKSTEP 1 p [])

/-- ISLAND_CLOCK_LOSS: the monitors in island 40 find an island's clock lost (R512). -/
def execIslandClockLoss (i : Fin 41) (s : State) : Host.Outcome State Fault Refusal :=
  if s.island i = 0 then .next s else .next (s.fault i fcCLOCK 1 0xFFFF [])

/-! ### The debug master (R496) -/

/-- DBG_AUTHENTICATE: the signature over the TAP's 48-byte challenge verifies with the image's debug key. -/
def execDbgAuthenticate (challenge signature : List Byte) (s : State) : Host.Outcome State Fault Refusal :=
  if !s.pwr.porst && !s.boot.debugKey.isEmpty && challenge.length == 48 && Config.signed s.boot.debugKey challenge signature then
    .next { s with flt := { s.flt with dbg := true } }
  else .next s

end Sys2Proof.Machine
end

