-- ==== Sys2Proof/Machine/Memory.lean ====
section
/-! DEFINITION. The DRAM controllers and the interconnect (R462 to R486): address mapping, training, refresh and retraining, errors
and poison, plane quotas, the on-chip SRAM's patrol, requests under the MPU (R29, R112, R490 to R494, R614), and the commands and
events of group 0x68. -/

namespace Sys2Proof.Machine

/-! ### Address mapping (R463 to R468) -/

/-- Parity of the common bits of two numbers. -/
def parity (a b : Nat) : Bool := (maskBits (Nat.land a b) 64).length % 2 == 1

/-- Channel mask i of the board table's DRAM section. -/
def State.maskCh (s : State) (i : Nat) : Nat := s.board.u64 (tabSec s.board 4 + 8 + 8 * i)

/-- Physical address of a DRAM device address (R465). -/
def physOf (addr : Nat) : Nat := (addr - dramBase) / 448 * 512 + (addr - dramBase) % 448

/-- Channel of a DRAM device address (R468). -/
def State.channelAt (s : State) (addr : Nat) : Nat :=
  bitsMask ((List.range 5).filter (fun i => parity (physOf addr) (s.maskCh i)))

/-- Masks of the board table's DRAM section for bank groups and banks. -/
def State.maskBg (s : State) (j : Nat) : Nat := s.board.u32 (tabSec s.board 4 + 48 + 4 * j)
/-- Bank mask j. -/
def State.maskBa (s : State) (j : Nat) : Nat := s.board.u32 (tabSec s.board 4 + 56 + 4 * j)

/-- Where a byte lies in the attached DRAM. -/
structure DramLoc where
  channel : Nat
  bankGroup : Nat
  bank : Nat
  row : Nat
  column : Nat
  rank : Nat
deriving DecidableEq, Repr

/-- A physical address maps to its place: by the masks of channel, bank group and bank bits, with 32 Gb dies or one rank of 16 Gb
ones (R468). -/
def locate (ch bg ba : Nat → Nat) (dense : Bool) (ranks2 : Bool) (p : Nat) : DramLoc :=
  let l := p / 2 ^ 14 * 2 ^ 9 + p % 2 ^ 9
  { channel := bitsMask ((List.range 5).filter (fun i => parity p (ch i)))
    bankGroup := bitsMask ((List.range 2).filter (fun j => parity l (bg j)))
    bank := bitsMask ((List.range 2).filter (fun j => parity l (ba j)))
    row := l / 2 ^ 15 % (if dense then 2 ^ 17 else 2 ^ 16)
    column := l % 2 ^ 11
    rank := if ranks2 then l / 2 ^ 31 % 2 else 0 }

/-- The place of a device address (R465, R468). -/
def State.locateAddr (s : State) (addr : Nat) : DramLoc :=
  locate s.maskCh s.maskBg s.maskBa (s.regBit .DMC_STATUS 0 28) (s.regBit .DMC_STATUS 0 27) (physOf addr)

/-- The check line of an ECC block: a check byte for each word of its seven data lines, word 0 of line 0 first, the poison byte three
times, and five reserved bytes (R466). -/
def checkLine (word : Nat → Nat → BitVec 64) (poison : Byte) : List Byte :=
  (List.range 7).flatMap (fun k => (List.range 8).map (fun w => Config.checkByte (word k w))) ++ List.replicate 3 poison ++ List.replicate 5 0#8

/-- A read takes the bitwise majority of the three poison bytes (R466). -/
def poisonVote (a b c : Byte) : Byte := (a &&& b) ||| (a &&& c) ||| (b &&& c)

/-- The poison byte of the ECC block at a device address: bit k for data line k (R466). -/
def State.poisonByte (s : State) (addr : Nat) : Byte :=
  let b := dramBase + (addr - dramBase) / 448 * 448
  BitVec.ofNat 8 (bitsMask ((List.range 7).filter (fun k => s.mem.poison.contains (b / 64 + k))))

/-- The parts of an access to DRAM by ECC block: each lies on one channel (R465). -/
def blockParts (addr : Nat) : Nat → Nat → List (Nat × Nat)
  | 0, _ => []
  | k + 1, len => if len = 0 then [] else
    let n := min len (448 - (addr - dramBase) % 448)
    (addr, n) :: blockParts (addr + n) k (len - n)

/-- The physical address of local ECC block n of channel c: the channel bits that make the masks' parities spell c (R464, R468). -/
def State.blockAddr (s : State) (c n : Nat) : Nat :=
  let high := n * 2 ^ 14
  high + (bitsMask ((List.range 5).filter (fun i => parity high (s.maskCh i) != c.testBit i))) * 512

/-- Device address of data line k of local ECC block n of channel c (R465). -/
def State.lineAddr (s : State) (c n k : Nat) : Nat := dramBase + s.blockAddr c n / 512 * 448 + k * 64

/-- ECC blocks of one channel. -/
def State.chanBlocks (s : State) : Nat := s.dramGranules * granule / 448 / 32

/-- A channel. -/
def State.dmc (s : State) (c : Nat) : DmcCh := Tbl.get s.mem.ch c
/-- Replaces a channel. -/
def State.setDmc (s : State) (c : Nat) (x : DmcCh) : State := { s with mem := { s.mem with ch := Tbl.set s.mem.ch c x } }

/-- Island of a channel's controller (R27). -/
def islDmc (c : Nat) : Nat := 15 + c / 8

/-! ### Training (R472) -/

/-- tREFI in ns, halved while a channel is HOT (R469, R470). -/
def State.trefi (s : State) (c : Nat) : Nat := if s.regBit .DMC_CH_HOT 0 c then 1952 else 3904

/-- tRFCab in ns (R462). -/
def State.trfc (s : State) : Nat := if s.regBit .DMC_STATUS 0 28 then 380 else 280

/-- The first time of the rota after t at which channel c refreshes (R469). -/
def State.rotaAfter (s : State) (c t : Nat) : Nat :=
  let p := s.trefi c
  let first := s.mem.t0 + c % 8 * (p / 8)
  if t < first then first else first + ((t - first) / p + 1) * p

/-- The first time after t at which channel c retrains by its period (R471). -/
def State.retrainAfter (s : State) (c t : Nat) : Nat :=
  let p := s.retrainMs * ms
  let first := s.mem.base + c * p / 32
  if t < first ∨ p = 0 then first else first + ((t - first) / p + 1) * p

/-- Every channel starts its schedules at the end of initialisation, and every ECC block holds zeros. -/
def State.initDram (s : State) : State :=
  let s1 : State := { s with mem := { t0 := s.now, base := s.now } }
  (List.range 32).foldl (fun (s : State) c =>
    s.setDmc c { nextRefresh := s.mem.t0 + c % 8 * 488, nextRetrain := s.mem.t0 + c * (s.retrainMs * ms) / 32
                 nextMr4 := s.now + 16 * ms, nextPatrol := s.now + 10 * us, windowEnd := s.now + 1024 }) s1

/-- The first channel that failed, 0xFF for none. -/
def failedCh (pass : Word) : Nat := ((List.range 32).find? (fun c => !pass.getLsbD c)).getD 0xFF

/-- DMC_TRAIN 0x6801: trains every channel and initialises every ECC block; `pass` says which channels trained, `step` where the
first failure was (R472). -/
def execDmcTrain (r : Req) (b : Body) (pass : Word) (step : Fin 6) (durationMs : Nat) (s : State) : Host.Outcome State Fault Refusal :=
  command 0x6801 r s [52] (b.length != 0) { locked := s.trained } (fun s =>
    let ok := pass == 0xFFFFFFFF#32
    let body := leBytes 4 pass.toNat ++ leBytes 4 s.addrMib ++ leBytes 4 (min 2000 durationMs) ++ leBytes 1 (failedCh pass)
      ++ leBytes 1 (if ok then 0 else max 1 step.val) ++ leBytes 2 0
    let s1 : State := (List.range 32).foldl (fun (s : State) c => s.setBit .DMC_CH_STAT c 31 (pass.getLsbD c)) s
    let ev := [BitVec.ofNat 8 (bit01 (!ok)), BitVec.ofNat 8 (if ok then 0 else max 1 step.val), 0#8, 0#8] ++ leBytes 4 pass.toNat
    if ok then .now ((s1.initDram.setBit .DMC_STATUS 0 31 true).event 0x6801 ev) .OK body
    else .refuse (s1.event 0x6801 ev) .REJECTED 0x0161 body)

/-- DMC_RETRAIN_PERIOD 0x6802: the period in force from the next period boundary (R471). -/
def execDmcRetrainPeriod (r : Req) (b : Body) (s : State) : Host.Outcome State Fault Refusal :=
  command 0x6802 r s [52] (b.length != 4 || decide (b.u16 0 < 16) || decide (1024 < b.u16 0) || !b.zero 2 2) {} (fun s =>
    let p := s.retrainMs * ms
    let next := if p = 0 then s.now else s.mem.base + ((s.now - s.mem.base) / p + 1) * p
    let s1 : State := s.setBits .DMC_STATUS 0 10 0 s.retrainMs
    done (if s1.trained then { s1 with mem := { s1.mem with newPeriod := some (b.u16 0, next) } } else s1.setBits .DMC_STATUS 0 10 0 (b.u16 0)))

/-- Granules of the objects at some addresses, in MiB. -/
def State.runsMib (s : State) (l : List Nat) : Nat := 2 * (l.map (fun a => Tbl.get s.runs ((a - dramBase) / granule))).sum

/-- Granules of the surfaces of a pool, in MiB. -/
def State.poolMib (s : State) (p : Pool) : Nat := s.runsMib ((p.surfs ++ p.old).map (fun f => f.addr))

/-- Reference buffers that armed encode channels have allocated and no picture has taken (R301). -/
def State.armedBufs (s : State) : List Nat := s.enc.chan.flatMap (fun e => (e.2.next.toList ++ e.2.second).flatMap (fun a => a.bufs))

/-- Granules of the pools whose keys lie in a range, in MiB. -/
def State.poolsMib (s : State) (lo hi : Nat) : Nat :=
  ((s.pools.filter (fun e => decide (lo ≤ e.1) && decide (e.1 < hi))).map (fun e => s.poolMib e.2)).sum

/-- MEM_USAGE 0x6803: DRAM allocation figures, zeros until DRAM is trained (R472, R478). -/
def execMemUsage (r : Req) (b : Body) (s : State) : Host.Outcome State Fault Refusal :=
  command 0x6803 r s [] (b.length != 0) {} (fun s =>
    if !s.trained then .now s .OK (leBytes 28 0)
    else
      let video := s.poolsMib 0 (poolDec 0)
      let ref := s.poolsMib (poolDec 0) (poolGfx 0) + s.poolsMib (poolEnc 0) (poolEnc 32) + s.runsMib s.armedBufs
      let gfx := s.poolsMib (poolGfx 0) (poolEnc 0)
      .now s .OK (leBytes 4 s.freeMib ++ leBytes 4 s.largestMib ++ leBytes 4 video ++ leBytes 4 ref ++ leBytes 4 gfx
        ++ leBytes 4 (2 * s.usedGranules - video - ref - gfx) ++ leBytes 4 1024))

/-! ### Refresh, retraining and MR4 (R469 to R471) -/

/-- DRAM_REFRESH: an all-bank refresh at its time of the rota (R469). -/
def execDramRefresh (c : Fin 32) (s : State) : Host.Outcome State Fault Refusal :=
  let x := s.dmc c
  if s.trained && decide (x.nextRefresh ≤ s.now) then
    .next ((s.setDmc c { x with nextRefresh := s.rotaAfter c s.now, pauseEnd := s.now + s.trfc }).bumpWrap .DMC_CH_REFRESH c)
  else .next s

/-- A channel is escalated (R470, R471). -/
def State.dmcFault (s : State) (c : Nat) : State :=
  (((s.setBit .DMC_CH_FAULT 0 c true).setBit .DMC_STATUS 0 25 true).setBit .DMC_CH_STAT c 29 true).fault (islDmc c) fcDRAM_CHANNEL 1 c []

/-- The retraining times of a channel from a period boundary t on follow the period p that begins there (R471). -/
def DmcCh.rebase (x : DmcCh) (c t p : Nat) : DmcCh := if t ≤ x.nextRetrain then { x with nextRetrain := t + c * (p * ms) / 32 } else x

/-- A retraining period that waits is in force from its boundary on. -/
def State.rollPeriod (s : State) : State :=
  match s.mem.newPeriod with
  | some (p, t) =>
    if t ≤ s.now then
      (List.range 32).foldl (fun (s : State) c => s.setDmc c ((s.dmc c).rebase c t p))
        (({ s with mem := { s.mem with base := t, newPeriod := none } }).setBits .DMC_STATUS 0 10 0 p)
    else s
  | none => s

/-- A pause is due by a time: the channel's period has come round, or a failed pause is to be retried (R471). -/
def DmcCh.retrainDue (x : DmcCh) (t : Nat) : Bool :=
  decide (x.nextRetrain ≤ t) || (match x.retryAt with | some u => decide (u ≤ t) | none => false)

/-- DRAM_RETRAIN_PAUSE: a pause at the end of a refresh that ended when one was due, by the channel's period or to retry a failed one;
three failures in a row escalate (R471). -/
def execDramRetrainPause (c : Fin 32) (ok : Bool) (drift : Int) (pauseNs : Nat) (s0 : State) : Host.Outcome State Fault Refusal :=
  let s : State := s0.rollPeriod
  let x := s.dmc c
  if s.trained && x.retrainDue x.pauseEnd && decide (x.pauseEnd ≤ s.now) then
    let s1 : State := s.addWrapBits .DMC_CH_RETRAIN c 31 16 1
    let next := if x.nextRetrain ≤ s.now then s.retrainAfter c s.now else x.nextRetrain
    let y : DmcCh := { x with pauseEnd := s.now + min 1200 pauseNs, nextRetrain := next }
    if ok then
      .next ((s1.setDmc c { y with fails := 0, retryAt := none }).setReg .DMC_CH_DRIFT c (BitVec.ofInt 32 drift))
    else
      let n := x.fails + 1
      let s2 : State := (s1.setDmc c { y with fails := n, retryAt := some (s.now + ms) }).addSatBits .DMC_CH_RETRAIN c 15 0 1
      .next (if n = 3 then (s2.event 0x6805 [BitVec.ofNat 8 c, BitVec.ofNat 8 n]).dmcFault c else s2)
  else .next s0

/-- MR4_POLL: the channel's refresh-rate field, every 16 ms: 0 1×, 1 2×, 2 4× or more, 3 above the limit (R470). -/
def execMr4Poll (c : Fin 32) (rate : Fin 4) (s : State) : Host.Outcome State Fault Refusal :=
  let x := s.dmc c
  if s.trained && decide (x.nextMr4 ≤ s.now) then
    let was := s.regBits .DMC_CH_STAT c 27 25
    let hot := decide (0 < rate.val)
    let s1 : State := (s.setBits .DMC_CH_STAT c 27 25 rate).setBit .DMC_CH_STAT c 30 hot
    let s2 : State := s1.setBit .DMC_CH_HOT 0 c hot
    let s3 : State := s2.setBit .DMC_STATUS 0 26 (s2.getReg .DMC_CH_HOT 0 != 0#32)
    let change := hot != decide (0 < was)
    let s4 : State := s3.setDmc c { x with nextMr4 := x.nextMr4 + 16 * ms, nextRefresh := if change then s3.rotaAfter c s3.now else x.nextRefresh }
    let s5 : State := if change then s4.event 0x6804 [BitVec.ofNat 8 c, BitVec.ofNat 8 rate, BitVec.ofNat 8 (bit01 hot)] else s4
    .next (if 2 ≤ rate.val ∧ was < 2 then s5.dmcFault c else s5)
  else .next s

/-! ### Errors (R473 to R475) -/

/-- Corrected words (R473). -/
def State.dramCe (s : State) (c n : Nat) : State :=
  if n = 0 then s
  else (s.addSat .DMC_CH_CE c n).eventPerSec 0x6802 c n (fun k => [BitVec.ofNat 8 c, 0#8, 0#8, 0#8] ++ leBytes 4 k)

/-- An uncorrectable or poisoned line: counter, address, DMC_UE (R474, R475). -/
def State.dramUe (s : State) (c line source master : Nat) : State :=
  ((s.bumpSat .DMC_CH_UE c).setReg .DMC_CH_UE_ADDR c (BitVec.ofNat 32 (line / 64))).event 0x6803
    ([BitVec.ofNat 8 c, BitVec.ofNat 8 source, BitVec.ofNat 8 master] ++ leBytes 5 0 ++ leBytes 8 line)

/-- Sets the poison bit of a line. -/
def State.poisonLine (s : State) (line : Nat) : State :=
  let k := line / 64
  if s.mem.poison.contains k then s else { s with mem := { s.mem with poison := k :: s.mem.poison } }

/-- DRAM_PATROL_READ: one ECC block every 10 µs: corrected words, and the data lines with an uncorrectable word, which become
poisoned without escalation (R475). The patrol has no master identity: that byte of DMC_UE is free. The patrol yields while a request waits or the channel pauses (R475, R476). -/
def execDramPatrolRead (c : Fin 32) (ce : Nat) (ue : List (Fin 7)) (s : State) : Host.Outcome State Fault Refusal :=
  let x := s.dmc c
  if s.trained && decide (x.nextPatrol ≤ s.now) && decide (x.pauseEnd ≤ s.now) && x.queue.isEmpty then
    let s1 : State := s.dramCe c ce
    let s2 : State := ue.foldl (fun (s : State) k =>
      let (f, s') := s.draw
      let line := s'.lineAddr c x.patrol k
      (s'.poisonLine line).dramUe c line 1 ((Config.freeWord f).toNat % 256)) s1
    let n := x.patrol + 1
    let wrap := decide (s.chanBlocks ≤ n)
    let s3 : State := s2.setDmc c { x with patrol := if wrap then 0 else n, nextPatrol := s.now + 10 * us, mgmtB := x.mgmtB + 8 }
    .next (if wrap && c.val == 0 then s3.bumpWrap .DMC_SCRUB_PASS 0 else s3)
  else .next s

/-- ARBITER_WINDOW_END: planes past their quota of the 1.024 µs window are counted, and the counts restart (R476). -/
def execArbiterWindowEnd (c : Fin 32) (s : State) : Host.Outcome State Fault Refusal :=
  let x := s.dmc c
  if s.trained && decide (x.windowEnd ≤ s.now) then
    let s1 : State := if 5 < x.ctlB then s.addSatBits .DMC_CH_OVERQ c 31 16 1 else s
    let s2 : State := if 188 < x.dataB then s1.addSatBits .DMC_CH_OVERQ c 15 0 1 else s1
    .next (s2.setDmc c { x with dataB := 0, ctlB := 0, mgmtB := 0, windowEnd := x.windowEnd + 1024 })
  else .next s

/-! ### Requests (R29, R112, R477, R490 to R494, R614) -/

/-- Plane of a master: 0 data, 1 control, 2 management (R477, R487). -/
def planeOf (m : Nat) : Nat := if m = 0 ∨ m = 1 ∨ m = 4 ∨ m = 5 then 1 else if m = 3 ∨ m = 6 ∨ m = 7 ∨ m = 21 then 2 else 0

/-- The parts of an access: it is split at each 4 KiB boundary that it crosses (R491). -/
def parts (addr : Nat) : Nat → Nat → List (Nat × Nat)
  | 0, _ => []
  | k + 1, len => if len = 0 then [] else
    let n := min len (4096 - addr % 4096)
    (addr, n) :: parts (addr + n) k (len - n)

/-- A control-plane command whose transfer is denied stops with MPUDENY (R492). -/
def State.denyCommand (s : State) (p : Port) : State :=
  match s.interp.current with
  | some k => if k.req.port = p then (s.endInterp).replyR k.req k.opcode Status.REJECTED.code 0x0170 k.restarted [] else s
  | none => s

/-- Poisoned data read by these masters makes no fault record (R501, R627). -/
def noPoisonRecord (m : Nat) : Bool := m == 6 || m == 21

/-- What poisoned data does to the path that read it, the record apart (R474). -/
def State.poisonEffect (s : State) (m serves : Nat) : State :=
  if m ≤ 3 then s.haltPair m
  else if m = 14 then s.modSess serves (fun d =>
    { d with aus := match d.aus with | a :: t => { a with info := { a.info with damaged := true } } :: t | [] => [] })
  else s

/-- What a denied read part does to its requester (R492). -/
def State.denyEffect (s : State) (m serves : Nat) : State :=
  if m = 4 then s.denyCommand .A else if m = 5 then s.denyCommand .B else s.poisonEffect m serves

/-- A controller's cache after an access to an ECC block: the block's check line comes first, and the one used longest ago leaves
(R467; DESIGN CHOICE, log 221: which line leaves is not stated). -/
def DmcCh.useCheck (x : DmcCh) (block : Nat) : DmcCh := { x with checks := (block :: x.checks.filter (fun b => b != block)).take 64 }

/-- Bursts that an access to one ECC block costs: its data lines, and its check line unless the controller holds it (R467, R476). -/
def DmcCh.bursts (x : DmcCh) (addr len : Nat) : Nat :=
  (addr % 64 + len + 63) / 64 + (if x.checks.contains ((addr - dramBase) / 448) then 0 else 1)

/-- Adds bursts to a plane's count of the window (R476, R477). -/
def DmcCh.addBursts (x : DmcCh) (plane n : Nat) : DmcCh :=
  match plane with
  | 0 => { x with dataB := x.dataB + n }
  | 1 => { x with ctlB := x.ctlB + n }
  | _ => { x with mgmtB := x.mgmtB + n }

/-- The bursts of an access count against its plane's quota, a check line's with those of the access that caused it (R476). -/
def State.countBursts (s : State) (m c addr len : Nat) : State :=
  let x := s.dmc c
  s.setDmc c ((x.addBursts (planeOf m) (x.bursts addr len)).useCheck ((addr - dramBase) / 448))

/-- A scan-out request that meets a pause shows its stall (R39, R484). -/
def State.noteStall (s : State) (m c : Nat) : State :=
  let x := s.dmc c
  if (m = 17 ∨ m = 18) ∧ s.now < x.pauseEnd then
    s.setReg .DMC_CH_MAXSTALL c (BitVec.ofNat 32 (max (s.getReg .DMC_CH_MAXSTALL c).toNat (x.pauseEnd - s.now)))
  else s

/-- A write by a master of another class into a VIDEO pool sets the pool's foreign-write state (R111, R112). -/
def State.foreignWrite (s : State) (m addr len : Nat) : State :=
  if classOf m = 0 then s
  else s.pools.foldl (fun (s : State) e =>
    let size := zlcSize e.2.maxW e.2.maxH e.2.format
    match e.2.surfs.find? (fun f => decide (f.addr < addr + len) && decide (addr < f.addr + size)) with
    | some f =>
      if e.1 < poolGfx 0 ∧ e.2.bound then
        (s.modPool e.1 (fun p => { p with foreign := true })).event 0x1005
          (leBytes 2 e.2.sourceId ++ [BitVec.ofNat 8 m, 0#8] ++ leBytes 8 f.addr)
      else s
    | none => s) s

/-- A write into a range that a running check-value unit reads (R500). -/
def State.dirtyChecks (s : State) (addr len : Nat) : State :=
  (List.range 8).foldl (fun (s : State) u =>
    let x := s.chk u
    if x.started.isSome ∧ x.cfg.u64 4 < addr + len ∧ addr < x.cfg.u64 4 + x.cfg.u32 12 then s.setChk u { x with dirty := true } else s) s

/-- Bytes written over the interconnect into a surface of a pool lie over its own until its writer takes or releases it. -/
def Pool.writeOver (p : Pool) (addr : Nat) (data : List Byte) : Pool :=
  let g := fun (f : Surface) =>
    if f.addr ≠ 0 ∧ f.addr < addr + data.length ∧ addr < f.addr + p.surfSize then
      { f with patch := data.zipIdx.foldl (fun (t : Tbl Byte) (e : Byte × Nat) =>
          if f.addr ≤ addr + e.2 ∧ addr + e.2 < f.addr + p.surfSize then Tbl.insert t (addr + e.2 - f.addr) e.1 else t) f.patch }
    else f
  { p with surfs := p.surfs.map g, old := p.old.map g }

/-- Bytes written to DRAM; a whole line written clears its poison (R467). -/
def State.writeDram (s : State) (addr : Nat) (data : List Byte) : State :=
  let last := addr + data.length
  let bytes := data.foldl (fun (t : Nat × Tbl Byte) b => (t.1 + 1, Tbl.set t.2 t.1 b)) (addr, s.mem.bytes)
  { s with pools := s.pools.map (fun e => (e.1, if e.1 < poolRaw 0 then e.2.writeOver addr data else e.2))
           mem := { s.mem with bytes := bytes.2, poison := s.mem.poison.filter (fun k => !(decide (addr ≤ k * 64) && decide (k * 64 + 64 ≤ last))) } }

/-- A byte that may be known: itself, or a free one. -/
def State.byteOr (s : State) : Option Byte → Byte × State
  | some b => (b, s)
  | none => (BitVec.ofNat 8 (Config.freeWord s.draw.1).toNat, s.draw.2)

/-- A byte that a read returns, free where the model does not know it. -/
def State.readByte (s : State) (addr : Nat) : Byte × State := s.byteOr (s.dramByte addr)

/-- The bytes that a read returns, lowest address first. -/
def State.readDram (s : State) (addr : Nat) : Nat → List Byte × State
  | 0 => ([], s)
  | k + 1 =>
    let r := s.readByte addr
    let t := State.readDram r.2 (addr + 1) k
    (r.1 :: t.1, t.2)

/-- The register master that an identity is, if it reaches the register window (R613). -/
def regMaster (m : Nat) : Option BusMaster :=
  if h : m < 4 then some (.lantern ⟨m, h⟩) else if m = 6 then some .dbg else none

/-- What a master of the interconnect shows of the data it reads. -/
def State.answerRead (s : State) (m addr : Nat) (data : List Byte) : State :=
  match regMaster m with
  | some k => s.emit (.readData k addr (leNat data))
  | none => s

/-- The lines of a read that return poison: the one found uncorrectable, and those whose poison bit is set (R474). -/
def State.badLines (s : State) (addr len : Nat) (ue : Bool) : List Nat :=
  ((List.range ((addr % 64 + len + 63) / 64)).map (fun k => addr / 64 * 64 + 64 * k)).filter (fun l =>
    (ue && l == addr / 64 * 64) || s.mem.poison.contains (l / 64))

/-- A consumer's read within one ECC block: ECC of the access's first line, poison of every line, and what follows (R473, R474). -/
def State.readPart (s : State) (a : MemAccess) (first : Bool) (addr len : Nat) : State :=
  let m := a.master.val
  let c := s.channelAt addr
  let s1 : State := s.countBursts m c addr len
  let s2 : State := if first && a.ecc.val == 1 then s1.dramCe c 1 else s1
  let (bytes, s3) := s2.readDram addr len
  let s4 : State := s3.answerRead m addr bytes
  match s.badLines addr len (first && a.ecc.val == 2) with
  | [] => s4
  | line :: t =>
    let s5 : State := ((line :: t).foldl (fun (s : State) l => s.dramUe c l 0 m) s4).poisonEffect m a.serves
    if noPoisonRecord m then s5 else s5.faultAt (islandOf m a.inst a.serves) fcDRAM_UE 1 (instOfMaster m a.inst) line

/-- A write within one ECC block. -/
def State.writePart (s : State) (a : MemAccess) (addr : Nat) (data : List Byte) : State :=
  (s.countBursts a.master.val (s.channelAt addr) addr data.length).writeDram addr data

/-! ### Check-value runs (R500, R501) -/

/-- CHK_RUN_END: a run reaches its end, or its first denied part or poisoned line (R501); `ue` is an uncorrectable line that it
reads, if any. MPU_VIOLATION and DMC_UE report the cause. -/
def execChkRunEnd (u : Fin 8) (ue : Option Nat) (s : State) : Host.Outcome State Fault Refusal :=
  let x := s.chk u
  if x.started.isNone then .next s
  else
    let a := x.cfg.u64 4
    let d := s.chkDenied a (x.cfg.u32 12)
    let p := s.chkPoison a (x.cfg.u32 12) ue
    if deniedFirst d p then .next ((s.violate 21 u 0 (d.getD a) false false).endChk u 4 none)
    else
      match p with
      | some l => .next ((s.dramUe (s.channelAt l) (l / 64 * 64) 0 21).endChk u 3 none)
      | none =>
        let (v, s1) := (s.chkUnmapped a (x.cfg.u32 12)).chkResult u
        let code := if x.cfg.u8 3 % 2 = 0 then 6 else if v = x.cfg.u32 16 then 1 else 2
        .next (s1.endChk u code (some v))

end Sys2Proof.Machine
end

