-- ==== Sys2Proof/Machine/Crossing.lean ====
section
/-! DEFINITION. The crossings between islands (R28 to R30): requests of the interconnect's masters, the register window as Lantern
pairs and the debugger reach it (R12, R145, R495, R496, R615 to R619), requests that wait in a crossing while an island clears, and
the two events that make an island accept traffic. -/

namespace Sys2Proof.Machine

/-! ### Register writes over the interconnect (R12, R13, R145, R495, R496) -/

/-- The fields that a WL register of the Canary has (R13, R151). -/
def cnyMask : Reg → Word
  | .CNY_LIM_BUDGET => 0x001FFFFF#32
  | .CNY_LIM_MISC => 0x80FFFFFF#32
  | .CNY_STYLE => 0x0000FFF3#32
  | _ => 0x3FFFFFFF#32

/-- The style that a head's registers give, as a CNY_HEAD_STYLE body (R151). -/
def State.styleOfRegs (s : State) (h : Nat) : Body :=
  [BitVec.ofNat 8 h, BitVec.ofNat 8 (s.regBits .CNY_STYLE h 15 8), BitVec.ofNat 8 (s.regBits .CNY_STYLE h 7 4), BitVec.ofNat 8 (s.regBits .CNY_STYLE h 1 0)]
    ++ leBytes 4 (s.getReg .CNY_FG h).toNat ++ leBytes 4 (s.getReg .CNY_BG h).toNat

/-- A WL register of the Canary takes a value before the lock; a style that stays within the hard-wired ranges is what Flare draws
with from then on, any other leaves the style as it is (R144, R147; log 151). -/
def State.writeCny (s : State) (r : Reg) (i : Nat) (v : Word) : State :=
  let s1 : State := s.setReg r i (v &&& cnyMask r)
  if r = .CNY_LIM_BUDGET ∨ r = .CNY_LIM_MISC then s1
  else
    let st := s1.styleOfRegs i
    if 8 ≤ st.u8 1 ∧ st.u8 1 ≤ 64 ∧ 1 ≤ st.u8 2 ∧ st.u8 2 ≤ 8 then s1.modHead i (fun x => { x with set := { x.set with style := st } }) else s

/-- A register write by firmware or the debugger: each access code has its effect; a ring read index is written only by the port
that placed the ring (R620). After the Canary lock a Lantern pair's write to any `CNY_` register, and a debugger's to a WL one, is
refused and counted (R145); the debugger never writes an `MPU_` register (R496). -/
def State.writeRegWord (s : State) (m addr : Nat) (v : Word) : State :=
  match Reg.atAddr addr with
  | none => s
  | some (r, i) =>
    let wl := r.info.acc == .WL
    if r.info.block = .CNY then
      if s.cnyLocked && (wl || decide (m < 4)) then
        (s.bumpSat .CNY_LOCK_VIOL 0).event 0x1004 ([BitVec.ofNat 8 m, 0#8, 0#8, 0#8] ++ leBytes 4 (addr - Block.base .CNY))
      else if wl then s.writeCny r i v
      else s
    else if r.info.block = .MPU then
      if !wl then s
      else if m = 6 ∨ s.mpuLocked ∨ s.mpuEntLocked i then s.bumpSat .MPU_VIOL_CNT 0
      else
        let s1 : State := s.setReg r i (if r = .MPU_ENT_CTL then v &&& 0x80000007#32 else v)
        s1.setBits .MPU_CTL 0 8 0 s1.mpuCount
    else if r = .DEV_SCRATCH then s.setReg r i v
    else (s.portWrite r (portOf i) v).getD s

/-! ### Crossings (R28 to R30) -/

/-- Key of the crossing from one island into another. -/
def xingKey (src dst : Nat) : Nat := src * 64 + dst

/-- A request enters its crossing: behind four entries the writing island stalls with it (R28). -/
def State.enterXing (s : State) (src dst : Nat) (q : XReq) : State :=
  { s with xing := Tbl.modify s.xing (xingKey src dst) (fun x =>
      if x.fifo.length < 4 ∧ x.stalled.isEmpty then { x with fifo := x.fifo ++ [q] } else { x with stalled := x.stalled ++ [q] }) }

/-- Something waits in a crossing into or out of an island (R29). -/
def State.xingBusy (s : State) (i : Nat) : Bool :=
  s.xing.any (fun e => (e.1 / 64 == i || e.1 % 64 == i) && !(e.2.fifo.isEmpty && e.2.stalled.isEmpty))

/-- The island that answers for an offset of the register window. -/
def regIsland (addr : Nat) : Option Nat := (Block.atAddr addr).map (fun b => b.island)

/-- The error response of a crossing into an OFF island; a fault of the requester's island unless it is the debugger (R29). -/
def State.xingError (s : State) (k : BusMaster) (m inst serves addr : Nat) (ones : Nat) : State :=
  let s1 : State := s.emit (.readData k addr ones)
  if outsider m then s1 else s1.fault (islandOf m inst serves) fcISLAND 1 (instOfMaster m inst) []

/-- One word of the register window read by a Lantern pair or the debugger. -/
def State.wordRead (s : State) (k : BusMaster) (a : Nat) : State :=
  let (v, s1) := s.readWord k a
  s1.emit (.readData k a v.toNat)

/-- A part of an access to the register window, word by word, at an island that is ON. -/
def State.regNow (s : State) (a : MemAccess) (k : BusMaster) (addr len : Nat) (data : List Byte) : State :=
  if a.write then
    (List.range (len / 4)).foldl (fun (s : State) n =>
      s.writeRegWord a.master.val (addr + 4 * n) (BitVec.ofNat 32 (leNat ((data.drop (4 * n)).take 4)))) s
  else (List.range (ceilDiv len 4)).foldl (fun (s : State) n => s.wordRead k (addr / 4 * 4 + 4 * n)) s

/-- An access to the register window by a Lantern pair or DBG: an island that is OFF answers with an error, one that clears lets it
wait in the crossing (R29, R30). -/
def State.regPart (s : State) (a : MemAccess) (k : BusMaster) (addr len : Nat) (data : List Byte) : State :=
  let m := a.master.val
  let src := islandOf m a.inst a.serves
  match (regIsland addr).map (fun i => (i, s.island i)) with
  | some (_, 0) => s.xingError k m a.inst a.serves addr 0xFFFFFFFF
  | some (i, 1) => s.enterXing src i (.access a k addr len data)
  | _ => s.regNow a k addr len data

/-! ### DRAM controllers (R469, R476) -/

/-- A master stopped by what it read makes no further access. -/
def State.masterStopped (s : State) (m : Nat) : Bool := decide (m ≤ 3) && s.flt.halted.contains m

/-- A request is served. -/
def State.runDram (s : State) (q : DramReq) : State :=
  if s.masterStopped q.acc.master.val then s
  else if q.acc.write then s.writePart q.acc q.addr q.data
  else s.readPart q.acc q.first q.addr q.len

/-- The plane is within its quota of the window: 188, 5 and 2 bursts (R476). -/
def DmcCh.inQuota (x : DmcCh) (plane : Nat) : Bool :=
  match plane with
  | 0 => decide (x.dataB < 188)
  | 1 => decide (x.ctlB < 5)
  | _ => decide (x.mgmtB < 2)

/-- Place of a request in the order of R476, lower first: composition fetch, then the planes within their quotas, control,
management, data with bounded input buffers and other data, then those past them in the same order. -/
def DmcCh.rank (x : DmcCh) (q : DramReq) : Nat :=
  let m := q.acc.master.val
  if m = 17 ∧ !q.acc.write then 0
  else
    let p := planeOf m
    let inner := if p = 1 then 0 else if p = 2 then 1 else if q.acc.write ∧ (m = 8 ∨ m = 10 ∨ m = 11 ∨ m = 19) then 2 else 3
    1 + inner + (if x.inQuota p then 0 else 4)

/-- The waiting request that a controller serves next: the first in the order of R476, the oldest of equals. -/
def DmcCh.pick (x : DmcCh) : Option DramReq :=
  x.queue.foldl (fun (best : Option DramReq) q =>
    match best with
    | none => some q
    | some b => if x.rank q < x.rank b then some q else some b) none

/-- A controller's queue after a request joins it. -/
def State.queueDram (s : State) (c : Nat) (q : DramReq) : State := s.setDmc c { s.dmc c with queue := (s.dmc c).queue ++ [q] }

/-- A channel holds up what reaches it: it pauses, or requests wait in its controller. -/
def State.dmcBusy (s : State) (c : Nat) : Bool := decide (s.now < (s.dmc c).pauseEnd) || !(s.dmc c).queue.isEmpty

/-- A request reaches its controller: served at once on an idle channel, queued behind a pause, and held in the crossing once the
queue of 64 is full (R28, R469). -/
def State.offerDram (s : State) (q : DramReq) : State :=
  let m := q.acc.master.val
  let c := s.channelAt q.addr
  let src := islandOf m q.acc.inst q.acc.serves
  let s1 := s.noteStall m c
  if !(Tbl.get s.xing (xingKey src (islDmc c))).fifo.isEmpty then s1.enterXing src (islDmc c) (.dram q)
  else if !s.dmcBusy c then s1.runDram q
  else if (s.dmc c).queue.length < 64 then s1.queueDram c q
  else s1.enterXing src (islDmc c) (.dram q)

/-- Requests at the head of a crossing enter their controllers while these have room. -/
def State.enqueueWaiting (s : State) : List XReq → State × List XReq
  | .dram q :: t =>
    let c := s.channelAt q.addr
    if (s.dmc c).queue.length < 64 then State.enqueueWaiting (s.queueDram c q) t else (s, .dram q :: t)
  | l => (s, l)

/-- The crossings into an island of DRAM controllers move on. -/
def State.drainXing (s : State) (i : Nat) : State :=
  (s.xing.filter (fun e => e.1 % 64 == i)).foldl (fun (s : State) e =>
    let r := s.enqueueWaiting (e.2.fifo ++ e.2.stalled)
    { r.1 with xing := Tbl.set r.1.xing e.1 { fifo := r.2.take 4, stalled := r.2.drop 4 } }) s

/-- A channel whose pause is over serves what waits, in the order of R476; `fuel` bounds the requests. -/
def State.serveDmc (s : State) (c : Nat) : Nat → State
  | 0 => s
  | fuel + 1 =>
    if s.now < (s.dmc c).pauseEnd then s
    else
      match (s.dmc c).pick with
      | none => s
      | some q => State.serveDmc (((s.setDmc c { s.dmc c with queue := (s.dmc c).queue.erase q }).runDram q).drainXing (islDmc c)) c fuel

/-- Requests that wait in the controllers or before them. -/
def State.dramWaiting (s : State) : Nat :=
  (s.mem.ch.map (fun e => e.2.queue.length)).sum + (s.xing.map (fun e => e.2.fifo.length + e.2.stalled.length)).sum

/-- A nanosecond of device time passes; the channels whose pauses have ended serve what waits (R469). -/
def State.tick (s : State) : State :=
  let s1 : State := { s with now := s.now + 1 }
  if s1.mem.ch.all (fun e => e.2.queue.isEmpty) then s1
  else (List.range 32).foldl (fun (s : State) c => s.serveDmc c s.dramWaiting) s1

/-- A request that waited is carried out. -/
def State.runXReq (s : State) : XReq → State
  | .access a k addr len data => s.regNow a k addr len data
  | .word k addr => s.wordRead k addr
  | .dram q => s.offerDram q

/-- An island accepts traffic: every crossing into it delivers what waits, in the order in which it was written (R28, R30). -/
def State.serveXing (s : State) (i : Nat) : State :=
  let due := s.xing.filter (fun e => e.1 % 64 == i)
  let s1 : State := { s with xing := s.xing.filter (fun e => e.1 % 64 != i) }
  due.foldl (fun (s : State) e => (e.2.fifo ++ e.2.stalled).foldl State.runXReq s) s1

/-! ### Requests (R490 to R493, R614) -/

/-- A part of an access to trained DRAM: the bookkeeping of a write, then one request for each ECC block (R465, R500). -/
def State.dramPart (s : State) (a : MemAccess) (first : Bool) (addr len : Nat) (data : List Byte) : State :=
  let s1 : State := if a.write then (s.foreignWrite a.master.val addr len).dirtyChecks addr len else s
  (blockParts addr (len + 1) len).foldl (fun (s : State) p =>
    s.offerDram { acc := a, first := first && p.1 == addr, addr := p.1, len := p.2, data := (data.drop (p.1 - addr)).take p.2 }) s1

/-- One part of an access: the MPU's check, reserved ranges, then memory or registers. -/
def State.onePart (s : State) (a : MemAccess) (first : Bool) (addr len : Nat) : State :=
  let m := a.master.val
  let posted := a.write && m != 6 && !(decide (m ≤ 3) && decide (addr < 0x4000000))
  let data := ((a.data ++ List.replicate a.len 0#8).drop (addr - a.addr)).take len
  if s.masterStopped m then s
  else if !s.mpuAllows m addr a.write then
    let s1 : State := s.violate m a.inst a.serves addr a.write posted
    if a.write then s1
    else (s1.answerRead m addr (List.replicate len 0#8)).denyEffect m a.serves
  else if !s.mapped addr then
    let s1 : State := s.bumpSat .DEV_UNMAPPED 0
    if a.write then s1 else s1.answerRead m addr (List.replicate len 0#8)
  else if addr < 0x4000000 then
    match regMaster m with
    | some k => s.regPart a k addr len data
    | none => s
  else if !s.trained then s
  else s.dramPart a first addr len data

/-- INTERCONNECT_REQUEST: a master's request, part by part in ascending order (R490 to R493). DBG reaches the interconnect only
after it has authenticated (R496). -/
def execInterconnectRequest (a : MemAccess) (s : State) : Host.Outcome State Fault Refusal :=
  if a.master.val = 6 ∧ !s.flt.dbg then .next s
  else .next ((parts a.addr (a.len + 1) a.len).foldl (fun (s : State) p => s.onePart a (p.1 == a.addr) p.1 p.2) s)

/-! ### Register reads by any master (R12, R52, R617 to R619) -/

/-- A host read of the aligned word at an offset of its BAR0: ring contents, the port's registers, or 0 (R52). -/
def State.bar0Read (s : State) (p : Port) (off : Nat) : State :=
  if off < ringSize then s.emit (.readData (.bar0 p) off (leNat ((s.port p).bytes off 4)))
  else
    match bar0Addr p off with
    | none => s.emit (.readData (.bar0 p) off 0)
    | some a =>
      let (v, s1) := s.readWord (.host p) a
      s1.emit (.readData (.bar0 p) off v.toNat)

/-- A read of an aligned word by a Lantern pair or the debugger, over the crossing into the register's island (R29, R30, R618). -/
def State.crossRead (s : State) (k : BusMaster) (m a : Nat) : State :=
  match (regIsland a).map (fun i => (i, s.island i)) with
  | some (_, 0) => s.xingError k m m 0 a 0xFFFFFFFF
  | some (i, 1) => s.enterXing (islandOf m m 0) i (.word k a)
  | _ => s.wordRead k a

/-- One read of an aligned word by any master. -/
def State.busRead (s : State) (m : BusMaster) (a : Nat) : State :=
  match m with
  | .host p => s.hostRead p a
  | .bar0 p => s.bar0Read p a
  | .lantern n => s.crossRead m n.val a
  | .dbg => s.crossRead m 6 a

/-- LATCHING_REGISTER_READ: a read by any master, with the latch that belongs to that master (R353, R384, R619). -/
def execLatchingRegisterRead (m : BusMaster) (addr : Nat) (s : State) : Host.Outcome State Fault Refusal := .next (s.busRead m addr)

/-- CROSSING_REGISTER_READ: a read of 1 to 8 bytes; one that crosses an 8-byte boundary answers all ones and is counted, any
other is served from the words it covers, each read on its own (R617). -/
def execCrossingRegisterRead (m : BusMaster) (addr len : Nat) (s : State) : Host.Outcome State Fault Refusal :=
  let a := addr / 4 * 4
  if addr % 8 + len ≤ 8 then
    .next (if addr + len ≤ a + 4 then s.busRead m a else (s.busRead m a).busRead m (a + 4))
  else
    let s1 := match m with | .host p | .bar0 p => s.bumpSat .HP_RD_BAD p.idx | _ => s
    .next (s1.emit (.readData m addr (256 ^ len - 1)))

/-! ### An island accepts traffic (R30, R559, R565) -/

/-- ISLAND_CLEAR_DONE: an island's SRAM clear ends and it accepts traffic, first what waited for it (R28, R30). -/
def execIslandClearDone (i : Fin 41) (s : State) : Host.Outcome State Fault Refusal :=
  if s.island i = 1 then .next ((((s.finishIsland i).serveXing i).nextIsland).answerIslands) else .next s

/-- ISLAND_POWER_OFF: with every FIFO of the island empty, a power-off that a command asked for takes place, and the island's data
are gone (R29, R30, R559). -/
def execIslandPowerOff (i : Fin 41) (s : State) : Host.Outcome State Fault Refusal :=
  if s.island i = 2 ∧ !s.xingBusy i ∧ s.pwr.cmds.any (fun c => !c.on && c.islands.elem i.val) then
    let s1 : State := (((s.endPrbsOf (islandLanes i)).dropData i).setBits .PWR_ISL_STAT i 27 16 0).setIsland i 0 0
    let s2 : State := { s1 with flt := { s1.flt with alive := Tbl.set s1.flt.alive i none } }
    .next (s2.avs.answerIslands)
  else .next s

/-- FW_START: the accepted image starts: every island that is not ON powers up, CTRL_RUN reads 1, FW_STARTED is raised (R565);
the watchdog begins to watch the Lantern pairs (R510). -/
def execFwStart (s : State) : Host.Outcome State Fault Refusal :=
  if !s.boot.starting then .next s
  else
    let s1 : State := { s with boot := { s.boot with starting := false } }
    let s2 : State := (List.range 41).foldl (fun (s : State) i =>
      if s.island i = 2 then s else if s.island i = 1 then (s.finishIsland i).serveXing i else (s.startIsland i 2).finishIsland i) s1
    let s3 : State := [0, 1].foldl (fun (s : State) p => (s.setBit .HP_STATUS p 12 true).setBit .HP_STATUS p 11 false) s2
    let s4 : State := { s3 with flt := { s3.flt with beats := (List.range 4).foldl (fun t p => Tbl.set t p (some s3.now)) s3.flt.beats } }
    .next ((s4.setBits .DEV_BOOT 0 31 29 3).event 0x0101 (leBytes 4 s4.boot.fwVersion ++ leBytes 4 s4.boot.secVersion))

end Sys2Proof.Machine
end

