-- ==== Sys2Proof/Machine/Pair.lean ====
section
/-! DEFINITION. The duty and standby pair (R520 to R545): the Seam link and its records, the states of the pair sequencer,
takeover and handover, what the standby shadows, the snapshot, and the commands of group 0x78. -/

namespace Sys2Proof.Machine

/-! ### What a device tells its partner -/

/-- Bytes of a stored section: opcode, instance, length, body (R83). -/
def Section.bytes (e : Section) : List Byte :=
  let b := e.body ++ List.replicate (pad4 e.body.length - e.body.length) 0#8
  leBytes 2 e.opcode ++ leBytes 2 e.inst ++ leBytes 4 b.length ++ b

/-- CRC-32C of the ACTIVE profile image as the store holds it (R91, R522). -/
def State.profileCrc (s : State) : Nat :=
  match s.activeSlot with
  | some n => (crc32c ((s.slot n).sections.map Section.bytes).flatten).toNat
  | none => 0

/-- clockIdentity of the grandmaster (R522). -/
def State.gmId (s : State) : Nat := (s.getReg .TM_GM_ID_HI 0).toNat * 2 ^ 32 + (s.getReg .TM_GM_ID_LO 0).toNat

/-- PAIR_ID. -/
def State.pairId (s : State) : Bool := s.regBit .PAIR_STATUS 0 22
/-- The Seam link is up. -/
def State.seamUp (s : State) : Bool := s.regBit .PAIR_STATUS 0 23
/-- Lanes of the Seam link in lock. -/
def State.seamLanes (s : State) : Nat := s.regBits .PAIR_SEAM_STAT 0 1 0
/-- PAIR_SEAM: 1 up, 0 down, 2 ID_CONFLICT, 3 DUTY_WIRE. -/
def State.seamEvent (s : State) (what : Nat) : State := s.event 0x7804 [BitVec.ofNat 8 what, BitVec.ofNat 8 s.seamLanes]

/-- SEAM_HEARTBEAT_SEND: every 10 µs (R521, R522). -/
def execSeamHeartbeatSend (s : State) : Host.Outcome State Fault Refusal :=
  if !s.paired || decide (s.now < s.pair.lastHb + 10 * us) then .next s
  else
    let s1 := { s with pair := { s.pair with lastHb := s.now } }
    .next (s1.seam .heartbeat ([BitVec.ofNat 8 s.pairState, BitVec.ofNat 8 (bit01 s.pairId), BitVec.ofNat 8 (bit01 s.onDuty),
      BitVec.ofNat 8 (bit01 (s.regBit .PAIR_STATUS 0 21))] ++ leBytes 8 s.gmId ++ leBytes 4 s.profileCrc))

/-! ### Taking duty (R525 to R527) -/

/-- A device in STANDBY, or in SYNCING with a profile ACTIVE, with no conflict of PAIR_ID (R525, R527). -/
def State.mayTakeDuty (s : State) : Bool :=
  (s.pairState == 2 || (s.pairState == 1 && s.activeSlot.isSome)) && !s.pair.conflict && !s.regBit .FLT_STATUS 0 28

/-- The device takes duty: DUTY_OUT, state, counters, PAIR_TAKEOVER, SUPPRESSED channels, drills (R527, R536, R542). Cause: 0
GIVE_UP received, 1 DUTY_IN loss. -/
def State.takeover (s : State) (cause : Nat) : State :=
  let sup := s.regBits .ENC_STATUS 0 15 0
  let s1 := ((s.setDutyOut true).setPairState 3 1).bumpWrap .PAIR_TAKEOVERS 0
  let s2 := s1.event 0x7802 ([BitVec.ofNat 8 cause, 0#8, 0#8, 0#8] ++ leBytes 4 sup)
  let s3 := (s2.resumeChans (if s.seamUp then 1 else 32769)).abortDrills
  let s4 := { s3 with pair := { s3.pair with handover := none } }
  (List.range 24).foldl (fun (s : State) h => s.modHead h (fun x => { x with latchWait := none })) s4

/-- DUTY_IN has been seen asserted, has been deasserted for 1 ms, and the partner is not heard to be on duty (R527). -/
def State.dutyLost (s : State) : Bool :=
  s.pair.sawIn && (match s.pair.inLow with | some t => decide (t + ms ≤ s.now) | none => false) && (!s.seamUp || !s.pair.partnerOut)

/-- Takes duty when the second condition of R527 holds; reports a DUTY_IN that disagrees with the Seam link once per 10 s. -/
def State.checkDuty (s : State) : State :=
  if s.mayTakeDuty && s.dutyLost then s.takeover 1
  else if s.paired && s.seamUp && s.pair.partnerOut && (match s.pair.inLow with | some t => decide (t + ms ≤ s.now) | none => false)
      && (match s.pair.wireAt with | some t => decide (t + 10 * sec ≤ s.now) | none => true) then
    ({ s with pair := { s.pair with wireAt := some s.now } }).seamEvent 3
  else s

/-- DUTY_IN_LOSS_TIMEOUT: DUTY_IN has been deasserted for 1 ms (R527). -/
def execDutyInLossTimeout (s : State) : Host.Outcome State Fault Refusal := .next s.checkDuty

/-- The duty ends a handover: it deasserts DUTY_OUT on reading DUTY_IN asserted and passes to STANDBY (R530). -/
def State.endHandover (s : State) : State :=
  (((s.setDutyOut false).setPairState 2 6).bumpWrap .PAIR_HANDOVERS 0).answerSwitch

/-- DUTY_IN_CHANGE: the pin changes level (R527, R529, R530). -/
def execDutyInChange (level : Bool) (s : State) : Host.Outcome State Fault Refusal :=
  if s.regBit .PAIR_STATUS 0 24 = level then .next s
  else
    let s1 := s.setBit .PAIR_STATUS 0 24 level
    if level then
      let s2 := { s1 with pair := { s1.pair with sawIn := true, inLow := none, inHigh := some s.now } }
      .next (if s2.onDuty && s2.pair.acked then s2.endHandover else s2)
    else
      let both := s1.onDuty && (match s.pair.inHigh with | some t => decide (t + ms ≤ s.now) | none => false)
      let s2 := { s1 with pair := { s1.pair with inLow := some s.now, inHigh := none } }
      .next (if both then s2.event 0x7803 [0#8] else s2)

/-- DUTY_WAIT of this device in ns (R525). -/
def State.dutyWait (s : State) : Nat := if s.pairId then 150 * ms else 50 * ms

/-- DUTY_WAIT_EXPIRY: a device in SYNCING with a profile ACTIVE asserts DUTY_OUT when DUTY_IN has stayed deasserted for DUTY_WAIT
and no partner on duty was reported (R525). The cause that PAIR_STATE gives for it is free. -/
def execDutyWaitExpiry (s : State) : Host.Outcome State Fault Refusal :=
  let w := s.dutyWait
  let low := match s.pair.inLow with | some t => decide (t + w ≤ s.now) | none => false
  let quiet := match s.pair.partnerSeen with | some t => decide (t + w ≤ s.now) | none => true
  if s.pairState = 1 && s.mayTakeDuty && low && quiet && decide (s.pair.waitFrom + w ≤ s.now) then
    let (k, s1) := s.draw
    .next ((s1.setDutyOut true).setPairState 3 ((Config.freeWord k).toNat % 256))
  else .next s

/-- BOTH_DUTY_TIMEOUT: both devices on duty for 1 ms; the one with PAIR_ID 1 yields to STANDBY, or to SYNCING when it is not
synchronized with the partner (R529). -/
def execBothDutyTimeout (s : State) : Host.Outcome State Fault Refusal :=
  let high := match s.pair.inHigh with | some t => decide (t + ms ≤ s.now) | none => false
  if s.paired && s.onDuty && high && s.pairId then
    let ok := s.seamUp && s.regBit .PAIR_STATUS 0 20
    .next (((((s.setDutyOut false).setPairState (if ok then 2 else 1) 4).bumpSat .PAIR_BOTH_DUTY 0).event 0x7803 [1#8]).answerSwitch)
  else .next s

/-- DUTY_READBACK_MISMATCH: the level read back differs from the commanded one for 100 µs (R543). -/
def execDutyReadbackMismatch (s : State) : Host.Outcome State Fault Refusal := .next (s.fault 40 fcDUTY_READBACK 1 0xFFFF [])

/-! ### Records that arrive (R521, R522, R543) -/

/-- Counts a record of the present millisecond (PAIR_SEAM_STAT). -/
def State.countRecord (s : State) : State :=
  let m := s.now / ms
  let p := s.pair
  if p.recMs = m then { s with pair := { p with recCount := p.recCount + 1 } }
  else ({ s with pair := { p with recMs := m, recCount := 1 } }).setBits .PAIR_SEAM_STAT 0 31 16 (if p.recMs + 1 = m then min 65535 p.recCount else 0)

/-- A record arrives on the Seam link: copies that fail are counted; the first good copy is taken (R521). A record out of sequence
or of unknown type is a masked fault, and a standby resynchronizes (R543). -/
def State.seamIn (s : State) (w : SeamWire) (f : State → State) : State :=
  let s1 := if w.bad0 then s.bumpSat .PAIR_SEAM_CRC 0 else s
  let s2 := if w.bad1 then s1.bumpSat .PAIR_SEAM_CRC 1 else s1
  if !s2.paired || !(w.ok0 || w.ok1) then s2
  else
    let s3 := ({ s2 with pair := { s2.pair with lastRec := s2.now } }).countRecord
    if w.inOrder then f s3
    else
      let s4 := s3.fault 40 fcSEAM 0 0xFFFF []
      if s4.isStandby then s4.setPairState 1 3 else s4

/-- Alignment of every head as PAIR_HEAD_STAT shows it (R531). -/
def State.showAligned (s : State) : State :=
  (List.range 24).foldl (fun (s : State) h => s.setBit .PAIR_HEAD_STAT h 31 (s.aligned h)) s

/-- A device in SYNCING that finds a partner on duty asks for a snapshot (R539). -/
def State.askSnapshot (s : State) : State := ({ s with pair := { s.pair with snapAt := some s.now } }).seam .snapshotReq []

/-- SEAM_HEARTBEAT_RECEIVE: partner state, grandmaster and profile match, conflict of PAIR_ID, the link's return (R521, R525,
R527, R531, R539). A partner that has become INELIGIBLE ends a handover to it (R524, R530; DEDUCED, log 225). -/
def execSeamHeartbeatReceive (w : SeamWire) (m : Heartbeat) (s : State) : Host.Outcome State Fault Refusal :=
  .next (s.seamIn w (fun s =>
    let crc := s.profileCrc
    let same := decide (m.crc = crc)
    let was := s.regBit .PAIR_STATUS 0 20
    let conf := m.pairId == s.pairId
    let p := s.pair
    let p1 := { p with partnerOut := m.dutyOut, partnerCrc := m.crc, conflict := conf
                       partnerSeen := if m.dutyOut then some s.now else p.partnerSeen
                       diffSince := if same then none else some (p.diffSince.getD s.now), diffTold := !same && p.diffTold
                       snapAt := if same && !was then none else p.snapAt }
    let s1 := ((({ s with pair := p1 }).setBits .PAIR_STATUS 0 28 26 m.state).setBit .PAIR_STATUS 0 20 same).setBit .PAIR_STATUS 0 19 (decide (m.gm = s.gmId))
    let s2 := if s1.seamUp then s1 else (s1.setBit .PAIR_STATUS 0 23 true).seamEvent 1
    let s3 := if conf && !p.conflict then s2.seamEvent 2 else s2
    let s3b := if s3.onDuty && s3.pair.handover.isSome && m.state == 5 then s3.abandonHandover else s3
    let s4 := s3b.showAligned.checkDuty
    if s4.pairState = 1 && m.dutyOut && s4.pair.snapAt.isNone then s4.askSnapshot else s4))

/-- SEAM_DOWN_TIMEOUT: no valid record for 100 µs, or no lane in lock for 100 µs (R521). -/
def execSeamDownTimeout (s : State) : Host.Outcome State Fault Refusal :=
  let dark := match s.pair.unlocked with | some t => decide (t + 100 * us ≤ s.now) | none => false
  if s.seamUp && (decide (s.pair.lastRec + 100 * us ≤ s.now) || dark) then
    .next ((s.setBit .PAIR_STATUS 0 23 false).seamEvent 0).checkDuty
  else .next s

/-- PAIR_PROFILE_DIFF with both CRCs (R545). -/
def State.profileDiff (s : State) : State := s.event 0x7806 (leBytes 4 0 ++ leBytes 4 s.profileCrc ++ leBytes 4 s.pair.partnerCrc)

/-- PROFILE_DIFF_TIMEOUT: the profile CRCs have differed for more than 1 s (R531). -/
def execProfileDiffTimeout (s : State) : Host.Outcome State Fault Refusal :=
  match s.pair.diffSince with
  | some t => if t + sec < s.now && !s.pair.diffTold then .next ({ s with pair := { s.pair with diffTold := true } }).profileDiff else .next s
  | none => .next s

/-! ### Latches, decisions and frame CRCs (R531, R532, R534) -/

/-- A latch miss of one layer (R532). -/
def State.latchMiss (s : State) (h l : Nat) : State := (s.bumpSat .PAIR_LATCH_MISS h).modLayer h l (fun r => { r with miss := true })

/-- Replaces a layer's latch by the complete surface that carries the duty's SEQUENCE; without it the layer keeps its own and
the miss counts (R532). -/
def State.mirrorLatch (s : State) (h l seq t : Nat) : State :=
  let r := (s.head h).layer l
  let own := (r.surf.bind (fun f => f.header)).map (fun hd => hd.tag.seq)
  if own = some seq || r.still then s
  else
    match (s.pool r.pool).surfs.find? (fun f => match f.header with | some hd => hd.tag.seq == seq | none => false) with
    | some f =>
      let let0 := match r.surf with
        | some o => s.modPool r.pool (fun p =>
            p.modAt o.addr (fun x => { x with pins := x.pins.erase h }))
        | none => s
      let s1 := (((let0.modPool r.pool (fun p => p.pinAt f.addr h)).collect r.pool).modLayer h l (fun r =>
        { (s.noteContent r f) with surf := some f, everFull := true })).predecimate h l t
      (s1.geometry h l).modHist h l (fun e => { (s1.histLayer h l) with ageUs := e.ageUs })
    | none => s.latchMiss h l

/-- LATCH_RECORD_RECEIVE: flip-time agreement over consecutive boundaries, then the mirrored latches of the current frame (R531, R532). -/
def execLatchRecordReceive (w : SeamWire) (h : Fin 24) (m : LatchRecord) (s : State) : Host.Outcome State Fault Refusal :=
  .next (s.seamIn w (fun s =>
    if s.onDuty || !s.running h then s
    else
      let x := s.head h
      let d : Int := (x.flip : Int) - m.flip
      let same := decide (x.gridK = m.k) && decide (d.natAbs ≤ 100)
      let run := if m.k = x.agreedK + 1 then min 60 (x.agreed + 1) else 1
      let s1 := (s.setHead h { x with agreed := if same then run else 0, agreedK := m.k }).setReg .PAIR_GRID_ERR h
        (BitVec.ofInt 32 (clampInt (-2147483648) 2147483647 d))
      let s2 := s1.setBit .PAIR_HEAD_STAT h 31 (s1.aligned h)
      if x.latchWait.isNone || x.gridK ≠ m.k then s2
      else m.seqs.foldl (fun (s : State) e => s.mirrorLatch h e.1 e.2 x.flip) (s2.modHead h (fun x => { x with latchWait := none }))))

/-- LATCH_WAIT_TIMEOUT: 10 µs after the boundary every layer keeps its own latch, and the miss counts (R532). -/
def execLatchWaitTimeout (h : Fin 24) (s : State) : Host.Outcome State Fault Refusal :=
  match (s.head h).latchWait with
  | some t =>
    if s.now < t + 10 * us then .next s
    else
      let s1 := (s.modHead h (fun x => { x with latchWait := none })).bumpSat .PAIR_LATCH_MISS h
      .next ((List.range 8).foldl (fun (s : State) l => if ((s.head h).shadow l).on then s.modLayer h l (fun r => { r with miss := true }) else s) s1)
  | none => .next s

/-- DECISION_RECORD_RECEIVE: the duty's glyph and CHECKS for a layer of the current frame; one that comes later than 1 line before
y_first is a miss (R143). -/
def execDecisionRecordReceive (w : SeamWire) (h : Fin 24) (l : Fin 8) (glyph checks frame : Nat) (s : State) : Host.Outcome State Fault Refusal :=
  .next (s.seamIn w (fun s =>
    if !s.isStandby || (s.head h).frame ≠ some frame then s
    else if s.decisionLate h l then s.pairMiss h l
    else (s.modLayer h l (fun r => { r with mirror := some (glyph, checks) })).settle h l))

/-- FRAME_CRC_RECEIVE: the duty's frame CRC is compared with this device's own (R534). -/
def execFrameCrcReceive (w : SeamWire) (h : Fin 24) (frame crc : Nat) (s : State) : Host.Outcome State Fault Refusal :=
  .next (s.seamIn w (fun s => if s.onDuty then s else s.noteCrc h frame crc false))

/-! ### Encoder records and key requests (R299, R300, R537) -/

/-- ENC_PICTURE_RECEIVE: take, status and key decisions of the duty for a channel's picture (R299). -/
def execEncPictureReceive (w : SeamWire) (c : Fin 16) (m : EncMirror) (s : State) : Host.Outcome State Fault Refusal :=
  .next (s.seamIn w (fun s => if s.isStandby then s.modChan c (fun x => { x with mirror := (m :: x.mirror).take 8 }) else s))

/-- ENC_ROW_RECEIVE: late flag, CRC and RTP numbers of a row of the duty's (R299). -/
def execEncRowReceive (w : SeamWire) (c : Fin 16) (m : EncRowMirror) (s : State) : Host.Outcome State Fault Refusal :=
  .next (s.seamIn w (fun s => if s.isStandby then s.modChan c (fun x =>
    { x with mirrorRows := (m :: x.mirrorRows.filter (fun (o : EncRowMirror) => o.pic != m.pic || o.row != m.row)).take 512
             mirrorSeq := if m.crc.isSome then (m.first + m.count + 65535) % 65536 else x.mirrorSeq }) else s))

/-- KEY_REQ_RECEIVE: a forwarded request, or a pair-requested key picture, reaches the duty's latch (R299, R300, R537). -/
def execKeyReqReceive (w : SeamWire) (mask cause type : Nat) (s : State) : Host.Outcome State Fault Refusal :=
  .next (s.seamIn w (fun s =>
    if !s.onDuty then s
    else if cause = 3 then (maskBits mask 16).foldl (fun (s : State) c => s.pairKey c) s
    else (s.keyRequests mask cause type).2))

/-! ### Give-up and handover (R527, R530) -/

/-- GIVE_UP_RECEIVE: the standby takes duty, whatever the cause (R527). -/
def execGiveUpReceive (w : SeamWire) (_cause : Nat) (s : State) : Host.Outcome State Fault Refusal :=
  .next (s.seamIn w (fun s => if s.mayTakeDuty then ({ s with pair := { s.pair with partnerOut := false } }).takeover 0 else s))

/-- HANDOVER_RECEIVE: the standby acknowledges and prepares to assert DUTY_OUT at boundary k (R530). -/
def execHandoverReceive (w : SeamWire) (k : Nat) (s : State) : Host.Outcome State Fault Refusal :=
  .next (s.seamIn w (fun s => if s.isStandby then ({ s with pair := { s.pair with handover := some k } }).seam .handoverAck (leBytes 6 k) else s))

/-- HANDOVER_ACK_RECEIVE: the duty notes the acknowledgement (R530). -/
def execHandoverAckReceive (w : SeamWire) (k : Nat) (s : State) : Host.Outcome State Fault Refusal :=
  .next (s.seamIn w (fun s => if s.onDuty && s.pair.handover == some k then { s with pair := { s.pair with acked := true } } else s))

/-! ### The snapshot (R539) -/

/-- Bytes of the snapshot that the duty sends. -/
def State.snapshotBytes (s : State) : List Byte :=
  ((List.range 24).map (fun h => leBytes 6 ((s.head h).frame.getD 0))).flatten
    ++ ((List.range 192).map (fun k =>
      let r := (s.head (k / 8)).layer (k % 8)
      leBytes 4 ((r.seq.map (·.1)).getD 0) ++ timeBytes r.tSeq ++ timeBytes r.tCrc)).flatten
    ++ ((List.range 16).map (fun c => leBytes 6 (s.chan c).pic ++ mirrorBytes c (s.chan c).told)).flatten

/-- SNAPSHOT_REQUEST_RECEIVE: the duty checks the standby's profile CRC and sends its snapshot (R539). -/
def execSnapshotRequestReceive (w : SeamWire) (s : State) : Host.Outcome State Fault Refusal :=
  .next (s.seamIn w (fun s =>
    if !s.onDuty then s else if s.pair.partnerCrc ≠ s.profileCrc then s.profileDiff else s.seam .snapshot s.snapshotBytes))

/-- The snapshot is applied: frame counters from the next boundary, check state, picture counters; every channel starts
SUPPRESSED and asks for a key picture (R300, R539). -/
def State.applySnapshot (s : State) (m : Snapshot) : State :=
  let s1 := m.frames.foldl (fun (s : State) e => s.modHead e.1 (fun x => { x with adopt := some ((e.2 + 1) % 2 ^ 48) })) s
  let s2 := m.layers.foldl (fun (s : State) e =>
    s.modLayer (e.1 / 8) (e.1 % 8) (fun r => { r with seq := some (e.2.1, (r.seq.map (·.2)).getD 0), tSeq := e.2.2.1, tCrc := e.2.2.2 })) s1
  let s3 := m.chans.foldl (fun (s : State) e => if (s.chan e.1).bound then s.modChan e.1 (fun x => { x with pic := e.2.1, mirror := (e.2.2 :: x.mirror).take 8 }) else s) s2
  let live := (List.range 16).filter (fun c => (s3.chan c).bound)
  let s4 := live.foldl (fun (s : State) c => if s.chanState c = 3 then s else s.setChanState c 3 2) s3
  let s5 := if live.isEmpty then s4 else s4.forwardKey (bitsMask live) 3 0
  ({ s5 with pair := { s5.pair with snapFails := 0 } }).setPairState 2 5

/-- SNAPSHOT_RECEIVE: a good snapshot takes a device in SYNCING to STANDBY; one that fails its CRC is requested again, and the
third failure is recorded (R539). -/
def execSnapshotReceive (w : SeamWire) (m : Snapshot) (s : State) : Host.Outcome State Fault Refusal :=
  if w.ok0 || w.ok1 then .next (s.seamIn w (fun s => if s.pairState = 1 then s.applySnapshot m else s))
  else
    let s1 := s.seamIn w id
    if s1.pairState ≠ 1 || !s1.paired then .next s1
    else
      let n := s1.pair.snapFails + 1
      let s2 := { s1 with pair := { s1.pair with snapFails := n } }
      .next (if n < 3 then s2.askSnapshot else if n = 3 then s2.fault 40 fcSNAPSHOT 0 0xFFFF [] else s2)

/-- SNAPSHOT_RETRY: after three failures the snapshot is requested once per second (R539). -/
def execSnapshotRetry (s : State) : Host.Outcome State Fault Refusal :=
  let due := match s.pair.snapAt with | some t => decide (t + sec ≤ s.now) | none => true
  if s.pairState = 1 && s.paired && decide (3 ≤ s.pair.snapFails) && due then .next s.askSnapshot else .next s

/-! ### Commands of group 0x78 -/

/-- PAIR_CONFIG 0x7801: pairing, key hold-off and the audio mask (R523, R533, R537, R538). -/
def execPairConfig (r : Req) (b : Body) (s : State) : Host.Outcome State Fault Refusal :=
  let on := b.u8 0 == 1
  let short := fun (h : Nat) => let t := s.rasterOf h; !t.isEmpty && tFlag t 0 && decide (((tVnom t : ℚ) - 1) * tTl t < 20000)
  command 0x7801 r s [47] (b.length != 20 || decide (1 < b.u8 0) || b.u8 1 != 0 || decide (60000 < b.u16 2) || (!on && decide (1 < s.pairState)))
    { rej := if on && (List.range 24).any short then some rFORMAT else none }
    (fun s =>
      let s1 := (s.setBit .PAIR_CFG 0 31 on).setBits .PAIR_CFG 0 15 0 (b.u16 2)
      let s2 := (List.range 4).foldl (fun (s : State) k => s.setReg .PAIR_AUD_MASK k (BitVec.ofNat 32 (b.u32 (4 + 4 * k)))) s1
      done (if on && s2.pairState == 0 then
          let s3 := (s2.endPrbsOf [64, 65]).setDutyOut false
          ({ s3 with pair := { s3.pair with conflict := false, partnerOut := false } }).setPairState 1 0
        else if !on && s2.pairState == 1 then
          let s3 := s2.setPairState 0 0
          if s3.pair.taken && !s3.regBit .FLT_STATUS 0 28 then s3.setDutyOut true else s3
        else s2))

/-- NOPARTNER (PAIR_SWITCH). -/
def rNOPARTNER : Nat := 0x0181
/-- ONDUTY (PAIR_DRILL). -/
def rONDUTY : Nat := 0x0180

/-- PAIR_SWITCH 0x7802: hands duty over at a boundary two ahead of the fastest head, or gives it up (R526, R530). Without a
partner or a running head there is no boundary to hand over at. -/
def execPairSwitch (r : Req) (b : Body) (s : State) : Host.Outcome State Fault Refusal :=
  let rs := s.isRestarted
  let mode := b.u8 0
  command 0x7802 r s [47] (b.length != 4 || decide (1 < mode) || !b.zero 1 3)
    { notDuty := !s.onDuty, rej := if mode = 0 && (!s.paired || !s.seamUp || s.fastest.isNone) then some rNOPARTNER else none }
    (fun s =>
      if mode = 1 then
        let t := s.ptp
        .now (s.giveUp 2) .OK (timeBytes t)
      else
        let k := match s.pair.handover with | some k => k | none => ((s.fastest.map (fun h => (s.head h).gridK)).getD 0) + 2
        let w : Waiter := { req := r, opcode := 0x7802, restarted := rs }
        let s1 := { s with pair := { s.pair with switchReqs := s.pair.switchReqs ++ [w], handover := some k, acked := s.pair.handover.isSome && s.pair.acked } }
        .later (if s.pair.handover.isSome then s1 else s1.seam .handover (leBytes 6 k)))

/-- PAIR_DRILL 0x7803: the hold and hatch drill on the physical heads of a mask (R542). -/
def execPairDrill (r : Req) (b : Body) (s : State) : Host.Outcome State Fault Refusal :=
  let rs := s.isRestarted
  let m := b.le 0 3
  let hs := maskBits m 24
  command 0x7803 r s (47 :: hs.map scopeHead)
    (b.length != 8 || m == 0 || b.u8 3 != 0 || b.u8 4 == 0 || decide (60 < b.u8 4) || b.u8 5 == 0 || decide (60 < b.u8 5) || !b.zero 6 2)
    { rej := if s.isStandby then none else some rONDUTY }
    (fun s =>
      let live := hs.filter (fun h => s.running h && !s.gangMember h && !s.isVirtual h)
      let w : Waiter := { req := r, opcode := 0x7803, restarted := rs, heads := live }
      if live.isEmpty then .now (s.event 0x7807 (leBytes 6 0)) .OK (leBytes 6 0)
      else if s.pair.drill.isSome then .later { s with pair := { s.pair with drillNext := s.pair.drillNext ++ [(w, b.u8 4, b.u8 5)] } }
      else .later (s.startDrill w (b.u8 4) (b.u8 5)))

end Sys2Proof.Machine
end

