-- ==== Sys2Proof/Machine/Profiles.lean ====
section
/-! DEFINITION. Profiles (R82 to R92): images and their sections, PRF_LOAD with its validation, selections by command, pins
and event inputs, and the commands EVENT_MASK, PRF_SELECT, PRF_PIN_MODE and PRF_STATUS. -/

namespace Sys2Proof.Machine

/-! ### Images (R83) -/

/-- The sections of an image from an offset, with their offsets; `none` at the end marks an image that breaks off in a header or
a body there. -/
def parseSections (img : Body) : Nat → Nat → List (Nat × Option Section)
  | 0, _ => []
  | fuel + 1, off =>
    let h : Body := img.drop off
    let len := Body.u32 h 4
    if h.isEmpty then []
    else if h.length < 8 ∨ len % 4 ≠ 0 ∨ h.length < 8 + len then [(off, none)]
    else (off, some ⟨Body.u16 h 0, Body.u16 h 2, (h.drop 8).take len⟩) :: parseSections img fuel (off + 8 + len)

/-- The head that a section configures (R82, R86). -/
def Section.head (e : Section) : Option Nat :=
  if [0x1003, 0x4001, 0x4002, 0x4003, 0x4004, 0x4801].contains e.opcode then some (e.body.u8 0)
  else if e.opcode = 0x4802 ∧ e.body.u8 0 ≠ 3 then some (oHead e.body)
  else none

/-- Sections of one head. -/
def headSections (l : List Section) (h : Nat) : List Section := l.filter (fun e => e.head == some h)
/-- Heads that a profile configures. -/
def profileHeads (l : List Section) : List Nat := (List.range 24).filter (fun h => l.any (fun e => e.head == some h))
/-- Last body of an opcode and instance in a list of sections. -/
def lastBody (l : List Section) (op inst : Nat) : Option Body := ((l.filter (fun e => e.opcode == op && e.inst == inst)).getLast?).map (·.body)

/-- Bindings of an opcode as the whole image leaves them: instance and body, those with their BIND byte 1. -/
def finalOf (l : List Section) (op bindAt : Nat) : List (Nat × Body) :=
  (((l.filter (fun e => e.opcode == op)).map (fun e => e.inst)).dedup).filterMap (fun i =>
    match lastBody l op i with
    | some b => if b.u8 bindAt = 1 then some (i, b) else none
    | none => none)

/-- Channels that a profile configures. -/
def profileChans (l : List Section) : List (Nat × Body) := finalOf l 0x3801 1

/-- The configuration that a whole image produces (R83, R85); a head without a style section keeps the style in force (R82). -/
def State.profileConf (s : State) (l : List Section) : Conf :=
  { ing := finalOf l 0x2002 28, cam := finalOf l 0x2802 1, dec := finalOf l 0x3001 2, enc := profileChans l
    tx := ((l.filter (fun e => e.opcode == 0x5804)).map (fun e => e.inst)).dedup.filterMap (fun i =>
      (lastBody l 0x5804 i).filter (fun b => (b.u8 1).testBit 0))
    heads := (List.range 24).map (fun h =>
      let es := headSections l h
      (h, if es.isEmpty then {} else es.foldl HeadSet.edit { style := (s.head h).set.style }))
    outs := editOuts [] l }

/-! ### The validation of sections (R13, R83) -/

/-- A blank device on which the sections of an image are checked one after the other, as the commands would be (R83). -/
def State.blank (s : State) : State :=
  { s with pools := s.pools.filter (fun e => e.2.cls == 1), ing := { s.ing with ctx := [] }, cam := { s.cam with ctx := [] }, dec := []
           enc := {}, hd := { (default : Heads) with sinks := s.hd.sinks }, aud := {}, prof := {} }

/-- Notes a source ID on the blank device (R170). -/
def State.noteSource (s : State) (k src : Nat) : State := s.setPool k { (default : Pool) with bound := true, sourceId := src, surfs := [default] }

/-- A section takes effect on the blank device. -/
def State.tryPut (s : State) (e : Section) : State :=
  let b := e.body
  match e.opcode with
  | 0x2002 =>
    let on := b.u8 28 == 1
    let s1 : State := { s with ing := { s.ing with ctx := Tbl.set s.ing.ctx (b.u16 0) (if on then { bound := true, cfg := b } else default) } }
    if on && iPooled b then s1.noteSource (poolIng (b.u16 0)) (iSource b) else s1.setPool (poolIng (b.u16 0)) default
  | 0x2802 =>
    let c := b.u8 0
    let on := b.u8 1 == 1
    let s1 : State := { s with cam := { s.cam with ctx := Tbl.set s.cam.ctx c (if on then { bound := true, cfg := b } else default) } }
    let s2 := if on then s1.noteSource (poolCam c) (cSource b) else s1.setPool (poolCam c) default
    if on && b.u8 6 != 0 then s2.noteSource (poolIr c) (b.u16 10) else s2.setPool (poolIr c) default
  | 0x3001 =>
    let n := b.u16 0
    let on := b.u8 2 == 1
    let s1 := s.modSess n (fun _ => if on then { (default : DecSession) with bound := true, cfg := b } else default)
    if on then s1.noteSource (poolDec n) (b.u16 4) else s1.setPool (poolDec n) default
  | 0x3801 =>
    { s with enc := { s.enc with chan := Tbl.set s.enc.chan (b.u8 0) (if b.u8 1 = 1 then { (default : EncChan) with bound := true, cfg := b } else default) } }
  | 0x4802 => { s with hd := { s.hd with outs := editOuts s.hd.outs [e] } }
  | 0x5801 => s.applyTdm b
  | 0x5802 => s.applyAes3 b
  | 0x5803 => s.applyRx b
  | 0x5804 => s.applyTx b
  | _ =>
    match e.head with
    | some h => s.modHead h (fun x => { x with set := x.set.edit e })
    | none => s

/-- BADPARAM of a section's body, by its command's own rules; the inline tables of R342 belong to the body. An object that does not
exist has no instance number (R83), so it counts here. -/
def bodyBad (s : State) (e : Section) : Bool :=
  let b := e.body
  match e.opcode with
  | 0x1003 => styleBad s b
  | 0x2002 => ingBad s b
  | 0x2802 => decide (15 < b.u8 0) || camBad s b
  | 0x2803 => camParamsBad s b
  | 0x3001 => decide (127 < b.u16 0) || decBad s b
  | 0x3801 => decide (15 < b.u8 0) || chanBad s b
  | 0x4001 => lyConfigBad s b
  | 0x4002 => lyPaletteBad s b
  | 0x4003 => b.length != 48 + 6144 * lutsOf (b.u8 3) || !b.zero 40 8 || lyColourBad s (b.take 48) (b.drop 48)
  | 0x4004 => b.length != 24 + 6144 * bit01 ((b.u8 1).testBit 0) || !b.zero 16 8 || hdComposeBad s (b.take 24) (b.drop 24)
  | 0x4801 => timingBad s b
  | 0x4802 => s.outputNone b || outputBad s b
  | 0x5801 => tdmBad b
  | 0x5802 => aesBad b
  | 0x5803 =>
    let c := Tbl.get s.ing.ctx (b.u16 4)
    streamBad b || b.u8 3 != 0 ||
      ((b.u8 1).testBit 0 && (decide (b.u16 6 < 125) || decide (20000 < b.u16 6) || decide (1023 < b.u16 4) || !c.bound || c.cfg.u8 2 != 2))
  | 0x5804 => streamBad b || b.u16 4 != 0 || ((b.u8 1).testBit 0 && (decide (15 < b.u8 3) || !s.macOnBoard (b.u8 3) || decide (63 < b.u8 34) || b.u8 35 == 0))
  | 0x5810 => routeBad b
  | 0x6003 => tchMapBad b
  | _ => true

/-- FORMAT of a section on its own, beside what the whole configuration's check finds. -/
def bodyFormat (s : State) (e : Section) : Bool :=
  let b := e.body
  match e.opcode with
  | 0x2802 => b.u8 1 == 1 && !([0x2A, 0x2B, 0x2C].contains (b.u8 4))
  | 0x3001 => b.u8 2 == 1 && decFormat b
  | 0x3801 => b.u8 1 == 1 && s.chanFormat b
  | 0x5803 | 0x5804 => (b.u8 1).testBit 0 && decide (1440 < txPayload b)
  | _ => false

/-- Checks the sections in order on the blank device: the offset of the first that breaks a rule of R83, or the blank device
with all of them in effect. -/
def checkSections : List (Nat × Option Section) → State → Nat ⊕ State
  | [], s => .inr s
  | (off, none) :: _, _ => .inl off
  | (off, some e) :: rest, s =>
    if e.inst ≠ instOf e.opcode e.body ∨ bodyBad s e then .inl off else checkSections rest (s.tryPut e)

/-- The routes that a list of AUD_ROUTE sections leaves: input and channel by output channel; a later one replaces an earlier. -/
def finalRoutes (l : List Section) : Tbl (Option (Nat × Nat)) :=
  (l.filter (fun e => e.opcode == 0x5810)).foldl (fun t e =>
    (List.range (e.body.u16 0)).foldl (fun t k => Tbl.set t (audKey (e.body.u16 (4 + 8 * k)) (e.body.u8 (6 + 8 * k))) (routeTarget e.body k)) t) []

/-- FORMAT of a binding or of a route in the configuration that the whole image leaves on the blank device (R83, R85, R416). -/
def finalFormat (s : State) (l : List Section) : Bool :=
  l.any (fun e => e.opcode != 0x5810 && lastBody l e.opcode e.inst == some e.body && bodyFormat s e)
    || (finalRoutes l).any (fun e => match e.2 with | some x => s.ainRated x.1 && s.aoutRated (e.1 / 64) && s.ain96 x.1 != s.aout96 (e.1 / 64) | none => false)

/-! ### PRF_LOAD (R85, R91) -/

/-- Reply body of PRF_LOAD. -/
def loadBody (s : State) (c : Conf) (sec : Nat) : List Byte :=
  let p := fullestPool c.heads
  leBytes 4 (c.demandUnits s) ++ leBytes 1 c.need.1 ++ leBytes 1 c.need.2 ++ leBytes 1 p.1 ++ leBytes 1 0 ++ leBytes 4 p.2 ++ leBytes 4 sec

/-- Reply body of a load that found no configuration. -/
def loadFailed (sec : Nat) : List Byte := leBytes 12 0 ++ leBytes 4 sec

/-- A loaded image: the slot is VALID, or INVALID with its reject reason (R84, R85). -/
def State.putSlot (s : State) (n len reason : Nat) (l : List Section) (ok : Bool) : State :=
  (s.setSlot n { sections := l, len := len, reason := reason }).setSlotState n (if ok then 1 else 2)

/-- The load of an image whose check value is right. -/
def State.loadImage (s : State) (n len : Nat) (img : Body) : Answer :=
  let secs := parseSections img (len / 8 + 1) 0
  let l := secs.filterMap (·.2)
  match checkSections secs s.blank with
  | .inl off => .refuse (s.putSlot n len 0 l false) .BADPARAM 0 (loadFailed off)
  | .inr z =>
    let c := s.profileConf l
    match (if finalFormat z l then some rFORMAT else c.reject s) with
    | some x => .refuse (s.putSlot n len x l false) .REJECTED x (loadBody s c 0xFFFFFFFF)
    | none => .now (s.putSlot n len 0 l true) .OK (loadBody s c 0xFFFFFFFF)

/-- PRF_LOAD 0x0301: reads, checks and stores a profile image; a slot that is ACTIVE or PENDING is LOCKED (R83, R85, R91). A load
that may not run at all keeps to the order of R20: a wrong check value or a bad section stands ahead of that refusal. -/
def execPrfLoad (r : Req) (b : Body) (image : List Byte) (s : State) : Host.Outcome State Fault Refusal :=
  let n := b.u8 0
  let len := b.u32 12
  let img := takePad len image
  let badBody := b.length != 20 || decide (3 < n) || !b.zero 1 3 || len % 4 != 0 || decide (4194304 < len)
  let locked := s.slotState n == 3 || s.slotState n == 4
  let barred := s.notReady 0x0301 || !scopesOk (s.heldAt r 0x0301) [1 + n] || locked
  let crcBad := b.length == 20 && crc32c img != BitVec.ofNat 32 (b.u32 16)
  let secBad := match checkSections (parseSections img (len / 8 + 1) 0) s.blank with | .inl _ => true | .inr _ => false
  command 0x0301 r s [1 + n] (badBody || (barred && secBad)) { locked := locked, checkFail := (badBody || barred) && crcBad, rbody := [] }
    (fun s => if crcBad then .refuse (s.putSlot n len 0 [] false) .CHECKFAIL 0 (loadFailed 0xFFFFFFFF) else s.loadImage n len img)

/-! ### Selections (R86 to R90) -/

/-- The profile needs more engines than are healthy beside the present reserve: engines have failed, or CF_RESERVE was raised, since
the load (R85, R230). -/
def State.enginesLack (s : State) (n : Nat) : Bool := (s.profileConf (s.slot n).sections).enginesOver s

/-- May a slot be named by a selection: VALID, or ACTIVE or PENDING under R88. -/
def State.selectable (s : State) (n : Nat) : Bool :=
  decide (n < 4) && (s.slotState n == 1 || s.slotState n == 3 || s.slotState n == 4) && (s.slot n).reason == 0

/-- A head has something to stop when the new profile leaves it out. -/
def State.headLive (s : State) (h : Nat) : Bool :=
  let x := s.head h
  s.running h || !x.set.layers.isEmpty || !x.set.timing.isEmpty || x.armed.isSome || !(s.outsOf h).isEmpty

/-- Heads and channels that a selection changes. -/
def State.changedBy (s : State) (n : Nat) : List Nat × List Nat :=
  if s.slotState n = 3 ∨ (s.slotState n = 4 ∧ s.pendingSlot.isNone) then ([], [])
  else
    let l := (s.slot n).sections
    ((List.range 24).filter (fun h => (profileHeads l).contains h || s.headLive h),
     (List.range 16).filter (fun c => (profileChans l).any (fun e => e.1 == c) || (s.chan c).bound))

/-- The commands that wait for a superseded selection are answered (R87); its slot is VALID again, or ACTIVE. -/
def State.supersede (s : State) (n : Nat) : State :=
  match s.pendingSlot with
  | none => s
  | some m =>
    if m = n then s
    else
      let s1 : State := s.setSlotState m (if s.activeSlot = some m then 4 else 1)
      (s1.interp.waiters.filter (fun w => w.opcode == 0x0302 && w.slot == some m)).foldl (fun (s : State) (w : Waiter) =>
        s.stepWaiter w.id (fun w => { w.ofSwitch s.prof with heads := [], chans := [], superseded := true })) s1

/-- Arms of a superseded profile are taken back: their heads take the new one instead (R87). -/
def State.dropHeadArms (s : State) (h : Nat) : State :=
  s.modHead h (fun x =>
    let rest := x.second.filter (fun a => a.slot.isNone)
    match x.armed with
    | some a => if a.slot.isSome then { x with armed := none, second := rest } else { x with second := rest }
    | none => { x with second := rest })
/-- The same for a channel; the buffers allocated for them are free again. -/
def State.dropChanArms (s : State) (c : Nat) : State :=
  let y := s.chan c
  (s.releaseAll (((y.next.toList ++ y.second).filter (fun a => a.slot.isSome)).map (fun a => a.bufs)).flatten).modChan c (fun x =>
    let rest := x.second.filter (fun a => a.slot.isNone)
    match x.next with
    | some a => if a.slot.isSome then { x with next := none, second := rest } else { x with second := rest }
    | none => { x with second := rest })

/-- Source bindings that the profile does not name end (R82, R164). -/
def State.unbindOthers (s : State) (l : List Section) : State :=
  let named := fun (op i : Nat) => l.any (fun e => e.opcode == op && e.inst == i)
  let s1 : State := (s.ing.ctx.filter (fun e => e.2.bound && !named 0x2002 e.1)).foldl (fun (s : State) e =>
    (s.unstage (poolIng e.1)).bindIng ((e.2.cfg.take 28) ++ leBytes 4 0) true) s
  let s2 : State := (s1.cam.ctx.filter (fun e => e.2.bound && !named 0x2802 e.1)).foldl (fun (s : State) e => s.bindCam (e.2.cfg.set 1 0#8) true) s1
  (s2.dec.filter (fun e => e.2.bound && !named 0x3001 e.1)).foldl (fun (s : State) e => (s.unstage (poolDec e.1)).bindDec (e.2.cfg.set 2 0#8) true) s2

/-- A binding section is staged and armed; where DRAM has no room for its pool the binding stays as it is. -/
def State.putBinding (s : State) (staged : Option State) (arm : State → State) : State :=
  match staged with
  | some s1 => arm s1
  | none => s

/-- A channel that will take the profile, or be stopped by it, at its boundary (R86). -/
def State.chanSwitches (s : State) (l : List Section) (c : Nat) : Bool := (profileChans l).any (fun e => e.1 == c) || (s.chan c).bound

/-- A section that no head and no channel takes: it takes effect at the selection (R83, R433). -/
def State.putSection (s : State) (l : List Section) (e : Section) : State :=
  let b := e.body
  match e.opcode with
  | 0x2002 => s.putBinding (s.stageIng b) (fun s => s.bindIng b true)
  | 0x2802 => s.putBinding (s.stageCam b) (fun s => s.bindCam b true)
  | 0x2803 => s.armParams (b.u8 0) { req := default, body := b, quiet := true }
  | 0x3001 => s.putBinding (s.stageDec b) (fun s => s.bindDec b true)
  | 0x5801 => (s.powerUp 38).applyTdm b
  | 0x5802 => (s.powerUp 38).applyAes3 b
  | 0x5803 => (s.powerUp 38).applyRx b
  | 0x5804 => ((if (b.u8 1).testBit 0 && decide (8 ≤ b.u8 3) then s.powerUp 20 else s).powerUp 38).applyTx b
  | 0x5810 => s.applyRoutes b none
  | 0x6003 => s.applyTchMap b true
  | 0x4802 =>
    if b.u8 0 = 3 then
      let s1 := s.powerUpAll (s.islandsOfOut b)
      if s.chanSwitches l (b.u8 1) then s1 else s1.takeOut b
    else s
  | _ => s

/-- Output channels that the profile's AUD_ROUTE sections name. -/
def routedKeys (l : List Section) : List Nat :=
  ((l.filter (fun e => e.opcode == 0x5810)).map (fun e =>
    (List.range (e.body.u16 0)).map (fun k => audKey (e.body.u16 (4 + 8 * k)) (e.body.u8 (6 + 8 * k))))).flatten

/-- Routes that the profile does not contain stop (R433), with the ramp timeout's reset value of 5,000 µs. -/
def State.stopRoutes (s : State) (l : List Section) : State :=
  let keep := routedKeys l
  (s.aud.outs.filter (fun e => !keep.contains e.1 && (e.2.src.isSome || e.2.stage != 0))).foldl (fun (s : State) e => s.changeRoute e.1 none 5000 none) s

/-- Encoded-stream flows that the profile does not bind end, where no channel carries them to its boundary. -/
def State.stopFlowsNot (s : State) (l : List Section) : State :=
  (s.hd.outs.filter (fun o => o.2.u8 0 == 3 && !s.chanSwitches l (o.1 % 256) && !l.any (fun e => e.opcode == 0x4802 && e.inst == o.1))).foldl (fun (s : State) o => s.takeOut (o.2.set 2 0#8)) s

/-- A give-up ends at the next selection (R434, R526). -/
def State.endGiveUp (s : State) : State :=
  let s1 := s.setBit .AUD_STATUS 0 30 false
  if s1.pairState = 4 ∧ !s1.regBit .FLT_STATUS 0 28 then (s1.setPairState (if s1.paired then 1 else 0) 0).setBit .HD_OUT_STATUS 0 31 false
  else s1

/-- Arms the profile for one head: its sections, or nothing for a head that the profile does not configure, which stops at its
next boundary (R86). -/
def State.armProfile (s : State) (l : List Section) (n since : Nat) (h : Nat) : State :=
  let es := headSections l h
  let s1 := s.dropHeadArms h
  if es.isEmpty && !s.headLive h then s1
  else
    let outs := (es.filter (fun e => e.opcode == 0x4802)).flatMap (fun e => s1.islandsOfOut e.body)
    let s2 := if es.isEmpty then s1 else (s1.discardHeld h 3).powerUpAll (islandsOfHead h ++ outs)
    s2.armHead h { fresh := true, edits := es, slot := some n, since := since }

/-- Arms the profile for one channel (R86); a channel whose buffers find no room in DRAM keeps what it has (log 148). -/
def State.chanProfile (s : State) (l : List Section) (n c : Nat) : State :=
  let s1 := s.dropChanArms c
  match (profileChans l).find? (fun e => e.1 == c) with
  | some (_, b) =>
    match s1.stageChan c b with
    | some (bufs, s2) => s2.armChan c { body := b, slot := some n, bufs := bufs }
    | none => s1.profileKept n (32 + c) false
  | none => if (s1.chan c).bound then s1.armChan c { body := (s1.chan c).cfg.set 1 0#8, slot := some n } else s1

/-- A selection of slot n that is neither a join nor a repeat (R86 to R88): source 0 command, 1 PSEL, 2 event input. -/
def State.selectSlot (s : State) (n src arg since : Nat) : State :=
  let l := (s.slot n).sections
  let hs := profileHeads l
  let cs := (profileChans l).map (·.1)
  let s1 := (((s.supersede n).setSlotState n 3).setBits .PRF_STATE 0 3 2 n).endGiveUp
  let s2 : State := { s1 with prof := { s1.prof with headsLeft := hs, chansLeft := cs, takenH := 0, lateH := 0, takenC := 0, first := none
                                                     last := 0, refused := false, src := src, srcArg := arg } }
  let s3 := l.foldl (fun (s : State) e => s.putSection l e) (((s2.unbindOthers l).stopRoutes l).stopFlowsNot l)
  let s4 : State := (List.range 16).foldl (fun (s : State) c => s.chanProfile l n c) s3
  let s5 : State := ((List.range 24).foldl (fun (s : State) h => s.armProfile l n since h) s4).allocate
  if hs.isEmpty && cs.isEmpty then s5.profileDone n else s5

/-- Place of a source in the order of R89: PSEL 0, event inputs 1 to 8, PRF_SELECT 9. -/
def selRank (src arg : Nat) : Nat := if src = 1 then 0 else if src = 2 then 1 + arg else 9

/-- A selection of the same cycle that R89 applies later stands already: this one comes before it and is not kept (DEDUCED, log 149). -/
def State.selOutranked (s : State) (rank : Nat) : Bool :=
  match s.prof.lastSel with
  | some (t, q) => decide (t = s.now) && decide (rank < q)
  | none => false

/-- Notes the newest selection (R89). -/
def State.noteSel (s : State) (rank : Nat) : State := { s with prof := { s.prof with lastSel := some (s.now, rank) } }

/-- A selection by a pin or an event input: the ACTIVE slot with no switch open, and the PENDING one, change nothing (R88, R90); a
slot whose engines R85 finds short is refused, the ACTIVE or PENDING one too (DESIGN CHOICE, log 53). -/
def State.selectFree (s : State) (n src arg : Nat) : State :=
  if !s.selectable n || s.selOutranked (selRank src arg) || s.enginesLack n then s
  else if s.slotState n = 3 || (s.slotState n = 4 && s.pendingSlot.isNone) then s.noteSel (selRank src arg)
  else (s.noteSel (selRank src arg)).selectSlot n src arg s.now

/-- The other port holds the scope of a head or channel that the selection changes (PRF_SELECT). -/
def State.selectDenied (s : State) (p : Port) (n : Nat) : Bool :=
  let ch := s.changedBy n
  ch.1.any (fun h => s.holds p.other (scopeHead h)) || ch.2.any (fun c => s.holds p.other (scopeChan c))

/-- PRF_SELECT 0x0302: selects a profile; the reply follows the last take (R86 to R88). The engine check of R85 stands before the
repeat and the join of R88 (DESIGN CHOICE, log 53). -/
def execPrfSelect (r : Req) (b : Body) (s : State) : Host.Outcome State Fault Refusal :=
  let n := b.u8 0
  let f := s.fetchOf r 0x0302
  let rs := s.isRestarted
  command 0x0302 r s [1 + n] (b.length != 4 || !b.zero 1 3 || !s.selectable n)
    { denied := s.selectDenied r.port n, rej := if s.enginesLack n then some rENGINES else none }
    (fun s0 =>
      let s := s0.noteSel 9
      if s.slotState n = 4 ∧ s.pendingSlot.isNone then .now s .OK (leBytes 32 0)
      else
        let (_, s1) := s.newWaiter { req := r, opcode := 0x0302, restarted := rs, heads := [24], slot := some n }
        .later (if s.slotState n = 3 then s1 else s1.selectSlot n 0 r.port.idx f))

/-- PRF_PIN_MODE 0x0303 (R90). -/
def execPrfPinMode (r : Req) (b : Body) (s : State) : Host.Outcome State Fault Refusal :=
  command 0x0303 r s [0] (b.length != 4 || decide (1 < b.u8 0) || !b.zero 1 3) {} (fun s => done (s.setBit .PRF_STATE 0 7 (b.u8 0 == 1)))

/-- PRF_STATUS 0x0304. -/
def execPrfStatus (r : Req) (b : Body) (s : State) : Host.Outcome State Fault Refusal :=
  command 0x0304 r s [] (b.length != 0) {} (fun s =>
    let slot := fun (n : Nat) => s.slot n
    .now s .OK (leBytes 4 s.prfState.toNat
      ++ ((List.range 4).map (fun n => leBytes 2 (if s.slotState n = 2 then (slot n).reason else 0))).flatten
      ++ ((List.range 4).map (fun n => leBytes 2 (if s.slotState n = 0 then 0 else ceilDiv (slot n).len 1024))).flatten))

/-- EVENT_MASK 0x0201: the event groups that the issuing port receives (R67). -/
def execEventMask (r : Req) (b : Body) (s : State) : Host.Outcome State Fault Refusal :=
  command 0x0201 r s [] (b.length != 32) {} (fun s => done (s.modPort r.port (fun h => { h with blockMask := 2 ^ 256 - 1 - b.le 0 32 })))

/-- PSEL_STABLE: PSEL has kept a level for 10 ms; in pin mode a change selects the profile of that number, and a slot that is not
VALID raises PRF_PIN_INVALID (R90). No level counts before 10 ms after the release of PORST_N (R99). -/
def execPselStable (v : Fin 4) (s : State) : Host.Outcome State Fault Refusal :=
  let old := s.regBits .PRF_STATE 0 5 4
  let s1 := s.setBits .PRF_STATE 0 5 4 v
  if s.pwr.porst ∨ s.now < s.pwr.released + 10 * ms then .next s
  else if old = v.val ∨ !s.regBit .PRF_STATE 0 7 then .next s1
  else if s1.selectable v then .next (s1.selectFree v 1 0)
  else .next (s1.event 0x0302 [BitVec.ofNat 8 v, BitVec.ofNat 8 (s1.slotState v)])

end Sys2Proof.Machine
end

