-- ==== Sys2Proof/Machine/EventIn.lean ====
section
/-! DEFINITION. The event inputs EVIN[7:0] (R93 to R95): accepted changes, actions and the rates they follow, stuck inputs, and
EVI_CONFIG. -/

namespace Sys2Proof.Machine

/-- An event input. -/
def State.evi (s : State) (n : Nat) : EvIn := Tbl.get s.evin n
/-- Changes an event input. -/
def State.modEvi (s : State) (n : Nat) (f : EvIn → EvIn) : State := { s with evin := Tbl.modify s.evin n f }

/-- Coalesced activations are counted; EVIN_OVERRUN at most once per second per input (R95). -/
def State.evinOverrun (s : State) (n k : Nat) : State :=
  if k = 0 then s
  else
    let s1 := s.addSat .EVI_OVR n k
    let due := match (s.evi n).lastOverrun with | some t => decide (t + sec ≤ s.now) | none => true
    if due then
      (s1.modEvi n (fun x => { x with lastOverrun := some s.now })).event 0x0313
        ([BitVec.ofNat 8 n, 0#8, 0#8, 0#8] ++ leBytes 4 (s1.getReg .EVI_OVR n).toNat)
    else s1

/-- A PROFILE_SELECT that may follow now: the next one 10 ms later (R95). -/
def State.evinSelect (s : State) (n : Nat) : State :=
  (s.modEvi n (fun x => { x with lastAction := some s.now, pendingAct := false })).selectFree (s.regBits .EVI_ARG n 15 0) 2 n

/-- The action of an accepted activation (R95): whether it fired, and its effect. `edge`: the 1 ms since the last EVIN_EDGE are
over. -/
def State.evinAct (s : State) (n : Nat) (edge : Bool) : Bool × State :=
  match s.regBits .EVI_CFG n 27 24 with
  | 0 => (edge, if edge then s else s.evinOverrun n 1)
  | 1 =>
    let m := s.regBits .EVI_ARG n 15 0
    let (co, s1) := s.keyRequests m 1 0
    (co != m || m == 0, s1.evinOverrun n (maskBits co 16).length)
  | 2 =>
    match (s.evi n).lastAction with
    | some t =>
      if t + 10 * ms ≤ s.now then (true, s.evinSelect n)
      else (false, (s.modEvi n (fun x => { x with pendingAct := true })).evinOverrun n 1)
    | none => (true, s.evinSelect n)
  | _ => if s.onDuty then (true, s.giveUp 1) else (false, s.evinOverrun n 1)

/-- A change to the active level at PTP time t of its first sample (R94, R95). -/
def State.evinActive (s : State) (n held t : Nat) : State :=
  let at0 := s.now - held
  let edge := match (s.evi n).lastEdge with | some e => decide (e + ms ≤ at0) | none => true
  let s1 := s.modEvi n (fun x => { x with activeAt := some at0, lastEdge := if edge then some at0 else x.lastEdge })
  let (fired, s2) := s1.evinAct n edge
  if edge then s2.eventAt t 0x0310 [BitVec.ofNat 8 n, BitVec.ofNat 8 (bit01 fired)] else s2

/-- A change to the inactive level: EVIN_RELEASED when the input had been stuck (R94). -/
def State.evinRelease (s : State) (n held : Nat) : State :=
  let active := match (s.evi n).activeAt with | some t => (s.now - held - t) / ms | none => 0
  let s1 := (s.modEvi n (fun x => { x with activeAt := none })).setBit .EVI_STAT n 1 false
  if s.regBit .EVI_STAT n 1 then s1.event 0x0312 ([BitVec.ofNat 8 n, 0#8, 0#8, 0#8] ++ leBytes 4 active) else s1

/-- Shortest time at a new level in ns: FILTER_US, or two samples of 10 ns (R93). -/
def State.filterNs (s : State) (n : Nat) : Nat := max 10 (s.regBits .EVI_CFG n 23 16 * us)

/-- EVIN_CHANGE_ACCEPTED: the input has kept a new level for `heldNs`; the change is timestamped with its first sample, at 10 ns
resolution (R93). -/
def execEvinChangeAccepted (n : Fin 8) (level : Bool) (heldNs : Nat) (s : State) : Host.Outcome State Fault Refusal :=
  if s.regBit .EVI_STAT n 0 = level ∨ heldNs < s.filterNs n then .next s
  else
    let s1 := s.setBit .EVI_STAT n 0 level
    let t := (s.ptp - heldNs) / 10 * 10
    if !s.regBit .EVI_CFG n 31 then .next s1
    else .next (if level = s.regBit .EVI_CFG n 30 then s1.evinActive n heldNs t else s1.evinRelease n heldNs)

/-- EVIN_STUCK_TIMEOUT: the input is still active after STUCK_MS (R94). -/
def execEvinStuckTimeout (n : Fin 8) (s : State) : Host.Outcome State Fault Refusal :=
  let k := s.regBits .EVI_CFG n 15 0
  match (s.evi n).activeAt with
  | some t =>
    if k ≠ 0 ∧ t + k * ms ≤ s.now ∧ s.regBit .EVI_STAT n 1 = false then
      .next ((s.setBit .EVI_STAT n 1 true).event 0x0311 ([BitVec.ofNat 8 n, 0#8, 0#8, 0#8] ++ leBytes 4 ((s.now - t) / ms)))
    else .next s
  | none => .next s

/-- EVIN_ACTION_PENDING_EXPIRY: the last activation within the 10 ms selects (R95). -/
def execEvinActionPendingExpiry (n : Fin 8) (s : State) : Host.Outcome State Fault Refusal :=
  match (s.evi n).lastAction with
  | some t => .next (if (s.evi n).pendingAct ∧ t + 10 * ms ≤ s.now then s.evinSelect n else s)
  | none => .next s

/-- EVI_CONFIG 0x0310: configures an input; its stuck state, a waiting selection and EVI_OVR are cleared, and an input that stays
active counts towards STUCK_MS from its next activation (DESIGN CHOICE, log 50). -/
def execEviConfig (r : Req) (b : Body) (s : State) : Host.Outcome State Fault Refusal :=
  let n := b.u8 0
  command 0x0310 r s [0] (b.length != 12 || decide (7 < n) || decide (1 < b.u8 1) || decide (1 < b.u8 2) || decide (3 < b.u8 3) || b.u8 5 != 0
      || !b.zero 10 2 || (b.u8 3 == 2 && decide (3 < b.u16 8))) {} (fun s =>
    let cfg := 2 ^ 31 * b.u8 1 + 2 ^ 30 * b.u8 2 + 2 ^ 24 * b.u8 3 + 2 ^ 16 * b.u8 4 + b.u16 6
    done ((((s.modEvi n (fun x => { x with activeAt := none, pendingAct := false })).setReg .EVI_CFG n (BitVec.ofNat 32 cfg)).setBits .EVI_ARG n 15 0 (b.u16 8)).setReg .EVI_OVR n 0#32
      |>.setBit .EVI_STAT n 1 false))

end Sys2Proof.Machine
end

