-- ==== Sys2Proof/Machine/Sram.lean ====
section
/-! DEFINITION. On-chip SRAM (R479, R480): what an uncorrectable word of each array does, and the patrol. -/

namespace Sys2Proof.Machine

/-- SRM_UE with whether the word is escalated (R486). -/
def State.srmUe (s : State) (a island word : Nat) (esc : Bool) : State :=
  s.event 0x6811 ([BitVec.ofNat 8 a, BitVec.ofNat 8 island, BitVec.ofNat 8 (bit01 esc), 0#8] ++ leBytes 4 word)

/-- A masked or unmasked record of an uncorrectable word. -/
def State.sramFault (s : State) (a island word inst : Nat) (esc : Bool) : State :=
  (s.srmUe a island word esc).fault island fcSRAM_UE (bit01 esc) inst []

/-- Tiles in the flatten cache, by head and then in the order they were written. -/
def State.cachedTiles (s : State) : List (Nat × FlatTile) :=
  s.hd.head.flatMap (fun e => (e.2.flat.filter (fun t => !t.spilled)).map (fun t => (e.1, t)))

/-- An uncorrectable flatten-cache word: the n-th cached tile is discarded, and its part of the picture is composed normally (R332). -/
def State.loseTile (s : State) (n : Nat) : State :=
  match s.cachedTiles[n]? with
  | some (h, t) => s.dropFlat h (fun x => x == t)
  | none => s

/-- An uncorrectable profile-store word: the slot becomes INVALID; a switch in progress goes on, and the slot is refused after
it (R479). -/
def State.loseSlot (s : State) (n : Nat) : State :=
  let s1 : State := s.setSlot n { (s.slot n) with reason := 0x0160 }
  if s.slotState n = 3 then s1 else s1.setSlotState n 2

/-- The engine that an instance of the ore bins names: EEs 0 to 7, then the PEs. -/
def oreEngine (n : Nat) : Engine := if h : n < 8 then .ee ⟨n, h⟩ else .pe ⟨(n - 8) % 32, Nat.mod_lt _ (by decide)⟩

/-- An uncorrectable ore-bin word: the job that read it is repeated from its start once; a second one in that job escalates (R243). -/
def State.loseOre (s : State) (island word : Nat) (e : Engine) : State :=
  match s.executing e with
  | none => s.sramFault 2 island word (engNum e) false
  | some j =>
    if s.mem.oreBad.contains j.num then s.sramFault 2 island word (engNum e) true
    else
      let s1 : State := { s with mem := { s.mem with oreBad := j.num :: s.mem.oreBad } }
      let s2 : State := s1.setEngine e ((s1.engine e).modJob j.num (fun j => j.again j.bad))
      (match e with | .pe n => s2.bumpSat .CF_PE_RETRY n.val | .ee n => s2.bumpSat .CF_EE_RETRY n.val).sramFault 2 island word (engNum e) false

/-- An uncorrectable pipe line-memory word: the frame is processed again, or withheld when it has been already (R221, R479). -/
def State.losePipe (s : State) (island word q : Nat) : State :=
  let p := s.pipe q
  match p.busy with
  | none => s.sramFault 5 island word q false
  | some c =>
    if p.retried then
      ((s.pipeWithhold q c).sramFault 5 island word q true).pipeSelect q
    else ((s.setPipe q { p with retried := true, started := s.now }).bumpSat .CAM_PIPE_RETRY q).sramFault 5 island word q false

/-- An uncorrectable word of the Lode table: the entry is taken as invalid until the firmware has rewritten it, within 2 ms at a free
time (R479). -/
def State.loseEntry (s : State) (i : Nat) : State :=
  match Tbl.get s.lode.entries i with
  | some e =>
    let (k, s1) := s.draw
    { s1 with lode := { s1.lode with entries := Tbl.set s1.lode.entries i (some { e with lostUntil := s.now + (Config.freeWord k).toNat % (2 * ms + 1) }) } }
  | none => s

/-- What an uncorrectable word of array a does (R479); `inst` names the cached tile, slot, engine, head, context, pipe, pair or Lode
entry that it belongs to. -/
def State.sramLoss (s : State) (a island word inst : Nat) : State :=
  match a with
  | 0 => (s.loseTile inst).sramFault 0 island word inst false
  | 1 => (s.loseSlot (inst % 4)).sramFault 1 island word (inst % 4) false
  | 2 => s.loseOre island word (oreEngine inst)
  | 3 => s.sramFault 3 (islSco inst) word inst true
  | 4 => (s.modIctx (inst % 1024) (fun x => { x with spoilt := x.spoilt + 1 })).sramFault 4 island word (inst % 1024) false
  | 5 => s.losePipe island word (inst % 2)
  | 6 => s.sramFault 6 (11 + inst % 4) word (inst % 4) true
  | 7 => (s.loseEntry inst).sramFault 7 island word 0xFFFF false
  | 8 => ({ s with flt := { s.flt with cnySram := (inst % 24) :: s.flt.cnySram } }).sramFault 8 (islCny (inst % 24)) word (inst % 24) true
  | _ => s.sramFault 9 island word 0xFFFF true

/-- SRAM_PATROL: a word of an array is read: nothing found, a single-bit error corrected, or an uncorrectable word; `last` when it
ends a pass (R479, R480). -/
def execSramPatrol (a : Fin 10) (island : Fin 41) (word inst : Nat) (found : Fin 3) (last : Bool) (s : State) : Host.Outcome State Fault Refusal :=
  if s.island island ≠ 2 then .next s
  else
    let s1 : State := if last then s.bumpWrap .SRM_ARR_SCRUB a else s
    let note := fun (s : State) => s.setReg .SRM_ARR_LAST a (BitVec.ofNat 32 (island.val * 2 ^ 26 + word % 2 ^ 26))
    match found.val with
    | 0 => .next s1
    | 1 =>
      let s2 : State := (note s1).bumpSat .SRM_ARR_CE a
      .next ((s2.eventPerSec 0x6810 a 1 (fun n => [BitVec.ofNat 8 a, 0#8, 0#8, 0#8] ++ leBytes 4 n)).fault island fcSRAM_CE 0 a [])
    | _ => .next (((note s1).bumpSat .SRM_ARR_UE a).sramLoss a island word inst)

end Sys2Proof.Machine
end

