-- ==== Sys2Proof/Machine/Dispatch.lean ====
section
/-! DEFINITION. The dispatch of every command to its meaning, one arm per row of the opcode table. -/

namespace Sys2Proof.Machine

/-- The effect of a command on everything but the queue of waiting commands. -/
def exec (i : Instr) (s : State) : Host.Outcome State Fault Refusal :=
  match i with
  | .doorbellWrite p value => Sys2Proof.Machine.execDoorbellWrite p value s
  | .packetFetch p => Sys2Proof.Machine.execPacketFetch p s
  | .packetStart => Sys2Proof.Machine.execPacketStart s
  | .urgentPreempt => Sys2Proof.Machine.execUrgentPreempt s
  | .secondSetArm t => Sys2Proof.Machine.execSecondSetArm t s
  | .ringReset p => Sys2Proof.Machine.execRingReset p s
  | .evtEnSet p => Sys2Proof.Machine.execEvtEnSet p s
  | .evtEnClear p => Sys2Proof.Machine.execEvtEnClear p s
  | .fetchEnWrite p on => Sys2Proof.Machine.execFetchEnWrite p on s
  | .evtReadIndexWrite p value => Sys2Proof.Machine.execEvtReadIndexWrite p value s
  | .irqModerationExpiry p => Sys2Proof.Machine.execIrqModerationExpiry p s
  | .semReq p value other => Sys2Proof.Machine.execSemReq p value other s
  | .semRel p value => Sys2Proof.Machine.execSemRel p value s
  | .semRelAll p => Sys2Proof.Machine.execSemRelAll p s
  | .pcieLinkLeaveL0 p d3hot => Sys2Proof.Machine.execPcieLinkLeaveL0 p d3hot s
  | .pcieLinkEnterL0 p width speed asked => Sys2Proof.Machine.execPcieLinkEnterL0 p width speed asked s
  | .linkDownScopeTimeout p => Sys2Proof.Machine.execLinkDownScopeTimeout p s
  | .portReset p kind => Sys2Proof.Machine.execPortReset p kind s
  | .ctrlRestartBegin => Sys2Proof.Machine.execCtrlRestartBegin s
  | .ctrlRestartEnd => Sys2Proof.Machine.execCtrlRestartEnd s
  | .evinChangeAccepted n level heldNs => Sys2Proof.Machine.execEvinChangeAccepted n level heldNs s
  | .evinStuckTimeout n => Sys2Proof.Machine.execEvinStuckTimeout n s
  | .pselStable v => Sys2Proof.Machine.execPselStable v s
  | .devInfo r b => Sys2Proof.Machine.execDevInfo r b s
  | .bootLoad r b image => Sys2Proof.Machine.execBootLoad r b image s
  | .fwStart => Sys2Proof.Machine.execFwStart s
  | .devBoardTable r b image linear => Sys2Proof.Machine.execDevBoardTable r b image linear s
  | .eventMask r b => Sys2Proof.Machine.execEventMask r b s
  | .prfLoad r b image => Sys2Proof.Machine.execPrfLoad r b image s
  | .prfSelect r b => Sys2Proof.Machine.execPrfSelect r b s
  | .prfPinMode r b => Sys2Proof.Machine.execPrfPinMode r b s
  | .prfStatus r b => Sys2Proof.Machine.execPrfStatus r b s
  | .eviConfig r b => Sys2Proof.Machine.execEviConfig r b s
  | .cnyLimits r b => Sys2Proof.Machine.execCnyLimits r b s
  | .cnyLock r b => Sys2Proof.Machine.execCnyLock r b s
  | .cnyHeadStyle r b => Sys2Proof.Machine.execCnyHeadStyle r b s
  | .cnyStill r b => Sys2Proof.Machine.execCnyStill r b s
  | .cnyHistory r b => Sys2Proof.Machine.execCnyHistory r b s
  | .ingMacConfig r b => Sys2Proof.Machine.execIngMacConfig r b s
  | .ingContext r b => Sys2Proof.Machine.execIngContext r b s
  | .ingMerge r b => Sys2Proof.Machine.execIngMerge r b s
  | .ingSdi r b => Sys2Proof.Machine.execIngSdi r b s
  | .lodeUpdate r b => Sys2Proof.Machine.execLodeUpdate r b s
  | .lodeRead r b => Sys2Proof.Machine.execLodeRead r b s
  | .ingHostRing r b => Sys2Proof.Machine.execIngHostRing r b s
  | .ingInject r b => Sys2Proof.Machine.execIngInject r b s
  | .injectFrameSent mac => Sys2Proof.Machine.execInjectFrameSent mac s
  | .camPort r b => Sys2Proof.Machine.execCamPort r b s
  | .camContext r b => Sys2Proof.Machine.execCamContext r b s
  | .camParams r b => Sys2Proof.Machine.execCamParams r b s
  | .camDefects r b table => Sys2Proof.Machine.execCamDefects r b table s
  | .camStatsRing r b => Sys2Proof.Machine.execCamStatsRing r b s
  | .decSession r b => Sys2Proof.Machine.execDecSession r b s
  | .decRestart r b => Sys2Proof.Machine.execDecRestart r b s
  | .cfKeyCopy r b => Sys2Proof.Machine.execCfKeyCopy r b s
  | .cfReserve r b => Sys2Proof.Machine.execCfReserve r b s
  | .cfAlloc r b => Sys2Proof.Machine.execCfAlloc r b s
  | .encChannel r b => Sys2Proof.Machine.execEncChannel r b s
  | .encKey r b => Sys2Proof.Machine.execEncKey r b s
  | .encStatsRing r b => Sys2Proof.Machine.execEncStatsRing r b s
  | .lyConfig r b => Sys2Proof.Machine.execLyConfig r b s
  | .lyPalette r b => Sys2Proof.Machine.execLyPalette r b s
  | .lyColour r b table => Sys2Proof.Machine.execLyColour r b table s
  | .hdCompose r b table => Sys2Proof.Machine.execHdCompose r b table s
  | .cmpCommit r b => Sys2Proof.Machine.execCmpCommit r b s
  | .cmpDiscard r b => Sys2Proof.Machine.execCmpDiscard r b s
  | .gfxPool r b => Sys2Proof.Machine.execGfxPool r b s
  | .gfxUpload r b data => Sys2Proof.Machine.execGfxUpload r b data s
  | .hdTiming r b => Sys2Proof.Machine.execHdTiming r b s
  | .hdOutput r b => Sys2Proof.Machine.execHdOutput r b s
  | .hdHold r b => Sys2Proof.Machine.execHdHold r b s
  | .hdDpAux r b answer data => Sys2Proof.Machine.execHdDpAux r b answer data s
  | .tmPtpConfig r b => Sys2Proof.Machine.execTmPtpConfig r b s
  | .tmPort r b => Sys2Proof.Machine.execTmPort r b s
  | .tmStep r b => Sys2Proof.Machine.execTmStep r b s
  | .refConfig r b => Sys2Proof.Machine.execRefConfig r b s
  | .refDpll r b => Sys2Proof.Machine.execRefDpll r b s
  | .refSelect r b => Sys2Proof.Machine.execRefSelect r b s
  | .refPhase r b => Sys2Proof.Machine.execRefPhase r b s
  | .audTdm r b => Sys2Proof.Machine.execAudTdm r b s
  | .audAes3 r b => Sys2Proof.Machine.execAudAes3 r b s
  | .audRx r b => Sys2Proof.Machine.execAudRx r b s
  | .audTx r b => Sys2Proof.Machine.execAudTx r b s
  | .audClock r b => Sys2Proof.Machine.execAudClock r b s
  | .audRoute r b => Sys2Proof.Machine.execAudRoute r b s
  | .audCsRead r b => Sys2Proof.Machine.execAudCsRead r b s
  | .tchConfig r b => Sys2Proof.Machine.execTchConfig r b s
  | .tchReference r b table => Sys2Proof.Machine.execTchReference r b table s
  | .tchMap r b => Sys2Proof.Machine.execTchMap r b s
  | .tchRing r b => Sys2Proof.Machine.execTchRing r b s
  | .tchNoiseMode r b => Sys2Proof.Machine.execTchNoiseMode r b s
  | .tchRebase r b => Sys2Proof.Machine.execTchRebase r b s
  | .tchSelftest r b table => Sys2Proof.Machine.execTchSelftest r b table s
  | .tchSelftestComplete f => Sys2Proof.Machine.execTchSelftestComplete f s
  | .tchSnapshot r b => Sys2Proof.Machine.execTchSnapshot r b s
  | .dmcTrain r b pass step durationMs => Sys2Proof.Machine.execDmcTrain r b pass step durationMs s
  | .dmcRetrainPeriod r b => Sys2Proof.Machine.execDmcRetrainPeriod r b s
  | .memUsage r b => Sys2Proof.Machine.execMemUsage r b s
  | .mpuEntry r b => Sys2Proof.Machine.execMpuEntry r b s
  | .mpuLock r b => Sys2Proof.Machine.execMpuLock r b s
  | .chkRun r b => Sys2Proof.Machine.execChkRun r b s
  | .chkStop r b => Sys2Proof.Machine.execChkStop r b s
  | .fltRead r b => Sys2Proof.Machine.execFltRead r b s
  | .pairConfig r b => Sys2Proof.Machine.execPairConfig r b s
  | .pairSwitch r b => Sys2Proof.Machine.execPairSwitch r b s
  | .pairDrill r b => Sys2Proof.Machine.execPairDrill r b s
  | .pwrIsland r b => Sys2Proof.Machine.execPwrIsland r b s
  | .pwrThermWarn r b => Sys2Proof.Machine.execPwrThermWarn r b s
  | .slPrbs r b => Sys2Proof.Machine.execSlPrbs r b s
  | .slPrbsStop r b => Sys2Proof.Machine.execSlPrbsStop r b s
  | .prbsTestEnd l errs => Sys2Proof.Machine.execPrbsTestEnd l errs s
  | .prbsNolockTimeout l => Sys2Proof.Machine.execPrbsNolockTimeout l s
  | .ringIndexWriteIng p ring value => Sys2Proof.Machine.execRingIndexWriteIng p ring value s
  | .ringIndexWriteCam p value => Sys2Proof.Machine.execRingIndexWriteCam p value s
  | .ringIndexWriteEnc p value => Sys2Proof.Machine.execRingIndexWriteEnc p value s
  | .ringIndexWriteTch p value => Sys2Proof.Machine.execRingIndexWriteTch p value s
  | .w1cWrite p value hwSets => Sys2Proof.Machine.execW1cWrite p value hwSets s
  | .rcRegisterRead p addr both => Sys2Proof.Machine.execRcRegisterRead p addr both s
  | .latchingRegisterRead m addr => Sys2Proof.Machine.execLatchingRegisterRead m addr s
  | .registerWrite p w other => Sys2Proof.Machine.execRegisterWrite p w other s
  | .frameBoundary h => Sys2Proof.Machine.execFrameBoundary h s
  | .commitWindowClose h => Sys2Proof.Machine.execCommitWindowClose h s
  | .canaryEvaluation h l eccError disagree => Sys2Proof.Machine.execCanaryEvaluation h l eccError disagree s
  | .evalDeadlineMiss h l => Sys2Proof.Machine.execEvalDeadlineMiss h l s
  | .lineCompose h late residue => Sys2Proof.Machine.execLineCompose h late residue s
  | .lineScan h markBad hatchBad => Sys2Proof.Machine.execLineScan h markBad hatchBad s
  | .ethFrameReceive mac f also => Sys2Proof.Machine.execEthFrameReceive mac f also s
  | .skewWindowExpiry c => Sys2Proof.Machine.execSkewWindowExpiry c s
  | .contextLosTimeout c => Sys2Proof.Machine.execContextLosTimeout c s
  | .mergeLegTimeout g leg => Sys2Proof.Machine.execMergeLegTimeout g leg s
  | .sdiTrsLossTimeout n => Sys2Proof.Machine.execSdiTrsLossTimeout n s
  | .sdiLineReceive n line => Sys2Proof.Machine.execSdiLineReceive n line s
  | .csiFrameStart port vc => Sys2Proof.Machine.execCsiFrameStart port vc s
  | .csiFrameEnd port vc => Sys2Proof.Machine.execCsiFrameEnd port vc s
  | .csiLongPacket port vc pkt => Sys2Proof.Machine.execCsiLongPacket port vc pkt s
  | .camLosTimeout c clockGone => Sys2Proof.Machine.execCamLosTimeout c clockGone s
  | .pipeFrameDone q residueBad => Sys2Proof.Machine.execPipeFrameDone q residueBad s
  | .peJobStart pe x => Sys2Proof.Machine.execPeJobStart pe x s
  | .jobComplete e bins row => Sys2Proof.Machine.execJobComplete e bins row s
  | .jobResidueMismatch e also => Sys2Proof.Machine.execJobResidueMismatch e also s
  | .decPictureRelease n => Sys2Proof.Machine.execDecPictureRelease n s
  | .bufferWaitEnd n => Sys2Proof.Machine.execBufferWaitEnd n s
  | .encPictureStart c ready pre => Sys2Proof.Machine.execEncPictureStart c ready pre s
  | .encRowInputDeadline c r told => Sys2Proof.Machine.execEncRowInputDeadline c r told s
  | .encRowOutput c row => Sys2Proof.Machine.execEncRowOutput c row s
  | .encEndOfBitstream c => Sys2Proof.Machine.execEncEndOfBitstream c s
  | .dpHpdChange d what sink lostLock => Sys2Proof.Machine.execDpHpdChange d what sink lostLock s
  | .dpLinkTrainDone d ok => Sys2Proof.Machine.execDpLinkTrainDone d ok s
  | .flowPacketSend f => Sys2Proof.Machine.execFlowPacketSend f s
  | .encFlowPacketSend c => Sys2Proof.Machine.execEncFlowPacketSend c s
  | .holdMaxExpiry h => Sys2Proof.Machine.execHoldMaxExpiry h s
  | .ptpMessageReceive p m => Sys2Proof.Machine.execPtpMessageReceive p m s
  | .delayReqSend => Sys2Proof.Machine.execDelayReqSend s
  | .announceTimeout p => Sys2Proof.Machine.execAnnounceTimeout p s
  | .servoLockDwellExpiry => Sys2Proof.Machine.execServoLockDwellExpiry s
  | .ptpStepApply => Sys2Proof.Machine.execPtpStepApply s
  | .refEdge n => Sys2Proof.Machine.execRefEdge n s
  | .refLossDeclared n => Sys2Proof.Machine.execRefLossDeclared n s
  | .refFreqMeasure ppb => Sys2Proof.Machine.execRefFreqMeasure ppb s
  | .refQualifyExpiry n => Sys2Proof.Machine.execRefQualifyExpiry n s
  | .wtrExpiry => Sys2Proof.Machine.execWtrExpiry s
  | .dpllLockAchieved => Sys2Proof.Machine.execDpllLockAchieved s
  | .dpllLockTimeout => Sys2Proof.Machine.execDpllLockTimeout s
  | .oscInLoss => Sys2Proof.Machine.execOscInLoss s
  | .audRateClassChange n mHz => Sys2Proof.Machine.execAudRateClassChange n mHz s
  | .audInputSample n v => Sys2Proof.Machine.execAudInputSample n v s
  | .audHouseSample => Sys2Proof.Machine.execAudHouseSample s
  | .zcTimeout o ch => Sys2Proof.Machine.execZcTimeout o ch s
  | .tdmFrameReceive g slots => Sys2Proof.Machine.execTdmFrameReceive g slots s
  | .aes3FrameReceive n a b => Sys2Proof.Machine.execAes3FrameReceive n a b s
  | .audRxRead r => Sys2Proof.Machine.execAudRxRead r s
  | .audTxPacketSend t => Sys2Proof.Machine.execAudTxPacketSend t s
  | .scanFrameStart f => Sys2Proof.Machine.execScanFrameStart f s
  | .scanFrameProcess f raw noise => Sys2Proof.Machine.execScanFrameProcess f raw noise s
  | .touchReportWrite f => Sys2Proof.Machine.execTouchReportWrite f s
  | .dramRefresh c => Sys2Proof.Machine.execDramRefresh c s
  | .dramRetrainPause c ok drift pauseNs => Sys2Proof.Machine.execDramRetrainPause c ok drift pauseNs s
  | .mr4Poll c rate => Sys2Proof.Machine.execMr4Poll c rate s
  | .dramPatrolRead c ce ue => Sys2Proof.Machine.execDramPatrolRead c ce ue s
  | .arbiterWindowEnd c => Sys2Proof.Machine.execArbiterWindowEnd c s
  | .interconnectRequest a => Sys2Proof.Machine.execInterconnectRequest a s
  | .sramPatrol a island word inst found last => Sys2Proof.Machine.execSramPatrol a island word inst found last s
  | .islandClearDone n => Sys2Proof.Machine.execIslandClearDone n s
  | .chkRunEnd u ue => Sys2Proof.Machine.execChkRunEnd u ue s
  | .chkPeriodStart u => Sys2Proof.Machine.execChkPeriodStart u s
  | .faultRecordArrive recs => Sys2Proof.Machine.execFaultRecordArrive recs s
  | .dutyRelease => Sys2Proof.Machine.execDutyRelease s
  | .hwDutyRelease => Sys2Proof.Machine.execHwDutyRelease s
  | .islandLivenessTimeout n => Sys2Proof.Machine.execIslandLivenessTimeout n s
  | .heartbeatWrite p => Sys2Proof.Machine.execHeartbeatWrite p s
  | .watchdogTimeout p => Sys2Proof.Machine.execWatchdogTimeout p s
  | .restartGraceExpiry => Sys2Proof.Machine.execRestartGraceExpiry s
  | .lockstepMismatch p => Sys2Proof.Machine.execLockstepMismatch p s
  | .dbgAuthenticate challenge signature => Sys2Proof.Machine.execDbgAuthenticate challenge signature s
  | .seamHeartbeatSend => Sys2Proof.Machine.execSeamHeartbeatSend s
  | .seamHeartbeatReceive w m => Sys2Proof.Machine.execSeamHeartbeatReceive w m s
  | .seamDownTimeout => Sys2Proof.Machine.execSeamDownTimeout s
  | .latchRecordReceive w h m => Sys2Proof.Machine.execLatchRecordReceive w h m s
  | .decisionRecordReceive w h l glyph checks frame => Sys2Proof.Machine.execDecisionRecordReceive w h l glyph checks frame s
  | .frameCrcReceive w h frame crc => Sys2Proof.Machine.execFrameCrcReceive w h frame crc s
  | .encPictureReceive w c m => Sys2Proof.Machine.execEncPictureReceive w c m s
  | .encRowReceive w c m => Sys2Proof.Machine.execEncRowReceive w c m s
  | .keyReqReceive w mask cause type => Sys2Proof.Machine.execKeyReqReceive w mask cause type s
  | .giveUpReceive w cause => Sys2Proof.Machine.execGiveUpReceive w cause s
  | .handoverReceive w k => Sys2Proof.Machine.execHandoverReceive w k s
  | .handoverAckReceive w k => Sys2Proof.Machine.execHandoverAckReceive w k s
  | .snapshotRequestReceive w => Sys2Proof.Machine.execSnapshotRequestReceive w s
  | .snapshotReceive w m => Sys2Proof.Machine.execSnapshotReceive w m s
  | .dutyInChange level => Sys2Proof.Machine.execDutyInChange level s
  | .dutyInLossTimeout => Sys2Proof.Machine.execDutyInLossTimeout s
  | .dutyWaitExpiry => Sys2Proof.Machine.execDutyWaitExpiry s
  | .bothDutyTimeout => Sys2Proof.Machine.execBothDutyTimeout s
  | .dutyReadbackMismatch => Sys2Proof.Machine.execDutyReadbackMismatch s
  | .profileDiffTimeout => Sys2Proof.Machine.execProfileDiffTimeout s
  | .porstAssert => Sys2Proof.Machine.execPorstAssert s
  | .porstRelease pairId bootsel => Sys2Proof.Machine.execPorstRelease pairId bootsel s
  | .trstAssert => Sys2Proof.Machine.execTrstAssert s
  | .railExcursion => Sys2Proof.Machine.execRailExcursion s
  | .avsMeasure n vminUv failing => Sys2Proof.Machine.execAvsMeasure n vminUv failing s
  | .pmbusPoll ackV ackI ackS vout iout status alert => Sys2Proof.Machine.execPmbusPoll ackV ackI ackS vout iout status alert s
  | .droopStretch n steps => Sys2Proof.Machine.execDroopStretch n steps s
  | .thermalSensorRead n c => Sys2Proof.Machine.execThermalSensorRead n c s
  | .lanePllUnlock q video => Sys2Proof.Machine.execLanePllUnlock q video s
  | .laneLockChange l locked code corrected uncorrectable => Sys2Proof.Machine.execLaneLockChange l locked code corrected uncorrectable s
  | .islandClockLoss n => Sys2Proof.Machine.execIslandClockLoss n s
  | .faultPortLivenessRecord n => Sys2Proof.Machine.execFaultPortLivenessRecord n s
  | .prbsCheckerLockChange l tail errs => Sys2Proof.Machine.execPrbsCheckerLockChange l tail errs s
  | .aes3LockChange n locked => Sys2Proof.Machine.execAes3LockChange n locked s
  | .islandPowerOff n => Sys2Proof.Machine.execIslandPowerOff n s
  | .snapshotRetry => Sys2Proof.Machine.execSnapshotRetry s
  | .latchWaitTimeout h => Sys2Proof.Machine.execLatchWaitTimeout h s
  | .evinActionPendingExpiry n => Sys2Proof.Machine.execEvinActionPendingExpiry n s
  | .pullRestTaken h => Sys2Proof.Machine.execPullRestTaken h s
  | .crossingRegisterRead m addr len => Sys2Proof.Machine.execCrossingRegisterRead m addr len s
  | .offIslandRegisterRead p addr => Sys2Proof.Machine.execOffIslandRegisterRead p addr s

end Sys2Proof.Machine
end

