-- ==== Sys2Proof/Frame.lean ====
section
/-! DEFINITION. What it means that a step leaves parts of the state alone: the fields of State by name, and the reset value at a
register offset, by which the register table is canonical. -/

namespace Sys2Proof.Machine

/-- The reset value at a BAR2 offset: that of the register member there, 0 where there is none. -/
def resetAt (a : Nat) : Word :=
  match Reg.atAddr a with
  | some (r, i) => r.resetOf i
  | none => 0#32

/-- The fields of State but for the register table, the output list and the draw counter. -/
inductive Field where
  | pending | now | portA | portB | interp | sem | prof | evin | evLim | tm | ing | lode | cam | fab | dec | pools | runs
  | dramGranules | boot | enc | hd | flt | pair | pwr | sl | mem | aud | tch | latches | xing
deriving DecidableEq, Repr

/-- A field holds the same in two states. -/
def State.same (s t : State) : Field → Prop
  | .pending => t.pending = s.pending
  | .now => t.now = s.now
  | .portA => t.portA = s.portA
  | .portB => t.portB = s.portB
  | .interp => t.interp = s.interp
  | .sem => t.sem = s.sem
  | .prof => t.prof = s.prof
  | .evin => t.evin = s.evin
  | .evLim => t.evLim = s.evLim
  | .tm => t.tm = s.tm
  | .ing => t.ing = s.ing
  | .lode => t.lode = s.lode
  | .cam => t.cam = s.cam
  | .fab => t.fab = s.fab
  | .dec => t.dec = s.dec
  | .pools => t.pools = s.pools
  | .runs => t.runs = s.runs
  | .dramGranules => t.dramGranules = s.dramGranules
  | .boot => t.boot = s.boot
  | .enc => t.enc = s.enc
  | .hd => t.hd = s.hd
  | .flt => t.flt = s.flt
  | .pair => t.pair = s.pair
  | .pwr => t.pwr = s.pwr
  | .sl => t.sl = s.sl
  | .mem => t.mem = s.mem
  | .aud => t.aud = s.aud
  | .tch => t.tch = s.tch
  | .latches => t.latches = s.latches
  | .xing => t.xing = s.xing

/-- From one state to another only the fields and the registers of two lists may differ; what has left the device stays out, and
free values are only drawn. -/
def OnlyChanges (fs : List Field) (rs : List Reg) (s t : State) : Prop :=
  (∀ f : Field, f ∉ fs → State.same s t f) ∧ (∀ (r : Reg) (i : Nat), r ∉ rs → t.getReg r i = s.getReg r i) ∧
    s.out <:+ t.out ∧ s.free ≤ t.free

end Sys2Proof.Machine
end

