-- ==== Sys2Proof/Safety.lean ====
section
/-! DEFINITION. What a safe step and a safe run are: the block never stops, and its sparse tables keep their canonical form. -/

namespace Sys2Proof.Machine

/-- A step that answers a next state: neither a fault nor a refusal. -/
def Goes (o : Host.Outcome State Fault Refusal) : Prop := ∃ t, o = .next t

/-- Every one of n steps from a state goes on. -/
def GoesFor : Nat → State → Prop
  | 0, _ => True
  | n + 1, s => ∃ t, step s = .next t ∧ GoesFor n t

/-- Something has left the device between two states. -/
def Sends (s t : State) (o : Output) : Prop := ∃ new, t.out = new ++ s.out ∧ o ∈ new

/-- A reply record for a packet that has left between two states (R64): its fields, in the event ring of the packet's port. -/
def Answers (s t : State) (r : Req) (op status reason : Nat) (body : List Byte) : Prop :=
  ∃ new i x, t.out = new ++ s.out ∧ .record r.port i x ∈ new ∧
    x.code = op ∧ x.tag = r.tag.val ∧ x.cookieSeq = r.cookie ∧ x.status = status ∧ x.reason = reason ∧ x.body = body

/-- An event record of a code that has left between two states (R65). -/
def Raises (s t : State) (p : Port) (code : Nat) : Prop :=
  ∃ new i x, t.out = new ++ s.out ∧ .record p i x ∈ new ∧ x.code = code ∧ x.kind = 1

/-- A fault record of an island, class and severity has entered the fault log between two states, with the next sequence number and
the time of its arrival (R504). -/
def Logs (s t : State) (island cls sev : Nat) : Prop :=
  ∃ x ∈ t.flt.log, x.island = island ∧ x.cls = cls ∧ x.sev = sev ∧ x.seq = s.regBits .FLT_COUNT 0 15 0 ∧ x.time = s.ptp

/-- A port takes the events of a code: its ring is on, its mask passes the group, and more than 64 records are free (R62, R67, R68). -/
@[reducible] def Listens (s : State) (p : Port) (code : Nat) : Prop := s.evtEn p = true ∧ s.passes p code = true ∧ 64 < s.freeRecords p

/-- A command packet can be interpreted now and none of NOTREADY, DENIED or a missing event ring keeps its own answer away: the
interpreter is free for it (R71), its prerequisites stand (R92), its port holds the scopes it needs (R77) and takes replies (R63). -/
@[reducible] def Ready (s : State) (r : Req) (op : Nat) (need : List Nat) : Prop :=
  s.canRun r op = true ∧ s.notReady op = false ∧ scopesOk (s.heldAt r op) need = true ∧ s.evtEn r.port = true

/-- The DRAM bytes are in their canonical form: addresses strictly rising, no entry equal to 0, what an unlisted byte reads as. -/
def Memory.wf (s : State) : Bool := Tbl.wf (fun _ => 0#8) s.mem.bytes

/-- The packet header and the opcode of a command that arrives as a command packet (R17, R58); none for every other row. -/
def packet : Instr → Option (Req × Nat)
  | .devInfo r _ => some (r, 0x0101)
  | .bootLoad r _ _ => some (r, 0x0102)
  | .devBoardTable r _ _ _ => some (r, 0x0103)
  | .eventMask r _ => some (r, 0x0201)
  | .prfLoad r _ _ => some (r, 0x0301)
  | .prfSelect r _ => some (r, 0x0302)
  | .prfPinMode r _ => some (r, 0x0303)
  | .prfStatus r _ => some (r, 0x0304)
  | .eviConfig r _ => some (r, 0x0310)
  | .cnyLimits r _ => some (r, 0x1001)
  | .cnyLock r _ => some (r, 0x1002)
  | .cnyHeadStyle r _ => some (r, 0x1003)
  | .cnyStill r _ => some (r, 0x1004)
  | .cnyHistory r _ => some (r, 0x1005)
  | .ingMacConfig r _ => some (r, 0x2001)
  | .ingContext r _ => some (r, 0x2002)
  | .ingMerge r _ => some (r, 0x2003)
  | .ingSdi r _ => some (r, 0x2004)
  | .lodeUpdate r _ => some (r, 0x2010)
  | .lodeRead r _ => some (r, 0x2011)
  | .ingHostRing r _ => some (r, 0x2020)
  | .ingInject r _ => some (r, 0x2021)
  | .camPort r _ => some (r, 0x2801)
  | .camContext r _ => some (r, 0x2802)
  | .camParams r _ => some (r, 0x2803)
  | .camDefects r _ _ => some (r, 0x2804)
  | .camStatsRing r _ => some (r, 0x2805)
  | .decSession r _ => some (r, 0x3001)
  | .decRestart r _ => some (r, 0x3002)
  | .cfKeyCopy r _ => some (r, 0x3003)
  | .cfReserve r _ => some (r, 0x3010)
  | .cfAlloc r _ => some (r, 0x3011)
  | .encChannel r _ => some (r, 0x3801)
  | .encKey r _ => some (r, 0x3802)
  | .encStatsRing r _ => some (r, 0x3803)
  | .lyConfig r _ => some (r, 0x4001)
  | .lyPalette r _ => some (r, 0x4002)
  | .lyColour r _ _ => some (r, 0x4003)
  | .hdCompose r _ _ => some (r, 0x4004)
  | .cmpCommit r _ => some (r, 0x4005)
  | .cmpDiscard r _ => some (r, 0x4006)
  | .gfxPool r _ => some (r, 0x4010)
  | .gfxUpload r _ _ => some (r, 0x4011)
  | .hdTiming r _ => some (r, 0x4801)
  | .hdOutput r _ => some (r, 0x4802)
  | .hdHold r _ => some (r, 0x4803)
  | .hdDpAux r _ _ _ => some (r, 0x4810)
  | .tmPtpConfig r _ => some (r, 0x5001)
  | .tmPort r _ => some (r, 0x5002)
  | .tmStep r _ => some (r, 0x5003)
  | .refConfig r _ => some (r, 0x5010)
  | .refDpll r _ => some (r, 0x5011)
  | .refSelect r _ => some (r, 0x5012)
  | .refPhase r _ => some (r, 0x5013)
  | .audTdm r _ => some (r, 0x5801)
  | .audAes3 r _ => some (r, 0x5802)
  | .audRx r _ => some (r, 0x5803)
  | .audTx r _ => some (r, 0x5804)
  | .audClock r _ => some (r, 0x5805)
  | .audRoute r _ => some (r, 0x5810)
  | .audCsRead r _ => some (r, 0x5811)
  | .tchConfig r _ => some (r, 0x6001)
  | .tchReference r _ _ => some (r, 0x6002)
  | .tchMap r _ => some (r, 0x6003)
  | .tchRing r _ => some (r, 0x6004)
  | .tchNoiseMode r _ => some (r, 0x6005)
  | .tchRebase r _ => some (r, 0x6006)
  | .tchSelftest r _ _ => some (r, 0x6007)
  | .tchSnapshot r _ => some (r, 0x6008)
  | .dmcTrain r _ _ _ _ => some (r, 0x6801)
  | .dmcRetrainPeriod r _ => some (r, 0x6802)
  | .memUsage r _ => some (r, 0x6803)
  | .mpuEntry r _ => some (r, 0x7001)
  | .mpuLock r _ => some (r, 0x7002)
  | .chkRun r _ => some (r, 0x7010)
  | .chkStop r _ => some (r, 0x7011)
  | .fltRead r _ => some (r, 0x7020)
  | .pairConfig r _ => some (r, 0x7801)
  | .pairSwitch r _ => some (r, 0x7802)
  | .pairDrill r _ => some (r, 0x7803)
  | .pwrIsland r _ => some (r, 0x7C01)
  | .pwrThermWarn r _ => some (r, 0x7C02)
  | .slPrbs r _ => some (r, 0x7E01)
  | .slPrbsStop r _ => some (r, 0x7E02)
  | _ => none

end Sys2Proof.Machine
end

