-- ==== Sys2Proof/Footprint.lean ====
section
/-! DEFINITION. What each command may change at most (its footprint): fields of State and registers, by their rows in
95_what_each_step_holds.md and the rules named there. A register stands for all its members. Port resets by PORST_N, register reads
and interconnect requests have no footprint here: their own statements say what they change. -/

namespace Sys2Proof.Machine

/-- Where a reply leaves its traces: the ports and the interpreter (R64, R70, R71). -/
def answerFields : List Field :=
  [.portA, .portB, .interp]

/-- Registers of a reply (R62, R63). -/
def answerRegs : List Reg :=
  [.HP_EVT_WR, .HP_EVT_DROP, .HP_CRC_CNT]

/-- Where an event leaves its traces (R67, R68). -/
def eventFields : List Field :=
  [.portA, .portB]

/-- Registers of a record in an event ring (R62, R68). -/
def eventRegs : List Reg :=
  [.HP_STATUS, .HP_EVT_WR, .HP_EVT_DROP]

/-- What a fault record may change, with the release of duty that may follow it (R504 to R512). -/
def faultFields : List Field :=
  [.portA, .portB, .interp, .evLim, .hd, .flt, .pair, .aud]

/-- Registers of a fault record and of a release of duty (R504 to R512, R527). -/
def faultRegs : List Reg :=
  [.HP_STATUS, .HP_EVT_WR, .HP_EVT_DROP, .HP_CRC_CNT, .CNY_CTL, .HD_OUT_STATUS, .HD_STAT, .HD_CMP_STAT, .HD_FLOW_STAT,
   .HD_EFLOW_STAT, .AUD_STATUS, .FLT_STATUS, .FLT_COUNT, .FLT_WR, .FLT_FIRST, .FLT_ISL_MASKED, .FLT_ISL_UNMASKED,
   .FLT_ISL_LAST, .PAIR_STATUS, .PAIR_EVT_SEC, .PAIR_EVT_NS]

/-- What the taking of a head's set may change, with the fault record of a set that the Canary refuses (R146, R349, R356). -/
def headsFields : List Field :=
  [.portA, .portB, .interp, .prof, .evLim, .ing, .cam, .pools, .runs, .boot, .hd, .flt, .pair, .pwr, .sl, .mem, .aud, .tch]

/-- Registers of the taking of a head's set (R146, R349, R356). -/
def headsRegs : List Reg :=
  [.HP_STATUS, .HP_EVT_WR, .HP_EVT_DROP, .HP_CRC_CNT, .PRF_STATE, .CNY_CTL, .CNY_STYLE, .CNY_FG, .CNY_BG, .CNY_LSTAT,
   .CNY_LAGE, .CNY_LBUDGET, .CNY_LWINDOW, .CNY_EVALS, .CNY_MARKED, .CNY_DEADLINE, .CNY_MISC, .CAM_PORT_STAT, .CAM_PORT_HDR,
   .CAM_PORT_CRC, .CAM_PORT_UNBOUND, .CAM_PIPE_STAT, .CAM_PIPE_FRAMES, .CAM_PIPE_RETRY, .LY_STAT, .LY_SRC, .LY_ALLOC,
   .LY_FETCH, .LY_UMBRA, .LY_UNDERRUN, .HD_OUT_STATUS, .HD_STAT, .HD_FRAME_LO, .HD_FRAME_HI, .HD_FLIP_SEC, .HD_FLIP_NS,
   .HD_LATE, .HD_PCLK, .HD_CMP_STAT, .HD_CMP_DISC, .HD_CMP_BASE, .HD_DP_STAT, .HD_DP_RETRAIN, .HD_SDI_STAT, .HD_FLOW_STAT,
   .HD_EFLOW_STAT, .AUD_STATUS, .AUD_HOUSE_OFS, .AUD_ZC_TIMEOUTS, .AUD_CHANNELS, .AUD_IN_STAT, .AUD_IN_SLIP, .AUD_IN_ERR,
   .AUD_IN_INVALID, .AUD_RX_LOST, .AUD_TX_PKTS, .TCH_STATUS, .TCH_RING_WR, .TCH_RING_RD, .TCH_RING_DROP, .TCH_FE_STAT,
   .TCH_FE_FRAMES, .TCH_FE_REPORTS, .TCH_FE_WITHHELD, .TCH_FE_REBASE, .TCH_FE_NOISE, .TCH_FE_NOISE_CNT, .TCH_FE_SUSPECT,
   .SRM_CLEARS, .FLT_STATUS, .FLT_COUNT, .FLT_WR, .FLT_FIRST, .FLT_ISL_MASKED, .FLT_ISL_UNMASKED, .FLT_ISL_LAST, .PAIR_STATUS,
   .PAIR_EVT_SEC, .PAIR_EVT_NS, .PWR_STATUS, .PWR_VSET, .PWR_ISL_STAT, .SL_QUAD_STAT, .SL_LANE_STAT, .SL_LANE_ERR,
   .SL_LANE_FEC, .SL_LANE_LOCKLOSS, .SL_PRBS_BITS_LO, .SL_PRBS_BITS_HI, .SL_PRBS_ERR, .SL_PRBS_STAT]

/-- What the commands of the host ports, event inputs, profiles, power, lanes, memory, protection and faults may change; none for the others. -/
def hostFootprint : Instr → Option (List Field × List Reg)
  | .doorbellWrite _ _ => some (eventFields, eventRegs)
  | .packetFetch _ => some (eventFields, eventRegs ++ [.HP_CMD_RD, .HP_BUSY_CNT, .HP_CRC_CNT])
  | .packetStart => some (answerFields, answerRegs)
  | .urgentPreempt => some (answerFields, answerRegs)
  | .secondSetArm _ => some (faultFields ++ [.prof, .pools, .runs, .boot, .enc, .sl, .mem], faultRegs ++ [.PRF_STATE, .CNY_STYLE, .CNY_FG,
     .CNY_BG, .CNY_LSTAT, .CNY_LAGE, .CNY_LBUDGET, .CNY_LWINDOW, .CNY_MISC, .DEC_SESS_STAT, .ENC_STATUS, .ENC_CH_STAT, .ENC_CH_DELAY_NS,
     .LY_FLAT_USE, .LY_FLAT_INVAL, .LY_STAT, .LY_ALLOC, .HD_LATE, .HD_PCLK, .HD_CMP_BASE, .HD_DP_STAT, .HD_DP_RETRAIN, .HD_SDI_STAT,
     .SL_LANE_STAT, .SL_PRBS_BITS_LO, .SL_PRBS_BITS_HI, .SL_PRBS_STAT])
  | .ringReset _ => some ([], [.HP_CMD_RD])
  | .evtEnSet _ => some (eventFields, [.HP_CTL, .HP_EVT_WR, .HP_EVT_RD])
  | .evtEnClear _ => some ([], [.HP_CTL])
  | .fetchEnWrite _ _ => some ([], [.HP_CTL])
  | .evtReadIndexWrite _ _ => some (eventFields, eventRegs ++ [.HP_EVT_RD])
  | .irqModerationExpiry _ => some (eventFields, [])
  | .semReq _ _ _ => some ([.sem], [.SEM_RESULT, .SEM_TIE])
  | .semRel _ _ => some (eventFields ++ [.sem, .hd], eventRegs ++ [.HD_CMP_STAT, .HD_CMP_DISC])
  | .semRelAll _ => some (eventFields ++ [.sem, .hd], eventRegs ++ [.HD_CMP_STAT, .HD_CMP_DISC])
  | .pcieLinkLeaveL0 _ _ => some (eventFields ++ [.sl], eventRegs)
  | .pcieLinkEnterL0 _ _ _ _ => some (eventFields ++ [.sl], eventRegs)
  | .linkDownScopeTimeout _ => some (eventFields ++ [.sem, .hd], eventRegs ++ [.HD_CMP_STAT, .HD_CMP_DISC])
  | .portReset _ _ => some (eventFields ++ [.sem, .hd, .sl], eventRegs ++ [.HP_CMD_RD, .HP_CTL, .HD_CMP_STAT, .HD_CMP_DISC])
  | .ctrlRestartBegin => some (answerFields ++ [.hd, .flt], eventRegs ++ [.HD_CMP_STAT, .HD_CMP_DISC])
  | .ctrlRestartEnd => some (answerFields ++ [.flt], eventRegs ++ [.HP_CRC_CNT])
  | .evinChangeAccepted _ _ _ => some (headsFields ++ [.evin, .fab, .dec, .enc], headsRegs ++ [.EVI_OVR, .EVI_STAT, .ING_CTX_STAT,
     .CAM_STATUS, .CAM_CTX_STAT, .CAM_CTX_WITHHELD, .CAM_CTX_QUEUE_US, .CF_STATUS, .CF_JOBS_INFL, .CF_JOBS_DRAM, .CF_OREBIN_USE,
     .CF_PE_STAT, .CF_EE_STAT, .DEC_STATUS, .DEC_SESS_STAT, .DEC_SESS_LEVEL, .ENC_STATUS, .ENC_CH_STAT, .ENC_CH_DELAY_NS, .ENC_CH_KEY_OVR,
     .LY_FLAT_USE, .LY_FLAT_INVAL])
  | .evinStuckTimeout _ => some (eventFields, eventRegs ++ [.EVI_STAT])
  | .pselStable _ => some (headsFields ++ [.fab, .dec, .enc], headsRegs ++ [.ING_CTX_STAT, .CAM_STATUS, .CAM_CTX_STAT, .CAM_CTX_WITHHELD,
     .CAM_CTX_QUEUE_US, .CF_STATUS, .CF_JOBS_INFL, .CF_JOBS_DRAM, .CF_OREBIN_USE, .CF_PE_STAT, .CF_EE_STAT, .DEC_STATUS, .DEC_SESS_STAT,
     .DEC_SESS_LEVEL, .ENC_STATUS, .ENC_CH_STAT, .ENC_CH_DELAY_NS, .LY_FLAT_USE, .LY_FLAT_INVAL])
  | .devInfo _ _ => some (answerFields, answerRegs)
  | .bootLoad _ _ _ => some (answerFields ++ [.boot], answerRegs ++ [.DEV_BOOT])
  | .fwStart => some (eventFields ++ [.sem, .evLim, .ing, .cam, .dec, .pools, .runs, .boot, .hd, .flt, .pair, .pwr, .mem, .aud, .tch,
     .latches, .xing], eventRegs ++ [.DEV_BOOT, .DEV_UNMAPPED, .DEV_RD_OFF, .DEV_SCRATCH, .HP_CMD_RD, .HP_CTL, .HP_EVT_BASE_LO,
     .HP_EVT_BASE_HI, .HP_EVT_SIZE, .HP_EVT_RD, .HP_IRQ_MOD, .HP_BUSY_CNT, .HP_CRC_CNT, .HP_WR_DROP, .HP_RD_BAD, .SEM_RESULT, .EVI_OVR,
     .CNY_CTL, .CNY_LIM_BUDGET, .CNY_LIM_MISC, .CNY_LOCK_VIOL, .CNY_STYLE, .CNY_FG, .CNY_BG, .CNY_LSTAT, .CNY_LAGE, .CNY_LBUDGET,
     .CNY_LWINDOW, .CNY_EVALS, .CNY_MARKED, .CNY_DEADLINE, .CNY_MISC, .ING_SAMPLE_CNT, .ING_SAMPLE_DROP, .ING_INJECT_CNT, .ING_MAC_FCS,
     .ING_MAC_UNK, .ING_MAC_MISDIR, .ING_MAC_MALF, .ING_MAC_OVR, .ING_MG_LATE, .ING_CTX_CONCEALED, .ING_CTX_WITHHELD, .ING_CTX_LOST,
     .ING_CTX_RATE, .ING_SDI_CRC, .CAM_STATS_DROP, .CAM_PORT_STAT, .CAM_PORT_HDR, .CAM_PORT_CRC, .CAM_PORT_UNBOUND, .CAM_CTX_WITHHELD,
     .CAM_CTX_SUPERSEDED, .CAM_CTX_OVERLONG, .CAM_CTX_LINE_ERR, .CAM_PIPE_STAT, .CAM_PIPE_FRAMES, .CAM_PIPE_RETRY, .CF_OREBIN_STALL,
     .CF_PE_RETRY, .CF_EE_RETRY, .DEC_SESS_CONCEALED, .DEC_SESS_DISCARD, .DEC_SESS_POOLWAIT, .DEC_SESS_HASH, .ENC_STATS_DROP,
     .ENC_CH_REPEAT, .ENC_CH_FILL, .ENC_CH_LATE, .ENC_CH_KEY_OVR, .ENC_CH_MISMATCH, .ENC_CH_POOLWAIT, .ENC_CH_PAIR_DIV, .ENC_CH_SKIPPED,
     .LY_FLAT_SPILL, .LY_STAT, .LY_SRC, .LY_ALLOC, .LY_FETCH, .LY_UMBRA, .LY_UNDERRUN, .HD_OUT_STATUS, .HD_STAT, .HD_FRAME_LO, .HD_FRAME_HI,
     .HD_FLIP_SEC, .HD_FLIP_NS, .HD_LATE, .HD_PCLK, .HD_CMP_STAT, .HD_CMP_DISC, .HD_CMP_BASE, .HD_DP_HPD_CNT, .HD_DP_RETRAIN, .HD_FLOW_STAT,
     .HD_FLOW_GUARD, .HD_EFLOW_STAT, .HD_EFLOW_GUARD, .TM_RATE_LIMIT, .TM_PORT_BAD, .REF_DISAGREE_CNT, .REF_LOSS, .REF_HEAD_ADJ,
     .AUD_STATUS, .AUD_HOUSE_OFS, .AUD_ZC_TIMEOUTS, .AUD_CHANNELS, .AUD_IN_STAT, .AUD_IN_SLIP, .AUD_IN_ERR, .AUD_IN_INVALID, .AUD_RX_LOST,
     .AUD_TX_PKTS, .TCH_STATUS, .TCH_RING_WR, .TCH_RING_RD, .TCH_RING_DROP, .TCH_FE_STAT, .TCH_FE_FRAMES, .TCH_FE_REPORTS, .TCH_FE_WITHHELD,
     .TCH_FE_REBASE, .TCH_FE_NOISE, .TCH_FE_NOISE_CNT, .TCH_FE_SUSPECT, .DMC_CH_CE, .DMC_CH_UE, .DMC_CH_UE_ADDR, .DMC_CH_OVERQ,
     .DMC_CH_MAXSTALL, .SRM_ARR_CE, .SRM_ARR_UE, .SRM_SCR_DMA_WAIT, .SRM_CLEARS, .MPU_CTL, .MPU_VIOL_CNT, .MPU_ENT_BASE, .MPU_ENT_LIMIT,
     .MPU_ENT_MASK_LO, .MPU_ENT_MASK_HI, .MPU_ENT_CTL, .MPU_MASTER_VIOL, .CHK_MISMATCH, .FLT_STATUS, .FLT_COUNT, .FLT_WR, .FLT_FIRST,
     .FLT_ISL_MASKED, .FLT_ISL_UNMASKED, .FLT_ISL_LAST, .PAIR_STATUS, .PAIR_SEAM_CRC, .PAIR_BOTH_DUTY, .PAIR_LATCH_MISS, .PAIR_FCRC_DIFF,
     .PWR_STATUS, .PWR_VSET, .PWR_PMB_ERR, .PWR_ISL_STAT, .PWR_ISL_DROOP, .SL_QUAD_STAT, .SL_LANE_STAT, .SL_LANE_ERR, .SL_LANE_FEC,
     .SL_LANE_LOCKLOSS, .SL_PRBS_BITS_LO, .SL_PRBS_BITS_HI, .SL_PRBS_ERR, .SL_PRBS_STAT, .LODE_OVERRATE, .LODE_PLACE_FAIL])
  | .devBoardTable _ _ _ _ => some (answerFields ++ [.dramGranules, .boot, .pwr, .sl], eventRegs ++ [.HP_CRC_CNT, .DMC_STATUS, .PWR_STATUS,
     .PWR_VSET, .SL_STATUS, .SL_QUAD_STAT, .SL_LANE_STAT])
  | .eventMask _ _ => some (answerFields, answerRegs)
  | .prfLoad _ _ _ => some (answerFields ++ [.prof, .ing, .cam, .dec, .pools, .enc, .hd, .aud], answerRegs ++ [.PRF_STATE, .HD_CMP_STAT,
     .AUD_STATUS, .AUD_CHANNELS, .AUD_IN_STAT])
  | .prfSelect _ _ => some (headsFields ++ [.fab, .dec, .enc], headsRegs ++ [.ING_CTX_STAT, .CAM_STATUS, .CAM_CTX_STAT, .CAM_CTX_WITHHELD,
     .CAM_CTX_QUEUE_US, .CF_STATUS, .CF_JOBS_INFL, .CF_JOBS_DRAM, .CF_OREBIN_USE, .CF_PE_STAT, .CF_EE_STAT, .DEC_STATUS, .DEC_SESS_STAT,
     .DEC_SESS_LEVEL, .ENC_STATUS, .ENC_CH_STAT, .ENC_CH_DELAY_NS, .LY_FLAT_USE, .LY_FLAT_INVAL])
  | .prfPinMode _ _ => some (answerFields, answerRegs ++ [.PRF_STATE])
  | .prfStatus _ _ => some (answerFields, answerRegs)
  | .eviConfig _ _ => some (answerFields ++ [.evin], answerRegs ++ [.EVI_CFG, .EVI_ARG, .EVI_OVR, .EVI_STAT])
  | .dmcTrain _ _ _ _ _ => some (answerFields ++ [.mem], eventRegs ++ [.HP_CRC_CNT, .DMC_STATUS, .DMC_CH_STAT])
  | .dmcRetrainPeriod _ _ => some (answerFields ++ [.mem], answerRegs ++ [.DMC_STATUS])
  | .memUsage _ _ => some (answerFields, answerRegs)
  | .mpuEntry _ _ => some (answerFields, answerRegs ++ [.MPU_CTL, .MPU_ENT_BASE, .MPU_ENT_LIMIT, .MPU_ENT_MASK_LO, .MPU_ENT_MASK_HI, .MPU_ENT_CTL])
  | .mpuLock _ _ => some (answerFields, eventRegs ++ [.HP_CRC_CNT, .MPU_CTL, .MPU_ENT_CTL])
  | .chkRun _ _ => some (answerFields ++ [.flt], answerRegs ++ [.CHK_STATUS, .CHK_STAT, .CHK_EXPECT, .CHK_ADDR_LO, .CHK_ADDR_HI, .CHK_LEN])
  | .chkStop _ _ => some (faultFields, eventRegs ++ [.HP_CRC_CNT, .CNY_CTL, .HD_OUT_STATUS, .HD_STAT, .HD_CMP_STAT, .HD_FLOW_STAT,
     .HD_EFLOW_STAT, .AUD_STATUS, .CHK_STATUS, .CHK_STAT, .CHK_RESULT, .CHK_RUNS, .CHK_MISMATCH, .FLT_STATUS, .FLT_COUNT, .FLT_WR,
     .FLT_FIRST, .FLT_ISL_MASKED, .FLT_ISL_UNMASKED, .FLT_ISL_LAST, .PAIR_STATUS])
  | .fltRead _ _ => some (answerFields, answerRegs)
  | .pwrIsland _ _ => some (answerFields ++ [.pwr], eventRegs ++ [.HP_CRC_CNT, .PWR_STATUS, .PWR_VSET, .PWR_ISL_STAT])
  | .pwrThermWarn _ _ => some (answerFields, answerRegs ++ [.PWR_STATUS, .PWR_TJ, .PWR_THERM_WARN])
  | .slPrbs _ _ => some (answerFields ++ [.sl], answerRegs ++ [.SL_LANE_STAT, .SL_PRBS_BITS_LO, .SL_PRBS_BITS_HI, .SL_PRBS_ERR, .SL_PRBS_STAT])
  | .slPrbsStop _ _ => some (answerFields ++ [.sl], eventRegs ++ [.HP_CRC_CNT, .SL_LANE_STAT, .SL_PRBS_BITS_LO, .SL_PRBS_BITS_HI, .SL_PRBS_STAT])
  | .prbsTestEnd _ _ => some (answerFields ++ [.sl], eventRegs ++ [.HP_CRC_CNT, .SL_LANE_STAT, .SL_PRBS_BITS_LO, .SL_PRBS_BITS_HI,
     .SL_PRBS_ERR, .SL_PRBS_STAT])
  | .prbsNolockTimeout _ => some (answerFields ++ [.sl], eventRegs ++ [.HP_CRC_CNT, .SL_LANE_STAT, .SL_PRBS_BITS_LO, .SL_PRBS_BITS_HI, .SL_PRBS_STAT])
  | .w1cWrite _ _ _ => some ([], [.HP_STATUS])
  | .rcRegisterRead _ _ _ => some ([.latches], [.DEV_ROUTER, .DEV_UNMAPPED, .DEV_RD_OFF, .HP_EVT_DROP, .HP_BUSY_CNT, .HP_CRC_CNT,
     .HP_WR_DROP, .HP_RD_BAD, .EVI_OVR, .CNY_LOCK_VIOL, .CNY_MARKED, .CNY_DEADLINE, .CNY_MISC, .ING_SAMPLE_CNT, .ING_SAMPLE_DROP,
     .ING_INJECT_CNT, .ING_MAC_FCS, .ING_MAC_UNK, .ING_MAC_MISDIR, .ING_MAC_MALF, .ING_MAC_OVR, .ING_MG_LATE, .ING_CTX_CONCEALED,
     .ING_CTX_WITHHELD, .ING_CTX_LOST, .ING_CTX_RATE, .ING_SDI_CRC, .CAM_STATS_DROP, .CAM_PORT_HDR, .CAM_PORT_CRC, .CAM_PORT_UNBOUND,
     .CAM_CTX_WITHHELD, .CAM_CTX_SUPERSEDED, .CAM_CTX_OVERLONG, .CAM_CTX_LINE_ERR, .CAM_PIPE_RETRY, .CF_OREBIN_STALL, .CF_PE_RETRY,
     .CF_EE_RETRY, .DEC_SESS_CONCEALED, .DEC_SESS_DISCARD, .DEC_SESS_POOLWAIT, .DEC_SESS_HASH, .ENC_STATS_DROP, .ENC_CH_REPEAT,
     .ENC_CH_FILL, .ENC_CH_LATE, .ENC_CH_KEY_OVR, .ENC_CH_MISMATCH, .ENC_CH_POOLWAIT, .ENC_CH_PAIR_DIV, .ENC_CH_SKIPPED, .LY_FLAT_SPILL,
     .LY_UNDERRUN, .HD_LATE, .HD_CMP_DISC, .HD_DP_HPD_CNT, .HD_DP_RETRAIN, .HD_FLOW_GUARD, .HD_EFLOW_GUARD, .TM_RATE_LIMIT, .TM_PORT_BAD,
     .REF_DISAGREE_CNT, .REF_LOSS, .REF_HEAD_ADJ, .AUD_ZC_TIMEOUTS, .AUD_IN_SLIP, .AUD_IN_ERR, .AUD_IN_INVALID, .AUD_RX_LOST,
     .TCH_RING_DROP, .TCH_FE_WITHHELD, .TCH_FE_REBASE, .TCH_FE_NOISE_CNT, .DMC_CH_CE, .DMC_CH_UE, .DMC_CH_OVERQ, .DMC_CH_MAXSTALL,
     .SRM_ARR_CE, .SRM_ARR_UE, .SRM_SCR_DMA_WAIT, .MPU_VIOL_CNT, .MPU_MASTER_VIOL, .CHK_MISMATCH, .FLT_ISL_MASKED, .PAIR_SEAM_CRC,
     .PAIR_BOTH_DUTY, .PAIR_LATCH_MISS, .PAIR_FCRC_DIFF, .PWR_PMB_ERR, .PWR_ISL_DROOP, .SL_LANE_ERR, .SL_LANE_FEC, .SL_LANE_LOCKLOSS,
     .LODE_OVERRATE, .LODE_PLACE_FAIL])
  | .latchingRegisterRead _ _ => some (eventFields ++ [.evLim, .hd, .flt, .pair, .aud, .latches, .xing], eventRegs ++ [.DEV_UNMAPPED,
     .DEV_RD_OFF, .HP_BUSY_CNT, .HP_CRC_CNT, .HP_WR_DROP, .HP_RD_BAD, .EVI_OVR, .CNY_CTL, .CNY_LOCK_VIOL, .CNY_MARKED, .CNY_DEADLINE,
     .CNY_MISC, .ING_SAMPLE_CNT, .ING_SAMPLE_DROP, .ING_INJECT_CNT, .ING_MAC_FCS, .ING_MAC_UNK, .ING_MAC_MISDIR, .ING_MAC_MALF,
     .ING_MAC_OVR, .ING_MG_LATE, .ING_CTX_CONCEALED, .ING_CTX_WITHHELD, .ING_CTX_LOST, .ING_CTX_RATE, .ING_SDI_CRC, .CAM_STATS_DROP,
     .CAM_PORT_HDR, .CAM_PORT_CRC, .CAM_PORT_UNBOUND, .CAM_CTX_WITHHELD, .CAM_CTX_SUPERSEDED, .CAM_CTX_OVERLONG, .CAM_CTX_LINE_ERR,
     .CAM_PIPE_RETRY, .CF_OREBIN_STALL, .CF_PE_RETRY, .CF_EE_RETRY, .DEC_SESS_CONCEALED, .DEC_SESS_DISCARD, .DEC_SESS_POOLWAIT,
     .DEC_SESS_HASH, .ENC_STATS_DROP, .ENC_CH_REPEAT, .ENC_CH_FILL, .ENC_CH_LATE, .ENC_CH_KEY_OVR, .ENC_CH_MISMATCH, .ENC_CH_POOLWAIT,
     .ENC_CH_PAIR_DIV, .ENC_CH_SKIPPED, .LY_FLAT_SPILL, .LY_UNDERRUN, .HD_OUT_STATUS, .HD_STAT, .HD_LATE, .HD_CMP_STAT, .HD_CMP_DISC,
     .HD_DP_HPD_CNT, .HD_DP_RETRAIN, .HD_FLOW_STAT, .HD_FLOW_GUARD, .HD_EFLOW_STAT, .HD_EFLOW_GUARD, .TM_RATE_LIMIT, .TM_PORT_BAD,
     .REF_DISAGREE_CNT, .REF_LOSS, .REF_HEAD_ADJ, .AUD_STATUS, .AUD_ZC_TIMEOUTS, .AUD_IN_SLIP, .AUD_IN_ERR, .AUD_IN_INVALID, .AUD_RX_LOST,
     .TCH_RING_DROP, .TCH_FE_WITHHELD, .TCH_FE_REBASE, .TCH_FE_NOISE_CNT, .DMC_CH_CE, .DMC_CH_UE, .DMC_CH_OVERQ, .DMC_CH_MAXSTALL,
     .SRM_ARR_CE, .SRM_ARR_UE, .SRM_SCR_DMA_WAIT, .MPU_VIOL_CNT, .MPU_MASTER_VIOL, .CHK_MISMATCH, .FLT_STATUS, .FLT_COUNT, .FLT_WR,
     .FLT_FIRST, .FLT_ISL_MASKED, .FLT_ISL_UNMASKED, .FLT_ISL_LAST, .PAIR_STATUS, .PAIR_SEAM_CRC, .PAIR_BOTH_DUTY, .PAIR_LATCH_MISS,
     .PAIR_FCRC_DIFF, .PWR_PMB_ERR, .PWR_ISL_DROOP, .SL_LANE_ERR, .SL_LANE_FEC, .SL_LANE_LOCKLOSS, .LODE_OVERRATE, .LODE_PLACE_FAIL])
  | .registerWrite _ _ _ => some (eventFields ++ [.sem, .ing, .cam, .enc, .hd, .tch], eventRegs ++ [.DEV_ROUTER, .DEV_SCRATCH, .HP_CMD_RD,
     .HP_CTL, .HP_EVT_BASE_LO, .HP_EVT_BASE_HI, .HP_EVT_SIZE, .HP_EVT_RD, .HP_IRQ_MOD, .HP_WR_DROP, .SEM_RESULT, .SEM_TIE, .ING_RING_RD,
     .CAM_STATS_RD, .ENC_STATS_RD, .HD_CMP_STAT, .HD_CMP_DISC, .TCH_RING_RD])
  | .dramRefresh _ => some ([.mem], [.DMC_CH_REFRESH])
  | .dramRetrainPause _ _ _ _ => some (eventFields ++ [.evLim, .hd, .flt, .pair, .mem, .aud], eventRegs ++ [.CNY_CTL, .HD_OUT_STATUS,
     .HD_STAT, .HD_CMP_STAT, .HD_FLOW_STAT, .HD_EFLOW_STAT, .AUD_STATUS, .DMC_STATUS, .DMC_CH_FAULT, .DMC_CH_STAT, .DMC_CH_RETRAIN,
     .DMC_CH_DRIFT, .FLT_STATUS, .FLT_COUNT, .FLT_WR, .FLT_FIRST, .FLT_ISL_MASKED, .FLT_ISL_UNMASKED, .FLT_ISL_LAST, .PAIR_STATUS])
  | .mr4Poll _ _ => some (eventFields ++ [.evLim, .hd, .flt, .pair, .mem, .aud], eventRegs ++ [.CNY_CTL, .HD_OUT_STATUS, .HD_STAT,
     .HD_CMP_STAT, .HD_FLOW_STAT, .HD_EFLOW_STAT, .AUD_STATUS, .DMC_STATUS, .DMC_CH_HOT, .DMC_CH_FAULT, .DMC_CH_STAT, .FLT_STATUS,
     .FLT_COUNT, .FLT_WR, .FLT_FIRST, .FLT_ISL_MASKED, .FLT_ISL_UNMASKED, .FLT_ISL_LAST, .PAIR_STATUS])
  | .dramPatrolRead _ _ _ => some (eventFields ++ [.evLim, .mem], eventRegs ++ [.DMC_SCRUB_PASS, .DMC_CH_CE, .DMC_CH_UE, .DMC_CH_UE_ADDR])
  | .arbiterWindowEnd _ => some ([.mem], [.DMC_CH_OVERQ])
  | .interconnectRequest _ => some (faultFields ++ [.sem, .dec, .pools, .mem, .latches, .xing], eventRegs ++ [.DEV_UNMAPPED, .DEV_RD_OFF,
     .DEV_SCRATCH, .HP_CMD_RD, .HP_CTL, .HP_EVT_BASE_LO, .HP_EVT_BASE_HI, .HP_EVT_SIZE, .HP_EVT_RD, .HP_IRQ_MOD, .HP_BUSY_CNT, .HP_CRC_CNT,
     .HP_WR_DROP, .HP_RD_BAD, .SEM_RESULT, .EVI_OVR, .CNY_CTL, .CNY_LIM_BUDGET, .CNY_LIM_MISC, .CNY_LOCK_VIOL, .CNY_STYLE, .CNY_FG, .CNY_BG,
     .CNY_MARKED, .CNY_DEADLINE, .CNY_MISC, .ING_SAMPLE_CNT, .ING_SAMPLE_DROP, .ING_INJECT_CNT, .ING_MAC_FCS, .ING_MAC_UNK, .ING_MAC_MISDIR,
     .ING_MAC_MALF, .ING_MAC_OVR, .ING_MG_LATE, .ING_CTX_CONCEALED, .ING_CTX_WITHHELD, .ING_CTX_LOST, .ING_CTX_RATE, .ING_SDI_CRC,
     .CAM_STATS_DROP, .CAM_PORT_HDR, .CAM_PORT_CRC, .CAM_PORT_UNBOUND, .CAM_CTX_WITHHELD, .CAM_CTX_SUPERSEDED, .CAM_CTX_OVERLONG,
     .CAM_CTX_LINE_ERR, .CAM_PIPE_RETRY, .CF_OREBIN_STALL, .CF_PE_RETRY, .CF_EE_RETRY, .DEC_SESS_CONCEALED, .DEC_SESS_DISCARD,
     .DEC_SESS_POOLWAIT, .DEC_SESS_HASH, .ENC_STATS_DROP, .ENC_CH_REPEAT, .ENC_CH_FILL, .ENC_CH_LATE, .ENC_CH_KEY_OVR, .ENC_CH_MISMATCH,
     .ENC_CH_POOLWAIT, .ENC_CH_PAIR_DIV, .ENC_CH_SKIPPED, .LY_FLAT_SPILL, .LY_UNDERRUN, .HD_OUT_STATUS, .HD_STAT, .HD_LATE, .HD_CMP_STAT,
     .HD_CMP_DISC, .HD_DP_HPD_CNT, .HD_DP_RETRAIN, .HD_FLOW_STAT, .HD_FLOW_GUARD, .HD_EFLOW_STAT, .HD_EFLOW_GUARD, .TM_RATE_LIMIT,
     .TM_PORT_BAD, .REF_DISAGREE_CNT, .REF_LOSS, .REF_HEAD_ADJ, .AUD_STATUS, .AUD_ZC_TIMEOUTS, .AUD_IN_SLIP, .AUD_IN_ERR, .AUD_IN_INVALID,
     .AUD_RX_LOST, .TCH_RING_DROP, .TCH_FE_WITHHELD, .TCH_FE_REBASE, .TCH_FE_NOISE_CNT, .DMC_CH_CE, .DMC_CH_UE, .DMC_CH_UE_ADDR,
     .DMC_CH_OVERQ, .DMC_CH_MAXSTALL, .SRM_ARR_CE, .SRM_ARR_UE, .SRM_SCR_DMA_WAIT, .MPU_CTL, .MPU_VIOL_CNT, .MPU_LAST_INFO,
     .MPU_LAST_ADDR_LO, .MPU_LAST_ADDR_HI, .MPU_ENT_BASE, .MPU_ENT_LIMIT, .MPU_ENT_MASK_LO, .MPU_ENT_MASK_HI, .MPU_ENT_CTL, .MPU_ENT_DENY,
     .MPU_MASTER_VIOL, .CHK_STATUS, .CHK_STAT, .CHK_MISMATCH, .FLT_STATUS, .FLT_COUNT, .FLT_WR, .FLT_FIRST, .FLT_ISL_MASKED,
     .FLT_ISL_UNMASKED, .FLT_ISL_LAST, .PAIR_STATUS, .PAIR_SEAM_CRC, .PAIR_BOTH_DUTY, .PAIR_LATCH_MISS, .PAIR_FCRC_DIFF, .PWR_PMB_ERR,
     .PWR_ISL_DROOP, .SL_LANE_ERR, .SL_LANE_FEC, .SL_LANE_LOCKLOSS, .LODE_OVERRATE, .LODE_PLACE_FAIL])
  | .sramPatrol _ _ _ _ _ _ => some (eventFields ++ [.prof, .evLim, .ing, .lode, .cam, .fab, .pools, .runs, .hd, .flt, .pair, .mem, .aud],
     eventRegs ++ [.PRF_STATE, .CNY_CTL, .ING_CTX_STAT, .CAM_STATUS, .CAM_CTX_STAT, .CAM_CTX_WITHHELD, .CAM_CTX_QUEUE_US, .CAM_PIPE_STAT,
     .CAM_PIPE_RETRY, .CF_PE_STAT, .CF_PE_RETRY, .CF_EE_STAT, .CF_EE_RETRY, .LY_FLAT_USE, .LY_FLAT_INVAL, .HD_OUT_STATUS, .HD_STAT,
     .HD_CMP_STAT, .HD_CMP_BASE, .HD_FLOW_STAT, .HD_EFLOW_STAT, .AUD_STATUS, .SRM_ARR_CE, .SRM_ARR_UE, .SRM_ARR_LAST, .SRM_ARR_SCRUB,
     .FLT_STATUS, .FLT_COUNT, .FLT_WR, .FLT_FIRST, .FLT_ISL_MASKED, .FLT_ISL_UNMASKED, .FLT_ISL_LAST, .PAIR_STATUS])
  | .islandClearDone _ => some (faultFields ++ [.sem, .ing, .cam, .dec, .pools, .runs, .pwr, .mem, .tch, .latches, .xing], eventRegs ++
     [.DEV_UNMAPPED, .DEV_RD_OFF, .DEV_SCRATCH, .HP_CMD_RD, .HP_CTL, .HP_EVT_BASE_LO, .HP_EVT_BASE_HI, .HP_EVT_SIZE, .HP_EVT_RD,
     .HP_IRQ_MOD, .HP_BUSY_CNT, .HP_CRC_CNT, .HP_WR_DROP, .HP_RD_BAD, .SEM_RESULT, .EVI_OVR, .CNY_CTL, .CNY_LIM_BUDGET, .CNY_LIM_MISC,
     .CNY_LOCK_VIOL, .CNY_STYLE, .CNY_FG, .CNY_BG, .CNY_LSTAT, .CNY_LAGE, .CNY_LBUDGET, .CNY_LWINDOW, .CNY_EVALS, .CNY_MARKED,
     .CNY_DEADLINE, .CNY_MISC, .ING_SAMPLE_CNT, .ING_SAMPLE_DROP, .ING_INJECT_CNT, .ING_MAC_FCS, .ING_MAC_UNK, .ING_MAC_MISDIR,
     .ING_MAC_MALF, .ING_MAC_OVR, .ING_MG_LATE, .ING_CTX_CONCEALED, .ING_CTX_WITHHELD, .ING_CTX_LOST, .ING_CTX_RATE, .ING_SDI_CRC,
     .CAM_STATS_DROP, .CAM_PORT_STAT, .CAM_PORT_HDR, .CAM_PORT_CRC, .CAM_PORT_UNBOUND, .CAM_CTX_WITHHELD, .CAM_CTX_SUPERSEDED,
     .CAM_CTX_OVERLONG, .CAM_CTX_LINE_ERR, .CAM_PIPE_STAT, .CAM_PIPE_FRAMES, .CAM_PIPE_RETRY, .CF_OREBIN_STALL, .CF_PE_RETRY, .CF_EE_RETRY,
     .DEC_SESS_CONCEALED, .DEC_SESS_DISCARD, .DEC_SESS_POOLWAIT, .DEC_SESS_HASH, .ENC_STATS_DROP, .ENC_CH_REPEAT, .ENC_CH_FILL,
     .ENC_CH_LATE, .ENC_CH_KEY_OVR, .ENC_CH_MISMATCH, .ENC_CH_POOLWAIT, .ENC_CH_PAIR_DIV, .ENC_CH_SKIPPED, .LY_FLAT_SPILL, .LY_STAT,
     .LY_SRC, .LY_ALLOC, .LY_FETCH, .LY_UMBRA, .LY_UNDERRUN, .HD_OUT_STATUS, .HD_STAT, .HD_FRAME_LO, .HD_FRAME_HI, .HD_FLIP_SEC,
     .HD_FLIP_NS, .HD_LATE, .HD_PCLK, .HD_CMP_STAT, .HD_CMP_DISC, .HD_CMP_BASE, .HD_DP_HPD_CNT, .HD_DP_RETRAIN, .HD_FLOW_STAT,
     .HD_FLOW_GUARD, .HD_EFLOW_STAT, .HD_EFLOW_GUARD, .TM_RATE_LIMIT, .TM_PORT_BAD, .REF_DISAGREE_CNT, .REF_LOSS, .REF_HEAD_ADJ,
     .AUD_STATUS, .AUD_HOUSE_OFS, .AUD_ZC_TIMEOUTS, .AUD_CHANNELS, .AUD_IN_STAT, .AUD_IN_SLIP, .AUD_IN_ERR, .AUD_IN_INVALID, .AUD_RX_LOST,
     .AUD_TX_PKTS, .TCH_STATUS, .TCH_RING_WR, .TCH_RING_RD, .TCH_RING_DROP, .TCH_FE_STAT, .TCH_FE_FRAMES, .TCH_FE_REPORTS, .TCH_FE_WITHHELD,
     .TCH_FE_REBASE, .TCH_FE_NOISE, .TCH_FE_NOISE_CNT, .TCH_FE_SUSPECT, .DMC_CH_CE, .DMC_CH_UE, .DMC_CH_UE_ADDR, .DMC_CH_OVERQ,
     .DMC_CH_MAXSTALL, .SRM_ARR_CE, .SRM_ARR_UE, .SRM_SCR_DMA_WAIT, .SRM_CLEARS, .MPU_CTL, .MPU_VIOL_CNT, .MPU_ENT_BASE, .MPU_ENT_LIMIT,
     .MPU_ENT_MASK_LO, .MPU_ENT_MASK_HI, .MPU_ENT_CTL, .MPU_MASTER_VIOL, .CHK_MISMATCH, .FLT_STATUS, .FLT_COUNT, .FLT_WR, .FLT_FIRST,
     .FLT_ISL_MASKED, .FLT_ISL_UNMASKED, .FLT_ISL_LAST, .PAIR_STATUS, .PAIR_SEAM_CRC, .PAIR_BOTH_DUTY, .PAIR_LATCH_MISS, .PAIR_FCRC_DIFF,
     .PWR_STATUS, .PWR_VSET, .PWR_PMB_ERR, .PWR_ISL_STAT, .PWR_ISL_DROOP, .SL_QUAD_STAT, .SL_LANE_STAT, .SL_LANE_ERR, .SL_LANE_FEC,
     .SL_LANE_LOCKLOSS, .SL_PRBS_BITS_LO, .SL_PRBS_BITS_HI, .SL_PRBS_ERR, .SL_PRBS_STAT, .LODE_OVERRATE, .LODE_PLACE_FAIL])
  | .chkRunEnd _ _ => some (faultFields, eventRegs ++ [.DEV_UNMAPPED, .HP_CRC_CNT, .CNY_CTL, .HD_OUT_STATUS, .HD_STAT, .HD_CMP_STAT,
     .HD_FLOW_STAT, .HD_EFLOW_STAT, .AUD_STATUS, .DMC_CH_UE, .DMC_CH_UE_ADDR, .MPU_VIOL_CNT, .MPU_LAST_INFO, .MPU_LAST_ADDR_LO,
     .MPU_LAST_ADDR_HI, .MPU_ENT_DENY, .MPU_MASTER_VIOL, .CHK_STATUS, .CHK_STAT, .CHK_RESULT, .CHK_RUNS, .CHK_MISMATCH, .FLT_STATUS,
     .FLT_COUNT, .FLT_WR, .FLT_FIRST, .FLT_ISL_MASKED, .FLT_ISL_UNMASKED, .FLT_ISL_LAST, .PAIR_STATUS])
  | .chkPeriodStart _ => some ([.flt], [.CHK_STATUS, .CHK_STAT])
  | .faultRecordArrive _ => some (faultFields, faultRegs)
  | .dutyRelease => some (answerFields ++ [.hd, .flt, .pair, .aud], eventRegs ++ [.HP_CRC_CNT, .CNY_CTL, .HD_OUT_STATUS, .HD_STAT,
     .HD_CMP_STAT, .HD_FLOW_STAT, .HD_EFLOW_STAT, .AUD_STATUS, .FLT_STATUS, .FLT_FIRST, .PAIR_STATUS, .PAIR_EVT_SEC, .PAIR_EVT_NS])
  | .hwDutyRelease => some (faultFields, faultRegs)
  | .islandLivenessTimeout _ => some (eventFields ++ [.evLim, .hd, .flt, .pair, .aud], eventRegs ++ [.CNY_CTL, .HD_OUT_STATUS, .HD_STAT,
     .HD_CMP_STAT, .HD_FLOW_STAT, .HD_EFLOW_STAT, .AUD_STATUS, .FLT_STATUS, .FLT_COUNT, .FLT_WR, .FLT_FIRST, .FLT_ISL_MASKED,
     .FLT_ISL_UNMASKED, .FLT_ISL_LAST, .PAIR_STATUS])
  | .heartbeatWrite _ => some ([.flt], [.FLT_WD])
  | .watchdogTimeout _ => some (faultFields, faultRegs ++ [.FLT_WD])
  | .restartGraceExpiry => some (faultFields, faultRegs)
  | .lockstepMismatch _ => some (faultFields, faultRegs)
  | .dbgAuthenticate _ _ => some ([.flt], [])
  | .porstRelease _ _ => some (eventFields ++ [.tm, .boot, .pwr], eventRegs ++ [.DEV_BOOT, .PAIR_STATUS, .PWR_STATUS, .PWR_VSET, .PWR_ISL_STAT])
  | .trstAssert => some ([.flt], [])
  | .railExcursion => some (eventFields ++ [.evLim, .hd, .flt, .pair, .aud], eventRegs ++ [.CNY_CTL, .HD_OUT_STATUS, .HD_STAT, .HD_CMP_STAT,
     .HD_FLOW_STAT, .HD_EFLOW_STAT, .AUD_STATUS, .FLT_STATUS, .FLT_COUNT, .FLT_WR, .FLT_FIRST, .FLT_ISL_MASKED, .FLT_ISL_UNMASKED,
     .FLT_ISL_LAST, .PAIR_STATUS])
  | .avsMeasure _ _ _ => some (eventFields ++ [.evLim, .hd, .flt, .pair, .pwr, .aud], eventRegs ++ [.CNY_CTL, .HD_OUT_STATUS, .HD_STAT,
     .HD_CMP_STAT, .HD_FLOW_STAT, .HD_EFLOW_STAT, .AUD_STATUS, .FLT_STATUS, .FLT_COUNT, .FLT_WR, .FLT_FIRST, .FLT_ISL_MASKED,
     .FLT_ISL_UNMASKED, .FLT_ISL_LAST, .PAIR_STATUS, .PWR_STATUS, .PWR_VSET, .PWR_ISL_STAT])
  | .pmbusPoll _ _ _ _ _ _ _ => some (eventFields ++ [.evLim, .hd, .flt, .pair, .pwr, .aud], eventRegs ++ [.CNY_CTL, .HD_OUT_STATUS,
     .HD_STAT, .HD_CMP_STAT, .HD_FLOW_STAT, .HD_EFLOW_STAT, .AUD_STATUS, .FLT_STATUS, .FLT_COUNT, .FLT_WR, .FLT_FIRST, .FLT_ISL_MASKED,
     .FLT_ISL_UNMASKED, .FLT_ISL_LAST, .PAIR_STATUS, .PWR_STATUS, .PWR_VSET, .PWR_VREAD, .PWR_IREAD, .PWR_PMB_ERR])
  | .droopStretch _ _ => some (eventFields ++ [.evLim, .hd, .flt, .pair, .pwr, .aud], eventRegs ++ [.CNY_CTL, .HD_OUT_STATUS, .HD_STAT,
     .HD_CMP_STAT, .HD_FLOW_STAT, .HD_EFLOW_STAT, .AUD_STATUS, .FLT_STATUS, .FLT_COUNT, .FLT_WR, .FLT_FIRST, .FLT_ISL_MASKED,
     .FLT_ISL_UNMASKED, .FLT_ISL_LAST, .PAIR_STATUS, .PWR_ISL_STRETCH, .PWR_ISL_DROOP])
  | .thermalSensorRead _ _ => some (eventFields ++ [.evLim, .hd, .flt, .pair, .pwr, .aud], eventRegs ++ [.CNY_CTL, .HD_OUT_STATUS, .HD_STAT,
     .HD_CMP_STAT, .HD_FLOW_STAT, .HD_EFLOW_STAT, .AUD_STATUS, .FLT_STATUS, .FLT_COUNT, .FLT_WR, .FLT_FIRST, .FLT_ISL_MASKED,
     .FLT_ISL_UNMASKED, .FLT_ISL_LAST, .PAIR_STATUS, .PWR_STATUS, .PWR_TJ, .PWR_ISL_TEMP])
  | .lanePllUnlock _ _ => some (eventFields ++ [.evLim, .hd, .flt, .pair, .aud], eventRegs ++ [.CNY_CTL, .HD_OUT_STATUS, .HD_STAT,
     .HD_CMP_STAT, .HD_FLOW_STAT, .HD_EFLOW_STAT, .AUD_STATUS, .FLT_STATUS, .FLT_COUNT, .FLT_WR, .FLT_FIRST, .FLT_ISL_MASKED,
     .FLT_ISL_UNMASKED, .FLT_ISL_LAST, .PAIR_STATUS, .SL_QUAD_STAT])
  | .laneLockChange _ _ _ _ _ => some (eventFields ++ [.evLim, .ing, .pair], eventRegs ++ [.ING_STATUS, .PAIR_SEAM_STAT, .PAIR_SEAM_CRC,
     .SL_LANE_STAT, .SL_LANE_ERR, .SL_LANE_FEC, .SL_LANE_LOCKLOSS])
  | .islandClockLoss _ => some (eventFields ++ [.evLim, .hd, .flt, .pair, .aud], eventRegs ++ [.CNY_CTL, .HD_OUT_STATUS, .HD_STAT,
     .HD_CMP_STAT, .HD_FLOW_STAT, .HD_EFLOW_STAT, .AUD_STATUS, .FLT_STATUS, .FLT_COUNT, .FLT_WR, .FLT_FIRST, .FLT_ISL_MASKED,
     .FLT_ISL_UNMASKED, .FLT_ISL_LAST, .PAIR_STATUS])
  | .faultPortLivenessRecord _ => some ([.flt], [])
  | .prbsCheckerLockChange _ _ _ => some ([.sl], [.SL_LANE_STAT, .SL_PRBS_BITS_LO, .SL_PRBS_BITS_HI, .SL_PRBS_ERR, .SL_PRBS_STAT])
  | .islandPowerOff _ => some (answerFields ++ [.ing, .cam, .runs, .hd, .flt, .pwr, .sl, .mem, .aud, .tch], eventRegs ++ [.HP_CRC_CNT,
     .CNY_STYLE, .CNY_FG, .CNY_BG, .CNY_LSTAT, .CNY_LAGE, .CNY_LBUDGET, .CNY_LWINDOW, .CNY_EVALS, .CNY_MARKED, .CNY_DEADLINE, .CNY_MISC,
     .CAM_PORT_STAT, .CAM_PORT_HDR, .CAM_PORT_CRC, .CAM_PORT_UNBOUND, .CAM_PIPE_STAT, .CAM_PIPE_FRAMES, .CAM_PIPE_RETRY, .LY_STAT, .LY_SRC,
     .LY_ALLOC, .LY_FETCH, .LY_UMBRA, .LY_UNDERRUN, .HD_STAT, .HD_FRAME_LO, .HD_FRAME_HI, .HD_FLIP_SEC, .HD_FLIP_NS, .HD_LATE, .HD_PCLK,
     .HD_CMP_STAT, .HD_CMP_DISC, .HD_CMP_BASE, .AUD_STATUS, .AUD_HOUSE_OFS, .AUD_ZC_TIMEOUTS, .AUD_CHANNELS, .AUD_IN_STAT, .AUD_IN_SLIP,
     .AUD_IN_ERR, .AUD_IN_INVALID, .AUD_RX_LOST, .AUD_TX_PKTS, .TCH_STATUS, .TCH_RING_WR, .TCH_RING_RD, .TCH_RING_DROP, .TCH_FE_STAT,
     .TCH_FE_FRAMES, .TCH_FE_REPORTS, .TCH_FE_WITHHELD, .TCH_FE_REBASE, .TCH_FE_NOISE, .TCH_FE_NOISE_CNT, .TCH_FE_SUSPECT, .PWR_STATUS,
     .PWR_VSET, .PWR_ISL_STAT, .SL_QUAD_STAT, .SL_LANE_STAT, .SL_LANE_ERR, .SL_LANE_FEC, .SL_LANE_LOCKLOSS, .SL_PRBS_BITS_LO,
     .SL_PRBS_BITS_HI, .SL_PRBS_ERR, .SL_PRBS_STAT])
  | .evinActionPendingExpiry _ => some (headsFields ++ [.evin, .fab, .dec, .enc], headsRegs ++ [.ING_CTX_STAT, .CAM_STATUS, .CAM_CTX_STAT,
     .CAM_CTX_WITHHELD, .CAM_CTX_QUEUE_US, .CF_STATUS, .CF_JOBS_INFL, .CF_JOBS_DRAM, .CF_OREBIN_USE, .CF_PE_STAT, .CF_EE_STAT, .DEC_STATUS,
     .DEC_SESS_STAT, .DEC_SESS_LEVEL, .ENC_STATUS, .ENC_CH_STAT, .ENC_CH_DELAY_NS, .LY_FLAT_USE, .LY_FLAT_INVAL])
  | .crossingRegisterRead _ _ _ => some (eventFields ++ [.evLim, .hd, .flt, .pair, .aud, .latches, .xing], eventRegs ++ [.DEV_UNMAPPED,
     .DEV_RD_OFF, .HP_BUSY_CNT, .HP_CRC_CNT, .HP_WR_DROP, .HP_RD_BAD, .EVI_OVR, .CNY_CTL, .CNY_LOCK_VIOL, .CNY_MARKED, .CNY_DEADLINE,
     .CNY_MISC, .ING_SAMPLE_CNT, .ING_SAMPLE_DROP, .ING_INJECT_CNT, .ING_MAC_FCS, .ING_MAC_UNK, .ING_MAC_MISDIR, .ING_MAC_MALF,
     .ING_MAC_OVR, .ING_MG_LATE, .ING_CTX_CONCEALED, .ING_CTX_WITHHELD, .ING_CTX_LOST, .ING_CTX_RATE, .ING_SDI_CRC, .CAM_STATS_DROP,
     .CAM_PORT_HDR, .CAM_PORT_CRC, .CAM_PORT_UNBOUND, .CAM_CTX_WITHHELD, .CAM_CTX_SUPERSEDED, .CAM_CTX_OVERLONG, .CAM_CTX_LINE_ERR,
     .CAM_PIPE_RETRY, .CF_OREBIN_STALL, .CF_PE_RETRY, .CF_EE_RETRY, .DEC_SESS_CONCEALED, .DEC_SESS_DISCARD, .DEC_SESS_POOLWAIT,
     .DEC_SESS_HASH, .ENC_STATS_DROP, .ENC_CH_REPEAT, .ENC_CH_FILL, .ENC_CH_LATE, .ENC_CH_KEY_OVR, .ENC_CH_MISMATCH, .ENC_CH_POOLWAIT,
     .ENC_CH_PAIR_DIV, .ENC_CH_SKIPPED, .LY_FLAT_SPILL, .LY_UNDERRUN, .HD_OUT_STATUS, .HD_STAT, .HD_LATE, .HD_CMP_STAT, .HD_CMP_DISC,
     .HD_DP_HPD_CNT, .HD_DP_RETRAIN, .HD_FLOW_STAT, .HD_FLOW_GUARD, .HD_EFLOW_STAT, .HD_EFLOW_GUARD, .TM_RATE_LIMIT, .TM_PORT_BAD,
     .REF_DISAGREE_CNT, .REF_LOSS, .REF_HEAD_ADJ, .AUD_STATUS, .AUD_ZC_TIMEOUTS, .AUD_IN_SLIP, .AUD_IN_ERR, .AUD_IN_INVALID, .AUD_RX_LOST,
     .TCH_RING_DROP, .TCH_FE_WITHHELD, .TCH_FE_REBASE, .TCH_FE_NOISE_CNT, .DMC_CH_CE, .DMC_CH_UE, .DMC_CH_OVERQ, .DMC_CH_MAXSTALL,
     .SRM_ARR_CE, .SRM_ARR_UE, .SRM_SCR_DMA_WAIT, .MPU_VIOL_CNT, .MPU_MASTER_VIOL, .CHK_MISMATCH, .FLT_STATUS, .FLT_COUNT, .FLT_WR,
     .FLT_FIRST, .FLT_ISL_MASKED, .FLT_ISL_UNMASKED, .FLT_ISL_LAST, .PAIR_STATUS, .PAIR_SEAM_CRC, .PAIR_BOTH_DUTY, .PAIR_LATCH_MISS,
     .PAIR_FCRC_DIFF, .PWR_PMB_ERR, .PWR_ISL_DROOP, .SL_LANE_ERR, .SL_LANE_FEC, .SL_LANE_LOCKLOSS, .LODE_OVERRATE, .LODE_PLACE_FAIL])
  | .offIslandRegisterRead _ _ => some ([.latches], [.DEV_UNMAPPED, .DEV_RD_OFF, .HP_EVT_DROP, .HP_BUSY_CNT, .HP_CRC_CNT, .HP_WR_DROP,
     .HP_RD_BAD, .EVI_OVR, .CNY_LOCK_VIOL, .CNY_MARKED, .CNY_DEADLINE, .CNY_MISC, .ING_SAMPLE_CNT, .ING_SAMPLE_DROP, .ING_INJECT_CNT,
     .ING_MAC_FCS, .ING_MAC_UNK, .ING_MAC_MISDIR, .ING_MAC_MALF, .ING_MAC_OVR, .ING_MG_LATE, .ING_CTX_CONCEALED, .ING_CTX_WITHHELD,
     .ING_CTX_LOST, .ING_CTX_RATE, .ING_SDI_CRC, .CAM_STATS_DROP, .CAM_PORT_HDR, .CAM_PORT_CRC, .CAM_PORT_UNBOUND, .CAM_CTX_WITHHELD,
     .CAM_CTX_SUPERSEDED, .CAM_CTX_OVERLONG, .CAM_CTX_LINE_ERR, .CAM_PIPE_RETRY, .CF_OREBIN_STALL, .CF_PE_RETRY, .CF_EE_RETRY,
     .DEC_SESS_CONCEALED, .DEC_SESS_DISCARD, .DEC_SESS_POOLWAIT, .DEC_SESS_HASH, .ENC_STATS_DROP, .ENC_CH_REPEAT, .ENC_CH_FILL,
     .ENC_CH_LATE, .ENC_CH_KEY_OVR, .ENC_CH_MISMATCH, .ENC_CH_POOLWAIT, .ENC_CH_PAIR_DIV, .ENC_CH_SKIPPED, .LY_FLAT_SPILL, .LY_UNDERRUN,
     .HD_LATE, .HD_CMP_DISC, .HD_DP_HPD_CNT, .HD_DP_RETRAIN, .HD_FLOW_GUARD, .HD_EFLOW_GUARD, .TM_RATE_LIMIT, .TM_PORT_BAD,
     .REF_DISAGREE_CNT, .REF_LOSS, .REF_HEAD_ADJ, .AUD_ZC_TIMEOUTS, .AUD_IN_SLIP, .AUD_IN_ERR, .AUD_IN_INVALID, .AUD_RX_LOST,
     .TCH_RING_DROP, .TCH_FE_WITHHELD, .TCH_FE_REBASE, .TCH_FE_NOISE_CNT, .DMC_CH_CE, .DMC_CH_UE, .DMC_CH_OVERQ, .DMC_CH_MAXSTALL,
     .SRM_ARR_CE, .SRM_ARR_UE, .SRM_SCR_DMA_WAIT, .MPU_VIOL_CNT, .MPU_MASTER_VIOL, .CHK_MISMATCH, .FLT_ISL_MASKED, .PAIR_SEAM_CRC,
     .PAIR_BOTH_DUTY, .PAIR_LATCH_MISS, .PAIR_FCRC_DIFF, .PWR_PMB_ERR, .PWR_ISL_DROOP, .SL_LANE_ERR, .SL_LANE_FEC, .SL_LANE_LOCKLOSS,
     .LODE_OVERRATE, .LODE_PLACE_FAIL])
  | _ => none

/-- What the commands of the Canary, composition and scan-out may change; none for the others. -/
def pictureFootprint : Instr → Option (List Field × List Reg)
  | .cnyLimits _ _ => some (answerFields, answerRegs ++ [.CNY_LIM_BUDGET, .CNY_LIM_MISC])
  | .cnyLock _ _ => some (answerFields, eventRegs ++ [.HP_CRC_CNT, .CNY_CTL, .CNY_LOCK_SEC, .CNY_LOCK_NS])
  | .cnyHeadStyle _ _ => some (headsFields, headsRegs)
  | .cnyStill _ _ => some (headsFields, headsRegs)
  | .cnyHistory _ _ => some (answerFields, answerRegs)
  | .injectFrameSent _ => some (answerFields ++ [.ing], answerRegs ++ [.ING_INJECT_CNT])
  | .lyConfig _ _ => some (headsFields, headsRegs)
  | .lyPalette _ _ => some (headsFields, headsRegs)
  | .lyColour _ _ _ => some (headsFields, headsRegs)
  | .hdCompose _ _ _ => some (headsFields, headsRegs)
  | .cmpCommit _ _ => some (headsFields, headsRegs)
  | .cmpDiscard _ _ => some (answerFields ++ [.hd], eventRegs ++ [.HP_CRC_CNT, .HD_CMP_STAT, .HD_CMP_DISC])
  | .gfxPool _ _ => some (answerFields ++ [.pools, .runs, .mem], answerRegs ++ [.LY_GFX_STAT])
  | .gfxUpload _ _ _ => some (answerFields ++ [.pools], answerRegs ++ [.LY_GFX_STAT])
  | .hdTiming _ _ => some (headsFields, headsRegs)
  | .hdOutput _ _ => some (headsFields, headsRegs)
  | .hdHold _ _ => some (answerFields, answerRegs ++ [.HD_HOLD_MAX])
  | .hdDpAux _ _ _ _ => some (answerFields, answerRegs)
  | .audTx _ _ => some (answerFields ++ [.prof, .ing, .cam, .runs, .hd, .flt, .pwr, .mem, .aud, .tch], eventRegs ++ [.HP_CRC_CNT,
     .CNY_STYLE, .CNY_FG, .CNY_BG, .CNY_LSTAT, .CNY_LAGE, .CNY_LBUDGET, .CNY_LWINDOW, .CNY_EVALS, .CNY_MARKED, .CNY_DEADLINE, .CNY_MISC,
     .CAM_PORT_STAT, .CAM_PORT_HDR, .CAM_PORT_CRC, .CAM_PORT_UNBOUND, .CAM_PIPE_STAT, .CAM_PIPE_FRAMES, .CAM_PIPE_RETRY, .LY_STAT, .LY_SRC,
     .LY_ALLOC, .LY_FETCH, .LY_UMBRA, .LY_UNDERRUN, .HD_STAT, .HD_FRAME_LO, .HD_FRAME_HI, .HD_FLIP_SEC, .HD_FLIP_NS, .HD_LATE, .HD_PCLK,
     .HD_CMP_STAT, .HD_CMP_DISC, .HD_CMP_BASE, .AUD_STATUS, .AUD_HOUSE_OFS, .AUD_ZC_TIMEOUTS, .AUD_CHANNELS, .AUD_IN_STAT, .AUD_IN_SLIP,
     .AUD_IN_ERR, .AUD_IN_INVALID, .AUD_RX_LOST, .AUD_TX_PKTS, .TCH_STATUS, .TCH_RING_WR, .TCH_RING_RD, .TCH_RING_DROP, .TCH_FE_STAT,
     .TCH_FE_FRAMES, .TCH_FE_REPORTS, .TCH_FE_WITHHELD, .TCH_FE_REBASE, .TCH_FE_NOISE, .TCH_FE_NOISE_CNT, .TCH_FE_SUSPECT, .SRM_CLEARS,
     .PWR_STATUS, .PWR_VSET, .PWR_ISL_STAT, .SL_QUAD_STAT, .SL_LANE_STAT, .SL_LANE_ERR, .SL_LANE_FEC, .SL_LANE_LOCKLOSS, .SL_PRBS_BITS_LO,
     .SL_PRBS_BITS_HI, .SL_PRBS_ERR, .SL_PRBS_STAT])
  | .frameBoundary _ => some (faultFields ++ [.prof, .pools, .runs, .boot, .enc, .sl, .mem], faultRegs ++ [.PRF_STATE, .CNY_STYLE, .CNY_FG,
     .CNY_BG, .CNY_LSTAT, .CNY_LAGE, .CNY_LBUDGET, .CNY_LWINDOW, .CNY_MISC, .DEC_SESS_STAT, .LY_FLAT_USE, .LY_FLAT_INVAL, .LY_STAT, .LY_SRC,
     .LY_ALLOC, .LY_FETCH, .LY_UMBRA, .HD_FRAME_LO, .HD_FRAME_HI, .HD_FLIP_SEC, .HD_FLIP_NS, .HD_LATE, .HD_PCLK, .HD_CMP_BASE, .HD_DP_STAT,
     .HD_DP_RETRAIN, .HD_SDI_STAT, .REF_HEAD_ERR, .REF_HEAD_ADJ, .PAIR_HANDOVERS, .SL_LANE_STAT, .SL_PRBS_BITS_LO, .SL_PRBS_BITS_HI,
     .SL_PRBS_STAT])
  | .commitWindowClose _ => some ([.hd], [.HD_CMP_STAT])
  | .canaryEvaluation _ _ _ _ => some (eventFields ++ [.evLim, .hd, .flt, .pair, .aud], eventRegs ++ [.CNY_CTL, .CNY_LSTAT, .CNY_LAGE,
     .CNY_EVALS, .CNY_MARKED, .CNY_MISC, .HD_OUT_STATUS, .HD_STAT, .HD_CMP_STAT, .HD_FLOW_STAT, .HD_EFLOW_STAT, .AUD_STATUS, .FLT_STATUS,
     .FLT_COUNT, .FLT_WR, .FLT_FIRST, .FLT_ISL_MASKED, .FLT_ISL_UNMASKED, .FLT_ISL_LAST, .PAIR_STATUS])
  | .evalDeadlineMiss _ _ => some (eventFields ++ [.evLim, .hd, .flt, .pair, .aud], eventRegs ++ [.CNY_CTL, .CNY_LSTAT, .CNY_LAGE,
     .CNY_EVALS, .CNY_MARKED, .CNY_DEADLINE, .CNY_MISC, .HD_OUT_STATUS, .HD_STAT, .HD_CMP_STAT, .HD_FLOW_STAT, .HD_EFLOW_STAT, .AUD_STATUS,
     .FLT_STATUS, .FLT_COUNT, .FLT_WR, .FLT_FIRST, .FLT_ISL_MASKED, .FLT_ISL_UNMASKED, .FLT_ISL_LAST, .PAIR_STATUS])
  | .lineCompose _ _ _ => some (eventFields ++ [.evLim, .hd, .flt, .pair, .aud], eventRegs ++ [.CNY_CTL, .LY_FLAT_USE, .LY_FLAT_SPILL,
     .LY_UNDERRUN, .HD_OUT_STATUS, .HD_STAT, .HD_CMP_STAT, .HD_CMP_BASE, .HD_FLOW_STAT, .HD_EFLOW_STAT, .AUD_STATUS, .FLT_STATUS,
     .FLT_COUNT, .FLT_WR, .FLT_FIRST, .FLT_ISL_MASKED, .FLT_ISL_UNMASKED, .FLT_ISL_LAST, .PAIR_STATUS])
  | .lineScan _ _ _ => some (eventFields ++ [.evLim, .hd, .flt, .pair, .aud], eventRegs ++ [.CNY_CTL, .CNY_LSTAT, .CNY_LAGE, .CNY_EVALS,
     .CNY_MARKED, .CNY_DEADLINE, .CNY_MISC, .HD_OUT_STATUS, .HD_STAT, .HD_CMP_STAT, .HD_SDI_FRAMES, .HD_FLOW_STAT, .HD_EFLOW_STAT,
     .AUD_STATUS, .FLT_STATUS, .FLT_COUNT, .FLT_WR, .FLT_FIRST, .FLT_ISL_MASKED, .FLT_ISL_UNMASKED, .FLT_ISL_LAST, .PAIR_STATUS,
     .PAIR_HEAD_STAT, .PAIR_FCRC_DIFF])
  | .dpHpdChange _ _ _ _ => some (eventFields ++ [.hd], eventRegs ++ [.HD_DP_STAT, .HD_DP_HPD_CNT, .HD_DP_RETRAIN, .SL_LANE_STAT])
  | .dpLinkTrainDone _ _ => some (eventFields, eventRegs ++ [.HD_DP_STAT, .SL_LANE_STAT])
  | .flowPacketSend _ => some (eventFields ++ [.evLim, .hd, .flt, .pair, .aud], eventRegs ++ [.CNY_CTL, .HD_OUT_STATUS, .HD_STAT,
     .HD_CMP_STAT, .HD_FLOW_STAT, .HD_FLOW_PKTS, .HD_FLOW_GUARD, .HD_FLOW_SEQ, .HD_EFLOW_STAT, .AUD_STATUS, .FLT_STATUS, .FLT_COUNT,
     .FLT_WR, .FLT_FIRST, .FLT_ISL_MASKED, .FLT_ISL_UNMASKED, .FLT_ISL_LAST, .PAIR_STATUS, .PAIR_HEAD_STAT])
  | .encFlowPacketSend _ => some (eventFields ++ [.evLim, .hd], eventRegs ++ [.HD_EFLOW_STAT, .HD_EFLOW_GUARD])
  | .holdMaxExpiry _ => some (eventFields ++ [.hd], eventRegs ++ [.HD_OUT_STATUS, .HD_STAT, .HD_CMP_STAT])
  | .audTxPacketSend _ => some ([.aud], [.AUD_TX_PKTS])
  | .pullRestTaken _ => some ([.hd], [.HD_CMP_STAT])
  | _ => none

/-- What the commands of ingest, cameras, decoders, the coding fabric and the encoder may change; none for the others. -/
def inputFootprint : Instr → Option (List Field × List Reg)
  | .ingMacConfig _ _ => some (answerFields ++ [.ing, .cam, .runs, .hd, .flt, .pwr, .sl, .mem, .aud, .tch], eventRegs ++ [.HP_CRC_CNT,
     .CNY_STYLE, .CNY_FG, .CNY_BG, .CNY_LSTAT, .CNY_LAGE, .CNY_LBUDGET, .CNY_LWINDOW, .CNY_EVALS, .CNY_MARKED, .CNY_DEADLINE, .CNY_MISC,
     .ING_STATUS, .CAM_PORT_STAT, .CAM_PORT_HDR, .CAM_PORT_CRC, .CAM_PORT_UNBOUND, .CAM_PIPE_STAT, .CAM_PIPE_FRAMES, .CAM_PIPE_RETRY,
     .LY_STAT, .LY_SRC, .LY_ALLOC, .LY_FETCH, .LY_UMBRA, .LY_UNDERRUN, .HD_STAT, .HD_FRAME_LO, .HD_FRAME_HI, .HD_FLIP_SEC, .HD_FLIP_NS,
     .HD_LATE, .HD_PCLK, .HD_CMP_STAT, .HD_CMP_DISC, .HD_CMP_BASE, .AUD_STATUS, .AUD_HOUSE_OFS, .AUD_ZC_TIMEOUTS, .AUD_CHANNELS,
     .AUD_IN_STAT, .AUD_IN_SLIP, .AUD_IN_ERR, .AUD_IN_INVALID, .AUD_RX_LOST, .AUD_TX_PKTS, .TCH_STATUS, .TCH_RING_WR, .TCH_RING_RD,
     .TCH_RING_DROP, .TCH_FE_STAT, .TCH_FE_FRAMES, .TCH_FE_REPORTS, .TCH_FE_WITHHELD, .TCH_FE_REBASE, .TCH_FE_NOISE, .TCH_FE_NOISE_CNT,
     .TCH_FE_SUSPECT, .SRM_CLEARS, .PWR_STATUS, .PWR_VSET, .PWR_ISL_STAT, .SL_QUAD_STAT, .SL_LANE_STAT, .SL_LANE_ERR, .SL_LANE_FEC,
     .SL_LANE_LOCKLOSS, .SL_PRBS_BITS_LO, .SL_PRBS_BITS_HI, .SL_PRBS_ERR, .SL_PRBS_STAT])
  | .ingContext _ _ => some (answerFields ++ [.prof, .ing, .pools, .runs, .mem], answerRegs ++ [.ING_CTX_STAT])
  | .ingMerge _ _ => some (answerFields ++ [.ing], answerRegs ++ [.ING_MG_STAT])
  | .ingSdi _ _ => some (answerFields ++ [.ing, .cam, .runs, .hd, .flt, .pwr, .sl, .mem, .aud, .tch], eventRegs ++ [.HP_CRC_CNT, .CNY_STYLE,
     .CNY_FG, .CNY_BG, .CNY_LSTAT, .CNY_LAGE, .CNY_LBUDGET, .CNY_LWINDOW, .CNY_EVALS, .CNY_MARKED, .CNY_DEADLINE, .CNY_MISC, .ING_STATUS,
     .ING_SDI_STAT, .CAM_PORT_STAT, .CAM_PORT_HDR, .CAM_PORT_CRC, .CAM_PORT_UNBOUND, .CAM_PIPE_STAT, .CAM_PIPE_FRAMES, .CAM_PIPE_RETRY,
     .LY_STAT, .LY_SRC, .LY_ALLOC, .LY_FETCH, .LY_UMBRA, .LY_UNDERRUN, .HD_STAT, .HD_FRAME_LO, .HD_FRAME_HI, .HD_FLIP_SEC, .HD_FLIP_NS,
     .HD_LATE, .HD_PCLK, .HD_CMP_STAT, .HD_CMP_DISC, .HD_CMP_BASE, .AUD_STATUS, .AUD_HOUSE_OFS, .AUD_ZC_TIMEOUTS, .AUD_CHANNELS,
     .AUD_IN_STAT, .AUD_IN_SLIP, .AUD_IN_ERR, .AUD_IN_INVALID, .AUD_RX_LOST, .AUD_TX_PKTS, .TCH_STATUS, .TCH_RING_WR, .TCH_RING_RD,
     .TCH_RING_DROP, .TCH_FE_STAT, .TCH_FE_FRAMES, .TCH_FE_REPORTS, .TCH_FE_WITHHELD, .TCH_FE_REBASE, .TCH_FE_NOISE, .TCH_FE_NOISE_CNT,
     .TCH_FE_SUSPECT, .SRM_CLEARS, .PWR_STATUS, .PWR_VSET, .PWR_ISL_STAT, .SL_QUAD_STAT, .SL_LANE_STAT, .SL_LANE_ERR, .SL_LANE_FEC,
     .SL_LANE_LOCKLOSS, .SL_PRBS_BITS_LO, .SL_PRBS_BITS_HI, .SL_PRBS_ERR, .SL_PRBS_STAT])
  | .lodeUpdate _ _ => some (answerFields ++ [.ing, .lode], answerRegs ++ [.ING_CTX_STAT, .LODE_COUNT, .LODE_UPDATES, .LODE_OVERRATE,
     .LODE_PLACE_FAIL])
  | .lodeRead _ _ => some (answerFields, answerRegs)
  | .ingHostRing _ _ => some (answerFields ++ [.ing], answerRegs ++ [.ING_RING_WR, .ING_RING_RD])
  | .ingInject _ _ => some (answerFields ++ [.ing], answerRegs)
  | .camPort _ _ => some (answerFields ++ [.evLim, .ing, .cam, .pools, .runs, .hd, .flt, .pwr, .mem, .aud, .tch], eventRegs ++ [.HP_CRC_CNT,
     .CNY_STYLE, .CNY_FG, .CNY_BG, .CNY_LSTAT, .CNY_LAGE, .CNY_LBUDGET, .CNY_LWINDOW, .CNY_EVALS, .CNY_MARKED, .CNY_DEADLINE, .CNY_MISC,
     .CAM_STATUS, .CAM_PORT_STAT, .CAM_PORT_HDR, .CAM_PORT_CRC, .CAM_PORT_UNBOUND, .CAM_CTX_STAT, .CAM_CTX_WITHHELD, .CAM_CTX_SUPERSEDED,
     .CAM_CTX_OVERLONG, .CAM_CTX_QUEUE_US, .CAM_PIPE_STAT, .CAM_PIPE_FRAMES, .CAM_PIPE_RETRY, .LY_STAT, .LY_SRC, .LY_ALLOC, .LY_FETCH,
     .LY_UMBRA, .LY_UNDERRUN, .HD_STAT, .HD_FRAME_LO, .HD_FRAME_HI, .HD_FLIP_SEC, .HD_FLIP_NS, .HD_LATE, .HD_PCLK, .HD_CMP_STAT,
     .HD_CMP_DISC, .HD_CMP_BASE, .AUD_STATUS, .AUD_HOUSE_OFS, .AUD_ZC_TIMEOUTS, .AUD_CHANNELS, .AUD_IN_STAT, .AUD_IN_SLIP, .AUD_IN_ERR,
     .AUD_IN_INVALID, .AUD_RX_LOST, .AUD_TX_PKTS, .TCH_STATUS, .TCH_RING_WR, .TCH_RING_RD, .TCH_RING_DROP, .TCH_FE_STAT, .TCH_FE_FRAMES,
     .TCH_FE_REPORTS, .TCH_FE_WITHHELD, .TCH_FE_REBASE, .TCH_FE_NOISE, .TCH_FE_NOISE_CNT, .TCH_FE_SUSPECT, .SRM_CLEARS, .PWR_STATUS,
     .PWR_VSET, .PWR_ISL_STAT, .SL_QUAD_STAT, .SL_LANE_STAT, .SL_LANE_ERR, .SL_LANE_FEC, .SL_LANE_LOCKLOSS, .SL_PRBS_BITS_LO,
     .SL_PRBS_BITS_HI, .SL_PRBS_ERR, .SL_PRBS_STAT])
  | .camContext _ _ => some (answerFields ++ [.prof, .evLim, .ing, .cam, .pools, .runs, .hd, .flt, .pwr, .mem, .aud, .tch], eventRegs ++
     [.HP_CRC_CNT, .CNY_STYLE, .CNY_FG, .CNY_BG, .CNY_LSTAT, .CNY_LAGE, .CNY_LBUDGET, .CNY_LWINDOW, .CNY_EVALS, .CNY_MARKED, .CNY_DEADLINE,
     .CNY_MISC, .CAM_STATUS, .CAM_PORT_STAT, .CAM_PORT_HDR, .CAM_PORT_CRC, .CAM_PORT_UNBOUND, .CAM_CTX_STAT, .CAM_CTX_WITHHELD,
     .CAM_CTX_QUEUE_US, .CAM_PIPE_STAT, .CAM_PIPE_FRAMES, .CAM_PIPE_RETRY, .LY_STAT, .LY_SRC, .LY_ALLOC, .LY_FETCH, .LY_UMBRA, .LY_UNDERRUN,
     .HD_STAT, .HD_FRAME_LO, .HD_FRAME_HI, .HD_FLIP_SEC, .HD_FLIP_NS, .HD_LATE, .HD_PCLK, .HD_CMP_STAT, .HD_CMP_DISC, .HD_CMP_BASE,
     .AUD_STATUS, .AUD_HOUSE_OFS, .AUD_ZC_TIMEOUTS, .AUD_CHANNELS, .AUD_IN_STAT, .AUD_IN_SLIP, .AUD_IN_ERR, .AUD_IN_INVALID, .AUD_RX_LOST,
     .AUD_TX_PKTS, .TCH_STATUS, .TCH_RING_WR, .TCH_RING_RD, .TCH_RING_DROP, .TCH_FE_STAT, .TCH_FE_FRAMES, .TCH_FE_REPORTS, .TCH_FE_WITHHELD,
     .TCH_FE_REBASE, .TCH_FE_NOISE, .TCH_FE_NOISE_CNT, .TCH_FE_SUSPECT, .SRM_CLEARS, .PWR_STATUS, .PWR_VSET, .PWR_ISL_STAT, .SL_QUAD_STAT,
     .SL_LANE_STAT, .SL_LANE_ERR, .SL_LANE_FEC, .SL_LANE_LOCKLOSS, .SL_PRBS_BITS_LO, .SL_PRBS_BITS_HI, .SL_PRBS_ERR, .SL_PRBS_STAT])
  | .camParams _ _ => some (answerFields ++ [.cam], answerRegs ++ [.CAM_STATUS, .CAM_CTX_STAT])
  | .camDefects _ _ _ => some (answerFields ++ [.cam], answerRegs ++ [.CAM_STATUS, .CAM_CTX_STAT])
  | .camStatsRing _ _ => some (answerFields ++ [.cam], answerRegs ++ [.CAM_STATS_WR, .CAM_STATS_RD])
  | .decSession _ _ => some (answerFields ++ [.prof, .fab, .dec, .pools, .runs, .mem], eventRegs ++ [.HP_CRC_CNT, .CF_STATUS, .CF_JOBS_INFL,
     .CF_JOBS_DRAM, .CF_OREBIN_USE, .CF_PE_STAT, .CF_EE_STAT, .DEC_STATUS, .DEC_SESS_STAT, .DEC_SESS_LEVEL, .ENC_CH_STAT])
  | .decRestart _ _ => some (answerFields ++ [.fab, .dec, .pools], eventRegs ++ [.HP_CRC_CNT, .CF_JOBS_INFL, .CF_JOBS_DRAM, .CF_OREBIN_USE,
     .CF_PE_STAT, .CF_EE_STAT, .DEC_SESS_STAT])
  | .cfKeyCopy _ _ => some (answerFields, answerRegs)
  | .cfReserve _ _ => some (answerFields, answerRegs ++ [.CF_STATUS, .CF_RESERVE, .DEC_STATUS])
  | .cfAlloc _ _ => some (answerFields, answerRegs)
  | .encChannel _ _ => some (answerFields ++ [.prof, .evLim, .fab, .pools, .runs, .boot, .enc, .hd, .pair, .sl, .mem, .aud], eventRegs ++
     [.HP_CRC_CNT, .PRF_STATE, .CNY_CTL, .CNY_LSTAT, .CNY_LAGE, .CNY_MISC, .CF_STATUS, .CF_JOBS_INFL, .CF_JOBS_DRAM, .CF_OREBIN_USE,
     .CF_PE_STAT, .CF_EE_STAT, .DEC_STATUS, .DEC_SESS_STAT, .ENC_STATUS, .ENC_CH_STAT, .ENC_CH_DELAY_NS, .LY_FLAT_USE, .LY_FLAT_INVAL,
     .LY_STAT, .HD_STAT, .HD_PCLK, .HD_CMP_STAT, .HD_CMP_BASE, .HD_DP_STAT, .HD_SDI_STAT, .HD_FLOW_STAT, .HD_EFLOW_STAT, .AUD_STATUS,
     .PAIR_STATUS, .PAIR_EVT_SEC, .PAIR_EVT_NS, .SL_LANE_STAT, .SL_PRBS_BITS_LO, .SL_PRBS_BITS_HI, .SL_PRBS_STAT])
  | .encKey _ _ => some (answerFields ++ [.enc], answerRegs ++ [.ENC_CH_STAT, .ENC_CH_KEY_OVR])
  | .encStatsRing _ _ => some (answerFields ++ [.enc], answerRegs ++ [.ENC_STATS_WR, .ENC_STATS_RD])
  | .ringIndexWriteIng _ _ _ => some ([.ing], [.HP_WR_DROP, .ING_RING_RD])
  | .ringIndexWriteCam _ _ => some ([.cam], [.HP_WR_DROP, .CAM_STATS_RD])
  | .ringIndexWriteEnc _ _ => some ([.enc], [.HP_WR_DROP, .ENC_STATS_RD])
  | .ethFrameReceive _ _ _ => some (eventFields ++ [.prof, .evLim, .ing, .lode, .fab, .dec, .pools, .runs, .enc, .mem, .aud], eventRegs ++
     [.ING_SAMPLE_CNT, .ING_SAMPLE_DROP, .ING_RING_WR, .ING_MAC_RX, .ING_MAC_FCS, .ING_MAC_UNK, .ING_MAC_MISDIR, .ING_MAC_MALF,
     .ING_MAC_OVR, .ING_MG_DUP, .ING_MG_LATE, .ING_MG_STAT, .ING_CTX_STAT, .ING_CTX_FRAMES, .ING_CTX_CONCEALED, .ING_CTX_WITHHELD,
     .ING_CTX_LOST, .ING_CTX_RATE, .CF_JOBS_INFL, .CF_JOBS_DRAM, .CF_OREBIN_USE, .CF_PE_STAT, .CF_EE_STAT, .DEC_STATUS, .DEC_SESS_STAT,
     .DEC_SESS_AU, .DEC_SESS_PICS, .DEC_SESS_CONCEALED, .DEC_SESS_DISCARD, .DEC_SESS_POOLWAIT, .DEC_SESS_LEVEL, .ENC_CH_STAT,
     .ENC_CH_MISMATCH, .AUD_RX_LOST, .LODE_HITS])
  | .skewWindowExpiry _ => some (eventFields ++ [.prof, .evLim, .ing, .fab, .dec, .pools, .runs, .enc, .mem], eventRegs ++ [.ING_MG_STAT,
     .ING_CTX_STAT, .ING_CTX_FRAMES, .ING_CTX_CONCEALED, .ING_CTX_WITHHELD, .ING_CTX_LOST, .CF_JOBS_INFL, .CF_JOBS_DRAM, .CF_OREBIN_USE,
     .CF_PE_STAT, .CF_EE_STAT, .DEC_STATUS, .DEC_SESS_STAT, .DEC_SESS_AU, .DEC_SESS_PICS, .DEC_SESS_CONCEALED, .DEC_SESS_DISCARD,
     .DEC_SESS_POOLWAIT, .DEC_SESS_LEVEL, .ENC_CH_STAT, .ENC_CH_MISMATCH])
  | .contextLosTimeout _ => some (eventFields ++ [.evLim, .ing, .pools], eventRegs ++ [.ING_CTX_STAT])
  | .mergeLegTimeout _ _ => some (eventFields ++ [.evLim, .ing], eventRegs ++ [.ING_MG_STAT])
  | .sdiTrsLossTimeout _ => some (eventFields ++ [.evLim, .ing, .pools, .pair], eventRegs ++ [.ING_STATUS, .ING_CTX_STAT, .ING_SDI_STAT,
     .PAIR_SEAM_STAT, .PAIR_SEAM_CRC, .SL_LANE_STAT, .SL_LANE_ERR, .SL_LANE_LOCKLOSS])
  | .sdiLineReceive _ _ => some (eventFields ++ [.prof, .evLim, .ing, .pools, .runs, .enc, .pair, .mem, .aud], eventRegs ++ [.ING_STATUS,
     .ING_CTX_STAT, .ING_CTX_FRAMES, .ING_CTX_CONCEALED, .ING_CTX_WITHHELD, .ING_SDI_STAT, .ING_SDI_CRC, .ENC_CH_STAT, .ENC_CH_MISMATCH,
     .AUD_IN_STAT, .AUD_IN_SLIP, .AUD_IN_ERR, .AUD_IN_INVALID, .PAIR_SEAM_STAT, .PAIR_SEAM_CRC, .SL_LANE_STAT, .SL_LANE_ERR,
     .SL_LANE_LOCKLOSS])
  | .csiFrameStart _ _ => some (answerFields ++ [.prof, .evLim, .cam, .pools, .runs, .mem], eventRegs ++ [.HP_CRC_CNT, .CAM_STATUS,
     .CAM_PORT_STAT, .CAM_PORT_UNBOUND, .CAM_CTX_STAT, .CAM_CTX_WITHHELD, .CAM_CTX_SUPERSEDED, .CAM_CTX_OVERLONG, .CAM_CTX_QUEUE_US,
     .CAM_CTX_FS_SEC, .CAM_CTX_FS_NS, .CAM_PIPE_STAT])
  | .csiFrameEnd _ _ => some (eventFields ++ [.evLim, .cam, .pools, .runs, .mem], eventRegs ++ [.CAM_STATUS, .CAM_PORT_UNBOUND,
     .CAM_CTX_STAT, .CAM_CTX_WITHHELD, .CAM_CTX_SUPERSEDED, .CAM_CTX_OVERLONG, .CAM_CTX_QUEUE_US, .CAM_PIPE_STAT])
  | .csiLongPacket _ _ _ => some (eventFields ++ [.evLim, .cam], eventRegs ++ [.CAM_STATUS, .CAM_PORT_HDR, .CAM_PORT_CRC, .CAM_PORT_UNBOUND,
     .CAM_CTX_STAT, .CAM_CTX_LINE_ERR])
  | .camLosTimeout _ _ => some (eventFields ++ [.evLim, .cam, .pools, .runs, .mem], eventRegs ++ [.CAM_STATUS, .CAM_CTX_STAT,
     .CAM_CTX_WITHHELD, .CAM_CTX_SUPERSEDED, .CAM_CTX_OVERLONG, .CAM_CTX_QUEUE_US, .CAM_PIPE_STAT])
  | .pipeFrameDone _ _ => some (eventFields ++ [.evLim, .cam, .pools, .runs, .enc, .hd, .flt, .pair, .mem, .aud], eventRegs ++ [.CNY_CTL,
     .CAM_STATUS, .CAM_STATS_WR, .CAM_STATS_DROP, .CAM_CTX_STAT, .CAM_CTX_FRAMES, .CAM_CTX_WITHHELD, .CAM_CTX_QUEUE_US, .CAM_PIPE_STAT,
     .CAM_PIPE_FRAMES, .CAM_PIPE_RETRY, .ENC_CH_STAT, .ENC_CH_MISMATCH, .HD_OUT_STATUS, .HD_STAT, .HD_CMP_STAT, .HD_FLOW_STAT,
     .HD_EFLOW_STAT, .AUD_STATUS, .FLT_STATUS, .FLT_COUNT, .FLT_WR, .FLT_FIRST, .FLT_ISL_MASKED, .FLT_ISL_UNMASKED, .FLT_ISL_LAST,
     .PAIR_STATUS])
  | .peJobStart _ _ => some ([.fab], [.CF_JOBS_INFL, .CF_JOBS_DRAM, .CF_OREBIN_USE, .CF_PE_STAT])
  | .jobComplete _ _ _ => some (eventFields ++ [.evLim, .fab, .dec, .pools], eventRegs ++ [.CF_JOBS_INFL, .CF_JOBS_DRAM, .CF_OREBIN_USE,
     .CF_OREBIN_STALL, .CF_PE_STAT, .CF_PE_JOBS, .CF_EE_STAT, .CF_EE_MBINS, .DEC_SESS_STAT, .DEC_SESS_POOLWAIT, .DEC_SESS_HASH])
  | .jobResidueMismatch _ _ => some (eventFields ++ [.evLim, .fab, .dec, .hd, .flt, .pair, .aud], eventRegs ++ [.CNY_CTL, .CF_STATUS,
     .CF_JOBS_INFL, .CF_JOBS_DRAM, .CF_OREBIN_USE, .CF_PE_STAT, .CF_PE_RETRY, .CF_EE_STAT, .CF_EE_RETRY, .DEC_STATUS, .ENC_CH_STAT,
     .HD_OUT_STATUS, .HD_STAT, .HD_CMP_STAT, .HD_FLOW_STAT, .HD_EFLOW_STAT, .AUD_STATUS, .FLT_STATUS, .FLT_COUNT, .FLT_WR, .FLT_FIRST,
     .FLT_ISL_MASKED, .FLT_ISL_UNMASKED, .FLT_ISL_LAST, .PAIR_STATUS])
  | .decPictureRelease _ => some (eventFields ++ [.evLim, .fab, .dec, .pools, .runs, .mem], eventRegs ++ [.CF_JOBS_INFL, .CF_JOBS_DRAM,
     .CF_OREBIN_USE, .CF_PE_STAT, .CF_EE_STAT, .DEC_SESS_STAT, .DEC_SESS_PICS, .DEC_SESS_CONCEALED, .DEC_SESS_POOLWAIT])
  | .bufferWaitEnd _ => some ([.fab, .dec, .pools], [.CF_JOBS_INFL, .CF_JOBS_DRAM, .CF_OREBIN_USE, .CF_PE_STAT, .CF_EE_STAT, .DEC_SESS_STAT,
     .DEC_SESS_POOLWAIT])
  | .encPictureStart _ _ _ => some (answerFields ++ [.prof, .evLim, .fab, .pools, .runs, .boot, .enc, .hd, .pair, .sl, .mem, .aud],
     eventRegs ++ [.HP_CRC_CNT, .PRF_STATE, .CNY_CTL, .CNY_LSTAT, .CNY_LAGE, .CNY_MISC, .CF_STATUS, .CF_JOBS_INFL, .CF_JOBS_DRAM,
     .CF_OREBIN_USE, .CF_PE_STAT, .CF_EE_STAT, .DEC_STATUS, .DEC_SESS_STAT, .ENC_STATUS, .ENC_CH_STAT, .ENC_CH_REPEAT, .ENC_CH_KEYS,
     .ENC_CH_DELAY_NS, .ENC_CH_MISMATCH, .ENC_CH_POOLWAIT, .ENC_CH_SKIPPED, .LY_FLAT_USE, .LY_FLAT_INVAL, .LY_STAT, .HD_STAT, .HD_PCLK,
     .HD_CMP_STAT, .HD_CMP_BASE, .HD_DP_STAT, .HD_SDI_STAT, .HD_FLOW_STAT, .HD_EFLOW_STAT, .AUD_STATUS, .PAIR_STATUS, .PAIR_EVT_SEC,
     .PAIR_EVT_NS, .SL_LANE_STAT, .SL_PRBS_BITS_LO, .SL_PRBS_BITS_HI, .SL_PRBS_STAT])
  | .encRowInputDeadline _ _ _ => some (eventFields ++ [.evLim, .fab, .enc], eventRegs ++ [.CF_JOBS_INFL, .CF_JOBS_DRAM, .CF_OREBIN_USE,
     .CF_PE_STAT, .CF_PE_JOBS, .CF_EE_STAT, .ENC_CH_STAT, .ENC_CH_LATE, .ENC_CH_MARGIN_US])
  | .encRowOutput _ _ => some (eventFields ++ [.evLim, .fab, .pools, .enc, .hd], eventRegs ++ [.CF_JOBS_INFL, .CF_JOBS_DRAM, .CF_OREBIN_USE,
     .CF_PE_STAT, .CF_EE_STAT, .ENC_STATUS, .ENC_STATS_WR, .ENC_STATS_DROP, .ENC_CH_STAT, .ENC_CH_PICS, .ENC_CH_FILL, .ENC_CH_LATE,
     .ENC_CH_BUCKET, .ENC_CH_PAIR_DIV, .ENC_CH_RTP, .HD_EFLOW_QUEUE])
  | .encEndOfBitstream _ => some (eventFields ++ [.evLim, .fab, .pools, .runs, .enc, .hd, .mem], eventRegs ++ [.CNY_CTL, .CNY_LSTAT,
     .CNY_LAGE, .CNY_MISC, .CF_STATUS, .CF_JOBS_INFL, .CF_JOBS_DRAM, .CF_OREBIN_USE, .CF_PE_STAT, .CF_EE_STAT, .DEC_STATUS, .DEC_SESS_STAT,
     .ENC_STATUS, .ENC_CH_STAT, .ENC_CH_DELAY_NS, .LY_FLAT_USE, .LY_FLAT_INVAL, .LY_STAT, .HD_STAT, .HD_PCLK, .HD_CMP_STAT, .HD_CMP_BASE,
     .HD_FLOW_STAT, .HD_EFLOW_QUEUE])
  | _ => none

/-- What the commands of time and references, audio, touch and the pair may change; none for the others. -/
def timeFootprint : Instr → Option (List Field × List Reg)
  | .tmPtpConfig _ _ => some (answerFields ++ [.tm, .hd, .sl, .aud], eventRegs ++ [.HP_CRC_CNT, .HD_CMP_STAT, .TM_STATUS, .TM_RATE_LO,
     .TM_RATE_HI, .TM_PORT_STAT, .REF_STATUS, .REF_WTR_LEFT, .REF_SWITCHES, .REF_HO_ENTRIES, .REF_LAST_STEP, .REF_DISAGREE_CNT, .REF_LOSS,
     .AUD_HOUSE_OFS, .SL_LANE_STAT, .SL_PRBS_BITS_LO, .SL_PRBS_BITS_HI, .SL_PRBS_STAT])
  | .tmPort _ _ => some (answerFields ++ [.tm], answerRegs ++ [.TM_PORT_STAT, .TM_PORT_ASYM])
  | .tmStep _ _ => some (answerFields ++ [.prof, .tm, .ing, .cam, .fab, .dec, .pools, .enc, .hd, .aud, .tch], eventRegs ++ [.HP_CRC_CNT,
     .ENC_CH_STAT, .HD_CMP_STAT, .TM_STATUS, .TM_STEPS, .TM_STEP_SEC, .TM_STEP_NS, .TM_STEP_AMT_LO, .TM_STEP_AMT_HI, .REF_LAST_STEP,
     .AUD_HOUSE_OFS])
  | .refConfig _ _ => some (answerFields ++ [.tm, .hd, .aud], eventRegs ++ [.HP_CRC_CNT, .HD_CMP_STAT, .REF_STATUS, .REF_WTR_LEFT,
     .REF_SWITCHES, .REF_HO_ENTRIES, .REF_LAST_STEP, .REF_DISAGREE_CNT, .REF_CFG, .REF_DELAY, .REF_RATE, .REF_LOSS, .AUD_HOUSE_OFS])
  | .refDpll _ _ => some (answerFields ++ [.tm, .hd, .aud], eventRegs ++ [.HP_CRC_CNT, .HD_CMP_STAT, .REF_STATUS, .REF_WTR_LEFT,
     .REF_SWITCHES, .REF_HO_ENTRIES, .REF_LAST_STEP, .REF_DISAGREE_CNT, .AUD_HOUSE_OFS])
  | .refSelect _ _ => some (answerFields ++ [.tm, .hd, .aud], eventRegs ++ [.HP_CRC_CNT, .HD_CMP_STAT, .REF_STATUS, .REF_WTR_LEFT,
     .REF_SWITCHES, .REF_HO_ENTRIES, .REF_LAST_STEP, .AUD_HOUSE_OFS])
  | .refPhase _ _ => some (answerFields ++ [.tm, .hd, .aud], eventRegs ++ [.HP_CRC_CNT, .HD_CMP_STAT, .REF_PHASE_OFS_LO, .REF_PHASE_OFS_HI,
     .REF_LAST_STEP, .AUD_HOUSE_OFS])
  | .audTdm _ _ => some (answerFields ++ [.prof, .ing, .cam, .runs, .hd, .flt, .pwr, .mem, .aud, .tch], eventRegs ++ [.HP_CRC_CNT,
     .CNY_STYLE, .CNY_FG, .CNY_BG, .CNY_LSTAT, .CNY_LAGE, .CNY_LBUDGET, .CNY_LWINDOW, .CNY_EVALS, .CNY_MARKED, .CNY_DEADLINE, .CNY_MISC,
     .CAM_PORT_STAT, .CAM_PORT_HDR, .CAM_PORT_CRC, .CAM_PORT_UNBOUND, .CAM_PIPE_STAT, .CAM_PIPE_FRAMES, .CAM_PIPE_RETRY, .LY_STAT, .LY_SRC,
     .LY_ALLOC, .LY_FETCH, .LY_UMBRA, .LY_UNDERRUN, .HD_STAT, .HD_FRAME_LO, .HD_FRAME_HI, .HD_FLIP_SEC, .HD_FLIP_NS, .HD_LATE, .HD_PCLK,
     .HD_CMP_STAT, .HD_CMP_DISC, .HD_CMP_BASE, .AUD_STATUS, .AUD_HOUSE_OFS, .AUD_ZC_TIMEOUTS, .AUD_CHANNELS, .AUD_IN_STAT, .AUD_IN_SLIP,
     .AUD_IN_ERR, .AUD_IN_INVALID, .AUD_RX_LOST, .AUD_TX_PKTS, .TCH_STATUS, .TCH_RING_WR, .TCH_RING_RD, .TCH_RING_DROP, .TCH_FE_STAT,
     .TCH_FE_FRAMES, .TCH_FE_REPORTS, .TCH_FE_WITHHELD, .TCH_FE_REBASE, .TCH_FE_NOISE, .TCH_FE_NOISE_CNT, .TCH_FE_SUSPECT, .SRM_CLEARS,
     .PWR_STATUS, .PWR_VSET, .PWR_ISL_STAT, .SL_QUAD_STAT, .SL_LANE_STAT, .SL_LANE_ERR, .SL_LANE_FEC, .SL_LANE_LOCKLOSS, .SL_PRBS_BITS_LO,
     .SL_PRBS_BITS_HI, .SL_PRBS_ERR, .SL_PRBS_STAT])
  | .audAes3 _ _ => some (answerFields ++ [.prof, .ing, .cam, .runs, .hd, .flt, .pwr, .mem, .aud, .tch], eventRegs ++ [.HP_CRC_CNT,
     .CNY_STYLE, .CNY_FG, .CNY_BG, .CNY_LSTAT, .CNY_LAGE, .CNY_LBUDGET, .CNY_LWINDOW, .CNY_EVALS, .CNY_MARKED, .CNY_DEADLINE, .CNY_MISC,
     .CAM_PORT_STAT, .CAM_PORT_HDR, .CAM_PORT_CRC, .CAM_PORT_UNBOUND, .CAM_PIPE_STAT, .CAM_PIPE_FRAMES, .CAM_PIPE_RETRY, .LY_STAT, .LY_SRC,
     .LY_ALLOC, .LY_FETCH, .LY_UMBRA, .LY_UNDERRUN, .HD_STAT, .HD_FRAME_LO, .HD_FRAME_HI, .HD_FLIP_SEC, .HD_FLIP_NS, .HD_LATE, .HD_PCLK,
     .HD_CMP_STAT, .HD_CMP_DISC, .HD_CMP_BASE, .AUD_STATUS, .AUD_HOUSE_OFS, .AUD_ZC_TIMEOUTS, .AUD_CHANNELS, .AUD_IN_STAT, .AUD_IN_SLIP,
     .AUD_IN_ERR, .AUD_IN_INVALID, .AUD_RX_LOST, .AUD_TX_PKTS, .TCH_STATUS, .TCH_RING_WR, .TCH_RING_RD, .TCH_RING_DROP, .TCH_FE_STAT,
     .TCH_FE_FRAMES, .TCH_FE_REPORTS, .TCH_FE_WITHHELD, .TCH_FE_REBASE, .TCH_FE_NOISE, .TCH_FE_NOISE_CNT, .TCH_FE_SUSPECT, .SRM_CLEARS,
     .PWR_STATUS, .PWR_VSET, .PWR_ISL_STAT, .SL_QUAD_STAT, .SL_LANE_STAT, .SL_LANE_ERR, .SL_LANE_FEC, .SL_LANE_LOCKLOSS, .SL_PRBS_BITS_LO,
     .SL_PRBS_BITS_HI, .SL_PRBS_ERR, .SL_PRBS_STAT])
  | .audRx _ _ => some (answerFields ++ [.prof, .ing, .cam, .runs, .hd, .flt, .pwr, .mem, .aud, .tch], eventRegs ++ [.HP_CRC_CNT,
     .CNY_STYLE, .CNY_FG, .CNY_BG, .CNY_LSTAT, .CNY_LAGE, .CNY_LBUDGET, .CNY_LWINDOW, .CNY_EVALS, .CNY_MARKED, .CNY_DEADLINE, .CNY_MISC,
     .CAM_PORT_STAT, .CAM_PORT_HDR, .CAM_PORT_CRC, .CAM_PORT_UNBOUND, .CAM_PIPE_STAT, .CAM_PIPE_FRAMES, .CAM_PIPE_RETRY, .LY_STAT, .LY_SRC,
     .LY_ALLOC, .LY_FETCH, .LY_UMBRA, .LY_UNDERRUN, .HD_STAT, .HD_FRAME_LO, .HD_FRAME_HI, .HD_FLIP_SEC, .HD_FLIP_NS, .HD_LATE, .HD_PCLK,
     .HD_CMP_STAT, .HD_CMP_DISC, .HD_CMP_BASE, .AUD_STATUS, .AUD_HOUSE_OFS, .AUD_ZC_TIMEOUTS, .AUD_CHANNELS, .AUD_IN_STAT, .AUD_IN_SLIP,
     .AUD_IN_ERR, .AUD_IN_INVALID, .AUD_RX_LOST, .AUD_TX_PKTS, .TCH_STATUS, .TCH_RING_WR, .TCH_RING_RD, .TCH_RING_DROP, .TCH_FE_STAT,
     .TCH_FE_FRAMES, .TCH_FE_REPORTS, .TCH_FE_WITHHELD, .TCH_FE_REBASE, .TCH_FE_NOISE, .TCH_FE_NOISE_CNT, .TCH_FE_SUSPECT, .SRM_CLEARS,
     .PWR_STATUS, .PWR_VSET, .PWR_ISL_STAT, .SL_QUAD_STAT, .SL_LANE_STAT, .SL_LANE_ERR, .SL_LANE_FEC, .SL_LANE_LOCKLOSS, .SL_PRBS_BITS_LO,
     .SL_PRBS_BITS_HI, .SL_PRBS_ERR, .SL_PRBS_STAT])
  | .audClock _ _ => some (answerFields ++ [.aud], answerRegs)
  | .audRoute _ _ => some (answerFields ++ [.prof, .aud], answerRegs)
  | .audCsRead _ _ => some (answerFields, answerRegs)
  | .tchConfig _ _ => some (answerFields ++ [.ing, .cam, .runs, .hd, .flt, .pwr, .mem, .aud, .tch], eventRegs ++ [.HP_CRC_CNT, .CNY_STYLE,
     .CNY_FG, .CNY_BG, .CNY_LSTAT, .CNY_LAGE, .CNY_LBUDGET, .CNY_LWINDOW, .CNY_EVALS, .CNY_MARKED, .CNY_DEADLINE, .CNY_MISC, .CAM_PORT_STAT,
     .CAM_PORT_HDR, .CAM_PORT_CRC, .CAM_PORT_UNBOUND, .CAM_PIPE_STAT, .CAM_PIPE_FRAMES, .CAM_PIPE_RETRY, .LY_STAT, .LY_SRC, .LY_ALLOC,
     .LY_FETCH, .LY_UMBRA, .LY_UNDERRUN, .HD_STAT, .HD_FRAME_LO, .HD_FRAME_HI, .HD_FLIP_SEC, .HD_FLIP_NS, .HD_LATE, .HD_PCLK, .HD_CMP_STAT,
     .HD_CMP_DISC, .HD_CMP_BASE, .AUD_STATUS, .AUD_HOUSE_OFS, .AUD_ZC_TIMEOUTS, .AUD_CHANNELS, .AUD_IN_STAT, .AUD_IN_SLIP, .AUD_IN_ERR,
     .AUD_IN_INVALID, .AUD_RX_LOST, .AUD_TX_PKTS, .TCH_STATUS, .TCH_RING_WR, .TCH_RING_RD, .TCH_RING_DROP, .TCH_FE_STAT, .TCH_FE_FRAMES,
     .TCH_FE_REPORTS, .TCH_FE_WITHHELD, .TCH_FE_REBASE, .TCH_FE_NOISE, .TCH_FE_NOISE_CNT, .TCH_FE_SUSPECT, .SRM_CLEARS, .PWR_STATUS,
     .PWR_VSET, .PWR_ISL_STAT, .SL_QUAD_STAT, .SL_LANE_STAT, .SL_LANE_ERR, .SL_LANE_FEC, .SL_LANE_LOCKLOSS, .SL_PRBS_BITS_LO,
     .SL_PRBS_BITS_HI, .SL_PRBS_ERR, .SL_PRBS_STAT])
  | .tchReference _ _ _ => some (answerFields ++ [.tch], answerRegs ++ [.TCH_FE_STAT, .TCH_FE_SUSPECT])
  | .tchMap _ _ => some (answerFields ++ [.prof, .tch], answerRegs ++ [.TCH_FE_STAT])
  | .tchRing _ _ => some (answerFields ++ [.tch], answerRegs ++ [.TCH_STATUS, .TCH_RING_WR, .TCH_RING_RD])
  | .tchNoiseMode _ _ => some (answerFields ++ [.tch], answerRegs ++ [.TCH_FE_STAT])
  | .tchRebase _ _ => some (answerFields ++ [.tch], answerRegs ++ [.TCH_FE_STAT, .TCH_FE_SUSPECT])
  | .tchSelftest _ _ _ => some (answerFields ++ [.tch], answerRegs)
  | .tchSelftestComplete _ => some (answerFields ++ [.tch], answerRegs)
  | .tchSnapshot _ _ => some (answerFields ++ [.tch], answerRegs)
  | .pairConfig _ _ => some (answerFields ++ [.pair, .sl], eventRegs ++ [.HP_CRC_CNT, .CNY_CTL, .PAIR_STATUS, .PAIR_CFG, .PAIR_EVT_SEC,
     .PAIR_EVT_NS, .PAIR_AUD_MASK, .SL_LANE_STAT, .SL_PRBS_BITS_LO, .SL_PRBS_BITS_HI, .SL_PRBS_STAT])
  | .pairSwitch _ _ => some (answerFields ++ [.hd, .pair, .aud], eventRegs ++ [.HP_CRC_CNT, .CNY_CTL, .HD_OUT_STATUS, .HD_STAT,
     .HD_CMP_STAT, .HD_FLOW_STAT, .HD_EFLOW_STAT, .AUD_STATUS, .PAIR_STATUS, .PAIR_EVT_SEC, .PAIR_EVT_NS])
  | .pairDrill _ _ => some (answerFields ++ [.hd, .pair], eventRegs ++ [.HP_CRC_CNT, .HD_CMP_STAT, .PAIR_STATUS])
  | .ringIndexWriteTch _ _ => some ([.tch], [.HP_WR_DROP, .TCH_RING_RD])
  | .ptpMessageReceive _ _ => some (answerFields ++ [.prof, .evLim, .tm, .ing, .cam, .fab, .dec, .pools, .enc, .hd, .aud, .tch], eventRegs
     ++ [.ENC_CH_STAT, .HD_CMP_STAT, .TM_STATUS, .TM_RATE_LO, .TM_RATE_HI, .TM_OFFSET, .TM_MPD, .TM_GM_ID_LO, .TM_GM_ID_HI, .TM_STEPS,
     .TM_STEP_SEC, .TM_STEP_NS, .TM_STEP_AMT_LO, .TM_STEP_AMT_HI, .TM_RATE_LIMIT, .TM_PORT_STAT, .TM_PORT_RX, .TM_PORT_BAD, .REF_STATUS,
     .REF_WTR_LEFT, .REF_SWITCHES, .REF_HO_ENTRIES, .REF_LAST_STEP, .REF_DISAGREE_CNT, .REF_LOSS, .AUD_HOUSE_OFS])
  | .delayReqSend => some ([.tm], [])
  | .announceTimeout _ => some (eventFields ++ [.tm, .hd, .aud], eventRegs ++ [.HD_CMP_STAT, .TM_STATUS, .TM_RATE_LO, .TM_RATE_HI,
     .TM_GM_ID_LO, .TM_GM_ID_HI, .TM_PORT_STAT, .REF_STATUS, .REF_WTR_LEFT, .REF_SWITCHES, .REF_HO_ENTRIES, .REF_LAST_STEP,
     .REF_DISAGREE_CNT, .REF_LOSS, .AUD_HOUSE_OFS])
  | .servoLockDwellExpiry => some (eventFields ++ [.tm, .hd, .aud], eventRegs ++ [.HD_CMP_STAT, .TM_STATUS, .REF_STATUS, .REF_WTR_LEFT,
     .REF_SWITCHES, .REF_HO_ENTRIES, .REF_LAST_STEP, .REF_DISAGREE_CNT, .REF_LOSS, .AUD_HOUSE_OFS])
  | .ptpStepApply => some (answerFields ++ [.prof, .tm, .ing, .cam, .fab, .dec, .pools, .enc, .hd, .aud, .tch], eventRegs ++ [.HP_CRC_CNT,
     .ENC_CH_STAT, .HD_CMP_STAT, .TM_STATUS, .TM_STEPS, .TM_STEP_SEC, .TM_STEP_NS, .TM_STEP_AMT_LO, .TM_STEP_AMT_HI, .REF_LAST_STEP,
     .AUD_HOUSE_OFS])
  | .refEdge _ => some (eventFields ++ [.tm, .hd, .aud], eventRegs ++ [.HD_CMP_STAT, .REF_STATUS, .REF_WTR_LEFT, .REF_SWITCHES,
     .REF_HO_ENTRIES, .REF_LAST_STEP, .REF_DISAGREE_CNT, .REF_PHASE_ERR, .REF_LOSS, .AUD_HOUSE_OFS])
  | .refLossDeclared _ => some (eventFields ++ [.tm, .hd, .aud], eventRegs ++ [.HD_CMP_STAT, .REF_STATUS, .REF_WTR_LEFT, .REF_SWITCHES,
     .REF_HO_ENTRIES, .REF_LAST_STEP, .REF_DISAGREE_CNT, .REF_LOSS, .AUD_HOUSE_OFS])
  | .refFreqMeasure _ => some (eventFields ++ [.tm, .hd, .aud], eventRegs ++ [.HD_CMP_STAT, .REF_STATUS, .REF_WTR_LEFT, .REF_SWITCHES,
     .REF_HO_ENTRIES, .REF_LAST_STEP, .REF_DPLL_PPB, .REF_DISAGREE_CNT, .REF_MEAS, .REF_PHASE_ERR, .REF_LOSS, .AUD_HOUSE_OFS])
  | .refQualifyExpiry _ => some (eventFields ++ [.tm, .hd, .aud], eventRegs ++ [.HD_CMP_STAT, .REF_STATUS, .REF_WTR_LEFT, .REF_SWITCHES,
     .REF_HO_ENTRIES, .REF_LAST_STEP, .REF_DISAGREE_CNT, .AUD_HOUSE_OFS])
  | .wtrExpiry => some (eventFields ++ [.tm, .hd, .aud], eventRegs ++ [.HD_CMP_STAT, .REF_STATUS, .REF_WTR_LEFT, .REF_SWITCHES,
     .REF_HO_ENTRIES, .REF_LAST_STEP, .AUD_HOUSE_OFS])
  | .dpllLockAchieved => some (eventFields ++ [.tm], eventRegs ++ [.REF_STATUS])
  | .dpllLockTimeout => some (eventFields ++ [.tm, .hd, .aud], eventRegs ++ [.HD_CMP_STAT, .REF_STATUS, .REF_WTR_LEFT, .REF_SWITCHES,
     .REF_HO_ENTRIES, .REF_LAST_STEP, .REF_DISAGREE_CNT, .REF_LOSS, .AUD_HOUSE_OFS])
  | .oscInLoss => some (eventFields ++ [.evLim, .hd, .flt, .pair, .aud], eventRegs ++ [.CNY_CTL, .HD_OUT_STATUS, .HD_STAT, .HD_CMP_STAT,
     .HD_FLOW_STAT, .HD_EFLOW_STAT, .TM_STATUS, .AUD_STATUS, .FLT_STATUS, .FLT_COUNT, .FLT_WR, .FLT_FIRST, .FLT_ISL_MASKED,
     .FLT_ISL_UNMASKED, .FLT_ISL_LAST, .PAIR_STATUS])
  | .audRateClassChange _ _ => some (answerFields ++ [.aud], eventRegs ++ [.HP_CRC_CNT, .AUD_IN_STAT])
  | .audInputSample _ _ => some (eventFields ++ [.evLim, .aud], eventRegs ++ [.AUD_IN_STAT, .AUD_IN_SLIP])
  | .audHouseSample => some (answerFields ++ [.evLim, .aud], eventRegs ++ [.HP_CRC_CNT, .AUD_HOUSE_OFS, .AUD_ZC_TIMEOUTS, .AUD_IN_STAT, .AUD_IN_SLIP])
  | .zcTimeout _ _ => some ([.aud], [.AUD_ZC_TIMEOUTS])
  | .tdmFrameReceive _ _ => some (eventFields ++ [.evLim, .aud], eventRegs ++ [.AUD_IN_STAT, .AUD_IN_SLIP])
  | .aes3FrameReceive _ _ _ => some (eventFields ++ [.evLim, .aud], eventRegs ++ [.AUD_IN_STAT, .AUD_IN_SLIP, .AUD_IN_ERR, .AUD_IN_INVALID])
  | .audRxRead _ => some (eventFields ++ [.evLim, .aud], eventRegs ++ [.AUD_IN_STAT, .AUD_IN_SLIP, .AUD_RX_LOST])
  | .scanFrameStart _ => some (answerFields ++ [.prof, .ing, .cam, .runs, .hd, .flt, .pwr, .mem, .aud, .tch], eventRegs ++ [.HP_CRC_CNT,
     .CNY_STYLE, .CNY_FG, .CNY_BG, .CNY_LSTAT, .CNY_LAGE, .CNY_LBUDGET, .CNY_LWINDOW, .CNY_EVALS, .CNY_MARKED, .CNY_DEADLINE, .CNY_MISC,
     .CAM_PORT_STAT, .CAM_PORT_HDR, .CAM_PORT_CRC, .CAM_PORT_UNBOUND, .CAM_PIPE_STAT, .CAM_PIPE_FRAMES, .CAM_PIPE_RETRY, .LY_STAT, .LY_SRC,
     .LY_ALLOC, .LY_FETCH, .LY_UMBRA, .LY_UNDERRUN, .HD_STAT, .HD_FRAME_LO, .HD_FRAME_HI, .HD_FLIP_SEC, .HD_FLIP_NS, .HD_LATE, .HD_PCLK,
     .HD_CMP_STAT, .HD_CMP_DISC, .HD_CMP_BASE, .AUD_STATUS, .AUD_HOUSE_OFS, .AUD_ZC_TIMEOUTS, .AUD_CHANNELS, .AUD_IN_STAT, .AUD_IN_SLIP,
     .AUD_IN_ERR, .AUD_IN_INVALID, .AUD_RX_LOST, .AUD_TX_PKTS, .TCH_STATUS, .TCH_RING_WR, .TCH_RING_RD, .TCH_RING_DROP, .TCH_FE_STAT,
     .TCH_FE_FRAMES, .TCH_FE_REPORTS, .TCH_FE_WITHHELD, .TCH_FE_REBASE, .TCH_FE_NOISE, .TCH_FE_NOISE_CNT, .TCH_FE_SUSPECT, .SRM_CLEARS,
     .PWR_STATUS, .PWR_VSET, .PWR_ISL_STAT, .SL_QUAD_STAT, .SL_LANE_STAT, .SL_LANE_ERR, .SL_LANE_FEC, .SL_LANE_LOCKLOSS, .SL_PRBS_BITS_LO,
     .SL_PRBS_BITS_HI, .SL_PRBS_ERR, .SL_PRBS_STAT])
  | .scanFrameProcess _ _ _ => some (answerFields ++ [.evLim, .tch], eventRegs ++ [.HP_CRC_CNT, .TCH_FE_STAT, .TCH_FE_REBASE, .TCH_FE_NOISE,
     .TCH_FE_SUSPECT])
  | .touchReportWrite _ => some (eventFields ++ [.evLim, .tch], eventRegs ++ [.TCH_RING_WR, .TCH_RING_DROP, .TCH_FE_REPORTS, .TCH_FE_WITHHELD])
  | .seamHeartbeatSend => some ([.pair], [])
  | .seamHeartbeatReceive _ _ => some (faultFields ++ [.enc], faultRegs ++ [.PAIR_SEAM_STAT, .PAIR_SEAM_CRC, .PAIR_TAKEOVERS, .PAIR_HEAD_STAT])
  | .seamDownTimeout => some (answerFields ++ [.enc, .hd, .pair], eventRegs ++ [.HP_CRC_CNT, .CNY_CTL, .HD_CMP_STAT, .PAIR_STATUS,
     .PAIR_TAKEOVERS, .PAIR_EVT_SEC, .PAIR_EVT_NS])
  | .latchRecordReceive _ _ _ => some (eventFields ++ [.evLim, .pools, .runs, .hd, .flt, .pair, .mem, .aud], eventRegs ++ [.CNY_CTL,
     .CNY_LSTAT, .LY_STAT, .LY_SRC, .LY_FETCH, .LY_UMBRA, .HD_OUT_STATUS, .HD_STAT, .HD_CMP_STAT, .HD_FLOW_STAT, .HD_EFLOW_STAT,
     .AUD_STATUS, .FLT_STATUS, .FLT_COUNT, .FLT_WR, .FLT_FIRST, .FLT_ISL_MASKED, .FLT_ISL_UNMASKED, .FLT_ISL_LAST, .PAIR_STATUS,
     .PAIR_SEAM_STAT, .PAIR_SEAM_CRC, .PAIR_HEAD_STAT, .PAIR_LATCH_MISS, .PAIR_GRID_ERR])
  | .decisionRecordReceive _ _ _ _ _ _ => some (eventFields ++ [.evLim, .hd, .flt, .pair, .aud], eventRegs ++ [.CNY_CTL, .CNY_LSTAT,
     .CNY_MARKED, .CNY_MISC, .HD_OUT_STATUS, .HD_STAT, .HD_CMP_STAT, .HD_FLOW_STAT, .HD_EFLOW_STAT, .AUD_STATUS, .FLT_STATUS, .FLT_COUNT,
     .FLT_WR, .FLT_FIRST, .FLT_ISL_MASKED, .FLT_ISL_UNMASKED, .FLT_ISL_LAST, .PAIR_STATUS, .PAIR_SEAM_STAT, .PAIR_SEAM_CRC])
  | .frameCrcReceive _ _ _ _ => some (eventFields ++ [.evLim, .hd, .flt, .pair, .aud], eventRegs ++ [.CNY_CTL, .HD_OUT_STATUS, .HD_STAT,
     .HD_CMP_STAT, .HD_FLOW_STAT, .HD_EFLOW_STAT, .AUD_STATUS, .FLT_STATUS, .FLT_COUNT, .FLT_WR, .FLT_FIRST, .FLT_ISL_MASKED,
     .FLT_ISL_UNMASKED, .FLT_ISL_LAST, .PAIR_STATUS, .PAIR_SEAM_STAT, .PAIR_SEAM_CRC, .PAIR_HEAD_STAT, .PAIR_FCRC_DIFF])
  | .encPictureReceive _ _ _ => some (eventFields ++ [.evLim, .enc, .hd, .flt, .pair, .aud], eventRegs ++ [.CNY_CTL, .ENC_CH_STAT,
     .HD_OUT_STATUS, .HD_STAT, .HD_CMP_STAT, .HD_FLOW_STAT, .HD_EFLOW_STAT, .AUD_STATUS, .FLT_STATUS, .FLT_COUNT, .FLT_WR, .FLT_FIRST,
     .FLT_ISL_MASKED, .FLT_ISL_UNMASKED, .FLT_ISL_LAST, .PAIR_STATUS, .PAIR_SEAM_STAT, .PAIR_SEAM_CRC])
  | .encRowReceive _ _ _ => some (eventFields ++ [.evLim, .enc, .hd, .flt, .pair, .aud], eventRegs ++ [.CNY_CTL, .ENC_CH_STAT,
     .HD_OUT_STATUS, .HD_STAT, .HD_CMP_STAT, .HD_FLOW_STAT, .HD_EFLOW_STAT, .AUD_STATUS, .FLT_STATUS, .FLT_COUNT, .FLT_WR, .FLT_FIRST,
     .FLT_ISL_MASKED, .FLT_ISL_UNMASKED, .FLT_ISL_LAST, .PAIR_STATUS, .PAIR_SEAM_STAT, .PAIR_SEAM_CRC])
  | .keyReqReceive _ _ _ _ => some (eventFields ++ [.evLim, .enc, .hd, .flt, .pair, .aud], eventRegs ++ [.CNY_CTL, .ENC_CH_STAT,
     .ENC_CH_KEY_OVR, .HD_OUT_STATUS, .HD_STAT, .HD_CMP_STAT, .HD_FLOW_STAT, .HD_EFLOW_STAT, .AUD_STATUS, .FLT_STATUS, .FLT_COUNT, .FLT_WR,
     .FLT_FIRST, .FLT_ISL_MASKED, .FLT_ISL_UNMASKED, .FLT_ISL_LAST, .PAIR_STATUS, .PAIR_SEAM_STAT, .PAIR_SEAM_CRC])
  | .giveUpReceive _ _ => some (faultFields ++ [.enc], faultRegs ++ [.PAIR_SEAM_STAT, .PAIR_SEAM_CRC, .PAIR_TAKEOVERS])
  | .handoverReceive _ _ => some (eventFields ++ [.evLim, .hd, .flt, .pair, .aud], eventRegs ++ [.CNY_CTL, .HD_OUT_STATUS, .HD_STAT,
     .HD_CMP_STAT, .HD_FLOW_STAT, .HD_EFLOW_STAT, .AUD_STATUS, .FLT_STATUS, .FLT_COUNT, .FLT_WR, .FLT_FIRST, .FLT_ISL_MASKED,
     .FLT_ISL_UNMASKED, .FLT_ISL_LAST, .PAIR_STATUS, .PAIR_SEAM_STAT, .PAIR_SEAM_CRC])
  | .handoverAckReceive _ _ => some (eventFields ++ [.evLim, .hd, .flt, .pair, .aud], eventRegs ++ [.CNY_CTL, .HD_OUT_STATUS, .HD_STAT,
     .HD_CMP_STAT, .HD_FLOW_STAT, .HD_EFLOW_STAT, .AUD_STATUS, .FLT_STATUS, .FLT_COUNT, .FLT_WR, .FLT_FIRST, .FLT_ISL_MASKED,
     .FLT_ISL_UNMASKED, .FLT_ISL_LAST, .PAIR_STATUS, .PAIR_SEAM_STAT, .PAIR_SEAM_CRC])
  | .snapshotRequestReceive _ => some (eventFields ++ [.evLim, .hd, .flt, .pair, .aud], eventRegs ++ [.CNY_CTL, .HD_OUT_STATUS, .HD_STAT,
     .HD_CMP_STAT, .HD_FLOW_STAT, .HD_EFLOW_STAT, .AUD_STATUS, .FLT_STATUS, .FLT_COUNT, .FLT_WR, .FLT_FIRST, .FLT_ISL_MASKED,
     .FLT_ISL_UNMASKED, .FLT_ISL_LAST, .PAIR_STATUS, .PAIR_SEAM_STAT, .PAIR_SEAM_CRC])
  | .snapshotReceive _ _ => some (eventFields ++ [.evLim, .enc, .hd, .flt, .pair, .aud], eventRegs ++ [.CNY_CTL, .ENC_STATUS, .ENC_CH_STAT,
     .HD_OUT_STATUS, .HD_STAT, .HD_CMP_STAT, .HD_FLOW_STAT, .HD_EFLOW_STAT, .AUD_STATUS, .FLT_STATUS, .FLT_COUNT, .FLT_WR, .FLT_FIRST,
     .FLT_ISL_MASKED, .FLT_ISL_UNMASKED, .FLT_ISL_LAST, .PAIR_STATUS, .PAIR_SEAM_STAT, .PAIR_SEAM_CRC])
  | .dutyInChange _ => some (answerFields ++ [.pair], eventRegs ++ [.HP_CRC_CNT, .CNY_CTL, .PAIR_STATUS, .PAIR_HANDOVERS, .PAIR_EVT_SEC,
     .PAIR_EVT_NS])
  | .dutyInLossTimeout => some (answerFields ++ [.enc, .hd, .pair], eventRegs ++ [.HP_CRC_CNT, .CNY_CTL, .HD_CMP_STAT, .PAIR_STATUS,
     .PAIR_TAKEOVERS, .PAIR_EVT_SEC, .PAIR_EVT_NS])
  | .dutyWaitExpiry => some (eventFields ++ [.pair], eventRegs ++ [.CNY_CTL, .PAIR_STATUS, .PAIR_EVT_SEC, .PAIR_EVT_NS])
  | .bothDutyTimeout => some (answerFields ++ [.pair], eventRegs ++ [.HP_CRC_CNT, .CNY_CTL, .PAIR_STATUS, .PAIR_BOTH_DUTY, .PAIR_EVT_SEC,
     .PAIR_EVT_NS])
  | .dutyReadbackMismatch => some (eventFields ++ [.evLim, .hd, .flt, .pair, .aud], eventRegs ++ [.CNY_CTL, .HD_OUT_STATUS, .HD_STAT,
     .HD_CMP_STAT, .HD_FLOW_STAT, .HD_EFLOW_STAT, .AUD_STATUS, .FLT_STATUS, .FLT_COUNT, .FLT_WR, .FLT_FIRST, .FLT_ISL_MASKED,
     .FLT_ISL_UNMASKED, .FLT_ISL_LAST, .PAIR_STATUS])
  | .profileDiffTimeout => some (eventFields ++ [.pair], eventRegs)
  | .aes3LockChange _ _ => some ([.aud], [.AUD_STATUS])
  | .snapshotRetry => some ([.pair], [])
  | .latchWaitTimeout _ => some ([.hd], [.HD_CMP_STAT, .PAIR_LATCH_MISS])
  | _ => none

end Sys2Proof.Machine
end

