-- ==== Sys2Proof/Certificates/Slice0/Obligations.lean ====
section
/-! DEFINITION. The statements about the block that are to be proved. -/

open Sys2Proof Sys2Proof.Machine

/-- O1. A step runs the command at the front of the queue on the state with the queue's rest (95_what_each_step_holds.md; 02_host_ports_commands.md (R71)). -/
def Obligations.StepRunsTheFrontCommand : Prop :=
  ∀ (s : State) (c : Instr) (rest : List Instr), s.pending = c :: rest → step s = exec c { s with pending := rest }

/-- O2. With no command waiting a step passes one nanosecond of device time (the model's choice, log 1) (01_architecture.md (R24); notes/assumptions/1.md). -/
def Obligations.IdleStepPassesOneNanosecond : Prop :=
  (∀ s : State, s.pending = [] → ∃ t, step s = .next t ∧ t.now = s.now + 1 ∧ t.pending = []) ∧
  (∀ s : State, s.pending = [] → (∀ e ∈ s.mem.ch, e.2.queue = []) → step s = .next { s with now := s.now + 1 })

/-- O3. Every step of every state answers a next state: no command stops the block (95_what_each_step_holds.md; 00_scope.md (R20)). -/
def Obligations.EveryStepAnswersANextState : Prop := ∀ s : State, Goes (step s)

/-- O4. Every step keeps the register table in its one canonical form (00_scope.md (R12, R13); 19_address_map.md (R615, R616)). -/
def Obligations.StepKeepsTheRegisterTableCanonical : Prop :=
  ∀ s t : State, Tbl.wf resetAt s.regs = true → step s = .next t → Tbl.wf resetAt t.regs = true

/-- O5. After reset every register member reads its table's reset value, no port holds a scope, and nothing waits (19_address_map.md (R615, R616); 02_host_ports_commands.md (R76); 00_scope.md (R12)). -/
def Obligations.ResetStateIsAsTheSpecSays : Prop :=
  (∀ (r : Reg) (i : Nat), State.reset.getReg r i = r.resetOf i) ∧ Tbl.wf resetAt State.reset.regs = true ∧
    State.reset.heldOf .A = 0 ∧ State.reset.heldOf .B = 0 ∧ State.reset.pending = [] ∧ State.reset.interp.restart = none ∧
    State.reset.out = [] ∧ State.reset.now = 0

/-- O6. A command leaves the rest of the queue and the device time alone, and takes back nothing that has left the device (95_what_each_step_holds.md; notes/assumptions/1.md). -/
def Obligations.StepTakesOneCommandAndKeepsTheClock : Prop :=
  ∀ (s t : State) (c : Instr) (rest : List Instr), s.pending = c :: rest → step s = .next t →
    t.pending = rest ∧ t.now = s.now ∧ s.out <:+ t.out ∧ s.free ≤ t.free

/-- O7. While the control plane restarts, or while another packet is interpreted, a command packet changes nothing (01_architecture.md (R25); 02_host_ports_commands.md (R71)). -/
def Obligations.NoPacketRunsDuringARestart : Prop :=
  ∀ (i : Instr) (r : Req) (op : Nat) (s : State), packet i = some (r, op) →
    (s.interp.restart.isSome = true ∨ ∃ k, s.interp.current = some k ∧ (k.req ≠ r ∨ k.opcode ≠ op)) → exec i s = .next s

/-- O8. Before the control-plane firmware runs, a packet of any group but 0x01 is answered NOTREADY or an earlier status of R20 (02_host_ports_commands.md (R92); 00_scope.md (R20)). -/
def Obligations.FirmwareMissingGivesNotReady : Prop :=
  ∀ (i : Instr) (r : Req) (op : Nat) (s : State), packet i = some (r, op) → op / 256 ≠ 1 → s.canRun r op = true → s.fwRuns = false →
    ∃ st x rs body, exec i s = .next (s.endInterp.replyR r op (Status.code st) x rs body) ∧ (st = .CHECKFAIL ∨ st = .BADPARAM ∨ st = .NOTREADY)

/-- O9. The host's writes to its ring and event registers have the effects of R56, R62, R63 and R97 (02_host_ports_commands.md (R56, R62, R63, R68, R97)). -/
def Obligations.RingAndEventControlWritesTakeEffect : Prop :=
  (∀ (p : Port) (v : Word) (s : State), v.bits 17 0 % 4 = 0 → s.span p (s.port p).lastDb ≤ s.span p (v.bits 17 0) →
    ∃ t, exec (.doorbellWrite p v) s = .next t ∧ (t.port p).lastDb = v.bits 17 0 ∧ t.out = s.out ∧ t.regs = s.regs) ∧
  (∀ (p : Port) (v : Word) (s : State), v.bits 17 0 ≠ (s.port p).lastDb →
    (v.bits 17 0 % 4 ≠ 0 ∨ s.span p (v.bits 17 0) < s.span p (s.port p).lastDb) →
    ∃ t, exec (.doorbellWrite p v) s = .next t ∧ (t.port p).lastDb = (s.port p).lastDb ∧ t.regBit .HP_STATUS p.idx 3 = true ∧
      Sends s t (.irq p 2)) ∧
  (∀ (p : Port) (s : State), ∃ t, exec (.ringReset p) s = .next t ∧ t.cmdRd p = (s.port p).lastDb % ringSize ∧ t.out = s.out) ∧
  (∀ (p : Port) (s : State), s.evtEn p = false → 10 ≤ s.regBits .HP_EVT_SIZE p.idx 4 0 → s.regBits .HP_EVT_SIZE p.idx 4 0 ≤ 16 →
    ∃ t, exec (.evtEnSet p) s = .next t ∧ t.evtEn p = true ∧ (t.port p).evtLog2 = s.regBits .HP_EVT_SIZE p.idx 4 0 ∧
      (t.port p).evtBase = (s.getReg .HP_EVT_BASE_LO p.idx).toNat + 2 ^ 32 * (s.getReg .HP_EVT_BASE_HI p.idx).toNat ∧
      t.regBits .HP_EVT_WR p.idx 15 0 = 0 ∧ t.regBits .HP_EVT_RD p.idx 15 0 = 0 ∧ (t.port p).phase = true ∧ (t.port p).seq = 0) ∧
  (∀ (p : Port) (s : State), ∃ t, exec (.evtEnClear p) s = .next t ∧ t.evtEn p = false ∧
    t.regBit .HP_CTL p.idx 0 = s.regBit .HP_CTL p.idx 0 ∧ t.out = s.out) ∧
  (∀ (p : Port) (on : Bool) (s : State), ∃ t, exec (.fetchEnWrite p on) s = .next t ∧ t.regBit .HP_CTL p.idx 0 = on ∧
    t.evtEn p = s.evtEn p ∧ t.out = s.out) ∧
  (∀ (p : Port) (v : Word) (s : State), ∃ t, exec (.evtReadIndexWrite p v) s = .next t ∧
    t.regBits .HP_EVT_RD p.idx 15 0 = v.bits 15 0)

/-- O10. A good packet is fetched, the next ready packet starts, URGENT work preempts, and a waiting set is armed (02_host_ports_commands.md (R55, R57, R59, R70, R71, R73)). -/
def Obligations.PacketsAreFetchedAndStarted : Prop :=
  (∀ (p : Port) (s : State) (h : Body) (len : Nat), s.mayFetch p = true → (s.port p).dropped = 0 → (s.port p).tags.length < s.freeRecords p →
    h = (s.port p).bytes (s.cmdRd p) 16 → len = h.u16 4 → len % 4 = 0 → len ≤ 4080 → h.u16 6 = 1 → 16 + len ≤ s.span p (s.port p).lastDb →
    crc32cFold (BitVec.ofNat 32 (256 * p.idx + h.u8 2)) (h.take 12 ++ (s.port p).bytes (s.cmdRd p + 16) len) = BitVec.ofNat 32 (h.u32 12) →
    s.tagFree (reqOf p h) = true → h.u8 2 < 64 → h.u8 3 < 4 →
    ∃ t, exec (.packetFetch p) s = .next t ∧
      (∃ k, (t.port p).fetched = (s.port p).fetched ++ [k] ∧ k.req = reqOf p h ∧ k.opcode = h.u16 0 ∧
        k.body = (s.port p).bytes (s.cmdRd p + 16) len ∧ k.seq = (s.port p).nextPkt) ∧
      (t.port p).tags = (s.port p).tags ++ [{ tag := h.u8 2, urgent := (reqOf p h).urgent, seq := (s.port p).nextPkt }] ∧
      t.cmdRd p = (s.cmdRd p + 16 + len) % ringSize ∧ t.out = s.out) ∧
  (∀ (s : State) (k : Packet), s.interp.current = none → s.interp.restart = none → s.ctrlHalted = false → s.boot.starting = false →
    s.interp.again = [] → (s.nextPacket true).or (s.nextPacket false) = some k → opcodes.contains k.opcode = true →
    ∃ t, exec .packetStart s = .next t ∧ t.interp.current = some { k with held := s.heldOf k.req.port } ∧
      (t.port k.req.port).fetched = (s.port k.req.port).fetched.filter (fun x => x.seq != k.seq) ∧ t.out = s.out) ∧
  (∀ (s : State) (c k : Packet), s.interp.current = some c → c.req.urgent = false → s.interp.suspended = none → s.interp.restart = none →
    s.ctrlHalted = false → s.nextPacket true = some k → opcodes.contains k.opcode = true →
    ∃ t, exec .urgentPreempt s = .next t ∧ t.interp.suspended = some c ∧
      t.interp.current = some { k with held := s.heldOf k.req.port }) ∧
  (∀ (s : State) (c : Fin 16) (a : ChanArm) (rest : List ChanArm), (s.chan c).next = none → (s.chan c).second = a :: rest →
    (s.chan c).bound = true → ∃ t, exec (.secondSetArm (.chan c)) s = .next t ∧ (t.chan c).next = some a ∧ (t.chan c).second = rest) ∧
  (∀ (s : State) (h : Fin 24) (a : Arm) (rest : List Arm), (s.head h).armed = none → (s.head h).second = a :: rest → s.running h = true →
    ∃ t x, exec (.secondSetArm (.head h)) s = .next t ∧ (t.head h).armed = some x ∧ x.edits = a.edits ∧ x.cmd = a.cmd ∧
      (t.head h).second = rest)

/-- O11. SEM_REQ grants a scope exactly when R78 lets it, a tie of free ports goes to the port SEM_TIE.PRIO names, and the decision is shown (02_host_ports_commands.md (R76, R78, R79, R98)). -/
def Obligations.SemaphoreRequestsAreGrantedOrRefused : Prop :=
  (∀ (p : Port) (v : Word) (s : State), let n := v.bits 5 0
    let grant := s.holds p n || (!s.holds p.other n && (if n = 0 then decide (s.heldOf p.other = 0) else !s.holds p.other 0))
    ∃ t, exec (.semReq p v none) s = .next t ∧
      t.heldOf p = (if grant then s.heldOf p ||| BitVec.ofNat 64 (2 ^ n) else s.heldOf p) ∧ t.heldOf p.other = s.heldOf p.other ∧
      t.regBits .SEM_RESULT p.idx 6 0 = n ∧ t.regBit .SEM_RESULT p.idx 7 = grant ∧
      t.regBits .SEM_RESULT p.idx 31 16 = (s.regBits .SEM_RESULT p.idx 31 16 + 1) % 2 ^ 16) ∧
  (∀ (p q : Port) (v : Word) (s : State), s.heldOf .A = 0 → s.heldOf .B = 0 → q = portOf (s.regBits .SEM_TIE 0 0 0) →
    ∃ t, exec (.semReq p v (some v)) s = .next t ∧ t.heldOf q = BitVec.ofNat 64 (2 ^ v.bits 5 0) ∧ t.heldOf q.other = 0 ∧
      t.regBit .SEM_RESULT q.idx 7 = true ∧ t.regBit .SEM_RESULT q.other.idx 7 = false ∧ t.regBits .SEM_RESULT q.other.idx 15 8 = 3 ∧
      t.regBit .SEM_TIE 0 0 = !s.regBit .SEM_TIE 0 0)

/-- O12. SEM_REL releases the scope it names, 0x40 releases all, and every other release has no effect (R80). -/
def Obligations.ScopesAreReleased : Prop :=
  (∀ (p : Port) (v : Word) (s : State), v.bits 6 0 < 64 →
    ∃ t, exec (.semRel p v) s = .next t ∧ t.heldOf p = s.heldOf p &&& ~~~BitVec.ofNat 64 (2 ^ v.bits 6 0) ∧
      t.heldOf p.other = s.heldOf p.other ∧ (s.holds p (v.bits 6 0) = false → t = s)) ∧
  (∀ (p : Port) (v : Word) (s : State), v.bits 6 0 = 64 →
    ∃ t, exec (.semRel p v) s = .next t ∧ t.heldOf p = 0 ∧ t.heldOf p.other = s.heldOf p.other) ∧
  (∀ (p : Port) (v : Word) (s : State), 64 < v.bits 6 0 → exec (.semRel p v) s = .next s) ∧
  (∀ (p : Port) (s : State), ∃ t, exec (.semRelAll p) s = .next t ∧ t.heldOf p = 0 ∧ t.heldOf p.other = s.heldOf p.other)

/-- O13. A link keeps its scopes for 100 ms away from L0, and a port reset empties the ring and the packets not started (02_host_ports_commands.md (R75, R81, R97)). -/
def Obligations.LinksAndPortResetsKeepOrReleaseScopes : Prop :=
  (∀ (p : Port) (d3hot : Bool) (s : State), (s.port p).linkUp = true →
    ∃ t, exec (.pcieLinkLeaveL0 p d3hot) s = .next t ∧ (t.port p).linkUp = false ∧ (t.port p).downSince = some s.now ∧
      t.regBit .HP_STATUS p.idx 0 = false ∧ t.heldOf p = s.heldOf p ∧ t.heldOf p.other = s.heldOf p.other) ∧
  (∀ (p : Port) (w g : Nat) (asked : List (Nat × Nat)) (s : State), (s.port p).linkUp = false → (w = 1 ∨ w = 2 ∨ w = 4) → 1 ≤ g → g ≤ 5 →
    (p = s.boot.port ∨ s.boot.board = true) →
    ∃ t, exec (.pcieLinkEnterL0 p w g asked) s = .next t ∧ (t.port p).linkUp = true ∧ (t.port p).downSince = none ∧
      t.regBit .HP_STATUS p.idx 0 = true ∧ t.regBits .HP_STATUS p.idx 10 8 = w ∧ t.regBits .HP_STATUS p.idx 7 4 = g) ∧
  (∀ (p : Port) (s : State) (u : Nat), (s.port p).downSince = some u → u + 100000000 ≤ s.now →
    ∃ t, exec (.linkDownScopeTimeout p) s = .next t ∧ t.heldOf p = 0 ∧ t.heldOf p.other = s.heldOf p.other ∧
      (s.heldOf p ≠ 0 → Sends s t (.irq p.other 3))) ∧
  (∀ (p : Port) (k : ResetKind) (s : State),
    ∃ t, exec (.portReset p k) s = .next t ∧ (t.port p).fetched = [] ∧ (t.port p).lastDb = 0 ∧ t.cmdRd p = 0 ∧
      t.regBits .HP_EVT_WR p.idx 15 0 = 0 ∧ t.getReg .HP_CTL p.idx = 0#32) ∧
  (∀ (p : Port) (k : ResetKind) (s : State), k ≠ .linkDown →
    ∃ t, exec (.portReset p k) s = .next t ∧ t.heldOf p = 0)

/-- O14. A control-plane restart cuts interpretation and stops fetching, and its end lets the block go on (01_architecture.md (R25); 02_host_ports_commands.md (R71)). -/
def Obligations.ControlPlaneRestartHoldsPackets : Prop :=
  (∀ s : State, s.fwRuns = true → s.interp.restart = none →
    ∃ t, exec .ctrlRestartBegin s = .next t ∧ t.interp.restart = some s.now ∧ t.interp.current = none ∧ t.interp.suspended = none ∧
      t.interp.again = (s.interp.current.toList ++ s.interp.suspended.toList).map (fun k => { k with restarted := true }) ++ s.interp.again ∧
      t.mayFetch .A = false ∧ t.mayFetch .B = false) ∧
  (∀ s : State, s.interp.restart.isSome = true →
    ∃ t, exec .ctrlRestartEnd s = .next t ∧ t.interp.restart = none ∧ t.interp.due = [] ∧ t.ctrlHalted = false)

/-- O15. Moderation ends with the held-back vector 0, W1C writes clear what hardware does not set, and read indices belong to the placing port (02_host_ports_commands.md (R69); 00_scope.md (R14); 19_address_map.md (R620); 12_touch.md (R458)). -/
def Obligations.InterruptsStatusAndReadIndicesFollowTheHost : Prop :=
  (∀ (p : Port) (s : State) (u : Nat), (s.port p).modUntil = some u → u ≤ s.now →
    ∃ t, exec (.irqModerationExpiry p) s = .next t ∧
      if (s.port p).modPending then Sends s t (.irq p 0) else t.out = s.out ∧ (t.port p).modUntil = none) ∧
  (∀ (p : Port) (v hw : Word) (s : State), ∃ t, exec (.w1cWrite p v hw) s = .next t ∧
    (∀ k, k = 2 ∨ k = 3 → t.regBit .HP_STATUS p.idx k = ((s.regBit .HP_STATUS p.idx k && !v.bit k) || hw.bit k))) ∧
  (∀ (p : Port) (k : Fin 2) (v : Word) (s : State), ∃ t, exec (.ringIndexWriteIng p k v) s = .next t ∧
    t.getReg .ING_RING_RD k = (if (s.iring k).log2 ≠ 0 ∧ (s.iring k).port = p then v &&& 0x3FFF#32 else s.getReg .ING_RING_RD k)) ∧
  (∀ (p : Port) (v : Word) (s : State), ∃ t, exec (.ringIndexWriteCam p v) s = .next t ∧
    t.getReg .CAM_STATS_RD 0 = (if s.cam.ring.log2 ≠ 0 ∧ s.cam.ring.port = p then v &&& 0x3FF#32 else s.getReg .CAM_STATS_RD 0)) ∧
  (∀ (p : Port) (v : Word) (s : State), ∃ t, exec (.ringIndexWriteEnc p v) s = .next t ∧
    t.getReg .ENC_STATS_RD 0 = (if s.enc.ring.log2 ≠ 0 ∧ s.enc.ring.port = p then v &&& 0x1FF#32 else s.getReg .ENC_STATS_RD 0)) ∧
  (∀ (p : Port) (v : Word) (s : State), ∃ t, exec (.ringIndexWriteTch p v) s = .next t ∧
    t.getReg .TCH_RING_RD 0 = (if s.tch.ring.log2 ≠ 0 ∧ s.tch.ring.port = p then v &&& 0xFFF#32 else s.getReg .TCH_RING_RD 0))

/-- O16. RC registers clear when read, latching reads latch for their master, and odd reads and writes are answered and counted (00_scope.md (R12, R14); 19_address_map.md (R617 to R620, R622); 02_host_ports_commands.md (R53)). -/
def Obligations.RegisterReadsAndWritesFollowTheAccessRules : Prop :=
  (∀ (p : Port) (r : Reg) (i : Nat) (s : State), r.info.acc = .RC → i < r.info.count → s.offAt (r.addr i) = false →
    ∃ t, exec (.rcRegisterRead p (r.addr i) false) s = .next t ∧ t.getReg r i = 0#32 ∧
      t.out = .readData (.host p) (r.addr i) (s.getReg r i).toNat :: s.out) ∧
  (∀ (p : Port) (h : Fin 24) (s : State), s.offAt (Reg.HD_FRAME_LO.addr h) = false →
    ∃ t, exec (.latchingRegisterRead (.host p) (Reg.HD_FRAME_LO.addr h)) s = .next t ∧
      t.out = .readData (.host p) (Reg.HD_FRAME_LO.addr h) (s.getReg .HD_FRAME_LO h).toNat :: s.out ∧
      Tbl.get t.latches (p.idx * 64 + h) = [s.getReg .HD_FRAME_HI h, s.getReg .HD_FLIP_SEC h, s.getReg .HD_FLIP_NS h] ∧
      ∀ k, k ≠ p.idx * 64 + h → Tbl.get t.latches k = Tbl.get s.latches k) ∧
  (∀ (m : BusMaster) (a n : Nat) (s : State), 8 < a % 8 + n →
    ∃ t, exec (.crossingRegisterRead m a n) s = .next t ∧ t.out = .readData m a (256 ^ n - 1) :: s.out) ∧
  (∀ (p : Port) (r : Reg) (i : Nat) (s : State), i < r.info.count → s.offAt (r.addr i) = true →
    ∃ t, exec (.offIslandRegisterRead p (r.addr i)) s = .next t ∧
      t.out = .readData (.host p) (r.addr i) (r.resetOf i).toNat :: s.out) ∧
  (∀ (p : Port) (i : Fin 2) (v : Word) (s : State),
    ∃ t, exec (.registerWrite p (.bar2 (Reg.DEV_SCRATCH.addr i) 4 v) none) s = .next t ∧ t.getReg .DEV_SCRATCH i = v ∧ t.out = s.out) ∧
  (∀ (p : Port) (a n : Nat) (v : Word) (s : State), n ≠ 4 ∨ a % 4 ≠ 0 →
    ∃ t, exec (.registerWrite p (.bar2 a n v) none) s = .next t ∧ OnlyChanges [] [.HP_WR_DROP] s t)

/-- O17. Accepted changes, stuck inputs, waiting selections and EVI_CONFIG of the event inputs have their effects (02_host_ports_commands.md (R93, R94, R95)). -/
def Obligations.EventInputsActOnAcceptedChanges : Prop :=
  (∀ (n : Fin 8) (lv : Bool) (held : Nat) (s : State), s.regBit .EVI_STAT n 0 ≠ lv → s.filterNs n ≤ held →
    ∃ t, exec (.evinChangeAccepted n lv held) s = .next t ∧ t.regBit .EVI_STAT n 0 = lv) ∧
  (∀ (n : Fin 8) (lv : Bool) (held : Nat) (s : State) (q : Port), s.regBit .EVI_STAT n 0 ≠ lv → s.filterNs n ≤ held →
    s.regBit .EVI_CFG n 31 = true → s.regBit .EVI_CFG n 30 = lv → s.regBits .EVI_CFG n 27 24 = 0 → (s.evi n).lastEdge = none → Listens s q 0x0310 →
    ∃ t, exec (.evinChangeAccepted n lv held) s = .next t ∧ (t.evi n).activeAt = some (s.now - held) ∧ Raises s t q 0x0310) ∧
  (∀ (n : Fin 8) (s : State) (u : Nat) (q : Port), (s.evi n).activeAt = some u → s.regBits .EVI_CFG n 15 0 ≠ 0 →
    u + s.regBits .EVI_CFG n 15 0 * 1000000 ≤ s.now → s.regBit .EVI_STAT n 1 = false → Listens s q 0x0311 →
    ∃ t, exec (.evinStuckTimeout n) s = .next t ∧ t.regBit .EVI_STAT n 1 = true ∧ Raises s t q 0x0311) ∧
  (∀ (n : Fin 8) (s : State) (u : Nat), (s.evi n).lastAction = some u → (s.evi n).pendingAct = true → u + 10000000 ≤ s.now →
    ∃ t, exec (.evinActionPendingExpiry n) s = .next t ∧ (t.evi n).pendingAct = false ∧ (t.evi n).lastAction = some s.now) ∧
  (∀ (r : Req) (b : Body) (s : State), Ready s r 0x0310 [0] → b.length = 12 → b.u8 0 < 8 → b.u8 1 < 2 → b.u8 2 < 2 → b.u8 3 < 4 → b.u8 5 = 0 →
    b.u16 10 = 0 → (b.u8 3 = 2 → b.u16 8 < 4) →
    ∃ t, exec (.eviConfig r b) s = .next t ∧ Answers s t r 0x0310 0 0 [] ∧
      t.getReg .EVI_CFG (b.u8 0) = BitVec.ofNat 32 (2 ^ 31 * b.u8 1 + 2 ^ 30 * b.u8 2 + 2 ^ 24 * b.u8 3 + 2 ^ 16 * b.u8 4 + b.u16 6) ∧
      t.regBits .EVI_ARG (b.u8 0) 15 0 = b.u16 8 ∧ t.getReg .EVI_OVR (b.u8 0) = 0#32 ∧ t.regBit .EVI_STAT (b.u8 0) 1 = false)

/-- O18. PRF_LOAD of a checked image makes its slot VALID or INVALID and keeps the image's sections (02_host_ports_commands.md (R83 to R85, R91, R99)). -/
def Obligations.ProfileImagesLoadAsValidOrInvalid : Prop :=
  (∀ (r : Req) (b image : Body) (s z : State) (l : List (Nat × Option Section)), Ready s r 0x0301 [1 + b.u8 0] → b.length = 20 → b.u8 0 < 4 →
    b.zero 1 3 = true → b.u32 12 % 4 = 0 → b.u32 12 ≤ 4194304 → crc32c (takePad (b.u32 12) image) = BitVec.ofNat 32 (b.u32 16) →
    s.slotState (b.u8 0) ≠ 3 → s.slotState (b.u8 0) ≠ 4 → l = parseSections (takePad (b.u32 12) image) (b.u32 12 / 8 + 1) 0 →
    checkSections l s.endInterp.blank = .inr z →
    ∃ t, exec (.prfLoad r b image) s = .next t ∧ (t.slot (b.u8 0)).sections = l.filterMap (·.2) ∧ (t.slot (b.u8 0)).len = b.u32 12 ∧
      match (if finalFormat z (l.filterMap (·.2)) then some rFORMAT else (s.endInterp.profileConf (l.filterMap (·.2))).reject s.endInterp) with
      | none => t.regBits .PRF_STATE 0 (19 + 4 * b.u8 0) (16 + 4 * b.u8 0) = 1 ∧ (t.slot (b.u8 0)).reason = 0 ∧ ∃ body, Answers s t r 0x0301 0 0 body
      | some x => t.regBits .PRF_STATE 0 (19 + 4 * b.u8 0) (16 + 4 * b.u8 0) = 2 ∧ (t.slot (b.u8 0)).reason = x ∧ ∃ body, Answers s t r 0x0301 7 x body) ∧
  (∀ (r : Req) (b image : Body) (s : State), Ready s r 0x0301 [1 + b.u8 0] → b.length = 20 → b.u8 0 < 4 →
    b.zero 1 3 = true → b.u32 12 % 4 = 0 → b.u32 12 ≤ 4194304 → crc32c (takePad (b.u32 12) image) ≠ BitVec.ofNat 32 (b.u32 16) →
    s.slotState (b.u8 0) ≠ 3 → s.slotState (b.u8 0) ≠ 4 →
    ∃ t, exec (.prfLoad r b image) s = .next t ∧ t.regBits .PRF_STATE 0 (19 + 4 * b.u8 0) (16 + 4 * b.u8 0) = 2 ∧ ∃ body, Answers s t r 0x0301 8 0 body)

/-- O19. PRF_SELECT and a stable PSEL value in pin mode select a VALID slot; a pin value of any other slot raises PRF_PIN_INVALID (02_host_ports_commands.md (R86, R88 to R90, R94, R99)). -/
def Obligations.ProfileSelectionsStart : Prop :=
  (∀ (r : Req) (b : Body) (s : State), Ready s r 0x0302 [1 + b.u8 0] → b.length = 4 → b.zero 1 3 = true → b.u8 0 < 4 →
    s.slotState (b.u8 0) = 1 → (s.slot (b.u8 0)).reason = 0 → s.heldOf r.port.other = 0 → s.enginesLack (b.u8 0) = false →
    ∃ t, exec (.prfSelect r b) s = .next t ∧ t.regBits .PRF_STATE 0 3 2 = b.u8 0 ∧ t.prof.src = 0 ∧ t.prof.srcArg = r.port.idx) ∧
  (∀ (v : Fin 4) (s : State), s.pwr.porst = false → s.pwr.released + 10000000 ≤ s.now →
    ∃ t, exec (.pselStable v) s = .next t ∧ t.regBits .PRF_STATE 0 5 4 = v ∧
      (s.regBit .PRF_STATE 0 7 = false → t.interp = s.interp ∧ t.prof = s.prof)) ∧
  (∀ (v : Fin 4) (s : State), s.pwr.porst = false → s.pwr.released + 10000000 ≤ s.now → s.regBit .PRF_STATE 0 7 = true →
    s.regBits .PRF_STATE 0 5 4 ≠ v → s.slotState v = 1 → (s.slot v).reason = 0 → s.prof.lastSel = none → s.enginesLack v = false →
    ∃ t, exec (.pselStable v) s = .next t ∧ t.regBits .PRF_STATE 0 5 4 = v ∧ t.regBits .PRF_STATE 0 3 2 = v ∧ t.prof.src = 1) ∧
  (∀ (v : Fin 4) (s : State) (q : Port), s.pwr.porst = false → s.pwr.released + 10000000 ≤ s.now → s.regBit .PRF_STATE 0 7 = true →
    s.regBits .PRF_STATE 0 5 4 ≠ v → (s.slotState v = 0 ∨ s.slotState v = 2 ∨ s.slotState v = 5) → Listens s q 0x0302 →
    ∃ t, exec (.pselStable v) s = .next t ∧ t.regBits .PRF_STATE 0 5 4 = v ∧ t.prof = s.prof ∧ Raises s t q 0x0302)

/-- O20. EVENT_MASK sets the groups that reach its port, PRF_PIN_MODE sets pin mode, and PRF_STATUS answers the slots (02_host_ports_commands.md (R67, R84, R90, R99)). -/
def Obligations.MasksPinModeAndStatusAnswer : Prop :=
  (∀ (r : Req) (b : Body) (s : State), Ready s r 0x0201 [] → b.length = 32 →
    ∃ t, exec (.eventMask r b) s = .next t ∧ Answers s t r 0x0201 0 0 [] ∧
      ∀ g, g < 256 → t.passes r.port (256 * g) = (b.le 0 32).testBit g ∧ t.passes r.port.other (256 * g) = s.passes r.port.other (256 * g)) ∧
  (∀ (r : Req) (b : Body) (s : State), Ready s r 0x0303 [0] → b.length = 4 → b.u8 0 < 2 → b.zero 1 3 = true →
    ∃ t, exec (.prfPinMode r b) s = .next t ∧ Answers s t r 0x0303 0 0 [] ∧ t.regBit .PRF_STATE 0 7 = (b.u8 0 == 1)) ∧
  (∀ (r : Req) (s : State), Ready s r 0x0304 [] →
    ∃ t body, exec (.prfStatus r []) s = .next t ∧ Answers s t r 0x0304 0 0 body ∧ body.length = 20 ∧
      Body.u32 body 0 = s.endInterp.prfState.toNat ∧ t.getReg .PRF_STATE 0 = s.getReg .PRF_STATE 0 ∧
      ∀ n, n < 4 → Body.u16 body (4 + 2 * n) = (if s.endInterp.slotState n = 2 then (s.slot n).reason else 0) % 65536 ∧
        Body.u16 body (12 + 2 * n) = (if s.endInterp.slotState n = 0 then 0 else ((s.slot n).len + 1023) / 1024) % 65536)

/-- O21. Reset, straps, firmware image, firmware start, board table and island power bring the block up (16_power_startup.md (R549, R551, R559 to R567); 01_architecture.md (R29, R30)). -/
def Obligations.BringUpFollowsTheSpec : Prop :=
  (∀ s : State, ∃ t, exec .porstAssert s = .next t ∧ (∀ r i, t.getReg r i = r.resetOf i) ∧ t.sem = {} ∧ t.boot = {} ∧ t.mem = {} ∧
    t.pwr.porst = true ∧ t.now = s.now ∧ t.pending = s.pending) ∧
  (∀ (pairId bootsel : Bool) (s : State), s.pwr.porst = true →
    ∃ t, exec (.porstRelease pairId bootsel) s = .next t ∧ t.pwr.porst = false ∧ t.pairId = pairId ∧
      t.boot.port = (if bootsel then Port.B else Port.A) ∧ t.regBit .DEV_BOOT 0 28 = bootsel ∧ t.regBit .DEV_BOOT 0 27 = pairId ∧
      t.ptp = 0 ∧ ∀ i, i ∈ [11, 27, 36, 37, 40] → t.island i = 1) ∧
  (∀ (r : Req) (s : State), Ready s r 0x0101 [] →
    ∃ t, exec (.devInfo r []) s = .next t ∧ Answers s t r 0x0101 0 0 (leBytes 4 s.devId.toNat ++ leBytes 4 s.devBoot.toNat ++
      leBytes 4 Config.romVersion.toNat ++ leBytes 4 (if s.fwRuns then s.boot.fwVersion else 0))) ∧
  (∀ (r : Req) (b : Body) (image : List Byte) (s : State), Ready s r 0x0102 [] → s.boot.starting = false → s.fwRuns = false →
    r.port = s.boot.port → b.length = 16 → b.u32 8 ≤ 16777216 → b.zero 12 4 = true →
    ∃ t, exec (.bootLoad r b image) s = .next t ∧
      if imageFail (image.take (b.u32 8)) (b.u32 8) = 0 then
        t.boot.starting = true ∧ t.boot.fwVersion = Body.u32 (image.take (b.u32 8)) 16 ∧ ∃ body, Answers s t r 0x0102 0 0 body
      else t.regBits .DEV_BOOT 0 21 19 = imageFail (image.take (b.u32 8)) (b.u32 8) ∧ t.boot = s.boot ∧ ∃ body, Answers s t r 0x0102 8 0 body) ∧
  (∀ s : State, s.boot.starting = true →
    ∃ t, exec .fwStart s = .next t ∧ t.fwRuns = true ∧ t.boot.starting = false ∧ t.boot.fwVersion = s.boot.fwVersion) ∧
  (∀ (r : Req) (b : Body) (image : List Byte) (s : State), Ready s r 0x0103 [0] → s.boot.board = false → b.length = 16 →
    ∃ t, exec (.devBoardTable r b image true) s = .next t ∧
      if crc32c (image.take (b.u32 8)) ≠ BitVec.ofNat 32 (b.u32 12) then t.boot = s.boot ∧ Answers s t r 0x0103 8 0 []
      else if tableOk (image.take (b.u32 8)) (b.u32 8) = false then t.boot = s.boot ∧ Answers s t r 0x0103 3 0 []
      else t.boot.board = true ∧ t.boot.table = image.take (b.u32 8) ∧ Answers s t r 0x0103 0 0 []) ∧
  (∀ (r : Req) (b : Body) (s : State), Ready s r 0x7C01 [53] → b.length = 4 → (b.u8 0 = 38 ∨ b.u8 0 = 39) → b.u8 1 = 1 → b.zero 2 2 = true →
    s.island (b.u8 0) = 0 → s.pwr.queue = [] → s.pwr.cmds = [] → (∀ i, i < 41 → s.island i ≠ 1) →
    ∃ t, exec (.pwrIsland r b) s = .next t ∧ t.island (b.u8 0) = 1 ∧ ∃ c, t.pwr.cmds = [c] ∧ c.req = r ∧ c.on = true) ∧
  (∀ (i : Fin 41) (s : State), s.island i = 1 → ∃ t, exec (.islandClearDone i) s = .next t ∧ t.island i = 2) ∧
  (∀ (i : Fin 41) (s : State), s.island i = 2 → (∃ c ∈ s.pwr.cmds, c.on = false ∧ i.val ∈ c.islands) → s.xing = [] →
    ∃ t, exec (.islandPowerOff i) s = .next t ∧ t.island i = 0)

/-- O22. Rails, replicas, the regulator, droop detectors and temperature sensors are read, counted and escalated (16_power_startup.md (R548, R549, R552 to R558)). -/
def Obligations.PowerAndTemperatureAreWatched : Prop :=
  (∀ s : State, ∃ t, exec .trstAssert s = .next t ∧ t.flt.dbg = false ∧ OnlyChanges [.flt] [] s t ∧ t.out = s.out) ∧
  (∀ s : State, ∃ t, exec .railExcursion s = .next t ∧ Logs s t 40 0x12 1) ∧
  (∀ (i : Fin 41) (uv : Nat) (s : State), s.island i = 2 →
    ∃ t, exec (.avsMeasure i uv false) s = .next t ∧
      t.regBits .PWR_ISL_STAT i 27 16 = min 4095 (ceilDiv (uv * (if guarded i then 108 else 103)) 100000)) ∧
  (∀ (i : Fin 41) (uv : Nat) (s : State), s.island i = 2 → ∃ t, exec (.avsMeasure i uv true) s = .next t ∧ Logs s t i 0x12 1) ∧
  (∀ (v c st : Nat) (s : State), s.regBit .PWR_STATUS 0 31 = true → statusBad st = false →
    s.regBits .PWR_VSET 0 10 0 ≤ v + 15 → v ≤ s.voutRange.2 + 15 →
    ∃ t, exec (.pmbusPoll true true true v c st false) s = .next t ∧ t.regBits .PWR_VREAD 0 10 0 = v % 2048 ∧ t.regBits .PWR_IREAD 0 11 0 = c % 4096 ∧
      t.pwr.nacks = 0 ∧ t.pwr.badReads = 0) ∧
  (∀ (v c st : Nat) (s : State), s.regBit .PWR_STATUS 0 31 = true → s.pwr.nacks = 0 → statusBad st = false →
    ∃ t, exec (.pmbusPoll false false false v c st false) s = .next t ∧ Logs s t 40 0x12 1) ∧
  (∀ (i : Fin 41) (n : Nat) (s : State), s.island i ≠ 0 → n ≠ 0 → guarded i = false →
    ∃ t, exec (.droopStretch i n) s = .next t ∧ t.getReg .PWR_ISL_STRETCH i = s.getReg .PWR_ISL_STRETCH i + 1) ∧
  (∀ (i : Fin 41) (c : Int) (s : State), 0 ≤ c → c ≤ 105 → ∃ t, exec (.thermalSensorRead i c) s = .next t ∧
    t.regBits .PWR_ISL_TEMP i 7 0 = c.toNat ∧ t.pwr.trip = s.pwr.trip ∧ Tbl.get t.pwr.hot i = 0) ∧
  (∀ (i : Fin 41) (c : Int) (s : State), 125 ≤ c → Tbl.get s.pwr.hot i = 2 →
    ∃ t, exec (.thermalSensorRead i c) s = .next t ∧ t.pwr.trip = true ∧ Logs s t i 0x11 1) ∧
  (∀ (r : Req) (b : Body) (s : State), Ready s r 0x7C02 [53] → b.length = 4 → 60 ≤ b.u8 0 → b.u8 0 ≤ 104 → b.zero 1 3 = true →
    ∃ t, exec (.pwrThermWarn r b) s = .next t ∧ Answers s t r 0x7C02 0 0 [] ∧ t.regBits .PWR_THERM_WARN 0 7 0 = b.u8 0 ∧
      t.regBit .PWR_STATUS 0 29 = (List.range 41).any (fun i => decide ((b.u8 0 : Int) ≤ s.tempOf i)))

/-- O23. PRBS tests run and end with their codes, and losses of lock and of PLLs are shown and recorded (17_serial_lanes.md (R572, R576, R584 to R588, R590)). -/
def Obligations.SerialLanesAreTestedAndWatched : Prop :=
  (∀ (r : Req) (b : Body) (s : State), Ready s r 0x7E01 [53] → b.length = 12 → b.u8 0 ≤ 66 → b.u8 1 ≤ 2 → b.u8 2 ≠ 0 → b.u8 2 ≤ 3 → b.zero 3 1 = true →
    prbsRateOk (b.u8 0) (b.u32 4) = true → b.u32 8 ≤ 86400000 → s.prbs (b.u8 0) = none → s.laneBusy (b.u8 0) = false →
    ∃ t x, exec (.slPrbs r b) s = .next t ∧ t.prbs (b.u8 0) = some x ∧ x.req = r ∧ x.dir = b.u8 2 ∧ x.rateKbps = b.u32 4 ∧
      x.durationMs = b.u32 8 ∧ x.start = s.now ∧ t.getReg .SL_PRBS_ERR (b.u8 0) = 0#32 ∧ t.regBits .SL_PRBS_STAT (b.u8 0) 30 29 = b.u8 1 ∧
      t.regBit .SL_LANE_STAT (b.u8 0) 28 = true) ∧
  (∀ (r : Req) (b : Body) (s : State) (x : Prbs), Ready s r 0x7E02 [53] → b.length = 4 → b.u8 0 ≤ 66 → b.zero 1 3 = true → s.prbs (b.u8 0) = some x →
    ∃ t, exec (.slPrbsStop r b) s = .next t ∧ t.prbs (b.u8 0) = none ∧ t.regBits .SL_PRBS_STAT (b.u8 0) 28 26 = 2 ∧
      (s.evtEn x.req.port = true → ∃ body, Answers s t x.req 0x7E01 0 0 body)) ∧
  (∀ (l : Fin 67) (errs : Nat) (s : State) (x : Prbs), s.prbs l = some x → x.durationMs ≠ 0 → x.start + x.durationMs * 1000000 ≤ s.now →
    ∃ t, exec (.prbsTestEnd l errs) s = .next t ∧ t.prbs l = none ∧ t.regBits .SL_PRBS_STAT l 28 26 = 1) ∧
  (∀ (l : Fin 67) (s : State) (x : Prbs), s.prbs l = some x → x.dir.testBit 1 = true → x.locked1 = none → x.start + 100000000 ≤ s.now →
    ∃ t, exec (.prbsNolockTimeout l) s = .next t ∧ t.prbs l = none ∧ t.regBits .SL_PRBS_STAT l 28 26 = 4) ∧
  (∀ (l : Fin 67) (tail : List Bool) (errs : Nat) (s : State) (x : Prbs), s.prbs l = some x → x.dir.testBit 1 = true → x.since = none →
    prbsLocks (s.regBits .SL_PRBS_STAT l 30 29) tail = true →
    ∃ t, exec (.prbsCheckerLockChange l tail errs) s = .next t ∧ t.regBit .SL_PRBS_STAT l 31 = true ∧
      t.getReg .SL_PRBS_ERR l = s.getReg .SL_PRBS_ERR l ∧ ∃ y, t.prbs l = some y ∧ y.since = some s.now ∧ y.locked1.isSome = true) ∧
  (∀ (l : Fin 67) (tail : List Bool) (errs : Nat) (s : State) (x : Prbs), s.prbs l = some x → x.dir.testBit 1 = true → x.since.isSome = true →
    tail.length = 1024 → 32 ≤ (tail.filter id).length →
    ∃ t, exec (.prbsCheckerLockChange l tail errs) s = .next t ∧ t.regBit .SL_PRBS_STAT l 31 = false ∧
      t.regBits .SL_PRBS_STAT l 15 0 = min 65535 (s.regBits .SL_PRBS_STAT l 15 0 + 1) ∧ ∃ y, t.prbs l = some y ∧ y.since = none) ∧
  (∀ (q : Fin 16) (v : Bool) (s : State), s.regBit .SL_STATUS 0 q = true → s.regBit .SL_QUAD_STAT q (if v then 18 else 19) = true →
    ∃ t, exec (.lanePllUnlock q v) s = .next t ∧ t.regBit .SL_QUAD_STAT q (if v then 18 else 19) = false ∧ Logs s t (21 + q / 4) 0x0B 1) ∧
  (∀ (l : Fin 67) (lk : Bool) (code corr unc : Nat) (s : State), s.laneServes l = true → s.regBit .SL_LANE_STAT l 30 ≠ lk →
    ∃ t, exec (.laneLockChange l lk code corr unc) s = .next t ∧ t.regBit .SL_LANE_STAT l 30 = lk ∧
      t.getReg .SL_LANE_LOCKLOSS l = (if lk then s.getReg .SL_LANE_LOCKLOSS l else (s.bumpSat .SL_LANE_LOCKLOSS l).getReg .SL_LANE_LOCKLOSS l) ∧
      (s.laneFec l = true → t.regBits .SL_LANE_FEC l 15 0 = min 65535 (s.regBits .SL_LANE_FEC l 15 0 + corr) ∧
        t.regBits .SL_LANE_FEC l 31 16 = min 65535 (s.regBits .SL_LANE_FEC l 31 16 + unc)))

/-- O24. MPU_ENTRY and MPU_LOCK set up the protection unit, and CHK runs start, end and stop as the spec says (14_protection_faults.md (R488, R489, R495, R498 to R503)). -/
def Obligations.MpuAndCheckUnitsFollowTheSpec : Prop :=
  (∀ (r : Req) (b : Body) (s : State), Ready s r 0x7001 [52] → b.length = 20 → b.u16 0 ≤ 255 → b.u8 2 ≤ 15 → b.zero 3 1 = true → b.u32 4 ≤ b.u32 8 →
    s.mpuLocked = false → s.mpuEntLocked (b.u16 0) = false →
    ∃ t, exec (.mpuEntry r b) s = .next t ∧ Answers s t r 0x7001 0 0 (leBytes 2 (b.u16 0)) ∧
      (t.getReg .MPU_ENT_BASE (b.u16 0)).toNat = b.u32 4 ∧ (t.getReg .MPU_ENT_LIMIT (b.u16 0)).toNat = b.u32 8 ∧
      (t.getReg .MPU_ENT_MASK_LO (b.u16 0)).toNat = b.u32 12 ∧ (t.getReg .MPU_ENT_MASK_HI (b.u16 0)).toNat = b.u32 16 ∧
      t.regBit .MPU_ENT_CTL (b.u16 0) 0 = (b.u8 2).testBit 0 ∧ t.regBit .MPU_ENT_CTL (b.u16 0) 1 = (b.u8 2).testBit 1 ∧
      t.mpuValid (b.u16 0) = (b.u8 2).testBit 2 ∧ t.mpuEntLocked (b.u16 0) = (b.u8 2).testBit 3 ∧ t.regBits .MPU_CTL 0 8 0 = t.mpuCount) ∧
  (∀ (r : Req) (b : Body) (s : State), Ready s r 0x7002 [0] → b.length = 4 → b.u32 0 = 0x4D50554C → s.mpuLocked = false → s.fwRegionOk = true →
    ∃ t, exec (.mpuLock r b) s = .next t ∧ Answers s t r 0x7002 0 0 (leBytes 2 s.mpuCount ++ leBytes 6 0 ++ timeBytes s.ptp) ∧
      t.mpuLocked = true ∧ (∀ n, n < 256 → t.mpuEntLocked n = true) ∧ ∀ n, t.mpuValid n = s.mpuValid n) ∧
  (∀ (r : Req) (b : Body) (s : State), Ready s r 0x7010 [52] → b.length = 28 → b.u8 0 ≤ 7 → b.u8 1 ≤ 3 → b.u8 2 ≤ 3 → b.u8 3 ≤ 1 → b.u64 4 < 2 ^ 44 →
    1 ≤ b.u32 12 → b.u32 12 ≤ 1073741824 → b.u32 24 = 0 → s.chkBusy (b.u8 0) = false →
    ∃ t, exec (.chkRun r b) s = .next t ∧ t.out = s.out ∧ t.chkBusy (b.u8 0) = true ∧ (t.chk (b.u8 0)).started = some s.now ∧
      (t.chk (b.u8 0)).req = some r ∧ (t.chk (b.u8 0)).cfg = b ∧ (t.getReg .CHK_EXPECT (b.u8 0)).toNat = b.u32 16 ∧
      (t.getReg .CHK_LEN (b.u8 0)).toNat = b.u32 12 ∧ (t.getReg .CHK_ADDR_LO (b.u8 0)).toNat = b.u32 4) ∧
  (∀ (u : Fin 8) (s : State) (r : Req) (bs : List Byte), (s.chk u).started.isSome = true → (s.chk u).req = some r → s.evtEn r.port = true →
    s.interp.restart = none → (s.chk u).cfg.u32 24 = 0 → (s.chk u).cfg.u8 3 ≤ 1 → (s.chk u).dirty = false →
    s.chkDenied ((s.chk u).cfg.u64 4) ((s.chk u).cfg.u32 12) = none → s.chkPoison ((s.chk u).cfg.u64 4) ((s.chk u).cfg.u32 12) none = none →
    s.dramBytes ((s.chk u).cfg.u64 4) ((s.chk u).cfg.u32 12) = some bs →
    ∃ t, exec (.chkRunEnd u none) s = .next t ∧
      let v := checkValue ((s.chk u).cfg.u8 1) (chkFold (s.chk u).cfg) bs
      let code := if (s.chk u).cfg.u8 3 = 0 then 6 else if v = (s.chk u).cfg.u32 16 then 1 else 2
      t.getReg .CHK_RESULT u = BitVec.ofNat 32 v ∧ t.regBits .CHK_STAT u 23 20 = code ∧ t.chkBusy u = false ∧
      t.getReg .CHK_RUNS u = s.getReg .CHK_RUNS u + 1 ∧
      Answers s t r 0x7010 0 0 (leBytes 1 u ++ leBytes 1 code ++ leBytes 2 0 ++ leBytes 4 v ++ timeBytes s.ptp)) ∧
  (∀ (r : Req) (b : Body) (s : State), Ready s r 0x7011 [52] → b.length = 4 → b.u8 0 ≤ 7 → b.zero 1 3 = true →
    ∃ t, exec (.chkStop r b) s = .next t ∧ Answers s t r 0x7011 0 0 [] ∧ t.chkBusy (b.u8 0) = false ∧ (t.chk (b.u8 0)).started = none ∧
      ((s.chk (b.u8 0)).started.isSome = true → t.regBits .CHK_STAT (b.u8 0) 23 20 = 5)) ∧
  (∀ (u : Fin 8) (s : State), (s.chk u).started = none → 0 < (s.chk u).cfg.u32 24 → (s.chk u).nextAt ≤ s.now →
    ∃ t, exec (.chkPeriodStart u) s = .next t ∧ (t.chk u).started = some s.now ∧
      (t.chk u).nextAt = (s.chk u).nextAt + (s.chk u).cfg.u32 24 * 1000000 ∧ t.chkBusy u = true)

/-- O25. Fault records enter the log, hardware sources and the management plane release duty, timers and DBG act (14_protection_faults.md (R496, R504, R506 to R512)). -/
def Obligations.FaultsAreLoggedAndReleaseDuty : Prop :=
  (∀ (r : Req) (b : Body) (s : State), Ready s r 0x7020 [] → b.length = 12 → 1 ≤ b.u16 0 → b.u16 0 ≤ 256 → b.zero 2 2 = true →
    ∃ t, exec (.fltRead r b) s = .next t ∧ Answers s t r 0x7020 0 0 (leBytes 2 (s.flt.log.take (b.u16 0)).length ++
        leBytes 2 ((s.flt.log.head?.map (fun x => x.seq)).getD 0)) ∧
      (s.flt.log ≠ [] → Sends s t (.dma r.port (b.u64 4) ((s.flt.log.take (b.u16 0)).flatMap FaultRec.bytes)))) ∧
  (∀ (f : FaultIn) (s : State), f.unmasked = false → f.cls < 256 →
    ∃ t, exec (.faultRecordArrive [f]) s = .next t ∧ Logs s t f.island f.cls 0 ∧ t.onDuty = s.onDuty ∧
      t.getReg .FLT_ISL_MASKED f.island = (s.bumpSat .FLT_ISL_MASKED f.island).getReg .FLT_ISL_MASKED f.island) ∧
  (∀ (f : FaultIn) (s : State), f.unmasked = true → f.cls < 256 → hwSource f.island f.cls = false → s.onDuty = true → s.flt.release = none →
    ∃ t, exec (.faultRecordArrive [f]) s = .next t ∧ Logs s t f.island f.cls 1 ∧ t.onDuty = true ∧
      t.flt.release = some (s.regBits .FLT_COUNT 0 15 0, s.now + 1000000) ∧ t.regBit .FLT_STATUS 0 31 = true ∧ t.regBit .FLT_STATUS 0 28 = true) ∧
  (∀ (s : State) (e : Nat × Nat), s.flt.release = some e → s.onDuty = true →
    ∃ t, exec .dutyRelease s = .next t ∧ t.onDuty = false ∧ t.flt.release = none ∧ t.regBit .FLT_STATUS 0 30 = true) ∧
  (∀ s : State, s.onDuty = true →
    ∃ t, exec .hwDutyRelease s = .next t ∧ t.onDuty = false ∧ Logs s t 40 0x07 1 ∧ t.regBit .FLT_STATUS 0 30 = true ∧ t.regBit .FLT_STATUS 0 29 = true) ∧
  (∀ (i : Fin 41) (s : State), s.island i = 2 → ∃ t, exec (.faultPortLivenessRecord i) s = .next t ∧ Tbl.get t.flt.alive i = some s.now) ∧
  (∀ (i : Fin 41) (s : State) (n : Nat), s.island i = 2 → Tbl.get s.flt.alive i = some n → n + 3000000 ≤ s.now →
    ∃ t, exec (.islandLivenessTimeout i) s = .next t ∧ Logs s t i 0x0C 1) ∧
  (∀ (p : Fin 4) (s : State), s.fwRuns = true → s.flt.halted.contains p.val = false → s.interp.restart = none →
    ∃ t, exec (.heartbeatWrite p) s = .next t ∧ Tbl.get t.flt.beats p = some s.now) ∧
  (∀ (p : Fin 4) (s : State) (n : Nat), Tbl.get s.flt.beats p = some n → n + 5000000 ≤ s.now → s.onDuty = true →
    ∃ t, exec (.watchdogTimeout p) s = .next t ∧ Logs s t (11 + p) 0x0F 1 ∧ t.onDuty = false ∧ Tbl.get t.flt.beats p = none) ∧
  (∀ (s : State) (n : Nat), s.interp.restart = some n → n + 2000000000 ≤ s.now → s.flt.graceSpent = false → s.onDuty = true →
    ∃ t, exec .restartGraceExpiry s = .next t ∧ Logs s t 11 0x0F 1 ∧ t.onDuty = false ∧ t.flt.graceSpent = true) ∧
  (∀ (p : Fin 4) (s : State), ∃ t, exec (.lockstepMismatch p) s = .next t ∧ Logs s t (11 + p) 0x07 1 ∧ t.flt.halted.contains p.val = true ∧
    (p.val = 3 → t.onDuty = false)) ∧
  (∀ (i : Fin 41) (s : State), s.island i ≠ 0 → ∃ t, exec (.islandClockLoss i) s = .next t ∧ Logs s t i 0x0B 1) ∧
  (∀ (challenge signature : List Byte) (s : State), s.pwr.porst = false → s.boot.debugKey ≠ [] → challenge.length = 48 →
    ∃ t, exec (.dbgAuthenticate challenge signature) s = .next t ∧ OnlyChanges [.flt] [] s t ∧ t.out = s.out ∧
      t.flt.dbg = (s.flt.dbg || Config.signed s.boot.debugKey challenge signature))

/-- O26. The lowest-numbered MPU entry that is valid, covers the part and names the master decides a part (14_protection_faults.md (R490)). -/
def Obligations.TheLowestMatchingEntryDecidesAnAccessPart : Prop :=
  (∀ (s : State) (m addr n : Nat), s.mapped addr = true →
    let hit := fun k => s.regBit .MPU_ENT_CTL k 31 = true ∧ (s.getReg .MPU_ENT_BASE k).toNat * 4096 ≤ addr ∧
      addr < ((s.getReg .MPU_ENT_LIMIT k).toNat + 1) * 4096 ∧
      (if m < 32 then s.regBit .MPU_ENT_MASK_LO k m else s.regBit .MPU_ENT_MASK_HI k (m - 32)) = true
    (s.mpuMatch m addr = some n ↔ n < 256 ∧ hit n ∧ ∀ k, k < n → ¬ hit k)) ∧
  (∀ (a : MemAccess) (s : State), s.mpuLocked = true → s.trained = true → s.masterStopped a.master = false → (a.master.val = 6 → s.flt.dbg = true) →
    s.mapped a.addr = true → dramBase ≤ a.addr → 0 < a.len → a.addr % 4096 + a.len ≤ 4096 → a.data.length = a.len →
    s.xing = [] → (∀ c, (s.dmc c).pauseEnd ≤ s.now ∧ (s.dmc c).queue = []) →
    ∃ t, exec (.interconnectRequest a) s = .next t ∧
      let allowed := match s.mpuMatch a.master a.addr with
        | some n => s.regBit .MPU_ENT_CTL n (if a.write then 1 else 0)
        | none => false
      if allowed then
        a.write = true → ∀ k, k < a.len → Tbl.get t.mem.bytes (a.addr + k) = a.data.getD k 0
      else t.mem.bytes = s.mem.bytes ∧
        t.getReg .MPU_MASTER_VIOL a.master = (s.bumpSat .MPU_MASTER_VIOL a.master).getReg .MPU_MASTER_VIOL a.master)

/-- O27. An interconnect request changes DRAM only in its own range, a read nowhere, and keeps the byte table canonical (14_protection_faults.md (R491, R492); 13_memory.md (R467); notes/assumptions/67.md). -/
def Obligations.RequestsChangeOnlyTheBytesTheyWrite : Prop :=
  ∀ (a : MemAccess) (s t : State), exec (.interconnectRequest a) s = .next t →
    (∀ x, (a.write = false ∨ x < a.addr ∨ a.addr + a.len ≤ x) → Tbl.get t.mem.bytes x = Tbl.get s.mem.bytes x) ∧
    (Tbl.wf (fun _ => 0#8) s.mem.bytes = true → Tbl.wf (fun _ => 0#8) t.mem.bytes = true) ∧ (∀ l, l ∈ t.mem.poison → l ∈ s.mem.poison)

/-- O28. DRAM training, usage, refresh, retraining, temperature, patrols, quotas and poison work as the spec says (13_memory.md (R466 to R476, R478 to R480)). -/
def Obligations.DramIsTrainedRefreshedPatrolledAndWatched : Prop :=
  (∀ (r : Req) (pass : Word) (step : Fin 6) (d : Nat) (s : State), Ready s r 0x6801 [52] → s.trained = false →
    ∃ t, exec (.dmcTrain r [] pass step d) s = .next t ∧ (∀ c : Fin 32, t.regBit .DMC_CH_STAT c 31 = pass.getLsbD c) ∧
      if pass = 0xFFFFFFFF#32 then t.trained = true ∧ (t.mem.bytes = [] ∧ t.mem.poison = []) ∧
        Answers s t r 0x6801 0 0 (leBytes 4 pass.toNat ++ leBytes 4 s.addrMib ++ leBytes 4 (min 2000 d) ++ [255#8, 0#8, 0#8, 0#8])
      else t.trained = false ∧ ∃ body, Answers s t r 0x6801 7 0x0161 body) ∧
  (∀ (r : Req) (b : Body) (s : State), Ready s r 0x6802 [52] → b.length = 4 → 16 ≤ b.u16 0 → b.u16 0 ≤ 1024 → b.zero 2 2 = true →
    ∃ t, exec (.dmcRetrainPeriod r b) s = .next t ∧ Answers s t r 0x6802 0 0 [] ∧
      if s.trained then ∃ n, t.mem.newPeriod = some (b.u16 0, n) else t.regBits .DMC_STATUS 0 10 0 = b.u16 0) ∧
  (∀ (r : Req) (s : State), Ready s r 0x6803 [] → s.trained = false → ∃ t, exec (.memUsage r []) s = .next t ∧ Answers s t r 0x6803 0 0 (leBytes 28 0)) ∧
  (∀ (r : Req) (s : State), Ready s r 0x6803 [] → s.trained = true → ∃ t, exec (.memUsage r []) s = .next t ∧
    ∃ fig, Answers s t r 0x6803 0 0 (leBytes 4 s.freeMib ++ leBytes 4 s.largestMib ++ fig ++ leBytes 4 1024)) ∧
  (∀ (c : Fin 32) (s : State), s.trained = true → (s.dmc c).nextRefresh ≤ s.now →
    ∃ t, exec (.dramRefresh c) s = .next t ∧ t.getReg .DMC_CH_REFRESH c = s.getReg .DMC_CH_REFRESH c + 1 ∧ t.now < (t.dmc c).nextRefresh ∧
      (t.dmc c).pauseEnd = s.now + s.trfc) ∧
  (∀ (c : Fin 32) (drift : Int) (n : Nat) (s : State), s.trained = true → s.mem.newPeriod = none → (s.dmc c).nextRetrain ≤ (s.dmc c).pauseEnd → (s.dmc c).pauseEnd ≤ s.now →
    ∃ t, exec (.dramRetrainPause c true drift n) s = .next t ∧ t.getReg .DMC_CH_DRIFT c = BitVec.ofInt 32 drift ∧ (t.dmc c).fails = 0 ∧
      t.regBits .DMC_CH_RETRAIN c 31 16 = (s.regBits .DMC_CH_RETRAIN c 31 16 + 1) % 65536) ∧
  (∀ (c : Fin 32) (drift : Int) (n : Nat) (s : State), s.trained = true → s.mem.newPeriod = none → (s.dmc c).nextRetrain ≤ (s.dmc c).pauseEnd → (s.dmc c).pauseEnd ≤ s.now →
    (s.dmc c).fails = 2 → ∃ t, exec (.dramRetrainPause c false drift n) s = .next t ∧ Logs s t (15 + c / 8) 0x04 1 ∧ t.regBit .DMC_CH_FAULT 0 c = true) ∧
  (∀ (c : Fin 32) (rate : Fin 4) (s : State), s.trained = true → (s.dmc c).nextMr4 ≤ s.now →
    ∃ t, exec (.mr4Poll c rate) s = .next t ∧ t.regBits .DMC_CH_STAT c 27 25 = rate ∧ t.regBit .DMC_CH_HOT 0 c = decide (0 < rate.val) ∧
      (2 ≤ rate.val → s.regBits .DMC_CH_STAT c 27 25 < 2 → Logs s t (15 + c / 8) 0x04 1)) ∧
  (∀ (c : Fin 32) (ce : Nat) (k : Fin 7) (s : State), s.trained = true → (s.dmc c).nextPatrol ≤ s.now → (s.dmc c).pauseEnd ≤ s.now → (s.dmc c).queue = [] →
    ∃ t, exec (.dramPatrolRead c ce [k]) s = .next t ∧ s.lineAddr c (s.dmc c).patrol k / 64 ∈ t.mem.poison ∧
      t.getReg .DMC_CH_CE c = (s.addSat .DMC_CH_CE c ce).getReg .DMC_CH_CE c ∧ (t.dmc c).nextPatrol = s.now + 10000) ∧
  (∀ (c : Fin 32) (s : State), s.trained = true → (s.dmc c).windowEnd ≤ s.now → 188 < (s.dmc c).dataB → (s.dmc c).ctlB ≤ 5 →
    ∃ t, exec (.arbiterWindowEnd c) s = .next t ∧ t.regBits .DMC_CH_OVERQ c 15 0 = min 65535 (s.regBits .DMC_CH_OVERQ c 15 0 + 1) ∧
      t.regBits .DMC_CH_OVERQ c 31 16 = s.regBits .DMC_CH_OVERQ c 31 16 ∧ (t.dmc c).dataB = 0 ∧ (t.dmc c).windowEnd = (s.dmc c).windowEnd + 1024) ∧
  (∀ (m : Fin 4) (line : Nat) (s : State), s.trained = true → s.mpuLocked = false → s.masterStopped m = false → line % 64 = 0 → line / 64 ∈ s.mem.poison →
    dramBase ≤ line → s.mapped line = true → s.xing = [] → (∀ c, (s.dmc c).pauseEnd ≤ s.now ∧ (s.dmc c).queue = []) →
    ∃ t, exec (.interconnectRequest ⟨⟨m, by omega⟩, 0, 0, false, line, 64, [], 0⟩) s = .next t ∧ t.masterStopped m = true ∧ Logs s t (11 + m) 0x03 1) ∧
  (∀ (a : Fin 10) (i : Fin 41) (word inst : Nat) (last : Bool) (s : State), s.island i = 2 →
    ∃ t, exec (.sramPatrol a i word inst 1 last) s = .next t ∧ Logs s t i 0x01 0 ∧
      t.getReg .SRM_ARR_CE a = (s.bumpSat .SRM_ARR_CE a).getReg .SRM_ARR_CE a ∧
      t.getReg .SRM_ARR_LAST a = BitVec.ofNat 32 (i.val * 2 ^ 26 + word % 2 ^ 26)) ∧
  (∀ (a : Fin 10) (i : Fin 41) (word inst : Nat) (last : Bool) (s : State), s.island i = 2 →
    ∃ t, exec (.sramPatrol a i word inst 2 last) s = .next t ∧ t.getReg .SRM_ARR_UE a = (s.bumpSat .SRM_ARR_UE a).getReg .SRM_ARR_UE a)

/-- O29. Audio ports, streams, routes and house clocks: settings, samples, slips, lost samples and packets (11_audio.md (R417, R420 to R424, R427 to R431)). -/
def Obligations.AudioPortsStreamsAndRoutesFollowTheSpec : Prop :=
  (∀ (r : Req) (b : Body) (s : State), Ready s r 0x5801 [50] → tdmBad b = false → (s.applyTdm b).ratesJoin = false →
    ∃ t, exec (.audTdm r b) s = .next t ∧ Answers s t r 0x5801 0 0 [] ∧ Tbl.get t.aud.tdm (b.u8 0) = b ∧
      (∀ n : Fin 4, t.ainOn (4 * b.u8 0 + n) = ((b.u8 1).testBit 0 && !(b.u8 3).testBit n) ∧ t.ain96 (4 * b.u8 0 + n) = (b.u8 1).testBit 2) ∧
      ((b.u8 1).testBit 0 = true → t.regBit .AUD_STATUS 0 31 = true)) ∧
  (∀ (r : Req) (b : Body) (s : State), Ready s r 0x5802 [50] → aesBad b = false → (s.applyAes3 b).ratesJoin = false →
    ∃ t, exec (.audAes3 r b) s = .next t ∧ Answers s t r 0x5802 0 0 [] ∧ Tbl.get t.aud.aes (8 * b.u8 0 + b.u8 1) = b ∧
      (b.u8 0 = 0 → t.ainOn (16 + b.u8 1) = (b.u8 2).testBit 0)) ∧
  (∀ (r : Req) (b : Body) (s : State), Ready s r 0x5803 [50] → streamBad b = false → b.u8 3 = 0 → (s.applyRx b).ratesJoin = false →
    ((b.u8 1).testBit 0 = true → 125 ≤ b.u16 6 ∧ b.u16 6 ≤ 20000 ∧ b.u16 4 ≤ 1023 ∧ (Tbl.get s.ing.ctx (b.u16 4)).bound = true ∧
      (Tbl.get s.ing.ctx (b.u16 4)).cfg.u8 2 = 2 ∧ s.streamChans false (b.u8 0) + b.u8 2 ≤ 1024 ∧ txPayload b ≤ 1440) →
    ∃ t, exec (.audRx r b) s = .next t ∧ Answers s t r 0x5803 0 0 [] ∧ (t.rxs (b.u8 0)).bound = (b.u8 1).testBit 0 ∧
      t.ainOn (40 + b.u8 0) = (b.u8 1).testBit 0) ∧
  (∀ (r : Req) (b : Body) (s : State), Ready s r 0x5804 [50] → streamBad b = false → b.u16 4 = 0 → (s.applyTx b).ratesJoin = false →
    ((b.u8 1).testBit 0 = true → b.u8 3 ≤ 15 ∧ s.macOnBoard (b.u8 3) = true ∧ b.u8 34 ≤ 63 ∧ b.u8 35 ≠ 0 ∧
      s.streamChans true (b.u8 0) + b.u8 2 ≤ 1024 ∧ txPayload b ≤ 1440) →
    ∃ t, exec (.audTx r b) s = .next t ∧
      if (b.u8 1).testBit 0 && txOver s (s.conf.flowsOf (b.u8 3)) b then Answers s t r 0x5804 7 2 [] ∧ t.aud = s.aud
      else Answers s t r 0x5804 0 0 [] ∧ (t.txs (b.u8 0)).bound = (b.u8 1).testBit 0) ∧
  (∀ (r : Req) (b : Body) (s : State), Ready s r 0x5805 [50] → b.length = 4 → b.u8 0 ≤ 1 → b.zero 1 3 = true →
    ∃ t, exec (.audClock r b) s = .next t ∧ Answers s t r 0x5805 0 0 [] ∧
      t.aud.realign = (s.aud.realign || (b.u8 0 == 1 && s.regBit .AUD_STATUS 0 31))) ∧
  (∀ (r : Req) (b : Body) (s : State), Ready s r 0x5810 [50] → routeBad b = false → s.routeChans b = false → s.routeFormat b = false → b.u16 0 = 1 →
    (∀ c ∈ s.aud.cmds, c.id ≠ s.aud.nextCmd) → let key := audKey (b.u16 4) (b.u8 6); (s.aout key).stage = 0 →
    ∃ t, exec (.audRoute r b) s = .next t ∧
      if (s.aout key).src = routeTarget b 0 ∨ s.chanInUse key = false then
        Answers s t r 0x5810 0 0 (leBytes 2 1 ++ leBytes 2 0 ++ leBytes 2 0 ++ leBytes 2 0 ++ timeBytes s.ptp) ∧ (t.aout key).src = routeTarget b 0
      else t.out = s.out ∧ (t.aout key).want = some (routeTarget b 0) ∧ (t.aout key).src = (s.aout key).src ∧ (t.aout key).timeoutUs = b.u16 2 ∧
        (t.aout key).stage = if s.nonPcm (s.aout key).src || s.nonPcm (routeTarget b 0) then 5 else 1) ∧
  (∀ (r : Req) (b : Body) (s : State), Ready s r 0x5811 [] → b.length = 4 → 16 ≤ b.u16 0 → b.u16 0 ≤ 39 → b.u8 2 ≤ 15 → b.u8 3 = 0 →
    ∃ t, exec (.audCsRead r b) s = .next t ∧
      Answers s t r 0x5811 0 0 (((Tbl.get s.aud.cs (audKey (b.u16 0) (b.u8 2))).last).getD (List.replicate 24 0#8))) ∧
  (∀ (i : Fin 168) (v : List Int) (s : State), s.ainOn i = true → s.mismatch i = false →
    ∃ t, exec (.audInputSample i v) s = .next t ∧
      if (s.ain i).fifo.length ≤ 13 ∨ s.canSlip i = false then (t.ain i).fifo = (s.ain i).fifo ++ [v]
      else t.ain i = s.ain i ∧ t.regBits .AUD_IN_SLIP i 31 16 = min 65535 (s.regBits .AUD_IN_SLIP i 31 16 + 1)) ∧
  (∀ (g : Fin 4) (slots : List (List Word)) (n : Fin 4) (s : State), s.ainOn (4 * g + n) = true → s.mismatch (4 * g + n) = false →
    ((s.ain (4 * g + n)).fifo.length ≤ 13 ∨ s.regBit .AUD_STATUS 0 (8 + g) = true) →
    ∃ t, exec (.tdmFrameReceive g slots) s = .next t ∧ (t.ain (4 * g + n)).fifo = (s.ain (4 * g + n)).fifo ++
      [((slots.getD n []).take (s.ain (4 * g + n)).chans).map (fun w => toSigned 3 (w.bits 31 8))]) ∧
  (∀ (n : Fin 8) (a b : AudioWord) (s : State), s.ainOn (16 + n) = true → s.mismatch (16 + n) = false → (s.ain (16 + n)).fifo.length ≤ 13 →
    a.parityBad = false → b.parityBad = false → a.invalid = false → b.invalid = false →
    ∃ t, exec (.aes3FrameReceive n a b) s = .next t ∧ (t.ain (16 + n)).fifo = (s.ain (16 + n)).fifo ++ [[a.sample, b.sample]]) ∧
  (∀ (n : Fin 8) (lk : Bool) (s : State), ∃ t, exec (.aes3LockChange n lk) s = .next t ∧ t.regBit .AUD_STATUS 0 n = (lk && s.ainOn (16 + n)) ∧
    (lk = false → ∀ c, c < 2 → (Tbl.get t.aud.cs (audKey (16 + n) c)).run = none)) ∧
  (∀ (i : Fin 168) (mHz : Option Nat) (s : State), s.ainOn i = true → s.regBits .AUD_IN_STAT i 30 29 ≠ sampleClass mHz →
    ∃ t, exec (.audRateClassChange i mHz) s = .next t ∧ t.regBits .AUD_IN_STAT i 30 29 = sampleClass mHz ∧
      t.regBit .AUD_IN_STAT i 27 = decide (sampleClass mHz ≠ if s.ain96 i then 2 else 1) ∧
      (sampleClass mHz ≠ (if s.ain96 i then 2 else 1) → ∀ p, Listens s p 0x5801 → Raises s t p 0x5801)) ∧
  (∀ (r : Fin 128) (s : State), (s.rxs r).bound = true → rxReadTime (s.rxs r).cfg (s.rxs r).nextT ≤ s.ptp →
    ∃ t, exec (.audRxRead r) s = .next t ∧ (t.rxs r).nextT = (s.rxs r).nextT + 1 ∧
      t.getReg .AUD_RX_LOST r = (if (Tbl.get (s.rxs r).buf (s.rxs r).nextT).isNone then s.bumpSat .AUD_RX_LOST r else s).getReg .AUD_RX_LOST r ∧
      ∀ v, Tbl.get (s.rxs r).buf (s.rxs r).nextT = some v → s.ainOn (40 + r) = true → s.mismatch (40 + r) = false → (s.ain (40 + r)).fifo.length ≤ 13 →
        (t.ain (40 + r)).fifo = (s.ain (40 + r)).fifo ++ [v]) ∧
  (∀ (k : Fin 128) (x : List (List Int) × Nat × Nat) (rest : List (List (List Int) × Nat × Nat)) (s : State), (s.txs k).ready = x :: rest → txCost (s.txs k).cfg ≤ s.txLevel k →
    s.txSends k = true → s.flowFirst ((s.txs k).cfg.u8 3) = none →
    ∃ t, exec (.audTxPacketSend k) s = .next t ∧ (t.txs k).ready = rest ∧ t.getReg .AUD_TX_PKTS k = s.getReg .AUD_TX_PKTS k + 1 ∧
      (t.txs k).seq = ((s.txs k).seq + 1) % 65536 ∧ ∃ bytes, Sends s t (.packet ((s.txs k).cfg.u8 3) 3 bytes)) ∧
  (∀ (o : Fin 168) (ch : Fin 64) (s : State), let x := s.aout (audKey o ch); x.stage = 1 ∨ x.stage = 2 → s.aud.realign = false → x.since ≤ s.aud.tick →
    x.timeoutUs * 96 ≤ (s.aud.tick - x.since) * 1000 → s.nonPcm x.src = false → s.nonPcm (x.want.getD none) = false →
    ∃ t, exec (.zcTimeout o ch) s = .next t ∧ (t.aout (audKey o ch)).stage = (if x.stage = 1 then 3 else 4) ∧ (t.aout (audKey o ch)).rampK = 0 ∧
      t.getReg .AUD_ZC_TIMEOUTS 0 = (s.bumpSat .AUD_ZC_TIMEOUTS 0).getReg .AUD_ZC_TIMEOUTS 0) ∧
  (∀ s : State, s.regBit .AUD_STATUS 0 31 = true → s.tickTime s.aud.tick ≤ s.tm.gridAt s.now → s.aud.realign = false →
    ∃ t, exec .audHouseSample s = .next t ∧ t.aud.tick = s.aud.tick + 1 ∧
      ∀ (i : Fin 168) (v : List Int) (rest : List (List Int)), s.ainOn i = true → s.mismatch i = false → (s.ain96 i = true ∨ s.aud.tick % 2 = 0) →
        (s.ain i).fifo = v :: rest → 2 ≤ rest.length → (t.ain i).cur = v ∧ (t.ain i).fifo = rest ∧ (t.ain i).prev = (s.ain i).cur)

/-- O30. TAG_CRC is the CRC-8 of polynomial 0x07 over tag bytes 0 to 11 and 13 to 15, most significant bit first (03_liveness.md (R105)). -/
def Obligations.TagCheckValueIsTheCrcOfR105 : Prop :=
  ∀ g : Tag,
    let shift := fun (c : Byte) (bit : Bool) => if (c.getLsbD 7 != bit) then (c <<< 1) ^^^ 0x07#8 else c <<< 1
    let bits := ((g.bytes.take 12 ++ g.bytes.drop 13).map (fun b => [7, 6, 5, 4, 3, 2, 1, 0].map (fun k => b.getLsbD k))).flatten
    g.bytes.length = 16 ∧ g.sealed.crc = bits.foldl shift 0#8 ∧ g.sealed.bytes.getD 12 0 = g.sealed.crc

/-- O31. A live layer whose predicted age exceeds its budget, or that is not evaluated in time, is marked in that frame (03_liveness.md (R117, R119, R120, R121, R125, R130, R137, R141)). -/
def Obligations.AStalePictureIsMarked : Prop :=
  (∀ (h : Fin 24) (l : Fin 8) (ecc dis : Bool) (s : State) (first last : Nat) (f : Surface) (hd : Header),
    let x := s.head h
    let b := (x.shadow l).cfg
    s.evaluable h l = some (first, last) → s.ptp < s.evalDeadline h first → s.isStandby = false → (x.layer l).settled = false → (x.layer l).still = false →
    (x.layer l).surf = some f → f.header = some hd →
    (lBudget b * 1000 : Int) < (x.flip : Int) + (last + 1) * tlUp (lineRaster (s.rasterOf h)) + 4 - s.tagTimeOf hd.tag →
    ∃ t, exec (.canaryEvaluation h l ecc dis) s = .next t ∧ t.regBits .CNY_LSTAT (8 * h + l) 15 12 ≠ 0 ∧ t.regBits .CNY_LSTAT (8 * h + l) 23 16 ≠ 0 ∧
      (((t.head h).layer l).drawn).1 = t.regBits .CNY_LSTAT (8 * h + l) 15 12 ∧ t.regBit .CNY_CTL 0 h = true) ∧
  (∀ (h : Fin 24) (l : Fin 8) (s : State) (first last : Nat),
    s.evaluable h l = some (first, last) → s.evalDeadline h first ≤ s.ptp → s.isStandby = false → ((s.head h).layer l).settled = false →
    ∃ t, exec (.evalDeadlineMiss h l) s = .next t ∧ t.regBits .CNY_LSTAT (8 * h + l) 15 12 = 5 ∧ t.regBit .CNY_LSTAT (8 * h + l) 21 = true ∧
      Logs s t (33 + h / 8) 0x08 1 ∧ t.getReg .CNY_DEADLINE h = (s.bumpSat .CNY_DEADLINE h).getReg .CNY_DEADLINE h)

/-- O32. t_seq is the time of the first evaluation with the current SEQUENCE; past the budget the sequence check fails (03_liveness.md (R121)). -/
def Obligations.SequenceTimesFollowTheEvaluations : Prop :=
  ∀ (h : Fin 24) (l : Fin 8) (s : State) (first last : Nat) (f : Surface) (hd : Header),
    let x := s.head h
    let b := (x.shadow l).cfg
    s.evaluable h l = some (first, last) → s.ptp < s.evalDeadline h first → (x.layer l).still = false → (x.layer l).surf = some f → f.header = some hd →
    ∃ t v, exec (.canaryEvaluation h l false false) s = .next t ∧ ((t.head h).layer l).own = some v ∧
      ((t.head h).layer l).tSeq = (if ((x.layer l).seq.map (fun q => q.1)) = some hd.tag.seq then (x.layer l).tSeq else s.ptp) ∧
      (v.checks.testBit 1 = true ↔
        (lBudget b * 1000 : Int) < (x.flip : Int) + (last + 1) * tlUp (lineRaster (s.rasterOf h)) + 4 - (((t.head h).layer l).tSeq : Int))

/-- O33. An evaluation shows its checks and glyph, limits tighten before the lock, and the final history is copied (03_liveness.md (R117, R126, R130, R145, R147, R149, R150)). -/
def Obligations.CanaryCommandsAndCleanEvaluations : Prop :=
  (∀ (h : Fin 24) (l : Fin 8) (s : State) (first last : Nat), s.evaluable h l = some (first, last) → s.ptp < s.evalDeadline h first →
    s.isStandby = false → ((s.head h).layer l).settled = false →
    ∃ t, exec (.canaryEvaluation h l false false) s = .next t ∧
      let tp : Int := ((s.head h).flip + (last + 1) * tlUp (lineRaster (s.rasterOf h)) + 4 : Nat)
      let c0 := (s.checksOf h l tp s.ptp).1
      let c := if glyphOf c0 ((s.head h).layer l).still = 6 then c0 ||| 0x40 else c0
      t.getReg .CNY_EVALS h = s.getReg .CNY_EVALS h + 1 ∧ t.regBits .CNY_LSTAT (8 * h + l) 23 16 = c ∧
        t.regBits .CNY_LSTAT (8 * h + l) 15 12 = glyphOf c ((s.head h).layer l).still ∧
        ((t.head h).layer l).drawn = (glyphOf c ((s.head h).layer l).still, c) ∧ (c = 0 → ((s.head h).layer l).still = false →
          (((t.head h).layer l).drawn).1 = 0 ∧ t.getReg .CNY_MARKED h = s.getReg .CNY_MARKED h)) ∧
  (∀ (r : Req) (b : Body) (s : State), Ready s r 0x1001 [54] → b.length = 12 → 1000 ≤ b.u32 0 → b.u32 0 ≤ 2000000 → 500 ≤ b.u32 4 → b.u32 4 ≤ 60000 →
    b.u8 8 ≤ 1 → 8 ≤ b.u8 9 → b.u8 9 ≤ 64 → b.zero 10 2 = true → s.cnyLocked = false →
    ∃ t, exec (.cnyLimits r b) s = .next t ∧ Answers s t r 0x1001 0 0 [] ∧ t.regBits .CNY_LIM_BUDGET 0 20 0 = b.u32 0 ∧
      t.regBits .CNY_LIM_MISC 0 15 0 = b.u32 4 ∧ t.regBits .CNY_LIM_MISC 0 23 16 = b.u8 9 ∧ t.regBit .CNY_LIM_MISC 0 31 = (b.u8 8 == 1)) ∧
  (∀ (r : Req) (b : Body) (s : State), Ready s r 0x1001 [54] → b.length = 12 → 1000 ≤ b.u32 0 → b.u32 0 ≤ 2000000 → 500 ≤ b.u32 4 → b.u32 4 ≤ 60000 →
    b.u8 8 ≤ 1 → 8 ≤ b.u8 9 → b.u8 9 ≤ 64 → b.zero 10 2 = true → s.cnyLocked = true →
    ∃ t, exec (.cnyLimits r b) s = .next t ∧ Answers s t r 0x1001 4 0 [] ∧ t.getReg .CNY_LIM_BUDGET 0 = s.getReg .CNY_LIM_BUDGET 0 ∧
      t.getReg .CNY_LIM_MISC 0 = s.getReg .CNY_LIM_MISC 0) ∧
  (∀ (r : Req) (b : Body) (s : State), Ready s r 0x1002 [0] → b.length = 4 → b.u32 0 = 0x4C4F434B → s.cnyLocked = false →
    ∃ t, exec (.cnyLock r b) s = .next t ∧ Answers s t r 0x1002 0 0 (timeBytes s.ptp) ∧ t.cnyLocked = true ∧
      t.getReg .CNY_LOCK_SEC 0 = BitVec.ofNat 32 (s.ptp / 1000000000) ∧ t.getReg .CNY_LOCK_NS 0 = BitVec.ofNat 32 (s.ptp % 1000000000)) ∧
  (∀ (r : Req) (b : Body) (s : State), Ready s r 0x1005 [] → b.length = 16 → b.u8 0 ≤ 23 → b.zero 1 3 = true → 2176 ≤ b.u32 12 →
    let recs := (s.head (b.u8 0)).hist.filter (fun x => x.final)
    ∃ t, exec (.cnyHistory r b) s = .next t ∧ Answers s t r 0x1005 0 0 (leBytes 1 recs.length ++ leBytes 1 0 ++
        leBytes 6 ((recs.head?.map (fun x => x.frame)).getD 0)) ∧
      (recs ≠ [] → Sends s t (.dma r.port (b.u64 4) ((recs.map HistRec.bytes).flatten))))

/-- O34. Composition commands with HOLD extend the held set, commits arm it or are rejected, discards drop it (08_composition.md (R311, R327, R328, R337 to R340); 03_liveness.md (R113, R145, R146)). -/
def Obligations.HeldSetsAreWrittenCommittedAndDiscarded : Prop :=
  (∀ (r : Req) (b : Body) (s : State), Ready s r 0x4001 [5 + b.u8 0] → lyConfigBad s b = false → (b.u8 2).testBit 1 = true →
    ∃ t, exec (.lyConfig r b) s = .next t ∧ Answers s t r 0x4001 0 0 [] ∧
      (t.head (b.u8 0)).held = (s.head (b.u8 0)).held ++ [⟨0x4001, 8 * b.u8 0 + b.u8 1, b⟩] ∧ (t.head (b.u8 0)).heldPort = r.port) ∧
  (∀ (r : Req) (b : Body) (s : State), Ready s r 0x4002 [5 + b.u8 0] → lyPaletteBad s b = false → (b.u8 2).testBit 1 = true →
    ∃ t, exec (.lyPalette r b) s = .next t ∧ Answers s t r 0x4002 0 0 [] ∧
      (t.head (b.u8 0)).held = (s.head (b.u8 0)).held ++ [⟨0x4002, 8 * b.u8 0 + b.u8 1, b⟩] ∧ (t.head (b.u8 0)).heldPort = r.port) ∧
  (∀ (r : Req) (b : Body) (table : List Byte) (s : State), Ready s r 0x4003 [5 + b.u8 0] →
    let d := takePad (6144 * lutsOf (b.u8 3)) table
    lyColourBad s b d = false → (b.u8 2).testBit 1 = true →
    ∃ t, exec (.lyColour r b table) s = .next t ∧ Answers s t r 0x4003 0 0 [] ∧
      (t.head (b.u8 0)).held = (s.head (b.u8 0)).held ++ [⟨0x4003, 8 * b.u8 0 + b.u8 1, b.take 40 ++ leBytes 8 0 ++ d⟩]) ∧
  (∀ (r : Req) (b : Body) (table : List Byte) (s : State), Ready s r 0x4004 [5 + b.u8 0] →
    let d := if b.u64 16 = 0 then [] else takePad 6144 table
    hdComposeBad s b d = false → (b.u8 1).testBit 1 = true →
    ∃ t, exec (.hdCompose r b table) s = .next t ∧ Answers s t r 0x4004 0 0 [] ∧
      (t.head (b.u8 0)).held = (s.head (b.u8 0)).held ++ [⟨0x4004, b.u8 0, b.take 16 ++ leBytes 8 0 ++ d⟩]) ∧
  (∀ (r : Req) (h : Fin 24) (s : State), Ready s r 0x4005 [5 + h] → (s.head h).held ≠ [] → s.gangMember h = false → s.running h = true → (s.head h).armed = none →
    (s.head h).second = [] →
    ∃ t, exec (.cmpCommit r (leBytes 4 (2 ^ h.val))) s = .next t ∧ (t.head h).held = [] ∧
      match (s.endInterp.conf.edit [(h.val, (s.head h).held)]).reject s.endInterp with
      | some k => Answers s t r 0x4005 7 k [] ∧ (t.head h).armed = none ∧ t.getReg .HD_CMP_DISC h = (s.bumpSat .HD_CMP_DISC h).getReg .HD_CMP_DISC h
      | none => (∃ a, (t.head h).armed = some a ∧ a.edits = (s.head h).held ∧ a.port = (s.head h).heldPort ∧ a.fresh = false) ∧
          ∃ w ∈ t.interp.waiters, w.req = r ∧ w.opcode = 0x4005 ∧ w.heads = [h.val]) ∧
  (∀ (r : Req) (h : Fin 24) (s : State), Ready s r 0x4006 [5 + h] → (s.head h).held ≠ [] →
    ∃ t, exec (.cmpDiscard r (leBytes 4 (2 ^ h.val))) s = .next t ∧ Answers s t r 0x4006 0 0 [] ∧ (t.head h).held = [] ∧
      t.getReg .HD_CMP_DISC h = (s.bumpSat .HD_CMP_DISC h).getReg .HD_CMP_DISC h) ∧
  (∀ (r : Req) (b : Body) (s : State), Ready s r 0x1003 [54] → styleBad s b = false → s.running (b.u8 0) = true → (s.head (b.u8 0)).armed = none → (s.head (b.u8 0)).second = [] →
    ∃ t, exec (.cnyHeadStyle r b) s = .next t ∧
      if (s.canaryBad ((s.head (b.u8 0)).nextSet.edit ⟨0x1003, b.u8 0, b⟩)).isSome then Answers s t r 0x1003 7 4 [] ∧ (t.head (b.u8 0)).armed = none
      else ∃ a, (t.head (b.u8 0)).armed = some a ∧ a.edits = [⟨0x1003, b.u8 0, b⟩] ∧ a.port = r.port) ∧
  (∀ (r : Req) (b : Body) (s : State), Ready s r 0x1004 [5 + b.u8 0] → b.length = 4 → headBad s (b.u8 0) = false → b.u8 1 ≤ 7 → b.zero 3 1 = true →
    ((s.head (b.u8 0)).classOf (b.u8 1) = 0 ∨ (s.head (b.u8 0)).classOf (b.u8 1) = 2) →
    (b.u8 2 = 0 ∨ b.u8 2 = 1 ∧ ∀ k, s.poolOfLayer ((s.head (b.u8 0)).shadow (b.u8 1)).cfg = some k → 2 ≤ (s.pool k).freeAfterHold) →
    s.running (b.u8 0) = true → (s.head (b.u8 0)).armed = none → (s.head (b.u8 0)).second = [] →
    ∃ t, exec (.cnyStill r b) s = .next t ∧ ∃ a, (t.head (b.u8 0)).armed = some a ∧ a.edits = [⟨0x1004, 8 * b.u8 0 + b.u8 1, b⟩] ∧ a.port = r.port)

/-- O35. GRAPHIC pools are allocated, freed and uploaded into, and a line is composed into the output FIFO (08_composition.md (R308, R310, R320, R322, R344, R514); 04_ingest.md (R186, R187)). -/
def Obligations.GraphicPoolsAndLinesAreComposed : Prop :=
  (∀ (r : Req) (b : Body) (s : State), let p := s.pool (2304 + b.u16 0)
    Ready s r 0x4010 [5 + b.u8 2] → b.length = 12 → b.u16 0 ≤ 255 → b.u8 2 ≤ 23 → b.u8 3 = 1 → b.zero 6 2 = true →
    b.u8 4 ∈ [0x01, 0x02, 0x08, 0x09, 0x10, 0x11] → 2 ≤ b.u8 5 → b.u8 5 ≤ 8 → 16 ≤ b.u16 8 → b.u16 8 ≤ 8192 → 16 ≤ b.u16 10 → b.u16 10 ≤ 4320 →
    (0x10 ≤ b.u8 4 → b.u16 8 % 2 = 0) → (b.u8 4 = 0x11 → b.u16 10 % 2 = 0) → (p.bound = false ∨ s.gfxInUse (b.u16 0) = false) →
    ((if p.bound then s.freePool (2304 + b.u16 0) else s).allocMany (linSize (b.u8 4) (b.u16 8) (b.u16 10)) (b.u8 5)).isSome = true →
    ∃ t, exec (.gfxPool r b) s = .next t ∧ Answers s t r 0x4010 0 0 [] ∧ (t.pool (2304 + b.u16 0)).bound = true ∧
      (t.pool (2304 + b.u16 0)).surfs.length = b.u8 5 ∧ (t.pool (2304 + b.u16 0)).maxW = b.u16 8 ∧ (t.pool (2304 + b.u16 0)).maxH = b.u16 10 ∧
      (t.pool (2304 + b.u16 0)).format = b.u8 4 ∧ t.regBit .LY_GFX_STAT (b.u16 0) 31 = true ∧ t.regBits .LY_GFX_STAT (b.u16 0) 4 0 = b.u8 2) ∧
  (∀ (r : Req) (b : Body) (s : State), Ready s r 0x4010 [5 + b.u8 2] → b.length = 12 → b.u16 0 ≤ 255 → b.u8 2 ≤ 23 → b.u8 3 = 0 → b.zero 6 2 = true →
    s.gfxInUse (b.u16 0) = false →
    ∃ t, exec (.gfxPool r b) s = .next t ∧ Answers s t r 0x4010 0 0 [] ∧ (t.pool (2304 + b.u16 0)).bound = false ∧ t.regBit .LY_GFX_STAT (b.u16 0) 31 = false) ∧
  (∀ (r : Req) (b : Body) (data : List Byte) (s : State) (i : Nat) (p1 : Pool),
    let p := s.pool (2304 + b.u16 0)
    let start := (b.u8 2).testBit 0
    let finish := (b.u8 2).testBit 2
    Ready s r 0x4011 [5 + s.regBits .LY_GFX_STAT (b.u16 0) 4 0] → b.length = 24 → b.u16 0 ≤ 255 → p.bound = true → b.u8 2 ≤ 7 → b.zero 3 1 = true →
    b.u16 4 + b.u16 8 ≤ p.maxW → b.u16 6 + b.u16 10 ≤ p.maxH → (b.u8 2 = 4 ∨ b.u16 8 ≠ 0 ∧ b.u16 10 ≠ 0) →
    (0x10 ≤ p.format → b.u16 4 % 2 = 0 ∧ b.u16 8 % 2 = 0) → (p.format = 0x11 → b.u16 6 % 2 = 0 ∧ b.u16 10 % 2 = 0) →
    (if start then p.abandon.take else p.writing.map (fun i => (i, p))) = some (i, p1) → i < p.surfs.length →
    ∃ t, exec (.gfxUpload r b data) s = .next t ∧
      Answers s t r 0x4011 0 0 (leBytes 1 i ++ leBytes 7 0 ++ (if finish then timeBytes s.ptp else leBytes 8 0)) ∧
      (t.pool (2304 + b.u16 0)).writing = (if finish then none else some i) ∧
      (finish = true → (t.pool (2304 + b.u16 0)).newestIdx = some i ∧ (t.pool (2304 + b.u16 0)).nextSeq = (p.nextSeq + 1) % 2 ^ 32 ∧
        ∃ hd, ((t.pool (2304 + b.u16 0)).surf i).header = some hd ∧ hd.tag.time = s.ptp % (2 ^ 30 * 1000000000) ∧ hd.tag.crc = crc8 hd.tag.covered ∧
          hd.integrityCrc = hd.integrity ((t.pool (2304 + b.u16 0)).surf i).addr)) ∧
  (∀ (h : Fin 24) (residue : Fin 3) (s : State), s.running h = true → s.gangMember h = false → (s.head h).frame.isSome = true → s.outMode h ≠ 2 →
    (s.head h).latchWait = none → (s.head h).fifo.length ≤ 3 → (s.head h).composed < tVact (s.rasterOf h) →
    let y := nthLine (s.rasterOf h) (s.head h).composed
    ∃ t, exec (.lineCompose h 0 residue) s = .next t ∧ (t.head h).fifo = (s.head h).fifo ++ [⟨y, ((s.head h).blendLine (s.rasterOf h) y 0 s.free).1⟩] ∧
      (residue ≠ 0 → ∃ x ∈ t.flt.log, x.cls = 0x05 ∧ x.island = 27 + h / 8 ∧ x.sev = if residue = 2 then 1 else 0)) ∧
  (∀ (h : Fin 24) (l : Fin 8) (s : State), s.running h = true → s.gangMember h = false → (s.head h).frame.isSome = true → s.outMode h ≠ 2 →
    (s.head h).latchWait = none → (s.head h).fifo.length ≤ 3 → (s.head h).composed < tVact (s.rasterOf h) →
    let y := nthLine (s.rasterOf h) (s.head h).composed
    ((s.head h).blendLine (s.rasterOf h) y (2 ^ l.val) s.free).2.any (fun e => e.1 == l.val) = true → ((s.head h).layer l).covered.contains (y / 16) = false →
    ∃ t, exec (.lineCompose h (BitVec.ofNat 8 (2 ^ l.val)) 0) s = .next t ∧
      t.getReg .LY_UNDERRUN (8 * h + l) = (s.bumpSat .LY_UNDERRUN (8 * h + l)).getReg .LY_UNDERRUN (8 * h + l) ∧
      ∃ x ∈ t.flt.log, x.cls = 0x09 ∧ x.island = 27 + h / 8 ∧ x.sev = 1)

/-- O36. A frame boundary counts the frame, takes the armed set, latches every layer, and the hold and window rows act (09_scanout_outputs.md (R349, R353, R354, R374 to R376, R411); 03_liveness.md (R115)). -/
def Obligations.FrameBoundariesTakeLatchAndCount : Prop :=
  (∀ (h : Fin 24) (n : Nat) (s : State), s.running h = true → s.gangMember h = false → (s.head h).nextB ≤ s.headTime h → (s.head h).armed = none →
    s.outMode h = 0 → (s.head h).adopt = none → (s.head h).frame = some n → s.rasterOf h ≠ [] →
    ∃ t, exec (.frameBoundary h) s = .next t ∧ (t.head h).frame = some ((n + 1) % 2 ^ 48) ∧ (t.head h).flip = s.ptp ∧ (t.head h).fifo = [] ∧
      (t.head h).closed = false ∧ t.getReg .HD_FRAME_LO h = BitVec.ofNat 32 ((n + 1) % 2 ^ 48) ∧
      t.getReg .HD_FLIP_SEC h = BitVec.ofNat 32 (s.ptp / 1000000000) ∧ t.getReg .HD_FLIP_NS h = BitVec.ofNat 32 (s.ptp % 1000000000) ∧
      ∀ (l : Fin 8) (k : Nat), ((s.head h).shadow l).on = true → ((s.head h).layer l).still = false → s.poolOfLayer ((s.head h).shadow l).cfg = some k →
        (((t.head h).layer l).surf.bind (fun f => f.header)) = ((s.newestOf k).bind (fun f => f.header))) ∧
  (∀ (h : Fin 24) (a : Arm) (s : State), s.running h = true → s.gangMember h = false → (s.head h).nextB ≤ s.headTime h → (s.head h).armed = some a →
    a.skip = false → s.outMode h = 0 → s.canaryBad ((s.head h).set.arm a) = none → rasterChange (s.head h).set.timing ((s.head h).set.arm a).timing = false →
    tFlag (s.head h).set.timing 0 = true → (s.head h).reraster = false → s.channelOf h = none →
    ∃ t, exec (.frameBoundary h) s = .next t ∧ (t.head h).armed = none ∧ (t.head h).set = (s.head h).set.arm a) ∧
  (∀ (h : Fin 24) (s : State), s.running h = true → s.gangMember h = false → (s.head h).closed = false →
    (s.head h).nextB - linesNs (s.rasterOf h) (tLead (s.rasterOf h)) ≤ s.headTime h →
    ∃ t, exec (.commitWindowClose h) s = .next t ∧ (t.head h).closed = true ∧ (t.head h).lastClose = some s.now) ∧
  (∀ (h : Fin 24) (n : Nat) (s : State), (s.head h).pullEnd = some n → n ≤ s.now →
    ∃ t, exec (.pullRestTaken h) s = .next t ∧ (t.head h).pull = 0 ∧ (t.head h).pullEnd = none) ∧
  (∀ (h : Fin 24) (e : Nat) (s : State), (s.head h).holdEnd = some e → s.outMode h = 1 → e < (s.head h).flip + 2 * linesNs (s.rasterOf h) (tVtot (s.rasterOf h)) →
    (s.head h).nextB ≤ s.headTime h → ∃ t, exec (.holdMaxExpiry h) s = .next t ∧ t.outMode h = 2 ∧ (t.head h).holdEnd = none) ∧
  (∀ (r : Req) (b : Body) (s : State), Ready s r 0x4803 [47] → b.length = 4 → b.u16 0 ≤ 200 → b.zero 2 2 = true →
    ∃ t, exec (.hdHold r b) s = .next t ∧ Answers s t r 0x4803 0 0 [] ∧ t.regBits .HD_HOLD_MAX 0 7 0 = b.u16 0)

/-- O37. A scanned line gets stage 10, its marks and its links; rasters, outputs, DisplayPort links and flows act (09_scanout_outputs.md (R347, R356 to R358, R361 to R363, R366 to R372); 03_liveness.md (R131)). -/
def Obligations.LinesAreScannedAndOutputsBound : Prop :=
  (∀ (h : Fin 24) (f : FifoLine) (rest : List FifoLine) (s : State), s.running h = true → s.gangMember h = false → (s.head h).frame.isSome = true →
    s.outMode h = 0 → (s.head h).lines.length < tVact (s.rasterOf h) → (s.head h).fifo = f :: rest → s.isStandby = false →
    (∀ l, l < 8 → s.evaluable h l = none) → (s.head h).drillPhase = 0 →
    ∃ t, exec (.lineScan h false false) s = .next t ∧ (t.head h).fifo = rest ∧
      let px := (s.head h).markLine (s.rasterOf h) f.line (f.px.map (stage10 (s.head h).set.comp (s.head h).set.lut))
      (t.head h).lines = (s.head h).lines ++ [px] ∧
      ∀ e ∈ s.outsOf h, e.1 / 256 = 1 → s.regBit .HD_SDI_STAT (e.1 % 256) 30 = true → e.2.u8 4 = 4 →
        Sends s t (.video e.1 f.line (linkLine (e.2.u8 5) true px))) ∧
  (∀ (r : Req) (b : Body) (s : State), Ready s r 0x4801 (if tFlag b 2 then [5 + b.u8 0, 6 + b.u8 0, 7 + b.u8 0, 8 + b.u8 0] else [5 + b.u8 0]) → timingBad s b = false →
    (s.running (b.u8 0) = true ∨ tFlag b 0 = true) → (s.head (b.u8 0)).armed = none → (s.head (b.u8 0)).second = [] →
    ∃ t, exec (.hdTiming r b) s = .next t ∧
      match (s.conf.edit [(b.u8 0, [⟨0x4801, b.u8 0, b⟩])]).reject s with
      | some k => Answers s t r 0x4801 7 k []
      | none => ∃ a, (t.head (b.u8 0)).armed = some a ∧ a.edits = [⟨0x4801, b.u8 0, b⟩] ∧ a.port = r.port) ∧
  (∀ (r : Req) (b : Body) (s : State), Ready s r 0x4802 [if b.u8 0 = 3 then 29 + b.u8 1 else 5 + oHead b] → outputBad s b = false → s.outputNone b = false →
    (b.u8 0 ≠ 3 → s.running (oHead b) = true ∧ (s.head (oHead b)).armed = none ∧ (s.head (oHead b)).second = []) →
    let key := b.u8 0 * 256 + b.u8 1
    ∃ t, exec (.hdOutput r b) s = .next t ∧
      match (s.conf.edit [(oHead b, [⟨0x4802, key, b⟩])]).reject s with
      | some k => Answers s t r 0x4802 7 k []
      | none => if b.u8 0 = 3 then Answers s t r 0x4802 0 0 [] ∧ t.outBody key = (if b.u8 2 = 1 then b else [])
          else ∃ a, (t.head (oHead b)).armed = some a ∧ a.edits = [⟨0x4802, key, b⟩] ∧ a.port = r.port) ∧
  (∀ (r : Req) (b : Body) (ans : Fin 4) (data : List Byte) (s : State),
    let bound := s.regBit .HD_DP_STAT (b.u8 0) 31
    let write := b.u8 1 % 2 == 1
    let n := if ans.val = 0 then b.u8 2 else 0
    Ready s r 0x4810 (if write then [if bound then 5 + s.regBits .HD_DP_STAT (b.u8 0) 28 24 else 0] else []) → b.length = 24 → b.u8 0 ≤ 15 →
    (s.dpQuad (b.u8 0)).isSome = true → b.u8 1 ≤ 3 → b.u8 2 ≠ 0 → b.u8 2 ≤ 16 → b.zero 3 1 = true →
    (b.u8 1 = 1 → bound = true → b.u32 4 % 2 ^ 20 ≤ 0x1FF → b.u32 4 % 2 ^ 20 + b.u8 2 ≤ 0x100) →
    ∃ t, exec (.hdDpAux r b ans data) s = .next t ∧
      Answers s t r 0x4810 0 0 (leBytes 1 ans.val ++ leBytes 1 n ++ leBytes 2 0 ++ (if write then List.replicate 16 0#8 else takePad 16 (data.take n)))) ∧
  (∀ (d : Fin 16) (what : Fin 3) (sink : SinkCaps) (lost : Bool) (s : State), (s.dpQuad d).isSome = true →
    ∃ t, exec (.dpHpdChange d what sink lost) s = .next t ∧ t.getReg .HD_DP_HPD_CNT d = (s.bumpSat .HD_DP_HPD_CNT d).getReg .HD_DP_HPD_CNT d ∧
      (what.val = 0 → t.regBit .HD_DP_STAT d 30 = false ∧ t.regBit .HD_DP_STAT d 29 = false) ∧
      (what.val = 1 → t.regBit .HD_DP_STAT d 30 = true ∧ (t.sink d).rate = sink.rate ∧ (t.sink d).lanes = sink.lanes) ∧
      (what.val = 2 → lost = true → s.regBit .HD_DP_STAT d 29 = true → t.regBit .HD_DP_STAT d 29 = false ∧
        t.getReg .HD_DP_RETRAIN d = (s.bumpSat .HD_DP_RETRAIN d).getReg .HD_DP_RETRAIN d)) ∧
  (∀ (d : Fin 16) (ok : Bool) (s : State), s.outBody d ≠ [] → s.regBit .HD_DP_STAT d 30 = true → s.regBit .HD_DP_STAT d 29 = false →
    s.regBits .HD_DP_STAT d 23 20 ≠ 15 →
    ∃ t, exec (.dpLinkTrainDone d ok) s = .next t ∧ t.regBit .HD_DP_STAT d 29 = ok ∧
      t.regBits .HD_DP_STAT d 23 20 = if ok then s.regBits .HD_DP_STAT d 23 20
        else (s.dpRateFrom (s.outBody d) (s.regBits .HD_DP_STAT d 23 20 + 1)).getD 15) ∧
  (∀ (f : Fin 48) (x : FlowNext) (s : State), let o := s.outBody (512 + f)
    s.flowNext f = some x → x.at0 ≤ s.ptp → s.isStandby = false → flowCost (s.rasterOf (oHead o)) ≤ s.flowLevel f → s.flowFirst (o.u8 10) = some f.val →
    ∃ t pkt, exec (.flowPacketSend f) s = .next t ∧ Sends s t (.packet (o.u8 10) 20 pkt) ∧ (t.flow f).sent = x.sent + 1 ∧
      (t.flow f).frame = some x.fr.frame ∧ t.getReg .HD_FLOW_PKTS f = s.getReg .HD_FLOW_PKTS f + 1) ∧
  (∀ (c : Fin 16) (pkt : List Byte) (rest : List (List Byte)) (s : State), let o := s.outBody (768 + c)
    o ≠ [] → s.ipOn = true → (s.flow (64 + c)).queue = pkt :: rest → 1000 * wireBits pkt ≤ s.eflowLevel c (wireBits pkt) →
    s.flowFirst (o.u8 10) = none → s.txFirst (o.u8 10) = false → s.encFirst (o.u8 10) = some c.val →
    ∃ t, exec (.encFlowPacketSend c) s = .next t ∧ Sends s t (.packet (o.u8 10) 21 pkt) ∧ (t.flow (64 + c)).queue = rest)

/-- O38. Received frames are counted, dispatched by Lode, assembled and released with their tag; losses are found (04_ingest.md (R154, R155, R157, R158, R166, R171, R173 to R175, R182 to R184, R187, R190); 03_liveness.md (R102, R103, R108)). -/
def Obligations.ReceivedFramesAreDispatchedAndReleased : Prop :=
  (∀ (m : Fin 16) (f : EthFrame) (s : State), (Tbl.get s.ing.macs m).enabled = true → (f.fcsOk = false ∨ f.len < 64 ∨ 9600 < f.len) →
    ∃ t, exec (.ethFrameReceive m f none) s = .next t ∧ t.getReg .ING_MAC_RX m = s.getReg .ING_MAC_RX m + 1 ∧
      t.getReg .ING_MAC_FCS m = (s.bumpSat .ING_MAC_FCS m).getReg .ING_MAC_FCS m ∧ t.ing = s.ing ∧ t.lode = s.lode ∧ t.pools = s.pools) ∧
  (∀ (m : Fin 16) (f : EthFrame) (s : State), (Tbl.get s.ing.macs m).enabled = true → f.fcsOk = true → 64 ≤ f.len → f.len < 256 → f.overrun = true →
    ∃ t, exec (.ethFrameReceive m f none) s = .next t ∧ t.getReg .ING_MAC_OVR m = (s.bumpSat .ING_MAC_OVR m).getReg .ING_MAC_OVR m ∧
      t.ing = s.ing ∧ t.lode = s.lode ∧ t.pools = s.pools) ∧
  (∀ (m : Fin 16) (f : EthFrame) (s : State), (Tbl.get s.ing.macs m).enabled = true → f.fcsOk = true → 64 ≤ f.len → f.len ≤ 9600 → f.overrun = false → f.ptp = none →
    f.elsewhere (Tbl.get s.ing.macs m).address = false → f.pause = false → f.control = false → s.lodeLookup f = none →
    ∃ t, exec (.ethFrameReceive m f none) s = .next t ∧ t.getReg .ING_MAC_RX m = s.getReg .ING_MAC_RX m + 1 ∧
      t.getReg .ING_MAC_UNK m = (s.bumpSat .ING_MAC_UNK m).getReg .ING_MAC_UNK m ∧ t.lode = s.lode ∧ t.pools = s.pools) ∧
  (∀ (m n : Fin 16) (f g : EthFrame) (s : State), ∃ t1 t2, exec (.ethFrameReceive m f (some (n, g))) s = .next t2 ∧
    if g.control = true ∧ f.control = false then exec (.ethFrameReceive n g none) s = .next t1 ∧ exec (.ethFrameReceive m f none) t1 = .next t2
    else exec (.ethFrameReceive m f none) s = .next t1 ∧ exec (.ethFrameReceive n g none) t1 = .next t2) ∧
  (∀ (m : Fin 16) (f : EthFrame) (r : Rtp) (k i : Nat) (e : LodeEntry) (s : State),
    (Tbl.get s.ing.macs m).enabled = true → f.fcsOk = true → 64 ≤ f.len → f.len ≤ 9600 → f.overrun = false → f.ptp = none →
    f.elsewhere (Tbl.get s.ing.macs m).address = false → f.pause = false → f.control = false →
    s.lodeLookup f = some (k, e) → e.vlan / 32768 = 0 → e.macMask = 0 → e.type = 1 → 256 ≤ e.group →
    f.rtp = some r → f.badIp = false → r.version = 2 → f.payloadOk = true → r.marker = true → r.seq < 65536 → r.extSeq < 65536 →
    e.context < 1024 → let x := s.ictx e.context; let p := s.pool e.context
    x.bound = true → x.cfg.u8 2 = 1 → x.cfg.u8 20 = 0 → 256 ≤ x.group → x.spoilt = 0 → x.frames = [] → x.next = none →
    (x.lastEnd = none ∨ x.lastEnd = some ((r.extSeq * 65536 + r.seq + 2 ^ 32 - 1) % 2 ^ 32)) →
    (∀ q ∈ f.runs, q.pixel + q.width ≤ x.cfg.u16 12 ∧ q.line + 1 ≤ x.cfg.u16 14) → (∀ q ∈ f.runs, q.field = false) →
    (p.take.map (fun z => z.1)) = some i → i < p.surfs.length → (∀ j, j < p.surfs.length → (p.surf j).addr = (p.surf i).addr → j = i) →
    ∃ t hd, exec (.ethFrameReceive m f none) s = .next t ∧ (t.pool e.context).newestIdx = some i ∧ ((t.pool e.context).surf i).header = some hd ∧
      hd.tag.sourceId = p.sourceId ∧ hd.tag.seq = p.nextSeq ∧
      hd.tag.time = (tagTime (x.cfg.u8 3 == 0) 90000 r.ts (s.rxTime m)).1 % (2 ^ 30 * 1000000000) ∧ hd.tag.crc = crc8 hd.tag.covered ∧ hd.done = s.ptp ∧
      (t.pool e.context).nextSeq = (p.nextSeq + 1) % 2 ^ 32 ∧
      t.getReg .ING_CTX_FRAMES e.context = s.getReg .ING_CTX_FRAMES e.context + 1 ∧ t.getReg .LODE_HITS 0 = s.getReg .LODE_HITS 0 + 1) ∧
  (∀ (c : Fin 1024) (f : OpenFrame) (d a i : Nat) (s : State), let x := s.ictx c
    x.frames = [f] → f.deadline = some d → d ≤ s.now → x.next = none → f.cfg.u8 2 = 1 → f.surface = some a →
    (s.pool c).surfs.findIdx? (fun g => g.addr == a) = some i → (f.size x.geo).1 ≤ f.cfg.u16 12 → (f.size x.geo).2 ≤ f.cfg.u16 14 →
    ∃ t, exec (.skewWindowExpiry c) s = .next t ∧ (t.ictx c).frames = [] ∧ (t.pool c).newestIdx = some i ∧
      t.getReg .ING_CTX_FRAMES c = s.getReg .ING_CTX_FRAMES c + 1) ∧
  (∀ (c : Fin 1024) (s : State), let x := s.ictx c
    x.bound = true → (if x.cfg.u8 2 = 6 then s.sdiAlive c + 1000000 ≤ s.now
      else x.lastPkt + x.cfg.u16 6 * 1000000 ≤ s.now ∧ (x.group < 256 → (s.mgrp x.group).upA = false ∧ (s.mgrp x.group).upB = false)) →
    ∃ t, exec (.contextLosTimeout c) s = .next t ∧ (t.ictx c).los = true ∧ (t.ictx c).bound = true) ∧
  (∀ (g : Fin 256) (leg : Fin 2) (s : State), (if leg = 0 then (s.mgrp g).upA else (s.mgrp g).upB) = true →
    (if leg = 0 then (s.mgrp g).lastA else (s.mgrp g).lastB) + (s.ictx (s.mgrp g).context).cfg.u16 6 * 1000000 ≤ s.now →
    ∃ t, exec (.mergeLegTimeout g leg) s = .next t ∧ (if leg = 0 then (t.mgrp g).upA else (t.mgrp g).upB) = false ∧
      (if leg = 0 then (t.mgrp g).upB = (s.mgrp g).upB else (t.mgrp g).upA = (s.mgrp g).upA) ∧ t.regBit .ING_MG_STAT g (if leg = 0 then 0 else 1) = false) ∧
  (∀ (i : Fin 16) (s : State), (s.sdi i).lock = true → (s.sdi i).lastTrs + 1000000 ≤ s.now →
    ∃ t, exec (.sdiTrsLossTimeout i) s = .next t ∧ (t.sdi i).lock = false ∧ t.regBit .ING_SDI_STAT i 31 = false ∧ t.regBit .ING_STATUS 0 i = false) ∧
  (∀ (i : Fin 16) (l : SdiLine) (s : State), (s.sdi i).rates.testBit (l.rate - 1) = true → 1 ≤ l.rate → l.rate ≤ 5 → (s.sdi i).context < 1024 →
    ∃ t, exec (.sdiLineReceive i l) s = .next t ∧ (t.sdi i).lock = true ∧ (t.sdi i).lastTrs = s.now ∧ t.regBits .ING_SDI_STAT i 30 28 = l.rate ∧
      t.getReg .ING_SDI_CRC i = (if l.crcOk then s else s.bumpSat .ING_SDI_CRC i).getReg .ING_SDI_CRC i ∧
      let c := (s.sdi i).context
      ∀ k, (s.ictx c).bound = true → (s.ictx c).cfg.u8 2 = 6 → (s.ictx c).next = none → (s.ictx c).frames = [] → l.active = some 0 → l.last = true →
        l.interlaced = false → l.field2 = false → l.width ≤ (s.ictx c).cfg.u16 12 → 1 ≤ (s.ictx c).cfg.u16 14 → ((s.pool c).take.map (fun z => z.1)) = some k →
        k < (s.pool c).surfs.length → (∀ j, j < (s.pool c).surfs.length → ((s.pool c).surf j).addr = ((s.pool c).surf k).addr → j = k) →
        (t.pool c).newestIdx = some k ∧ (t.ictx c).frames = [] ∧ t.getReg .ING_CTX_FRAMES c = s.getReg .ING_CTX_FRAMES c + 1)

/-- O39. Ingest commands set MACs, merge groups, SDI inputs and host rings, and injected frames leave with their FCS (04_ingest.md (R154, R165, R168, R173, R183); 09_scanout_outputs.md (R370)). -/
def Obligations.IngestPortsAreSetAndFramesInjected : Prop :=
  (∀ (r : Req) (b : Body) (s : State), Ready s r 0x2001 [45] → b.length = 8 → b.u8 0 ≤ 15 → b.u8 1 ≤ 1 → b.u8 2 % 2 = 0 → s.macOnBoard (b.u8 0) = true →
    ∃ t, exec (.ingMacConfig r b) s = .next t ∧ Answers s t r 0x2001 0 0 [] ∧ (Tbl.get t.ing.macs (b.u8 0)).enabled = (b.u8 1 == 1) ∧
      (Tbl.get t.ing.macs (b.u8 0)).address = b.be 2 6) ∧
  (∀ (r : Req) (b : Body) (s : State), Ready s r 0x2003 [45] → b.length = 4 → b.u16 0 ≤ 255 → 1 ≤ b.u16 2 → b.u16 2 ≤ 150 →
    ∃ t, exec (.ingMerge r b) s = .next t ∧ Answers s t r 0x2003 0 0 [] ∧
      (if (s.mgrp (b.u16 0)).skewMs = 0 then (t.mgrp (b.u16 0)).skewMs = b.u16 2 else (t.mgrp (b.u16 0)).nextSkew = b.u16 2)) ∧
  (∀ (r : Req) (b : Body) (s : State), Ready s r 0x2004 [45] → b.length = 4 → b.u8 0 ≤ 15 → b.u8 1 ≤ 31 → b.u16 2 ≤ 1023 →
    (b.u8 1 = 0 ∨ (s.ictx (b.u16 2)).bound = true ∧ (s.ictx (b.u16 2)).cfg.u8 2 = 6) →
    ∃ t, exec (.ingSdi r b) s = .next t ∧ if s.sdiOnBoard (b.u8 0) then Answers s t r 0x2004 0 0 [] ∧ (t.sdi (b.u8 0)).rates = b.u8 1 ∧ (t.sdi (b.u8 0)).context = b.u16 2
      else Answers s t r 0x2004 7 5 [] ∧ t.ing = s.ing) ∧
  (∀ (r : Req) (b : Body) (s : State), Ready s r 0x2020 [45] → b.length = 12 → b.u8 0 ≤ 1 → (b.u8 1 = 0 ∨ 8 ≤ b.u8 1 ∧ b.u8 1 ≤ 14) → b.zero 2 2 = true →
    b.u64 4 % 4096 = 0 →
    ∃ t, exec (.ingHostRing r b) s = .next t ∧ Answers s t r 0x2020 0 0 [] ∧ (t.iring (b.u8 0)).log2 = b.u8 1 ∧ (t.iring (b.u8 0)).addr = b.u64 4 ∧
      (t.iring (b.u8 0)).port = r.port ∧ t.getReg .ING_RING_WR (b.u8 0) = 0#32 ∧ t.getReg .ING_RING_RD (b.u8 0) = 0#32) ∧
  (∀ (r : Req) (b : Body) (s : State), Ready s r 0x2021 [45] → 60 ≤ b.u16 2 → b.u16 2 ≤ 1514 → b.length = 4 + pad4 (b.u16 2) → b.u16 0 ≠ 0 → s.ing.inject.length < 64 →
    ∃ t q, exec (.ingInject r b) s = .next t ∧ t.out = s.out ∧ t.ing.inject = s.ing.inject ++ [q] ∧ q.req = r ∧ q.macs = maskBits (b.u16 0) 16 ∧
      q.bytes = (b.drop 4).take (b.u16 2)) ∧
  (∀ (m : Fin 16) (q : Inject) (s : State), s.ing.inject.find? (fun z => z.macs.contains m.val) = some q → s.flowFirst m = none → s.txFirst m = false → s.encFirst m = none →
    ∃ t, exec (.injectFrameSent m) s = .next t ∧ Sends s t (.packet m 0 (q.bytes ++ fcs q.bytes)) ∧
      (q.macs = [m.val] → t.ing.inject = s.ing.inject.erase q ∧ t.getReg .ING_INJECT_CNT 0 = (s.bumpSat .ING_INJECT_CNT 0).getReg .ING_INJECT_CNT 0 ∧
        (s.evtEn q.req.port = true → s.interp.restart = none → Answers s t q.req 0x2021 0 0 [])))

/-- O40. LODE_UPDATE of one record adds, replaces or deletes the entry of its key and leaves the others; LODE_READ copies entries (04_ingest.md (R158 to R162)). -/
def Obligations.TheLodeTableChangesAsCommanded : Prop :=
  (∀ (r : Req) (b : Body) (s : State), Ready s r 0x2010 [45] → b.length = 40 → b.u16 0 = 1 → b.zero 2 2 = true →
    let rec0 : Body := b.drop 4
    let e := lodeOf (rec0.drop 4)
    rec0.u8 0 = 1 → badRecord s 1 (rec0.zero 1 3) (rec0.drop 4) = false → s.lodeList.any (fun x => sameKey x.2 e) = false → s.lodeList.length < 58982 →
    Tbl.wf (fun _ => none) s.lode.entries = true →
    ∃ t i, exec (.lodeUpdate r b) s = .next t ∧ (i, e) ∈ t.lodeList ∧ (∀ x ∈ s.lodeList, ∃ j, (j, x.2) ∈ t.lodeList) ∧
      t.getReg .LODE_COUNT 0 = BitVec.ofNat 32 t.lodeList.length ∧ t.getReg .LODE_UPDATES 0 = s.getReg .LODE_UPDATES 0 + 1 ∧
      Answers s t r 0x2010 0 0 (leBytes 2 1 ++ leBytes 2 0xFFFF ++ leBytes 4 t.lodeList.length)) ∧
  (∀ (r : Req) (b : Body) (i : Nat) (o : LodeEntry) (s : State), Ready s r 0x2010 [45] → b.length = 40 → b.u16 0 = 1 → b.zero 2 2 = true →
    let rec0 : Body := b.drop 4
    let e := lodeOf (rec0.drop 4)
    (rec0.u8 0 = 2 ∨ rec0.u8 0 = 3) → badRecord s (rec0.u8 0) (rec0.zero 1 3) (rec0.drop 4) = false → s.lodeList.find? (fun x => sameKey x.2 e) = some (i, o) →
    Tbl.wf (fun _ => none) s.lode.entries = true →
    ∃ t, exec (.lodeUpdate r b) s = .next t ∧ Tbl.get t.lode.entries i = (if rec0.u8 0 = 2 then some { e with lastHit := o.lastHit } else none) ∧
      (∀ j, j ≠ i → Tbl.get t.lode.entries j = Tbl.get s.lode.entries j) ∧
      Answers s t r 0x2010 0 0 (leBytes 2 1 ++ leBytes 2 0xFFFF ++ leBytes 4 t.lodeList.length)) ∧
  (∀ (r : Req) (b : Body) (s : State), Ready s r 0x2011 [] → b.length = 16 → b.u32 4 ≠ 0 → b.u32 0 + b.u32 4 ≤ 65536 →
    ∃ t dat, exec (.lodeRead r b) s = .next t ∧ Sends s t (.dma r.port (b.u64 8) dat) ∧ t.lode = s.lode ∧
      Answers s t r 0x2011 0 0 (leBytes 4 (s.lodeList.filter (fun e => decide (b.u32 0 ≤ e.1 ∧ e.1 < b.u32 0 + b.u32 4))).length))

/-- O41. Rows start in wavefront order, complete to the next stage, retry once, and then move to a spare engine (06_coding_fabric_decode.md (R225, R227, R232, R233, R235, R243 to R245, R248)). -/
def Obligations.CodingJobsRunRetryAndFailOver : Prop :=
  (∀ (p : Fin 32) (x : Nat) (j : Job) (s : State), (s.peSt p).running = some j → (s.peSt p).failed = false → x < j.cols → j.ctus ≤ x → s.ctuReady j x = true →
    (if j.owner < 64 then s.oreFree j.key = true else s.entropyLeft j = false) →
    ∃ t, exec (.peJobStart p x) s = .next t ∧ t.peSt p = (s.peSt p).modJob j.num (fun j => { j with started := true, ctus := x }) ∧
      (∀ n, n ≠ p.val → t.peSt n = s.peSt n) ∧ (j.owner < 64 → j.key ∈ t.fab.ore)) ∧
  (∀ (p : Fin 32) (bins : Nat) (row : DecRow) (j : Job) (s : State), (s.peSt p).running = some j → (s.peSt p).failed = false → j.started = true →
    s.aboveDone j = true →
    ∃ t, exec (.jobComplete (.pe p) bins row) s = .next t ∧
      (j.owner < 64 → j.key ∈ t.fab.rowsRecon ∧
        ∀ k, s.fab.dram = [] → s.fab.dramEe = [] → fewest (fun n => (s.eeSt n).queue.length) (s.eesOf j.owner) = some k → (s.eeSt k).queue.length < 16 →
          ∃ q, (t.eeSt k).queue = (s.eeSt k).queue ++ [q] ∧ q.key = j.key) ∧
      (64 ≤ j.owner → j.key ∉ t.fab.ore ∧
        ((∀ r, r < j.rows → r ≠ j.row → (j.owner, j.pic, r) ∈ s.fab.rowsDone) → s.belowDone j = true →
          ∀ a ∈ (s.sess (j.owner - 64)).aus, a.pic = j.pic → (∀ x ∈ (s.sess (j.owner - 64)).aus, x.pic = j.pic → x = a) → a.info.output = true →
            a.info.second = false → (∀ x ∈ (s.sess (j.owner - 64)).aus, x.pic ≠ j.pic → x.decoded = true) →
            ∃ x ∈ (t.sess (j.owner - 64)).aus, x.pic = j.pic ∧ x.decoded = true))) ∧
  (∀ (e : Fin 8) (bins : Nat) (row : DecRow) (j : Job) (q : List Job) (s : State), (s.eeSt e).queue = j :: q → (s.eeSt e).failed = false →
    ∃ t, exec (.jobComplete (.ee e) bins row) s = .next t ∧
      if j.owner < 64 ∨ s.oreFree j.key = true then (s.fab.dramEe = [] → (t.eeSt e).queue = q) ∧ (t.eeSt e).binRem = ((s.eeSt e).binRem + bins) % 1000000 ∧
        t.getReg .CF_EE_MBINS e = s.getReg .CF_EE_MBINS e + BitVec.ofNat 32 (((s.eeSt e).binRem + bins) / 1000000) ∧
        (if j.owner < 64 then (j.owner, j.pic, j.row, s.ptp) ∈ t.fab.coded else j.key ∈ t.fab.ore)
      else (t.eeSt e).queue = { j with stalled := true } :: q ∧
        t.getReg .CF_OREBIN_STALL 0 = (if j.stalled then s else s.bumpSat .CF_OREBIN_STALL 0).getReg .CF_OREBIN_STALL 0) ∧
  (∀ (e : Engine) (j : Job) (s : State), s.executing e = some j → (s.engine e).failed = false → j.bad = 0 →
    ∃ t, exec (.jobResidueMismatch e none) s = .next t ∧ t.engine e = (s.engine e).modJob j.num (fun j => j.again 1) ∧
      Logs s t (engIsland e) 0x05 0 ∧
      (match e with
       | .pe n => t.getReg .CF_PE_RETRY n = (s.bumpSat .CF_PE_RETRY n).getReg .CF_PE_RETRY n
       | .ee n => t.getReg .CF_EE_RETRY n = (s.bumpSat .CF_EE_RETRY n).getReg .CF_EE_RETRY n)) ∧
  (∀ (e f : Engine) (j k : Job) (s : State), e ≠ f → s.executing e = some j → s.executing f = some k → (s.engine e).failed = false → (s.engine f).failed = false →
    j.bad = 0 → k.bad = 0 →
    ∃ t, exec (.jobResidueMismatch e (some f)) s = .next t ∧ t.engine e = (s.engine e).modJob j.num (fun j => j.again 1) ∧
      t.engine f = (s.engine f).modJob k.num (fun j => j.again 1)) ∧
  (∀ (e : Engine) (j : Job) (s : State), s.executing e = some j → (s.engine e).failed = false → j.bad ≠ 0 →
    ∃ t, exec (.jobResidueMismatch e none) s = .next t ∧ (t.engine e).failed = true ∧
      match (s.setEngine e { s.engine e with failed := true }).spareFor e with
      | none => Logs s t (engIsland e) 0x06 1 ∧ (64 ≤ j.owner → (t.sess (j.owner - 64)).stopped = true)
      | some k => Logs s t (engIsland e) 0x06 0 ∧ (t.engine e).queue = [] ∧
          let moved := j.again 0 :: (s.engine e).queue.filter (fun x => x.num != j.num)
          match e with
          | .pe n => (∀ o, n.val ∈ s.pesOf o → k ∈ t.pesOf o) ∧ (t.peSt k).queue = (s.peSt k).queue ++ moved.take (16 - (s.peSt k).queue.length)
          | .ee n => (∀ o, n.val ∈ s.eesOf o → k ∈ t.eesOf o) ∧ (t.eeSt k).queue = (s.eeSt k).queue ++ moved.take (16 - (s.eeSt k).queue.length))

/-- O42. Decode sessions bind, restart, wait and release pictures; the fabric's commands reserve, list and copy (06_coding_fabric_decode.md (R228, R230, R238 to R241, R247, R249, R250, R252, R253, R255, R258)). -/
def Obligations.DecodeSessionsAndFabricCommands : Prop :=
  (∀ (r : Req) (b : Body) (s : State), Ready s r 0x3001 [49] → decBad s b = false →
    ∃ t, exec (.decSession r b) s = .next t ∧
      if 127 < b.u16 0 ∨ (s.stageDec b).isNone then Answers s t r 0x3001 5 0 []
      else match (if (b.u8 2 == 1 && decFormat b) = true then some rFORMAT else (s.conf.withDec b).reject s) with
        | some x => Answers s t r 0x3001 7 x [] ∧ t.dec = s.dec
        | none => Answers s t r 0x3001 0 0 [] ∧ (b.u8 2 = 1 → (s.sess (b.u16 0)).bound = false →
            (t.sess (b.u16 0)).bound = true ∧ (t.sess (b.u16 0)).cfg = b ∧ t.sessState (b.u16 0) = 1)) ∧
  (∀ (r : Req) (b : Body) (s : State), Ready s r 0x3002 [49] → b.length = 4 → b.zero 2 2 = true → b.u16 0 ≤ 127 → (s.sess (b.u16 0)).bound = true →
    ∃ t, exec (.decRestart r b) s = .next t ∧ Answers s t r 0x3002 0 0 [] ∧ t.sessState (b.u16 0) = 1 ∧ (t.sess (b.u16 0)).aus = [] ∧
      (t.sess (b.u16 0)).bound = true ∧ (t.sess (b.u16 0)).cfg = (s.sess (b.u16 0)).cfg) ∧
  (∀ (n : Fin 128) (i : Nat) (a : DecAu) (s : State), let p := s.pool (poolDec n); let final := s.sessState n != 2
    firstOut ((s.sess n).outs final) = some a → (s.sess n).outDue p.marked final = true → (s.sess n).stopped = false → a.buf = some i → i < p.surfs.length →
    ∃ t hd, exec (.decPictureRelease n) s = .next t ∧ (t.pool (poolDec n)).newestIdx = some i ∧
      ((t.pool (poolDec n)).surf i).header = some hd ∧ hd.tag.time = a.tag.time % (2 ^ 30 * 1000000000) ∧ hd.tag.basis = a.tag.basis ∧
      hd.tag.sourceId = p.sourceId ∧ hd.tag.seq = p.nextSeq ∧ hd.done = s.ptp ∧ hd.width = a.info.outWidth ∧ hd.height = a.info.outHeight ∧
      hd.contentCrc = contentCrc a.stored ∧ hd.tag.crc = crc8 hd.tag.covered ∧ (∀ x ∈ (t.sess n).aus, x.pic ≠ a.pic) ∧
      t.getReg .DEC_SESS_PICS n = s.getReg .DEC_SESS_PICS n + 1) ∧
  (∀ (n : Fin 144) (a : DecAu) (i : Nat) (p : Pool) (s : State), n.val < 128 → (s.sess n).waiting = true → (s.sess n).stopped = false →
    (s.sess n).aus.find? (fun a => !a.decoded) = some a → a.buf = none → (s.sess n).mateBuf a = none →
    (((s.markRefs n a).dropPrior n a).pool (poolDec n)).take = some (i, p) →
    ∃ t, exec (.bufferWaitEnd n) s = .next t ∧ ((t.pool (poolDec n)).surf i).header = none ∧ ∀ x ∈ (t.sess n).aus, x.pic = a.pic → x.buf = some i) ∧
  (∀ (r : Req) (b : Body) (s : State), Ready s r 0x3010 [0] → b.length = 4 → b.zero 2 2 = true → b.u8 0 ≤ 8 → b.u8 1 ≤ 2 →
    ∃ t, exec (.cfReserve r b) s = .next t ∧
      if s.conf.enginesOver ((s.setBits .CF_RESERVE 0 3 0 (b.u8 0)).setBits .CF_RESERVE 0 9 8 (b.u8 1)) = true then
        Answers s t r 0x3010 7 rENGINES [] ∧ t.getReg .CF_RESERVE 0 = s.getReg .CF_RESERVE 0
      else Answers s t r 0x3010 0 0 [] ∧ t.regBits .CF_RESERVE 0 3 0 = b.u8 0 ∧ t.regBits .CF_RESERVE 0 9 8 = b.u8 1) ∧
  (∀ (r : Req) (b : Body) (s : State), Ready s r 0x3011 [] → b.length = 0 →
    ∃ t, exec (.cfAlloc r b) s = .next t ∧ t.fab = s.fab ∧
      Answers s t r 0x3011 0 0 ((List.range 32).map (fun n => BitVec.ofNat 8 (s.peSt n).code) ++ (List.range 8).map (fun n => BitVec.ofNat 8 (s.eeSt n).code))) ∧
  (∀ (r : Req) (b : Body) (s : State), Ready s r 0x3003 [] → b.length = 16 → b.zero 1 1 = true → b.u8 0 ≤ 1 → (b.u8 0 = 0 → b.u16 2 ≤ 127) → (b.u8 0 = 1 → b.u16 2 ≤ 15) →
    let p := s.pool (if b.u8 0 = 0 then poolDec (b.u16 2) else poolEnc (b.u16 2))
    ∃ t, exec (.cfKeyCopy r b) s = .next t ∧
      match p.surfs.find? (fun f => f.key) with
      | none => Answers s t r 0x3003 7 0x0130 []
      | some f => let data := f.keyBytes p.format s.free
          data.length ≤ b.u32 12 → Answers s t r 0x3003 0 0 (leBytes 4 data.length ++ data.take 16) ∧ Sends s t (.dma r.port (b.u64 4) data))

/-- O43. ENC_CHANNEL binds or arms, ENC_KEY requests key pictures, ENC_STATS_RING places the ring, an ended stream closes (07_encoder.md (R262, R288, R294, R299, R301 to R305)). -/
def Obligations.EncodeCommandsTakeEffect : Prop :=
  (∀ (r : Req) (b : Body) (s : State), Ready s r 0x3801 (if b.u8 0 < 16 then [scopeChan (b.u8 0)] else []) → chanBad s b = false →
    ∃ t, exec (.encChannel r b) s = .next t ∧
      let c := b.u8 0
      if 15 < c ∨ (s.stageChan c b).isNone = true then Answers s t r 0x3801 5 0 []
      else match (if (b.u8 1 == 1 && s.chanFormat b) = true then some rFORMAT
          else ({ s.conf with enc := assocSet s.conf.enc c (if (b.u8 1 == 1) = true then some b else none) } : Conf).reject s) with
        | some x => Answers s t r 0x3801 7 x [] ∧ t.enc = s.enc
        | none =>
          if (s.chan c).bound = true then (t.chan c).cfg = (s.chan c).cfg ∧
            if (s.chan c).next = none ∧ (s.chan c).second = [] then (t.chan c).next.map (fun a => a.body) = some b
            else (t.chan c).next = (s.chan c).next ∧ (t.chan c).second.map (fun a => a.body) = (s.chan c).second.map (fun a => a.body) ++ [b]
          else (s.chan c).second = [] → Answers s t r 0x3801 0 0 [] ∧ ((s.chan c).next = none → b.u8 1 = 1 → (t.chan c).bound = true ∧ (t.chan c).cfg = b ∧ t.chanState c = 1 ∧
            t.getReg .ENC_CH_DELAY_NS c = BitVec.ofNat 32 (eDelta b) ∧ (t.chan c).needKey = some 4)) ∧
  (∀ (r : Req) (b : Body) (s : State), Ready s r 0x3802 ((maskBits (b.u16 0) 16).map scopeChan) → b.length = 4 → b.u16 0 ≠ 0 → b.u8 2 ≤ 2 → b.u8 3 = 0 →
    (∀ c ∈ maskBits (b.u16 0) 16, (s.chan c).bound = true) →
    ∃ t, exec (.encKey r b) s = .next t ∧ (∃ w, t.enc.keyCmds = s.enc.keyCmds ++ [w] ∧ w.req = r ∧ w.time = s.ptp ∧ w.left = maskBits (b.u16 0) 16) ∧
      if s.isStandby then ∀ c, (t.chan c).latch = (s.chan c).latch
      else t.out = s.out ∧ ∀ c ∈ maskBits (b.u16 0) 16, (t.chan c).latch = (s.chan c).latch ++ [{ cause := 0, type := b.u8 2, time := s.ptp }] ∧
        t.regBit .ENC_CH_STAT c 28 = true) ∧
  (∀ (r : Req) (b : Body) (s : State), Ready s r 0x3803 [] → anyChanScope (s.heldAt r 0x3803) = true → b.length = 12 → b.zero 1 3 = true →
    (b.u8 0 = 0 ∨ 4 ≤ b.u8 0 ∧ b.u8 0 ≤ 9 ∧ b.u64 4 % 4096 = 0) →
    ∃ t, exec (.encStatsRing r b) s = .next t ∧ Answers s t r 0x3803 0 0 [] ∧ t.enc.ring.log2 = b.u8 0 ∧ t.enc.ring.addr = b.u64 4 ∧ t.enc.ring.port = r.port ∧
      t.regBits .ENC_STATS_WR 0 8 0 = 0 ∧ t.regBits .ENC_STATS_RD 0 8 0 = 0) ∧
  (∀ (c : Fin 16) (tm ts : Nat) (s : State), (s.chan c).eob = some (tm, ts) → tm ≤ s.ptp → (s.chan c).pics = [] → eVirtual (s.chan c).cfg = false →
    2 ≤ (s.chan c).cfg.u16 34 →
    ∃ t, exec (.encEndOfBitstream c) s = .next t ∧ (t.chan c).bound = false ∧ t.chanState c = 0 ∧
      (t.flow (64 + c)).queue.length = (s.flow (64 + c)).queue.length + (if s.chanSends c then 1 else 0))

/-- O44. Every picture starts on its clock with the liveness status, rows go by their deadlines, and the cap bucket never overruns (07_encoder.md (R268, R269, R274 to R276, R278, R280, R284, R286, R288, R292)). -/
def Obligations.PicturesAreCodedOnTheirClock : Prop :=
  (∀ (c : Fin 16) (ready : Bool) (pre : List Nat) (s : State), let x := s.chan c
    x.bound = true → x.eob = none → x.next = none → eTin x.cfg x.nextK 0 ≤ s.ptp → s.isStandby = false → s.chanState c ≠ 3 →
    ∃ t p, exec (.encPictureStart c ready pre) s = .next t ∧ (t.chan c).pics = x.pics ++ [p] ∧
      let tk := eTk x.cfg x.nextK
      let st := ((s.takeEngines c true).checkTaken c).pictureStatus c ready (eTin x.cfg x.nextK 0) (eTout x.cfg x.nextK (eRows x.cfg - 1))
      (t.chan c).pic = (x.pic + 1) % 2 ^ 48 ∧ (t.chan c).nextK = x.nextK + 1 ∧ p.num = x.pic ∧ p.tk = tk ∧ p.status = st.1 ∧
      (∃ flags age, p.sei = seiNal (seiPayload st.1 flags c p.tag age x.pic x.prevFill x.prevLate tk (if eVirtual x.cfg then 0 else x.cfg.u32 36)) ∧
        (flags.testBit 7 = true ↔ p.kind = 3) ∧ (flags.testBit 6 = true ↔ p.kind = 1 ∨ p.kind = 2)) ∧
      (∀ f, eVirtual x.cfg = false → st.2 = some f → p.tag = some f.tag) ∧
      (x.keyCause tk = none → st.1 ∈ [5, 4, 8, 3, 1] → p.kind = 3 ∧ t.getReg .ENC_CH_REPEAT c = (s.bumpSat .ENC_CH_REPEAT c).getReg .ENC_CH_REPEAT c) ∧
      (∀ q, x.keyCause tk = some q → (s.pool (poolEnc c)).unusedBuf.isSome = true →
        (p.kind = 1 ∨ p.kind = 2) ∧ p.cause = q ∧ (t.chan c).latch = x.latch.filter (fun k => decide (tk ≤ k.time)) ∧ (t.chan c).needKey = none ∧
        t.getReg .ENC_CH_KEYS c = s.getReg .ENC_CH_KEYS c + 1 ∧
        ∀ w, s.enc.keyCmds = [w] → w.left = [c.val] → w.lowest = c.val → w.time < tk → s.evtEn w.req.port = true → s.interp.restart = none →
          t.enc.keyCmds = [] ∧ Answers s t w.req 0x3802 0 0 (leBytes 2 (w.taken ||| 2 ^ c.val) ++ leBytes 2 w.coalesced ++ leBytes 2 w.deferred ++ leBytes 2 0 ++
            leBytes 6 x.pic ++ leBytes 2 0 ++ timeBytes tk))) ∧
  (∀ (c : Fin 16) (told : Int) (p : EncPic) (s : State), (s.chan c).pics.getLast? = some p → p.rows.length < eRows (s.chan c).cfg →
    eTinAt (s.chan c).cfg p.tk p.rows.length ≤ s.ptp → s.isStandby = false → p.kind ≠ 3 → p.filled = false →
    let margin := s.rowMargin c p.rows.length (eTinAt (s.chan c).cfg p.tk p.rows.length) told
    ∃ t p', exec (.encRowInputDeadline c p.rows.length told) s = .next t ∧ (t.chan c).pics.getLast? = some p' ∧ p'.rows.length = p.rows.length + 1 ∧
      (∀ e, p'.rows[p.rows.length]? = some e → (e.late = true ↔ margin < 0) ∧ ((s.chan c).cfg.u8 29 ≤ 51 → (s.chan c).cfg.u8 29 ≤ e.qp ∧ e.qp ≤ 51)) ∧
      (margin < 0 → t.getReg .ENC_CH_LATE c = (s.bumpSat .ENC_CH_LATE c).getReg .ENC_CH_LATE c ∧ (c.val, p.num, p.rows.length) ∈ t.fab.rowsRecon) ∧
      (0 ≤ margin → Tbl.get s.fab.places c ≠ [] → s.fab.dram = [] → s.fab.dramEe = [] →
        let n := (Tbl.get s.fab.places c).getD (p.rows.length % (Tbl.get s.fab.places c).length) 0
        ∃ j : Job, j.owner = c.val ∧ j.pic = p.num ∧ j.row = p.rows.length ∧ j.rows = eRows (s.chan c).cfg ∧
          if (s.peSt n).queue.length < 16 then (t.peSt n).queue = (s.peSt n).queue ++ [j] else Tbl.get t.fab.dram c = [j])) ∧
  (∀ (c : Fin 16) (row : RowCoded) (p : EncPic) (rest : List EncPic) (er : EncRow) (s : State), let x := s.chan c
    x.pics = p :: rest → p.rows[p.out]? = some er → eToutAt x.cfg p.tk p.out ≤ s.ptp →
    ∃ t, exec (.encRowOutput c row) s = .next t ∧
      let pre := if p.out = 0 then unitHead x.cfg (p.kind == 1 || p.kind == 2) row.sets p.sei else []
      let bits := fun (nal : List Byte) => 8 * ((pre.map (fun l => l.length)).sum + nal.length)
      let f0 := (x.drained (eToutAt x.cfg p.tk p.out)).1
      ((t.chan c).fill = f0 + bits (nalUnit (sliceType p.kind) row.fill) ∨
        (t.chan c).fill = f0 + bits (nalUnit (sliceType p.kind) row.slice) ∧ (t.chan c).fill + 8192 ≤ eBuf x.cfg ∧ p.kind ≠ 3 ∧ p.filled = false ∧ er.late = false) ∧
      t.getReg .ENC_CH_BUCKET c = BitVec.ofNat 32 (t.chan c).fill ∧ (t.chan c).lastOut = eToutAt x.cfg p.tk p.out ∧
      (if p.out + 1 = eRows x.cfg then t.getReg .ENC_CH_PICS c = s.getReg .ENC_CH_PICS c + 1 ∧ ∀ o ∈ (t.chan c).pics, o.num ≠ p.num
       else (t.chan c).pics.head?.map (fun o => o.out) = some (p.out + 1)))

/-- O45. Camera frames open, fill, close, wait for their pipe and leave as surfaces; losses, retries and faults are found (05_camera_pipes.md (R198 to R206, R209, R210, R216, R221, R223)). -/
def Obligations.CameraFramesAreReceivedAndProcessed : Prop :=
  (∀ (p : Fin 8) (v : Fin 4) (c : Nat) (s : State), (s.cport p).enabled = true → s.camOf p v = some c → (s.cctx c).next = none →
    ∃ t f, exec (.csiFrameStart p v) s = .next t ∧ (t.cctx c).writing = some f ∧ f.start = s.ptp ∧ f.count = 0 ∧ f.lines = [] ∧ (t.cctx c).los = false ∧
      (t.cctx c).lastFs = s.now ∧ t.getReg .CAM_CTX_FS_SEC c = BitVec.ofNat 32 (s.ptp / 1000000000) ∧ t.getReg .CAM_CTX_FS_NS c = BitVec.ofNat 32 (s.ptp % 1000000000) ∧
      f.params = (((s.cctx c).armedSet.map (fun a => a.body)).getD (s.cctx c).params) ∧ f.defects = (((s.cctx c).armedDef.map (fun a => a.defects)).getD (s.cctx c).defects) ∧
      (t.cctx c).armedSet = none ∧ (t.cctx c).armedDef = none ∧
      ∀ a, (s.cctx c).armedSet = some a → a.quiet = false → s.evtEn a.req.port = true → s.interp.restart = none →
        Answers s t a.req 0x2803 0 0 (timeBytes s.ptp ++ [0#8])) ∧
  (∀ (p : Fin 8) (v : Fin 4) (k : CsiLong) (c : Nat) (f : RawFrame) (s : State), (s.cport p).enabled = true → k.hdrOk = true → s.camOf p v = some c →
    (s.cctx c).writing = some f → k.dataType = f.cfg.u8 4 → k.dataType ≠ 0x12 → k.crcOk = true →
    let w := cW f.cfg
    let n := cBits (f.cfg.u8 4)
    k.count = w * n / 8 →
    ∃ t, exec (.csiLongPacket p v k) s = .next t ∧ (t.cctx c).writing.map (fun g => (g.start, g.count, g.flags)) = some (f.start, f.count + 1, f.flags) ∧
      (t.cctx c).writing.map (fun g => g.lines) = some (if f.count < cH f.cfg then f.lines ++ [fitLine w n k.samples] else f.lines)) ∧
  (∀ (p : Fin 8) (v : Fin 4) (c : Nat) (f : RawFrame) (s : State), (s.cport p).enabled = true → s.camOf p v = some c → (s.cctx c).writing = some f → f.cfg = (s.cctx c).cfg →
    (s.pipe (p.val / 4)).started ≠ s.now →
    ∃ t, exec (.csiFrameEnd p v) s = .next t ∧ (t.cctx c).writing = none ∧
      if f.count < cH f.cfg then t.regBits .CAM_CTX_WITHHELD c 31 16 = min 65535 (s.regBits .CAM_CTX_WITHHELD c 31 16 + 1) ∧
        (t.cctx c).waiting = (s.cctx c).waiting
      else if (s.pipe (p.val / 4)).busy.isSome then ∃ g, (t.cctx c).waiting = some g ∧ g.start = f.start ∧ g.lines = f.lines ∧ g.closed = s.now
      else (∀ d, d ≠ c → (s.cctx d).waiting = none) → (t.pipe (p.val / 4)).busy = some c ∧ ∃ g, (t.cctx c).processing = some g ∧ g.start = f.start ∧ g.lines = f.lines) ∧
  (∀ (c : Fin 16) (clockGone : Bool) (s : State), (s.cctx c).bound = true → ∃ t, exec (.camLosTimeout c clockGone) s = .next t ∧
    let k := cPort (s.cctx c).cfg
    (((s.cctx c).lastFs + (s.cctx c).cfg.u16 24 * 1000000 ≤ s.now ∨ clockGone = true ∨ (s.cport k).enabled = false ∨ (s.cport k).clock = false) →
      (t.cctx c).los = true ∧ (t.cctx c).writing = none) ∧
    (clockGone = true → (s.cport k).enabled = true → (t.cport k).clock = false ∧
      ∀ d, d < 16 → (s.cctx d).bound = true → cPort (s.cctx d).cfg = k → (t.cctx d).los = true ∧ (t.cctx d).writing = none)) ∧
  (∀ (q : Fin 2) (bad : Bool) (c : Nat) (f : RawFrame) (s : State), (s.pipe q).busy = some c → (s.cctx c).processing = some f →
    (s.pipe q).started + pipeNs f.cfg ≤ s.now →
    ∃ t, exec (.pipeFrameDone q bad) s = .next t ∧
      if bad = true ∧ (s.pipe q).retried = false then
        t.pipe q = { (s.pipe q) with retried := true, started := s.now } ∧ Logs s t (25 + q) fcRETRY 0 ∧
          t.getReg .CAM_PIPE_RETRY q = (s.bumpSat .CAM_PIPE_RETRY q).getReg .CAM_PIPE_RETRY q
      else t.getReg .CAM_PIPE_FRAMES q = s.getReg .CAM_PIPE_FRAMES q + 1 ∧
        if bad = true then Logs s t (25 + q) fcRETRY 1 ∧ (∀ d ∈ s.pipeCtxs q, (t.pool (poolCam d)).writerFault = true) ∧
          t.getReg .CAM_CTX_FRAMES c = s.getReg .CAM_CTX_FRAMES c
        else ∀ a i, c < 16 → (s.pipe q).colour = some a → (s.pool (poolCam c)).surfs.findIdx? (fun g => g.addr == a) = some i →
          (t.pool (poolCam c)).newestIdx = some i ∧
          (t.pool (poolCam c)).nextSeq = ((s.pool (poolCam c)).nextSeq + 1) % 2 ^ 32 ∧ t.getReg .CAM_CTX_FRAMES c = s.getReg .CAM_CTX_FRAMES c + 1 ∧
          ((t.pool (poolCam c)).surf i).lines = pipeColour f.cfg f ∧
            ∃ hd, ((t.pool (poolCam c)).surf i).header = some hd ∧ hd.tag.time = f.start % (2 ^ 30 * 1000000000) ∧ hd.tag.basis = 2 ∧
              hd.tag.sourceId = (s.pool (poolCam c)).sourceId ∧ hd.tag.seq = (s.pool (poolCam c)).nextSeq ∧ hd.tag.flags = f.flags ∧ hd.done = s.ptp)

/-- O46. Camera commands configure ports, arm parameters and defects and place the ring; contexts of both kinds bind (05_camera_pipes.md (R194, R196, R197, R199, R201, R209 to R211, R220); 04_ingest.md (R169, R170, R186)). -/
def Obligations.CameraCommandsAndBindingsTakeEffect : Prop :=
  (∀ (r : Req) (b : Body) (s : State), Ready s r 0x2801 [48] → b.length = 8 → b.u8 0 ≤ 7 → b.u8 1 ≤ 1 → b.u8 2 ≤ 1 →
    (if b.u8 2 = 0 then b.u8 3 ∈ [1, 2, 4] else 1 ≤ b.u8 3 ∧ b.u8 3 ≤ 3) → 80 ≤ b.u16 4 → b.u16 4 ≤ (if b.u8 2 = 0 then 4500 else 6000) → b.zero 6 2 = true →
    ∃ t, exec (.camPort r b) s = .next t ∧
      if b.u8 1 = 1 ∧ portOver (portBits (s.camBindings.map (fun e => e.2)) (b.u8 0)) b = true then Answers s t r 0x2801 7 rBANDWIDTH [] ∧ t.cam = s.cam
      else Answers s t r 0x2801 0 0 [] ∧ (t.cport (b.u8 0)).enabled = (b.u8 1 == 1) ∧ (t.cport (b.u8 0)).cfg = b ∧
        (b.u8 1 = 0 → ∀ c, c < 16 → (s.cctx c).bound = true → cPort (s.cctx c).cfg = b.u8 0 →
          (t.cctx c).los = true ∧ (t.cctx c).writing = none)) ∧
  (∀ (r : Req) (b : Body) (s : State), Ready s r 0x2803 [48] → camParamsBad s b = false →
    ∃ t a, exec (.camParams r b) s = .next t ∧ (t.cctx (b.u8 0)).armedSet = some a ∧ a.req = r ∧ a.body = b ∧
      (t.cctx (b.u8 0)).params = (s.cctx (b.u8 0)).params ∧ ((s.cctx (b.u8 0)).armedSet = none → t.out = s.out)) ∧
  (∀ (r : Req) (b : Body) (table : List Byte) (s : State), Ready s r 0x2804 [48] → b.length = 12 → b.u8 0 ≤ 15 → b.zero 1 1 = true → b.u16 2 ≤ 4096 →
    defectsOk (s.cctx (b.u8 0)).cfg table (b.u16 2) = true →
    ∃ t a, exec (.camDefects r b table) s = .next t ∧ (t.cctx (b.u8 0)).armedDef = some a ∧ a.req = r ∧ a.defects = defectSites table (b.u16 2) ∧
      ((s.cctx (b.u8 0)).armedDef = none → t.out = s.out)) ∧
  (∀ (r : Req) (b : Body) (s : State), Ready s r 0x2805 [48] → b.length = 12 → (b.u8 0 = 0 ∨ 4 ≤ b.u8 0 ∧ b.u8 0 ≤ 10) → b.zero 1 3 = true → b.u64 4 % 4096 = 0 →
    ∃ t, exec (.camStatsRing r b) s = .next t ∧ Answers s t r 0x2805 0 0 [] ∧ t.cam.ring.log2 = b.u8 0 ∧ t.cam.ring.addr = b.u64 4 ∧ t.cam.ring.port = r.port ∧
      t.getReg .CAM_STATS_WR 0 = 0#32 ∧ t.getReg .CAM_STATS_RD 0 = 0#32) ∧
  (∀ (r : Req) (b : Body) (s : State), Ready s r 0x2802 [48] → camBad s b = false →
    ∃ t, exec (.camContext r b) s = .next t ∧
      if 15 < b.u8 0 ∨ (s.stageCam b).isNone = true then Answers s t r 0x2802 5 0 []
      else match (if (b.u8 1 == 1 && !([0x2A, 0x2B, 0x2C].contains (b.u8 4))) = true then some rFORMAT else (s.conf.withCam b).reject s) with
        | some x => Answers s t r 0x2802 7 x [] ∧ t.cam = s.cam
        | none => Answers s t r 0x2802 0 0 [] ∧
          if (s.cctx (b.u8 0)).bound = true then (t.cctx (b.u8 0)).next = some b ∧ (t.cctx (b.u8 0)).cfg = (s.cctx (b.u8 0)).cfg
          else b.u8 1 = 1 → (t.cctx (b.u8 0)).bound = true ∧ (t.cctx (b.u8 0)).cfg = b) ∧
  (∀ (r : Req) (b : Body) (s : State), Ready s r 0x2002 [45] → ingBad s b = false →
    ∃ t, exec (.ingContext r b) s = .next t ∧
      if (s.stageIng b).isNone then Answers s t r 0x2002 5 0 []
      else match (s.conf.withIng b).reject s with
        | some x => Answers s t r 0x2002 7 x [] ∧ t.ing = s.ing
        | none => Answers s t r 0x2002 0 0 [] ∧
          if (s.ictx (b.u16 0)).bound = true ∧ (s.ictx (b.u16 0)).frames ≠ [] then
            (t.ictx (b.u16 0)).next = some b ∧ (t.ictx (b.u16 0)).cfg = (s.ictx (b.u16 0)).cfg
          else if b.u8 28 = 1 then (t.ictx (b.u16 0)).bound = true ∧ (t.ictx (b.u16 0)).cfg = b else (t.ictx (b.u16 0)).bound = false)

/-- O47. A paired device takes, hands over and yields duty exactly as the rules say, and watches the Seam link (15_duty_pair.md (R521 to R527, R529 to R531, R543)). -/
def Obligations.DutyIsTakenAndYieldedByTheRules : Prop :=
  (∀ (w : SeamWire) (cause : Nat) (s : State), s.paired = true → (w.ok0 = true ∨ w.ok1 = true) → w.inOrder = true →
    ∃ t, exec (.giveUpReceive w cause) s = .next t ∧
      if s.mayTakeDuty then t.onDuty = true ∧ t.pairState = 3 ∧ t.getReg .PAIR_TAKEOVERS 0 = s.getReg .PAIR_TAKEOVERS 0 + 1
      else t.onDuty = s.onDuty ∧ t.pairState = s.pairState) ∧
  (∀ (s : State), s.mayTakeDuty = true → s.pair.sawIn = true → (∀ t0, s.pair.inLow = some t0 → t0 + 1000000 ≤ s.now) → s.pair.inLow.isSome = true →
    (s.seamUp = false ∨ s.pair.partnerOut = false) →
    ∃ t, exec .dutyInLossTimeout s = .next t ∧ t.onDuty = true ∧ t.pairState = 3 ∧ t.getReg .PAIR_TAKEOVERS 0 = s.getReg .PAIR_TAKEOVERS 0 + 1) ∧
  (∀ (t0 : Nat) (s : State), s.pairState = 1 → s.mayTakeDuty = true → s.pair.inLow = some t0 → t0 + s.dutyWait ≤ s.now → s.pair.waitFrom + s.dutyWait ≤ s.now →
    (∀ t1, s.pair.partnerSeen = some t1 → t1 + s.dutyWait ≤ s.now) →
    ∃ t, exec .dutyWaitExpiry s = .next t ∧ t.onDuty = true ∧ t.pairState = 3 ∧ s.dutyWait = (if s.pairId then 150000000 else 50000000)) ∧
  (∀ (level : Bool) (s : State), s.regBit .PAIR_STATUS 0 24 = !level →
    ∃ t, exec (.dutyInChange level) s = .next t ∧ t.regBit .PAIR_STATUS 0 24 = level ∧
      if level = true ∧ s.onDuty = true ∧ s.pair.acked = true then t.onDuty = false ∧ t.pairState = 2 ∧ t.getReg .PAIR_HANDOVERS 0 = s.getReg .PAIR_HANDOVERS 0 + 1
      else t.onDuty = s.onDuty ∧ t.pairState = s.pairState) ∧
  (∀ (t0 : Nat) (s : State), s.paired = true → s.onDuty = true → s.pair.inHigh = some t0 → t0 + 1000000 ≤ s.now →
    ∃ t, exec .bothDutyTimeout s = .next t ∧ t.onDuty = !s.pairId ∧
      (s.pairId = true → t.pairState = (if s.seamUp && s.regBit .PAIR_STATUS 0 20 then 2 else 1) ∧
        t.getReg .PAIR_BOTH_DUTY 0 = (s.bumpSat .PAIR_BOTH_DUTY 0).getReg .PAIR_BOTH_DUTY 0)) ∧
  (∀ s : State, ∃ t, exec .dutyReadbackMismatch s = .next t ∧ Logs s t 40 0x20 1) ∧
  (∀ s : State, s.paired = true → s.pair.lastHb + 10000 ≤ s.now → ∃ t bytes, exec .seamHeartbeatSend s = .next t ∧ Sends s t (.seam 0 bytes) ∧ t.pair.lastHb = s.now) ∧
  (∀ (w : SeamWire) (m : Heartbeat) (s : State), s.paired = true → (w.ok0 = true ∨ w.ok1 = true) → w.inOrder = true → m.state < 8 →
    ∃ t, exec (.seamHeartbeatReceive w m) s = .next t ∧ t.regBits .PAIR_STATUS 0 28 26 = m.state ∧ t.regBit .PAIR_STATUS 0 20 = decide (m.crc = s.profileCrc) ∧
      t.regBit .PAIR_STATUS 0 19 = decide (m.gm = s.gmId) ∧ t.seamUp = true ∧ t.pair.lastRec = s.now ∧ t.pair.conflict = (m.pairId == s.pairId) ∧ t.pair.partnerCrc = m.crc) ∧
  (∀ s : State, s.seamUp = true → s.pair.lastRec + 100000 ≤ s.now → ∃ t, exec .seamDownTimeout s = .next t ∧ t.seamUp = false) ∧
  (∀ (t0 : Nat) (s : State), s.pair.diffSince = some t0 → t0 + 1000000000 < s.now → s.pair.diffTold = false →
    ∃ t, exec .profileDiffTimeout s = .next t ∧ t.pair.diffTold = true ∧ (Listens s .A 0x7806 → Raises s t .A 0x7806))

/-- O48. Records of the Seam link mirror latches, decisions, frames, coded rows and key requests, and carry handover and snapshot (15_duty_pair.md (R530 to R532, R534, R537, R539); 07_encoder.md (R299, R300); 03_liveness.md (R143)). -/
def Obligations.SeamRecordsMirrorTheDuty : Prop :=
  (∀ (w : SeamWire) (h : Fin 24) (m : LatchRecord) (s : State), s.paired = true → (w.ok0 = true ∨ w.ok1 = true) → w.inOrder = true → s.onDuty = false → s.running h = true →
    ∃ t, exec (.latchRecordReceive w h m) s = .next t ∧
      t.getReg .PAIR_GRID_ERR h = BitVec.ofInt 32 (clampInt (-2147483648) 2147483647 (((s.head h).flip : Int) - m.flip)) ∧
      ((s.head h).latchWait.isSome = true → (s.head h).gridK = m.k → (t.head h).latchWait = none ∧
        ∀ l seq, l < 8 → m.seqs = [(l, seq)] → ((s.head h).layer l).still = false → ((s.head h).layer l).surf = none →
          (∀ f ∈ (s.pool ((s.head h).layer l).pool).surfs, ∀ hd, f.header = some hd → hd.tag.seq ≠ seq) →
          ((t.head h).layer l).miss = true ∧ t.getReg .PAIR_LATCH_MISS h = (s.bumpSat .PAIR_LATCH_MISS h).getReg .PAIR_LATCH_MISS h)) ∧
  (∀ (h : Fin 24) (t0 : Nat) (s : State), (s.head h).latchWait = some t0 → t0 + 10000 ≤ s.now →
    ∃ t, exec (.latchWaitTimeout h) s = .next t ∧ (t.head h).latchWait = none ∧ t.getReg .PAIR_LATCH_MISS h = (s.bumpSat .PAIR_LATCH_MISS h).getReg .PAIR_LATCH_MISS h ∧
      ∀ l, l < 8 → ((s.head h).shadow l).on = true → ((t.head h).layer l).miss = true) ∧
  (∀ (w : SeamWire) (h : Fin 24) (l : Fin 8) (glyph checks frame : Nat) (v : Verdict) (s : State), s.paired = true → (w.ok0 = true ∨ w.ok1 = true) → w.inOrder = true →
    s.isStandby = true → (s.head h).frame = some frame → ((s.head h).layer l).own = some v → ((s.head h).layer l).settled = false →
    ((s.head h).layer l).mirror = none →
    ∃ t, exec (.decisionRecordReceive w h l glyph checks frame) s = .next t ∧ ((t.head h).layer l).settled = true ∧
      if s.decisionLate h l = true then ((t.head h).layer l).drawn.1 = v.glyph ∧ ((t.head h).layer l).miss = true
      else ((t.head h).layer l).drawn.1 = (if glyph = 0 then v.glyph else glyph)) ∧
  (∀ (w : SeamWire) (h : Fin 24) (frame crc own : Nat) (s : State), s.paired = true → (w.ok0 = true ∨ w.ok1 = true) → w.inOrder = true → s.onDuty = false →
    (s.head h).crcOwn.find? (fun e => e.1 == frame) = some (frame, own) →
    ∃ t, exec (.frameCrcReceive w h frame crc) s = .next t ∧
      if own = crc then t.regBits .PAIR_HEAD_STAT h 29 24 = min 63 (s.regBits .PAIR_HEAD_STAT h 29 24 + 1) ∧ t.getReg .PAIR_FCRC_DIFF h = s.getReg .PAIR_FCRC_DIFF h
      else t.regBits .PAIR_HEAD_STAT h 29 24 = 0 ∧ t.getReg .PAIR_FCRC_DIFF h = (s.bumpSat .PAIR_FCRC_DIFF h).getReg .PAIR_FCRC_DIFF h) ∧
  (∀ (w : SeamWire) (c : Fin 16) (m : EncMirror) (s : State), s.paired = true → (w.ok0 = true ∨ w.ok1 = true) → w.inOrder = true → s.isStandby = true →
    ∃ t, exec (.encPictureReceive w c m) s = .next t ∧ (t.chan c).mirror.head? = some m) ∧
  (∀ (w : SeamWire) (c : Fin 16) (m : EncRowMirror) (s : State), s.paired = true → (w.ok0 = true ∨ w.ok1 = true) → w.inOrder = true → s.isStandby = true →
    ∃ t, exec (.encRowReceive w c m) s = .next t ∧ (t.chan c).mirrorRows.head? = some m ∧
      (t.chan c).mirrorSeq = (if m.crc.isSome then (m.first + m.count + 65535) % 65536 else (s.chan c).mirrorSeq)) ∧
  (∀ (w : SeamWire) (mask cause type : Nat) (s : State), s.paired = true → (w.ok0 = true ∨ w.ok1 = true) → w.inOrder = true → s.onDuty = true → s.isStandby = false →
    ∃ t, exec (.keyReqReceive w mask cause type) s = .next t ∧ ∀ c ∈ maskBits mask 16, (s.chan c).bound = true →
      if cause = 3 then (if s.regBits .PAIR_CFG 0 15 0 = 0 then (t.chan c).latch = (s.chan c).latch ++ [{ cause := 3, type := 0, time := s.ptp }]
        else (t.chan c).heldKey = some ((s.chan c).heldKey.getD (s.ptp + s.regBits .PAIR_CFG 0 15 0 * 1000000)))
      else (t.chan c).latch = (s.chan c).latch ++ [{ cause := cause, type := type, time := s.ptp }]) ∧
  (∀ (w : SeamWire) (k : Nat) (s : State), s.paired = true → (w.ok0 = true ∨ w.ok1 = true) → w.inOrder = true → s.isStandby = true →
    ∃ t, exec (.handoverReceive w k) s = .next t ∧ t.pair.handover = some k ∧ Sends s t (.seam 9 (leBytes 6 k ++ leBytes 4 (crc32c (leBytes 6 k)).toNat))) ∧
  (∀ (w : SeamWire) (k : Nat) (s : State), s.paired = true → (w.ok0 = true ∨ w.ok1 = true) → w.inOrder = true → s.onDuty = true → s.pair.handover = some k →
    ∃ t, exec (.handoverAckReceive w k) s = .next t ∧ t.pair.acked = true) ∧
  (∀ (w : SeamWire) (s : State), s.paired = true → (w.ok0 = true ∨ w.ok1 = true) → w.inOrder = true → s.onDuty = true → s.pair.partnerCrc = s.profileCrc →
    ∃ t, exec (.snapshotRequestReceive w) s = .next t ∧ Sends s t (.seam 10 (s.snapshotBytes ++ leBytes 4 (crc32c s.snapshotBytes).toNat))) ∧
  (∀ (w : SeamWire) (m : Snapshot) (s : State), s.paired = true → (w.ok0 = true ∨ w.ok1 = true) → w.inOrder = true → s.pairState = 1 →
    ∃ t, exec (.snapshotReceive w m) s = .next t ∧ t.pairState = 2 ∧ t.onDuty = s.onDuty ∧
      (∀ h f, m.frames = [(h, f)] → (t.head h).adopt = some ((f + 1) % 2 ^ 48)) ∧ ∀ c n e, m.chans = [(c, n, e)] → (s.chan c).bound = true → (t.chan c).pic = n ∧ (t.chan c).mirror.head? = some e) ∧
  (∀ (t0 : Nat) (s : State), s.pairState = 1 → s.paired = true → 3 ≤ s.pair.snapFails → s.pair.snapAt = some t0 → t0 + 1000000000 ≤ s.now →
    ∃ t, exec .snapshotRetry s = .next t ∧ Sends s t (.seam 11 (leBytes 4 (crc32c []).toNat)) ∧ t.pair.snapAt = some s.now)

/-- O49. PAIR_CONFIG starts and ends pairing, PAIR_SWITCH gives up or hands over, PAIR_DRILL drills a standby's heads (15_duty_pair.md (R523, R525, R526, R530, R533, R537, R538, R542)). -/
def Obligations.PairCommandsTakeEffect : Prop :=
  (∀ (r : Req) (b : Body) (s : State), Ready s r 0x7801 [47] → b.length = 20 → b.u8 0 ≤ 1 → b.u8 1 = 0 → b.u16 2 ≤ 60000 → (b.u8 0 = 0 → s.pairState ≤ 1) →
    (∀ h, h < 24 → (s.rasterOf h).isEmpty = true ∨ tFlag (s.rasterOf h) 0 = false ∨ (20000 : ℚ) ≤ ((tVnom (s.rasterOf h) : ℚ) - 1) * tTl (s.rasterOf h)) →
    ∃ t, exec (.pairConfig r b) s = .next t ∧ Answers s t r 0x7801 0 0 [] ∧ t.paired = (b.u8 0 == 1) ∧ t.regBits .PAIR_CFG 0 15 0 = b.u16 2 ∧
      (∀ k, k < 4 → (t.getReg .PAIR_AUD_MASK k).toNat = b.u32 (4 + 4 * k)) ∧
      (b.u8 0 = 1 → s.pairState = 0 → t.pairState = 1 ∧ t.onDuty = false) ∧ (b.u8 0 = 0 → s.pairState = 1 → t.pairState = 0)) ∧
  (∀ (r : Req) (b : Body) (s : State), Ready s r 0x7802 [47] → b.length = 4 → b.u8 0 ≤ 1 → b.zero 1 3 = true →
    ∃ t, exec (.pairSwitch r b) s = .next t ∧
      if s.onDuty = false then Answers s t r 0x7802 11 0 []
      else if b.u8 0 = 1 then Answers s t r 0x7802 0 0 (timeBytes s.ptp) ∧ t.onDuty = false ∧ t.pairState = (if s.regBit .FLT_STATUS 0 28 then 5 else 4)
      else if s.paired = false ∨ s.seamUp = false ∨ s.fastest = none then Answers s t r 0x7802 7 rNOPARTNER []
      else t.onDuty = true ∧ (∀ f, s.fastest = some f → s.pair.handover = none → t.pair.handover = some ((s.head f).gridK + 2) ∧
        Sends s t (.seam 8 (leBytes 6 ((s.head f).gridK + 2) ++ leBytes 4 (crc32c (leBytes 6 ((s.head f).gridK + 2))).toNat))) ∧ ∃ w ∈ t.pair.switchReqs, w.req = r) ∧
  (∀ (r : Req) (b : Body) (s : State), Ready s r 0x7803 (47 :: (maskBits (b.le 0 3) 24).map scopeHead) → b.length = 8 → b.le 0 3 ≠ 0 → b.u8 3 = 0 → 1 ≤ b.u8 4 → b.u8 4 ≤ 60 →
    1 ≤ b.u8 5 → b.u8 5 ≤ 60 → b.zero 6 2 = true →
    ∃ t, exec (.pairDrill r b) s = .next t ∧
      if s.isStandby = false then Answers s t r 0x7803 7 rONDUTY []
      else ∀ h ∈ maskBits (b.le 0 3) 24, s.running h = true → s.gangMember h = false → s.isVirtual h = false → s.pair.drill = none →
        t.out = s.out ∧ t.regBit .PAIR_STATUS 0 18 = true ∧ (t.head h).drillPhase = 1 ∧ (t.head h).drillHold = b.u8 4 ∧ (t.head h).drillHatch = b.u8 5 ∧
        ∃ w, t.pair.drill = some w ∧ w.req = r ∧ h ∈ w.heads)

/-- O50. Touch commands configure a front-end, give its reference, map, ring and noise control, and request rebase, test and snapshot (12_touch.md (R438, R441, R444, R447, R451 to R453, R458, R459)). -/
def Obligations.TouchCommandsTakeEffect : Prop :=
  (∀ (r : Req) (b : Body) (s : State), Ready s r 0x6001 [51] → tchConfigBad b = false →
    let f := b.u8 0
    let old := (s.tfe f).next.getD (s.tfe f).cfg
    let same := !old.isEmpty && tcSelf old == tcSelf b && (old.drop 4).take 24 == (b.drop 4).take 24
    ∃ t, exec (.tchConfig r b) s = .next t ∧
      if tcOn b = true ∧ (same = false ∨ (s.tfe f).table = []) then Answers s t r 0x6001 9 0 [] ∧ t.tch = s.tch
      else Answers s t r 0x6001 0 0 [] ∧
        if s.tfeOn f then (t.tfe f).next = some b ∧ (t.tfe f).cfg = (s.tfe f).cfg
        else (t.tfe f).cfg = b ∧ t.tfeOn f = tcOn b ∧ (t.tfe f).nodes.length = tcNodes b ∧ (t.tfe f).contacts = [] ∧
          (t.tfe f).capture = if tcOn b then some (0, List.replicate (tcNodes b) 0) else none) ∧
  (∀ (r : Req) (b : Body) (table : List Byte) (s : State), Ready s r 0x6002 [51] → b.length = 12 → b.u8 0 ≤ 1 → b.zero 1 1 = true → b.u16 2 ≠ 0 →
    b.u16 2 = tcNodes (s.tfe (b.u8 0)).cfg → s.tfeOn (b.u8 0) = false →
    ∃ t, exec (.tchReference r b table) s = .next t ∧ Answers s t r 0x6002 0 0 [] ∧
      (t.tfe (b.u8 0)).table = (List.range (b.u16 2)).map (fun i => Body.u16 table (2 * i))) ∧
  (∀ (r : Req) (b : Body) (s : State), Ready s r 0x6003 [51] → tchMapBad b = false →
    ∃ t, exec (.tchMap r b) s = .next t ∧ Answers s t r 0x6003 0 0 [] ∧
      if s.tfeOn (b.u8 0) then (t.tfe (b.u8 0)).nextMap = some b else (t.tfe (b.u8 0)).map = if b.u8 1 = 0xFF then [] else b) ∧
  (∀ (r : Req) (b : Body) (s : State), Ready s r 0x6004 [51] → b.length = 12 → (b.u8 0 = 0 ∨ 6 ≤ b.u8 0 ∧ b.u8 0 ≤ 12) → b.zero 1 3 = true → b.u64 4 % 4096 = 0 →
    ∃ t, exec (.tchRing r b) s = .next t ∧ Answers s t r 0x6004 0 0 [] ∧
      let g : HostRing := { log2 := b.u8 0, addr := b.u64 4, port := r.port }
      if s.tfeOn 0 = true ∨ s.tfeOn 1 = true then t.tch.nextRing = some g
      else t.tch.ring = g ∧ t.getReg .TCH_RING_WR 0 = 0#32 ∧ t.getReg .TCH_RING_RD 0 = 0#32) ∧
  (∀ (r : Req) (b : Body) (s : State), Ready s r 0x6005 [51] → b.length = 4 → b.u8 0 ≤ 1 → b.u8 1 ≤ 2 → b.zero 2 2 = true →
    ∃ t, exec (.tchNoiseMode r b) s = .next t ∧ Answers s t r 0x6005 0 0 [] ∧
      if s.tfeOn (b.u8 0) then (t.tfe (b.u8 0)).nextCtl = some (b.u8 1) else t.regBits .TCH_FE_STAT (b.u8 0) 26 25 = b.u8 1) ∧
  (∀ (r : Req) (b : Body) (s : State), Ready s r 0x6006 [51] → b.length = 8 → b.u8 0 ≤ 1 → b.u8 1 ≤ 1 → b.zero 6 2 = true →
    (b.u16 4 = 0 ∨ b.u16 2 + b.u16 4 ≤ tcNodes (s.tfe (b.u8 0)).cfg) →
    let n := (s.tfe (b.u8 0)).nodes.length
    let first := if b.u16 4 = 0 then 0 else b.u16 2
    let past := if b.u16 4 = 0 then n else min n (b.u16 2 + b.u16 4)
    ∃ t, exec (.tchRebase r b) s = .next t ∧
      if s.tfeOn (b.u8 0) then t.out = s.out ∧ ∃ c, (t.tfe (b.u8 0)).rebases = (s.tfe (b.u8 0)).rebases ++ [c] ∧ c.req = r ∧ c.body = b
      else (s.tfe (b.u8 0)).contacts = [] → Answers s t r 0x6006 0 0 (leBytes 2 (past - first) ++ leBytes 2 0) ∧
        ∀ i, i < n → let z := (t.tfe (b.u8 0)).nodes.getD i default
          if first ≤ i ∧ i < past then z.base = z.raw ∧ z.suspect = false else z = (s.tfe (b.u8 0)).nodes.getD i default) ∧
  (∀ (r : Req) (b : Body) (table : List Byte) (s : State), Ready s r 0x6007 [51] → b.length = 12 → b.u8 0 ≤ 1 → b.zero 1 3 = true → s.tfeOn (b.u8 0) = true →
    (s.tfe (b.u8 0)).capture = none →
    ∃ t u, exec (.tchSelftest r b table) s = .next t ∧ t.out = s.out ∧ (t.tfe (b.u8 0)).tests = (s.tfe (b.u8 0)).tests ++ [u] ∧ u.req = r ∧ u.left = 16 ∧ u.limits = table) ∧
  (∀ (f : Fin 2) (u : SelfTest) (s : State), (s.tfe f).tests.find? (fun u => u.left == 0) = some u → s.evtEn u.req.port = true → s.interp.restart = none →
    ∃ t, exec (.tchSelftestComplete f) s = .next t ∧ u ∉ (t.tfe f).tests ∧
      let verdict := fun (c : Nat) => match channelSum (s.tfe f).cfg u.sums c with
        | none => 0
        | some (m, k) => if u.frozen.elem c then 3 else if m < k * Body.u16 u.limits (4 * c) then 1 else if k * Body.u16 u.limits (4 * c + 2) < m then 2 else 0
      let mask := fun (v : Nat) => leBytes 12 (bitsMask ((List.range 96).filter (fun c => verdict c == v)))
      Answers s t u.req 0x6007 0 0 (mask 1 ++ mask 2 ++ mask 3)) ∧
  (∀ (r : Req) (b : Body) (s : State), Ready s r 0x6008 [] → b.length = 16 → b.u8 0 ≤ 1 → b.zero 1 3 = true → 8 * tcNodes (s.tfe (b.u8 0)).cfg ≤ b.u32 12 →
    ∃ t, exec (.tchSnapshot r b) s = .next t ∧
      if s.tfeOn (b.u8 0) then t.out = s.out ∧ ∃ c, (t.tfe (b.u8 0)).snaps = (s.tfe (b.u8 0)).snaps ++ [c] ∧ c.req = r ∧ c.body = b
      else Answers s t r 0x6008 9 0 [])

/-- O51. Scan frames start on the 240 Hz grid, capture baselines or find touched nodes, and their reports reach the ring (12_touch.md (R441 to R445, R447, R449, R453 to R458)). -/
def Obligations.TouchFramesAreScannedAndReported : Prop :=
  (∀ (f : Fin 2) (s : State), s.tfeOn f = true → (s.tfe f).running = false → scanAt (s.tfe f).nextK ≤ s.ptp → (s.tfe f).next = none →
    ∃ t, exec (.scanFrameStart f) s = .next t ∧ (t.tfe f).running = true ∧ (t.tfe f).k = (s.tfe f).nextK ∧ (t.tfe f).tk = (s.tfe f).nextK * 1000000000 / 240 ∧
      (t.tfe f).nextK = (s.tfe f).nextK + 1 ∧ t.getReg .TCH_FE_FRAMES f = s.getReg .TCH_FE_FRAMES f + 1) ∧
  (∀ (f : Fin 2) (raw noise : List (BitVec 16)) (s : State), let x := s.tfe f
    s.tfeOn f = true → x.running = true → x.tk + 3750000 ≤ s.ptp →
    ∃ t, exec (.scanFrameProcess f raw noise) s = .next t ∧ (t.tfe f).running = false ∧ (t.tfe f).nodes.length = x.nodes.length ∧
      (∀ sums, x.capture = some (7, sums) → sums.length = x.nodes.length → (t.tfe f).capture = none ∧ ∀ i, i < x.nodes.length →
        let z := (t.tfe f).nodes.getD i default
        z.base = ((sums.getD i 0 + (raw.getD i 0#16).toNat + 4) / 8 : Nat) ∧ z.refv = (x.table.getD i 0 : Nat) ∧ (z.suspect = true ↔ (x.cfg.u16 34 : Int) < |z.base - z.refv|)) ∧
      (x.capture = none → x.moved = false → ∀ i, i < x.nodes.length →
        let z := x.nodes.getD i default
        let v := valS (tcSelf x.cfg) { z with raw := ((raw.getD i 0#16).toNat : Nat) }
        let gain := if s.tfeNoise f then x.cfg.u8 38 else 16
        (((t.tfe f).nodes.getD i default).touched = true ↔ (((if z.touched then x.cfg.u16 30 else x.cfg.u16 28) * gain : Nat) : Int) ≤ 16 * v)) ∧
      (∀ c, x.snaps = [c] → c.live = true → s.evtEn c.req.port = true → s.interp.restart = none → (t.tfe f).snaps = [] ∧
        Answers s t c.req 0x6008 0 0 (leBytes 4 x.k ++ leBytes 2 x.nodes.length))) ∧
  (∀ (f : Fin 2) (r : TReport) (rest : List TReport) (s : State), let x := s.tfe f
    x.reports = r :: rest → x.map.isEmpty = false → r.ts + 2100000 ≤ s.ptp → (∀ e ∈ r.entries ++ r.heldOnly, (s.provOf f r.ts e.con).isSome = true) →
    let g := s.tch.ring
    let w := s.regBits .TCH_RING_WR 0 11 0
    g.log2 ≠ 0 → (x.sent.filter (fun t => decide (s.now < t + 1000000000))).length < 240 → g.full = false →
    ∃ t, exec (.touchReportWrite f) s = .next t ∧ (t.tfe f).reports = rest ∧ t.getReg .TCH_FE_REPORTS f = s.getReg .TCH_FE_REPORTS f + 1 ∧
      Sends s t (.dma g.port (g.addr + w * 512) (r.bytes f (x.map.u8 1) g.phase x.skipped
        (r.entries.map (fun e => entryBytes r.ts e ((s.provOf f r.ts e.con).getD {}))))))

/-- O52. Clock and reference commands configure, step, select and phase as their tables say (10_time_references.md (R385, R386, R388, R391, R393, R397 to R402, R405, R407, R410, R415)). -/
def Obligations.ClockAndReferenceCommandsTakeEffect : Prop :=
  (∀ (r : Req) (b : Body) (s : State), Ready s r 0x5001 [46] → b.length = 20 → b.u8 0 ≤ 127 → 2 ≤ b.u8 1 → b.u8 1 ≤ 10 → 1 ≤ b.u16 2 → b.u16 2 ≤ 500 →
    10 ≤ b.u32 4 → b.u32 4 ≤ 10000 → 1 ≤ b.u16 8 → b.u16 8 ≤ 600 → b.zero 10 2 = true → 1 ≤ b.u32 12 → b.u32 12 ≤ 10000000 → b.u32 16 < 2 ^ 17 →
    ∃ t, exec (.tmPtpConfig r b) s = .next t ∧ Answers s t r 0x5001 0 0 [] ∧ t.tm.cfg = b ∧ t.regBits .TM_STATUS 0 15 8 = b.u8 0 ∧
      ((s.tm.cfg.isEmpty ∨ s.tm.cfg.u8 0 ≠ b.u8 0 ∨ s.tm.cfg.u32 16 ≠ b.u32 16) → t.slavePort = 31 ∧ t.servo = (if s.stepped then 4 else 0) ∧
        ∀ p, p < 17 → t.ptpOn p = (b.u32 16).testBit p ∧ t.regBits .TM_PORT_STAT p 23 20 = (if (b.u32 16).testBit p then 4 else 3))) ∧
  (∀ (r : Req) (b : Body) (s : State), Ready s r 0x5002 [46] → b.length = 24 → b.u8 0 ≤ 16 → b.u8 1 ≤ 1 → b.u8 2 ≤ 1 → b.u8 3 ≤ 63 → b.zero 10 2 = true →
    -1000000 ≤ b.sle 12 4 → b.sle 12 4 ≤ 1000000 → b.zero 22 2 = true →
    ∃ t, exec (.tmPort r b) s = .next t ∧ Answers s t r 0x5002 0 0 [] ∧ t.regBit .TM_PORT_STAT (b.u8 0) 30 = (b.u8 1 == 1) ∧
      t.regBit .TM_PORT_STAT (b.u8 0) 29 = (b.u8 2 == 1) ∧ t.getReg .TM_PORT_ASYM (b.u8 0) = BitVec.ofInt 32 (b.sle 12 4)) ∧
  (∀ (r : Req) (b : Body) (s : State), Ready s r 0x5003 [0] → b.length = 16 → b.u8 0 = 1 → b.zero 1 3 = true → b.u32 4 = 0 → b.sle 8 8 ≠ 0 →
    (b.sle 8 8).natAbs ≤ 2 ^ 28 * sec → s.stepped = true →
    ∃ t, exec (.tmStep r b) s = .next t ∧ t.tm.ptp = s.tm.ptp.step s.now (b.sle 8 8) ∧ Answers s t r 0x5003 0 0 (timeBytes t.ptp ++ sleBytes 8 (b.sle 8 8)) ∧
      t.getReg .TM_STEPS 0 = s.getReg .TM_STEPS 0 + 1 ∧ t.getReg .TM_STEP_SEC 0 = BitVec.ofNat 32 (t.ptp / sec) ∧
      t.getReg .TM_STEP_AMT_LO 0 = BitVec.ofInt 32 (b.sle 8 8) ∧ ∀ q, Listens s q 0x5003 → Raises s t q 0x5003) ∧
  (∀ (r : Req) (b : Body) (s : State), Ready s r 0x5003 [0] → b.length = 16 → b.u8 0 = 0 → b.zero 1 3 = true → b.u32 4 ≠ 0 → (secondsTo s.ptp (b.u32 4)).isSome = true →
    s.stepped = true → (s.servo = 2 ∨ s.servo = 3) →
    ∃ t c, exec (.tmStep r b) s = .next t ∧ t.out = s.out ∧ t.tm.ptp = s.tm.ptp ∧ t.tm.steps = s.tm.steps ++ [c] ∧ c.req = r ∧ c.atSec = b.u32 4 ∧ c.mode = 0) ∧
  (∀ (s : State) (c : StepCmd), s.tm.steps.find? (fun c => (secondsTo s.ptp c.atSec).isNone) = some c → s.evtEn c.req.port = true → s.interp.restart = none →
    let a := s.stepAmount c.mode c.amount
    ∃ t, exec .ptpStepApply s = .next t ∧ t.tm.ptp = s.tm.ptp.step s.now a ∧ t.tm.steps = s.tm.steps.erase c ∧
      Answers s t c.req 0x5003 0 0 (timeBytes t.ptp ++ sleBytes 8 a)) ∧
  (∀ (r : Req) (b : Body) (s : State), let i := b.u8 0
    Ready s r 0x5010 [46] → b.length = 16 → i ≤ 4 → b.u8 1 ≤ 1 → b.u8 3 ≤ 7 → b.zero 5 3 = true →
    (i ≠ 0 → 1 ≤ b.u8 2 ∧ b.u8 2 ≤ 4 ∧ b.u8 4 ≤ 1 ∧ b.u32 8 ≤ 100000000 ∧
      (b.u8 2 = 4 → b.u16 14 ≠ 0 ∧ 24000 * b.u16 14 ≤ b.u16 12 * 1001 ∧ b.u16 12 ≤ 120 * b.u16 14)) →
    let cfg : Word := BitVec.ofNat 32 (b.u8 1 * 2 ^ 31 + (if i = 0 then 0 else b.u8 2 * 2 ^ 28) + b.u8 3 * 2 ^ 25 + (if i = 0 then 0 else b.u8 4 * 2 ^ 24))
    let delay : Word := BitVec.ofNat 32 (if i = 0 then 0 else b.u32 8)
    let rate : Word := BitVec.ofNat 32 (if i = 0 ∨ b.u8 2 ≠ 4 then 0 else b.u16 12 * 2 ^ 16 + b.u16 14)
    ∃ t, exec (.refConfig r b) s = .next t ∧ Answers s t r 0x5010 0 0 [] ∧ t.getReg .REF_CFG i = cfg ∧ t.getReg .REF_DELAY i = delay ∧
      t.getReg .REF_RATE i = rate ∧
      if s.getReg .REF_CFG i = cfg ∧ s.getReg .REF_DELAY i = delay ∧ s.getReg .REF_RATE i = rate then t.tm = s.tm ∧ t.refQual i = s.refQual i
      else s.refOn i = true → t.refQual i = false) ∧
  (∀ (r : Req) (b : Body) (s : State), Ready s r 0x5011 [46] → b.length = 24 → 1 ≤ b.u16 0 → b.u16 0 ≤ 600 → 1 ≤ b.u16 2 → b.u16 2 ≤ 600 → 100 ≤ b.u32 4 →
    b.u32 4 ≤ 100000 → 10 ≤ b.u16 8 → b.u16 8 ≤ 600 → 1 ≤ b.u16 10 → b.u16 10 ≤ 60 → b.u8 12 ≤ 2 → 1 ≤ b.u8 13 → b.u8 13 ≤ 100 → b.zero 14 2 = true →
    100 ≤ b.u32 16 → b.u32 16 ≤ 50000 → 50 ≤ b.u32 20 → b.u32 20 ≤ 100000 →
    ∃ t, exec (.refDpll r b) s = .next t ∧ Answers s t r 0x5011 0 0 [] ∧ t.tm.dcfg = b) ∧
  (∀ (r : Req) (b : Body) (s : State), let m := b.u8 0
    Ready s r 0x5012 [46] → b.length = 4 → b.zero 1 3 = true → m ≤ 4 → s.refOn m = true → s.refQual m = true →
    ∃ t, exec (.refSelect r b) s = .next t ∧ t.manRef = m ∧ t.curRef = m ∧ t.regBit .REF_STATUS 0 22 = false ∧ t.tm.wtrAt = none ∧
      (s.curRef ≠ m → t.dpll = 1 ∧ t.getReg .REF_SWITCHES 0 = s.getReg .REF_SWITCHES 0 + 1) ∧
      Answers s t r 0x5012 0 0 [BitVec.ofNat 8 m, BitVec.ofNat 8 t.dpll]) ∧
  (∀ (r : Req) (b : Body) (s : State), Ready s r 0x5012 [46] → b.length = 4 → b.zero 1 3 = true → b.u8 0 = 0xFF →
    ∃ t, exec (.refSelect r b) s = .next t ∧ t.manRef = s.manRef ∧ t.regBit .REF_STATUS 0 22 = true ∧
      (if s.manRef = 7 ∨ s.dpll = 3 then t.curRef = s.curRef ∧ t.dpll = s.dpll else t.curRef = 7 ∧ t.dpll = 3) ∧
      Answers s t r 0x5012 0 0 [BitVec.ofNat 8 (if t.curRef = 7 then 0xFF else t.curRef), BitVec.ofNat 8 t.dpll]) ∧
  (∀ (r : Req) (b : Body) (s : State), Ready s r 0x5013 [46] → b.length = 8 → ((b.sle 0 8 - s.tm.ofsPs).natAbs : ℚ) ≤ s.phaseLimit →
    ∃ t, exec (.refPhase r b) s = .next t ∧ t.tm.ofsPs = b.sle 0 8 ∧ t.getReg .REF_PHASE_OFS_LO 0 = BitVec.ofInt 32 (b.sle 0 8) ∧
      Answers s t r 0x5013 0 0 (sleBytes 8 (if s.curRef < 5 && s.refPhase s.curRef then b.sle 0 8 - s.tm.ofsPs else 0)))

/-- O53. PTP messages are counted, measured and followed; the servo acquires, steps once, tracks, locks and holds (10_time_references.md (R385 to R387, R389 to R392, R399, R413, R415)). -/
def Obligations.ThePtpServoFollowsItsMaster : Prop :=
  (∀ (p : Fin 17) (m : PtpMsg) (s : State), s.ptpOn p = true →
    ∃ t, exec (.ptpMessageReceive p m) s = .next t ∧ t.getReg .TM_PORT_RX p = s.getReg .TM_PORT_RX p + 1 ∧
      (m.domain ≠ s.regBits .TM_STATUS 0 15 8 → s.getReg .TM_PORT_BAD p ≠ 0xFFFFFFFF#32 → t.getReg .TM_PORT_BAD p = s.getReg .TM_PORT_BAD p + 1 ∧ t.tm = s.tm)) ∧
  (∀ (p : Fin 17) (m m0 : PtpMsg) (u : Nat) (s : State), s.ptpOn p = true → s.ptpBad m = false → m.kind = 11 → m.steps < 255 → s.slavePort = 31 → s.servo = 0 →
    (∀ q, q < 17 → (s.ptpPort q).best = none) → (s.ptpPort p).heard = [(m0, u, none)] → m0.clock = m.clock → m0.srcPort = m.srcPort → s.now ≤ u + 4 * logNs m.logInterval →
    m.gm < 2 ^ 64 → m.cls < 256 →
    ∃ t, exec (.ptpMessageReceive p m) s = .next t ∧ t.slavePort = p ∧ t.servo = 1 ∧ t.regBits .TM_PORT_STAT p 23 20 = 8 ∧
      t.getReg .TM_GM_ID_LO 0 = BitVec.ofNat 32 (m.gm % 2 ^ 32) ∧ t.getReg .TM_GM_ID_HI 0 = BitVec.ofNat 32 (m.gm / 2 ^ 32) ∧ t.regBits .TM_STATUS 0 7 0 = m.cls ∧
      ∀ q, Listens s q 0x5002 → Raises s t q 0x5002) ∧
  (∀ (p : Fin 17) (m b : PtpMsg) (s : State), s.ptpOn p = true → s.ptpBad m = false → s.slavePort = p → (s.ptpPort p).best = some b → b.clock = m.clock → b.srcPort = m.srcPort →
    m.kind = 0 → m.twoStep = false →
    let off : Int := m.time * 65536 + m.correction + s.asymFine p + s.tm.mpd - s.rxFine p
    ((s.servo = 2 ∨ s.servo = 3 ∨ s.servo = 4) → ∃ t, exec (.ptpMessageReceive p m) s = .next t ∧ t.tm.meas = (s.rxFine p, off) :: s.tm.meas ∧
      t.regBits .TM_PORT_STAT p 23 20 = 9 ∧ t.tm.lastSync = s.now ∧ (s.servo = 4 → t.servo ≠ 4)) ∧
    (∀ (l : List Int), s.servo = 1 → l.Perm ((off :: s.tm.meas.map (fun e => e.2)).take 8) → l.length = 8 → l.Pairwise (· ≤ ·) → l.getD 7 0 - l.getD 0 0 ≤ 65536000 →
      ∃ t, exec (.ptpMessageReceive p m) s = .next t ∧ t.servo = 2 ∧ t.stepped = true ∧ t.getReg .TM_STEPS 0 = s.getReg .TM_STEPS 0 + 1 ∧
        t.getReg .TM_STEP_AMT_LO 0 = BitVec.ofInt 32 ((l.getD 3 0 + l.getD 4 0) / 131072) ∧ t.tm.ptp.fixAt s.now = s.tm.ptp.fixAt s.now + (l.getD 3 0 + l.getD 4 0) / 131072 * 2 ^ 48)) ∧
  (∀ (p : Fin 17) (m b : PtpMsg) (t2 c : Int) (s : State), s.ptpOn p = true → s.ptpBad m = false → s.slavePort = p → (s.ptpPort p).best = some b → b.clock = m.clock →
    b.srcPort = m.srcPort → m.kind = 8 → s.tm.sync = some (m.seq, t2, c) → s.servo = 2 →
    ∃ t, exec (.ptpMessageReceive p m) s = .next t ∧ t.tm.sync = none ∧ t.tm.meas = (t2, m.time * 65536 + (c + m.correction) + s.asymFine p + s.tm.mpd - t2) :: s.tm.meas) ∧
  (∀ (p : Fin 17) (m b : PtpMsg) (t3 : Int) (s : State), s.ptpOn p = true → s.ptpBad m = false → s.slavePort = p → (s.ptpPort p).best = some b → b.clock = m.clock →
    b.srcPort = m.srcPort → m.kind = 9 → s.tm.delayReq = some (m.seq, t3) →
    ∃ t, exec (.ptpMessageReceive p m) s = .next t ∧
      if m.reqClock = Config.clockId ∧ m.reqPort = p + 1 then
        t.tm.delayReq = none ∧ t.tm.mpd = ((s.tm.t12.2 - s.tm.t12.1) + (m.time * 65536 - m.correction - t3 + s.asymFine p)) / 2 ∧
          t.getReg .TM_MPD 0 = BitVec.ofNat 32 (t.tm.mpd / 65536).toNat
      else t.tm = s.tm) ∧
  (∀ (p : Fin 17) (m : PtpMsg) (s : State), s.servo ≠ 1 →
    (∃ t, exec (.ptpMessageReceive p m) s = .next t ∧ t.ptp = s.ptp) ∧ ∃ t, exec (.announceTimeout p) s = .next t ∧ t.ptp = s.ptp) ∧
  (∀ (s : State), s.slavePort ≤ 16 → (s.slavePort < 16 → s.flowFirst s.slavePort = none ∧ s.txFirst s.slavePort = false ∧ s.encFirst s.slavePort = none) →
    ∃ t x, exec .delayReqSend s = .next t ∧ Sends s t (.packet s.slavePort 30 x) ∧ t.tm.delayReq = some (s.tm.nextDelaySeq, s.txFine s.slavePort) ∧
      t.tm.nextDelaySeq = (s.tm.nextDelaySeq + 1) % 65536) ∧
  (∀ (p : Fin 17) (b m : PtpMsg) (u : Nat) (v : Option Nat) (s : State), s.ptpOn p = true → s.slavePort = p → (s.ptpPort p).best = some b → (s.ptpPort p).heard = [(m, u, v)] →
    m.clock = b.clock → m.srcPort = b.srcPort → (∀ q, q < 17 → q ≠ p → (s.ptpPort q).best = none) → (s.ptpPort p).lastAnn + s.annTimeout * logNs b.logInterval ≤ s.now →
    ∃ t, exec (.announceTimeout p) s = .next t ∧ t.slavePort = 31 ∧ (t.ptpPort p).best = none ∧ (s.servo ≤ 1 → s.stepped = false → t.servo = 0) ∧ (2 ≤ s.servo → t.servo = 4) ∧
      (s.servo = 3 → s.refOn 0 = true → t.refQual 0 = false)) ∧
  (∀ (u : Nat) (s : State), s.tm.inLock = some u → s.servo = 2 → u + s.tm.cfg.u16 8 * sec ≤ s.now →
    ∃ t, exec .servoLockDwellExpiry s = .next t ∧ t.servo = 3 ∧ (t.ref 0).alive = true ∧ ∀ q, Listens s q 0x5001 → Raises s t q 0x5001)

/-- O54. Edges, measurements, losses, qualification, wait-to-restore, locking and loss of the oscillator act on the references and the grid (10_time_references.md (R380, R381, R398 to R409, R414, R415)). -/
def Obligations.ReferencesQualifySwitchAndHold : Prop :=
  (∀ (i : Fin 5) (s : State), i ≠ 0 → s.refOn i = true → s.refType i = 1 → (s.ref i).lastEdge ≤ s.now → ((s.ref i).seen = true → 999000000 ≤ s.now - (s.ref i).lastEdge) →
    let g : Int := s.tm.gridFix s.now * 1000 / 2 ^ 48 - (s.getReg .REF_DELAY i).toNat
    ∃ (t : State) (e : Int), exec (.refEdge i) s = .next t ∧ -500000000000 < e ∧ e ≤ 500000000000 ∧ (g - s.tm.ofsPs + e) % 1000000000000 = 0 ∧
      (t.ref i).lastEdge = s.now ∧ (t.ref i).seen = true ∧ (s.curRef ≠ i → (t.ref i).errPs = e) ∧ t.getReg .REF_PHASE_ERR i = BitVec.ofInt 32 (e / 1000) ∧
      (s.curRef = i → (s.ref i).jumps = 3 → ((s.ref i).seen = true → s.now - (s.ref i).lastEdge ≤ 1001000000) → s.dplCfg.u32 20 * 1000 < e.natAbs →
        (t.ref i).errPs = 0 ∧ (t.ref i).jumps = 0 ∧ t.getReg .REF_LAST_STEP 0 = BitVec.ofInt 32 (e / 1000) ∧ ∀ q, Listens s q 0x5013 → Raises s t q 0x5013)) ∧
  (∀ (i : Fin 5) (s : State), i ≠ 0 → s.refOn i = true → (s.ref i).alive = true → s.refPhase i = false → s.getReg .REF_LOSS i ≠ 0xFFFFFFFF#32 →
    ∃ t, exec (.refLossDeclared i) s = .next t ∧ t.getReg .REF_LOSS i = s.getReg .REF_LOSS i + 1 ∧ (t.ref i).alive = false ∧ t.refQual i = false ∧
      (s.refQual i = true → s.curRef = i → s.manRef = i → s.regBit .REF_STATUS 0 22 = false →
        (∀ b : Fin 5, b ≠ i → (∀ j : Fin 5, j ≠ i → ((s.refOn j && s.refQual j) = true ↔ j = b)) →
          t.curRef = b ∧ t.dpll = 1 ∧ t.getReg .REF_SWITCHES 0 = s.getReg .REF_SWITCHES 0 + 1 ∧ ∀ q, Listens s q 0x5010 → 65 < s.freeRecords q → Raises s t q 0x5010) ∧
        ((∀ j : Fin 5, j ≠ i → (s.refOn j && s.refQual j) = false) → s.tm.wasLocked = true → s.dpll ≠ 3 →
          t.curRef = 7 ∧ t.dpll = 3 ∧ t.tm.onPtp = false ∧
          let m := windowMean s.tm.hist (s.now / sec) (s.dplCfg.u16 10) (s.dplCfg.u16 8)
          t.regBit .REF_STATUS 0 21 = m.isNone ∧ t.tm.hoWord = some (m.getD s.ctlWord) ∧
            t.tm.grid.rate = clampInt (-(ppmUnits 100)) (ppmUnits 100) (clampInt (s.ctlWord - s.slewRoom) (s.ctlWord + s.slewRoom) (m.getD s.ctlWord))))) ∧
  (∀ (ppb : List Int) (s : State), s.tm.measAt + sec ≤ s.now →
    ∃ t, exec (.refFreqMeasure ppb) s = .next t ∧ t.tm.measAt = s.now ∧ (s.dpll = 2 → t.tm.hist = ((s.now / sec, s.accrue.tm.ctlAvg.mean s.ctlWord) :: s.tm.hist).take 660) ∧
      ∀ i : Fin 5, s.refOn i = true → (s.ref i).alive = true →
        (s.dplCfg.u32 4 < (ppb.getD i 0).natAbs → t.refQual i = false) ∧
        ((ppb.getD i 0).natAbs ≤ s.dplCfg.u32 4 → t.refQual i = s.refQual i) ∧
        ((∀ x ∈ (s.ref i).win, x.natAbs ≤ 1000000000) → (ppb.getD i 0).natAbs ≤ 1000000000 →
          t.refMeas i = (ppb.getD i 0 :: (s.ref i).win.take 9).sum / (((s.ref i).win.take 9).length + 1 : Nat))) ∧
  (∀ (i : Fin 5) (u : Nat) (s : State), (s.ref i).goodSince = some u → s.refOn i = true → (s.ref i).alive = true → s.refQual i = false → u + s.dplCfg.u16 2 * sec ≤ s.now →
    ∃ t, exec (.refQualifyExpiry i) s = .next t ∧ t.refQual i = true ∧
      (s.manRef = i → s.curRef < 5 → s.curRef ≠ i → s.refQual s.curRef = true → s.regBit .REF_STATUS 0 22 = false →
        t.curRef = s.curRef ∧ t.tm.wtrAt = some (s.now + s.dplCfg.u16 0 * sec) ∧ t.regBit .REF_STATUS 0 23 = true) ∧
      (s.manRef = i → s.curRef = 7 → s.regBit .REF_STATUS 0 22 = false → t.curRef = i ∧ t.dpll = 1)) ∧
  (∀ (u : Nat) (s : State), s.tm.wtrAt = some u → u ≤ s.now → s.regBit .REF_STATUS 0 19 = false → s.manRef < 5 → s.refQual s.manRef = true → s.curRef ≠ s.manRef →
    s.regBit .REF_STATUS 0 22 = false →
    ∃ t, exec .wtrExpiry s = .next t ∧ t.curRef = s.manRef ∧ t.dpll = 1 ∧ t.tm.wtrAt = none ∧ t.regBit .REF_STATUS 0 23 = false ∧
      t.getReg .REF_SWITCHES 0 = s.getReg .REF_SWITCHES 0 + 1) ∧
  (∀ (u : Nat) (s : State), s.tm.errSince = some u → s.dpll = 1 → u + sec ≤ s.now →
    ∃ t, exec .dpllLockAchieved s = .next t ∧ t.dpll = 2 ∧ t.curRef = s.curRef ∧ t.tm.wasLocked = true ∧ t.tm.onPtp = (s.curRef == 0 && decide (s.tm.ptp.rate.natAbs ≤ (ppmUnits 100).natAbs)) ∧
      t.regBit .REF_STATUS 0 19 = false ∧ (s.curRef = 0 → s.tm.ptp.rate.natAbs ≤ (ppmUnits 100).natAbs → t.tm.gridFix s.now = s.tm.ptp.fixAt s.now + s.tm.ofsPs * 2 ^ 48 / 1000)) ∧
  (∀ (s : State), s.dpll = 1 → s.curRef < 5 → s.tm.switchAt + (if s.dplCfg.u8 12 = 0 then 200 else if s.dplCfg.u8 12 = 1 then 20 else 2) * sec ≤ s.now →
    ∃ t, exec .dpllLockTimeout s = .next t ∧ t.refQual s.curRef = false ∧ (s.refQual s.curRef = true → ∀ q, Listens s q 0x5011 → Raises s t q 0x5011)) ∧
  (∀ (s : State), s.regBit .TM_STATUS 0 31 = true → ∃ t, exec .oscInLoss s = .next t ∧ t.regBit .TM_STATUS 0 31 = false ∧ Logs s t 40 0x0B 1)

/-- O55. Every step keeps the canonical form of DRAM, and reset has it (13_memory.md (R466, R467); 14_protection_faults.md (R491, R492); 95_what_each_step_holds.md; notes/assumptions/67.md). -/
def Obligations.MemoryKeepsItsCanonicalForm : Prop :=
  Memory.wf State.reset = true ∧ (∀ s t : State, Memory.wf s = true → step s = .next t → Memory.wf t = true) ∧
  (∀ (c : Instr) (s t : State), exec c s = .next t → (∀ a, c ≠ .interconnectRequest a) → (∀ r a b l k, c ≠ .dmcTrain r a b l k) → c ≠ .porstAssert →
    (∀ i, c ≠ .islandClearDone i) → c ≠ .fwStart → t.mem.bytes = s.mem.bytes)

/-- O56. No step but PORST_N_ASSERT changes a locked MPU entry, the MPU lock, or a Canary limit under the Canary lock (14_protection_faults.md (R488, R495); 03_liveness.md (R145, R147); 00_scope.md (R12)). -/
def Obligations.LockedEntriesHoldUntilPorst : Prop :=
  ∀ (s t : State), step s = .next t → s.pending.head? ≠ some .porstAssert →
    (∀ (n : Nat) (r : Reg), n < 256 → (s.mpuLocked = true ∨ s.mpuEntLocked n = true) →
      r ∈ [Reg.MPU_ENT_BASE, .MPU_ENT_LIMIT, .MPU_ENT_MASK_LO, .MPU_ENT_MASK_HI, .MPU_ENT_CTL] → t.getReg r n = s.getReg r n) ∧
    (s.mpuLocked = true → t.mpuLocked = true) ∧
    (∀ (r : Reg), s.cnyLocked = true → r ∈ [Reg.CNY_LIM_BUDGET, .CNY_LIM_MISC, .CNY_LOCK_SEC, .CNY_LOCK_NS] → t.getReg r 0 = s.getReg r 0)

/-- O57. A ZLC code value gives its sample back, and a coded group reads back whatever stands behind it (08_composition.md (R314)). -/
def Obligations.ZlcCodesReadBack : Prop :=
  (∀ s p : Nat, s < 1024 → p < 1024 → zlcCode s p < 1024 ∧ zlcUncode (zlcCode s p) p = s) ∧
  (∀ (f r c : Bool) (x y z : Nat), x < 1024 → y < 1024 → z < 1024 → zlcPredict f r c x y z < 1024) ∧
  (∀ (ms : List Nat) (rest : List Bool), (∀ m ∈ ms, m < 1024) → zlcReadGroup ms.length (zlcGroup ms ++ rest) = some (ms, rest)) ∧
  (∀ (ms : List Nat) (k : Nat), k ≤ 10 → zlcBestK ms ≤ 10 ∧ (zlcGroup ms).length ≤ 4 + ((ms.map (zlcBits k)).map List.length).sum) ∧
  (∀ (n : Nat) (bs : List Bool), bs.take 2 = [true, true] ∨ bs.take 4 = [true, false, true, true] → zlcReadGroup n bs = none)

/-- O58. A command that needs a scope, from a port that holds none, is answered with a status other than OK and changes nothing else (02_host_ports_commands.md (R76, R77); 00_scope.md (R19, R20)). -/
def Obligations.CommandsWithoutScopesAreNotExecuted : Prop :=
  (∀ (c : Instr) (r : Req) (op : Nat) (s : State), packet c = some (r, op) → s.canRun r op = true → s.heldAt r op = 0 →
    op ∉ [0x0101, 0x0102, 0x0201, 0x0304, 0x1005, 0x2011, 0x3003, 0x3011, 0x4006, 0x4810, 0x5811, 0x6008, 0x6803, 0x7020] →
    ∃ st reason body, 0 < st ∧ exec c s = .next (s.endInterp.replyR r op st reason s.isRestarted body)) ∧
  (∀ (r : Req) (b : Body) (s : State), s.canRun r 0x7001 = true → s.notReady 0x7001 = false → s.heldAt r 0x7001 = 0 → b.length = 20 → b.u16 0 < 256 → b.u8 2 ≤ 15 →
    b.zero 3 1 = true → b.u32 4 ≤ b.u32 8 → exec (.mpuEntry r b) s = .next (s.endInterp.replyR r 0x7001 2 0 s.isRestarted []))

/-- O59. Commands of host ports, profiles, power, lanes, memory, protection, faults, the Canary, composition and scan-out change only their footprint (95_what_each_step_holds.md; 02_host_ports_commands.md; 03_liveness.md; 08_composition.md; 09_scanout_outputs.md; 13_memory.md; 14_protection_faults.md; 16_power_startup.md; 17_serial_lanes.md). -/
def Obligations.HostAndPictureCommandsLeaveTheRestAlone : Prop :=
  ∀ (c : Instr) (s t : State) (fs : List Field) (rs : List Reg), hostFootprint c = some (fs, rs) ∨ pictureFootprint c = some (fs, rs) →
    exec c s = .next t → OnlyChanges fs rs s t

/-- O60. Commands of ingest, cameras, decoders, fabric, encoder, time, references, audio, touch and the pair change only their footprint (95_what_each_step_holds.md; 04_ingest.md; 05_camera_pipes.md; 06_coding_fabric_decode.md; 07_encoder.md; 10_time_references.md; 11_audio.md; 12_touch.md; 15_duty_pair.md). -/
def Obligations.InputAndTimeCommandsLeaveTheRestAlone : Prop :=
  ∀ (c : Instr) (s t : State) (fs : List Field) (rs : List Reg), inputFootprint c = some (fs, rs) ∨ timeFootprint c = some (fs, rs) →
    exec c s = .next t → OnlyChanges fs rs s t
end

