-- ==== Sys2Proof/Laws/Regs.lean ====
section
/-! SUPPORT. The laws of the sparse tables and of the register table: reading what was written, and leaving every other
register alone. Registers of different names or numbers never share an address (R616). -/

namespace Sys2Proof

variable {α : Type}

/-- Reading the entry just listed. -/
@[simp] theorem Tbl.find_insert_self (t : Tbl α) (i : Nat) (x : α) : Tbl.find (Tbl.insert t i x) i = some x := by
  induction t with
  | nil => simp [Tbl.insert, Tbl.find]
  | cons e t ih =>
    obtain ⟨k, v⟩ := e
    unfold Tbl.insert
    split_ifs with h1 h2
    · simp [Tbl.find]
    · simp [Tbl.find]
    · simp only [Tbl.find]
      rw [if_neg (by omega), ih]

/-- Listing one key leaves the others. -/
theorem Tbl.find_insert_ne (t : Tbl α) {i j : Nat} (x : α) (h : i ≠ j) : Tbl.find (Tbl.insert t i x) j = Tbl.find t j := by
  induction t with
  | nil => simp [Tbl.insert, Tbl.find, h]
  | cons e t ih =>
    obtain ⟨k, v⟩ := e
    unfold Tbl.insert
    split_ifs with h1 h2
    · simp only [Tbl.find]; rw [if_neg h]
    · subst h2; simp only [Tbl.find]; rw [if_neg h, if_neg h]
    · simp only [Tbl.find]; split_ifs <;> simp [ih]

/-- An erased key is not listed. -/
@[simp] theorem Tbl.find_erase_self (t : Tbl α) (i : Nat) : Tbl.find (Tbl.erase t i) i = none := by
  induction t with
  | nil => rfl
  | cons e t ih =>
    obtain ⟨k, v⟩ := e
    unfold Tbl.erase
    split_ifs with h
    · exact ih
    · simp only [Tbl.find]; rw [if_neg h, ih]

/-- Erasing one key leaves the others. -/
theorem Tbl.find_erase_ne (t : Tbl α) {i j : Nat} (h : i ≠ j) : Tbl.find (Tbl.erase t i) j = Tbl.find t j := by
  induction t with
  | nil => rfl
  | cons e t ih =>
    obtain ⟨k, v⟩ := e
    unfold Tbl.erase
    split_ifs with h1
    · subst h1; simp only [Tbl.find]; rw [if_neg h, ih]
    · simp only [Tbl.find]; split_ifs <;> simp [ih]

/-- A read after a write of the same key gives the value written. -/
@[simp] theorem Tbl.getD_setD_self [DecidableEq α] (t : Tbl α) (d : α) (i : Nat) (x : α) : Tbl.getD (Tbl.setD t d i x) d i = x := by
  unfold Tbl.getD Tbl.setD
  split_ifs with h
  · simp [h]
  · simp

/-- A write leaves every other key alone. -/
theorem Tbl.getD_setD_ne [DecidableEq α] (t : Tbl α) (d e : α) {i j : Nat} (x : α) (h : i ≠ j) :
    Tbl.getD (Tbl.setD t d i x) e j = Tbl.getD t e j := by
  unfold Tbl.getD Tbl.setD
  split_ifs
  · rw [Tbl.find_erase_ne t h]
  · rw [Tbl.find_insert_ne t x h]

/-- A read after a write of the same key of a table with the type's default. -/
@[simp] theorem Tbl.get_set_self [Inhabited α] [DecidableEq α] (t : Tbl α) (i : Nat) (x : α) : Tbl.get (Tbl.set t i x) i = x :=
  Tbl.getD_setD_self t default i x

/-- A write leaves every other key alone. -/
theorem Tbl.get_set_ne [Inhabited α] [DecidableEq α] (t : Tbl α) {i j : Nat} (x : α) (h : i ≠ j) :
    Tbl.get (Tbl.set t i x) j = Tbl.get t j :=
  Tbl.getD_setD_ne t default default x h

/-- Reading any key after a write. -/
theorem Tbl.get_set [Inhabited α] [DecidableEq α] (t : Tbl α) (i j : Nat) (x : α) :
    Tbl.get (Tbl.set t i x) j = if i = j then x else Tbl.get t j := by
  split_ifs with h
  · subst h; simp
  · exact Tbl.get_set_ne t x h

/-! ### The canonical form -/

/-- A lower bound may be lowered. -/
theorem Tbl.wfFrom_mono [DecidableEq α] {d : Nat → α} {a b : Nat} (h : b ≤ a) {t : Tbl α} (w : Tbl.wfFrom d a t = true) :
    Tbl.wfFrom d b t = true := by
  cases t with
  | nil => rfl
  | cons e t =>
    obtain ⟨k, v⟩ := e
    simp only [Tbl.wfFrom, Bool.and_eq_true, decide_eq_true_eq] at w ⊢
    exact ⟨⟨by omega, w.1.2⟩, w.2⟩

/-- Erasing keeps the canonical form. -/
theorem Tbl.wfFrom_erase [DecidableEq α] {d : Nat → α} {lo : Nat} {t : Tbl α} (i : Nat) (w : Tbl.wfFrom d lo t = true) :
    Tbl.wfFrom d lo (Tbl.erase t i) = true := by
  induction t generalizing lo with
  | nil => rfl
  | cons e t ih =>
    obtain ⟨k, v⟩ := e
    simp only [Tbl.wfFrom, Bool.and_eq_true, decide_eq_true_eq] at w
    unfold Tbl.erase
    split_ifs with h
    · exact Tbl.wfFrom_mono (by omega) (ih w.2)
    · simp only [Tbl.wfFrom, Bool.and_eq_true, decide_eq_true_eq]
      exact ⟨w.1, ih w.2⟩

/-- Listing a key at a value other than its default keeps the canonical form. -/
theorem Tbl.wfFrom_insert [DecidableEq α] {d : Nat → α} {lo : Nat} {t : Tbl α} {i : Nat} {x : α} (hl : lo ≤ i) (hx : x ≠ d i)
    (w : Tbl.wfFrom d lo t = true) : Tbl.wfFrom d lo (Tbl.insert t i x) = true := by
  induction t generalizing lo with
  | nil => simp [Tbl.insert, Tbl.wfFrom, hl, hx]
  | cons e t ih =>
    obtain ⟨k, v⟩ := e
    simp only [Tbl.wfFrom, Bool.and_eq_true, decide_eq_true_eq] at w
    unfold Tbl.insert
    split_ifs with h1 h2
    · simp only [Tbl.wfFrom, Bool.and_eq_true, decide_eq_true_eq]
      exact ⟨⟨hl, hx⟩, ⟨⟨by omega, w.1.2⟩, w.2⟩⟩
    · subst h2
      simp only [Tbl.wfFrom, Bool.and_eq_true, decide_eq_true_eq]
      exact ⟨⟨hl, hx⟩, w.2⟩
    · simp only [Tbl.wfFrom, Bool.and_eq_true, decide_eq_true_eq]
      exact ⟨w.1, ih (by omega) w.2⟩

/-- A write keeps the canonical form of a table. -/
theorem Tbl.wf_setD [DecidableEq α] {d : Nat → α} {t : Tbl α} (i : Nat) (x : α) (w : Tbl.wf d t = true) :
    Tbl.wf d (Tbl.setD t (d i) i x) = true := by
  unfold Tbl.setD
  split_ifs with h
  · exact Tbl.wfFrom_erase i w
  · exact Tbl.wfFrom_insert (Nat.zero_le _) h w

namespace Machine

/-! ### Addresses of registers -/

/-- Offset of a register's last member in its block window. -/
def Reg.lastOff (r : Reg) : Nat := r.info.off + (r.info.count - 1) * r.info.stride

/-- Two registers of one block lie apart: one ends before the other begins, or they interleave at different offsets of one
stride. -/
def Reg.apart (r q : Reg) : Bool :=
  r == q || decide (r.lastOff < q.info.off) || decide (q.lastOff < r.info.off) ||
    (r.info.stride == q.info.stride && r.info.off % r.info.stride != q.info.off % r.info.stride)

/-- There are 325 registers. -/
theorem Reg.ctorIdx_lt (r : Reg) : r.ctorIdx < 325 := by cases r <;> exact Nat.le_of_ble_eq_true rfl

/-- Every register stands in the list of all registers. -/
theorem Reg.mem_all (r : Reg) : Reg.all.contains r = true := by
  have h : ∀ m : Fin 325, Reg.all.contains (Reg.ofNat m.val) = true := by decide +kernel
  have h2 := h ⟨r.ctorIdx, r.ctorIdx_lt⟩
  rwa [Reg.ofNat_ctorIdx] at h2

/-- Every register's members lie in its block's window, and an array's members lie 4 bytes apart at least. -/
theorem Reg.all_fit : Reg.all.all (fun r => decide (r.lastOff < r.info.block.window) && (r.info.count == 1 || decide (0 < r.info.stride))) = true := by
  decide +kernel

/-- Registers of one block lie apart. -/
theorem Reg.all_apart : Reg.all.all (fun r => Reg.all.all (fun q => r.info.block != q.info.block || Reg.apart r q)) = true := by
  decide +kernel

/-- Two registers of one block lie apart. -/
theorem Reg.apart_of_block {r q : Reg} (h : r.info.block = q.info.block) : Reg.apart r q = true := by
  have h1 := List.all_eq_true.mp Reg.all_apart r (List.contains_iff_mem.mp r.mem_all)
  have h2 := List.all_eq_true.mp h1 q (List.contains_iff_mem.mp q.mem_all)
  simpa [h] using h2

/-- The members of a register lie in its block's window. -/
theorem Reg.lastOff_lt (r : Reg) : r.lastOff < r.info.block.window ∧ (r.info.count = 1 ∨ 0 < r.info.stride) := by
  have h := List.all_eq_true.mp Reg.all_fit r (List.contains_iff_mem.mp r.mem_all)
  simpa using h

/-- Windows of different blocks are disjoint (R615). -/
theorem Block.disjoint {b c : Block} {x y : Nat} (hx : x < b.window) (hy : y < c.window) (h : b.base + x = c.base + y) : b = c := by
  cases b <;> cases c <;> first | rfl | (simp only [Block.base, Block.window] at *; omega)

/-- A member's offset in its window. -/
theorem Reg.member_le {r : Reg} {i : Nat} (h : i < r.info.count) : r.info.off + i * r.info.stride ≤ r.lastOff := by
  unfold Reg.lastOff
  have : i * r.info.stride ≤ (r.info.count - 1) * r.info.stride := Nat.mul_le_mul_right _ (by omega)
  omega

/-- Different registers, or different members of one, have different addresses. -/
theorem Reg.addr_inj {r q : Reg} {i j : Nat} (hi : i < r.info.count) (hj : j < q.info.count) (h : r.addr i = q.addr j) : r = q ∧ i = j := by
  have mi := Reg.member_le hi
  have mj := Reg.member_le hj
  have hb : r.info.block = q.info.block := by
    refine Block.disjoint (x := r.info.off + i * r.info.stride) (y := q.info.off + j * q.info.stride) ?_ ?_ ?_
    · exact lt_of_le_of_lt mi r.lastOff_lt.1
    · exact lt_of_le_of_lt mj q.lastOff_lt.1
    · unfold Reg.addr at h; omega
  have ho : r.info.off + i * r.info.stride = q.info.off + j * q.info.stride := by
    unfold Reg.addr at h; rw [hb] at h; omega
  have ha := Reg.apart_of_block hb
  simp only [Reg.apart, Bool.or_eq_true, beq_iff_eq, decide_eq_true_eq, Bool.and_eq_true, bne_iff_ne] at ha
  rcases ha with ((ha | ha) | ha) | ⟨hs, hm⟩
  · subst ha
    refine ⟨rfl, ?_⟩
    rcases r.lastOff_lt.2 with hc | hp
    · omega
    · exact Nat.eq_of_mul_eq_mul_right hp (by omega)
  · omega
  · omega
  · exfalso; apply hm
    have h3 := congrArg (· % r.info.stride) ho
    simp only [Nat.add_mul_mod_self_right] at h3
    rw [h3, hs, Nat.add_mul_mod_self_right]

/-! ### Reading and writing registers -/

/-- Reading the member just written gives the value written. -/
theorem State.getReg_setReg_self (s : State) {r : Reg} {i : Nat} (v : Word) (h : i < r.info.count) : (s.setReg r i v).getReg r i = v := by
  simp [State.getReg, State.setReg, h]

/-- A write leaves every other register and every other member alone. -/
theorem State.getReg_setReg_ne (s : State) {r q : Reg} {i j : Nat} (v : Word) (h : r ≠ q ∨ i ≠ j) :
    (s.setReg r i v).getReg q j = s.getReg q j := by
  unfold State.getReg State.setReg
  split_ifs with hj hi
  · refine Tbl.getD_setD_ne _ _ _ _ ?_
    intro e
    have := Reg.addr_inj hi hj e
    rcases h with h | h
    · exact h this.1
    · exact h this.2
  · rfl
  · rfl

/-- Reading any register after a write. -/
theorem State.getReg_setReg (s : State) (r q : Reg) (i j : Nat) (v : Word) :
    (s.setReg r i v).getReg q j = if r = q ∧ i = j ∧ i < r.info.count then v else s.getReg q j := by
  split_ifs with h
  · obtain ⟨rfl, rfl, h⟩ := h
    exact s.getReg_setReg_self v h
  · by_cases e : r = q ∧ i = j
    · obtain ⟨rfl, rfl⟩ := e
      have : ¬ i < r.info.count := fun x => h ⟨rfl, rfl, x⟩
      simp [State.setReg, this]
    · exact s.getReg_setReg_ne v (by tauto)

/-- Register reads depend on the register table alone. -/
theorem State.getReg_congr {s t : State} (h : t.regs = s.regs) (r : Reg) (i : Nat) : t.getReg r i = s.getReg r i := by
  unfold State.getReg; rw [h]

end Machine
end Sys2Proof
end

