-- ==== Sys2Proof/Laws/Bits.lean ====
section
/-! SUPPORT. Fields of register words (R8): reading a field after writing it or another one, for words and for State. -/

namespace Sys2Proof

/-- A bit of a word after a field write. -/
theorem Word.getLsbD_setBits (v : Word) {hi lo : Nat} (n k : Nat) (hl : lo ≤ hi) (hh : hi < 32) :
    (v.setBits hi lo n).getLsbD k = if lo ≤ k ∧ k ≤ hi then n.testBit (k - lo) else v.getLsbD k := by
  by_cases hk : k < 32
  · have e : ((2 ^ (hi - lo + 1) - 1) * 2 ^ lo).testBit k = decide (lo ≤ k ∧ k ≤ hi) := by
      rw [Nat.mul_comm, Nat.testBit_two_pow_mul, Nat.testBit_two_pow_sub_one]
      by_cases h1 : lo ≤ k <;> by_cases h2 : k ≤ hi <;> simp [h1, h2] <;> omega
    simp only [Word.setBits, BitVec.getLsbD_or, BitVec.getLsbD_and, BitVec.getLsbD_not, BitVec.getLsbD_ofNat, hk, decide_true,
      Bool.true_and, e]
    rw [Nat.mul_comm n, Nat.testBit_two_pow_mul]
    by_cases h1 : lo ≤ k ∧ k ≤ hi
    · simp [h1]
    · simp [h1]
  · have h1 : ¬ (lo ≤ k ∧ k ≤ hi) := by omega
    rw [if_neg h1, BitVec.getLsbD_of_ge _ _ (by omega), BitVec.getLsbD_of_ge _ _ (by omega)]

/-- A bit of a field. -/
theorem Word.testBit_bits (v : Word) (hi lo k : Nat) : (v.bits hi lo).testBit k = (decide (k ≤ hi - lo) && v.getLsbD (lo + k)) := by
  unfold Word.bits
  rw [Nat.testBit_mod_two_pow, Nat.testBit_div_two_pow, BitVec.testBit_toNat]
  have : (k < hi - lo + 1) = (k ≤ hi - lo) := propext (by omega)
  simp only [this, Nat.add_comm]

/-- A field reads as what was written, cut to its width. -/
theorem Word.bits_setBits_self (v : Word) {hi lo : Nat} (n : Nat) (hl : lo ≤ hi) (hh : hi < 32) :
    (v.setBits hi lo n).bits hi lo = n % 2 ^ (hi - lo + 1) := by
  apply Nat.eq_of_testBit_eq
  intro k
  rw [Word.testBit_bits, Nat.testBit_mod_two_pow, Word.getLsbD_setBits _ _ _ hl hh]
  by_cases h : k ≤ hi - lo
  · have h1 : k < hi - lo + 1 := by omega
    have h2 : lo ≤ lo + k ∧ lo + k ≤ hi := by omega
    simp [h, h1, h2]
  · have h1 : ¬ k < hi - lo + 1 := by omega
    simp [h, h1]

/-- A field that a write does not touch reads as before. -/
theorem Word.bits_setBits_ne (v : Word) {hi lo h2 l2 : Nat} (n : Nat) (hl : lo ≤ hi) (hh : hi < 32) (hl2 : l2 ≤ h2)
    (d : h2 < lo ∨ hi < l2) : (v.setBits hi lo n).bits h2 l2 = v.bits h2 l2 := by
  apply Nat.eq_of_testBit_eq
  intro k
  rw [Word.testBit_bits, Word.testBit_bits, Word.getLsbD_setBits _ _ _ hl hh]
  by_cases h : k ≤ h2 - l2
  · have : ¬ (lo ≤ l2 + k ∧ l2 + k ≤ hi) := by omega
    rw [if_neg this]
  · simp [h]

/-- A field is less than its range. -/
theorem Word.bits_lt (v : Word) (hi lo : Nat) : v.bits hi lo < 2 ^ (hi - lo + 1) := Nat.mod_lt _ (by positivity)

/-- Writing a field with what it holds changes nothing. -/
theorem Word.setBits_bits (v : Word) {hi lo : Nat} (hl : lo ≤ hi) (hh : hi < 32) : v.setBits hi lo (v.bits hi lo) = v := by
  apply BitVec.eq_of_getLsbD_eq
  intro k hk
  rw [Word.getLsbD_setBits _ _ _ hl hh, Word.testBit_bits]
  split_ifs with h
  · have : k - lo ≤ hi - lo := by omega
    have e : lo + (k - lo) = k := by omega
    simp [this, e]
  · rfl

/-- The whole word is its field 31:0. -/
theorem Word.bits_full (v : Word) : v.bits 31 0 = v.toNat := by
  unfold Word.bits
  have := v.isLt
  simp; omega

/-- Little-endian bytes spell the number they were made of, cut to their width (R9). -/
theorem leNat_leBytes (k n : Nat) : leNat (leBytes k n) = n % 256 ^ k := by
  induction k generalizing n with
  | zero => simp [leBytes, leNat, Nat.mod_one]
  | succ k ih =>
    simp only [leBytes, leNat, ih, BitVec.toNat_ofNat]
    have h : n % 256 ^ (k + 1) = n % 256 + 256 * (n / 256 % 256 ^ k) := by rw [Nat.pow_succ, Nat.mul_comm (256 ^ k) 256, Nat.mod_mul]
    rw [h]

@[simp] theorem leBytes_length (k n : Nat) : (leBytes k n).length = k := by
  induction k generalizing n with
  | zero => rfl
  | succ k ih => simp [leBytes, ih]

namespace Machine

/-- A field of a register reads as what was written, cut to its width. -/
theorem State.regBits_setBits_self (s : State) {r : Reg} {i hi lo : Nat} (n : Nat) (h : i < r.info.count) (hl : lo ≤ hi) (hh : hi < 32) :
    (s.setBits r i hi lo n).regBits r i hi lo = n % 2 ^ (hi - lo + 1) := by
  unfold State.regBits State.setBits
  rw [State.getReg_setReg_self _ _ h, Word.bits_setBits_self _ _ hl hh]

/-- A field apart from the written one reads as before. -/
theorem State.regBits_setBits_ne (s : State) {r q : Reg} {i j hi lo h2 l2 : Nat} (n : Nat) (hl : lo ≤ hi) (hh : hi < 32) (hl2 : l2 ≤ h2)
    (d : r ≠ q ∨ i ≠ j ∨ h2 < lo ∨ hi < l2) : (s.setBits r i hi lo n).regBits q j h2 l2 = s.regBits q j h2 l2 := by
  unfold State.regBits State.setBits
  rw [State.getReg_setReg]
  split_ifs with h
  · obtain ⟨rfl, rfl, _⟩ := h
    rw [Word.bits_setBits_ne _ _ hl hh hl2 (by tauto)]
  · rfl

/-- A bit of a register reads as what was written. -/
theorem State.regBit_setBit_self (s : State) {r : Reg} {i k : Nat} (b : Bool) (h : i < r.info.count) (hk : k < 32) :
    (s.setBit r i k b).regBit r i k = b := by
  unfold State.regBit State.setBit
  have := State.regBits_setBits_self s (r := r) (i := i) (hi := k) (lo := k) (bit01 b) h (le_refl k) hk
  unfold State.regBits at this
  rw [this]
  cases b <;> simp [bit01]

/-- A bit apart from the written field reads as before. -/
theorem State.regBit_setBits_ne (s : State) {r q : Reg} {i j hi lo k : Nat} (n : Nat) (hl : lo ≤ hi) (hh : hi < 32)
    (d : r ≠ q ∨ i ≠ j ∨ k < lo ∨ hi < k) : (s.setBits r i hi lo n).regBit q j k = s.regBit q j k := by
  have := State.regBits_setBits_ne s (r := r) (q := q) (i := i) (j := j) (h2 := k) (l2 := k) n hl hh (le_refl k) d
  unfold State.regBits at this
  unfold State.regBit
  rw [this]

end Machine

end Sys2Proof
end

