-- ==== Sys2Proof/Laws/Keeps.lean ====
section
/-! SUPPORT. What an operation can change at most: the fields of State and the registers it may write. Every operation keeps the
register table canonical, only adds to what has left the device, and only draws free values. -/

namespace Sys2Proof.Machine

/-- From s to t, only the fields and the registers of two masks may differ (bit k for the k-th of Field and of Reg); the register
table stays canonical, what has left the device stays out, and free values are only drawn. -/
structure Keeps (F R : Nat) (s t : State) : Prop where
  fields : ∀ f : Field, F.testBit f.ctorIdx = false → State.same s t f
  regs : ∀ (r : Reg) i, R.testBit r.ctorIdx = false → t.getReg r i = s.getReg r i
  canon : Tbl.wf resetAt s.regs = true → Tbl.wf resetAt t.regs = true
  out : s.out <:+ t.out
  free : s.free ≤ t.free

/-- The same of a step's outcome. -/
def KeepsO (F R : Nat) (s : State) (o : Host.Outcome State Fault Refusal) : Prop :=
  ∀ t, o = .next t → Keeps F R s t

/-- The same of a command's answer. -/
def KeepsA (F R : Nat) (s : State) : Answer → Prop
  | .now t _ _ => Keeps F R s t
  | .later t => Keeps F R s t
  | .refuse t _ _ _ => Keeps F R s t

/-- The same of an operation that may answer nothing. -/
def KeepsM (F R : Nat) (s : State) (o : Option State) : Prop := ∀ t, o = some t → Keeps F R s t

/-- The same of an operation that answers a state on either outcome. -/
def KeepsE {α β : Type} (F R : Nat) (s : State) : Except (α × β × State) State → Prop
  | .error e => Keeps F R s e.2.2
  | .ok t => Keeps F R s t

/-- The same of an operation that may answer nothing, with a value beside the state. -/
def KeepsMP {α : Type} (F R : Nat) (s : State) (o : Option (α × State)) : Prop := ∀ v t, o = some (v, t) → Keeps F R s t

/-- The address of a register member names that member. -/
theorem Reg.atAddr_addr {r : Reg} {i : Nat} (h : i < r.info.count) : Reg.atAddr (r.addr i) = some (r, i) := by
  have key : ∀ (q : Reg) (j : Nat), q.member (r.addr i) = some j → q = r ∧ j = i := by
    intro q j hq
    unfold Reg.member at hq
    have h0 : q.addr 0 = q.info.block.base + q.info.off := by simp [Reg.addr]
    have hfit := q.lastOff_lt.2
    simp only at hq
    split_ifs at hq with c1 c2 c3 c4
    · obtain rfl := Option.some.inj hq
      have hc : 0 < q.info.count := by
        have := List.all_eq_true.mp (show Reg.all.all (fun q => decide (0 < q.info.count)) = true by decide +kernel) q
          (List.contains_iff_mem.mp q.mem_all)
        simpa using this
      have := Reg.addr_inj h hc c3
      exact ⟨this.1.symm, this.2.symm⟩
    · obtain rfl := Option.some.inj hq
      have hp : 0 < q.info.stride := Nat.pos_of_ne_zero c2
      have e : r.addr i = q.addr ((r.addr i - q.addr 0) / q.info.stride) := by
        have hm := Nat.div_mul_cancel (Nat.dvd_of_mod_eq_zero c4.1)
        have hj : ∀ j, q.addr j = q.addr 0 + j * q.info.stride := by intro j; simp [Reg.addr]
        rw [hj, hm]
        omega
      have := Reg.addr_inj h c4.2 e
      exact ⟨this.1.symm, this.2.symm⟩
  have own : r.member (r.addr i) = some i := by
    unfold Reg.member
    have h0 : r.addr i = r.addr 0 + i * r.info.stride := by simp [Reg.addr]
    simp only
    rw [if_neg (by omega)]
    split_ifs with c2 c3 c4
    · have hc := r.lastOff_lt.2
      have : i = 0 := by
        rcases hc with hc | hc
        · omega
        · omega
      rw [this]
    · rw [c2] at h0; omega
    · have hp : 0 < r.info.stride := Nat.pos_of_ne_zero c2
      rw [h0, Nat.add_sub_cancel_left, Nat.mul_div_cancel _ hp]
    · exfalso; apply c4
      have hp : 0 < r.info.stride := Nat.pos_of_ne_zero c2
      rw [h0, Nat.add_sub_cancel_left]
      exact ⟨Nat.mul_mod_left _ _, by rw [Nat.mul_div_cancel _ hp]; exact h⟩
  unfold Reg.atAddr
  have gen : ∀ l : List Reg, r ∈ l → l.findSome? (fun q => (q.member (r.addr i)).map (fun j => (q, j))) = some (r, i) := by
    intro l
    induction l with
    | nil => intro h; cases h
    | cons q l ih =>
      intro hm
      rw [List.findSome?_cons]
      cases hq : q.member (r.addr i) with
      | none =>
        simp only [Option.map_none]
        apply ih
        rcases List.mem_cons.mp hm with rfl | hm
        · rw [own] at hq; cases hq
        · exact hm
      | some j =>
        obtain ⟨rfl, rfl⟩ := key q j hq
        simp
  exact gen _ (List.contains_iff_mem.mp r.mem_all)

/-- The reset value at a register member's address is that member's. -/
theorem resetAt_addr {r : Reg} {i : Nat} (h : i < r.info.count) : resetAt (r.addr i) = r.resetOf i := by
  unfold resetAt; rw [Reg.atAddr_addr h]

namespace KeepsLaws

variable {F R : Nat} {s u t : State}

theorem refl (F R : Nat) (s : State) : Keeps F R s s :=
  ⟨fun f _ => by cases f <;> rfl, fun _ _ _ => rfl, id, List.suffix_refl _, le_refl _⟩

/-- Inclusion of masks. -/
def sub (G F Q R : Nat) : Bool := G ||| F == F && Q ||| R == R

theorem subI {G F Q R : Nat} (h : G ||| F = F) (k : Q ||| R = R) : sub G F Q R = true := by simp [sub, h, k]

theorem bitI {R k : Nat} (h : 1 &&& (R >>> k) = 1) : R.testBit k = true := by simp [Nat.testBit, h]

theorem orBit {R k : Nat} (h : R.testBit k = true) : 2 ^ k ||| R = R := by
  refine Nat.eq_of_testBit_eq (fun j => ?_)
  rw [Nat.testBit_or, Nat.testBit_two_pow]
  by_cases e : k = j
  · subst e; simp [h]
  · simp [e]

theorem testBit_of_or {a b k : Nat} (h : a ||| b = b) (hb : b.testBit k = false) : a.testBit k = false := by
  have h2 : (a ||| b).testBit k = false := by rw [h, hb]
  rw [Nat.testBit_or] at h2
  simp only [Bool.or_eq_false_iff] at h2
  exact h2.1

theorem comp {G Q : Nat} (h : Keeps F R s u) (k : Keeps G Q u t) (hs : sub G F Q R = true) : Keeps F R s t := by
  simp only [sub, Bool.and_eq_true, beq_iff_eq] at hs
  refine ⟨fun f hf => ?_, fun r i hr => ?_, fun w => k.canon (h.canon w), h.out.trans k.out, h.free.trans k.free⟩
  · have h1 := h.fields f hf
    have h2 := k.fields f (testBit_of_or hs.1 hf)
    cases f <;> exact Eq.trans h2 h1
  · rw [k.regs r i (testBit_of_or hs.2 hr), h.regs r i hr]

theorem trans (h : Keeps F R s u) (k : Keeps F R u t) : Keeps F R s t := comp h k (by simp [sub])

theorem ite {c : Prop} {_ : Decidable c} {a b : State} (h : Keeps F R s a) (k : Keeps F R s b) : Keeps F R s (if c then a else b) := by
  split <;> assumption

theorem foldl {α : Type} {g : State → α → State} {l : List α} (hg : ∀ x a, Keeps F R x (g x a)) (h : Keeps F R s u) :
    Keeps F R s (l.foldl g u) := by
  induction l generalizing u with
  | nil => exact h
  | cons a l ih => exact ih (trans h (hg u a))

theorem setReg (r : Reg) (i : Nat) (v : Word) (s : State) : Keeps 0 (2 ^ r.ctorIdx) s (s.setReg r i v) := by
  refine ⟨fun f _ => ?_, fun q j hq => ?_, fun w => ?_, ?_, ?_⟩
  · unfold State.setReg; split_ifs <;> cases f <;> rfl
  · exact s.getReg_setReg_ne v (Or.inl (fun e => by subst e; simp at hq))
  · unfold State.setReg
    split_ifs with h
    · have := Tbl.wf_setD (d := resetAt) (r.addr i) v w
      rw [resetAt_addr h] at this
      exact this
    · exact w
  · unfold State.setReg; split_ifs <;> exact List.suffix_refl _
  · unfold State.setReg; split_ifs <;> exact le_refl _

/-- Registers that a predicate on offsets picks go back to their reset values. -/
theorem wipe {p : Nat → Bool} (s : State) (h : ∀ (r : Reg) i, R.testBit r.ctorIdx = false → i < r.info.count → p (r.addr i) = false) :
    Keeps 0 R s (s.wipeRegs p) := by
  have find : ∀ (t : Tbl Word) (a : Nat), p a = false → Tbl.find (t.filter (fun e => !p e.1)) a = Tbl.find t a := by
    intro t a ha
    induction t with
    | nil => rfl
    | cons e t ih =>
      obtain ⟨k, v⟩ := e
      rw [List.filter_cons]
      by_cases e : k = a
      · subst e; simp [ha, Tbl.find]
      · split_ifs <;> simp [Tbl.find, e, ih]
  have canon : ∀ (t : Tbl Word) lo, Tbl.wfFrom resetAt lo t = true → Tbl.wfFrom resetAt lo (t.filter (fun e => !p e.1)) = true := by
    intro t
    induction t with
    | nil => intro lo _; rfl
    | cons e t ih =>
      obtain ⟨k, v⟩ := e
      intro lo w
      simp only [Tbl.wfFrom, Bool.and_eq_true, decide_eq_true_eq] at w
      rw [List.filter_cons]
      split_ifs
      · simp only [Tbl.wfFrom, Bool.and_eq_true, decide_eq_true_eq]
        exact ⟨w.1, ih _ w.2⟩
      · exact Tbl.wfFrom_mono (by omega) (ih _ w.2)
  refine ⟨fun f _ => by cases f <;> rfl, fun r i hr => ?_, canon _ 0, List.suffix_refl _, le_refl _⟩
  unfold State.getReg
  split_ifs with hi
  · have := find s.regs (r.addr i) (h r i hr hi)
    simp [State.wipeRegs, Tbl.getD, this]
  · rfl

theorem emit (o : Output) (s : State) : Keeps 0 0 s (s.emit o) :=
  ⟨fun f _ => by cases f <;> rfl, fun _ _ _ => rfl, id, List.suffix_cons _ _, le_refl _⟩

/-- An update of fields. -/
theorem upd (_hp : t.pending = u.pending) (hf : ∀ f : Field, F.testBit f.ctorIdx = false → State.same u t f) (hr : t.regs = u.regs) (ho : t.out = u.out)
    (hn : t.free = u.free) : Keeps F 0 u t :=
  ⟨hf, fun r i _ => State.getReg_congr hr r i, fun w => by rw [hr]; exact w, by rw [ho], le_of_eq hn.symm⟩

/-- An update of several fields. -/
theorem updMk {x_now : Nat} {x_portA : HostPort} {x_portB : HostPort} {x_interp : Interp} {x_sem : Sem} {x_prof : Profiles}
    {x_evin : Tbl EvIn} {x_evLim : Tbl EvLimit} {x_tm : TimeSt} {x_ing : Ingest} {x_lode : Lode} {x_cam : Camera} {x_fab :
    Fabric} {x_dec : Tbl DecSession} {x_pools : Tbl Pool} {x_runs : Tbl Nat} {x_dramGranules : Nat} {x_boot : Boot} {x_enc :
    Encoder} {x_hd : Heads} {x_flt : Flt} {x_pair : Pair} {x_pwr : Power} {x_sl : Lanes} {x_mem : Memory} {x_aud : Audio} {x_tch
    : Touch} {x_latches : Tbl (List Word)} {x_xing : Tbl Crossing}
    (hf : ∀ f : Field, F.testBit f.ctorIdx = false → State.same u ⟨u.pending, x_now, u.regs, x_portA, x_portB, x_interp, x_sem,
    x_prof, x_evin, x_evLim, x_tm, x_ing, x_lode, x_cam, x_fab, x_dec, x_pools, x_runs, x_dramGranules, x_boot, x_enc, x_hd,
    x_flt, x_pair, x_pwr, x_sl, x_mem, x_aud, x_tch, x_latches, x_xing, u.free, u.out⟩ f) :
    Keeps F 0 u ⟨u.pending, x_now, u.regs, x_portA, x_portB, x_interp, x_sem, x_prof, x_evin, x_evLim, x_tm, x_ing, x_lode,
    x_cam, x_fab, x_dec, x_pools, x_runs, x_dramGranules, x_boot, x_enc, x_hd, x_flt, x_pair, x_pwr, x_sl, x_mem, x_aud, x_tch,
    x_latches, x_xing, u.free, u.out⟩ :=
  ⟨hf, fun _ _ _ => rfl, id, List.suffix_refl _, le_refl _⟩

theorem upd_now (x) (s : State) : Keeps 2 0 s { s with now := x } :=
  upd rfl (by intro f hf; cases f <;> first | rfl | exact absurd hf (by decide)) rfl rfl rfl

theorem upd_portA (x) (s : State) : Keeps 4 0 s { s with portA := x } :=
  upd rfl (by intro f hf; cases f <;> first | rfl | exact absurd hf (by decide)) rfl rfl rfl

theorem upd_portB (x) (s : State) : Keeps 8 0 s { s with portB := x } :=
  upd rfl (by intro f hf; cases f <;> first | rfl | exact absurd hf (by decide)) rfl rfl rfl

theorem upd_interp (x) (s : State) : Keeps 16 0 s { s with interp := x } :=
  upd rfl (by intro f hf; cases f <;> first | rfl | exact absurd hf (by decide)) rfl rfl rfl

theorem upd_sem (x) (s : State) : Keeps 32 0 s { s with sem := x } :=
  upd rfl (by intro f hf; cases f <;> first | rfl | exact absurd hf (by decide)) rfl rfl rfl

theorem upd_prof (x) (s : State) : Keeps 64 0 s { s with prof := x } :=
  upd rfl (by intro f hf; cases f <;> first | rfl | exact absurd hf (by decide)) rfl rfl rfl

theorem upd_evin (x) (s : State) : Keeps 128 0 s { s with evin := x } :=
  upd rfl (by intro f hf; cases f <;> first | rfl | exact absurd hf (by decide)) rfl rfl rfl

theorem upd_evLim (x) (s : State) : Keeps 256 0 s { s with evLim := x } :=
  upd rfl (by intro f hf; cases f <;> first | rfl | exact absurd hf (by decide)) rfl rfl rfl

theorem upd_tm (x) (s : State) : Keeps 512 0 s { s with tm := x } :=
  upd rfl (by intro f hf; cases f <;> first | rfl | exact absurd hf (by decide)) rfl rfl rfl

theorem upd_ing (x) (s : State) : Keeps 1024 0 s { s with ing := x } :=
  upd rfl (by intro f hf; cases f <;> first | rfl | exact absurd hf (by decide)) rfl rfl rfl

theorem upd_lode (x) (s : State) : Keeps 2048 0 s { s with lode := x } :=
  upd rfl (by intro f hf; cases f <;> first | rfl | exact absurd hf (by decide)) rfl rfl rfl

theorem upd_cam (x) (s : State) : Keeps 4096 0 s { s with cam := x } :=
  upd rfl (by intro f hf; cases f <;> first | rfl | exact absurd hf (by decide)) rfl rfl rfl

theorem upd_fab (x) (s : State) : Keeps 8192 0 s { s with fab := x } :=
  upd rfl (by intro f hf; cases f <;> first | rfl | exact absurd hf (by decide)) rfl rfl rfl

theorem upd_dec (x) (s : State) : Keeps 16384 0 s { s with dec := x } :=
  upd rfl (by intro f hf; cases f <;> first | rfl | exact absurd hf (by decide)) rfl rfl rfl

theorem upd_pools (x) (s : State) : Keeps 32768 0 s { s with pools := x } :=
  upd rfl (by intro f hf; cases f <;> first | rfl | exact absurd hf (by decide)) rfl rfl rfl

theorem upd_runs (x) (s : State) : Keeps 65536 0 s { s with runs := x } :=
  upd rfl (by intro f hf; cases f <;> first | rfl | exact absurd hf (by decide)) rfl rfl rfl

theorem upd_dramGranules (x) (s : State) : Keeps 131072 0 s { s with dramGranules := x } :=
  upd rfl (by intro f hf; cases f <;> first | rfl | exact absurd hf (by decide)) rfl rfl rfl

theorem upd_boot (x) (s : State) : Keeps 262144 0 s { s with boot := x } :=
  upd rfl (by intro f hf; cases f <;> first | rfl | exact absurd hf (by decide)) rfl rfl rfl

theorem upd_enc (x) (s : State) : Keeps 524288 0 s { s with enc := x } :=
  upd rfl (by intro f hf; cases f <;> first | rfl | exact absurd hf (by decide)) rfl rfl rfl

theorem upd_hd (x) (s : State) : Keeps 1048576 0 s { s with hd := x } :=
  upd rfl (by intro f hf; cases f <;> first | rfl | exact absurd hf (by decide)) rfl rfl rfl

theorem upd_flt (x) (s : State) : Keeps 2097152 0 s { s with flt := x } :=
  upd rfl (by intro f hf; cases f <;> first | rfl | exact absurd hf (by decide)) rfl rfl rfl

theorem upd_pair (x) (s : State) : Keeps 4194304 0 s { s with pair := x } :=
  upd rfl (by intro f hf; cases f <;> first | rfl | exact absurd hf (by decide)) rfl rfl rfl

theorem upd_pwr (x) (s : State) : Keeps 8388608 0 s { s with pwr := x } :=
  upd rfl (by intro f hf; cases f <;> first | rfl | exact absurd hf (by decide)) rfl rfl rfl

theorem upd_sl (x) (s : State) : Keeps 16777216 0 s { s with sl := x } :=
  upd rfl (by intro f hf; cases f <;> first | rfl | exact absurd hf (by decide)) rfl rfl rfl

theorem upd_mem (x) (s : State) : Keeps 33554432 0 s { s with mem := x } :=
  upd rfl (by intro f hf; cases f <;> first | rfl | exact absurd hf (by decide)) rfl rfl rfl

theorem upd_aud (x) (s : State) : Keeps 67108864 0 s { s with aud := x } :=
  upd rfl (by intro f hf; cases f <;> first | rfl | exact absurd hf (by decide)) rfl rfl rfl

theorem upd_tch (x) (s : State) : Keeps 134217728 0 s { s with tch := x } :=
  upd rfl (by intro f hf; cases f <;> first | rfl | exact absurd hf (by decide)) rfl rfl rfl

theorem upd_latches (x) (s : State) : Keeps 268435456 0 s { s with latches := x } :=
  upd rfl (by intro f hf; cases f <;> first | rfl | exact absurd hf (by decide)) rfl rfl rfl

theorem upd_xing (x) (s : State) : Keeps 536870912 0 s { s with xing := x } :=
  upd rfl (by intro f hf; cases f <;> first | rfl | exact absurd hf (by decide)) rfl rfl rfl

/-! A register write among those a mask allows. -/

theorem stepReg {r : Reg} {i : Nat} {v : Word} (h : Keeps F R s u) (hr : R.testBit r.ctorIdx = true) : Keeps F R s (u.setReg r i v) := by
  exact comp h (setReg r i v u) (subI (Nat.zero_or _) (orBit hr))

theorem stepSetBits {r : Reg} {i hi lo n : Nat} (h : Keeps F R s u) (hr : R.testBit r.ctorIdx = true) :
    Keeps F R s (u.setBits r i hi lo n) := stepReg h hr

theorem stepSetBit {r : Reg} {i k : Nat} {b : Bool} (h : Keeps F R s u) (hr : R.testBit r.ctorIdx = true) :
    Keeps F R s (u.setBit r i k b) := stepReg h hr

theorem stepAddSatBits {r : Reg} {i hi lo n : Nat} (h : Keeps F R s u) (hr : R.testBit r.ctorIdx = true) :
    Keeps F R s (u.addSatBits r i hi lo n) := stepReg h hr

theorem stepAddSat {r : Reg} {i n : Nat} (h : Keeps F R s u) (hr : R.testBit r.ctorIdx = true) :
    Keeps F R s (u.addSat r i n) := stepReg h hr

theorem stepBumpSat {r : Reg} {i : Nat} (h : Keeps F R s u) (hr : R.testBit r.ctorIdx = true) :
    Keeps F R s (u.bumpSat r i) := stepReg h hr

theorem stepAddWrapBits {r : Reg} {i hi lo n : Nat} (h : Keeps F R s u) (hr : R.testBit r.ctorIdx = true) :
    Keeps F R s (u.addWrapBits r i hi lo n) := stepReg h hr

theorem stepBumpWrap {r : Reg} {i : Nat} (h : Keeps F R s u) (hr : R.testBit r.ctorIdx = true) :
    Keeps F R s (u.bumpWrap r i) := stepReg h hr

theorem stepSetSigned {r : Reg} {i : Nat} {v : Int} (h : Keeps F R s u) (hr : R.testBit r.ctorIdx = true) :
    Keeps F R s (u.setSigned r i v) := stepReg h hr

theorem draw (s : State) : Keeps 0 0 s { s with free := s.free + 1 } :=
  ⟨fun f _ => by cases f <;> rfl, fun _ _ _ => rfl, id, List.suffix_refl _, Nat.le_succ _⟩

theorem drawn (s : State) : Keeps 0 0 s s.draw.2 := draw s

theorem ofSnd {α : Type} {p : α × State} {v : α} (h : p = (v, t)) (k : Keeps F R s p.2) : Keeps F R s t := by rw [h] at k; exact k

theorem ofFst {α : Type} {p : State × α} {v : α} (h : p = (t, v)) (k : Keeps F R s p.1) : Keeps F R s t := by rw [h] at k; exact k

theorem ofOpt {o : Option State} (h : o = some t) (k : KeepsM F R s o) : Keeps F R s t := k t h

theorem iteQ {α : Type} {c : Prop} {_ : Decidable c} {a b : State × α} (h : Keeps F R s a.1) (k : Keeps F R s b.1) :
    Keeps F R s (if c then a else b).1 := by split <;> assumption

theorem foldlP {α β : Type} {g : α × State → β → α × State} {l : List β} {p : α × State} (hg : ∀ x a, Keeps F R x.2 (g x a).2)
    (h : Keeps F R s p.2) : Keeps F R s (l.foldl g p).2 := by
  induction l generalizing p with
  | nil => exact h
  | cons a l ih => exact ih (trans h (hg p a))

theorem foldlQ {α β : Type} {g : State × α → β → State × α} {l : List β} {p : State × α} (hg : ∀ x a, Keeps F R x.1 (g x a).1)
    (h : Keeps F R s p.1) : Keeps F R s (l.foldl g p).1 := by
  induction l generalizing p with
  | nil => exact h
  | cons a l ih => exact ih (trans h (hg p a))

theorem getD {o : Option State} {d : State} (k : KeepsM F R s o) (h : Keeps F R s d) : Keeps F R s (o.getD d) := by
  cases o with
  | none => exact h
  | some u => exact k u rfl

theorem compO {G Q : Nat} {o : Host.Outcome State Fault Refusal} (h : Keeps F R s u) (k : KeepsO G Q u o) (hs : sub G F Q R = true) :
    KeepsO F R s o := fun t e => comp h (k t e) hs

theorem compM {G Q : Nat} {o : Option State} (h : Keeps F R s u) (k : KeepsM G Q u o) (hs : sub G F Q R = true) :
    KeepsM F R s o := fun t e => comp h (k t e) hs

theorem ofOptP {α : Type} {v : α} {o : Option (α × State)} (h : o = some (v, t)) (k : KeepsMP F R s o) : Keeps F R s t := k v t h

theorem ofSnd2 {α β : Type} {p : α × β × State} {v : α} {w : β} (h : p = (v, w, t)) (k : Keeps F R s p.2.2) : Keeps F R s t := by
  rw [h] at k; exact k

theorem errorE {α β : Type} {e : α × β × State} (h : Keeps F R s e.2.2) : KeepsE F R s (.error e) := h

theorem okE {α β : Type} (h : Keeps F R s t) : KeepsE F R s (.ok t : Except (α × β × State) State) := h

theorem iteE {α β : Type} {c : Prop} {_ : Decidable c} {a b : Except (α × β × State) State} (h : KeepsE F R s a) (k : KeepsE F R s b) :
    KeepsE F R s (if c then a else b) := by split <;> assumption

theorem compMP {α : Type} {G Q : Nat} {o : Option (α × State)} (h : Keeps F R s u) (k : KeepsMP G Q u o) (hs : sub G F Q R = true) :
    KeepsMP F R s o := fun v t e => comp h (k v t e) hs

theorem bindM {o : Option State} {f : State → Option State} (h : KeepsM F R s o) (k : ∀ x, KeepsM F R x (f x)) : KeepsM F R s (o.bind f) := by
  intro t e
  cases o with
  | none => cases e
  | some u => exact trans (h u rfl) (k u t e)

theorem mapP {α : Type} {o : Option (α × State)} {f : α × State → State} (h : KeepsMP F R s o) (k : ∀ v x, Keeps F R x (f (v, x))) :
    KeepsM F R s (o.map f) := by
  intro t e
  cases o with
  | none => cases e
  | some p => obtain rfl := Option.some.inj e; exact trans (h p.1 p.2 rfl) (k p.1 p.2)

theorem mapM {o : Option State} {f : State → State} (h : KeepsM F R s o) (k : ∀ x, Keeps F R x (f x)) : KeepsM F R s (o.map f) := by
  intro t e
  cases o with
  | none => cases e
  | some u => obtain rfl := Option.some.inj e; exact trans (h u rfl) (k u)

theorem putBinding {staged : Option State} {arm : State → State} (h0 : Keeps F R s u) (h : KeepsM F R u staged)
    (k : ∀ x, Keeps F R x (arm x)) : Keeps F R s (u.putBinding staged arm) := by
  unfold State.putBinding
  split
  · exact trans (trans h0 (h _ rfl)) (k _)
  · exact h0

/-- Every register stands in the mask of all registers. -/
theorem allBit (r : Reg) :
    Nat.testBit 68351585149469122636640694597425667667286544715412888638305331450311031224980497600734786781970431 r.ctorIdx = true := by
  have h : 68351585149469122636640694597425667667286544715412888638305331450311031224980497600734786781970431 = 2 ^ 325 - 1 := by
    rw [show 325 = 200 + 125 from rfl, Nat.pow_add]
  rw [h, Nat.testBit_two_pow_sub_one]
  exact decide_eq_true r.ctorIdx_lt

theorem iteP {α : Type} {c : Prop} {_ : Decidable c} {a b : α × State} (h : Keeps F R s a.2) (k : Keeps F R s b.2) :
    Keeps F R s (if c then a else b).2 := by split <;> assumption

theorem mono {G Q : Nat} (k : Keeps G Q s t) (hs : sub G F Q R = true) : Keeps F R s t := comp (refl F R s) k hs

theorem next (h : Keeps F R s t) : KeepsO F R s (.next t) := by intro u e; cases e; exact h

theorem iteO {c : Prop} {_ : Decidable c} {a b : Host.Outcome State Fault Refusal} (h : KeepsO F R s a) (k : KeepsO F R s b) :
    KeepsO F R s (if c then a else b) := by split <;> assumption

theorem monoO {G Q : Nat} {o : Host.Outcome State Fault Refusal} (k : KeepsO G Q s o) (hs : sub G F Q R = true) :
    KeepsO F R s o := fun t e => mono (k t e) hs

theorem nowA {st : Status} {b : List Byte} (h : Keeps F R s t) : KeepsA F R s (.now t st b) := h

theorem laterA (h : Keeps F R s t) : KeepsA F R s (.later t) := h

theorem refuseA {st : Status} {n : Nat} {b : List Byte} (h : Keeps F R s t) : KeepsA F R s (.refuse t st n b) := h

theorem doneA (h : Keeps F R s t) : KeepsA F R s (done t) := h

theorem iteA {c : Prop} {_ : Decidable c} {a b : Answer} (h : KeepsA F R s a) (k : KeepsA F R s b) : KeepsA F R s (if c then a else b) := by
  split <;> assumption

theorem someM (h : Keeps F R s t) : KeepsM F R s (some t) := by intro u e; cases e; exact h

theorem noneM (F R : Nat) (s : State) : KeepsM F R s none := by intro u e; cases e

theorem iteM {c : Prop} {_ : Decidable c} {a b : Option State} (h : KeepsM F R s a) (k : KeepsM F R s b) : KeepsM F R s (if c then a else b) := by
  split <;> assumption

theorem monoM {G Q : Nat} {o : Option State} (k : KeepsM G Q s o) (hs : sub G F Q R = true) : KeepsM F R s o :=
  fun t e => mono (k t e) hs

end KeepsLaws
end Sys2Proof.Machine
end

