-- ==== Sys2Proof/Laws/FrameOps.lean ====
section
/-! SUPPORT. What each operation of Machine/Ops.lean can change at most (Keeps): masks of fields and of registers. -/

namespace Sys2Proof.Machine

theorem State.setPort_keeps (s : State) (p : Port) (h : HostPort) :
    Keeps 12 0 s (State.setPort s p h) := by
  unfold State.setPort
  split
  · with_reducible refine KeepsLaws.comp ?_ (KeepsLaws.upd_portA ..) (KeepsLaws.subI rfl rfl)
    exact KeepsLaws.refl ..
  · with_reducible refine KeepsLaws.comp ?_ (KeepsLaws.upd_portB ..) (KeepsLaws.subI rfl rfl)
    exact KeepsLaws.refl ..

theorem State.modPort_keeps (s : State) (p : Port) (f : HostPort → HostPort) :
    Keeps 12 0 s (State.modPort s p f) := by
  unfold State.modPort
  with_reducible refine KeepsLaws.comp ?_ (State.setPort_keeps ..) (KeepsLaws.subI rfl rfl)
  exact KeepsLaws.refl ..

theorem State.pushRecord_keeps (s : State) (p : Port) (r : Record) :
    Keeps 12 65536 s (State.pushRecord s p r) := by
  unfold State.pushRecord
  extract_lets
  rename_i e0 e1 e2 e3
  have h_e2 : Keeps 12 65536 s e2 := by
    unfold e2
    with_reducible refine KeepsLaws.comp ?_ (KeepsLaws.emit ..) (KeepsLaws.subI rfl rfl)
    exact KeepsLaws.refl ..
  clear_value e2
  have h_e3 : Keeps 12 65536 s e3 := by
    unfold e3
    with_reducible refine KeepsLaws.stepSetBits ?_ (KeepsLaws.bitI rfl)
    assumption
  clear_value e3
  with_reducible refine KeepsLaws.ite ?_ ?_
  · with_reducible refine KeepsLaws.comp ?_ (State.modPort_keeps ..) (KeepsLaws.subI rfl rfl)
    assumption
  · assumption

theorem State.irq_keeps (s : State) (p : Port) (v : ℕ) :
    Keeps 0 0 s (State.irq s p v) := by
  unfold State.irq
  with_reducible refine KeepsLaws.comp ?_ (KeepsLaws.emit ..) (KeepsLaws.subI rfl rfl)
  exact KeepsLaws.refl ..

theorem State.signal0_keeps (s : State) (p : Port) :
    Keeps 12 0 s (State.signal0 s p) := by
  unfold State.signal0
  extract_lets
  rename_i e0
  with_reducible refine KeepsLaws.ite ?_ ?_
  · with_reducible refine KeepsLaws.comp ?_ (State.irq_keeps ..) (KeepsLaws.subI rfl rfl)
    exact KeepsLaws.refl ..
  · split
    · with_reducible refine KeepsLaws.comp ?_ (State.irq_keeps ..) (KeepsLaws.subI rfl rfl)
      with_reducible refine KeepsLaws.comp ?_ (State.modPort_keeps ..) (KeepsLaws.subI rfl rfl)
      exact KeepsLaws.refl ..
    · with_reducible refine KeepsLaws.comp ?_ (State.modPort_keeps ..) (KeepsLaws.subI rfl rfl)
      exact KeepsLaws.refl ..

theorem State.putReply_keeps (s : State) (r : Req) (op : ℕ) (status : ℕ) (reason : ℕ) (restarted : Bool) (body : List Byte) :
    Keeps 12 2686976 s (State.putReply s r op status reason restarted body) := by
  unfold State.putReply
  extract_lets
  rename_i e0 e1 e2
  have h_e1 : Keeps 12 2686976 s e1 := by
    unfold e1
    with_reducible refine KeepsLaws.ite ?_ ?_
    · with_reducible refine KeepsLaws.stepBumpSat ?_ (KeepsLaws.bitI rfl)
      exact KeepsLaws.refl ..
    · exact KeepsLaws.refl ..
  clear_value e1
  have h_e2 : Keeps 12 2686976 s e2 := by
    unfold e2
    with_reducible refine KeepsLaws.comp ?_ (State.pushRecord_keeps ..) (KeepsLaws.subI rfl rfl)
    assumption
  clear_value e2
  with_reducible refine KeepsLaws.ite ?_ ?_
  · with_reducible refine KeepsLaws.ite ?_ ?_
    · with_reducible refine KeepsLaws.comp ?_ (State.irq_keeps ..) (KeepsLaws.subI rfl rfl)
      assumption
    · with_reducible refine KeepsLaws.comp ?_ (State.signal0_keeps ..) (KeepsLaws.subI rfl rfl)
      assumption
  · with_reducible refine KeepsLaws.stepBumpSat ?_ (KeepsLaws.bitI rfl)
    exact KeepsLaws.refl ..

theorem State.freeTag_keeps (s : State) (r : Req) :
    Keeps 12 0 s (State.freeTag s r) := by
  unfold State.freeTag
  with_reducible refine KeepsLaws.comp ?_ (State.modPort_keeps ..) (KeepsLaws.subI rfl rfl)
  exact KeepsLaws.refl ..

theorem State.replyR_keeps (s : State) (r : Req) (op : ℕ) (status : ℕ) (reason : ℕ) (restarted : Bool) (body : List Byte) :
    Keeps 28 2686976 s (State.replyR s r op status reason restarted body) := by
  unfold State.replyR
  split
  · with_reducible refine KeepsLaws.comp ?_ (KeepsLaws.upd_interp ..) (KeepsLaws.subI rfl rfl)
    exact KeepsLaws.refl ..
  · with_reducible refine KeepsLaws.comp ?_ (State.freeTag_keeps ..) (KeepsLaws.subI rfl rfl)
    with_reducible refine KeepsLaws.comp ?_ (State.putReply_keeps ..) (KeepsLaws.subI rfl rfl)
    exact KeepsLaws.refl ..

theorem State.eventTo_keeps (s : State) (p : Port) (t : ℕ) (code : ℕ) (fields : List Byte) :
    Keeps 12 593920 s (State.eventTo s p t code fields) := by
  unfold State.eventTo
  with_reducible refine KeepsLaws.ite ?_ ?_
  · extract_lets
    rename_i e0 e1 e2 e3 e4
    have h_e1 : Keeps 12 593920 s e1 := by
      unfold e1
      with_reducible refine KeepsLaws.comp ?_ (State.modPort_keeps ..) (KeepsLaws.subI rfl rfl)
      exact KeepsLaws.refl ..
    clear_value e1
    have h_e3 : Keeps 12 593920 s e3 := by
      unfold e3
      with_reducible refine KeepsLaws.stepSetBit ?_ (KeepsLaws.bitI rfl)
      with_reducible refine KeepsLaws.stepBumpSat ?_ (KeepsLaws.bitI rfl)
      assumption
    clear_value e3
    have h_e4 : Keeps 12 593920 s e4 := by
      unfold e4
      with_reducible refine KeepsLaws.comp ?_ (State.modPort_keeps ..) (KeepsLaws.subI rfl rfl)
      assumption
    clear_value e4
    with_reducible refine KeepsLaws.ite ?_ ?_
    · with_reducible refine KeepsLaws.ite ?_ ?_
      · with_reducible refine KeepsLaws.comp ?_ (State.irq_keeps ..) (KeepsLaws.subI rfl rfl)
        assumption
      · assumption
    · with_reducible refine KeepsLaws.comp ?_ (State.signal0_keeps ..) (KeepsLaws.subI rfl rfl)
      with_reducible refine KeepsLaws.comp ?_ (State.pushRecord_keeps ..) (KeepsLaws.subI rfl rfl)
      assumption
  · exact KeepsLaws.refl ..

theorem State.eventAt_keeps (s : State) (t : ℕ) (code : ℕ) (fields : List Byte) :
    Keeps 12 593920 s (State.eventAt s t code fields) := by
  unfold State.eventAt
  with_reducible refine KeepsLaws.comp ?_ (State.eventTo_keeps ..) (KeepsLaws.subI rfl rfl)
  with_reducible refine KeepsLaws.comp ?_ (State.eventTo_keeps ..) (KeepsLaws.subI rfl rfl)
  exact KeepsLaws.refl ..

theorem State.event_keeps (s : State) (code : ℕ) (fields : List Byte) :
    Keeps 12 593920 s (State.event s code fields) := by
  unfold State.event
  with_reducible refine KeepsLaws.comp ?_ (State.eventAt_keeps ..) (KeepsLaws.subI rfl rfl)
  exact KeepsLaws.refl ..

theorem State.setLim_keeps (s : State) (code : ℕ) (inst : ℕ) (l : EvLimit) :
    Keeps 256 0 s (State.setLim s code inst l) := by
  unfold State.setLim
  with_reducible refine KeepsLaws.comp ?_ (KeepsLaws.upd_evLim ..) (KeepsLaws.subI rfl rfl)
  exact KeepsLaws.refl ..

theorem State.eventPerSec_keeps (s : State) (code : ℕ) (inst : ℕ) (n : ℕ) (mk : ℕ → List Byte) :
    Keeps 268 593920 s (State.eventPerSec s code inst n mk) := by
  unfold State.eventPerSec
  extract_lets
  rename_i e0 e1
  split
  · with_reducible refine KeepsLaws.ite ?_ ?_
    · with_reducible refine KeepsLaws.comp ?_ (State.setLim_keeps ..) (KeepsLaws.subI rfl rfl)
      exact KeepsLaws.refl ..
    · with_reducible refine KeepsLaws.comp ?_ (State.event_keeps ..) (KeepsLaws.subI rfl rfl)
      with_reducible refine KeepsLaws.comp ?_ (State.setLim_keeps ..) (KeepsLaws.subI rfl rfl)
      exact KeepsLaws.refl ..
  · with_reducible refine KeepsLaws.comp ?_ (State.event_keeps ..) (KeepsLaws.subI rfl rfl)
    with_reducible refine KeepsLaws.comp ?_ (State.setLim_keeps ..) (KeepsLaws.subI rfl rfl)
    exact KeepsLaws.refl ..

theorem State.eventLimited_keeps (s : State) (code : ℕ) (inst : ℕ) (n : ℕ) (t : ℕ) (fields : List Byte) :
    Keeps 268 593920 s (State.eventLimited s code inst n t fields) := by
  unfold State.eventLimited
  with_reducible refine KeepsLaws.ite ?_ ?_
  · extract_lets
    rename_i e0
    with_reducible refine KeepsLaws.comp ?_ (State.eventAt_keeps ..) (KeepsLaws.subI rfl rfl)
    with_reducible refine KeepsLaws.comp ?_ (State.setLim_keeps ..) (KeepsLaws.subI rfl rfl)
    exact KeepsLaws.refl ..
  · exact KeepsLaws.refl ..

theorem State.endInterp_keeps (s : State) :
    Keeps 16 0 s (State.endInterp s) := by
  unfold State.endInterp
  with_reducible refine KeepsLaws.comp ?_ (KeepsLaws.upd_interp ..) (KeepsLaws.subI rfl rfl)
  exact KeepsLaws.refl ..

/-- A command packet changes what its effect may change, and its reply's port, interpreter and event-ring registers. -/
theorem KeepsLaws.command {F R : Nat} {op : Nat} {r : Req} {s : State} {need : List Nat} {bad : Bool} {c : Pre} {eff : State → Answer}
    (hs : KeepsLaws.sub 28 F 2686976 R = true) (h : ∀ x, KeepsA F R x (eff x)) : KeepsO F R s (command op r s need bad c eff) := by
  have reply : ∀ (u : State) st why rs b, Keeps F R u (u.replyR r op st why rs b) := fun u st why rs b =>
    KeepsLaws.mono (State.replyR_keeps ..) hs
  have fin : Keeps F R s s.endInterp := KeepsLaws.comp (KeepsLaws.refl ..) (State.endInterp_keeps ..) (by
    simp only [KeepsLaws.sub, Bool.and_eq_true, beq_iff_eq] at hs ⊢
    exact ⟨by conv_lhs => rw [← hs.1, ← Nat.or_assoc]
              exact hs.1, Nat.zero_or _⟩)
  unfold Machine.command
  refine KeepsLaws.iteO ?_ (KeepsLaws.next (KeepsLaws.refl ..))
  dsimp only
  split
  · exact KeepsLaws.next (KeepsLaws.trans fin (reply ..))
  · have e := h s.endInterp
    split <;> rename_i heq <;> rw [heq] at e
    · exact KeepsLaws.next (KeepsLaws.trans (KeepsLaws.trans fin e) (reply ..))
    · exact KeepsLaws.next (KeepsLaws.trans fin e)
    · exact KeepsLaws.next (KeepsLaws.trans (KeepsLaws.trans fin e) (reply ..))

end Sys2Proof.Machine
end

