-- ==== Sys2Proof/Laws/State.lean ====
section
/-! SUPPORT. One lemma per field per named update of Machine/Ops.lean: which fields of State an update leaves as they were, and what
it leaves in the one it changes. -/

namespace Sys2Proof

/-- A port's number is a member of every array of two. -/
theorem Port.idx_lt (p : Port) : p.idx < 2 := by cases p <;> decide

@[simp] theorem Port.other_other (p : Port) : p.other.other = p := by cases p <;> rfl
@[simp] theorem Port.other_ne (p : Port) : p.other ≠ p := by cases p <;> decide
@[simp] theorem Port.ne_other (p : Port) : p ≠ p.other := by cases p <;> decide
theorem Port.idx_inj {p q : Port} (h : p.idx = q.idx) : p = q := by cases p <;> cases q <;> first | rfl | cases h

end Sys2Proof

namespace Sys2Proof.Machine

/-! ### Register writes -/

@[simp] theorem State.setReg_pending (s : State) (r : Reg) (i : Nat) (v : Word) : (s.setReg r i v).pending = s.pending := by unfold State.setReg; split_ifs <;> rfl
@[simp] theorem State.setReg_now (s : State) (r : Reg) (i : Nat) (v : Word) : (s.setReg r i v).now = s.now := by unfold State.setReg; split_ifs <;> rfl
@[simp] theorem State.setReg_portA (s : State) (r : Reg) (i : Nat) (v : Word) : (s.setReg r i v).portA = s.portA := by unfold State.setReg; split_ifs <;> rfl
@[simp] theorem State.setReg_portB (s : State) (r : Reg) (i : Nat) (v : Word) : (s.setReg r i v).portB = s.portB := by unfold State.setReg; split_ifs <;> rfl
@[simp] theorem State.setReg_interp (s : State) (r : Reg) (i : Nat) (v : Word) : (s.setReg r i v).interp = s.interp := by unfold State.setReg; split_ifs <;> rfl
@[simp] theorem State.setReg_sem (s : State) (r : Reg) (i : Nat) (v : Word) : (s.setReg r i v).sem = s.sem := by unfold State.setReg; split_ifs <;> rfl
@[simp] theorem State.setReg_prof (s : State) (r : Reg) (i : Nat) (v : Word) : (s.setReg r i v).prof = s.prof := by unfold State.setReg; split_ifs <;> rfl
@[simp] theorem State.setReg_evin (s : State) (r : Reg) (i : Nat) (v : Word) : (s.setReg r i v).evin = s.evin := by unfold State.setReg; split_ifs <;> rfl
@[simp] theorem State.setReg_evLim (s : State) (r : Reg) (i : Nat) (v : Word) : (s.setReg r i v).evLim = s.evLim := by unfold State.setReg; split_ifs <;> rfl
@[simp] theorem State.setReg_tm (s : State) (r : Reg) (i : Nat) (v : Word) : (s.setReg r i v).tm = s.tm := by unfold State.setReg; split_ifs <;> rfl
@[simp] theorem State.setReg_ing (s : State) (r : Reg) (i : Nat) (v : Word) : (s.setReg r i v).ing = s.ing := by unfold State.setReg; split_ifs <;> rfl
@[simp] theorem State.setReg_lode (s : State) (r : Reg) (i : Nat) (v : Word) : (s.setReg r i v).lode = s.lode := by unfold State.setReg; split_ifs <;> rfl
@[simp] theorem State.setReg_cam (s : State) (r : Reg) (i : Nat) (v : Word) : (s.setReg r i v).cam = s.cam := by unfold State.setReg; split_ifs <;> rfl
@[simp] theorem State.setReg_fab (s : State) (r : Reg) (i : Nat) (v : Word) : (s.setReg r i v).fab = s.fab := by unfold State.setReg; split_ifs <;> rfl
@[simp] theorem State.setReg_dec (s : State) (r : Reg) (i : Nat) (v : Word) : (s.setReg r i v).dec = s.dec := by unfold State.setReg; split_ifs <;> rfl
@[simp] theorem State.setReg_pools (s : State) (r : Reg) (i : Nat) (v : Word) : (s.setReg r i v).pools = s.pools := by unfold State.setReg; split_ifs <;> rfl
@[simp] theorem State.setReg_runs (s : State) (r : Reg) (i : Nat) (v : Word) : (s.setReg r i v).runs = s.runs := by unfold State.setReg; split_ifs <;> rfl
@[simp] theorem State.setReg_dramGranules (s : State) (r : Reg) (i : Nat) (v : Word) : (s.setReg r i v).dramGranules = s.dramGranules := by unfold State.setReg; split_ifs <;> rfl
@[simp] theorem State.setReg_boot (s : State) (r : Reg) (i : Nat) (v : Word) : (s.setReg r i v).boot = s.boot := by unfold State.setReg; split_ifs <;> rfl
@[simp] theorem State.setReg_enc (s : State) (r : Reg) (i : Nat) (v : Word) : (s.setReg r i v).enc = s.enc := by unfold State.setReg; split_ifs <;> rfl
@[simp] theorem State.setReg_hd (s : State) (r : Reg) (i : Nat) (v : Word) : (s.setReg r i v).hd = s.hd := by unfold State.setReg; split_ifs <;> rfl
@[simp] theorem State.setReg_flt (s : State) (r : Reg) (i : Nat) (v : Word) : (s.setReg r i v).flt = s.flt := by unfold State.setReg; split_ifs <;> rfl
@[simp] theorem State.setReg_pair (s : State) (r : Reg) (i : Nat) (v : Word) : (s.setReg r i v).pair = s.pair := by unfold State.setReg; split_ifs <;> rfl
@[simp] theorem State.setReg_pwr (s : State) (r : Reg) (i : Nat) (v : Word) : (s.setReg r i v).pwr = s.pwr := by unfold State.setReg; split_ifs <;> rfl
@[simp] theorem State.setReg_sl (s : State) (r : Reg) (i : Nat) (v : Word) : (s.setReg r i v).sl = s.sl := by unfold State.setReg; split_ifs <;> rfl
@[simp] theorem State.setReg_mem (s : State) (r : Reg) (i : Nat) (v : Word) : (s.setReg r i v).mem = s.mem := by unfold State.setReg; split_ifs <;> rfl
@[simp] theorem State.setReg_aud (s : State) (r : Reg) (i : Nat) (v : Word) : (s.setReg r i v).aud = s.aud := by unfold State.setReg; split_ifs <;> rfl
@[simp] theorem State.setReg_tch (s : State) (r : Reg) (i : Nat) (v : Word) : (s.setReg r i v).tch = s.tch := by unfold State.setReg; split_ifs <;> rfl
@[simp] theorem State.setReg_latches (s : State) (r : Reg) (i : Nat) (v : Word) : (s.setReg r i v).latches = s.latches := by unfold State.setReg; split_ifs <;> rfl
@[simp] theorem State.setReg_xing (s : State) (r : Reg) (i : Nat) (v : Word) : (s.setReg r i v).xing = s.xing := by unfold State.setReg; split_ifs <;> rfl
@[simp] theorem State.setReg_free (s : State) (r : Reg) (i : Nat) (v : Word) : (s.setReg r i v).free = s.free := by unfold State.setReg; split_ifs <;> rfl
@[simp] theorem State.setReg_out (s : State) (r : Reg) (i : Nat) (v : Word) : (s.setReg r i v).out = s.out := by unfold State.setReg; split_ifs <;> rfl

@[simp] theorem State.setBits_pending (s : State) (r : Reg) (i hi lo n : Nat) : (s.setBits r i hi lo n).pending = s.pending := State.setReg_pending ..
@[simp] theorem State.setBits_now (s : State) (r : Reg) (i hi lo n : Nat) : (s.setBits r i hi lo n).now = s.now := State.setReg_now ..
@[simp] theorem State.setBits_portA (s : State) (r : Reg) (i hi lo n : Nat) : (s.setBits r i hi lo n).portA = s.portA := State.setReg_portA ..
@[simp] theorem State.setBits_portB (s : State) (r : Reg) (i hi lo n : Nat) : (s.setBits r i hi lo n).portB = s.portB := State.setReg_portB ..
@[simp] theorem State.setBits_interp (s : State) (r : Reg) (i hi lo n : Nat) : (s.setBits r i hi lo n).interp = s.interp := State.setReg_interp ..
@[simp] theorem State.setBits_sem (s : State) (r : Reg) (i hi lo n : Nat) : (s.setBits r i hi lo n).sem = s.sem := State.setReg_sem ..
@[simp] theorem State.setBits_prof (s : State) (r : Reg) (i hi lo n : Nat) : (s.setBits r i hi lo n).prof = s.prof := State.setReg_prof ..
@[simp] theorem State.setBits_evin (s : State) (r : Reg) (i hi lo n : Nat) : (s.setBits r i hi lo n).evin = s.evin := State.setReg_evin ..
@[simp] theorem State.setBits_evLim (s : State) (r : Reg) (i hi lo n : Nat) : (s.setBits r i hi lo n).evLim = s.evLim := State.setReg_evLim ..
@[simp] theorem State.setBits_tm (s : State) (r : Reg) (i hi lo n : Nat) : (s.setBits r i hi lo n).tm = s.tm := State.setReg_tm ..
@[simp] theorem State.setBits_ing (s : State) (r : Reg) (i hi lo n : Nat) : (s.setBits r i hi lo n).ing = s.ing := State.setReg_ing ..
@[simp] theorem State.setBits_lode (s : State) (r : Reg) (i hi lo n : Nat) : (s.setBits r i hi lo n).lode = s.lode := State.setReg_lode ..
@[simp] theorem State.setBits_cam (s : State) (r : Reg) (i hi lo n : Nat) : (s.setBits r i hi lo n).cam = s.cam := State.setReg_cam ..
@[simp] theorem State.setBits_fab (s : State) (r : Reg) (i hi lo n : Nat) : (s.setBits r i hi lo n).fab = s.fab := State.setReg_fab ..
@[simp] theorem State.setBits_dec (s : State) (r : Reg) (i hi lo n : Nat) : (s.setBits r i hi lo n).dec = s.dec := State.setReg_dec ..
@[simp] theorem State.setBits_pools (s : State) (r : Reg) (i hi lo n : Nat) : (s.setBits r i hi lo n).pools = s.pools := State.setReg_pools ..
@[simp] theorem State.setBits_runs (s : State) (r : Reg) (i hi lo n : Nat) : (s.setBits r i hi lo n).runs = s.runs := State.setReg_runs ..
@[simp] theorem State.setBits_dramGranules (s : State) (r : Reg) (i hi lo n : Nat) : (s.setBits r i hi lo n).dramGranules = s.dramGranules := State.setReg_dramGranules ..
@[simp] theorem State.setBits_boot (s : State) (r : Reg) (i hi lo n : Nat) : (s.setBits r i hi lo n).boot = s.boot := State.setReg_boot ..
@[simp] theorem State.setBits_enc (s : State) (r : Reg) (i hi lo n : Nat) : (s.setBits r i hi lo n).enc = s.enc := State.setReg_enc ..
@[simp] theorem State.setBits_hd (s : State) (r : Reg) (i hi lo n : Nat) : (s.setBits r i hi lo n).hd = s.hd := State.setReg_hd ..
@[simp] theorem State.setBits_flt (s : State) (r : Reg) (i hi lo n : Nat) : (s.setBits r i hi lo n).flt = s.flt := State.setReg_flt ..
@[simp] theorem State.setBits_pair (s : State) (r : Reg) (i hi lo n : Nat) : (s.setBits r i hi lo n).pair = s.pair := State.setReg_pair ..
@[simp] theorem State.setBits_pwr (s : State) (r : Reg) (i hi lo n : Nat) : (s.setBits r i hi lo n).pwr = s.pwr := State.setReg_pwr ..
@[simp] theorem State.setBits_sl (s : State) (r : Reg) (i hi lo n : Nat) : (s.setBits r i hi lo n).sl = s.sl := State.setReg_sl ..
@[simp] theorem State.setBits_mem (s : State) (r : Reg) (i hi lo n : Nat) : (s.setBits r i hi lo n).mem = s.mem := State.setReg_mem ..
@[simp] theorem State.setBits_aud (s : State) (r : Reg) (i hi lo n : Nat) : (s.setBits r i hi lo n).aud = s.aud := State.setReg_aud ..
@[simp] theorem State.setBits_tch (s : State) (r : Reg) (i hi lo n : Nat) : (s.setBits r i hi lo n).tch = s.tch := State.setReg_tch ..
@[simp] theorem State.setBits_latches (s : State) (r : Reg) (i hi lo n : Nat) : (s.setBits r i hi lo n).latches = s.latches := State.setReg_latches ..
@[simp] theorem State.setBits_xing (s : State) (r : Reg) (i hi lo n : Nat) : (s.setBits r i hi lo n).xing = s.xing := State.setReg_xing ..
@[simp] theorem State.setBits_free (s : State) (r : Reg) (i hi lo n : Nat) : (s.setBits r i hi lo n).free = s.free := State.setReg_free ..
@[simp] theorem State.setBits_out (s : State) (r : Reg) (i hi lo n : Nat) : (s.setBits r i hi lo n).out = s.out := State.setReg_out ..

@[simp] theorem State.setBit_pending (s : State) (r : Reg) (i k : Nat) (b : Bool) : (s.setBit r i k b).pending = s.pending := State.setBits_pending ..
@[simp] theorem State.setBit_now (s : State) (r : Reg) (i k : Nat) (b : Bool) : (s.setBit r i k b).now = s.now := State.setBits_now ..
@[simp] theorem State.setBit_portA (s : State) (r : Reg) (i k : Nat) (b : Bool) : (s.setBit r i k b).portA = s.portA := State.setBits_portA ..
@[simp] theorem State.setBit_portB (s : State) (r : Reg) (i k : Nat) (b : Bool) : (s.setBit r i k b).portB = s.portB := State.setBits_portB ..
@[simp] theorem State.setBit_interp (s : State) (r : Reg) (i k : Nat) (b : Bool) : (s.setBit r i k b).interp = s.interp := State.setBits_interp ..
@[simp] theorem State.setBit_sem (s : State) (r : Reg) (i k : Nat) (b : Bool) : (s.setBit r i k b).sem = s.sem := State.setBits_sem ..
@[simp] theorem State.setBit_prof (s : State) (r : Reg) (i k : Nat) (b : Bool) : (s.setBit r i k b).prof = s.prof := State.setBits_prof ..
@[simp] theorem State.setBit_evin (s : State) (r : Reg) (i k : Nat) (b : Bool) : (s.setBit r i k b).evin = s.evin := State.setBits_evin ..
@[simp] theorem State.setBit_evLim (s : State) (r : Reg) (i k : Nat) (b : Bool) : (s.setBit r i k b).evLim = s.evLim := State.setBits_evLim ..
@[simp] theorem State.setBit_tm (s : State) (r : Reg) (i k : Nat) (b : Bool) : (s.setBit r i k b).tm = s.tm := State.setBits_tm ..
@[simp] theorem State.setBit_ing (s : State) (r : Reg) (i k : Nat) (b : Bool) : (s.setBit r i k b).ing = s.ing := State.setBits_ing ..
@[simp] theorem State.setBit_lode (s : State) (r : Reg) (i k : Nat) (b : Bool) : (s.setBit r i k b).lode = s.lode := State.setBits_lode ..
@[simp] theorem State.setBit_cam (s : State) (r : Reg) (i k : Nat) (b : Bool) : (s.setBit r i k b).cam = s.cam := State.setBits_cam ..
@[simp] theorem State.setBit_fab (s : State) (r : Reg) (i k : Nat) (b : Bool) : (s.setBit r i k b).fab = s.fab := State.setBits_fab ..
@[simp] theorem State.setBit_dec (s : State) (r : Reg) (i k : Nat) (b : Bool) : (s.setBit r i k b).dec = s.dec := State.setBits_dec ..
@[simp] theorem State.setBit_pools (s : State) (r : Reg) (i k : Nat) (b : Bool) : (s.setBit r i k b).pools = s.pools := State.setBits_pools ..
@[simp] theorem State.setBit_runs (s : State) (r : Reg) (i k : Nat) (b : Bool) : (s.setBit r i k b).runs = s.runs := State.setBits_runs ..
@[simp] theorem State.setBit_dramGranules (s : State) (r : Reg) (i k : Nat) (b : Bool) : (s.setBit r i k b).dramGranules = s.dramGranules := State.setBits_dramGranules ..
@[simp] theorem State.setBit_boot (s : State) (r : Reg) (i k : Nat) (b : Bool) : (s.setBit r i k b).boot = s.boot := State.setBits_boot ..
@[simp] theorem State.setBit_enc (s : State) (r : Reg) (i k : Nat) (b : Bool) : (s.setBit r i k b).enc = s.enc := State.setBits_enc ..
@[simp] theorem State.setBit_hd (s : State) (r : Reg) (i k : Nat) (b : Bool) : (s.setBit r i k b).hd = s.hd := State.setBits_hd ..
@[simp] theorem State.setBit_flt (s : State) (r : Reg) (i k : Nat) (b : Bool) : (s.setBit r i k b).flt = s.flt := State.setBits_flt ..
@[simp] theorem State.setBit_pair (s : State) (r : Reg) (i k : Nat) (b : Bool) : (s.setBit r i k b).pair = s.pair := State.setBits_pair ..
@[simp] theorem State.setBit_pwr (s : State) (r : Reg) (i k : Nat) (b : Bool) : (s.setBit r i k b).pwr = s.pwr := State.setBits_pwr ..
@[simp] theorem State.setBit_sl (s : State) (r : Reg) (i k : Nat) (b : Bool) : (s.setBit r i k b).sl = s.sl := State.setBits_sl ..
@[simp] theorem State.setBit_mem (s : State) (r : Reg) (i k : Nat) (b : Bool) : (s.setBit r i k b).mem = s.mem := State.setBits_mem ..
@[simp] theorem State.setBit_aud (s : State) (r : Reg) (i k : Nat) (b : Bool) : (s.setBit r i k b).aud = s.aud := State.setBits_aud ..
@[simp] theorem State.setBit_tch (s : State) (r : Reg) (i k : Nat) (b : Bool) : (s.setBit r i k b).tch = s.tch := State.setBits_tch ..
@[simp] theorem State.setBit_latches (s : State) (r : Reg) (i k : Nat) (b : Bool) : (s.setBit r i k b).latches = s.latches := State.setBits_latches ..
@[simp] theorem State.setBit_xing (s : State) (r : Reg) (i k : Nat) (b : Bool) : (s.setBit r i k b).xing = s.xing := State.setBits_xing ..
@[simp] theorem State.setBit_free (s : State) (r : Reg) (i k : Nat) (b : Bool) : (s.setBit r i k b).free = s.free := State.setBits_free ..
@[simp] theorem State.setBit_out (s : State) (r : Reg) (i k : Nat) (b : Bool) : (s.setBit r i k b).out = s.out := State.setBits_out ..

@[simp] theorem State.addSatBits_pending (s : State) (r : Reg) (i hi lo n : Nat) : (s.addSatBits r i hi lo n).pending = s.pending := State.setBits_pending ..
@[simp] theorem State.addSatBits_now (s : State) (r : Reg) (i hi lo n : Nat) : (s.addSatBits r i hi lo n).now = s.now := State.setBits_now ..
@[simp] theorem State.addSatBits_portA (s : State) (r : Reg) (i hi lo n : Nat) : (s.addSatBits r i hi lo n).portA = s.portA := State.setBits_portA ..
@[simp] theorem State.addSatBits_portB (s : State) (r : Reg) (i hi lo n : Nat) : (s.addSatBits r i hi lo n).portB = s.portB := State.setBits_portB ..
@[simp] theorem State.addSatBits_interp (s : State) (r : Reg) (i hi lo n : Nat) : (s.addSatBits r i hi lo n).interp = s.interp := State.setBits_interp ..
@[simp] theorem State.addSatBits_sem (s : State) (r : Reg) (i hi lo n : Nat) : (s.addSatBits r i hi lo n).sem = s.sem := State.setBits_sem ..
@[simp] theorem State.addSatBits_prof (s : State) (r : Reg) (i hi lo n : Nat) : (s.addSatBits r i hi lo n).prof = s.prof := State.setBits_prof ..
@[simp] theorem State.addSatBits_evin (s : State) (r : Reg) (i hi lo n : Nat) : (s.addSatBits r i hi lo n).evin = s.evin := State.setBits_evin ..
@[simp] theorem State.addSatBits_evLim (s : State) (r : Reg) (i hi lo n : Nat) : (s.addSatBits r i hi lo n).evLim = s.evLim := State.setBits_evLim ..
@[simp] theorem State.addSatBits_tm (s : State) (r : Reg) (i hi lo n : Nat) : (s.addSatBits r i hi lo n).tm = s.tm := State.setBits_tm ..
@[simp] theorem State.addSatBits_ing (s : State) (r : Reg) (i hi lo n : Nat) : (s.addSatBits r i hi lo n).ing = s.ing := State.setBits_ing ..
@[simp] theorem State.addSatBits_lode (s : State) (r : Reg) (i hi lo n : Nat) : (s.addSatBits r i hi lo n).lode = s.lode := State.setBits_lode ..
@[simp] theorem State.addSatBits_cam (s : State) (r : Reg) (i hi lo n : Nat) : (s.addSatBits r i hi lo n).cam = s.cam := State.setBits_cam ..
@[simp] theorem State.addSatBits_fab (s : State) (r : Reg) (i hi lo n : Nat) : (s.addSatBits r i hi lo n).fab = s.fab := State.setBits_fab ..
@[simp] theorem State.addSatBits_dec (s : State) (r : Reg) (i hi lo n : Nat) : (s.addSatBits r i hi lo n).dec = s.dec := State.setBits_dec ..
@[simp] theorem State.addSatBits_pools (s : State) (r : Reg) (i hi lo n : Nat) : (s.addSatBits r i hi lo n).pools = s.pools := State.setBits_pools ..
@[simp] theorem State.addSatBits_runs (s : State) (r : Reg) (i hi lo n : Nat) : (s.addSatBits r i hi lo n).runs = s.runs := State.setBits_runs ..
@[simp] theorem State.addSatBits_dramGranules (s : State) (r : Reg) (i hi lo n : Nat) : (s.addSatBits r i hi lo n).dramGranules = s.dramGranules := State.setBits_dramGranules ..
@[simp] theorem State.addSatBits_boot (s : State) (r : Reg) (i hi lo n : Nat) : (s.addSatBits r i hi lo n).boot = s.boot := State.setBits_boot ..
@[simp] theorem State.addSatBits_enc (s : State) (r : Reg) (i hi lo n : Nat) : (s.addSatBits r i hi lo n).enc = s.enc := State.setBits_enc ..
@[simp] theorem State.addSatBits_hd (s : State) (r : Reg) (i hi lo n : Nat) : (s.addSatBits r i hi lo n).hd = s.hd := State.setBits_hd ..
@[simp] theorem State.addSatBits_flt (s : State) (r : Reg) (i hi lo n : Nat) : (s.addSatBits r i hi lo n).flt = s.flt := State.setBits_flt ..
@[simp] theorem State.addSatBits_pair (s : State) (r : Reg) (i hi lo n : Nat) : (s.addSatBits r i hi lo n).pair = s.pair := State.setBits_pair ..
@[simp] theorem State.addSatBits_pwr (s : State) (r : Reg) (i hi lo n : Nat) : (s.addSatBits r i hi lo n).pwr = s.pwr := State.setBits_pwr ..
@[simp] theorem State.addSatBits_sl (s : State) (r : Reg) (i hi lo n : Nat) : (s.addSatBits r i hi lo n).sl = s.sl := State.setBits_sl ..
@[simp] theorem State.addSatBits_mem (s : State) (r : Reg) (i hi lo n : Nat) : (s.addSatBits r i hi lo n).mem = s.mem := State.setBits_mem ..
@[simp] theorem State.addSatBits_aud (s : State) (r : Reg) (i hi lo n : Nat) : (s.addSatBits r i hi lo n).aud = s.aud := State.setBits_aud ..
@[simp] theorem State.addSatBits_tch (s : State) (r : Reg) (i hi lo n : Nat) : (s.addSatBits r i hi lo n).tch = s.tch := State.setBits_tch ..
@[simp] theorem State.addSatBits_latches (s : State) (r : Reg) (i hi lo n : Nat) : (s.addSatBits r i hi lo n).latches = s.latches := State.setBits_latches ..
@[simp] theorem State.addSatBits_xing (s : State) (r : Reg) (i hi lo n : Nat) : (s.addSatBits r i hi lo n).xing = s.xing := State.setBits_xing ..
@[simp] theorem State.addSatBits_free (s : State) (r : Reg) (i hi lo n : Nat) : (s.addSatBits r i hi lo n).free = s.free := State.setBits_free ..
@[simp] theorem State.addSatBits_out (s : State) (r : Reg) (i hi lo n : Nat) : (s.addSatBits r i hi lo n).out = s.out := State.setBits_out ..

@[simp] theorem State.addSat_pending (s : State) (r : Reg) (i n : Nat) : (s.addSat r i n).pending = s.pending := State.addSatBits_pending ..
@[simp] theorem State.addSat_now (s : State) (r : Reg) (i n : Nat) : (s.addSat r i n).now = s.now := State.addSatBits_now ..
@[simp] theorem State.addSat_portA (s : State) (r : Reg) (i n : Nat) : (s.addSat r i n).portA = s.portA := State.addSatBits_portA ..
@[simp] theorem State.addSat_portB (s : State) (r : Reg) (i n : Nat) : (s.addSat r i n).portB = s.portB := State.addSatBits_portB ..
@[simp] theorem State.addSat_interp (s : State) (r : Reg) (i n : Nat) : (s.addSat r i n).interp = s.interp := State.addSatBits_interp ..
@[simp] theorem State.addSat_sem (s : State) (r : Reg) (i n : Nat) : (s.addSat r i n).sem = s.sem := State.addSatBits_sem ..
@[simp] theorem State.addSat_prof (s : State) (r : Reg) (i n : Nat) : (s.addSat r i n).prof = s.prof := State.addSatBits_prof ..
@[simp] theorem State.addSat_evin (s : State) (r : Reg) (i n : Nat) : (s.addSat r i n).evin = s.evin := State.addSatBits_evin ..
@[simp] theorem State.addSat_evLim (s : State) (r : Reg) (i n : Nat) : (s.addSat r i n).evLim = s.evLim := State.addSatBits_evLim ..
@[simp] theorem State.addSat_tm (s : State) (r : Reg) (i n : Nat) : (s.addSat r i n).tm = s.tm := State.addSatBits_tm ..
@[simp] theorem State.addSat_ing (s : State) (r : Reg) (i n : Nat) : (s.addSat r i n).ing = s.ing := State.addSatBits_ing ..
@[simp] theorem State.addSat_lode (s : State) (r : Reg) (i n : Nat) : (s.addSat r i n).lode = s.lode := State.addSatBits_lode ..
@[simp] theorem State.addSat_cam (s : State) (r : Reg) (i n : Nat) : (s.addSat r i n).cam = s.cam := State.addSatBits_cam ..
@[simp] theorem State.addSat_fab (s : State) (r : Reg) (i n : Nat) : (s.addSat r i n).fab = s.fab := State.addSatBits_fab ..
@[simp] theorem State.addSat_dec (s : State) (r : Reg) (i n : Nat) : (s.addSat r i n).dec = s.dec := State.addSatBits_dec ..
@[simp] theorem State.addSat_pools (s : State) (r : Reg) (i n : Nat) : (s.addSat r i n).pools = s.pools := State.addSatBits_pools ..
@[simp] theorem State.addSat_runs (s : State) (r : Reg) (i n : Nat) : (s.addSat r i n).runs = s.runs := State.addSatBits_runs ..
@[simp] theorem State.addSat_dramGranules (s : State) (r : Reg) (i n : Nat) : (s.addSat r i n).dramGranules = s.dramGranules := State.addSatBits_dramGranules ..
@[simp] theorem State.addSat_boot (s : State) (r : Reg) (i n : Nat) : (s.addSat r i n).boot = s.boot := State.addSatBits_boot ..
@[simp] theorem State.addSat_enc (s : State) (r : Reg) (i n : Nat) : (s.addSat r i n).enc = s.enc := State.addSatBits_enc ..
@[simp] theorem State.addSat_hd (s : State) (r : Reg) (i n : Nat) : (s.addSat r i n).hd = s.hd := State.addSatBits_hd ..
@[simp] theorem State.addSat_flt (s : State) (r : Reg) (i n : Nat) : (s.addSat r i n).flt = s.flt := State.addSatBits_flt ..
@[simp] theorem State.addSat_pair (s : State) (r : Reg) (i n : Nat) : (s.addSat r i n).pair = s.pair := State.addSatBits_pair ..
@[simp] theorem State.addSat_pwr (s : State) (r : Reg) (i n : Nat) : (s.addSat r i n).pwr = s.pwr := State.addSatBits_pwr ..
@[simp] theorem State.addSat_sl (s : State) (r : Reg) (i n : Nat) : (s.addSat r i n).sl = s.sl := State.addSatBits_sl ..
@[simp] theorem State.addSat_mem (s : State) (r : Reg) (i n : Nat) : (s.addSat r i n).mem = s.mem := State.addSatBits_mem ..
@[simp] theorem State.addSat_aud (s : State) (r : Reg) (i n : Nat) : (s.addSat r i n).aud = s.aud := State.addSatBits_aud ..
@[simp] theorem State.addSat_tch (s : State) (r : Reg) (i n : Nat) : (s.addSat r i n).tch = s.tch := State.addSatBits_tch ..
@[simp] theorem State.addSat_latches (s : State) (r : Reg) (i n : Nat) : (s.addSat r i n).latches = s.latches := State.addSatBits_latches ..
@[simp] theorem State.addSat_xing (s : State) (r : Reg) (i n : Nat) : (s.addSat r i n).xing = s.xing := State.addSatBits_xing ..
@[simp] theorem State.addSat_free (s : State) (r : Reg) (i n : Nat) : (s.addSat r i n).free = s.free := State.addSatBits_free ..
@[simp] theorem State.addSat_out (s : State) (r : Reg) (i n : Nat) : (s.addSat r i n).out = s.out := State.addSatBits_out ..

@[simp] theorem State.bumpSat_pending (s : State) (r : Reg) (i : Nat) : (s.bumpSat r i).pending = s.pending := State.addSat_pending ..
@[simp] theorem State.bumpSat_now (s : State) (r : Reg) (i : Nat) : (s.bumpSat r i).now = s.now := State.addSat_now ..
@[simp] theorem State.bumpSat_portA (s : State) (r : Reg) (i : Nat) : (s.bumpSat r i).portA = s.portA := State.addSat_portA ..
@[simp] theorem State.bumpSat_portB (s : State) (r : Reg) (i : Nat) : (s.bumpSat r i).portB = s.portB := State.addSat_portB ..
@[simp] theorem State.bumpSat_interp (s : State) (r : Reg) (i : Nat) : (s.bumpSat r i).interp = s.interp := State.addSat_interp ..
@[simp] theorem State.bumpSat_sem (s : State) (r : Reg) (i : Nat) : (s.bumpSat r i).sem = s.sem := State.addSat_sem ..
@[simp] theorem State.bumpSat_prof (s : State) (r : Reg) (i : Nat) : (s.bumpSat r i).prof = s.prof := State.addSat_prof ..
@[simp] theorem State.bumpSat_evin (s : State) (r : Reg) (i : Nat) : (s.bumpSat r i).evin = s.evin := State.addSat_evin ..
@[simp] theorem State.bumpSat_evLim (s : State) (r : Reg) (i : Nat) : (s.bumpSat r i).evLim = s.evLim := State.addSat_evLim ..
@[simp] theorem State.bumpSat_tm (s : State) (r : Reg) (i : Nat) : (s.bumpSat r i).tm = s.tm := State.addSat_tm ..
@[simp] theorem State.bumpSat_ing (s : State) (r : Reg) (i : Nat) : (s.bumpSat r i).ing = s.ing := State.addSat_ing ..
@[simp] theorem State.bumpSat_lode (s : State) (r : Reg) (i : Nat) : (s.bumpSat r i).lode = s.lode := State.addSat_lode ..
@[simp] theorem State.bumpSat_cam (s : State) (r : Reg) (i : Nat) : (s.bumpSat r i).cam = s.cam := State.addSat_cam ..
@[simp] theorem State.bumpSat_fab (s : State) (r : Reg) (i : Nat) : (s.bumpSat r i).fab = s.fab := State.addSat_fab ..
@[simp] theorem State.bumpSat_dec (s : State) (r : Reg) (i : Nat) : (s.bumpSat r i).dec = s.dec := State.addSat_dec ..
@[simp] theorem State.bumpSat_pools (s : State) (r : Reg) (i : Nat) : (s.bumpSat r i).pools = s.pools := State.addSat_pools ..
@[simp] theorem State.bumpSat_runs (s : State) (r : Reg) (i : Nat) : (s.bumpSat r i).runs = s.runs := State.addSat_runs ..
@[simp] theorem State.bumpSat_dramGranules (s : State) (r : Reg) (i : Nat) : (s.bumpSat r i).dramGranules = s.dramGranules := State.addSat_dramGranules ..
@[simp] theorem State.bumpSat_boot (s : State) (r : Reg) (i : Nat) : (s.bumpSat r i).boot = s.boot := State.addSat_boot ..
@[simp] theorem State.bumpSat_enc (s : State) (r : Reg) (i : Nat) : (s.bumpSat r i).enc = s.enc := State.addSat_enc ..
@[simp] theorem State.bumpSat_hd (s : State) (r : Reg) (i : Nat) : (s.bumpSat r i).hd = s.hd := State.addSat_hd ..
@[simp] theorem State.bumpSat_flt (s : State) (r : Reg) (i : Nat) : (s.bumpSat r i).flt = s.flt := State.addSat_flt ..
@[simp] theorem State.bumpSat_pair (s : State) (r : Reg) (i : Nat) : (s.bumpSat r i).pair = s.pair := State.addSat_pair ..
@[simp] theorem State.bumpSat_pwr (s : State) (r : Reg) (i : Nat) : (s.bumpSat r i).pwr = s.pwr := State.addSat_pwr ..
@[simp] theorem State.bumpSat_sl (s : State) (r : Reg) (i : Nat) : (s.bumpSat r i).sl = s.sl := State.addSat_sl ..
@[simp] theorem State.bumpSat_mem (s : State) (r : Reg) (i : Nat) : (s.bumpSat r i).mem = s.mem := State.addSat_mem ..
@[simp] theorem State.bumpSat_aud (s : State) (r : Reg) (i : Nat) : (s.bumpSat r i).aud = s.aud := State.addSat_aud ..
@[simp] theorem State.bumpSat_tch (s : State) (r : Reg) (i : Nat) : (s.bumpSat r i).tch = s.tch := State.addSat_tch ..
@[simp] theorem State.bumpSat_latches (s : State) (r : Reg) (i : Nat) : (s.bumpSat r i).latches = s.latches := State.addSat_latches ..
@[simp] theorem State.bumpSat_xing (s : State) (r : Reg) (i : Nat) : (s.bumpSat r i).xing = s.xing := State.addSat_xing ..
@[simp] theorem State.bumpSat_free (s : State) (r : Reg) (i : Nat) : (s.bumpSat r i).free = s.free := State.addSat_free ..
@[simp] theorem State.bumpSat_out (s : State) (r : Reg) (i : Nat) : (s.bumpSat r i).out = s.out := State.addSat_out ..

@[simp] theorem State.addWrapBits_pending (s : State) (r : Reg) (i hi lo n : Nat) : (s.addWrapBits r i hi lo n).pending = s.pending := State.setBits_pending ..
@[simp] theorem State.addWrapBits_now (s : State) (r : Reg) (i hi lo n : Nat) : (s.addWrapBits r i hi lo n).now = s.now := State.setBits_now ..
@[simp] theorem State.addWrapBits_portA (s : State) (r : Reg) (i hi lo n : Nat) : (s.addWrapBits r i hi lo n).portA = s.portA := State.setBits_portA ..
@[simp] theorem State.addWrapBits_portB (s : State) (r : Reg) (i hi lo n : Nat) : (s.addWrapBits r i hi lo n).portB = s.portB := State.setBits_portB ..
@[simp] theorem State.addWrapBits_interp (s : State) (r : Reg) (i hi lo n : Nat) : (s.addWrapBits r i hi lo n).interp = s.interp := State.setBits_interp ..
@[simp] theorem State.addWrapBits_sem (s : State) (r : Reg) (i hi lo n : Nat) : (s.addWrapBits r i hi lo n).sem = s.sem := State.setBits_sem ..
@[simp] theorem State.addWrapBits_prof (s : State) (r : Reg) (i hi lo n : Nat) : (s.addWrapBits r i hi lo n).prof = s.prof := State.setBits_prof ..
@[simp] theorem State.addWrapBits_evin (s : State) (r : Reg) (i hi lo n : Nat) : (s.addWrapBits r i hi lo n).evin = s.evin := State.setBits_evin ..
@[simp] theorem State.addWrapBits_evLim (s : State) (r : Reg) (i hi lo n : Nat) : (s.addWrapBits r i hi lo n).evLim = s.evLim := State.setBits_evLim ..
@[simp] theorem State.addWrapBits_tm (s : State) (r : Reg) (i hi lo n : Nat) : (s.addWrapBits r i hi lo n).tm = s.tm := State.setBits_tm ..
@[simp] theorem State.addWrapBits_ing (s : State) (r : Reg) (i hi lo n : Nat) : (s.addWrapBits r i hi lo n).ing = s.ing := State.setBits_ing ..
@[simp] theorem State.addWrapBits_lode (s : State) (r : Reg) (i hi lo n : Nat) : (s.addWrapBits r i hi lo n).lode = s.lode := State.setBits_lode ..
@[simp] theorem State.addWrapBits_cam (s : State) (r : Reg) (i hi lo n : Nat) : (s.addWrapBits r i hi lo n).cam = s.cam := State.setBits_cam ..
@[simp] theorem State.addWrapBits_fab (s : State) (r : Reg) (i hi lo n : Nat) : (s.addWrapBits r i hi lo n).fab = s.fab := State.setBits_fab ..
@[simp] theorem State.addWrapBits_dec (s : State) (r : Reg) (i hi lo n : Nat) : (s.addWrapBits r i hi lo n).dec = s.dec := State.setBits_dec ..
@[simp] theorem State.addWrapBits_pools (s : State) (r : Reg) (i hi lo n : Nat) : (s.addWrapBits r i hi lo n).pools = s.pools := State.setBits_pools ..
@[simp] theorem State.addWrapBits_runs (s : State) (r : Reg) (i hi lo n : Nat) : (s.addWrapBits r i hi lo n).runs = s.runs := State.setBits_runs ..
@[simp] theorem State.addWrapBits_dramGranules (s : State) (r : Reg) (i hi lo n : Nat) : (s.addWrapBits r i hi lo n).dramGranules = s.dramGranules := State.setBits_dramGranules ..
@[simp] theorem State.addWrapBits_boot (s : State) (r : Reg) (i hi lo n : Nat) : (s.addWrapBits r i hi lo n).boot = s.boot := State.setBits_boot ..
@[simp] theorem State.addWrapBits_enc (s : State) (r : Reg) (i hi lo n : Nat) : (s.addWrapBits r i hi lo n).enc = s.enc := State.setBits_enc ..
@[simp] theorem State.addWrapBits_hd (s : State) (r : Reg) (i hi lo n : Nat) : (s.addWrapBits r i hi lo n).hd = s.hd := State.setBits_hd ..
@[simp] theorem State.addWrapBits_flt (s : State) (r : Reg) (i hi lo n : Nat) : (s.addWrapBits r i hi lo n).flt = s.flt := State.setBits_flt ..
@[simp] theorem State.addWrapBits_pair (s : State) (r : Reg) (i hi lo n : Nat) : (s.addWrapBits r i hi lo n).pair = s.pair := State.setBits_pair ..
@[simp] theorem State.addWrapBits_pwr (s : State) (r : Reg) (i hi lo n : Nat) : (s.addWrapBits r i hi lo n).pwr = s.pwr := State.setBits_pwr ..
@[simp] theorem State.addWrapBits_sl (s : State) (r : Reg) (i hi lo n : Nat) : (s.addWrapBits r i hi lo n).sl = s.sl := State.setBits_sl ..
@[simp] theorem State.addWrapBits_mem (s : State) (r : Reg) (i hi lo n : Nat) : (s.addWrapBits r i hi lo n).mem = s.mem := State.setBits_mem ..
@[simp] theorem State.addWrapBits_aud (s : State) (r : Reg) (i hi lo n : Nat) : (s.addWrapBits r i hi lo n).aud = s.aud := State.setBits_aud ..
@[simp] theorem State.addWrapBits_tch (s : State) (r : Reg) (i hi lo n : Nat) : (s.addWrapBits r i hi lo n).tch = s.tch := State.setBits_tch ..
@[simp] theorem State.addWrapBits_latches (s : State) (r : Reg) (i hi lo n : Nat) : (s.addWrapBits r i hi lo n).latches = s.latches := State.setBits_latches ..
@[simp] theorem State.addWrapBits_xing (s : State) (r : Reg) (i hi lo n : Nat) : (s.addWrapBits r i hi lo n).xing = s.xing := State.setBits_xing ..
@[simp] theorem State.addWrapBits_free (s : State) (r : Reg) (i hi lo n : Nat) : (s.addWrapBits r i hi lo n).free = s.free := State.setBits_free ..
@[simp] theorem State.addWrapBits_out (s : State) (r : Reg) (i hi lo n : Nat) : (s.addWrapBits r i hi lo n).out = s.out := State.setBits_out ..

@[simp] theorem State.bumpWrap_pending (s : State) (r : Reg) (i : Nat) : (s.bumpWrap r i).pending = s.pending := State.addWrapBits_pending ..
@[simp] theorem State.bumpWrap_now (s : State) (r : Reg) (i : Nat) : (s.bumpWrap r i).now = s.now := State.addWrapBits_now ..
@[simp] theorem State.bumpWrap_portA (s : State) (r : Reg) (i : Nat) : (s.bumpWrap r i).portA = s.portA := State.addWrapBits_portA ..
@[simp] theorem State.bumpWrap_portB (s : State) (r : Reg) (i : Nat) : (s.bumpWrap r i).portB = s.portB := State.addWrapBits_portB ..
@[simp] theorem State.bumpWrap_interp (s : State) (r : Reg) (i : Nat) : (s.bumpWrap r i).interp = s.interp := State.addWrapBits_interp ..
@[simp] theorem State.bumpWrap_sem (s : State) (r : Reg) (i : Nat) : (s.bumpWrap r i).sem = s.sem := State.addWrapBits_sem ..
@[simp] theorem State.bumpWrap_prof (s : State) (r : Reg) (i : Nat) : (s.bumpWrap r i).prof = s.prof := State.addWrapBits_prof ..
@[simp] theorem State.bumpWrap_evin (s : State) (r : Reg) (i : Nat) : (s.bumpWrap r i).evin = s.evin := State.addWrapBits_evin ..
@[simp] theorem State.bumpWrap_evLim (s : State) (r : Reg) (i : Nat) : (s.bumpWrap r i).evLim = s.evLim := State.addWrapBits_evLim ..
@[simp] theorem State.bumpWrap_tm (s : State) (r : Reg) (i : Nat) : (s.bumpWrap r i).tm = s.tm := State.addWrapBits_tm ..
@[simp] theorem State.bumpWrap_ing (s : State) (r : Reg) (i : Nat) : (s.bumpWrap r i).ing = s.ing := State.addWrapBits_ing ..
@[simp] theorem State.bumpWrap_lode (s : State) (r : Reg) (i : Nat) : (s.bumpWrap r i).lode = s.lode := State.addWrapBits_lode ..
@[simp] theorem State.bumpWrap_cam (s : State) (r : Reg) (i : Nat) : (s.bumpWrap r i).cam = s.cam := State.addWrapBits_cam ..
@[simp] theorem State.bumpWrap_fab (s : State) (r : Reg) (i : Nat) : (s.bumpWrap r i).fab = s.fab := State.addWrapBits_fab ..
@[simp] theorem State.bumpWrap_dec (s : State) (r : Reg) (i : Nat) : (s.bumpWrap r i).dec = s.dec := State.addWrapBits_dec ..
@[simp] theorem State.bumpWrap_pools (s : State) (r : Reg) (i : Nat) : (s.bumpWrap r i).pools = s.pools := State.addWrapBits_pools ..
@[simp] theorem State.bumpWrap_runs (s : State) (r : Reg) (i : Nat) : (s.bumpWrap r i).runs = s.runs := State.addWrapBits_runs ..
@[simp] theorem State.bumpWrap_dramGranules (s : State) (r : Reg) (i : Nat) : (s.bumpWrap r i).dramGranules = s.dramGranules := State.addWrapBits_dramGranules ..
@[simp] theorem State.bumpWrap_boot (s : State) (r : Reg) (i : Nat) : (s.bumpWrap r i).boot = s.boot := State.addWrapBits_boot ..
@[simp] theorem State.bumpWrap_enc (s : State) (r : Reg) (i : Nat) : (s.bumpWrap r i).enc = s.enc := State.addWrapBits_enc ..
@[simp] theorem State.bumpWrap_hd (s : State) (r : Reg) (i : Nat) : (s.bumpWrap r i).hd = s.hd := State.addWrapBits_hd ..
@[simp] theorem State.bumpWrap_flt (s : State) (r : Reg) (i : Nat) : (s.bumpWrap r i).flt = s.flt := State.addWrapBits_flt ..
@[simp] theorem State.bumpWrap_pair (s : State) (r : Reg) (i : Nat) : (s.bumpWrap r i).pair = s.pair := State.addWrapBits_pair ..
@[simp] theorem State.bumpWrap_pwr (s : State) (r : Reg) (i : Nat) : (s.bumpWrap r i).pwr = s.pwr := State.addWrapBits_pwr ..
@[simp] theorem State.bumpWrap_sl (s : State) (r : Reg) (i : Nat) : (s.bumpWrap r i).sl = s.sl := State.addWrapBits_sl ..
@[simp] theorem State.bumpWrap_mem (s : State) (r : Reg) (i : Nat) : (s.bumpWrap r i).mem = s.mem := State.addWrapBits_mem ..
@[simp] theorem State.bumpWrap_aud (s : State) (r : Reg) (i : Nat) : (s.bumpWrap r i).aud = s.aud := State.addWrapBits_aud ..
@[simp] theorem State.bumpWrap_tch (s : State) (r : Reg) (i : Nat) : (s.bumpWrap r i).tch = s.tch := State.addWrapBits_tch ..
@[simp] theorem State.bumpWrap_latches (s : State) (r : Reg) (i : Nat) : (s.bumpWrap r i).latches = s.latches := State.addWrapBits_latches ..
@[simp] theorem State.bumpWrap_xing (s : State) (r : Reg) (i : Nat) : (s.bumpWrap r i).xing = s.xing := State.addWrapBits_xing ..
@[simp] theorem State.bumpWrap_free (s : State) (r : Reg) (i : Nat) : (s.bumpWrap r i).free = s.free := State.addWrapBits_free ..
@[simp] theorem State.bumpWrap_out (s : State) (r : Reg) (i : Nat) : (s.bumpWrap r i).out = s.out := State.addWrapBits_out ..

/-! ### Outputs, ports, the interpreter, the semaphore and free values -/

@[simp] theorem State.emit_pending (s : State) (o : Output) : (s.emit o).pending = s.pending := rfl
@[simp] theorem State.emit_now (s : State) (o : Output) : (s.emit o).now = s.now := rfl
@[simp] theorem State.emit_portA (s : State) (o : Output) : (s.emit o).portA = s.portA := rfl
@[simp] theorem State.emit_portB (s : State) (o : Output) : (s.emit o).portB = s.portB := rfl
@[simp] theorem State.emit_interp (s : State) (o : Output) : (s.emit o).interp = s.interp := rfl
@[simp] theorem State.emit_sem (s : State) (o : Output) : (s.emit o).sem = s.sem := rfl
@[simp] theorem State.emit_prof (s : State) (o : Output) : (s.emit o).prof = s.prof := rfl
@[simp] theorem State.emit_evin (s : State) (o : Output) : (s.emit o).evin = s.evin := rfl
@[simp] theorem State.emit_evLim (s : State) (o : Output) : (s.emit o).evLim = s.evLim := rfl
@[simp] theorem State.emit_tm (s : State) (o : Output) : (s.emit o).tm = s.tm := rfl
@[simp] theorem State.emit_ing (s : State) (o : Output) : (s.emit o).ing = s.ing := rfl
@[simp] theorem State.emit_lode (s : State) (o : Output) : (s.emit o).lode = s.lode := rfl
@[simp] theorem State.emit_cam (s : State) (o : Output) : (s.emit o).cam = s.cam := rfl
@[simp] theorem State.emit_fab (s : State) (o : Output) : (s.emit o).fab = s.fab := rfl
@[simp] theorem State.emit_dec (s : State) (o : Output) : (s.emit o).dec = s.dec := rfl
@[simp] theorem State.emit_pools (s : State) (o : Output) : (s.emit o).pools = s.pools := rfl
@[simp] theorem State.emit_runs (s : State) (o : Output) : (s.emit o).runs = s.runs := rfl
@[simp] theorem State.emit_dramGranules (s : State) (o : Output) : (s.emit o).dramGranules = s.dramGranules := rfl
@[simp] theorem State.emit_boot (s : State) (o : Output) : (s.emit o).boot = s.boot := rfl
@[simp] theorem State.emit_enc (s : State) (o : Output) : (s.emit o).enc = s.enc := rfl
@[simp] theorem State.emit_hd (s : State) (o : Output) : (s.emit o).hd = s.hd := rfl
@[simp] theorem State.emit_flt (s : State) (o : Output) : (s.emit o).flt = s.flt := rfl
@[simp] theorem State.emit_pair (s : State) (o : Output) : (s.emit o).pair = s.pair := rfl
@[simp] theorem State.emit_pwr (s : State) (o : Output) : (s.emit o).pwr = s.pwr := rfl
@[simp] theorem State.emit_sl (s : State) (o : Output) : (s.emit o).sl = s.sl := rfl
@[simp] theorem State.emit_mem (s : State) (o : Output) : (s.emit o).mem = s.mem := rfl
@[simp] theorem State.emit_aud (s : State) (o : Output) : (s.emit o).aud = s.aud := rfl
@[simp] theorem State.emit_tch (s : State) (o : Output) : (s.emit o).tch = s.tch := rfl
@[simp] theorem State.emit_latches (s : State) (o : Output) : (s.emit o).latches = s.latches := rfl
@[simp] theorem State.emit_xing (s : State) (o : Output) : (s.emit o).xing = s.xing := rfl
@[simp] theorem State.emit_free (s : State) (o : Output) : (s.emit o).free = s.free := rfl
@[simp] theorem State.emit_regs (s : State) (o : Output) : (s.emit o).regs = s.regs := rfl
@[simp] theorem State.emit_out (s : State) (o : Output) : (s.emit o).out = o :: s.out := rfl
@[simp] theorem State.irq_pending (s : State) (p : Port) (v : Nat) : (s.irq p v).pending = s.pending := rfl
@[simp] theorem State.irq_now (s : State) (p : Port) (v : Nat) : (s.irq p v).now = s.now := rfl
@[simp] theorem State.irq_portA (s : State) (p : Port) (v : Nat) : (s.irq p v).portA = s.portA := rfl
@[simp] theorem State.irq_portB (s : State) (p : Port) (v : Nat) : (s.irq p v).portB = s.portB := rfl
@[simp] theorem State.irq_interp (s : State) (p : Port) (v : Nat) : (s.irq p v).interp = s.interp := rfl
@[simp] theorem State.irq_sem (s : State) (p : Port) (v : Nat) : (s.irq p v).sem = s.sem := rfl
@[simp] theorem State.irq_prof (s : State) (p : Port) (v : Nat) : (s.irq p v).prof = s.prof := rfl
@[simp] theorem State.irq_evin (s : State) (p : Port) (v : Nat) : (s.irq p v).evin = s.evin := rfl
@[simp] theorem State.irq_evLim (s : State) (p : Port) (v : Nat) : (s.irq p v).evLim = s.evLim := rfl
@[simp] theorem State.irq_tm (s : State) (p : Port) (v : Nat) : (s.irq p v).tm = s.tm := rfl
@[simp] theorem State.irq_ing (s : State) (p : Port) (v : Nat) : (s.irq p v).ing = s.ing := rfl
@[simp] theorem State.irq_lode (s : State) (p : Port) (v : Nat) : (s.irq p v).lode = s.lode := rfl
@[simp] theorem State.irq_cam (s : State) (p : Port) (v : Nat) : (s.irq p v).cam = s.cam := rfl
@[simp] theorem State.irq_fab (s : State) (p : Port) (v : Nat) : (s.irq p v).fab = s.fab := rfl
@[simp] theorem State.irq_dec (s : State) (p : Port) (v : Nat) : (s.irq p v).dec = s.dec := rfl
@[simp] theorem State.irq_pools (s : State) (p : Port) (v : Nat) : (s.irq p v).pools = s.pools := rfl
@[simp] theorem State.irq_runs (s : State) (p : Port) (v : Nat) : (s.irq p v).runs = s.runs := rfl
@[simp] theorem State.irq_dramGranules (s : State) (p : Port) (v : Nat) : (s.irq p v).dramGranules = s.dramGranules := rfl
@[simp] theorem State.irq_boot (s : State) (p : Port) (v : Nat) : (s.irq p v).boot = s.boot := rfl
@[simp] theorem State.irq_enc (s : State) (p : Port) (v : Nat) : (s.irq p v).enc = s.enc := rfl
@[simp] theorem State.irq_hd (s : State) (p : Port) (v : Nat) : (s.irq p v).hd = s.hd := rfl
@[simp] theorem State.irq_flt (s : State) (p : Port) (v : Nat) : (s.irq p v).flt = s.flt := rfl
@[simp] theorem State.irq_pair (s : State) (p : Port) (v : Nat) : (s.irq p v).pair = s.pair := rfl
@[simp] theorem State.irq_pwr (s : State) (p : Port) (v : Nat) : (s.irq p v).pwr = s.pwr := rfl
@[simp] theorem State.irq_sl (s : State) (p : Port) (v : Nat) : (s.irq p v).sl = s.sl := rfl
@[simp] theorem State.irq_mem (s : State) (p : Port) (v : Nat) : (s.irq p v).mem = s.mem := rfl
@[simp] theorem State.irq_aud (s : State) (p : Port) (v : Nat) : (s.irq p v).aud = s.aud := rfl
@[simp] theorem State.irq_tch (s : State) (p : Port) (v : Nat) : (s.irq p v).tch = s.tch := rfl
@[simp] theorem State.irq_latches (s : State) (p : Port) (v : Nat) : (s.irq p v).latches = s.latches := rfl
@[simp] theorem State.irq_xing (s : State) (p : Port) (v : Nat) : (s.irq p v).xing = s.xing := rfl
@[simp] theorem State.irq_free (s : State) (p : Port) (v : Nat) : (s.irq p v).free = s.free := rfl
@[simp] theorem State.irq_regs (s : State) (p : Port) (v : Nat) : (s.irq p v).regs = s.regs := rfl
@[simp] theorem State.irq_out (s : State) (p : Port) (v : Nat) : (s.irq p v).out = .irq p v :: s.out := rfl
@[simp] theorem State.modPort_pending (s : State) (p : Port) (f : HostPort → HostPort) : (s.modPort p f).pending = s.pending := by cases p <;> rfl
@[simp] theorem State.modPort_now (s : State) (p : Port) (f : HostPort → HostPort) : (s.modPort p f).now = s.now := by cases p <;> rfl
@[simp] theorem State.modPort_interp (s : State) (p : Port) (f : HostPort → HostPort) : (s.modPort p f).interp = s.interp := by cases p <;> rfl
@[simp] theorem State.modPort_sem (s : State) (p : Port) (f : HostPort → HostPort) : (s.modPort p f).sem = s.sem := by cases p <;> rfl
@[simp] theorem State.modPort_prof (s : State) (p : Port) (f : HostPort → HostPort) : (s.modPort p f).prof = s.prof := by cases p <;> rfl
@[simp] theorem State.modPort_evin (s : State) (p : Port) (f : HostPort → HostPort) : (s.modPort p f).evin = s.evin := by cases p <;> rfl
@[simp] theorem State.modPort_evLim (s : State) (p : Port) (f : HostPort → HostPort) : (s.modPort p f).evLim = s.evLim := by cases p <;> rfl
@[simp] theorem State.modPort_tm (s : State) (p : Port) (f : HostPort → HostPort) : (s.modPort p f).tm = s.tm := by cases p <;> rfl
@[simp] theorem State.modPort_ing (s : State) (p : Port) (f : HostPort → HostPort) : (s.modPort p f).ing = s.ing := by cases p <;> rfl
@[simp] theorem State.modPort_lode (s : State) (p : Port) (f : HostPort → HostPort) : (s.modPort p f).lode = s.lode := by cases p <;> rfl
@[simp] theorem State.modPort_cam (s : State) (p : Port) (f : HostPort → HostPort) : (s.modPort p f).cam = s.cam := by cases p <;> rfl
@[simp] theorem State.modPort_fab (s : State) (p : Port) (f : HostPort → HostPort) : (s.modPort p f).fab = s.fab := by cases p <;> rfl
@[simp] theorem State.modPort_dec (s : State) (p : Port) (f : HostPort → HostPort) : (s.modPort p f).dec = s.dec := by cases p <;> rfl
@[simp] theorem State.modPort_pools (s : State) (p : Port) (f : HostPort → HostPort) : (s.modPort p f).pools = s.pools := by cases p <;> rfl
@[simp] theorem State.modPort_runs (s : State) (p : Port) (f : HostPort → HostPort) : (s.modPort p f).runs = s.runs := by cases p <;> rfl
@[simp] theorem State.modPort_dramGranules (s : State) (p : Port) (f : HostPort → HostPort) : (s.modPort p f).dramGranules = s.dramGranules := by cases p <;> rfl
@[simp] theorem State.modPort_boot (s : State) (p : Port) (f : HostPort → HostPort) : (s.modPort p f).boot = s.boot := by cases p <;> rfl
@[simp] theorem State.modPort_enc (s : State) (p : Port) (f : HostPort → HostPort) : (s.modPort p f).enc = s.enc := by cases p <;> rfl
@[simp] theorem State.modPort_hd (s : State) (p : Port) (f : HostPort → HostPort) : (s.modPort p f).hd = s.hd := by cases p <;> rfl
@[simp] theorem State.modPort_flt (s : State) (p : Port) (f : HostPort → HostPort) : (s.modPort p f).flt = s.flt := by cases p <;> rfl
@[simp] theorem State.modPort_pair (s : State) (p : Port) (f : HostPort → HostPort) : (s.modPort p f).pair = s.pair := by cases p <;> rfl
@[simp] theorem State.modPort_pwr (s : State) (p : Port) (f : HostPort → HostPort) : (s.modPort p f).pwr = s.pwr := by cases p <;> rfl
@[simp] theorem State.modPort_sl (s : State) (p : Port) (f : HostPort → HostPort) : (s.modPort p f).sl = s.sl := by cases p <;> rfl
@[simp] theorem State.modPort_mem (s : State) (p : Port) (f : HostPort → HostPort) : (s.modPort p f).mem = s.mem := by cases p <;> rfl
@[simp] theorem State.modPort_aud (s : State) (p : Port) (f : HostPort → HostPort) : (s.modPort p f).aud = s.aud := by cases p <;> rfl
@[simp] theorem State.modPort_tch (s : State) (p : Port) (f : HostPort → HostPort) : (s.modPort p f).tch = s.tch := by cases p <;> rfl
@[simp] theorem State.modPort_latches (s : State) (p : Port) (f : HostPort → HostPort) : (s.modPort p f).latches = s.latches := by cases p <;> rfl
@[simp] theorem State.modPort_xing (s : State) (p : Port) (f : HostPort → HostPort) : (s.modPort p f).xing = s.xing := by cases p <;> rfl
@[simp] theorem State.modPort_free (s : State) (p : Port) (f : HostPort → HostPort) : (s.modPort p f).free = s.free := by cases p <;> rfl
@[simp] theorem State.modPort_out (s : State) (p : Port) (f : HostPort → HostPort) : (s.modPort p f).out = s.out := by cases p <;> rfl
@[simp] theorem State.modPort_regs (s : State) (p : Port) (f : HostPort → HostPort) : (s.modPort p f).regs = s.regs := by cases p <;> rfl
@[simp] theorem State.endInterp_pending (s : State)  : (s.endInterp).pending = s.pending := rfl
@[simp] theorem State.endInterp_now (s : State)  : (s.endInterp).now = s.now := rfl
@[simp] theorem State.endInterp_portA (s : State)  : (s.endInterp).portA = s.portA := rfl
@[simp] theorem State.endInterp_portB (s : State)  : (s.endInterp).portB = s.portB := rfl
@[simp] theorem State.endInterp_sem (s : State)  : (s.endInterp).sem = s.sem := rfl
@[simp] theorem State.endInterp_prof (s : State)  : (s.endInterp).prof = s.prof := rfl
@[simp] theorem State.endInterp_evin (s : State)  : (s.endInterp).evin = s.evin := rfl
@[simp] theorem State.endInterp_evLim (s : State)  : (s.endInterp).evLim = s.evLim := rfl
@[simp] theorem State.endInterp_tm (s : State)  : (s.endInterp).tm = s.tm := rfl
@[simp] theorem State.endInterp_ing (s : State)  : (s.endInterp).ing = s.ing := rfl
@[simp] theorem State.endInterp_lode (s : State)  : (s.endInterp).lode = s.lode := rfl
@[simp] theorem State.endInterp_cam (s : State)  : (s.endInterp).cam = s.cam := rfl
@[simp] theorem State.endInterp_fab (s : State)  : (s.endInterp).fab = s.fab := rfl
@[simp] theorem State.endInterp_dec (s : State)  : (s.endInterp).dec = s.dec := rfl
@[simp] theorem State.endInterp_pools (s : State)  : (s.endInterp).pools = s.pools := rfl
@[simp] theorem State.endInterp_runs (s : State)  : (s.endInterp).runs = s.runs := rfl
@[simp] theorem State.endInterp_dramGranules (s : State)  : (s.endInterp).dramGranules = s.dramGranules := rfl
@[simp] theorem State.endInterp_boot (s : State)  : (s.endInterp).boot = s.boot := rfl
@[simp] theorem State.endInterp_enc (s : State)  : (s.endInterp).enc = s.enc := rfl
@[simp] theorem State.endInterp_hd (s : State)  : (s.endInterp).hd = s.hd := rfl
@[simp] theorem State.endInterp_flt (s : State)  : (s.endInterp).flt = s.flt := rfl
@[simp] theorem State.endInterp_pair (s : State)  : (s.endInterp).pair = s.pair := rfl
@[simp] theorem State.endInterp_pwr (s : State)  : (s.endInterp).pwr = s.pwr := rfl
@[simp] theorem State.endInterp_sl (s : State)  : (s.endInterp).sl = s.sl := rfl
@[simp] theorem State.endInterp_mem (s : State)  : (s.endInterp).mem = s.mem := rfl
@[simp] theorem State.endInterp_aud (s : State)  : (s.endInterp).aud = s.aud := rfl
@[simp] theorem State.endInterp_tch (s : State)  : (s.endInterp).tch = s.tch := rfl
@[simp] theorem State.endInterp_latches (s : State)  : (s.endInterp).latches = s.latches := rfl
@[simp] theorem State.endInterp_xing (s : State)  : (s.endInterp).xing = s.xing := rfl
@[simp] theorem State.endInterp_free (s : State)  : (s.endInterp).free = s.free := rfl
@[simp] theorem State.endInterp_out (s : State)  : (s.endInterp).out = s.out := rfl
@[simp] theorem State.endInterp_regs (s : State)  : (s.endInterp).regs = s.regs := rfl
@[simp] theorem State.setHeld_pending (s : State) (p : Port) (v : BitVec 64) : (s.setHeld p v).pending = s.pending := rfl
@[simp] theorem State.setHeld_now (s : State) (p : Port) (v : BitVec 64) : (s.setHeld p v).now = s.now := rfl
@[simp] theorem State.setHeld_portA (s : State) (p : Port) (v : BitVec 64) : (s.setHeld p v).portA = s.portA := rfl
@[simp] theorem State.setHeld_portB (s : State) (p : Port) (v : BitVec 64) : (s.setHeld p v).portB = s.portB := rfl
@[simp] theorem State.setHeld_interp (s : State) (p : Port) (v : BitVec 64) : (s.setHeld p v).interp = s.interp := rfl
@[simp] theorem State.setHeld_prof (s : State) (p : Port) (v : BitVec 64) : (s.setHeld p v).prof = s.prof := rfl
@[simp] theorem State.setHeld_evin (s : State) (p : Port) (v : BitVec 64) : (s.setHeld p v).evin = s.evin := rfl
@[simp] theorem State.setHeld_evLim (s : State) (p : Port) (v : BitVec 64) : (s.setHeld p v).evLim = s.evLim := rfl
@[simp] theorem State.setHeld_tm (s : State) (p : Port) (v : BitVec 64) : (s.setHeld p v).tm = s.tm := rfl
@[simp] theorem State.setHeld_ing (s : State) (p : Port) (v : BitVec 64) : (s.setHeld p v).ing = s.ing := rfl
@[simp] theorem State.setHeld_lode (s : State) (p : Port) (v : BitVec 64) : (s.setHeld p v).lode = s.lode := rfl
@[simp] theorem State.setHeld_cam (s : State) (p : Port) (v : BitVec 64) : (s.setHeld p v).cam = s.cam := rfl
@[simp] theorem State.setHeld_fab (s : State) (p : Port) (v : BitVec 64) : (s.setHeld p v).fab = s.fab := rfl
@[simp] theorem State.setHeld_dec (s : State) (p : Port) (v : BitVec 64) : (s.setHeld p v).dec = s.dec := rfl
@[simp] theorem State.setHeld_pools (s : State) (p : Port) (v : BitVec 64) : (s.setHeld p v).pools = s.pools := rfl
@[simp] theorem State.setHeld_runs (s : State) (p : Port) (v : BitVec 64) : (s.setHeld p v).runs = s.runs := rfl
@[simp] theorem State.setHeld_dramGranules (s : State) (p : Port) (v : BitVec 64) : (s.setHeld p v).dramGranules = s.dramGranules := rfl
@[simp] theorem State.setHeld_boot (s : State) (p : Port) (v : BitVec 64) : (s.setHeld p v).boot = s.boot := rfl
@[simp] theorem State.setHeld_enc (s : State) (p : Port) (v : BitVec 64) : (s.setHeld p v).enc = s.enc := rfl
@[simp] theorem State.setHeld_hd (s : State) (p : Port) (v : BitVec 64) : (s.setHeld p v).hd = s.hd := rfl
@[simp] theorem State.setHeld_flt (s : State) (p : Port) (v : BitVec 64) : (s.setHeld p v).flt = s.flt := rfl
@[simp] theorem State.setHeld_pair (s : State) (p : Port) (v : BitVec 64) : (s.setHeld p v).pair = s.pair := rfl
@[simp] theorem State.setHeld_pwr (s : State) (p : Port) (v : BitVec 64) : (s.setHeld p v).pwr = s.pwr := rfl
@[simp] theorem State.setHeld_sl (s : State) (p : Port) (v : BitVec 64) : (s.setHeld p v).sl = s.sl := rfl
@[simp] theorem State.setHeld_mem (s : State) (p : Port) (v : BitVec 64) : (s.setHeld p v).mem = s.mem := rfl
@[simp] theorem State.setHeld_aud (s : State) (p : Port) (v : BitVec 64) : (s.setHeld p v).aud = s.aud := rfl
@[simp] theorem State.setHeld_tch (s : State) (p : Port) (v : BitVec 64) : (s.setHeld p v).tch = s.tch := rfl
@[simp] theorem State.setHeld_latches (s : State) (p : Port) (v : BitVec 64) : (s.setHeld p v).latches = s.latches := rfl
@[simp] theorem State.setHeld_xing (s : State) (p : Port) (v : BitVec 64) : (s.setHeld p v).xing = s.xing := rfl
@[simp] theorem State.setHeld_free (s : State) (p : Port) (v : BitVec 64) : (s.setHeld p v).free = s.free := rfl
@[simp] theorem State.setHeld_out (s : State) (p : Port) (v : BitVec 64) : (s.setHeld p v).out = s.out := rfl
@[simp] theorem State.setHeld_regs (s : State) (p : Port) (v : BitVec 64) : (s.setHeld p v).regs = s.regs := rfl
@[simp] theorem State.draw_pending (s : State) : s.draw.2.pending = s.pending := rfl
@[simp] theorem State.draw_now (s : State) : s.draw.2.now = s.now := rfl
@[simp] theorem State.draw_portA (s : State) : s.draw.2.portA = s.portA := rfl
@[simp] theorem State.draw_portB (s : State) : s.draw.2.portB = s.portB := rfl
@[simp] theorem State.draw_interp (s : State) : s.draw.2.interp = s.interp := rfl
@[simp] theorem State.draw_sem (s : State) : s.draw.2.sem = s.sem := rfl
@[simp] theorem State.draw_prof (s : State) : s.draw.2.prof = s.prof := rfl
@[simp] theorem State.draw_evin (s : State) : s.draw.2.evin = s.evin := rfl
@[simp] theorem State.draw_evLim (s : State) : s.draw.2.evLim = s.evLim := rfl
@[simp] theorem State.draw_tm (s : State) : s.draw.2.tm = s.tm := rfl
@[simp] theorem State.draw_ing (s : State) : s.draw.2.ing = s.ing := rfl
@[simp] theorem State.draw_lode (s : State) : s.draw.2.lode = s.lode := rfl
@[simp] theorem State.draw_cam (s : State) : s.draw.2.cam = s.cam := rfl
@[simp] theorem State.draw_fab (s : State) : s.draw.2.fab = s.fab := rfl
@[simp] theorem State.draw_dec (s : State) : s.draw.2.dec = s.dec := rfl
@[simp] theorem State.draw_pools (s : State) : s.draw.2.pools = s.pools := rfl
@[simp] theorem State.draw_runs (s : State) : s.draw.2.runs = s.runs := rfl
@[simp] theorem State.draw_dramGranules (s : State) : s.draw.2.dramGranules = s.dramGranules := rfl
@[simp] theorem State.draw_boot (s : State) : s.draw.2.boot = s.boot := rfl
@[simp] theorem State.draw_enc (s : State) : s.draw.2.enc = s.enc := rfl
@[simp] theorem State.draw_hd (s : State) : s.draw.2.hd = s.hd := rfl
@[simp] theorem State.draw_flt (s : State) : s.draw.2.flt = s.flt := rfl
@[simp] theorem State.draw_pair (s : State) : s.draw.2.pair = s.pair := rfl
@[simp] theorem State.draw_pwr (s : State) : s.draw.2.pwr = s.pwr := rfl
@[simp] theorem State.draw_sl (s : State) : s.draw.2.sl = s.sl := rfl
@[simp] theorem State.draw_mem (s : State) : s.draw.2.mem = s.mem := rfl
@[simp] theorem State.draw_aud (s : State) : s.draw.2.aud = s.aud := rfl
@[simp] theorem State.draw_tch (s : State) : s.draw.2.tch = s.tch := rfl
@[simp] theorem State.draw_latches (s : State) : s.draw.2.latches = s.latches := rfl
@[simp] theorem State.draw_xing (s : State) : s.draw.2.xing = s.xing := rfl
@[simp] theorem State.draw_out (s : State) : s.draw.2.out = s.out := rfl
@[simp] theorem State.draw_regs (s : State) : s.draw.2.regs = s.regs := rfl

/-- A port after a change of it. -/
@[simp] theorem State.port_modPort_self (s : State) (p : Port) (f : HostPort → HostPort) : (s.modPort p f).port p = f (s.port p) := by
  cases p <;> rfl

/-- The other port after a change of one. -/
@[simp] theorem State.port_modPort_other (s : State) (p : Port) (f : HostPort → HostPort) : (s.modPort p f).port p.other = s.port p.other := by
  cases p <;> rfl

/-- One port after a change of one. -/
theorem State.port_modPort (s : State) (p q : Port) (f : HostPort → HostPort) :
    (s.modPort p f).port q = if p = q then f (s.port p) else s.port q := by
  cases p <;> cases q <;> rfl

/-- States with the same ports show the same port. -/
theorem State.port_congr {s t : State} (ha : t.portA = s.portA) (hb : t.portB = s.portB) (p : Port) : t.port p = s.port p := by
  cases p
  · exact ha
  · exact hb

@[simp] theorem State.port_setReg (s : State) (r : Reg) (i : Nat) (v : Word) (p : Port) : (s.setReg r i v).port p = s.port p :=
  State.port_congr (State.setReg_portA ..) (State.setReg_portB ..) p
@[simp] theorem State.port_setBits (s : State) (r : Reg) (i hi lo n : Nat) (p : Port) : (s.setBits r i hi lo n).port p = s.port p :=
  State.port_setReg ..
@[simp] theorem State.port_setBit (s : State) (r : Reg) (i k : Nat) (b : Bool) (p : Port) : (s.setBit r i k b).port p = s.port p :=
  State.port_setReg ..
@[simp] theorem State.port_bumpSat (s : State) (r : Reg) (i : Nat) (p : Port) : (s.bumpSat r i).port p = s.port p :=
  State.port_setReg ..
@[simp] theorem State.port_emit (s : State) (o : Output) (p : Port) : (s.emit o).port p = s.port p := by cases p <;> rfl
@[simp] theorem State.port_irq (s : State) (v : Nat) (q p : Port) : (s.irq q v).port p = s.port p := by cases p <;> rfl
@[simp] theorem State.port_endInterp (s : State) (p : Port) : s.endInterp.port p = s.port p := by cases p <;> rfl

/-- Registers after changes of other fields. -/
@[simp] theorem State.getReg_modPort (s : State) (p : Port) (f : HostPort → HostPort) (r : Reg) (i : Nat) :
    (s.modPort p f).getReg r i = s.getReg r i := State.getReg_congr (State.modPort_regs ..) r i
@[simp] theorem State.getReg_emit (s : State) (o : Output) (r : Reg) (i : Nat) : (s.emit o).getReg r i = s.getReg r i := rfl
@[simp] theorem State.getReg_irq (s : State) (p : Port) (v : Nat) (r : Reg) (i : Nat) : (s.irq p v).getReg r i = s.getReg r i := rfl
@[simp] theorem State.getReg_endInterp (s : State) (r : Reg) (i : Nat) : s.endInterp.getReg r i = s.getReg r i := rfl
@[simp] theorem State.getReg_setHeld (s : State) (p : Port) (v : BitVec 64) (r : Reg) (i : Nat) :
    (s.setHeld p v).getReg r i = s.getReg r i := rfl

/-- The scopes of a port after they are replaced, and those of the other port. -/
@[simp] theorem State.heldOf_setHeld_self (s : State) (p : Port) (v : BitVec 64) : (s.setHeld p v).heldOf p = v := by cases p <;> rfl
@[simp] theorem State.heldOf_setHeld_other (s : State) (p : Port) (v : BitVec 64) : (s.setHeld p v).heldOf p.other = s.heldOf p.other := by
  cases p <;> rfl

/-- The scopes of a port by the semaphore alone. -/
theorem State.heldOf_congr {s t : State} (h : t.sem = s.sem) (p : Port) : t.heldOf p = s.heldOf p := by
  cases p <;> simp [State.heldOf, h]

/-- A field that another register's write leaves alone. -/
theorem State.regBits_congr {s t : State} (h : t.regs = s.regs) (r : Reg) (i hi lo : Nat) : t.regBits r i hi lo = s.regBits r i hi lo := by
  unfold State.regBits; rw [State.getReg_congr h]

/-- A bit that another register's write leaves alone. -/
theorem State.regBit_congr {s t : State} (h : t.regs = s.regs) (r : Reg) (i k : Nat) : t.regBit r i k = s.regBit r i k := by
  unfold State.regBit; rw [State.getReg_congr h]

end Sys2Proof.Machine
end

