-- ==== Sys2Proof/Laws/Command.lean ====
section
/-! SUPPORT. What the shared form of a command does (Machine/Ops.lean), case by case, and what a reply leaves behind. -/

namespace Sys2Proof.Machine

variable {F R op status reason : Nat} {s t u : State} {r : Req} {need : List Nat} {bad : Bool} {c : Pre} {eff : State → Answer}

/-- A field outside the mask is kept. -/
theorem Keeps.reg (k : Keeps F R s t) {q : Reg} {i : Nat} (h : R.testBit q.ctorIdx = false := by rfl) : t.getReg q i = s.getReg q i :=
  k.regs q i h

/-- A field of a register outside the mask is kept. -/
theorem Keeps.regBits (k : Keeps F R s t) {q : Reg} {i hi lo : Nat} (h : R.testBit q.ctorIdx = false := by rfl) :
    t.regBits q i hi lo = s.regBits q i hi lo := by unfold State.regBits; rw [k.regs q i h]

/-- A bit of a register outside the mask is kept. -/
theorem Keeps.regBit (k : Keeps F R s t) {q : Reg} {i b : Nat} (h : R.testBit q.ctorIdx = false := by rfl) :
    t.regBit q i b = s.regBit q i b := by unfold State.regBit; rw [k.regs q i h]

/-- Two masks give what two lists say, where every other field and register is outside the masks. -/
theorem Keeps.only {fs : List Field} {rs : List Reg} (k : Keeps F R s t) (hf : ∀ f : Field, f ∉ fs → F.testBit f.ctorIdx = false)
    (hr : ∀ q : Reg, q ∉ rs → R.testBit q.ctorIdx = false) : OnlyChanges fs rs s t :=
  ⟨fun f h => k.fields f (hf f h), fun q i h => k.regs q i (hr q h), k.out, k.free⟩

/-- A command that cannot be interpreted now changes nothing (R25, R71). -/
theorem command_held (h : s.canRun r op = false) : command op r s need bad c eff = .next s := by simp [command, h]

/-- A command that one of the statuses of R20 keeps from executing only answers that status. -/
theorem command_status {st : Status} (h : s.canRun r op = true)
    (hf : firstStatus bad (s.notReady op) (!scopesOk (s.heldAt r op) need) c = some (st, reason)) :
    command op r s need bad c eff = .next (s.endInterp.replyR r op st.code reason s.isRestarted c.rbody) := by
  unfold command; rw [if_pos h]; simp only; rw [hf]

/-- A command whose execution ends at once answers after its effect. -/
theorem command_now {st : Status} {body : List Byte} (h : s.canRun r op = true)
    (hf : firstStatus bad (s.notReady op) (!scopesOk (s.heldAt r op) need) c = none) (he : eff s.endInterp = .now u st body) :
    command op r s need bad c eff = .next (u.replyR r op st.code 0 s.isRestarted body) := by
  unfold command; rw [if_pos h]; simp only; rw [hf]; simp only; rw [he]

/-- A command whose reply comes later leaves the state of its effect. -/
theorem command_later (h : s.canRun r op = true)
    (hf : firstStatus bad (s.notReady op) (!scopesOk (s.heldAt r op) need) c = none) (he : eff s.endInterp = .later u) :
    command op r s need bad c eff = .next u := by
  unfold command; rw [if_pos h]; simp only; rw [hf]; simp only; rw [he]

/-- A command whose execution itself finds a status answers it with its reason. -/
theorem command_refuse {st : Status} {body : List Byte} (h : s.canRun r op = true)
    (hf : firstStatus bad (s.notReady op) (!scopesOk (s.heldAt r op) need) c = none) (he : eff s.endInterp = .refuse u st reason body) :
    command op r s need bad c eff = .next (u.replyR r op st.code reason s.isRestarted body) := by
  unfold command; rw [if_pos h]; simp only; rw [hf]; simp only; rw [he]

/-- Nothing keeps a ready command from executing when its operands are good. -/
theorem firstStatus_none (h : Ready s r op need) (hb : bad = false) (hc : c.checkFail = false := by rfl) (h1 : c.notReady = false := by rfl)
    (h2 : c.denied = false := by rfl) (h3 : c.locked = false := by rfl) (h4 : c.notDuty = false := by rfl)
    (h5 : c.noRes = false := by rfl) (h6 : c.rej = none := by rfl) :
    firstStatus bad (s.notReady op) (!scopesOk (s.heldAt r op) need) c = none := by
  obtain ⟨_, hn, hs, _⟩ := h
  simp [firstStatus, hb, hn, hs, hc, h1, h2, h3, h4, h5, h6]

/-- A restart is open in no state whose interpreter can run a packet (R25). -/
theorem canRun_restart (h : s.canRun r op = true) : s.interp.restart = none := by
  simp only [State.canRun, Bool.and_eq_true] at h
  exact Option.isNone_iff_eq_none.mp h.1.1

@[simp] theorem State.endInterp_restart (s : State) : s.endInterp.interp.restart = s.interp.restart := rfl
@[simp] theorem State.endInterp_evtEn (s : State) (p : Port) : s.endInterp.evtEn p = s.evtEn p := rfl

/-- A record written leaves the device. -/
theorem State.pushRecord_out (s : State) (p : Port) (x : Record) :
    ∃ i y, (s.pushRecord p x).out = .record p i { x with phase := y } :: s.out := by
  refine ⟨s.regBits .HP_EVT_WR p.idx 15 0, bit01 (s.port p).phase, ?_⟩
  unfold State.pushRecord
  simp only
  split_ifs <;> simp [State.setBits, State.emit]

/-- The signal of a record takes nothing back. -/
theorem State.signalled_out (s : State) (p : Port) (urgent : Bool) : s.out <:+ (if urgent then s.irq p 1 else s.signal0 p).out := by
  split_ifs
  · exact List.suffix_cons ..
  · exact (State.signal0_keeps ..).out

/-- A reply leaves through the ring of its port while that port takes records and no restart is open (R63, R64). -/
theorem answers_replyR {rs : Bool} {body : List Byte} (ho : s.out <:+ u.out) (hr : u.interp.restart = none) (he : u.evtEn r.port = true) :
    Answers s (u.replyR r op status reason rs body) r op status reason body := by
  unfold State.replyR
  rw [hr]
  simp only
  unfold State.putReply
  rw [if_pos he]
  obtain ⟨p, hp⟩ := ho
  generalize hx : Record.mk op r.tag.val (replyKind r.urgent rs) status reason r.cookie body 0 = x
  generalize hv : (if status = 8 then u.bumpSat .HP_CRC_CNT r.port.idx else u) = v
  have hw : v.out = u.out := by subst hv; split_ifs <;> simp
  obtain ⟨i, y, h⟩ := v.pushRecord_out r.port x
  obtain ⟨q, hq⟩ := (v.pushRecord r.port x).signalled_out r.port r.urgent
  refine ⟨q ++ .record r.port i { x with phase := y } :: p, i, { x with phase := y }, ?_, by simp, ?_⟩
  · simp only [State.freeTag, State.modPort_out]
    rw [← hq, h, hw, ← hp]
    simp
  · subst hx; exact ⟨rfl, rfl, rfl, rfl, rfl, rfl⟩

/-- A ready command whose execution ends at once, and leaves the restart and the event enables alone, answers; past its effect
only the reply's ports, the interpreter's queue of due replies and the ring index differ. -/
theorem command_answers {st : Status} {body : List Byte} (h : Ready s r op need)
    (hf : firstStatus bad (s.notReady op) (!scopesOk (s.heldAt r op) need) c = none) (he : eff s.endInterp = .now u st body)
    (k : Keeps F R s.endInterp u) (hi : F.testBit Field.interp.ctorIdx = false := by rfl)
    (hc : R.testBit Reg.HP_CTL.ctorIdx = false := by rfl) :
    ∃ t, command op r s need bad c eff = .next t ∧ Answers s t r op st.code 0 body ∧ Keeps 28 2686976 u t := by
  have hr := canRun_restart h.1
  refine ⟨_, command_now h.1 hf he, answers_replyR k.out ?_ ?_, State.replyR_keeps ..⟩
  · rw [show u.interp = s.endInterp.interp from k.fields .interp hi]; exact hr
  · unfold State.evtEn; rw [k.regBit hc]; exact h.2.2.2

end Sys2Proof.Machine
end

