-- ==== Sys2Proof/Laws/Events.lean ====
section
/-! SUPPORT. What an event does (R66 to R68): the parts of a port and of HP_STATUS it leaves alone, and the record it writes. -/

namespace Sys2Proof.Machine

/-- A port without what records and their signals count: sequence number, dropped events, phase and vector 0 moderation. -/
def HostPort.core (h : HostPort) : HostPort := { h with seq := 0, dropped := 0, phase := true, modUntil := none, modPending := false }

/-- A change of what records count leaves the rest of every port. -/
theorem State.core_modPort (s : State) (p q : Port) {f : HostPort → HostPort} (hf : ∀ h, (f h).core = h.core) :
    ((s.modPort p f).port q).core = (s.port q).core := by
  rw [State.port_modPort]; split_ifs with h
  · rw [hf, h]
  · rfl

theorem State.core_signal0 (s : State) (p q : Port) : ((s.signal0 p).port q).core = (s.port q).core := by
  unfold State.signal0
  dsimp only
  split_ifs
  · simp
  · split
    · rw [State.port_irq]; exact State.core_modPort _ _ _ fun _ => rfl
    · exact State.core_modPort _ _ _ fun _ => rfl

theorem State.core_pushRecord (s : State) (p q : Port) (x : Record) : ((s.pushRecord p x).port q).core = (s.port q).core := by
  unfold State.pushRecord
  dsimp only
  split_ifs
  · refine (State.core_modPort _ _ _ ?_).trans (by simp)
    intro h; rfl
  · simp

/-- An event leaves the rings, tags, placement, mask and link of every port. -/
theorem State.core_eventTo (s : State) (p q : Port) (t code : Nat) (fields : List Byte) :
    ((s.eventTo p t code fields).port q).core = (s.port q).core := by
  have key : ∀ u : State, (((u.bumpSat .HP_EVT_DROP p.idx).setBit .HP_STATUS p.idx 2 true).port q).core = (u.port q).core := by
    intro u; simp
  unfold State.eventTo
  by_cases c : (s.evtEn p && s.passes p code) = true
  · rw [if_pos c]
    dsimp only
    by_cases d : s.freeRecords p ≤ 64
    · rw [if_pos d]
      split_ifs
      · rw [State.port_irq]
        refine (State.core_modPort _ _ _ ?_).trans ((key _).trans (State.core_modPort _ _ _ ?_)) <;> intro h <;> rfl
      · refine (State.core_modPort _ _ _ ?_).trans ((key _).trans (State.core_modPort _ _ _ ?_)) <;> intro h <;> rfl
    · rw [if_neg d]
      refine (State.core_signal0 ..).trans ((State.core_pushRecord ..).trans (State.core_modPort _ _ _ ?_))
      intro h; rfl
  · rw [if_neg c]

theorem State.core_eventAt (s : State) (q : Port) (t code : Nat) (fields : List Byte) :
    ((s.eventAt t code fields).port q).core = (s.port q).core := by
  unfold State.eventAt; rw [State.core_eventTo, State.core_eventTo]

theorem State.core_event (s : State) (q : Port) (code : Nat) (fields : List Byte) :
    ((s.event code fields).port q).core = (s.port q).core := State.core_eventAt ..

/-- Of HP_STATUS an event writes only EVT_OVF, bit 2. -/
theorem State.status_eventTo (s : State) (p : Port) (t code : Nat) (fields : List Byte) {i hi lo : Nat} (hl : lo ≤ hi) (d : hi < 2 ∨ 2 < lo) :
    (s.eventTo p t code fields).regBits .HP_STATUS i hi lo = s.regBits .HP_STATUS i hi lo := by
  have key : ∀ u : State, ((u.bumpSat .HP_EVT_DROP p.idx).setBit .HP_STATUS p.idx 2 true).regBits .HP_STATUS i hi lo = u.regBits .HP_STATUS i hi lo := by
    intro u
    unfold State.setBit State.bumpSat State.addSat State.addSatBits
    rw [State.regBits_setBits_ne _ _ (by omega) (by omega) hl (by tauto), State.regBits_setBits_ne _ _ (by omega) (by omega) hl (by simp)]
  have km : ∀ (u : State) (f : HostPort → HostPort), (u.modPort p f).regBits .HP_STATUS i hi lo = u.regBits .HP_STATUS i hi lo :=
    fun u f => State.regBits_congr (State.modPort_regs ..) ..
  unfold State.eventTo
  by_cases c : (s.evtEn p && s.passes p code) = true
  · rw [if_pos c]
    dsimp only
    by_cases e : s.freeRecords p ≤ 64
    · rw [if_pos e]
      split_ifs
      · rw [State.regBits_congr (State.irq_regs ..), km, key, km]
      · rw [km, key, km]
    · rw [if_neg e, (State.signal0_keeps ..).regBits, (State.pushRecord_keeps ..).regBits, km]
  · rw [if_neg c]

theorem State.status_event (s : State) (code : Nat) (fields : List Byte) {i hi lo : Nat} (hl : lo ≤ hi) (d : hi < 2 ∨ 2 < lo) :
    (s.event code fields).regBits .HP_STATUS i hi lo = s.regBits .HP_STATUS i hi lo := by
  unfold State.event State.eventAt
  rw [State.status_eventTo _ _ _ _ _ hl d, State.status_eventTo _ _ _ _ _ hl d]

/-- Something sent stays sent. -/
theorem Sends.keeps {F R : Nat} {s u t : State} {o : Output} (h : Sends s u o) (k : Keeps F R u t) : Sends s t o := by
  obtain ⟨n, h1, h2⟩ := h
  obtain ⟨q, hq⟩ := k.out
  exact ⟨q ++ n, by rw [← hq, h1]; simp, by simp [h2]⟩

/-- What is sent after other effects is sent since the start. -/
theorem Sends.after {F R : Nat} {s u t : State} {o : Output} (k : Keeps F R s u) (h : Sends u t o) : Sends s t o := by
  obtain ⟨n, h1, h2⟩ := h
  obtain ⟨q, hq⟩ := k.out
  exact ⟨n ++ q, by rw [h1, ← hq]; simp, by simp [h2]⟩

theorem sends_emit (s : State) (o : Output) : Sends s (s.emit o) o := ⟨[o], rfl, by simp⟩
theorem sends_irq (s : State) (p : Port) (v : Nat) : Sends s (s.irq p v) (.irq p v) := sends_emit ..

/-- An event raised stays raised. -/
theorem Raises.keeps {F R : Nat} {s u t : State} {p : Port} {code : Nat} (h : Raises s u p code) (k : Keeps F R u t) : Raises s t p code := by
  obtain ⟨n, i, x, h1, h2, h3⟩ := h
  obtain ⟨q, hq⟩ := k.out
  exact ⟨q ++ n, i, x, by rw [← hq, h1]; simp, by simp [h2], h3⟩

/-- What is raised after other effects is raised since the start. -/
theorem Raises.after {F R : Nat} {s u t : State} {p : Port} {code : Nat} (k : Keeps F R s u) (h : Raises u t p code) : Raises s t p code := by
  obtain ⟨n, i, x, h1, h2, h3⟩ := h
  obtain ⟨q, hq⟩ := k.out
  exact ⟨n ++ q, i, x, by rw [h1, ← hq]; simp, by simp [h2], h3⟩

/-- A reply given stays given. -/
theorem Answers.keeps {F R op st x : Nat} {s u t : State} {r : Req} {b : List Byte} (h : Answers s u r op st x b) (k : Keeps F R u t) :
    Answers s t r op st x b := by
  obtain ⟨n, i, y, h1, h2, h3⟩ := h
  obtain ⟨q, hq⟩ := k.out
  exact ⟨q ++ n, i, y, by rw [← hq, h1]; simp, by simp [h2], h3⟩

/-- An event is written for a port that takes records, passes its group and has more than 64 of them free (R67, R68). -/
theorem raises_eventTo (s : State) (p : Port) (t code : Nat) (fields : List Byte) (he : s.evtEn p = true) (hp : s.passes p code = true)
    (hf : 64 < s.freeRecords p) : Raises s (s.eventTo p t code fields) p code := by
  unfold State.eventTo
  rw [if_pos (by simp [he, hp])]
  dsimp only
  rw [if_neg (by omega)]
  generalize hx : Record.mk code 0 1 0 0 (s.port p).seq ((timeBytes t ++ fields).take 48) 0 = x
  generalize hu : s.modPort p _ = u
  have ho : u.out = s.out := by rw [← hu]; simp
  obtain ⟨i, y, h⟩ := u.pushRecord_out p x
  obtain ⟨q, hq⟩ := (State.signal0_keeps (u.pushRecord p x) p).out
  refine ⟨q ++ [.record p i { x with phase := y }], i, { x with phase := y }, ?_, by simp, ?_⟩
  · rw [← hq, h, ho]; simp
  · subst hx; exact ⟨rfl, rfl⟩

/-- An event for one port leaves the other port's ring registers. -/
theorem State.other_eventTo (s : State) (p : Port) (t code : Nat) (fields : List Byte) (r : Reg) :
    (s.eventTo p t code fields).getReg r p.other.idx = s.getReg r p.other.idx := by
  have hi : p.idx ≠ p.other.idx := by cases p <;> decide
  have hb : ∀ (u : State) (q : Reg) (a b n : Nat), (u.setBits q p.idx a b n).getReg r p.other.idx = u.getReg r p.other.idx :=
    fun u q a b n => State.getReg_setReg_ne _ _ (Or.inr hi)
  have hm : ∀ (u : State) (f : HostPort → HostPort), (u.modPort p f).getReg r p.other.idx = u.getReg r p.other.idx := fun u f => State.getReg_modPort ..
  have hp : ∀ (u : State) (x : Record), (u.pushRecord p x).getReg r p.other.idx = u.getReg r p.other.idx := by
    intro u x
    unfold State.pushRecord
    dsimp only
    split_ifs
    · rw [hm, hb]; rfl
    · rw [hb]; rfl
  have hs : ∀ u : State, (u.signal0 p).getReg r p.other.idx = u.getReg r p.other.idx := by
    intro u
    unfold State.signal0
    dsimp only
    split_ifs
    · rfl
    · split
      · rw [State.getReg_irq, hm]
      · rw [hm]
  have hd : ∀ u : State, ((u.bumpSat .HP_EVT_DROP p.idx).setBit .HP_STATUS p.idx 2 true).getReg r p.other.idx = u.getReg r p.other.idx := by
    intro u
    unfold State.setBit State.bumpSat State.addSat State.addSatBits
    rw [hb, hb]
  unfold State.eventTo
  by_cases c : (s.evtEn p && s.passes p code) = true
  · rw [if_pos c]
    dsimp only
    by_cases e : s.freeRecords p ≤ 64
    · rw [if_pos e]
      split_ifs
      · rw [State.getReg_irq, hm, hd, hm]
      · rw [hm, hd, hm]
    · rw [if_neg e, hs, hp, hm]
  · rw [if_neg c]

/-- An event for one port does not change whether the other takes events. -/
theorem listens_other_eventTo (s : State) (p : Port) (t code c : Nat) (fields : List Byte) (h : Listens s p.other c) :
    Listens (s.eventTo p t code fields) p.other c := by
  have hc := State.core_eventTo s p p.other t code fields
  have hl := congrArg HostPort.evtLog2 hc
  have hm := congrArg HostPort.blockMask hc
  simp only [HostPort.core] at hl hm
  obtain ⟨a, b, d⟩ := h
  refine ⟨?_, ?_, ?_⟩
  · unfold State.evtEn State.regBit at a ⊢; rw [State.other_eventTo]; exact a
  · unfold State.passes at b ⊢; rw [hm]; exact b
  · unfold State.freeRecords State.unread State.evtSize State.regBits at d ⊢
    rw [State.other_eventTo, State.other_eventTo, hl]; exact d

/-- An event is written for every port that takes it. -/
theorem raises_eventAt {s : State} {q : Port} {code : Nat} (t : Nat) (fields : List Byte) (h : Listens s q code) :
    Raises s (s.eventAt t code fields) q code := by
  unfold State.eventAt
  cases q with
  | A => exact (raises_eventTo s .A t code fields h.1 h.2.1 h.2.2).keeps (State.eventTo_keeps ..)
  | B =>
    have h2 := listens_other_eventTo s .A t code code fields h
    exact Raises.after (State.eventTo_keeps ..) (raises_eventTo _ .B t code fields h2.1 h2.2.1 h2.2.2)

theorem raises_event {s : State} {q : Port} {code : Nat} (fields : List Byte) (h : Listens s q code) : Raises s (s.event code fields) q code :=
  raises_eventAt _ _ h

/-- Whether a port takes events hangs on its ring registers, its ring size and its mask. -/
theorem Listens.congr {s t : State} {q : Port} {code : Nat} (h : Listens s q code)
    (hc : ∀ r, r = Reg.HP_CTL ∨ r = .HP_EVT_WR ∨ r = .HP_EVT_RD → t.getReg r q.idx = s.getReg r q.idx)
    (hl : (t.port q).evtLog2 = (s.port q).evtLog2) (hm : (t.port q).blockMask = (s.port q).blockMask) : Listens t q code := by
  obtain ⟨a, b, d⟩ := h
  refine ⟨?_, ?_, ?_⟩
  · unfold State.evtEn State.regBit at a ⊢; rw [hc _ (Or.inl rfl)]; exact a
  · unfold State.passes at b ⊢; rw [hm]; exact b
  · unfold State.freeRecords State.unread State.evtSize State.regBits at d ⊢
    rw [hc .HP_EVT_WR (by simp), hc .HP_EVT_RD (by simp), hl]; exact d

/-- What leaves the ports and their ring registers alone leaves it alone whether they take events. -/
theorem Listens.keeps {F R : Nat} {s t : State} {q : Port} {code : Nat} (h : Listens s q code) (k : Keeps F R s t)
    (hf : F &&& 12 = 0 := by rfl) (hr : R &&& (2 ^ Reg.HP_CTL.ctorIdx + 2 ^ Reg.HP_EVT_WR.ctorIdx + 2 ^ Reg.HP_EVT_RD.ctorIdx) = 0 := by rfl) :
    Listens t q code := by
  have tb : ∀ {x m i : Nat}, x &&& m = 0 → m.testBit i = true → x.testBit i = false := by
    intro x m i h1 h2
    have := congrArg (fun n => n.testBit i) h1
    simpa [Nat.testBit_and, h2] using this
  have hp : t.port q = s.port q := State.port_congr (k.fields .portA (tb hf (by decide))) (k.fields .portB (tb hf (by decide))) q
  refine h.congr ?_ (by rw [hp]) (by rw [hp])
  rintro r (rfl | rfl | rfl)
  · exact k.regs _ _ (tb hr (by decide))
  · exact k.regs _ _ (tb hr (by decide))
  · exact k.regs _ _ (tb hr (by decide))

end Sys2Proof.Machine
end

