-- ==== Sys2Proof/Laws/FrameAudioOps.lean ====
section
/-! SUPPORT. What each operation of Machine/AudioOps.lean can change at most (Keeps): masks of fields and of registers. -/

namespace Sys2Proof.Machine

theorem State.setAout_keeps (s : State) (k : ℕ) (x : AudChan) :
    Keeps 67108864 0 s (State.setAout s k x) := by
  unfold State.setAout
  with_reducible refine KeepsLaws.comp ?_ (KeepsLaws.upd_aud ..) (KeepsLaws.subI rfl rfl)
  exact KeepsLaws.refl ..

theorem State.routeDone_keeps (s : State) (cmd : Option ℕ) (key : ℕ) (superseded : Bool) :
    Keeps 67108892 2686976 s (State.routeDone s cmd key superseded) := by
  unfold State.routeDone
  split
  · exact KeepsLaws.refl ..
  · split
    · exact KeepsLaws.refl ..
    · extract_lets
      rename_i e0 e1
      with_reducible refine KeepsLaws.ite ?_ ?_
      · with_reducible refine KeepsLaws.comp ?_ (State.replyR_keeps ..) (KeepsLaws.subI rfl rfl)
        with_reducible refine KeepsLaws.comp ?_ (KeepsLaws.upd_aud ..) (KeepsLaws.subI rfl rfl)
        exact KeepsLaws.refl ..
      · with_reducible refine KeepsLaws.comp ?_ (KeepsLaws.upd_aud ..) (KeepsLaws.subI rfl rfl)
        exact KeepsLaws.refl ..

theorem State.endIdle_keeps (s : State) (key : ℕ) :
    Keeps 67108892 2686976 s (State.endIdle s key) := by
  unfold State.endIdle
  extract_lets
  rename_i e0
  with_reducible refine KeepsLaws.ite ?_ ?_
  · exact KeepsLaws.refl ..
  · with_reducible refine KeepsLaws.comp ?_ (State.routeDone_keeps ..) (KeepsLaws.subI rfl rfl)
    with_reducible refine KeepsLaws.comp ?_ (State.setAout_keeps ..) (KeepsLaws.subI rfl rfl)
    exact KeepsLaws.refl ..

theorem State.changeRoute_keeps (s : State) (key : ℕ) (target : Option (ℕ × ℕ)) (timeoutUs : ℕ) (cmd : Option ℕ) :
    Keeps 67108892 2686976 s (State.changeRoute s key target timeoutUs cmd) := by
  unfold State.changeRoute
  extract_lets
  rename_i e0 e1 e2 e3 e4
  have h_e2 : Keeps 67108892 2686976 s e2 := by
    unfold e2
    with_reducible refine KeepsLaws.comp ?_ (State.routeDone_keeps ..) (KeepsLaws.subI rfl rfl)
    exact KeepsLaws.refl ..
  clear_value e2
  have h_e4 : Keeps 67108892 2686976 s e4 := by
    unfold e4
    with_reducible refine KeepsLaws.ite ?_ ?_
    · with_reducible refine KeepsLaws.ite ?_ ?_
      · with_reducible refine KeepsLaws.comp ?_ (State.routeDone_keeps ..) (KeepsLaws.subI rfl rfl)
        exact KeepsLaws.refl ..
      · with_reducible refine KeepsLaws.comp ?_ (State.setAout_keeps ..) (KeepsLaws.subI rfl rfl)
        exact KeepsLaws.refl ..
    · with_reducible refine KeepsLaws.comp ?_ (State.setAout_keeps ..) (KeepsLaws.subI rfl rfl)
      assumption
  clear_value e4
  with_reducible refine KeepsLaws.comp ?_ (State.endIdle_keeps ..) (KeepsLaws.subI rfl rfl)
  assumption

theorem State.startOutput_keeps (s : State) (o : ℕ) :
    Keeps 67108892 2686976 s (State.startOutput s o) := by
  unfold State.startOutput
  with_reducible refine KeepsLaws.foldl (fun x a => ?_) ?_
  · with_reducible refine KeepsLaws.comp ?_ (State.changeRoute_keeps ..) (KeepsLaws.subI rfl rfl)
    with_reducible refine KeepsLaws.comp ?_ (State.setAout_keeps ..) (KeepsLaws.subI rfl rfl)
    exact KeepsLaws.refl ..
  · exact KeepsLaws.refl ..

theorem State.startHouse_keeps (s : State) :
    Keeps 67108864 822752278660603021077484591278675252491367932816789931674304512 s (State.startHouse s) := by
  unfold State.startHouse
  with_reducible refine KeepsLaws.ite ?_ ?_
  · exact KeepsLaws.refl ..
  · extract_lets
    rename_i e0 e1
    with_reducible refine KeepsLaws.stepSetBit ?_ (KeepsLaws.bitI rfl)
    with_reducible refine KeepsLaws.comp ?_ (KeepsLaws.upd_aud ..) (KeepsLaws.subI rfl rfl)
    exact KeepsLaws.refl ..

theorem State.setAin_keeps (s : State) (i : ℕ) (x : AudIn) :
    Keeps 67108864 13164036458569648337239753460458804039861886925068638906788872192 s (State.setAin s i x) := by
  unfold State.setAin
  with_reducible refine KeepsLaws.stepSetBits ?_ (KeepsLaws.bitI rfl)
  with_reducible refine KeepsLaws.comp ?_ (KeepsLaws.upd_aud ..) (KeepsLaws.subI rfl rfl)
  exact KeepsLaws.refl ..

theorem State.audioGiveUp_keeps (s : State) :
    Keeps 67108864 822752278660603021077484591278675252491367932816789931674304512 s (State.audioGiveUp s) := by
  unfold State.audioGiveUp
  extract_lets
  rename_i e0
  have h_e0 : Keeps 67108864 822752278660603021077484591278675252491367932816789931674304512 s e0 := by
    unfold e0
    with_reducible refine KeepsLaws.stepSetBit ?_ (KeepsLaws.bitI rfl)
    exact KeepsLaws.refl ..
  clear_value e0
  with_reducible refine KeepsLaws.foldl (fun x a => ?_) ?_
  · with_reducible refine KeepsLaws.ite ?_ ?_
    · with_reducible refine KeepsLaws.comp ?_ (State.setAout_keeps ..) (KeepsLaws.subI rfl rfl)
      exact KeepsLaws.refl ..
    · exact KeepsLaws.refl ..
  · assumption

end Sys2Proof.Machine
end

