-- ==== Sys2Proof/Laws/FrameHeads.lean ====
section
/-! SUPPORT. What each operation of Machine/Heads.lean can change at most (Keeps): masks of fields and of registers. -/

namespace Sys2Proof.Machine

theorem State.setHead_keeps (s : State) (h : ℕ) (x : Head) :
    Keeps 1048576 91343852333181432387730302044767688728495783936 s (State.setHead s h x) := by
  unfold State.setHead
  extract_lets
  rename_i e0 e1
  have h_e1 : Keeps 1048576 91343852333181432387730302044767688728495783936 s e1 := by
    unfold e1
    with_reducible refine KeepsLaws.comp ?_ (KeepsLaws.upd_hd ..) (KeepsLaws.subI rfl rfl)
    exact KeepsLaws.refl ..
  clear_value e1
  with_reducible refine KeepsLaws.stepSetBit ?_ (KeepsLaws.bitI rfl)
  with_reducible refine KeepsLaws.stepSetBit ?_ (KeepsLaws.bitI rfl)
  assumption

theorem State.modHead_keeps (s : State) (h : ℕ) (f : Head → Head) :
    Keeps 1048576 91343852333181432387730302044767688728495783936 s (State.modHead s h f) := by
  unfold State.modHead
  with_reducible refine KeepsLaws.comp ?_ (State.setHead_keeps ..) (KeepsLaws.subI rfl rfl)
  exact KeepsLaws.refl ..

theorem State.stopFlows_keeps (s : State) :
    Keeps 0 397528445354005593751402274498828981346413651689472 s (State.stopFlows s) := by
  unfold State.stopFlows
  extract_lets
  rename_i e0
  have h_e0 : Keeps 0 397528445354005593751402274498828981346413651689472 s e0 := by
    unfold e0
    with_reducible refine KeepsLaws.foldl (fun x a => ?_) ?_
    · with_reducible refine KeepsLaws.stepSetBit ?_ (KeepsLaws.bitI rfl)
      exact KeepsLaws.refl ..
    · exact KeepsLaws.refl ..
  clear_value e0
  with_reducible refine KeepsLaws.foldl (fun x a => ?_) ?_
  · with_reducible refine KeepsLaws.stepSetBit ?_ (KeepsLaws.bitI rfl)
    exact KeepsLaws.refl ..
  · assumption

theorem State.setOutMode_keeps (s : State) (h : ℕ) (m : ℕ) :
    Keeps 0 892029807941224925661428730905934460239216640 s (State.setOutMode s h m) := by
  unfold State.setOutMode
  with_reducible refine KeepsLaws.stepSetBit ?_ (KeepsLaws.bitI rfl)
  with_reducible refine KeepsLaws.stepSetBits ?_ (KeepsLaws.bitI rfl)
  exact KeepsLaws.refl ..

theorem State.startHatch_keeps (s : State) (h : ℕ) (cause : ℕ) :
    Keeps 1048588 92235882141122657313391730775673623188735594496 s (State.startHatch s h cause) := by
  unfold State.startHatch
  with_reducible refine KeepsLaws.ite ?_ ?_
  · exact KeepsLaws.refl ..
  · with_reducible refine KeepsLaws.comp ?_ (State.event_keeps ..) (KeepsLaws.subI rfl rfl)
    with_reducible refine KeepsLaws.comp ?_ (State.modHead_keeps ..) (KeepsLaws.subI rfl rfl)
    with_reducible refine KeepsLaws.comp ?_ (State.setOutMode_keeps ..) (KeepsLaws.subI rfl rfl)
    exact KeepsLaws.refl ..

theorem State.headGiveUp_keeps (s : State) (h : ℕ) :
    Keeps 1048588 92235882141122657313391730775673623188735594496 s (State.headGiveUp s h) := by
  unfold State.headGiveUp
  with_reducible refine KeepsLaws.ite ?_ ?_
  · exact KeepsLaws.refl ..
  · with_reducible refine KeepsLaws.ite ?_ ?_
    · with_reducible refine KeepsLaws.comp ?_ (State.startHatch_keeps ..) (KeepsLaws.subI rfl rfl)
      exact KeepsLaws.refl ..
    · with_reducible refine KeepsLaws.ite ?_ ?_
      · with_reducible refine KeepsLaws.comp ?_ (State.startHatch_keeps ..) (KeepsLaws.subI rfl rfl)
        exact KeepsLaws.refl ..
      · with_reducible refine KeepsLaws.comp ?_ (State.event_keeps ..) (KeepsLaws.subI rfl rfl)
        with_reducible refine KeepsLaws.comp ?_ (State.modHead_keeps ..) (KeepsLaws.subI rfl rfl)
        with_reducible refine KeepsLaws.comp ?_ (State.setOutMode_keeps ..) (KeepsLaws.subI rfl rfl)
        exact KeepsLaws.refl ..

theorem State.outputsGiveUp_keeps (s : State) :
    Keeps 68157452 822752278661000641758720737995083968157597537471759534061588480 s (State.outputsGiveUp s) := by
  unfold State.outputsGiveUp
  with_reducible refine KeepsLaws.stepSetBit ?_ (KeepsLaws.bitI rfl)
  with_reducible refine KeepsLaws.comp ?_ (State.audioGiveUp_keeps ..) (KeepsLaws.subI rfl rfl)
  with_reducible refine KeepsLaws.foldl (fun x a => ?_) ?_
  · with_reducible refine KeepsLaws.comp ?_ (State.headGiveUp_keeps ..) (KeepsLaws.subI rfl rfl)
    exact KeepsLaws.refl ..
  · with_reducible refine KeepsLaws.comp ?_ (State.stopFlows_keeps ..) (KeepsLaws.subI rfl rfl)
    exact KeepsLaws.refl ..

end Sys2Proof.Machine
end

