-- ==== Sys2Proof/Laws/FrameSurf.lean ====
section
/-! SUPPORT. What each operation of Machine/Surf.lean can change at most (Keeps): masks of fields and of registers. -/

namespace Sys2Proof.Machine

theorem State.release_keeps (s : State) (addr : ℕ) :
    Keeps 33619968 0 s (State.release s addr) := by
  unfold State.release
  extract_lets
  rename_i e0 e1
  with_reducible refine KeepsLaws.comp ?_ (KeepsLaws.updMk (F := 33619968) ?_) (KeepsLaws.subI rfl rfl)
  · exact KeepsLaws.refl ..
  · (intro f hf; cases f <;> first | exact absurd hf (by decide) | rfl)

theorem State.releaseAll_keeps (s : State) (addrs : List ℕ) :
    Keeps 33619968 0 s (State.releaseAll s addrs) := by
  unfold State.releaseAll
  with_reducible refine KeepsLaws.foldl (fun x a => ?_) ?_
  · with_reducible refine KeepsLaws.comp ?_ (State.release_keeps ..) (KeepsLaws.subI rfl rfl)
    exact KeepsLaws.refl ..
  · exact KeepsLaws.refl ..

theorem State.setPool_keeps (s : State) (k : ℕ) (p : Pool) :
    Keeps 32768 0 s (State.setPool s k p) := by
  unfold State.setPool
  with_reducible refine KeepsLaws.comp ?_ (KeepsLaws.upd_pools ..) (KeepsLaws.subI rfl rfl)
  exact KeepsLaws.refl ..

theorem State.alloc_keeps (s : State) (bytes : ℕ) :
    KeepsMP 65536 0 s (State.alloc s bytes) := by
  intro v t e
  unfold State.alloc at e
  simp only [Option.map_eq_some_iff] at e
  obtain ⟨st, _, e⟩ := e
  obtain ⟨_, rfl⟩ := Prod.mk.inj e
  exact KeepsLaws.comp (KeepsLaws.refl ..) (KeepsLaws.upd_runs ..) (KeepsLaws.subI rfl rfl)

theorem State.allocMany_keeps (s : State) (bytes n : ℕ) :
    KeepsMP 65536 0 s (State.allocMany s bytes n) := by
  induction n generalizing s with
  | zero => intro v t e; cases e; exact KeepsLaws.refl ..
  | succ k ih =>
    intro v t e
    unfold State.allocMany at e
    split at e
    · cases e
    · rename_i h
      simp only [Option.map_eq_some_iff] at e
      obtain ⟨st, h2, e⟩ := e
      obtain ⟨_, rfl⟩ := Prod.mk.inj e
      exact KeepsLaws.trans (KeepsLaws.mono (State.alloc_keeps s bytes _ _ h) (KeepsLaws.subI rfl rfl)) (ih _ _ _ h2)

theorem State.freePool_keeps (s : State) (k : ℕ) :
    Keeps 33652736 0 s (State.freePool s k) := by
  unfold State.freePool
  extract_lets
  rename_i e0 e1
  with_reducible refine KeepsLaws.comp ?_ (State.setPool_keeps ..) (KeepsLaws.subI rfl rfl)
  with_reducible refine KeepsLaws.comp ?_ (State.releaseAll_keeps ..) (KeepsLaws.subI rfl rfl)
  exact KeepsLaws.refl ..

theorem State.modPool_keeps (s : State) (k : ℕ) (f : Pool → Pool) :
    Keeps 32768 0 s (State.modPool s k f) := by
  unfold State.modPool
  with_reducible refine KeepsLaws.comp ?_ (State.setPool_keeps ..) (KeepsLaws.subI rfl rfl)
  exact KeepsLaws.refl ..

theorem State.collect_keeps (s : State) (k : ℕ) :
    Keeps 33652736 0 s (State.collect s k) := by
  unfold State.collect
  extract_lets
  rename_i e0 e1
  with_reducible refine KeepsLaws.comp ?_ (State.setPool_keeps ..) (KeepsLaws.subI rfl rfl)
  with_reducible refine KeepsLaws.comp ?_ (State.releaseAll_keeps ..) (KeepsLaws.subI rfl rfl)
  exact KeepsLaws.refl ..

end Sys2Proof.Machine
end

