-- ==== Sys2Proof/Laws/FrameBoard.lean ====
section
/-! SUPPORT. What each operation of Machine/Board.lean can change at most (Keeps): masks of fields and of registers. -/

namespace Sys2Proof.Machine

theorem State.setPrbs_keeps (s : State) (l : ℕ) (t : Option Prbs) :
    Keeps 16777216 4171849679533027504677776769862406473833407270227837441302815640277772901915313574263597826048 s (State.setPrbs s l t) := by
  unfold State.setPrbs
  with_reducible refine KeepsLaws.stepSetBit ?_ (KeepsLaws.bitI rfl)
  with_reducible refine KeepsLaws.comp ?_ (KeepsLaws.upd_sl ..) (KeepsLaws.subI rfl rfl)
  exact KeepsLaws.refl ..

theorem State.setPrbsBits_keeps (s : State) (l : ℕ) (n : ℕ) :
    Keeps 0 200248784617585320224533284953395510744003548970936197182535150733333099291935051564652695650304 s (State.setPrbsBits s l n) := by
  unfold State.setPrbsBits
  with_reducible refine KeepsLaws.stepReg ?_ (KeepsLaws.bitI rfl)
  with_reducible refine KeepsLaws.stepReg ?_ (KeepsLaws.bitI rfl)
  exact KeepsLaws.refl ..

theorem State.setLaneRate_keeps (s : State) (l : ℕ) (mbps : ℕ) (on : Bool) :
    Keeps 0 4171849679533027504677776769862406473833407270227837441302815640277772901915313574263597826048 s (State.setLaneRate s l mbps on) := by
  unfold State.setLaneRate
  with_reducible refine KeepsLaws.stepSetBit ?_ (KeepsLaws.bitI rfl)
  with_reducible refine KeepsLaws.stepSetBits ?_ (KeepsLaws.bitI rfl)
  with_reducible refine KeepsLaws.stepSetBits ?_ (KeepsLaws.bitI rfl)
  exact KeepsLaws.refl ..

theorem State.restoreLane_keeps (s : State) (l : ℕ) :
    Keeps 0 4171849679533027504677776769862406473833407270227837441302815640277772901915313574263597826048 s (State.restoreLane s l) := by
  unfold State.restoreLane
  with_reducible refine KeepsLaws.ite ?_ ?_
  · exact KeepsLaws.refl ..
  · with_reducible refine KeepsLaws.ite ?_ ?_
    · with_reducible refine KeepsLaws.comp ?_ (State.setLaneRate_keeps ..) (KeepsLaws.subI rfl rfl)
      exact KeepsLaws.refl ..
    · with_reducible refine KeepsLaws.comp ?_ (State.setLaneRate_keeps ..) (KeepsLaws.subI rfl rfl)
      exact KeepsLaws.refl ..

theorem State.endPrbs_keeps (s : State) (l : ℕ) (code : ℕ) :
    Keeps 16777244 738417393277345868327966488265645945868513086830327227110598368329165803639010502644656817901568 s (State.endPrbs s l code) := by
  unfold State.endPrbs
  split
  · exact KeepsLaws.refl ..
  · extract_lets
    rename_i e0 e1 e2 e3 e4 e5
    have h_e2 : Keeps 16777244 738417393277345868327966488265645945868513086830327227110598368329165803639010502644656817901568 s e2 := by
      unfold e2
      with_reducible refine KeepsLaws.ite ?_ ?_
      · with_reducible refine KeepsLaws.comp ?_ (State.restoreLane_keeps ..) (KeepsLaws.subI rfl rfl)
        exact KeepsLaws.refl ..
      · exact KeepsLaws.refl ..
    clear_value e2
    have h_e3 : Keeps 16777244 738417393277345868327966488265645945868513086830327227110598368329165803639010502644656817901568 s e3 := by
      unfold e3
      with_reducible refine KeepsLaws.stepSetBit ?_ (KeepsLaws.bitI rfl)
      with_reducible refine KeepsLaws.stepSetBits ?_ (KeepsLaws.bitI rfl)
      with_reducible refine KeepsLaws.comp ?_ (State.setPrbsBits_keeps ..) (KeepsLaws.subI rfl rfl)
      with_reducible refine KeepsLaws.comp ?_ (State.setPrbs_keeps ..) (KeepsLaws.subI rfl rfl)
      assumption
    clear_value e3
    have h_e5 : Keeps 16777244 738417393277345868327966488265645945868513086830327227110598368329165803639010502644656817901568 s e5 := by
      unfold e5
      with_reducible refine KeepsLaws.comp ?_ (State.replyR_keeps ..) (KeepsLaws.subI rfl rfl)
      assumption
    clear_value e5
    with_reducible refine KeepsLaws.comp ?_ (State.event_keeps ..) (KeepsLaws.subI rfl rfl)
    assumption

theorem State.endPrbsOf_keeps (s : State) (lanes : List ℕ) :
    Keeps 16777244 738417393277345868327966488265645945868513086830327227110598368329165803639010502644656817901568 s (State.endPrbsOf s lanes) := by
  unfold State.endPrbsOf
  with_reducible refine KeepsLaws.foldl (fun x a => ?_) ?_
  · with_reducible refine KeepsLaws.comp ?_ (State.endPrbs_keeps ..) (KeepsLaws.subI rfl rfl)
    exact KeepsLaws.refl ..
  · exact KeepsLaws.refl ..

theorem State.wipeHead_keeps (s : State) (h : ℕ) :
    Keeps 0 730125004003317693489933070264133320785621155840 s (State.wipeHead s h) := by
  refine KeepsLaws.wipe s (fun r i hr hi => ?_)
  have key := List.all_eq_true.mp (show Reg.all.all (fun q => Nat.testBit 730125004003317693489933070264133320785621155840 q.ctorIdx || !((q.info.block == .CNY || q.info.block == .LY || q.info.block == .HD) && (q.info.count == 24 || q.info.count == 192))) = true by decide +kernel) r
    (List.contains_iff_mem.mp r.mem_all)
  simp only [hr, Bool.false_or, Bool.not_eq_true'] at key
  unfold headReg
  rw [Reg.atAddr_addr hi]
  simp only [Bool.and_eq_false_iff, Bool.or_eq_false_iff, beq_eq_false_iff_ne] at key
  dsimp only
  rcases key with k | k
  · simp [k]
  · simp [k]

theorem State.dropHead_keeps (s : State) (h : ℕ) :
    Keeps 34668544 730125004003317693489933070264133320785621155840 s (State.dropHead s h) := by
  unfold State.dropHead
  extract_lets
  rename_i e0 e1
  have h_e1 : Keeps 34668544 730125004003317693489933070264133320785621155840 s e1 := by
    unfold e1
    split
    · with_reducible refine KeepsLaws.comp ?_ (State.release_keeps ..) (KeepsLaws.subI rfl rfl)
      exact KeepsLaws.refl ..
    · exact KeepsLaws.refl ..
  clear_value e1
  with_reducible refine KeepsLaws.comp ?_ (State.setHead_keeps ..) (KeepsLaws.subI rfl rfl)
  with_reducible refine KeepsLaws.comp ?_ (State.wipeHead_keeps ..) (KeepsLaws.subI rfl rfl)
  assumption

theorem State.wipeIsland_keeps (s : State) (h : ℕ) :
    Keeps 0 1065907593120688527445171968150717204707438790657569319906790843641411656708797630045343625248768 s (State.wipeIsland s h) := by
  refine KeepsLaws.wipe s (fun r i hr hi => ?_)
  have key := List.all_eq_true.mp (show Reg.all.all (fun q => Nat.testBit 1065907593120688527445171968150717204707438790657569319906790843641411656708797630045343625248768 q.ctorIdx || !(q.info.block == .AUD || q.info.block == .TCH || (q.info.block == .SL && (decide (64 ≤ q.info.count) || q.info.count == 16)) || (q.info.block == .CAM && (q.info.count == 8 || q.info.count == 2)))) = true by decide +kernel) r
    (List.contains_iff_mem.mp r.mem_all)
  simp only [hr, Bool.false_or, Bool.not_eq_true'] at key
  unfold islandReg
  rw [Reg.atAddr_addr hi]
  simp only [Bool.and_eq_false_iff, Bool.or_eq_false_iff, beq_eq_false_iff_ne, decide_eq_false_iff_not] at key
  dsimp only
  obtain ⟨⟨⟨a, b⟩, c⟩, d⟩ := key
  split_ifs
  · simp [a]
  · simp [b]
  · rcases c with c | c <;> simp [c]
  · rcases d with d | d <;> simp [d]
  · rfl

theorem State.dropData_keeps (s : State) (i : ℕ) :
    Keeps 236000256 1065907593120688527445171968150717204707438790658299444910794161334901589779061763366129246404608 s (State.dropData s i) := by
  unfold State.dropData
  extract_lets
  rename_i e0 e1 e2 e3
  have h_e0 : Keeps 236000256 1065907593120688527445171968150717204707438790658299444910794161334901589779061763366129246404608 s e0 := by
    unfold e0
    with_reducible refine KeepsLaws.comp ?_ (State.wipeIsland_keeps ..) (KeepsLaws.subI rfl rfl)
    exact KeepsLaws.refl ..
  clear_value e0
  with_reducible refine KeepsLaws.ite ?_ ?_
  · with_reducible refine KeepsLaws.comp ?_ (KeepsLaws.upd_ing ..) (KeepsLaws.subI rfl rfl)
    assumption
  · with_reducible refine KeepsLaws.ite ?_ ?_
    · with_reducible refine KeepsLaws.comp ?_ (KeepsLaws.upd_cam ..) (KeepsLaws.subI rfl rfl)
      assumption
    · with_reducible refine KeepsLaws.ite ?_ ?_
      · with_reducible refine KeepsLaws.foldl (fun x a => ?_) ?_
        · with_reducible refine KeepsLaws.comp ?_ (State.dropHead_keeps ..) (KeepsLaws.subI rfl rfl)
          exact KeepsLaws.refl ..
        · assumption
      · with_reducible refine KeepsLaws.ite ?_ ?_
        · with_reducible refine KeepsLaws.comp ?_ (KeepsLaws.upd_aud ..) (KeepsLaws.subI rfl rfl)
          assumption
        · with_reducible refine KeepsLaws.ite ?_ ?_
          · with_reducible refine KeepsLaws.comp ?_ (KeepsLaws.upd_tch ..) (KeepsLaws.subI rfl rfl)
            assumption
          · assumption

theorem State.clearSram_keeps (s : State) (i : ℕ) :
    Keeps 236000256 1065907593120688527459645979305381729135385163784385433392452909418106660283993961367118387609600 s (State.clearSram s i) := by
  unfold State.clearSram
  with_reducible refine KeepsLaws.stepBumpWrap ?_ (KeepsLaws.bitI rfl)
  with_reducible refine KeepsLaws.comp ?_ (State.dropData_keeps ..) (KeepsLaws.subI rfl rfl)
  exact KeepsLaws.refl ..

theorem State.countIslands_keeps (s : State) :
    Keeps 0 509258994083621521567111422102344540262867098416484062659035112338595324940834176545849344 s (State.countIslands s) := by
  unfold State.countIslands
  with_reducible refine KeepsLaws.stepSetBit ?_ (KeepsLaws.bitI rfl)
  with_reducible refine KeepsLaws.stepSetBits ?_ (KeepsLaws.bitI rfl)
  exact KeepsLaws.refl ..

theorem State.setIsland_keeps (s : State) (i : ℕ) (st : ℕ) (cause : ℕ) :
    Keeps 12 65694410236787176282157373451202445693909855695726444083015529491678796917367608774415159296 s (State.setIsland s i st cause) := by
  unfold State.setIsland
  with_reducible refine KeepsLaws.comp ?_ (State.event_keeps ..) (KeepsLaws.subI rfl rfl)
  with_reducible refine KeepsLaws.comp ?_ (State.countIslands_keeps ..) (KeepsLaws.subI rfl rfl)
  with_reducible refine KeepsLaws.stepSetBits ?_ (KeepsLaws.bitI rfl)
  exact KeepsLaws.refl ..

theorem State.finishIsland_keeps (s : State) (i : ℕ) :
    Keeps 238097420 1065973287530925314635928136678832931581079073640081159836535924947598339080911328975892802768896 s (State.finishIsland s i) := by
  unfold State.finishIsland
  extract_lets
  rename_i e0 e1
  have h_e0 : Keeps 238097420 1065973287530925314635928136678832931581079073640081159836535924947598339080911328975892802768896 s e0 := by
    unfold e0
    with_reducible refine KeepsLaws.comp ?_ (State.setIsland_keeps ..) (KeepsLaws.subI rfl rfl)
    with_reducible refine KeepsLaws.comp ?_ (State.clearSram_keeps ..) (KeepsLaws.subI rfl rfl)
    exact KeepsLaws.refl ..
  clear_value e0
  with_reducible refine KeepsLaws.comp ?_ (KeepsLaws.upd_flt ..) (KeepsLaws.subI rfl rfl)
  assumption

theorem State.pmbus_keeps (s : State) (t : Body) (command : ℕ) (value : ℕ) :
    Keeps 0 0 s (State.pmbus s t command value) := by
  unfold State.pmbus
  with_reducible refine KeepsLaws.comp ?_ (KeepsLaws.emit ..) (KeepsLaws.subI rfl rfl)
  exact KeepsLaws.refl ..

theorem State.writeVout_keeps (s : State) (mv : ℕ) :
    Keeps 8388608 0 s (State.writeVout s mv) := by
  unfold State.writeVout
  with_reducible refine KeepsLaws.comp ?_ (State.pmbus_keeps ..) (KeepsLaws.subI rfl rfl)
  with_reducible refine KeepsLaws.comp ?_ (KeepsLaws.upd_pwr ..) (KeepsLaws.subI rfl rfl)
  exact KeepsLaws.refl ..

theorem State.raiseVout_keeps (s : State) (mv n : ℕ) :
    Keeps 8388608 0 s (State.raiseVout s mv n) := by
  induction n generalizing s with
  | zero => exact KeepsLaws.refl ..
  | succ n ih =>
    unfold State.raiseVout
    exact KeepsLaws.ite (KeepsLaws.refl ..) (KeepsLaws.trans (KeepsLaws.mono (State.writeVout_keeps ..) (KeepsLaws.subI rfl rfl)) (ih ..))

theorem State.avs_keeps (s : State) :
    Keeps 8388608 1018517988167243043134222844204689080525734196832968125318070224677190649881668353091698688 s (State.avs s) := by
  unfold State.avs
  with_reducible refine KeepsLaws.ite ?_ ?_
  · exact KeepsLaws.refl ..
  · extract_lets
    rename_i e0 e1 e2
    have h_e1 : Keeps 8388608 1018517988167243043134222844204689080525734196832968125318070224677190649881668353091698688 s e1 := by
      unfold e1
      with_reducible refine KeepsLaws.stepSetBits ?_ (KeepsLaws.bitI rfl)
      exact KeepsLaws.refl ..
    clear_value e1
    with_reducible refine KeepsLaws.ite ?_ ?_
    · with_reducible refine KeepsLaws.comp ?_ (State.raiseVout_keeps ..) (KeepsLaws.subI rfl rfl)
      assumption
    · with_reducible refine KeepsLaws.ite ?_ ?_
      · with_reducible refine KeepsLaws.comp ?_ (State.writeVout_keeps ..) (KeepsLaws.subI rfl rfl)
        with_reducible refine KeepsLaws.comp ?_ (KeepsLaws.upd_pwr ..) (KeepsLaws.subI rfl rfl)
        assumption
      · assumption

theorem State.startIsland_keeps (s : State) (i : ℕ) (cause : ℕ) :
    Keeps 8388620 66712928224954419325291596295407134774435589892559412208333599716355987567249277127506857984 s (State.startIsland s i cause) := by
  unfold State.startIsland
  extract_lets
  rename_i e0 e1
  have h_e1 : Keeps 8388620 66712928224954419325291596295407134774435589892559412208333599716355987567249277127506857984 s e1 := by
    unfold e1
    with_reducible refine KeepsLaws.stepSetBits ?_ (KeepsLaws.bitI rfl)
    with_reducible refine KeepsLaws.comp ?_ (KeepsLaws.upd_pwr ..) (KeepsLaws.subI rfl rfl)
    exact KeepsLaws.refl ..
  clear_value e1
  with_reducible refine KeepsLaws.comp ?_ (State.avs_keeps ..) (KeepsLaws.subI rfl rfl)
  with_reducible refine KeepsLaws.comp ?_ (State.setIsland_keeps ..) (KeepsLaws.subI rfl rfl)
  assumption

theorem State.powerUpFor_keeps (s : State) (i : ℕ) (cause : ℕ) :
    Keeps 246486028 1065974306048913481878971270901677136270159599374277992804661243017823016271561210644245894467584 s (State.powerUpFor s i cause) := by
  unfold State.powerUpFor
  with_reducible refine KeepsLaws.ite ?_ ?_
  · with_reducible refine KeepsLaws.comp ?_ (State.finishIsland_keeps ..) (KeepsLaws.subI rfl rfl)
    with_reducible refine KeepsLaws.comp ?_ (State.startIsland_keeps ..) (KeepsLaws.subI rfl rfl)
    exact KeepsLaws.refl ..
  · exact KeepsLaws.refl ..

theorem State.powerUp_keeps (s : State) (i : ℕ) :
    Keeps 246486028 1065974306048913481878971270901677136270159599374277992804661243017823016271561210644245894467584 s (State.powerUp s i) := by
  unfold State.powerUp
  with_reducible refine KeepsLaws.comp ?_ (State.powerUpFor_keeps ..) (KeepsLaws.subI rfl rfl)
  exact KeepsLaws.refl ..

theorem State.powerUpAll_keeps (s : State) (l : List ℕ) :
    Keeps 246486028 1065974306048913481878971270901677136270159599374277992804661243017823016271561210644245894467584 s (State.powerUpAll s l) := by
  unfold State.powerUpAll
  with_reducible refine KeepsLaws.foldl (fun x a => ?_) ?_
  · with_reducible refine KeepsLaws.comp ?_ (State.powerUp_keeps ..) (KeepsLaws.subI rfl rfl)
    exact KeepsLaws.refl ..
  · exact KeepsLaws.refl ..

theorem State.laneProto_keeps (s : State) (l : ℕ) :
    Keeps 0 0 s (State.laneProto s l).2 := by
  unfold State.laneProto
  with_reducible refine KeepsLaws.iteP ?_ ?_
  · dsimp only
    exact KeepsLaws.refl ..
  · split
    dsimp only
    with_reducible refine KeepsLaws.ofSnd (by assumption) ?_
    with_reducible refine KeepsLaws.comp ?_ (KeepsLaws.drawn ..) (KeepsLaws.subI rfl rfl)
    exact KeepsLaws.refl ..

theorem State.macsFollow_keeps (s : State) :
    Keeps 1024 18014398509481984 s (State.macsFollow s) := by
  unfold State.macsFollow
  with_reducible refine KeepsLaws.foldl (fun x a => ?_) ?_
  · extract_lets
    rename_i e0 e1 e2 e3
    with_reducible refine KeepsLaws.stepSetBit ?_ (KeepsLaws.bitI rfl)
    with_reducible refine KeepsLaws.comp ?_ (KeepsLaws.upd_ing ..) (KeepsLaws.subI rfl rfl)
    exact KeepsLaws.refl ..
  · exact KeepsLaws.refl ..

theorem State.seamLaneLock_keeps (s : State) (n : ℕ) (locked : Bool) :
    Keeps 4194304 372992427307339981616536686110115630075342113098010788080347982669869622759400031649792 s (State.seamLaneLock s n locked) := by
  unfold State.seamLaneLock
  extract_lets
  rename_i e0 e1 e2 e3
  have h_e0 : Keeps 4194304 372992427307339981616536686110115630075342113098010788080347982669869622759400031649792 s e0 := by
    unfold e0
    with_reducible refine KeepsLaws.stepSetBit ?_ (KeepsLaws.bitI rfl)
    exact KeepsLaws.refl ..
  clear_value e0
  have h_e3 : Keeps 4194304 372992427307339981616536686110115630075342113098010788080347982669869622759400031649792 s e3 := by
    unfold e3
    with_reducible refine KeepsLaws.comp ?_ (KeepsLaws.upd_pair ..) (KeepsLaws.subI rfl rfl)
    assumption
  clear_value e3
  with_reducible refine KeepsLaws.ite ?_ ?_
  · assumption
  · with_reducible refine KeepsLaws.stepBumpSat ?_ (KeepsLaws.bitI rfl)
    assumption

theorem State.laneLock_keeps (s : State) (l : ℕ) (locked : Bool) :
    Keeps 4195596 45890346847855729858795526085023157322283110047848324952341760123403484590938090090698117812224 s (State.laneLock s l locked) := by
  unfold State.laneLock
  with_reducible refine KeepsLaws.ite ?_ ?_
  · exact KeepsLaws.refl ..
  · extract_lets
    rename_i e0 e1
    have h_e0 : Keeps 4195596 45890346847855729858795526085023157322283110047848324952341760123403484590938090090698117812224 s e0 := by
      unfold e0
      with_reducible refine KeepsLaws.stepSetBit ?_ (KeepsLaws.bitI rfl)
      exact KeepsLaws.refl ..
    clear_value e0
    have h_e1 : Keeps 4195596 45890346847855729858795526085023157322283110047848324952341760123403484590938090090698117812224 s e1 := by
      unfold e1
      with_reducible refine KeepsLaws.ite ?_ ?_
      · assumption
      · with_reducible refine KeepsLaws.stepBumpSat ?_ (KeepsLaws.bitI rfl)
        with_reducible refine KeepsLaws.ite ?_ ?_
        · assumption
        · with_reducible refine KeepsLaws.stepBumpSat ?_ (KeepsLaws.bitI rfl)
          assumption
    clear_value e1
    split
    extract_lets
    rename_i e2
    have h_e2 : Keeps 4195596 45890346847855729858795526085023157322283110047848324952341760123403484590938090090698117812224 s e2 := by
      unfold e2
      with_reducible refine KeepsLaws.comp ?_ (State.eventLimited_keeps ..) (KeepsLaws.subI rfl rfl)
      with_reducible refine KeepsLaws.ofSnd (by assumption) ?_
      with_reducible refine KeepsLaws.comp ?_ (State.laneProto_keeps ..) (KeepsLaws.subI rfl rfl)
      assumption
    clear_value e2
    with_reducible refine KeepsLaws.ite ?_ ?_
    · with_reducible refine KeepsLaws.comp ?_ (State.macsFollow_keeps ..) (KeepsLaws.subI rfl rfl)
      assumption
    · with_reducible refine KeepsLaws.ite ?_ ?_
      · with_reducible refine KeepsLaws.comp ?_ (State.seamLaneLock_keeps ..) (KeepsLaws.subI rfl rfl)
        assumption
      · assumption

theorem State.setLink_keeps (s : State) (p : Port) (up : Bool) (width : ℕ) (speed : ℕ) :
    Keeps 12 593920 s (State.setLink s p up width speed) := by
  unfold State.setLink
  extract_lets
  rename_i e0
  have h_e0 : Keeps 12 593920 s e0 := by
    unfold e0
    with_reducible refine KeepsLaws.stepSetBit ?_ (KeepsLaws.bitI rfl)
    with_reducible refine KeepsLaws.stepSetBits ?_ (KeepsLaws.bitI rfl)
    with_reducible refine KeepsLaws.stepSetBits ?_ (KeepsLaws.bitI rfl)
    exact KeepsLaws.refl ..
  clear_value e0
  with_reducible refine KeepsLaws.comp ?_ (State.event_keeps ..) (KeepsLaws.subI rfl rfl)
  with_reducible refine KeepsLaws.comp ?_ (State.modPort_keeps ..) (KeepsLaws.subI rfl rfl)
  assumption

theorem State.linkLeave_keeps (s : State) (p : Port) :
    Keeps 16777228 593920 s (State.linkLeave s p) := by
  unfold State.linkLeave
  with_reducible refine KeepsLaws.ite ?_ ?_
  · with_reducible refine KeepsLaws.comp ?_ (State.setLink_keeps ..) (KeepsLaws.subI rfl rfl)
    with_reducible refine KeepsLaws.comp ?_ (KeepsLaws.upd_sl ..) (KeepsLaws.subI rfl rfl)
    exact KeepsLaws.refl ..
  · exact KeepsLaws.refl ..

theorem State.linkTrain_keeps (s : State) (p : Port) (width : ℕ) (speed : ℕ) (asked : List (ℕ × ℕ)) :
    Keeps 16777228 593920 s (State.linkTrain s p width speed asked) := by
  unfold State.linkTrain
  extract_lets
  rename_i e0 e1 e2 e3
  with_reducible refine KeepsLaws.comp ?_ (State.setLink_keeps ..) (KeepsLaws.subI rfl rfl)
  with_reducible refine KeepsLaws.comp ?_ (KeepsLaws.upd_sl ..) (KeepsLaws.subI rfl rfl)
  exact KeepsLaws.refl ..

theorem State.takeHostLanes_keeps (s : State) (t : Body) :
    Keeps 16777228 593920 s (State.takeHostLanes s t) := by
  unfold State.takeHostLanes
  extract_lets
  rename_i e0 e1 e2 e3 e4
  have h_e4 : Keeps 16777228 593920 s e4 := by
    unfold e4
    with_reducible refine KeepsLaws.comp ?_ (KeepsLaws.upd_sl ..) (KeepsLaws.subI rfl rfl)
    exact KeepsLaws.refl ..
  clear_value e4
  with_reducible refine KeepsLaws.ite ?_ ?_
  · with_reducible refine KeepsLaws.comp ?_ (State.linkTrain_keeps ..) (KeepsLaws.subI rfl rfl)
    with_reducible refine KeepsLaws.comp ?_ (State.linkLeave_keeps ..) (KeepsLaws.subI rfl rfl)
    assumption
  · assumption

end Sys2Proof.Machine
end

