-- ==== Sys2Proof/Laws/FrameFaultOps.lean ====
section
/-! SUPPORT. What each operation of Machine/FaultOps.lean can change at most (Keeps): masks of fields and of registers. -/

namespace Sys2Proof.Machine

theorem State.answerSwitch_keeps (s : State) :
    Keeps 4194332 2686976 s (State.answerSwitch s) := by
  unfold State.answerSwitch
  with_reducible refine KeepsLaws.foldl (fun x a => ?_) ?_
  · with_reducible refine KeepsLaws.comp ?_ (State.replyR_keeps ..) (KeepsLaws.subI rfl rfl)
    exact KeepsLaws.refl ..
  · with_reducible refine KeepsLaws.comp ?_ (KeepsLaws.upd_pair ..) (KeepsLaws.subI rfl rfl)
    exact KeepsLaws.refl ..

theorem State.seam_keeps (s : State) (k : SeamKind) (bytes : List Byte) :
    Keeps 0 0 s (State.seam s k bytes) := by
  unfold State.seam
  with_reducible refine KeepsLaws.ite ?_ ?_
  · with_reducible refine KeepsLaws.comp ?_ (KeepsLaws.emit ..) (KeepsLaws.subI rfl rfl)
    exact KeepsLaws.refl ..
  · exact KeepsLaws.refl ..

theorem State.setPairState_keeps (s : State) (st : ℕ) (cause : ℕ) :
    Keeps 4194316 31082702275611665134711390509176302506278509424834232340028998555822468563420775518208 s (State.setPairState s st cause) := by
  unfold State.setPairState
  extract_lets
  rename_i e0 e1 e2 e3 e4
  have h_e1 : Keeps 4194316 31082702275611665134711390509176302506278509424834232340028998555822468563420775518208 s e1 := by
    unfold e1
    with_reducible refine KeepsLaws.stepSetBit ?_ (KeepsLaws.bitI rfl)
    with_reducible refine KeepsLaws.stepSetBit ?_ (KeepsLaws.bitI rfl)
    with_reducible refine KeepsLaws.stepSetBits ?_ (KeepsLaws.bitI rfl)
    exact KeepsLaws.refl ..
  clear_value e1
  have h_e4 : Keeps 4194316 31082702275611665134711390509176302506278509424834232340028998555822468563420775518208 s e4 := by
    unfold e4
    with_reducible refine KeepsLaws.comp ?_ (KeepsLaws.upd_pair ..) (KeepsLaws.subI rfl rfl)
    assumption
  clear_value e4
  with_reducible refine KeepsLaws.ite ?_ ?_
  · exact KeepsLaws.refl ..
  · with_reducible refine KeepsLaws.comp ?_ (State.event_keeps ..) (KeepsLaws.subI rfl rfl)
    assumption

theorem State.setDutyOut_keeps (s : State) (b : Bool) :
    Keeps 0 11966840376110491076863885346032876464917226128561179450911164443991650396864084348764160 s (State.setDutyOut s b) := by
  unfold State.setDutyOut
  with_reducible refine KeepsLaws.ite ?_ ?_
  · exact KeepsLaws.refl ..
  · with_reducible refine KeepsLaws.stepReg ?_ (KeepsLaws.bitI rfl)
    with_reducible refine KeepsLaws.stepReg ?_ (KeepsLaws.bitI rfl)
    with_reducible refine KeepsLaws.stepSetBit ?_ (KeepsLaws.bitI rfl)
    exact KeepsLaws.refl ..

theorem State.detailOf_keeps (s : State) (detail : List Byte) :
    Keeps 0 0 s (State.detailOf s detail).2 := by
  unfold State.detailOf
  with_reducible refine KeepsLaws.iteP ?_ ?_
  · split
    split
    dsimp only
    with_reducible refine KeepsLaws.ofSnd (by assumption) ?_
    with_reducible refine KeepsLaws.comp ?_ (KeepsLaws.drawn ..) (KeepsLaws.subI rfl rfl)
    with_reducible refine KeepsLaws.ofSnd (by assumption) ?_
    with_reducible refine KeepsLaws.comp ?_ (KeepsLaws.drawn ..) (KeepsLaws.subI rfl rfl)
    exact KeepsLaws.refl ..
  · dsimp only
    exact KeepsLaws.refl ..

theorem State.logRecord_keeps (s0 : State) (island : ℕ) (cls : ℕ) (sev : ℕ) (inst : ℕ) (detail0 : List Byte) :
    Keeps 2097420 14994975511867346266159596593294036560646077788933701929662427037672167451427703689216 s0 (State.logRecord s0 island cls sev inst detail0).1 := by
  unfold State.logRecord
  split
  extract_lets
  rename_i e0 e1 e2 e3 e4 e5 e6 e7 e8 e9 e10 e11
  have h_e3 : Keeps 2097420 14994975511867346266159596593294036560646077788933701929662427037672167451427703689216 s0 e3 := by
    unfold e3
    with_reducible refine KeepsLaws.comp ?_ (KeepsLaws.upd_flt ..) (KeepsLaws.subI rfl rfl)
    with_reducible refine KeepsLaws.ofSnd (by assumption) ?_
    with_reducible refine KeepsLaws.comp ?_ (State.detailOf_keeps ..) (KeepsLaws.subI rfl rfl)
    exact KeepsLaws.refl ..
  clear_value e3
  have h_e4 : Keeps 2097420 14994975511867346266159596593294036560646077788933701929662427037672167451427703689216 s0 e4 := by
    unfold e4
    with_reducible refine KeepsLaws.stepAddWrapBits ?_ (KeepsLaws.bitI rfl)
    with_reducible refine KeepsLaws.stepBumpWrap ?_ (KeepsLaws.bitI rfl)
    assumption
  clear_value e4
  have h_e5 : Keeps 2097420 14994975511867346266159596593294036560646077788933701929662427037672167451427703689216 s0 e5 := by
    unfold e5
    with_reducible refine KeepsLaws.stepReg ?_ (KeepsLaws.bitI rfl)
    assumption
  clear_value e5
  have h_e6 : Keeps 2097420 14994975511867346266159596593294036560646077788933701929662427037672167451427703689216 s0 e6 := by
    unfold e6
    with_reducible refine KeepsLaws.stepBumpSat ?_ (KeepsLaws.bitI rfl)
    assumption
  clear_value e6
  have h_e7 : Keeps 2097420 14994975511867346266159596593294036560646077788933701929662427037672167451427703689216 s0 e7 := by
    unfold e7
    with_reducible refine KeepsLaws.stepBumpSat ?_ (KeepsLaws.bitI rfl)
    assumption
  clear_value e7
  have h_e9 : Keeps 2097420 14994975511867346266159596593294036560646077788933701929662427037672167451427703689216 s0 e9 := by
    unfold e9
    with_reducible refine KeepsLaws.ite ?_ ?_
    · with_reducible refine KeepsLaws.foldl (fun x a => ?_) ?_
      · with_reducible refine KeepsLaws.stepReg ?_ (KeepsLaws.bitI rfl)
        exact KeepsLaws.refl ..
      · with_reducible refine KeepsLaws.stepSetBits ?_ (KeepsLaws.bitI rfl)
        with_reducible refine KeepsLaws.stepSetBits ?_ (KeepsLaws.bitI rfl)
        with_reducible refine KeepsLaws.stepSetBit ?_ (KeepsLaws.bitI rfl)
        assumption
    · assumption
  clear_value e9
  have h_e11 : Keeps 2097420 14994975511867346266159596593294036560646077788933701929662427037672167451427703689216 s0 e11 := by
    unfold e11
    with_reducible refine KeepsLaws.comp ?_ (KeepsLaws.upd_flt ..) (KeepsLaws.subI rfl rfl)
    assumption
  clear_value e11
  with_reducible refine KeepsLaws.iteQ ?_ ?_
  · dsimp only
    with_reducible refine KeepsLaws.comp ?_ (State.eventPerSec_keeps ..) (KeepsLaws.subI rfl rfl)
    assumption
  · dsimp only
    with_reducible refine KeepsLaws.comp ?_ (State.event_keeps ..) (KeepsLaws.subI rfl rfl)
    with_reducible refine KeepsLaws.stepSetBit ?_ (KeepsLaws.bitI rfl)
    assumption

theorem State.ineligible_keeps (s : State) :
    Keeps 72351756 31082702275611665134712213261454963506920268145572227423997156153359940322954836512768 s (State.ineligible s) := by
  unfold State.ineligible
  with_reducible refine KeepsLaws.ite ?_ ?_
  · exact KeepsLaws.refl ..
  · with_reducible refine KeepsLaws.comp ?_ (State.outputsGiveUp_keeps ..) (KeepsLaws.subI rfl rfl)
    with_reducible refine KeepsLaws.comp ?_ (State.setPairState_keeps ..) (KeepsLaws.subI rfl rfl)
    exact KeepsLaws.refl ..

theorem State.firstAction_keeps (s : State) (seq : ℕ) (action : ℕ) :
    Keeps 0 971334446112864535459730953411759453321203419526069760625906204869452142602604249088 s (State.firstAction s seq action) := by
  unfold State.firstAction
  with_reducible refine KeepsLaws.ite ?_ ?_
  · with_reducible refine KeepsLaws.stepSetBits ?_ (KeepsLaws.bitI rfl)
    exact KeepsLaws.refl ..
  · exact KeepsLaws.refl ..

theorem State.setAction_keeps (s0 : State) (seq : ℕ) (action : ℕ) :
    Keeps 2097164 971334446112864535459730953411759453321203419526069760625906204869452142602604843008 s0 (State.setAction s0 seq action) := by
  unfold State.setAction
  extract_lets
  rename_i e0 e1 e2
  have h_e0 : Keeps 2097164 971334446112864535459730953411759453321203419526069760625906204869452142602604843008 s0 e0 := by
    unfold e0
    with_reducible refine KeepsLaws.comp ?_ (State.firstAction_keeps ..) (KeepsLaws.subI rfl rfl)
    exact KeepsLaws.refl ..
  clear_value e0
  have h_e2 : Keeps 2097164 971334446112864535459730953411759453321203419526069760625906204869452142602604843008 s0 e2 := by
    unfold e2
    with_reducible refine KeepsLaws.comp ?_ (KeepsLaws.upd_flt ..) (KeepsLaws.subI rfl rfl)
    assumption
  clear_value e2
  split
  · assumption
  · with_reducible refine KeepsLaws.comp ?_ (State.eventAt_keeps ..) (KeepsLaws.subI rfl rfl)
    assumption

theorem State.fault_keeps (s : State) (island : ℕ) (cls : ℕ) (sev : ℕ) (inst : ℕ) (detail : List Byte) :
    Keeps 74449164 46077677787479011400871809854749000067566345934505929353659583191032107774382539608064 s (State.fault s island cls sev inst detail) := by
  unfold State.fault
  split
  with_reducible refine KeepsLaws.ite ?_ ?_
  · with_reducible refine KeepsLaws.ofFst (by assumption) ?_
    with_reducible refine KeepsLaws.comp ?_ (State.logRecord_keeps ..) (KeepsLaws.subI rfl rfl)
    exact KeepsLaws.refl ..
  · with_reducible refine KeepsLaws.ite ?_ ?_
    · split
      · with_reducible refine KeepsLaws.comp ?_ (KeepsLaws.upd_flt ..) (KeepsLaws.subI rfl rfl)
        with_reducible refine KeepsLaws.ofFst (by assumption) ?_
        with_reducible refine KeepsLaws.comp ?_ (State.logRecord_keeps ..) (KeepsLaws.subI rfl rfl)
        exact KeepsLaws.refl ..
      · with_reducible refine KeepsLaws.comp ?_ (State.setAction_keeps ..) (KeepsLaws.subI rfl rfl)
        with_reducible refine KeepsLaws.ofFst (by assumption) ?_
        with_reducible refine KeepsLaws.comp ?_ (State.logRecord_keeps ..) (KeepsLaws.subI rfl rfl)
        exact KeepsLaws.refl ..
    · with_reducible refine KeepsLaws.comp ?_ (State.ineligible_keeps ..) (KeepsLaws.subI rfl rfl)
      with_reducible refine KeepsLaws.comp ?_ (State.setAction_keeps ..) (KeepsLaws.subI rfl rfl)
      with_reducible refine KeepsLaws.ofFst (by assumption) ?_
      with_reducible refine KeepsLaws.comp ?_ (State.logRecord_keeps ..) (KeepsLaws.subI rfl rfl)
      exact KeepsLaws.refl ..

theorem State.giveUp_keeps (s : State) (cause : ℕ) :
    Keeps 72351772 11966840376110491076863886168785155125917867887281917445995132601589187868623755851403264 s (State.giveUp s cause) := by
  unfold State.giveUp
  extract_lets
  rename_i e0 e1 e2 e3
  have h_e0 : Keeps 72351772 11966840376110491076863886168785155125917867887281917445995132601589187868623755851403264 s e0 := by
    unfold e0
    with_reducible refine KeepsLaws.comp ?_ (State.seam_keeps ..) (KeepsLaws.subI rfl rfl)
    with_reducible refine KeepsLaws.comp ?_ (State.setDutyOut_keeps ..) (KeepsLaws.subI rfl rfl)
    exact KeepsLaws.refl ..
  clear_value e0
  have h_e2 : Keeps 72351772 11966840376110491076863886168785155125917867887281917445995132601589187868623755851403264 s e2 := by
    unfold e2
    with_reducible refine KeepsLaws.comp ?_ (State.answerSwitch_keeps ..) (KeepsLaws.subI rfl rfl)
    with_reducible refine KeepsLaws.comp ?_ (KeepsLaws.upd_pair ..) (KeepsLaws.subI rfl rfl)
    assumption
  clear_value e2
  with_reducible refine KeepsLaws.comp ?_ (State.outputsGiveUp_keeps ..) (KeepsLaws.subI rfl rfl)
  with_reducible refine KeepsLaws.comp ?_ (State.setPairState_keeps ..) (KeepsLaws.subI rfl rfl)
  assumption

theorem State.faultHw_keeps (s : State) (island : ℕ) (cls : ℕ) (inst : ℕ) (detail : List Byte) :
    Keeps 74449180 11981835351622358423130045765378449162478513965070851147924795028626860036075183554498560 s (State.faultHw s island cls inst detail) := by
  unfold State.faultHw
  split
  with_reducible refine KeepsLaws.ite ?_ ?_
  · extract_lets
    rename_i e0 e1 e2
    have h_e1 : Keeps 74449180 11981835351622358423130045765378449162478513965070851147924795028626860036075183554498560 s e1 := by
      unfold e1
      split
      · with_reducible refine KeepsLaws.comp ?_ (State.setAction_keeps ..) (KeepsLaws.subI rfl rfl)
        with_reducible refine KeepsLaws.comp ?_ (KeepsLaws.upd_flt ..) (KeepsLaws.subI rfl rfl)
        with_reducible refine KeepsLaws.ofFst (by assumption) ?_
        with_reducible refine KeepsLaws.comp ?_ (State.logRecord_keeps ..) (KeepsLaws.subI rfl rfl)
        exact KeepsLaws.refl ..
      · with_reducible refine KeepsLaws.ofFst (by assumption) ?_
        with_reducible refine KeepsLaws.comp ?_ (State.logRecord_keeps ..) (KeepsLaws.subI rfl rfl)
        exact KeepsLaws.refl ..
    clear_value e1
    have h_e2 : Keeps 74449180 11981835351622358423130045765378449162478513965070851147924795028626860036075183554498560 s e2 := by
      unfold e2
      with_reducible refine KeepsLaws.stepSetBit ?_ (KeepsLaws.bitI rfl)
      with_reducible refine KeepsLaws.stepSetBit ?_ (KeepsLaws.bitI rfl)
      assumption
    clear_value e2
    with_reducible refine KeepsLaws.comp ?_ (State.setAction_keeps ..) (KeepsLaws.subI rfl rfl)
    with_reducible refine KeepsLaws.comp ?_ (State.giveUp_keeps ..) (KeepsLaws.subI rfl rfl)
    assumption
  · with_reducible refine KeepsLaws.comp ?_ (State.ineligible_keeps ..) (KeepsLaws.subI rfl rfl)
    with_reducible refine KeepsLaws.comp ?_ (State.setAction_keeps ..) (KeepsLaws.subI rfl rfl)
    with_reducible refine KeepsLaws.ofFst (by assumption) ?_
    with_reducible refine KeepsLaws.comp ?_ (State.logRecord_keeps ..) (KeepsLaws.subI rfl rfl)
    exact KeepsLaws.refl ..

theorem State.resumeChans_keeps (s : State) (jump : ℕ) :
    Keeps 524288 0 s (State.resumeChans s jump) := by
  unfold State.resumeChans
  with_reducible refine KeepsLaws.comp ?_ (KeepsLaws.upd_enc ..) (KeepsLaws.subI rfl rfl)
  exact KeepsLaws.refl ..

theorem State.mgmtRelease_keeps (s : State) :
    Keeps 74448924 11967872418959485995432812132923155120337021665915163895115797626931861661525271118417920 s (State.mgmtRelease s) := by
  unfold State.mgmtRelease
  split
  · exact KeepsLaws.refl ..
  · extract_lets
    rename_i e0 e1
    have h_e1 : Keeps 74448924 11967872418959485995432812132923155120337021665915163895115797626931861661525271118417920 s e1 := by
      unfold e1
      with_reducible refine KeepsLaws.comp ?_ (KeepsLaws.upd_flt ..) (KeepsLaws.subI rfl rfl)
      exact KeepsLaws.refl ..
    clear_value e1
    with_reducible refine KeepsLaws.ite ?_ ?_
    · with_reducible refine KeepsLaws.comp ?_ (State.setAction_keeps ..) (KeepsLaws.subI rfl rfl)
      with_reducible refine KeepsLaws.comp ?_ (State.giveUp_keeps ..) (KeepsLaws.subI rfl rfl)
      with_reducible refine KeepsLaws.stepSetBit ?_ (KeepsLaws.bitI rfl)
      assumption
    · with_reducible refine KeepsLaws.comp ?_ (State.ineligible_keeps ..) (KeepsLaws.subI rfl rfl)
      with_reducible refine KeepsLaws.comp ?_ (State.setAction_keeps ..) (KeepsLaws.subI rfl rfl)
      assumption

end Sys2Proof.Machine
end

