-- ==== Sys2Proof/Laws/FrameCanary.lean ====
section
/-! SUPPORT. What each operation of Machine/Canary.lean can change at most (Keeps): masks of fields and of registers. -/

namespace Sys2Proof.Machine

theorem State.eventShared_keeps (s : State) (key : ℕ) (inst : ℕ) (t : ℕ) (code : ℕ) (fields : List Byte) :
    Keeps 268 593920 s (State.eventShared s key inst t code fields) := by
  unfold State.eventShared
  extract_lets
  rename_i e0
  with_reducible refine KeepsLaws.comp ?_ (State.eventAt_keeps ..) (KeepsLaws.subI rfl rfl)
  with_reducible refine KeepsLaws.comp ?_ (State.setLim_keeps ..) (KeepsLaws.subI rfl rfl)
  exact KeepsLaws.refl ..

theorem State.modLayer_keeps (s : State) (h : ℕ) (l : ℕ) (f : LayerRun → LayerRun) :
    Keeps 1048576 91343852333181432387730302044767688728495783936 s (State.modLayer s h l f) := by
  unfold State.modLayer
  with_reducible refine KeepsLaws.comp ?_ (State.modHead_keeps ..) (KeepsLaws.subI rfl rfl)
  exact KeepsLaws.refl ..

theorem State.reportGlyph_keeps (s : State) (h : ℕ) (l : ℕ) (g : ℕ) (checks : ℕ) (age : ℕ) (t : ℕ) :
    Keeps 1048844 91343852333181432387730302044776695927751118848 s (State.reportGlyph s h l g checks age t) := by
  unfold State.reportGlyph
  extract_lets
  rename_i e0 e1 e2 e3
  have h_e2 : Keeps 1048844 91343852333181432387730302044776695927751118848 s e2 := by
    unfold e2
    with_reducible refine KeepsLaws.comp ?_ (State.modLayer_keeps ..) (KeepsLaws.subI rfl rfl)
    exact KeepsLaws.refl ..
  clear_value e2
  with_reducible refine KeepsLaws.ite ?_ ?_
  · assumption
  · with_reducible refine KeepsLaws.ite ?_ ?_
    · with_reducible refine KeepsLaws.stepAddSatBits ?_ (KeepsLaws.bitI rfl)
      assumption
    · with_reducible refine KeepsLaws.ite ?_ ?_
      · with_reducible refine KeepsLaws.comp ?_ (State.eventShared_keeps ..) (KeepsLaws.subI rfl rfl)
        assumption
      · with_reducible refine KeepsLaws.comp ?_ (State.eventShared_keeps ..) (KeepsLaws.subI rfl rfl)
        assumption

theorem State.modHist_keeps (s : State) (h : ℕ) (l : ℕ) (f : HistLayer → HistLayer) :
    Keeps 1048576 91343852333181432387730302044767688728495783936 s (State.modHist s h l f) := by
  unfold State.modHist
  with_reducible refine KeepsLaws.comp ?_ (State.modHead_keeps ..) (KeepsLaws.subI rfl rfl)
  exact KeepsLaws.refl ..

theorem State.settle_keeps (s : State) (h : ℕ) (l : ℕ) :
    Keeps 1048844 91343852333181432387730302044779018233747935232 s (State.settle s h l) := by
  unfold State.settle
  extract_lets
  rename_i e0 e1
  split
  · exact KeepsLaws.refl ..
  · with_reducible refine KeepsLaws.ite ?_ ?_
    · exact KeepsLaws.refl ..
    · split
      extract_lets
      rename_i e2 e3 e4
      have h_e2 : Keeps 1048844 91343852333181432387730302044779018233747935232 s e2 := by
        unfold e2
        with_reducible refine KeepsLaws.comp ?_ (State.modLayer_keeps ..) (KeepsLaws.subI rfl rfl)
        exact KeepsLaws.refl ..
      clear_value e2
      have h_e3 : Keeps 1048844 91343852333181432387730302044779018233747935232 s e3 := by
        unfold e3
        with_reducible refine KeepsLaws.stepSetBits ?_ (KeepsLaws.bitI rfl)
        with_reducible refine KeepsLaws.stepSetBits ?_ (KeepsLaws.bitI rfl)
        assumption
      clear_value e3
      have h_e4 : Keeps 1048844 91343852333181432387730302044779018233747935232 s e4 := by
        unfold e4
        with_reducible refine KeepsLaws.ite ?_ ?_
        · assumption
        · with_reducible refine KeepsLaws.stepSetBit ?_ (KeepsLaws.bitI rfl)
          with_reducible refine KeepsLaws.ite ?_ ?_
          · assumption
          · with_reducible refine KeepsLaws.stepBumpSat ?_ (KeepsLaws.bitI rfl)
            assumption
      clear_value e4
      with_reducible refine KeepsLaws.comp ?_ (State.reportGlyph_keeps ..) (KeepsLaws.subI rfl rfl)
      with_reducible refine KeepsLaws.comp ?_ (State.modHist_keeps ..) (KeepsLaws.subI rfl rfl)
      assumption

theorem State.judge_keeps (s : State) (h : ℕ) (l : ℕ) (v : Verdict) :
    Keeps 1048844 91343852333181432387730302044780284871143133184 s (State.judge s h l v) := by
  unfold State.judge
  extract_lets
  rename_i e0 e1
  have h_e0 : Keeps 1048844 91343852333181432387730302044780284871143133184 s e0 := by
    unfold e0
    with_reducible refine KeepsLaws.stepReg ?_ (KeepsLaws.bitI rfl)
    with_reducible refine KeepsLaws.stepBumpWrap ?_ (KeepsLaws.bitI rfl)
    with_reducible refine KeepsLaws.comp ?_ (State.modLayer_keeps ..) (KeepsLaws.subI rfl rfl)
    exact KeepsLaws.refl ..
  clear_value e0
  have h_e1 : Keeps 1048844 91343852333181432387730302044780284871143133184 s e1 := by
    unfold e1
    with_reducible refine KeepsLaws.ite ?_ ?_
    · with_reducible refine KeepsLaws.comp ?_ (State.seam_keeps ..) (KeepsLaws.subI rfl rfl)
      assumption
    · assumption
  clear_value e1
  with_reducible refine KeepsLaws.ite ?_ ?_
  · assumption
  · with_reducible refine KeepsLaws.comp ?_ (State.settle_keeps ..) (KeepsLaws.subI rfl rfl)
    assumption

theorem State.pairMiss_keeps (s : State) (h : ℕ) (l : ℕ) :
    Keeps 1048844 91343852333181432387730302044779018233747935232 s (State.pairMiss s h l) := by
  unfold State.pairMiss
  extract_lets
  rename_i e0 e1
  have h_e1 : Keeps 1048844 91343852333181432387730302044779018233747935232 s e1 := by
    unfold e1
    with_reducible refine KeepsLaws.comp ?_ (State.modLayer_keeps ..) (KeepsLaws.subI rfl rfl)
    with_reducible refine KeepsLaws.stepAddSatBits ?_ (KeepsLaws.bitI rfl)
    exact KeepsLaws.refl ..
  clear_value e1
  with_reducible refine KeepsLaws.ite ?_ ?_
  · with_reducible refine KeepsLaws.comp ?_ (State.event_keeps ..) (KeepsLaws.subI rfl rfl)
    with_reducible refine KeepsLaws.comp ?_ (State.settle_keeps ..) (KeepsLaws.subI rfl rfl)
    assumption
  · exact KeepsLaws.refl ..

theorem execEvalDeadlineMiss_keeps (h : Fin 24) (l : Fin 8) (s : State) :
    KeepsO 74449164 46077677787479011400871809854749000067566345934505929353659583191032124873987374780416 s (execEvalDeadlineMiss h l s) := by
  unfold execEvalDeadlineMiss
  split
  · with_reducible refine KeepsLaws.next ?_
    exact KeepsLaws.refl ..
  · extract_lets
    rename_i e0 e1
    have h_e1 : Keeps 74449164 46077677787479011400871809854749000067566345934505929353659583191032124873987374780416 s e1 := by
      unfold e1
      with_reducible refine KeepsLaws.comp ?_ (State.event_keeps ..) (KeepsLaws.subI rfl rfl)
      with_reducible refine KeepsLaws.stepBumpSat ?_ (KeepsLaws.bitI rfl)
      exact KeepsLaws.refl ..
    clear_value e1
    with_reducible refine KeepsLaws.iteO ?_ ?_
    · with_reducible refine KeepsLaws.next ?_
      exact KeepsLaws.refl ..
    · with_reducible refine KeepsLaws.next ?_
      with_reducible refine KeepsLaws.comp ?_ (State.fault_keeps ..) (KeepsLaws.subI rfl rfl)
      with_reducible refine KeepsLaws.comp ?_ (State.judge_keeps ..) (KeepsLaws.subI rfl rfl)
      assumption

theorem execCnyLock_keeps (r : Req) (b : Body) (s : State) :
    KeepsO 28 6734511411200 s (execCnyLock r b s) := by
  unfold execCnyLock
  with_reducible refine KeepsLaws.command (KeepsLaws.subI rfl rfl) (fun x => ?_)
  extract_lets
  rename_i e0 e1
  have h_e1 : Keeps 28 6734511411200 x e1 := by
    unfold e1
    with_reducible refine KeepsLaws.stepReg ?_ (KeepsLaws.bitI rfl)
    with_reducible refine KeepsLaws.stepReg ?_ (KeepsLaws.bitI rfl)
    with_reducible refine KeepsLaws.stepSetBit ?_ (KeepsLaws.bitI rfl)
    exact KeepsLaws.refl ..
  clear_value e1
  with_reducible refine KeepsLaws.nowA ?_
  with_reducible refine KeepsLaws.comp ?_ (State.event_keeps ..) (KeepsLaws.subI rfl rfl)
  assumption

theorem execCanaryEvaluation_keeps (h : Fin 24) (l : Fin 8) (eccError : Bool) (disagree : Bool) (s : State) :
    KeepsO 74449164 46077677787479011400871809854749000067566345934505929353659583191032120370387747409920 s (execCanaryEvaluation h l eccError disagree s) := by
  unfold execCanaryEvaluation
  split
  · with_reducible refine KeepsLaws.next ?_
    exact KeepsLaws.refl ..
  · extract_lets
    rename_i e0 e1 e2
    with_reducible refine KeepsLaws.iteO ?_ ?_
    · with_reducible refine KeepsLaws.next ?_
      exact KeepsLaws.refl ..
    · with_reducible refine KeepsLaws.iteO ?_ ?_
      · with_reducible refine KeepsLaws.next ?_
        with_reducible refine KeepsLaws.comp ?_ (State.judge_keeps ..) (KeepsLaws.subI rfl rfl)
        exact KeepsLaws.refl ..
      · split
        extract_lets
        rename_i e3 e4 e5 e6 e7 e8
        have h_e6 : Keeps 74449164 46077677787479011400871809854749000067566345934505929353659583191032120370387747409920 s e6 := by
          unfold e6
          with_reducible refine KeepsLaws.comp ?_ (State.modLayer_keeps ..) (KeepsLaws.subI rfl rfl)
          exact KeepsLaws.refl ..
        clear_value e6
        have h_e7 : Keeps 74449164 46077677787479011400871809854749000067566345934505929353659583191032120370387747409920 s e7 := by
          unfold e7
          clear_value e2
          split
          · with_reducible refine KeepsLaws.ite ?_ ?_
            · with_reducible refine KeepsLaws.comp ?_ (State.event_keeps ..) (KeepsLaws.subI rfl rfl)
              assumption
            · assumption
          · assumption
        clear_value e7
        have h_e8 : Keeps 74449164 46077677787479011400871809854749000067566345934505929353659583191032120370387747409920 s e8 := by
          unfold e8
          with_reducible refine KeepsLaws.comp ?_ (State.judge_keeps ..) (KeepsLaws.subI rfl rfl)
          assumption
        clear_value e8
        with_reducible refine KeepsLaws.next ?_
        with_reducible refine KeepsLaws.ite ?_ ?_
        · with_reducible refine KeepsLaws.comp ?_ (State.fault_keeps ..) (KeepsLaws.subI rfl rfl)
          assumption
        · assumption

theorem execCnyLimits_keeps (r : Req) (b : Body) (s : State) :
    KeepsO 28 824636407808 s (execCnyLimits r b s) := by
  unfold execCnyLimits
  extract_lets
  rename_i e0 e1 e2 e3
  with_reducible refine KeepsLaws.command (KeepsLaws.subI rfl rfl) (fun x => ?_)
  extract_lets
  rename_i e4
  have h_e4 : Keeps 28 824636407808 x e4 := by
    unfold e4
    with_reducible refine KeepsLaws.stepSetBits ?_ (KeepsLaws.bitI rfl)
    exact KeepsLaws.refl ..
  clear_value e4
  with_reducible refine KeepsLaws.doneA ?_
  with_reducible refine KeepsLaws.stepSetBits ?_ (KeepsLaws.bitI rfl)
  with_reducible refine KeepsLaws.stepSetBits ?_ (KeepsLaws.bitI rfl)
  with_reducible refine KeepsLaws.stepSetBit ?_ (KeepsLaws.bitI rfl)
  assumption

theorem execCnyHistory_keeps (r : Req) (b : Body) (s : State) :
    KeepsO 28 2686976 s (execCnyHistory r b s) := by
  unfold execCnyHistory
  with_reducible refine KeepsLaws.command (KeepsLaws.subI rfl rfl) (fun x => ?_)
  extract_lets
  rename_i e0 e1
  have h_e1 : Keeps 28 2686976 x e1 := by
    unfold e1
    with_reducible refine KeepsLaws.ite ?_ ?_
    · exact KeepsLaws.refl ..
    · with_reducible refine KeepsLaws.comp ?_ (KeepsLaws.emit ..) (KeepsLaws.subI rfl rfl)
      exact KeepsLaws.refl ..
  clear_value e1
  with_reducible refine KeepsLaws.nowA ?_
  assumption

end Sys2Proof.Machine
end

