-- ==== Sys2Proof/Laws/FrameSlots.lean ====
section
/-! SUPPORT. What each operation of Machine/Slots.lean can change at most (Keeps): masks of fields and of registers. -/

namespace Sys2Proof.Machine

theorem State.adoptPool_keeps (s : State) (k : ℕ) :
    Keeps 33652736 0 s (State.adoptPool s k) := by
  unfold State.adoptPool
  extract_lets
  rename_i e0 e1 e2 e3 e4 e5 e6
  with_reducible refine KeepsLaws.ite ?_ ?_
  · exact KeepsLaws.refl ..
  · with_reducible refine KeepsLaws.comp ?_ (State.setPool_keeps ..) (KeepsLaws.subI rfl rfl)
    with_reducible refine KeepsLaws.comp ?_ (State.setPool_keeps ..) (KeepsLaws.subI rfl rfl)
    with_reducible refine KeepsLaws.comp ?_ (State.releaseAll_keeps ..) (KeepsLaws.subI rfl rfl)
    exact KeepsLaws.refl ..

theorem State.setSlot_keeps (s : State) (n : ℕ) (x : Slot) :
    Keeps 64 0 s (State.setSlot s n x) := by
  unfold State.setSlot
  with_reducible refine KeepsLaws.comp ?_ (KeepsLaws.upd_prof ..) (KeepsLaws.subI rfl rfl)
  exact KeepsLaws.refl ..

theorem State.storeEdit_keeps (s : State) (slot : Option ℕ) (op : ℕ) (b : Body) :
    Keeps 64 0 s (State.storeEdit s slot op b) := by
  unfold State.storeEdit
  split
  · exact KeepsLaws.refl ..
  · with_reducible refine KeepsLaws.comp ?_ (State.setSlot_keeps ..) (KeepsLaws.subI rfl rfl)
    exact KeepsLaws.refl ..

theorem State.storeTaken_keeps (s : State) (op : ℕ) (b : Body) :
    Keeps 64 0 s (State.storeTaken s op b) := by
  unfold State.storeTaken
  split
  · exact KeepsLaws.refl ..
  · split
    · with_reducible refine KeepsLaws.ite ?_ ?_
      · exact KeepsLaws.refl ..
      · with_reducible refine KeepsLaws.comp ?_ (State.storeEdit_keeps ..) (KeepsLaws.subI rfl rfl)
        exact KeepsLaws.refl ..
    · with_reducible refine KeepsLaws.comp ?_ (State.storeEdit_keeps ..) (KeepsLaws.subI rfl rfl)
      exact KeepsLaws.refl ..

theorem State.setSlotState_keeps (s : State) (n : ℕ) (st : ℕ) :
    Keeps 0 4294967296 s (State.setSlotState s n st) := by
  unfold State.setSlotState
  with_reducible refine KeepsLaws.stepSetBits ?_ (KeepsLaws.bitI rfl)
  exact KeepsLaws.refl ..

theorem State.unstage_keeps (s : State) (k : ℕ) :
    Keeps 33652736 0 s (State.unstage s k) := by
  unfold State.unstage
  with_reducible refine KeepsLaws.comp ?_ (State.freePool_keeps ..) (KeepsLaws.subI rfl rfl)
  exact KeepsLaws.refl ..

theorem State.stagePool_keeps (s : State) (k : ℕ) (cls : ℕ) (depth : ℕ) (bytes : ℕ) (src : ℕ) (w : ℕ) (h : ℕ) (fmt : ℕ) :
    KeepsM 33652736 0 s (State.stagePool s k cls depth bytes src w h fmt) := by
  unfold State.stagePool
  extract_lets
  rename_i e0
  have h_e0 : Keeps 33652736 0 s e0 := by
    unfold e0
    with_reducible refine KeepsLaws.comp ?_ (State.freePool_keeps ..) (KeepsLaws.subI rfl rfl)
    exact KeepsLaws.refl ..
  clear_value e0
  with_reducible refine KeepsLaws.mapP ?_ (fun v x => ?_)
  · with_reducible refine KeepsLaws.compMP ?_ (State.allocMany_keeps ..) (KeepsLaws.subI rfl rfl)
    assumption
  · with_reducible refine KeepsLaws.comp ?_ (State.setPool_keeps ..) (KeepsLaws.subI rfl rfl)
    dsimp only
    exact KeepsLaws.refl ..

end Sys2Proof.Machine
end

