-- ==== Sys2Proof/Laws/FrameArms.lean ====
section
/-! SUPPORT. What each operation of Machine/Arms.lean can change at most (Keeps): masks of fields and of registers. -/

namespace Sys2Proof.Machine

theorem State.allocFlat_keeps (s : State) (h : ℕ) :
    Keeps 34668544 91343852333181432387730302044767688728495783936 s (State.allocFlat s h) := by
  unfold State.allocFlat
  extract_lets
  rename_i e0 e1 e2
  have h_e2 : Keeps 34668544 91343852333181432387730302044767688728495783936 s e2 := by
    unfold e2
    split
    · with_reducible refine KeepsLaws.comp ?_ (State.modHead_keeps ..) (KeepsLaws.subI rfl rfl)
      with_reducible refine KeepsLaws.comp ?_ (State.release_keeps ..) (KeepsLaws.subI rfl rfl)
      exact KeepsLaws.refl ..
    · exact KeepsLaws.refl ..
  clear_value e2
  with_reducible refine KeepsLaws.ite ?_ ?_
  · with_reducible refine KeepsLaws.stepSetBit ?_ (KeepsLaws.bitI rfl)
    exact KeepsLaws.refl ..
  · with_reducible refine KeepsLaws.ite ?_ ?_
    · with_reducible refine KeepsLaws.stepSetBit ?_ (KeepsLaws.bitI rfl)
      assumption
    · split
      · with_reducible refine KeepsLaws.stepSetBit ?_ (KeepsLaws.bitI rfl)
        with_reducible refine KeepsLaws.comp ?_ (State.modHead_keeps ..) (KeepsLaws.subI rfl rfl)
        with_reducible refine KeepsLaws.comp ?_ (KeepsLaws.ofOptP (by assumption) (State.alloc_keeps ..)) (KeepsLaws.subI rfl rfl)
        assumption
      · with_reducible refine KeepsLaws.stepSetBit ?_ (KeepsLaws.bitI rfl)
        assumption

theorem State.showHead_keeps (s : State) (h : ℕ) :
    Keeps 0 46385550012943696134394294007108591932439265280 s (State.showHead s h) := by
  unfold State.showHead
  extract_lets
  rename_i e0 e1 e2
  with_reducible refine KeepsLaws.ite ?_ ?_
  · with_reducible refine KeepsLaws.foldl (fun x a => ?_) ?_
    · unfold e2
      extract_lets
      rename_i e3 e4 e5
      have h_e3 : Keeps 0 46385550012943696134394294007108591932439265280 x e3 := by
        unfold e3
        with_reducible refine KeepsLaws.stepSetBits ?_ (KeepsLaws.bitI rfl)
        with_reducible refine KeepsLaws.stepSetBit ?_ (KeepsLaws.bitI rfl)
        with_reducible refine KeepsLaws.stepSetBit ?_ (KeepsLaws.bitI rfl)
        with_reducible refine KeepsLaws.stepSetBit ?_ (KeepsLaws.bitI rfl)
        with_reducible refine KeepsLaws.stepSetBit ?_ (KeepsLaws.bitI rfl)
        exact KeepsLaws.refl ..
      clear_value e3
      have h_e4 : Keeps 0 46385550012943696134394294007108591932439265280 x e4 := by
        unfold e4
        with_reducible refine KeepsLaws.stepSetBits ?_ (KeepsLaws.bitI rfl)
        with_reducible refine KeepsLaws.stepSetBit ?_ (KeepsLaws.bitI rfl)
        assumption
      clear_value e4
      have h_e5 : Keeps 0 46385550012943696134394294007108591932439265280 x e5 := by
        unfold e5
        with_reducible refine KeepsLaws.stepReg ?_ (KeepsLaws.bitI rfl)
        assumption
      clear_value e5
      with_reducible refine KeepsLaws.ite ?_ ?_
      · assumption
      · with_reducible refine KeepsLaws.stepSetBits ?_ (KeepsLaws.bitI rfl)
        with_reducible refine KeepsLaws.stepSetBit ?_ (KeepsLaws.bitI rfl)
        assumption
    · exact KeepsLaws.refl ..
  · unfold e2
    extract_lets
    rename_i e6 e7 e8
    have h_e6 : Keeps 0 46385550012943696134394294007108591932439265280 s e6 := by
      unfold e6
      with_reducible refine KeepsLaws.stepSetBits ?_ (KeepsLaws.bitI rfl)
      with_reducible refine KeepsLaws.stepSetBit ?_ (KeepsLaws.bitI rfl)
      with_reducible refine KeepsLaws.stepSetBit ?_ (KeepsLaws.bitI rfl)
      with_reducible refine KeepsLaws.stepSetBit ?_ (KeepsLaws.bitI rfl)
      with_reducible refine KeepsLaws.stepSetBit ?_ (KeepsLaws.bitI rfl)
      exact KeepsLaws.refl ..
    clear_value e6
    have h_e7 : Keeps 0 46385550012943696134394294007108591932439265280 s e7 := by
      unfold e7
      with_reducible refine KeepsLaws.stepSetBits ?_ (KeepsLaws.bitI rfl)
      with_reducible refine KeepsLaws.stepSetBit ?_ (KeepsLaws.bitI rfl)
      assumption
    clear_value e7
    have h_e8 : Keeps 0 46385550012943696134394294007108591932439265280 s e8 := by
      unfold e8
      with_reducible refine KeepsLaws.stepReg ?_ (KeepsLaws.bitI rfl)
      assumption
    clear_value e8
    with_reducible refine KeepsLaws.ite ?_ ?_
    · assumption
    · with_reducible refine KeepsLaws.stepSetBits ?_ (KeepsLaws.bitI rfl)
      with_reducible refine KeepsLaws.stepSetBit ?_ (KeepsLaws.bitI rfl)
      assumption

theorem State.setFlow_keeps (s : State) (f : ℕ) (x : FlowRun) :
    Keeps 1048576 0 s (State.setFlow s f x) := by
  unfold State.setFlow
  with_reducible refine KeepsLaws.comp ?_ (KeepsLaws.upd_hd ..) (KeepsLaws.subI rfl rfl)
  exact KeepsLaws.refl ..

theorem State.startTraining_keeps (s : State) (d : ℕ) :
    Keeps 12 730750818665451459101842416358141509827966865408 s (State.startTraining s d) := by
  unfold State.startTraining
  extract_lets
  rename_i e0 e1 e2 e3 e4
  have h_e4 : Keeps 12 730750818665451459101842416358141509827966865408 s e4 := by
    unfold e4
    with_reducible refine KeepsLaws.stepSetBit ?_ (KeepsLaws.bitI rfl)
    exact KeepsLaws.refl ..
  clear_value e4
  with_reducible refine KeepsLaws.ite ?_ ?_
  · assumption
  · split
    · with_reducible refine KeepsLaws.comp ?_ (KeepsLaws.emit ..) (KeepsLaws.subI rfl rfl)
      with_reducible refine KeepsLaws.stepSetBits ?_ (KeepsLaws.bitI rfl)
      with_reducible refine KeepsLaws.stepSetBits ?_ (KeepsLaws.bitI rfl)
      assumption
    · with_reducible refine KeepsLaws.comp ?_ (State.event_keeps ..) (KeepsLaws.subI rfl rfl)
      with_reducible refine KeepsLaws.stepSetBits ?_ (KeepsLaws.bitI rfl)
      assumption

theorem State.dpOff_keeps (s : State) (d : ℕ) :
    Keeps 12 4171849679533027504677776769862406473833407270958588259968267099379615318273455084091564691456 s (State.dpOff s d) := by
  unfold State.dpOff
  extract_lets
  rename_i e0 e1 e2
  have h_e1 : Keeps 12 4171849679533027504677776769862406473833407270958588259968267099379615318273455084091564691456 s e1 := by
    unfold e1
    with_reducible refine KeepsLaws.stepSetBits ?_ (KeepsLaws.bitI rfl)
    with_reducible refine KeepsLaws.stepSetBits ?_ (KeepsLaws.bitI rfl)
    with_reducible refine KeepsLaws.stepSetBit ?_ (KeepsLaws.bitI rfl)
    exact KeepsLaws.refl ..
  clear_value e1
  have h_e2 : Keeps 12 4171849679533027504677776769862406473833407270958588259968267099379615318273455084091564691456 s e2 := by
    unfold e2
    with_reducible refine KeepsLaws.foldl (fun x a => ?_) ?_
    · with_reducible refine KeepsLaws.comp ?_ (State.setLaneRate_keeps ..) (KeepsLaws.subI rfl rfl)
      exact KeepsLaws.refl ..
    · assumption
  clear_value e2
  with_reducible refine KeepsLaws.ite ?_ ?_
  · with_reducible refine KeepsLaws.comp ?_ (State.event_keeps ..) (KeepsLaws.subI rfl rfl)
    assumption
  · assumption

theorem State.applyOut_keeps (s : State) (key : ℕ) (o : Body) :
    Keeps 17825820 738417393277345868327966488265645945868513087234432429832593025212484659885062757579522166034432 s (State.applyOut s key o) := by
  unfold State.applyOut
  extract_lets
  rename_i e0 e1 e2 e3 e4 e5 e6
  have h_e2 : Keeps 17825820 738417393277345868327966488265645945868513087234432429832593025212484659885062757579522166034432 s e2 := by
    unfold e2
    with_reducible refine KeepsLaws.stepSetBits ?_ (KeepsLaws.bitI rfl)
    with_reducible refine KeepsLaws.stepSetBits ?_ (KeepsLaws.bitI rfl)
    with_reducible refine KeepsLaws.stepSetBits ?_ (KeepsLaws.bitI rfl)
    with_reducible refine KeepsLaws.stepSetBit ?_ (KeepsLaws.bitI rfl)
    exact KeepsLaws.refl ..
  clear_value e2
  have h_e4 : Keeps 17825820 738417393277345868327966488265645945868513087234432429832593025212484659885062757579522166034432 s e4 := by
    unfold e4
    with_reducible refine KeepsLaws.stepSetBits ?_ (KeepsLaws.bitI rfl)
    with_reducible refine KeepsLaws.stepSetBits ?_ (KeepsLaws.bitI rfl)
    with_reducible refine KeepsLaws.stepSetBits ?_ (KeepsLaws.bitI rfl)
    with_reducible refine KeepsLaws.stepSetBit ?_ (KeepsLaws.bitI rfl)
    with_reducible refine KeepsLaws.stepSetBit ?_ (KeepsLaws.bitI rfl)
    exact KeepsLaws.refl ..
  clear_value e4
  have h_e6 : Keeps 17825820 738417393277345868327966488265645945868513087234432429832593025212484659885062757579522166034432 s e6 := by
    unfold e6
    with_reducible refine KeepsLaws.stepSetBits ?_ (KeepsLaws.bitI rfl)
    with_reducible refine KeepsLaws.stepSetBits ?_ (KeepsLaws.bitI rfl)
    with_reducible refine KeepsLaws.stepSetBits ?_ (KeepsLaws.bitI rfl)
    with_reducible refine KeepsLaws.stepSetBits ?_ (KeepsLaws.bitI rfl)
    with_reducible refine KeepsLaws.stepSetBit ?_ (KeepsLaws.bitI rfl)
    exact KeepsLaws.refl ..
  clear_value e6
  split
  · with_reducible refine KeepsLaws.ite ?_ ?_
    · with_reducible refine KeepsLaws.stepSetBits ?_ (KeepsLaws.bitI rfl)
      with_reducible refine KeepsLaws.stepSetBits ?_ (KeepsLaws.bitI rfl)
      with_reducible refine KeepsLaws.stepSetBit ?_ (KeepsLaws.bitI rfl)
      with_reducible refine KeepsLaws.comp ?_ (State.dpOff_keeps ..) (KeepsLaws.subI rfl rfl)
      exact KeepsLaws.refl ..
    · with_reducible refine KeepsLaws.comp ?_ (State.startTraining_keeps ..) (KeepsLaws.subI rfl rfl)
      with_reducible refine KeepsLaws.comp ?_ (State.endPrbsOf_keeps ..) (KeepsLaws.subI rfl rfl)
      assumption
  · with_reducible refine KeepsLaws.ite ?_ ?_
    · with_reducible refine KeepsLaws.foldl (fun x a => ?_) ?_
      · with_reducible refine KeepsLaws.comp ?_ (State.setLaneRate_keeps ..) (KeepsLaws.subI rfl rfl)
        exact KeepsLaws.refl ..
      · with_reducible refine KeepsLaws.stepReg ?_ (KeepsLaws.bitI rfl)
        exact KeepsLaws.refl ..
    · with_reducible refine KeepsLaws.foldl (fun x a => ?_) ?_
      · with_reducible refine KeepsLaws.comp ?_ (State.setLaneRate_keeps ..) (KeepsLaws.subI rfl rfl)
        exact KeepsLaws.refl ..
      · with_reducible refine KeepsLaws.comp ?_ (State.endPrbsOf_keeps ..) (KeepsLaws.subI rfl rfl)
        assumption
  · with_reducible refine KeepsLaws.ite ?_ ?_
    · with_reducible refine KeepsLaws.comp ?_ (State.setFlow_keeps ..) (KeepsLaws.subI rfl rfl)
      with_reducible refine KeepsLaws.stepReg ?_ (KeepsLaws.bitI rfl)
      exact KeepsLaws.refl ..
    · with_reducible refine KeepsLaws.comp ?_ (State.setFlow_keeps ..) (KeepsLaws.subI rfl rfl)
      with_reducible refine KeepsLaws.stepSetBits ?_ (KeepsLaws.bitI rfl)
      assumption
  · with_reducible refine KeepsLaws.ite ?_ ?_
    · with_reducible refine KeepsLaws.comp ?_ (State.setFlow_keeps ..) (KeepsLaws.subI rfl rfl)
      with_reducible refine KeepsLaws.stepReg ?_ (KeepsLaws.bitI rfl)
      exact KeepsLaws.refl ..
    · with_reducible refine KeepsLaws.comp ?_ (State.setFlow_keeps ..) (KeepsLaws.subI rfl rfl)
      with_reducible refine KeepsLaws.stepSetBits ?_ (KeepsLaws.bitI rfl)
      with_reducible refine KeepsLaws.stepSetBit ?_ (KeepsLaws.bitI rfl)
      exact KeepsLaws.refl ..

theorem State.endStill_keeps (s : State) (h : ℕ) (l : ℕ) :
    Keeps 34701312 91343852333181432387730302044767688728495783936 s (State.endStill s h l) := by
  unfold State.endStill
  extract_lets
  rename_i e0 e1
  have h_e1 : Keeps 34701312 91343852333181432387730302044767688728495783936 s e1 := by
    unfold e1
    with_reducible refine KeepsLaws.comp ?_ (State.modPool_keeps ..) (KeepsLaws.subI rfl rfl)
    exact KeepsLaws.refl ..
  clear_value e1
  with_reducible refine KeepsLaws.comp ?_ (State.modLayer_keeps ..) (KeepsLaws.subI rfl rfl)
  with_reducible refine KeepsLaws.comp ?_ (State.collect_keeps ..) (KeepsLaws.subI rfl rfl)
  assumption

theorem State.applyStill_keeps (s : State) (h : ℕ) (b : Body) :
    Keeps 34701312 91343852333181432387730302044767688728495783936 s (State.applyStill s h b) := by
  unfold State.applyStill
  extract_lets
  rename_i e0 e1 e2
  with_reducible refine KeepsLaws.ite ?_ ?_
  · with_reducible refine KeepsLaws.ite ?_ ?_
    · exact KeepsLaws.refl ..
    · split
      · with_reducible refine KeepsLaws.comp ?_ (State.modLayer_keeps ..) (KeepsLaws.subI rfl rfl)
        with_reducible refine KeepsLaws.comp ?_ (State.modPool_keeps ..) (KeepsLaws.subI rfl rfl)
        exact KeepsLaws.refl ..
      · with_reducible refine KeepsLaws.comp ?_ (State.modLayer_keeps ..) (KeepsLaws.subI rfl rfl)
        exact KeepsLaws.refl ..
  · with_reducible refine KeepsLaws.ite ?_ ?_
    · with_reducible refine KeepsLaws.comp ?_ (State.endStill_keeps ..) (KeepsLaws.subI rfl rfl)
      exact KeepsLaws.refl ..
    · exact KeepsLaws.refl ..

theorem State.replyWaiter_keeps (s : State) (w : Waiter) :
    Keeps 28 2686976 s (State.replyWaiter s w) := by
  unfold State.replyWaiter
  extract_lets
  rename_i e0
  with_reducible refine KeepsLaws.ite ?_ ?_
  · with_reducible refine KeepsLaws.comp ?_ (State.replyR_keeps ..) (KeepsLaws.subI rfl rfl)
    exact KeepsLaws.refl ..
  · with_reducible refine KeepsLaws.comp ?_ (State.replyR_keeps ..) (KeepsLaws.subI rfl rfl)
    exact KeepsLaws.refl ..

theorem State.stepWaiter_keeps (s : State) (id : ℕ) (f : Waiter → Waiter) :
    Keeps 28 2686976 s (State.stepWaiter s id f) := by
  unfold State.stepWaiter
  split
  · exact KeepsLaws.refl ..
  · extract_lets
    rename_i e0 e1
    with_reducible refine KeepsLaws.ite ?_ ?_
    · with_reducible refine KeepsLaws.comp ?_ (State.replyWaiter_keeps ..) (KeepsLaws.subI rfl rfl)
      with_reducible refine KeepsLaws.comp ?_ (KeepsLaws.upd_interp ..) (KeepsLaws.subI rfl rfl)
      exact KeepsLaws.refl ..
    · with_reducible refine KeepsLaws.comp ?_ (KeepsLaws.upd_interp ..) (KeepsLaws.subI rfl rfl)
      exact KeepsLaws.refl ..

theorem State.profileDone_keeps (s : State) (n : ℕ) :
    Keeps 4456476 4171861646373403615168853633747752506709872194030723370471329683358798640788984026803940691968 s (State.profileDone s n) := by
  unfold State.profileDone
  extract_lets
  rename_i e0 e1 e2 e3 e4 e5 e6 e7 e8 e9 e10
  have h_e1 : Keeps 4456476 4171861646373403615168853633747752506709872194030723370471329683358798640788984026803940691968 s e1 := by
    unfold e1
    clear_value e0
    split
    · with_reducible refine KeepsLaws.ite ?_ ?_
      · with_reducible refine KeepsLaws.comp ?_ (State.setSlotState_keeps ..) (KeepsLaws.subI rfl rfl)
        exact KeepsLaws.refl ..
      · exact KeepsLaws.refl ..
    · exact KeepsLaws.refl ..
  clear_value e1
  have h_e2 : Keeps 4456476 4171861646373403615168853633747752506709872194030723370471329683358798640788984026803940691968 s e2 := by
    unfold e2
    with_reducible refine KeepsLaws.stepAddWrapBits ?_ (KeepsLaws.bitI rfl)
    with_reducible refine KeepsLaws.stepSetBit ?_ (KeepsLaws.bitI rfl)
    with_reducible refine KeepsLaws.stepSetBits ?_ (KeepsLaws.bitI rfl)
    with_reducible refine KeepsLaws.comp ?_ (State.setSlotState_keeps ..) (KeepsLaws.subI rfl rfl)
    assumption
  clear_value e2
  have h_e3 : Keeps 4456476 4171861646373403615168853633747752506709872194030723370471329683358798640788984026803940691968 s e3 := by
    unfold e3
    with_reducible refine KeepsLaws.comp ?_ (State.event_keeps ..) (KeepsLaws.subI rfl rfl)
    assumption
  clear_value e3
  have h_e7 : Keeps 4456476 4171861646373403615168853633747752506709872194030723370471329683358798640788984026803940691968 s e7 := by
    unfold e7
    with_reducible refine KeepsLaws.comp ?_ (KeepsLaws.updMk (F := 4456448) ?_) (KeepsLaws.subI rfl rfl)
    · assumption
    · (intro f hf; cases f <;> first | exact absurd hf (by decide) | rfl)
  clear_value e7
  have h_e9 : Keeps 4456476 4171861646373403615168853633747752506709872194030723370471329683358798640788984026803940691968 s e9 := by
    unfold e9
    with_reducible refine KeepsLaws.foldl (fun x a => ?_) ?_
    · with_reducible refine KeepsLaws.comp ?_ (State.stepWaiter_keeps ..) (KeepsLaws.subI rfl rfl)
      exact KeepsLaws.refl ..
    · assumption
  clear_value e9
  have h_e10 : Keeps 4456476 4171861646373403615168853633747752506709872194030723370471329683358798640788984026803940691968 s e10 := by
    unfold e10
    with_reducible refine KeepsLaws.ite ?_ ?_
    · with_reducible refine KeepsLaws.foldl (fun x a => ?_) ?_
      · with_reducible refine KeepsLaws.ite ?_ ?_
        · with_reducible refine KeepsLaws.comp ?_ (State.startTraining_keeps ..) (KeepsLaws.subI rfl rfl)
          exact KeepsLaws.refl ..
        · with_reducible refine KeepsLaws.ite ?_ ?_
          · with_reducible refine KeepsLaws.foldl (fun x a => ?_) ?_
            · with_reducible refine KeepsLaws.stepSetBit ?_ (KeepsLaws.bitI rfl)
              exact KeepsLaws.refl ..
            · with_reducible refine KeepsLaws.stepSetBit ?_ (KeepsLaws.bitI rfl)
              exact KeepsLaws.refl ..
          · exact KeepsLaws.refl ..
      · assumption
    · assumption
  clear_value e10
  with_reducible refine KeepsLaws.ite ?_ ?_
  · with_reducible refine KeepsLaws.comp ?_ (State.setDutyOut_keeps ..) (KeepsLaws.subI rfl rfl)
    assumption
  · assumption

theorem State.profileStep_keeps (s : State) (n : ℕ) (h : ℕ) (f : Profiles → Profiles) :
    Keeps 4456540 4171861646373403615168853633747752506709872194030723370471329683358798640788984026803940691968 s (State.profileStep s n h f) := by
  unfold State.profileStep
  with_reducible refine KeepsLaws.ite ?_ ?_
  · extract_lets
    rename_i e0 e1 e2 e3
    have h_e3 : Keeps 4456540 4171861646373403615168853633747752506709872194030723370471329683358798640788984026803940691968 s e3 := by
      unfold e3
      with_reducible refine KeepsLaws.comp ?_ (KeepsLaws.updMk (F := 80) ?_) (KeepsLaws.subI rfl rfl)
      · exact KeepsLaws.refl ..
      · (intro f hf; cases f <;> first | exact absurd hf (by decide) | rfl)
    clear_value e3
    with_reducible refine KeepsLaws.ite ?_ ?_
    · with_reducible refine KeepsLaws.comp ?_ (State.profileDone_keeps ..) (KeepsLaws.subI rfl rfl)
      assumption
    · assumption
  · exact KeepsLaws.refl ..

theorem State.profileTook_keeps (s : State) (n : ℕ) (h : ℕ) (late : Bool) (t : ℕ) :
    Keeps 4456540 4171861646373403615168853633747752506709872194030723370471329683358798640788984026803940691968 s (State.profileTook s n h late t) := by
  unfold State.profileTook
  with_reducible refine KeepsLaws.comp ?_ (State.profileStep_keeps ..) (KeepsLaws.subI rfl rfl)
  exact KeepsLaws.refl ..

theorem State.takeOut_keeps (s : State) (b : Body) :
    Keeps 84934684 738417393277345868327966488265646768620791747837453507317184303887737151252995574369453840338944 s (State.takeOut s b) := by
  unfold State.takeOut
  extract_lets
  rename_i e0 e1 e2 e3
  have h_e3 : Keeps 84934684 738417393277345868327966488265646768620791747837453507317184303887737151252995574369453840338944 s e3 := by
    unfold e3
    with_reducible refine KeepsLaws.comp ?_ (State.applyOut_keeps ..) (KeepsLaws.subI rfl rfl)
    with_reducible refine KeepsLaws.comp ?_ (KeepsLaws.upd_hd ..) (KeepsLaws.subI rfl rfl)
    exact KeepsLaws.refl ..
  clear_value e3
  with_reducible refine KeepsLaws.ite ?_ ?_
  · with_reducible refine KeepsLaws.comp ?_ (State.startHouse_keeps ..) (KeepsLaws.subI rfl rfl)
    with_reducible refine KeepsLaws.ite ?_ ?_
    · assumption
    · with_reducible refine KeepsLaws.comp ?_ (State.startOutput_keeps ..) (KeepsLaws.subI rfl rfl)
      assumption
  · assumption

theorem State.armNow_keeps (s : State) (h : ℕ) (a : Arm) :
    Keeps 1048576 91343852333181432387730302044767688728495783936 s (State.armNow s h a) := by
  unfold State.armNow
  extract_lets
  rename_i e0 e1 e2
  with_reducible refine KeepsLaws.comp ?_ (State.setHead_keeps ..) (KeepsLaws.subI rfl rfl)
  exact KeepsLaws.refl ..

theorem State.rebind_keeps (s : State) (h : ℕ) (old : HeadSet) (new : HeadSet) :
    Keeps 34701312 91343852333181432387730302044767688728495783936 s (State.rebind s h old new) := by
  unfold State.rebind
  with_reducible refine KeepsLaws.foldl (fun x a => ?_) ?_
  · extract_lets
    rename_i e0 e1 e2
    have h_e2 : Keeps 34701312 91343852333181432387730302044767688728495783936 x e2 := by
      unfold e2
      with_reducible refine KeepsLaws.comp ?_ (State.modLayer_keeps ..) (KeepsLaws.subI rfl rfl)
      with_reducible refine KeepsLaws.ite ?_ ?_
      · with_reducible refine KeepsLaws.comp ?_ (State.endStill_keeps ..) (KeepsLaws.subI rfl rfl)
        exact KeepsLaws.refl ..
      · exact KeepsLaws.refl ..
    clear_value e2
    with_reducible refine KeepsLaws.ite ?_ ?_
    · exact KeepsLaws.refl ..
    · split
      · with_reducible refine KeepsLaws.comp ?_ (State.modPool_keeps ..) (KeepsLaws.subI rfl rfl)
        assumption
      · assumption
  · exact KeepsLaws.refl ..

theorem State.profileKept_keeps (s : State) (n : ℕ) (h : ℕ) (refused : Bool) :
    Keeps 4456540 4171861646373403615168853633747752506709872194030723370471329683358798640788984026803940691968 s (State.profileKept s n h refused) := by
  unfold State.profileKept
  with_reducible refine KeepsLaws.comp ?_ (State.profileStep_keeps ..) (KeepsLaws.subI rfl rfl)
  exact KeepsLaws.refl ..

theorem State.showSet_keeps (s : State) (h : ℕ) :
    Keeps 0 91349427519481065043515685974336756816453566464 s (State.showSet s h) := by
  unfold State.showSet
  extract_lets
  rename_i e0 e1 e2
  have h_e1 : Keeps 0 91349427519481065043515685974336756816453566464 s e1 := by
    unfold e1
    with_reducible refine KeepsLaws.ite ?_ ?_
    · exact KeepsLaws.refl ..
    · with_reducible refine KeepsLaws.stepReg ?_ (KeepsLaws.bitI rfl)
      with_reducible refine KeepsLaws.stepReg ?_ (KeepsLaws.bitI rfl)
      with_reducible refine KeepsLaws.stepSetBits ?_ (KeepsLaws.bitI rfl)
      with_reducible refine KeepsLaws.stepSetBits ?_ (KeepsLaws.bitI rfl)
      with_reducible refine KeepsLaws.stepSetBits ?_ (KeepsLaws.bitI rfl)
      exact KeepsLaws.refl ..
  clear_value e1
  have h_e2 : Keeps 0 91349427519481065043515685974336756816453566464 s e2 := by
    unfold e2
    with_reducible refine KeepsLaws.stepSetBits ?_ (KeepsLaws.bitI rfl)
    with_reducible refine KeepsLaws.stepSetBits ?_ (KeepsLaws.bitI rfl)
    with_reducible refine KeepsLaws.stepSetBits ?_ (KeepsLaws.bitI rfl)
    assumption
  clear_value e2
  with_reducible refine KeepsLaws.foldl (fun x a => ?_) ?_
  · extract_lets
    rename_i e3 e4 e5
    with_reducible refine KeepsLaws.stepReg ?_ (KeepsLaws.bitI rfl)
    with_reducible refine KeepsLaws.stepReg ?_ (KeepsLaws.bitI rfl)
    with_reducible refine KeepsLaws.stepReg ?_ (KeepsLaws.bitI rfl)
    exact KeepsLaws.refl ..
  · assumption

theorem State.restartOuts_keeps (s : State) (h : ℕ) :
    Keeps 1048588 27037780290621703986768169405251235863634752638976 s (State.restartOuts s h) := by
  unfold State.restartOuts
  with_reducible refine KeepsLaws.foldl (fun x a => ?_) ?_
  · split
    · with_reducible refine KeepsLaws.ite ?_ ?_
      · with_reducible refine KeepsLaws.comp ?_ (State.startTraining_keeps ..) (KeepsLaws.subI rfl rfl)
        with_reducible refine KeepsLaws.stepBumpSat ?_ (KeepsLaws.bitI rfl)
        exact KeepsLaws.refl ..
      · with_reducible refine KeepsLaws.comp ?_ (State.startTraining_keeps ..) (KeepsLaws.subI rfl rfl)
        exact KeepsLaws.refl ..
    · extract_lets
      rename_i e0 e1
      with_reducible refine KeepsLaws.comp ?_ (State.setFlow_keeps ..) (KeepsLaws.subI rfl rfl)
      with_reducible refine KeepsLaws.stepSetBits ?_ (KeepsLaws.bitI rfl)
      exact KeepsLaws.refl ..
    · exact KeepsLaws.refl ..
  · exact KeepsLaws.refl ..

theorem State.sdiBlack_keeps (s : State) (key : ℕ) :
    Keeps 1048576 5846006549323611672814739330865132078623730171904 s (State.sdiBlack s key) := by
  unfold State.sdiBlack
  with_reducible refine KeepsLaws.stepSetBits ?_ (KeepsLaws.bitI rfl)
  with_reducible refine KeepsLaws.stepSetBit ?_ (KeepsLaws.bitI rfl)
  with_reducible refine KeepsLaws.comp ?_ (KeepsLaws.upd_hd ..) (KeepsLaws.subI rfl rfl)
  exact KeepsLaws.refl ..

theorem State.takeArm_keeps (s : State) (h : ℕ) (a : Arm) :
    Keeps 125141340 738417405259181219950324911395691711246962249318409466288536570929231366788989523182242555826176 s (State.takeArm s h a) := by
  unfold State.takeArm
  extract_lets
  rename_i e0 e1 e2 e3 e4 e5 e6 e7 e8 e9 e10 e11 e12 e13 e14 e15 e16 e17 e18
  have h_e5 : Keeps 125141340 738417405259181219950324911395691711246962249318409466288536570929231366788989523182242555826176 s e5 := by
    unfold e5
    with_reducible refine KeepsLaws.comp ?_ (State.rebind_keeps ..) (KeepsLaws.subI rfl rfl)
    with_reducible refine KeepsLaws.comp ?_ (State.setHead_keeps ..) (KeepsLaws.subI rfl rfl)
    exact KeepsLaws.refl ..
  clear_value e5
  have h_e6 : Keeps 125141340 738417405259181219950324911395691711246962249318409466288536570929231366788989523182242555826176 s e6 := by
    unfold e6
    with_reducible refine KeepsLaws.foldl (fun x a => ?_) ?_
    · with_reducible refine KeepsLaws.comp ?_ (State.takeOut_keeps ..) (KeepsLaws.subI rfl rfl)
      exact KeepsLaws.refl ..
    · assumption
  clear_value e6
  have h_e7 : Keeps 125141340 738417405259181219950324911395691711246962249318409466288536570929231366788989523182242555826176 s e7 := by
    unfold e7
    with_reducible refine KeepsLaws.ite ?_ ?_
    · with_reducible refine KeepsLaws.foldl (fun x a => ?_) ?_
      · with_reducible refine KeepsLaws.ite ?_ ?_
        · with_reducible refine KeepsLaws.comp ?_ (State.sdiBlack_keeps ..) (KeepsLaws.subI rfl rfl)
          exact KeepsLaws.refl ..
        · with_reducible refine KeepsLaws.comp ?_ (State.takeOut_keeps ..) (KeepsLaws.subI rfl rfl)
          exact KeepsLaws.refl ..
      · assumption
    · assumption
  clear_value e7
  have h_e9 : Keeps 125141340 738417405259181219950324911395691711246962249318409466288536570929231366788989523182242555826176 s e9 := by
    unfold e9
    with_reducible refine KeepsLaws.ite ?_ ?_
    · unfold e8
      with_reducible refine KeepsLaws.foldl (fun x a => ?_) ?_
      · with_reducible refine KeepsLaws.comp ?_ (State.showHead_keeps ..) (KeepsLaws.subI rfl rfl)
        exact KeepsLaws.refl ..
      · assumption
    · assumption
  clear_value e9
  have h_e10 : Keeps 125141340 738417405259181219950324911395691711246962249318409466288536570929231366788989523182242555826176 s e10 := by
    unfold e10
    with_reducible refine KeepsLaws.ite ?_ ?_
    · with_reducible refine KeepsLaws.comp ?_ (State.restartOuts_keeps ..) (KeepsLaws.subI rfl rfl)
      with_reducible refine KeepsLaws.comp ?_ (State.showHead_keeps ..) (KeepsLaws.subI rfl rfl)
      assumption
    · with_reducible refine KeepsLaws.comp ?_ (State.showHead_keeps ..) (KeepsLaws.subI rfl rfl)
      assumption
  clear_value e10
  have h_e11 : Keeps 125141340 738417405259181219950324911395691711246962249318409466288536570929231366788989523182242555826176 s e11 := by
    unfold e11
    with_reducible refine KeepsLaws.comp ?_ (State.allocFlat_keeps ..) (KeepsLaws.subI rfl rfl)
    with_reducible refine KeepsLaws.comp ?_ (State.showSet_keeps ..) (KeepsLaws.subI rfl rfl)
    assumption
  clear_value e11
  have h_e12 : Keeps 125141340 738417405259181219950324911395691711246962249318409466288536570929231366788989523182242555826176 s e12 := by
    unfold e12
    with_reducible refine KeepsLaws.ite ?_ ?_
    · assumption
    · with_reducible refine KeepsLaws.comp ?_ (State.modHead_keeps ..) (KeepsLaws.subI rfl rfl)
      with_reducible refine KeepsLaws.comp ?_ (State.setOutMode_keeps ..) (KeepsLaws.subI rfl rfl)
      assumption
  clear_value e12
  have h_e13 : Keeps 125141340 738417405259181219950324911395691711246962249318409466288536570929231366788989523182242555826176 s e13 := by
    unfold e13
    with_reducible refine KeepsLaws.ite ?_ ?_
    · assumption
    · with_reducible refine KeepsLaws.foldl (fun x a => ?_) ?_
      · with_reducible refine KeepsLaws.ite ?_ ?_
        · exact KeepsLaws.refl ..
        · with_reducible refine KeepsLaws.comp ?_ (State.storeEdit_keeps ..) (KeepsLaws.subI rfl rfl)
          exact KeepsLaws.refl ..
      · assumption
  clear_value e13
  have h_e14 : Keeps 125141340 738417405259181219950324911395691711246962249318409466288536570929231366788989523182242555826176 s e14 := by
    unfold e14
    with_reducible refine KeepsLaws.ite ?_ ?_
    · with_reducible refine KeepsLaws.comp ?_ (State.eventPerSec_keeps ..) (KeepsLaws.subI rfl rfl)
      with_reducible refine KeepsLaws.stepBumpSat ?_ (KeepsLaws.bitI rfl)
      assumption
    · assumption
  clear_value e14
  have h_e16 : Keeps 125141340 738417405259181219950324911395691711246962249318409466288536570929231366788989523182242555826176 s e16 := by
    unfold e16
    with_reducible refine KeepsLaws.foldl (fun x a => ?_) ?_
    · with_reducible refine KeepsLaws.comp ?_ (State.applyStill_keeps ..) (KeepsLaws.subI rfl rfl)
      exact KeepsLaws.refl ..
    · assumption
  clear_value e16
  have h_e18 : Keeps 125141340 738417405259181219950324911395691711246962249318409466288536570929231366788989523182242555826176 s e18 := by
    unfold e18
    split
    · with_reducible refine KeepsLaws.comp ?_ (State.stepWaiter_keeps ..) (KeepsLaws.subI rfl rfl)
      assumption
    · assumption
  clear_value e18
  clear_value e2
  split
  · extract_lets
    rename_i e19 e20
    have h_e19 : Keeps 125141340 738417405259181219950324911395691711246962249318409466288536570929231366788989523182242555826176 s e19 := by
      unfold e19
      with_reducible refine KeepsLaws.comp ?_ (State.fault_keeps ..) (KeepsLaws.subI rfl rfl)
      with_reducible refine KeepsLaws.comp ?_ (State.event_keeps ..) (KeepsLaws.subI rfl rfl)
      exact KeepsLaws.refl ..
    clear_value e19
    have h_e20 : Keeps 125141340 738417405259181219950324911395691711246962249318409466288536570929231366788989523182242555826176 s e20 := by
      unfold e20
      split
      · with_reducible refine KeepsLaws.comp ?_ (State.stepWaiter_keeps ..) (KeepsLaws.subI rfl rfl)
        assumption
      · assumption
    clear_value e20
    split
    · with_reducible refine KeepsLaws.comp ?_ (State.profileKept_keeps ..) (KeepsLaws.subI rfl rfl)
      assumption
    · assumption
  · split
    · with_reducible refine KeepsLaws.comp ?_ (State.profileTook_keeps ..) (KeepsLaws.subI rfl rfl)
      assumption
    · assumption

theorem State.armFirst_keeps (s : State) (h : ℕ) (a : Arm) :
    Keeps 125141340 738417405259181219950324911395691711246962249318409466288536570929231366788989523182242555826176 s (State.armFirst s h a) := by
  unfold State.armFirst
  with_reducible refine KeepsLaws.ite ?_ ?_
  · with_reducible refine KeepsLaws.comp ?_ (State.takeArm_keeps ..) (KeepsLaws.subI rfl rfl)
    exact KeepsLaws.refl ..
  · with_reducible refine KeepsLaws.comp ?_ (State.armNow_keeps ..) (KeepsLaws.subI rfl rfl)
    exact KeepsLaws.refl ..

theorem State.armHead_keeps (s : State) (h : ℕ) (a : Arm) :
    Keeps 125141340 738417405259181219950324911395691711246962249318409466288536570929231366788989523182242555826176 s (State.armHead s h a) := by
  unfold State.armHead
  extract_lets
  rename_i e0
  with_reducible refine KeepsLaws.ite ?_ ?_
  · with_reducible refine KeepsLaws.comp ?_ (State.setHead_keeps ..) (KeepsLaws.subI rfl rfl)
    exact KeepsLaws.refl ..
  · with_reducible refine KeepsLaws.comp ?_ (State.armFirst_keeps ..) (KeepsLaws.subI rfl rfl)
    exact KeepsLaws.refl ..

theorem State.discardHeld_keeps (s : State) (h : ℕ) (cause : ℕ) :
    Keeps 1048588 274031556999544297163190906134303066185487945728 s (State.discardHeld s h cause) := by
  unfold State.discardHeld
  extract_lets
  rename_i e0
  with_reducible refine KeepsLaws.ite ?_ ?_
  · exact KeepsLaws.refl ..
  · with_reducible refine KeepsLaws.comp ?_ (State.event_keeps ..) (KeepsLaws.subI rfl rfl)
    with_reducible refine KeepsLaws.stepBumpSat ?_ (KeepsLaws.bitI rfl)
    with_reducible refine KeepsLaws.comp ?_ (State.setHead_keeps ..) (KeepsLaws.subI rfl rfl)
    exact KeepsLaws.refl ..

theorem State.discardLost_keeps (s : State) (p : Port) (lost : BitVec 64) :
    Keeps 1048588 274031556999544297163190906134303066185487945728 s (State.discardLost s p lost) := by
  unfold State.discardLost
  with_reducible refine KeepsLaws.foldl (fun x a => ?_) ?_
  · extract_lets
    rename_i e0
    with_reducible refine KeepsLaws.ite ?_ ?_
    · with_reducible refine KeepsLaws.comp ?_ (State.discardHeld_keeps ..) (KeepsLaws.subI rfl rfl)
      exact KeepsLaws.refl ..
    · exact KeepsLaws.refl ..
  · exact KeepsLaws.refl ..

theorem State.hold_keeps (s : State) (h : ℕ) (p : Port) (e : Section) :
    Keeps 1048576 91343852333181432387730302044767688728495783936 s (State.hold s h p e) := by
  unfold State.hold
  with_reducible refine KeepsLaws.comp ?_ (State.modHead_keeps ..) (KeepsLaws.subI rfl rfl)
  exact KeepsLaws.refl ..

theorem State.newWaiter_keeps (s : State) (w : Waiter) :
    Keeps 16 0 s (State.newWaiter s w).2 := by
  unfold State.newWaiter
  extract_lets
  rename_i e0 e1
  dsimp only
  with_reducible refine KeepsLaws.comp ?_ (KeepsLaws.upd_interp ..) (KeepsLaws.subI rfl rfl)
  exact KeepsLaws.refl ..

end Sys2Proof.Machine
end

