-- ==== Sys2Proof/Laws/FrameAudio.lean ====
section
/-! SUPPORT. What each operation of Machine/Audio.lean can change at most (Keeps): masks of fields and of registers. -/

namespace Sys2Proof.Machine

theorem State.houseStep_keeps (s : State) (g : ℤ) :
    Keeps 67108864 1645504557321206042154969182557350504982735865633579863348609024 s (State.houseStep s g) := by
  unfold State.houseStep
  with_reducible refine KeepsLaws.ite ?_ ?_
  · exact KeepsLaws.refl ..
  · extract_lets
    rename_i e0 e1
    with_reducible refine KeepsLaws.stepReg ?_ (KeepsLaws.bitI rfl)
    with_reducible refine KeepsLaws.comp ?_ (KeepsLaws.upd_aud ..) (KeepsLaws.subI rfl rfl)
    exact KeepsLaws.refl ..

theorem State.startInput_keeps (s : State) (i : ℕ) :
    Keeps 67108892 13164036458569648337239753460458804039861886925068638906791559168 s (State.startInput s i) := by
  unfold State.startInput
  extract_lets
  rename_i e0 e1 e2
  have h_e2 : Keeps 67108892 13164036458569648337239753460458804039861886925068638906791559168 s e2 := by
    unfold e2
    with_reducible refine KeepsLaws.comp ?_ (State.setAin_keeps ..) (KeepsLaws.subI rfl rfl)
    exact KeepsLaws.refl ..
  clear_value e2
  with_reducible refine KeepsLaws.foldl (fun x a => ?_) ?_
  · split
    · with_reducible refine KeepsLaws.ite ?_ ?_
      · with_reducible refine KeepsLaws.comp ?_ (State.changeRoute_keeps ..) (KeepsLaws.subI rfl rfl)
        with_reducible refine KeepsLaws.comp ?_ (State.setAout_keeps ..) (KeepsLaws.subI rfl rfl)
        exact KeepsLaws.refl ..
      · exact KeepsLaws.refl ..
    · exact KeepsLaws.refl ..
  · assumption

theorem State.setInput_keeps (s : State) (i : ℕ) (on : Bool) (r96 : Bool) (chans : ℕ) (mute : Bool) :
    Keeps 67108892 13164036458569648337239753460458804039861886925068638906791559168 s (State.setInput s i on r96 chans mute) := by
  unfold State.setInput
  with_reducible refine KeepsLaws.ite ?_ ?_
  · with_reducible refine KeepsLaws.comp ?_ (State.setAin_keeps ..) (KeepsLaws.subI rfl rfl)
    exact KeepsLaws.refl ..
  · extract_lets
    rename_i e0 e1 e2 e3
    have h_e0 : Keeps 67108892 13164036458569648337239753460458804039861886925068638906791559168 s e0 := by
      unfold e0
      with_reducible refine KeepsLaws.ite ?_ ?_
      · exact KeepsLaws.refl ..
      · with_reducible refine KeepsLaws.stepSetBits ?_ (KeepsLaws.bitI rfl)
        exact KeepsLaws.refl ..
    clear_value e0
    have h_e2 : Keeps 67108892 13164036458569648337239753460458804039861886925068638906791559168 s e2 := by
      unfold e2
      with_reducible refine KeepsLaws.stepSetBit ?_ (KeepsLaws.bitI rfl)
      with_reducible refine KeepsLaws.stepSetBit ?_ (KeepsLaws.bitI rfl)
      with_reducible refine KeepsLaws.comp ?_ (State.setAin_keeps ..) (KeepsLaws.subI rfl rfl)
      assumption
    clear_value e2
    have h_e3 : Keeps 67108892 13164036458569648337239753460458804039861886925068638906791559168 s e3 := by
      unfold e3
      with_reducible refine KeepsLaws.stepSetBit ?_ (KeepsLaws.bitI rfl)
      assumption
    clear_value e3
    with_reducible refine KeepsLaws.ite ?_ ?_
    · with_reducible refine KeepsLaws.comp ?_ (State.startInput_keeps ..) (KeepsLaws.subI rfl rfl)
      assumption
    · assumption

theorem State.applyAes3_keeps (s : State) (b : Body) :
    Keeps 67108892 13986788737230251358317238051737479292353254857885428838465863680 s (State.applyAes3 s b) := by
  unfold State.applyAes3
  extract_lets
  rename_i e0 e1 e2 e3 e4 e5
  have h_e2 : Keeps 67108892 13986788737230251358317238051737479292353254857885428838465863680 s e2 := by
    unfold e2
    with_reducible refine KeepsLaws.comp ?_ (KeepsLaws.upd_aud ..) (KeepsLaws.subI rfl rfl)
    exact KeepsLaws.refl ..
  clear_value e2
  have h_e3 : Keeps 67108892 13986788737230251358317238051737479292353254857885428838465863680 s e3 := by
    unfold e3
    with_reducible refine KeepsLaws.ite ?_ ?_
    · with_reducible refine KeepsLaws.comp ?_ (State.setInput_keeps ..) (KeepsLaws.subI rfl rfl)
      assumption
    · assumption
  clear_value e3
  have h_e4 : Keeps 67108892 13986788737230251358317238051737479292353254857885428838465863680 s e4 := by
    unfold e4
    with_reducible refine KeepsLaws.ite ?_ ?_
    · with_reducible refine KeepsLaws.stepSetBit ?_ (KeepsLaws.bitI rfl)
      assumption
    · assumption
  clear_value e4
  have h_e5 : Keeps 67108892 13986788737230251358317238051737479292353254857885428838465863680 s e5 := by
    unfold e5
    with_reducible refine KeepsLaws.ite ?_ ?_
    · with_reducible refine KeepsLaws.comp ?_ (State.startOutput_keeps ..) (KeepsLaws.subI rfl rfl)
      assumption
    · assumption
  clear_value e5
  with_reducible refine KeepsLaws.ite ?_ ?_
  · with_reducible refine KeepsLaws.comp ?_ (State.startHouse_keeps ..) (KeepsLaws.subI rfl rfl)
    assumption
  · assumption

theorem State.applyRoutes_keeps (s : State) (b : Body) (cmd : Option ℕ) :
    Keeps 67108892 2686976 s (State.applyRoutes s b cmd) := by
  unfold State.applyRoutes
  with_reducible refine KeepsLaws.foldl (fun x a => ?_) ?_
  · with_reducible refine KeepsLaws.comp ?_ (State.changeRoute_keeps ..) (KeepsLaws.subI rfl rfl)
    exact KeepsLaws.refl ..
  · exact KeepsLaws.refl ..

theorem State.countChans_keeps (s : State) :
    Keeps 0 6582018229284824168619876730229402019930943462534319453394436096 s (State.countChans s) := by
  unfold State.countChans
  with_reducible refine KeepsLaws.stepReg ?_ (KeepsLaws.bitI rfl)
  exact KeepsLaws.refl ..

theorem State.applyRx_keeps (s : State) (b : Body) :
    Keeps 67108892 20568806966515075526937114781966881312284198320419748291860299776 s (State.applyRx s b) := by
  unfold State.applyRx
  extract_lets
  rename_i e0 e1 e2 e3 e4 e5
  have h_e4 : Keeps 67108892 20568806966515075526937114781966881312284198320419748291860299776 s e4 := by
    unfold e4
    with_reducible refine KeepsLaws.comp ?_ (State.countChans_keeps ..) (KeepsLaws.subI rfl rfl)
    with_reducible refine KeepsLaws.comp ?_ (KeepsLaws.upd_aud ..) (KeepsLaws.subI rfl rfl)
    exact KeepsLaws.refl ..
  clear_value e4
  have h_e5 : Keeps 67108892 20568806966515075526937114781966881312284198320419748291860299776 s e5 := by
    unfold e5
    with_reducible refine KeepsLaws.comp ?_ (State.setInput_keeps ..) (KeepsLaws.subI rfl rfl)
    assumption
  clear_value e5
  with_reducible refine KeepsLaws.ite ?_ ?_
  · with_reducible refine KeepsLaws.comp ?_ (State.startHouse_keeps ..) (KeepsLaws.subI rfl rfl)
    assumption
  · assumption

theorem State.applyTdm_keeps (s : State) (b : Body) :
    Keeps 67108892 13986788737230251358317238051737479292353254857885428838465863680 s (State.applyTdm s b) := by
  unfold State.applyTdm
  extract_lets
  rename_i e0 e1 e2 e3 e4
  have h_e3 : Keeps 67108892 13986788737230251358317238051737479292353254857885428838465863680 s e3 := by
    unfold e3
    with_reducible refine KeepsLaws.stepSetBit ?_ (KeepsLaws.bitI rfl)
    with_reducible refine KeepsLaws.comp ?_ (KeepsLaws.upd_aud ..) (KeepsLaws.subI rfl rfl)
    exact KeepsLaws.refl ..
  clear_value e3
  have h_e4 : Keeps 67108892 13986788737230251358317238051737479292353254857885428838465863680 s e4 := by
    unfold e4
    with_reducible refine KeepsLaws.foldl (fun x a => ?_) ?_
    · extract_lets
      rename_i e5
      have h_e5 : Keeps 67108892 13986788737230251358317238051737479292353254857885428838465863680 x e5 := by
        unfold e5
        with_reducible refine KeepsLaws.comp ?_ (State.setInput_keeps ..) (KeepsLaws.subI rfl rfl)
        exact KeepsLaws.refl ..
      clear_value e5
      with_reducible refine KeepsLaws.ite ?_ ?_
      · with_reducible refine KeepsLaws.comp ?_ (State.startOutput_keeps ..) (KeepsLaws.subI rfl rfl)
        assumption
      · assumption
    · assumption
  clear_value e4
  with_reducible refine KeepsLaws.ite ?_ ?_
  · with_reducible refine KeepsLaws.comp ?_ (State.startHouse_keeps ..) (KeepsLaws.subI rfl rfl)
    assumption
  · assumption

theorem State.applyTx_keeps (s : State) (b : Body) :
    Keeps 67108892 7404770507945427189697361321508077272422311395351109385071427584 s (State.applyTx s b) := by
  unfold State.applyTx
  extract_lets
  rename_i e0 e1 e2 e3 e4
  have h_e4 : Keeps 67108892 7404770507945427189697361321508077272422311395351109385071427584 s e4 := by
    unfold e4
    with_reducible refine KeepsLaws.comp ?_ (State.countChans_keeps ..) (KeepsLaws.subI rfl rfl)
    with_reducible refine KeepsLaws.comp ?_ (KeepsLaws.upd_aud ..) (KeepsLaws.subI rfl rfl)
    exact KeepsLaws.refl ..
  clear_value e4
  with_reducible refine KeepsLaws.ite ?_ ?_
  · with_reducible refine KeepsLaws.comp ?_ (State.startHouse_keeps ..) (KeepsLaws.subI rfl rfl)
    with_reducible refine KeepsLaws.ite ?_ ?_
    · assumption
    · with_reducible refine KeepsLaws.comp ?_ (State.startOutput_keeps ..) (KeepsLaws.subI rfl rfl)
      assumption
  · assumption

theorem State.countSlip_keeps (s : State) (i : ℕ) (drop : Bool) :
    Keeps 268 26328072917139296674479506920917608079723773850137277813578338304 s (State.countSlip s i drop) := by
  unfold State.countSlip
  with_reducible refine KeepsLaws.comp ?_ (State.eventPerSec_keeps ..) (KeepsLaws.subI rfl rfl)
  with_reducible refine KeepsLaws.ite ?_ ?_
  · with_reducible refine KeepsLaws.stepAddSatBits ?_ (KeepsLaws.bitI rfl)
    exact KeepsLaws.refl ..
  · with_reducible refine KeepsLaws.stepAddSatBits ?_ (KeepsLaws.bitI rfl)
    exact KeepsLaws.refl ..

theorem State.audRead_keeps (s : State) (i : ℕ) :
    Keeps 67109132 39492109375708945011719260381376412119585660775205916720367210496 s (State.audRead s i) := by
  unfold State.audRead
  extract_lets
  rename_i e0
  with_reducible refine KeepsLaws.ite ?_ ?_
  · with_reducible refine KeepsLaws.comp ?_ (State.setAin_keeps ..) (KeepsLaws.subI rfl rfl)
    exact KeepsLaws.refl ..
  · split
    · with_reducible refine KeepsLaws.ite ?_ ?_
      · with_reducible refine KeepsLaws.comp ?_ (State.setAin_keeps ..) (KeepsLaws.subI rfl rfl)
        with_reducible refine KeepsLaws.comp ?_ (State.countSlip_keeps ..) (KeepsLaws.subI rfl rfl)
        exact KeepsLaws.refl ..
      · with_reducible refine KeepsLaws.comp ?_ (State.setAin_keeps ..) (KeepsLaws.subI rfl rfl)
        exact KeepsLaws.refl ..
    · with_reducible refine KeepsLaws.comp ?_ (State.setAin_keeps ..) (KeepsLaws.subI rfl rfl)
      with_reducible refine KeepsLaws.ite ?_ ?_
      · with_reducible refine KeepsLaws.comp ?_ (State.countSlip_keeps ..) (KeepsLaws.subI rfl rfl)
        exact KeepsLaws.refl ..
      · exact KeepsLaws.refl ..

theorem State.audWrite_keeps (s : State) (i : ℕ) (v : List ℤ) :
    Keeps 67109132 39492109375708945011719260381376412119585660775205916720367210496 s (State.audWrite s i v) := by
  unfold State.audWrite
  with_reducible refine KeepsLaws.ite ?_ ?_
  · exact KeepsLaws.refl ..
  · extract_lets
    rename_i e0
    with_reducible refine KeepsLaws.ite ?_ ?_
    · with_reducible refine KeepsLaws.comp ?_ (State.countSlip_keeps ..) (KeepsLaws.subI rfl rfl)
      exact KeepsLaws.refl ..
    · with_reducible refine KeepsLaws.comp ?_ (State.setAin_keeps ..) (KeepsLaws.subI rfl rfl)
      exact KeepsLaws.refl ..

theorem State.rxLost_keeps (s : State) (r : ℕ) (n : ℕ) :
    Keeps 268 210624583337114373395836055367340864637790190801098222508622548992 s (State.rxLost s r n) := by
  unfold State.rxLost
  with_reducible refine KeepsLaws.comp ?_ (State.eventPerSec_keeps ..) (KeepsLaws.subI rfl rfl)
  with_reducible refine KeepsLaws.stepAddSat ?_ (KeepsLaws.bitI rfl)
  exact KeepsLaws.refl ..

theorem State.audioPacket_keeps (s : State) (c : ℕ) (rtp : Rtp) (payload : List Byte) :
    Keeps 67109132 210624583337114373395836055367340864637790190801098222508622548992 s (State.audioPacket s c rtp payload) := by
  unfold State.audioPacket
  with_reducible refine KeepsLaws.foldl (fun x a => ?_) ?_
  · extract_lets
    rename_i e0 e1 e2 e3 e4 e5 e6 e7
    have h_e7 : Keeps 67109132 210624583337114373395836055367340864637790190801098222508622548992 x e7 := by
      unfold e7
      with_reducible refine KeepsLaws.comp ?_ (KeepsLaws.upd_aud ..) (KeepsLaws.subI rfl rfl)
      exact KeepsLaws.refl ..
    clear_value e7
    with_reducible refine KeepsLaws.ite ?_ ?_
    · assumption
    · with_reducible refine KeepsLaws.comp ?_ (State.rxLost_keeps ..) (KeepsLaws.subI rfl rfl)
      assumption
  · exact KeepsLaws.refl ..

theorem State.csError_keeps (s : State) (i : ℕ) (parity : Bool) :
    Keeps 268 52656145834278593348959013841835216159447547700274555627156082688 s (State.csError s i parity) := by
  unfold State.csError
  with_reducible refine KeepsLaws.comp ?_ (State.eventPerSec_keeps ..) (KeepsLaws.subI rfl rfl)
  with_reducible refine KeepsLaws.ite ?_ ?_
  · with_reducible refine KeepsLaws.stepAddSatBits ?_ (KeepsLaws.bitI rfl)
    exact KeepsLaws.refl ..
  · with_reducible refine KeepsLaws.stepAddSatBits ?_ (KeepsLaws.bitI rfl)
    exact KeepsLaws.refl ..

theorem State.csBlock_keeps (s : State) (i : ℕ) (ch : ℕ) (bits : List Bool) :
    Keeps 67109132 65820182292848241686198767302294020199309434625343194533944954880 s (State.csBlock s i ch bits) := by
  unfold State.csBlock
  extract_lets
  rename_i e0 e1 e2 e3 e4 e5
  have h_e4 : Keeps 67109132 65820182292848241686198767302294020199309434625343194533944954880 s e4 := by
    unfold e4
    with_reducible refine KeepsLaws.comp ?_ (KeepsLaws.upd_aud ..) (KeepsLaws.subI rfl rfl)
    exact KeepsLaws.refl ..
  clear_value e4
  have h_e5 : Keeps 67109132 65820182292848241686198767302294020199309434625343194533944954880 s e5 := by
    unfold e5
    with_reducible refine KeepsLaws.stepSetBit ?_ (KeepsLaws.bitI rfl)
    assumption
  clear_value e5
  with_reducible refine KeepsLaws.ite ?_ ?_
  · with_reducible refine KeepsLaws.comp ?_ (State.csError_keeps ..) (KeepsLaws.subI rfl rfl)
    exact KeepsLaws.refl ..
  · with_reducible refine KeepsLaws.ite ?_ ?_
    · assumption
    · with_reducible refine KeepsLaws.comp ?_ (State.event_keeps ..) (KeepsLaws.subI rfl rfl)
      assumption

theorem State.csWord_keeps (s : State) (i : ℕ) (ch : ℕ) (countBlock : Bool) (w : AudioWord) :
    Keeps 67109132 171132473961405428384116794985964452518204530025892305788255932416 s (State.csWord s i ch countBlock w).2 := by
  unfold State.csWord
  extract_lets
  rename_i e0 e1 e2 e3 e4 e5 e6 e7
  have h_e4 : Keeps 67109132 171132473961405428384116794985964452518204530025892305788255932416 s e4 := by
    unfold e4
    split
    · exact KeepsLaws.refl ..
    · unfold e2
      with_reducible refine KeepsLaws.comp ?_ (KeepsLaws.upd_aud ..) (KeepsLaws.subI rfl rfl)
      exact KeepsLaws.refl ..
    · extract_lets
      rename_i e8
      have h_e8 : Keeps 67109132 171132473961405428384116794985964452518204530025892305788255932416 s e8 := by
        unfold e8
        with_reducible refine KeepsLaws.ite ?_ ?_
        · with_reducible refine KeepsLaws.comp ?_ (State.csBlock_keeps ..) (KeepsLaws.subI rfl rfl)
          exact KeepsLaws.refl ..
        · unfold e3
          with_reducible refine KeepsLaws.ite ?_ ?_
          · with_reducible refine KeepsLaws.comp ?_ (State.csError_keeps ..) (KeepsLaws.subI rfl rfl)
            exact KeepsLaws.refl ..
          · exact KeepsLaws.refl ..
      clear_value e8
      unfold e2
      with_reducible refine KeepsLaws.comp ?_ (KeepsLaws.upd_aud ..) (KeepsLaws.subI rfl rfl)
      assumption
    · with_reducible refine KeepsLaws.ite ?_ ?_
      · unfold e3
        with_reducible refine KeepsLaws.ite ?_ ?_
        · with_reducible refine KeepsLaws.comp ?_ (State.csError_keeps ..) (KeepsLaws.subI rfl rfl)
          unfold e2
          with_reducible refine KeepsLaws.comp ?_ (KeepsLaws.upd_aud ..) (KeepsLaws.subI rfl rfl)
          exact KeepsLaws.refl ..
        · unfold e2
          with_reducible refine KeepsLaws.comp ?_ (KeepsLaws.upd_aud ..) (KeepsLaws.subI rfl rfl)
          exact KeepsLaws.refl ..
      · unfold e2
        with_reducible refine KeepsLaws.comp ?_ (KeepsLaws.upd_aud ..) (KeepsLaws.subI rfl rfl)
        exact KeepsLaws.refl ..
  clear_value e4
  have h_e5 : Keeps 67109132 171132473961405428384116794985964452518204530025892305788255932416 s e5 := by
    unfold e5
    with_reducible refine KeepsLaws.ite ?_ ?_
    · with_reducible refine KeepsLaws.stepBumpSat ?_ (KeepsLaws.bitI rfl)
      assumption
    · assumption
  clear_value e5
  have h_e6 : Keeps 67109132 171132473961405428384116794985964452518204530025892305788255932416 s e6 := by
    unfold e6
    with_reducible refine KeepsLaws.ite ?_ ?_
    · with_reducible refine KeepsLaws.comp ?_ (State.csError_keeps ..) (KeepsLaws.subI rfl rfl)
      assumption
    · assumption
  clear_value e6
  dsimp only
  unfold e2
  with_reducible refine KeepsLaws.comp ?_ (KeepsLaws.upd_aud ..) (KeepsLaws.subI rfl rfl)
  assumption

theorem State.csInstant_keeps (s : State) (i : ℕ) (each : Bool) (ws : List AudioWord) :
    Keeps 67109132 197460546878544725058596301906882060597928303876029583601833676800 s (State.csInstant s i each ws) := by
  unfold State.csInstant
  split
  with_reducible refine KeepsLaws.comp ?_ (State.audWrite_keeps ..) (KeepsLaws.subI rfl rfl)
  with_reducible refine KeepsLaws.ofSnd (by assumption) ?_
  with_reducible refine KeepsLaws.foldlP (fun x a => ?_) ?_
  · split
    dsimp only
    with_reducible refine KeepsLaws.ofSnd (by assumption) ?_
    with_reducible refine KeepsLaws.comp ?_ (State.csWord_keeps ..) (KeepsLaws.subI rfl rfl)
    exact KeepsLaws.refl ..
  · dsimp only
    exact KeepsLaws.refl ..

theorem State.audioSdi_keeps (s : State) (n : ℕ) (l : List (List AudioWord)) :
    Keeps 67109132 197460546878544725058596301906882060597928303876029583601833676800 s (State.audioSdi s n l) := by
  unfold State.audioSdi
  with_reducible refine KeepsLaws.foldl (fun x a => ?_) ?_
  · with_reducible refine KeepsLaws.comp ?_ (State.csInstant_keeps ..) (KeepsLaws.subI rfl rfl)
    exact KeepsLaws.refl ..
  · exact KeepsLaws.refl ..

theorem State.zcTimeout_keeps (s : State) (key : ℕ) :
    Keeps 67108864 3291009114642412084309938365114701009965471731267159726697218048 s (State.zcTimeout s key) := by
  unfold State.zcTimeout
  extract_lets
  rename_i e0 e1 e2
  have h_e1 : Keeps 67108864 3291009114642412084309938365114701009965471731267159726697218048 s e1 := by
    unfold e1
    with_reducible refine KeepsLaws.stepBumpSat ?_ (KeepsLaws.bitI rfl)
    with_reducible refine KeepsLaws.comp ?_ (State.setAout_keeps ..) (KeepsLaws.subI rfl rfl)
    exact KeepsLaws.refl ..
  clear_value e1
  with_reducible refine KeepsLaws.ite ?_ ?_
  · split
    · assumption
    · with_reducible refine KeepsLaws.comp ?_ (KeepsLaws.upd_aud ..) (KeepsLaws.subI rfl rfl)
      assumption
  · exact KeepsLaws.refl ..

theorem State.codedStage_keeps (s : State) (key : ℕ) :
    Keeps 67108864 0 s (State.codedStage s key) := by
  unfold State.codedStage
  extract_lets
  rename_i e0
  with_reducible refine KeepsLaws.ite ?_ ?_
  · exact KeepsLaws.refl ..
  · with_reducible refine KeepsLaws.comp ?_ (State.setAout_keeps ..) (KeepsLaws.subI rfl rfl)
    exact KeepsLaws.refl ..

theorem State.chanStep_keeps (s0 : State) (key : ℕ) (n : ℕ) :
    Keeps 67108892 3291009114642412084309938365114701009965471731267159726699905024 s0 (State.chanStep s0 key n).2 := by
  unfold State.chanStep
  extract_lets
  rename_i e0 e1 e2 e3 e4 e5 e6 e7 e8 e9
  have h_e0 : Keeps 67108892 3291009114642412084309938365114701009965471731267159726699905024 s0 e0 := by
    unfold e0
    with_reducible refine KeepsLaws.comp ?_ (State.zcTimeout_keeps ..) (KeepsLaws.subI rfl rfl)
    with_reducible refine KeepsLaws.comp ?_ (State.codedStage_keeps ..) (KeepsLaws.subI rfl rfl)
    exact KeepsLaws.refl ..
  clear_value e0
  split
  · with_reducible refine KeepsLaws.iteP ?_ ?_
    · dsimp only
      with_reducible refine KeepsLaws.comp ?_ (State.setAout_keeps ..) (KeepsLaws.subI rfl rfl)
      assumption
    · dsimp only
      assumption
  · with_reducible refine KeepsLaws.iteP ?_ ?_
    · dsimp only
      unfold e7
      with_reducible refine KeepsLaws.comp ?_ (State.routeDone_keeps ..) (KeepsLaws.subI rfl rfl)
      with_reducible refine KeepsLaws.comp ?_ (State.setAout_keeps ..) (KeepsLaws.subI rfl rfl)
      assumption
    · dsimp only
      assumption
  · with_reducible refine KeepsLaws.iteP ?_ ?_
    · dsimp only
      with_reducible refine KeepsLaws.comp ?_ (State.setAout_keeps ..) (KeepsLaws.subI rfl rfl)
      assumption
    · dsimp only
      with_reducible refine KeepsLaws.comp ?_ (State.setAout_keeps ..) (KeepsLaws.subI rfl rfl)
      assumption
  · with_reducible refine KeepsLaws.iteP ?_ ?_
    · dsimp only
      with_reducible refine KeepsLaws.comp ?_ (State.setAout_keeps ..) (KeepsLaws.subI rfl rfl)
      assumption
    · dsimp only
      unfold e7
      with_reducible refine KeepsLaws.comp ?_ (State.routeDone_keeps ..) (KeepsLaws.subI rfl rfl)
      with_reducible refine KeepsLaws.comp ?_ (State.setAout_keeps ..) (KeepsLaws.subI rfl rfl)
      assumption
  · with_reducible refine KeepsLaws.iteP ?_ ?_
    · dsimp only
      unfold e7
      with_reducible refine KeepsLaws.comp ?_ (State.routeDone_keeps ..) (KeepsLaws.subI rfl rfl)
      with_reducible refine KeepsLaws.comp ?_ (State.setAout_keeps ..) (KeepsLaws.subI rfl rfl)
      assumption
    · dsimp only
      assumption
  · with_reducible refine KeepsLaws.iteP ?_ ?_
    · dsimp only
      with_reducible refine KeepsLaws.comp ?_ (State.setAout_keeps ..) (KeepsLaws.subI rfl rfl)
      assumption
    · dsimp only
      assumption
  · dsimp only
    assumption

theorem State.houseJump_keeps (s : State) :
    Keeps 67108864 1645504557321206042154969182557350504982735865633579863348609024 s (State.houseJump s) := by
  unfold State.houseJump
  with_reducible refine KeepsLaws.ite ?_ ?_
  · exact KeepsLaws.refl ..
  · extract_lets
    rename_i e0 e1 e2
    with_reducible refine KeepsLaws.stepReg ?_ (KeepsLaws.bitI rfl)
    with_reducible refine KeepsLaws.comp ?_ (KeepsLaws.upd_aud ..) (KeepsLaws.subI rfl rfl)
    exact KeepsLaws.refl ..

theorem State.outStep_keeps (s : State) (o : ℕ) (n : ℕ) :
    Keeps 67108892 3291009114642412084309938365114701009965471731267159726699905024 s (State.outStep s o n) := by
  unfold State.outStep
  extract_lets
  rename_i e0 e1 e2
  split
  with_reducible refine KeepsLaws.ite ?_ ?_
  · with_reducible refine KeepsLaws.ite ?_ ?_
    · with_reducible refine KeepsLaws.ofSnd (by assumption) ?_
      with_reducible refine KeepsLaws.foldlP (fun x a => ?_) ?_
      · split
        dsimp only
        with_reducible refine KeepsLaws.ofSnd (by assumption) ?_
        with_reducible refine KeepsLaws.comp ?_ (State.chanStep_keeps ..) (KeepsLaws.subI rfl rfl)
        exact KeepsLaws.refl ..
      · dsimp only
        exact KeepsLaws.refl ..
    · extract_lets
      rename_i e3
      have h_e3 : Keeps 67108892 3291009114642412084309938365114701009965471731267159726699905024 s e3 := by
        unfold e3
        with_reducible refine KeepsLaws.ite ?_ ?_
        · with_reducible refine KeepsLaws.comp ?_ (KeepsLaws.emit ..) (KeepsLaws.subI rfl rfl)
          with_reducible refine KeepsLaws.comp ?_ (KeepsLaws.emit ..) (KeepsLaws.subI rfl rfl)
          with_reducible refine KeepsLaws.ofSnd (by assumption) ?_
          with_reducible refine KeepsLaws.foldlP (fun x a => ?_) ?_
          · split
            dsimp only
            with_reducible refine KeepsLaws.ofSnd (by assumption) ?_
            with_reducible refine KeepsLaws.comp ?_ (State.chanStep_keeps ..) (KeepsLaws.subI rfl rfl)
            exact KeepsLaws.refl ..
          · dsimp only
            exact KeepsLaws.refl ..
        · with_reducible refine KeepsLaws.ofSnd (by assumption) ?_
          with_reducible refine KeepsLaws.foldlP (fun x a => ?_) ?_
          · split
            dsimp only
            with_reducible refine KeepsLaws.ofSnd (by assumption) ?_
            with_reducible refine KeepsLaws.comp ?_ (State.chanStep_keeps ..) (KeepsLaws.subI rfl rfl)
            exact KeepsLaws.refl ..
          · dsimp only
            exact KeepsLaws.refl ..
      clear_value e3
      with_reducible refine KeepsLaws.foldl (fun x a => ?_) ?_
      · with_reducible refine KeepsLaws.comp ?_ (KeepsLaws.emit ..) (KeepsLaws.subI rfl rfl)
        exact KeepsLaws.refl ..
      · assumption
  · extract_lets
    rename_i e4 e5 e6 e7 e8 e9
    with_reducible refine KeepsLaws.comp ?_ (KeepsLaws.upd_aud ..) (KeepsLaws.subI rfl rfl)
    with_reducible refine KeepsLaws.ofSnd (by assumption) ?_
    with_reducible refine KeepsLaws.foldlP (fun x a => ?_) ?_
    · split
      dsimp only
      with_reducible refine KeepsLaws.ofSnd (by assumption) ?_
      with_reducible refine KeepsLaws.comp ?_ (State.chanStep_keeps ..) (KeepsLaws.subI rfl rfl)
      exact KeepsLaws.refl ..
    · dsimp only
      exact KeepsLaws.refl ..

theorem execZcTimeout_keeps (o : Fin 168) (ch : Fin 64) (s : State) :
    KeepsO 67108864 3291009114642412084309938365114701009965471731267159726697218048 s (execZcTimeout o ch s) := by
  unfold execZcTimeout
  with_reducible refine KeepsLaws.next ?_
  with_reducible refine KeepsLaws.comp ?_ (State.zcTimeout_keeps ..) (KeepsLaws.subI rfl rfl)
  with_reducible refine KeepsLaws.comp ?_ (State.codedStage_keeps ..) (KeepsLaws.subI rfl rfl)
  exact KeepsLaws.refl ..

theorem execAudAes3_keeps (r : Req) (b : Body) (s : State) :
    KeepsO 246486108 1065974306048913481878971270901677136270159599374277992804661243017823016271561210644245896564736 s (execAudAes3 r b s) := by
  unfold execAudAes3
  with_reducible refine KeepsLaws.command (KeepsLaws.subI rfl rfl) (fun x => ?_)
  with_reducible refine KeepsLaws.doneA ?_
  with_reducible refine KeepsLaws.comp ?_ (State.storeTaken_keeps ..) (KeepsLaws.subI rfl rfl)
  with_reducible refine KeepsLaws.comp ?_ (State.applyAes3_keeps ..) (KeepsLaws.subI rfl rfl)
  with_reducible refine KeepsLaws.comp ?_ (State.powerUp_keeps ..) (KeepsLaws.subI rfl rfl)
  exact KeepsLaws.refl ..

theorem execAudClock_keeps (r : Req) (b : Body) (s : State) :
    KeepsO 67108892 2686976 s (execAudClock r b s) := by
  unfold execAudClock
  with_reducible refine KeepsLaws.command (KeepsLaws.subI rfl rfl) (fun x => ?_)
  with_reducible refine KeepsLaws.iteA ?_ ?_
  · with_reducible refine KeepsLaws.doneA ?_
    exact KeepsLaws.refl ..
  · with_reducible refine KeepsLaws.doneA ?_
    with_reducible refine KeepsLaws.comp ?_ (KeepsLaws.upd_aud ..) (KeepsLaws.subI rfl rfl)
    exact KeepsLaws.refl ..

theorem execAes3FrameReceive_keeps (n : Fin 8) (a : AudioWord) (b : AudioWord) (s : State) :
    KeepsO 67109132 197460546878544725058596301906882060597928303876029583601833676800 s (execAes3FrameReceive n a b s) := by
  unfold execAes3FrameReceive
  with_reducible refine KeepsLaws.iteO ?_ ?_
  · with_reducible refine KeepsLaws.next ?_
    with_reducible refine KeepsLaws.comp ?_ (State.csInstant_keeps ..) (KeepsLaws.subI rfl rfl)
    exact KeepsLaws.refl ..
  · with_reducible refine KeepsLaws.next ?_
    exact KeepsLaws.refl ..

theorem execTdmFrameReceive_keeps (g : Fin 4) (slots : List (List Word)) (s : State) :
    KeepsO 67109132 39492109375708945011719260381376412119585660775205916720367210496 s (execTdmFrameReceive g slots s) := by
  unfold execTdmFrameReceive
  with_reducible refine KeepsLaws.next ?_
  with_reducible refine KeepsLaws.foldl (fun x a => ?_) ?_
  · extract_lets
    rename_i e0
    with_reducible refine KeepsLaws.ite ?_ ?_
    · with_reducible refine KeepsLaws.comp ?_ (State.audWrite_keeps ..) (KeepsLaws.subI rfl rfl)
      exact KeepsLaws.refl ..
    · exact KeepsLaws.refl ..
  · exact KeepsLaws.refl ..

theorem execAudTdm_keeps (r : Req) (b : Body) (s : State) :
    KeepsO 246486108 1065974306048913481878971270901677136270159599374277992804661243017823016271561210644245896564736 s (execAudTdm r b s) := by
  unfold execAudTdm
  with_reducible refine KeepsLaws.command (KeepsLaws.subI rfl rfl) (fun x => ?_)
  with_reducible refine KeepsLaws.doneA ?_
  with_reducible refine KeepsLaws.comp ?_ (State.storeTaken_keeps ..) (KeepsLaws.subI rfl rfl)
  with_reducible refine KeepsLaws.comp ?_ (State.applyTdm_keeps ..) (KeepsLaws.subI rfl rfl)
  with_reducible refine KeepsLaws.comp ?_ (State.powerUp_keeps ..) (KeepsLaws.subI rfl rfl)
  exact KeepsLaws.refl ..

theorem execAudRateClassChange_keeps (i : Fin 168) (mHz : Option ℕ) (s : State) :
    KeepsO 67108892 13164036458569648337239753460458804039861886925068638906791563264 s (execAudRateClassChange i mHz s) := by
  unfold execAudRateClassChange
  extract_lets
  rename_i e0 e1 e2 e3 e4 e5
  have h_e3 : Keeps 67108892 13164036458569648337239753460458804039861886925068638906791563264 s e3 := by
    unfold e3
    with_reducible refine KeepsLaws.stepSetBits ?_ (KeepsLaws.bitI rfl)
    exact KeepsLaws.refl ..
  clear_value e3
  have h_e4 : Keeps 67108892 13164036458569648337239753460458804039861886925068638906791563264 s e4 := by
    unfold e4
    with_reducible refine KeepsLaws.stepSetBit ?_ (KeepsLaws.bitI rfl)
    assumption
  clear_value e4
  have h_e5 : Keeps 67108892 13164036458569648337239753460458804039861886925068638906791563264 s e5 := by
    unfold e5
    with_reducible refine KeepsLaws.ite ?_ ?_
    · with_reducible refine KeepsLaws.comp ?_ (State.startInput_keeps ..) (KeepsLaws.subI rfl rfl)
      assumption
    · assumption
  clear_value e5
  with_reducible refine KeepsLaws.iteO ?_ ?_
  · with_reducible refine KeepsLaws.next ?_
    exact KeepsLaws.refl ..
  · with_reducible refine KeepsLaws.next ?_
    with_reducible refine KeepsLaws.comp ?_ (State.event_keeps ..) (KeepsLaws.subI rfl rfl)
    assumption

theorem execAudRxRead_keeps (r : Fin 128) (s : State) :
    KeepsO 67109132 250116692712823318407555315748717276757375851576304139228989165568 s (execAudRxRead r s) := by
  unfold execAudRxRead
  extract_lets
  rename_i e0 e1 e2 e3 e4
  have h_e3 : Keeps 67109132 250116692712823318407555315748717276757375851576304139228989165568 s e3 := by
    unfold e3
    with_reducible refine KeepsLaws.comp ?_ (KeepsLaws.upd_aud ..) (KeepsLaws.subI rfl rfl)
    exact KeepsLaws.refl ..
  clear_value e3
  have h_e4 : Keeps 67109132 250116692712823318407555315748717276757375851576304139228989165568 s e4 := by
    unfold e4
    with_reducible refine KeepsLaws.ite ?_ ?_
    · with_reducible refine KeepsLaws.comp ?_ (State.rxLost_keeps ..) (KeepsLaws.subI rfl rfl)
      assumption
    · assumption
  clear_value e4
  with_reducible refine KeepsLaws.iteO ?_ ?_
  · with_reducible refine KeepsLaws.next ?_
    exact KeepsLaws.refl ..
  · with_reducible refine KeepsLaws.next ?_
    with_reducible refine KeepsLaws.comp ?_ (State.audWrite_keeps ..) (KeepsLaws.subI rfl rfl)
    assumption

theorem execAudRoute_keeps (r : Req) (b : Body) (s : State) :
    KeepsO 67108956 2686976 s (execAudRoute r b s) := by
  unfold execAudRoute
  with_reducible refine KeepsLaws.command (KeepsLaws.subI rfl rfl) (fun x => ?_)
  extract_lets
  rename_i e0 e1 e2 e3
  with_reducible refine KeepsLaws.laterA ?_
  with_reducible refine KeepsLaws.comp ?_ (State.storeTaken_keeps ..) (KeepsLaws.subI rfl rfl)
  with_reducible refine KeepsLaws.comp ?_ (State.applyRoutes_keeps ..) (KeepsLaws.subI rfl rfl)
  with_reducible refine KeepsLaws.comp ?_ (KeepsLaws.upd_aud ..) (KeepsLaws.subI rfl rfl)
  exact KeepsLaws.refl ..

theorem execAudInputSample_keeps (i : Fin 168) (v : List ℤ) (s : State) :
    KeepsO 67109132 39492109375708945011719260381376412119585660775205916720367210496 s (execAudInputSample i v s) := by
  unfold execAudInputSample
  with_reducible refine KeepsLaws.next ?_
  with_reducible refine KeepsLaws.comp ?_ (State.audWrite_keeps ..) (KeepsLaws.subI rfl rfl)
  exact KeepsLaws.refl ..

theorem execAudHouseSample_keeps (s : State) :
    KeepsO 67109148 44428623047672563138184167929048463634533868372106656310415134720 s (execAudHouseSample s) := by
  unfold execAudHouseSample
  extract_lets
  rename_i e0 e1 e2 e3 e4
  have h_e1 : Keeps 67109148 44428623047672563138184167929048463634533868372106656310415134720 s e1 := by
    unfold e1
    with_reducible refine KeepsLaws.foldl (fun x a => ?_) ?_
    · with_reducible refine KeepsLaws.comp ?_ (State.endIdle_keeps ..) (KeepsLaws.subI rfl rfl)
      exact KeepsLaws.refl ..
    · exact KeepsLaws.refl ..
  clear_value e1
  have h_e2 : Keeps 67109148 44428623047672563138184167929048463634533868372106656310415134720 s e2 := by
    unfold e2
    with_reducible refine KeepsLaws.foldl (fun x a => ?_) ?_
    · with_reducible refine KeepsLaws.ite ?_ ?_
      · with_reducible refine KeepsLaws.comp ?_ (State.audRead_keeps ..) (KeepsLaws.subI rfl rfl)
        exact KeepsLaws.refl ..
      · exact KeepsLaws.refl ..
    · assumption
  clear_value e2
  have h_e3 : Keeps 67109148 44428623047672563138184167929048463634533868372106656310415134720 s e3 := by
    unfold e3
    with_reducible refine KeepsLaws.foldl (fun x a => ?_) ?_
    · with_reducible refine KeepsLaws.ite ?_ ?_
      · with_reducible refine KeepsLaws.comp ?_ (State.outStep_keeps ..) (KeepsLaws.subI rfl rfl)
        exact KeepsLaws.refl ..
      · exact KeepsLaws.refl ..
    · assumption
  clear_value e3
  with_reducible refine KeepsLaws.iteO ?_ ?_
  · with_reducible refine KeepsLaws.next ?_
    exact KeepsLaws.refl ..
  · with_reducible refine KeepsLaws.next ?_
    with_reducible refine KeepsLaws.comp ?_ (State.houseJump_keeps ..) (KeepsLaws.subI rfl rfl)
    with_reducible refine KeepsLaws.comp ?_ (KeepsLaws.upd_aud ..) (KeepsLaws.subI rfl rfl)
    assumption

theorem execAudCsRead_keeps (r : Req) (b : Body) (s : State) :
    KeepsO 28 2686976 s (execAudCsRead r b s) := by
  unfold execAudCsRead
  with_reducible refine KeepsLaws.command (KeepsLaws.subI rfl rfl) (fun x => ?_)
  with_reducible refine KeepsLaws.nowA ?_
  exact KeepsLaws.refl ..

theorem execAudRx_keeps (r : Req) (b : Body) (s : State) :
    KeepsO 246486108 1065974306048913481878971270901677136270159599374277992804661243017823016271561210644245896564736 s (execAudRx r b s) := by
  unfold execAudRx
  extract_lets
  rename_i e0 e1
  with_reducible refine KeepsLaws.command (KeepsLaws.subI rfl rfl) (fun x => ?_)
  with_reducible refine KeepsLaws.doneA ?_
  with_reducible refine KeepsLaws.comp ?_ (State.storeTaken_keeps ..) (KeepsLaws.subI rfl rfl)
  with_reducible refine KeepsLaws.comp ?_ (State.applyRx_keeps ..) (KeepsLaws.subI rfl rfl)
  with_reducible refine KeepsLaws.comp ?_ (State.powerUp_keeps ..) (KeepsLaws.subI rfl rfl)
  exact KeepsLaws.refl ..

theorem execAes3LockChange_keeps (n : Fin 8) (locked : Bool) (s : State) :
    KeepsO 67108864 822752278660603021077484591278675252491367932816789931674304512 s (execAes3LockChange n locked s) := by
  unfold execAes3LockChange
  extract_lets
  rename_i e0 e1
  have h_e0 : Keeps 67108864 822752278660603021077484591278675252491367932816789931674304512 s e0 := by
    unfold e0
    with_reducible refine KeepsLaws.stepSetBit ?_ (KeepsLaws.bitI rfl)
    exact KeepsLaws.refl ..
  clear_value e0
  with_reducible refine KeepsLaws.next ?_
  with_reducible refine KeepsLaws.ite ?_ ?_
  · assumption
  · with_reducible refine KeepsLaws.comp ?_ (KeepsLaws.upd_aud ..) (KeepsLaws.subI rfl rfl)
    assumption

end Sys2Proof.Machine
end

