-- ==== Sys2Proof/Laws/FrameEncTake.lean ====
section
/-! SUPPORT. What each operation of Machine/EncTake.lean can change at most (Keeps): masks of fields and of registers. -/

namespace Sys2Proof.Machine

theorem State.setChan_keeps (s : State) (c : ℕ) (x : EncChan) :
    Keeps 524288 5316911983139663491615228241121378304 s (State.setChan s c x) := by
  unfold State.setChan
  with_reducible refine KeepsLaws.stepSetBit ?_ (KeepsLaws.bitI rfl)
  with_reducible refine KeepsLaws.comp ?_ (KeepsLaws.upd_enc ..) (KeepsLaws.subI rfl rfl)
  exact KeepsLaws.refl ..

theorem State.modChan_keeps (s : State) (c : ℕ) (f : EncChan → EncChan) :
    Keeps 524288 5316911983139663491615228241121378304 s (State.modChan s c f) := by
  unfold State.modChan
  with_reducible refine KeepsLaws.comp ?_ (State.setChan_keeps ..) (KeepsLaws.subI rfl rfl)
  exact KeepsLaws.refl ..

theorem State.checkTaken_keeps (s : State) (c : ℕ) :
    Keeps 524300 5449834782718155078905608947149413355520 s (State.checkTaken s c) := by
  unfold State.checkTaken
  extract_lets
  rename_i e0
  split
  · exact KeepsLaws.refl ..
  · with_reducible refine KeepsLaws.ite ?_ ?_
    · exact KeepsLaws.refl ..
    · extract_lets
      rename_i e1 e2 e3
      with_reducible refine KeepsLaws.ite ?_ ?_
      · with_reducible refine KeepsLaws.comp ?_ (State.setChan_keeps ..) (KeepsLaws.subI rfl rfl)
        exact KeepsLaws.refl ..
      · with_reducible refine KeepsLaws.ite ?_ ?_
        · with_reducible refine KeepsLaws.comp ?_ (State.event_keeps ..) (KeepsLaws.subI rfl rfl)
          with_reducible refine KeepsLaws.stepBumpSat ?_ (KeepsLaws.bitI rfl)
          with_reducible refine KeepsLaws.comp ?_ (State.setChan_keeps ..) (KeepsLaws.subI rfl rfl)
          exact KeepsLaws.refl ..
        · with_reducible refine KeepsLaws.comp ?_ (State.setChan_keeps ..) (KeepsLaws.subI rfl rfl)
          exact KeepsLaws.refl ..

theorem State.headerDone_keeps (s : State) (k : ℕ) :
    Keeps 524300 5449834782718155078905608947149413355520 s (State.headerDone s k) := by
  unfold State.headerDone
  with_reducible refine KeepsLaws.foldl (fun x a => ?_) ?_
  · with_reducible refine KeepsLaws.comp ?_ (State.checkTaken_keeps ..) (KeepsLaws.subI rfl rfl)
    exact KeepsLaws.refl ..
  · exact KeepsLaws.refl ..

end Sys2Proof.Machine
end

