-- ==== Sys2Proof/Laws/FrameCamera.lean ====
section
/-! SUPPORT. What each operation of Machine/Camera.lean can change at most (Keeps): masks of fields and of registers. -/

namespace Sys2Proof.Machine

theorem State.showCport_keeps (s : State) (p : ℕ) :
    Keeps 0 2417851639229258349412352 s (State.showCport s p) := by
  unfold State.showCport
  extract_lets
  rename_i e0 e1 e2 e3
  with_reducible refine KeepsLaws.stepReg ?_ (KeepsLaws.bitI rfl)
  exact KeepsLaws.refl ..

theorem State.showCams_keeps (s : State) :
    Keeps 0 19809458480205313656735399936 s (State.showCams s) := by
  unfold State.showCams
  extract_lets
  rename_i e0
  have h_e0 : Keeps 0 19809458480205313656735399936 s e0 := by
    unfold e0
    with_reducible refine KeepsLaws.foldl (fun x a => ?_) ?_
    · with_reducible refine KeepsLaws.comp ?_ (State.showCport_keeps ..) (KeepsLaws.subI rfl rfl)
      exact KeepsLaws.refl ..
    · exact KeepsLaws.refl ..
  clear_value e0
  with_reducible refine KeepsLaws.foldl (fun x a => ?_) ?_
  · extract_lets
    rename_i e1
    with_reducible refine KeepsLaws.stepSetBits ?_ (KeepsLaws.bitI rfl)
    exact KeepsLaws.refl ..
  · assumption

theorem State.setCctx_keeps (s : State) (c : ℕ) (x : CamCtx) :
    Keeps 4096 38836741955119962237435904 s (State.setCctx s c x) := by
  unfold State.setCctx
  extract_lets
  rename_i e0 e1 e2
  have h_e1 : Keeps 4096 38836741955119962237435904 s e1 := by
    unfold e1
    with_reducible refine KeepsLaws.stepSetBit ?_ (KeepsLaws.bitI rfl)
    with_reducible refine KeepsLaws.comp ?_ (KeepsLaws.upd_cam ..) (KeepsLaws.subI rfl rfl)
    exact KeepsLaws.refl ..
  clear_value e1
  with_reducible refine KeepsLaws.stepReg ?_ (KeepsLaws.bitI rfl)
  assumption

theorem State.modCctx_keeps (s : State) (c : ℕ) (f : CamCtx → CamCtx) :
    Keeps 4096 38836741955119962237435904 s (State.modCctx s c f) := by
  unfold State.modCctx
  with_reducible refine KeepsLaws.comp ?_ (State.setCctx_keeps ..) (KeepsLaws.subI rfl rfl)
  exact KeepsLaws.refl ..

theorem State.setPipe_keeps (s : State) (q : ℕ) (x : Pipe) :
    Keeps 4096 19807040628566084398385987584 s (State.setPipe s q x) := by
  unfold State.setPipe
  with_reducible refine KeepsLaws.stepSetBits ?_ (KeepsLaws.bitI rfl)
  with_reducible refine KeepsLaws.stepSetBit ?_ (KeepsLaws.bitI rfl)
  with_reducible refine KeepsLaws.comp ?_ (KeepsLaws.upd_cam ..) (KeepsLaws.subI rfl rfl)
  exact KeepsLaws.refl ..

theorem State.pipeSelect_keeps (s : State) (q : ℕ) :
    Keeps 37132 22476499954002637444784656384 s (State.pipeSelect s q) := by
  unfold State.pipeSelect
  with_reducible refine KeepsLaws.ite ?_ ?_
  · exact KeepsLaws.refl ..
  · split
    · exact KeepsLaws.refl ..
    · split
      split
      with_reducible refine KeepsLaws.stepReg ?_ (KeepsLaws.bitI rfl)
      with_reducible refine KeepsLaws.comp ?_ (State.setPipe_keeps ..) (KeepsLaws.subI rfl rfl)
      with_reducible refine KeepsLaws.comp ?_ (State.modCctx_keeps ..) (KeepsLaws.subI rfl rfl)
      with_reducible refine KeepsLaws.ofSnd (by assumption) ?_
      with_reducible refine KeepsLaws.iteP ?_ ?_
      · unfold Sys2Proof.Machine.State.camTakeSurface
        extract_lets
        rename_i e0 e1
        have h_e1 : Keeps 37132 22476499954002637444784656384 s e1 := by
          unfold e1
          with_reducible refine KeepsLaws.stepAddSatBits ?_ (KeepsLaws.bitI rfl)
          with_reducible refine KeepsLaws.ofSnd (by assumption) ?_
          unfold Sys2Proof.Machine.State.camTakeSurface
          extract_lets
          rename_i e2 e3
          have h_e3 : Keeps 37132 22476499954002637444784656384 s e3 := by
            unfold e3
            with_reducible refine KeepsLaws.stepAddSatBits ?_ (KeepsLaws.bitI rfl)
            exact KeepsLaws.refl ..
          clear_value e3
          split
          · dsimp only
            with_reducible refine KeepsLaws.comp ?_ (State.setPool_keeps ..) (KeepsLaws.subI rfl rfl)
            exact KeepsLaws.refl ..
          · dsimp only
            with_reducible refine KeepsLaws.comp ?_ (State.eventPerSec_keeps ..) (KeepsLaws.subI rfl rfl)
            assumption
        clear_value e1
        split
        · dsimp only
          with_reducible refine KeepsLaws.comp ?_ (State.setPool_keeps ..) (KeepsLaws.subI rfl rfl)
          with_reducible refine KeepsLaws.ofSnd (by assumption) ?_
          unfold Sys2Proof.Machine.State.camTakeSurface
          extract_lets
          rename_i e4 e5
          have h_e5 : Keeps 37132 22476499954002637444784656384 s e5 := by
            unfold e5
            with_reducible refine KeepsLaws.stepAddSatBits ?_ (KeepsLaws.bitI rfl)
            exact KeepsLaws.refl ..
          clear_value e5
          split
          · dsimp only
            with_reducible refine KeepsLaws.comp ?_ (State.setPool_keeps ..) (KeepsLaws.subI rfl rfl)
            exact KeepsLaws.refl ..
          · dsimp only
            with_reducible refine KeepsLaws.comp ?_ (State.eventPerSec_keeps ..) (KeepsLaws.subI rfl rfl)
            assumption
        · dsimp only
          with_reducible refine KeepsLaws.comp ?_ (State.eventPerSec_keeps ..) (KeepsLaws.subI rfl rfl)
          assumption
      · dsimp only
        with_reducible refine KeepsLaws.ofSnd (by assumption) ?_
        unfold Sys2Proof.Machine.State.camTakeSurface
        extract_lets
        rename_i e6 e7
        have h_e7 : Keeps 37132 22476499954002637444784656384 s e7 := by
          unfold e7
          with_reducible refine KeepsLaws.stepAddSatBits ?_ (KeepsLaws.bitI rfl)
          exact KeepsLaws.refl ..
        clear_value e7
        split
        · dsimp only
          with_reducible refine KeepsLaws.comp ?_ (State.setPool_keeps ..) (KeepsLaws.subI rfl rfl)
          exact KeepsLaws.refl ..
        · dsimp only
          with_reducible refine KeepsLaws.comp ?_ (State.eventPerSec_keeps ..) (KeepsLaws.subI rfl rfl)
          assumption

theorem State.pipeDrop_keeps (s : State) (q : ℕ) :
    Keeps 33656832 19807040628566084398385987584 s (State.pipeDrop s q) := by
  unfold State.pipeDrop
  extract_lets
  rename_i e0 e1
  split
  · exact KeepsLaws.refl ..
  · with_reducible refine KeepsLaws.comp ?_ (State.setPipe_keeps ..) (KeepsLaws.subI rfl rfl)
    unfold e1
    split
    · with_reducible refine KeepsLaws.comp ?_ (State.collect_keeps ..) (KeepsLaws.subI rfl rfl)
      with_reducible refine KeepsLaws.comp ?_ (State.modPool_keeps ..) (KeepsLaws.subI rfl rfl)
      split
      · with_reducible refine KeepsLaws.comp ?_ (State.collect_keeps ..) (KeepsLaws.subI rfl rfl)
        with_reducible refine KeepsLaws.comp ?_ (State.modPool_keeps ..) (KeepsLaws.subI rfl rfl)
        exact KeepsLaws.refl ..
      · exact KeepsLaws.refl ..
    · split
      · with_reducible refine KeepsLaws.comp ?_ (State.collect_keeps ..) (KeepsLaws.subI rfl rfl)
        with_reducible refine KeepsLaws.comp ?_ (State.modPool_keeps ..) (KeepsLaws.subI rfl rfl)
        exact KeepsLaws.refl ..
      · exact KeepsLaws.refl ..

theorem State.applyCam_keeps (s : State) (c : ℕ) (b : Body) (quiet : Bool) :
    Keeps 33657164 22478917805641866703134068736 s (State.applyCam s c b quiet) := by
  unfold State.applyCam
  extract_lets
  rename_i e0 e1 e2 e3 e4 e5 e6 e7 e8
  have h_e0 : Keeps 33657164 22478917805641866703134068736 s e0 := by
    unfold e0
    with_reducible refine KeepsLaws.ite ?_ ?_
    · exact KeepsLaws.refl ..
    · with_reducible refine KeepsLaws.comp ?_ (State.storeTaken_keeps ..) (KeepsLaws.subI rfl rfl)
      exact KeepsLaws.refl ..
  clear_value e0
  have h_e2 : Keeps 33657164 22478917805641866703134068736 s e2 := by
    unfold e2
    with_reducible refine KeepsLaws.foldl (fun x a => ?_) ?_
    · with_reducible refine KeepsLaws.comp ?_ (State.pipeDrop_keeps ..) (KeepsLaws.subI rfl rfl)
      exact KeepsLaws.refl ..
    · assumption
  clear_value e2
  have h_e3 : Keeps 33657164 22478917805641866703134068736 s e3 := by
    unfold e3
    with_reducible refine KeepsLaws.comp ?_ (State.freePool_keeps ..) (KeepsLaws.subI rfl rfl)
    with_reducible refine KeepsLaws.comp ?_ (State.freePool_keeps ..) (KeepsLaws.subI rfl rfl)
    with_reducible refine KeepsLaws.comp ?_ (State.freePool_keeps ..) (KeepsLaws.subI rfl rfl)
    assumption
  clear_value e3
  have h_e4 : Keeps 33657164 22478917805641866703134068736 s e4 := by
    unfold e4
    with_reducible refine KeepsLaws.comp ?_ (State.adoptPool_keeps ..) (KeepsLaws.subI rfl rfl)
    with_reducible refine KeepsLaws.comp ?_ (State.adoptPool_keeps ..) (KeepsLaws.subI rfl rfl)
    with_reducible refine KeepsLaws.comp ?_ (State.adoptPool_keeps ..) (KeepsLaws.subI rfl rfl)
    assumption
  clear_value e4
  have h_e5 : Keeps 33657164 22478917805641866703134068736 s e5 := by
    unfold e5
    with_reducible refine KeepsLaws.ite ?_ ?_
    · with_reducible refine KeepsLaws.comp ?_ (State.freePool_keeps ..) (KeepsLaws.subI rfl rfl)
      assumption
    · assumption
  clear_value e5
  have h_e6 : Keeps 33657164 22478917805641866703134068736 s e6 := by
    unfold e6
    with_reducible refine KeepsLaws.comp ?_ (State.modCctx_keeps ..) (KeepsLaws.subI rfl rfl)
    assumption
  clear_value e6
  have h_e8 : Keeps 33657164 22478917805641866703134068736 s e8 := by
    unfold e8
    with_reducible refine KeepsLaws.comp ?_ (State.modPool_keeps ..) (KeepsLaws.subI rfl rfl)
    assumption
  clear_value e8
  with_reducible refine KeepsLaws.ite ?_ ?_
  · with_reducible refine KeepsLaws.comp ?_ (State.showCams_keeps ..) (KeepsLaws.subI rfl rfl)
    with_reducible refine KeepsLaws.foldl (fun x a => ?_) ?_
    · with_reducible refine KeepsLaws.comp ?_ (State.pipeSelect_keeps ..) (KeepsLaws.subI rfl rfl)
      exact KeepsLaws.refl ..
    · with_reducible refine KeepsLaws.comp ?_ (State.setCctx_keeps ..) (KeepsLaws.subI rfl rfl)
      assumption
  · with_reducible refine KeepsLaws.comp ?_ (State.showCams_keeps ..) (KeepsLaws.subI rfl rfl)
    with_reducible refine KeepsLaws.ite ?_ ?_
    · assumption
    · with_reducible refine KeepsLaws.comp ?_ (State.modPool_keeps ..) (KeepsLaws.subI rfl rfl)
      assumption

theorem State.camReply_keeps (s : State) (op : ℕ) (a : ArmedParams) (t : ℕ) (replaced : Bool) :
    Keeps 28 2686976 s (State.camReply s op a t replaced) := by
  unfold State.camReply
  with_reducible refine KeepsLaws.ite ?_ ?_
  · exact KeepsLaws.refl ..
  · with_reducible refine KeepsLaws.comp ?_ (State.replyR_keeps ..) (KeepsLaws.subI rfl rfl)
    exact KeepsLaws.refl ..

theorem State.armParams_keeps (s : State) (c : ℕ) (a : ArmedParams) :
    Keeps 4124 38836741955119962240122880 s (State.armParams s c a) := by
  unfold State.armParams
  extract_lets
  rename_i e0 e1
  have h_e1 : Keeps 4124 38836741955119962240122880 s e1 := by
    unfold e1
    split
    · with_reducible refine KeepsLaws.comp ?_ (State.camReply_keeps ..) (KeepsLaws.subI rfl rfl)
      exact KeepsLaws.refl ..
    · exact KeepsLaws.refl ..
  clear_value e1
  with_reducible refine KeepsLaws.comp ?_ (State.modCctx_keeps ..) (KeepsLaws.subI rfl rfl)
  assumption

theorem State.shortCam_keeps (s : State) (c : ℕ) :
    Keeps 4364 193579246865792496600420352 s (State.shortCam s c) := by
  unfold State.shortCam
  split
  · exact KeepsLaws.refl ..
  · with_reducible refine KeepsLaws.comp ?_ (State.eventPerSec_keeps ..) (KeepsLaws.subI rfl rfl)
    with_reducible refine KeepsLaws.stepAddSatBits ?_ (KeepsLaws.bitI rfl)
    with_reducible refine KeepsLaws.comp ?_ (State.modCctx_keeps ..) (KeepsLaws.subI rfl rfl)
    exact KeepsLaws.refl ..

theorem State.camTake_keeps (s : State) (c : ℕ) (b : Body) (quiet : Bool) (n : ℕ) :
    Keeps 33657164 22478917805641866703134068736 s (State.camTake s c b quiet n) := by
  induction n generalizing s c b quiet with
  | zero => exact KeepsLaws.comp (KeepsLaws.refl ..) (State.applyCam_keeps ..) (KeepsLaws.subI rfl rfl)
  | succ n ih =>
    have h : Keeps 33657164 22478917805641866703134068736 s (s.applyCam c b quiet) := KeepsLaws.comp (KeepsLaws.refl ..) (State.applyCam_keeps ..) (KeepsLaws.subI rfl rfl)
    unfold State.camTake
    dsimp only
    split
    · exact h
    · split
      · exact h
      · exact KeepsLaws.trans (KeepsLaws.comp h (State.shortCam_keeps ..) (KeepsLaws.subI rfl rfl)) (ih ..)

theorem State.camBoundary_keeps (s : State) (c : ℕ) :
    Keeps 33657164 22478917805641866703134068736 s (State.camBoundary s c) := by
  unfold State.camBoundary
  split
  · exact KeepsLaws.refl ..
  · with_reducible refine KeepsLaws.comp ?_ (State.camTake_keeps ..) (KeepsLaws.subI rfl rfl)
    with_reducible refine KeepsLaws.comp ?_ (State.shortCam_keeps ..) (KeepsLaws.subI rfl rfl)
    exact KeepsLaws.refl ..

theorem State.camLine_keeps (s : State) (port : ℕ) (c : ℕ) (f : RawFrame) (pkt : CsiLong) :
    Keeps 4364 1286448187797417270534803456 s (State.camLine s port c f pkt) := by
  unfold State.camLine
  extract_lets
  rename_i e0 e1 e2 e3 e4 e5
  have h_e4 : Keeps 4364 1286448187797417270534803456 s e4 := by
    unfold e4
    with_reducible refine KeepsLaws.ite ?_ ?_
    · with_reducible refine KeepsLaws.stepBumpSat ?_ (KeepsLaws.bitI rfl)
      exact KeepsLaws.refl ..
    · with_reducible refine KeepsLaws.ite ?_ ?_
      · unfold e0
        with_reducible refine KeepsLaws.comp ?_ (State.eventPerSec_keeps ..) (KeepsLaws.subI rfl rfl)
        with_reducible refine KeepsLaws.stepBumpSat ?_ (KeepsLaws.bitI rfl)
        exact KeepsLaws.refl ..
      · exact KeepsLaws.refl ..
  clear_value e4
  with_reducible refine KeepsLaws.ite ?_ ?_
  · exact KeepsLaws.refl ..
  · with_reducible refine KeepsLaws.ite ?_ ?_
    · unfold e0
      with_reducible refine KeepsLaws.comp ?_ (State.eventPerSec_keeps ..) (KeepsLaws.subI rfl rfl)
      with_reducible refine KeepsLaws.stepBumpSat ?_ (KeepsLaws.bitI rfl)
      exact KeepsLaws.refl ..
    · with_reducible refine KeepsLaws.comp ?_ (State.modCctx_keeps ..) (KeepsLaws.subI rfl rfl)
      assumption

theorem State.camStats_keeps (s : State) (rec0 : List Byte) :
    Keeps 4364 1511157274518286468976640 s (State.camStats s rec0) := by
  unfold State.camStats
  extract_lets
  rename_i e0 e1 e2 e3
  with_reducible refine KeepsLaws.ite ?_ ?_
  · exact KeepsLaws.refl ..
  · with_reducible refine KeepsLaws.ite ?_ ?_
    · with_reducible refine KeepsLaws.comp ?_ (State.eventPerSec_keeps ..) (KeepsLaws.subI rfl rfl)
      with_reducible refine KeepsLaws.stepBumpSat ?_ (KeepsLaws.bitI rfl)
      exact KeepsLaws.refl ..
    · with_reducible refine KeepsLaws.stepSetBits ?_ (KeepsLaws.bitI rfl)
      with_reducible refine KeepsLaws.comp ?_ (KeepsLaws.emit ..) (KeepsLaws.subI rfl rfl)
      with_reducible refine KeepsLaws.comp ?_ (KeepsLaws.upd_cam ..) (KeepsLaws.subI rfl rfl)
      exact KeepsLaws.refl ..

theorem State.camRelease_keeps (s : State) (c : ℕ) (q : ℕ) (f : RawFrame) :
    Keeps 34181388 5449834782718272798057293921665300369408 s (State.camRelease s c q f) := by
  unfold State.camRelease
  extract_lets
  rename_i e0 e1 e2 e3 e4 e5 e6 e7
  split
  · exact KeepsLaws.refl ..
  · extract_lets
    rename_i e8 e9
    have h_e8 : Keeps 34181388 5449834782718272798057293921665300369408 s e8 := by
      unfold e8
      unfold e3
      with_reducible refine KeepsLaws.comp ?_ (State.headerDone_keeps ..) (KeepsLaws.subI rfl rfl)
      with_reducible refine KeepsLaws.comp ?_ (State.collect_keeps ..) (KeepsLaws.subI rfl rfl)
      with_reducible refine KeepsLaws.comp ?_ (State.modPool_keeps ..) (KeepsLaws.subI rfl rfl)
      exact KeepsLaws.refl ..
    clear_value e8
    have h_e9 : Keeps 34181388 5449834782718272798057293921665300369408 s e9 := by
      unfold e9
      split
      · unfold e3
        with_reducible refine KeepsLaws.comp ?_ (State.headerDone_keeps ..) (KeepsLaws.subI rfl rfl)
        with_reducible refine KeepsLaws.comp ?_ (State.collect_keeps ..) (KeepsLaws.subI rfl rfl)
        with_reducible refine KeepsLaws.comp ?_ (State.modPool_keeps ..) (KeepsLaws.subI rfl rfl)
        assumption
      · assumption
    clear_value e9
    split
    extract_lets
    rename_i e10 e11 e12
    with_reducible refine KeepsLaws.comp ?_ (State.camStats_keeps ..) (KeepsLaws.subI rfl rfl)
    with_reducible refine KeepsLaws.comp ?_ (State.modCctx_keeps ..) (KeepsLaws.subI rfl rfl)
    with_reducible refine KeepsLaws.stepBumpWrap ?_ (KeepsLaws.bitI rfl)
    with_reducible refine KeepsLaws.ofSnd (by assumption) ?_
    with_reducible refine KeepsLaws.comp ?_ (KeepsLaws.drawn ..) (KeepsLaws.subI rfl rfl)
    assumption

theorem State.camRetry_keeps (s : State) (q : ℕ) (c : ℕ) (how : ℕ) :
    Keeps 12 593920 s (State.camRetry s q c how) := by
  unfold State.camRetry
  with_reducible refine KeepsLaws.comp ?_ (State.event_keeps ..) (KeepsLaws.subI rfl rfl)
  exact KeepsLaws.refl ..

theorem State.pipeAgain_keeps (s : State) (q : ℕ) (c : ℕ) (start : ℕ) :
    Keeps 33656832 19845877370521204360623423488 s (State.pipeAgain s q c start) := by
  unfold State.pipeAgain
  extract_lets
  rename_i e0
  split
  · exact KeepsLaws.refl ..
  · split
    · exact KeepsLaws.refl ..
    · with_reducible refine KeepsLaws.ite ?_ ?_
      · with_reducible refine KeepsLaws.comp ?_ (State.modCctx_keeps ..) (KeepsLaws.subI rfl rfl)
        with_reducible refine KeepsLaws.comp ?_ (State.pipeDrop_keeps ..) (KeepsLaws.subI rfl rfl)
        exact KeepsLaws.refl ..
      · exact KeepsLaws.refl ..

theorem State.closeCam_keeps (s : State) (c : ℕ) :
    Keeps 33657100 23404954983466672650958999552 s (State.closeCam s c) := by
  unfold State.closeCam
  extract_lets
  rename_i e0
  split
  · exact KeepsLaws.refl ..
  · extract_lets
    rename_i e1 e2 e3 e4 e5
    have h_e4 : Keeps 33657100 23404954983466672650958999552 s e4 := by
      unfold e4
      with_reducible refine KeepsLaws.ite ?_ ?_
      · with_reducible refine KeepsLaws.comp ?_ (State.eventPerSec_keeps ..) (KeepsLaws.subI rfl rfl)
        with_reducible refine KeepsLaws.stepBumpSat ?_ (KeepsLaws.bitI rfl)
        exact KeepsLaws.refl ..
      · exact KeepsLaws.refl ..
    clear_value e4
    have h_e5 : Keeps 33657100 23404954983466672650958999552 s e5 := by
      unfold e5
      with_reducible refine KeepsLaws.ite ?_ ?_
      · with_reducible refine KeepsLaws.comp ?_ (State.eventPerSec_keeps ..) (KeepsLaws.subI rfl rfl)
        with_reducible refine KeepsLaws.stepBumpSat ?_ (KeepsLaws.bitI rfl)
        assumption
      · assumption
    clear_value e5
    with_reducible refine KeepsLaws.ite ?_ ?_
    · with_reducible refine KeepsLaws.comp ?_ (State.shortCam_keeps ..) (KeepsLaws.subI rfl rfl)
      exact KeepsLaws.refl ..
    · with_reducible refine KeepsLaws.comp ?_ (State.pipeSelect_keeps ..) (KeepsLaws.subI rfl rfl)
      with_reducible refine KeepsLaws.comp ?_ (State.pipeAgain_keeps ..) (KeepsLaws.subI rfl rfl)
      with_reducible refine KeepsLaws.comp ?_ (State.setCctx_keeps ..) (KeepsLaws.subI rfl rfl)
      assumption

theorem State.writeRingCam_keeps (s : State) (p : Port) (v : Word) :
    Keeps 4096 604462909807314591547392 s (State.writeRingCam s p v) := by
  unfold State.writeRingCam
  extract_lets
  rename_i e0 e1
  with_reducible refine KeepsLaws.ite ?_ ?_
  · with_reducible refine KeepsLaws.stepReg ?_ (KeepsLaws.bitI rfl)
    with_reducible refine KeepsLaws.comp ?_ (KeepsLaws.upd_cam ..) (KeepsLaws.subI rfl rfl)
    exact KeepsLaws.refl ..
  · with_reducible refine KeepsLaws.stepBumpSat ?_ (KeepsLaws.bitI rfl)
    exact KeepsLaws.refl ..

theorem State.setCamLos_keeps (s : State) (c : ℕ) (lost : Bool) (t : ℕ) :
    Keeps 37132 38836741955119962238029824 s (State.setCamLos s c lost t) := by
  unfold State.setCamLos
  extract_lets
  rename_i e0 e1 e2
  have h_e1 : Keeps 37132 38836741955119962238029824 s e1 := by
    unfold e1
    with_reducible refine KeepsLaws.comp ?_ (State.modPool_keeps ..) (KeepsLaws.subI rfl rfl)
    with_reducible refine KeepsLaws.comp ?_ (State.setCctx_keeps ..) (KeepsLaws.subI rfl rfl)
    exact KeepsLaws.refl ..
  clear_value e1
  have h_e2 : Keeps 37132 38836741955119962238029824 s e2 := by
    unfold e2
    with_reducible refine KeepsLaws.ite ?_ ?_
    · assumption
    · with_reducible refine KeepsLaws.comp ?_ (State.modPool_keeps ..) (KeepsLaws.subI rfl rfl)
      assumption
  clear_value e2
  with_reducible refine KeepsLaws.ite ?_ ?_
  · exact KeepsLaws.refl ..
  · with_reducible refine KeepsLaws.comp ?_ (State.eventLimited_keeps ..) (KeepsLaws.subI rfl rfl)
    assumption

theorem State.loseCam_keeps (s : State) (c : ℕ) :
    Keeps 33657100 23404954983466672650958999552 s (State.loseCam s c) := by
  unfold State.loseCam
  with_reducible refine KeepsLaws.comp ?_ (State.setCamLos_keeps ..) (KeepsLaws.subI rfl rfl)
  with_reducible refine KeepsLaws.comp ?_ (State.closeCam_keeps ..) (KeepsLaws.subI rfl rfl)
  exact KeepsLaws.refl ..

theorem State.pipeWithhold_keeps (s : State) (q : ℕ) (c : ℕ) :
    Keeps 33656844 19845877370521204360624017408 s (State.pipeWithhold s q c) := by
  unfold State.pipeWithhold
  extract_lets
  rename_i e0
  have h_e0 : Keeps 33656844 19845877370521204360624017408 s e0 := by
    unfold e0
    with_reducible refine KeepsLaws.comp ?_ (State.camRetry_keeps ..) (KeepsLaws.subI rfl rfl)
    with_reducible refine KeepsLaws.comp ?_ (State.modCctx_keeps ..) (KeepsLaws.subI rfl rfl)
    with_reducible refine KeepsLaws.comp ?_ (State.pipeDrop_keeps ..) (KeepsLaws.subI rfl rfl)
    exact KeepsLaws.refl ..
  clear_value e0
  with_reducible refine KeepsLaws.foldl (fun x a => ?_) ?_
  · with_reducible refine KeepsLaws.comp ?_ (State.modPool_keeps ..) (KeepsLaws.subI rfl rfl)
    with_reducible refine KeepsLaws.comp ?_ (State.modPool_keeps ..) (KeepsLaws.subI rfl rfl)
    exact KeepsLaws.refl ..
  · assumption

theorem State.openCam_keeps (s : State) (c : ℕ) :
    Keeps 37212 14894117213379683261029617664 s (State.openCam s c) := by
  unfold State.openCam
  extract_lets
  rename_i e0 e1 e2 e3 e4 e5 e6 e7 e8
  have h_e1 : Keeps 37212 14894117213379683261029617664 s e1 := by
    unfold e1
    with_reducible refine KeepsLaws.comp ?_ (State.setCamLos_keeps ..) (KeepsLaws.subI rfl rfl)
    exact KeepsLaws.refl ..
  clear_value e1
  have h_e3 : Keeps 37212 14894117213379683261029617664 s e3 := by
    unfold e3
    split
    · with_reducible refine KeepsLaws.comp ?_ (State.camReply_keeps ..) (KeepsLaws.subI rfl rfl)
      with_reducible refine KeepsLaws.ite ?_ ?_
      · assumption
      · with_reducible refine KeepsLaws.comp ?_ (State.storeTaken_keeps ..) (KeepsLaws.subI rfl rfl)
        assumption
    · assumption
  clear_value e3
  have h_e4 : Keeps 37212 14894117213379683261029617664 s e4 := by
    unfold e4
    split
    · with_reducible refine KeepsLaws.comp ?_ (State.camReply_keeps ..) (KeepsLaws.subI rfl rfl)
      assumption
    · assumption
  clear_value e4
  have h_e8 : Keeps 37212 14894117213379683261029617664 s e8 := by
    unfold e8
    with_reducible refine KeepsLaws.comp ?_ (State.modCctx_keeps ..) (KeepsLaws.subI rfl rfl)
    assumption
  clear_value e8
  with_reducible refine KeepsLaws.stepReg ?_ (KeepsLaws.bitI rfl)
  with_reducible refine KeepsLaws.stepReg ?_ (KeepsLaws.bitI rfl)
  assumption

theorem State.setCport_keeps (s : State) (p : ℕ) (x : CamPort) :
    Keeps 4096 151115727451828646838272 s (State.setCport s p x) := by
  unfold State.setCport
  with_reducible refine KeepsLaws.stepSetBit ?_ (KeepsLaws.bitI rfl)
  with_reducible refine KeepsLaws.comp ?_ (KeepsLaws.upd_cam ..) (KeepsLaws.subI rfl rfl)
  exact KeepsLaws.refl ..

theorem State.portAlive_keeps (s : State) (p : ℕ) :
    Keeps 4096 151115727451828646838272 s (State.portAlive s p) := by
  unfold State.portAlive
  with_reducible refine KeepsLaws.ite ?_ ?_
  · exact KeepsLaws.refl ..
  · with_reducible refine KeepsLaws.comp ?_ (State.setCport_keeps ..) (KeepsLaws.subI rfl rfl)
    exact KeepsLaws.refl ..

theorem execCsiFrameStart_keeps (port : Fin 8) (vc : Fin 4) (s : State) :
    KeepsO 33657180 38281996119644299274895298560 s (execCsiFrameStart port vc s) := by
  unfold execCsiFrameStart
  with_reducible refine KeepsLaws.iteO ?_ ?_
  · with_reducible refine KeepsLaws.next ?_
    exact KeepsLaws.refl ..
  · extract_lets
    rename_i e0 e1
    have h_e0 : Keeps 33657180 38281996119644299274895298560 s e0 := by
      unfold e0
      with_reducible refine KeepsLaws.comp ?_ (State.portAlive_keeps ..) (KeepsLaws.subI rfl rfl)
      exact KeepsLaws.refl ..
    clear_value e0
    have h_e1 : Keeps 33657180 38281996119644299274895298560 s e1 := by
      unfold e1
      split
      · with_reducible refine KeepsLaws.comp ?_ (State.portAlive_keeps ..) (KeepsLaws.subI rfl rfl)
        exact KeepsLaws.refl ..
      · with_reducible refine KeepsLaws.ite ?_ ?_
        · with_reducible refine KeepsLaws.comp ?_ (State.camBoundary_keeps ..) (KeepsLaws.subI rfl rfl)
          assumption
        · with_reducible refine KeepsLaws.comp ?_ (State.closeCam_keeps ..) (KeepsLaws.subI rfl rfl)
          assumption
    clear_value e1
    split
    · with_reducible refine KeepsLaws.next ?_
      with_reducible refine KeepsLaws.stepBumpSat ?_ (KeepsLaws.bitI rfl)
      assumption
    · with_reducible refine KeepsLaws.next ?_
      with_reducible refine KeepsLaws.comp ?_ (State.openCam_keeps ..) (KeepsLaws.subI rfl rfl)
      assumption

theorem execCsiFrameEnd_keeps (port : Fin 8) (vc : Fin 4) (s : State) :
    KeepsO 33657100 23424297796580506717754298368 s (execCsiFrameEnd port vc s) := by
  unfold execCsiFrameEnd
  with_reducible refine KeepsLaws.iteO ?_ ?_
  · with_reducible refine KeepsLaws.next ?_
    exact KeepsLaws.refl ..
  · extract_lets
    rename_i e0
    have h_e0 : Keeps 33657100 23424297796580506717754298368 s e0 := by
      unfold e0
      with_reducible refine KeepsLaws.comp ?_ (State.portAlive_keeps ..) (KeepsLaws.subI rfl rfl)
      exact KeepsLaws.refl ..
    clear_value e0
    split
    · with_reducible refine KeepsLaws.next ?_
      with_reducible refine KeepsLaws.stepBumpSat ?_ (KeepsLaws.bitI rfl)
      assumption
    · with_reducible refine KeepsLaws.next ?_
      with_reducible refine KeepsLaws.comp ?_ (State.closeCam_keeps ..) (KeepsLaws.subI rfl rfl)
      assumption

theorem execCsiLongPacket_keeps (port : Fin 8) (vc : Fin 4) (pkt : CsiLong) (s : State) :
    KeepsO 4364 1310626704189709854028926976 s (execCsiLongPacket port vc pkt s) := by
  unfold execCsiLongPacket
  with_reducible refine KeepsLaws.iteO ?_ ?_
  · with_reducible refine KeepsLaws.next ?_
    exact KeepsLaws.refl ..
  · extract_lets
    rename_i e0
    have h_e0 : Keeps 4364 1310626704189709854028926976 s e0 := by
      unfold e0
      with_reducible refine KeepsLaws.comp ?_ (State.portAlive_keeps ..) (KeepsLaws.subI rfl rfl)
      exact KeepsLaws.refl ..
    clear_value e0
    with_reducible refine KeepsLaws.iteO ?_ ?_
    · with_reducible refine KeepsLaws.next ?_
      with_reducible refine KeepsLaws.stepBumpSat ?_ (KeepsLaws.bitI rfl)
      assumption
    · split
      · with_reducible refine KeepsLaws.next ?_
        with_reducible refine KeepsLaws.stepBumpSat ?_ (KeepsLaws.bitI rfl)
        assumption
      · split
        · with_reducible refine KeepsLaws.next ?_
          assumption
        · with_reducible refine KeepsLaws.next ?_
          with_reducible refine KeepsLaws.comp ?_ (State.camLine_keeps ..) (KeepsLaws.subI rfl rfl)
          assumption

theorem execRingIndexWriteCam_keeps (p : Port) (value : Word) (s : State) :
    KeepsO 4096 604462909807314591547392 s (execRingIndexWriteCam p value s) := by
  unfold execRingIndexWriteCam
  with_reducible refine KeepsLaws.next ?_
  with_reducible refine KeepsLaws.comp ?_ (State.writeRingCam_keeps ..) (KeepsLaws.subI rfl rfl)
  exact KeepsLaws.refl ..

theorem execCamLosTimeout_keeps (c : Fin 16) (clockGone : Bool) (s : State) :
    KeepsO 33657100 23404954983466672650958999552 s (execCamLosTimeout c clockGone s) := by
  unfold execCamLosTimeout
  extract_lets
  rename_i e0 e1 e2
  with_reducible refine KeepsLaws.iteO ?_ ?_
  · with_reducible refine KeepsLaws.next ?_
    exact KeepsLaws.refl ..
  · with_reducible refine KeepsLaws.iteO ?_ ?_
    · with_reducible refine KeepsLaws.next ?_
      with_reducible refine KeepsLaws.foldl (fun x a => ?_) ?_
      · with_reducible refine KeepsLaws.comp ?_ (State.loseCam_keeps ..) (KeepsLaws.subI rfl rfl)
        exact KeepsLaws.refl ..
      · with_reducible refine KeepsLaws.comp ?_ (State.setCport_keeps ..) (KeepsLaws.subI rfl rfl)
        exact KeepsLaws.refl ..
    · with_reducible refine KeepsLaws.iteO ?_ ?_
      · with_reducible refine KeepsLaws.next ?_
        with_reducible refine KeepsLaws.comp ?_ (State.loseCam_keeps ..) (KeepsLaws.subI rfl rfl)
        exact KeepsLaws.refl ..
      · with_reducible refine KeepsLaws.next ?_
        exact KeepsLaws.refl ..

theorem execCamStatsRing_keeps (r : Req) (b : Body) (s : State) :
    KeepsO 4124 906694364710971883716608 s (execCamStatsRing r b s) := by
  unfold execCamStatsRing
  extract_lets
  rename_i e0
  with_reducible refine KeepsLaws.command (KeepsLaws.subI rfl rfl) (fun x => ?_)
  with_reducible refine KeepsLaws.doneA ?_
  with_reducible refine KeepsLaws.stepReg ?_ (KeepsLaws.bitI rfl)
  with_reducible refine KeepsLaws.stepReg ?_ (KeepsLaws.bitI rfl)
  with_reducible refine KeepsLaws.comp ?_ (KeepsLaws.upd_cam ..) (KeepsLaws.subI rfl rfl)
  exact KeepsLaws.refl ..

theorem execCamPort_keeps (r : Req) (b : Body) (s : State) :
    KeepsO 246519068 1065974306048913481878971270901677136270159599374277992804661243017826614185916111232498468982784 s (execCamPort r b s) := by
  unfold execCamPort
  extract_lets
  rename_i e0 e1 e2 e3
  with_reducible refine KeepsLaws.command (KeepsLaws.subI rfl rfl) (fun x => ?_)
  extract_lets
  rename_i e4 e5
  have h_e4 : Keeps 246519068 1065974306048913481878971270901677136270159599374277992804661243017826614185916111232498468982784 x e4 := by
    unfold e4
    with_reducible refine KeepsLaws.ite ?_ ?_
    · exact KeepsLaws.refl ..
    · with_reducible refine KeepsLaws.foldl (fun x a => ?_) ?_
      · with_reducible refine KeepsLaws.comp ?_ (State.loseCam_keeps ..) (KeepsLaws.subI rfl rfl)
        exact KeepsLaws.refl ..
      · exact KeepsLaws.refl ..
  clear_value e4
  with_reducible refine KeepsLaws.doneA ?_
  with_reducible refine KeepsLaws.comp ?_ (State.showCport_keeps ..) (KeepsLaws.subI rfl rfl)
  with_reducible refine KeepsLaws.comp ?_ (State.setCport_keeps ..) (KeepsLaws.subI rfl rfl)
  with_reducible refine KeepsLaws.ite ?_ ?_
  · with_reducible refine KeepsLaws.comp ?_ (State.powerUp_keeps ..) (KeepsLaws.subI rfl rfl)
    assumption
  · assumption

theorem execPipeFrameDone_keeps (q : Fin 2) (residueBad : Bool) (s : State) :
    KeepsO 108630284 46077677787479011400871809854749000067566345939955764136519135896072845719920701935616 s (execPipeFrameDone q residueBad s) := by
  unfold execPipeFrameDone
  extract_lets
  rename_i e0 e1
  have h_e1 : Keeps 108630284 46077677787479011400871809854749000067566345939955764136519135896072845719920701935616 s e1 := by
    unfold e1
    with_reducible refine KeepsLaws.stepBumpWrap ?_ (KeepsLaws.bitI rfl)
    exact KeepsLaws.refl ..
  clear_value e1
  split
  · with_reducible refine KeepsLaws.next ?_
    exact KeepsLaws.refl ..
  · split
    · with_reducible refine KeepsLaws.next ?_
      with_reducible refine KeepsLaws.comp ?_ (State.pipeDrop_keeps ..) (KeepsLaws.subI rfl rfl)
      exact KeepsLaws.refl ..
    · with_reducible refine KeepsLaws.iteO ?_ ?_
      · with_reducible refine KeepsLaws.next ?_
        exact KeepsLaws.refl ..
      · with_reducible refine KeepsLaws.iteO ?_ ?_
        · with_reducible refine KeepsLaws.next ?_
          with_reducible refine KeepsLaws.comp ?_ (State.fault_keeps ..) (KeepsLaws.subI rfl rfl)
          with_reducible refine KeepsLaws.stepBumpSat ?_ (KeepsLaws.bitI rfl)
          with_reducible refine KeepsLaws.comp ?_ (State.setPipe_keeps ..) (KeepsLaws.subI rfl rfl)
          exact KeepsLaws.refl ..
        · with_reducible refine KeepsLaws.iteO ?_ ?_
          · with_reducible refine KeepsLaws.next ?_
            with_reducible refine KeepsLaws.comp ?_ (State.pipeSelect_keeps ..) (KeepsLaws.subI rfl rfl)
            with_reducible refine KeepsLaws.comp ?_ (State.fault_keeps ..) (KeepsLaws.subI rfl rfl)
            with_reducible refine KeepsLaws.comp ?_ (State.pipeWithhold_keeps ..) (KeepsLaws.subI rfl rfl)
            with_reducible refine KeepsLaws.stepBumpWrap ?_ (KeepsLaws.bitI rfl)
            exact KeepsLaws.refl ..
          · extract_lets
            rename_i e2 e3
            have h_e2 : Keeps 108630284 46077677787479011400871809854749000067566345939955764136519135896072845719920701935616 s e2 := by
              unfold e2
              with_reducible refine KeepsLaws.ite ?_ ?_
              · with_reducible refine KeepsLaws.comp ?_ (State.camRetry_keeps ..) (KeepsLaws.subI rfl rfl)
                assumption
              · assumption
            clear_value e2
            have h_e3 : Keeps 108630284 46077677787479011400871809854749000067566345939955764136519135896072845719920701935616 s e3 := by
              unfold e3
              with_reducible refine KeepsLaws.comp ?_ (State.modCctx_keeps ..) (KeepsLaws.subI rfl rfl)
              with_reducible refine KeepsLaws.comp ?_ (State.camRelease_keeps ..) (KeepsLaws.subI rfl rfl)
              assumption
            clear_value e3
            with_reducible refine KeepsLaws.next ?_
            with_reducible refine KeepsLaws.comp ?_ (State.pipeSelect_keeps ..) (KeepsLaws.subI rfl rfl)
            with_reducible refine KeepsLaws.comp ?_ (State.setPipe_keeps ..) (KeepsLaws.subI rfl rfl)
            assumption

theorem execCamParams_keeps (r : Req) (b : Body) (s : State) :
    KeepsO 4124 38836741955119962240122880 s (execCamParams r b s) := by
  unfold execCamParams
  with_reducible refine KeepsLaws.command (KeepsLaws.subI rfl rfl) (fun x => ?_)
  with_reducible refine KeepsLaws.laterA ?_
  with_reducible refine KeepsLaws.comp ?_ (State.armParams_keeps ..) (KeepsLaws.subI rfl rfl)
  exact KeepsLaws.refl ..

theorem execCamDefects_keeps (r : Req) (b : Body) (table : List Byte) (s : State) :
    KeepsO 4124 38836741955119962240122880 s (execCamDefects r b table s) := by
  unfold execCamDefects
  extract_lets
  rename_i e0 e1 e2
  with_reducible refine KeepsLaws.command (KeepsLaws.subI rfl rfl) (fun x => ?_)
  extract_lets
  rename_i e3 e4
  have h_e4 : Keeps 4124 38836741955119962240122880 x e4 := by
    unfold e4
    split
    · with_reducible refine KeepsLaws.comp ?_ (State.camReply_keeps ..) (KeepsLaws.subI rfl rfl)
      exact KeepsLaws.refl ..
    · exact KeepsLaws.refl ..
  clear_value e4
  with_reducible refine KeepsLaws.laterA ?_
  with_reducible refine KeepsLaws.comp ?_ (State.modCctx_keeps ..) (KeepsLaws.subI rfl rfl)
  assumption

end Sys2Proof.Machine
end

