-- ==== Sys2Proof/Laws/FrameEngines.lean ====
section
/-! SUPPORT. What each operation of Machine/Engines.lean can change at most (Keeps): masks of fields and of registers. -/

namespace Sys2Proof.Machine

theorem State.setPe_keeps (s : State) (n : ℕ) (e : EngineSt) :
    Keeps 8192 10141204801825835211973625643008 s (State.setPe s n e) := by
  unfold State.setPe
  extract_lets
  rename_i e0 e1
  have h_e1 : Keeps 8192 10141204801825835211973625643008 s e1 := by
    unfold e1
    with_reducible refine KeepsLaws.comp ?_ (KeepsLaws.upd_fab ..) (KeepsLaws.subI rfl rfl)
    exact KeepsLaws.refl ..
  clear_value e1
  with_reducible refine KeepsLaws.stepSetBits ?_ (KeepsLaws.bitI rfl)
  with_reducible refine KeepsLaws.stepSetBits ?_ (KeepsLaws.bitI rfl)
  with_reducible refine KeepsLaws.stepSetBits ?_ (KeepsLaws.bitI rfl)
  with_reducible refine KeepsLaws.stepSetBits ?_ (KeepsLaws.bitI rfl)
  assumption

theorem State.pushPe_keeps (s : State) (n : ℕ) (j : Job) :
    Keeps 8192 10141204801825835211973625643008 s (State.pushPe s n j) := by
  unfold State.pushPe
  extract_lets
  rename_i e0 e1
  with_reducible refine KeepsLaws.comp ?_ (State.setPe_keeps ..) (KeepsLaws.subI rfl rfl)
  with_reducible refine KeepsLaws.comp ?_ (KeepsLaws.upd_fab ..) (KeepsLaws.subI rfl rfl)
  exact KeepsLaws.refl ..

theorem State.refillPool_keeps (s : State) (n : ℕ) :
    Keeps 8192 10141204801825835211973625643008 s (State.refillPool s n) := by
  induction n generalizing s with
  | zero => exact KeepsLaws.refl ..
  | succ n ih =>
    unfold State.refillPool
    dsimp only
    split
    · exact KeepsLaws.refl ..
    · split
      · exact KeepsLaws.refl ..
      · refine KeepsLaws.ite (KeepsLaws.trans ?_ (ih ..)) (KeepsLaws.refl ..)
        exact KeepsLaws.comp (KeepsLaws.comp (KeepsLaws.refl ..) (KeepsLaws.upd_fab ..) (KeepsLaws.subI rfl rfl)) (State.pushPe_keeps ..)
          (KeepsLaws.subI rfl rfl)

theorem State.setEe_keeps (s : State) (n : ℕ) (e : EngineSt) :
    Keeps 8192 81129638414606681695789005144064 s (State.setEe s n e) := by
  unfold State.setEe
  extract_lets
  rename_i e0 e1
  have h_e1 : Keeps 8192 81129638414606681695789005144064 s e1 := by
    unfold e1
    with_reducible refine KeepsLaws.comp ?_ (KeepsLaws.upd_fab ..) (KeepsLaws.subI rfl rfl)
    exact KeepsLaws.refl ..
  clear_value e1
  with_reducible refine KeepsLaws.stepSetBits ?_ (KeepsLaws.bitI rfl)
  with_reducible refine KeepsLaws.stepSetBits ?_ (KeepsLaws.bitI rfl)
  with_reducible refine KeepsLaws.stepSetBits ?_ (KeepsLaws.bitI rfl)
  with_reducible refine KeepsLaws.stepSetBits ?_ (KeepsLaws.bitI rfl)
  assumption

theorem State.pushEe_keeps (s : State) (n : ℕ) (j : Job) :
    Keeps 8192 81129638414606681695789005144064 s (State.pushEe s n j) := by
  unfold State.pushEe
  extract_lets
  rename_i e0 e1 e2
  with_reducible refine KeepsLaws.comp ?_ (State.setEe_keeps ..) (KeepsLaws.subI rfl rfl)
  with_reducible refine KeepsLaws.comp ?_ (KeepsLaws.upd_fab ..) (KeepsLaws.subI rfl rfl)
  exact KeepsLaws.refl ..

theorem State.toDramEe_keeps (s : State) (j : Job) :
    Keeps 8192 0 s (State.toDramEe s j) := by
  unfold State.toDramEe
  with_reducible refine KeepsLaws.comp ?_ (KeepsLaws.upd_fab ..) (KeepsLaws.subI rfl rfl)
  exact KeepsLaws.refl ..

theorem State.offerEe_keeps (s : State) (n : Option ℕ) (j : Job) :
    Keeps 8192 81129638414606681695789005144064 s (State.offerEe s n j) := by
  unfold State.offerEe
  split
  · with_reducible refine KeepsLaws.ite ?_ ?_
    · with_reducible refine KeepsLaws.comp ?_ (State.pushEe_keeps ..) (KeepsLaws.subI rfl rfl)
      exact KeepsLaws.refl ..
    · with_reducible refine KeepsLaws.comp ?_ (State.toDramEe_keeps ..) (KeepsLaws.subI rfl rfl)
      exact KeepsLaws.refl ..
  · with_reducible refine KeepsLaws.comp ?_ (State.toDramEe_keeps ..) (KeepsLaws.subI rfl rfl)
    exact KeepsLaws.refl ..

theorem State.refillEes_keeps (s : State) :
    Keeps 8192 81129638414606681695789005144064 s (State.refillEes s) := by
  unfold State.refillEes
  extract_lets
  rename_i e0 e1
  with_reducible refine KeepsLaws.foldl (fun x a => ?_) ?_
  · with_reducible refine KeepsLaws.comp ?_ (State.offerEe_keeps ..) (KeepsLaws.subI rfl rfl)
    exact KeepsLaws.refl ..
  · with_reducible refine KeepsLaws.comp ?_ (KeepsLaws.upd_fab ..) (KeepsLaws.subI rfl rfl)
    exact KeepsLaws.refl ..

theorem State.countJobs_keeps (s : State) :
    Keeps 0 2218388550399401452619230609408 s (State.countJobs s) := by
  unfold State.countJobs
  extract_lets
  rename_i e0 e1
  with_reducible refine KeepsLaws.stepSetBits ?_ (KeepsLaws.bitI rfl)
  with_reducible refine KeepsLaws.stepReg ?_ (KeepsLaws.bitI rfl)
  with_reducible refine KeepsLaws.stepSetBits ?_ (KeepsLaws.bitI rfl)
  exact KeepsLaws.refl ..

theorem State.toDram_keeps (s : State) (j : Job) :
    Keeps 8192 0 s (State.toDram s j) := by
  unfold State.toDram
  with_reducible refine KeepsLaws.comp ?_ (KeepsLaws.upd_fab ..) (KeepsLaws.subI rfl rfl)
  exact KeepsLaws.refl ..

theorem State.offerPe_keeps (s : State) (n : Option ℕ) (j : Job) :
    Keeps 8192 10141204801825835211973625643008 s (State.offerPe s n j) := by
  unfold State.offerPe
  split
  · with_reducible refine KeepsLaws.ite ?_ ?_
    · with_reducible refine KeepsLaws.comp ?_ (State.pushPe_keeps ..) (KeepsLaws.subI rfl rfl)
      exact KeepsLaws.refl ..
    · with_reducible refine KeepsLaws.comp ?_ (State.toDram_keeps ..) (KeepsLaws.subI rfl rfl)
      exact KeepsLaws.refl ..
  · with_reducible refine KeepsLaws.comp ?_ (State.toDram_keeps ..) (KeepsLaws.subI rfl rfl)
    exact KeepsLaws.refl ..

theorem State.refillChan_keeps (s : State) (o : ℕ) :
    Keeps 8192 91270843216432516907762630787072 s (State.refillChan s o) := by
  unfold State.refillChan
  extract_lets
  rename_i e0 e1 e2
  have h_e1 : Keeps 8192 91270843216432516907762630787072 s e1 := by
    unfold e1
    with_reducible refine KeepsLaws.foldl (fun x a => ?_) ?_
    · with_reducible refine KeepsLaws.comp ?_ (State.offerPe_keeps ..) (KeepsLaws.subI rfl rfl)
      exact KeepsLaws.refl ..
    · with_reducible refine KeepsLaws.comp ?_ (KeepsLaws.upd_fab ..) (KeepsLaws.subI rfl rfl)
      exact KeepsLaws.refl ..
  clear_value e1
  with_reducible refine KeepsLaws.foldl (fun x a => ?_) ?_
  · with_reducible refine KeepsLaws.comp ?_ (State.offerEe_keeps ..) (KeepsLaws.subI rfl rfl)
    exact KeepsLaws.refl ..
  · with_reducible refine KeepsLaws.comp ?_ (KeepsLaws.upd_fab ..) (KeepsLaws.subI rfl rfl)
    assumption

theorem State.refill_keeps (s : State) :
    Keeps 8192 93489231766831918360381861396480 s (State.refill s) := by
  unfold State.refill
  extract_lets
  rename_i e0 e1
  have h_e1 : Keeps 8192 93489231766831918360381861396480 s e1 := by
    unfold e1
    with_reducible refine KeepsLaws.foldl (fun x a => ?_) ?_
    · with_reducible refine KeepsLaws.comp ?_ (State.refillChan_keeps ..) (KeepsLaws.subI rfl rfl)
      exact KeepsLaws.refl ..
    · exact KeepsLaws.refl ..
  clear_value e1
  with_reducible refine KeepsLaws.comp ?_ (State.countJobs_keeps ..) (KeepsLaws.subI rfl rfl)
  with_reducible refine KeepsLaws.comp ?_ (State.refillEes_keeps ..) (KeepsLaws.subI rfl rfl)
  with_reducible refine KeepsLaws.comp ?_ (State.refillPool_keeps ..) (KeepsLaws.subI rfl rfl)
  assumption

theorem State.dropJobs_keeps (s : State) (gone : ℕ → ℕ → Bool) :
    Keeps 8192 91270843216432516907762630787072 s (State.dropJobs s gone) := by
  unfold State.dropJobs
  extract_lets
  rename_i e0 e1
  have h_e1 : Keeps 8192 91270843216432516907762630787072 s e1 := by
    unfold e1
    with_reducible refine KeepsLaws.foldl (fun x a => ?_) ?_
    · extract_lets
      rename_i e2
      with_reducible refine KeepsLaws.ite ?_ ?_
      · exact KeepsLaws.refl ..
      · with_reducible refine KeepsLaws.comp ?_ (State.setPe_keeps ..) (KeepsLaws.subI rfl rfl)
        exact KeepsLaws.refl ..
    · with_reducible refine KeepsLaws.comp ?_ (KeepsLaws.upd_fab ..) (KeepsLaws.subI rfl rfl)
      exact KeepsLaws.refl ..
  clear_value e1
  with_reducible refine KeepsLaws.foldl (fun x a => ?_) ?_
  · extract_lets
    rename_i e3
    with_reducible refine KeepsLaws.ite ?_ ?_
    · exact KeepsLaws.refl ..
    · with_reducible refine KeepsLaws.comp ?_ (State.setEe_keeps ..) (KeepsLaws.subI rfl rfl)
      exact KeepsLaws.refl ..
  · assumption

theorem State.noteRecon_keeps (s : State) (x : ℕ × ℕ × ℕ) :
    Keeps 8192 0 s (State.noteRecon s x) := by
  unfold State.noteRecon
  with_reducible refine KeepsLaws.ite ?_ ?_
  · exact KeepsLaws.refl ..
  · with_reducible refine KeepsLaws.comp ?_ (KeepsLaws.upd_fab ..) (KeepsLaws.subI rfl rfl)
    exact KeepsLaws.refl ..

theorem State.oreDrop_keeps (s : State) (x : ℕ × ℕ × ℕ) :
    Keeps 8192 0 s (State.oreDrop s x) := by
  unfold State.oreDrop
  with_reducible refine KeepsLaws.comp ?_ (KeepsLaws.upd_fab ..) (KeepsLaws.subI rfl rfl)
  exact KeepsLaws.refl ..

theorem State.oreTake_keeps (s : State) (x : ℕ × ℕ × ℕ) :
    Keeps 8192 0 s (State.oreTake s x) := by
  unfold State.oreTake
  with_reducible refine KeepsLaws.ite ?_ ?_
  · exact KeepsLaws.refl ..
  · with_reducible refine KeepsLaws.comp ?_ (KeepsLaws.upd_fab ..) (KeepsLaws.subI rfl rfl)
    exact KeepsLaws.refl ..

theorem State.settleRows_keeps (s : State) (o : ℕ) (pic : ℕ) :
    Keeps 8192 50706024009129176059868128215040 s (State.settleRows s o pic) := by
  unfold State.settleRows
  with_reducible refine KeepsLaws.foldl (fun x a => ?_) ?_
  · extract_lets
    rename_i e0 e1 e2 e3 e4
    have h_e3 : Keeps 8192 50706024009129176059868128215040 x e3 := by
      unfold e3
      with_reducible refine KeepsLaws.stepAddWrapBits ?_ (KeepsLaws.bitI rfl)
      with_reducible refine KeepsLaws.comp ?_ (State.setPe_keeps ..) (KeepsLaws.subI rfl rfl)
      exact KeepsLaws.refl ..
    clear_value e3
    with_reducible refine KeepsLaws.ite ?_ ?_
    · exact KeepsLaws.refl ..
    · with_reducible refine KeepsLaws.comp ?_ (KeepsLaws.upd_fab ..) (KeepsLaws.subI rfl rfl)
      assumption
  · exact KeepsLaws.refl ..

end Sys2Proof.Machine
end

