-- ==== Sys2Proof/Laws/FrameDecode.lean ====
section
/-! SUPPORT. What each operation of Machine/Decode.lean can change at most (Keeps): masks of fields and of registers. -/

namespace Sys2Proof.Machine

theorem State.showPool_keeps (s : State) (n : ℕ) :
    Keeps 0 1298074214633706907132624082305024 s (State.showPool s n) := by
  unfold State.showPool
  extract_lets
  rename_i e0
  with_reducible refine KeepsLaws.stepSetBit ?_ (KeepsLaws.bitI rfl)
  with_reducible refine KeepsLaws.stepSetBits ?_ (KeepsLaws.bitI rfl)
  with_reducible refine KeepsLaws.stepSetBits ?_ (KeepsLaws.bitI rfl)
  with_reducible refine KeepsLaws.stepSetBits ?_ (KeepsLaws.bitI rfl)
  exact KeepsLaws.refl ..

theorem State.modSess_keeps (s : State) (n : ℕ) (f : DecSession → DecSession) :
    Keeps 16384 0 s (State.modSess s n f) := by
  unfold State.modSess
  with_reducible refine KeepsLaws.comp ?_ (KeepsLaws.upd_dec ..) (KeepsLaws.subI rfl rfl)
  exact KeepsLaws.refl ..

theorem State.dropAus_keeps (s : State) (n : ℕ) :
    Keeps 57344 93489231766831918360381861396480 s (State.dropAus s n) := by
  unfold State.dropAus
  extract_lets
  rename_i e0 e1 e2
  have h_e2 : Keeps 57344 93489231766831918360381861396480 s e2 := by
    unfold e2
    with_reducible refine KeepsLaws.comp ?_ (State.modPool_keeps ..) (KeepsLaws.subI rfl rfl)
    exact KeepsLaws.refl ..
  clear_value e2
  with_reducible refine KeepsLaws.comp ?_ (State.refill_keeps ..) (KeepsLaws.subI rfl rfl)
  with_reducible refine KeepsLaws.comp ?_ (State.modSess_keeps ..) (KeepsLaws.subI rfl rfl)
  with_reducible refine KeepsLaws.comp ?_ (State.dropJobs_keeps ..) (KeepsLaws.subI rfl rfl)
  assumption

theorem State.setSess_keeps (s : State) (n : ℕ) (st : ℕ) (reason : ℕ) (info : AuInfo) :
    Keeps 12 1298074214633706907132624082898944 s (State.setSess s n st reason info) := by
  unfold State.setSess
  with_reducible refine KeepsLaws.ite ?_ ?_
  · exact KeepsLaws.refl ..
  · with_reducible refine KeepsLaws.comp ?_ (State.event_keeps ..) (KeepsLaws.subI rfl rfl)
    with_reducible refine KeepsLaws.stepSetBits ?_ (KeepsLaws.bitI rfl)
    with_reducible refine KeepsLaws.stepSetBits ?_ (KeepsLaws.bitI rfl)
    exact KeepsLaws.refl ..

theorem State.markRefs_keeps (s : State) (n : ℕ) (a : DecAu) :
    Keeps 49152 0 s (State.markRefs s n a) := by
  unfold State.markRefs
  extract_lets
  rename_i e0 e1
  with_reducible refine KeepsLaws.comp ?_ (State.modSess_keeps ..) (KeepsLaws.subI rfl rfl)
  with_reducible refine KeepsLaws.comp ?_ (State.modPool_keeps ..) (KeepsLaws.subI rfl rfl)
  exact KeepsLaws.refl ..

theorem State.startAu_keeps (s : State) (n : ℕ) (i : ℕ) (a : DecAu) :
    Keeps 57344 93489231766831918360381861396480 s (State.startAu s n i a) := by
  unfold State.startAu
  extract_lets
  rename_i e0 e1 e2 e3 e4 e5 e6
  have h_e4 : Keeps 57344 93489231766831918360381861396480 s e4 := by
    unfold e4
    with_reducible refine KeepsLaws.comp ?_ (State.modPool_keeps ..) (KeepsLaws.subI rfl rfl)
    exact KeepsLaws.refl ..
  clear_value e4
  have h_e5 : Keeps 57344 93489231766831918360381861396480 s e5 := by
    unfold e5
    with_reducible refine KeepsLaws.comp ?_ (State.modSess_keeps ..) (KeepsLaws.subI rfl rfl)
    assumption
  clear_value e5
  with_reducible refine KeepsLaws.comp ?_ (State.refill_keeps ..) (KeepsLaws.subI rfl rfl)
  with_reducible refine KeepsLaws.foldl (fun x a => ?_) ?_
  · with_reducible refine KeepsLaws.comp ?_ (State.toDram_keeps ..) (KeepsLaws.subI rfl rfl)
    exact KeepsLaws.refl ..
  · with_reducible refine KeepsLaws.foldl (fun x a => ?_) ?_
    · with_reducible refine KeepsLaws.comp ?_ (State.toDramEe_keeps ..) (KeepsLaws.subI rfl rfl)
      exact KeepsLaws.refl ..
    · assumption

theorem State.freeBufs_keeps (s : State) (n : ℕ) (l : List DecAu) :
    Keeps 32768 0 s (State.freeBufs s n l) := by
  unfold State.freeBufs
  with_reducible refine KeepsLaws.comp ?_ (State.modPool_keeps ..) (KeepsLaws.subI rfl rfl)
  exact KeepsLaws.refl ..

theorem State.dropPrior_keeps (s : State) (n : ℕ) (a : DecAu) :
    Keeps 49152 0 s (State.dropPrior s n a) := by
  unfold State.dropPrior
  with_reducible refine KeepsLaws.ite ?_ ?_
  · extract_lets
    rename_i e0
    with_reducible refine KeepsLaws.comp ?_ (State.modSess_keeps ..) (KeepsLaws.subI rfl rfl)
    with_reducible refine KeepsLaws.comp ?_ (State.freeBufs_keeps ..) (KeepsLaws.subI rfl rfl)
    exact KeepsLaws.refl ..
  · exact KeepsLaws.refl ..

theorem State.tryStart_keeps (s : State) (n : ℕ) :
    Keeps 57344 42929938314679159853736976577462272 s (State.tryStart s n) := by
  unfold State.tryStart
  extract_lets
  rename_i e0
  split
  · exact KeepsLaws.refl ..
  · with_reducible refine KeepsLaws.ite ?_ ?_
    · exact KeepsLaws.refl ..
    · extract_lets
      rename_i e1 e2
      have h_e1 : Keeps 57344 42929938314679159853736976577462272 s e1 := by
        unfold e1
        with_reducible refine KeepsLaws.comp ?_ (State.dropPrior_keeps ..) (KeepsLaws.subI rfl rfl)
        with_reducible refine KeepsLaws.comp ?_ (State.markRefs_keeps ..) (KeepsLaws.subI rfl rfl)
        exact KeepsLaws.refl ..
      clear_value e1
      have h_e2 : Keeps 57344 42929938314679159853736976577462272 s e2 := by
        unfold e2
        split
        · with_reducible refine KeepsLaws.comp ?_ (State.startAu_keeps ..) (KeepsLaws.subI rfl rfl)
          assumption
        · split
          · with_reducible refine KeepsLaws.comp ?_ (State.startAu_keeps ..) (KeepsLaws.subI rfl rfl)
            with_reducible refine KeepsLaws.comp ?_ (State.setPool_keeps ..) (KeepsLaws.subI rfl rfl)
            assumption
          · with_reducible refine KeepsLaws.ite ?_ ?_
            · assumption
            · with_reducible refine KeepsLaws.comp ?_ (State.modSess_keeps ..) (KeepsLaws.subI rfl rfl)
              with_reducible refine KeepsLaws.stepBumpSat ?_ (KeepsLaws.bitI rfl)
              assumption
      clear_value e2
      with_reducible refine KeepsLaws.comp ?_ (State.showPool_keeps ..) (KeepsLaws.subI rfl rfl)
      assumption

theorem State.releasePic_keeps (s : State) (n : ℕ) (a : DecAu) :
    Keeps 33677580 58506828890283642739328465565716480 s (State.releasePic s n a) := by
  unfold State.releasePic
  extract_lets
  rename_i e0 e1 e2
  have h_e2 : Keeps 33677580 58506828890283642739328465565716480 s e2 := by
    unfold e2
    with_reducible refine KeepsLaws.ite ?_ ?_
    · with_reducible refine KeepsLaws.comp ?_ (State.eventPerSec_keeps ..) (KeepsLaws.subI rfl rfl)
      with_reducible refine KeepsLaws.stepBumpSat ?_ (KeepsLaws.bitI rfl)
      exact KeepsLaws.refl ..
    · exact KeepsLaws.refl ..
  clear_value e2
  split
  · assumption
  · extract_lets
    rename_i e3 e4
    have h_e3 : Keeps 33677580 58506828890283642739328465565716480 s e3 := by
      unfold e3
      with_reducible refine KeepsLaws.comp ?_ (State.modPool_keeps ..) (KeepsLaws.subI rfl rfl)
      assumption
    clear_value e3
    have h_e4 : Keeps 33677580 58506828890283642739328465565716480 s e4 := by
      unfold e4
      with_reducible refine KeepsLaws.comp ?_ (State.modSess_keeps ..) (KeepsLaws.subI rfl rfl)
      with_reducible refine KeepsLaws.comp ?_ (State.collect_keeps ..) (KeepsLaws.subI rfl rfl)
      assumption
    clear_value e4
    with_reducible refine KeepsLaws.comp ?_ (State.tryStart_keeps ..) (KeepsLaws.subI rfl rfl)
    with_reducible refine KeepsLaws.comp ?_ (State.showPool_keeps ..) (KeepsLaws.subI rfl rfl)
    with_reducible refine KeepsLaws.stepBumpWrap ?_ (KeepsLaws.bitI rfl)
    assumption

theorem State.flushPics_keeps (s : State) (n : ℕ) :
    Keeps 33677580 58506828890283642739328465565716480 s (State.flushPics s n) := by
  unfold State.flushPics
  with_reducible refine KeepsLaws.ite ?_ ?_
  · exact KeepsLaws.refl ..
  · with_reducible refine KeepsLaws.foldl (fun x a => ?_) ?_
    · split
      · with_reducible refine KeepsLaws.comp ?_ (State.releasePic_keeps ..) (KeepsLaws.subI rfl rfl)
        exact KeepsLaws.refl ..
      · exact KeepsLaws.refl ..
    · exact KeepsLaws.refl ..

theorem State.discardAu_keeps (s : State) (n : ℕ) :
    Keeps 0 20769187434139310514121985316880384 s (State.discardAu s n) := by
  unfold State.discardAu
  with_reducible refine KeepsLaws.stepBumpSat ?_ (KeepsLaws.bitI rfl)
  exact KeepsLaws.refl ..

theorem State.auAccept_keeps (s : State) (n : ℕ) (tag : Tag) (info : AuInfo) (bytes : ℕ) :
    Keeps 33677580 248025664226804851180691581582249984 s (State.auAccept s n tag info bytes) := by
  unfold State.auAccept
  extract_lets
  rename_i e0 e1 e2 e3 e4 e5 e6 e7
  have h_e3 : Keeps 33677580 248025664226804851180691581582249984 s e3 := by
    unfold e3
    with_reducible refine KeepsLaws.comp ?_ (State.modSess_keeps ..) (KeepsLaws.subI rfl rfl)
    exact KeepsLaws.refl ..
  clear_value e3
  with_reducible refine KeepsLaws.ite ?_ ?_
  · exact KeepsLaws.refl ..
  · with_reducible refine KeepsLaws.ite ?_ ?_
    · with_reducible refine KeepsLaws.comp ?_ (State.eventPerSec_keeps ..) (KeepsLaws.subI rfl rfl)
      with_reducible refine KeepsLaws.comp ?_ (State.discardAu_keeps ..) (KeepsLaws.subI rfl rfl)
      assumption
    · split
      · clear_value e4
        split
        · with_reducible refine KeepsLaws.comp ?_ (State.setSess_keeps ..) (KeepsLaws.subI rfl rfl)
          with_reducible refine KeepsLaws.comp ?_ (State.discardAu_keeps ..) (KeepsLaws.subI rfl rfl)
          assumption
        · with_reducible refine KeepsLaws.ite ?_ ?_
          · unfold e5
            extract_lets
            rename_i e8 e9
            have h_e8 : Keeps 33677580 248025664226804851180691581582249984 s e8 := by
              unfold e8
              with_reducible refine KeepsLaws.stepSetBits ?_ (KeepsLaws.bitI rfl)
              with_reducible refine KeepsLaws.stepBumpWrap ?_ (KeepsLaws.bitI rfl)
              with_reducible refine KeepsLaws.comp ?_ (State.setSess_keeps ..) (KeepsLaws.subI rfl rfl)
              assumption
            clear_value e8
            have h_e9 : Keeps 33677580 248025664226804851180691581582249984 s e9 := by
              unfold e9
              with_reducible refine KeepsLaws.comp ?_ (State.modSess_keeps ..) (KeepsLaws.subI rfl rfl)
              assumption
            clear_value e9
            with_reducible refine KeepsLaws.comp ?_ (State.tryStart_keeps ..) (KeepsLaws.subI rfl rfl)
            assumption
          · with_reducible refine KeepsLaws.comp ?_ (State.discardAu_keeps ..) (KeepsLaws.subI rfl rfl)
            assumption
      · clear_value e4
        split
        · unfold e5
          extract_lets
          rename_i e10 e11
          have h_e10 : Keeps 33677580 248025664226804851180691581582249984 s e10 := by
            unfold e10
            with_reducible refine KeepsLaws.stepSetBits ?_ (KeepsLaws.bitI rfl)
            with_reducible refine KeepsLaws.stepBumpWrap ?_ (KeepsLaws.bitI rfl)
            assumption
          clear_value e10
          have h_e11 : Keeps 33677580 248025664226804851180691581582249984 s e11 := by
            unfold e11
            with_reducible refine KeepsLaws.comp ?_ (State.modSess_keeps ..) (KeepsLaws.subI rfl rfl)
            assumption
          clear_value e11
          with_reducible refine KeepsLaws.comp ?_ (State.tryStart_keeps ..) (KeepsLaws.subI rfl rfl)
          assumption
        · with_reducible refine KeepsLaws.comp ?_ (State.flushPics_keeps ..) (KeepsLaws.subI rfl rfl)
          with_reducible refine KeepsLaws.comp ?_ (State.setSess_keeps ..) (KeepsLaws.subI rfl rfl)
          with_reducible refine KeepsLaws.comp ?_ (State.discardAu_keeps ..) (KeepsLaws.subI rfl rfl)
          assumption
      · with_reducible refine KeepsLaws.ite ?_ ?_
        · unfold e5
          extract_lets
          rename_i e12 e13
          have h_e12 : Keeps 33677580 248025664226804851180691581582249984 s e12 := by
            unfold e12
            with_reducible refine KeepsLaws.stepSetBits ?_ (KeepsLaws.bitI rfl)
            with_reducible refine KeepsLaws.stepBumpWrap ?_ (KeepsLaws.bitI rfl)
            with_reducible refine KeepsLaws.comp ?_ (State.setSess_keeps ..) (KeepsLaws.subI rfl rfl)
            assumption
          clear_value e12
          have h_e13 : Keeps 33677580 248025664226804851180691581582249984 s e13 := by
            unfold e13
            with_reducible refine KeepsLaws.comp ?_ (State.modSess_keeps ..) (KeepsLaws.subI rfl rfl)
            assumption
          clear_value e13
          with_reducible refine KeepsLaws.comp ?_ (State.tryStart_keeps ..) (KeepsLaws.subI rfl rfl)
          assumption
        · with_reducible refine KeepsLaws.comp ?_ (State.discardAu_keeps ..) (KeepsLaws.subI rfl rfl)
          assumption

theorem State.picDecoded_keeps (s : State) (n : ℕ) (pic : ℕ) :
    Keeps 57612 126006688051236401910224917845577728 s (State.picDecoded s n pic) := by
  unfold State.picDecoded
  extract_lets
  rename_i e0 e1
  split
  · exact KeepsLaws.refl ..
  · extract_lets
    rename_i e2 e3 e4 e5
    have h_e5 : Keeps 57612 126006688051236401910224917845577728 s e5 := by
      unfold e5
      with_reducible refine KeepsLaws.ite ?_ ?_
      · with_reducible refine KeepsLaws.comp ?_ (State.eventPerSec_keeps ..) (KeepsLaws.subI rfl rfl)
        with_reducible refine KeepsLaws.stepBumpSat ?_ (KeepsLaws.bitI rfl)
        exact KeepsLaws.refl ..
      · exact KeepsLaws.refl ..
    clear_value e5
    split
    extract_lets
    rename_i e6 e7 e8 e9 e10
    have h_e9 : Keeps 57612 126006688051236401910224917845577728 s e9 := by
      unfold e9
      with_reducible refine KeepsLaws.comp ?_ (State.modSess_keeps ..) (KeepsLaws.subI rfl rfl)
      assumption
    clear_value e9
    have h_e10 : Keeps 57612 126006688051236401910224917845577728 s e10 := by
      unfold e10
      split
      · assumption
      · with_reducible refine KeepsLaws.comp ?_ (State.modPool_keeps ..) (KeepsLaws.subI rfl rfl)
        assumption
    clear_value e10
    with_reducible refine KeepsLaws.comp ?_ (State.tryStart_keeps ..) (KeepsLaws.subI rfl rfl)
    with_reducible refine KeepsLaws.comp ?_ (State.showPool_keeps ..) (KeepsLaws.subI rfl rfl)
    assumption

theorem State.checkPicture_keeps (s : State) (j : Job) :
    Keeps 57612 126006688051236401910224917845577728 s (State.checkPicture s j) := by
  unfold State.checkPicture
  with_reducible refine KeepsLaws.ite ?_ ?_
  · with_reducible refine KeepsLaws.comp ?_ (State.picDecoded_keeps ..) (KeepsLaws.subI rfl rfl)
    with_reducible refine KeepsLaws.comp ?_ (State.dropJobs_keeps ..) (KeepsLaws.subI rfl rfl)
    exact KeepsLaws.refl ..
  · exact KeepsLaws.refl ..

theorem State.countBins_keeps (s : State) (n : ℕ) (bins : ℕ) :
    Keeps 8192 405648192073033408478945025720320 s (State.countBins s n bins) := by
  unfold State.countBins
  extract_lets
  rename_i e0 e1
  with_reducible refine KeepsLaws.stepAddWrapBits ?_ (KeepsLaws.bitI rfl)
  with_reducible refine KeepsLaws.comp ?_ (State.setEe_keeps ..) (KeepsLaws.subI rfl rfl)
  exact KeepsLaws.refl ..

theorem State.rowRecon_keeps (s : State) (n : ℕ) (j : Job) (row : DecRow) :
    Keeps 57612 126047252870443705251072812348149760 s (State.rowRecon s n j row) := by
  unfold State.rowRecon
  extract_lets
  rename_i e0 e1
  have h_e0 : Keeps 57612 126047252870443705251072812348149760 s e0 := by
    unfold e0
    with_reducible refine KeepsLaws.comp ?_ (State.noteRecon_keeps ..) (KeepsLaws.subI rfl rfl)
    with_reducible refine KeepsLaws.comp ?_ (State.setPe_keeps ..) (KeepsLaws.subI rfl rfl)
    exact KeepsLaws.refl ..
  clear_value e0
  have h_e1 : Keeps 57612 126047252870443705251072812348149760 s e1 := by
    unfold e1
    with_reducible refine KeepsLaws.ite ?_ ?_
    · with_reducible refine KeepsLaws.comp ?_ (State.toDramEe_keeps ..) (KeepsLaws.subI rfl rfl)
      assumption
    · with_reducible refine KeepsLaws.comp ?_ (State.modSess_keeps ..) (KeepsLaws.subI rfl rfl)
      with_reducible refine KeepsLaws.comp ?_ (State.oreDrop_keeps ..) (KeepsLaws.subI rfl rfl)
      assumption
  clear_value e1
  with_reducible refine KeepsLaws.comp ?_ (State.refill_keeps ..) (KeepsLaws.subI rfl rfl)
  with_reducible refine KeepsLaws.comp ?_ (State.checkPicture_keeps ..) (KeepsLaws.subI rfl rfl)
  with_reducible refine KeepsLaws.comp ?_ (State.settleRows_keeps ..) (KeepsLaws.subI rfl rfl)
  assumption

theorem execJobComplete_keeps (e : Engine) (bins : ℕ) (row : DecRow) (s : State) :
    KeepsO 57612 126374306725302588436658961775136768 s (execJobComplete e bins row s) := by
  unfold execJobComplete
  split
  · extract_lets
    rename_i e0
    split
    · with_reducible refine KeepsLaws.next ?_
      with_reducible refine KeepsLaws.ite ?_ ?_
      · with_reducible refine KeepsLaws.comp ?_ (State.rowRecon_keeps ..) (KeepsLaws.subI rfl rfl)
        exact KeepsLaws.refl ..
      · exact KeepsLaws.refl ..
    · with_reducible refine KeepsLaws.next ?_
      exact KeepsLaws.refl ..
  · extract_lets
    rename_i e1
    split
    · with_reducible refine KeepsLaws.next ?_
      exact KeepsLaws.refl ..
    · with_reducible refine KeepsLaws.iteO ?_ ?_
      · with_reducible refine KeepsLaws.next ?_
        exact KeepsLaws.refl ..
      · with_reducible refine KeepsLaws.iteO ?_ ?_
        · with_reducible refine KeepsLaws.next ?_
          with_reducible refine KeepsLaws.ite ?_ ?_
          · exact KeepsLaws.refl ..
          · with_reducible refine KeepsLaws.stepBumpSat ?_ (KeepsLaws.bitI rfl)
            with_reducible refine KeepsLaws.comp ?_ (State.setEe_keeps ..) (KeepsLaws.subI rfl rfl)
            exact KeepsLaws.refl ..
        · extract_lets
          rename_i e2 e3 e4 e5
          have h_e2 : Keeps 57612 126374306725302588436658961775136768 s e2 := by
            unfold e2
            with_reducible refine KeepsLaws.comp ?_ (State.countBins_keeps ..) (KeepsLaws.subI rfl rfl)
            with_reducible refine KeepsLaws.comp ?_ (State.setEe_keeps ..) (KeepsLaws.subI rfl rfl)
            exact KeepsLaws.refl ..
          clear_value e2
          have h_e3 : Keeps 57612 126374306725302588436658961775136768 s e3 := by
            unfold e3
            with_reducible refine KeepsLaws.comp ?_ (State.oreDrop_keeps ..) (KeepsLaws.subI rfl rfl)
            assumption
          clear_value e3
          have h_e5 : Keeps 57612 126374306725302588436658961775136768 s e5 := by
            unfold e5
            with_reducible refine KeepsLaws.ite ?_ ?_
            · with_reducible refine KeepsLaws.comp ?_ (KeepsLaws.upd_fab ..) (KeepsLaws.subI rfl rfl)
              assumption
            · with_reducible refine KeepsLaws.comp ?_ (State.oreTake_keeps ..) (KeepsLaws.subI rfl rfl)
              assumption
          clear_value e5
          with_reducible refine KeepsLaws.next ?_
          with_reducible refine KeepsLaws.comp ?_ (State.refill_keeps ..) (KeepsLaws.subI rfl rfl)
          assumption

theorem execCfKeyCopy_keeps (r : Req) (b : Body) (s : State) :
    KeepsO 28 2686976 s (execCfKeyCopy r b s) := by
  unfold execCfKeyCopy
  extract_lets
  rename_i e0 e1 e2 e3 e4
  with_reducible refine KeepsLaws.command (KeepsLaws.subI rfl rfl) (fun x => ?_)
  with_reducible refine KeepsLaws.nowA ?_
  with_reducible refine KeepsLaws.comp ?_ (KeepsLaws.emit ..) (KeepsLaws.subI rfl rfl)
  with_reducible refine KeepsLaws.comp ?_ (KeepsLaws.drawn ..) (KeepsLaws.subI rfl rfl)
  exact KeepsLaws.refl ..

theorem execDecPictureRelease_keeps (n : Fin 128) (s : State) :
    KeepsO 33677580 58506828890283642739328465565716480 s (execDecPictureRelease n s) := by
  unfold execDecPictureRelease
  extract_lets
  rename_i e0 e1
  split
  · with_reducible refine KeepsLaws.next ?_
    with_reducible refine KeepsLaws.ite ?_ ?_
    · with_reducible refine KeepsLaws.comp ?_ (State.releasePic_keeps ..) (KeepsLaws.subI rfl rfl)
      exact KeepsLaws.refl ..
    · exact KeepsLaws.refl ..
  · with_reducible refine KeepsLaws.next ?_
    exact KeepsLaws.refl ..

theorem execPeJobStart_keeps (pe : Fin 32) (x : ℕ) (s : State) :
    KeepsO 8192 12359593352225236664592856252416 s (execPeJobStart pe x s) := by
  unfold execPeJobStart
  extract_lets
  rename_i e0
  split
  · with_reducible refine KeepsLaws.next ?_
    exact KeepsLaws.refl ..
  · extract_lets
    rename_i e1 e2
    have h_e2 : Keeps 8192 12359593352225236664592856252416 s e2 := by
      unfold e2
      with_reducible refine KeepsLaws.comp ?_ (State.setPe_keeps ..) (KeepsLaws.subI rfl rfl)
      exact KeepsLaws.refl ..
    clear_value e2
    with_reducible refine KeepsLaws.iteO ?_ ?_
    · with_reducible refine KeepsLaws.next ?_
      with_reducible refine KeepsLaws.ite ?_ ?_
      · with_reducible refine KeepsLaws.comp ?_ (State.countJobs_keeps ..) (KeepsLaws.subI rfl rfl)
        with_reducible refine KeepsLaws.comp ?_ (State.oreTake_keeps ..) (KeepsLaws.subI rfl rfl)
        assumption
      · assumption
    · with_reducible refine KeepsLaws.next ?_
      exact KeepsLaws.refl ..

theorem execDecRestart_keeps (r : Req) (b : Body) (s : State) :
    KeepsO 57372 1391563446400538825493005946392576 s (execDecRestart r b s) := by
  unfold execDecRestart
  extract_lets
  rename_i e0
  with_reducible refine KeepsLaws.command (KeepsLaws.subI rfl rfl) (fun x => ?_)
  with_reducible refine KeepsLaws.doneA ?_
  with_reducible refine KeepsLaws.comp ?_ (State.showPool_keeps ..) (KeepsLaws.subI rfl rfl)
  with_reducible refine KeepsLaws.comp ?_ (State.setSess_keeps ..) (KeepsLaws.subI rfl rfl)
  with_reducible refine KeepsLaws.comp ?_ (State.dropAus_keeps ..) (KeepsLaws.subI rfl rfl)
  exact KeepsLaws.refl ..

end Sys2Proof.Machine
end

