-- ==== Sys2Proof/Laws/FrameFabric.lean ====
section
/-! SUPPORT. What each operation of Machine/Fabric.lean can change at most (Keeps): masks of fields and of registers. -/

namespace Sys2Proof.Machine

theorem State.showEngines_keeps (s : State) :
    Keeps 0 649195563641881982241499129053184 s (State.showEngines s) := by
  unfold State.showEngines
  extract_lets
  rename_i e0 e1 e2 e3 e4
  have h_e4 : Keeps 0 649195563641881982241499129053184 s e4 := by
    unfold e4
    with_reducible refine KeepsLaws.stepSetBit ?_ (KeepsLaws.bitI rfl)
    with_reducible refine KeepsLaws.stepSetBits ?_ (KeepsLaws.bitI rfl)
    with_reducible refine KeepsLaws.stepSetBits ?_ (KeepsLaws.bitI rfl)
    with_reducible refine KeepsLaws.stepSetBits ?_ (KeepsLaws.bitI rfl)
    with_reducible refine KeepsLaws.stepSetBits ?_ (KeepsLaws.bitI rfl)
    exact KeepsLaws.refl ..
  clear_value e4
  with_reducible refine KeepsLaws.stepSetBits ?_ (KeepsLaws.bitI rfl)
  with_reducible refine KeepsLaws.stepSetBits ?_ (KeepsLaws.bitI rfl)
  assumption

theorem State.showOwners_keeps (s : State) :
    Keeps 8192 5317652449546521806114377502881218560 s (State.showOwners s) := by
  unfold State.showOwners
  extract_lets
  rename_i e0 e1
  have h_e0 : Keeps 8192 5317652449546521806114377502881218560 s e0 := by
    unfold e0
    with_reducible refine KeepsLaws.foldl (fun x a => ?_) ?_
    · extract_lets
      rename_i e2
      with_reducible refine KeepsLaws.ite ?_ ?_
      · exact KeepsLaws.refl ..
      · with_reducible refine KeepsLaws.comp ?_ (State.setPe_keeps ..) (KeepsLaws.subI rfl rfl)
        exact KeepsLaws.refl ..
    · exact KeepsLaws.refl ..
  clear_value e0
  have h_e1 : Keeps 8192 5317652449546521806114377502881218560 s e1 := by
    unfold e1
    with_reducible refine KeepsLaws.foldl (fun x a => ?_) ?_
    · extract_lets
      rename_i e3
      with_reducible refine KeepsLaws.ite ?_ ?_
      · exact KeepsLaws.refl ..
      · with_reducible refine KeepsLaws.comp ?_ (State.setEe_keeps ..) (KeepsLaws.subI rfl rfl)
        exact KeepsLaws.refl ..
    · assumption
  clear_value e1
  with_reducible refine KeepsLaws.comp ?_ (State.showEngines_keeps ..) (KeepsLaws.subI rfl rfl)
  with_reducible refine KeepsLaws.foldl (fun x a => ?_) ?_
  · with_reducible refine KeepsLaws.stepSetBits ?_ (KeepsLaws.bitI rfl)
    exact KeepsLaws.refl ..
  · assumption

theorem State.allocate_keeps (s : State) :
    Keeps 8192 5317654667935072205515830122111827968 s (State.allocate s) := by
  unfold State.allocate
  extract_lets
  rename_i e0 e1 e2 e3 e4 e5 e6 e7 e8 e9
  with_reducible refine KeepsLaws.comp ?_ (State.refill_keeps ..) (KeepsLaws.subI rfl rfl)
  with_reducible refine KeepsLaws.comp ?_ (State.showOwners_keeps ..) (KeepsLaws.subI rfl rfl)
  with_reducible refine KeepsLaws.comp ?_ (KeepsLaws.upd_fab ..) (KeepsLaws.subI rfl rfl)
  exact KeepsLaws.refl ..

theorem State.showSessLos_keeps (s : State) (n : ℕ) :
    Keeps 32768 0 s (State.showSessLos s n) := by
  unfold State.showSessLos
  with_reducible refine KeepsLaws.comp ?_ (State.modPool_keeps ..) (KeepsLaws.subI rfl rfl)
  exact KeepsLaws.refl ..

theorem State.disown_keeps (s : State) (n : ℕ) :
    Keeps 32768 0 s (State.disown s n) := by
  unfold State.disown
  with_reducible refine KeepsLaws.comp ?_ (State.modPool_keeps ..) (KeepsLaws.subI rfl rfl)
  exact KeepsLaws.refl ..

theorem State.showDec_keeps (s : State) (n : ℕ) :
    Keeps 0 168100610795065044473674818658500608 s (State.showDec s n) := by
  unfold State.showDec
  extract_lets
  rename_i e0
  with_reducible refine KeepsLaws.stepSetBits ?_ (KeepsLaws.bitI rfl)
  with_reducible refine KeepsLaws.comp ?_ (State.showPool_keeps ..) (KeepsLaws.subI rfl rfl)
  with_reducible refine KeepsLaws.stepSetBits ?_ (KeepsLaws.bitI rfl)
  with_reducible refine KeepsLaws.stepSetBits ?_ (KeepsLaws.bitI rfl)
  exact KeepsLaws.refl ..

theorem State.applyDec_keeps (s : State) (n : ℕ) (b : Body) (quiet : Bool) :
    Keeps 33677388 168194100026831876392035200520491008 s (State.applyDec s n b quiet) := by
  unfold State.applyDec
  extract_lets
  rename_i e0 e1 e2 e3
  have h_e1 : Keeps 33677388 168194100026831876392035200520491008 s e1 := by
    unfold e1
    with_reducible refine KeepsLaws.ite ?_ ?_
    · exact KeepsLaws.refl ..
    · with_reducible refine KeepsLaws.comp ?_ (State.storeTaken_keeps ..) (KeepsLaws.subI rfl rfl)
      exact KeepsLaws.refl ..
  clear_value e1
  have h_e3 : Keeps 33677388 168194100026831876392035200520491008 s e3 := by
    unfold e3
    with_reducible refine KeepsLaws.comp ?_ (State.modSess_keeps ..) (KeepsLaws.subI rfl rfl)
    with_reducible refine KeepsLaws.comp ?_ (State.adoptPool_keeps ..) (KeepsLaws.subI rfl rfl)
    with_reducible refine KeepsLaws.comp ?_ (State.disown_keeps ..) (KeepsLaws.subI rfl rfl)
    with_reducible refine KeepsLaws.comp ?_ (State.dropAus_keeps ..) (KeepsLaws.subI rfl rfl)
    assumption
  clear_value e3
  with_reducible refine KeepsLaws.ite ?_ ?_
  · with_reducible refine KeepsLaws.comp ?_ (State.showDec_keeps ..) (KeepsLaws.subI rfl rfl)
    with_reducible refine KeepsLaws.stepSetBits ?_ (KeepsLaws.bitI rfl)
    with_reducible refine KeepsLaws.comp ?_ (State.setSess_keeps ..) (KeepsLaws.subI rfl rfl)
    with_reducible refine KeepsLaws.comp ?_ (State.modSess_keeps ..) (KeepsLaws.subI rfl rfl)
    with_reducible refine KeepsLaws.comp ?_ (State.freePool_keeps ..) (KeepsLaws.subI rfl rfl)
    with_reducible refine KeepsLaws.comp ?_ (State.disown_keeps ..) (KeepsLaws.subI rfl rfl)
    with_reducible refine KeepsLaws.comp ?_ (State.dropAus_keeps ..) (KeepsLaws.subI rfl rfl)
    assumption
  · with_reducible refine KeepsLaws.ite ?_ ?_
    · with_reducible refine KeepsLaws.comp ?_ (State.showDec_keeps ..) (KeepsLaws.subI rfl rfl)
      with_reducible refine KeepsLaws.comp ?_ (State.modSess_keeps ..) (KeepsLaws.subI rfl rfl)
      assumption
    · with_reducible refine KeepsLaws.comp ?_ (State.showDec_keeps ..) (KeepsLaws.subI rfl rfl)
      with_reducible refine KeepsLaws.comp ?_ (State.showSessLos_keeps ..) (KeepsLaws.subI rfl rfl)
      with_reducible refine KeepsLaws.comp ?_ (State.setSess_keeps ..) (KeepsLaws.subI rfl rfl)
      assumption

theorem State.sessBoundary_keeps (s : State) (n : ℕ) :
    Keeps 33677388 168194100026831876392035200520491008 s (State.sessBoundary s n) := by
  unfold State.sessBoundary
  split
  · exact KeepsLaws.refl ..
  · with_reducible refine KeepsLaws.comp ?_ (State.applyDec_keeps ..) (KeepsLaws.subI rfl rfl)
    exact KeepsLaws.refl ..

theorem State.checkSpares_keeps (s : State) :
    Keeps 12 649195563641881982241499129647104 s (State.checkSpares s) := by
  unfold State.checkSpares
  extract_lets
  rename_i e0
  have h_e0 : Keeps 12 649195563641881982241499129647104 s e0 := by
    unfold e0
    with_reducible refine KeepsLaws.comp ?_ (State.showEngines_keeps ..) (KeepsLaws.subI rfl rfl)
    exact KeepsLaws.refl ..
  clear_value e0
  with_reducible refine KeepsLaws.ite ?_ ?_
  · with_reducible refine KeepsLaws.comp ?_ (State.event_keeps ..) (KeepsLaws.subI rfl rfl)
    assumption
  · assumption

theorem State.takeEngines_keeps (s : State) (c : ℕ) (bound : Bool) :
    Keeps 8192 5317652449546521806114377502881218560 s (State.takeEngines s c bound) := by
  unfold State.takeEngines
  extract_lets
  rename_i e0 e1 e2
  with_reducible refine KeepsLaws.ite ?_ ?_
  · exact KeepsLaws.refl ..
  · with_reducible refine KeepsLaws.comp ?_ (State.showOwners_keeps ..) (KeepsLaws.subI rfl rfl)
    with_reducible refine KeepsLaws.comp ?_ (KeepsLaws.upd_fab ..) (KeepsLaws.subI rfl rfl)
    exact KeepsLaws.refl ..

theorem State.moveJobs_keeps (s : State) (e : Engine) (k : ℕ) (l : List Job) :
    Keeps 8192 91270843216432516907762630787072 s (State.moveJobs s e k l) := by
  unfold State.moveJobs
  split
  · extract_lets
    rename_i e0
    with_reducible refine KeepsLaws.foldl (fun x a => ?_) ?_
    · with_reducible refine KeepsLaws.comp ?_ (State.toDram_keeps ..) (KeepsLaws.subI rfl rfl)
      exact KeepsLaws.refl ..
    · with_reducible refine KeepsLaws.comp ?_ (State.setPe_keeps ..) (KeepsLaws.subI rfl rfl)
      exact KeepsLaws.refl ..
  · extract_lets
    rename_i e1
    with_reducible refine KeepsLaws.foldl (fun x a => ?_) ?_
    · with_reducible refine KeepsLaws.comp ?_ (State.toDramEe_keeps ..) (KeepsLaws.subI rfl rfl)
      exact KeepsLaws.refl ..
    · with_reducible refine KeepsLaws.comp ?_ (State.setEe_keeps ..) (KeepsLaws.subI rfl rfl)
      exact KeepsLaws.refl ..

theorem State.stopOwner_keeps (s : State) (o : ℕ) :
    Keeps 24576 91270843216432516907762630787072 s (State.stopOwner s o) := by
  unfold State.stopOwner
  with_reducible refine KeepsLaws.ite ?_ ?_
  · exact KeepsLaws.refl ..
  · with_reducible refine KeepsLaws.comp ?_ (State.modSess_keeps ..) (KeepsLaws.subI rfl rfl)
    with_reducible refine KeepsLaws.comp ?_ (State.dropJobs_keeps ..) (KeepsLaws.subI rfl rfl)
    exact KeepsLaws.refl ..

theorem State.swapEngine_keeps (s : State) (e : Engine) (k : Option ℕ) :
    Keeps 24576 0 s (State.swapEngine s e k) := by
  unfold State.swapEngine
  extract_lets
  rename_i e0 e1 e2 e3 e4
  split
  · with_reducible refine KeepsLaws.comp ?_ (KeepsLaws.updMk (F := 24576) ?_) (KeepsLaws.subI rfl rfl)
    · exact KeepsLaws.refl ..
    · (intro f hf; cases f <;> first | exact absurd hf (by decide) | rfl)
  · with_reducible refine KeepsLaws.comp ?_ (KeepsLaws.updMk (F := 24576) ?_) (KeepsLaws.subI rfl rfl)
    · exact KeepsLaws.refl ..
    · (intro f hf; cases f <;> first | exact absurd hf (by decide) | rfl)

theorem State.setEngine_keeps (s : State) (e : Engine) (x : EngineSt) :
    Keeps 8192 91270843216432516907762630787072 s (State.setEngine s e x) := by
  unfold State.setEngine
  split
  · with_reducible refine KeepsLaws.comp ?_ (State.setPe_keeps ..) (KeepsLaws.subI rfl rfl)
    exact KeepsLaws.refl ..
  · with_reducible refine KeepsLaws.comp ?_ (State.setEe_keeps ..) (KeepsLaws.subI rfl rfl)
    exact KeepsLaws.refl ..

theorem State.failEngine_keeps (s : State) (e : Engine) (j : Job) :
    Keeps 74473740 46077677787479011400871809854749000067566345934511247008327518263237623604504651436032 s (State.failEngine s e j) := by
  unfold State.failEngine
  extract_lets
  rename_i e0 e1 e2 e3 e4 e5 e6
  have h_e4 : Keeps 74473740 46077677787479011400871809854749000067566345934511247008327518263237623604504651436032 s e4 := by
    unfold e4
    with_reducible refine KeepsLaws.comp ?_ (State.event_keeps ..) (KeepsLaws.subI rfl rfl)
    with_reducible refine KeepsLaws.comp ?_ (State.setEngine_keeps ..) (KeepsLaws.subI rfl rfl)
    exact KeepsLaws.refl ..
  clear_value e4
  have h_e5 : Keeps 74473740 46077677787479011400871809854749000067566345934511247008327518263237623604504651436032 s e5 := by
    unfold e5
    with_reducible refine KeepsLaws.comp ?_ (State.swapEngine_keeps ..) (KeepsLaws.subI rfl rfl)
    assumption
  clear_value e5
  have h_e6 : Keeps 74473740 46077677787479011400871809854749000067566345934511247008327518263237623604504651436032 s e6 := by
    unfold e6
    with_reducible refine KeepsLaws.foldl (fun x a => ?_) ?_
    · with_reducible refine KeepsLaws.comp ?_ (State.stopOwner_keeps ..) (KeepsLaws.subI rfl rfl)
      exact KeepsLaws.refl ..
    · assumption
  clear_value e6
  clear_value e1
  split
  · extract_lets
    rename_i e7
    have h_e7 : Keeps 74473740 46077677787479011400871809854749000067566345934511247008327518263237623604504651436032 s e7 := by
      unfold e7
      with_reducible refine KeepsLaws.comp ?_ (State.event_keeps ..) (KeepsLaws.subI rfl rfl)
      with_reducible refine KeepsLaws.comp ?_ (State.showOwners_keeps ..) (KeepsLaws.subI rfl rfl)
      with_reducible refine KeepsLaws.comp ?_ (State.moveJobs_keeps ..) (KeepsLaws.subI rfl rfl)
      assumption
    clear_value e7
    with_reducible refine KeepsLaws.comp ?_ (State.countJobs_keeps ..) (KeepsLaws.subI rfl rfl)
    with_reducible refine KeepsLaws.comp ?_ (State.checkSpares_keeps ..) (KeepsLaws.subI rfl rfl)
    with_reducible refine KeepsLaws.comp ?_ (State.fault_keeps ..) (KeepsLaws.subI rfl rfl)
    assumption
  · with_reducible refine KeepsLaws.comp ?_ (State.refill_keeps ..) (KeepsLaws.subI rfl rfl)
    with_reducible refine KeepsLaws.comp ?_ (State.fault_keeps ..) (KeepsLaws.subI rfl rfl)
    with_reducible refine KeepsLaws.comp ?_ (State.showOwners_keeps ..) (KeepsLaws.subI rfl rfl)
    assumption

theorem State.retryJob_keeps (s : State) (e : Engine) (j : Job) :
    Keeps 74457356 46077677787479011400871809854749000067566345934505929627472112840329658497670431969280 s (State.retryJob s e j) := by
  unfold State.retryJob
  extract_lets
  rename_i e0 e1 e2
  have h_e0 : Keeps 74457356 46077677787479011400871809854749000067566345934505929627472112840329658497670431969280 s e0 := by
    unfold e0
    with_reducible refine KeepsLaws.comp ?_ (State.setEngine_keeps ..) (KeepsLaws.subI rfl rfl)
    exact KeepsLaws.refl ..
  clear_value e0
  have h_e1 : Keeps 74457356 46077677787479011400871809854749000067566345934505929627472112840329658497670431969280 s e1 := by
    unfold e1
    split
    · with_reducible refine KeepsLaws.stepBumpSat ?_ (KeepsLaws.bitI rfl)
      assumption
    · with_reducible refine KeepsLaws.stepBumpSat ?_ (KeepsLaws.bitI rfl)
      assumption
  clear_value e1
  have h_e2 : Keeps 74457356 46077677787479011400871809854749000067566345934505929627472112840329658497670431969280 s e2 := by
    unfold e2
    with_reducible refine KeepsLaws.comp ?_ (State.eventPerSec_keeps ..) (KeepsLaws.subI rfl rfl)
    assumption
  clear_value e2
  with_reducible refine KeepsLaws.comp ?_ (State.fault_keeps ..) (KeepsLaws.subI rfl rfl)
  assumption

theorem execCfReserve_keeps (r : Req) (b : Body) (s : State) :
    KeepsO 28 654266166042794899847485944561664 s (execCfReserve r b s) := by
  unfold execCfReserve
  extract_lets
  rename_i e0
  with_reducible refine KeepsLaws.command (KeepsLaws.subI rfl rfl) (fun x => ?_)
  with_reducible refine KeepsLaws.doneA ?_
  with_reducible refine KeepsLaws.comp ?_ (State.showEngines_keeps ..) (KeepsLaws.subI rfl rfl)
  unfold e0
  with_reducible refine KeepsLaws.stepSetBits ?_ (KeepsLaws.bitI rfl)
  with_reducible refine KeepsLaws.stepSetBits ?_ (KeepsLaws.bitI rfl)
  exact KeepsLaws.refl ..

theorem execBufferWaitEnd_keeps (n : Fin 144) (s : State) :
    KeepsO 57344 42929938314679159853736976577462272 s (execBufferWaitEnd n s) := by
  unfold execBufferWaitEnd
  with_reducible refine KeepsLaws.iteO ?_ ?_
  · with_reducible refine KeepsLaws.next ?_
    with_reducible refine KeepsLaws.comp ?_ (State.tryStart_keeps ..) (KeepsLaws.subI rfl rfl)
    exact KeepsLaws.refl ..
  · with_reducible refine KeepsLaws.next ?_
    exact KeepsLaws.refl ..

theorem execCfAlloc_keeps (r : Req) (b : Body) (s : State) :
    KeepsO 28 2686976 s (execCfAlloc r b s) := by
  unfold execCfAlloc
  with_reducible refine KeepsLaws.command (KeepsLaws.subI rfl rfl) (fun x => ?_)
  with_reducible refine KeepsLaws.nowA ?_
  exact KeepsLaws.refl ..

theorem execJobResidueMismatch_keeps (e : Engine) (also : Option Engine) (s : State) :
    KeepsO 74473740 46077677787479011400871809854749000067566345934511247190869204696102657420029913010176 s (execJobResidueMismatch e also s) := by
  unfold execJobResidueMismatch
  extract_lets
  rename_i e0 e1 e2 e3
  have h_e2 : Keeps 74473740 46077677787479011400871809854749000067566345934511247190869204696102657420029913010176 s e2 := by
    unfold e2
    with_reducible refine KeepsLaws.foldl (fun x a => ?_) ?_
    · with_reducible refine KeepsLaws.comp ?_ (State.retryJob_keeps ..) (KeepsLaws.subI rfl rfl)
      exact KeepsLaws.refl ..
    · exact KeepsLaws.refl ..
  clear_value e2
  have h_e3 : Keeps 74473740 46077677787479011400871809854749000067566345934511247190869204696102657420029913010176 s e3 := by
    unfold e3
    with_reducible refine KeepsLaws.foldl (fun x a => ?_) ?_
    · with_reducible refine KeepsLaws.comp ?_ (State.setEngine_keeps ..) (KeepsLaws.subI rfl rfl)
      exact KeepsLaws.refl ..
    · assumption
  clear_value e3
  with_reducible refine KeepsLaws.next ?_
  with_reducible refine KeepsLaws.foldl (fun x a => ?_) ?_
  · with_reducible refine KeepsLaws.comp ?_ (State.failEngine_keeps ..) (KeepsLaws.subI rfl rfl)
    exact KeepsLaws.refl ..
  · assumption

end Sys2Proof.Machine
end

