-- ==== Sys2Proof/Laws/FrameIngest.lean ====
section
/-! SUPPORT. What each operation of Machine/Ingest.lean can change at most (Keeps): masks of fields and of registers. -/

namespace Sys2Proof.Machine

theorem State.showLos_keeps (s : State) (c : ℕ) :
    Keeps 32768 0 s (State.showLos s c) := by
  unfold State.showLos
  extract_lets
  rename_i e0
  with_reducible refine KeepsLaws.ite ?_ ?_
  · with_reducible refine KeepsLaws.comp ?_ (State.modPool_keeps ..) (KeepsLaws.subI rfl rfl)
    exact KeepsLaws.refl ..
  · with_reducible refine KeepsLaws.ite ?_ ?_
    · with_reducible refine KeepsLaws.comp ?_ (State.showSessLos_keeps ..) (KeepsLaws.subI rfl rfl)
      exact KeepsLaws.refl ..
    · exact KeepsLaws.refl ..

theorem State.setIctx_keeps (s : State) (c : ℕ) (x : IngCtx) :
    Keeps 1024 590295810358705651712 s (State.setIctx s c x) := by
  unfold State.setIctx
  extract_lets
  rename_i e0 e1 e2 e3 e4
  have h_e1 : Keeps 1024 590295810358705651712 s e1 := by
    unfold e1
    with_reducible refine KeepsLaws.comp ?_ (KeepsLaws.upd_ing ..) (KeepsLaws.subI rfl rfl)
    exact KeepsLaws.refl ..
  clear_value e1
  with_reducible refine KeepsLaws.stepReg ?_ (KeepsLaws.bitI rfl)
  assumption

theorem State.modIctx_keeps (s : State) (c : ℕ) (f : IngCtx → IngCtx) :
    Keeps 1024 590295810358705651712 s (State.modIctx s c f) := by
  unfold State.modIctx
  with_reducible refine KeepsLaws.comp ?_ (State.setIctx_keeps ..) (KeepsLaws.subI rfl rfl)
  exact KeepsLaws.refl ..

theorem State.applyBinding_keeps (s : State) (c : ℕ) (b : Body) (quiet : Bool) :
    Keeps 33653824 590295810358705651712 s (State.applyBinding s c b quiet) := by
  unfold State.applyBinding
  extract_lets
  rename_i e0 e1 e2 e3 e4
  have h_e1 : Keeps 33653824 590295810358705651712 s e1 := by
    unfold e1
    with_reducible refine KeepsLaws.ite ?_ ?_
    · exact KeepsLaws.refl ..
    · with_reducible refine KeepsLaws.comp ?_ (State.storeTaken_keeps ..) (KeepsLaws.subI rfl rfl)
      exact KeepsLaws.refl ..
  clear_value e1
  have h_e3 : Keeps 33653824 590295810358705651712 s e3 := by
    unfold e3
    with_reducible refine KeepsLaws.ite ?_ ?_
    · with_reducible refine KeepsLaws.comp ?_ (State.adoptPool_keeps ..) (KeepsLaws.subI rfl rfl)
      assumption
    · with_reducible refine KeepsLaws.ite ?_ ?_
      · with_reducible refine KeepsLaws.comp ?_ (State.freePool_keeps ..) (KeepsLaws.subI rfl rfl)
        assumption
      · assumption
  clear_value e3
  have h_e4 : Keeps 33653824 590295810358705651712 s e4 := by
    unfold e4
    with_reducible refine KeepsLaws.ite ?_ ?_
    · with_reducible refine KeepsLaws.comp ?_ (State.setIctx_keeps ..) (KeepsLaws.subI rfl rfl)
      with_reducible refine KeepsLaws.ite ?_ ?_
      · with_reducible refine KeepsLaws.comp ?_ (State.freePool_keeps ..) (KeepsLaws.subI rfl rfl)
        assumption
      · assumption
    · with_reducible refine KeepsLaws.comp ?_ (State.showLos_keeps ..) (KeepsLaws.subI rfl rfl)
      with_reducible refine KeepsLaws.comp ?_ (State.modIctx_keeps ..) (KeepsLaws.subI rfl rfl)
      assumption
  clear_value e4
  with_reducible refine KeepsLaws.ite ?_ ?_
  · with_reducible refine KeepsLaws.comp ?_ (State.showSessLos_keeps ..) (KeepsLaws.subI rfl rfl)
    assumption
  · assumption

theorem State.setMgrp_keeps (s : State) (g : ℕ) (m : MergeGroup) :
    Keeps 1024 295147905179352825856 s (State.setMgrp s g m) := by
  unfold State.setMgrp
  extract_lets
  rename_i e0 e1
  have h_e1 : Keeps 1024 295147905179352825856 s e1 := by
    unfold e1
    with_reducible refine KeepsLaws.comp ?_ (KeepsLaws.upd_ing ..) (KeepsLaws.subI rfl rfl)
    exact KeepsLaws.refl ..
  clear_value e1
  with_reducible refine KeepsLaws.stepReg ?_ (KeepsLaws.bitI rfl)
  assumption

theorem State.openFrame_keeps (s : State) (mac : ℕ) (c : ℕ) (seq : ℕ) (r : Rtp) (second : Bool) :
    Keeps 34060 5607810198407704285184 s (State.openFrame s mac c seq r second) := by
  unfold State.openFrame
  extract_lets
  rename_i e0 e1 e2 e3 e4
  have h_e2 : Keeps 34060 5607810198407704285184 s e2 := by
    unfold e2
    with_reducible refine KeepsLaws.ite ?_ ?_
    · with_reducible refine KeepsLaws.comp ?_ (State.setMgrp_keeps ..) (KeepsLaws.subI rfl rfl)
      exact KeepsLaws.refl ..
    · exact KeepsLaws.refl ..
  clear_value e2
  split
  extract_lets
  rename_i e5
  with_reducible refine KeepsLaws.comp ?_ (State.modIctx_keeps ..) (KeepsLaws.subI rfl rfl)
  with_reducible refine KeepsLaws.ofSnd (by assumption) ?_
  with_reducible refine KeepsLaws.iteP ?_ ?_
  · unfold Sys2Proof.Machine.State.takeForCtx
    split
    · dsimp only
      with_reducible refine KeepsLaws.comp ?_ (State.setPool_keeps ..) (KeepsLaws.subI rfl rfl)
      assumption
    · extract_lets
      rename_i e6
      have h_e6 : Keeps 34060 5607810198407704285184 s e6 := by
        unfold e6
        with_reducible refine KeepsLaws.stepAddSatBits ?_ (KeepsLaws.bitI rfl)
        assumption
      clear_value e6
      dsimp only
      with_reducible refine KeepsLaws.comp ?_ (State.eventPerSec_keeps ..) (KeepsLaws.subI rfl rfl)
      assumption
  · dsimp only
    assumption

theorem State.dropFrames_keeps (s : State) (c : ℕ) :
    Keeps 33653760 590295810358705651712 s (State.dropFrames s c) := by
  unfold State.dropFrames
  extract_lets
  rename_i e0 e1
  have h_e1 : Keeps 33653760 590295810358705651712 s e1 := by
    unfold e1
    with_reducible refine KeepsLaws.foldl (fun x a => ?_) ?_
    · split
      · with_reducible refine KeepsLaws.comp ?_ (State.collect_keeps ..) (KeepsLaws.subI rfl rfl)
        with_reducible refine KeepsLaws.comp ?_ (State.modPool_keeps ..) (KeepsLaws.subI rfl rfl)
        exact KeepsLaws.refl ..
      · exact KeepsLaws.refl ..
    · exact KeepsLaws.refl ..
  clear_value e1
  with_reducible refine KeepsLaws.comp ?_ (State.modIctx_keeps ..) (KeepsLaws.subI rfl rfl)
  assumption

theorem State.ctxBoundary_keeps (s : State) (c : ℕ) :
    Keeps 33653824 590295810358705651712 s (State.ctxBoundary s c) := by
  unfold State.ctxBoundary
  split
  · exact KeepsLaws.refl ..
  · extract_lets
    rename_i e0
    have h_e0 : Keeps 33653824 590295810358705651712 s e0 := by
      unfold e0
      with_reducible refine KeepsLaws.ite ?_ ?_
      · with_reducible refine KeepsLaws.comp ?_ (State.dropFrames_keeps ..) (KeepsLaws.subI rfl rfl)
        exact KeepsLaws.refl ..
      · exact KeepsLaws.refl ..
    clear_value e0
    with_reducible refine KeepsLaws.comp ?_ (State.applyBinding_keeps ..) (KeepsLaws.subI rfl rfl)
    with_reducible refine KeepsLaws.comp ?_ (State.modIctx_keeps ..) (KeepsLaws.subI rfl rfl)
    assumption

theorem State.noteSize_keeps (s : State) (c : ℕ) (big : Bool) (w : ℕ) (h : ℕ) :
    Keeps 1292 590295810358706245632 s (State.noteSize s c big w h) := by
  unfold State.noteSize
  extract_lets
  rename_i e0
  with_reducible refine KeepsLaws.ite ?_ ?_
  · exact KeepsLaws.refl ..
  · with_reducible refine KeepsLaws.comp ?_ (State.eventLimited_keeps ..) (KeepsLaws.subI rfl rfl)
    with_reducible refine KeepsLaws.comp ?_ (State.setIctx_keeps ..) (KeepsLaws.subI rfl rfl)
    exact KeepsLaws.refl ..

theorem State.releaseIngest_keeps (s : State) (c : ℕ) (f : OpenFrame) (time : ℕ) (basis : ℕ) (flags : ℕ) (master : ℕ) :
    Keeps 34178316 5449834782718155087760046102529998131200 s (State.releaseIngest s c f time basis flags master) := by
  unfold State.releaseIngest
  extract_lets
  rename_i e0 e1
  split
  extract_lets
  rename_i e2 e3 e4
  have h_e3 : Keeps 34178316 5449834782718155087760046102529998131200 s e3 := by
    unfold e3
    with_reducible refine KeepsLaws.comp ?_ (State.noteSize_keeps ..) (KeepsLaws.subI rfl rfl)
    exact KeepsLaws.refl ..
  clear_value e3
  split
  · assumption
  · with_reducible refine KeepsLaws.ite ?_ ?_
    · with_reducible refine KeepsLaws.stepAddSatBits ?_ (KeepsLaws.bitI rfl)
      with_reducible refine KeepsLaws.comp ?_ (State.collect_keeps ..) (KeepsLaws.subI rfl rfl)
      with_reducible refine KeepsLaws.comp ?_ (State.modPool_keeps ..) (KeepsLaws.subI rfl rfl)
      assumption
    · extract_lets
      rename_i e5 e6
      have h_e6 : Keeps 34178316 5449834782718155087760046102529998131200 s e6 := by
        unfold e6
        with_reducible refine KeepsLaws.stepBumpWrap ?_ (KeepsLaws.bitI rfl)
        with_reducible refine KeepsLaws.comp ?_ (State.headerDone_keeps ..) (KeepsLaws.subI rfl rfl)
        with_reducible refine KeepsLaws.comp ?_ (State.collect_keeps ..) (KeepsLaws.subI rfl rfl)
        with_reducible refine KeepsLaws.comp ?_ (State.modPool_keeps ..) (KeepsLaws.subI rfl rfl)
        assumption
      clear_value e6
      with_reducible refine KeepsLaws.ite ?_ ?_
      · with_reducible refine KeepsLaws.stepBumpSat ?_ (KeepsLaws.bitI rfl)
        assumption
      · assumption

theorem State.passUnit_keeps (s : State) (c : ℕ) (f : OpenFrame) (lost : ℕ) (time : ℕ) (basis : ℕ) (flags : ℕ) :
    Keeps 33677644 248674701334121704634257893623402496 s (State.passUnit s c f lost time basis flags) := by
  unfold State.passUnit
  extract_lets
  rename_i e0 e1 e2 e3
  split
  · exact KeepsLaws.refl ..
  · extract_lets
    rename_i e4
    with_reducible refine KeepsLaws.comp ?_ (State.auAccept_keeps ..) (KeepsLaws.subI rfl rfl)
    with_reducible refine KeepsLaws.comp ?_ (State.sessBoundary_keeps ..) (KeepsLaws.subI rfl rfl)
    exact KeepsLaws.refl ..

theorem State.closeFrame_keeps (s : State) (c : ℕ) (k : ℕ) (opening : Option ℕ) :
    Keeps 34202956 5450083457419489219204561231342264193024 s (State.closeFrame s c k opening) := by
  unfold State.closeFrame
  extract_lets
  rename_i e0
  split
  · exact KeepsLaws.refl ..
  · extract_lets
    rename_i e1 e2 e3 e4 e5 e6 e7 e8
    have h_e5 : Keeps 34202956 5450083457419489219204561231342264193024 s e5 := by
      unfold e5
      with_reducible refine KeepsLaws.comp ?_ (State.setIctx_keeps ..) (KeepsLaws.subI rfl rfl)
      exact KeepsLaws.refl ..
    clear_value e5
    have h_e6 : Keeps 34202956 5450083457419489219204561231342264193024 s e6 := by
      unfold e6
      with_reducible refine KeepsLaws.ite ?_ ?_
      · assumption
      · with_reducible refine KeepsLaws.stepAddSat ?_ (KeepsLaws.bitI rfl)
        assumption
    clear_value e6
    have h_e8 : Keeps 34202956 5450083457419489219204561231342264193024 s e8 := by
      unfold e8
      with_reducible refine KeepsLaws.ite ?_ ?_
      · with_reducible refine KeepsLaws.comp ?_ (State.setMgrp_keeps ..) (KeepsLaws.subI rfl rfl)
        assumption
      · assumption
    clear_value e8
    split
    with_reducible refine KeepsLaws.ite ?_ ?_
    · with_reducible refine KeepsLaws.comp ?_ (State.releaseIngest_keeps ..) (KeepsLaws.subI rfl rfl)
      assumption
    · with_reducible refine KeepsLaws.ite ?_ ?_
      · with_reducible refine KeepsLaws.comp ?_ (State.passUnit_keeps ..) (KeepsLaws.subI rfl rfl)
        assumption
      · assumption

theorem State.closeDue_keeps (s : State) (c : ℕ) (o : Option ℕ) (n : ℕ) :
    Keeps 34202956 5450083457419489219204561231342264193024 s (State.closeDue s c o n) := by
  induction n generalizing s with
  | zero => exact KeepsLaws.refl ..
  | succ n ih =>
    unfold State.closeDue
    dsimp only
    split
    · exact KeepsLaws.refl ..
    · refine KeepsLaws.trans ?_ (ih ..)
      refine KeepsLaws.ite (KeepsLaws.comp ?_ (State.ctxBoundary_keeps ..) (KeepsLaws.subI rfl rfl)) ?_ <;>
        exact KeepsLaws.ite (KeepsLaws.refl ..) (KeepsLaws.comp (KeepsLaws.refl ..) (State.closeFrame_keeps ..) (KeepsLaws.subI rfl rfl))

theorem State.closeAll_keeps (s : State) (c : ℕ) (opening : Option ℕ) :
    Keeps 34202956 5450083457419489219204561231342264193024 s (State.closeAll s c opening) := by
  unfold State.closeAll
  with_reducible refine KeepsLaws.comp ?_ (State.closeDue_keeps ..) (KeepsLaws.subI rfl rfl)
  exact KeepsLaws.refl ..

theorem State.latePacket_keeps (s : State) (c : ℕ) :
    Keeps 0 9592306918328966840320 s (State.latePacket s c) := by
  unfold State.latePacket
  extract_lets
  rename_i e0
  with_reducible refine KeepsLaws.ite ?_ ?_
  · with_reducible refine KeepsLaws.stepBumpSat ?_ (KeepsLaws.bitI rfl)
    exact KeepsLaws.refl ..
  · with_reducible refine KeepsLaws.stepBumpSat ?_ (KeepsLaws.bitI rfl)
    exact KeepsLaws.refl ..

theorem State.putPacket_keeps (s : State) (c : ℕ) (k : ℕ) (seq : ℕ) (leg : ℕ) (r : Rtp) (e : EthFrame) :
    Keeps 34202956 5450083457419489219352135183931940605952 s (State.putPacket s c k seq leg r e) := by
  unfold State.putPacket
  extract_lets
  rename_i e0
  split
  · exact KeepsLaws.refl ..
  · extract_lets
    rename_i e1
    split
    extract_lets
    rename_i e2 e3 e4
    have h_e4 : Keeps 34202956 5450083457419489219352135183931940605952 s e4 := by
      unfold e4
      with_reducible refine KeepsLaws.comp ?_ (State.setIctx_keeps ..) (KeepsLaws.subI rfl rfl)
      exact KeepsLaws.refl ..
    clear_value e4
    with_reducible refine KeepsLaws.ite ?_ ?_
    · with_reducible refine KeepsLaws.comp ?_ (State.latePacket_keeps ..) (KeepsLaws.subI rfl rfl)
      assumption
    · with_reducible refine KeepsLaws.comp ?_ (State.closeAll_keeps ..) (KeepsLaws.subI rfl rfl)
      assumption

theorem State.assemblePacket_keeps (s : State) (mac : ℕ) (c : ℕ) (seq : ℕ) (leg : ℕ) (r : Rtp) (e : EthFrame) :
    Keeps 34202956 5450083457419489219356746869950367993856 s (State.assemblePacket s mac c seq leg r e) := by
  unfold State.assemblePacket
  extract_lets
  rename_i e0 e1 e2 e3
  have h_e1 : Keeps 34202956 5450083457419489219356746869950367993856 s e1 := by
    unfold e1
    with_reducible refine KeepsLaws.comp ?_ (State.setIctx_keeps ..) (KeepsLaws.subI rfl rfl)
    exact KeepsLaws.refl ..
  clear_value e1
  have h_e2 : Keeps 34202956 5450083457419489219356746869950367993856 s e2 := by
    unfold e2
    with_reducible refine KeepsLaws.comp ?_ (State.ctxBoundary_keeps ..) (KeepsLaws.subI rfl rfl)
    with_reducible refine KeepsLaws.ite ?_ ?_
    · assumption
    · with_reducible refine KeepsLaws.comp ?_ (State.closeAll_keeps ..) (KeepsLaws.subI rfl rfl)
      assumption
  clear_value e2
  split
  · with_reducible refine KeepsLaws.comp ?_ (State.putPacket_keeps ..) (KeepsLaws.subI rfl rfl)
    exact KeepsLaws.refl ..
  · with_reducible refine KeepsLaws.ite ?_ ?_
    · with_reducible refine KeepsLaws.comp ?_ (State.latePacket_keeps ..) (KeepsLaws.subI rfl rfl)
      exact KeepsLaws.refl ..
    · with_reducible refine KeepsLaws.ite ?_ ?_
      · with_reducible refine KeepsLaws.stepBumpSat ?_ (KeepsLaws.bitI rfl)
        assumption
      · with_reducible refine KeepsLaws.comp ?_ (State.putPacket_keeps ..) (KeepsLaws.subI rfl rfl)
        with_reducible refine KeepsLaws.comp ?_ (State.openFrame_keeps ..) (KeepsLaws.subI rfl rfl)
        assumption

theorem State.setIring_keeps (s : State) (r : ℕ) (x : HostRing) :
    Keeps 1024 0 s (State.setIring s r x) := by
  unfold State.setIring
  with_reducible refine KeepsLaws.ite ?_ ?_
  · with_reducible refine KeepsLaws.comp ?_ (KeepsLaws.upd_ing ..) (KeepsLaws.subI rfl rfl)
    exact KeepsLaws.refl ..
  · with_reducible refine KeepsLaws.comp ?_ (KeepsLaws.upd_ing ..) (KeepsLaws.subI rfl rfl)
    exact KeepsLaws.refl ..

theorem State.ringSkip_keeps (s : State) (r : ℕ) :
    Keeps 1024 0 s (State.ringSkip s r) := by
  unfold State.ringSkip
  with_reducible refine KeepsLaws.ite ?_ ?_
  · exact KeepsLaws.refl ..
  · with_reducible refine KeepsLaws.comp ?_ (State.setIring_keeps ..) (KeepsLaws.subI rfl rfl)
    exact KeepsLaws.refl ..

theorem State.ringRecord_keeps (s : State) (r : ℕ) (t : ℕ) (mac : ℕ) (reason : ℕ) (len : ℕ) (ctx : ℕ) (dat : List Byte) :
    Keeps 1036 396316767209197568 s (State.ringRecord s r t mac reason len ctx dat) := by
  unfold State.ringRecord
  extract_lets
  rename_i e0 e1 e2 e3 e4
  have h_e4 : Keeps 1036 396316767209197568 s e4 := by
    unfold e4
    with_reducible refine KeepsLaws.comp ?_ (State.setIring_keeps ..) (KeepsLaws.subI rfl rfl)
    with_reducible refine KeepsLaws.stepSetBits ?_ (KeepsLaws.bitI rfl)
    with_reducible refine KeepsLaws.comp ?_ (KeepsLaws.emit ..) (KeepsLaws.subI rfl rfl)
    exact KeepsLaws.refl ..
  clear_value e4
  with_reducible refine KeepsLaws.ite ?_ ?_
  · exact KeepsLaws.refl ..
  · with_reducible refine KeepsLaws.ite ?_ ?_
    · with_reducible refine KeepsLaws.comp ?_ (State.event_keeps ..) (KeepsLaws.subI rfl rfl)
      with_reducible refine KeepsLaws.stepBumpSat ?_ (KeepsLaws.bitI rfl)
      exact KeepsLaws.refl ..
    · with_reducible refine KeepsLaws.ite ?_ ?_
      · with_reducible refine KeepsLaws.stepBumpSat ?_ (KeepsLaws.bitI rfl)
        assumption
      · assumption

theorem State.ringFrame_keeps (s : State) (r : ℕ) (t : ℕ) (mac : ℕ) (reason : ℕ) (len : ℕ) (ctx : ℕ) (dat : List (List Byte)) :
    Keeps 1036 396316767209197568 s (State.ringFrame s r t mac reason len ctx dat) := by
  unfold State.ringFrame
  extract_lets
  rename_i e0
  have h_e0 : Keeps 1036 396316767209197568 s e0 := by
    unfold e0
    with_reducible refine KeepsLaws.foldl (fun x a => ?_) ?_
    · with_reducible refine KeepsLaws.comp ?_ (State.ringRecord_keeps ..) (KeepsLaws.subI rfl rfl)
      exact KeepsLaws.refl ..
    · exact KeepsLaws.refl ..
  clear_value e0
  with_reducible refine KeepsLaws.ite ?_ ?_
  · assumption
  · with_reducible refine KeepsLaws.comp ?_ (State.ringSkip_keeps ..) (KeepsLaws.subI rfl rfl)
    assumption

theorem State.sampleFrame_keeps (s : State) (mac : ℕ) (reason : ℕ) (f : EthFrame) :
    Keeps 1036 396316767209197568 s (State.sampleFrame s mac reason f) := by
  unfold State.sampleFrame
  extract_lets
  rename_i e0 e1 e2 e3
  have h_e2 : Keeps 1036 396316767209197568 s e2 := by
    unfold e2
    with_reducible refine KeepsLaws.comp ?_ (KeepsLaws.upd_ing ..) (KeepsLaws.subI rfl rfl)
    exact KeepsLaws.refl ..
  clear_value e2
  with_reducible refine KeepsLaws.ite ?_ ?_
  · with_reducible refine KeepsLaws.comp ?_ (State.ringSkip_keeps ..) (KeepsLaws.subI rfl rfl)
    assumption
  · with_reducible refine KeepsLaws.comp ?_ (State.ringFrame_keeps ..) (KeepsLaws.subI rfl rfl)
    with_reducible refine KeepsLaws.comp ?_ (KeepsLaws.upd_ing ..) (KeepsLaws.subI rfl rfl)
    assumption

theorem State.setLos_keeps (s : State) (c : ℕ) (lost : Bool) (t : ℕ) :
    Keeps 34060 590295810358706245632 s (State.setLos s c lost t) := by
  unfold State.setLos
  extract_lets
  rename_i e0
  with_reducible refine KeepsLaws.ite ?_ ?_
  · exact KeepsLaws.refl ..
  · with_reducible refine KeepsLaws.comp ?_ (State.eventLimited_keeps ..) (KeepsLaws.subI rfl rfl)
    with_reducible refine KeepsLaws.comp ?_ (State.showLos_keeps ..) (KeepsLaws.subI rfl rfl)
    with_reducible refine KeepsLaws.comp ?_ (State.setIctx_keeps ..) (KeepsLaws.subI rfl rfl)
    exact KeepsLaws.refl ..

theorem State.rateDrop_keeps (s : State) (c : ℕ) :
    Keeps 1292 19479761741837287100416 s (State.rateDrop s c) := by
  unfold State.rateDrop
  extract_lets
  rename_i e0
  with_reducible refine KeepsLaws.comp ?_ (State.eventPerSec_keeps ..) (KeepsLaws.subI rfl rfl)
  with_reducible refine KeepsLaws.stepBumpSat ?_ (KeepsLaws.bitI rfl)
  with_reducible refine KeepsLaws.comp ?_ (State.modIctx_keeps ..) (KeepsLaws.subI rfl rfl)
  exact KeepsLaws.refl ..

theorem State.deliver_keeps (s : State) (mac : ℕ) (c : ℕ) (seq : ℕ) (leg : ℕ) (r : Rtp) (e : EthFrame) :
    Keeps 101311820 210624583337114373395836060817424322057279429047707340704779407360 s (State.deliver s mac c seq leg r e) := by
  unfold State.deliver
  extract_lets
  rename_i e0 e1 e2 e3 e4
  have h_e1 : Keeps 101311820 210624583337114373395836060817424322057279429047707340704779407360 s e1 := by
    unfold e1
    with_reducible refine KeepsLaws.comp ?_ (State.modIctx_keeps ..) (KeepsLaws.subI rfl rfl)
    exact KeepsLaws.refl ..
  clear_value e1
  have h_e3 : Keeps 101311820 210624583337114373395836060817424322057279429047707340704779407360 s e3 := by
    unfold e3
    with_reducible refine KeepsLaws.comp ?_ (State.modIctx_keeps ..) (KeepsLaws.subI rfl rfl)
    assumption
  clear_value e3
  have h_e4 : Keeps 101311820 210624583337114373395836060817424322057279429047707340704779407360 s e4 := by
    unfold e4
    with_reducible refine KeepsLaws.comp ?_ (State.setLos_keeps ..) (KeepsLaws.subI rfl rfl)
    assumption
  clear_value e4
  with_reducible refine KeepsLaws.ite ?_ ?_
  · with_reducible refine KeepsLaws.comp ?_ (State.rateDrop_keeps ..) (KeepsLaws.subI rfl rfl)
    assumption
  · with_reducible refine KeepsLaws.ite ?_ ?_
    · with_reducible refine KeepsLaws.comp ?_ (State.audioPacket_keeps ..) (KeepsLaws.subI rfl rfl)
      assumption
    · with_reducible refine KeepsLaws.ite ?_ ?_
      · with_reducible refine KeepsLaws.comp ?_ (State.ringFrame_keeps ..) (KeepsLaws.subI rfl rfl)
        assumption
      · with_reducible refine KeepsLaws.comp ?_ (State.assemblePacket_keeps ..) (KeepsLaws.subI rfl rfl)
        assumption

theorem State.mergePacket_keeps (s : State) (mac : ℕ) (c : ℕ) (g : ℕ) (leg : ℕ) (r : Rtp) (e : EthFrame) :
    Keeps 101311820 210624583337114373395836060817424322057279429121494316999617613824 s (State.mergePacket s mac c g leg r e) := by
  unfold State.mergePacket
  extract_lets
  rename_i e0 e1 e2 e3 e4 e5 e6 e7
  have h_e3 : Keeps 101311820 210624583337114373395836060817424322057279429121494316999617613824 s e3 := by
    unfold e3
    with_reducible refine KeepsLaws.comp ?_ (State.setMgrp_keeps ..) (KeepsLaws.subI rfl rfl)
    exact KeepsLaws.refl ..
  clear_value e3
  have h_e4 : Keeps 101311820 210624583337114373395836060817424322057279429121494316999617613824 s e4 := by
    unfold e4
    with_reducible refine KeepsLaws.ite ?_ ?_
    · assumption
    · with_reducible refine KeepsLaws.comp ?_ (State.eventLimited_keeps ..) (KeepsLaws.subI rfl rfl)
      assumption
  clear_value e4
  have h_e7 : Keeps 101311820 210624583337114373395836060817424322057279429121494316999617613824 s e7 := by
    unfold e7
    with_reducible refine KeepsLaws.comp ?_ (State.setMgrp_keeps ..) (KeepsLaws.subI rfl rfl)
    assumption
  clear_value e7
  with_reducible refine KeepsLaws.ite ?_ ?_
  · with_reducible refine KeepsLaws.stepBumpWrap ?_ (KeepsLaws.bitI rfl)
    assumption
  · with_reducible refine KeepsLaws.ite ?_ ?_
    · with_reducible refine KeepsLaws.comp ?_ (State.latePacket_keeps ..) (KeepsLaws.subI rfl rfl)
      assumption
    · with_reducible refine KeepsLaws.comp ?_ (State.deliver_keeps ..) (KeepsLaws.subI rfl rfl)
      assumption

theorem State.spoilPacket_keeps (s : State) (c : ℕ) (seq : ℕ) :
    Keeps 1024 10035028776097996079104 s (State.spoilPacket s c seq) := by
  unfold State.spoilPacket
  with_reducible refine KeepsLaws.stepBumpSat ?_ (KeepsLaws.bitI rfl)
  with_reducible refine KeepsLaws.comp ?_ (State.modIctx_keeps ..) (KeepsLaws.subI rfl rfl)
  exact KeepsLaws.refl ..

theorem State.lodeHit_keeps (s : State) (i : ℕ) (e : LodeEntry) :
    Keeps 2048 17087896287367280659160173649356416916821636178853222159576332862577757806245124400183696695492608 s (State.lodeHit s i e) := by
  unfold State.lodeHit
  with_reducible refine KeepsLaws.stepBumpWrap ?_ (KeepsLaws.bitI rfl)
  with_reducible refine KeepsLaws.comp ?_ (KeepsLaws.upd_lode ..) (KeepsLaws.subI rfl rfl)
  exact KeepsLaws.refl ..

theorem State.classify_keeps (s : State) (mac : ℕ) (f : EthFrame) :
    Keeps 101313868 17087896287367280659160173649356627541404973293226617995637150286899815085674273564616806877433856 s (State.classify s mac f) := by
  unfold State.classify
  extract_lets
  rename_i e0
  with_reducible refine KeepsLaws.ite ?_ ?_
  · with_reducible refine KeepsLaws.comp ?_ (State.sampleFrame_keeps ..) (KeepsLaws.subI rfl rfl)
    unfold e0
    with_reducible refine KeepsLaws.stepBumpSat ?_ (KeepsLaws.bitI rfl)
    exact KeepsLaws.refl ..
  · split
    · with_reducible refine KeepsLaws.comp ?_ (State.eventPerSec_keeps ..) (KeepsLaws.subI rfl rfl)
      with_reducible refine KeepsLaws.comp ?_ (State.sampleFrame_keeps ..) (KeepsLaws.subI rfl rfl)
      unfold e0
      with_reducible refine KeepsLaws.stepBumpSat ?_ (KeepsLaws.bitI rfl)
      exact KeepsLaws.refl ..
    · extract_lets
      rename_i e1 e2 e3 e4
      have h_e1 : Keeps 101313868 17087896287367280659160173649356627541404973293226617995637150286899815085674273564616806877433856 s e1 := by
        unfold e1
        with_reducible refine KeepsLaws.comp ?_ (State.lodeHit_keeps ..) (KeepsLaws.subI rfl rfl)
        exact KeepsLaws.refl ..
      clear_value e1
      with_reducible refine KeepsLaws.ite ?_ ?_
      · with_reducible refine KeepsLaws.stepBumpSat ?_ (KeepsLaws.bitI rfl)
        assumption
      · with_reducible refine KeepsLaws.ite ?_ ?_
        · unfold e0
          with_reducible refine KeepsLaws.stepBumpSat ?_ (KeepsLaws.bitI rfl)
          assumption
        · split
          · with_reducible refine KeepsLaws.stepBumpSat ?_ (KeepsLaws.bitI rfl)
            assumption
          · with_reducible refine KeepsLaws.ite ?_ ?_
            · with_reducible refine KeepsLaws.stepBumpSat ?_ (KeepsLaws.bitI rfl)
              assumption
            · with_reducible refine KeepsLaws.ite ?_ ?_
              · with_reducible refine KeepsLaws.comp ?_ (State.spoilPacket_keeps ..) (KeepsLaws.subI rfl rfl)
                assumption
              · with_reducible refine KeepsLaws.ite ?_ ?_
                · with_reducible refine KeepsLaws.comp ?_ (State.mergePacket_keeps ..) (KeepsLaws.subI rfl rfl)
                  assumption
                · with_reducible refine KeepsLaws.comp ?_ (State.deliver_keeps ..) (KeepsLaws.subI rfl rfl)
                  assumption

theorem State.closeSdi_keeps (s : State) (c : ℕ) (f : OpenFrame) :
    Keeps 34178380 5449834782718155087760046102529998131200 s (State.closeSdi s c f) := by
  unfold State.closeSdi
  with_reducible refine KeepsLaws.comp ?_ (State.ctxBoundary_keeps ..) (KeepsLaws.subI rfl rfl)
  with_reducible refine KeepsLaws.comp ?_ (State.releaseIngest_keeps ..) (KeepsLaws.subI rfl rfl)
  with_reducible refine KeepsLaws.comp ?_ (State.modIctx_keeps ..) (KeepsLaws.subI rfl rfl)
  exact KeepsLaws.refl ..

theorem State.writeRingIng_keeps (s : State) (p : Port) (ring : ℕ) (v : Word) :
    Keeps 1024 576460752307617792 s (State.writeRingIng s p ring v) := by
  unfold State.writeRingIng
  extract_lets
  rename_i e0
  with_reducible refine KeepsLaws.ite ?_ ?_
  · with_reducible refine KeepsLaws.stepReg ?_ (KeepsLaws.bitI rfl)
    with_reducible refine KeepsLaws.comp ?_ (State.setIring_keeps ..) (KeepsLaws.subI rfl rfl)
    exact KeepsLaws.refl ..
  · with_reducible refine KeepsLaws.stepBumpSat ?_ (KeepsLaws.bitI rfl)
    exact KeepsLaws.refl ..

theorem State.showGroup_keeps (s : State) (c : ℕ) :
    Keeps 1024 590295810358705651712 s (State.showGroup s c) := by
  unfold State.showGroup
  extract_lets
  rename_i e0
  with_reducible refine KeepsLaws.ite ?_ ?_
  · exact KeepsLaws.refl ..
  · with_reducible refine KeepsLaws.comp ?_ (State.modIctx_keeps ..) (KeepsLaws.subI rfl rfl)
    exact KeepsLaws.refl ..

theorem State.lodeRecord_keeps (s : State) (rec0 : Body) :
    KeepsE 3072 16019902769406825617962662796271640859520283917674895774602812058666647943355394420982574357676032 s (State.lodeRecord s rec0) := by
  unfold State.lodeRecord
  extract_lets
  rename_i e0 e1 e2 e3 e4 e5 e6
  with_reducible refine KeepsLaws.iteE ?_ ?_
  · with_reducible refine KeepsLaws.errorE ?_
    unfold Prod.snd
    dsimp only
    exact KeepsLaws.refl ..
  · clear_value e0
    clear_value e3
    split
    · with_reducible refine KeepsLaws.errorE ?_
      unfold Prod.snd
      dsimp only
      exact KeepsLaws.refl ..
    · split
      with_reducible refine KeepsLaws.iteE ?_ ?_
      · with_reducible refine KeepsLaws.errorE ?_
        unfold Prod.snd
        dsimp only
        with_reducible refine KeepsLaws.stepBumpSat ?_ (KeepsLaws.bitI rfl)
        with_reducible refine KeepsLaws.ofSnd (by assumption) ?_
        with_reducible refine KeepsLaws.comp ?_ (KeepsLaws.drawn ..) (KeepsLaws.subI rfl rfl)
        exact KeepsLaws.refl ..
      · split
        with_reducible refine KeepsLaws.okE ?_
        unfold e5
        extract_lets
        rename_i e7 e8 e9
        have h_e8 : Keeps 3072 16019902769406825617962662796271640859520283917674895774602812058666647943355394420982574357676032 s e8 := by
          unfold e8
          with_reducible refine KeepsLaws.stepBumpWrap ?_ (KeepsLaws.bitI rfl)
          with_reducible refine KeepsLaws.comp ?_ (KeepsLaws.upd_lode ..) (KeepsLaws.subI rfl rfl)
          with_reducible refine KeepsLaws.ofSnd (by assumption) ?_
          with_reducible refine KeepsLaws.comp ?_ (KeepsLaws.drawn ..) (KeepsLaws.subI rfl rfl)
          exact KeepsLaws.refl ..
        clear_value e8
        have h_e9 : Keeps 3072 16019902769406825617962662796271640859520283917674895774602812058666647943355394420982574357676032 s e9 := by
          unfold e9
          with_reducible refine KeepsLaws.ite ?_ ?_
          · with_reducible refine KeepsLaws.stepBumpSat ?_ (KeepsLaws.bitI rfl)
            assumption
          · assumption
        clear_value e9
        with_reducible refine KeepsLaws.comp ?_ (State.showGroup_keeps ..) (KeepsLaws.subI rfl rfl)
        with_reducible refine KeepsLaws.comp ?_ (State.showGroup_keeps ..) (KeepsLaws.subI rfl rfl)
        with_reducible refine KeepsLaws.stepReg ?_ (KeepsLaws.bitI rfl)
        assumption
    · with_reducible refine KeepsLaws.okE ?_
      unfold e5
      extract_lets
      rename_i e10 e11 e12
      have h_e11 : Keeps 3072 16019902769406825617962662796271640859520283917674895774602812058666647943355394420982574357676032 s e11 := by
        unfold e11
        with_reducible refine KeepsLaws.stepBumpWrap ?_ (KeepsLaws.bitI rfl)
        with_reducible refine KeepsLaws.comp ?_ (KeepsLaws.upd_lode ..) (KeepsLaws.subI rfl rfl)
        exact KeepsLaws.refl ..
      clear_value e11
      have h_e12 : Keeps 3072 16019902769406825617962662796271640859520283917674895774602812058666647943355394420982574357676032 s e12 := by
        unfold e12
        with_reducible refine KeepsLaws.ite ?_ ?_
        · with_reducible refine KeepsLaws.stepBumpSat ?_ (KeepsLaws.bitI rfl)
          assumption
        · assumption
      clear_value e12
      with_reducible refine KeepsLaws.comp ?_ (State.showGroup_keeps ..) (KeepsLaws.subI rfl rfl)
      with_reducible refine KeepsLaws.comp ?_ (State.showGroup_keeps ..) (KeepsLaws.subI rfl rfl)
      with_reducible refine KeepsLaws.stepReg ?_ (KeepsLaws.bitI rfl)
      assumption
    · with_reducible refine KeepsLaws.okE ?_
      unfold e5
      extract_lets
      rename_i e13 e14 e15
      have h_e14 : Keeps 3072 16019902769406825617962662796271640859520283917674895774602812058666647943355394420982574357676032 s e14 := by
        unfold e14
        with_reducible refine KeepsLaws.stepBumpWrap ?_ (KeepsLaws.bitI rfl)
        with_reducible refine KeepsLaws.comp ?_ (KeepsLaws.upd_lode ..) (KeepsLaws.subI rfl rfl)
        exact KeepsLaws.refl ..
      clear_value e14
      have h_e15 : Keeps 3072 16019902769406825617962662796271640859520283917674895774602812058666647943355394420982574357676032 s e15 := by
        unfold e15
        with_reducible refine KeepsLaws.ite ?_ ?_
        · with_reducible refine KeepsLaws.stepBumpSat ?_ (KeepsLaws.bitI rfl)
          assumption
        · assumption
      clear_value e15
      with_reducible refine KeepsLaws.comp ?_ (State.showGroup_keeps ..) (KeepsLaws.subI rfl rfl)
      with_reducible refine KeepsLaws.comp ?_ (State.showGroup_keeps ..) (KeepsLaws.subI rfl rfl)
      with_reducible refine KeepsLaws.stepReg ?_ (KeepsLaws.bitI rfl)
      assumption
    · with_reducible refine KeepsLaws.errorE ?_
      unfold Prod.snd
      dsimp only
      exact KeepsLaws.refl ..

theorem State.lodeRecords_keeps (s : State) (b : Body) (n k : ℕ) :
    Keeps 3072 16019902769406825617962662796271640859520283917674895774602812058666647943355394420982574357676032 s (State.lodeRecords s b n k).2.2 := by
  induction n generalizing s k with
  | zero => exact KeepsLaws.refl ..
  | succ n ih =>
    unfold State.lodeRecords
    have h := State.lodeRecord_keeps s ((b.drop (4 + 36 * k)).take 36)
    split
    · rename_i e; rw [e] at h; exact h
    · rename_i e; rw [e] at h; exact KeepsLaws.trans h (ih ..)

theorem State.sdiActive_keeps (s : State) (c : ℕ) (y : ℕ) (line : SdiLine) :
    Keeps 34178380 5449834782718155087760046102529998131200 s (State.sdiActive s c y line) := by
  unfold State.sdiActive
  extract_lets
  rename_i e0 e1 e2
  have h_e0 : Keeps 34178380 5449834782718155087760046102529998131200 s e0 := by
    unfold e0
    with_reducible refine KeepsLaws.comp ?_ (State.ctxBoundary_keeps ..) (KeepsLaws.subI rfl rfl)
    with_reducible refine KeepsLaws.comp ?_ (State.dropFrames_keeps ..) (KeepsLaws.subI rfl rfl)
    exact KeepsLaws.refl ..
  clear_value e0
  have h_e1 : Keeps 34178380 5449834782718155087760046102529998131200 s e1 := by
    unfold e1
    with_reducible refine KeepsLaws.ite ?_ ?_
    · with_reducible refine KeepsLaws.ite ?_ ?_
      · split
        with_reducible refine KeepsLaws.comp ?_ (State.modIctx_keeps ..) (KeepsLaws.subI rfl rfl)
        with_reducible refine KeepsLaws.ofSnd (by assumption) ?_
        unfold Sys2Proof.Machine.State.takeForCtx
        split
        · dsimp only
          with_reducible refine KeepsLaws.comp ?_ (State.setPool_keeps ..) (KeepsLaws.subI rfl rfl)
          assumption
        · extract_lets
          rename_i e3
          have h_e3 : Keeps 34178380 5449834782718155087760046102529998131200 s e3 := by
            unfold e3
            with_reducible refine KeepsLaws.stepAddSatBits ?_ (KeepsLaws.bitI rfl)
            assumption
          clear_value e3
          dsimp only
          with_reducible refine KeepsLaws.comp ?_ (State.eventPerSec_keeps ..) (KeepsLaws.subI rfl rfl)
          assumption
      · assumption
    · exact KeepsLaws.refl ..
  clear_value e1
  split
  · assumption
  · extract_lets
    rename_i e4 e5 e6
    have h_e6 : Keeps 34178380 5449834782718155087760046102529998131200 s e6 := by
      unfold e6
      with_reducible refine KeepsLaws.comp ?_ (State.modIctx_keeps ..) (KeepsLaws.subI rfl rfl)
      assumption
    clear_value e6
    with_reducible refine KeepsLaws.ite ?_ ?_
    · with_reducible refine KeepsLaws.comp ?_ (State.closeSdi_keeps ..) (KeepsLaws.subI rfl rfl)
      assumption
    · assumption

theorem State.sdiLoss_keeps (s : State) (c : ℕ) :
    Keeps 34060 590295810358706245632 s (State.sdiLoss s c) := by
  unfold State.sdiLoss
  extract_lets
  rename_i e0
  with_reducible refine KeepsLaws.ite ?_ ?_
  · with_reducible refine KeepsLaws.comp ?_ (State.setLos_keeps ..) (KeepsLaws.subI rfl rfl)
    exact KeepsLaws.refl ..
  · exact KeepsLaws.refl ..

theorem State.setSdi_keeps (s : State) (i : ℕ) (x : SdiIn) :
    Keeps 1024 18014398509481984 s (State.setSdi s i x) := by
  unfold State.setSdi
  with_reducible refine KeepsLaws.stepSetBit ?_ (KeepsLaws.bitI rfl)
  with_reducible refine KeepsLaws.comp ?_ (KeepsLaws.upd_ing ..) (KeepsLaws.subI rfl rfl)
  exact KeepsLaws.refl ..

theorem execIngSdi_keeps (r : Req) (b : Body) (s : State) :
    KeepsO 263263260 1065974306048913481878971270901677136270159599374277992804661243017823016309340160521601567756288 s (execIngSdi r b s) := by
  unfold execIngSdi
  extract_lets
  rename_i e0 e1
  with_reducible refine KeepsLaws.command (KeepsLaws.subI rfl rfl) (fun x => ?_)
  extract_lets
  rename_i e2 e3 e4 e5
  have h_e2 : Keeps 263263260 1065974306048913481878971270901677136270159599374277992804661243017823016309340160521601567756288 x e2 := by
    unfold e2
    with_reducible refine KeepsLaws.comp ?_ (State.endPrbsOf_keeps ..) (KeepsLaws.subI rfl rfl)
    exact KeepsLaws.refl ..
  clear_value e2
  have h_e4 : Keeps 263263260 1065974306048913481878971270901677136270159599374277992804661243017823016309340160521601567756288 x e4 := by
    unfold e4
    with_reducible refine KeepsLaws.comp ?_ (State.setSdi_keeps ..) (KeepsLaws.subI rfl rfl)
    assumption
  clear_value e4
  have h_e5 : Keeps 263263260 1065974306048913481878971270901677136270159599374277992804661243017823016309340160521601567756288 x e5 := by
    unfold e5
    with_reducible refine KeepsLaws.comp ?_ (State.setInput_keeps ..) (KeepsLaws.subI rfl rfl)
    assumption
  clear_value e5
  with_reducible refine KeepsLaws.doneA ?_
  with_reducible refine KeepsLaws.ite ?_ ?_
  · with_reducible refine KeepsLaws.stepReg ?_ (KeepsLaws.bitI rfl)
    assumption
  · with_reducible refine KeepsLaws.stepSetBits ?_ (KeepsLaws.bitI rfl)
    with_reducible refine KeepsLaws.comp ?_ (State.startHouse_keeps ..) (KeepsLaws.subI rfl rfl)
    with_reducible refine KeepsLaws.comp ?_ (State.powerUp_keeps ..) (KeepsLaws.subI rfl rfl)
    assumption

theorem execContextLosTimeout_keeps (c : Fin 1024) (s : State) :
    KeepsO 34060 590295810358706245632 s (execContextLosTimeout c s) := by
  unfold execContextLosTimeout
  extract_lets
  rename_i e0 e1
  with_reducible refine KeepsLaws.iteO ?_ ?_
  · with_reducible refine KeepsLaws.next ?_
    with_reducible refine KeepsLaws.comp ?_ (State.setLos_keeps ..) (KeepsLaws.subI rfl rfl)
    exact KeepsLaws.refl ..
  · with_reducible refine KeepsLaws.next ?_
    with_reducible refine KeepsLaws.comp ?_ (State.sdiLoss_keeps ..) (KeepsLaws.subI rfl rfl)
    exact KeepsLaws.refl ..

theorem execSdiLineReceive_keeps (i : Fin 16) (line : SdiLine) (s : State) :
    KeepsO 105481548 45890346847855729858795526085220617869161654772906921259698476966719568095910961365701433561088 s (execSdiLineReceive i line s) := by
  unfold execSdiLineReceive
  extract_lets
  rename_i e0 e1 e2 e3 e4 e5 e6 e7 e8 e9
  have h_e1 : Keeps 105481548 45890346847855729858795526085220617869161654772906921259698476966719568095910961365701433561088 s e1 := by
    unfold e1
    with_reducible refine KeepsLaws.foldl (fun x a => ?_) ?_
    · with_reducible refine KeepsLaws.comp ?_ (State.laneLock_keeps ..) (KeepsLaws.subI rfl rfl)
      exact KeepsLaws.refl ..
    · exact KeepsLaws.refl ..
  clear_value e1
  have h_e3 : Keeps 105481548 45890346847855729858795526085220617869161654772906921259698476966719568095910961365701433561088 s e3 := by
    unfold e3
    with_reducible refine KeepsLaws.comp ?_ (State.setSdi_keeps ..) (KeepsLaws.subI rfl rfl)
    assumption
  clear_value e3
  have h_e6 : Keeps 105481548 45890346847855729858795526085220617869161654772906921259698476966719568095910961365701433561088 s e6 := by
    unfold e6
    with_reducible refine KeepsLaws.comp ?_ (State.audioSdi_keeps ..) (KeepsLaws.subI rfl rfl)
    with_reducible refine KeepsLaws.stepReg ?_ (KeepsLaws.bitI rfl)
    assumption
  clear_value e6
  have h_e7 : Keeps 105481548 45890346847855729858795526085220617869161654772906921259698476966719568095910961365701433561088 s e7 := by
    unfold e7
    with_reducible refine KeepsLaws.ite ?_ ?_
    · assumption
    · with_reducible refine KeepsLaws.stepBumpSat ?_ (KeepsLaws.bitI rfl)
      assumption
  clear_value e7
  have h_e9 : Keeps 105481548 45890346847855729858795526085220617869161654772906921259698476966719568095910961365701433561088 s e9 := by
    unfold e9
    with_reducible refine KeepsLaws.comp ?_ (State.setLos_keeps ..) (KeepsLaws.subI rfl rfl)
    assumption
  clear_value e9
  with_reducible refine KeepsLaws.iteO ?_ ?_
  · with_reducible refine KeepsLaws.next ?_
    exact KeepsLaws.refl ..
  · with_reducible refine KeepsLaws.iteO ?_ ?_
    · with_reducible refine KeepsLaws.next ?_
      assumption
    · split
      · with_reducible refine KeepsLaws.next ?_
        assumption
      · with_reducible refine KeepsLaws.next ?_
        with_reducible refine KeepsLaws.comp ?_ (State.sdiActive_keeps ..) (KeepsLaws.subI rfl rfl)
        assumption

theorem execEthFrameReceive_keeps (mac : Fin 16) (f : EthFrame) (also : Option (Fin 16 × EthFrame)) (s : State) :
    KeepsO 101313868 17087896287367280659160173649356627541404973293226617995637150286899815085674313916869468117078016 s (execEthFrameReceive mac f also s) := by
  unfold execEthFrameReceive
  split
  · with_reducible refine KeepsLaws.next ?_
    unfold Sys2Proof.Machine.State.receive
    extract_lets
    rename_i e0 e1
    have h_e1 : Keeps 101313868 17087896287367280659160173649356627541404973293226617995637150286899815085674313916869468117078016 s e1 := by
      unfold e1
      with_reducible refine KeepsLaws.stepBumpWrap ?_ (KeepsLaws.bitI rfl)
      exact KeepsLaws.refl ..
    clear_value e1
    with_reducible refine KeepsLaws.ite ?_ ?_
    · exact KeepsLaws.refl ..
    · with_reducible refine KeepsLaws.ite ?_ ?_
      · with_reducible refine KeepsLaws.stepBumpSat ?_ (KeepsLaws.bitI rfl)
        assumption
      · with_reducible refine KeepsLaws.ite ?_ ?_
        · with_reducible refine KeepsLaws.stepBumpSat ?_ (KeepsLaws.bitI rfl)
          assumption
        · with_reducible refine KeepsLaws.ite ?_ ?_
          · assumption
          · with_reducible refine KeepsLaws.ite ?_ ?_
            · with_reducible refine KeepsLaws.stepBumpSat ?_ (KeepsLaws.bitI rfl)
              assumption
            · with_reducible refine KeepsLaws.ite ?_ ?_
              · assumption
              · with_reducible refine KeepsLaws.comp ?_ (State.classify_keeps ..) (KeepsLaws.subI rfl rfl)
                assumption
  · with_reducible refine KeepsLaws.next ?_
    with_reducible refine KeepsLaws.ite ?_ ?_
    · unfold Sys2Proof.Machine.State.receive
      extract_lets
      rename_i e2 e3 e4 e5
      have h_e3 : Keeps 101313868 17087896287367280659160173649356627541404973293226617995637150286899815085674313916869468117078016 s e3 := by
        unfold e3
        with_reducible refine KeepsLaws.stepBumpWrap ?_ (KeepsLaws.bitI rfl)
        exact KeepsLaws.refl ..
      clear_value e3
      have h_e5 : Keeps 101313868 17087896287367280659160173649356627541404973293226617995637150286899815085674313916869468117078016 s e5 := by
        unfold e5
        with_reducible refine KeepsLaws.stepBumpWrap ?_ (KeepsLaws.bitI rfl)
        with_reducible refine KeepsLaws.ite ?_ ?_
        · exact KeepsLaws.refl ..
        · with_reducible refine KeepsLaws.ite ?_ ?_
          · with_reducible refine KeepsLaws.stepBumpSat ?_ (KeepsLaws.bitI rfl)
            assumption
          · with_reducible refine KeepsLaws.ite ?_ ?_
            · with_reducible refine KeepsLaws.stepBumpSat ?_ (KeepsLaws.bitI rfl)
              assumption
            · with_reducible refine KeepsLaws.ite ?_ ?_
              · assumption
              · with_reducible refine KeepsLaws.ite ?_ ?_
                · with_reducible refine KeepsLaws.stepBumpSat ?_ (KeepsLaws.bitI rfl)
                  assumption
                · with_reducible refine KeepsLaws.ite ?_ ?_
                  · assumption
                  · with_reducible refine KeepsLaws.comp ?_ (State.classify_keeps ..) (KeepsLaws.subI rfl rfl)
                    assumption
      clear_value e5
      with_reducible refine KeepsLaws.ite ?_ ?_
      · with_reducible refine KeepsLaws.ite ?_ ?_
        · exact KeepsLaws.refl ..
        · with_reducible refine KeepsLaws.ite ?_ ?_
          · with_reducible refine KeepsLaws.stepBumpSat ?_ (KeepsLaws.bitI rfl)
            assumption
          · with_reducible refine KeepsLaws.ite ?_ ?_
            · with_reducible refine KeepsLaws.stepBumpSat ?_ (KeepsLaws.bitI rfl)
              assumption
            · with_reducible refine KeepsLaws.ite ?_ ?_
              · assumption
              · with_reducible refine KeepsLaws.ite ?_ ?_
                · with_reducible refine KeepsLaws.stepBumpSat ?_ (KeepsLaws.bitI rfl)
                  assumption
                · with_reducible refine KeepsLaws.ite ?_ ?_
                  · assumption
                  · with_reducible refine KeepsLaws.comp ?_ (State.classify_keeps ..) (KeepsLaws.subI rfl rfl)
                    assumption
      · with_reducible refine KeepsLaws.ite ?_ ?_
        · with_reducible refine KeepsLaws.stepBumpSat ?_ (KeepsLaws.bitI rfl)
          assumption
        · with_reducible refine KeepsLaws.ite ?_ ?_
          · with_reducible refine KeepsLaws.stepBumpSat ?_ (KeepsLaws.bitI rfl)
            assumption
          · with_reducible refine KeepsLaws.ite ?_ ?_
            · assumption
            · with_reducible refine KeepsLaws.ite ?_ ?_
              · with_reducible refine KeepsLaws.stepBumpSat ?_ (KeepsLaws.bitI rfl)
                assumption
              · with_reducible refine KeepsLaws.ite ?_ ?_
                · assumption
                · with_reducible refine KeepsLaws.comp ?_ (State.classify_keeps ..) (KeepsLaws.subI rfl rfl)
                  assumption
    · unfold Sys2Proof.Machine.State.receive
      extract_lets
      rename_i e6 e7 e8 e9
      have h_e7 : Keeps 101313868 17087896287367280659160173649356627541404973293226617995637150286899815085674313916869468117078016 s e7 := by
        unfold e7
        with_reducible refine KeepsLaws.stepBumpWrap ?_ (KeepsLaws.bitI rfl)
        exact KeepsLaws.refl ..
      clear_value e7
      have h_e9 : Keeps 101313868 17087896287367280659160173649356627541404973293226617995637150286899815085674313916869468117078016 s e9 := by
        unfold e9
        with_reducible refine KeepsLaws.stepBumpWrap ?_ (KeepsLaws.bitI rfl)
        with_reducible refine KeepsLaws.ite ?_ ?_
        · exact KeepsLaws.refl ..
        · with_reducible refine KeepsLaws.ite ?_ ?_
          · with_reducible refine KeepsLaws.stepBumpSat ?_ (KeepsLaws.bitI rfl)
            assumption
          · with_reducible refine KeepsLaws.ite ?_ ?_
            · with_reducible refine KeepsLaws.stepBumpSat ?_ (KeepsLaws.bitI rfl)
              assumption
            · with_reducible refine KeepsLaws.ite ?_ ?_
              · assumption
              · with_reducible refine KeepsLaws.ite ?_ ?_
                · with_reducible refine KeepsLaws.stepBumpSat ?_ (KeepsLaws.bitI rfl)
                  assumption
                · with_reducible refine KeepsLaws.ite ?_ ?_
                  · assumption
                  · with_reducible refine KeepsLaws.comp ?_ (State.classify_keeps ..) (KeepsLaws.subI rfl rfl)
                    assumption
      clear_value e9
      with_reducible refine KeepsLaws.ite ?_ ?_
      · with_reducible refine KeepsLaws.ite ?_ ?_
        · exact KeepsLaws.refl ..
        · with_reducible refine KeepsLaws.ite ?_ ?_
          · with_reducible refine KeepsLaws.stepBumpSat ?_ (KeepsLaws.bitI rfl)
            assumption
          · with_reducible refine KeepsLaws.ite ?_ ?_
            · with_reducible refine KeepsLaws.stepBumpSat ?_ (KeepsLaws.bitI rfl)
              assumption
            · with_reducible refine KeepsLaws.ite ?_ ?_
              · assumption
              · with_reducible refine KeepsLaws.ite ?_ ?_
                · with_reducible refine KeepsLaws.stepBumpSat ?_ (KeepsLaws.bitI rfl)
                  assumption
                · with_reducible refine KeepsLaws.ite ?_ ?_
                  · assumption
                  · with_reducible refine KeepsLaws.comp ?_ (State.classify_keeps ..) (KeepsLaws.subI rfl rfl)
                    assumption
      · with_reducible refine KeepsLaws.ite ?_ ?_
        · with_reducible refine KeepsLaws.stepBumpSat ?_ (KeepsLaws.bitI rfl)
          assumption
        · with_reducible refine KeepsLaws.ite ?_ ?_
          · with_reducible refine KeepsLaws.stepBumpSat ?_ (KeepsLaws.bitI rfl)
            assumption
          · with_reducible refine KeepsLaws.ite ?_ ?_
            · assumption
            · with_reducible refine KeepsLaws.ite ?_ ?_
              · with_reducible refine KeepsLaws.stepBumpSat ?_ (KeepsLaws.bitI rfl)
                assumption
              · with_reducible refine KeepsLaws.ite ?_ ?_
                · assumption
                · with_reducible refine KeepsLaws.comp ?_ (State.classify_keeps ..) (KeepsLaws.subI rfl rfl)
                  assumption

theorem execIngMerge_keeps (r : Req) (b : Body) (s : State) :
    KeepsO 1052 295147905179355512832 s (execIngMerge r b s) := by
  unfold execIngMerge
  with_reducible refine KeepsLaws.command (KeepsLaws.subI rfl rfl) (fun x => ?_)
  extract_lets
  rename_i e0
  with_reducible refine KeepsLaws.doneA ?_
  with_reducible refine KeepsLaws.comp ?_ (State.setMgrp_keeps ..) (KeepsLaws.subI rfl rfl)
  exact KeepsLaws.refl ..

theorem execLodeUpdate_keeps (r : Req) (b : Body) (s : State) :
    KeepsO 3100 16019902769406825617962662796271640859520283917674895774602812058666647943355394420982574360363008 s (execLodeUpdate r b s) := by
  unfold execLodeUpdate
  extract_lets
  rename_i e0 e1
  with_reducible refine KeepsLaws.command (KeepsLaws.subI rfl rfl) (fun x => ?_)
  split
  extract_lets
  rename_i e2
  split
  · with_reducible refine KeepsLaws.nowA ?_
    with_reducible refine KeepsLaws.ofSnd2 (by assumption) ?_
    with_reducible refine KeepsLaws.comp ?_ (State.lodeRecords_keeps ..) (KeepsLaws.subI rfl rfl)
    exact KeepsLaws.refl ..
  · with_reducible refine KeepsLaws.laterA ?_
    with_reducible refine KeepsLaws.comp ?_ (State.replyR_keeps ..) (KeepsLaws.subI rfl rfl)
    with_reducible refine KeepsLaws.ofSnd2 (by assumption) ?_
    with_reducible refine KeepsLaws.comp ?_ (State.lodeRecords_keeps ..) (KeepsLaws.subI rfl rfl)
    exact KeepsLaws.refl ..

theorem execMergeLegTimeout_keeps (g : Fin 256) (leg : Fin 2) (s : State) :
    KeepsO 1292 295147905179353419776 s (execMergeLegTimeout g leg s) := by
  unfold execMergeLegTimeout
  extract_lets
  rename_i e0 e1 e2
  with_reducible refine KeepsLaws.iteO ?_ ?_
  · with_reducible refine KeepsLaws.iteO ?_ ?_
    · with_reducible refine KeepsLaws.next ?_
      unfold e2
      with_reducible refine KeepsLaws.comp ?_ (State.eventLimited_keeps ..) (KeepsLaws.subI rfl rfl)
      with_reducible refine KeepsLaws.comp ?_ (State.setMgrp_keeps ..) (KeepsLaws.subI rfl rfl)
      exact KeepsLaws.refl ..
    · with_reducible refine KeepsLaws.next ?_
      exact KeepsLaws.refl ..
  · with_reducible refine KeepsLaws.iteO ?_ ?_
    · with_reducible refine KeepsLaws.next ?_
      unfold e2
      with_reducible refine KeepsLaws.comp ?_ (State.eventLimited_keeps ..) (KeepsLaws.subI rfl rfl)
      with_reducible refine KeepsLaws.comp ?_ (State.setMgrp_keeps ..) (KeepsLaws.subI rfl rfl)
      exact KeepsLaws.refl ..
    · with_reducible refine KeepsLaws.next ?_
      exact KeepsLaws.refl ..

theorem execIngInject_keeps (r : Req) (b : Body) (s : State) :
    KeepsO 1052 2686976 s (execIngInject r b s) := by
  unfold execIngInject
  extract_lets
  rename_i e0
  with_reducible refine KeepsLaws.command (KeepsLaws.subI rfl rfl) (fun x => ?_)
  with_reducible refine KeepsLaws.laterA ?_
  with_reducible refine KeepsLaws.comp ?_ (KeepsLaws.upd_ing ..) (KeepsLaws.subI rfl rfl)
  exact KeepsLaws.refl ..

theorem execLodeRead_keeps (r : Req) (b : Body) (s : State) :
    KeepsO 28 2686976 s (execLodeRead r b s) := by
  unfold execLodeRead
  extract_lets
  rename_i e0 e1
  with_reducible refine KeepsLaws.command (KeepsLaws.subI rfl rfl) (fun x => ?_)
  extract_lets
  rename_i e2 e3
  with_reducible refine KeepsLaws.nowA ?_
  with_reducible refine KeepsLaws.comp ?_ (KeepsLaws.emit ..) (KeepsLaws.subI rfl rfl)
  exact KeepsLaws.refl ..

theorem execSdiTrsLossTimeout_keeps (i : Fin 16) (s : State) :
    KeepsO 4228364 45890346847855729858795526085023157322283110047848324952341760123403484629307317764013985173504 s (execSdiTrsLossTimeout i s) := by
  unfold execSdiTrsLossTimeout
  extract_lets
  rename_i e0 e1
  have h_e1 : Keeps 4228364 45890346847855729858795526085023157322283110047848324952341760123403484629307317764013985173504 s e1 := by
    unfold e1
    with_reducible refine KeepsLaws.ite ?_ ?_
    · with_reducible refine KeepsLaws.stepSetBit ?_ (KeepsLaws.bitI rfl)
      with_reducible refine KeepsLaws.comp ?_ (State.setSdi_keeps ..) (KeepsLaws.subI rfl rfl)
      with_reducible refine KeepsLaws.foldl (fun x a => ?_) ?_
      · with_reducible refine KeepsLaws.comp ?_ (State.laneLock_keeps ..) (KeepsLaws.subI rfl rfl)
        exact KeepsLaws.refl ..
      · exact KeepsLaws.refl ..
    · exact KeepsLaws.refl ..
  clear_value e1
  with_reducible refine KeepsLaws.iteO ?_ ?_
  · with_reducible refine KeepsLaws.next ?_
    with_reducible refine KeepsLaws.comp ?_ (State.sdiLoss_keeps ..) (KeepsLaws.subI rfl rfl)
    assumption
  · with_reducible refine KeepsLaws.next ?_
    exact KeepsLaws.refl ..

theorem execIngMacConfig_keeps (r : Req) (b : Body) (s : State) :
    KeepsO 263263260 1065974306048913481878971270901677136270159599374277992804661243017823016271561228658644406046720 s (execIngMacConfig r b s) := by
  unfold execIngMacConfig
  extract_lets
  rename_i e0 e1
  with_reducible refine KeepsLaws.command (KeepsLaws.subI rfl rfl) (fun x => ?_)
  extract_lets
  rename_i e2 e3 e4 e5 e6
  have h_e2 : Keeps 263263260 1065974306048913481878971270901677136270159599374277992804661243017823016271561228658644406046720 x e2 := by
    unfold e2
    with_reducible refine KeepsLaws.comp ?_ (State.endPrbsOf_keeps ..) (KeepsLaws.subI rfl rfl)
    exact KeepsLaws.refl ..
  clear_value e2
  have h_e5 : Keeps 263263260 1065974306048913481878971270901677136270159599374277992804661243017823016271561228658644406046720 x e5 := by
    unfold e5
    with_reducible refine KeepsLaws.comp ?_ (KeepsLaws.upd_ing ..) (KeepsLaws.subI rfl rfl)
    assumption
  clear_value e5
  have h_e6 : Keeps 263263260 1065974306048913481878971270901677136270159599374277992804661243017823016271561228658644406046720 x e6 := by
    unfold e6
    with_reducible refine KeepsLaws.stepSetBit ?_ (KeepsLaws.bitI rfl)
    assumption
  clear_value e6
  with_reducible refine KeepsLaws.doneA ?_
  with_reducible refine KeepsLaws.ite ?_ ?_
  · with_reducible refine KeepsLaws.comp ?_ (State.powerUp_keeps ..) (KeepsLaws.subI rfl rfl)
    assumption
  · assumption

theorem execIngHostRing_keeps (r : Req) (b : Body) (s : State) :
    KeepsO 1052 864691128457822208 s (execIngHostRing r b s) := by
  unfold execIngHostRing
  extract_lets
  rename_i e0 e1
  with_reducible refine KeepsLaws.command (KeepsLaws.subI rfl rfl) (fun x => ?_)
  with_reducible refine KeepsLaws.doneA ?_
  with_reducible refine KeepsLaws.stepReg ?_ (KeepsLaws.bitI rfl)
  with_reducible refine KeepsLaws.stepReg ?_ (KeepsLaws.bitI rfl)
  with_reducible refine KeepsLaws.comp ?_ (State.setIring_keeps ..) (KeepsLaws.subI rfl rfl)
  exact KeepsLaws.refl ..

theorem execRingIndexWriteIng_keeps (p : Port) (ring : Fin 2) (value : Word) (s : State) :
    KeepsO 1024 576460752307617792 s (execRingIndexWriteIng p ring value s) := by
  unfold execRingIndexWriteIng
  with_reducible refine KeepsLaws.next ?_
  with_reducible refine KeepsLaws.comp ?_ (State.writeRingIng_keeps ..) (KeepsLaws.subI rfl rfl)
  exact KeepsLaws.refl ..

theorem execSkewWindowExpiry_keeps (c : Fin 1024) (s : State) :
    KeepsO 34202956 5450083457419489219204561231342264193024 s (execSkewWindowExpiry c s) := by
  unfold execSkewWindowExpiry
  with_reducible refine KeepsLaws.next ?_
  with_reducible refine KeepsLaws.comp ?_ (State.closeAll_keeps ..) (KeepsLaws.subI rfl rfl)
  exact KeepsLaws.refl ..

end Sys2Proof.Machine
end

