-- ==== Sys2Proof/Laws/FrameBindings.lean ====
section
/-! SUPPORT. What each operation of Machine/Bindings.lean can change at most (Keeps): masks of fields and of registers. -/

namespace Sys2Proof.Machine

theorem State.bindCam_keeps (s : State) (b : Body) (quiet : Bool) :
    Keeps 246519116 1065974306048913481878971270901677136270159599374277992804661243017825685730886647197292292542464 s (State.bindCam s b quiet) := by
  unfold State.bindCam
  extract_lets
  rename_i e0
  with_reducible refine KeepsLaws.ite ?_ ?_
  · with_reducible refine KeepsLaws.comp ?_ (State.modCctx_keeps ..) (KeepsLaws.subI rfl rfl)
    exact KeepsLaws.refl ..
  · with_reducible refine KeepsLaws.ite ?_ ?_
    · exact KeepsLaws.refl ..
    · with_reducible refine KeepsLaws.comp ?_ (State.camTake_keeps ..) (KeepsLaws.subI rfl rfl)
      with_reducible refine KeepsLaws.comp ?_ (State.powerUp_keeps ..) (KeepsLaws.subI rfl rfl)
      exact KeepsLaws.refl ..

theorem State.bindDec_keeps (s : State) (b : Body) (quiet : Bool) :
    Keeps 33677388 168194100026831876392035200520491008 s (State.bindDec s b quiet) := by
  unfold State.bindDec
  extract_lets
  rename_i e0 e1 e2 e3
  have h_e3 : Keeps 33677388 168194100026831876392035200520491008 s e3 := by
    unfold e3
    with_reducible refine KeepsLaws.comp ?_ (State.modSess_keeps ..) (KeepsLaws.subI rfl rfl)
    exact KeepsLaws.refl ..
  clear_value e3
  with_reducible refine KeepsLaws.ite ?_ ?_
  · with_reducible refine KeepsLaws.ite ?_ ?_
    · with_reducible refine KeepsLaws.comp ?_ (State.sessBoundary_keeps ..) (KeepsLaws.subI rfl rfl)
      assumption
    · assumption
  · with_reducible refine KeepsLaws.ite ?_ ?_
    · exact KeepsLaws.refl ..
    · with_reducible refine KeepsLaws.comp ?_ (State.applyDec_keeps ..) (KeepsLaws.subI rfl rfl)
      exact KeepsLaws.refl ..

theorem State.bindIng_keeps (s : State) (b : Body) (quiet : Bool) :
    Keeps 33653824 590295810358705651712 s (State.bindIng s b quiet) := by
  unfold State.bindIng
  extract_lets
  rename_i e0
  with_reducible refine KeepsLaws.ite ?_ ?_
  · with_reducible refine KeepsLaws.comp ?_ (State.modIctx_keeps ..) (KeepsLaws.subI rfl rfl)
    exact KeepsLaws.refl ..
  · with_reducible refine KeepsLaws.ite ?_ ?_
    · exact KeepsLaws.refl ..
    · with_reducible refine KeepsLaws.comp ?_ (State.applyBinding_keeps ..) (KeepsLaws.subI rfl rfl)
      exact KeepsLaws.refl ..

theorem State.stageIng_keeps (s : State) (b : Body) :
    KeepsM 33652736 0 s (State.stageIng s b) := by
  unfold State.stageIng
  extract_lets
  rename_i e0 e1
  with_reducible refine KeepsLaws.iteM ?_ ?_
  · with_reducible refine KeepsLaws.someM ?_
    with_reducible refine KeepsLaws.comp ?_ (State.unstage_keeps ..) (KeepsLaws.subI rfl rfl)
    exact KeepsLaws.refl ..
  · with_reducible refine KeepsLaws.iteM ?_ ?_
    · with_reducible refine KeepsLaws.someM ?_
      exact KeepsLaws.refl ..
    · with_reducible refine KeepsLaws.iteM ?_ ?_
      · exact KeepsLaws.noneM _ _ _
      · with_reducible refine KeepsLaws.compM ?_ (State.stagePool_keeps ..) (KeepsLaws.subI rfl rfl)
        exact KeepsLaws.refl ..

theorem State.stageCam_keeps (s : State) (b : Body) :
    KeepsM 33652736 0 s (State.stageCam s b) := by
  unfold State.stageCam
  extract_lets
  rename_i e0 e1 e2 e3 e4 e5 e6 e7
  with_reducible refine KeepsLaws.iteM ?_ ?_
  · with_reducible refine KeepsLaws.someM ?_
    with_reducible refine KeepsLaws.comp ?_ (State.unstage_keeps ..) (KeepsLaws.subI rfl rfl)
    with_reducible refine KeepsLaws.comp ?_ (State.unstage_keeps ..) (KeepsLaws.subI rfl rfl)
    with_reducible refine KeepsLaws.comp ?_ (State.unstage_keeps ..) (KeepsLaws.subI rfl rfl)
    exact KeepsLaws.refl ..
  · with_reducible refine KeepsLaws.iteM ?_ ?_
    · exact KeepsLaws.noneM _ _ _
    · with_reducible refine KeepsLaws.bindM ?_ (fun x => ?_)
      · with_reducible refine KeepsLaws.bindM ?_ (fun x => ?_)
        · unfold e5
          with_reducible refine KeepsLaws.iteM ?_ ?_
          · with_reducible refine KeepsLaws.someM ?_
            with_reducible refine KeepsLaws.comp ?_ (State.unstage_keeps ..) (KeepsLaws.subI rfl rfl)
            exact KeepsLaws.refl ..
          · with_reducible refine KeepsLaws.compM ?_ (State.stagePool_keeps ..) (KeepsLaws.subI rfl rfl)
            exact KeepsLaws.refl ..
        · unfold e6
          with_reducible refine KeepsLaws.iteM ?_ ?_
          · with_reducible refine KeepsLaws.someM ?_
            with_reducible refine KeepsLaws.comp ?_ (State.unstage_keeps ..) (KeepsLaws.subI rfl rfl)
            exact KeepsLaws.refl ..
          · with_reducible refine KeepsLaws.compM ?_ (State.stagePool_keeps ..) (KeepsLaws.subI rfl rfl)
            exact KeepsLaws.refl ..
      · unfold e7
        with_reducible refine KeepsLaws.iteM ?_ ?_
        · with_reducible refine KeepsLaws.someM ?_
          with_reducible refine KeepsLaws.comp ?_ (State.unstage_keeps ..) (KeepsLaws.subI rfl rfl)
          exact KeepsLaws.refl ..
        · with_reducible refine KeepsLaws.compM ?_ (State.stagePool_keeps ..) (KeepsLaws.subI rfl rfl)
          exact KeepsLaws.refl ..

theorem State.stageDec_keeps (s : State) (b : Body) :
    KeepsM 33652736 0 s (State.stageDec s b) := by
  unfold State.stageDec
  extract_lets
  rename_i e0
  with_reducible refine KeepsLaws.iteM ?_ ?_
  · with_reducible refine KeepsLaws.someM ?_
    with_reducible refine KeepsLaws.comp ?_ (State.unstage_keeps ..) (KeepsLaws.subI rfl rfl)
    exact KeepsLaws.refl ..
  · with_reducible refine KeepsLaws.iteM ?_ ?_
    · exact KeepsLaws.noneM _ _ _
    · with_reducible refine KeepsLaws.compM ?_ (State.stagePool_keeps ..) (KeepsLaws.subI rfl rfl)
      exact KeepsLaws.refl ..

theorem execCamContext_keeps (r : Req) (b : Body) (s : State) :
    KeepsO 246519132 1065974306048913481878971270901677136270159599374277992804661243017825685730886647197292294639616 s (execCamContext r b s) := by
  unfold execCamContext
  with_reducible refine KeepsLaws.command (KeepsLaws.subI rfl rfl) (fun x => ?_)
  with_reducible refine KeepsLaws.doneA ?_
  with_reducible refine KeepsLaws.comp ?_ (State.bindCam_keeps ..) (KeepsLaws.subI rfl rfl)
  with_reducible refine KeepsLaws.getD ?_ ?_
  · with_reducible refine KeepsLaws.compM ?_ (State.stageCam_keeps ..) (KeepsLaws.subI rfl rfl)
    exact KeepsLaws.refl ..
  · exact KeepsLaws.refl ..

theorem execDecSession_keeps (r : Req) (b : Body) (s : State) :
    KeepsO 33677404 5485106241622820396535938628731867136 s (execDecSession r b s) := by
  unfold execDecSession
  with_reducible refine KeepsLaws.command (KeepsLaws.subI rfl rfl) (fun x => ?_)
  with_reducible refine KeepsLaws.doneA ?_
  with_reducible refine KeepsLaws.comp ?_ (State.allocate_keeps ..) (KeepsLaws.subI rfl rfl)
  with_reducible refine KeepsLaws.comp ?_ (State.bindDec_keeps ..) (KeepsLaws.subI rfl rfl)
  with_reducible refine KeepsLaws.getD ?_ ?_
  · with_reducible refine KeepsLaws.compM ?_ (State.stageDec_keeps ..) (KeepsLaws.subI rfl rfl)
    exact KeepsLaws.refl ..
  · exact KeepsLaws.refl ..

theorem execIngContext_keeps (r : Req) (b : Body) (s : State) :
    KeepsO 33653852 590295810358708338688 s (execIngContext r b s) := by
  unfold execIngContext
  with_reducible refine KeepsLaws.command (KeepsLaws.subI rfl rfl) (fun x => ?_)
  with_reducible refine KeepsLaws.doneA ?_
  with_reducible refine KeepsLaws.comp ?_ (State.bindIng_keeps ..) (KeepsLaws.subI rfl rfl)
  with_reducible refine KeepsLaws.getD ?_ ?_
  · with_reducible refine KeepsLaws.compM ?_ (State.stageIng_keeps ..) (KeepsLaws.subI rfl rfl)
    exact KeepsLaws.refl ..
  · exact KeepsLaws.refl ..

end Sys2Proof.Machine
end

