-- ==== Sys2Proof/Laws/FrameCompose.lean ====
section
/-! SUPPORT. What each operation of Machine/Compose.lean can change at most (Keeps): masks of fields and of registers. -/

namespace Sys2Proof.Machine

theorem State.showFlat_keeps (s : State) (h : ℕ) :
    Keeps 0 365375583557297593071414501426869759979307401216 s (State.showFlat s h) := by
  unfold State.showFlat
  extract_lets
  rename_i e0 e1
  with_reducible refine KeepsLaws.stepSetBits ?_ (KeepsLaws.bitI rfl)
  with_reducible refine KeepsLaws.stepSetBits ?_ (KeepsLaws.bitI rfl)
  with_reducible refine KeepsLaws.stepReg ?_ (KeepsLaws.bitI rfl)
  exact KeepsLaws.refl ..

theorem State.dropFlat_keeps (s : State) (h : ℕ) (p : FlatTile → Bool) :
    Keeps 1048576 456720132788766479541117976462833468969100247040 s (State.dropFlat s h p) := by
  unfold State.dropFlat
  extract_lets
  rename_i e0 e1
  with_reducible refine KeepsLaws.ite ?_ ?_
  · exact KeepsLaws.refl ..
  · with_reducible refine KeepsLaws.comp ?_ (State.showFlat_keeps ..) (KeepsLaws.subI rfl rfl)
    with_reducible refine KeepsLaws.stepAddWrapBits ?_ (KeepsLaws.bitI rfl)
    with_reducible refine KeepsLaws.comp ?_ (State.setHead_keeps ..) (KeepsLaws.subI rfl rfl)
    exact KeepsLaws.refl ..

theorem State.writeTile_keeps (s : State) (h : ℕ) (kind : ℕ) (tile : ℕ) (saved : ℕ) :
    Keeps 1048844 91344200782325159428716888540365698859144908800 s (State.writeTile s h kind tile saved) := by
  unfold State.writeTile
  split
  extract_lets
  rename_i e0 e1
  with_reducible refine KeepsLaws.ite ?_ ?_
  · with_reducible refine KeepsLaws.comp ?_ (State.setHead_keeps ..) (KeepsLaws.subI rfl rfl)
    with_reducible refine KeepsLaws.ofSnd (by assumption) ?_
    with_reducible refine KeepsLaws.comp ?_ (KeepsLaws.drawn ..) (KeepsLaws.subI rfl rfl)
    exact KeepsLaws.refl ..
  · with_reducible refine KeepsLaws.ite ?_ ?_
    · with_reducible refine KeepsLaws.comp ?_ (State.eventPerSec_keeps ..) (KeepsLaws.subI rfl rfl)
      with_reducible refine KeepsLaws.stepBumpSat ?_ (KeepsLaws.bitI rfl)
      with_reducible refine KeepsLaws.comp ?_ (State.setHead_keeps ..) (KeepsLaws.subI rfl rfl)
      with_reducible refine KeepsLaws.ofSnd (by assumption) ?_
      with_reducible refine KeepsLaws.comp ?_ (KeepsLaws.drawn ..) (KeepsLaws.subI rfl rfl)
      exact KeepsLaws.refl ..
    · with_reducible refine KeepsLaws.ofSnd (by assumption) ?_
      with_reducible refine KeepsLaws.comp ?_ (KeepsLaws.drawn ..) (KeepsLaws.subI rfl rfl)
      exact KeepsLaws.refl ..

theorem State.flatten_keeps (s : State) (h : ℕ) (y : ℕ) :
    Keeps 1048844 456719784339622752500131389967235458838452310016 s (State.flatten s h y) := by
  unfold State.flatten
  extract_lets
  rename_i e0 e1 e2 e3 e4 e5 e6 e7 e8 e9
  have h_e8 : Keeps 1048844 456719784339622752500131389967235458838452310016 s e8 := by
    unfold e8
    with_reducible refine KeepsLaws.ite ?_ ?_
    · with_reducible refine KeepsLaws.foldl (fun x a => ?_) ?_
      · with_reducible refine KeepsLaws.comp ?_ (State.writeTile_keeps ..) (KeepsLaws.subI rfl rfl)
        exact KeepsLaws.refl ..
      · exact KeepsLaws.refl ..
    · exact KeepsLaws.refl ..
  clear_value e8
  have h_e9 : Keeps 1048844 456719784339622752500131389967235458838452310016 s e9 := by
    unfold e9
    with_reducible refine KeepsLaws.foldl (fun x a => ?_) ?_
    · extract_lets
      rename_i e10
      split
      · exact KeepsLaws.refl ..
      · with_reducible refine KeepsLaws.ite ?_ ?_
        · with_reducible refine KeepsLaws.foldl (fun x a => ?_) ?_
          · with_reducible refine KeepsLaws.comp ?_ (State.writeTile_keeps ..) (KeepsLaws.subI rfl rfl)
            exact KeepsLaws.refl ..
          · exact KeepsLaws.refl ..
        · exact KeepsLaws.refl ..
    · assumption
  clear_value e9
  with_reducible refine KeepsLaws.ite ?_ ?_
  · exact KeepsLaws.refl ..
  · with_reducible refine KeepsLaws.ite ?_ ?_
    · exact KeepsLaws.refl ..
    · with_reducible refine KeepsLaws.comp ?_ (State.showFlat_keeps ..) (KeepsLaws.subI rfl rfl)
      assumption

theorem State.showGfx_keeps (s : State) (g : ℕ) (owner : ℕ) :
    Keeps 0 89202980794122492566142873090593446023921664 s (State.showGfx s g owner) := by
  unfold State.showGfx
  extract_lets
  rename_i e0
  with_reducible refine KeepsLaws.ite ?_ ?_
  · with_reducible refine KeepsLaws.stepReg ?_ (KeepsLaws.bitI rfl)
    exact KeepsLaws.refl ..
  · with_reducible refine KeepsLaws.stepSetBits ?_ (KeepsLaws.bitI rfl)
    with_reducible refine KeepsLaws.stepSetBits ?_ (KeepsLaws.bitI rfl)
    with_reducible refine KeepsLaws.stepSetBits ?_ (KeepsLaws.bitI rfl)
    with_reducible refine KeepsLaws.stepSetBits ?_ (KeepsLaws.bitI rfl)
    with_reducible refine KeepsLaws.stepSetBit ?_ (KeepsLaws.bitI rfl)
    with_reducible refine KeepsLaws.stepSetBit ?_ (KeepsLaws.bitI rfl)
    exact KeepsLaws.refl ..

theorem State.underrun_keeps (s : State) (h : ℕ) (l : ℕ) (y : ℕ) :
    Keeps 74449164 46077677787479011400871809854749000067566390535996326414905866262468653071105551568896 s (State.underrun s h l y) := by
  unfold State.underrun
  with_reducible refine KeepsLaws.comp ?_ (State.fault_keeps ..) (KeepsLaws.subI rfl rfl)
  with_reducible refine KeepsLaws.comp ?_ (State.eventPerSec_keeps ..) (KeepsLaws.subI rfl rfl)
  with_reducible refine KeepsLaws.stepBumpSat ?_ (KeepsLaws.bitI rfl)
  exact KeepsLaws.refl ..

theorem execLyPalette_keeps (r : Req) (b : Body) (s : State) :
    KeepsO 267752796 1065974318030748833501329694031722078896330101259178583557392446823361245498114777120968943407104 s (execLyPalette r b s) := by
  unfold execLyPalette
  extract_lets
  rename_i e0 e1
  with_reducible refine KeepsLaws.command (KeepsLaws.subI rfl rfl) (fun x => ?_)
  unfold Sys2Proof.Machine.State.holdOrCommit
  extract_lets
  rename_i e2
  have h_e2 : Keeps 267752796 1065974318030748833501329694031722078896330101259178583557392446823361245498114777120968943407104 x e2 := by
    unfold e2
    with_reducible refine KeepsLaws.comp ?_ (State.hold_keeps ..) (KeepsLaws.subI rfl rfl)
    exact KeepsLaws.refl ..
  clear_value e2
  with_reducible refine KeepsLaws.iteA ?_ ?_
  · with_reducible refine KeepsLaws.doneA ?_
    assumption
  · unfold Sys2Proof.Machine.State.commit
    extract_lets
    rename_i e3 e4 e5
    split
    · with_reducible refine KeepsLaws.refuseA ?_
      with_reducible refine KeepsLaws.foldl (fun x a => ?_) ?_
      · with_reducible refine KeepsLaws.comp ?_ (State.discardHeld_keeps ..) (KeepsLaws.subI rfl rfl)
        exact KeepsLaws.refl ..
      · assumption
    · with_reducible refine KeepsLaws.iteA ?_ ?_
      · with_reducible refine KeepsLaws.nowA ?_
        assumption
      · split
        with_reducible refine KeepsLaws.laterA ?_
        with_reducible refine KeepsLaws.foldl (fun x a => ?_) ?_
        · extract_lets
          rename_i e6
          with_reducible refine KeepsLaws.comp ?_ (State.armHead_keeps ..) (KeepsLaws.subI rfl rfl)
          with_reducible refine KeepsLaws.comp ?_ (State.setHead_keeps ..) (KeepsLaws.subI rfl rfl)
          exact KeepsLaws.refl ..
        · with_reducible refine KeepsLaws.ofSnd (by assumption) ?_
          with_reducible refine KeepsLaws.comp ?_ (State.newWaiter_keeps ..) (KeepsLaws.subI rfl rfl)
          with_reducible refine KeepsLaws.comp ?_ (State.powerUpAll_keeps ..) (KeepsLaws.subI rfl rfl)
          assumption

theorem execHdCompose_keeps (r : Req) (b : Body) (table : List Byte) (s : State) :
    KeepsO 267752796 1065974318030748833501329694031722078896330101259178583557392446823361245498114777120968943407104 s (execHdCompose r b table s) := by
  unfold execHdCompose
  extract_lets
  rename_i e0 e1 e2
  with_reducible refine KeepsLaws.command (KeepsLaws.subI rfl rfl) (fun x => ?_)
  unfold Sys2Proof.Machine.State.holdOrCommit
  extract_lets
  rename_i e3
  have h_e3 : Keeps 267752796 1065974318030748833501329694031722078896330101259178583557392446823361245498114777120968943407104 x e3 := by
    unfold e3
    with_reducible refine KeepsLaws.comp ?_ (State.hold_keeps ..) (KeepsLaws.subI rfl rfl)
    exact KeepsLaws.refl ..
  clear_value e3
  with_reducible refine KeepsLaws.iteA ?_ ?_
  · with_reducible refine KeepsLaws.doneA ?_
    assumption
  · unfold Sys2Proof.Machine.State.commit
    extract_lets
    rename_i e4 e5 e6
    split
    · with_reducible refine KeepsLaws.refuseA ?_
      with_reducible refine KeepsLaws.foldl (fun x a => ?_) ?_
      · with_reducible refine KeepsLaws.comp ?_ (State.discardHeld_keeps ..) (KeepsLaws.subI rfl rfl)
        exact KeepsLaws.refl ..
      · assumption
    · with_reducible refine KeepsLaws.iteA ?_ ?_
      · with_reducible refine KeepsLaws.nowA ?_
        assumption
      · split
        with_reducible refine KeepsLaws.laterA ?_
        with_reducible refine KeepsLaws.foldl (fun x a => ?_) ?_
        · extract_lets
          rename_i e7
          with_reducible refine KeepsLaws.comp ?_ (State.armHead_keeps ..) (KeepsLaws.subI rfl rfl)
          with_reducible refine KeepsLaws.comp ?_ (State.setHead_keeps ..) (KeepsLaws.subI rfl rfl)
          exact KeepsLaws.refl ..
        · with_reducible refine KeepsLaws.ofSnd (by assumption) ?_
          with_reducible refine KeepsLaws.comp ?_ (State.newWaiter_keeps ..) (KeepsLaws.subI rfl rfl)
          with_reducible refine KeepsLaws.comp ?_ (State.powerUpAll_keeps ..) (KeepsLaws.subI rfl rfl)
          assumption

theorem execLyColour_keeps (r : Req) (b : Body) (table : List Byte) (s : State) :
    KeepsO 267752796 1065974318030748833501329694031722078896330101259178583557392446823361245498114777120968943407104 s (execLyColour r b table s) := by
  unfold execLyColour
  extract_lets
  rename_i e0 e1 e2
  with_reducible refine KeepsLaws.command (KeepsLaws.subI rfl rfl) (fun x => ?_)
  unfold Sys2Proof.Machine.State.holdOrCommit
  extract_lets
  rename_i e3
  have h_e3 : Keeps 267752796 1065974318030748833501329694031722078896330101259178583557392446823361245498114777120968943407104 x e3 := by
    unfold e3
    with_reducible refine KeepsLaws.comp ?_ (State.hold_keeps ..) (KeepsLaws.subI rfl rfl)
    exact KeepsLaws.refl ..
  clear_value e3
  with_reducible refine KeepsLaws.iteA ?_ ?_
  · with_reducible refine KeepsLaws.doneA ?_
    assumption
  · unfold Sys2Proof.Machine.State.commit
    extract_lets
    rename_i e4 e5 e6
    split
    · with_reducible refine KeepsLaws.refuseA ?_
      with_reducible refine KeepsLaws.foldl (fun x a => ?_) ?_
      · with_reducible refine KeepsLaws.comp ?_ (State.discardHeld_keeps ..) (KeepsLaws.subI rfl rfl)
        exact KeepsLaws.refl ..
      · assumption
    · with_reducible refine KeepsLaws.iteA ?_ ?_
      · with_reducible refine KeepsLaws.nowA ?_
        assumption
      · split
        with_reducible refine KeepsLaws.laterA ?_
        with_reducible refine KeepsLaws.foldl (fun x a => ?_) ?_
        · extract_lets
          rename_i e7
          with_reducible refine KeepsLaws.comp ?_ (State.armHead_keeps ..) (KeepsLaws.subI rfl rfl)
          with_reducible refine KeepsLaws.comp ?_ (State.setHead_keeps ..) (KeepsLaws.subI rfl rfl)
          exact KeepsLaws.refl ..
        · with_reducible refine KeepsLaws.ofSnd (by assumption) ?_
          with_reducible refine KeepsLaws.comp ?_ (State.newWaiter_keeps ..) (KeepsLaws.subI rfl rfl)
          with_reducible refine KeepsLaws.comp ?_ (State.powerUpAll_keeps ..) (KeepsLaws.subI rfl rfl)
          assumption

theorem execGfxPool_keeps (r : Req) (b : Body) (s : State) :
    KeepsO 33652764 89202980794122492566142873090593446026608640 s (execGfxPool r b s) := by
  unfold execGfxPool
  extract_lets
  rename_i e0 e1 e2 e3 e4 e5 e6 e7 e8
  have h_e7 : Keeps 33652764 89202980794122492566142873090593446026608640 s e7 := by
    unfold e7
    with_reducible refine KeepsLaws.ite ?_ ?_
    · with_reducible refine KeepsLaws.comp ?_ (State.freePool_keeps ..) (KeepsLaws.subI rfl rfl)
      exact KeepsLaws.refl ..
    · exact KeepsLaws.refl ..
  clear_value e7
  with_reducible refine KeepsLaws.command (KeepsLaws.subI rfl rfl) (fun x => ?_)
  extract_lets
  rename_i e9
  have h_e9 : Keeps 33652764 89202980794122492566142873090593446026608640 x e9 := by
    unfold e9
    with_reducible refine KeepsLaws.ite ?_ ?_
    · with_reducible refine KeepsLaws.comp ?_ (State.freePool_keeps ..) (KeepsLaws.subI rfl rfl)
      exact KeepsLaws.refl ..
    · exact KeepsLaws.refl ..
  clear_value e9
  with_reducible refine KeepsLaws.iteA ?_ ?_
  · with_reducible refine KeepsLaws.doneA ?_
    with_reducible refine KeepsLaws.comp ?_ (State.showGfx_keeps ..) (KeepsLaws.subI rfl rfl)
    assumption
  · split
    · with_reducible refine KeepsLaws.nowA ?_
      exact KeepsLaws.refl ..
    · with_reducible refine KeepsLaws.doneA ?_
      with_reducible refine KeepsLaws.comp ?_ (State.showGfx_keeps ..) (KeepsLaws.subI rfl rfl)
      with_reducible refine KeepsLaws.comp ?_ (State.setPool_keeps ..) (KeepsLaws.subI rfl rfl)
      with_reducible refine KeepsLaws.comp ?_ (KeepsLaws.ofOptP (by assumption) (State.allocMany_keeps ..)) (KeepsLaws.subI rfl rfl)
      assumption

theorem execCmpDiscard_keeps (r : Req) (b : Body) (s : State) :
    KeepsO 1048604 274031556999544297163190906134303066185490042880 s (execCmpDiscard r b s) := by
  unfold execCmpDiscard
  extract_lets
  rename_i e0
  with_reducible refine KeepsLaws.command (KeepsLaws.subI rfl rfl) (fun x => ?_)
  with_reducible refine KeepsLaws.doneA ?_
  with_reducible refine KeepsLaws.foldl (fun x a => ?_) ?_
  · with_reducible refine KeepsLaws.comp ?_ (State.discardHeld_keeps ..) (KeepsLaws.subI rfl rfl)
    exact KeepsLaws.refl ..
  · exact KeepsLaws.refl ..

theorem execCmpCommit_keeps (r : Req) (b : Body) (s : State) :
    KeepsO 267752796 1065974318030748833501329694031722078896330101259178583557392446823361245498114777120968943407104 s (execCmpCommit r b s) := by
  unfold execCmpCommit
  extract_lets
  rename_i e0 e1 e2
  with_reducible refine KeepsLaws.command (KeepsLaws.subI rfl rfl) (fun x => ?_)
  unfold Sys2Proof.Machine.State.commit
  extract_lets
  rename_i e3 e4 e5
  split
  · with_reducible refine KeepsLaws.refuseA ?_
    with_reducible refine KeepsLaws.foldl (fun x a => ?_) ?_
    · with_reducible refine KeepsLaws.comp ?_ (State.discardHeld_keeps ..) (KeepsLaws.subI rfl rfl)
      exact KeepsLaws.refl ..
    · exact KeepsLaws.refl ..
  · with_reducible refine KeepsLaws.iteA ?_ ?_
    · with_reducible refine KeepsLaws.nowA ?_
      exact KeepsLaws.refl ..
    · split
      with_reducible refine KeepsLaws.laterA ?_
      with_reducible refine KeepsLaws.foldl (fun x a => ?_) ?_
      · extract_lets
        rename_i e6
        with_reducible refine KeepsLaws.comp ?_ (State.armHead_keeps ..) (KeepsLaws.subI rfl rfl)
        with_reducible refine KeepsLaws.comp ?_ (State.setHead_keeps ..) (KeepsLaws.subI rfl rfl)
        exact KeepsLaws.refl ..
      · with_reducible refine KeepsLaws.ofSnd (by assumption) ?_
        with_reducible refine KeepsLaws.comp ?_ (State.newWaiter_keeps ..) (KeepsLaws.subI rfl rfl)
        with_reducible refine KeepsLaws.comp ?_ (State.powerUpAll_keeps ..) (KeepsLaws.subI rfl rfl)
        exact KeepsLaws.refl ..

theorem execCnyHeadStyle_keeps (r : Req) (b : Body) (s : State) :
    KeepsO 267752796 1065974318030748833501329694031722078896330101259178583557392446823361245498114777120968943407104 s (execCnyHeadStyle r b s) := by
  unfold execCnyHeadStyle
  extract_lets
  rename_i e0 e1 e2
  with_reducible refine KeepsLaws.command (KeepsLaws.subI rfl rfl) (fun x => ?_)
  unfold Sys2Proof.Machine.State.armOne
  split
  with_reducible refine KeepsLaws.laterA ?_
  with_reducible refine KeepsLaws.comp ?_ (State.armHead_keeps ..) (KeepsLaws.subI rfl rfl)
  with_reducible refine KeepsLaws.ofSnd (by assumption) ?_
  with_reducible refine KeepsLaws.comp ?_ (State.newWaiter_keeps ..) (KeepsLaws.subI rfl rfl)
  with_reducible refine KeepsLaws.comp ?_ (State.powerUpAll_keeps ..) (KeepsLaws.subI rfl rfl)
  exact KeepsLaws.refl ..

theorem execLyConfig_keeps (r : Req) (b : Body) (s : State) :
    KeepsO 267752796 1065974318030748833501329694031722078896330101259178583557392446823361245498114777120968943407104 s (execLyConfig r b s) := by
  unfold execLyConfig
  extract_lets
  rename_i e0 e1
  with_reducible refine KeepsLaws.command (KeepsLaws.subI rfl rfl) (fun x => ?_)
  unfold Sys2Proof.Machine.State.holdOrCommit
  extract_lets
  rename_i e2
  have h_e2 : Keeps 267752796 1065974318030748833501329694031722078896330101259178583557392446823361245498114777120968943407104 x e2 := by
    unfold e2
    with_reducible refine KeepsLaws.comp ?_ (State.hold_keeps ..) (KeepsLaws.subI rfl rfl)
    exact KeepsLaws.refl ..
  clear_value e2
  with_reducible refine KeepsLaws.iteA ?_ ?_
  · with_reducible refine KeepsLaws.doneA ?_
    assumption
  · unfold Sys2Proof.Machine.State.commit
    extract_lets
    rename_i e3 e4 e5
    split
    · with_reducible refine KeepsLaws.refuseA ?_
      with_reducible refine KeepsLaws.foldl (fun x a => ?_) ?_
      · with_reducible refine KeepsLaws.comp ?_ (State.discardHeld_keeps ..) (KeepsLaws.subI rfl rfl)
        exact KeepsLaws.refl ..
      · assumption
    · with_reducible refine KeepsLaws.iteA ?_ ?_
      · with_reducible refine KeepsLaws.nowA ?_
        assumption
      · split
        with_reducible refine KeepsLaws.laterA ?_
        with_reducible refine KeepsLaws.foldl (fun x a => ?_) ?_
        · extract_lets
          rename_i e6
          with_reducible refine KeepsLaws.comp ?_ (State.armHead_keeps ..) (KeepsLaws.subI rfl rfl)
          with_reducible refine KeepsLaws.comp ?_ (State.setHead_keeps ..) (KeepsLaws.subI rfl rfl)
          exact KeepsLaws.refl ..
        · with_reducible refine KeepsLaws.ofSnd (by assumption) ?_
          with_reducible refine KeepsLaws.comp ?_ (State.newWaiter_keeps ..) (KeepsLaws.subI rfl rfl)
          with_reducible refine KeepsLaws.comp ?_ (State.powerUpAll_keeps ..) (KeepsLaws.subI rfl rfl)
          assumption

theorem execGfxUpload_keeps (r : Req) (b : Body) (data : List Byte) (s : State) :
    KeepsO 32796 89202980794122492566142873090593446026608640 s (execGfxUpload r b data s) := by
  unfold execGfxUpload
  extract_lets
  rename_i e0 e1 e2 e3 e4 e5 e6 e7 e8
  with_reducible refine KeepsLaws.command (KeepsLaws.subI rfl rfl) (fun x => ?_)
  clear_value e8
  split
  · with_reducible refine KeepsLaws.nowA ?_
    exact KeepsLaws.refl ..
  · extract_lets
    rename_i e9 e10 e11 e12 e13 e14
    with_reducible refine KeepsLaws.nowA ?_
    with_reducible refine KeepsLaws.comp ?_ (State.showGfx_keeps ..) (KeepsLaws.subI rfl rfl)
    with_reducible refine KeepsLaws.comp ?_ (State.setPool_keeps ..) (KeepsLaws.subI rfl rfl)
    with_reducible refine KeepsLaws.comp ?_ (KeepsLaws.drawn ..) (KeepsLaws.subI rfl rfl)
    exact KeepsLaws.refl ..

theorem execCnyStill_keeps (r : Req) (b : Body) (s : State) :
    KeepsO 267752796 1065974318030748833501329694031722078896330101259178583557392446823361245498114777120968943407104 s (execCnyStill r b s) := by
  unfold execCnyStill
  extract_lets
  rename_i e0 e1 e2 e3 e4 e5
  with_reducible refine KeepsLaws.command (KeepsLaws.subI rfl rfl) (fun x => ?_)
  unfold Sys2Proof.Machine.State.armOne
  split
  with_reducible refine KeepsLaws.laterA ?_
  with_reducible refine KeepsLaws.comp ?_ (State.armHead_keeps ..) (KeepsLaws.subI rfl rfl)
  with_reducible refine KeepsLaws.ofSnd (by assumption) ?_
  with_reducible refine KeepsLaws.comp ?_ (State.newWaiter_keeps ..) (KeepsLaws.subI rfl rfl)
  with_reducible refine KeepsLaws.comp ?_ (State.powerUpAll_keeps ..) (KeepsLaws.subI rfl rfl)
  exact KeepsLaws.refl ..

theorem execLineCompose_keeps (h : Fin 24) (late : BitVec 8) (residue : Fin 3) (s : State) :
    KeepsO 74449164 46077677787479011400871809854749000067931766468002767735018267350391120841215507501056 s (execLineCompose h late residue s) := by
  unfold execLineCompose
  extract_lets
  rename_i e0 e1 e2
  with_reducible refine KeepsLaws.iteO ?_ ?_
  · with_reducible refine KeepsLaws.next ?_
    exact KeepsLaws.refl ..
  · split
    extract_lets
    rename_i e3 e4 e5 e6 e7
    have h_e4 : Keeps 74449164 46077677787479011400871809854749000067931766468002767735018267350391120841215507501056 s e4 := by
      unfold e4
      with_reducible refine KeepsLaws.foldl (fun x a => ?_) ?_
      · with_reducible refine KeepsLaws.comp ?_ (State.modLayer_keeps ..) (KeepsLaws.subI rfl rfl)
        exact KeepsLaws.refl ..
      · with_reducible refine KeepsLaws.ite ?_ ?_
        · exact KeepsLaws.refl ..
        · with_reducible refine KeepsLaws.comp ?_ (KeepsLaws.drawn ..) (KeepsLaws.subI rfl rfl)
          exact KeepsLaws.refl ..
    clear_value e4
    have h_e5 : Keeps 74449164 46077677787479011400871809854749000067931766468002767735018267350391120841215507501056 s e5 := by
      unfold e5
      with_reducible refine KeepsLaws.comp ?_ (State.flatten_keeps ..) (KeepsLaws.subI rfl rfl)
      with_reducible refine KeepsLaws.comp ?_ (State.modHead_keeps ..) (KeepsLaws.subI rfl rfl)
      assumption
    clear_value e5
    have h_e6 : Keeps 74449164 46077677787479011400871809854749000067931766468002767735018267350391120841215507501056 s e6 := by
      unfold e6
      with_reducible refine KeepsLaws.foldl (fun x a => ?_) ?_
      · with_reducible refine KeepsLaws.comp ?_ (State.underrun_keeps ..) (KeepsLaws.subI rfl rfl)
        exact KeepsLaws.refl ..
      · assumption
    clear_value e6
    have h_e7 : Keeps 74449164 46077677787479011400871809854749000067931766468002767735018267350391120841215507501056 s e7 := by
      unfold e7
      with_reducible refine KeepsLaws.ite ?_ ?_
      · assumption
      · with_reducible refine KeepsLaws.comp ?_ (State.fault_keeps ..) (KeepsLaws.subI rfl rfl)
        assumption
    clear_value e7
    with_reducible refine KeepsLaws.next ?_
    with_reducible refine KeepsLaws.ite ?_ ?_
    · with_reducible refine KeepsLaws.comp ?_ (State.fault_keeps ..) (KeepsLaws.subI rfl rfl)
      assumption
    · assumption

end Sys2Proof.Machine
end

