-- ==== Sys2Proof/Laws/FrameConf.lean ====
section
/-! SUPPORT. What each operation of Machine/Conf.lean can change at most (Keeps): masks of fields and of registers. -/

namespace Sys2Proof.Machine

theorem execAudTx_keeps (r : Req) (b : Body) (s : State) :
    KeepsO 246486108 1065974306048913481878971270901677136270159599374277992804661243017823016271561210644245896564736 s (execAudTx r b s) := by
  unfold execAudTx
  extract_lets
  rename_i e0
  with_reducible refine KeepsLaws.command (KeepsLaws.subI rfl rfl) (fun x => ?_)
  with_reducible refine KeepsLaws.doneA ?_
  with_reducible refine KeepsLaws.comp ?_ (State.storeTaken_keeps ..) (KeepsLaws.subI rfl rfl)
  with_reducible refine KeepsLaws.comp ?_ (State.applyTx_keeps ..) (KeepsLaws.subI rfl rfl)
  with_reducible refine KeepsLaws.comp ?_ (State.powerUp_keeps ..) (KeepsLaws.subI rfl rfl)
  with_reducible refine KeepsLaws.ite ?_ ?_
  · with_reducible refine KeepsLaws.comp ?_ (State.powerUp_keeps ..) (KeepsLaws.subI rfl rfl)
    exact KeepsLaws.refl ..
  · exact KeepsLaws.refl ..

end Sys2Proof.Machine
end

