-- ==== Sys2Proof/Laws/FrameScan.lean ====
section
/-! SUPPORT. What each operation of Machine/Scan.lean can change at most (Keeps): masks of fields and of registers. -/

namespace Sys2Proof.Machine

theorem State.abandonHandover_keeps (s : State) :
    Keeps 4194332 2686976 s (State.abandonHandover s) := by
  unfold State.abandonHandover
  with_reducible refine KeepsLaws.foldl (fun x a => ?_) ?_
  · with_reducible refine KeepsLaws.comp ?_ (State.replyR_keeps ..) (KeepsLaws.subI rfl rfl)
    exact KeepsLaws.refl ..
  · with_reducible refine KeepsLaws.comp ?_ (KeepsLaws.upd_pair ..) (KeepsLaws.subI rfl rfl)
    exact KeepsLaws.refl ..

theorem State.startDrill_keeps (s : State) (w : Waiter) (hold : ℕ) (hatch : ℕ) :
    Keeps 5242880 31082702275611665134711390509176302506369853277167413772416728857867236252011831754752 s (State.startDrill s w hold hatch) := by
  unfold State.startDrill
  with_reducible refine KeepsLaws.foldl (fun x a => ?_) ?_
  · with_reducible refine KeepsLaws.comp ?_ (State.modHead_keeps ..) (KeepsLaws.subI rfl rfl)
    exact KeepsLaws.refl ..
  · with_reducible refine KeepsLaws.stepSetBit ?_ (KeepsLaws.bitI rfl)
    with_reducible refine KeepsLaws.comp ?_ (KeepsLaws.upd_pair ..) (KeepsLaws.subI rfl rfl)
    exact KeepsLaws.refl ..

theorem State.drillEnd_keeps (s : State) (h : ℕ) (passed : Bool) (aborted : Bool) :
    Keeps 5242908 31082702275611665134711390509176302506369853277167413772416728857867236252011834445824 s (State.drillEnd s h passed aborted) := by
  unfold State.drillEnd
  extract_lets
  rename_i e0 e1
  have h_e0 : Keeps 5242908 31082702275611665134711390509176302506369853277167413772416728857867236252011834445824 s e0 := by
    unfold e0
    with_reducible refine KeepsLaws.comp ?_ (State.modHead_keeps ..) (KeepsLaws.subI rfl rfl)
    exact KeepsLaws.refl ..
  clear_value e0
  split
  · assumption
  · extract_lets
    rename_i e2 e3 e4 e5
    have h_e4 : Keeps 5242908 31082702275611665134711390509176302506369853277167413772416728857867236252011834445824 s e4 := by
      unfold e4
      with_reducible refine KeepsLaws.comp ?_ (State.event_keeps ..) (KeepsLaws.subI rfl rfl)
      with_reducible refine KeepsLaws.comp ?_ (State.replyR_keeps ..) (KeepsLaws.subI rfl rfl)
      with_reducible refine KeepsLaws.stepSetBit ?_ (KeepsLaws.bitI rfl)
      with_reducible refine KeepsLaws.comp ?_ (KeepsLaws.upd_pair ..) (KeepsLaws.subI rfl rfl)
      assumption
    clear_value e4
    with_reducible refine KeepsLaws.ite ?_ ?_
    · split
      · with_reducible refine KeepsLaws.comp ?_ (State.startDrill_keeps ..) (KeepsLaws.subI rfl rfl)
        with_reducible refine KeepsLaws.comp ?_ (KeepsLaws.upd_pair ..) (KeepsLaws.subI rfl rfl)
        assumption
      · assumption
    · with_reducible refine KeepsLaws.comp ?_ (KeepsLaws.upd_pair ..) (KeepsLaws.subI rfl rfl)
      assumption

theorem State.abortDrills_keeps (s : State) :
    Keeps 5242908 31082702275611665134711390509176302506369853277167413772416728857867236252011834445824 s (State.abortDrills s) := by
  unfold State.abortDrills
  extract_lets
  rename_i e0 e1 e2 e3
  have h_e2 : Keeps 5242908 31082702275611665134711390509176302506369853277167413772416728857867236252011834445824 s e2 := by
    unfold e2
    with_reducible refine KeepsLaws.comp ?_ (KeepsLaws.upd_pair ..) (KeepsLaws.subI rfl rfl)
    exact KeepsLaws.refl ..
  clear_value e2
  have h_e3 : Keeps 5242908 31082702275611665134711390509176302506369853277167413772416728857867236252011834445824 s e3 := by
    unfold e3
    split
    · assumption
    · with_reducible refine KeepsLaws.foldl (fun x a => ?_) ?_
      · with_reducible refine KeepsLaws.comp ?_ (State.drillEnd_keeps ..) (KeepsLaws.subI rfl rfl)
        exact KeepsLaws.refl ..
      · assumption
  clear_value e3
  with_reducible refine KeepsLaws.foldl (fun x a => ?_) ?_
  · extract_lets
    rename_i e4
    with_reducible refine KeepsLaws.comp ?_ (State.event_keeps ..) (KeepsLaws.subI rfl rfl)
    with_reducible refine KeepsLaws.comp ?_ (State.replyR_keeps ..) (KeepsLaws.subI rfl rfl)
    exact KeepsLaws.refl ..
  · assumption

theorem State.alignHead_keeps (s : State) (h : ℕ) (b0 : ℤ) :
    Keeps 1048588 617064208995452357865589622993418767627970979105028745443479552 s (State.alignHead s h b0) := by
  unfold State.alignHead
  extract_lets
  rename_i e0 e1 e2 e3 e4 e5 e6 e7 e8 e9
  have h_e4 : Keeps 1048588 617064208995452357865589622993418767627970979105028745443479552 s e4 := by
    unfold e4
    unfold e1
    with_reducible refine KeepsLaws.stepSetBits ?_ (KeepsLaws.bitI rfl)
    with_reducible refine KeepsLaws.comp ?_ (State.modHead_keeps ..) (KeepsLaws.subI rfl rfl)
    exact KeepsLaws.refl ..
  clear_value e4
  have h_e5 : Keeps 1048588 617064208995452357865589622993418767627970979105028745443479552 s e5 := by
    unfold e5
    with_reducible refine KeepsLaws.stepReg ?_ (KeepsLaws.bitI rfl)
    assumption
  clear_value e5
  have h_e7 : Keeps 1048588 617064208995452357865589622993418767627970979105028745443479552 s e7 := by
    unfold e7
    with_reducible refine KeepsLaws.ite ?_ ?_
    · with_reducible refine KeepsLaws.stepBumpSat ?_ (KeepsLaws.bitI rfl)
      assumption
    · assumption
  clear_value e7
  with_reducible refine KeepsLaws.ite ?_ ?_
  · unfold e1
    with_reducible refine KeepsLaws.stepSetBits ?_ (KeepsLaws.bitI rfl)
    with_reducible refine KeepsLaws.comp ?_ (State.modHead_keeps ..) (KeepsLaws.subI rfl rfl)
    exact KeepsLaws.refl ..
  · with_reducible refine KeepsLaws.ite ?_ ?_
    · with_reducible refine KeepsLaws.ite ?_ ?_
      · with_reducible refine KeepsLaws.comp ?_ (State.event_keeps ..) (KeepsLaws.subI rfl rfl)
        with_reducible refine KeepsLaws.comp ?_ (State.modHead_keeps ..) (KeepsLaws.subI rfl rfl)
        assumption
      · with_reducible refine KeepsLaws.comp ?_ (State.modHead_keeps ..) (KeepsLaws.subI rfl rfl)
        assumption
    · assumption

theorem State.unpinHead_keeps (s : State) (h : ℕ) :
    Keeps 33652736 1298074214633706907132624082305024 s (State.unpinHead s h) := by
  unfold State.unpinHead
  with_reducible refine KeepsLaws.foldl (fun x a => ?_) ?_
  · extract_lets
    rename_i e0
    have h_e0 : Keeps 33652736 1298074214633706907132624082305024 x e0 := by
      unfold e0
      with_reducible refine KeepsLaws.comp ?_ (State.collect_keeps ..) (KeepsLaws.subI rfl rfl)
      with_reducible refine KeepsLaws.comp ?_ (State.modPool_keeps ..) (KeepsLaws.subI rfl rfl)
      exact KeepsLaws.refl ..
    clear_value e0
    with_reducible refine KeepsLaws.ite ?_ ?_
    · with_reducible refine KeepsLaws.comp ?_ (State.showPool_keeps ..) (KeepsLaws.subI rfl rfl)
      assumption
    · assumption
  · exact KeepsLaws.refl ..

theorem State.stopHead_keeps (s : State) (h : ℕ) :
    Keeps 34701580 23840747723879789377038236279612670175053624184832 s (State.stopHead s h) := by
  unfold State.stopHead
  extract_lets
  rename_i e0 e1 e2
  have h_e0 : Keeps 34701580 23840747723879789377038236279612670175053624184832 s e0 := by
    unfold e0
    with_reducible refine KeepsLaws.foldl (fun x a => ?_) ?_
    · with_reducible refine KeepsLaws.comp ?_ (State.reportGlyph_keeps ..) (KeepsLaws.subI rfl rfl)
      with_reducible refine KeepsLaws.comp ?_ (State.modLayer_keeps ..) (KeepsLaws.subI rfl rfl)
      exact KeepsLaws.refl ..
    · exact KeepsLaws.refl ..
  clear_value e0
  have h_e2 : Keeps 34701580 23840747723879789377038236279612670175053624184832 s e2 := by
    unfold e2
    with_reducible refine KeepsLaws.comp ?_ (State.modHead_keeps ..) (KeepsLaws.subI rfl rfl)
    with_reducible refine KeepsLaws.comp ?_ (State.unpinHead_keeps ..) (KeepsLaws.subI rfl rfl)
    assumption
  clear_value e2
  with_reducible refine KeepsLaws.foldl (fun x a => ?_) ?_
  · extract_lets
    rename_i e3
    with_reducible refine KeepsLaws.stepReg ?_ (KeepsLaws.bitI rfl)
    with_reducible refine KeepsLaws.stepReg ?_ (KeepsLaws.bitI rfl)
    with_reducible refine KeepsLaws.stepSetBits ?_ (KeepsLaws.bitI rfl)
    with_reducible refine KeepsLaws.stepSetBit ?_ (KeepsLaws.bitI rfl)
    with_reducible refine KeepsLaws.stepSetBits ?_ (KeepsLaws.bitI rfl)
    exact KeepsLaws.refl ..
  · with_reducible refine KeepsLaws.foldl (fun x a => ?_) ?_
    · with_reducible refine KeepsLaws.ite ?_ ?_
      · with_reducible refine KeepsLaws.stepSetBit ?_ (KeepsLaws.bitI rfl)
        exact KeepsLaws.refl ..
      · exact KeepsLaws.refl ..
    · with_reducible refine KeepsLaws.stepSetBit ?_ (KeepsLaws.bitI rfl)
      with_reducible refine KeepsLaws.comp ?_ (State.dropFlat_keeps ..) (KeepsLaws.subI rfl rfl)
      assumption

theorem State.joinGang_keeps (s : State) (k : ℕ) :
    Keeps 34701596 23887138849079032705828415957549347835074023329792 s (State.joinGang s k) := by
  unfold State.joinGang
  extract_lets
  rename_i e0 e1 e2 e3 e4
  have h_e1 : Keeps 34701596 23887138849079032705828415957549347835074023329792 s e1 := by
    unfold e1
    with_reducible refine KeepsLaws.foldl (fun x a => ?_) ?_
    · with_reducible refine KeepsLaws.ite ?_ ?_
      · with_reducible refine KeepsLaws.comp ?_ (State.endStill_keeps ..) (KeepsLaws.subI rfl rfl)
        exact KeepsLaws.refl ..
      · exact KeepsLaws.refl ..
    · exact KeepsLaws.refl ..
  clear_value e1
  have h_e2 : Keeps 34701596 23887138849079032705828415957549347835074023329792 s e2 := by
    unfold e2
    with_reducible refine KeepsLaws.foldl (fun x a => ?_) ?_
    · split
      · with_reducible refine KeepsLaws.comp ?_ (State.stepWaiter_keeps ..) (KeepsLaws.subI rfl rfl)
        exact KeepsLaws.refl ..
      · exact KeepsLaws.refl ..
    · assumption
  clear_value e2
  have h_e3 : Keeps 34701596 23887138849079032705828415957549347835074023329792 s e3 := by
    unfold e3
    split
    · with_reducible refine KeepsLaws.comp ?_ (State.release_keeps ..) (KeepsLaws.subI rfl rfl)
      assumption
    · assumption
  clear_value e3
  have h_e4 : Keeps 34701596 23887138849079032705828415957549347835074023329792 s e4 := by
    unfold e4
    with_reducible refine KeepsLaws.comp ?_ (State.modHead_keeps ..) (KeepsLaws.subI rfl rfl)
    assumption
  clear_value e4
  with_reducible refine KeepsLaws.comp ?_ (State.showHead_keeps ..) (KeepsLaws.subI rfl rfl)
  with_reducible refine KeepsLaws.comp ?_ (State.showSet_keeps ..) (KeepsLaws.subI rfl rfl)
  with_reducible refine KeepsLaws.comp ?_ (State.stopHead_keeps ..) (KeepsLaws.subI rfl rfl)
  assumption

theorem State.handoverStep_keeps (s : State) (h : ℕ) :
    Keeps 5767196 12961486848930064361174649842326518145118229774008208067224480128080014158578017037258752 s (State.handoverStep s h) := by
  unfold State.handoverStep
  split
  · exact KeepsLaws.refl ..
  · with_reducible refine KeepsLaws.ite ?_ ?_
    · exact KeepsLaws.refl ..
    · with_reducible refine KeepsLaws.ite ?_ ?_
      · with_reducible refine KeepsLaws.ite ?_ ?_
        · extract_lets
          rename_i e0 e1
          have h_e1 : Keeps 5767196 12961486848930064361174649842326518145118229774008208067224480128080014158578017037258752 s e1 := by
            unfold e1
            with_reducible refine KeepsLaws.comp ?_ (State.resumeChans_keeps ..) (KeepsLaws.subI rfl rfl)
            with_reducible refine KeepsLaws.stepBumpWrap ?_ (KeepsLaws.bitI rfl)
            with_reducible refine KeepsLaws.comp ?_ (State.setDutyOut_keeps ..) (KeepsLaws.subI rfl rfl)
            with_reducible refine KeepsLaws.comp ?_ (KeepsLaws.upd_pair ..) (KeepsLaws.subI rfl rfl)
            exact KeepsLaws.refl ..
          clear_value e1
          with_reducible refine KeepsLaws.comp ?_ (State.abortDrills_keeps ..) (KeepsLaws.subI rfl rfl)
          with_reducible refine KeepsLaws.comp ?_ (State.setPairState_keeps ..) (KeepsLaws.subI rfl rfl)
          assumption
        · exact KeepsLaws.refl ..
      · with_reducible refine KeepsLaws.ite ?_ ?_
        · with_reducible refine KeepsLaws.comp ?_ (State.abandonHandover_keeps ..) (KeepsLaws.subI rfl rfl)
          exact KeepsLaws.refl ..
        · exact KeepsLaws.refl ..

theorem State.drillStep_keeps (s : State) (h : ℕ) :
    Keeps 74449180 46077677787479011400871809854749000067566345934505929353659583191032107774382541705216 s (State.drillStep s h) := by
  unfold State.drillStep
  extract_lets
  rename_i e0 e1 e2 e3 e4
  have h_e4 : Keeps 74449180 46077677787479011400871809854749000067566345934505929353659583191032107774382541705216 s e4 := by
    unfold e4
    with_reducible refine KeepsLaws.comp ?_ (State.setHead_keeps ..) (KeepsLaws.subI rfl rfl)
    exact KeepsLaws.refl ..
  clear_value e4
  split
  · with_reducible refine KeepsLaws.comp ?_ (State.setHead_keeps ..) (KeepsLaws.subI rfl rfl)
    exact KeepsLaws.refl ..
  · with_reducible refine KeepsLaws.ite ?_ ?_
    · with_reducible refine KeepsLaws.comp ?_ (State.setHead_keeps ..) (KeepsLaws.subI rfl rfl)
      exact KeepsLaws.refl ..
    · with_reducible refine KeepsLaws.ite ?_ ?_
      · with_reducible refine KeepsLaws.comp ?_ (State.fault_keeps ..) (KeepsLaws.subI rfl rfl)
        assumption
      · assumption
  · with_reducible refine KeepsLaws.ite ?_ ?_
    · with_reducible refine KeepsLaws.comp ?_ (State.setHead_keeps ..) (KeepsLaws.subI rfl rfl)
      exact KeepsLaws.refl ..
    · with_reducible refine KeepsLaws.comp ?_ (State.drillEnd_keeps ..) (KeepsLaws.subI rfl rfl)
      exact KeepsLaws.refl ..
  · exact KeepsLaws.refl ..

theorem State.pushHist_keeps (s : State) (h : ℕ) :
    Keeps 1048576 91343852333181432387730302044767688728495783936 s (State.pushHist s h) := by
  unfold State.pushHist
  extract_lets
  rename_i e0 e1 e2
  with_reducible refine KeepsLaws.comp ?_ (State.setHead_keeps ..) (KeepsLaws.subI rfl rfl)
  exact KeepsLaws.refl ..

theorem State.freshLayer_keeps (s : State) (h : ℕ) (l : ℕ) :
    Keeps 1048844 91343852333181432387730302044776907033983651840 s (State.freshLayer s h l) := by
  unfold State.freshLayer
  extract_lets
  rename_i e0 e1 e2
  have h_e0 : Keeps 1048844 91343852333181432387730302044776907033983651840 s e0 := by
    unfold e0
    with_reducible refine KeepsLaws.comp ?_ (State.modLayer_keeps ..) (KeepsLaws.subI rfl rfl)
    exact KeepsLaws.refl ..
  clear_value e0
  with_reducible refine KeepsLaws.ite ?_ ?_
  · assumption
  · with_reducible refine KeepsLaws.comp ?_ (State.reportGlyph_keeps ..) (KeepsLaws.subI rfl rfl)
    with_reducible refine KeepsLaws.stepSetBits ?_ (KeepsLaws.bitI rfl)
    with_reducible refine KeepsLaws.stepSetBits ?_ (KeepsLaws.bitI rfl)
    with_reducible refine KeepsLaws.stepReg ?_ (KeepsLaws.bitI rfl)
    assumption

theorem State.noPool_keeps (s : State) (h : ℕ) (l : ℕ) (missing : Bool) (pool : ℕ) (t : ℕ) :
    Keeps 1048844 91343852333181432387730302044767688728496377856 s (State.noPool s h l missing pool t) := by
  unfold State.noPool
  with_reducible refine KeepsLaws.ite ?_ ?_
  · exact KeepsLaws.refl ..
  · with_reducible refine KeepsLaws.comp ?_ (State.eventLimited_keeps ..) (KeepsLaws.subI rfl rfl)
    with_reducible refine KeepsLaws.comp ?_ (State.modLayer_keeps ..) (KeepsLaws.subI rfl rfl)
    exact KeepsLaws.refl ..

theorem State.latchLayer_keeps (s : State) (h : ℕ) (l : ℕ) (t : ℕ) :
    Keeps 1081612 91343852333182730461944935751674821352578682880 s (State.latchLayer s h l t) := by
  unfold State.latchLayer
  extract_lets
  rename_i e0 e1 e2 e3 e4
  have h_e3 : Keeps 1081612 91343852333182730461944935751674821352578682880 s e3 := by
    unfold e3
    with_reducible refine KeepsLaws.comp ?_ (State.modLayer_keeps ..) (KeepsLaws.subI rfl rfl)
    exact KeepsLaws.refl ..
  clear_value e3
  have h_e4 : Keeps 1081612 91343852333182730461944935751674821352578682880 s e4 := by
    unfold e4
    with_reducible refine KeepsLaws.ite ?_ ?_
    · with_reducible refine KeepsLaws.comp ?_ (State.noPool_keeps ..) (KeepsLaws.subI rfl rfl)
      assumption
    · assumption
  clear_value e4
  with_reducible refine KeepsLaws.ite ?_ ?_
  · with_reducible refine KeepsLaws.comp ?_ (State.modLayer_keeps ..) (KeepsLaws.subI rfl rfl)
    exact KeepsLaws.refl ..
  · with_reducible refine KeepsLaws.ite ?_ ?_
    · assumption
    · split
      · extract_lets
        rename_i e5
        have h_e5 : Keeps 1081612 91343852333182730461944935751674821352578682880 s e5 := by
          unfold e5
          with_reducible refine KeepsLaws.comp ?_ (State.modLayer_keeps ..) (KeepsLaws.subI rfl rfl)
          with_reducible refine KeepsLaws.comp ?_ (State.modPool_keeps ..) (KeepsLaws.subI rfl rfl)
          assumption
        clear_value e5
        with_reducible refine KeepsLaws.ite ?_ ?_
        · with_reducible refine KeepsLaws.comp ?_ (State.showPool_keeps ..) (KeepsLaws.subI rfl rfl)
          assumption
        · assumption
      · with_reducible refine KeepsLaws.comp ?_ (State.modLayer_keeps ..) (KeepsLaws.subI rfl rfl)
        assumption

theorem State.geometry_keeps (s : State) (h : ℕ) (l : ℕ) :
    Keeps 1048576 91381484840703952814281643569352853207281303552 s (State.geometry s h l) := by
  unfold State.geometry
  extract_lets
  rename_i e0 e1 e2 e3 e4 e5 e6 e7 e8 e9 e10 e11 e12 e13
  have h_e10 : Keeps 1048576 91381484840703952814281643569352853207281303552 s e10 := by
    unfold e10
    with_reducible refine KeepsLaws.comp ?_ (State.modLayer_keeps ..) (KeepsLaws.subI rfl rfl)
    exact KeepsLaws.refl ..
  clear_value e10
  have h_e11 : Keeps 1048576 91381484840703952814281643569352853207281303552 s e11 := by
    unfold e11
    with_reducible refine KeepsLaws.stepSetBit ?_ (KeepsLaws.bitI rfl)
    with_reducible refine KeepsLaws.stepSetBit ?_ (KeepsLaws.bitI rfl)
    with_reducible refine KeepsLaws.stepSetBits ?_ (KeepsLaws.bitI rfl)
    with_reducible refine KeepsLaws.stepSetBit ?_ (KeepsLaws.bitI rfl)
    assumption
  clear_value e11
  have h_e12 : Keeps 1048576 91381484840703952814281643569352853207281303552 s e12 := by
    unfold e12
    with_reducible refine KeepsLaws.stepSetBits ?_ (KeepsLaws.bitI rfl)
    with_reducible refine KeepsLaws.stepSetBits ?_ (KeepsLaws.bitI rfl)
    with_reducible refine KeepsLaws.stepSetBit ?_ (KeepsLaws.bitI rfl)
    with_reducible refine KeepsLaws.stepSetBit ?_ (KeepsLaws.bitI rfl)
    with_reducible refine KeepsLaws.stepSetBits ?_ (KeepsLaws.bitI rfl)
    with_reducible refine KeepsLaws.stepSetBit ?_ (KeepsLaws.bitI rfl)
    assumption
  clear_value e12
  have h_e13 : Keeps 1048576 91381484840703952814281643569352853207281303552 s e13 := by
    unfold e13
    with_reducible refine KeepsLaws.stepReg ?_ (KeepsLaws.bitI rfl)
    with_reducible refine KeepsLaws.stepReg ?_ (KeepsLaws.bitI rfl)
    assumption
  clear_value e13
  with_reducible refine KeepsLaws.ite ?_ ?_
  · split
    with_reducible refine KeepsLaws.stepReg ?_ (KeepsLaws.bitI rfl)
    with_reducible refine KeepsLaws.ofSnd (by assumption) ?_
    with_reducible refine KeepsLaws.comp ?_ (KeepsLaws.drawn ..) (KeepsLaws.subI rfl rfl)
    assumption
  · with_reducible refine KeepsLaws.stepReg ?_ (KeepsLaws.bitI rfl)
    assumption

theorem State.sameness_keeps (s : State) (h : ℕ) :
    Keeps 1048576 456721526585341387705064322445225509491694370816 s (State.sameness s h) := by
  unfold State.sameness
  extract_lets
  rename_i e0 e1 e2 e3 e4 e5 e6 e7 e8
  have h_e1 : Keeps 1048576 456721526585341387705064322445225509491694370816 s e1 := by
    unfold e1
    with_reducible refine KeepsLaws.foldl (fun x a => ?_) ?_
    · extract_lets
      rename_i e9 e10
      with_reducible refine KeepsLaws.ite ?_ ?_
      · with_reducible refine KeepsLaws.comp ?_ (State.modLayer_keeps ..) (KeepsLaws.subI rfl rfl)
        exact KeepsLaws.refl ..
      · with_reducible refine KeepsLaws.comp ?_ (State.dropFlat_keeps ..) (KeepsLaws.subI rfl rfl)
        with_reducible refine KeepsLaws.comp ?_ (State.modLayer_keeps ..) (KeepsLaws.subI rfl rfl)
        exact KeepsLaws.refl ..
    · exact KeepsLaws.refl ..
  clear_value e1
  have h_e7 : Keeps 1048576 456721526585341387705064322445225509491694370816 s e7 := by
    unfold e7
    with_reducible refine KeepsLaws.comp ?_ (State.setHead_keeps ..) (KeepsLaws.subI rfl rfl)
    assumption
  clear_value e7
  have h_e8 : Keeps 1048576 456721526585341387705064322445225509491694370816 s e8 := by
    unfold e8
    with_reducible refine KeepsLaws.ite ?_ ?_
    · assumption
    · with_reducible refine KeepsLaws.comp ?_ (State.dropFlat_keeps ..) (KeepsLaws.subI rfl rfl)
      assumption
  clear_value e8
  with_reducible refine KeepsLaws.foldl (fun x a => ?_) ?_
  · extract_lets
    rename_i e11 e12
    with_reducible refine KeepsLaws.stepSetBit ?_ (KeepsLaws.bitI rfl)
    with_reducible refine KeepsLaws.stepSetBit ?_ (KeepsLaws.bitI rfl)
    exact KeepsLaws.refl ..
  · assumption

theorem State.predecimate_keeps (s : State) (h : ℕ) (l : ℕ) (t : ℕ) :
    Keeps 1048844 91345246129756340551676648027159799619834679296 s (State.predecimate s h l t) := by
  unfold State.predecimate
  extract_lets
  rename_i e0 e1 e2 e3 e4 e5 e6 e7 e8 e9 e10 e11
  have h_e11 : Keeps 1048844 91345246129756340551676648027159799619834679296 s e11 := by
    unfold e11
    with_reducible refine KeepsLaws.stepSetBits ?_ (KeepsLaws.bitI rfl)
    with_reducible refine KeepsLaws.stepSetBits ?_ (KeepsLaws.bitI rfl)
    with_reducible refine KeepsLaws.stepSetBit ?_ (KeepsLaws.bitI rfl)
    with_reducible refine KeepsLaws.stepSetBit ?_ (KeepsLaws.bitI rfl)
    with_reducible refine KeepsLaws.comp ?_ (State.modLayer_keeps ..) (KeepsLaws.subI rfl rfl)
    exact KeepsLaws.refl ..
  clear_value e11
  with_reducible refine KeepsLaws.ite ?_ ?_
  · assumption
  · with_reducible refine KeepsLaws.comp ?_ (State.eventLimited_keeps ..) (KeepsLaws.subI rfl rfl)
    assumption

theorem State.latchAll_keeps (s : State) (h : ℕ) (t : ℕ) :
    Keeps 34701580 456757765296290298041883951694334914146150715392 s (State.latchAll s h t) := by
  unfold State.latchAll
  extract_lets
  rename_i e0 e1 e2 e3
  have h_e0 : Keeps 34701580 456757765296290298041883951694334914146150715392 s e0 := by
    unfold e0
    with_reducible refine KeepsLaws.foldl (fun x a => ?_) ?_
    · with_reducible refine KeepsLaws.comp ?_ (State.latchLayer_keeps ..) (KeepsLaws.subI rfl rfl)
      exact KeepsLaws.refl ..
    · with_reducible refine KeepsLaws.comp ?_ (State.unpinHead_keeps ..) (KeepsLaws.subI rfl rfl)
      exact KeepsLaws.refl ..
  clear_value e0
  have h_e1 : Keeps 34701580 456757765296290298041883951694334914146150715392 s e1 := by
    unfold e1
    with_reducible refine KeepsLaws.foldl (fun x a => ?_) ?_
    · with_reducible refine KeepsLaws.comp ?_ (State.predecimate_keeps ..) (KeepsLaws.subI rfl rfl)
      exact KeepsLaws.refl ..
    · assumption
  clear_value e1
  have h_e2 : Keeps 34701580 456757765296290298041883951694334914146150715392 s e2 := by
    unfold e2
    with_reducible refine KeepsLaws.foldl (fun x a => ?_) ?_
    · with_reducible refine KeepsLaws.comp ?_ (State.geometry_keeps ..) (KeepsLaws.subI rfl rfl)
      exact KeepsLaws.refl ..
    · assumption
  clear_value e2
  have h_e3 : Keeps 34701580 456757765296290298041883951694334914146150715392 s e3 := by
    unfold e3
    with_reducible refine KeepsLaws.foldl (fun x a => ?_) ?_
    · with_reducible refine KeepsLaws.comp ?_ (State.freshLayer_keeps ..) (KeepsLaws.subI rfl rfl)
      exact KeepsLaws.refl ..
    · assumption
  clear_value e3
  with_reducible refine KeepsLaws.stepSetBit ?_ (KeepsLaws.bitI rfl)
  with_reducible refine KeepsLaws.comp ?_ (State.sameness_keeps ..) (KeepsLaws.subI rfl rfl)
  assumption

theorem State.countFrame_keeps (s : State) (h : ℕ) :
    Keeps 1048576 113466191570123810544133734571234863342428356608 s (State.countFrame s h) := by
  unfold State.countFrame
  extract_lets
  rename_i e0 e1 e2 e3 e4
  have h_e4 : Keeps 1048576 113466191570123810544133734571234863342428356608 s e4 := by
    unfold e4
    with_reducible refine KeepsLaws.comp ?_ (State.setHead_keeps ..) (KeepsLaws.subI rfl rfl)
    exact KeepsLaws.refl ..
  clear_value e4
  with_reducible refine KeepsLaws.stepSetBit ?_ (KeepsLaws.bitI rfl)
  with_reducible refine KeepsLaws.stepReg ?_ (KeepsLaws.bitI rfl)
  with_reducible refine KeepsLaws.stepReg ?_ (KeepsLaws.bitI rfl)
  with_reducible refine KeepsLaws.stepReg ?_ (KeepsLaws.bitI rfl)
  with_reducible refine KeepsLaws.stepReg ?_ (KeepsLaws.bitI rfl)
  assumption

theorem State.videoFrames_keeps (s : State) (h : ℕ) :
    Keeps 0 0 s (State.videoFrames s h) := by
  unfold State.videoFrames
  extract_lets
  rename_i e0
  with_reducible refine KeepsLaws.foldl (fun x a => ?_) ?_
  · extract_lets
    rename_i e1
    with_reducible refine KeepsLaws.ite ?_ ?_
    · with_reducible refine KeepsLaws.comp ?_ (KeepsLaws.emit ..) (KeepsLaws.subI rfl rfl)
      exact KeepsLaws.refl ..
    · exact KeepsLaws.refl ..
  · exact KeepsLaws.refl ..

theorem State.boundary_keeps (s : State) (h : ℕ) (b0 : ℤ) (started : Bool) :
    Keeps 125665628 738417406253827692769898195706456824604812924971974398625029163080468717040449439452084019204096 s (State.boundary s h b0 started) := by
  unfold State.boundary
  extract_lets
  rename_i e0 e1 e2 e3 e4 e5 e6 e7 e8 e9
  have h_e1 : Keeps 125665628 738417406253827692769898195706456824604812924971974398625029163080468717040449439452084019204096 s e1 := by
    unfold e1
    with_reducible refine KeepsLaws.comp ?_ (State.countFrame_keeps ..) (KeepsLaws.subI rfl rfl)
    exact KeepsLaws.refl ..
  clear_value e1
  have h_e3 : Keeps 125665628 738417406253827692769898195706456824604812924971974398625029163080468717040449439452084019204096 s e3 := by
    unfold e3
    split
    · with_reducible refine KeepsLaws.ite ?_ ?_
      · assumption
      · with_reducible refine KeepsLaws.ite ?_ ?_
        · with_reducible refine KeepsLaws.comp ?_ (State.setHead_keeps ..) (KeepsLaws.subI rfl rfl)
          assumption
        · with_reducible refine KeepsLaws.comp ?_ (State.takeArm_keeps ..) (KeepsLaws.subI rfl rfl)
          with_reducible refine KeepsLaws.comp ?_ (State.setHead_keeps ..) (KeepsLaws.subI rfl rfl)
          assumption
    · assumption
  clear_value e3
  have h_e5 : Keeps 125665628 738417406253827692769898195706456824604812924971974398625029163080468717040449439452084019204096 s e5 := by
    unfold e5
    with_reducible refine KeepsLaws.ite ?_ ?_
    · with_reducible refine KeepsLaws.foldl (fun x a => ?_) ?_
      · with_reducible refine KeepsLaws.comp ?_ (State.joinGang_keeps ..) (KeepsLaws.subI rfl rfl)
        exact KeepsLaws.refl ..
      · assumption
    · assumption
  clear_value e5
  have h_e6 : Keeps 125665628 738417406253827692769898195706456824604812924971974398625029163080468717040449439452084019204096 s e6 := by
    unfold e6
    with_reducible refine KeepsLaws.ite ?_ ?_
    · assumption
    · with_reducible refine KeepsLaws.comp ?_ (State.latchAll_keeps ..) (KeepsLaws.subI rfl rfl)
      assumption
  clear_value e6
  have h_e7 : Keeps 125665628 738417406253827692769898195706456824604812924971974398625029163080468717040449439452084019204096 s e7 := by
    unfold e7
    with_reducible refine KeepsLaws.comp ?_ (State.videoFrames_keeps ..) (KeepsLaws.subI rfl rfl)
    with_reducible refine KeepsLaws.comp ?_ (State.pushHist_keeps ..) (KeepsLaws.subI rfl rfl)
    with_reducible refine KeepsLaws.comp ?_ (State.alignHead_keeps ..) (KeepsLaws.subI rfl rfl)
    assumption
  clear_value e7
  have h_e8 : Keeps 125665628 738417406253827692769898195706456824604812924971974398625029163080468717040449439452084019204096 s e8 := by
    unfold e8
    with_reducible refine KeepsLaws.ite ?_ ?_
    · with_reducible refine KeepsLaws.comp ?_ (State.eventAt_keeps ..) (KeepsLaws.subI rfl rfl)
      assumption
    · assumption
  clear_value e8
  have h_e9 : Keeps 125665628 738417406253827692769898195706456824604812924971974398625029163080468717040449439452084019204096 s e9 := by
    unfold e9
    with_reducible refine KeepsLaws.ite ?_ ?_
    · with_reducible refine KeepsLaws.comp ?_ (State.seam_keeps ..) (KeepsLaws.subI rfl rfl)
      assumption
    · with_reducible refine KeepsLaws.ite ?_ ?_
      · with_reducible refine KeepsLaws.comp ?_ (State.modHead_keeps ..) (KeepsLaws.subI rfl rfl)
        assumption
      · assumption
  clear_value e9
  with_reducible refine KeepsLaws.ite ?_ ?_
  · with_reducible refine KeepsLaws.comp ?_ (State.stopHead_keeps ..) (KeepsLaws.subI rfl rfl)
    assumption
  · with_reducible refine KeepsLaws.comp ?_ (State.handoverStep_keeps ..) (KeepsLaws.subI rfl rfl)
    with_reducible refine KeepsLaws.comp ?_ (State.drillStep_keeps ..) (KeepsLaws.subI rfl rfl)
    assumption

theorem State.firstLines_keeps (s : State) (h : ℕ) (i : ℕ) :
    Keeps 74449164 46077677787479011400871809854749000067566345934505929353659583191032124873987374780416 s (State.firstLines s h i) := by
  unfold State.firstLines
  extract_lets
  rename_i e0 e1 e2
  with_reducible refine KeepsLaws.foldl (fun x a => ?_) ?_
  · extract_lets
    rename_i e3
    have h_e3 : Keeps 74449164 46077677787479011400871809854749000067566345934505929353659583191032124873987374780416 x e3 := by
      unfold e3
      split
      · with_reducible refine KeepsLaws.ite ?_ ?_
        · with_reducible refine KeepsLaws.comp ?_ (State.fault_keeps ..) (KeepsLaws.subI rfl rfl)
          with_reducible refine KeepsLaws.comp ?_ (State.judge_keeps ..) (KeepsLaws.subI rfl rfl)
          with_reducible refine KeepsLaws.comp ?_ (State.event_keeps ..) (KeepsLaws.subI rfl rfl)
          with_reducible refine KeepsLaws.stepBumpSat ?_ (KeepsLaws.bitI rfl)
          exact KeepsLaws.refl ..
        · exact KeepsLaws.refl ..
      · exact KeepsLaws.refl ..
    clear_value e3
    split
    · with_reducible refine KeepsLaws.ite ?_ ?_
      · with_reducible refine KeepsLaws.comp ?_ (State.pairMiss_keeps ..) (KeepsLaws.subI rfl rfl)
        assumption
      · assumption
    · assumption
  · exact KeepsLaws.refl ..

theorem State.noteCrc_keeps (s : State) (h : ℕ) (frame : ℕ) (crc : ℕ) (own : Bool) :
    Keeps 1048576 159143435651131725489722319406982668832146059599003602762380860336113083811699408666361856 s (State.noteCrc s h frame crc own) := by
  unfold State.noteCrc
  extract_lets
  rename_i e0 e1 e2
  have h_e2 : Keeps 1048576 159143435651131725489722319406982668832146059599003602762380860336113083811699408666361856 s e2 := by
    unfold e2
    with_reducible refine KeepsLaws.comp ?_ (State.setHead_keeps ..) (KeepsLaws.subI rfl rfl)
    exact KeepsLaws.refl ..
  clear_value e2
  clear_value e1
  split
  · assumption
  · with_reducible refine KeepsLaws.ite ?_ ?_
    · with_reducible refine KeepsLaws.stepSetBits ?_ (KeepsLaws.bitI rfl)
      assumption
    · with_reducible refine KeepsLaws.stepBumpSat ?_ (KeepsLaws.bitI rfl)
      with_reducible refine KeepsLaws.stepSetBits ?_ (KeepsLaws.bitI rfl)
      assumption

theorem State.frameScanned_keeps (s : State) (h : ℕ) :
    Keeps 1048576 159143435651131725489722319406982668832157751612102249985726489814774814075856656126705664 s (State.frameScanned s h) := by
  unfold State.frameScanned
  extract_lets
  rename_i e0 e1 e2 e3 e4 e5
  have h_e2 : Keeps 1048576 159143435651131725489722319406982668832157751612102249985726489814774814075856656126705664 s e2 := by
    unfold e2
    with_reducible refine KeepsLaws.comp ?_ (State.setHead_keeps ..) (KeepsLaws.subI rfl rfl)
    exact KeepsLaws.refl ..
  clear_value e2
  have h_e3 : Keeps 1048576 159143435651131725489722319406982668832157751612102249985726489814774814075856656126705664 s e3 := by
    unfold e3
    with_reducible refine KeepsLaws.foldl (fun x a => ?_) ?_
    · with_reducible refine KeepsLaws.ite ?_ ?_
      · with_reducible refine KeepsLaws.stepBumpWrap ?_ (KeepsLaws.bitI rfl)
        exact KeepsLaws.refl ..
      · exact KeepsLaws.refl ..
    · assumption
  clear_value e3
  with_reducible refine KeepsLaws.ite ?_ ?_
  · assumption
  · with_reducible refine KeepsLaws.ite ?_ ?_
    · with_reducible refine KeepsLaws.comp ?_ (State.seam_keeps ..) (KeepsLaws.subI rfl rfl)
      assumption
    · with_reducible refine KeepsLaws.comp ?_ (State.noteCrc_keeps ..) (KeepsLaws.subI rfl rfl)
      assumption

theorem State.sendLine_keeps (s : State) (h : ℕ) (y : ℕ) (px : List (List ℤ)) (hatch : Bool) :
    Keeps 0 0 s (State.sendLine s h y px hatch) := by
  unfold State.sendLine
  extract_lets
  rename_i e0 e1
  with_reducible refine KeepsLaws.foldl (fun x a => ?_) ?_
  · extract_lets
    rename_i e2 e3 e4 e5
    with_reducible refine KeepsLaws.ite ?_ ?_
    · exact KeepsLaws.refl ..
    · split
      · exact KeepsLaws.refl ..
      · extract_lets
        rename_i e6
        with_reducible refine KeepsLaws.comp ?_ (KeepsLaws.emit ..) (KeepsLaws.subI rfl rfl)
        exact KeepsLaws.refl ..
  · exact KeepsLaws.refl ..

theorem execHoldMaxExpiry_keeps (h : Fin 24) (s : State) :
    KeepsO 1048588 92235882141122657313391730775673623188735594496 s (execHoldMaxExpiry h s) := by
  unfold execHoldMaxExpiry
  extract_lets
  rename_i e0 e1
  split
  · with_reducible refine KeepsLaws.iteO ?_ ?_
    · with_reducible refine KeepsLaws.next ?_
      with_reducible refine KeepsLaws.comp ?_ (State.startHatch_keeps ..) (KeepsLaws.subI rfl rfl)
      exact KeepsLaws.refl ..
    · with_reducible refine KeepsLaws.next ?_
      exact KeepsLaws.refl ..
  · with_reducible refine KeepsLaws.next ?_
    exact KeepsLaws.refl ..

theorem execLineScan_keeps (h : Fin 24) (markBad : Bool) (hatchBad : Bool) (s0 : State) :
    KeepsO 74449164 159189513328919204501123191216837417832225226614184422733647761667663801433041915005702144 s0 (execLineScan h markBad hatchBad s0) := by
  unfold execLineScan
  extract_lets
  rename_i e0 e1 e2 e3 e4 e5 e6
  have h_e0 : Keeps 74449164 159189513328919204501123191216837417832225226614184422733647761667663801433041915005702144 s0 e0 := by
    unfold e0
    with_reducible refine KeepsLaws.ite ?_ ?_
    · with_reducible refine KeepsLaws.comp ?_ (State.startHatch_keeps ..) (KeepsLaws.subI rfl rfl)
      exact KeepsLaws.refl ..
    · exact KeepsLaws.refl ..
  clear_value e0
  have h_e5 : Keeps 74449164 159189513328919204501123191216837417832225226614184422733647761667663801433041915005702144 s0 e5 := by
    unfold e5
    with_reducible refine KeepsLaws.ite ?_ ?_
    · with_reducible refine KeepsLaws.comp ?_ (State.firstLines_keeps ..) (KeepsLaws.subI rfl rfl)
      assumption
    · assumption
  clear_value e5
  with_reducible refine KeepsLaws.iteO ?_ ?_
  · with_reducible refine KeepsLaws.next ?_
    assumption
  · with_reducible refine KeepsLaws.iteO ?_ ?_
    · with_reducible refine KeepsLaws.next ?_
      unfold e3
      extract_lets
      rename_i e7
      with_reducible refine KeepsLaws.ite ?_ ?_
      · with_reducible refine KeepsLaws.comp ?_ (State.frameScanned_keeps ..) (KeepsLaws.subI rfl rfl)
        with_reducible refine KeepsLaws.comp ?_ (State.modHead_keeps ..) (KeepsLaws.subI rfl rfl)
        with_reducible refine KeepsLaws.comp ?_ (State.sendLine_keeps ..) (KeepsLaws.subI rfl rfl)
        assumption
      · with_reducible refine KeepsLaws.ite ?_ ?_
        · with_reducible refine KeepsLaws.stepSetBit ?_ (KeepsLaws.bitI rfl)
          with_reducible refine KeepsLaws.comp ?_ (State.modHead_keeps ..) (KeepsLaws.subI rfl rfl)
          with_reducible refine KeepsLaws.comp ?_ (State.sendLine_keeps ..) (KeepsLaws.subI rfl rfl)
          assumption
        · with_reducible refine KeepsLaws.ite ?_ ?_
          · with_reducible refine KeepsLaws.foldl (fun x a => ?_) ?_
            · with_reducible refine KeepsLaws.comp ?_ (State.modLayer_keeps ..) (KeepsLaws.subI rfl rfl)
              exact KeepsLaws.refl ..
            · with_reducible refine KeepsLaws.stepSetBit ?_ (KeepsLaws.bitI rfl)
              with_reducible refine KeepsLaws.comp ?_ (State.modHead_keeps ..) (KeepsLaws.subI rfl rfl)
              with_reducible refine KeepsLaws.comp ?_ (State.sendLine_keeps ..) (KeepsLaws.subI rfl rfl)
              assumption
          · with_reducible refine KeepsLaws.comp ?_ (State.modHead_keeps ..) (KeepsLaws.subI rfl rfl)
            with_reducible refine KeepsLaws.comp ?_ (State.sendLine_keeps ..) (KeepsLaws.subI rfl rfl)
            assumption
    · split
      · with_reducible refine KeepsLaws.next ?_
        assumption
      · extract_lets
        rename_i e8 e9 e10 e11 e12 e13 e14
        have h_e10 : Keeps 74449164 159189513328919204501123191216837417832225226614184422733647761667663801433041915005702144 s0 e10 := by
          unfold e10
          with_reducible refine KeepsLaws.comp ?_ (State.setHead_keeps ..) (KeepsLaws.subI rfl rfl)
          assumption
        clear_value e10
        have h_e12 : Keeps 74449164 159189513328919204501123191216837417832225226614184422733647761667663801433041915005702144 s0 e12 := by
          unfold e12
          with_reducible refine KeepsLaws.ite ?_ ?_
          · with_reducible refine KeepsLaws.comp ?_ (State.sendLine_keeps ..) (KeepsLaws.subI rfl rfl)
            assumption
          · with_reducible refine KeepsLaws.ite ?_ ?_
            · with_reducible refine KeepsLaws.comp ?_ (State.sendLine_keeps ..) (KeepsLaws.subI rfl rfl)
              assumption
            · with_reducible refine KeepsLaws.comp ?_ (State.sendLine_keeps ..) (KeepsLaws.subI rfl rfl)
              assumption
        clear_value e12
        have h_e13 : Keeps 74449164 159189513328919204501123191216837417832225226614184422733647761667663801433041915005702144 s0 e13 := by
          unfold e13
          with_reducible refine KeepsLaws.ite ?_ ?_
          · with_reducible refine KeepsLaws.comp ?_ (State.fault_keeps ..) (KeepsLaws.subI rfl rfl)
            with_reducible refine KeepsLaws.comp ?_ (State.modHead_keeps ..) (KeepsLaws.subI rfl rfl)
            assumption
          · assumption
        clear_value e13
        have h_e14 : Keeps 74449164 159189513328919204501123191216837417832225226614184422733647761667663801433041915005702144 s0 e14 := by
          unfold e14
          with_reducible refine KeepsLaws.ite ?_ ?_
          · with_reducible refine KeepsLaws.comp ?_ (State.fault_keeps ..) (KeepsLaws.subI rfl rfl)
            assumption
          · assumption
        clear_value e14
        with_reducible refine KeepsLaws.next ?_
        unfold e3
        extract_lets
        rename_i e15
        with_reducible refine KeepsLaws.ite ?_ ?_
        · with_reducible refine KeepsLaws.comp ?_ (State.frameScanned_keeps ..) (KeepsLaws.subI rfl rfl)
          assumption
        · with_reducible refine KeepsLaws.ite ?_ ?_
          · with_reducible refine KeepsLaws.stepSetBit ?_ (KeepsLaws.bitI rfl)
            assumption
          · with_reducible refine KeepsLaws.ite ?_ ?_
            · with_reducible refine KeepsLaws.foldl (fun x a => ?_) ?_
              · with_reducible refine KeepsLaws.comp ?_ (State.modLayer_keeps ..) (KeepsLaws.subI rfl rfl)
                exact KeepsLaws.refl ..
              · with_reducible refine KeepsLaws.stepSetBit ?_ (KeepsLaws.bitI rfl)
                assumption
            · assumption

theorem execDpHpdChange_keeps (d : Fin 16) (what : Fin 3) (sink : SinkCaps) (lostLock : Bool) (s : State) :
    KeepsO 1048588 4171849679533027504677776769862406473833407275343093171960975853990669816422304143059362320384 s (execDpHpdChange d what sink lostLock s) := by
  unfold execDpHpdChange
  with_reducible refine KeepsLaws.iteO ?_ ?_
  · with_reducible refine KeepsLaws.next ?_
    exact KeepsLaws.refl ..
  · extract_lets
    rename_i e0 e1 e2
    have h_e0 : Keeps 1048588 4171849679533027504677776769862406473833407275343093171960975853990669816422304143059362320384 s e0 := by
      unfold e0
      with_reducible refine KeepsLaws.comp ?_ (State.event_keeps ..) (KeepsLaws.subI rfl rfl)
      with_reducible refine KeepsLaws.stepBumpSat ?_ (KeepsLaws.bitI rfl)
      exact KeepsLaws.refl ..
    clear_value e0
    with_reducible refine KeepsLaws.iteO ?_ ?_
    · with_reducible refine KeepsLaws.next ?_
      unfold e1
      with_reducible refine KeepsLaws.comp ?_ (KeepsLaws.upd_hd ..) (KeepsLaws.subI rfl rfl)
      with_reducible refine KeepsLaws.stepSetBit ?_ (KeepsLaws.bitI rfl)
      with_reducible refine KeepsLaws.comp ?_ (State.dpOff_keeps ..) (KeepsLaws.subI rfl rfl)
      assumption
    · with_reducible refine KeepsLaws.iteO ?_ ?_
      · with_reducible refine KeepsLaws.next ?_
        with_reducible refine KeepsLaws.comp ?_ (State.startTraining_keeps ..) (KeepsLaws.subI rfl rfl)
        unfold e1
        with_reducible refine KeepsLaws.comp ?_ (KeepsLaws.upd_hd ..) (KeepsLaws.subI rfl rfl)
        with_reducible refine KeepsLaws.stepSetBit ?_ (KeepsLaws.bitI rfl)
        assumption
      · with_reducible refine KeepsLaws.iteO ?_ ?_
        · with_reducible refine KeepsLaws.iteO ?_ ?_
          · with_reducible refine KeepsLaws.next ?_
            with_reducible refine KeepsLaws.comp ?_ (State.startTraining_keeps ..) (KeepsLaws.subI rfl rfl)
            with_reducible refine KeepsLaws.stepBumpSat ?_ (KeepsLaws.bitI rfl)
            with_reducible refine KeepsLaws.comp ?_ (State.event_keeps ..) (KeepsLaws.subI rfl rfl)
            assumption
          · with_reducible refine KeepsLaws.next ?_
            assumption
        · with_reducible refine KeepsLaws.next ?_
          with_reducible refine KeepsLaws.comp ?_ (State.startTraining_keeps ..) (KeepsLaws.subI rfl rfl)
          assumption

theorem execCommitWindowClose_keeps (h : Fin 24) (s : State) :
    KeepsO 1048576 91343852333181432387730302044767688728495783936 s (execCommitWindowClose h s) := by
  unfold execCommitWindowClose
  extract_lets
  rename_i e0 e1
  with_reducible refine KeepsLaws.iteO ?_ ?_
  · with_reducible refine KeepsLaws.next ?_
    exact KeepsLaws.refl ..
  · with_reducible refine KeepsLaws.next ?_
    with_reducible refine KeepsLaws.comp ?_ (State.setHead_keeps ..) (KeepsLaws.subI rfl rfl)
    exact KeepsLaws.refl ..

theorem execFrameBoundary_keeps (h : Fin 24) (s : State) :
    KeepsO 125665628 738417406253827692769898195706456824604812924971974398625029163080468717040449439452084019204096 s (execFrameBoundary h s) := by
  unfold execFrameBoundary
  extract_lets
  rename_i e0 e1 e2 e3 e4 e5 e6 e7 e8
  have h_e8 : Keeps 125665628 738417406253827692769898195706456824604812924971974398625029163080468717040449439452084019204096 s e8 := by
    unfold e8
    with_reducible refine KeepsLaws.ite ?_ ?_
    · with_reducible refine KeepsLaws.comp ?_ (State.startHatch_keeps ..) (KeepsLaws.subI rfl rfl)
      exact KeepsLaws.refl ..
    · exact KeepsLaws.refl ..
  clear_value e8
  with_reducible refine KeepsLaws.iteO ?_ ?_
  · with_reducible refine KeepsLaws.next ?_
    exact KeepsLaws.refl ..
  · with_reducible refine KeepsLaws.iteO ?_ ?_
    · with_reducible refine KeepsLaws.next ?_
      with_reducible refine KeepsLaws.comp ?_ (State.setHead_keeps ..) (KeepsLaws.subI rfl rfl)
      exact KeepsLaws.refl ..
    · with_reducible refine KeepsLaws.next ?_
      with_reducible refine KeepsLaws.comp ?_ (State.boundary_keeps ..) (KeepsLaws.subI rfl rfl)
      assumption

theorem execHdHold_keeps (r : Req) (b : Body) (s : State) :
    KeepsO 28 356811923176489970264571492362373784098373632 s (execHdHold r b s) := by
  unfold execHdHold
  with_reducible refine KeepsLaws.command (KeepsLaws.subI rfl rfl) (fun x => ?_)
  with_reducible refine KeepsLaws.doneA ?_
  with_reducible refine KeepsLaws.stepSetBits ?_ (KeepsLaws.bitI rfl)
  exact KeepsLaws.refl ..

theorem execDpLinkTrainDone_keeps (d : Fin 16) (ok : Bool) (s : State) :
    KeepsO 12 4171849679533027504677776769862406473833407270958588259968267099379615318273455084091564691456 s (execDpLinkTrainDone d ok s) := by
  unfold execDpLinkTrainDone
  extract_lets
  rename_i e0 e1 e2 e3
  have h_e2 : Keeps 12 4171849679533027504677776769862406473833407270958588259968267099379615318273455084091564691456 s e2 := by
    unfold e2
    with_reducible refine KeepsLaws.foldl (fun x a => ?_) ?_
    · with_reducible refine KeepsLaws.comp ?_ (State.setLaneRate_keeps ..) (KeepsLaws.subI rfl rfl)
      exact KeepsLaws.refl ..
    · with_reducible refine KeepsLaws.stepSetBit ?_ (KeepsLaws.bitI rfl)
      exact KeepsLaws.refl ..
  clear_value e2
  with_reducible refine KeepsLaws.iteO ?_ ?_
  · with_reducible refine KeepsLaws.next ?_
    exact KeepsLaws.refl ..
  · with_reducible refine KeepsLaws.iteO ?_ ?_
    · with_reducible refine KeepsLaws.next ?_
      with_reducible refine KeepsLaws.comp ?_ (State.event_keeps ..) (KeepsLaws.subI rfl rfl)
      assumption
    · split
      · with_reducible refine KeepsLaws.next ?_
        with_reducible refine KeepsLaws.stepSetBits ?_ (KeepsLaws.bitI rfl)
        exact KeepsLaws.refl ..
      · with_reducible refine KeepsLaws.next ?_
        with_reducible refine KeepsLaws.comp ?_ (State.event_keeps ..) (KeepsLaws.subI rfl rfl)
        with_reducible refine KeepsLaws.comp ?_ (State.dpOff_keeps ..) (KeepsLaws.subI rfl rfl)
        exact KeepsLaws.refl ..

theorem execHdDpAux_keeps (r : Req) (b : Body) (answer : Fin 4) (data : List Byte) (s : State) :
    KeepsO 28 2686976 s (execHdDpAux r b answer data s) := by
  unfold execHdDpAux
  extract_lets
  rename_i e0 e1 e2 e3 e4 e5 e6
  with_reducible refine KeepsLaws.command (KeepsLaws.subI rfl rfl) (fun x => ?_)
  with_reducible refine KeepsLaws.nowA ?_
  with_reducible refine KeepsLaws.comp ?_ (KeepsLaws.emit ..) (KeepsLaws.subI rfl rfl)
  exact KeepsLaws.refl ..

theorem execHdTiming_keeps (r : Req) (b : Body) (s : State) :
    KeepsO 267752796 1065974318030748833501329694031722078896330101259178583557392446823361245498114777120968943407104 s (execHdTiming r b s) := by
  unfold execHdTiming
  extract_lets
  rename_i e0 e1 e2 e3
  with_reducible refine KeepsLaws.command (KeepsLaws.subI rfl rfl) (fun x => ?_)
  unfold Sys2Proof.Machine.State.armOne
  split
  with_reducible refine KeepsLaws.laterA ?_
  with_reducible refine KeepsLaws.comp ?_ (State.armHead_keeps ..) (KeepsLaws.subI rfl rfl)
  with_reducible refine KeepsLaws.ofSnd (by assumption) ?_
  with_reducible refine KeepsLaws.comp ?_ (State.newWaiter_keeps ..) (KeepsLaws.subI rfl rfl)
  with_reducible refine KeepsLaws.comp ?_ (State.powerUpAll_keeps ..) (KeepsLaws.subI rfl rfl)
  with_reducible refine KeepsLaws.ite ?_ ?_
  · with_reducible refine KeepsLaws.comp ?_ (State.powerUpAll_keeps ..) (KeepsLaws.subI rfl rfl)
    exact KeepsLaws.refl ..
  · exact KeepsLaws.refl ..

theorem execPullRestTaken_keeps (h : Fin 24) (s : State) :
    KeepsO 1048576 91343852333181432387730302044767688728495783936 s (execPullRestTaken h s) := by
  unfold execPullRestTaken
  extract_lets
  rename_i e0
  split
  · with_reducible refine KeepsLaws.iteO ?_ ?_
    · with_reducible refine KeepsLaws.next ?_
      exact KeepsLaws.refl ..
    · with_reducible refine KeepsLaws.next ?_
      with_reducible refine KeepsLaws.comp ?_ (State.setHead_keeps ..) (KeepsLaws.subI rfl rfl)
      exact KeepsLaws.refl ..
  · with_reducible refine KeepsLaws.next ?_
    exact KeepsLaws.refl ..

theorem execHdOutput_keeps (r : Req) (b : Body) (s : State) :
    KeepsO 267752796 1065974318030748833501329694031722078896330101259178583557392446823361245498114777120968943407104 s (execHdOutput r b s) := by
  unfold execHdOutput
  extract_lets
  rename_i e0 e1 e2 e3
  with_reducible refine KeepsLaws.command (KeepsLaws.subI rfl rfl) (fun x => ?_)
  extract_lets
  rename_i e4
  have h_e4 : Keeps 267752796 1065974318030748833501329694031722078896330101259178583557392446823361245498114777120968943407104 x e4 := by
    unfold e4
    with_reducible refine KeepsLaws.comp ?_ (State.powerUpAll_keeps ..) (KeepsLaws.subI rfl rfl)
    exact KeepsLaws.refl ..
  clear_value e4
  with_reducible refine KeepsLaws.iteA ?_ ?_
  · with_reducible refine KeepsLaws.doneA ?_
    with_reducible refine KeepsLaws.comp ?_ (State.storeEdit_keeps ..) (KeepsLaws.subI rfl rfl)
    with_reducible refine KeepsLaws.comp ?_ (State.takeOut_keeps ..) (KeepsLaws.subI rfl rfl)
    assumption
  · unfold Sys2Proof.Machine.State.armOne
    split
    with_reducible refine KeepsLaws.laterA ?_
    with_reducible refine KeepsLaws.comp ?_ (State.armHead_keeps ..) (KeepsLaws.subI rfl rfl)
    with_reducible refine KeepsLaws.ofSnd (by assumption) ?_
    with_reducible refine KeepsLaws.comp ?_ (State.newWaiter_keeps ..) (KeepsLaws.subI rfl rfl)
    with_reducible refine KeepsLaws.comp ?_ (State.powerUpAll_keeps ..) (KeepsLaws.subI rfl rfl)
    assumption

end Sys2Proof.Machine
end

