-- ==== Sys2Proof/Laws/FrameEncoder.lean ====
section
/-! SUPPORT. What each operation of Machine/Encoder.lean can change at most (Keeps): masks of fields and of registers. -/

namespace Sys2Proof.Machine

theorem State.adoptBufs_keeps (s : State) (c : ℕ) (b : Body) (bufs : List ℕ) :
    Keeps 33652736 0 s (State.adoptBufs s c b bufs) := by
  unfold State.adoptBufs
  extract_lets
  rename_i e0 e1
  with_reducible refine KeepsLaws.comp ?_ (State.setPool_keeps ..) (KeepsLaws.subI rfl rfl)
  with_reducible refine KeepsLaws.comp ?_ (State.releaseAll_keeps ..) (KeepsLaws.subI rfl rfl)
  exact KeepsLaws.refl ..

theorem State.dropTaken_keeps (s : State) (c : ℕ) :
    Keeps 34177024 5316911983139663491615228241121378304 s (State.dropTaken s c) := by
  unfold State.dropTaken
  extract_lets
  rename_i e0 e1
  have h_e1 : Keeps 34177024 5316911983139663491615228241121378304 s e1 := by
    unfold e1
    split
    · with_reducible refine KeepsLaws.comp ?_ (State.collect_keeps ..) (KeepsLaws.subI rfl rfl)
      with_reducible refine KeepsLaws.comp ?_ (State.modPool_keeps ..) (KeepsLaws.subI rfl rfl)
      exact KeepsLaws.refl ..
    · exact KeepsLaws.refl ..
  clear_value e1
  with_reducible refine KeepsLaws.comp ?_ (State.modChan_keeps ..) (KeepsLaws.subI rfl rfl)
  assumption

theorem State.startVirtual_keeps (s : State) (b : Body) :
    Keeps 1048576 137729402346125128522124596051876280660935049216 s (State.startVirtual s b) := by
  unfold State.startVirtual
  with_reducible refine KeepsLaws.ite ?_ ?_
  · extract_lets
    rename_i e0
    with_reducible refine KeepsLaws.comp ?_ (State.showHead_keeps ..) (KeepsLaws.subI rfl rfl)
    with_reducible refine KeepsLaws.comp ?_ (State.modHead_keeps ..) (KeepsLaws.subI rfl rfl)
    exact KeepsLaws.refl ..
  · exact KeepsLaws.refl ..

theorem State.showChan_keeps (s : State) (c : ℕ) :
    Keeps 0 1366446379666893517345113657968194224128 s (State.showChan s c) := by
  unfold State.showChan
  extract_lets
  rename_i e0
  with_reducible refine KeepsLaws.stepReg ?_ (KeepsLaws.bitI rfl)
  with_reducible refine KeepsLaws.stepSetBit ?_ (KeepsLaws.bitI rfl)
  with_reducible refine KeepsLaws.stepSetBit ?_ (KeepsLaws.bitI rfl)
  with_reducible refine KeepsLaws.stepSetBits ?_ (KeepsLaws.bitI rfl)
  with_reducible refine KeepsLaws.stepSetBit ?_ (KeepsLaws.bitI rfl)
  exact KeepsLaws.refl ..

theorem State.applyChan_keeps (s : State) (c : ℕ) (b : Body) (bufs : List ℕ) :
    Keeps 35225868 23887133275259179452839524090964892424954257674240 s (State.applyChan s c b bufs) := by
  unfold State.applyChan
  extract_lets
  rename_i e0 e1 e2 e3 e4 e5 e6 e7 e8 e9
  have h_e5 : Keeps 35225868 23887133275259179452839524090964892424954257674240 s e5 := by
    unfold e5
    with_reducible refine KeepsLaws.ite ?_ ?_
    · with_reducible refine KeepsLaws.comp ?_ (State.dropTaken_keeps ..) (KeepsLaws.subI rfl rfl)
      exact KeepsLaws.refl ..
    · exact KeepsLaws.refl ..
  clear_value e5
  have h_e6 : Keeps 35225868 23887133275259179452839524090964892424954257674240 s e6 := by
    unfold e6
    with_reducible refine KeepsLaws.ite ?_ ?_
    · with_reducible refine KeepsLaws.comp ?_ (State.adoptBufs_keeps ..) (KeepsLaws.subI rfl rfl)
      assumption
    · with_reducible refine KeepsLaws.ite ?_ ?_
      · split
        · with_reducible refine KeepsLaws.comp ?_ (State.adoptBufs_keeps ..) (KeepsLaws.subI rfl rfl)
          with_reducible refine KeepsLaws.comp ?_ (KeepsLaws.ofOptP (by assumption) (State.allocMany_keeps ..)) (KeepsLaws.subI rfl rfl)
          assumption
        · with_reducible refine KeepsLaws.comp ?_ (State.adoptBufs_keeps ..) (KeepsLaws.subI rfl rfl)
          assumption
      · with_reducible refine KeepsLaws.comp ?_ (State.releaseAll_keeps ..) (KeepsLaws.subI rfl rfl)
        assumption
  clear_value e6
  have h_e7 : Keeps 35225868 23887133275259179452839524090964892424954257674240 s e7 := by
    unfold e7
    with_reducible refine KeepsLaws.comp ?_ (State.modChan_keeps ..) (KeepsLaws.subI rfl rfl)
    assumption
  clear_value e7
  have h_e8 : Keeps 35225868 23887133275259179452839524090964892424954257674240 s e8 := by
    unfold e8
    with_reducible refine KeepsLaws.ite ?_ ?_
    · with_reducible refine KeepsLaws.comp ?_ (State.showHead_keeps ..) (KeepsLaws.subI rfl rfl)
      with_reducible refine KeepsLaws.comp ?_ (State.stopHead_keeps ..) (KeepsLaws.subI rfl rfl)
      assumption
    · assumption
  clear_value e8
  have h_e9 : Keeps 35225868 23887133275259179452839524090964892424954257674240 s e9 := by
    unfold e9
    with_reducible refine KeepsLaws.ite ?_ ?_
    · with_reducible refine KeepsLaws.comp ?_ (State.startVirtual_keeps ..) (KeepsLaws.subI rfl rfl)
      assumption
    · assumption
  clear_value e9
  with_reducible refine KeepsLaws.comp ?_ (State.showChan_keeps ..) (KeepsLaws.subI rfl rfl)
  assumption

theorem State.forwardKey_keeps (s : State) (mask : ℕ) (cause : ℕ) (type : ℕ) :
    Keeps 0 0 s (State.forwardKey s mask cause type) := by
  unfold State.forwardKey
  with_reducible refine KeepsLaws.comp ?_ (State.seam_keeps ..) (KeepsLaws.subI rfl rfl)
  exact KeepsLaws.refl ..

theorem State.setChanState_keeps (s : State) (c : ℕ) (st : ℕ) (cause : ℕ) :
    Keeps 12 5649218982085892459841180006192058368 s (State.setChanState s c st cause) := by
  unfold State.setChanState
  with_reducible refine KeepsLaws.comp ?_ (State.event_keeps ..) (KeepsLaws.subI rfl rfl)
  with_reducible refine KeepsLaws.stepSetBit ?_ (KeepsLaws.bitI rfl)
  with_reducible refine KeepsLaws.stepSetBit ?_ (KeepsLaws.bitI rfl)
  with_reducible refine KeepsLaws.stepSetBits ?_ (KeepsLaws.bitI rfl)
  exact KeepsLaws.refl ..

theorem State.flowProfile_keeps (s : State) (n : ℕ) (c : ℕ) :
    Keeps 84934684 738417393277345868327966488265646768620791747837453507317184303887737151252995574369453840338944 s (State.flowProfile s n c) := by
  unfold State.flowProfile
  extract_lets
  rename_i e0 e1
  with_reducible refine KeepsLaws.ite ?_ ?_
  · with_reducible refine KeepsLaws.ite ?_ ?_
    · exact KeepsLaws.refl ..
    · with_reducible refine KeepsLaws.comp ?_ (State.takeOut_keeps ..) (KeepsLaws.subI rfl rfl)
      exact KeepsLaws.refl ..
  · with_reducible refine KeepsLaws.foldl (fun x a => ?_) ?_
    · with_reducible refine KeepsLaws.comp ?_ (State.takeOut_keeps ..) (KeepsLaws.subI rfl rfl)
      exact KeepsLaws.refl ..
    · exact KeepsLaws.refl ..

theorem State.tookChan_keeps (s : State) (c : ℕ) (a : ChanArm) :
    Keeps 89915484 738417405244186244438457565129532114653668212754679635878369071710884734908137586461783605448704 s (State.tookChan s c a) := by
  unfold State.tookChan
  extract_lets
  rename_i e0 e1 e2
  have h_e1 : Keeps 89915484 738417405244186244438457565129532114653668212754679635878369071710884734908137586461783605448704 s e1 := by
    unfold e1
    split
    · with_reducible refine KeepsLaws.comp ?_ (State.flowProfile_keeps ..) (KeepsLaws.subI rfl rfl)
      with_reducible refine KeepsLaws.comp ?_ (State.modChan_keeps ..) (KeepsLaws.subI rfl rfl)
      exact KeepsLaws.refl ..
    · with_reducible refine KeepsLaws.comp ?_ (State.storeEdit_keeps ..) (KeepsLaws.subI rfl rfl)
      exact KeepsLaws.refl ..
  clear_value e1
  have h_e2 : Keeps 89915484 738417405244186244438457565129532114653668212754679635878369071710884734908137586461783605448704 s e2 := by
    unfold e2
    split
    · with_reducible refine KeepsLaws.comp ?_ (State.stepWaiter_keeps ..) (KeepsLaws.subI rfl rfl)
      assumption
    · assumption
  clear_value e2
  split
  · with_reducible refine KeepsLaws.comp ?_ (State.profileTook_keeps ..) (KeepsLaws.subI rfl rfl)
    assumption
  · assumption

theorem State.armChanFirst_keeps (s : State) (c : ℕ) (a : ChanArm) :
    Keeps 123568476 738417405244186244438457565129532114653668212755182742956328819867481108241118561295766890549248 s (State.armChanFirst s c a) := by
  unfold State.armChanFirst
  extract_lets
  rename_i e0
  with_reducible refine KeepsLaws.ite ?_ ?_
  · with_reducible refine KeepsLaws.ite ?_ ?_
    · with_reducible refine KeepsLaws.comp ?_ (State.tookChan_keeps ..) (KeepsLaws.subI rfl rfl)
      with_reducible refine KeepsLaws.comp ?_ (State.setChanState_keeps ..) (KeepsLaws.subI rfl rfl)
      with_reducible refine KeepsLaws.comp ?_ (State.applyChan_keeps ..) (KeepsLaws.subI rfl rfl)
      exact KeepsLaws.refl ..
    · with_reducible refine KeepsLaws.comp ?_ (State.tookChan_keeps ..) (KeepsLaws.subI rfl rfl)
      exact KeepsLaws.refl ..
  · with_reducible refine KeepsLaws.comp ?_ (State.setChan_keeps ..) (KeepsLaws.subI rfl rfl)
    exact KeepsLaws.refl ..

theorem State.armChan_keeps (s : State) (c : ℕ) (a : ChanArm) :
    Keeps 123568476 738417405244186244438457565129532114653668212755182742956328819867481108241118561295766890549248 s (State.armChan s c a) := by
  unfold State.armChan
  extract_lets
  rename_i e0
  with_reducible refine KeepsLaws.ite ?_ ?_
  · with_reducible refine KeepsLaws.comp ?_ (State.setChan_keeps ..) (KeepsLaws.subI rfl rfl)
    exact KeepsLaws.refl ..
  · with_reducible refine KeepsLaws.comp ?_ (State.armChanFirst_keeps ..) (KeepsLaws.subI rfl rfl)
    exact KeepsLaws.refl ..

theorem State.stageChan_keeps (s : State) (c : ℕ) (b : Body) :
    KeepsMP 65536 0 s (State.stageChan s c b) := by
  intro v t e
  unfold State.stageChan at e
  dsimp only at e
  repeat' split at e
  all_goals first
    | exact KeepsLaws.comp (KeepsLaws.refl ..) (State.allocMany_keeps _ _ _ v t e) (KeepsLaws.subI rfl rfl)
    | (cases e; exact KeepsLaws.refl ..)

theorem State.diverge_keeps (s : State) (c : ℕ) (row : ℕ) (num : ℕ) (tout : ℕ) :
    Keeps 12 21783720701922147554115816055639357591552 s (State.diverge s c row num tout) := by
  unfold State.diverge
  with_reducible refine KeepsLaws.comp ?_ (State.forwardKey_keeps ..) (KeepsLaws.subI rfl rfl)
  with_reducible refine KeepsLaws.comp ?_ (State.eventAt_keeps ..) (KeepsLaws.subI rfl rfl)
  with_reducible refine KeepsLaws.stepBumpSat ?_ (KeepsLaws.bitI rfl)
  with_reducible refine KeepsLaws.comp ?_ (State.setChanState_keeps ..) (KeepsLaws.subI rfl rfl)
  exact KeepsLaws.refl ..

theorem State.endChan_keeps (s : State) (c : ℕ) :
    Keeps 35234060 23887133275259512502523265728647018978600318210048 s (State.endChan s c) := by
  unfold State.endChan
  extract_lets
  rename_i e0 e1 e2 e3 e4 e5
  have h_e1 : Keeps 35234060 23887133275259512502523265728647018978600318210048 s e1 := by
    unfold e1
    with_reducible refine KeepsLaws.comp ?_ (State.freePool_keeps ..) (KeepsLaws.subI rfl rfl)
    with_reducible refine KeepsLaws.comp ?_ (State.dropTaken_keeps ..) (KeepsLaws.subI rfl rfl)
    exact KeepsLaws.refl ..
  clear_value e1
  have h_e3 : Keeps 35234060 23887133275259512502523265728647018978600318210048 s e3 := by
    unfold e3
    with_reducible refine KeepsLaws.comp ?_ (State.setChan_keeps ..) (KeepsLaws.subI rfl rfl)
    assumption
  clear_value e3
  have h_e4 : Keeps 35234060 23887133275259512502523265728647018978600318210048 s e4 := by
    unfold e4
    with_reducible refine KeepsLaws.ite ?_ ?_
    · with_reducible refine KeepsLaws.comp ?_ (State.showHead_keeps ..) (KeepsLaws.subI rfl rfl)
      with_reducible refine KeepsLaws.comp ?_ (State.stopHead_keeps ..) (KeepsLaws.subI rfl rfl)
      assumption
    · assumption
  clear_value e4
  have h_e5 : Keeps 35234060 23887133275259512502523265728647018978600318210048 s e5 := by
    unfold e5
    with_reducible refine KeepsLaws.comp ?_ (State.refill_keeps ..) (KeepsLaws.subI rfl rfl)
    with_reducible refine KeepsLaws.comp ?_ (State.takeEngines_keeps ..) (KeepsLaws.subI rfl rfl)
    with_reducible refine KeepsLaws.comp ?_ (State.dropJobs_keeps ..) (KeepsLaws.subI rfl rfl)
    assumption
  clear_value e5
  with_reducible refine KeepsLaws.comp ?_ (State.setChanState_keeps ..) (KeepsLaws.subI rfl rfl)
  with_reducible refine KeepsLaws.stepReg ?_ (KeepsLaws.bitI rfl)
  with_reducible refine KeepsLaws.stepSetBits ?_ (KeepsLaws.bitI rfl)
  assumption

theorem State.median_keeps (s : State) (l : List ℤ) :
    Keeps 0 0 s (State.median s l).2 := by
  unfold State.median
  extract_lets
  rename_i e0 e1 e2
  with_reducible refine KeepsLaws.iteP ?_ ?_
  · dsimp only
    exact KeepsLaws.refl ..
  · split
    dsimp only
    with_reducible refine KeepsLaws.ofSnd (by assumption) ?_
    with_reducible refine KeepsLaws.comp ?_ (KeepsLaws.drawn ..) (KeepsLaws.subI rfl rfl)
    exact KeepsLaws.refl ..

theorem State.writeStats_keeps (s0 : State) (c : ℕ) (p : EncPic) :
    Keeps 524556 3323069989462289682259517650701455360 s0 (State.writeStats s0 c p) := by
  unfold State.writeStats
  extract_lets
  rename_i e0 e1
  split
  split
  extract_lets
  rename_i e2 e3 e4 e5 e6 e7
  have h_e6 : Keeps 524556 3323069989462289682259517650701455360 s0 e6 := by
    unfold e6
    with_reducible refine KeepsLaws.stepSetBits ?_ (KeepsLaws.bitI rfl)
    with_reducible refine KeepsLaws.comp ?_ (KeepsLaws.emit ..) (KeepsLaws.subI rfl rfl)
    with_reducible refine KeepsLaws.ofSnd (by assumption) ?_
    with_reducible refine KeepsLaws.comp ?_ (State.median_keeps ..) (KeepsLaws.subI rfl rfl)
    with_reducible refine KeepsLaws.ofSnd (by assumption) ?_
    with_reducible refine KeepsLaws.comp ?_ (State.median_keeps ..) (KeepsLaws.subI rfl rfl)
    exact KeepsLaws.refl ..
  clear_value e6
  with_reducible refine KeepsLaws.ite ?_ ?_
  · with_reducible refine KeepsLaws.ofSnd (by assumption) ?_
    with_reducible refine KeepsLaws.comp ?_ (State.median_keeps ..) (KeepsLaws.subI rfl rfl)
    with_reducible refine KeepsLaws.ofSnd (by assumption) ?_
    with_reducible refine KeepsLaws.comp ?_ (State.median_keeps ..) (KeepsLaws.subI rfl rfl)
    exact KeepsLaws.refl ..
  · with_reducible refine KeepsLaws.ite ?_ ?_
    · with_reducible refine KeepsLaws.comp ?_ (State.eventPerSec_keeps ..) (KeepsLaws.subI rfl rfl)
      with_reducible refine KeepsLaws.stepBumpSat ?_ (KeepsLaws.bitI rfl)
      with_reducible refine KeepsLaws.ofSnd (by assumption) ?_
      with_reducible refine KeepsLaws.comp ?_ (State.median_keeps ..) (KeepsLaws.subI rfl rfl)
      with_reducible refine KeepsLaws.ofSnd (by assumption) ?_
      with_reducible refine KeepsLaws.comp ?_ (State.median_keeps ..) (KeepsLaws.subI rfl rfl)
      exact KeepsLaws.refl ..
    · with_reducible refine KeepsLaws.comp ?_ (KeepsLaws.upd_enc ..) (KeepsLaws.subI rfl rfl)
      assumption

theorem State.endEncPicture_keeps (s : State) (c : ℕ) (p : EncPic) :
    Keeps 565516 19273899428113046989023562755926986752 s (State.endEncPicture s c p) := by
  unfold State.endEncPicture
  extract_lets
  rename_i e0 e1 e2 e3 e4 e5 e6
  have h_e5 : Keeps 565516 19273899428113046989023562755926986752 s e5 := by
    unfold e5
    split
    · with_reducible refine KeepsLaws.comp ?_ (State.modPool_keeps ..) (KeepsLaws.subI rfl rfl)
      exact KeepsLaws.refl ..
    · exact KeepsLaws.refl ..
  clear_value e5
  have h_e6 : Keeps 565516 19273899428113046989023562755926986752 s e6 := by
    unfold e6
    with_reducible refine KeepsLaws.comp ?_ (State.modChan_keeps ..) (KeepsLaws.subI rfl rfl)
    with_reducible refine KeepsLaws.comp ?_ (State.writeStats_keeps ..) (KeepsLaws.subI rfl rfl)
    assumption
  clear_value e6
  with_reducible refine KeepsLaws.stepBumpWrap ?_ (KeepsLaws.bitI rfl)
  with_reducible refine KeepsLaws.comp ?_ (State.refill_keeps ..) (KeepsLaws.subI rfl rfl)
  with_reducible refine KeepsLaws.comp ?_ (State.dropJobs_keeps ..) (KeepsLaws.subI rfl rfl)
  assumption

theorem State.keyRequest_keeps (s : State) (c : ℕ) (cause : ℕ) (type : ℕ) (t : ℕ) :
    Keeps 524288 2727575847350647371198612087695267069952 s (State.keyRequest s c cause type t).2 := by
  unfold State.keyRequest
  extract_lets
  rename_i e0 e1 e2 e3
  have h_e3 : Keeps 524288 2727575847350647371198612087695267069952 s e3 := by
    unfold e3
    with_reducible refine KeepsLaws.ite ?_ ?_
    · with_reducible refine KeepsLaws.stepBumpSat ?_ (KeepsLaws.bitI rfl)
      exact KeepsLaws.refl ..
    · exact KeepsLaws.refl ..
  clear_value e3
  dsimp only
  with_reducible refine KeepsLaws.comp ?_ (State.setChan_keeps ..) (KeepsLaws.subI rfl rfl)
  assumption

theorem State.keyRequests_keeps (s : State) (mask : ℕ) (cause : ℕ) (type : ℕ) :
    Keeps 524288 2727575847350647371198612087695267069952 s (State.keyRequests s mask cause type).2 := by
  unfold State.keyRequests
  with_reducible refine KeepsLaws.iteP ?_ ?_
  · dsimp only
    with_reducible refine KeepsLaws.comp ?_ (State.forwardKey_keeps ..) (KeepsLaws.subI rfl rfl)
    exact KeepsLaws.refl ..
  · with_reducible refine KeepsLaws.foldlP (fun x a => ?_) ?_
    · with_reducible refine KeepsLaws.iteP ?_ ?_
      · extract_lets
        rename_i e0
        have h_e0 : Keeps 524288 2727575847350647371198612087695267069952 x.2 e0.2 := by
          unfold e0
          with_reducible refine KeepsLaws.comp ?_ (State.keyRequest_keeps ..) (KeepsLaws.subI rfl rfl)
          exact KeepsLaws.refl ..
        clear_value e0
        dsimp only
        assumption
      · exact KeepsLaws.refl ..
    · dsimp only
      exact KeepsLaws.refl ..

theorem State.writeRingEnc_keeps (s : State) (p : Port) (v : Word) :
    Keeps 524288 1329227995784915872903807060284538880 s (State.writeRingEnc s p v) := by
  unfold State.writeRingEnc
  extract_lets
  rename_i e0 e1
  with_reducible refine KeepsLaws.ite ?_ ?_
  · with_reducible refine KeepsLaws.stepReg ?_ (KeepsLaws.bitI rfl)
    with_reducible refine KeepsLaws.comp ?_ (KeepsLaws.upd_enc ..) (KeepsLaws.subI rfl rfl)
    exact KeepsLaws.refl ..
  · with_reducible refine KeepsLaws.stepBumpSat ?_ (KeepsLaws.bitI rfl)
    exact KeepsLaws.refl ..

theorem State.keyCmdsStep_keeps (s : State) (c : ℕ) (t : ℕ) (tk : ℕ) (pic : ℕ) (deferred : Bool) :
    Keeps 524316 2686976 s (State.keyCmdsStep s c t tk pic deferred) := by
  unfold State.keyCmdsStep
  extract_lets
  rename_i e0 e1 e2
  with_reducible refine KeepsLaws.foldl (fun x a => ?_) ?_
  · with_reducible refine KeepsLaws.comp ?_ (State.replyR_keeps ..) (KeepsLaws.subI rfl rfl)
    exact KeepsLaws.refl ..
  · with_reducible refine KeepsLaws.comp ?_ (KeepsLaws.upd_enc ..) (KeepsLaws.subI rfl rfl)
    exact KeepsLaws.refl ..

theorem State.noteLate_keeps (s : State) (c : ℕ) (num : ℕ) :
    Keeps 524556 175458095443608895223302531957006077952 s (State.noteLate s c num) := by
  unfold State.noteLate
  extract_lets
  rename_i e0
  have h_e0 : Keeps 524556 175458095443608895223302531957006077952 s e0 := by
    unfold e0
    with_reducible refine KeepsLaws.stepBumpSat ?_ (KeepsLaws.bitI rfl)
    with_reducible refine KeepsLaws.comp ?_ (State.modChan_keeps ..) (KeepsLaws.subI rfl rfl)
    exact KeepsLaws.refl ..
  clear_value e0
  with_reducible refine KeepsLaws.comp ?_ (State.eventPerSec_keeps ..) (KeepsLaws.subI rfl rfl)
  assumption

theorem State.pairKey_keeps (s : State) (c : ℕ) :
    Keeps 524288 2727575847350647371198612087695267069952 s (State.pairKey s c) := by
  unfold State.pairKey
  extract_lets
  rename_i e0
  with_reducible refine KeepsLaws.ite ?_ ?_
  · exact KeepsLaws.refl ..
  · with_reducible refine KeepsLaws.ite ?_ ?_
    · with_reducible refine KeepsLaws.comp ?_ (State.keyRequest_keeps ..) (KeepsLaws.subI rfl rfl)
      exact KeepsLaws.refl ..
    · with_reducible refine KeepsLaws.comp ?_ (State.modChan_keeps ..) (KeepsLaws.subI rfl rfl)
      exact KeepsLaws.refl ..

theorem State.queuePackets_keeps (s : State) (c : ℕ) (pk : List (List Byte)) :
    Keeps 1048576 748288838313422294120286634350736906063837462003712 s (State.queuePackets s c pk) := by
  unfold State.queuePackets
  extract_lets
  rename_i e0 e1 e2
  with_reducible refine KeepsLaws.stepReg ?_ (KeepsLaws.bitI rfl)
  with_reducible refine KeepsLaws.comp ?_ (State.setFlow_keeps ..) (KeepsLaws.subI rfl rfl)
  exact KeepsLaws.refl ..

theorem State.reportStatus_keeps (s : State) (c : ℕ) (st : ℕ) (pic : ℕ) (tag : Option Tag) :
    Keeps 524556 5316911983139663491615228241121972224 s (State.reportStatus s c st pic tag) := by
  unfold State.reportStatus
  extract_lets
  rename_i e0 e1
  have h_e1 : Keeps 524556 5316911983139663491615228241121972224 s e1 := by
    unfold e1
    with_reducible refine KeepsLaws.stepSetBits ?_ (KeepsLaws.bitI rfl)
    exact KeepsLaws.refl ..
  clear_value e1
  with_reducible refine KeepsLaws.ite ?_ ?_
  · assumption
  · with_reducible refine KeepsLaws.comp ?_ (State.modChan_keeps ..) (KeepsLaws.subI rfl rfl)
    with_reducible refine KeepsLaws.comp ?_ (State.eventLimited_keeps ..) (KeepsLaws.subI rfl rfl)
    assumption

theorem State.rowAq_keeps (s : State) (p : EncPic) (rows : ℕ) (r : ℕ) :
    Keeps 0 0 s (State.rowAq s p rows r).2 := by
  unfold State.rowAq
  extract_lets
  rename_i e0 e1
  with_reducible refine KeepsLaws.iteP ?_ ?_
  · split
    dsimp only
    with_reducible refine KeepsLaws.ofSnd (by assumption) ?_
    with_reducible refine KeepsLaws.comp ?_ (KeepsLaws.drawn ..) (KeepsLaws.subI rfl rfl)
    exact KeepsLaws.refl ..
  · with_reducible refine KeepsLaws.iteP ?_ ?_
    · dsimp only
      exact KeepsLaws.refl ..
    · dsimp only
      exact KeepsLaws.refl ..

theorem State.takeFrame_keeps (s : State) (c : ℕ) (f : Cand) (tin : ℕ) :
    Keeps 34177024 43561459877863262986803564979507452444672 s (State.takeFrame s c f tin) := by
  unfold State.takeFrame
  extract_lets
  rename_i e0 e1
  split
  · exact KeepsLaws.refl ..
  · extract_lets
    rename_i e2
    have h_e2 : Keeps 34177024 43561459877863262986803564979507452444672 s e2 := by
      unfold e2
      with_reducible refine KeepsLaws.comp ?_ (State.collect_keeps ..) (KeepsLaws.subI rfl rfl)
      with_reducible refine KeepsLaws.comp ?_ (State.modPool_keeps ..) (KeepsLaws.subI rfl rfl)
      exact KeepsLaws.refl ..
    clear_value e2
    with_reducible refine KeepsLaws.stepAddSat ?_ (KeepsLaws.bitI rfl)
    with_reducible refine KeepsLaws.comp ?_ (State.setChan_keeps ..) (KeepsLaws.subI rfl rfl)
    assumption

theorem State.startEncPicture_keeps (s0 : State) (c : ℕ) (ready : Bool) (pre : List ℕ) :
    Keeps 34177308 59959148740864931423913154826890855911424 s0 (State.startEncPicture s0 c ready pre) := by
  unfold State.startEncPicture
  extract_lets
  rename_i e0 e1 e2 e3 e4 e5 e6 e7 e8 e9 e10 e11 e12 e13 e14 e15 e16 e17 e18 e19 e20 e21 e22 e23 e24 e25 e26 e27 e28 e29 e30 e31 e32 e33 e34 e35 e36
  have h_e0 : Keeps 34177308 59959148740864931423913154826890855911424 s0 e0 := by
    unfold e0
    with_reducible refine KeepsLaws.comp ?_ (State.checkTaken_keeps ..) (KeepsLaws.subI rfl rfl)
    exact KeepsLaws.refl ..
  clear_value e0
  have h_e11 : Keeps 34177308 59959148740864931423913154826890855911424 s0 e11 := by
    unfold e11
    split
    · with_reducible refine KeepsLaws.comp ?_ (State.takeFrame_keeps ..) (KeepsLaws.subI rfl rfl)
      assumption
    · assumption
  clear_value e11
  split
  extract_lets
  rename_i e37 e38 e39 e40 e41 e42 e43 e44 e45
  have h_e39 : Keeps 34177308 59959148740864931423913154826890855911424 s0 e39 := by
    unfold e39
    with_reducible refine KeepsLaws.comp ?_ (State.setChan_keeps ..) (KeepsLaws.subI rfl rfl)
    with_reducible refine KeepsLaws.comp ?_ (State.setPool_keeps ..) (KeepsLaws.subI rfl rfl)
    with_reducible refine KeepsLaws.ofSnd (by assumption) ?_
    with_reducible refine KeepsLaws.iteP ?_ ?_
    · with_reducible refine KeepsLaws.comp ?_ (KeepsLaws.drawn ..) (KeepsLaws.subI rfl rfl)
      assumption
    · dsimp only
      assumption
  clear_value e39
  have h_e40 : Keeps 34177308 59959148740864931423913154826890855911424 s0 e40 := by
    unfold e40
    with_reducible refine KeepsLaws.ite ?_ ?_
    · with_reducible refine KeepsLaws.stepBumpSat ?_ (KeepsLaws.bitI rfl)
      assumption
    · with_reducible refine KeepsLaws.ite ?_ ?_
      · with_reducible refine KeepsLaws.stepBumpWrap ?_ (KeepsLaws.bitI rfl)
        assumption
      · assumption
  clear_value e40
  have h_e41 : Keeps 34177308 59959148740864931423913154826890855911424 s0 e41 := by
    unfold e41
    with_reducible refine KeepsLaws.ite ?_ ?_
    · with_reducible refine KeepsLaws.comp ?_ (State.eventPerSec_keeps ..) (KeepsLaws.subI rfl rfl)
      with_reducible refine KeepsLaws.stepBumpSat ?_ (KeepsLaws.bitI rfl)
      assumption
    · assumption
  clear_value e41
  have h_e42 : Keeps 34177308 59959148740864931423913154826890855911424 s0 e42 := by
    unfold e42
    with_reducible refine KeepsLaws.ite ?_ ?_
    · with_reducible refine KeepsLaws.comp ?_ (State.keyCmdsStep_keeps ..) (KeepsLaws.subI rfl rfl)
      assumption
    · with_reducible refine KeepsLaws.ite ?_ ?_
      · with_reducible refine KeepsLaws.comp ?_ (State.keyCmdsStep_keeps ..) (KeepsLaws.subI rfl rfl)
        assumption
      · assumption
  clear_value e42
  have h_e43 : Keeps 34177308 59959148740864931423913154826890855911424 s0 e43 := by
    unfold e43
    with_reducible refine KeepsLaws.comp ?_ (State.reportStatus_keeps ..) (KeepsLaws.subI rfl rfl)
    assumption
  clear_value e43
  have h_e44 : Keeps 34177308 59959148740864931423913154826890855911424 s0 e44 := by
    unfold e44
    with_reducible refine KeepsLaws.ite ?_ ?_
    · with_reducible refine KeepsLaws.comp ?_ (State.setChanState_keeps ..) (KeepsLaws.subI rfl rfl)
      assumption
    · with_reducible refine KeepsLaws.ite ?_ ?_
      · with_reducible refine KeepsLaws.comp ?_ (State.setChanState_keeps ..) (KeepsLaws.subI rfl rfl)
        assumption
      · assumption
  clear_value e44
  with_reducible refine KeepsLaws.ite ?_ ?_
  · with_reducible refine KeepsLaws.comp ?_ (State.seam_keeps ..) (KeepsLaws.subI rfl rfl)
    with_reducible refine KeepsLaws.comp ?_ (State.modChan_keeps ..) (KeepsLaws.subI rfl rfl)
    assumption
  · assumption

theorem State.takeChan_keeps (s : State) (c : ℕ) (a : ChanArm) :
    Keeps 123576668 738417405244186244438457565129532114653668212755182742956328820610165903649832461897647880998912 s (State.takeChan s c a) := by
  unfold State.takeChan
  extract_lets
  rename_i e0 e1 e2
  have h_e1 : Keeps 123576668 738417405244186244438457565129532114653668212755182742956328820610165903649832461897647880998912 s e1 := by
    unfold e1
    with_reducible refine KeepsLaws.comp ?_ (State.modChan_keeps ..) (KeepsLaws.subI rfl rfl)
    exact KeepsLaws.refl ..
  clear_value e1
  have h_e2 : Keeps 123576668 738417405244186244438457565129532114653668212755182742956328820610165903649832461897647880998912 s e2 := by
    unfold e2
    with_reducible refine KeepsLaws.ite ?_ ?_
    · with_reducible refine KeepsLaws.comp ?_ (State.applyChan_keeps ..) (KeepsLaws.subI rfl rfl)
      assumption
    · with_reducible refine KeepsLaws.ite ?_ ?_
      · with_reducible refine KeepsLaws.comp ?_ (State.endChan_keeps ..) (KeepsLaws.subI rfl rfl)
        assumption
      · with_reducible refine KeepsLaws.comp ?_ (State.modChan_keeps ..) (KeepsLaws.subI rfl rfl)
        assumption
  clear_value e2
  with_reducible refine KeepsLaws.comp ?_ (State.tookChan_keeps ..) (KeepsLaws.subI rfl rfl)
  assumption

theorem execEncPictureStart_keeps (c : Fin 16) (ready : Bool) (pre : List ℕ) (s : State) :
    KeepsO 123576668 738417405244186244438457565129532114653668212755182743016282320132048749181285775544532542754816 s (execEncPictureStart c ready pre s) := by
  unfold execEncPictureStart
  extract_lets
  rename_i e0 e1 e2
  have h_e1 : Keeps 123576668 738417405244186244438457565129532114653668212755182743016282320132048749181285775544532542754816 s e1 := by
    unfold e1
    split
    · with_reducible refine KeepsLaws.comp ?_ (State.takeChan_keeps ..) (KeepsLaws.subI rfl rfl)
      exact KeepsLaws.refl ..
    · exact KeepsLaws.refl ..
  clear_value e1
  with_reducible refine KeepsLaws.iteO ?_ ?_
  · with_reducible refine KeepsLaws.next ?_
    exact KeepsLaws.refl ..
  · with_reducible refine KeepsLaws.iteO ?_ ?_
    · with_reducible refine KeepsLaws.next ?_
      assumption
    · with_reducible refine KeepsLaws.next ?_
      with_reducible refine KeepsLaws.comp ?_ (State.startEncPicture_keeps ..) (KeepsLaws.subI rfl rfl)
      with_reducible refine KeepsLaws.comp ?_ (State.takeEngines_keeps ..) (KeepsLaws.subI rfl rfl)
      assumption

theorem execRingIndexWriteEnc_keeps (p : Port) (value : Word) (s : State) :
    KeepsO 524288 1329227995784915872903807060284538880 s (execRingIndexWriteEnc p value s) := by
  unfold execRingIndexWriteEnc
  with_reducible refine KeepsLaws.next ?_
  with_reducible refine KeepsLaws.comp ?_ (State.writeRingEnc_keeps ..) (KeepsLaws.subI rfl rfl)
  exact KeepsLaws.refl ..

theorem execEncChannel_keeps (r : Req) (b : Body) (s : State) :
    KeepsO 123576668 738417405244186244438457565129532114653668212755182742956328820610165903649832461897647880998912 s (execEncChannel r b s) := by
  unfold execEncChannel
  extract_lets
  rename_i e0 e1 e2 e3
  with_reducible refine KeepsLaws.command (KeepsLaws.subI rfl rfl) (fun x => ?_)
  split
  · with_reducible refine KeepsLaws.doneA ?_
    exact KeepsLaws.refl ..
  · with_reducible refine KeepsLaws.iteA ?_ ?_
    · with_reducible refine KeepsLaws.doneA ?_
      with_reducible refine KeepsLaws.comp ?_ (State.allocate_keeps ..) (KeepsLaws.subI rfl rfl)
      with_reducible refine KeepsLaws.comp ?_ (State.armChan_keeps ..) (KeepsLaws.subI rfl rfl)
      with_reducible refine KeepsLaws.comp ?_ (KeepsLaws.ofOptP (by assumption) (State.stageChan_keeps ..)) (KeepsLaws.subI rfl rfl)
      exact KeepsLaws.refl ..
    · split
      with_reducible refine KeepsLaws.laterA ?_
      with_reducible refine KeepsLaws.comp ?_ (State.allocate_keeps ..) (KeepsLaws.subI rfl rfl)
      with_reducible refine KeepsLaws.comp ?_ (State.armChan_keeps ..) (KeepsLaws.subI rfl rfl)
      with_reducible refine KeepsLaws.ofSnd (by assumption) ?_
      with_reducible refine KeepsLaws.comp ?_ (State.newWaiter_keeps ..) (KeepsLaws.subI rfl rfl)
      with_reducible refine KeepsLaws.comp ?_ (KeepsLaws.ofOptP (by assumption) (State.stageChan_keeps ..)) (KeepsLaws.subI rfl rfl)
      exact KeepsLaws.refl ..

theorem execEncKey_keeps (r : Req) (b : Body) (s : State) :
    KeepsO 524316 2727575847350647371198612087695269756928 s (execEncKey r b s) := by
  unfold execEncKey
  extract_lets
  rename_i e0 e1 e2
  with_reducible refine KeepsLaws.command (KeepsLaws.subI rfl rfl) (fun x => ?_)
  split
  with_reducible refine KeepsLaws.laterA ?_
  with_reducible refine KeepsLaws.comp ?_ (KeepsLaws.upd_enc ..) (KeepsLaws.subI rfl rfl)
  with_reducible refine KeepsLaws.ofSnd (by assumption) ?_
  with_reducible refine KeepsLaws.comp ?_ (State.keyRequests_keeps ..) (KeepsLaws.subI rfl rfl)
  exact KeepsLaws.refl ..

theorem execEncRowOutput_keeps (c : Fin 16) (row : RowCoded) (s : State) :
    KeepsO 1614092 748288838422927751883525644246034935519529881112576 s (execEncRowOutput c row s) := by
  unfold execEncRowOutput
  extract_lets
  rename_i e0 e1 e2
  split
  · with_reducible refine KeepsLaws.next ?_
    exact KeepsLaws.refl ..
  · extract_lets
    rename_i e3 e4 e5 e6 e7 e8 e9 e10 e11 e12
    split
    · with_reducible refine KeepsLaws.next ?_
      exact KeepsLaws.refl ..
    · with_reducible refine KeepsLaws.iteO ?_ ?_
      · with_reducible refine KeepsLaws.next ?_
        exact KeepsLaws.refl ..
      · extract_lets
        rename_i e13 e14 e15
        split
        extract_lets
        rename_i e16 e17 e18 e19 e20 e21 e22 e23 e24 e25 e26 e27 e28 e29 e30 e31 e32 e33 e34 e35 e36 e37 e38
        have h_e25 : Keeps 1614092 748288838422927751883525644246034935519529881112576 s e25 := by
          unfold e25
          with_reducible refine KeepsLaws.comp ?_ (State.modChan_keeps ..) (KeepsLaws.subI rfl rfl)
          exact KeepsLaws.refl ..
        clear_value e25
        have h_e26 : Keeps 1614092 748288838422927751883525644246034935519529881112576 s e26 := by
          unfold e26
          with_reducible refine KeepsLaws.stepReg ?_ (KeepsLaws.bitI rfl)
          assumption
        clear_value e26
        have h_e27 : Keeps 1614092 748288838422927751883525644246034935519529881112576 s e27 := by
          unfold e27
          with_reducible refine KeepsLaws.ite ?_ ?_
          · with_reducible refine KeepsLaws.comp ?_ (State.noteLate_keeps ..) (KeepsLaws.subI rfl rfl)
            assumption
          · assumption
        clear_value e27
        have h_e29 : Keeps 1614092 748288838422927751883525644246034935519529881112576 s e29 := by
          unfold e29
          with_reducible refine KeepsLaws.stepAddSatBits ?_ (KeepsLaws.bitI rfl)
          assumption
        clear_value e29
        have h_e33 : Keeps 1614092 748288838422927751883525644246034935519529881112576 s e33 := by
          unfold e33
          with_reducible refine KeepsLaws.ite ?_ ?_
          · with_reducible refine KeepsLaws.ite ?_ ?_
            · with_reducible refine KeepsLaws.comp ?_ (State.event_keeps ..) (KeepsLaws.subI rfl rfl)
              with_reducible refine KeepsLaws.comp ?_ (State.setLim_keeps ..) (KeepsLaws.subI rfl rfl)
              assumption
            · with_reducible refine KeepsLaws.comp ?_ (State.setLim_keeps ..) (KeepsLaws.subI rfl rfl)
              assumption
          · assumption
        clear_value e33
        have h_e34 : Keeps 1614092 748288838422927751883525644246034935519529881112576 s e34 := by
          unfold e34
          with_reducible refine KeepsLaws.ite ?_ ?_
          · with_reducible refine KeepsLaws.stepReg ?_ (KeepsLaws.bitI rfl)
            assumption
          · assumption
        clear_value e34
        have h_e36 : Keeps 1614092 748288838422927751883525644246034935519529881112576 s e36 := by
          unfold e36
          with_reducible refine KeepsLaws.ite ?_ ?_
          · with_reducible refine KeepsLaws.ite ?_ ?_
            · with_reducible refine KeepsLaws.comp ?_ (State.diverge_keeps ..) (KeepsLaws.subI rfl rfl)
              assumption
            · with_reducible refine KeepsLaws.ite ?_ ?_
              · with_reducible refine KeepsLaws.comp ?_ (State.setChanState_keeps ..) (KeepsLaws.subI rfl rfl)
                assumption
              · assumption
          · assumption
        clear_value e36
        have h_e37 : Keeps 1614092 748288838422927751883525644246034935519529881112576 s e37 := by
          unfold e37
          with_reducible refine KeepsLaws.ite ?_ ?_
          · with_reducible refine KeepsLaws.comp ?_ (State.seam_keeps ..) (KeepsLaws.subI rfl rfl)
            assumption
          · assumption
        clear_value e37
        have h_e38 : Keeps 1614092 748288838422927751883525644246034935519529881112576 s e38 := by
          unfold e38
          with_reducible refine KeepsLaws.ite ?_ ?_
          · with_reducible refine KeepsLaws.comp ?_ (State.queuePackets_keeps ..) (KeepsLaws.subI rfl rfl)
            assumption
          · assumption
        clear_value e38
        with_reducible refine KeepsLaws.next ?_
        with_reducible refine KeepsLaws.ite ?_ ?_
        · with_reducible refine KeepsLaws.comp ?_ (State.endEncPicture_keeps ..) (KeepsLaws.subI rfl rfl)
          assumption
        · assumption

theorem execEncStatsRing_keeps (r : Req) (b : Body) (s : State) :
    KeepsO 524316 1993841993677373809355710590423203840 s (execEncStatsRing r b s) := by
  unfold execEncStatsRing
  extract_lets
  rename_i e0
  with_reducible refine KeepsLaws.command (KeepsLaws.subI rfl rfl) (fun x => ?_)
  with_reducible refine KeepsLaws.doneA ?_
  with_reducible refine KeepsLaws.stepSetBits ?_ (KeepsLaws.bitI rfl)
  with_reducible refine KeepsLaws.stepSetBits ?_ (KeepsLaws.bitI rfl)
  with_reducible refine KeepsLaws.comp ?_ (KeepsLaws.upd_enc ..) (KeepsLaws.subI rfl rfl)
  exact KeepsLaws.refl ..

theorem execEncEndOfBitstream_keeps (c : Fin 16) (s : State) :
    KeepsO 35234060 772175971588681806622809900079383925042437780213760 s (execEncEndOfBitstream c s) := by
  unfold execEncEndOfBitstream
  extract_lets
  rename_i e0
  split
  · with_reducible refine KeepsLaws.next ?_
    exact KeepsLaws.refl ..
  · with_reducible refine KeepsLaws.iteO ?_ ?_
    · with_reducible refine KeepsLaws.next ?_
      exact KeepsLaws.refl ..
    · extract_lets
      rename_i e1
      have h_e1 : Keeps 35234060 772175971588681806622809900079383925042437780213760 s e1 := by
        unfold e1
        with_reducible refine KeepsLaws.ite ?_ ?_
        · with_reducible refine KeepsLaws.comp ?_ (State.queuePackets_keeps ..) (KeepsLaws.subI rfl rfl)
          exact KeepsLaws.refl ..
        · exact KeepsLaws.refl ..
      clear_value e1
      with_reducible refine KeepsLaws.next ?_
      with_reducible refine KeepsLaws.comp ?_ (State.endChan_keeps ..) (KeepsLaws.subI rfl rfl)
      assumption

theorem execEncRowInputDeadline_keeps (c : Fin 16) (r : ℕ) (told : ℤ) (s : State) :
    KeepsO 532748 856022963339536796285310955096906469376 s (execEncRowInputDeadline c r told s) := by
  unfold execEncRowInputDeadline
  extract_lets
  rename_i e0
  split
  · with_reducible refine KeepsLaws.next ?_
    exact KeepsLaws.refl ..
  · with_reducible refine KeepsLaws.iteO ?_ ?_
    · with_reducible refine KeepsLaws.next ?_
      exact KeepsLaws.refl ..
    · extract_lets
      rename_i e1 e2 e3 e4 e5
      split
      extract_lets
      rename_i e6 e7 e8 e9 e10
      have h_e7 : Keeps 532748 856022963339536796285310955096906469376 s e7 := by
        unfold e7
        with_reducible refine KeepsLaws.comp ?_ (State.modChan_keeps ..) (KeepsLaws.subI rfl rfl)
        with_reducible refine KeepsLaws.ofSnd (by assumption) ?_
        with_reducible refine KeepsLaws.iteP ?_ ?_
        · with_reducible refine KeepsLaws.comp ?_ (State.rowAq_keeps ..) (KeepsLaws.subI rfl rfl)
          exact KeepsLaws.refl ..
        · dsimp only
          exact KeepsLaws.refl ..
      clear_value e7
      have h_e8 : Keeps 532748 856022963339536796285310955096906469376 s e8 := by
        unfold e8
        with_reducible refine KeepsLaws.ite ?_ ?_
        · with_reducible refine KeepsLaws.stepReg ?_ (KeepsLaws.bitI rfl)
          assumption
        · assumption
      clear_value e8
      have h_e9 : Keeps 532748 856022963339536796285310955096906469376 s e9 := by
        unfold e9
        with_reducible refine KeepsLaws.ite ?_ ?_
        · with_reducible refine KeepsLaws.comp ?_ (State.refill_keeps ..) (KeepsLaws.subI rfl rfl)
          with_reducible refine KeepsLaws.comp ?_ (State.settleRows_keeps ..) (KeepsLaws.subI rfl rfl)
          with_reducible refine KeepsLaws.comp ?_ (State.noteRecon_keeps ..) (KeepsLaws.subI rfl rfl)
          with_reducible refine KeepsLaws.comp ?_ (State.noteLate_keeps ..) (KeepsLaws.subI rfl rfl)
          assumption
        · with_reducible refine KeepsLaws.ite ?_ ?_
          · with_reducible refine KeepsLaws.comp ?_ (State.refill_keeps ..) (KeepsLaws.subI rfl rfl)
            with_reducible refine KeepsLaws.comp ?_ (State.toDram_keeps ..) (KeepsLaws.subI rfl rfl)
            assumption
          · assumption
      clear_value e9
      have h_e10 : Keeps 532748 856022963339536796285310955096906469376 s e10 := by
        unfold e10
        with_reducible refine KeepsLaws.ite ?_ ?_
        · with_reducible refine KeepsLaws.comp ?_ (State.eventAt_keeps ..) (KeepsLaws.subI rfl rfl)
          assumption
        · assumption
      clear_value e10
      with_reducible refine KeepsLaws.next ?_
      with_reducible refine KeepsLaws.ite ?_ ?_
      · with_reducible refine KeepsLaws.comp ?_ (State.seam_keeps ..) (KeepsLaws.subI rfl rfl)
        assumption
      · assumption

end Sys2Proof.Machine
end

