-- ==== Sys2Proof/Laws/FrameRegs.lean ====
section
/-! SUPPORT. What each operation of Machine/Regs.lean can change at most (Keeps): masks of fields and of registers. -/

namespace Sys2Proof.Machine

theorem State.readBy_keeps (s : State) (m : BusMaster) (r : Reg) (i : ℕ) :
    Keeps 268435456 0 s (State.readBy s m r i).2 := by
  unfold State.readBy
  extract_lets
  rename_i e0
  have h_e0 : Keeps 268435456 0 s e0 := by
    unfold e0
    split
    · with_reducible refine KeepsLaws.comp ?_ (KeepsLaws.upd_latches ..) (KeepsLaws.subI rfl rfl)
      exact KeepsLaws.refl ..
    · exact KeepsLaws.refl ..
  clear_value e0
  split
  · dsimp only
    assumption
  · dsimp only
    assumption

theorem State.readWord_keeps (s : State) (m : BusMaster) (a : ℕ) :
    Keeps 268435456 12874621637431565473079352479185122889046062810420647730310980270642251560526842505858687740412096 s (State.readWord s m a).2 := by
  unfold State.readWord
  split
  · exact KeepsLaws.refl ..
  · split
    · exact KeepsLaws.refl ..
    · split
      · exact KeepsLaws.refl ..
      · rename_i r i _
        have key := List.all_eq_true.mp (show Reg.all.all (fun q => Nat.testBit 12874621637431565473079352479185122889046062810420647730310980270642251560526842505858687740412096 q.ctorIdx || !(q.info.acc == .RC)) = true by
          decide +kernel) r (List.contains_iff_mem.mp r.mem_all)
        have h : Keeps 268435456 12874621637431565473079352479185122889046062810420647730310980270642251560526842505858687740412096 s (s.readBy m r i).2 := KeepsLaws.mono (State.readBy_keeps ..) (KeepsLaws.subI rfl rfl)
        dsimp only
        split
        · rename_i hr
          exact KeepsLaws.stepReg h (by simpa [hr] using key)
        · exact h

end Sys2Proof.Machine
end

