-- ==== Sys2Proof/Laws/FrameTouch.lean ====
section
/-! SUPPORT. What each operation of Machine/Touch.lean can change at most (Keeps): masks of fields and of registers. -/

namespace Sys2Proof.Machine

theorem State.modTfe_keeps (s : State) (f : ℕ) (g : TouchFe → TouchFe) :
    Keeps 134217728 0 s (State.modTfe s f g) := by
  unfold State.modTfe
  with_reducible refine KeepsLaws.comp ?_ (KeepsLaws.upd_tch ..) (KeepsLaws.subI rfl rfl)
  exact KeepsLaws.refl ..

theorem State.takeTchMap_keeps (s0 : State) (f : ℕ) (b : Body) (quiet : Bool) :
    Keeps 134217792 13479973333575319897333507543509815336818572211270286240551805124608 s0 (State.takeTchMap s0 f b quiet) := by
  unfold State.takeTchMap
  extract_lets
  rename_i e0 e1
  have h_e1 : Keeps 134217792 13479973333575319897333507543509815336818572211270286240551805124608 s0 e1 := by
    unfold e1
    with_reducible refine KeepsLaws.ite ?_ ?_
    · exact KeepsLaws.refl ..
    · with_reducible refine KeepsLaws.comp ?_ (State.storeTaken_keeps ..) (KeepsLaws.subI rfl rfl)
      exact KeepsLaws.refl ..
  clear_value e1
  with_reducible refine KeepsLaws.stepSetBits ?_ (KeepsLaws.bitI rfl)
  with_reducible refine KeepsLaws.stepSetBit ?_ (KeepsLaws.bitI rfl)
  with_reducible refine KeepsLaws.comp ?_ (State.modTfe_keeps ..) (KeepsLaws.subI rfl rfl)
  assumption

theorem State.applyTchMap_keeps (s : State) (b : Body) (quiet : Bool) :
    Keeps 134217792 13479973333575319897333507543509815336818572211270286240551805124608 s (State.applyTchMap s b quiet) := by
  unfold State.applyTchMap
  with_reducible refine KeepsLaws.ite ?_ ?_
  · with_reducible refine KeepsLaws.comp ?_ (State.modTfe_keeps ..) (KeepsLaws.subI rfl rfl)
    exact KeepsLaws.refl ..
  · with_reducible refine KeepsLaws.comp ?_ (State.takeTchMap_keeps ..) (KeepsLaws.subI rfl rfl)
    exact KeepsLaws.refl ..

theorem State.buildReport_keeps (s : State) (f : ℕ) (es : List TEntry × List TEntry) (ovf : Bool) :
    Keeps 134217728 0 s (State.buildReport s f es ovf) := by
  unfold State.buildReport
  extract_lets
  rename_i e0 e1 e2
  with_reducible refine KeepsLaws.ite ?_ ?_
  · exact KeepsLaws.refl ..
  · with_reducible refine KeepsLaws.comp ?_ (State.modTfe_keeps ..) (KeepsLaws.subI rfl rfl)
    exact KeepsLaws.refl ..

theorem State.showTfe_keeps (s : State) (f : ℕ) :
    Keeps 0 1738916560031216266756022473112766178449595815253866925031182861074432 s (State.showTfe s f) := by
  unfold State.showTfe
  extract_lets
  rename_i e0 e1
  have h_e1 : Keeps 0 1738916560031216266756022473112766178449595815253866925031182861074432 s e1 := by
    unfold e1
    with_reducible refine KeepsLaws.stepSetBit ?_ (KeepsLaws.bitI rfl)
    with_reducible refine KeepsLaws.stepSetBit ?_ (KeepsLaws.bitI rfl)
    with_reducible refine KeepsLaws.stepSetBits ?_ (KeepsLaws.bitI rfl)
    exact KeepsLaws.refl ..
  clear_value e1
  with_reducible refine KeepsLaws.stepSetBits ?_ (KeepsLaws.bitI rfl)
  with_reducible refine KeepsLaws.stepSetBits ?_ (KeepsLaws.bitI rfl)
  assumption

theorem State.doRebase_keeps (s : State) (f : ℕ) (c : TchCmd) :
    Keeps 134217756 1738916560031216266756022473112766178449595815253866925031182863761408 s (State.doRebase s f c) := by
  unfold State.doRebase
  extract_lets
  rename_i e0 e1 e2 e3 e4 e5 e6 e7 e8 e9 e10 e11 e12 e13 e14
  with_reducible refine KeepsLaws.comp ?_ (State.replyR_keeps ..) (KeepsLaws.subI rfl rfl)
  with_reducible refine KeepsLaws.comp ?_ (State.showTfe_keeps ..) (KeepsLaws.subI rfl rfl)
  with_reducible refine KeepsLaws.comp ?_ (State.modTfe_keeps ..) (KeepsLaws.subI rfl rfl)
  exact KeepsLaws.refl ..

theorem State.dropTchCmds_keeps (s : State) (f : ℕ) (b : Body) :
    Keeps 134217756 2686976 s (State.dropTchCmds s f b) := by
  unfold State.dropTchCmds
  extract_lets
  rename_i e0 e1 e2
  have h_e2 : Keeps 134217756 2686976 s e2 := by
    unfold e2
    with_reducible refine KeepsLaws.foldl (fun x a => ?_) ?_
    · with_reducible refine KeepsLaws.comp ?_ (State.replyR_keeps ..) (KeepsLaws.subI rfl rfl)
      exact KeepsLaws.refl ..
    · with_reducible refine KeepsLaws.comp ?_ (State.modTfe_keeps ..) (KeepsLaws.subI rfl rfl)
      exact KeepsLaws.refl ..
  clear_value e2
  with_reducible refine KeepsLaws.foldl (fun x a => ?_) ?_
  · with_reducible refine KeepsLaws.comp ?_ (State.replyR_keeps ..) (KeepsLaws.subI rfl rfl)
    exact KeepsLaws.refl ..
  · assumption

theorem State.freePoint_keeps (s : State) (f : ℕ) (p : Prov) :
    Keeps 0 0 s (State.freePoint s f p).1 := by
  unfold State.freePoint
  with_reducible refine KeepsLaws.iteQ ?_ ?_
  · split
    extract_lets
    rename_i e0
    dsimp only
    with_reducible refine KeepsLaws.ofSnd (by assumption) ?_
    with_reducible refine KeepsLaws.comp ?_ (KeepsLaws.drawn ..) (KeepsLaws.subI rfl rfl)
    exact KeepsLaws.refl ..
  · dsimp only
    exact KeepsLaws.refl ..

theorem State.writeRingTch_keeps (s : State) (p : Port) (v : Word) :
    Keeps 134217728 3369993333393829974333376885877453834204643052817571560137955475456 s (State.writeRingTch s p v) := by
  unfold State.writeRingTch
  extract_lets
  rename_i e0 e1
  with_reducible refine KeepsLaws.ite ?_ ?_
  · with_reducible refine KeepsLaws.stepReg ?_ (KeepsLaws.bitI rfl)
    with_reducible refine KeepsLaws.comp ?_ (KeepsLaws.upd_tch ..) (KeepsLaws.subI rfl rfl)
    exact KeepsLaws.refl ..
  · with_reducible refine KeepsLaws.stepBumpSat ?_ (KeepsLaws.bitI rfl)
    exact KeepsLaws.refl ..

theorem State.listen_keeps (s : State) (f : ℕ) (noise : List ℕ) :
    Keeps 134217728 431359146674410236714672241392314090778194310760649159697657763987456 s (State.listen s f noise) := by
  unfold State.listen
  extract_lets
  rename_i e0 e1 e2 e3
  have h_e3 : Keeps 134217728 431359146674410236714672241392314090778194310760649159697657763987456 s e3 := by
    unfold e3
    with_reducible refine KeepsLaws.comp ?_ (State.modTfe_keeps ..) (KeepsLaws.subI rfl rfl)
    exact KeepsLaws.refl ..
  clear_value e3
  with_reducible refine KeepsLaws.stepReg ?_ (KeepsLaws.bitI rfl)
  assumption

theorem State.putReport_keeps (s : State) (f : ℕ) (r : TReport) (es : List (List Byte)) :
    Keeps 134217996 170184663336388413703835532736811418627334474167287363786966540292096 s (State.putReport s f r es) := by
  unfold State.putReport
  extract_lets
  rename_i e0 e1 e2 e3 e4 e5 e6 e7 e8 e9
  have h_e7 : Keeps 134217996 170184663336388413703835532736811418627334474167287363786966540292096 s e7 := by
    unfold e7
    with_reducible refine KeepsLaws.stepSetBits ?_ (KeepsLaws.bitI rfl)
    with_reducible refine KeepsLaws.comp ?_ (KeepsLaws.emit ..) (KeepsLaws.subI rfl rfl)
    exact KeepsLaws.refl ..
  clear_value e7
  have h_e9 : Keeps 134217996 170184663336388413703835532736811418627334474167287363786966540292096 s e9 := by
    unfold e9
    with_reducible refine KeepsLaws.comp ?_ (KeepsLaws.upd_tch ..) (KeepsLaws.subI rfl rfl)
    assumption
  clear_value e9
  with_reducible refine KeepsLaws.ite ?_ ?_
  · exact KeepsLaws.refl ..
  · with_reducible refine KeepsLaws.ite ?_ ?_
    · with_reducible refine KeepsLaws.stepBumpSat ?_ (KeepsLaws.bitI rfl)
      unfold e3
      with_reducible refine KeepsLaws.comp ?_ (State.modTfe_keeps ..) (KeepsLaws.subI rfl rfl)
      exact KeepsLaws.refl ..
    · with_reducible refine KeepsLaws.ite ?_ ?_
      · with_reducible refine KeepsLaws.comp ?_ (State.eventPerSec_keeps ..) (KeepsLaws.subI rfl rfl)
        with_reducible refine KeepsLaws.stepBumpSat ?_ (KeepsLaws.bitI rfl)
        unfold e3
        with_reducible refine KeepsLaws.comp ?_ (State.modTfe_keeps ..) (KeepsLaws.subI rfl rfl)
        exact KeepsLaws.refl ..
      · with_reducible refine KeepsLaws.comp ?_ (State.modTfe_keeps ..) (KeepsLaws.subI rfl rfl)
        with_reducible refine KeepsLaws.stepBumpWrap ?_ (KeepsLaws.bitI rfl)
        assumption

theorem State.scanNodes_keeps (s : State) (f : ℕ) (raw : List ℕ) :
    Keeps 134217996 215679573337205118357336120696157045389097155380324579848828882587648 s (State.scanNodes s f raw) := by
  unfold State.scanNodes
  extract_lets
  rename_i e0 e1
  split
  extract_lets
  rename_i e2 e3
  have h_e2 : Keeps 134217996 215679573337205118357336120696157045389097155380324579848828882587648 s e2 := by
    unfold e2
    with_reducible refine KeepsLaws.comp ?_ (State.modTfe_keeps ..) (KeepsLaws.subI rfl rfl)
    exact KeepsLaws.refl ..
  clear_value e2
  have h_e3 : Keeps 134217996 215679573337205118357336120696157045389097155380324579848828882587648 s e3 := by
    unfold e3
    with_reducible refine KeepsLaws.ite ?_ ?_
    · assumption
    · with_reducible refine KeepsLaws.comp ?_ (State.eventPerSec_keeps ..) (KeepsLaws.subI rfl rfl)
      with_reducible refine KeepsLaws.stepAddSat ?_ (KeepsLaws.bitI rfl)
      assumption
  clear_value e3
  with_reducible refine KeepsLaws.comp ?_ (State.buildReport_keeps ..) (KeepsLaws.subI rfl rfl)
  assumption

theorem State.snapshots_keeps (s : State) (f : ℕ) :
    Keeps 134217756 2686976 s (State.snapshots s f) := by
  unfold State.snapshots
  extract_lets
  rename_i e0 e1
  with_reducible refine KeepsLaws.foldl (fun x a => ?_) ?_
  · with_reducible refine KeepsLaws.comp ?_ (State.replyR_keeps ..) (KeepsLaws.subI rfl rfl)
    with_reducible refine KeepsLaws.comp ?_ (KeepsLaws.emit ..) (KeepsLaws.subI rfl rfl)
    exact KeepsLaws.refl ..
  · with_reducible refine KeepsLaws.comp ?_ (State.modTfe_keeps ..) (KeepsLaws.subI rfl rfl)
    exact KeepsLaws.refl ..

theorem State.tellNoise_keeps (s : State) (f : ℕ) (on : Bool) (byCmd : Bool) (code : ℕ) (n : ℕ) :
    Keeps 12 593920 s (State.tellNoise s f on byCmd code n) := by
  unfold State.tellNoise
  with_reducible refine KeepsLaws.comp ?_ (State.event_keeps ..) (KeepsLaws.subI rfl rfl)
  exact KeepsLaws.refl ..

theorem State.takeNoise_keeps (s : State) (f : ℕ) :
    Keeps 134217740 877040765015744250820261334549607360351758354495772998525901821513728 s (State.takeNoise s f) := by
  unfold State.takeNoise
  split
  extract_lets
  rename_i e0 e1 e2 e3 e4 e5 e6
  have h_e4 : Keeps 134217740 877040765015744250820261334549607360351758354495772998525901821513728 s e4 := by
    unfold e4
    with_reducible refine KeepsLaws.ite ?_ ?_
    · exact KeepsLaws.refl ..
    · with_reducible refine KeepsLaws.comp ?_ (State.modTfe_keeps ..) (KeepsLaws.subI rfl rfl)
      with_reducible refine KeepsLaws.stepSetBits ?_ (KeepsLaws.bitI rfl)
      exact KeepsLaws.refl ..
  clear_value e4
  have h_e5 : Keeps 134217740 877040765015744250820261334549607360351758354495772998525901821513728 s e5 := by
    unfold e5
    with_reducible refine KeepsLaws.comp ?_ (State.modTfe_keeps ..) (KeepsLaws.subI rfl rfl)
    with_reducible refine KeepsLaws.stepSetBit ?_ (KeepsLaws.bitI rfl)
    with_reducible refine KeepsLaws.stepSetBit ?_ (KeepsLaws.bitI rfl)
    assumption
  clear_value e5
  have h_e6 : Keeps 134217740 877040765015744250820261334549607360351758354495772998525901821513728 s e6 := by
    unfold e6
    with_reducible refine KeepsLaws.ite ?_ ?_
    · with_reducible refine KeepsLaws.stepBumpSat ?_ (KeepsLaws.bitI rfl)
      assumption
    · assumption
  clear_value e6
  with_reducible refine KeepsLaws.ite ?_ ?_
  · assumption
  · with_reducible refine KeepsLaws.comp ?_ (State.tellNoise_keeps ..) (KeepsLaws.subI rfl rfl)
    assumption

theorem State.takeTchConfig_keeps (s : State) (f : ℕ) (b : Body) :
    Keeps 246486044 1065974306048913481878971270901677136270159599374277992804661243017823016271561210644245896564736 s (State.takeTchConfig s f b) := by
  unfold State.takeTchConfig
  extract_lets
  rename_i e0 e1 e2 e3 e4 e5 e6 e7 e8 e9 e10 e11
  have h_e8 : Keeps 246486044 1065974306048913481878971270901677136270159599374277992804661243017823016271561210644245896564736 s e8 := by
    unfold e8
    with_reducible refine KeepsLaws.ite ?_ ?_
    · with_reducible refine KeepsLaws.comp ?_ (State.tellNoise_keeps ..) (KeepsLaws.subI rfl rfl)
      exact KeepsLaws.refl ..
    · exact KeepsLaws.refl ..
  clear_value e8
  have h_e9 : Keeps 246486044 1065974306048913481878971270901677136270159599374277992804661243017823016271561210644245896564736 s e9 := by
    unfold e9
    with_reducible refine KeepsLaws.comp ?_ (State.modTfe_keeps ..) (KeepsLaws.subI rfl rfl)
    assumption
  clear_value e9
  have h_e10 : Keeps 246486044 1065974306048913481878971270901677136270159599374277992804661243017823016271561210644245896564736 s e10 := by
    unfold e10
    with_reducible refine KeepsLaws.stepSetBit ?_ (KeepsLaws.bitI rfl)
    with_reducible refine KeepsLaws.stepSetBit ?_ (KeepsLaws.bitI rfl)
    with_reducible refine KeepsLaws.stepSetBit ?_ (KeepsLaws.bitI rfl)
    assumption
  clear_value e10
  have h_e11 : Keeps 246486044 1065974306048913481878971270901677136270159599374277992804661243017823016271561210644245896564736 s e11 := by
    unfold e11
    with_reducible refine KeepsLaws.ite ?_ ?_
    · assumption
    · with_reducible refine KeepsLaws.stepSetBit ?_ (KeepsLaws.bitI rfl)
      with_reducible refine KeepsLaws.stepSetBit ?_ (KeepsLaws.bitI rfl)
      with_reducible refine KeepsLaws.stepSetBits ?_ (KeepsLaws.bitI rfl)
      assumption
  clear_value e11
  with_reducible refine KeepsLaws.comp ?_ (State.dropTchCmds_keeps ..) (KeepsLaws.subI rfl rfl)
  with_reducible refine KeepsLaws.comp ?_ (State.showTfe_keeps ..) (KeepsLaws.subI rfl rfl)
  with_reducible refine KeepsLaws.ite ?_ ?_
  · with_reducible refine KeepsLaws.comp ?_ (State.powerUp_keeps ..) (KeepsLaws.subI rfl rfl)
    assumption
  · assumption

theorem State.takeTchRing_keeps (s : State) (r : HostRing) :
    Keeps 134217728 5897488333439202455083409550285544209858125342430750230241414742016 s (State.takeTchRing s r) := by
  unfold State.takeTchRing
  extract_lets
  rename_i e0 e1
  have h_e1 : Keeps 134217728 5897488333439202455083409550285544209858125342430750230241414742016 s e1 := by
    unfold e1
    with_reducible refine KeepsLaws.comp ?_ (KeepsLaws.upd_tch ..) (KeepsLaws.subI rfl rfl)
    exact KeepsLaws.refl ..
  clear_value e1
  with_reducible refine KeepsLaws.stepSetBit ?_ (KeepsLaws.bitI rfl)
  with_reducible refine KeepsLaws.stepReg ?_ (KeepsLaws.bitI rfl)
  with_reducible refine KeepsLaws.stepReg ?_ (KeepsLaws.bitI rfl)
  assumption

theorem State.tchBoundary_keeps (s : State) (f : ℕ) :
    Keeps 246486108 1065974306048913481878971270901677136270159599374277992804661243017823016271561210644245896564736 s (State.tchBoundary s f) := by
  unfold State.tchBoundary
  extract_lets
  rename_i e0 e1 e2 e3 e4
  have h_e0 : Keeps 246486108 1065974306048913481878971270901677136270159599374277992804661243017823016271561210644245896564736 s e0 := by
    unfold e0
    split
    · with_reducible refine KeepsLaws.comp ?_ (State.takeTchRing_keeps ..) (KeepsLaws.subI rfl rfl)
      exact KeepsLaws.refl ..
    · exact KeepsLaws.refl ..
  clear_value e0
  have h_e1 : Keeps 246486108 1065974306048913481878971270901677136270159599374277992804661243017823016271561210644245896564736 s e1 := by
    unfold e1
    split
    · with_reducible refine KeepsLaws.comp ?_ (State.takeTchMap_keeps ..) (KeepsLaws.subI rfl rfl)
      assumption
    · assumption
  clear_value e1
  have h_e2 : Keeps 246486108 1065974306048913481878971270901677136270159599374277992804661243017823016271561210644245896564736 s e2 := by
    unfold e2
    split
    · with_reducible refine KeepsLaws.comp ?_ (State.modTfe_keeps ..) (KeepsLaws.subI rfl rfl)
      with_reducible refine KeepsLaws.stepSetBits ?_ (KeepsLaws.bitI rfl)
      assumption
    · assumption
  clear_value e2
  have h_e4 : Keeps 246486108 1065974306048913481878971270901677136270159599374277992804661243017823016271561210644245896564736 s e4 := by
    unfold e4
    with_reducible refine KeepsLaws.foldl (fun x a => ?_) ?_
    · with_reducible refine KeepsLaws.comp ?_ (State.doRebase_keeps ..) (KeepsLaws.subI rfl rfl)
      exact KeepsLaws.refl ..
    · with_reducible refine KeepsLaws.comp ?_ (State.modTfe_keeps ..) (KeepsLaws.subI rfl rfl)
      assumption
  clear_value e4
  split
  · with_reducible refine KeepsLaws.comp ?_ (State.takeTchConfig_keeps ..) (KeepsLaws.subI rfl rfl)
    assumption
  · assumption

theorem State.tellHeld_keeps (s : State) (f : ℕ) (ts : ℕ) (e : TEntry) (p : Prov) :
    Keeps 12 593920 s (State.tellHeld s f ts e p) := by
  unfold State.tellHeld
  with_reducible refine KeepsLaws.ite ?_ ?_
  · with_reducible refine KeepsLaws.comp ?_ (State.eventAt_keeps ..) (KeepsLaws.subI rfl rfl)
    exact KeepsLaws.refl ..
  · exact KeepsLaws.refl ..

theorem State.tellSuspect_keeps (s : State) (f : ℕ) :
    Keeps 12 593920 s (State.tellSuspect s f) := by
  unfold State.tellSuspect
  extract_lets
  rename_i e0 e1
  clear_value e1
  split
  · exact KeepsLaws.refl ..
  · with_reducible refine KeepsLaws.comp ?_ (State.event_keeps ..) (KeepsLaws.subI rfl rfl)
    exact KeepsLaws.refl ..

theorem execTchConfig_keeps (r : Req) (b : Body) (s : State) :
    KeepsO 246486044 1065974306048913481878971270901677136270159599374277992804661243017823016271561210644245896564736 s (execTchConfig r b s) := by
  unfold execTchConfig
  extract_lets
  rename_i e0 e1 e2
  with_reducible refine KeepsLaws.command (KeepsLaws.subI rfl rfl) (fun x => ?_)
  with_reducible refine KeepsLaws.doneA ?_
  with_reducible refine KeepsLaws.ite ?_ ?_
  · with_reducible refine KeepsLaws.comp ?_ (State.modTfe_keeps ..) (KeepsLaws.subI rfl rfl)
    exact KeepsLaws.refl ..
  · with_reducible refine KeepsLaws.comp ?_ (State.takeTchConfig_keeps ..) (KeepsLaws.subI rfl rfl)
    exact KeepsLaws.refl ..

theorem execRingIndexWriteTch_keeps (p : Port) (value : Word) (s : State) :
    KeepsO 134217728 3369993333393829974333376885877453834204643052817571560137955475456 s (execRingIndexWriteTch p value s) := by
  unfold execRingIndexWriteTch
  with_reducible refine KeepsLaws.next ?_
  with_reducible refine KeepsLaws.comp ?_ (State.writeRingTch_keeps ..) (KeepsLaws.subI rfl rfl)
  exact KeepsLaws.refl ..

theorem execTchNoiseMode_keeps (r : Req) (b : Body) (s : State) :
    KeepsO 134217756 13479973333575319897333507543509815336818572211270286240551807811584 s (execTchNoiseMode r b s) := by
  unfold execTchNoiseMode
  extract_lets
  rename_i e0
  with_reducible refine KeepsLaws.command (KeepsLaws.subI rfl rfl) (fun x => ?_)
  with_reducible refine KeepsLaws.doneA ?_
  with_reducible refine KeepsLaws.ite ?_ ?_
  · with_reducible refine KeepsLaws.comp ?_ (State.modTfe_keeps ..) (KeepsLaws.subI rfl rfl)
    exact KeepsLaws.refl ..
  · with_reducible refine KeepsLaws.stepSetBits ?_ (KeepsLaws.bitI rfl)
    exact KeepsLaws.refl ..

theorem execTchSelftestComplete_keeps (f : Fin 2) (s : State) :
    KeepsO 134217756 2686976 s (execTchSelftestComplete f s) := by
  unfold execTchSelftestComplete
  split
  · with_reducible refine KeepsLaws.next ?_
    exact KeepsLaws.refl ..
  · extract_lets
    rename_i e0 e1 e2 e3
    have h_e3 : Keeps 134217756 2686976 s e3 := by
      unfold e3
      with_reducible refine KeepsLaws.comp ?_ (State.modTfe_keeps ..) (KeepsLaws.subI rfl rfl)
      exact KeepsLaws.refl ..
    clear_value e3
    with_reducible refine KeepsLaws.next ?_
    with_reducible refine KeepsLaws.comp ?_ (State.replyR_keeps ..) (KeepsLaws.subI rfl rfl)
    assumption

theorem execScanFrameStart_keeps (f : Fin 2) (s : State) :
    KeepsO 246486108 1065974306048913481878971270901677136270159599374277992804661243017823016271561210644245896564736 s (execScanFrameStart f s) := by
  unfold execScanFrameStart
  extract_lets
  rename_i e0 e1
  have h_e1 : Keeps 246486108 1065974306048913481878971270901677136270159599374277992804661243017823016271561210644245896564736 s e1 := by
    unfold e1
    with_reducible refine KeepsLaws.comp ?_ (State.tchBoundary_keeps ..) (KeepsLaws.subI rfl rfl)
    exact KeepsLaws.refl ..
  clear_value e1
  with_reducible refine KeepsLaws.iteO ?_ ?_
  · with_reducible refine KeepsLaws.next ?_
    exact KeepsLaws.refl ..
  · with_reducible refine KeepsLaws.iteO ?_ ?_
    · with_reducible refine KeepsLaws.next ?_
      with_reducible refine KeepsLaws.comp ?_ (State.modTfe_keeps ..) (KeepsLaws.subI rfl rfl)
      with_reducible refine KeepsLaws.stepBumpWrap ?_ (KeepsLaws.bitI rfl)
      with_reducible refine KeepsLaws.comp ?_ (State.takeNoise_keeps ..) (KeepsLaws.subI rfl rfl)
      assumption
    · with_reducible refine KeepsLaws.next ?_
      assumption

theorem execTouchReportWrite_keeps (f : Fin 2) (s : State) :
    KeepsO 134217996 170184663336388413703835532736811418627334474167287363786966540292096 s (execTouchReportWrite f s) := by
  unfold execTouchReportWrite
  split
  · with_reducible refine KeepsLaws.next ?_
    exact KeepsLaws.refl ..
  · extract_lets
    rename_i e0 e1 e2 e3 e4 e5
    have h_e3 : Keeps 134217996 170184663336388413703835532736811418627334474167287363786966540292096 s e3 := by
      unfold e3
      with_reducible refine KeepsLaws.comp ?_ (State.modTfe_keeps ..) (KeepsLaws.subI rfl rfl)
      exact KeepsLaws.refl ..
    clear_value e3
    have h_e4 : Keeps 134217996 170184663336388413703835532736811418627334474167287363786966540292096 s e4 := by
      unfold e4
      with_reducible refine KeepsLaws.foldl (fun x a => ?_) ?_
      · extract_lets
        rename_i e6
        have h_e6 : Keeps 134217996 170184663336388413703835532736811418627334474167287363786966540292096 x e6.1 := by
          unfold e6
          with_reducible refine KeepsLaws.comp ?_ (State.freePoint_keeps ..) (KeepsLaws.subI rfl rfl)
          exact KeepsLaws.refl ..
        clear_value e6
        with_reducible refine KeepsLaws.comp ?_ (State.tellHeld_keeps ..) (KeepsLaws.subI rfl rfl)
        assumption
      · assumption
    clear_value e4
    have h_e5 : Keeps 134217996 170184663336388413703835532736811418627334474167287363786966540292096 s e5.1 := by
      unfold e5
      with_reducible refine KeepsLaws.foldlQ (fun x a => ?_) ?_
      · extract_lets
        rename_i e7
        have h_e7 : Keeps 134217996 170184663336388413703835532736811418627334474167287363786966540292096 x.1 e7.1 := by
          unfold e7
          with_reducible refine KeepsLaws.comp ?_ (State.freePoint_keeps ..) (KeepsLaws.subI rfl rfl)
          exact KeepsLaws.refl ..
        clear_value e7
        dsimp only
        with_reducible refine KeepsLaws.comp ?_ (State.tellHeld_keeps ..) (KeepsLaws.subI rfl rfl)
        assumption
      · dsimp only
        assumption
    clear_value e5
    with_reducible refine KeepsLaws.iteO ?_ ?_
    · with_reducible refine KeepsLaws.next ?_
      exact KeepsLaws.refl ..
    · with_reducible refine KeepsLaws.next ?_
      with_reducible refine KeepsLaws.comp ?_ (State.putReport_keeps ..) (KeepsLaws.subI rfl rfl)
      assumption

theorem execTchRebase_keeps (r : Req) (b : Body) (s : State) :
    KeepsO 134217756 1738916560031216266756022473112766178449595815253866925031182863761408 s (execTchRebase r b s) := by
  unfold execTchRebase
  extract_lets
  rename_i e0 e1 e2
  with_reducible refine KeepsLaws.command (KeepsLaws.subI rfl rfl) (fun x => ?_)
  with_reducible refine KeepsLaws.laterA ?_
  with_reducible refine KeepsLaws.ite ?_ ?_
  · with_reducible refine KeepsLaws.comp ?_ (State.modTfe_keeps ..) (KeepsLaws.subI rfl rfl)
    exact KeepsLaws.refl ..
  · with_reducible refine KeepsLaws.comp ?_ (State.doRebase_keeps ..) (KeepsLaws.subI rfl rfl)
    exact KeepsLaws.refl ..

theorem execTchSelftest_keeps (r : Req) (b : Body) (table : List Byte) (s : State) :
    KeepsO 134217756 2686976 s (execTchSelftest r b table s) := by
  unfold execTchSelftest
  extract_lets
  rename_i e0 e1
  with_reducible refine KeepsLaws.command (KeepsLaws.subI rfl rfl) (fun x => ?_)
  with_reducible refine KeepsLaws.laterA ?_
  with_reducible refine KeepsLaws.comp ?_ (State.modTfe_keeps ..) (KeepsLaws.subI rfl rfl)
  exact KeepsLaws.refl ..

theorem execTchRing_keeps (r : Req) (b : Body) (s : State) :
    KeepsO 134217756 5897488333439202455083409550285544209858125342430750230241417428992 s (execTchRing r b s) := by
  unfold execTchRing
  extract_lets
  rename_i e0 e1
  with_reducible refine KeepsLaws.command (KeepsLaws.subI rfl rfl) (fun x => ?_)
  with_reducible refine KeepsLaws.doneA ?_
  with_reducible refine KeepsLaws.ite ?_ ?_
  · with_reducible refine KeepsLaws.comp ?_ (KeepsLaws.upd_tch ..) (KeepsLaws.subI rfl rfl)
    exact KeepsLaws.refl ..
  · with_reducible refine KeepsLaws.comp ?_ (State.takeTchRing_keeps ..) (KeepsLaws.subI rfl rfl)
    exact KeepsLaws.refl ..

theorem execScanFrameProcess_keeps (f : Fin 2) (counts : List (BitVec 16)) (listened : List (BitVec 16)) (s : State) :
    KeepsO 134218012 2385955280042831621828030835201237314616887281394840664577669509746688 s (execScanFrameProcess f counts listened s) := by
  unfold execScanFrameProcess
  extract_lets
  rename_i e0 e1 e2 e3 e4 e5
  have h_e3 : Keeps 134218012 2385955280042831621828030835201237314616887281394840664577669509746688 s e3 := by
    unfold e3
    with_reducible refine KeepsLaws.comp ?_ (State.listen_keeps ..) (KeepsLaws.subI rfl rfl)
    exact KeepsLaws.refl ..
  clear_value e3
  have h_e4 : Keeps 134218012 2385955280042831621828030835201237314616887281394840664577669509746688 s e4 := by
    unfold e4
    split
    · extract_lets
      rename_i e6
      have h_e6 : Keeps 134218012 2385955280042831621828030835201237314616887281394840664577669509746688 s e6 := by
        unfold e6
        with_reducible refine KeepsLaws.comp ?_ (State.buildReport_keeps ..) (KeepsLaws.subI rfl rfl)
        with_reducible refine KeepsLaws.comp ?_ (State.modTfe_keeps ..) (KeepsLaws.subI rfl rfl)
        assumption
      clear_value e6
      with_reducible refine KeepsLaws.ite ?_ ?_
      · with_reducible refine KeepsLaws.comp ?_ (State.tellSuspect_keeps ..) (KeepsLaws.subI rfl rfl)
        assumption
      · assumption
    · with_reducible refine KeepsLaws.comp ?_ (State.scanNodes_keeps ..) (KeepsLaws.subI rfl rfl)
      assumption
  clear_value e4
  have h_e5 : Keeps 134218012 2385955280042831621828030835201237314616887281394840664577669509746688 s e5 := by
    unfold e5
    with_reducible refine KeepsLaws.comp ?_ (State.modTfe_keeps ..) (KeepsLaws.subI rfl rfl)
    assumption
  clear_value e5
  with_reducible refine KeepsLaws.iteO ?_ ?_
  · with_reducible refine KeepsLaws.next ?_
    exact KeepsLaws.refl ..
  · with_reducible refine KeepsLaws.next ?_
    with_reducible refine KeepsLaws.comp ?_ (State.showTfe_keeps ..) (KeepsLaws.subI rfl rfl)
    with_reducible refine KeepsLaws.comp ?_ (State.snapshots_keeps ..) (KeepsLaws.subI rfl rfl)
    assumption

theorem execTchSnapshot_keeps (r : Req) (b : Body) (s : State) :
    KeepsO 134217756 2686976 s (execTchSnapshot r b s) := by
  unfold execTchSnapshot
  extract_lets
  rename_i e0 e1
  with_reducible refine KeepsLaws.command (KeepsLaws.subI rfl rfl) (fun x => ?_)
  with_reducible refine KeepsLaws.laterA ?_
  with_reducible refine KeepsLaws.comp ?_ (State.modTfe_keeps ..) (KeepsLaws.subI rfl rfl)
  exact KeepsLaws.refl ..

theorem execTchReference_keeps (r : Req) (b : Body) (table : List Byte) (s : State) :
    KeepsO 134217756 1738916560031216266756022473112766178449595815253866925031182863761408 s (execTchReference r b table s) := by
  unfold execTchReference
  extract_lets
  rename_i e0
  with_reducible refine KeepsLaws.command (KeepsLaws.subI rfl rfl) (fun x => ?_)
  with_reducible refine KeepsLaws.doneA ?_
  with_reducible refine KeepsLaws.comp ?_ (State.showTfe_keeps ..) (KeepsLaws.subI rfl rfl)
  with_reducible refine KeepsLaws.comp ?_ (State.modTfe_keeps ..) (KeepsLaws.subI rfl rfl)
  exact KeepsLaws.refl ..

theorem execTchMap_keeps (r : Req) (b : Body) (s : State) :
    KeepsO 134217820 13479973333575319897333507543509815336818572211270286240551807811584 s (execTchMap r b s) := by
  unfold execTchMap
  with_reducible refine KeepsLaws.command (KeepsLaws.subI rfl rfl) (fun x => ?_)
  with_reducible refine KeepsLaws.doneA ?_
  with_reducible refine KeepsLaws.comp ?_ (State.applyTchMap_keeps ..) (KeepsLaws.subI rfl rfl)
  exact KeepsLaws.refl ..

end Sys2Proof.Machine
end

