-- ==== Sys2Proof/Laws/FrameHost.lean ====
section
/-! SUPPORT. What each operation of Machine/Host.lean can change at most (Keeps): masks of fields and of registers. -/

namespace Sys2Proof.Machine

theorem State.hwReply_keeps (s : State) (r : Req) (op : ℕ) (st : Status) :
    Keeps 12 2686976 s (State.hwReply s r op st) := by
  unfold State.hwReply
  with_reducible refine KeepsLaws.comp ?_ (State.putReply_keeps ..) (KeepsLaws.subI rfl rfl)
  exact KeepsLaws.refl ..

theorem State.accept_keeps (s : State) (r : Req) (h : Body) (body : Body) :
    Keeps 12 3735552 s (State.accept s r h body) := by
  unfold State.accept
  extract_lets
  rename_i e0 e1 e2
  with_reducible refine KeepsLaws.ite ?_ ?_
  · with_reducible refine KeepsLaws.comp ?_ (State.hwReply_keeps ..) (KeepsLaws.subI rfl rfl)
    exact KeepsLaws.refl ..
  · with_reducible refine KeepsLaws.ite ?_ ?_
    · with_reducible refine KeepsLaws.comp ?_ (State.hwReply_keeps ..) (KeepsLaws.subI rfl rfl)
      with_reducible refine KeepsLaws.stepBumpSat ?_ (KeepsLaws.bitI rfl)
      exact KeepsLaws.refl ..
    · with_reducible refine KeepsLaws.ite ?_ ?_
      · with_reducible refine KeepsLaws.comp ?_ (State.hwReply_keeps ..) (KeepsLaws.subI rfl rfl)
        exact KeepsLaws.refl ..
      · with_reducible refine KeepsLaws.comp ?_ (State.modPort_keeps ..) (KeepsLaws.subI rfl rfl)
        exact KeepsLaws.refl ..

theorem State.evtOn_keeps (s : State) (p : Port) :
    Keeps 12 198656 s (State.evtOn s p) := by
  unfold State.evtOn
  extract_lets
  rename_i e0 e1 e2
  with_reducible refine KeepsLaws.ite ?_ ?_
  · exact KeepsLaws.refl ..
  · with_reducible refine KeepsLaws.comp ?_ (State.modPort_keeps ..) (KeepsLaws.subI rfl rfl)
    with_reducible refine KeepsLaws.stepSetBits ?_ (KeepsLaws.bitI rfl)
    with_reducible refine KeepsLaws.stepSetBits ?_ (KeepsLaws.bitI rfl)
    with_reducible refine KeepsLaws.stepSetBit ?_ (KeepsLaws.bitI rfl)
    exact KeepsLaws.refl ..

theorem State.ringReset_keeps (s : State) (p : Port) :
    Keeps 0 1024 s (State.ringReset s p) := by
  unfold State.ringReset
  with_reducible refine KeepsLaws.stepSetBits ?_ (KeepsLaws.bitI rfl)
  exact KeepsLaws.refl ..

theorem State.writeCtl_keeps (s : State) (p : Port) (v : Word) :
    Keeps 12 199680 s (State.writeCtl s p v) := by
  unfold State.writeCtl
  extract_lets
  rename_i e0 e1
  have h_e0 : Keeps 12 199680 s e0 := by
    unfold e0
    with_reducible refine KeepsLaws.ite ?_ ?_
    · with_reducible refine KeepsLaws.comp ?_ (State.ringReset_keeps ..) (KeepsLaws.subI rfl rfl)
      exact KeepsLaws.refl ..
    · exact KeepsLaws.refl ..
  clear_value e0
  have h_e1 : Keeps 12 199680 s e1 := by
    unfold e1
    with_reducible refine KeepsLaws.ite ?_ ?_
    · with_reducible refine KeepsLaws.comp ?_ (State.evtOn_keeps ..) (KeepsLaws.subI rfl rfl)
      assumption
    · with_reducible refine KeepsLaws.stepSetBit ?_ (KeepsLaws.bitI rfl)
      assumption
  clear_value e1
  with_reducible refine KeepsLaws.stepSetBit ?_ (KeepsLaws.bitI rfl)
  assumption

theorem State.ringError_keeps (s : State) (p : Port) (off : ℕ) (kind : ℕ) :
    Keeps 12 593920 s (State.ringError s p off kind) := by
  unfold State.ringError
  with_reducible refine KeepsLaws.comp ?_ (State.event_keeps ..) (KeepsLaws.subI rfl rfl)
  with_reducible refine KeepsLaws.comp ?_ (State.irq_keeps ..) (KeepsLaws.subI rfl rfl)
  with_reducible refine KeepsLaws.stepSetBit ?_ (KeepsLaws.bitI rfl)
  exact KeepsLaws.refl ..

theorem State.doorbell_keeps (s : State) (p : Port) (v : Word) :
    Keeps 12 593920 s (State.doorbell s p v) := by
  unfold State.doorbell
  extract_lets
  rename_i e0 e1
  with_reducible refine KeepsLaws.ite ?_ ?_
  · exact KeepsLaws.refl ..
  · with_reducible refine KeepsLaws.ite ?_ ?_
    · with_reducible refine KeepsLaws.comp ?_ (State.ringError_keeps ..) (KeepsLaws.subI rfl rfl)
      exact KeepsLaws.refl ..
    · with_reducible refine KeepsLaws.comp ?_ (State.modPort_keeps ..) (KeepsLaws.subI rfl rfl)
      exact KeepsLaws.refl ..

theorem State.clearStatus_keeps (s : State) (p : Port) (v : Word) (hwSets : Word) :
    Keeps 0 4096 s (State.clearStatus s p v hwSets) := by
  unfold State.clearStatus
  extract_lets
  rename_i e0
  unfold e0
  with_reducible refine KeepsLaws.stepSetBit ?_ (KeepsLaws.bitI rfl)
  with_reducible refine KeepsLaws.stepSetBit ?_ (KeepsLaws.bitI rfl)
  exact KeepsLaws.refl ..

theorem State.noteOverflow_keeps (s : State) (p : Port) :
    Keeps 12 593920 s (State.noteOverflow s p) := by
  unfold State.noteOverflow
  extract_lets
  rename_i e0
  with_reducible refine KeepsLaws.ite ?_ ?_
  · with_reducible refine KeepsLaws.comp ?_ (State.eventTo_keeps ..) (KeepsLaws.subI rfl rfl)
    with_reducible refine KeepsLaws.comp ?_ (State.modPort_keeps ..) (KeepsLaws.subI rfl rfl)
    exact KeepsLaws.refl ..
  · exact KeepsLaws.refl ..

theorem State.evtRead_keeps (s : State) (p : Port) (v : Word) :
    Keeps 12 724992 s (State.evtRead s p v) := by
  unfold State.evtRead
  with_reducible refine KeepsLaws.comp ?_ (State.noteOverflow_keeps ..) (KeepsLaws.subI rfl rfl)
  with_reducible refine KeepsLaws.stepSetBits ?_ (KeepsLaws.bitI rfl)
  exact KeepsLaws.refl ..

theorem State.setHeld_keeps (s : State) (p : Port) (v : BitVec 64) :
    Keeps 32 0 s (State.setHeld s p v) := by
  unfold State.setHeld
  with_reducible refine KeepsLaws.comp ?_ (KeepsLaws.upd_sem ..) (KeepsLaws.subI rfl rfl)
  exact KeepsLaws.refl ..

theorem State.semDecide_keeps (s : State) (p : Port) (n : ℕ) (before : Option (BitVec 64)) :
    Keeps 32 1073741824 s (State.semDecide s p n before) := by
  unfold State.semDecide
  extract_lets
  rename_i e0 e1 e2 e3
  have h_e3 : Keeps 32 1073741824 s e3 := by
    unfold e3
    with_reducible refine KeepsLaws.stepSetBits ?_ (KeepsLaws.bitI rfl)
    with_reducible refine KeepsLaws.stepAddWrapBits ?_ (KeepsLaws.bitI rfl)
    exact KeepsLaws.refl ..
  clear_value e3
  with_reducible refine KeepsLaws.ite ?_ ?_
  · with_reducible refine KeepsLaws.comp ?_ (State.irq_keeps ..) (KeepsLaws.subI rfl rfl)
    with_reducible refine KeepsLaws.comp ?_ (State.setHeld_keeps ..) (KeepsLaws.subI rfl rfl)
    assumption
  · assumption

theorem State.releaseScopes_keeps (s : State) (p : Port) (mask : BitVec 64) (forced : Bool) :
    Keeps 1048620 274031556999544297163190906134303066185487945728 s (State.releaseScopes s p mask forced) := by
  unfold State.releaseScopes
  extract_lets
  rename_i e0 e1 e2
  have h_e1 : Keeps 1048620 274031556999544297163190906134303066185487945728 s e1 := by
    unfold e1
    with_reducible refine KeepsLaws.comp ?_ (State.setHeld_keeps ..) (KeepsLaws.subI rfl rfl)
    exact KeepsLaws.refl ..
  clear_value e1
  have h_e2 : Keeps 1048620 274031556999544297163190906134303066185487945728 s e2 := by
    unfold e2
    with_reducible refine KeepsLaws.ite ?_ ?_
    · with_reducible refine KeepsLaws.comp ?_ (State.irq_keeps ..) (KeepsLaws.subI rfl rfl)
      with_reducible refine KeepsLaws.comp ?_ (State.irq_keeps ..) (KeepsLaws.subI rfl rfl)
      with_reducible refine KeepsLaws.comp ?_ (State.eventTo_keeps ..) (KeepsLaws.subI rfl rfl)
      assumption
    · with_reducible refine KeepsLaws.comp ?_ (State.irq_keeps ..) (KeepsLaws.subI rfl rfl)
      assumption
  clear_value e2
  with_reducible refine KeepsLaws.ite ?_ ?_
  · exact KeepsLaws.refl ..
  · with_reducible refine KeepsLaws.comp ?_ (State.discardLost_keeps ..) (KeepsLaws.subI rfl rfl)
    assumption

theorem State.semRelease_keeps (s : State) (p : Port) (v : Word) :
    Keeps 1048620 274031556999544297163190906134303066185487945728 s (State.semRelease s p v) := by
  unfold State.semRelease
  extract_lets
  rename_i e0
  with_reducible refine KeepsLaws.ite ?_ ?_
  · with_reducible refine KeepsLaws.comp ?_ (State.releaseScopes_keeps ..) (KeepsLaws.subI rfl rfl)
    exact KeepsLaws.refl ..
  · with_reducible refine KeepsLaws.ite ?_ ?_
    · exact KeepsLaws.refl ..
    · with_reducible refine KeepsLaws.comp ?_ (State.releaseScopes_keeps ..) (KeepsLaws.subI rfl rfl)
      exact KeepsLaws.refl ..

theorem State.portWrite_keeps (s : State) (r : Reg) (p : Port) (v : Word) :
    KeepsM 1048620 274031556999544297163190906134303066186562141184 s (State.portWrite s r p v) := by
  unfold State.portWrite
  split
  · with_reducible refine KeepsLaws.someM ?_
    with_reducible refine KeepsLaws.comp ?_ (State.doorbell_keeps ..) (KeepsLaws.subI rfl rfl)
    exact KeepsLaws.refl ..
  · with_reducible refine KeepsLaws.someM ?_
    with_reducible refine KeepsLaws.comp ?_ (State.writeCtl_keeps ..) (KeepsLaws.subI rfl rfl)
    exact KeepsLaws.refl ..
  · with_reducible refine KeepsLaws.someM ?_
    with_reducible refine KeepsLaws.comp ?_ (State.clearStatus_keeps ..) (KeepsLaws.subI rfl rfl)
    exact KeepsLaws.refl ..
  · with_reducible refine KeepsLaws.someM ?_
    with_reducible refine KeepsLaws.stepReg ?_ (KeepsLaws.bitI rfl)
    exact KeepsLaws.refl ..
  · with_reducible refine KeepsLaws.someM ?_
    with_reducible refine KeepsLaws.stepReg ?_ (KeepsLaws.bitI rfl)
    exact KeepsLaws.refl ..
  · with_reducible refine KeepsLaws.someM ?_
    with_reducible refine KeepsLaws.stepReg ?_ (KeepsLaws.bitI rfl)
    exact KeepsLaws.refl ..
  · with_reducible refine KeepsLaws.someM ?_
    with_reducible refine KeepsLaws.comp ?_ (State.evtRead_keeps ..) (KeepsLaws.subI rfl rfl)
    exact KeepsLaws.refl ..
  · with_reducible refine KeepsLaws.someM ?_
    with_reducible refine KeepsLaws.stepReg ?_ (KeepsLaws.bitI rfl)
    exact KeepsLaws.refl ..
  · with_reducible refine KeepsLaws.someM ?_
    with_reducible refine KeepsLaws.comp ?_ (State.semDecide_keeps ..) (KeepsLaws.subI rfl rfl)
    exact KeepsLaws.refl ..
  · with_reducible refine KeepsLaws.someM ?_
    with_reducible refine KeepsLaws.comp ?_ (State.semRelease_keeps ..) (KeepsLaws.subI rfl rfl)
    exact KeepsLaws.refl ..
  · exact KeepsLaws.noneM _ _ _

theorem State.bar0Write_keeps (s : State) (p : Port) (off : ℕ) (len : ℕ) (v : Word) :
    Keeps 1048620 274031556999544297163190906134303066186562141184 s (State.bar0Write s p off len v) := by
  unfold State.bar0Write
  with_reducible refine KeepsLaws.ite ?_ ?_
  · exact KeepsLaws.refl ..
  · split
    · with_reducible refine KeepsLaws.getD ?_ ?_
      · with_reducible refine KeepsLaws.compM ?_ (State.portWrite_keeps ..) (KeepsLaws.subI rfl rfl)
        exact KeepsLaws.refl ..
      · exact KeepsLaws.refl ..
    · exact KeepsLaws.refl ..

theorem State.bar2Reg_keeps (s : State) (a : ℕ) (v : Word) :
    KeepsM 1048620 274031556999544297163190906134303066186562141440 s (State.bar2Reg s a v) := by
  unfold State.bar2Reg
  split
  · with_reducible refine KeepsLaws.someM ?_
    with_reducible refine KeepsLaws.stepReg ?_ (KeepsLaws.bitI rfl)
    exact KeepsLaws.refl ..
  · with_reducible refine KeepsLaws.compM ?_ (State.portWrite_keeps ..) (KeepsLaws.subI rfl rfl)
    exact KeepsLaws.refl ..
  · exact KeepsLaws.noneM _ _ _

theorem State.hostRead_keeps (s : State) (p : Port) (a : ℕ) :
    Keeps 268435456 12874621637431565473079352479185122889046062810420647730310980270642251560526842505858687740412096 s (State.hostRead s p a) := by
  unfold State.hostRead
  with_reducible refine KeepsLaws.ite ?_ ?_
  · with_reducible refine KeepsLaws.comp ?_ (KeepsLaws.emit ..) (KeepsLaws.subI rfl rfl)
    with_reducible refine KeepsLaws.stepBumpSat ?_ (KeepsLaws.bitI rfl)
    exact KeepsLaws.refl ..
  · split
    with_reducible refine KeepsLaws.comp ?_ (KeepsLaws.emit ..) (KeepsLaws.subI rfl rfl)
    with_reducible refine KeepsLaws.ofSnd (by assumption) ?_
    with_reducible refine KeepsLaws.comp ?_ (State.readWord_keeps ..) (KeepsLaws.subI rfl rfl)
    exact KeepsLaws.refl ..

theorem State.fetch_keeps (s : State) (p : Port) :
    Keeps 12 3740672 s (State.fetch s p) := by
  unfold State.fetch
  extract_lets
  rename_i e0 e1 e2 e3
  with_reducible refine KeepsLaws.ite ?_ ?_
  · exact KeepsLaws.refl ..
  · with_reducible refine KeepsLaws.ite ?_ ?_
    · with_reducible refine KeepsLaws.comp ?_ (State.ringError_keeps ..) (KeepsLaws.subI rfl rfl)
      with_reducible refine KeepsLaws.stepSetBits ?_ (KeepsLaws.bitI rfl)
      with_reducible refine KeepsLaws.comp ?_ (State.hwReply_keeps ..) (KeepsLaws.subI rfl rfl)
      exact KeepsLaws.refl ..
    · with_reducible refine KeepsLaws.ite ?_ ?_
      · exact KeepsLaws.refl ..
      · with_reducible refine KeepsLaws.stepSetBits ?_ (KeepsLaws.bitI rfl)
        with_reducible refine KeepsLaws.comp ?_ (State.accept_keeps ..) (KeepsLaws.subI rfl rfl)
        exact KeepsLaws.refl ..

theorem State.ringWrite_keeps (s : State) (p : Port) (off : ℕ) (bytes : List Byte) :
    Keeps 12 0 s (State.ringWrite s p off bytes) := by
  unfold State.ringWrite
  with_reducible refine KeepsLaws.comp ?_ (State.modPort_keeps ..) (KeepsLaws.subI rfl rfl)
  exact KeepsLaws.refl ..

theorem State.hostWrite_keeps (s : State) (p : Port) (w : RegWrite) :
    Keeps 135795756 3369993333393829974607408442878327359363619479288264701451688738048 s (State.hostWrite s p w) := by
  unfold State.hostWrite
  split
  · with_reducible refine KeepsLaws.comp ?_ (State.ringWrite_keeps ..) (KeepsLaws.subI rfl rfl)
    exact KeepsLaws.refl ..
  · with_reducible refine KeepsLaws.comp ?_ (State.bar0Write_keeps ..) (KeepsLaws.subI rfl rfl)
    exact KeepsLaws.refl ..
  · with_reducible refine KeepsLaws.ite ?_ ?_
    · with_reducible refine KeepsLaws.stepBumpSat ?_ (KeepsLaws.bitI rfl)
      exact KeepsLaws.refl ..
    · split
      · with_reducible refine KeepsLaws.comp ?_ (State.writeRingIng_keeps ..) (KeepsLaws.subI rfl rfl)
        exact KeepsLaws.refl ..
      · with_reducible refine KeepsLaws.comp ?_ (State.writeRingCam_keeps ..) (KeepsLaws.subI rfl rfl)
        exact KeepsLaws.refl ..
      · with_reducible refine KeepsLaws.comp ?_ (State.writeRingEnc_keeps ..) (KeepsLaws.subI rfl rfl)
        exact KeepsLaws.refl ..
      · with_reducible refine KeepsLaws.comp ?_ (State.writeRingTch_keeps ..) (KeepsLaws.subI rfl rfl)
        exact KeepsLaws.refl ..
      · with_reducible refine KeepsLaws.getD ?_ ?_
        · with_reducible refine KeepsLaws.compM ?_ (State.bar2Reg_keeps ..) (KeepsLaws.subI rfl rfl)
          exact KeepsLaws.refl ..
        · with_reducible refine KeepsLaws.stepBumpSat ?_ (KeepsLaws.bitI rfl)
          exact KeepsLaws.refl ..

theorem State.semBoth_keeps (s : State) (a : ℕ) (b : ℕ) :
    Keeps 32 3221225472 s (State.semBoth s a b) := by
  unfold State.semBoth
  with_reducible refine KeepsLaws.ite ?_ ?_
  · extract_lets
    rename_i e0 e1 e2 e3
    have h_e2 : Keeps 32 3221225472 s e2 := by
      unfold e2
      with_reducible refine KeepsLaws.comp ?_ (State.semDecide_keeps ..) (KeepsLaws.subI rfl rfl)
      exact KeepsLaws.refl ..
    clear_value e2
    have h_e3 : Keeps 32 3221225472 s e3 := by
      unfold e3
      with_reducible refine KeepsLaws.comp ?_ (State.semDecide_keeps ..) (KeepsLaws.subI rfl rfl)
      assumption
    clear_value e3
    with_reducible refine KeepsLaws.stepAddSatBits ?_ (KeepsLaws.bitI rfl)
    with_reducible refine KeepsLaws.stepSetBit ?_ (KeepsLaws.bitI rfl)
    assumption
  · with_reducible refine KeepsLaws.comp ?_ (State.semDecide_keeps ..) (KeepsLaws.subI rfl rfl)
    with_reducible refine KeepsLaws.comp ?_ (State.semDecide_keeps ..) (KeepsLaws.subI rfl rfl)
    exact KeepsLaws.refl ..

theorem State.routerTie_keeps (s : State) :
    Keeps 0 32 s (State.routerTie s) := by
  unfold State.routerTie
  with_reducible refine KeepsLaws.stepAddSatBits ?_ (KeepsLaws.bitI rfl)
  with_reducible refine KeepsLaws.stepSetBit ?_ (KeepsLaws.bitI rfl)
  exact KeepsLaws.refl ..

theorem State.hostWrites_keeps (s : State) (a : RegWrite) (b : RegWrite) :
    Keeps 135795756 3369993333393829974607408442878327359363619479288264701453836221728 s (State.hostWrites s a b) := by
  unfold State.hostWrites
  split
  · with_reducible refine KeepsLaws.ite ?_ ?_
    · extract_lets
      rename_i e0
      with_reducible refine KeepsLaws.comp ?_ (State.routerTie_keeps ..) (KeepsLaws.subI rfl rfl)
      with_reducible refine KeepsLaws.ite ?_ ?_
      · with_reducible refine KeepsLaws.comp ?_ (State.hostWrite_keeps ..) (KeepsLaws.subI rfl rfl)
        with_reducible refine KeepsLaws.comp ?_ (State.hostWrite_keeps ..) (KeepsLaws.subI rfl rfl)
        exact KeepsLaws.refl ..
      · with_reducible refine KeepsLaws.comp ?_ (State.hostWrite_keeps ..) (KeepsLaws.subI rfl rfl)
        with_reducible refine KeepsLaws.comp ?_ (State.hostWrite_keeps ..) (KeepsLaws.subI rfl rfl)
        exact KeepsLaws.refl ..
    · with_reducible refine KeepsLaws.ite ?_ ?_
      · with_reducible refine KeepsLaws.ite ?_ ?_
        · with_reducible refine KeepsLaws.comp ?_ (State.semBoth_keeps ..) (KeepsLaws.subI rfl rfl)
          exact KeepsLaws.refl ..
        · with_reducible refine KeepsLaws.comp ?_ (State.semBoth_keeps ..) (KeepsLaws.subI rfl rfl)
          exact KeepsLaws.refl ..
      · with_reducible refine KeepsLaws.comp ?_ (State.hostWrite_keeps ..) (KeepsLaws.subI rfl rfl)
        with_reducible refine KeepsLaws.comp ?_ (State.hostWrite_keeps ..) (KeepsLaws.subI rfl rfl)
        exact KeepsLaws.refl ..
  · with_reducible refine KeepsLaws.comp ?_ (State.hostWrite_keeps ..) (KeepsLaws.subI rfl rfl)
    with_reducible refine KeepsLaws.comp ?_ (State.hostWrite_keeps ..) (KeepsLaws.subI rfl rfl)
    exact KeepsLaws.refl ..

theorem State.resetPort_keeps (s : State) (p : Port) :
    Keeps 12 68608 s (State.resetPort s p) := by
  unfold State.resetPort
  extract_lets
  rename_i e0
  with_reducible refine KeepsLaws.stepReg ?_ (KeepsLaws.bitI rfl)
  with_reducible refine KeepsLaws.stepSetBits ?_ (KeepsLaws.bitI rfl)
  with_reducible refine KeepsLaws.stepSetBits ?_ (KeepsLaws.bitI rfl)
  with_reducible refine KeepsLaws.comp ?_ (State.modPort_keeps ..) (KeepsLaws.subI rfl rfl)
  exact KeepsLaws.refl ..

theorem State.restartEvent_keeps (s : State) (phase : ℕ) :
    Keeps 12 593920 s (State.restartEvent s phase) := by
  unfold State.restartEvent
  with_reducible refine KeepsLaws.comp ?_ (State.event_keeps ..) (KeepsLaws.subI rfl rfl)
  exact KeepsLaws.refl ..

theorem State.startAgain_keeps (s : State) (k : Packet) :
    Keeps 16 0 s (State.startAgain s k) := by
  unfold State.startAgain
  with_reducible refine KeepsLaws.comp ?_ (KeepsLaws.upd_interp ..) (KeepsLaws.subI rfl rfl)
  exact KeepsLaws.refl ..

theorem State.startPacket_keeps (s : State) (k : Packet) :
    Keeps 28 2686976 s (State.startPacket s k) := by
  unfold State.startPacket
  extract_lets
  rename_i e0 e1 e2 e3 e4
  have h_e1 : Keeps 28 2686976 s e1 := by
    unfold e1
    with_reducible refine KeepsLaws.comp ?_ (State.modPort_keeps ..) (KeepsLaws.subI rfl rfl)
    exact KeepsLaws.refl ..
  clear_value e1
  have h_e3 : Keeps 28 2686976 s e3 := by
    unfold e3
    with_reducible refine KeepsLaws.comp ?_ (KeepsLaws.upd_interp ..) (KeepsLaws.subI rfl rfl)
    assumption
  clear_value e3
  with_reducible refine KeepsLaws.ite ?_ ?_
  · with_reducible refine KeepsLaws.comp ?_ (KeepsLaws.upd_interp ..) (KeepsLaws.subI rfl rfl)
    assumption
  · with_reducible refine KeepsLaws.comp ?_ (State.replyR_keeps ..) (KeepsLaws.subI rfl rfl)
    with_reducible refine KeepsLaws.comp ?_ (State.endInterp_keeps ..) (KeepsLaws.subI rfl rfl)
    assumption

theorem execSecondSetArm_keeps (t : Target) (s : State) :
    KeepsO 125665628 738417405259181219950324911395691711246962249318774843964155510869288755189410236963668588302336 s (execSecondSetArm t s) := by
  unfold execSecondSetArm
  split
  · extract_lets
    rename_i e0
    split
    · with_reducible refine KeepsLaws.next ?_
      with_reducible refine KeepsLaws.comp ?_ (State.armFirst_keeps ..) (KeepsLaws.subI rfl rfl)
      with_reducible refine KeepsLaws.comp ?_ (State.setHead_keeps ..) (KeepsLaws.subI rfl rfl)
      exact KeepsLaws.refl ..
    · with_reducible refine KeepsLaws.next ?_
      exact KeepsLaws.refl ..
  · extract_lets
    rename_i e1
    split
    · with_reducible refine KeepsLaws.next ?_
      with_reducible refine KeepsLaws.comp ?_ (State.armChanFirst_keeps ..) (KeepsLaws.subI rfl rfl)
      with_reducible refine KeepsLaws.comp ?_ (State.setChan_keeps ..) (KeepsLaws.subI rfl rfl)
      exact KeepsLaws.refl ..
    · with_reducible refine KeepsLaws.next ?_
      exact KeepsLaws.refl ..

theorem execPcieLinkLeaveL0_keeps (p : Port) (d3hot : Bool) (s : State) :
    KeepsO 16777228 593920 s (execPcieLinkLeaveL0 p d3hot s) := by
  unfold execPcieLinkLeaveL0
  with_reducible refine KeepsLaws.next ?_
  with_reducible refine KeepsLaws.comp ?_ (State.linkLeave_keeps ..) (KeepsLaws.subI rfl rfl)
  with_reducible refine KeepsLaws.comp ?_ (State.modPort_keeps ..) (KeepsLaws.subI rfl rfl)
  exact KeepsLaws.refl ..

theorem execCtrlRestartBegin_keeps (s : State) :
    KeepsO 3145756 274031556999544297163190906134303066185487945728 s (execCtrlRestartBegin s) := by
  unfold execCtrlRestartBegin
  with_reducible refine KeepsLaws.iteO ?_ ?_
  · with_reducible refine KeepsLaws.next ?_
    exact KeepsLaws.refl ..
  · with_reducible refine KeepsLaws.iteO ?_ ?_
    · with_reducible refine KeepsLaws.next ?_
      exact KeepsLaws.refl ..
    · extract_lets
      rename_i e0 e1 e2 e3 e4
      have h_e2 : Keeps 3145756 274031556999544297163190906134303066185487945728 s e2 := by
        unfold e2
        with_reducible refine KeepsLaws.comp ?_ (KeepsLaws.upd_interp ..) (KeepsLaws.subI rfl rfl)
        exact KeepsLaws.refl ..
      clear_value e2
      have h_e4 : Keeps 3145756 274031556999544297163190906134303066185487945728 s e4 := by
        unfold e4
        with_reducible refine KeepsLaws.comp ?_ (KeepsLaws.upd_flt ..) (KeepsLaws.subI rfl rfl)
        assumption
      clear_value e4
      with_reducible refine KeepsLaws.next ?_
      with_reducible refine KeepsLaws.foldl (fun x a => ?_) ?_
      · with_reducible refine KeepsLaws.comp ?_ (State.discardHeld_keeps ..) (KeepsLaws.subI rfl rfl)
        exact KeepsLaws.refl ..
      · with_reducible refine KeepsLaws.comp ?_ (State.restartEvent_keeps ..) (KeepsLaws.subI rfl rfl)
        assumption

theorem execEvtEnClear_keeps (p : Port) (s : State) :
    KeepsO 0 2048 s (execEvtEnClear p s) := by
  unfold execEvtEnClear
  with_reducible refine KeepsLaws.next ?_
  with_reducible refine KeepsLaws.stepSetBit ?_ (KeepsLaws.bitI rfl)
  exact KeepsLaws.refl ..

theorem execOffIslandRegisterRead_keeps (p : Port) (addr : ℕ) (s : State) :
    KeepsO 268435456 12874621637431565473079352479185122889046062810420647730310980270642251560526842505858687740412096 s (execOffIslandRegisterRead p addr s) := by
  unfold execOffIslandRegisterRead
  with_reducible refine KeepsLaws.next ?_
  with_reducible refine KeepsLaws.comp ?_ (State.hostRead_keeps ..) (KeepsLaws.subI rfl rfl)
  exact KeepsLaws.refl ..

theorem execEvtReadIndexWrite_keeps (p : Port) (value : Word) (s : State) :
    KeepsO 12 724992 s (execEvtReadIndexWrite p value s) := by
  unfold execEvtReadIndexWrite
  with_reducible refine KeepsLaws.next ?_
  with_reducible refine KeepsLaws.comp ?_ (State.evtRead_keeps ..) (KeepsLaws.subI rfl rfl)
  exact KeepsLaws.refl ..

theorem execDoorbellWrite_keeps (p : Port) (value : Word) (s : State) :
    KeepsO 12 593920 s (execDoorbellWrite p value s) := by
  unfold execDoorbellWrite
  with_reducible refine KeepsLaws.next ?_
  with_reducible refine KeepsLaws.comp ?_ (State.doorbell_keeps ..) (KeepsLaws.subI rfl rfl)
  exact KeepsLaws.refl ..

theorem execSemRel_keeps (p : Port) (value : Word) (s : State) :
    KeepsO 1048620 274031556999544297163190906134303066185487945728 s (execSemRel p value s) := by
  unfold execSemRel
  with_reducible refine KeepsLaws.next ?_
  with_reducible refine KeepsLaws.comp ?_ (State.semRelease_keeps ..) (KeepsLaws.subI rfl rfl)
  exact KeepsLaws.refl ..

theorem execRcRegisterRead_keeps (p : Port) (addr : ℕ) (both : Bool) (s : State) :
    KeepsO 268435456 12874621637431565473079352479185122889046062810420647730310980270642251560526842505858687740412128 s (execRcRegisterRead p addr both s) := by
  unfold execRcRegisterRead
  with_reducible refine KeepsLaws.iteO ?_ ?_
  · extract_lets
    rename_i e0 e1
    have h_e1 : Keeps 268435456 12874621637431565473079352479185122889046062810420647730310980270642251560526842505858687740412128 s e1 := by
      unfold e1
      with_reducible refine KeepsLaws.comp ?_ (State.hostRead_keeps ..) (KeepsLaws.subI rfl rfl)
      with_reducible refine KeepsLaws.comp ?_ (State.hostRead_keeps ..) (KeepsLaws.subI rfl rfl)
      exact KeepsLaws.refl ..
    clear_value e1
    with_reducible refine KeepsLaws.next ?_
    with_reducible refine KeepsLaws.ite ?_ ?_
    · with_reducible refine KeepsLaws.comp ?_ (State.routerTie_keeps ..) (KeepsLaws.subI rfl rfl)
      assumption
    · assumption
  · with_reducible refine KeepsLaws.next ?_
    with_reducible refine KeepsLaws.comp ?_ (State.hostRead_keeps ..) (KeepsLaws.subI rfl rfl)
    exact KeepsLaws.refl ..

theorem execPacketStart_keeps (s : State) :
    KeepsO 28 2686976 s (execPacketStart s) := by
  unfold execPacketStart
  with_reducible refine KeepsLaws.iteO ?_ ?_
  · with_reducible refine KeepsLaws.next ?_
    exact KeepsLaws.refl ..
  · split
    · with_reducible refine KeepsLaws.next ?_
      with_reducible refine KeepsLaws.comp ?_ (State.startAgain_keeps ..) (KeepsLaws.subI rfl rfl)
      exact KeepsLaws.refl ..
    · split
      · with_reducible refine KeepsLaws.next ?_
        with_reducible refine KeepsLaws.comp ?_ (State.startPacket_keeps ..) (KeepsLaws.subI rfl rfl)
        exact KeepsLaws.refl ..
      · with_reducible refine KeepsLaws.next ?_
        exact KeepsLaws.refl ..

theorem execPcieLinkEnterL0_keeps (p : Port) (width : ℕ) (speed : ℕ) (asked : List (ℕ × ℕ)) (s : State) :
    KeepsO 16777228 593920 s (execPcieLinkEnterL0 p width speed asked s) := by
  unfold execPcieLinkEnterL0
  with_reducible refine KeepsLaws.iteO ?_ ?_
  · with_reducible refine KeepsLaws.next ?_
    exact KeepsLaws.refl ..
  · with_reducible refine KeepsLaws.next ?_
    with_reducible refine KeepsLaws.comp ?_ (State.linkTrain_keeps ..) (KeepsLaws.subI rfl rfl)
    with_reducible refine KeepsLaws.comp ?_ (State.modPort_keeps ..) (KeepsLaws.subI rfl rfl)
    exact KeepsLaws.refl ..

theorem execUrgentPreempt_keeps (s : State) :
    KeepsO 28 2686976 s (execUrgentPreempt s) := by
  unfold execUrgentPreempt
  split
  · with_reducible refine KeepsLaws.iteO ?_ ?_
    · with_reducible refine KeepsLaws.next ?_
      exact KeepsLaws.refl ..
    · with_reducible refine KeepsLaws.next ?_
      with_reducible refine KeepsLaws.comp ?_ (State.startPacket_keeps ..) (KeepsLaws.subI rfl rfl)
      with_reducible refine KeepsLaws.comp ?_ (KeepsLaws.upd_interp ..) (KeepsLaws.subI rfl rfl)
      exact KeepsLaws.refl ..
  · with_reducible refine KeepsLaws.next ?_
    exact KeepsLaws.refl ..

theorem execIrqModerationExpiry_keeps (p : Port) (s : State) :
    KeepsO 12 0 s (execIrqModerationExpiry p s) := by
  unfold execIrqModerationExpiry
  split
  · with_reducible refine KeepsLaws.next ?_
    exact KeepsLaws.refl ..
  · with_reducible refine KeepsLaws.iteO ?_ ?_
    · with_reducible refine KeepsLaws.next ?_
      exact KeepsLaws.refl ..
    · extract_lets
      rename_i e0
      have h_e0 : Keeps 12 0 s e0 := by
        unfold e0
        with_reducible refine KeepsLaws.comp ?_ (State.modPort_keeps ..) (KeepsLaws.subI rfl rfl)
        exact KeepsLaws.refl ..
      clear_value e0
      with_reducible refine KeepsLaws.next ?_
      with_reducible refine KeepsLaws.ite ?_ ?_
      · with_reducible refine KeepsLaws.comp ?_ (State.signal0_keeps ..) (KeepsLaws.subI rfl rfl)
        assumption
      · assumption

theorem execRegisterWrite_keeps (p : Port) (w : RegWrite) (other : Option RegWrite) (s : State) :
    KeepsO 135795756 3369993333393829974607408442878327359363619479288264701453836221728 s (execRegisterWrite p w other s) := by
  unfold execRegisterWrite
  split
  · with_reducible refine KeepsLaws.next ?_
    with_reducible refine KeepsLaws.comp ?_ (State.hostWrite_keeps ..) (KeepsLaws.subI rfl rfl)
    exact KeepsLaws.refl ..
  · with_reducible refine KeepsLaws.next ?_
    with_reducible refine KeepsLaws.ite ?_ ?_
    · with_reducible refine KeepsLaws.comp ?_ (State.hostWrites_keeps ..) (KeepsLaws.subI rfl rfl)
      exact KeepsLaws.refl ..
    · with_reducible refine KeepsLaws.comp ?_ (State.hostWrites_keeps ..) (KeepsLaws.subI rfl rfl)
      exact KeepsLaws.refl ..

theorem execPacketFetch_keeps (p : Port) (s : State) :
    KeepsO 12 3740672 s (execPacketFetch p s) := by
  unfold execPacketFetch
  extract_lets
  rename_i e0
  have h_e0 : Keeps 12 3740672 s e0 := by
    unfold e0
    with_reducible refine KeepsLaws.comp ?_ (State.noteOverflow_keeps ..) (KeepsLaws.subI rfl rfl)
    exact KeepsLaws.refl ..
  clear_value e0
  with_reducible refine KeepsLaws.iteO ?_ ?_
  · with_reducible refine KeepsLaws.next ?_
    with_reducible refine KeepsLaws.comp ?_ (State.fetch_keeps ..) (KeepsLaws.subI rfl rfl)
    assumption
  · with_reducible refine KeepsLaws.next ?_
    assumption

theorem execSemRelAll_keeps (p : Port) (s : State) :
    KeepsO 1048620 274031556999544297163190906134303066185487945728 s (execSemRelAll p s) := by
  unfold execSemRelAll
  with_reducible refine KeepsLaws.next ?_
  with_reducible refine KeepsLaws.comp ?_ (State.releaseScopes_keeps ..) (KeepsLaws.subI rfl rfl)
  exact KeepsLaws.refl ..

theorem execRingReset_keeps (p : Port) (s : State) :
    KeepsO 0 1024 s (execRingReset p s) := by
  unfold execRingReset
  with_reducible refine KeepsLaws.next ?_
  with_reducible refine KeepsLaws.comp ?_ (State.ringReset_keeps ..) (KeepsLaws.subI rfl rfl)
  exact KeepsLaws.refl ..

theorem execW1cWrite_keeps (p : Port) (value : Word) (hwSets : Word) (s : State) :
    KeepsO 0 4096 s (execW1cWrite p value hwSets s) := by
  unfold execW1cWrite
  with_reducible refine KeepsLaws.next ?_
  with_reducible refine KeepsLaws.comp ?_ (State.clearStatus_keeps ..) (KeepsLaws.subI rfl rfl)
  exact KeepsLaws.refl ..

theorem execCtrlRestartEnd_keeps (s : State) :
    KeepsO 2097180 2691072 s (execCtrlRestartEnd s) := by
  unfold execCtrlRestartEnd
  with_reducible refine KeepsLaws.iteO ?_ ?_
  · with_reducible refine KeepsLaws.next ?_
    exact KeepsLaws.refl ..
  · extract_lets
    rename_i e0 e1 e2 e3
    have h_e3 : Keeps 2097180 2691072 s e3 := by
      unfold e3
      with_reducible refine KeepsLaws.comp ?_ (KeepsLaws.updMk (F := 2097168) ?_) (KeepsLaws.subI rfl rfl)
      · exact KeepsLaws.refl ..
      · (intro f hf; cases f <;> first | exact absurd hf (by decide) | rfl)
    clear_value e3
    with_reducible refine KeepsLaws.next ?_
    with_reducible refine KeepsLaws.foldl (fun x a => ?_) ?_
    · with_reducible refine KeepsLaws.comp ?_ (State.replyR_keeps ..) (KeepsLaws.subI rfl rfl)
      exact KeepsLaws.refl ..
    · with_reducible refine KeepsLaws.comp ?_ (State.restartEvent_keeps ..) (KeepsLaws.subI rfl rfl)
      assumption

theorem execEvtEnSet_keeps (p : Port) (s : State) :
    KeepsO 12 198656 s (execEvtEnSet p s) := by
  unfold execEvtEnSet
  with_reducible refine KeepsLaws.next ?_
  with_reducible refine KeepsLaws.comp ?_ (State.evtOn_keeps ..) (KeepsLaws.subI rfl rfl)
  exact KeepsLaws.refl ..

theorem execSemReq_keeps (p : Port) (value : Word) (other : Option Word) (s : State) :
    KeepsO 32 3221225472 s (execSemReq p value other s) := by
  unfold execSemReq
  extract_lets
  rename_i e0
  split
  · with_reducible refine KeepsLaws.next ?_
    with_reducible refine KeepsLaws.comp ?_ (State.semDecide_keeps ..) (KeepsLaws.subI rfl rfl)
    exact KeepsLaws.refl ..
  · with_reducible refine KeepsLaws.next ?_
    with_reducible refine KeepsLaws.ite ?_ ?_
    · with_reducible refine KeepsLaws.comp ?_ (State.semBoth_keeps ..) (KeepsLaws.subI rfl rfl)
      exact KeepsLaws.refl ..
    · with_reducible refine KeepsLaws.comp ?_ (State.semBoth_keeps ..) (KeepsLaws.subI rfl rfl)
      exact KeepsLaws.refl ..

theorem execFetchEnWrite_keeps (p : Port) (on : Bool) (s : State) :
    KeepsO 0 2048 s (execFetchEnWrite p on s) := by
  unfold execFetchEnWrite
  with_reducible refine KeepsLaws.next ?_
  with_reducible refine KeepsLaws.stepSetBit ?_ (KeepsLaws.bitI rfl)
  exact KeepsLaws.refl ..

theorem execPortReset_keeps (p : Port) (kind : ResetKind) (s : State) :
    KeepsO 17825836 274031556999544297163190906134303066185487948800 s (execPortReset p kind s) := by
  unfold execPortReset
  extract_lets
  rename_i e0 e1
  have h_e0 : Keeps 17825836 274031556999544297163190906134303066185487948800 s e0 := by
    unfold e0
    with_reducible refine KeepsLaws.comp ?_ (State.resetPort_keeps ..) (KeepsLaws.subI rfl rfl)
    exact KeepsLaws.refl ..
  clear_value e0
  have h_e1 : Keeps 17825836 274031556999544297163190906134303066185487948800 s e1 := by
    unfold e1
    with_reducible refine KeepsLaws.ite ?_ ?_
    · assumption
    · with_reducible refine KeepsLaws.comp ?_ (State.releaseScopes_keeps ..) (KeepsLaws.subI rfl rfl)
      assumption
  clear_value e1
  with_reducible refine KeepsLaws.next ?_
  with_reducible refine KeepsLaws.ite ?_ ?_
  · with_reducible refine KeepsLaws.comp ?_ (State.linkLeave_keeps ..) (KeepsLaws.subI rfl rfl)
    assumption
  · assumption

theorem execLinkDownScopeTimeout_keeps (p : Port) (s : State) :
    KeepsO 1048620 274031556999544297163190906134303066185487945728 s (execLinkDownScopeTimeout p s) := by
  unfold execLinkDownScopeTimeout
  split
  · with_reducible refine KeepsLaws.iteO ?_ ?_
    · with_reducible refine KeepsLaws.next ?_
      with_reducible refine KeepsLaws.comp ?_ (State.releaseScopes_keeps ..) (KeepsLaws.subI rfl rfl)
      with_reducible refine KeepsLaws.comp ?_ (State.modPort_keeps ..) (KeepsLaws.subI rfl rfl)
      exact KeepsLaws.refl ..
    · with_reducible refine KeepsLaws.next ?_
      exact KeepsLaws.refl ..
  · with_reducible refine KeepsLaws.next ?_
    exact KeepsLaws.refl ..

end Sys2Proof.Machine
end

