-- ==== Sys2Proof/Laws/FrameProtect.lean ====
section
/-! SUPPORT. What each operation of Machine/Protect.lean can change at most (Keeps): masks of fields and of registers. -/

namespace Sys2Proof.Machine

theorem State.addrDetail_keeps (s : State) (addr : ℕ) :
    Keeps 0 0 s (State.addrDetail s addr).2 := by
  unfold State.addrDetail
  split
  dsimp only
  with_reducible refine KeepsLaws.ofSnd (by assumption) ?_
  with_reducible refine KeepsLaws.comp ?_ (KeepsLaws.drawn ..) (KeepsLaws.subI rfl rfl)
  exact KeepsLaws.refl ..

theorem State.arrive_keeps (s : State) (f : FaultIn) :
    Keeps 74449180 11981835351622358423130045765378449162478513965070851147924795028626860036075183554498560 s (State.arrive s f) := by
  unfold State.arrive
  with_reducible refine KeepsLaws.ite ?_ ?_
  · with_reducible refine KeepsLaws.comp ?_ (State.faultHw_keeps ..) (KeepsLaws.subI rfl rfl)
    exact KeepsLaws.refl ..
  · with_reducible refine KeepsLaws.comp ?_ (State.fault_keeps ..) (KeepsLaws.subI rfl rfl)
    exact KeepsLaws.refl ..

theorem State.chkResult_keeps (s : State) (u : ℕ) :
    Keeps 0 0 s (State.chkResult s u).2 := by
  unfold State.chkResult
  extract_lets
  rename_i e0 e1
  split
  · dsimp only
    exact KeepsLaws.refl ..
  · split
    dsimp only
    with_reducible refine KeepsLaws.ofSnd (by assumption) ?_
    with_reducible refine KeepsLaws.comp ?_ (KeepsLaws.drawn ..) (KeepsLaws.subI rfl rfl)
    exact KeepsLaws.refl ..

theorem State.chkUnmapped_keeps (s : State) (addr : ℕ) (len : ℕ) :
    Keeps 0 64 s (State.chkUnmapped s addr len) := by
  unfold State.chkUnmapped
  with_reducible refine KeepsLaws.ite ?_ ?_
  · exact KeepsLaws.refl ..
  · with_reducible refine KeepsLaws.stepAddSatBits ?_ (KeepsLaws.bitI rfl)
    exact KeepsLaws.refl ..

theorem State.haltPair_keeps (s : State) (p : ℕ) :
    Keeps 2097152 0 s (State.haltPair s p) := by
  unfold State.haltPair
  with_reducible refine KeepsLaws.comp ?_ (KeepsLaws.upd_flt ..) (KeepsLaws.subI rfl rfl)
  exact KeepsLaws.refl ..

theorem State.setChk_keeps (s : State) (u : ℕ) (x : ChkUnit) :
    Keeps 2097152 355713298137035352341210065946689252925245392892847812729213698072309134253883392 s (State.setChk s u x) := by
  unfold State.setChk
  extract_lets
  rename_i e0 e1
  with_reducible refine KeepsLaws.stepSetBit ?_ (KeepsLaws.bitI rfl)
  with_reducible refine KeepsLaws.stepSetBit ?_ (KeepsLaws.bitI rfl)
  with_reducible refine KeepsLaws.comp ?_ (KeepsLaws.upd_flt ..) (KeepsLaws.subI rfl rfl)
  exact KeepsLaws.refl ..

theorem State.faultAt_keeps (s : State) (island : ℕ) (cls : ℕ) (sev : ℕ) (inst : ℕ) (addr : ℕ) :
    Keeps 74449164 46077677787479011400871809854749000067566345934505929353659583191032107774382539608064 s (State.faultAt s island cls sev inst addr) := by
  unfold State.faultAt
  split
  with_reducible refine KeepsLaws.comp ?_ (State.fault_keeps ..) (KeepsLaws.subI rfl rfl)
  with_reducible refine KeepsLaws.ofSnd (by assumption) ?_
  with_reducible refine KeepsLaws.comp ?_ (State.addrDetail_keeps ..) (KeepsLaws.subI rfl rfl)
  exact KeepsLaws.refl ..

theorem State.endChk_keeps (s : State) (u : ℕ) (code : ℕ) (result : Option ℕ) :
    Keeps 74449180 46124039087336205008460280900010718566864269584046297185251957376347532064880297840640 s (State.endChk s u code result) := by
  unfold State.endChk
  extract_lets
  rename_i e0 e1 e2 e3 e4 e5 e6 e7 e8 e9
  have h_e2 : Keeps 74449180 46124039087336205008460280900010718566864269584046297185251957376347532064880297840640 s e2 := by
    unfold e2
    with_reducible refine KeepsLaws.stepBumpWrap ?_ (KeepsLaws.bitI rfl)
    with_reducible refine KeepsLaws.stepSetBits ?_ (KeepsLaws.bitI rfl)
    exact KeepsLaws.refl ..
  clear_value e2
  have h_e3 : Keeps 74449180 46124039087336205008460280900010718566864269584046297185251957376347532064880297840640 s e3 := by
    unfold e3
    split
    · with_reducible refine KeepsLaws.stepReg ?_ (KeepsLaws.bitI rfl)
      assumption
    · assumption
  clear_value e3
  have h_e4 : Keeps 74449180 46124039087336205008460280900010718566864269584046297185251957376347532064880297840640 s e4 := by
    unfold e4
    with_reducible refine KeepsLaws.comp ?_ (State.setChk_keeps ..) (KeepsLaws.subI rfl rfl)
    assumption
  clear_value e4
  have h_e7 : Keeps 74449180 46124039087336205008460280900010718566864269584046297185251957376347532064880297840640 s e7 := by
    unfold e7
    with_reducible refine KeepsLaws.ite ?_ ?_
    · with_reducible refine KeepsLaws.comp ?_ (State.event_keeps ..) (KeepsLaws.subI rfl rfl)
      with_reducible refine KeepsLaws.stepBumpSat ?_ (KeepsLaws.bitI rfl)
      assumption
    · assumption
  clear_value e7
  have h_e8 : Keeps 74449180 46124039087336205008460280900010718566864269584046297185251957376347532064880297840640 s e8 := by
    unfold e8
    with_reducible refine KeepsLaws.ite ?_ ?_
    · with_reducible refine KeepsLaws.comp ?_ (State.event_keeps ..) (KeepsLaws.subI rfl rfl)
      assumption
    · assumption
  clear_value e8
  have h_e9 : Keeps 74449180 46124039087336205008460280900010718566864269584046297185251957376347532064880297840640 s e9 := by
    unfold e9
    split
    · with_reducible refine KeepsLaws.comp ?_ (State.replyR_keeps ..) (KeepsLaws.subI rfl rfl)
      assumption
    · assumption
  clear_value e9
  with_reducible refine KeepsLaws.ite ?_ ?_
  · with_reducible refine KeepsLaws.comp ?_ (State.faultAt_keeps ..) (KeepsLaws.subI rfl rfl)
    assumption
  · assumption

theorem State.lockEntries_keeps (s : State) :
    Keeps 0 14821387422376473014217086081112052205218558037201992197050570753012880593911808 s (State.lockEntries s) := by
  unfold State.lockEntries
  with_reducible refine KeepsLaws.foldl (fun x a => ?_) ?_
  · with_reducible refine KeepsLaws.stepSetBit ?_ (KeepsLaws.bitI rfl)
    exact KeepsLaws.refl ..
  · exact KeepsLaws.refl ..

theorem State.noteGap_keeps (s : State) (from0 : ℕ) :
    Keeps 0 485667223056432267729865476705879726660601709763034880312953102434726071301302124544 s (State.noteGap s from0) := by
  unfold State.noteGap
  with_reducible refine KeepsLaws.stepSetBits ?_ (KeepsLaws.bitI rfl)
  exact KeepsLaws.refl ..

theorem State.violEvent_keeps (s : State) (m : ℕ) (mk : ℕ → List Byte) :
    Keeps 268 593920 s (State.violEvent s m mk) := by
  unfold State.violEvent
  extract_lets
  rename_i e0 e1
  with_reducible refine KeepsLaws.ite ?_ ?_
  · with_reducible refine KeepsLaws.comp ?_ (State.event_keeps ..) (KeepsLaws.subI rfl rfl)
    with_reducible refine KeepsLaws.comp ?_ (State.setLim_keeps ..) (KeepsLaws.subI rfl rfl)
    exact KeepsLaws.refl ..
  · with_reducible refine KeepsLaws.comp ?_ (State.setLim_keeps ..) (KeepsLaws.subI rfl rfl)
    exact KeepsLaws.refl ..

theorem State.violate_keeps (s : State) (m : ℕ) (inst : ℕ) (serves : ℕ) (addr : ℕ) (write : Bool) (posted : Bool) :
    Keeps 74449164 46077767584244214939581360834047874305038886145379037557916995790388505911014575378432 s (State.violate s m inst serves addr write posted) := by
  unfold State.violate
  extract_lets
  rename_i e0 e1 e2 e3 e4 e5
  have h_e1 : Keeps 74449164 46077767584244214939581360834047874305038886145379037557916995790388505911014575378432 s e1 := by
    unfold e1
    with_reducible refine KeepsLaws.stepBumpSat ?_ (KeepsLaws.bitI rfl)
    with_reducible refine KeepsLaws.stepBumpSat ?_ (KeepsLaws.bitI rfl)
    exact KeepsLaws.refl ..
  clear_value e1
  have h_e2 : Keeps 74449164 46077767584244214939581360834047874305038886145379037557916995790388505911014575378432 s e2 := by
    unfold e2
    split
    · with_reducible refine KeepsLaws.stepBumpWrap ?_ (KeepsLaws.bitI rfl)
      assumption
    · assumption
  clear_value e2
  have h_e3 : Keeps 74449164 46077767584244214939581360834047874305038886145379037557916995790388505911014575378432 s e3 := by
    unfold e3
    with_reducible refine KeepsLaws.stepReg ?_ (KeepsLaws.bitI rfl)
    assumption
  clear_value e3
  have h_e4 : Keeps 74449164 46077767584244214939581360834047874305038886145379037557916995790388505911014575378432 s e4 := by
    unfold e4
    with_reducible refine KeepsLaws.ite ?_ ?_
    · assumption
    · with_reducible refine KeepsLaws.stepReg ?_ (KeepsLaws.bitI rfl)
      with_reducible refine KeepsLaws.stepReg ?_ (KeepsLaws.bitI rfl)
      assumption
  clear_value e4
  have h_e5 : Keeps 74449164 46077767584244214939581360834047874305038886145379037557916995790388505911014575378432 s e5 := by
    unfold e5
    with_reducible refine KeepsLaws.comp ?_ (State.violEvent_keeps ..) (KeepsLaws.subI rfl rfl)
    assumption
  clear_value e5
  with_reducible refine KeepsLaws.ite ?_ ?_
  · assumption
  · with_reducible refine KeepsLaws.comp ?_ (State.faultAt_keeps ..) (KeepsLaws.subI rfl rfl)
    assumption

theorem State.showChk_keeps (s : State) (u : ℕ) (b : Body) :
    Keeps 0 14465674124239437661875876015165362952293312644309144384321357054940571459657924608 s (State.showChk s u b) := by
  unfold State.showChk
  extract_lets
  rename_i e0 e1 e2
  have h_e2 : Keeps 0 14465674124239437661875876015165362952293312644309144384321357054940571459657924608 s e2 := by
    unfold e2
    with_reducible refine KeepsLaws.stepSetBit ?_ (KeepsLaws.bitI rfl)
    with_reducible refine KeepsLaws.stepSetBit ?_ (KeepsLaws.bitI rfl)
    with_reducible refine KeepsLaws.stepSetBits ?_ (KeepsLaws.bitI rfl)
    with_reducible refine KeepsLaws.stepSetBits ?_ (KeepsLaws.bitI rfl)
    with_reducible refine KeepsLaws.stepSetBit ?_ (KeepsLaws.bitI rfl)
    exact KeepsLaws.refl ..
  clear_value e2
  with_reducible refine KeepsLaws.stepReg ?_ (KeepsLaws.bitI rfl)
  with_reducible refine KeepsLaws.stepReg ?_ (KeepsLaws.bitI rfl)
  with_reducible refine KeepsLaws.stepReg ?_ (KeepsLaws.bitI rfl)
  with_reducible refine KeepsLaws.stepReg ?_ (KeepsLaws.bitI rfl)
  assumption

theorem State.writeEntry_keeps (s : State) (n : ℕ) (flags : ℕ) (base : ℕ) (limit : ℕ) (mask : ℕ) :
    Keeps 0 28745386153163745513901497028406773124574273693245270022795345229964434433114112 s (State.writeEntry s n flags base limit mask) := by
  unfold State.writeEntry
  extract_lets
  rename_i e0 e1 e2 e3
  have h_e0 : Keeps 0 28745386153163745513901497028406773124574273693245270022795345229964434433114112 s e0 := by
    unfold e0
    with_reducible refine KeepsLaws.stepReg ?_ (KeepsLaws.bitI rfl)
    with_reducible refine KeepsLaws.stepReg ?_ (KeepsLaws.bitI rfl)
    exact KeepsLaws.refl ..
  clear_value e0
  have h_e1 : Keeps 0 28745386153163745513901497028406773124574273693245270022795345229964434433114112 s e1 := by
    unfold e1
    with_reducible refine KeepsLaws.stepReg ?_ (KeepsLaws.bitI rfl)
    with_reducible refine KeepsLaws.stepReg ?_ (KeepsLaws.bitI rfl)
    assumption
  clear_value e1
  have h_e3 : Keeps 0 28745386153163745513901497028406773124574273693245270022795345229964434433114112 s e3 := by
    unfold e3
    with_reducible refine KeepsLaws.stepReg ?_ (KeepsLaws.bitI rfl)
    assumption
  clear_value e3
  with_reducible refine KeepsLaws.stepSetBits ?_ (KeepsLaws.bitI rfl)
  assumption

theorem execFaultPortLivenessRecord_keeps (i : Fin 41) (s : State) :
    KeepsO 2097152 0 s (execFaultPortLivenessRecord i s) := by
  unfold execFaultPortLivenessRecord
  with_reducible refine KeepsLaws.iteO ?_ ?_
  · with_reducible refine KeepsLaws.next ?_
    with_reducible refine KeepsLaws.comp ?_ (KeepsLaws.upd_flt ..) (KeepsLaws.subI rfl rfl)
    exact KeepsLaws.refl ..
  · with_reducible refine KeepsLaws.next ?_
    exact KeepsLaws.refl ..

theorem execDutyRelease_keeps (s : State) :
    KeepsO 74448924 11967872418959485995432812132923155120337021665915163895115797626931861661525271118417920 s (execDutyRelease s) := by
  unfold execDutyRelease
  with_reducible refine KeepsLaws.next ?_
  with_reducible refine KeepsLaws.comp ?_ (State.mgmtRelease_keeps ..) (KeepsLaws.subI rfl rfl)
  exact KeepsLaws.refl ..

theorem execRestartGraceExpiry_keeps (s : State) :
    KeepsO 74449180 11981835351622358423130045765378449162478513965070851147924795028626860036075183554498560 s (execRestartGraceExpiry s) := by
  unfold execRestartGraceExpiry
  split
  · with_reducible refine KeepsLaws.iteO ?_ ?_
    · with_reducible refine KeepsLaws.next ?_
      with_reducible refine KeepsLaws.comp ?_ (State.faultHw_keeps ..) (KeepsLaws.subI rfl rfl)
      with_reducible refine KeepsLaws.comp ?_ (KeepsLaws.upd_flt ..) (KeepsLaws.subI rfl rfl)
      exact KeepsLaws.refl ..
    · with_reducible refine KeepsLaws.next ?_
      exact KeepsLaws.refl ..
  · with_reducible refine KeepsLaws.next ?_
    exact KeepsLaws.refl ..

theorem execMpuLock_keeps (r : Req) (b : Body) (s : State) :
    KeepsO 28 14850335444685802063072978827364224182181875533368402338060435149014858879012864 s (execMpuLock r b s) := by
  unfold execMpuLock
  with_reducible refine KeepsLaws.command (KeepsLaws.subI rfl rfl) (fun x => ?_)
  extract_lets
  rename_i e0 e1
  have h_e1 : Keeps 28 14850335444685802063072978827364224182181875533368402338060435149014858879012864 x e1 := by
    unfold e1
    with_reducible refine KeepsLaws.stepSetBit ?_ (KeepsLaws.bitI rfl)
    with_reducible refine KeepsLaws.stepSetBits ?_ (KeepsLaws.bitI rfl)
    with_reducible refine KeepsLaws.comp ?_ (State.lockEntries_keeps ..) (KeepsLaws.subI rfl rfl)
    exact KeepsLaws.refl ..
  clear_value e1
  with_reducible refine KeepsLaws.nowA ?_
  with_reducible refine KeepsLaws.comp ?_ (State.event_keeps ..) (KeepsLaws.subI rfl rfl)
  assumption

theorem execChkRun_keeps (r : Req) (b : Body) (s : State) :
    KeepsO 2097180 14584245223618449445989612703814259369935061108606760321897761620964674504411906048 s (execChkRun r b s) := by
  unfold execChkRun
  extract_lets
  rename_i e0 e1 e2
  with_reducible refine KeepsLaws.command (KeepsLaws.subI rfl rfl) (fun x => ?_)
  extract_lets
  rename_i e3 e4 e5
  have h_e5 : Keeps 2097180 14584245223618449445989612703814259369935061108606760321897761620964674504411906048 x e5 := by
    unfold e5
    with_reducible refine KeepsLaws.comp ?_ (State.setChk_keeps ..) (KeepsLaws.subI rfl rfl)
    with_reducible refine KeepsLaws.comp ?_ (State.showChk_keeps ..) (KeepsLaws.subI rfl rfl)
    exact KeepsLaws.refl ..
  clear_value e5
  with_reducible refine KeepsLaws.iteA ?_ ?_
  · with_reducible refine KeepsLaws.laterA ?_
    assumption
  · with_reducible refine KeepsLaws.nowA ?_
    assumption

theorem execChkStop_keeps (r : Req) (b : Body) (s : State) :
    KeepsO 74449180 46124039087336205008460280900010718566864269584046297185251957376347532064880297840640 s (execChkStop r b s) := by
  unfold execChkStop
  extract_lets
  rename_i e0
  with_reducible refine KeepsLaws.command (KeepsLaws.subI rfl rfl) (fun x => ?_)
  extract_lets
  rename_i e1 e2
  have h_e1 : Keeps 74449180 46124039087336205008460280900010718566864269584046297185251957376347532064880297840640 x e1 := by
    unfold e1
    with_reducible refine KeepsLaws.ite ?_ ?_
    · with_reducible refine KeepsLaws.comp ?_ (State.endChk_keeps ..) (KeepsLaws.subI rfl rfl)
      exact KeepsLaws.refl ..
    · exact KeepsLaws.refl ..
  clear_value e1
  with_reducible refine KeepsLaws.doneA ?_
  with_reducible refine KeepsLaws.comp ?_ (State.setChk_keeps ..) (KeepsLaws.subI rfl rfl)
  assumption

theorem execHwDutyRelease_keeps (s : State) :
    KeepsO 74449180 11981835351622358423130045765378449162478513965070851147924795028626860036075183554498560 s (execHwDutyRelease s) := by
  unfold execHwDutyRelease
  with_reducible refine KeepsLaws.next ?_
  with_reducible refine KeepsLaws.comp ?_ (State.faultHw_keeps ..) (KeepsLaws.subI rfl rfl)
  exact KeepsLaws.refl ..

theorem execDbgAuthenticate_keeps (challenge : List Byte) (signature : List Byte) (s : State) :
    KeepsO 2097152 0 s (execDbgAuthenticate challenge signature s) := by
  unfold execDbgAuthenticate
  with_reducible refine KeepsLaws.iteO ?_ ?_
  · with_reducible refine KeepsLaws.next ?_
    with_reducible refine KeepsLaws.comp ?_ (KeepsLaws.upd_flt ..) (KeepsLaws.subI rfl rfl)
    exact KeepsLaws.refl ..
  · with_reducible refine KeepsLaws.next ?_
    exact KeepsLaws.refl ..

theorem execLockstepMismatch_keeps (p : Fin 4) (s : State) :
    KeepsO 74449180 11981835351622358423130045765378449162478513965070851147924795028626860036075183554498560 s (execLockstepMismatch p s) := by
  unfold execLockstepMismatch
  extract_lets
  rename_i e0
  have h_e0 : Keeps 74449180 11981835351622358423130045765378449162478513965070851147924795028626860036075183554498560 s e0 := by
    unfold e0
    with_reducible refine KeepsLaws.comp ?_ (State.haltPair_keeps ..) (KeepsLaws.subI rfl rfl)
    exact KeepsLaws.refl ..
  clear_value e0
  with_reducible refine KeepsLaws.next ?_
  with_reducible refine KeepsLaws.ite ?_ ?_
  · with_reducible refine KeepsLaws.comp ?_ (State.faultHw_keeps ..) (KeepsLaws.subI rfl rfl)
    assumption
  · with_reducible refine KeepsLaws.comp ?_ (State.fault_keeps ..) (KeepsLaws.subI rfl rfl)
    assumption

theorem execWatchdogTimeout_keeps (p : Fin 4) (s : State) :
    KeepsO 74449180 11982321018845414855397775630855155042205174566780614182805107981729294762146484856623104 s (execWatchdogTimeout p s) := by
  unfold execWatchdogTimeout
  split
  · with_reducible refine KeepsLaws.iteO ?_ ?_
    · extract_lets
      rename_i e0 e1
      have h_e0 : Keeps 74449180 11982321018845414855397775630855155042205174566780614182805107981729294762146484856623104 s e0 := by
        unfold e0
        with_reducible refine KeepsLaws.comp ?_ (State.noteGap_keeps ..) (KeepsLaws.subI rfl rfl)
        exact KeepsLaws.refl ..
      clear_value e0
      with_reducible refine KeepsLaws.next ?_
      with_reducible refine KeepsLaws.comp ?_ (State.faultHw_keeps ..) (KeepsLaws.subI rfl rfl)
      with_reducible refine KeepsLaws.comp ?_ (KeepsLaws.upd_flt ..) (KeepsLaws.subI rfl rfl)
      assumption
    · with_reducible refine KeepsLaws.next ?_
      exact KeepsLaws.refl ..
  · with_reducible refine KeepsLaws.next ?_
    exact KeepsLaws.refl ..

theorem execFaultRecordArrive_keeps (recs : List FaultIn) (s : State) :
    KeepsO 74449180 11981835351622358423130045765378449162478513965070851147924795028626860036075183554498560 s (execFaultRecordArrive recs s) := by
  unfold execFaultRecordArrive
  with_reducible refine KeepsLaws.next ?_
  with_reducible refine KeepsLaws.foldl (fun x a => ?_) ?_
  · with_reducible refine KeepsLaws.comp ?_ (State.arrive_keeps ..) (KeepsLaws.subI rfl rfl)
    exact KeepsLaws.refl ..
  · exact KeepsLaws.refl ..

theorem execIslandLivenessTimeout_keeps (i : Fin 41) (s : State) :
    KeepsO 74449164 46077677787479011400871809854749000067566345934505929353659583191032107774382539608064 s (execIslandLivenessTimeout i s) := by
  unfold execIslandLivenessTimeout
  split
  · with_reducible refine KeepsLaws.iteO ?_ ?_
    · with_reducible refine KeepsLaws.next ?_
      with_reducible refine KeepsLaws.comp ?_ (State.fault_keeps ..) (KeepsLaws.subI rfl rfl)
      with_reducible refine KeepsLaws.comp ?_ (KeepsLaws.upd_flt ..) (KeepsLaws.subI rfl rfl)
      exact KeepsLaws.refl ..
    · with_reducible refine KeepsLaws.next ?_
      exact KeepsLaws.refl ..
  · with_reducible refine KeepsLaws.next ?_
    exact KeepsLaws.refl ..

theorem execMpuEntry_keeps (r : Req) (b : Body) (s : State) :
    KeepsO 28 28745386153163745513901497028406773124574273693245270022795345229964434435801088 s (execMpuEntry r b s) := by
  unfold execMpuEntry
  extract_lets
  rename_i e0 e1
  with_reducible refine KeepsLaws.command (KeepsLaws.subI rfl rfl) (fun x => ?_)
  extract_lets
  rename_i e2
  with_reducible refine KeepsLaws.nowA ?_
  with_reducible refine KeepsLaws.comp ?_ (State.writeEntry_keeps ..) (KeepsLaws.subI rfl rfl)
  exact KeepsLaws.refl ..

theorem execHeartbeatWrite_keeps (p : Fin 4) (s : State) :
    KeepsO 2097152 485667223056432267729865476705879726660601709763034880312953102434726071301302124544 s (execHeartbeatWrite p s) := by
  unfold execHeartbeatWrite
  with_reducible refine KeepsLaws.iteO ?_ ?_
  · with_reducible refine KeepsLaws.next ?_
    exact KeepsLaws.refl ..
  · extract_lets
    rename_i e0 e1
    have h_e0 : Keeps 2097152 485667223056432267729865476705879726660601709763034880312953102434726071301302124544 s e0 := by
      unfold e0
      split
      · with_reducible refine KeepsLaws.comp ?_ (State.noteGap_keeps ..) (KeepsLaws.subI rfl rfl)
        exact KeepsLaws.refl ..
      · exact KeepsLaws.refl ..
    clear_value e0
    with_reducible refine KeepsLaws.next ?_
    with_reducible refine KeepsLaws.comp ?_ (KeepsLaws.upd_flt ..) (KeepsLaws.subI rfl rfl)
    assumption

theorem execFltRead_keeps (r : Req) (b : Body) (s : State) :
    KeepsO 28 2686976 s (execFltRead r b s) := by
  unfold execFltRead
  extract_lets
  rename_i e0
  with_reducible refine KeepsLaws.command (KeepsLaws.subI rfl rfl) (fun x => ?_)
  extract_lets
  rename_i e1 e2
  have h_e2 : Keeps 28 2686976 x e2 := by
    unfold e2
    with_reducible refine KeepsLaws.ite ?_ ?_
    · exact KeepsLaws.refl ..
    · with_reducible refine KeepsLaws.comp ?_ (KeepsLaws.emit ..) (KeepsLaws.subI rfl rfl)
      exact KeepsLaws.refl ..
  clear_value e2
  with_reducible refine KeepsLaws.nowA ?_
  assumption

theorem execIslandClockLoss_keeps (i : Fin 41) (s : State) :
    KeepsO 74449164 46077677787479011400871809854749000067566345934505929353659583191032107774382539608064 s (execIslandClockLoss i s) := by
  unfold execIslandClockLoss
  with_reducible refine KeepsLaws.iteO ?_ ?_
  · with_reducible refine KeepsLaws.next ?_
    exact KeepsLaws.refl ..
  · with_reducible refine KeepsLaws.next ?_
    with_reducible refine KeepsLaws.comp ?_ (State.fault_keeps ..) (KeepsLaws.subI rfl rfl)
    exact KeepsLaws.refl ..

theorem execChkPeriodStart_keeps (u : Fin 8) (s : State) :
    KeepsO 2097152 355713298137035352341210065946689252925245392892847812729213698072309134253883392 s (execChkPeriodStart u s) := by
  unfold execChkPeriodStart
  extract_lets
  rename_i e0
  with_reducible refine KeepsLaws.iteO ?_ ?_
  · with_reducible refine KeepsLaws.next ?_
    with_reducible refine KeepsLaws.comp ?_ (State.setChk_keeps ..) (KeepsLaws.subI rfl rfl)
    exact KeepsLaws.refl ..
  · with_reducible refine KeepsLaws.next ?_
    exact KeepsLaws.refl ..

end Sys2Proof.Machine
end

