-- ==== Sys2Proof/Laws/FrameMemory.lean ====
section
/-! SUPPORT. What each operation of Machine/Memory.lean can change at most (Keeps): masks of fields and of registers. -/

namespace Sys2Proof.Machine

theorem State.setDmc_keeps (s : State) (c : ℕ) (x : DmcCh) :
    Keeps 33554432 0 s (State.setDmc s c x) := by
  unfold State.setDmc
  with_reducible refine KeepsLaws.comp ?_ (KeepsLaws.upd_mem ..) (KeepsLaws.subI rfl rfl)
  exact KeepsLaws.refl ..

theorem State.answerRead_keeps (s : State) (m : ℕ) (addr : ℕ) (data : List Byte) :
    Keeps 0 0 s (State.answerRead s m addr data) := by
  unfold State.answerRead
  split
  · with_reducible refine KeepsLaws.comp ?_ (KeepsLaws.emit ..) (KeepsLaws.subI rfl rfl)
    exact KeepsLaws.refl ..
  · exact KeepsLaws.refl ..

theorem State.byteOr_keeps (s : State) (x1 : Option Byte) :
    Keeps 0 0 s (State.byteOr s x1).2 := by
  unfold State.byteOr
  split
  · dsimp only
    exact KeepsLaws.refl ..
  · dsimp only
    with_reducible refine KeepsLaws.comp ?_ (KeepsLaws.drawn ..) (KeepsLaws.subI rfl rfl)
    exact KeepsLaws.refl ..

theorem State.countBursts_keeps (s : State) (m : ℕ) (c : ℕ) (addr : ℕ) (len : ℕ) :
    Keeps 33554432 0 s (State.countBursts s m c addr len) := by
  unfold State.countBursts
  extract_lets
  rename_i e0
  with_reducible refine KeepsLaws.comp ?_ (State.setDmc_keeps ..) (KeepsLaws.subI rfl rfl)
  exact KeepsLaws.refl ..

theorem State.denyCommand_keeps (s : State) (p : Port) :
    Keeps 28 2686976 s (State.denyCommand s p) := by
  unfold State.denyCommand
  split
  · with_reducible refine KeepsLaws.ite ?_ ?_
    · with_reducible refine KeepsLaws.comp ?_ (State.replyR_keeps ..) (KeepsLaws.subI rfl rfl)
      with_reducible refine KeepsLaws.comp ?_ (State.endInterp_keeps ..) (KeepsLaws.subI rfl rfl)
      exact KeepsLaws.refl ..
    · exact KeepsLaws.refl ..
  · exact KeepsLaws.refl ..

theorem State.poisonEffect_keeps (s : State) (m : ℕ) (serves : ℕ) :
    Keeps 2113536 0 s (State.poisonEffect s m serves) := by
  unfold State.poisonEffect
  with_reducible refine KeepsLaws.ite ?_ ?_
  · with_reducible refine KeepsLaws.comp ?_ (State.haltPair_keeps ..) (KeepsLaws.subI rfl rfl)
    exact KeepsLaws.refl ..
  · with_reducible refine KeepsLaws.ite ?_ ?_
    · with_reducible refine KeepsLaws.comp ?_ (State.modSess_keeps ..) (KeepsLaws.subI rfl rfl)
      exact KeepsLaws.refl ..
    · exact KeepsLaws.refl ..

theorem State.denyEffect_keeps (s : State) (m : ℕ) (serves : ℕ) :
    Keeps 2113564 2686976 s (State.denyEffect s m serves) := by
  unfold State.denyEffect
  with_reducible refine KeepsLaws.ite ?_ ?_
  · with_reducible refine KeepsLaws.comp ?_ (State.denyCommand_keeps ..) (KeepsLaws.subI rfl rfl)
    exact KeepsLaws.refl ..
  · with_reducible refine KeepsLaws.ite ?_ ?_
    · with_reducible refine KeepsLaws.comp ?_ (State.denyCommand_keeps ..) (KeepsLaws.subI rfl rfl)
      exact KeepsLaws.refl ..
    · with_reducible refine KeepsLaws.comp ?_ (State.poisonEffect_keeps ..) (KeepsLaws.subI rfl rfl)
      exact KeepsLaws.refl ..

theorem State.dirtyChecks_keeps (s : State) (addr : ℕ) (len : ℕ) :
    Keeps 2097152 355713298137035352341210065946689252925245392892847812729213698072309134253883392 s (State.dirtyChecks s addr len) := by
  unfold State.dirtyChecks
  with_reducible refine KeepsLaws.foldl (fun x a => ?_) ?_
  · extract_lets
    rename_i e0
    with_reducible refine KeepsLaws.ite ?_ ?_
    · with_reducible refine KeepsLaws.comp ?_ (State.setChk_keeps ..) (KeepsLaws.subI rfl rfl)
      exact KeepsLaws.refl ..
    · exact KeepsLaws.refl ..
  · exact KeepsLaws.refl ..

theorem State.dmcFault_keeps (s : State) (c : ℕ) :
    Keeps 74449164 46077677787479566991452726495133888565413259235054851667931842907149798357582555451392 s (State.dmcFault s c) := by
  unfold State.dmcFault
  with_reducible refine KeepsLaws.comp ?_ (State.fault_keeps ..) (KeepsLaws.subI rfl rfl)
  with_reducible refine KeepsLaws.stepSetBit ?_ (KeepsLaws.bitI rfl)
  with_reducible refine KeepsLaws.stepSetBit ?_ (KeepsLaws.bitI rfl)
  with_reducible refine KeepsLaws.stepSetBit ?_ (KeepsLaws.bitI rfl)
  exact KeepsLaws.refl ..

theorem State.dramCe_keeps (s : State) (c : ℕ) (n : ℕ) :
    Keeps 268 883423532389192164791648750371459257913741948437809479060803100646903808 s (State.dramCe s c n) := by
  unfold State.dramCe
  with_reducible refine KeepsLaws.ite ?_ ?_
  · exact KeepsLaws.refl ..
  · with_reducible refine KeepsLaws.comp ?_ (State.eventPerSec_keeps ..) (KeepsLaws.subI rfl rfl)
    with_reducible refine KeepsLaws.stepAddSat ?_ (KeepsLaws.bitI rfl)
    exact KeepsLaws.refl ..

theorem State.foreignWrite_keeps (s : State) (m : ℕ) (addr : ℕ) (len : ℕ) :
    Keeps 32780 593920 s (State.foreignWrite s m addr len) := by
  unfold State.foreignWrite
  with_reducible refine KeepsLaws.ite ?_ ?_
  · exact KeepsLaws.refl ..
  · with_reducible refine KeepsLaws.foldl (fun x a => ?_) ?_
    · extract_lets
      rename_i e0
      split
      · with_reducible refine KeepsLaws.ite ?_ ?_
        · with_reducible refine KeepsLaws.comp ?_ (State.event_keeps ..) (KeepsLaws.subI rfl rfl)
          with_reducible refine KeepsLaws.comp ?_ (State.modPool_keeps ..) (KeepsLaws.subI rfl rfl)
          exact KeepsLaws.refl ..
        · exact KeepsLaws.refl ..
      · exact KeepsLaws.refl ..
    · exact KeepsLaws.refl ..

theorem State.noteStall_keeps (s : State) (m : ℕ) (c : ℕ) :
    Keeps 0 113078212145816597093331040047546785012958969400039613319782796882727665664 s (State.noteStall s m c) := by
  unfold State.noteStall
  extract_lets
  rename_i e0
  with_reducible refine KeepsLaws.ite ?_ ?_
  · with_reducible refine KeepsLaws.stepReg ?_ (KeepsLaws.bitI rfl)
    exact KeepsLaws.refl ..
  · exact KeepsLaws.refl ..

theorem State.readByte_keeps (s : State) (addr : ℕ) :
    Keeps 0 0 s (State.readByte s addr).2 := by
  unfold State.readByte
  with_reducible refine KeepsLaws.comp ?_ (State.byteOr_keeps ..) (KeepsLaws.subI rfl rfl)
  exact KeepsLaws.refl ..

theorem State.readDram_keeps (s : State) (addr n : ℕ) :
    Keeps 0 0 s (State.readDram s addr n).2 := by
  induction n generalizing s addr with
  | zero => rw [State.readDram]; exact KeepsLaws.refl ..
  | succ n ih => rw [State.readDram]; exact KeepsLaws.trans (State.readByte_keeps s addr) (ih _ _)

theorem State.dramUe_keeps (s : State) (c : ℕ) (line : ℕ) (source : ℕ) (master : ℕ) :
    Keeps 12 5300541194335152988749892502228755547482451690626856874364818603878453248 s (State.dramUe s c line source master) := by
  unfold State.dramUe
  with_reducible refine KeepsLaws.comp ?_ (State.event_keeps ..) (KeepsLaws.subI rfl rfl)
  with_reducible refine KeepsLaws.stepReg ?_ (KeepsLaws.bitI rfl)
  with_reducible refine KeepsLaws.stepBumpSat ?_ (KeepsLaws.bitI rfl)
  exact KeepsLaws.refl ..

theorem State.readPart_keeps (s : State) (a : MemAccess) (first : Bool) (addr : ℕ) (len : ℕ) :
    Keeps 108019980 46077677787485195365598534199902541608818946149311325547298647857385533396087063777280 s (State.readPart s a first addr len) := by
  unfold State.readPart
  extract_lets
  rename_i e0 e1 e2 e3
  have h_e2 : Keeps 108019980 46077677787485195365598534199902541608818946149311325547298647857385533396087063777280 s e2 := by
    unfold e2
    with_reducible refine KeepsLaws.comp ?_ (State.countBursts_keeps ..) (KeepsLaws.subI rfl rfl)
    exact KeepsLaws.refl ..
  clear_value e2
  have h_e3 : Keeps 108019980 46077677787485195365598534199902541608818946149311325547298647857385533396087063777280 s e3 := by
    unfold e3
    with_reducible refine KeepsLaws.ite ?_ ?_
    · with_reducible refine KeepsLaws.comp ?_ (State.dramCe_keeps ..) (KeepsLaws.subI rfl rfl)
      assumption
    · assumption
  clear_value e3
  split
  extract_lets
  rename_i e4
  have h_e4 : Keeps 108019980 46077677787485195365598534199902541608818946149311325547298647857385533396087063777280 s e4 := by
    unfold e4
    with_reducible refine KeepsLaws.comp ?_ (State.answerRead_keeps ..) (KeepsLaws.subI rfl rfl)
    with_reducible refine KeepsLaws.ofSnd (by assumption) ?_
    with_reducible refine KeepsLaws.comp ?_ (State.readDram_keeps ..) (KeepsLaws.subI rfl rfl)
    assumption
  clear_value e4
  split
  · assumption
  · extract_lets
    rename_i e5
    have h_e5 : Keeps 108019980 46077677787485195365598534199902541608818946149311325547298647857385533396087063777280 s e5 := by
      unfold e5
      with_reducible refine KeepsLaws.comp ?_ (State.poisonEffect_keeps ..) (KeepsLaws.subI rfl rfl)
      with_reducible refine KeepsLaws.foldl (fun x a => ?_) ?_
      · with_reducible refine KeepsLaws.comp ?_ (State.dramUe_keeps ..) (KeepsLaws.subI rfl rfl)
        exact KeepsLaws.refl ..
      · assumption
    clear_value e5
    with_reducible refine KeepsLaws.ite ?_ ?_
    · assumption
    · with_reducible refine KeepsLaws.comp ?_ (State.faultAt_keeps ..) (KeepsLaws.subI rfl rfl)
      assumption

theorem State.writeDram_keeps (s : State) (addr : ℕ) (data : List Byte) :
    Keeps 33587200 0 s (State.writeDram s addr data) := by
  unfold State.writeDram
  extract_lets
  rename_i e0 e1 e2
  with_reducible refine KeepsLaws.comp ?_ (KeepsLaws.updMk (F := 33587200) ?_) (KeepsLaws.subI rfl rfl)
  · exact KeepsLaws.refl ..
  · (intro f hf; cases f <;> first | exact absurd hf (by decide) | rfl)

theorem State.writePart_keeps (s : State) (a : MemAccess) (addr : ℕ) (data : List Byte) :
    Keeps 33587200 0 s (State.writePart s a addr data) := by
  unfold State.writePart
  with_reducible refine KeepsLaws.comp ?_ (State.writeDram_keeps ..) (KeepsLaws.subI rfl rfl)
  with_reducible refine KeepsLaws.comp ?_ (State.countBursts_keeps ..) (KeepsLaws.subI rfl rfl)
  exact KeepsLaws.refl ..

theorem State.initDram_keeps (s : State) :
    Keeps 33554432 0 s (State.initDram s) := by
  unfold State.initDram
  extract_lets
  rename_i e0
  have h_e0 : Keeps 33554432 0 s e0 := by
    unfold e0
    with_reducible refine KeepsLaws.comp ?_ (KeepsLaws.upd_mem ..) (KeepsLaws.subI rfl rfl)
    exact KeepsLaws.refl ..
  clear_value e0
  with_reducible refine KeepsLaws.foldl (fun x a => ?_) ?_
  · with_reducible refine KeepsLaws.comp ?_ (State.setDmc_keeps ..) (KeepsLaws.subI rfl rfl)
    exact KeepsLaws.refl ..
  · assumption

theorem State.poisonLine_keeps (s : State) (line : ℕ) :
    Keeps 33554432 0 s (State.poisonLine s line) := by
  unfold State.poisonLine
  extract_lets
  rename_i e0 e1
  with_reducible refine KeepsLaws.ite ?_ ?_
  · exact KeepsLaws.refl ..
  · with_reducible refine KeepsLaws.comp ?_ (KeepsLaws.upd_mem ..) (KeepsLaws.subI rfl rfl)
    exact KeepsLaws.refl ..

theorem State.rollPeriod_keeps (s : State) :
    Keeps 33554432 3450873173395281893717377931138512726225554486085193277581262111899648 s (State.rollPeriod s) := by
  unfold State.rollPeriod
  split
  · with_reducible refine KeepsLaws.ite ?_ ?_
    · with_reducible refine KeepsLaws.foldl (fun x a => ?_) ?_
      · with_reducible refine KeepsLaws.comp ?_ (State.setDmc_keeps ..) (KeepsLaws.subI rfl rfl)
        exact KeepsLaws.refl ..
      · with_reducible refine KeepsLaws.stepSetBits ?_ (KeepsLaws.bitI rfl)
        with_reducible refine KeepsLaws.comp ?_ (KeepsLaws.upd_mem ..) (KeepsLaws.subI rfl rfl)
        exact KeepsLaws.refl ..
    · exact KeepsLaws.refl ..
  · exact KeepsLaws.refl ..

theorem execDmcTrain_keeps (r : Req) (b : Body) (pass : Word) (step : Fin 6) (durationMs : ℕ) (s : State) :
    KeepsO 33554460 445162639367991364289541753116868141683096528704989932807982812437745664 s (execDmcTrain r b pass step durationMs s) := by
  unfold execDmcTrain
  with_reducible refine KeepsLaws.command (KeepsLaws.subI rfl rfl) (fun x => ?_)
  extract_lets
  rename_i e0 e1 e2 e3
  have h_e2 : Keeps 33554460 445162639367991364289541753116868141683096528704989932807982812437745664 x e2 := by
    unfold e2
    with_reducible refine KeepsLaws.foldl (fun x a => ?_) ?_
    · with_reducible refine KeepsLaws.stepSetBit ?_ (KeepsLaws.bitI rfl)
      exact KeepsLaws.refl ..
    · exact KeepsLaws.refl ..
  clear_value e2
  with_reducible refine KeepsLaws.iteA ?_ ?_
  · with_reducible refine KeepsLaws.nowA ?_
    with_reducible refine KeepsLaws.comp ?_ (State.event_keeps ..) (KeepsLaws.subI rfl rfl)
    with_reducible refine KeepsLaws.stepSetBit ?_ (KeepsLaws.bitI rfl)
    with_reducible refine KeepsLaws.comp ?_ (State.initDram_keeps ..) (KeepsLaws.subI rfl rfl)
    assumption
  · with_reducible refine KeepsLaws.refuseA ?_
    with_reducible refine KeepsLaws.comp ?_ (State.event_keeps ..) (KeepsLaws.subI rfl rfl)
    assumption

theorem execDramRetrainPause_keeps (c : Fin 32) (ok : Bool) (drift : ℤ) (pauseNs : ℕ) (s0 : State) :
    KeepsO 108003596 46077677787521971321007407719043887705431089279434711281456857762144716906413578326016 s0 (execDramRetrainPause c ok drift pauseNs s0) := by
  unfold execDramRetrainPause
  extract_lets
  rename_i e0 e1 e2 e3 e4 e5 e6
  have h_e0 : Keeps 108003596 46077677787521971321007407719043887705431089279434711281456857762144716906413578326016 s0 e0 := by
    unfold e0
    with_reducible refine KeepsLaws.comp ?_ (State.rollPeriod_keeps ..) (KeepsLaws.subI rfl rfl)
    exact KeepsLaws.refl ..
  clear_value e0
  have h_e2 : Keeps 108003596 46077677787521971321007407719043887705431089279434711281456857762144716906413578326016 s0 e2 := by
    unfold e2
    with_reducible refine KeepsLaws.stepAddWrapBits ?_ (KeepsLaws.bitI rfl)
    assumption
  clear_value e2
  have h_e6 : Keeps 108003596 46077677787521971321007407719043887705431089279434711281456857762144716906413578326016 s0 e6 := by
    unfold e6
    with_reducible refine KeepsLaws.stepAddSatBits ?_ (KeepsLaws.bitI rfl)
    with_reducible refine KeepsLaws.comp ?_ (State.setDmc_keeps ..) (KeepsLaws.subI rfl rfl)
    assumption
  clear_value e6
  with_reducible refine KeepsLaws.iteO ?_ ?_
  · with_reducible refine KeepsLaws.iteO ?_ ?_
    · with_reducible refine KeepsLaws.next ?_
      with_reducible refine KeepsLaws.stepReg ?_ (KeepsLaws.bitI rfl)
      with_reducible refine KeepsLaws.comp ?_ (State.setDmc_keeps ..) (KeepsLaws.subI rfl rfl)
      assumption
    · with_reducible refine KeepsLaws.next ?_
      with_reducible refine KeepsLaws.ite ?_ ?_
      · with_reducible refine KeepsLaws.comp ?_ (State.dmcFault_keeps ..) (KeepsLaws.subI rfl rfl)
        with_reducible refine KeepsLaws.comp ?_ (State.event_keeps ..) (KeepsLaws.subI rfl rfl)
        assumption
      · assumption
  · with_reducible refine KeepsLaws.next ?_
    exact KeepsLaws.refl ..

theorem execDramRefresh_keeps (c : Fin 32) (s : State) :
    KeepsO 33554432 7067388259113537318333190002971674063309935587502475832486424805170479104 s (execDramRefresh c s) := by
  unfold execDramRefresh
  extract_lets
  rename_i e0
  with_reducible refine KeepsLaws.iteO ?_ ?_
  · with_reducible refine KeepsLaws.next ?_
    with_reducible refine KeepsLaws.stepBumpWrap ?_ (KeepsLaws.bitI rfl)
    with_reducible refine KeepsLaws.comp ?_ (State.setDmc_keeps ..) (KeepsLaws.subI rfl rfl)
    exact KeepsLaws.refl ..
  · with_reducible refine KeepsLaws.next ?_
    exact KeepsLaws.refl ..

theorem execMr4Poll_keeps (c : Fin 32) (rate : Fin 4) (s : State) :
    KeepsO 108003596 46077677787479622205423500819644188043460157451258471276803620270242239657776345845760 s (execMr4Poll c rate s) := by
  unfold execMr4Poll
  extract_lets
  rename_i e0 e1 e2 e3 e4 e5 e6 e7 e8
  have h_e3 : Keeps 108003596 46077677787479622205423500819644188043460157451258471276803620270242239657776345845760 s e3 := by
    unfold e3
    with_reducible refine KeepsLaws.stepSetBit ?_ (KeepsLaws.bitI rfl)
    with_reducible refine KeepsLaws.stepSetBits ?_ (KeepsLaws.bitI rfl)
    exact KeepsLaws.refl ..
  clear_value e3
  have h_e4 : Keeps 108003596 46077677787479622205423500819644188043460157451258471276803620270242239657776345845760 s e4 := by
    unfold e4
    with_reducible refine KeepsLaws.stepSetBit ?_ (KeepsLaws.bitI rfl)
    assumption
  clear_value e4
  have h_e5 : Keeps 108003596 46077677787479622205423500819644188043460157451258471276803620270242239657776345845760 s e5 := by
    unfold e5
    with_reducible refine KeepsLaws.stepSetBit ?_ (KeepsLaws.bitI rfl)
    assumption
  clear_value e5
  have h_e7 : Keeps 108003596 46077677787479622205423500819644188043460157451258471276803620270242239657776345845760 s e7 := by
    unfold e7
    with_reducible refine KeepsLaws.comp ?_ (State.setDmc_keeps ..) (KeepsLaws.subI rfl rfl)
    assumption
  clear_value e7
  have h_e8 : Keeps 108003596 46077677787479622205423500819644188043460157451258471276803620270242239657776345845760 s e8 := by
    unfold e8
    with_reducible refine KeepsLaws.ite ?_ ?_
    · with_reducible refine KeepsLaws.comp ?_ (State.event_keeps ..) (KeepsLaws.subI rfl rfl)
      assumption
    · assumption
  clear_value e8
  with_reducible refine KeepsLaws.iteO ?_ ?_
  · with_reducible refine KeepsLaws.next ?_
    with_reducible refine KeepsLaws.ite ?_ ?_
    · with_reducible refine KeepsLaws.comp ?_ (State.dmcFault_keeps ..) (KeepsLaws.subI rfl rfl)
      assumption
    · assumption
  · with_reducible refine KeepsLaws.next ?_
    exact KeepsLaws.refl ..

theorem execArbiterWindowEnd_keeps (c : Fin 32) (s : State) :
    KeepsO 33554432 56539106072908298546665520023773392506479484700019806659891398441363832832 s (execArbiterWindowEnd c s) := by
  unfold execArbiterWindowEnd
  extract_lets
  rename_i e0 e1 e2
  have h_e1 : Keeps 33554432 56539106072908298546665520023773392506479484700019806659891398441363832832 s e1 := by
    unfold e1
    with_reducible refine KeepsLaws.ite ?_ ?_
    · with_reducible refine KeepsLaws.stepAddSatBits ?_ (KeepsLaws.bitI rfl)
      exact KeepsLaws.refl ..
    · exact KeepsLaws.refl ..
  clear_value e1
  have h_e2 : Keeps 33554432 56539106072908298546665520023773392506479484700019806659891398441363832832 s e2 := by
    unfold e2
    with_reducible refine KeepsLaws.ite ?_ ?_
    · with_reducible refine KeepsLaws.stepAddSatBits ?_ (KeepsLaws.bitI rfl)
      assumption
    · assumption
  clear_value e2
  with_reducible refine KeepsLaws.iteO ?_ ?_
  · with_reducible refine KeepsLaws.next ?_
    with_reducible refine KeepsLaws.comp ?_ (State.setDmc_keeps ..) (KeepsLaws.subI rfl rfl)
    assumption
  · with_reducible refine KeepsLaws.next ?_
    exact KeepsLaws.refl ..

theorem execChkRunEnd_keeps (u : Fin 8) (ue : Option ℕ) (s : State) :
    KeepsO 74449180 46124128884106709088364167032298342696839038550466887841199996832578295020116211470400 s (execChkRunEnd u ue s) := by
  unfold execChkRunEnd
  extract_lets
  rename_i e0 e1 e2 e3
  with_reducible refine KeepsLaws.iteO ?_ ?_
  · with_reducible refine KeepsLaws.next ?_
    exact KeepsLaws.refl ..
  · with_reducible refine KeepsLaws.iteO ?_ ?_
    · with_reducible refine KeepsLaws.next ?_
      with_reducible refine KeepsLaws.comp ?_ (State.endChk_keeps ..) (KeepsLaws.subI rfl rfl)
      with_reducible refine KeepsLaws.comp ?_ (State.violate_keeps ..) (KeepsLaws.subI rfl rfl)
      exact KeepsLaws.refl ..
    · clear_value e3
      split
      · with_reducible refine KeepsLaws.next ?_
        with_reducible refine KeepsLaws.comp ?_ (State.endChk_keeps ..) (KeepsLaws.subI rfl rfl)
        with_reducible refine KeepsLaws.comp ?_ (State.dramUe_keeps ..) (KeepsLaws.subI rfl rfl)
        exact KeepsLaws.refl ..
      · split
        extract_lets
        rename_i e4
        with_reducible refine KeepsLaws.next ?_
        with_reducible refine KeepsLaws.comp ?_ (State.endChk_keeps ..) (KeepsLaws.subI rfl rfl)
        with_reducible refine KeepsLaws.ofSnd (by assumption) ?_
        with_reducible refine KeepsLaws.comp ?_ (State.chkResult_keeps ..) (KeepsLaws.subI rfl rfl)
        with_reducible refine KeepsLaws.comp ?_ (State.chkUnmapped_keeps ..) (KeepsLaws.subI rfl rfl)
        exact KeepsLaws.refl ..

theorem execDmcRetrainPeriod_keeps (r : Req) (b : Body) (s : State) :
    KeepsO 33554460 3450873173395281893717377931138512726225554486085193277581262114586624 s (execDmcRetrainPeriod r b s) := by
  unfold execDmcRetrainPeriod
  with_reducible refine KeepsLaws.command (KeepsLaws.subI rfl rfl) (fun x => ?_)
  extract_lets
  rename_i e0 e1 e2 e3
  have h_e2 : Keeps 33554460 3450873173395281893717377931138512726225554486085193277581262114586624 x e2 := by
    unfold e2
    with_reducible refine KeepsLaws.stepSetBits ?_ (KeepsLaws.bitI rfl)
    exact KeepsLaws.refl ..
  clear_value e2
  with_reducible refine KeepsLaws.doneA ?_
  with_reducible refine KeepsLaws.ite ?_ ?_
  · with_reducible refine KeepsLaws.comp ?_ (KeepsLaws.upd_mem ..) (KeepsLaws.subI rfl rfl)
    assumption
  · with_reducible refine KeepsLaws.stepSetBits ?_ (KeepsLaws.bitI rfl)
    assumption

theorem execDramPatrolRead_keeps (c : Fin 32) (ce : ℕ) (ue : List (Fin 7)) (s : State) :
    KeepsO 33554700 6404820609821643194739453440193079619874629126174118723190822479686340608 s (execDramPatrolRead c ce ue s) := by
  unfold execDramPatrolRead
  extract_lets
  rename_i e0 e1 e2 e3 e4 e5
  have h_e1 : Keeps 33554700 6404820609821643194739453440193079619874629126174118723190822479686340608 s e1 := by
    unfold e1
    with_reducible refine KeepsLaws.comp ?_ (State.dramCe_keeps ..) (KeepsLaws.subI rfl rfl)
    exact KeepsLaws.refl ..
  clear_value e1
  have h_e2 : Keeps 33554700 6404820609821643194739453440193079619874629126174118723190822479686340608 s e2 := by
    unfold e2
    with_reducible refine KeepsLaws.foldl (fun x a => ?_) ?_
    · split
      extract_lets
      rename_i e6
      with_reducible refine KeepsLaws.comp ?_ (State.dramUe_keeps ..) (KeepsLaws.subI rfl rfl)
      with_reducible refine KeepsLaws.comp ?_ (State.poisonLine_keeps ..) (KeepsLaws.subI rfl rfl)
      with_reducible refine KeepsLaws.ofSnd (by assumption) ?_
      with_reducible refine KeepsLaws.comp ?_ (KeepsLaws.drawn ..) (KeepsLaws.subI rfl rfl)
      exact KeepsLaws.refl ..
    · assumption
  clear_value e2
  have h_e5 : Keeps 33554700 6404820609821643194739453440193079619874629126174118723190822479686340608 s e5 := by
    unfold e5
    with_reducible refine KeepsLaws.comp ?_ (State.setDmc_keeps ..) (KeepsLaws.subI rfl rfl)
    assumption
  clear_value e5
  with_reducible refine KeepsLaws.iteO ?_ ?_
  · with_reducible refine KeepsLaws.next ?_
    with_reducible refine KeepsLaws.ite ?_ ?_
    · with_reducible refine KeepsLaws.stepBumpWrap ?_ (KeepsLaws.bitI rfl)
      assumption
    · assumption
  · with_reducible refine KeepsLaws.next ?_
    exact KeepsLaws.refl ..

theorem execMemUsage_keeps (r : Req) (b : Body) (s : State) :
    KeepsO 28 2686976 s (execMemUsage r b s) := by
  unfold execMemUsage
  with_reducible refine KeepsLaws.command (KeepsLaws.subI rfl rfl) (fun x => ?_)
  with_reducible refine KeepsLaws.iteA ?_ ?_
  · with_reducible refine KeepsLaws.nowA ?_
    exact KeepsLaws.refl ..
  · extract_lets
    rename_i e0 e1 e2
    with_reducible refine KeepsLaws.nowA ?_
    exact KeepsLaws.refl ..

end Sys2Proof.Machine
end

