-- ==== Sys2Proof/Laws/FramePower.lean ====
section
/-! SUPPORT. What each operation of Machine/Power.lean can change at most (Keeps): masks of fields and of registers. -/

namespace Sys2Proof.Machine

theorem State.acceptImage_keeps (s : State) (m : List Byte) :
    Keeps 262144 16 s (State.acceptImage s m) := by
  unfold State.acceptImage
  extract_lets
  rename_i e0 e1
  with_reducible refine KeepsLaws.stepSetBits ?_ (KeepsLaws.bitI rfl)
  with_reducible refine KeepsLaws.stepSetBits ?_ (KeepsLaws.bitI rfl)
  with_reducible refine KeepsLaws.comp ?_ (KeepsLaws.upd_boot ..) (KeepsLaws.subI rfl rfl)
  exact KeepsLaws.refl ..

theorem State.answerIslands_keeps (s : State) :
    Keeps 8388636 2686976 s (State.answerIslands s) := by
  unfold State.answerIslands
  extract_lets
  rename_i e0 e1
  with_reducible refine KeepsLaws.foldl (fun x a => ?_) ?_
  · with_reducible refine KeepsLaws.comp ?_ (State.replyR_keeps ..) (KeepsLaws.subI rfl rfl)
    exact KeepsLaws.refl ..
  · with_reducible refine KeepsLaws.comp ?_ (KeepsLaws.upd_pwr ..) (KeepsLaws.subI rfl rfl)
    exact KeepsLaws.refl ..

theorem State.nextIsland_keeps (s : State) :
    Keeps 8388620 66712928224954419325291596295407134774435589892559412208333599716355987567249277127506857984 s (State.nextIsland s) := by
  unfold State.nextIsland
  with_reducible refine KeepsLaws.ite ?_ ?_
  · exact KeepsLaws.refl ..
  · extract_lets
    rename_i e0 e1
    clear_value e0
    split
    · exact KeepsLaws.refl ..
    · extract_lets
      rename_i e2
      have h_e2 : Keeps 8388620 66712928224954419325291596295407134774435589892559412208333599716355987567249277127506857984 s e2 := by
        unfold e2
        with_reducible refine KeepsLaws.comp ?_ (KeepsLaws.upd_pwr ..) (KeepsLaws.subI rfl rfl)
        exact KeepsLaws.refl ..
      clear_value e2
      with_reducible refine KeepsLaws.ite ?_ ?_
      · with_reducible refine KeepsLaws.comp ?_ (State.startIsland_keeps ..) (KeepsLaws.subI rfl rfl)
        assumption
      · assumption

theorem State.pmbusAck_keeps (s : State) (ack : Bool) :
    Keeps 82837772 33101880693113186380873643308462249866086428963417398578766635961591887153261995858019815424 s (State.pmbusAck s ack) := by
  unfold State.pmbusAck
  with_reducible refine KeepsLaws.ite ?_ ?_
  · with_reducible refine KeepsLaws.comp ?_ (KeepsLaws.upd_pwr ..) (KeepsLaws.subI rfl rfl)
    exact KeepsLaws.refl ..
  · extract_lets
    rename_i e0 e1 e2
    have h_e2 : Keeps 82837772 33101880693113186380873643308462249866086428963417398578766635961591887153261995858019815424 s e2 := by
      unfold e2
      with_reducible refine KeepsLaws.stepBumpSat ?_ (KeepsLaws.bitI rfl)
      with_reducible refine KeepsLaws.comp ?_ (KeepsLaws.upd_pwr ..) (KeepsLaws.subI rfl rfl)
      exact KeepsLaws.refl ..
    clear_value e2
    with_reducible refine KeepsLaws.ite ?_ ?_
    · with_reducible refine KeepsLaws.comp ?_ (State.fault_keeps ..) (KeepsLaws.subI rfl rfl)
      with_reducible refine KeepsLaws.stepSetBit ?_ (KeepsLaws.bitI rfl)
      assumption
    · assumption

theorem State.readVout_keeps (s : State) (v : ℕ) :
    Keeps 82837772 2546341048095895086846957982321577450314403058428354819224529221276167656811945265268854784 s (State.readVout s v) := by
  unfold State.readVout
  extract_lets
  rename_i e0 e1 e2 e3
  have h_e3 : Keeps 82837772 2546341048095895086846957982321577450314403058428354819224529221276167656811945265268854784 s e3 := by
    unfold e3
    with_reducible refine KeepsLaws.stepSetBits ?_ (KeepsLaws.bitI rfl)
    with_reducible refine KeepsLaws.comp ?_ (KeepsLaws.upd_pwr ..) (KeepsLaws.subI rfl rfl)
    exact KeepsLaws.refl ..
  clear_value e3
  with_reducible refine KeepsLaws.ite ?_ ?_
  · with_reducible refine KeepsLaws.comp ?_ (State.fault_keeps ..) (KeepsLaws.subI rfl rfl)
    with_reducible refine KeepsLaws.stepSetBit ?_ (KeepsLaws.bitI rfl)
    assumption
  · assumption

theorem State.refuseStretch_keeps (s : State) (i : ℕ) :
    Keeps 82837772 260740651048492006521372448988210259363588021955585774587355331176943997401814872774014472192 s (State.refuseStretch s i) := by
  unfold State.refuseStretch
  extract_lets
  rename_i e0 e1
  have h_e0 : Keeps 82837772 260740651048492006521372448988210259363588021955585774587355331176943997401814872774014472192 s e0 := by
    unfold e0
    with_reducible refine KeepsLaws.stepBumpSat ?_ (KeepsLaws.bitI rfl)
    exact KeepsLaws.refl ..
  clear_value e0
  have h_e1 : Keeps 82837772 260740651048492006521372448988210259363588021955585774587355331176943997401814872774014472192 s e1 := by
    unfold e1
    with_reducible refine KeepsLaws.ite ?_ ?_
    · with_reducible refine KeepsLaws.comp ?_ (State.writeVout_keeps ..) (KeepsLaws.subI rfl rfl)
      assumption
    · assumption
  clear_value e1
  with_reducible refine KeepsLaws.comp ?_ (State.eventPerSec_keeps ..) (KeepsLaws.subI rfl rfl)
  with_reducible refine KeepsLaws.comp ?_ (State.fault_keeps ..) (KeepsLaws.subI rfl rfl)
  assumption

theorem State.showTemps_keeps (s : State) :
    Keeps 0 8657402899421565866640894175739857184468740673080229065203596909756120523994181001279438848 s (State.showTemps s) := by
  unfold State.showTemps
  extract_lets
  rename_i e0
  with_reducible refine KeepsLaws.stepSetBit ?_ (KeepsLaws.bitI rfl)
  with_reducible refine KeepsLaws.stepSetBits ?_ (KeepsLaws.bitI rfl)
  with_reducible refine KeepsLaws.stepSetBits ?_ (KeepsLaws.bitI rfl)
  exact KeepsLaws.refl ..

theorem State.wireLanes_keeps (s : State) (t : Body) :
    Keeps 0 7300736939182798133186109347259211329208462722898715522279927370486102578351798754961296195584 s (State.wireLanes s t) := by
  unfold State.wireLanes
  extract_lets
  rename_i e0 e1
  have h_e0 : Keeps 0 7300736939182798133186109347259211329208462722898715522279927370486102578351798754961296195584 s e0 := by
    unfold e0
    with_reducible refine KeepsLaws.foldl (fun x a => ?_) ?_
    · extract_lets
      rename_i e2
      with_reducible refine KeepsLaws.stepSetBit ?_ (KeepsLaws.bitI rfl)
      with_reducible refine KeepsLaws.stepSetBits ?_ (KeepsLaws.bitI rfl)
      with_reducible refine KeepsLaws.stepSetBits ?_ (KeepsLaws.bitI rfl)
      with_reducible refine KeepsLaws.stepSetBit ?_ (KeepsLaws.bitI rfl)
      with_reducible refine KeepsLaws.stepSetBit ?_ (KeepsLaws.bitI rfl)
      with_reducible refine KeepsLaws.stepSetBits ?_ (KeepsLaws.bitI rfl)
      with_reducible refine KeepsLaws.stepSetBits ?_ (KeepsLaws.bitI rfl)
      exact KeepsLaws.refl ..
    · exact KeepsLaws.refl ..
  clear_value e0
  have h_e1 : Keeps 0 7300736939182798133186109347259211329208462722898715522279927370486102578351798754961296195584 s e1 := by
    unfold e1
    with_reducible refine KeepsLaws.foldl (fun x a => ?_) ?_
    · with_reducible refine KeepsLaws.ite ?_ ?_
      · extract_lets
        rename_i e3
        have h_e3 : Keeps 0 7300736939182798133186109347259211329208462722898715522279927370486102578351798754961296195584 x e3 := by
          unfold e3
          with_reducible refine KeepsLaws.stepSetBit ?_ (KeepsLaws.bitI rfl)
          exact KeepsLaws.refl ..
        clear_value e3
        with_reducible refine KeepsLaws.ite ?_ ?_
        · with_reducible refine KeepsLaws.comp ?_ (State.setLaneRate_keeps ..) (KeepsLaws.subI rfl rfl)
          assumption
        · assumption
      · exact KeepsLaws.refl ..
    · assumption
  clear_value e1
  with_reducible refine KeepsLaws.stepSetBit ?_ (KeepsLaws.bitI rfl)
  with_reducible refine KeepsLaws.comp ?_ (State.setLaneRate_keeps ..) (KeepsLaws.subI rfl rfl)
  with_reducible refine KeepsLaws.comp ?_ (State.setLaneRate_keeps ..) (KeepsLaws.subI rfl rfl)
  with_reducible refine KeepsLaws.comp ?_ (State.setLaneRate_keeps ..) (KeepsLaws.subI rfl rfl)
  assumption

theorem State.takeBoard_keeps (s : State) (t : Body) :
    Keeps 25559052 7302264716165048997750814132398691758111145041571896112980630701377604449519898838753046237184 s (State.takeBoard s t) := by
  unfold State.takeBoard
  extract_lets
  rename_i e0 e1 e2 e3 e4
  have h_e3 : Keeps 25559052 7302264716165048997750814132398691758111145041571896112980630701377604449519898838753046237184 s e3 := by
    unfold e3
    with_reducible refine KeepsLaws.comp ?_ (KeepsLaws.updMk (F := 393216) ?_) (KeepsLaws.subI rfl rfl)
    · exact KeepsLaws.refl ..
    · (intro f hf; cases f <;> first | exact absurd hf (by decide) | rfl)
  clear_value e3
  have h_e4 : Keeps 25559052 7302264716165048997750814132398691758111145041571896112980630701377604449519898838753046237184 s e4 := by
    unfold e4
    with_reducible refine KeepsLaws.stepSetBits ?_ (KeepsLaws.bitI rfl)
    with_reducible refine KeepsLaws.stepSetBit ?_ (KeepsLaws.bitI rfl)
    with_reducible refine KeepsLaws.stepSetBit ?_ (KeepsLaws.bitI rfl)
    assumption
  clear_value e4
  with_reducible refine KeepsLaws.comp ?_ (State.takeHostLanes_keeps ..) (KeepsLaws.subI rfl rfl)
  with_reducible refine KeepsLaws.comp ?_ (State.avs_keeps ..) (KeepsLaws.subI rfl rfl)
  with_reducible refine KeepsLaws.stepSetBit ?_ (KeepsLaws.bitI rfl)
  with_reducible refine KeepsLaws.comp ?_ (State.wireLanes_keeps ..) (KeepsLaws.subI rfl rfl)
  assumption

theorem State.warnTherm_keeps (s : State) (i : ℕ) (c : ℤ) :
    Keeps 8388620 593920 s (State.warnTherm s i c) := by
  unfold State.warnTherm
  extract_lets
  rename_i e0 e1
  with_reducible refine KeepsLaws.ite ?_ ?_
  · with_reducible refine KeepsLaws.comp ?_ (State.event_keeps ..) (KeepsLaws.subI rfl rfl)
    with_reducible refine KeepsLaws.comp ?_ (KeepsLaws.upd_pwr ..) (KeepsLaws.subI rfl rfl)
    exact KeepsLaws.refl ..
  · exact KeepsLaws.refl ..

theorem execDevBoardTable_keeps (r : Req) (b : Body) (image : List Byte) (linear : Bool) (s : State) :
    KeepsO 25559068 7302264716165048997750814132398691758111145041571896112980630701377604449519898838753048334336 s (execDevBoardTable r b image linear s) := by
  unfold execDevBoardTable
  extract_lets
  rename_i e0
  with_reducible refine KeepsLaws.command (KeepsLaws.subI rfl rfl) (fun x => ?_)
  extract_lets
  rename_i e1
  have h_e1 : Keeps 25559068 7302264716165048997750814132398691758111145041571896112980630701377604449519898838753048334336 x e1 := by
    unfold e1
    with_reducible refine KeepsLaws.comp ?_ (State.pmbus_keeps ..) (KeepsLaws.subI rfl rfl)
    exact KeepsLaws.refl ..
  clear_value e1
  with_reducible refine KeepsLaws.iteA ?_ ?_
  · with_reducible refine KeepsLaws.doneA ?_
    with_reducible refine KeepsLaws.comp ?_ (State.takeBoard_keeps ..) (KeepsLaws.subI rfl rfl)
    assumption
  · with_reducible refine KeepsLaws.refuseA ?_
    assumption

theorem execPwrIsland_keeps (r : Req) (b : Body) (s : State) :
    KeepsO 8388636 66712928224954419325291596295407134774435589892559412208333599716355987567249277127508955136 s (execPwrIsland r b s) := by
  unfold execPwrIsland
  extract_lets
  rename_i e0 e1 e2 e3
  with_reducible refine KeepsLaws.command (KeepsLaws.subI rfl rfl) (fun x => ?_)
  extract_lets
  rename_i e4 e5 e6
  have h_e6 : Keeps 8388636 66712928224954419325291596295407134774435589892559412208333599716355987567249277127508955136 x e6 := by
    unfold e6
    with_reducible refine KeepsLaws.comp ?_ (KeepsLaws.upd_pwr ..) (KeepsLaws.subI rfl rfl)
    exact KeepsLaws.refl ..
  clear_value e6
  with_reducible refine KeepsLaws.laterA ?_
  with_reducible refine KeepsLaws.comp ?_ (State.answerIslands_keeps ..) (KeepsLaws.subI rfl rfl)
  with_reducible refine KeepsLaws.comp ?_ (State.nextIsland_keeps ..) (KeepsLaws.subI rfl rfl)
  assumption

theorem execRailExcursion_keeps (s : State) :
    KeepsO 74449164 46077677787479011400871809854749000067566345934505929353659583191032107774382539608064 s (execRailExcursion s) := by
  unfold execRailExcursion
  with_reducible refine KeepsLaws.next ?_
  with_reducible refine KeepsLaws.comp ?_ (State.fault_keeps ..) (KeepsLaws.subI rfl rfl)
  exact KeepsLaws.refl ..

theorem execTrstAssert_keeps (s : State) :
    KeepsO 2097152 0 s (execTrstAssert s) := by
  unfold execTrstAssert
  with_reducible refine KeepsLaws.next ?_
  with_reducible refine KeepsLaws.comp ?_ (KeepsLaws.upd_flt ..) (KeepsLaws.subI rfl rfl)
  exact KeepsLaws.refl ..

theorem execAvsMeasure_keeps (i : Fin 41) (vminUv : ℕ) (failing : Bool) (s : State) :
    KeepsO 82837772 66712974302632206804302997167216989523435657458905346714262953375939178599357051510045872128 s (execAvsMeasure i vminUv failing s) := by
  unfold execAvsMeasure
  with_reducible refine KeepsLaws.iteO ?_ ?_
  · with_reducible refine KeepsLaws.next ?_
    exact KeepsLaws.refl ..
  · extract_lets
    rename_i e0 e1
    have h_e1 : Keeps 82837772 66712974302632206804302997167216989523435657458905346714262953375939178599357051510045872128 s e1 := by
      unfold e1
      with_reducible refine KeepsLaws.comp ?_ (State.avs_keeps ..) (KeepsLaws.subI rfl rfl)
      with_reducible refine KeepsLaws.stepSetBits ?_ (KeepsLaws.bitI rfl)
      exact KeepsLaws.refl ..
    clear_value e1
    with_reducible refine KeepsLaws.next ?_
    with_reducible refine KeepsLaws.ite ?_ ?_
    · with_reducible refine KeepsLaws.comp ?_ (State.fault_keeps ..) (KeepsLaws.subI rfl rfl)
      with_reducible refine KeepsLaws.stepSetBit ?_ (KeepsLaws.bitI rfl)
      assumption
    · assumption

theorem execPwrThermWarn_keeps (r : Req) (b : Body) (s : State) :
    KeepsO 28 24953690710097454556788459683014882472880487822407719070292720504591170922100874650749304832 s (execPwrThermWarn r b s) := by
  unfold execPwrThermWarn
  with_reducible refine KeepsLaws.command (KeepsLaws.subI rfl rfl) (fun x => ?_)
  with_reducible refine KeepsLaws.doneA ?_
  with_reducible refine KeepsLaws.comp ?_ (State.showTemps_keeps ..) (KeepsLaws.subI rfl rfl)
  with_reducible refine KeepsLaws.stepSetBits ?_ (KeepsLaws.bitI rfl)
  exact KeepsLaws.refl ..

theorem execPmbusPoll_keeps (ackV : Bool) (ackI : Bool) (ackS : Bool) (vout : ℕ) (iout : ℕ) (status : ℕ) (alert : Bool) (s : State) :
    KeepsO 82837772 40231506610283887682813203217895073429766568341248175455993127534332221702433674329661706240 s (execPmbusPoll ackV ackI ackS vout iout status alert s) := by
  unfold execPmbusPoll
  with_reducible refine KeepsLaws.iteO ?_ ?_
  · with_reducible refine KeepsLaws.next ?_
    exact KeepsLaws.refl ..
  · extract_lets
    rename_i e0 e1 e2 e3 e4 e5 e6 e7 e8 e9 e10
    have h_e1 : Keeps 82837772 40231506610283887682813203217895073429766568341248175455993127534332221702433674329661706240 s e1 := by
      unfold e1
      with_reducible refine KeepsLaws.comp ?_ (State.pmbusAck_keeps ..) (KeepsLaws.subI rfl rfl)
      with_reducible refine KeepsLaws.comp ?_ (State.pmbus_keeps ..) (KeepsLaws.subI rfl rfl)
      exact KeepsLaws.refl ..
    clear_value e1
    have h_e2 : Keeps 82837772 40231506610283887682813203217895073429766568341248175455993127534332221702433674329661706240 s e2 := by
      unfold e2
      with_reducible refine KeepsLaws.ite ?_ ?_
      · with_reducible refine KeepsLaws.comp ?_ (State.readVout_keeps ..) (KeepsLaws.subI rfl rfl)
        assumption
      · assumption
    clear_value e2
    have h_e3 : Keeps 82837772 40231506610283887682813203217895073429766568341248175455993127534332221702433674329661706240 s e3 := by
      unfold e3
      with_reducible refine KeepsLaws.comp ?_ (State.pmbusAck_keeps ..) (KeepsLaws.subI rfl rfl)
      with_reducible refine KeepsLaws.comp ?_ (State.pmbus_keeps ..) (KeepsLaws.subI rfl rfl)
      assumption
    clear_value e3
    have h_e4 : Keeps 82837772 40231506610283887682813203217895073429766568341248175455993127534332221702433674329661706240 s e4 := by
      unfold e4
      with_reducible refine KeepsLaws.ite ?_ ?_
      · with_reducible refine KeepsLaws.stepSetBits ?_ (KeepsLaws.bitI rfl)
        assumption
      · assumption
    clear_value e4
    have h_e5 : Keeps 82837772 40231506610283887682813203217895073429766568341248175455993127534332221702433674329661706240 s e5 := by
      unfold e5
      with_reducible refine KeepsLaws.comp ?_ (State.pmbusAck_keeps ..) (KeepsLaws.subI rfl rfl)
      with_reducible refine KeepsLaws.comp ?_ (State.pmbus_keeps ..) (KeepsLaws.subI rfl rfl)
      assumption
    clear_value e5
    have h_e7 : Keeps 82837772 40231506610283887682813203217895073429766568341248175455993127534332221702433674329661706240 s e7 := by
      unfold e7
      with_reducible refine KeepsLaws.ite ?_ ?_
      · with_reducible refine KeepsLaws.comp ?_ (KeepsLaws.upd_pwr ..) (KeepsLaws.subI rfl rfl)
        assumption
      · assumption
    clear_value e7
    have h_e8 : Keeps 82837772 40231506610283887682813203217895073429766568341248175455993127534332221702433674329661706240 s e8 := by
      unfold e8
      with_reducible refine KeepsLaws.ite ?_ ?_
      · with_reducible refine KeepsLaws.comp ?_ (State.fault_keeps ..) (KeepsLaws.subI rfl rfl)
        with_reducible refine KeepsLaws.stepSetBit ?_ (KeepsLaws.bitI rfl)
        with_reducible refine KeepsLaws.stepBumpSat ?_ (KeepsLaws.bitI rfl)
        assumption
      · assumption
    clear_value e8
    have h_e10 : Keeps 82837772 40231506610283887682813203217895073429766568341248175455993127534332221702433674329661706240 s e10 := by
      unfold e10
      with_reducible refine KeepsLaws.ite ?_ ?_
      · assumption
      · with_reducible refine KeepsLaws.comp ?_ (State.eventPerSec_keeps ..) (KeepsLaws.subI rfl rfl)
        assumption
    clear_value e10
    with_reducible refine KeepsLaws.next ?_
    with_reducible refine KeepsLaws.comp ?_ (State.avs_keeps ..) (KeepsLaws.subI rfl rfl)
    assumption

theorem execDevInfo_keeps (r : Req) (b : Body) (s : State) :
    KeepsO 28 2686976 s (execDevInfo r b s) := by
  unfold execDevInfo
  with_reducible refine KeepsLaws.command (KeepsLaws.subI rfl rfl) (fun x => ?_)
  with_reducible refine KeepsLaws.nowA ?_
  exact KeepsLaws.refl ..

theorem execThermalSensorRead_keeps (i : Fin 41) (c : ℤ) (s : State) :
    KeepsO 82837772 530138658918727791430374391280350521162644717017905843733984905604060924295516152166768775168 s (execThermalSensorRead i c s) := by
  unfold execThermalSensorRead
  extract_lets
  rename_i e0 e1 e2 e3 e4
  have h_e2 : Keeps 82837772 530138658918727791430374391280350521162644717017905843733984905604060924295516152166768775168 s e2 := by
    unfold e2
    with_reducible refine KeepsLaws.comp ?_ (State.showTemps_keeps ..) (KeepsLaws.subI rfl rfl)
    with_reducible refine KeepsLaws.stepSetBits ?_ (KeepsLaws.bitI rfl)
    exact KeepsLaws.refl ..
  clear_value e2
  have h_e4 : Keeps 82837772 530138658918727791430374391280350521162644717017905843733984905604060924295516152166768775168 s e4 := by
    unfold e4
    with_reducible refine KeepsLaws.comp ?_ (State.warnTherm_keeps ..) (KeepsLaws.subI rfl rfl)
    with_reducible refine KeepsLaws.comp ?_ (KeepsLaws.upd_pwr ..) (KeepsLaws.subI rfl rfl)
    assumption
  clear_value e4
  with_reducible refine KeepsLaws.next ?_
  with_reducible refine KeepsLaws.ite ?_ ?_
  · with_reducible refine KeepsLaws.comp ?_ (State.fault_keeps ..) (KeepsLaws.subI rfl rfl)
    assumption
  · assumption

theorem execDroopStretch_keeps (i : Fin 41) (steps : ℕ) (s : State) :
    KeepsO 82837772 391110953533899116042552973046410461670881999150205694628068319935624400586668421969751904256 s (execDroopStretch i steps s) := by
  unfold execDroopStretch
  with_reducible refine KeepsLaws.iteO ?_ ?_
  · with_reducible refine KeepsLaws.next ?_
    exact KeepsLaws.refl ..
  · extract_lets
    rename_i e0 e1 e2
    with_reducible refine KeepsLaws.iteO ?_ ?_
    · with_reducible refine KeepsLaws.next ?_
      with_reducible refine KeepsLaws.comp ?_ (State.refuseStretch_keeps ..) (KeepsLaws.subI rfl rfl)
      exact KeepsLaws.refl ..
    · with_reducible refine KeepsLaws.next ?_
      with_reducible refine KeepsLaws.stepBumpWrap ?_ (KeepsLaws.bitI rfl)
      with_reducible refine KeepsLaws.comp ?_ (KeepsLaws.upd_pwr ..) (KeepsLaws.subI rfl rfl)
      exact KeepsLaws.refl ..

theorem execPorstRelease_keeps (pairId : Bool) (bootsel : Bool) (s : State) :
    KeepsO 8651276 66712959307656694936956731006797643950738096171068837042565939745354543389717840410842828816 s (execPorstRelease pairId bootsel s) := by
  unfold execPorstRelease
  with_reducible refine KeepsLaws.iteO ?_ ?_
  · with_reducible refine KeepsLaws.next ?_
    exact KeepsLaws.refl ..
  · extract_lets
    rename_i e0 e1 e2 e3 e4
    have h_e3 : Keeps 8651276 66712959307656694936956731006797643950738096171068837042565939745354543389717840410842828816 s e3 := by
      unfold e3
      with_reducible refine KeepsLaws.comp ?_ (KeepsLaws.updMk (F := 8651264) ?_) (KeepsLaws.subI rfl rfl)
      · exact KeepsLaws.refl ..
      · (intro f hf; cases f <;> first | exact absurd hf (by decide) | rfl)
    clear_value e3
    have h_e4 : Keeps 8651276 66712959307656694936956731006797643950738096171068837042565939745354543389717840410842828816 s e4 := by
      unfold e4
      with_reducible refine KeepsLaws.stepSetBit ?_ (KeepsLaws.bitI rfl)
      with_reducible refine KeepsLaws.stepSetBit ?_ (KeepsLaws.bitI rfl)
      with_reducible refine KeepsLaws.stepSetBit ?_ (KeepsLaws.bitI rfl)
      assumption
    clear_value e4
    with_reducible refine KeepsLaws.next ?_
    with_reducible refine KeepsLaws.foldl (fun x a => ?_) ?_
    · with_reducible refine KeepsLaws.comp ?_ (State.startIsland_keeps ..) (KeepsLaws.subI rfl rfl)
      exact KeepsLaws.refl ..
    · assumption

theorem execPorstAssert_keeps (s : State) :
    KeepsO 1073741823 68351585149469122636640694597425667667286544715412888638305331450311031224980497600734786781970431 s (execPorstAssert s) := by
  refine KeepsLaws.next ⟨?_, ?_, fun _ => rfl, List.suffix_refl _, le_refl _⟩
  · intro f hf; cases f <;> first | exact absurd hf (by decide)
  · intro r i hr; rw [KeepsLaws.allBit] at hr; cases hr

theorem execBootLoad_keeps (r : Req) (b : Body) (image : List Byte) (s : State) :
    KeepsO 262172 2686992 s (execBootLoad r b image s) := by
  unfold execBootLoad
  extract_lets
  rename_i e0 e1 e2
  with_reducible refine KeepsLaws.iteO ?_ ?_
  · with_reducible refine KeepsLaws.next ?_
    exact KeepsLaws.refl ..
  · with_reducible refine KeepsLaws.command (KeepsLaws.subI rfl rfl) (fun x => ?_)
    with_reducible refine KeepsLaws.iteA ?_ ?_
    · with_reducible refine KeepsLaws.nowA ?_
      with_reducible refine KeepsLaws.comp ?_ (State.acceptImage_keeps ..) (KeepsLaws.subI rfl rfl)
      exact KeepsLaws.refl ..
    · with_reducible refine KeepsLaws.refuseA ?_
      with_reducible refine KeepsLaws.stepSetBits ?_ (KeepsLaws.bitI rfl)
      exact KeepsLaws.refl ..

end Sys2Proof.Machine
end

