-- ==== Sys2Proof/Laws/FrameCrossing.lean ====
section
/-! SUPPORT. What each operation of Machine/Crossing.lean can change at most (Keeps): masks of fields and of registers. -/

namespace Sys2Proof.Machine

theorem State.queueDram_keeps (s : State) (c : ℕ) (q : DramReq) :
    Keeps 33554432 0 s (State.queueDram s c q) := by
  unfold State.queueDram
  with_reducible refine KeepsLaws.comp ?_ (State.setDmc_keeps ..) (KeepsLaws.subI rfl rfl)
  exact KeepsLaws.refl ..

theorem State.admit_keeps (s : State) (l : List XReq) :
    Keeps 33554432 0 s (State.enqueueWaiting s l).1 := by
  induction l generalizing s with
  | nil => exact KeepsLaws.refl ..
  | cons q t ih =>
    cases q with
    | dram q =>
      unfold State.enqueueWaiting
      dsimp only
      split
      · exact KeepsLaws.trans (KeepsLaws.comp (KeepsLaws.refl ..) (State.queueDram_keeps ..) (KeepsLaws.subI rfl rfl)) (ih ..)
      · exact KeepsLaws.refl ..
    | access => exact KeepsLaws.refl ..
    | word => exact KeepsLaws.refl ..

theorem State.bar0Read_keeps (s : State) (p : Port) (off : ℕ) :
    Keeps 268435456 12874621637431565473079352479185122889046062810420647730310980270642251560526842505858687740412096 s (State.bar0Read s p off) := by
  unfold State.bar0Read
  with_reducible refine KeepsLaws.ite ?_ ?_
  · with_reducible refine KeepsLaws.comp ?_ (KeepsLaws.emit ..) (KeepsLaws.subI rfl rfl)
    exact KeepsLaws.refl ..
  · split
    · with_reducible refine KeepsLaws.comp ?_ (KeepsLaws.emit ..) (KeepsLaws.subI rfl rfl)
      exact KeepsLaws.refl ..
    · split
      with_reducible refine KeepsLaws.comp ?_ (KeepsLaws.emit ..) (KeepsLaws.subI rfl rfl)
      with_reducible refine KeepsLaws.ofSnd (by assumption) ?_
      with_reducible refine KeepsLaws.comp ?_ (State.readWord_keeps ..) (KeepsLaws.subI rfl rfl)
      exact KeepsLaws.refl ..

theorem State.enterXing_keeps (s : State) (src : ℕ) (dst : ℕ) (q : XReq) :
    Keeps 536870912 0 s (State.enterXing s src dst q) := by
  unfold State.enterXing
  with_reducible refine KeepsLaws.comp ?_ (KeepsLaws.upd_xing ..) (KeepsLaws.subI rfl rfl)
  exact KeepsLaws.refl ..

theorem State.xingError_keeps (s : State) (k : BusMaster) (m : ℕ) (inst : ℕ) (serves : ℕ) (addr : ℕ) (ones : ℕ) :
    Keeps 74449164 46077677787479011400871809854749000067566345934505929353659583191032107774382539608064 s (State.xingError s k m inst serves addr ones) := by
  unfold State.xingError
  extract_lets
  rename_i e0
  have h_e0 : Keeps 74449164 46077677787479011400871809854749000067566345934505929353659583191032107774382539608064 s e0 := by
    unfold e0
    with_reducible refine KeepsLaws.comp ?_ (KeepsLaws.emit ..) (KeepsLaws.subI rfl rfl)
    exact KeepsLaws.refl ..
  clear_value e0
  with_reducible refine KeepsLaws.ite ?_ ?_
  · assumption
  · with_reducible refine KeepsLaws.comp ?_ (State.fault_keeps ..) (KeepsLaws.subI rfl rfl)
    assumption

theorem State.wordRead_keeps (s : State) (k : BusMaster) (a : ℕ) :
    Keeps 268435456 12874621637431565473079352479185122889046062810420647730310980270642251560526842505858687740412096 s (State.wordRead s k a) := by
  unfold State.wordRead
  split
  with_reducible refine KeepsLaws.comp ?_ (KeepsLaws.emit ..) (KeepsLaws.subI rfl rfl)
  with_reducible refine KeepsLaws.ofSnd (by assumption) ?_
  with_reducible refine KeepsLaws.comp ?_ (State.readWord_keeps ..) (KeepsLaws.subI rfl rfl)
  exact KeepsLaws.refl ..

theorem State.crossRead_keeps (s : State) (k : BusMaster) (m : ℕ) (a : ℕ) :
    Keeps 879755532 12874621637475700481974605761515075236993988291581571669406434060474659331308135709347865070997696 s (State.crossRead s k m a) := by
  unfold State.crossRead
  split
  · with_reducible refine KeepsLaws.comp ?_ (State.xingError_keeps ..) (KeepsLaws.subI rfl rfl)
    exact KeepsLaws.refl ..
  · with_reducible refine KeepsLaws.comp ?_ (State.enterXing_keeps ..) (KeepsLaws.subI rfl rfl)
    exact KeepsLaws.refl ..
  · with_reducible refine KeepsLaws.comp ?_ (State.wordRead_keeps ..) (KeepsLaws.subI rfl rfl)
    exact KeepsLaws.refl ..

theorem State.busRead_keeps (s : State) (m : BusMaster) (a : ℕ) :
    Keeps 879755532 12874621637475700481974605761515075236993988291581571669406434060474659331308135709347865070997696 s (State.busRead s m a) := by
  unfold State.busRead
  split
  · with_reducible refine KeepsLaws.comp ?_ (State.hostRead_keeps ..) (KeepsLaws.subI rfl rfl)
    exact KeepsLaws.refl ..
  · with_reducible refine KeepsLaws.comp ?_ (State.bar0Read_keeps ..) (KeepsLaws.subI rfl rfl)
    exact KeepsLaws.refl ..
  · with_reducible refine KeepsLaws.comp ?_ (State.crossRead_keeps ..) (KeepsLaws.subI rfl rfl)
    exact KeepsLaws.refl ..
  · with_reducible refine KeepsLaws.comp ?_ (State.crossRead_keeps ..) (KeepsLaws.subI rfl rfl)
    exact KeepsLaws.refl ..

theorem State.drainXing_keeps (s : State) (i : ℕ) :
    Keeps 570425344 0 s (State.drainXing s i) := by
  unfold State.drainXing
  with_reducible refine KeepsLaws.foldl (fun x a => ?_) ?_
  · extract_lets
    rename_i e0 e1
    have h_e0 : Keeps 570425344 0 x e0.1 := by
      unfold e0
      with_reducible refine KeepsLaws.comp ?_ (State.admit_keeps ..) (KeepsLaws.subI rfl rfl)
      exact KeepsLaws.refl ..
    clear_value e0
    have h_e1 : Keeps 570425344 0 x e1 := by
      unfold e1
      assumption
    clear_value e1
    with_reducible refine KeepsLaws.comp ?_ (KeepsLaws.upd_xing ..) (KeepsLaws.subI rfl rfl)
    assumption
  · exact KeepsLaws.refl ..

theorem State.runDram_keeps (s : State) (q : DramReq) :
    Keeps 108052748 46077677787485195365598534199902541608818946149311325547298647857385533396087063777280 s (State.runDram s q) := by
  unfold State.runDram
  with_reducible refine KeepsLaws.ite ?_ ?_
  · exact KeepsLaws.refl ..
  · with_reducible refine KeepsLaws.ite ?_ ?_
    · with_reducible refine KeepsLaws.comp ?_ (State.writePart_keeps ..) (KeepsLaws.subI rfl rfl)
      exact KeepsLaws.refl ..
    · with_reducible refine KeepsLaws.comp ?_ (State.readPart_keeps ..) (KeepsLaws.subI rfl rfl)
      exact KeepsLaws.refl ..

theorem State.offerDram_keeps (s : State) (q : DramReq) :
    Keeps 644923660 46077677787598273577744350796995872648866492934324284516698687470705316192969791442944 s (State.offerDram s q) := by
  unfold State.offerDram
  extract_lets
  rename_i e0 e1 e2 e3
  have h_e3 : Keeps 644923660 46077677787598273577744350796995872648866492934324284516698687470705316192969791442944 s e3 := by
    unfold e3
    with_reducible refine KeepsLaws.comp ?_ (State.noteStall_keeps ..) (KeepsLaws.subI rfl rfl)
    exact KeepsLaws.refl ..
  clear_value e3
  with_reducible refine KeepsLaws.ite ?_ ?_
  · with_reducible refine KeepsLaws.comp ?_ (State.enterXing_keeps ..) (KeepsLaws.subI rfl rfl)
    assumption
  · with_reducible refine KeepsLaws.ite ?_ ?_
    · with_reducible refine KeepsLaws.comp ?_ (State.runDram_keeps ..) (KeepsLaws.subI rfl rfl)
      assumption
    · with_reducible refine KeepsLaws.ite ?_ ?_
      · with_reducible refine KeepsLaws.comp ?_ (State.queueDram_keeps ..) (KeepsLaws.subI rfl rfl)
        assumption
      · with_reducible refine KeepsLaws.comp ?_ (State.enterXing_keeps ..) (KeepsLaws.subI rfl rfl)
        assumption

theorem State.dramPart_keeps (s : State) (a : MemAccess) (first : Bool) (addr : ℕ) (len : ℕ) (data : List Byte) :
    Keeps 644923660 46078033500896410613096692007061819338119418179717177364511416684403388502104045326336 s (State.dramPart s a first addr len data) := by
  unfold State.dramPart
  extract_lets
  rename_i e0
  have h_e0 : Keeps 644923660 46078033500896410613096692007061819338119418179717177364511416684403388502104045326336 s e0 := by
    unfold e0
    with_reducible refine KeepsLaws.ite ?_ ?_
    · with_reducible refine KeepsLaws.comp ?_ (State.dirtyChecks_keeps ..) (KeepsLaws.subI rfl rfl)
      with_reducible refine KeepsLaws.comp ?_ (State.foreignWrite_keeps ..) (KeepsLaws.subI rfl rfl)
      exact KeepsLaws.refl ..
    · exact KeepsLaws.refl ..
  clear_value e0
  with_reducible refine KeepsLaws.foldl (fun x a => ?_) ?_
  · with_reducible refine KeepsLaws.comp ?_ (State.offerDram_keeps ..) (KeepsLaws.subI rfl rfl)
    exact KeepsLaws.refl ..
  · assumption

theorem State.writeCny_keeps (s : State) (r : Reg) (i : ℕ) (v : Word) :
    Keeps 1048576 (91343852333181432387730302044767688728495783936 ||| 2 ^ r.ctorIdx) s (State.writeCny s r i v) := by
  have h : Keeps 1048576 (91343852333181432387730302044767688728495783936 ||| 2 ^ r.ctorIdx) s (s.setReg r i (v &&& cnyMask r)) :=
    KeepsLaws.stepReg (KeepsLaws.refl ..) (by simp [Nat.testBit_or])
  unfold State.writeCny
  dsimp only
  refine KeepsLaws.ite h (KeepsLaws.ite ?_ (KeepsLaws.refl ..))
  exact KeepsLaws.comp h (State.modHead_keeps ..) (KeepsLaws.subI rfl (by rw [← Nat.or_assoc, Nat.or_self]))

theorem State.writeRegWord_keeps (s : State) (m addr : ℕ) (v : Word) :
    Keeps 1048620 28803282197782403611613282520911391110057908229875253495721208325098074356579584 s (State.writeRegWord s m addr v) := by
  unfold State.writeRegWord
  split
  · exact KeepsLaws.refl ..
  · rename_i r i _
    have key := List.all_eq_true.mp (show Reg.all.all (fun q => Nat.testBit 28803282197782403611613282520911391110057908229875253495721208325098074356579584 q.ctorIdx ||
      !(q.info.acc == .WL && (q.info.block == .CNY || q.info.block == .MPU))) = true by decide +kernel) r (List.contains_iff_mem.mp r.mem_all)
    have wl : ∀ {b : Block}, (b = .CNY ∨ b = .MPU) → r.info.block = b → (r.info.acc == .WL) = true → Nat.testBit 28803282197782403611613282520911391110057908229875253495721208325098074356579584 r.ctorIdx = true := by
      intro b hb e w
      rcases hb with rfl | rfl <;> simpa [e, w] using key
    dsimp only
    split
    · rename_i hb
      refine KeepsLaws.ite ?_ ?_
      · exact KeepsLaws.comp (KeepsLaws.stepBumpSat (KeepsLaws.refl ..) (KeepsLaws.bitI rfl)) (State.event_keeps ..) (KeepsLaws.subI rfl rfl)
      · split
        · rename_i hw
          exact KeepsLaws.comp (KeepsLaws.refl ..) (State.writeCny_keeps ..) (KeepsLaws.subI rfl
            (Eq.trans (by rw [Nat.or_assoc, KeepsLaws.orBit (wl (.inl rfl) hb hw)]) (rfl : 91343852333181432387730302044767688728495783936 ||| 28803282197782403611613282520911391110057908229875253495721208325098074356579584 = 28803282197782403611613282520911391110057908229875253495721208325098074356579584)))
        · exact KeepsLaws.refl ..
    · split
      · rename_i hb
        split
        · exact KeepsLaws.refl ..
        · rename_i hw
          refine KeepsLaws.ite (KeepsLaws.stepBumpSat (KeepsLaws.refl ..) (KeepsLaws.bitI rfl)) ?_
          exact KeepsLaws.stepSetBits (KeepsLaws.stepReg (KeepsLaws.refl ..) (wl (.inr rfl) hb (by simpa using hw))) (KeepsLaws.bitI rfl)
      · split
        · rename_i h; rw [h]; exact KeepsLaws.stepReg (KeepsLaws.refl ..) (KeepsLaws.bitI rfl)
        · refine KeepsLaws.getD ?_ (KeepsLaws.refl ..)
          exact KeepsLaws.monoM (State.portWrite_keeps _ _ _ _) (KeepsLaws.subI rfl rfl)

theorem State.regNow_keeps (s : State) (a : MemAccess) (k : BusMaster) (addr : ℕ) (len : ℕ) (data : List Byte) :
    Keeps 269484076 12874621637431565501824738632348868402947559838827512198737587145319909313624232503574249028451776 s (State.regNow s a k addr len data) := by
  unfold State.regNow
  with_reducible refine KeepsLaws.ite ?_ ?_
  · with_reducible refine KeepsLaws.foldl (fun x a => ?_) ?_
    · with_reducible refine KeepsLaws.comp ?_ (State.writeRegWord_keeps ..) (KeepsLaws.subI rfl rfl)
      exact KeepsLaws.refl ..
    · exact KeepsLaws.refl ..
  · with_reducible refine KeepsLaws.foldl (fun x a => ?_) ?_
    · with_reducible refine KeepsLaws.comp ?_ (State.wordRead_keeps ..) (KeepsLaws.subI rfl rfl)
      exact KeepsLaws.refl ..
    · exact KeepsLaws.refl ..

theorem State.regPart_keeps (s : State) (a : MemAccess) (k : BusMaster) (addr : ℕ) (len : ℕ) (data : List Byte) :
    Keeps 879755564 12874621637475700510719991914678820750895485319988344793980707753719929354103480939374697863183808 s (State.regPart s a k addr len data) := by
  unfold State.regPart
  extract_lets
  rename_i e0 e1
  split
  · with_reducible refine KeepsLaws.comp ?_ (State.xingError_keeps ..) (KeepsLaws.subI rfl rfl)
    exact KeepsLaws.refl ..
  · with_reducible refine KeepsLaws.comp ?_ (State.enterXing_keeps ..) (KeepsLaws.subI rfl rfl)
    exact KeepsLaws.refl ..
  · with_reducible refine KeepsLaws.comp ?_ (State.regNow_keeps ..) (KeepsLaws.subI rfl rfl)
    exact KeepsLaws.refl ..

theorem State.onePart_keeps (s : State) (a : MemAccess) (first : Bool) (addr : ℕ) (len : ℕ) :
    Keeps 913359164 12874621637475700896886613054822462045273379490557518970473138268599004176932439848977387797609920 s (State.onePart s a first addr len) := by
  unfold State.onePart
  extract_lets
  rename_i e0 e1 e2 e3 e4
  have h_e3 : Keeps 913359164 12874621637475700896886613054822462045273379490557518970473138268599004176932439848977387797609920 s e3 := by
    unfold e3
    with_reducible refine KeepsLaws.comp ?_ (State.violate_keeps ..) (KeepsLaws.subI rfl rfl)
    exact KeepsLaws.refl ..
  clear_value e3
  have h_e4 : Keeps 913359164 12874621637475700896886613054822462045273379490557518970473138268599004176932439848977387797609920 s e4 := by
    unfold e4
    with_reducible refine KeepsLaws.stepBumpSat ?_ (KeepsLaws.bitI rfl)
    exact KeepsLaws.refl ..
  clear_value e4
  with_reducible refine KeepsLaws.ite ?_ ?_
  · exact KeepsLaws.refl ..
  · with_reducible refine KeepsLaws.ite ?_ ?_
    · with_reducible refine KeepsLaws.ite ?_ ?_
      · assumption
      · with_reducible refine KeepsLaws.comp ?_ (State.denyEffect_keeps ..) (KeepsLaws.subI rfl rfl)
        with_reducible refine KeepsLaws.comp ?_ (State.answerRead_keeps ..) (KeepsLaws.subI rfl rfl)
        assumption
    · with_reducible refine KeepsLaws.ite ?_ ?_
      · with_reducible refine KeepsLaws.ite ?_ ?_
        · assumption
        · with_reducible refine KeepsLaws.comp ?_ (State.answerRead_keeps ..) (KeepsLaws.subI rfl rfl)
          assumption
      · with_reducible refine KeepsLaws.ite ?_ ?_
        · split
          · with_reducible refine KeepsLaws.comp ?_ (State.regPart_keeps ..) (KeepsLaws.subI rfl rfl)
            exact KeepsLaws.refl ..
          · exact KeepsLaws.refl ..
        · with_reducible refine KeepsLaws.ite ?_ ?_
          · exact KeepsLaws.refl ..
          · with_reducible refine KeepsLaws.comp ?_ (State.dramPart_keeps ..) (KeepsLaws.subI rfl rfl)
            exact KeepsLaws.refl ..

theorem State.runXReq_keeps (s : State) (x1 : XReq) :
    Keeps 913359148 12874621637475700510719995448372950307664144486583346279817739408687723105341397182587100448423360 s (State.runXReq s x1) := by
  unfold State.runXReq
  split
  · with_reducible refine KeepsLaws.comp ?_ (State.regNow_keeps ..) (KeepsLaws.subI rfl rfl)
    exact KeepsLaws.refl ..
  · with_reducible refine KeepsLaws.comp ?_ (State.wordRead_keeps ..) (KeepsLaws.subI rfl rfl)
    exact KeepsLaws.refl ..
  · with_reducible refine KeepsLaws.comp ?_ (State.offerDram_keeps ..) (KeepsLaws.subI rfl rfl)
    exact KeepsLaws.refl ..

theorem State.serveDmc_keeps (s : State) (c n : ℕ) :
    Keeps 644923660 46077677787485195365598534199902541608818946149311325547298647857385533396087063777280 s (State.serveDmc s c n) := by
  induction n generalizing s with
  | zero => exact KeepsLaws.refl ..
  | succ n ih =>
    unfold State.serveDmc
    refine KeepsLaws.ite (KeepsLaws.refl ..) ?_
    split
    · exact KeepsLaws.refl ..
    · exact KeepsLaws.trans (KeepsLaws.comp (KeepsLaws.comp (KeepsLaws.comp (KeepsLaws.refl ..) (State.setDmc_keeps ..) (KeepsLaws.subI rfl rfl))
        (State.runDram_keeps ..) (KeepsLaws.subI rfl rfl)) (State.drainXing_keeps ..) (KeepsLaws.subI rfl rfl)) (ih ..)

theorem State.serveXing_keeps (s : State) (i : ℕ) :
    Keeps 913359148 12874621637475700510719995448372950307664144486583346279817739408687723105341397182587100448423360 s (State.serveXing s i) := by
  unfold State.serveXing
  extract_lets
  rename_i e0 e1
  have h_e1 : Keeps 913359148 12874621637475700510719995448372950307664144486583346279817739408687723105341397182587100448423360 s e1 := by
    unfold e1
    with_reducible refine KeepsLaws.comp ?_ (KeepsLaws.upd_xing ..) (KeepsLaws.subI rfl rfl)
    exact KeepsLaws.refl ..
  clear_value e1
  with_reducible refine KeepsLaws.foldl (fun x a => ?_) ?_
  · with_reducible refine KeepsLaws.foldl (fun x a => ?_) ?_
    · with_reducible refine KeepsLaws.comp ?_ (State.runXReq_keeps ..) (KeepsLaws.subI rfl rfl)
      exact KeepsLaws.refl ..
    · exact KeepsLaws.refl ..
  · assumption

theorem State.tick_keeps (s : State) :
    Keeps 644923662 46077677787485195365598534199902541608818946149311325547298647857385533396087063777280 s (State.tick s) := by
  unfold State.tick
  extract_lets
  rename_i e0
  have h_e0 : Keeps 644923662 46077677787485195365598534199902541608818946149311325547298647857385533396087063777280 s e0 := by
    unfold e0
    with_reducible refine KeepsLaws.comp ?_ (KeepsLaws.upd_now ..) (KeepsLaws.subI rfl rfl)
    exact KeepsLaws.refl ..
  clear_value e0
  with_reducible refine KeepsLaws.ite ?_ ?_
  · assumption
  · with_reducible refine KeepsLaws.foldl (fun x a => ?_) ?_
    · with_reducible refine KeepsLaws.comp ?_ (State.serveDmc_keeps ..) (KeepsLaws.subI rfl rfl)
      exact KeepsLaws.refl ..
    · assumption

theorem execLatchingRegisterRead_keeps (m : BusMaster) (addr : ℕ) (s : State) :
    KeepsO 879755532 12874621637475700481974605761515075236993988291581571669406434060474659331308135709347865070997696 s (execLatchingRegisterRead m addr s) := by
  unfold execLatchingRegisterRead
  with_reducible refine KeepsLaws.next ?_
  with_reducible refine KeepsLaws.comp ?_ (State.busRead_keeps ..) (KeepsLaws.subI rfl rfl)
  exact KeepsLaws.refl ..

theorem execFwStart_keeps (s : State) :
    KeepsO 1056298284 13882190048011151607533477843303177078424070180794898925071352828239229149132803533381918584208848 s (execFwStart s) := by
  unfold execFwStart
  with_reducible refine KeepsLaws.iteO ?_ ?_
  · with_reducible refine KeepsLaws.next ?_
    exact KeepsLaws.refl ..
  · extract_lets
    rename_i e0 e1 e2 e3 e4 e5
    have h_e1 : Keeps 1056298284 13882190048011151607533477843303177078424070180794898925071352828239229149132803533381918584208848 s e1 := by
      unfold e1
      with_reducible refine KeepsLaws.comp ?_ (KeepsLaws.upd_boot ..) (KeepsLaws.subI rfl rfl)
      exact KeepsLaws.refl ..
    clear_value e1
    have h_e2 : Keeps 1056298284 13882190048011151607533477843303177078424070180794898925071352828239229149132803533381918584208848 s e2 := by
      unfold e2
      with_reducible refine KeepsLaws.foldl (fun x a => ?_) ?_
      · with_reducible refine KeepsLaws.ite ?_ ?_
        · exact KeepsLaws.refl ..
        · with_reducible refine KeepsLaws.ite ?_ ?_
          · with_reducible refine KeepsLaws.comp ?_ (State.serveXing_keeps ..) (KeepsLaws.subI rfl rfl)
            with_reducible refine KeepsLaws.comp ?_ (State.finishIsland_keeps ..) (KeepsLaws.subI rfl rfl)
            exact KeepsLaws.refl ..
          · with_reducible refine KeepsLaws.comp ?_ (State.finishIsland_keeps ..) (KeepsLaws.subI rfl rfl)
            with_reducible refine KeepsLaws.comp ?_ (State.startIsland_keeps ..) (KeepsLaws.subI rfl rfl)
            exact KeepsLaws.refl ..
      · assumption
    clear_value e2
    have h_e3 : Keeps 1056298284 13882190048011151607533477843303177078424070180794898925071352828239229149132803533381918584208848 s e3 := by
      unfold e3
      with_reducible refine KeepsLaws.foldl (fun x a => ?_) ?_
      · with_reducible refine KeepsLaws.stepSetBit ?_ (KeepsLaws.bitI rfl)
        with_reducible refine KeepsLaws.stepSetBit ?_ (KeepsLaws.bitI rfl)
        exact KeepsLaws.refl ..
      · assumption
    clear_value e3
    have h_e5 : Keeps 1056298284 13882190048011151607533477843303177078424070180794898925071352828239229149132803533381918584208848 s e5 := by
      unfold e5
      with_reducible refine KeepsLaws.comp ?_ (KeepsLaws.upd_flt ..) (KeepsLaws.subI rfl rfl)
      assumption
    clear_value e5
    with_reducible refine KeepsLaws.next ?_
    with_reducible refine KeepsLaws.comp ?_ (State.event_keeps ..) (KeepsLaws.subI rfl rfl)
    with_reducible refine KeepsLaws.stepSetBits ?_ (KeepsLaws.bitI rfl)
    assumption

theorem execIslandClearDone_keeps (i : Fin 41) (s : State) :
    KeepsO 1056036156 13882190048011151607533477843303177078424070180794898925071352828239229149132803533381918584208832 s (execIslandClearDone i s) := by
  unfold execIslandClearDone
  with_reducible refine KeepsLaws.iteO ?_ ?_
  · with_reducible refine KeepsLaws.next ?_
    with_reducible refine KeepsLaws.comp ?_ (State.answerIslands_keeps ..) (KeepsLaws.subI rfl rfl)
    with_reducible refine KeepsLaws.comp ?_ (State.nextIsland_keeps ..) (KeepsLaws.subI rfl rfl)
    with_reducible refine KeepsLaws.comp ?_ (State.serveXing_keeps ..) (KeepsLaws.subI rfl rfl)
    with_reducible refine KeepsLaws.comp ?_ (State.finishIsland_keeps ..) (KeepsLaws.subI rfl rfl)
    exact KeepsLaws.refl ..
  · with_reducible refine KeepsLaws.next ?_
    exact KeepsLaws.refl ..

theorem execCrossingRegisterRead_keeps (m : BusMaster) (addr : ℕ) (len : ℕ) (s : State) :
    KeepsO 879755532 12874621637475700481974605761515075236993988291581571669406434060474659331308135709347865070997696 s (execCrossingRegisterRead m addr len s) := by
  unfold execCrossingRegisterRead
  extract_lets
  rename_i e0 e1
  have h_e1 : Keeps 879755532 12874621637475700481974605761515075236993988291581571669406434060474659331308135709347865070997696 s e1 := by
    unfold e1
    split
    · with_reducible refine KeepsLaws.stepBumpSat ?_ (KeepsLaws.bitI rfl)
      exact KeepsLaws.refl ..
    · with_reducible refine KeepsLaws.stepBumpSat ?_ (KeepsLaws.bitI rfl)
      exact KeepsLaws.refl ..
    · exact KeepsLaws.refl ..
  clear_value e1
  with_reducible refine KeepsLaws.iteO ?_ ?_
  · with_reducible refine KeepsLaws.next ?_
    with_reducible refine KeepsLaws.ite ?_ ?_
    · with_reducible refine KeepsLaws.comp ?_ (State.busRead_keeps ..) (KeepsLaws.subI rfl rfl)
      exact KeepsLaws.refl ..
    · with_reducible refine KeepsLaws.comp ?_ (State.busRead_keeps ..) (KeepsLaws.subI rfl rfl)
      with_reducible refine KeepsLaws.comp ?_ (State.busRead_keeps ..) (KeepsLaws.subI rfl rfl)
      exact KeepsLaws.refl ..
  · with_reducible refine KeepsLaws.next ?_
    with_reducible refine KeepsLaws.comp ?_ (KeepsLaws.emit ..) (KeepsLaws.subI rfl rfl)
    assumption

theorem execIslandPowerOff_keeps (i : Fin 41) (s : State) :
    KeepsO 263263260 1065974306048913481864497259747012611842213226248192004323002494934617945766629012643256755359744 s (execIslandPowerOff i s) := by
  unfold execIslandPowerOff
  with_reducible refine KeepsLaws.iteO ?_ ?_
  · extract_lets
    rename_i e0 e1 e2
    have h_e0 : Keeps 263263260 1065974306048913481864497259747012611842213226248192004323002494934617945766629012643256755359744 s e0 := by
      unfold e0
      with_reducible refine KeepsLaws.comp ?_ (State.setIsland_keeps ..) (KeepsLaws.subI rfl rfl)
      with_reducible refine KeepsLaws.stepSetBits ?_ (KeepsLaws.bitI rfl)
      with_reducible refine KeepsLaws.comp ?_ (State.dropData_keeps ..) (KeepsLaws.subI rfl rfl)
      with_reducible refine KeepsLaws.comp ?_ (State.endPrbsOf_keeps ..) (KeepsLaws.subI rfl rfl)
      exact KeepsLaws.refl ..
    clear_value e0
    have h_e2 : Keeps 263263260 1065974306048913481864497259747012611842213226248192004323002494934617945766629012643256755359744 s e2 := by
      unfold e2
      with_reducible refine KeepsLaws.comp ?_ (KeepsLaws.upd_flt ..) (KeepsLaws.subI rfl rfl)
      assumption
    clear_value e2
    with_reducible refine KeepsLaws.next ?_
    with_reducible refine KeepsLaws.comp ?_ (State.answerIslands_keeps ..) (KeepsLaws.subI rfl rfl)
    with_reducible refine KeepsLaws.comp ?_ (State.avs_keeps ..) (KeepsLaws.subI rfl rfl)
    assumption
  · with_reducible refine KeepsLaws.next ?_
    exact KeepsLaws.refl ..

theorem execInterconnectRequest_keeps (a : MemAccess) (s : State) :
    KeepsO 913359164 12874621637475700896886613054822462045273379490557518970473138268599004176932439848977387797609920 s (execInterconnectRequest a s) := by
  unfold execInterconnectRequest
  with_reducible refine KeepsLaws.iteO ?_ ?_
  · with_reducible refine KeepsLaws.next ?_
    exact KeepsLaws.refl ..
  · with_reducible refine KeepsLaws.next ?_
    with_reducible refine KeepsLaws.foldl (fun x a => ?_) ?_
    · with_reducible refine KeepsLaws.comp ?_ (State.onePart_keeps ..) (KeepsLaws.subI rfl rfl)
      exact KeepsLaws.refl ..
    · exact KeepsLaws.refl ..

end Sys2Proof.Machine
end

