-- ==== Sys2Proof/Laws/FrameProfiles.lean ====
section
/-! SUPPORT. What each operation of Machine/Profiles.lean can change at most (Keeps): masks of fields and of registers. -/

namespace Sys2Proof.Machine

theorem State.dropHeadArms_keeps (s : State) (h : ℕ) :
    Keeps 1048576 91343852333181432387730302044767688728495783936 s (State.dropHeadArms s h) := by
  unfold State.dropHeadArms
  with_reducible refine KeepsLaws.comp ?_ (State.modHead_keeps ..) (KeepsLaws.subI rfl rfl)
  exact KeepsLaws.refl ..

theorem State.armProfile_keeps (s : State) (l : List Section) (n : ℕ) (since : ℕ) (h : ℕ) :
    Keeps 267752796 1065974318030748833501329694031722078896330101259178583557392446823361245498114777120968943407104 s (State.armProfile s l n since h) := by
  unfold State.armProfile
  extract_lets
  rename_i e0 e1 e2 e3
  have h_e1 : Keeps 267752796 1065974318030748833501329694031722078896330101259178583557392446823361245498114777120968943407104 s e1 := by
    unfold e1
    with_reducible refine KeepsLaws.comp ?_ (State.dropHeadArms_keeps ..) (KeepsLaws.subI rfl rfl)
    exact KeepsLaws.refl ..
  clear_value e1
  have h_e3 : Keeps 267752796 1065974318030748833501329694031722078896330101259178583557392446823361245498114777120968943407104 s e3 := by
    unfold e3
    with_reducible refine KeepsLaws.ite ?_ ?_
    · assumption
    · with_reducible refine KeepsLaws.comp ?_ (State.powerUpAll_keeps ..) (KeepsLaws.subI rfl rfl)
      with_reducible refine KeepsLaws.comp ?_ (State.discardHeld_keeps ..) (KeepsLaws.subI rfl rfl)
      assumption
  clear_value e3
  with_reducible refine KeepsLaws.ite ?_ ?_
  · assumption
  · with_reducible refine KeepsLaws.comp ?_ (State.armHead_keeps ..) (KeepsLaws.subI rfl rfl)
    assumption

theorem State.blank_keeps (s : State) :
    Keeps 68736064 0 s (State.blank s) := by
  unfold State.blank
  with_reducible refine KeepsLaws.comp ?_ (KeepsLaws.updMk (F := 68736064) ?_) (KeepsLaws.subI rfl rfl)
  · exact KeepsLaws.refl ..
  · (intro f hf; cases f <;> first | exact absurd hf (by decide) | rfl)

theorem State.dropChanArms_keeps (s : State) (c : ℕ) :
    Keeps 34144256 5316911983139663491615228241121378304 s (State.dropChanArms s c) := by
  unfold State.dropChanArms
  extract_lets
  rename_i e0
  with_reducible refine KeepsLaws.comp ?_ (State.modChan_keeps ..) (KeepsLaws.subI rfl rfl)
  with_reducible refine KeepsLaws.comp ?_ (State.releaseAll_keeps ..) (KeepsLaws.subI rfl rfl)
  exact KeepsLaws.refl ..

theorem State.chanProfile_keeps (s : State) (l : List Section) (n : ℕ) (c : ℕ) :
    Keeps 123568476 738417405244186244438457565129532114653668212755182742956328819867481108241118561295766890549248 s (State.chanProfile s l n c) := by
  unfold State.chanProfile
  extract_lets
  rename_i e0
  have h_e0 : Keeps 123568476 738417405244186244438457565129532114653668212755182742956328819867481108241118561295766890549248 s e0 := by
    unfold e0
    with_reducible refine KeepsLaws.comp ?_ (State.dropChanArms_keeps ..) (KeepsLaws.subI rfl rfl)
    exact KeepsLaws.refl ..
  clear_value e0
  split
  · split
    · with_reducible refine KeepsLaws.comp ?_ (State.armChan_keeps ..) (KeepsLaws.subI rfl rfl)
      with_reducible refine KeepsLaws.comp ?_ (KeepsLaws.ofOptP (by assumption) (State.stageChan_keeps ..)) (KeepsLaws.subI rfl rfl)
      assumption
    · with_reducible refine KeepsLaws.comp ?_ (State.profileKept_keeps ..) (KeepsLaws.subI rfl rfl)
      assumption
  · with_reducible refine KeepsLaws.ite ?_ ?_
    · with_reducible refine KeepsLaws.comp ?_ (State.armChan_keeps ..) (KeepsLaws.subI rfl rfl)
      assumption
    · assumption

theorem State.endGiveUp_keeps (s : State) :
    Keeps 4194316 31082702275611665134712213261454963109299765315387099260266622209501466540244497666048 s (State.endGiveUp s) := by
  unfold State.endGiveUp
  extract_lets
  rename_i e0
  have h_e0 : Keeps 4194316 31082702275611665134712213261454963109299765315387099260266622209501466540244497666048 s e0 := by
    unfold e0
    with_reducible refine KeepsLaws.stepSetBit ?_ (KeepsLaws.bitI rfl)
    exact KeepsLaws.refl ..
  clear_value e0
  with_reducible refine KeepsLaws.ite ?_ ?_
  · with_reducible refine KeepsLaws.stepSetBit ?_ (KeepsLaws.bitI rfl)
    with_reducible refine KeepsLaws.comp ?_ (State.setPairState_keeps ..) (KeepsLaws.subI rfl rfl)
    assumption
  · assumption

theorem State.noteSel_keeps (s : State) (rank : ℕ) :
    Keeps 64 0 s (State.noteSel s rank) := by
  unfold State.noteSel
  with_reducible refine KeepsLaws.comp ?_ (KeepsLaws.upd_prof ..) (KeepsLaws.subI rfl rfl)
  exact KeepsLaws.refl ..

theorem State.supersede_keeps (s : State) (n : ℕ) :
    Keeps 28 4297654272 s (State.supersede s n) := by
  unfold State.supersede
  split
  · exact KeepsLaws.refl ..
  · with_reducible refine KeepsLaws.ite ?_ ?_
    · exact KeepsLaws.refl ..
    · extract_lets
      rename_i e0
      have h_e0 : Keeps 28 4297654272 s e0 := by
        unfold e0
        with_reducible refine KeepsLaws.comp ?_ (State.setSlotState_keeps ..) (KeepsLaws.subI rfl rfl)
        exact KeepsLaws.refl ..
      clear_value e0
      with_reducible refine KeepsLaws.foldl (fun x a => ?_) ?_
      · with_reducible refine KeepsLaws.comp ?_ (State.stepWaiter_keeps ..) (KeepsLaws.subI rfl rfl)
        exact KeepsLaws.refl ..
      · assumption

theorem State.stopRoutes_keeps (s : State) (l : List Section) :
    Keeps 67108892 2686976 s (State.stopRoutes s l) := by
  unfold State.stopRoutes
  extract_lets
  rename_i e0
  with_reducible refine KeepsLaws.foldl (fun x a => ?_) ?_
  · with_reducible refine KeepsLaws.comp ?_ (State.changeRoute_keeps ..) (KeepsLaws.subI rfl rfl)
    exact KeepsLaws.refl ..
  · exact KeepsLaws.refl ..

theorem State.unbindOthers_keeps (s : State) (l : List Section) :
    Keeps 246543692 1065974306048913481878971270901677136270159599374277992804661411211925712563353335042851518091264 s (State.unbindOthers s l) := by
  unfold State.unbindOthers
  extract_lets
  rename_i e0 e1 e2
  have h_e1 : Keeps 246543692 1065974306048913481878971270901677136270159599374277992804661411211925712563353335042851518091264 s e1 := by
    unfold e1
    with_reducible refine KeepsLaws.foldl (fun x a => ?_) ?_
    · with_reducible refine KeepsLaws.comp ?_ (State.bindIng_keeps ..) (KeepsLaws.subI rfl rfl)
      with_reducible refine KeepsLaws.comp ?_ (State.unstage_keeps ..) (KeepsLaws.subI rfl rfl)
      exact KeepsLaws.refl ..
    · exact KeepsLaws.refl ..
  clear_value e1
  have h_e2 : Keeps 246543692 1065974306048913481878971270901677136270159599374277992804661411211925712563353335042851518091264 s e2 := by
    unfold e2
    with_reducible refine KeepsLaws.foldl (fun x a => ?_) ?_
    · with_reducible refine KeepsLaws.comp ?_ (State.bindCam_keeps ..) (KeepsLaws.subI rfl rfl)
      exact KeepsLaws.refl ..
    · assumption
  clear_value e2
  with_reducible refine KeepsLaws.foldl (fun x a => ?_) ?_
  · with_reducible refine KeepsLaws.comp ?_ (State.bindDec_keeps ..) (KeepsLaws.subI rfl rfl)
    with_reducible refine KeepsLaws.comp ?_ (State.unstage_keeps ..) (KeepsLaws.subI rfl rfl)
    exact KeepsLaws.refl ..
  · assumption

theorem State.putSection_keeps (s : State) (l : List Section) (e : Section) :
    Keeps 263320924 1065974306048913481878971270901677136270159599778383195526656068095244568809405589977716868321280 s (State.putSection s l e) := by
  unfold State.putSection
  extract_lets
  rename_i e0 e1
  have h_e1 : Keeps 263320924 1065974306048913481878971270901677136270159599778383195526656068095244568809405589977716868321280 s e1 := by
    unfold e1
    with_reducible refine KeepsLaws.comp ?_ (State.powerUpAll_keeps ..) (KeepsLaws.subI rfl rfl)
    exact KeepsLaws.refl ..
  clear_value e1
  split
  · with_reducible refine KeepsLaws.putBinding ?_ ?_ (fun x => ?_)
    · exact KeepsLaws.refl ..
    · with_reducible refine KeepsLaws.compM ?_ (State.stageIng_keeps ..) (KeepsLaws.subI rfl rfl)
      exact KeepsLaws.refl ..
    · with_reducible refine KeepsLaws.comp ?_ (State.bindIng_keeps ..) (KeepsLaws.subI rfl rfl)
      exact KeepsLaws.refl ..
  · with_reducible refine KeepsLaws.putBinding ?_ ?_ (fun x => ?_)
    · exact KeepsLaws.refl ..
    · with_reducible refine KeepsLaws.compM ?_ (State.stageCam_keeps ..) (KeepsLaws.subI rfl rfl)
      exact KeepsLaws.refl ..
    · with_reducible refine KeepsLaws.comp ?_ (State.bindCam_keeps ..) (KeepsLaws.subI rfl rfl)
      exact KeepsLaws.refl ..
  · with_reducible refine KeepsLaws.comp ?_ (State.armParams_keeps ..) (KeepsLaws.subI rfl rfl)
    exact KeepsLaws.refl ..
  · with_reducible refine KeepsLaws.putBinding ?_ ?_ (fun x => ?_)
    · exact KeepsLaws.refl ..
    · with_reducible refine KeepsLaws.compM ?_ (State.stageDec_keeps ..) (KeepsLaws.subI rfl rfl)
      exact KeepsLaws.refl ..
    · with_reducible refine KeepsLaws.comp ?_ (State.bindDec_keeps ..) (KeepsLaws.subI rfl rfl)
      exact KeepsLaws.refl ..
  · with_reducible refine KeepsLaws.comp ?_ (State.applyTdm_keeps ..) (KeepsLaws.subI rfl rfl)
    with_reducible refine KeepsLaws.comp ?_ (State.powerUp_keeps ..) (KeepsLaws.subI rfl rfl)
    exact KeepsLaws.refl ..
  · with_reducible refine KeepsLaws.comp ?_ (State.applyAes3_keeps ..) (KeepsLaws.subI rfl rfl)
    with_reducible refine KeepsLaws.comp ?_ (State.powerUp_keeps ..) (KeepsLaws.subI rfl rfl)
    exact KeepsLaws.refl ..
  · with_reducible refine KeepsLaws.comp ?_ (State.applyRx_keeps ..) (KeepsLaws.subI rfl rfl)
    with_reducible refine KeepsLaws.comp ?_ (State.powerUp_keeps ..) (KeepsLaws.subI rfl rfl)
    exact KeepsLaws.refl ..
  · with_reducible refine KeepsLaws.comp ?_ (State.applyTx_keeps ..) (KeepsLaws.subI rfl rfl)
    with_reducible refine KeepsLaws.comp ?_ (State.powerUp_keeps ..) (KeepsLaws.subI rfl rfl)
    with_reducible refine KeepsLaws.ite ?_ ?_
    · with_reducible refine KeepsLaws.comp ?_ (State.powerUp_keeps ..) (KeepsLaws.subI rfl rfl)
      exact KeepsLaws.refl ..
    · exact KeepsLaws.refl ..
  · with_reducible refine KeepsLaws.comp ?_ (State.applyRoutes_keeps ..) (KeepsLaws.subI rfl rfl)
    exact KeepsLaws.refl ..
  · with_reducible refine KeepsLaws.comp ?_ (State.applyTchMap_keeps ..) (KeepsLaws.subI rfl rfl)
    exact KeepsLaws.refl ..
  · with_reducible refine KeepsLaws.ite ?_ ?_
    · with_reducible refine KeepsLaws.ite ?_ ?_
      · assumption
      · with_reducible refine KeepsLaws.comp ?_ (State.takeOut_keeps ..) (KeepsLaws.subI rfl rfl)
        assumption
    · exact KeepsLaws.refl ..
  · exact KeepsLaws.refl ..

theorem State.stopFlowsNot_keeps (s : State) (l : List Section) :
    Keeps 84934684 738417393277345868327966488265646768620791747837453507317184303887737151252995574369453840338944 s (State.stopFlowsNot s l) := by
  unfold State.stopFlowsNot
  with_reducible refine KeepsLaws.foldl (fun x a => ?_) ?_
  · with_reducible refine KeepsLaws.comp ?_ (State.takeOut_keeps ..) (KeepsLaws.subI rfl rfl)
    exact KeepsLaws.refl ..
  · exact KeepsLaws.refl ..

theorem State.selectSlot_keeps (s : State) (n : ℕ) (src : ℕ) (arg : ℕ) (since : ℕ) :
    Keeps 268301660 1065974318030748833501329694031722078896330101259178584429882253021890704327487764829821540569088 s (State.selectSlot s n src arg since) := by
  unfold State.selectSlot
  extract_lets
  rename_i e0 e1 e2 e3 e4 e5 e6 e7 e8
  have h_e3 : Keeps 268301660 1065974318030748833501329694031722078896330101259178584429882253021890704327487764829821540569088 s e3 := by
    unfold e3
    with_reducible refine KeepsLaws.comp ?_ (State.endGiveUp_keeps ..) (KeepsLaws.subI rfl rfl)
    with_reducible refine KeepsLaws.stepSetBits ?_ (KeepsLaws.bitI rfl)
    with_reducible refine KeepsLaws.comp ?_ (State.setSlotState_keeps ..) (KeepsLaws.subI rfl rfl)
    with_reducible refine KeepsLaws.comp ?_ (State.supersede_keeps ..) (KeepsLaws.subI rfl rfl)
    exact KeepsLaws.refl ..
  clear_value e3
  have h_e5 : Keeps 268301660 1065974318030748833501329694031722078896330101259178584429882253021890704327487764829821540569088 s e5 := by
    unfold e5
    with_reducible refine KeepsLaws.comp ?_ (KeepsLaws.upd_prof ..) (KeepsLaws.subI rfl rfl)
    assumption
  clear_value e5
  have h_e6 : Keeps 268301660 1065974318030748833501329694031722078896330101259178584429882253021890704327487764829821540569088 s e6 := by
    unfold e6
    with_reducible refine KeepsLaws.foldl (fun x a => ?_) ?_
    · with_reducible refine KeepsLaws.comp ?_ (State.putSection_keeps ..) (KeepsLaws.subI rfl rfl)
      exact KeepsLaws.refl ..
    · with_reducible refine KeepsLaws.comp ?_ (State.stopFlowsNot_keeps ..) (KeepsLaws.subI rfl rfl)
      with_reducible refine KeepsLaws.comp ?_ (State.stopRoutes_keeps ..) (KeepsLaws.subI rfl rfl)
      with_reducible refine KeepsLaws.comp ?_ (State.unbindOthers_keeps ..) (KeepsLaws.subI rfl rfl)
      assumption
  clear_value e6
  have h_e7 : Keeps 268301660 1065974318030748833501329694031722078896330101259178584429882253021890704327487764829821540569088 s e7 := by
    unfold e7
    with_reducible refine KeepsLaws.foldl (fun x a => ?_) ?_
    · with_reducible refine KeepsLaws.comp ?_ (State.chanProfile_keeps ..) (KeepsLaws.subI rfl rfl)
      exact KeepsLaws.refl ..
    · assumption
  clear_value e7
  have h_e8 : Keeps 268301660 1065974318030748833501329694031722078896330101259178584429882253021890704327487764829821540569088 s e8 := by
    unfold e8
    with_reducible refine KeepsLaws.comp ?_ (State.allocate_keeps ..) (KeepsLaws.subI rfl rfl)
    with_reducible refine KeepsLaws.foldl (fun x a => ?_) ?_
    · with_reducible refine KeepsLaws.comp ?_ (State.armProfile_keeps ..) (KeepsLaws.subI rfl rfl)
      exact KeepsLaws.refl ..
    · assumption
  clear_value e8
  with_reducible refine KeepsLaws.ite ?_ ?_
  · with_reducible refine KeepsLaws.comp ?_ (State.profileDone_keeps ..) (KeepsLaws.subI rfl rfl)
    assumption
  · assumption

theorem State.selectFree_keeps (s : State) (n : ℕ) (src : ℕ) (arg : ℕ) :
    Keeps 268301660 1065974318030748833501329694031722078896330101259178584429882253021890704327487764829821540569088 s (State.selectFree s n src arg) := by
  unfold State.selectFree
  with_reducible refine KeepsLaws.ite ?_ ?_
  · exact KeepsLaws.refl ..
  · with_reducible refine KeepsLaws.ite ?_ ?_
    · with_reducible refine KeepsLaws.comp ?_ (State.noteSel_keeps ..) (KeepsLaws.subI rfl rfl)
      exact KeepsLaws.refl ..
    · with_reducible refine KeepsLaws.comp ?_ (State.selectSlot_keeps ..) (KeepsLaws.subI rfl rfl)
      with_reducible refine KeepsLaws.comp ?_ (State.noteSel_keeps ..) (KeepsLaws.subI rfl rfl)
      exact KeepsLaws.refl ..

theorem State.noteSource_keeps (s : State) (k : ℕ) (src : ℕ) :
    Keeps 32768 0 s (State.noteSource s k src) := by
  unfold State.noteSource
  with_reducible refine KeepsLaws.comp ?_ (State.setPool_keeps ..) (KeepsLaws.subI rfl rfl)
  exact KeepsLaws.refl ..

theorem State.putSlot_keeps (s : State) (n : ℕ) (len : ℕ) (reason : ℕ) (l : List Section) (ok : Bool) :
    Keeps 64 4294967296 s (State.putSlot s n len reason l ok) := by
  unfold State.putSlot
  with_reducible refine KeepsLaws.comp ?_ (State.setSlotState_keeps ..) (KeepsLaws.subI rfl rfl)
  with_reducible refine KeepsLaws.comp ?_ (State.setSlot_keeps ..) (KeepsLaws.subI rfl rfl)
  exact KeepsLaws.refl ..

theorem State.tryPut_keeps (s : State) (e : Section) :
    Keeps 68736028 20568806966515075618280967115148313700014500365187437020356083712 s (State.tryPut s e) := by
  unfold State.tryPut
  extract_lets
  rename_i e0 e1 e2 e3 e4 e5 e6 e7 e8 e9 e10 e11 e12 e13 e14 e15
  have h_e3 : Keeps 68736028 20568806966515075618280967115148313700014500365187437020356083712 s e3 := by
    unfold e3
    with_reducible refine KeepsLaws.comp ?_ (KeepsLaws.upd_ing ..) (KeepsLaws.subI rfl rfl)
    exact KeepsLaws.refl ..
  clear_value e3
  have h_e7 : Keeps 68736028 20568806966515075618280967115148313700014500365187437020356083712 s e7 := by
    unfold e7
    with_reducible refine KeepsLaws.comp ?_ (KeepsLaws.upd_cam ..) (KeepsLaws.subI rfl rfl)
    exact KeepsLaws.refl ..
  clear_value e7
  have h_e8 : Keeps 68736028 20568806966515075618280967115148313700014500365187437020356083712 s e8 := by
    unfold e8
    with_reducible refine KeepsLaws.ite ?_ ?_
    · with_reducible refine KeepsLaws.comp ?_ (State.noteSource_keeps ..) (KeepsLaws.subI rfl rfl)
      assumption
    · with_reducible refine KeepsLaws.comp ?_ (State.setPool_keeps ..) (KeepsLaws.subI rfl rfl)
      assumption
  clear_value e8
  have h_e12 : Keeps 68736028 20568806966515075618280967115148313700014500365187437020356083712 s e12 := by
    unfold e12
    with_reducible refine KeepsLaws.comp ?_ (State.modSess_keeps ..) (KeepsLaws.subI rfl rfl)
    exact KeepsLaws.refl ..
  clear_value e12
  split
  · with_reducible refine KeepsLaws.ite ?_ ?_
    · with_reducible refine KeepsLaws.comp ?_ (State.noteSource_keeps ..) (KeepsLaws.subI rfl rfl)
      assumption
    · with_reducible refine KeepsLaws.comp ?_ (State.setPool_keeps ..) (KeepsLaws.subI rfl rfl)
      assumption
  · with_reducible refine KeepsLaws.ite ?_ ?_
    · with_reducible refine KeepsLaws.comp ?_ (State.noteSource_keeps ..) (KeepsLaws.subI rfl rfl)
      assumption
    · with_reducible refine KeepsLaws.comp ?_ (State.setPool_keeps ..) (KeepsLaws.subI rfl rfl)
      assumption
  · with_reducible refine KeepsLaws.ite ?_ ?_
    · with_reducible refine KeepsLaws.comp ?_ (State.noteSource_keeps ..) (KeepsLaws.subI rfl rfl)
      assumption
    · with_reducible refine KeepsLaws.comp ?_ (State.setPool_keeps ..) (KeepsLaws.subI rfl rfl)
      assumption
  · with_reducible refine KeepsLaws.comp ?_ (KeepsLaws.upd_enc ..) (KeepsLaws.subI rfl rfl)
    exact KeepsLaws.refl ..
  · with_reducible refine KeepsLaws.comp ?_ (KeepsLaws.upd_hd ..) (KeepsLaws.subI rfl rfl)
    exact KeepsLaws.refl ..
  · with_reducible refine KeepsLaws.comp ?_ (State.applyTdm_keeps ..) (KeepsLaws.subI rfl rfl)
    exact KeepsLaws.refl ..
  · with_reducible refine KeepsLaws.comp ?_ (State.applyAes3_keeps ..) (KeepsLaws.subI rfl rfl)
    exact KeepsLaws.refl ..
  · with_reducible refine KeepsLaws.comp ?_ (State.applyRx_keeps ..) (KeepsLaws.subI rfl rfl)
    exact KeepsLaws.refl ..
  · with_reducible refine KeepsLaws.comp ?_ (State.applyTx_keeps ..) (KeepsLaws.subI rfl rfl)
    exact KeepsLaws.refl ..
  · split
    · with_reducible refine KeepsLaws.comp ?_ (State.modHead_keeps ..) (KeepsLaws.subI rfl rfl)
      exact KeepsLaws.refl ..
    · exact KeepsLaws.refl ..

theorem execPrfSelect_keeps (r : Req) (b : Body) (s : State) :
    KeepsO 268301660 1065974318030748833501329694031722078896330101259178584429882253021890704327487764829821540569088 s (execPrfSelect r b s) := by
  unfold execPrfSelect
  extract_lets
  rename_i e0 e1 e2
  with_reducible refine KeepsLaws.command (KeepsLaws.subI rfl rfl) (fun x => ?_)
  extract_lets
  rename_i e3
  have h_e3 : Keeps 268301660 1065974318030748833501329694031722078896330101259178584429882253021890704327487764829821540569088 x e3 := by
    unfold e3
    with_reducible refine KeepsLaws.comp ?_ (State.noteSel_keeps ..) (KeepsLaws.subI rfl rfl)
    exact KeepsLaws.refl ..
  clear_value e3
  with_reducible refine KeepsLaws.iteA ?_ ?_
  · with_reducible refine KeepsLaws.nowA ?_
    assumption
  · split
    with_reducible refine KeepsLaws.laterA ?_
    with_reducible refine KeepsLaws.ite ?_ ?_
    · with_reducible refine KeepsLaws.ofSnd (by assumption) ?_
      with_reducible refine KeepsLaws.comp ?_ (State.newWaiter_keeps ..) (KeepsLaws.subI rfl rfl)
      assumption
    · with_reducible refine KeepsLaws.comp ?_ (State.selectSlot_keeps ..) (KeepsLaws.subI rfl rfl)
      with_reducible refine KeepsLaws.ofSnd (by assumption) ?_
      with_reducible refine KeepsLaws.comp ?_ (State.newWaiter_keeps ..) (KeepsLaws.subI rfl rfl)
      assumption

theorem execEventMask_keeps (r : Req) (b : Body) (s : State) :
    KeepsO 28 2686976 s (execEventMask r b s) := by
  unfold execEventMask
  with_reducible refine KeepsLaws.command (KeepsLaws.subI rfl rfl) (fun x => ?_)
  with_reducible refine KeepsLaws.doneA ?_
  with_reducible refine KeepsLaws.comp ?_ (State.modPort_keeps ..) (KeepsLaws.subI rfl rfl)
  exact KeepsLaws.refl ..

theorem execPrfLoad_keeps (r : Req) (b : Body) (image : List Byte) (s : State) :
    KeepsO 68736092 20568806966515075618280967115148313700014500365187437024651051008 s (execPrfLoad r b image s) := by
  unfold execPrfLoad
  extract_lets
  rename_i e0 e1 e2 e3 e4 e5 e6 e7
  with_reducible refine KeepsLaws.command (KeepsLaws.subI rfl rfl) (fun x => ?_)
  with_reducible refine KeepsLaws.iteA ?_ ?_
  · with_reducible refine KeepsLaws.refuseA ?_
    with_reducible refine KeepsLaws.comp ?_ (State.putSlot_keeps ..) (KeepsLaws.subI rfl rfl)
    exact KeepsLaws.refl ..
  · unfold Sys2Proof.Machine.State.loadImage
    extract_lets
    rename_i e8 e9 e10
    split
    · with_reducible refine KeepsLaws.refuseA ?_
      with_reducible refine KeepsLaws.comp ?_ (State.putSlot_keeps ..) (KeepsLaws.subI rfl rfl)
      exact KeepsLaws.refl ..
    · split
      · with_reducible refine KeepsLaws.refuseA ?_
        with_reducible refine KeepsLaws.comp ?_ (State.putSlot_keeps ..) (KeepsLaws.subI rfl rfl)
        exact KeepsLaws.refl ..
      · with_reducible refine KeepsLaws.nowA ?_
        with_reducible refine KeepsLaws.comp ?_ (State.putSlot_keeps ..) (KeepsLaws.subI rfl rfl)
        exact KeepsLaws.refl ..

theorem execPrfStatus_keeps (r : Req) (b : Body) (s : State) :
    KeepsO 28 2686976 s (execPrfStatus r b s) := by
  unfold execPrfStatus
  with_reducible refine KeepsLaws.command (KeepsLaws.subI rfl rfl) (fun x => ?_)
  extract_lets
  rename_i e0
  with_reducible refine KeepsLaws.nowA ?_
  exact KeepsLaws.refl ..

theorem execPrfPinMode_keeps (r : Req) (b : Body) (s : State) :
    KeepsO 28 4297654272 s (execPrfPinMode r b s) := by
  unfold execPrfPinMode
  with_reducible refine KeepsLaws.command (KeepsLaws.subI rfl rfl) (fun x => ?_)
  with_reducible refine KeepsLaws.doneA ?_
  with_reducible refine KeepsLaws.stepSetBit ?_ (KeepsLaws.bitI rfl)
  exact KeepsLaws.refl ..

theorem execPselStable_keeps (v : Fin 4) (s : State) :
    KeepsO 268301660 1065974318030748833501329694031722078896330101259178584429882253021890704327487764829821540569088 s (execPselStable v s) := by
  unfold execPselStable
  extract_lets
  rename_i e0 e1
  have h_e1 : Keeps 268301660 1065974318030748833501329694031722078896330101259178584429882253021890704327487764829821540569088 s e1 := by
    unfold e1
    with_reducible refine KeepsLaws.stepSetBits ?_ (KeepsLaws.bitI rfl)
    exact KeepsLaws.refl ..
  clear_value e1
  with_reducible refine KeepsLaws.iteO ?_ ?_
  · with_reducible refine KeepsLaws.next ?_
    exact KeepsLaws.refl ..
  · with_reducible refine KeepsLaws.iteO ?_ ?_
    · with_reducible refine KeepsLaws.next ?_
      assumption
    · with_reducible refine KeepsLaws.iteO ?_ ?_
      · with_reducible refine KeepsLaws.next ?_
        with_reducible refine KeepsLaws.comp ?_ (State.selectFree_keeps ..) (KeepsLaws.subI rfl rfl)
        assumption
      · with_reducible refine KeepsLaws.next ?_
        with_reducible refine KeepsLaws.comp ?_ (State.event_keeps ..) (KeepsLaws.subI rfl rfl)
        assumption

end Sys2Proof.Machine
end

