-- ==== Sys2Proof/Laws/FrameEventIn.lean ====
section
/-! SUPPORT. What each operation of Machine/EventIn.lean can change at most (Keeps): masks of fields and of registers. -/

namespace Sys2Proof.Machine

theorem State.modEvi_keeps (s : State) (n : ℕ) (f : EvIn → EvIn) :
    Keeps 128 0 s (State.modEvi s n f) := by
  unfold State.modEvi
  with_reducible refine KeepsLaws.comp ?_ (KeepsLaws.upd_evin ..) (KeepsLaws.subI rfl rfl)
  exact KeepsLaws.refl ..

theorem State.evinSelect_keeps (s : State) (n : ℕ) :
    Keeps 268301788 1065974318030748833501329694031722078896330101259178584429882253021890704327487764829821540569088 s (State.evinSelect s n) := by
  unfold State.evinSelect
  with_reducible refine KeepsLaws.comp ?_ (State.selectFree_keeps ..) (KeepsLaws.subI rfl rfl)
  with_reducible refine KeepsLaws.comp ?_ (State.modEvi_keeps ..) (KeepsLaws.subI rfl rfl)
  exact KeepsLaws.refl ..

theorem State.evinOverrun_keeps (s : State) (n : ℕ) (k : ℕ) :
    Keeps 140 34360332288 s (State.evinOverrun s n k) := by
  unfold State.evinOverrun
  with_reducible refine KeepsLaws.ite ?_ ?_
  · exact KeepsLaws.refl ..
  · extract_lets
    rename_i e0 e1
    have h_e0 : Keeps 140 34360332288 s e0 := by
      unfold e0
      with_reducible refine KeepsLaws.stepAddSat ?_ (KeepsLaws.bitI rfl)
      exact KeepsLaws.refl ..
    clear_value e0
    with_reducible refine KeepsLaws.ite ?_ ?_
    · with_reducible refine KeepsLaws.comp ?_ (State.event_keeps ..) (KeepsLaws.subI rfl rfl)
      with_reducible refine KeepsLaws.comp ?_ (State.modEvi_keeps ..) (KeepsLaws.subI rfl rfl)
      assumption
    · assumption

theorem State.evinAct_keeps (s : State) (n : ℕ) (edge : Bool) :
    Keeps 268301788 1065974318030748833501329694031722078896330101259178584432604511957258212035194761689310045999104 s (State.evinAct s n edge).2 := by
  unfold State.evinAct
  split
  · dsimp only
    with_reducible refine KeepsLaws.ite ?_ ?_
    · exact KeepsLaws.refl ..
    · with_reducible refine KeepsLaws.comp ?_ (State.evinOverrun_keeps ..) (KeepsLaws.subI rfl rfl)
      exact KeepsLaws.refl ..
  · extract_lets
    rename_i e0
    split
    dsimp only
    with_reducible refine KeepsLaws.comp ?_ (State.evinOverrun_keeps ..) (KeepsLaws.subI rfl rfl)
    with_reducible refine KeepsLaws.ofSnd (by assumption) ?_
    with_reducible refine KeepsLaws.comp ?_ (State.keyRequests_keeps ..) (KeepsLaws.subI rfl rfl)
    exact KeepsLaws.refl ..
  · split
    · with_reducible refine KeepsLaws.iteP ?_ ?_
      · dsimp only
        with_reducible refine KeepsLaws.comp ?_ (State.evinSelect_keeps ..) (KeepsLaws.subI rfl rfl)
        exact KeepsLaws.refl ..
      · dsimp only
        with_reducible refine KeepsLaws.comp ?_ (State.evinOverrun_keeps ..) (KeepsLaws.subI rfl rfl)
        with_reducible refine KeepsLaws.comp ?_ (State.modEvi_keeps ..) (KeepsLaws.subI rfl rfl)
        exact KeepsLaws.refl ..
    · dsimp only
      with_reducible refine KeepsLaws.comp ?_ (State.evinSelect_keeps ..) (KeepsLaws.subI rfl rfl)
      exact KeepsLaws.refl ..
  · with_reducible refine KeepsLaws.iteP ?_ ?_
    · dsimp only
      with_reducible refine KeepsLaws.comp ?_ (State.giveUp_keeps ..) (KeepsLaws.subI rfl rfl)
      exact KeepsLaws.refl ..
    · dsimp only
      with_reducible refine KeepsLaws.comp ?_ (State.evinOverrun_keeps ..) (KeepsLaws.subI rfl rfl)
      exact KeepsLaws.refl ..

theorem State.evinActive_keeps (s : State) (n : ℕ) (held : ℕ) (t : ℕ) :
    Keeps 268301788 1065974318030748833501329694031722078896330101259178584432604511957258212035194761689310045999104 s (State.evinActive s n held t) := by
  unfold State.evinActive
  extract_lets
  rename_i e0 e1 e2
  have h_e2 : Keeps 268301788 1065974318030748833501329694031722078896330101259178584432604511957258212035194761689310045999104 s e2 := by
    unfold e2
    with_reducible refine KeepsLaws.comp ?_ (State.modEvi_keeps ..) (KeepsLaws.subI rfl rfl)
    exact KeepsLaws.refl ..
  clear_value e2
  split
  with_reducible refine KeepsLaws.ite ?_ ?_
  · with_reducible refine KeepsLaws.comp ?_ (State.eventAt_keeps ..) (KeepsLaws.subI rfl rfl)
    with_reducible refine KeepsLaws.ofSnd (by assumption) ?_
    with_reducible refine KeepsLaws.comp ?_ (State.evinAct_keeps ..) (KeepsLaws.subI rfl rfl)
    assumption
  · with_reducible refine KeepsLaws.ofSnd (by assumption) ?_
    with_reducible refine KeepsLaws.comp ?_ (State.evinAct_keeps ..) (KeepsLaws.subI rfl rfl)
    assumption

theorem State.evinRelease_keeps (s : State) (n : ℕ) (held : ℕ) :
    Keeps 140 68720070656 s (State.evinRelease s n held) := by
  unfold State.evinRelease
  extract_lets
  rename_i e0 e1
  have h_e1 : Keeps 140 68720070656 s e1 := by
    unfold e1
    with_reducible refine KeepsLaws.stepSetBit ?_ (KeepsLaws.bitI rfl)
    with_reducible refine KeepsLaws.comp ?_ (State.modEvi_keeps ..) (KeepsLaws.subI rfl rfl)
    exact KeepsLaws.refl ..
  clear_value e1
  with_reducible refine KeepsLaws.ite ?_ ?_
  · with_reducible refine KeepsLaws.comp ?_ (State.event_keeps ..) (KeepsLaws.subI rfl rfl)
    assumption
  · assumption

theorem execEvinChangeAccepted_keeps (n : Fin 8) (level : Bool) (heldNs : ℕ) (s : State) :
    KeepsO 268301788 1065974318030748833501329694031722078896330101259178584432604511957258212035194761689378765475840 s (execEvinChangeAccepted n level heldNs s) := by
  unfold execEvinChangeAccepted
  with_reducible refine KeepsLaws.iteO ?_ ?_
  · with_reducible refine KeepsLaws.next ?_
    exact KeepsLaws.refl ..
  · extract_lets
    rename_i e0 e1
    have h_e0 : Keeps 268301788 1065974318030748833501329694031722078896330101259178584432604511957258212035194761689378765475840 s e0 := by
      unfold e0
      with_reducible refine KeepsLaws.stepSetBit ?_ (KeepsLaws.bitI rfl)
      exact KeepsLaws.refl ..
    clear_value e0
    with_reducible refine KeepsLaws.iteO ?_ ?_
    · with_reducible refine KeepsLaws.next ?_
      assumption
    · with_reducible refine KeepsLaws.next ?_
      with_reducible refine KeepsLaws.ite ?_ ?_
      · with_reducible refine KeepsLaws.comp ?_ (State.evinActive_keeps ..) (KeepsLaws.subI rfl rfl)
        assumption
      · with_reducible refine KeepsLaws.comp ?_ (State.evinRelease_keeps ..) (KeepsLaws.subI rfl rfl)
        assumption

theorem execEviConfig_keeps (r : Req) (b : Body) (s : State) :
    KeepsO 156 128851705856 s (execEviConfig r b s) := by
  unfold execEviConfig
  extract_lets
  rename_i e0 e1
  with_reducible refine KeepsLaws.command (KeepsLaws.subI rfl rfl) (fun x => ?_)
  with_reducible refine KeepsLaws.doneA ?_
  with_reducible refine KeepsLaws.stepSetBit ?_ (KeepsLaws.bitI rfl)
  with_reducible refine KeepsLaws.stepReg ?_ (KeepsLaws.bitI rfl)
  with_reducible refine KeepsLaws.stepSetBits ?_ (KeepsLaws.bitI rfl)
  with_reducible refine KeepsLaws.stepReg ?_ (KeepsLaws.bitI rfl)
  with_reducible refine KeepsLaws.comp ?_ (State.modEvi_keeps ..) (KeepsLaws.subI rfl rfl)
  exact KeepsLaws.refl ..

theorem execEvinActionPendingExpiry_keeps (n : Fin 8) (s : State) :
    KeepsO 268301788 1065974318030748833501329694031722078896330101259178584429882253021890704327487764829821540569088 s (execEvinActionPendingExpiry n s) := by
  unfold execEvinActionPendingExpiry
  split
  · with_reducible refine KeepsLaws.next ?_
    with_reducible refine KeepsLaws.ite ?_ ?_
    · with_reducible refine KeepsLaws.comp ?_ (State.evinSelect_keeps ..) (KeepsLaws.subI rfl rfl)
      exact KeepsLaws.refl ..
    · exact KeepsLaws.refl ..
  · with_reducible refine KeepsLaws.next ?_
    exact KeepsLaws.refl ..

theorem execEvinStuckTimeout_keeps (n : Fin 8) (s : State) :
    KeepsO 12 68720070656 s (execEvinStuckTimeout n s) := by
  unfold execEvinStuckTimeout
  extract_lets
  rename_i e0
  split
  · with_reducible refine KeepsLaws.iteO ?_ ?_
    · with_reducible refine KeepsLaws.next ?_
      with_reducible refine KeepsLaws.comp ?_ (State.event_keeps ..) (KeepsLaws.subI rfl rfl)
      with_reducible refine KeepsLaws.stepSetBit ?_ (KeepsLaws.bitI rfl)
      exact KeepsLaws.refl ..
    · with_reducible refine KeepsLaws.next ?_
      exact KeepsLaws.refl ..
  · with_reducible refine KeepsLaws.next ?_
    exact KeepsLaws.refl ..

end Sys2Proof.Machine
end

