-- ==== Sys2Proof/Laws/FrameFlows.lean ====
section
/-! SUPPORT. What each operation of Machine/Flows.lean can change at most (Keeps): masks of fields and of registers. -/

namespace Sys2Proof.Machine

theorem State.decideSend_keeps (s : State) (h : ℕ) :
    Keeps 1048844 31828687130226345097944463881396533766429284994882587097622082251464252576490864530493440 s (State.decideSend s h) := by
  unfold State.decideSend
  with_reducible refine KeepsLaws.ite ?_ ?_
  · exact KeepsLaws.refl ..
  · split
    · with_reducible refine KeepsLaws.stepSetBit ?_ (KeepsLaws.bitI rfl)
      exact KeepsLaws.refl ..
    · extract_lets
      rename_i e0
      have h_e0 : Keeps 1048844 31828687130226345097944463881396533766429284994882587097622082251464252576490864530493440 s e0 := by
        unfold e0
        with_reducible refine KeepsLaws.stepSetBit ?_ (KeepsLaws.bitI rfl)
        with_reducible refine KeepsLaws.comp ?_ (State.modHead_keeps ..) (KeepsLaws.subI rfl rfl)
        exact KeepsLaws.refl ..
      clear_value e0
      with_reducible refine KeepsLaws.comp ?_ (State.eventPerSec_keeps ..) (KeepsLaws.subI rfl rfl)
      with_reducible refine KeepsLaws.stepAddSatBits ?_ (KeepsLaws.bitI rfl)
      assumption

theorem execInjectFrameSent_keeps (mac : Fin 16) (s : State) :
    KeepsO 1052 144115188078542848 s (execInjectFrameSent mac s) := by
  unfold execInjectFrameSent
  split
  · with_reducible refine KeepsLaws.next ?_
    exact KeepsLaws.refl ..
  · with_reducible refine KeepsLaws.iteO ?_ ?_
    · with_reducible refine KeepsLaws.next ?_
      exact KeepsLaws.refl ..
    · extract_lets
      rename_i e0 e1 e2 e3
      have h_e1 : Keeps 1052 144115188078542848 s e1 := by
        unfold e1
        with_reducible refine KeepsLaws.comp ?_ (KeepsLaws.emit ..) (KeepsLaws.subI rfl rfl)
        exact KeepsLaws.refl ..
      clear_value e1
      have h_e3 : Keeps 1052 144115188078542848 s e3 := by
        unfold e3
        with_reducible refine KeepsLaws.stepBumpSat ?_ (KeepsLaws.bitI rfl)
        with_reducible refine KeepsLaws.comp ?_ (KeepsLaws.upd_ing ..) (KeepsLaws.subI rfl rfl)
        assumption
      clear_value e3
      with_reducible refine KeepsLaws.iteO ?_ ?_
      · with_reducible refine KeepsLaws.next ?_
        with_reducible refine KeepsLaws.comp ?_ (State.replyR_keeps ..) (KeepsLaws.subI rfl rfl)
        assumption
      · with_reducible refine KeepsLaws.next ?_
        with_reducible refine KeepsLaws.comp ?_ (KeepsLaws.upd_ing ..) (KeepsLaws.subI rfl rfl)
        assumption

theorem execEncFlowPacketSend_keeps (c : Fin 16) (s : State) :
    KeepsO 1048844 1870722095783555735300716585876842265159593655603200 s (execEncFlowPacketSend c s) := by
  unfold execEncFlowPacketSend
  extract_lets
  rename_i e0 e1 e2
  with_reducible refine KeepsLaws.iteO ?_ ?_
  · with_reducible refine KeepsLaws.next ?_
    exact KeepsLaws.refl ..
  · split
    · with_reducible refine KeepsLaws.next ?_
      exact KeepsLaws.refl ..
    · with_reducible refine KeepsLaws.iteO ?_ ?_
      · with_reducible refine KeepsLaws.iteO ?_ ?_
        · with_reducible refine KeepsLaws.next ?_
          exact KeepsLaws.refl ..
        · with_reducible refine KeepsLaws.next ?_
          with_reducible refine KeepsLaws.comp ?_ (State.eventPerSec_keeps ..) (KeepsLaws.subI rfl rfl)
          with_reducible refine KeepsLaws.stepBumpSat ?_ (KeepsLaws.bitI rfl)
          with_reducible refine KeepsLaws.comp ?_ (State.setFlow_keeps ..) (KeepsLaws.subI rfl rfl)
          exact KeepsLaws.refl ..
      · with_reducible refine KeepsLaws.iteO ?_ ?_
        · with_reducible refine KeepsLaws.next ?_
          exact KeepsLaws.refl ..
        · extract_lets
          rename_i e3
          have h_e3 : Keeps 1048844 1870722095783555735300716585876842265159593655603200 s e3 := by
            unfold e3
            with_reducible refine KeepsLaws.comp ?_ (State.setFlow_keeps ..) (KeepsLaws.subI rfl rfl)
            exact KeepsLaws.refl ..
          clear_value e3
          with_reducible refine KeepsLaws.next ?_
          with_reducible refine KeepsLaws.comp ?_ (KeepsLaws.emit ..) (KeepsLaws.subI rfl rfl)
          with_reducible refine KeepsLaws.stepSetBit ?_ (KeepsLaws.bitI rfl)
          assumption

theorem execFlowPacketSend_keeps (f : Fin 48) (s : State) :
    KeepsO 74449164 31874764808013824109345335691251282766824136363726882099220979506881687312979447463350272 s (execFlowPacketSend f s) := by
  unfold execFlowPacketSend
  extract_lets
  rename_i e0 e1 e2 e3
  split
  · with_reducible refine KeepsLaws.next ?_
    exact KeepsLaws.refl ..
  · with_reducible refine KeepsLaws.iteO ?_ ?_
    · with_reducible refine KeepsLaws.next ?_
      exact KeepsLaws.refl ..
    · extract_lets
      rename_i e4 e5 e6 e7 e8 e9 e10 e11 e12 e13 e14
      have h_e4 : Keeps 74449164 31874764808013824109345335691251282766824136363726882099220979506881687312979447463350272 s e4 := by
        unfold e4
        with_reducible refine KeepsLaws.ite ?_ ?_
        · with_reducible refine KeepsLaws.comp ?_ (State.decideSend_keeps ..) (KeepsLaws.subI rfl rfl)
          exact KeepsLaws.refl ..
        · exact KeepsLaws.refl ..
      clear_value e4
      have h_e13 : Keeps 74449164 31874764808013824109345335691251282766824136363726882099220979506881687312979447463350272 s e13 := by
        unfold e13
        with_reducible refine KeepsLaws.comp ?_ (State.setFlow_keeps ..) (KeepsLaws.subI rfl rfl)
        assumption
      clear_value e13
      have h_e14 : Keeps 74449164 31874764808013824109345335691251282766824136363726882099220979506881687312979447463350272 s e14 := by
        unfold e14
        with_reducible refine KeepsLaws.stepReg ?_ (KeepsLaws.bitI rfl)
        with_reducible refine KeepsLaws.stepBumpWrap ?_ (KeepsLaws.bitI rfl)
        with_reducible refine KeepsLaws.stepSetBit ?_ (KeepsLaws.bitI rfl)
        assumption
      clear_value e14
      with_reducible refine KeepsLaws.iteO ?_ ?_
      · with_reducible refine KeepsLaws.next ?_
        with_reducible refine KeepsLaws.stepSetBit ?_ (KeepsLaws.bitI rfl)
        with_reducible refine KeepsLaws.comp ?_ (State.setFlow_keeps ..) (KeepsLaws.subI rfl rfl)
        assumption
      · with_reducible refine KeepsLaws.iteO ?_ ?_
        · with_reducible refine KeepsLaws.iteO ?_ ?_
          · with_reducible refine KeepsLaws.next ?_
            assumption
          · with_reducible refine KeepsLaws.next ?_
            with_reducible refine KeepsLaws.comp ?_ (State.fault_keeps ..) (KeepsLaws.subI rfl rfl)
            with_reducible refine KeepsLaws.comp ?_ (State.eventPerSec_keeps ..) (KeepsLaws.subI rfl rfl)
            with_reducible refine KeepsLaws.stepBumpSat ?_ (KeepsLaws.bitI rfl)
            with_reducible refine KeepsLaws.comp ?_ (State.setFlow_keeps ..) (KeepsLaws.subI rfl rfl)
            assumption
        · with_reducible refine KeepsLaws.iteO ?_ ?_
          · with_reducible refine KeepsLaws.next ?_
            assumption
          · with_reducible refine KeepsLaws.next ?_
            with_reducible refine KeepsLaws.comp ?_ (KeepsLaws.emit ..) (KeepsLaws.subI rfl rfl)
            assumption

theorem execAudTxPacketSend_keeps (t : Fin 128) (s : State) :
    KeepsO 67108864 421249166674228746791672110734681729275580381602196445017243910144 s (execAudTxPacketSend t s) := by
  unfold execAudTxPacketSend
  extract_lets
  rename_i e0 e1 e2
  split
  · with_reducible refine KeepsLaws.next ?_
    exact KeepsLaws.refl ..
  · with_reducible refine KeepsLaws.iteO ?_ ?_
    · with_reducible refine KeepsLaws.next ?_
      exact KeepsLaws.refl ..
    · extract_lets
      rename_i e3 e4 e5
      have h_e5 : Keeps 67108864 421249166674228746791672110734681729275580381602196445017243910144 s e5 := by
        unfold e5
        with_reducible refine KeepsLaws.comp ?_ (KeepsLaws.upd_aud ..) (KeepsLaws.subI rfl rfl)
        exact KeepsLaws.refl ..
      clear_value e5
      with_reducible refine KeepsLaws.iteO ?_ ?_
      · with_reducible refine KeepsLaws.next ?_
        assumption
      · with_reducible refine KeepsLaws.next ?_
        with_reducible refine KeepsLaws.comp ?_ (KeepsLaws.emit ..) (KeepsLaws.subI rfl rfl)
        with_reducible refine KeepsLaws.stepBumpWrap ?_ (KeepsLaws.bitI rfl)
        assumption

end Sys2Proof.Machine
end

