-- ==== Sys2Proof/Laws/FrameLanes.lean ====
section
/-! SUPPORT. What each operation of Machine/Lanes.lean can change at most (Keeps): masks of fields and of registers. -/

namespace Sys2Proof.Machine

theorem State.addPrbsErrs_keeps (s : State) (l : ℕ) (n : ℕ) :
    Keeps 0 266998379490113760299377713271194014325338065294581596243380200977777465722580068752870260867072 s (State.addPrbsErrs s l n) := by
  unfold State.addPrbsErrs
  with_reducible refine KeepsLaws.stepAddSat ?_ (KeepsLaws.bitI rfl)
  exact KeepsLaws.refl ..

theorem State.laneErrors_keeps (s : State) (l : ℕ) (code : ℕ) (corrected : ℕ) (uncorrectable : ℕ) :
    Keeps 268 25031098077198165028066660619174438843000443621367024647816893841666637411491881445581587550208 s (State.laneErrors s l code corrected uncorrectable) := by
  unfold State.laneErrors
  extract_lets
  rename_i e0 e1
  have h_e0 : Keeps 268 25031098077198165028066660619174438843000443621367024647816893841666637411491881445581587550208 s e0 := by
    unfold e0
    with_reducible refine KeepsLaws.ite ?_ ?_
    · exact KeepsLaws.refl ..
    · with_reducible refine KeepsLaws.stepAddSat ?_ (KeepsLaws.bitI rfl)
      exact KeepsLaws.refl ..
  clear_value e0
  have h_e1 : Keeps 268 25031098077198165028066660619174438843000443621367024647816893841666637411491881445581587550208 s e1 := by
    unfold e1
    with_reducible refine KeepsLaws.stepAddSatBits ?_ (KeepsLaws.bitI rfl)
    with_reducible refine KeepsLaws.stepAddSatBits ?_ (KeepsLaws.bitI rfl)
    assumption
  clear_value e1
  with_reducible refine KeepsLaws.ite ?_ ?_
  · with_reducible refine KeepsLaws.ite ?_ ?_
    · assumption
    · with_reducible refine KeepsLaws.comp ?_ (State.eventPerSec_keeps ..) (KeepsLaws.subI rfl rfl)
      assumption
  · assumption

theorem execSlPrbsStop_keeps (r : Req) (b : Body) (s : State) :
    KeepsO 16777244 738417393277345868327966488265645945868513086830327227110598368329165803639010502644656817901568 s (execSlPrbsStop r b s) := by
  unfold execSlPrbsStop
  with_reducible refine KeepsLaws.command (KeepsLaws.subI rfl rfl) (fun x => ?_)
  with_reducible refine KeepsLaws.doneA ?_
  with_reducible refine KeepsLaws.comp ?_ (State.endPrbs_keeps ..) (KeepsLaws.subI rfl rfl)
  exact KeepsLaws.refl ..

theorem execPrbsTestEnd_keeps (l : Fin 67) (errs : ℕ) (s : State) :
    KeepsO 16777244 1005415772767459628627344201536839960193851152124908823353978569306943269361590571397527078768640 s (execPrbsTestEnd l errs s) := by
  unfold execPrbsTestEnd
  split
  · with_reducible refine KeepsLaws.iteO ?_ ?_
    · with_reducible refine KeepsLaws.next ?_
      with_reducible refine KeepsLaws.comp ?_ (State.endPrbs_keeps ..) (KeepsLaws.subI rfl rfl)
      with_reducible refine KeepsLaws.ite ?_ ?_
      · with_reducible refine KeepsLaws.comp ?_ (State.addPrbsErrs_keeps ..) (KeepsLaws.subI rfl rfl)
        exact KeepsLaws.refl ..
      · exact KeepsLaws.refl ..
    · with_reducible refine KeepsLaws.next ?_
      exact KeepsLaws.refl ..
  · with_reducible refine KeepsLaws.next ?_
    exact KeepsLaws.refl ..

theorem execLaneLockChange_keeps (l : Fin 67) (locked : Bool) (code : ℕ) (corrected : ℕ) (uncorrectable : ℕ) (s : State) :
    KeepsO 4195596 62577745565987839877506633164472783217616739128759674717553022684514576198599344387752509116416 s (execLaneLockChange l locked code corrected uncorrectable s) := by
  unfold execLaneLockChange
  with_reducible refine KeepsLaws.iteO ?_ ?_
  · with_reducible refine KeepsLaws.next ?_
    with_reducible refine KeepsLaws.comp ?_ (State.laneLock_keeps ..) (KeepsLaws.subI rfl rfl)
    with_reducible refine KeepsLaws.comp ?_ (State.laneErrors_keeps ..) (KeepsLaws.subI rfl rfl)
    exact KeepsLaws.refl ..
  · with_reducible refine KeepsLaws.next ?_
    exact KeepsLaws.refl ..

theorem execLanePllUnlock_keeps (q : Fin 16) (video : Bool) (s : State) :
    KeepsO 74449164 2085924885844191539817899785803013091665703702680264655157337173798469641989764561514338521088 s (execLanePllUnlock q video s) := by
  unfold execLanePllUnlock
  extract_lets
  rename_i e0
  with_reducible refine KeepsLaws.iteO ?_ ?_
  · with_reducible refine KeepsLaws.next ?_
    with_reducible refine KeepsLaws.comp ?_ (State.fault_keeps ..) (KeepsLaws.subI rfl rfl)
    with_reducible refine KeepsLaws.stepSetBit ?_ (KeepsLaws.bitI rfl)
    exact KeepsLaws.refl ..
  · with_reducible refine KeepsLaws.next ?_
    exact KeepsLaws.refl ..

theorem execPrbsCheckerLockChange_keeps (l : Fin 67) (tail : List Bool) (errs : ℕ) (s : State) :
    KeepsO 16777216 1005415772767459628627344201536839960193851152124908823353978569306943269361590571397527076077568 s (execPrbsCheckerLockChange l tail errs s) := by
  unfold execPrbsCheckerLockChange
  split
  · with_reducible refine KeepsLaws.next ?_
    exact KeepsLaws.refl ..
  · with_reducible refine KeepsLaws.iteO ?_ ?_
    · with_reducible refine KeepsLaws.next ?_
      exact KeepsLaws.refl ..
    · with_reducible refine KeepsLaws.iteO ?_ ?_
      · with_reducible refine KeepsLaws.iteO ?_ ?_
        · with_reducible refine KeepsLaws.next ?_
          with_reducible refine KeepsLaws.stepSetBit ?_ (KeepsLaws.bitI rfl)
          with_reducible refine KeepsLaws.comp ?_ (State.setPrbs_keeps ..) (KeepsLaws.subI rfl rfl)
          exact KeepsLaws.refl ..
        · with_reducible refine KeepsLaws.next ?_
          exact KeepsLaws.refl ..
      · with_reducible refine KeepsLaws.iteO ?_ ?_
        · extract_lets
          rename_i e0 e1
          have h_e1 : Keeps 16777216 1005415772767459628627344201536839960193851152124908823353978569306943269361590571397527076077568 s e1 := by
            unfold e1
            with_reducible refine KeepsLaws.stepSetBit ?_ (KeepsLaws.bitI rfl)
            with_reducible refine KeepsLaws.comp ?_ (State.setPrbsBits_keeps ..) (KeepsLaws.subI rfl rfl)
            with_reducible refine KeepsLaws.comp ?_ (State.setPrbs_keeps ..) (KeepsLaws.subI rfl rfl)
            exact KeepsLaws.refl ..
          clear_value e1
          with_reducible refine KeepsLaws.next ?_
          with_reducible refine KeepsLaws.stepAddSatBits ?_ (KeepsLaws.bitI rfl)
          with_reducible refine KeepsLaws.comp ?_ (State.addPrbsErrs_keeps ..) (KeepsLaws.subI rfl rfl)
          assumption
        · with_reducible refine KeepsLaws.next ?_
          exact KeepsLaws.refl ..

theorem execSlPrbs_keeps (r : Req) (b : Body) (s : State) :
    KeepsO 16777244 1005415772767459628627344201536839960193851152124908823353978569306943269361590571397527078764544 s (execSlPrbs r b s) := by
  unfold execSlPrbs
  extract_lets
  rename_i e0 e1
  with_reducible refine KeepsLaws.command (KeepsLaws.subI rfl rfl) (fun x => ?_)
  extract_lets
  rename_i e2 e3 e4
  have h_e3 : Keeps 16777244 1005415772767459628627344201536839960193851152124908823353978569306943269361590571397527078764544 x e3 := by
    unfold e3
    with_reducible refine KeepsLaws.stepReg ?_ (KeepsLaws.bitI rfl)
    with_reducible refine KeepsLaws.comp ?_ (State.setPrbsBits_keeps ..) (KeepsLaws.subI rfl rfl)
    with_reducible refine KeepsLaws.comp ?_ (State.setPrbs_keeps ..) (KeepsLaws.subI rfl rfl)
    exact KeepsLaws.refl ..
  clear_value e3
  have h_e4 : Keeps 16777244 1005415772767459628627344201536839960193851152124908823353978569306943269361590571397527078764544 x e4 := by
    unfold e4
    with_reducible refine KeepsLaws.stepReg ?_ (KeepsLaws.bitI rfl)
    assumption
  clear_value e4
  with_reducible refine KeepsLaws.laterA ?_
  with_reducible refine KeepsLaws.ite ?_ ?_
  · with_reducible refine KeepsLaws.comp ?_ (State.setLaneRate_keeps ..) (KeepsLaws.subI rfl rfl)
    assumption
  · assumption

theorem execPrbsNolockTimeout_keeps (l : Fin 67) (s : State) :
    KeepsO 16777244 738417393277345868327966488265645945868513086830327227110598368329165803639010502644656817901568 s (execPrbsNolockTimeout l s) := by
  unfold execPrbsNolockTimeout
  split
  · with_reducible refine KeepsLaws.iteO ?_ ?_
    · with_reducible refine KeepsLaws.next ?_
      with_reducible refine KeepsLaws.comp ?_ (State.endPrbs_keeps ..) (KeepsLaws.subI rfl rfl)
      exact KeepsLaws.refl ..
    · with_reducible refine KeepsLaws.next ?_
      exact KeepsLaws.refl ..
  · with_reducible refine KeepsLaws.next ?_
    exact KeepsLaws.refl ..

end Sys2Proof.Machine
end

