-- ==== Sys2Proof/Laws/FramePair.lean ====
section
/-! SUPPORT. What each operation of Machine/Pair.lean can change at most (Keeps): masks of fields and of registers. -/

namespace Sys2Proof.Machine

theorem State.applySnapshot_keeps (s : State) (m : Snapshot) :
    Keeps 5767180 31082702275611665134711390509176302506369853277173062991398814750327077432155462766592 s (State.applySnapshot s m) := by
  unfold State.applySnapshot
  extract_lets
  rename_i e0 e1 e2 e3 e4 e5 e6
  have h_e0 : Keeps 5767180 31082702275611665134711390509176302506369853277173062991398814750327077432155462766592 s e0 := by
    unfold e0
    with_reducible refine KeepsLaws.foldl (fun x a => ?_) ?_
    · with_reducible refine KeepsLaws.comp ?_ (State.modHead_keeps ..) (KeepsLaws.subI rfl rfl)
      exact KeepsLaws.refl ..
    · exact KeepsLaws.refl ..
  clear_value e0
  have h_e1 : Keeps 5767180 31082702275611665134711390509176302506369853277173062991398814750327077432155462766592 s e1 := by
    unfold e1
    with_reducible refine KeepsLaws.foldl (fun x a => ?_) ?_
    · with_reducible refine KeepsLaws.comp ?_ (State.modLayer_keeps ..) (KeepsLaws.subI rfl rfl)
      exact KeepsLaws.refl ..
    · assumption
  clear_value e1
  have h_e2 : Keeps 5767180 31082702275611665134711390509176302506369853277173062991398814750327077432155462766592 s e2 := by
    unfold e2
    with_reducible refine KeepsLaws.foldl (fun x a => ?_) ?_
    · with_reducible refine KeepsLaws.ite ?_ ?_
      · with_reducible refine KeepsLaws.comp ?_ (State.modChan_keeps ..) (KeepsLaws.subI rfl rfl)
        exact KeepsLaws.refl ..
      · exact KeepsLaws.refl ..
    · assumption
  clear_value e2
  have h_e4 : Keeps 5767180 31082702275611665134711390509176302506369853277173062991398814750327077432155462766592 s e4 := by
    unfold e4
    with_reducible refine KeepsLaws.foldl (fun x a => ?_) ?_
    · with_reducible refine KeepsLaws.ite ?_ ?_
      · exact KeepsLaws.refl ..
      · with_reducible refine KeepsLaws.comp ?_ (State.setChanState_keeps ..) (KeepsLaws.subI rfl rfl)
        exact KeepsLaws.refl ..
    · assumption
  clear_value e4
  have h_e5 : Keeps 5767180 31082702275611665134711390509176302506369853277173062991398814750327077432155462766592 s e5 := by
    unfold e5
    with_reducible refine KeepsLaws.ite ?_ ?_
    · assumption
    · with_reducible refine KeepsLaws.comp ?_ (State.forwardKey_keeps ..) (KeepsLaws.subI rfl rfl)
      assumption
  clear_value e5
  with_reducible refine KeepsLaws.comp ?_ (State.setPairState_keeps ..) (KeepsLaws.subI rfl rfl)
  with_reducible refine KeepsLaws.comp ?_ (KeepsLaws.upd_pair ..) (KeepsLaws.subI rfl rfl)
  assumption

theorem State.askSnapshot_keeps (s : State) :
    Keeps 4194304 0 s (State.askSnapshot s) := by
  unfold State.askSnapshot
  with_reducible refine KeepsLaws.comp ?_ (State.seam_keeps ..) (KeepsLaws.subI rfl rfl)
  with_reducible refine KeepsLaws.comp ?_ (KeepsLaws.upd_pair ..) (KeepsLaws.subI rfl rfl)
  exact KeepsLaws.refl ..

theorem State.takeover_keeps (s : State) (cause : ℕ) :
    Keeps 5767196 12464163612520277719019267594179697305017773623210860349784016151186854661565483661725696 s (State.takeover s cause) := by
  unfold State.takeover
  extract_lets
  rename_i e0 e1 e2 e3 e4 e5
  have h_e1 : Keeps 5767196 12464163612520277719019267594179697305017773623210860349784016151186854661565483661725696 s e1 := by
    unfold e1
    with_reducible refine KeepsLaws.stepBumpWrap ?_ (KeepsLaws.bitI rfl)
    with_reducible refine KeepsLaws.comp ?_ (State.setPairState_keeps ..) (KeepsLaws.subI rfl rfl)
    with_reducible refine KeepsLaws.comp ?_ (State.setDutyOut_keeps ..) (KeepsLaws.subI rfl rfl)
    exact KeepsLaws.refl ..
  clear_value e1
  have h_e2 : Keeps 5767196 12464163612520277719019267594179697305017773623210860349784016151186854661565483661725696 s e2 := by
    unfold e2
    with_reducible refine KeepsLaws.comp ?_ (State.event_keeps ..) (KeepsLaws.subI rfl rfl)
    assumption
  clear_value e2
  have h_e3 : Keeps 5767196 12464163612520277719019267594179697305017773623210860349784016151186854661565483661725696 s e3 := by
    unfold e3
    with_reducible refine KeepsLaws.comp ?_ (State.abortDrills_keeps ..) (KeepsLaws.subI rfl rfl)
    with_reducible refine KeepsLaws.comp ?_ (State.resumeChans_keeps ..) (KeepsLaws.subI rfl rfl)
    assumption
  clear_value e3
  have h_e5 : Keeps 5767196 12464163612520277719019267594179697305017773623210860349784016151186854661565483661725696 s e5 := by
    unfold e5
    with_reducible refine KeepsLaws.comp ?_ (KeepsLaws.upd_pair ..) (KeepsLaws.subI rfl rfl)
    assumption
  clear_value e5
  with_reducible refine KeepsLaws.foldl (fun x a => ?_) ?_
  · with_reducible refine KeepsLaws.comp ?_ (State.modHead_keeps ..) (KeepsLaws.subI rfl rfl)
    exact KeepsLaws.refl ..
  · assumption

theorem State.seamEvent_keeps (s : State) (what : ℕ) :
    Keeps 12 593920 s (State.seamEvent s what) := by
  unfold State.seamEvent
  with_reducible refine KeepsLaws.comp ?_ (State.event_keeps ..) (KeepsLaws.subI rfl rfl)
  exact KeepsLaws.refl ..

theorem State.checkDuty_keeps (s : State) :
    Keeps 5767196 12464163612520277719019267594179697305017773623210860349784016151186854661565483661725696 s (State.checkDuty s) := by
  unfold State.checkDuty
  with_reducible refine KeepsLaws.ite ?_ ?_
  · with_reducible refine KeepsLaws.comp ?_ (State.takeover_keeps ..) (KeepsLaws.subI rfl rfl)
    exact KeepsLaws.refl ..
  · with_reducible refine KeepsLaws.ite ?_ ?_
    · with_reducible refine KeepsLaws.comp ?_ (State.seamEvent_keeps ..) (KeepsLaws.subI rfl rfl)
      with_reducible refine KeepsLaws.comp ?_ (KeepsLaws.upd_pair ..) (KeepsLaws.subI rfl rfl)
      exact KeepsLaws.refl ..
    · exact KeepsLaws.refl ..

theorem State.countRecord_keeps (s : State) :
    Keeps 4194304 124330809102446660538845562036705210025114037699336929360115994223289874253133343883264 s (State.countRecord s) := by
  unfold State.countRecord
  extract_lets
  rename_i e0 e1
  with_reducible refine KeepsLaws.ite ?_ ?_
  · with_reducible refine KeepsLaws.comp ?_ (KeepsLaws.upd_pair ..) (KeepsLaws.subI rfl rfl)
    exact KeepsLaws.refl ..
  · with_reducible refine KeepsLaws.stepSetBits ?_ (KeepsLaws.bitI rfl)
    with_reducible refine KeepsLaws.comp ?_ (KeepsLaws.upd_pair ..) (KeepsLaws.subI rfl rfl)
    exact KeepsLaws.refl ..

theorem State.endHandover_keeps (s : State) :
    Keeps 4194332 12961486848930064361174649842326518145118138430155874885792092397777969390889288541474816 s (State.endHandover s) := by
  unfold State.endHandover
  with_reducible refine KeepsLaws.comp ?_ (State.answerSwitch_keeps ..) (KeepsLaws.subI rfl rfl)
  with_reducible refine KeepsLaws.stepBumpWrap ?_ (KeepsLaws.bitI rfl)
  with_reducible refine KeepsLaws.comp ?_ (State.setPairState_keeps ..) (KeepsLaws.subI rfl rfl)
  with_reducible refine KeepsLaws.comp ?_ (State.setDutyOut_keeps ..) (KeepsLaws.subI rfl rfl)
  exact KeepsLaws.refl ..

theorem State.latchMiss_keeps (s : State) (h : ℕ) (l : ℕ) :
    Keeps 1048576 63657374260452690195888927762793067532858478645912841013811776772626460385293000564015104 s (State.latchMiss s h l) := by
  unfold State.latchMiss
  with_reducible refine KeepsLaws.comp ?_ (State.modLayer_keeps ..) (KeepsLaws.subI rfl rfl)
  with_reducible refine KeepsLaws.stepBumpSat ?_ (KeepsLaws.bitI rfl)
  exact KeepsLaws.refl ..

theorem State.mirrorLatch_keeps (s : State) (h : ℕ) (l : ℕ) (seq : ℕ) (t : ℕ) :
    Keeps 34701580 63657374260452690195888927762793067532858478683545348536332203323967984970457479350128640 s (State.mirrorLatch s h l seq t) := by
  unfold State.mirrorLatch
  extract_lets
  rename_i e0 e1 e2
  have h_e2 : Keeps 34701580 63657374260452690195888927762793067532858478683545348536332203323967984970457479350128640 s e2 := by
    unfold e2
    split
    · with_reducible refine KeepsLaws.comp ?_ (State.modPool_keeps ..) (KeepsLaws.subI rfl rfl)
      exact KeepsLaws.refl ..
    · exact KeepsLaws.refl ..
  clear_value e2
  with_reducible refine KeepsLaws.ite ?_ ?_
  · exact KeepsLaws.refl ..
  · split
    · extract_lets
      rename_i e3 e4
      have h_e3 : Keeps 34701580 63657374260452690195888927762793067532858478683545348536332203323967984970457479350128640 s e3 := by
        unfold e3
        with_reducible refine KeepsLaws.comp ?_ (State.predecimate_keeps ..) (KeepsLaws.subI rfl rfl)
        with_reducible refine KeepsLaws.comp ?_ (State.modLayer_keeps ..) (KeepsLaws.subI rfl rfl)
        with_reducible refine KeepsLaws.comp ?_ (State.collect_keeps ..) (KeepsLaws.subI rfl rfl)
        with_reducible refine KeepsLaws.comp ?_ (State.modPool_keeps ..) (KeepsLaws.subI rfl rfl)
        assumption
      clear_value e3
      with_reducible refine KeepsLaws.comp ?_ (State.modHist_keeps ..) (KeepsLaws.subI rfl rfl)
      with_reducible refine KeepsLaws.comp ?_ (State.geometry_keeps ..) (KeepsLaws.subI rfl rfl)
      assumption
    · with_reducible refine KeepsLaws.comp ?_ (State.latchMiss_keeps ..) (KeepsLaws.subI rfl rfl)
      exact KeepsLaws.refl ..

theorem State.profileDiff_keeps (s : State) :
    Keeps 12 593920 s (State.profileDiff s) := by
  unfold State.profileDiff
  with_reducible refine KeepsLaws.comp ?_ (State.event_keeps ..) (KeepsLaws.subI rfl rfl)
  exact KeepsLaws.refl ..

theorem State.seamIn_keeps {F R : ℕ} {s : State} {w : SeamWire} {f : State → State} (hs : KeepsLaws.sub 74449164 F 419070105094818993017408495964864630142908459032516717434007565860901730533782571257856 R = true) (k : ∀ x, Keeps F R x (f x)) :
    Keeps F R s (State.seamIn s w f) := by
  unfold State.seamIn
  dsimp only
  refine KeepsLaws.ite ?_ (KeepsLaws.ite (KeepsLaws.trans ?_ (k _)) ?_) <;> refine KeepsLaws.mono ?_ hs
  all_goals
    repeat' first
      | exact KeepsLaws.refl ..
      | with_reducible refine KeepsLaws.ite ?_ ?_
      | with_reducible refine KeepsLaws.stepBumpSat ?_ (KeepsLaws.bitI rfl)
      | with_reducible refine KeepsLaws.comp ?_ (State.countRecord_keeps ..) (KeepsLaws.subI rfl rfl)
      | with_reducible refine KeepsLaws.comp ?_ (State.fault_keeps ..) (KeepsLaws.subI rfl rfl)
      | with_reducible refine KeepsLaws.comp ?_ (State.setPairState_keeps ..) (KeepsLaws.subI rfl rfl)
      | with_reducible refine KeepsLaws.comp ?_ (KeepsLaws.upd_pair ..) (KeepsLaws.subI rfl rfl)

theorem State.showAligned_keeps (s : State) :
    Keeps 0 31828687130226345097944463881396533766429193651030253916189694521162207808802136034115584 s (State.showAligned s) := by
  unfold State.showAligned
  with_reducible refine KeepsLaws.foldl (fun x a => ?_) ?_
  · with_reducible refine KeepsLaws.stepSetBit ?_ (KeepsLaws.bitI rfl)
    exact KeepsLaws.refl ..
  · exact KeepsLaws.refl ..

theorem execLatchWaitTimeout_keeps (h : Fin 24) (s : State) :
    KeepsO 1048576 63657374260452690195888927762793067532858478645912841013811776772626460385293000564015104 s (execLatchWaitTimeout h s) := by
  unfold execLatchWaitTimeout
  split
  · with_reducible refine KeepsLaws.iteO ?_ ?_
    · with_reducible refine KeepsLaws.next ?_
      exact KeepsLaws.refl ..
    · extract_lets
      rename_i e0
      have h_e0 : Keeps 1048576 63657374260452690195888927762793067532858478645912841013811776772626460385293000564015104 s e0 := by
        unfold e0
        with_reducible refine KeepsLaws.stepBumpSat ?_ (KeepsLaws.bitI rfl)
        with_reducible refine KeepsLaws.comp ?_ (State.modHead_keeps ..) (KeepsLaws.subI rfl rfl)
        exact KeepsLaws.refl ..
      clear_value e0
      with_reducible refine KeepsLaws.next ?_
      with_reducible refine KeepsLaws.foldl (fun x a => ?_) ?_
      · with_reducible refine KeepsLaws.ite ?_ ?_
        · with_reducible refine KeepsLaws.comp ?_ (State.modLayer_keeps ..) (KeepsLaws.subI rfl rfl)
          exact KeepsLaws.refl ..
        · exact KeepsLaws.refl ..
      · assumption
  · with_reducible refine KeepsLaws.next ?_
    exact KeepsLaws.refl ..

theorem execDutyInChange_keeps (level : Bool) (s : State) :
    KeepsO 4194332 12961486848930064361174649842326518145118138430155874885792092397777969390889288541474816 s (execDutyInChange level s) := by
  unfold execDutyInChange
  with_reducible refine KeepsLaws.iteO ?_ ?_
  · with_reducible refine KeepsLaws.next ?_
    exact KeepsLaws.refl ..
  · extract_lets
    rename_i e0 e1 e2 e3 e4
    have h_e0 : Keeps 4194332 12961486848930064361174649842326518145118138430155874885792092397777969390889288541474816 s e0 := by
      unfold e0
      with_reducible refine KeepsLaws.stepSetBit ?_ (KeepsLaws.bitI rfl)
      exact KeepsLaws.refl ..
    clear_value e0
    have h_e2 : Keeps 4194332 12961486848930064361174649842326518145118138430155874885792092397777969390889288541474816 s e2 := by
      unfold e2
      with_reducible refine KeepsLaws.comp ?_ (KeepsLaws.upd_pair ..) (KeepsLaws.subI rfl rfl)
      assumption
    clear_value e2
    have h_e4 : Keeps 4194332 12961486848930064361174649842326518145118138430155874885792092397777969390889288541474816 s e4 := by
      unfold e4
      with_reducible refine KeepsLaws.comp ?_ (KeepsLaws.upd_pair ..) (KeepsLaws.subI rfl rfl)
      assumption
    clear_value e4
    with_reducible refine KeepsLaws.iteO ?_ ?_
    · with_reducible refine KeepsLaws.next ?_
      with_reducible refine KeepsLaws.ite ?_ ?_
      · with_reducible refine KeepsLaws.comp ?_ (State.endHandover_keeps ..) (KeepsLaws.subI rfl rfl)
        assumption
      · assumption
    · with_reducible refine KeepsLaws.next ?_
      with_reducible refine KeepsLaws.ite ?_ ?_
      · with_reducible refine KeepsLaws.comp ?_ (State.event_keeps ..) (KeepsLaws.subI rfl rfl)
        assumption
      · assumption

theorem execEncPictureReceive_keeps (w : SeamWire) (c : Fin 16) (m : EncMirror) (s : State) :
    KeepsO 74973452 419070105094818993017408495964864630142908459032522034345990705524393345762023692636160 s (execEncPictureReceive w c m s) := by
  unfold execEncPictureReceive
  with_reducible refine KeepsLaws.next ?_
  with_reducible refine State.seamIn_keeps (KeepsLaws.subI rfl rfl) (fun x => ?_)
  with_reducible refine KeepsLaws.ite ?_ ?_
  · with_reducible refine KeepsLaws.comp ?_ (State.modChan_keeps ..) (KeepsLaws.subI rfl rfl)
    exact KeepsLaws.refl ..
  · exact KeepsLaws.refl ..

theorem execSeamDownTimeout_keeps (s : State) :
    KeepsO 5767196 12464163612520277719019267594179697305017773623210860349784016151186854661565483661725696 s (execSeamDownTimeout s) := by
  unfold execSeamDownTimeout
  extract_lets
  rename_i e0
  with_reducible refine KeepsLaws.iteO ?_ ?_
  · with_reducible refine KeepsLaws.next ?_
    with_reducible refine KeepsLaws.comp ?_ (State.checkDuty_keeps ..) (KeepsLaws.subI rfl rfl)
    with_reducible refine KeepsLaws.comp ?_ (State.seamEvent_keeps ..) (KeepsLaws.subI rfl rfl)
    with_reducible refine KeepsLaws.stepSetBit ?_ (KeepsLaws.bitI rfl)
    exact KeepsLaws.refl ..
  · with_reducible refine KeepsLaws.next ?_
    exact KeepsLaws.refl ..

theorem execDutyWaitExpiry_keeps (s : State) :
    KeepsO 4194316 11966840376110491076863885346032876464917226128561179450911164443991650396864221788311552 s (execDutyWaitExpiry s) := by
  unfold execDutyWaitExpiry
  extract_lets
  rename_i e0 e1 e2
  with_reducible refine KeepsLaws.iteO ?_ ?_
  · split
    with_reducible refine KeepsLaws.next ?_
    with_reducible refine KeepsLaws.comp ?_ (State.setPairState_keeps ..) (KeepsLaws.subI rfl rfl)
    with_reducible refine KeepsLaws.comp ?_ (State.setDutyOut_keeps ..) (KeepsLaws.subI rfl rfl)
    with_reducible refine KeepsLaws.ofSnd (by assumption) ?_
    with_reducible refine KeepsLaws.comp ?_ (KeepsLaws.drawn ..) (KeepsLaws.subI rfl rfl)
    exact KeepsLaws.refl ..
  · with_reducible refine KeepsLaws.next ?_
    exact KeepsLaws.refl ..

theorem execGiveUpReceive_keeps (w : SeamWire) (_cause : ℕ) (s : State) :
    KeepsO 74973468 12852151015339485046901964699635385632654312228966209653445606988189889155847116961681408 s (execGiveUpReceive w _cause s) := by
  unfold execGiveUpReceive
  with_reducible refine KeepsLaws.next ?_
  with_reducible refine State.seamIn_keeps (KeepsLaws.subI rfl rfl) (fun x => ?_)
  with_reducible refine KeepsLaws.ite ?_ ?_
  · with_reducible refine KeepsLaws.comp ?_ (State.takeover_keeps ..) (KeepsLaws.subI rfl rfl)
    with_reducible refine KeepsLaws.comp ?_ (KeepsLaws.upd_pair ..) (KeepsLaws.subI rfl rfl)
    exact KeepsLaws.refl ..
  · exact KeepsLaws.refl ..

theorem execPairDrill_keeps (r : Req) (b : Body) (s : State) :
    KeepsO 5242908 31082702275611665134711390509176302506369853277167413772416728857867236252011834445824 s (execPairDrill r b s) := by
  unfold execPairDrill
  extract_lets
  rename_i e0 e1 e2
  with_reducible refine KeepsLaws.command (KeepsLaws.subI rfl rfl) (fun x => ?_)
  extract_lets
  rename_i e3 e4 e5
  with_reducible refine KeepsLaws.iteA ?_ ?_
  · with_reducible refine KeepsLaws.nowA ?_
    with_reducible refine KeepsLaws.comp ?_ (State.event_keeps ..) (KeepsLaws.subI rfl rfl)
    exact KeepsLaws.refl ..
  · with_reducible refine KeepsLaws.iteA ?_ ?_
    · with_reducible refine KeepsLaws.laterA ?_
      with_reducible refine KeepsLaws.comp ?_ (KeepsLaws.upd_pair ..) (KeepsLaws.subI rfl rfl)
      exact KeepsLaws.refl ..
    · with_reducible refine KeepsLaws.laterA ?_
      with_reducible refine KeepsLaws.comp ?_ (State.startDrill_keeps ..) (KeepsLaws.subI rfl rfl)
      exact KeepsLaws.refl ..

theorem execPairSwitch_keeps (r : Req) (b : Body) (s : State) :
    KeepsO 72351772 11966840376110491076863886168785155125917867887281917445995132601589187868623755851403264 s (execPairSwitch r b s) := by
  unfold execPairSwitch
  extract_lets
  rename_i e0 e1 e2
  with_reducible refine KeepsLaws.command (KeepsLaws.subI rfl rfl) (fun x => ?_)
  with_reducible refine KeepsLaws.iteA ?_ ?_
  · extract_lets
    rename_i e3
    with_reducible refine KeepsLaws.nowA ?_
    with_reducible refine KeepsLaws.comp ?_ (State.giveUp_keeps ..) (KeepsLaws.subI rfl rfl)
    exact KeepsLaws.refl ..
  · extract_lets
    rename_i e4 e5 e6
    have h_e6 : Keeps 72351772 11966840376110491076863886168785155125917867887281917445995132601589187868623755851403264 x e6 := by
      unfold e6
      with_reducible refine KeepsLaws.comp ?_ (KeepsLaws.upd_pair ..) (KeepsLaws.subI rfl rfl)
      exact KeepsLaws.refl ..
    clear_value e6
    with_reducible refine KeepsLaws.laterA ?_
    with_reducible refine KeepsLaws.ite ?_ ?_
    · assumption
    · with_reducible refine KeepsLaws.comp ?_ (State.seam_keeps ..) (KeepsLaws.subI rfl rfl)
      assumption

theorem execSnapshotReceive_keeps (w : SeamWire) (m : Snapshot) (s : State) :
    KeepsO 74973452 419070105094818993017408495964864630142908459032522366652989651753361571713788762722304 s (execSnapshotReceive w m s) := by
  unfold execSnapshotReceive
  with_reducible refine KeepsLaws.iteO ?_ ?_
  · with_reducible refine KeepsLaws.next ?_
    with_reducible refine State.seamIn_keeps (KeepsLaws.subI rfl rfl) (fun x => ?_)
    with_reducible refine KeepsLaws.ite ?_ ?_
    · with_reducible refine KeepsLaws.comp ?_ (State.applySnapshot_keeps ..) (KeepsLaws.subI rfl rfl)
      exact KeepsLaws.refl ..
    · exact KeepsLaws.refl ..
  · extract_lets
    rename_i e0 e1 e2 e3
    have h_e0 : Keeps 74973452 419070105094818993017408495964864630142908459032522366652989651753361571713788762722304 s e0 := by
      unfold e0
      with_reducible refine State.seamIn_keeps (KeepsLaws.subI rfl rfl) (fun x => ?_)
      unfold id
      exact KeepsLaws.refl ..
    clear_value e0
    have h_e3 : Keeps 74973452 419070105094818993017408495964864630142908459032522366652989651753361571713788762722304 s e3 := by
      unfold e3
      with_reducible refine KeepsLaws.comp ?_ (KeepsLaws.upd_pair ..) (KeepsLaws.subI rfl rfl)
      assumption
    clear_value e3
    with_reducible refine KeepsLaws.iteO ?_ ?_
    · with_reducible refine KeepsLaws.next ?_
      assumption
    · with_reducible refine KeepsLaws.next ?_
      with_reducible refine KeepsLaws.ite ?_ ?_
      · with_reducible refine KeepsLaws.comp ?_ (State.askSnapshot_keeps ..) (KeepsLaws.subI rfl rfl)
        assumption
      · with_reducible refine KeepsLaws.ite ?_ ?_
        · with_reducible refine KeepsLaws.comp ?_ (State.fault_keeps ..) (KeepsLaws.subI rfl rfl)
          assumption
        · assumption

theorem execLatchRecordReceive_keeps (w : SeamWire) (h : Fin 24) (m : LatchRecord) (s : State) :
    KeepsO 108101900 350534628537584615070406511191326736060864038657997817318041073849986712212521757732048896 s (execLatchRecordReceive w h m s) := by
  unfold execLatchRecordReceive
  with_reducible refine KeepsLaws.next ?_
  with_reducible refine State.seamIn_keeps (KeepsLaws.subI rfl rfl) (fun x => ?_)
  with_reducible refine KeepsLaws.ite ?_ ?_
  · exact KeepsLaws.refl ..
  · extract_lets
    rename_i e0 e1 e2 e3 e4 e5
    have h_e4 : Keeps 108101900 350534628537584615070406511191326736060864038657997817318041073849986712212521757732048896 x e4 := by
      unfold e4
      with_reducible refine KeepsLaws.stepReg ?_ (KeepsLaws.bitI rfl)
      with_reducible refine KeepsLaws.comp ?_ (State.setHead_keeps ..) (KeepsLaws.subI rfl rfl)
      exact KeepsLaws.refl ..
    clear_value e4
    have h_e5 : Keeps 108101900 350534628537584615070406511191326736060864038657997817318041073849986712212521757732048896 x e5 := by
      unfold e5
      with_reducible refine KeepsLaws.stepSetBit ?_ (KeepsLaws.bitI rfl)
      assumption
    clear_value e5
    with_reducible refine KeepsLaws.ite ?_ ?_
    · assumption
    · with_reducible refine KeepsLaws.foldl (fun x a => ?_) ?_
      · with_reducible refine KeepsLaws.comp ?_ (State.mirrorLatch_keeps ..) (KeepsLaws.subI rfl rfl)
        exact KeepsLaws.refl ..
      · with_reducible refine KeepsLaws.comp ?_ (State.modHead_keeps ..) (KeepsLaws.subI rfl rfl)
        assumption

theorem execDecisionRecordReceive_keeps (w : SeamWire) (h : Fin 24) (l : Fin 8) (glyph : ℕ) (checks : ℕ) (frame : ℕ) (s : State) :
    KeepsO 74449164 419070105094818993017408495964864630142908459032516717434007565860901741863150383861760 s (execDecisionRecordReceive w h l glyph checks frame s) := by
  unfold execDecisionRecordReceive
  with_reducible refine KeepsLaws.next ?_
  with_reducible refine State.seamIn_keeps (KeepsLaws.subI rfl rfl) (fun x => ?_)
  with_reducible refine KeepsLaws.ite ?_ ?_
  · exact KeepsLaws.refl ..
  · with_reducible refine KeepsLaws.ite ?_ ?_
    · with_reducible refine KeepsLaws.comp ?_ (State.pairMiss_keeps ..) (KeepsLaws.subI rfl rfl)
      exact KeepsLaws.refl ..
    · with_reducible refine KeepsLaws.comp ?_ (State.settle_keeps ..) (KeepsLaws.subI rfl rfl)
      with_reducible refine KeepsLaws.comp ?_ (State.modLayer_keeps ..) (KeepsLaws.subI rfl rfl)
      exact KeepsLaws.refl ..

theorem execDutyReadbackMismatch_keeps (s : State) :
    KeepsO 74449164 46077677787479011400871809854749000067566345934505929353659583191032107774382539608064 s (execDutyReadbackMismatch s) := by
  unfold execDutyReadbackMismatch
  with_reducible refine KeepsLaws.next ?_
  with_reducible refine KeepsLaws.comp ?_ (State.fault_keeps ..) (KeepsLaws.subI rfl rfl)
  exact KeepsLaws.refl ..

theorem execHandoverAckReceive_keeps (w : SeamWire) (k : ℕ) (s : State) :
    KeepsO 74449164 419070105094818993017408495964864630142908459032516717434007565860901730533782571257856 s (execHandoverAckReceive w k s) := by
  unfold execHandoverAckReceive
  with_reducible refine KeepsLaws.next ?_
  with_reducible refine State.seamIn_keeps (KeepsLaws.subI rfl rfl) (fun x => ?_)
  with_reducible refine KeepsLaws.ite ?_ ?_
  · with_reducible refine KeepsLaws.comp ?_ (KeepsLaws.upd_pair ..) (KeepsLaws.subI rfl rfl)
    exact KeepsLaws.refl ..
  · exact KeepsLaws.refl ..

theorem execHandoverReceive_keeps (w : SeamWire) (k : ℕ) (s : State) :
    KeepsO 74449164 419070105094818993017408495964864630142908459032516717434007565860901730533782571257856 s (execHandoverReceive w k s) := by
  unfold execHandoverReceive
  with_reducible refine KeepsLaws.next ?_
  with_reducible refine State.seamIn_keeps (KeepsLaws.subI rfl rfl) (fun x => ?_)
  with_reducible refine KeepsLaws.ite ?_ ?_
  · with_reducible refine KeepsLaws.comp ?_ (State.seam_keeps ..) (KeepsLaws.subI rfl rfl)
    with_reducible refine KeepsLaws.comp ?_ (KeepsLaws.upd_pair ..) (KeepsLaws.subI rfl rfl)
    exact KeepsLaws.refl ..
  · exact KeepsLaws.refl ..

theorem execSnapshotRequestReceive_keeps (w : SeamWire) (s : State) :
    KeepsO 74449164 419070105094818993017408495964864630142908459032516717434007565860901730533782571257856 s (execSnapshotRequestReceive w s) := by
  unfold execSnapshotRequestReceive
  with_reducible refine KeepsLaws.next ?_
  with_reducible refine State.seamIn_keeps (KeepsLaws.subI rfl rfl) (fun x => ?_)
  with_reducible refine KeepsLaws.ite ?_ ?_
  · exact KeepsLaws.refl ..
  · with_reducible refine KeepsLaws.ite ?_ ?_
    · with_reducible refine KeepsLaws.comp ?_ (State.profileDiff_keeps ..) (KeepsLaws.subI rfl rfl)
      exact KeepsLaws.refl ..
    · with_reducible refine KeepsLaws.comp ?_ (State.seam_keeps ..) (KeepsLaws.subI rfl rfl)
      exact KeepsLaws.refl ..

theorem execDutyInLossTimeout_keeps (s : State) :
    KeepsO 5767196 12464163612520277719019267594179697305017773623210860349784016151186854661565483661725696 s (execDutyInLossTimeout s) := by
  unfold execDutyInLossTimeout
  with_reducible refine KeepsLaws.next ?_
  with_reducible refine KeepsLaws.comp ?_ (State.checkDuty_keeps ..) (KeepsLaws.subI rfl rfl)
  exact KeepsLaws.refl ..

theorem execFrameCrcReceive_keeps (w : SeamWire) (h : Fin 24) (frame : ℕ) (crc : ℕ) (s : State) :
    KeepsO 74449164 159562505756226544482739727902947533462288876714183786298382480171671940774544462741835776 s (execFrameCrcReceive w h frame crc s) := by
  unfold execFrameCrcReceive
  with_reducible refine KeepsLaws.next ?_
  with_reducible refine State.seamIn_keeps (KeepsLaws.subI rfl rfl) (fun x => ?_)
  with_reducible refine KeepsLaws.ite ?_ ?_
  · exact KeepsLaws.refl ..
  · with_reducible refine KeepsLaws.comp ?_ (State.noteCrc_keeps ..) (KeepsLaws.subI rfl rfl)
    exact KeepsLaws.refl ..

theorem execSnapshotRetry_keeps (s : State) :
    KeepsO 4194304 0 s (execSnapshotRetry s) := by
  unfold execSnapshotRetry
  extract_lets
  rename_i e0
  with_reducible refine KeepsLaws.iteO ?_ ?_
  · with_reducible refine KeepsLaws.next ?_
    with_reducible refine KeepsLaws.comp ?_ (State.askSnapshot_keeps ..) (KeepsLaws.subI rfl rfl)
    exact KeepsLaws.refl ..
  · with_reducible refine KeepsLaws.next ?_
    exact KeepsLaws.refl ..

theorem execPairConfig_keeps (r : Req) (b : Body) (s : State) :
    KeepsO 20971548 738417421220695214102853444371186013618009039974707200036573242015235505323409741036513294618624 s (execPairConfig r b s) := by
  unfold execPairConfig
  extract_lets
  rename_i e0 e1
  with_reducible refine KeepsLaws.command (KeepsLaws.subI rfl rfl) (fun x => ?_)
  extract_lets
  rename_i e2 e3 e4 e5 e6
  have h_e2 : Keeps 20971548 738417421220695214102853444371186013618009039974707200036573242015235505323409741036513294618624 x e2 := by
    unfold e2
    with_reducible refine KeepsLaws.stepSetBits ?_ (KeepsLaws.bitI rfl)
    with_reducible refine KeepsLaws.stepSetBit ?_ (KeepsLaws.bitI rfl)
    exact KeepsLaws.refl ..
  clear_value e2
  have h_e3 : Keeps 20971548 738417421220695214102853444371186013618009039974707200036573242015235505323409741036513294618624 x e3 := by
    unfold e3
    with_reducible refine KeepsLaws.foldl (fun x a => ?_) ?_
    · with_reducible refine KeepsLaws.stepReg ?_ (KeepsLaws.bitI rfl)
      exact KeepsLaws.refl ..
    · assumption
  clear_value e3
  have h_e4 : Keeps 20971548 738417421220695214102853444371186013618009039974707200036573242015235505323409741036513294618624 x e4 := by
    unfold e4
    with_reducible refine KeepsLaws.comp ?_ (State.setDutyOut_keeps ..) (KeepsLaws.subI rfl rfl)
    with_reducible refine KeepsLaws.comp ?_ (State.endPrbsOf_keeps ..) (KeepsLaws.subI rfl rfl)
    assumption
  clear_value e4
  have h_e6 : Keeps 20971548 738417421220695214102853444371186013618009039974707200036573242015235505323409741036513294618624 x e6 := by
    unfold e6
    with_reducible refine KeepsLaws.comp ?_ (State.setPairState_keeps ..) (KeepsLaws.subI rfl rfl)
    assumption
  clear_value e6
  with_reducible refine KeepsLaws.doneA ?_
  with_reducible refine KeepsLaws.ite ?_ ?_
  · with_reducible refine KeepsLaws.comp ?_ (State.setPairState_keeps ..) (KeepsLaws.subI rfl rfl)
    with_reducible refine KeepsLaws.comp ?_ (KeepsLaws.upd_pair ..) (KeepsLaws.subI rfl rfl)
    assumption
  · with_reducible refine KeepsLaws.ite ?_ ?_
    · with_reducible refine KeepsLaws.ite ?_ ?_
      · with_reducible refine KeepsLaws.comp ?_ (State.setDutyOut_keeps ..) (KeepsLaws.subI rfl rfl)
        assumption
      · assumption
    · assumption

theorem execEncRowReceive_keeps (w : SeamWire) (c : Fin 16) (m : EncRowMirror) (s : State) :
    KeepsO 74973452 419070105094818993017408495964864630142908459032522034345990705524393345762023692636160 s (execEncRowReceive w c m s) := by
  unfold execEncRowReceive
  with_reducible refine KeepsLaws.next ?_
  with_reducible refine State.seamIn_keeps (KeepsLaws.subI rfl rfl) (fun x => ?_)
  with_reducible refine KeepsLaws.ite ?_ ?_
  · with_reducible refine KeepsLaws.comp ?_ (State.modChan_keeps ..) (KeepsLaws.subI rfl rfl)
    exact KeepsLaws.refl ..
  · exact KeepsLaws.refl ..

theorem execSeamHeartbeatSend_keeps (s : State) :
    KeepsO 4194304 0 s (execSeamHeartbeatSend s) := by
  unfold execSeamHeartbeatSend
  with_reducible refine KeepsLaws.iteO ?_ ?_
  · with_reducible refine KeepsLaws.next ?_
    exact KeepsLaws.refl ..
  · extract_lets
    rename_i e0 e1
    have h_e1 : Keeps 4194304 0 s e1 := by
      unfold e1
      with_reducible refine KeepsLaws.comp ?_ (KeepsLaws.upd_pair ..) (KeepsLaws.subI rfl rfl)
      exact KeepsLaws.refl ..
    clear_value e1
    with_reducible refine KeepsLaws.next ?_
    with_reducible refine KeepsLaws.comp ?_ (State.seam_keeps ..) (KeepsLaws.subI rfl rfl)
    assumption

theorem execProfileDiffTimeout_keeps (s : State) :
    KeepsO 4194316 593920 s (execProfileDiffTimeout s) := by
  unfold execProfileDiffTimeout
  split
  · with_reducible refine KeepsLaws.iteO ?_ ?_
    · with_reducible refine KeepsLaws.next ?_
      with_reducible refine KeepsLaws.comp ?_ (State.profileDiff_keeps ..) (KeepsLaws.subI rfl rfl)
      with_reducible refine KeepsLaws.comp ?_ (KeepsLaws.upd_pair ..) (KeepsLaws.subI rfl rfl)
      exact KeepsLaws.refl ..
    · with_reducible refine KeepsLaws.next ?_
      exact KeepsLaws.refl ..
  · with_reducible refine KeepsLaws.next ?_
    exact KeepsLaws.refl ..

theorem execKeyReqReceive_keeps (w : SeamWire) (mask : ℕ) (cause : ℕ) (type : ℕ) (s : State) :
    KeepsO 74973452 419070105094818993017408495964864630142908459035244293281358213232100342621477838327808 s (execKeyReqReceive w mask cause type s) := by
  unfold execKeyReqReceive
  with_reducible refine KeepsLaws.next ?_
  with_reducible refine State.seamIn_keeps (KeepsLaws.subI rfl rfl) (fun x => ?_)
  with_reducible refine KeepsLaws.ite ?_ ?_
  · exact KeepsLaws.refl ..
  · with_reducible refine KeepsLaws.ite ?_ ?_
    · with_reducible refine KeepsLaws.foldl (fun x a => ?_) ?_
      · with_reducible refine KeepsLaws.comp ?_ (State.pairKey_keeps ..) (KeepsLaws.subI rfl rfl)
        exact KeepsLaws.refl ..
      · exact KeepsLaws.refl ..
    · with_reducible refine KeepsLaws.comp ?_ (State.keyRequests_keeps ..) (KeepsLaws.subI rfl rfl)
      exact KeepsLaws.refl ..

theorem execSeamHeartbeatReceive_keeps (w : SeamWire) (m : Heartbeat) (s : State) :
    KeepsO 74973468 44680838145565830144846428581031919399083505879996463569635301509352096964649252995796992 s (execSeamHeartbeatReceive w m s) := by
  unfold execSeamHeartbeatReceive
  with_reducible refine KeepsLaws.next ?_
  with_reducible refine State.seamIn_keeps (KeepsLaws.subI rfl rfl) (fun x => ?_)
  extract_lets
  rename_i e0 e1 e2 e3 e4 e5 e6 e7 e8 e9 e10
  have h_e6 : Keeps 74973468 44680838145565830144846428581031919399083505879996463569635301509352096964649252995796992 x e6 := by
    unfold e6
    with_reducible refine KeepsLaws.stepSetBit ?_ (KeepsLaws.bitI rfl)
    with_reducible refine KeepsLaws.stepSetBit ?_ (KeepsLaws.bitI rfl)
    with_reducible refine KeepsLaws.stepSetBits ?_ (KeepsLaws.bitI rfl)
    with_reducible refine KeepsLaws.comp ?_ (KeepsLaws.upd_pair ..) (KeepsLaws.subI rfl rfl)
    exact KeepsLaws.refl ..
  clear_value e6
  have h_e7 : Keeps 74973468 44680838145565830144846428581031919399083505879996463569635301509352096964649252995796992 x e7 := by
    unfold e7
    with_reducible refine KeepsLaws.ite ?_ ?_
    · assumption
    · with_reducible refine KeepsLaws.comp ?_ (State.seamEvent_keeps ..) (KeepsLaws.subI rfl rfl)
      with_reducible refine KeepsLaws.stepSetBit ?_ (KeepsLaws.bitI rfl)
      assumption
  clear_value e7
  have h_e8 : Keeps 74973468 44680838145565830144846428581031919399083505879996463569635301509352096964649252995796992 x e8 := by
    unfold e8
    with_reducible refine KeepsLaws.ite ?_ ?_
    · with_reducible refine KeepsLaws.comp ?_ (State.seamEvent_keeps ..) (KeepsLaws.subI rfl rfl)
      assumption
    · assumption
  clear_value e8
  have h_e9 : Keeps 74973468 44680838145565830144846428581031919399083505879996463569635301509352096964649252995796992 x e9 := by
    unfold e9
    with_reducible refine KeepsLaws.ite ?_ ?_
    · with_reducible refine KeepsLaws.comp ?_ (State.abandonHandover_keeps ..) (KeepsLaws.subI rfl rfl)
      assumption
    · assumption
  clear_value e9
  have h_e10 : Keeps 74973468 44680838145565830144846428581031919399083505879996463569635301509352096964649252995796992 x e10 := by
    unfold e10
    with_reducible refine KeepsLaws.comp ?_ (State.checkDuty_keeps ..) (KeepsLaws.subI rfl rfl)
    with_reducible refine KeepsLaws.comp ?_ (State.showAligned_keeps ..) (KeepsLaws.subI rfl rfl)
    assumption
  clear_value e10
  with_reducible refine KeepsLaws.ite ?_ ?_
  · with_reducible refine KeepsLaws.comp ?_ (State.askSnapshot_keeps ..) (KeepsLaws.subI rfl rfl)
    assumption
  · assumption

theorem execBothDutyTimeout_keeps (s : State) :
    KeepsO 4194332 13956133321749637645485414338620159825319050731750570320673020351564288384914355292540928 s (execBothDutyTimeout s) := by
  unfold execBothDutyTimeout
  extract_lets
  rename_i e0 e1
  with_reducible refine KeepsLaws.iteO ?_ ?_
  · with_reducible refine KeepsLaws.next ?_
    with_reducible refine KeepsLaws.comp ?_ (State.answerSwitch_keeps ..) (KeepsLaws.subI rfl rfl)
    with_reducible refine KeepsLaws.comp ?_ (State.event_keeps ..) (KeepsLaws.subI rfl rfl)
    with_reducible refine KeepsLaws.stepBumpSat ?_ (KeepsLaws.bitI rfl)
    with_reducible refine KeepsLaws.comp ?_ (State.setPairState_keeps ..) (KeepsLaws.subI rfl rfl)
    with_reducible refine KeepsLaws.comp ?_ (State.setDutyOut_keeps ..) (KeepsLaws.subI rfl rfl)
    exact KeepsLaws.refl ..
  · with_reducible refine KeepsLaws.next ?_
    exact KeepsLaws.refl ..

end Sys2Proof.Machine
end

