-- ==== Sys2Proof/Laws/FrameSram.lean ====
section
/-! SUPPORT. What each operation of Machine/Sram.lean can change at most (Keeps): masks of fields and of registers. -/

namespace Sys2Proof.Machine

theorem State.loseEntry_keeps (s : State) (i : ℕ) :
    Keeps 2048 0 s (State.loseEntry s i) := by
  unfold State.loseEntry
  split
  · split
    with_reducible refine KeepsLaws.comp ?_ (KeepsLaws.upd_lode ..) (KeepsLaws.subI rfl rfl)
    with_reducible refine KeepsLaws.ofSnd (by assumption) ?_
    with_reducible refine KeepsLaws.comp ?_ (KeepsLaws.drawn ..) (KeepsLaws.subI rfl rfl)
    exact KeepsLaws.refl ..
  · exact KeepsLaws.refl ..

theorem State.srmUe_keeps (s : State) (a : ℕ) (island : ℕ) (word : ℕ) (esc : Bool) :
    Keeps 12 593920 s (State.srmUe s a island word esc) := by
  unfold State.srmUe
  with_reducible refine KeepsLaws.comp ?_ (State.event_keeps ..) (KeepsLaws.subI rfl rfl)
  exact KeepsLaws.refl ..

theorem State.sramFault_keeps (s : State) (a : ℕ) (island : ℕ) (word : ℕ) (inst : ℕ) (esc : Bool) :
    Keeps 74449164 46077677787479011400871809854749000067566345934505929353659583191032107774382539608064 s (State.sramFault s a island word inst esc) := by
  unfold State.sramFault
  with_reducible refine KeepsLaws.comp ?_ (State.fault_keeps ..) (KeepsLaws.subI rfl rfl)
  with_reducible refine KeepsLaws.comp ?_ (State.srmUe_keeps ..) (KeepsLaws.subI rfl rfl)
  exact KeepsLaws.refl ..

theorem State.loseOre_keeps (s : State) (island : ℕ) (word : ℕ) (e : Engine) :
    Keeps 108011788 46077677787479011400871809854749000067566345934505929627472112840329658497670431969280 s (State.loseOre s island word e) := by
  unfold State.loseOre
  split
  · with_reducible refine KeepsLaws.comp ?_ (State.sramFault_keeps ..) (KeepsLaws.subI rfl rfl)
    exact KeepsLaws.refl ..
  · with_reducible refine KeepsLaws.ite ?_ ?_
    · with_reducible refine KeepsLaws.comp ?_ (State.sramFault_keeps ..) (KeepsLaws.subI rfl rfl)
      exact KeepsLaws.refl ..
    · extract_lets
      rename_i e0 e1 e2
      have h_e1 : Keeps 108011788 46077677787479011400871809854749000067566345934505929627472112840329658497670431969280 s e1 := by
        unfold e1
        with_reducible refine KeepsLaws.comp ?_ (KeepsLaws.upd_mem ..) (KeepsLaws.subI rfl rfl)
        exact KeepsLaws.refl ..
      clear_value e1
      have h_e2 : Keeps 108011788 46077677787479011400871809854749000067566345934505929627472112840329658497670431969280 s e2 := by
        unfold e2
        with_reducible refine KeepsLaws.comp ?_ (State.setEngine_keeps ..) (KeepsLaws.subI rfl rfl)
        assumption
      clear_value e2
      with_reducible refine KeepsLaws.comp ?_ (State.sramFault_keeps ..) (KeepsLaws.subI rfl rfl)
      split
      · with_reducible refine KeepsLaws.stepBumpSat ?_ (KeepsLaws.bitI rfl)
        assumption
      · with_reducible refine KeepsLaws.stepBumpSat ?_ (KeepsLaws.bitI rfl)
        assumption

theorem State.losePipe_keeps (s : State) (island : ℕ) (word : ℕ) (q : ℕ) :
    Keeps 108105996 46077677787479011400871809854749000067566345934505929353761287853500374749420867620864 s (State.losePipe s island word q) := by
  unfold State.losePipe
  extract_lets
  rename_i e0
  split
  · with_reducible refine KeepsLaws.comp ?_ (State.sramFault_keeps ..) (KeepsLaws.subI rfl rfl)
    exact KeepsLaws.refl ..
  · with_reducible refine KeepsLaws.ite ?_ ?_
    · with_reducible refine KeepsLaws.comp ?_ (State.pipeSelect_keeps ..) (KeepsLaws.subI rfl rfl)
      with_reducible refine KeepsLaws.comp ?_ (State.sramFault_keeps ..) (KeepsLaws.subI rfl rfl)
      with_reducible refine KeepsLaws.comp ?_ (State.pipeWithhold_keeps ..) (KeepsLaws.subI rfl rfl)
      exact KeepsLaws.refl ..
    · with_reducible refine KeepsLaws.comp ?_ (State.sramFault_keeps ..) (KeepsLaws.subI rfl rfl)
      with_reducible refine KeepsLaws.stepBumpSat ?_ (KeepsLaws.bitI rfl)
      with_reducible refine KeepsLaws.comp ?_ (State.setPipe_keeps ..) (KeepsLaws.subI rfl rfl)
      exact KeepsLaws.refl ..

theorem State.loseSlot_keeps (s : State) (n : ℕ) :
    Keeps 64 4294967296 s (State.loseSlot s n) := by
  unfold State.loseSlot
  extract_lets
  rename_i e0 e1
  have h_e1 : Keeps 64 4294967296 s e1 := by
    unfold e1
    with_reducible refine KeepsLaws.comp ?_ (State.setSlot_keeps ..) (KeepsLaws.subI rfl rfl)
    exact KeepsLaws.refl ..
  clear_value e1
  with_reducible refine KeepsLaws.ite ?_ ?_
  · assumption
  · with_reducible refine KeepsLaws.comp ?_ (State.setSlotState_keeps ..) (KeepsLaws.subI rfl rfl)
    assumption

theorem State.loseTile_keeps (s : State) (n : ℕ) :
    Keeps 1048576 456720132788766479541117976462833468969100247040 s (State.loseTile s n) := by
  unfold State.loseTile
  split
  · with_reducible refine KeepsLaws.comp ?_ (State.dropFlat_keeps ..) (KeepsLaws.subI rfl rfl)
    exact KeepsLaws.refl ..
  · exact KeepsLaws.refl ..

theorem State.sramLoss_keeps (s : State) (a : ℕ) (island : ℕ) (word : ℕ) (inst : ℕ) :
    Keeps 108117324 46077677787479011400871809854749000067931722214961514674727205177806287063312365064192 s (State.sramLoss s a island word inst) := by
  unfold State.sramLoss
  split
  · with_reducible refine KeepsLaws.comp ?_ (State.sramFault_keeps ..) (KeepsLaws.subI rfl rfl)
    with_reducible refine KeepsLaws.comp ?_ (State.loseTile_keeps ..) (KeepsLaws.subI rfl rfl)
    exact KeepsLaws.refl ..
  · with_reducible refine KeepsLaws.comp ?_ (State.sramFault_keeps ..) (KeepsLaws.subI rfl rfl)
    with_reducible refine KeepsLaws.comp ?_ (State.loseSlot_keeps ..) (KeepsLaws.subI rfl rfl)
    exact KeepsLaws.refl ..
  · with_reducible refine KeepsLaws.comp ?_ (State.loseOre_keeps ..) (KeepsLaws.subI rfl rfl)
    exact KeepsLaws.refl ..
  · with_reducible refine KeepsLaws.comp ?_ (State.sramFault_keeps ..) (KeepsLaws.subI rfl rfl)
    exact KeepsLaws.refl ..
  · with_reducible refine KeepsLaws.comp ?_ (State.sramFault_keeps ..) (KeepsLaws.subI rfl rfl)
    with_reducible refine KeepsLaws.comp ?_ (State.modIctx_keeps ..) (KeepsLaws.subI rfl rfl)
    exact KeepsLaws.refl ..
  · with_reducible refine KeepsLaws.comp ?_ (State.losePipe_keeps ..) (KeepsLaws.subI rfl rfl)
    exact KeepsLaws.refl ..
  · with_reducible refine KeepsLaws.comp ?_ (State.sramFault_keeps ..) (KeepsLaws.subI rfl rfl)
    exact KeepsLaws.refl ..
  · with_reducible refine KeepsLaws.comp ?_ (State.sramFault_keeps ..) (KeepsLaws.subI rfl rfl)
    with_reducible refine KeepsLaws.comp ?_ (State.loseEntry_keeps ..) (KeepsLaws.subI rfl rfl)
    exact KeepsLaws.refl ..
  · with_reducible refine KeepsLaws.comp ?_ (State.sramFault_keeps ..) (KeepsLaws.subI rfl rfl)
    with_reducible refine KeepsLaws.comp ?_ (KeepsLaws.upd_flt ..) (KeepsLaws.subI rfl rfl)
    exact KeepsLaws.refl ..
  · with_reducible refine KeepsLaws.comp ?_ (State.sramFault_keeps ..) (KeepsLaws.subI rfl rfl)
    exact KeepsLaws.refl ..

theorem execSramPatrol_keeps (a : Fin 10) (island : Fin 41) (word : ℕ) (inst : ℕ) (found : Fin 3) (last : Bool) (s : State) :
    KeepsO 108117324 46077677790871357765246307767548931269358125765350283756728393577399770969794195034112 s (execSramPatrol a island word inst found last s) := by
  unfold execSramPatrol
  with_reducible refine KeepsLaws.iteO ?_ ?_
  · with_reducible refine KeepsLaws.next ?_
    exact KeepsLaws.refl ..
  · extract_lets
    rename_i e0 e1 e2
    have h_e0 : Keeps 108117324 46077677790871357765246307767548931269358125765350283756728393577399770969794195034112 s e0 := by
      unfold e0
      with_reducible refine KeepsLaws.ite ?_ ?_
      · with_reducible refine KeepsLaws.stepBumpWrap ?_ (KeepsLaws.bitI rfl)
        exact KeepsLaws.refl ..
      · exact KeepsLaws.refl ..
    clear_value e0
    have h_e2 : Keeps 108117324 46077677790871357765246307767548931269358125765350283756728393577399770969794195034112 s e2 := by
      unfold e2
      with_reducible refine KeepsLaws.stepBumpSat ?_ (KeepsLaws.bitI rfl)
      unfold e1
      with_reducible refine KeepsLaws.stepReg ?_ (KeepsLaws.bitI rfl)
      assumption
    clear_value e2
    split
    · with_reducible refine KeepsLaws.next ?_
      assumption
    · with_reducible refine KeepsLaws.next ?_
      with_reducible refine KeepsLaws.comp ?_ (State.fault_keeps ..) (KeepsLaws.subI rfl rfl)
      with_reducible refine KeepsLaws.comp ?_ (State.eventPerSec_keeps ..) (KeepsLaws.subI rfl rfl)
      assumption
    · with_reducible refine KeepsLaws.next ?_
      with_reducible refine KeepsLaws.comp ?_ (State.sramLoss_keeps ..) (KeepsLaws.subI rfl rfl)
      with_reducible refine KeepsLaws.stepBumpSat ?_ (KeepsLaws.bitI rfl)
      unfold e1
      with_reducible refine KeepsLaws.stepReg ?_ (KeepsLaws.bitI rfl)
      assumption

end Sys2Proof.Machine
end

