-- ==== Sys2Proof/Laws/FrameTime.lean ====
section
/-! SUPPORT. What each operation of Machine/Time.lean can change at most (Keeps): masks of fields and of registers. -/

namespace Sys2Proof.Machine

theorem State.accrue_keeps (s : State) :
    Keeps 512 0 s (State.accrue s) := by
  unfold State.accrue
  with_reducible refine KeepsLaws.comp ?_ (KeepsLaws.upd_tm ..) (KeepsLaws.subI rfl rfl)
  exact KeepsLaws.refl ..

theorem State.modPtpPort_keeps (s : State) (p : ℕ) (f : PtpPort → PtpPort) :
    Keeps 512 0 s (State.modPtpPort s p f) := by
  unfold State.modPtpPort
  with_reducible refine KeepsLaws.comp ?_ (KeepsLaws.upd_tm ..) (KeepsLaws.subI rfl rfl)
  exact KeepsLaws.refl ..

theorem State.modRef_keeps (s : State) (i : ℕ) (f : RefSt → RefSt) :
    Keeps 512 0 s (State.modRef s i f) := by
  unfold State.modRef
  with_reducible refine KeepsLaws.comp ?_ (KeepsLaws.upd_tm ..) (KeepsLaws.subI rfl rfl)
  exact KeepsLaws.refl ..

theorem State.setDpll_keeps (s : State) (st : ℕ) (cause : ℕ) :
    Keeps 12 6277101735386680763835789423207666416102355444464035106816 s (State.setDpll s st cause) := by
  unfold State.setDpll
  extract_lets
  rename_i e0 e1
  have h_e0 : Keeps 12 6277101735386680763835789423207666416102355444464035106816 s e0 := by
    unfold e0
    with_reducible refine KeepsLaws.stepSetBits ?_ (KeepsLaws.bitI rfl)
    exact KeepsLaws.refl ..
  clear_value e0
  with_reducible refine KeepsLaws.comp ?_ (State.event_keeps ..) (KeepsLaws.subI rfl rfl)
  assumption

theorem State.freeGrid_keeps (s : State) (rate : ℤ) :
    Keeps 512 0 s (State.freeGrid s rate) := by
  unfold State.freeGrid
  extract_lets
  rename_i e0 e1 e2
  have h_e0 : Keeps 512 0 s e0 := by
    unfold e0
    with_reducible refine KeepsLaws.comp ?_ (State.accrue_keeps ..) (KeepsLaws.subI rfl rfl)
    exact KeepsLaws.refl ..
  clear_value e0
  with_reducible refine KeepsLaws.comp ?_ (KeepsLaws.upd_tm ..) (KeepsLaws.subI rfl rfl)
  assumption

theorem State.slewTo_keeps (s : State) (target : ℤ) :
    Keeps 512 0 s (State.slewTo s target) := by
  unfold State.slewTo
  with_reducible refine KeepsLaws.comp ?_ (State.freeGrid_keeps ..) (KeepsLaws.subI rfl rfl)
  exact KeepsLaws.refl ..

theorem State.holdAt_keeps (s : State) (w : ℤ) :
    Keeps 512 0 s (State.holdAt s w) := by
  unfold State.holdAt
  extract_lets
  rename_i e0 e1
  have h_e0 : Keeps 512 0 s e0 := by
    unfold e0
    with_reducible refine KeepsLaws.comp ?_ (State.slewTo_keeps ..) (KeepsLaws.subI rfl rfl)
    exact KeepsLaws.refl ..
  clear_value e0
  with_reducible refine KeepsLaws.comp ?_ (KeepsLaws.upd_tm ..) (KeepsLaws.subI rfl rfl)
  assumption

theorem State.holdover_keeps (s : State) (cause : ℕ) :
    Keeps 524 207144357267760465206581050965852991731377729667313139519488 s (State.holdover s cause) := by
  unfold State.holdover
  extract_lets
  rename_i e0 e1 e2 e3 e4
  have h_e2 : Keeps 524 207144357267760465206581050965852991731377729667313139519488 s e2 := by
    unfold e2
    with_reducible refine KeepsLaws.comp ?_ (State.holdAt_keeps ..) (KeepsLaws.subI rfl rfl)
    exact KeepsLaws.refl ..
  clear_value e2
  have h_e3 : Keeps 524 207144357267760465206581050965852991731377729667313139519488 s e3 := by
    unfold e3
    with_reducible refine KeepsLaws.stepSetBit ?_ (KeepsLaws.bitI rfl)
    with_reducible refine KeepsLaws.stepSetBits ?_ (KeepsLaws.bitI rfl)
    with_reducible refine KeepsLaws.stepSetBit ?_ (KeepsLaws.bitI rfl)
    assumption
  clear_value e3
  with_reducible refine KeepsLaws.comp ?_ (State.setDpll_keeps ..) (KeepsLaws.subI rfl rfl)
  with_reducible refine KeepsLaws.stepBumpWrap ?_ (KeepsLaws.bitI rfl)
  with_reducible refine KeepsLaws.comp ?_ (KeepsLaws.upd_tm ..) (KeepsLaws.subI rfl rfl)
  assumption

theorem State.gridStep_keeps (s : State) (e : ℤ) (cause : ℕ) :
    Keeps 68157964 1645906291832270881067707006261868183363668461149714290053812224 s (State.gridStep s e cause) := by
  unfold State.gridStep
  extract_lets
  rename_i e0 e1 e2 e3 e4
  have h_e2 : Keeps 68157964 1645906291832270881067707006261868183363668461149714290053812224 s e2 := by
    unfold e2
    with_reducible refine KeepsLaws.ite ?_ ?_
    · exact KeepsLaws.refl ..
    · with_reducible refine KeepsLaws.comp ?_ (KeepsLaws.upd_tm ..) (KeepsLaws.subI rfl rfl)
      exact KeepsLaws.refl ..
  clear_value e2
  have h_e3 : Keeps 68157964 1645906291832270881067707006261868183363668461149714290053812224 s e3 := by
    unfold e3
    with_reducible refine KeepsLaws.comp ?_ (State.event_keeps ..) (KeepsLaws.subI rfl rfl)
    with_reducible refine KeepsLaws.stepSetSigned ?_ (KeepsLaws.bitI rfl)
    assumption
  clear_value e3
  have h_e4 : Keeps 68157964 1645906291832270881067707006261868183363668461149714290053812224 s e4 := by
    unfold e4
    with_reducible refine KeepsLaws.foldl (fun x a => ?_) ?_
    · with_reducible refine KeepsLaws.ite ?_ ?_
      · with_reducible refine KeepsLaws.comp ?_ (State.modHead_keeps ..) (KeepsLaws.subI rfl rfl)
        exact KeepsLaws.refl ..
      · exact KeepsLaws.refl ..
    · with_reducible refine KeepsLaws.comp ?_ (State.houseStep_keeps ..) (KeepsLaws.subI rfl rfl)
      assumption
  clear_value e4
  with_reducible refine KeepsLaws.foldl (fun x a => ?_) ?_
  · with_reducible refine KeepsLaws.ite ?_ ?_
    · with_reducible refine KeepsLaws.comp ?_ (State.modRef_keeps ..) (KeepsLaws.subI rfl rfl)
      exact KeepsLaws.refl ..
    · exact KeepsLaws.refl ..
  · assumption

theorem State.switchStep_keeps (s : State) (i : ℕ) :
    Keeps 68157964 1645906291832270881067707006261868183363668461149714290053812224 s (State.switchStep s i) := by
  unfold State.switchStep
  with_reducible refine KeepsLaws.ite ?_ ?_
  · extract_lets
    rename_i e0 e1
    have h_e0 : Keeps 68157964 1645906291832270881067707006261868183363668461149714290053812224 s e0 := by
      unfold e0
      with_reducible refine KeepsLaws.comp ?_ (State.gridStep_keeps ..) (KeepsLaws.subI rfl rfl)
      exact KeepsLaws.refl ..
    clear_value e0
    with_reducible refine KeepsLaws.comp ?_ (KeepsLaws.upd_tm ..) (KeepsLaws.subI rfl rfl)
    assumption
  · with_reducible refine KeepsLaws.ite ?_ ?_
    · with_reducible refine KeepsLaws.comp ?_ (State.gridStep_keeps ..) (KeepsLaws.subI rfl rfl)
      exact KeepsLaws.refl ..
    · exact KeepsLaws.refl ..

theorem State.stopWtr_keeps (s : State) :
    Keeps 512 18831305206160042291507368269622999248307066333392103538688 s (State.stopWtr s) := by
  unfold State.stopWtr
  with_reducible refine KeepsLaws.stepReg ?_ (KeepsLaws.bitI rfl)
  with_reducible refine KeepsLaws.stepSetBit ?_ (KeepsLaws.bitI rfl)
  with_reducible refine KeepsLaws.comp ?_ (KeepsLaws.upd_tm ..) (KeepsLaws.subI rfl rfl)
  exact KeepsLaws.refl ..

theorem State.switchTo_keeps (s : State) (i : ℕ) (cause : ℕ) :
    Keeps 68157964 1646226424020775601786662631522451774350889681277381955813969920 s (State.switchTo s i cause) := by
  unfold State.switchTo
  extract_lets
  rename_i e0 e1 e2 e3 e4
  have h_e0 : Keeps 68157964 1646226424020775601786662631522451774350889681277381955813969920 s e0 := by
    unfold e0
    with_reducible refine KeepsLaws.comp ?_ (State.holdover_keeps ..) (KeepsLaws.subI rfl rfl)
    exact KeepsLaws.refl ..
  clear_value e0
  have h_e1 : Keeps 68157964 1646226424020775601786662631522451774350889681277381955813969920 s e1 := by
    unfold e1
    with_reducible refine KeepsLaws.stepBumpWrap ?_ (KeepsLaws.bitI rfl)
    with_reducible refine KeepsLaws.stepSetBit ?_ (KeepsLaws.bitI rfl)
    with_reducible refine KeepsLaws.stepSetBits ?_ (KeepsLaws.bitI rfl)
    assumption
  clear_value e1
  have h_e3 : Keeps 68157964 1646226424020775601786662631522451774350889681277381955813969920 s e3 := by
    unfold e3
    with_reducible refine KeepsLaws.comp ?_ (KeepsLaws.upd_tm ..) (KeepsLaws.subI rfl rfl)
    assumption
  clear_value e3
  have h_e4 : Keeps 68157964 1646226424020775601786662631522451774350889681277381955813969920 s e4 := by
    unfold e4
    with_reducible refine KeepsLaws.comp ?_ (State.setDpll_keeps ..) (KeepsLaws.subI rfl rfl)
    with_reducible refine KeepsLaws.comp ?_ (State.modRef_keeps ..) (KeepsLaws.subI rfl rfl)
    assumption
  clear_value e4
  with_reducible refine KeepsLaws.comp ?_ (State.switchStep_keeps ..) (KeepsLaws.subI rfl rfl)
  with_reducible refine KeepsLaws.ite ?_ ?_
  · with_reducible refine KeepsLaws.comp ?_ (State.stopWtr_keeps ..) (KeepsLaws.subI rfl rfl)
    assumption
  · assumption

theorem State.selectRef_keeps (s : State) (cause : ℕ) (atOnce : Bool) :
    Keeps 68157964 1646226424020775601786662631522451774350889681277381955813969920 s (State.selectRef s cause atOnce) := by
  unfold State.selectRef
  extract_lets
  rename_i e0 e1
  with_reducible refine KeepsLaws.ite ?_ ?_
  · exact KeepsLaws.refl ..
  · with_reducible refine KeepsLaws.ite ?_ ?_
    · with_reducible refine KeepsLaws.ite ?_ ?_
      · exact KeepsLaws.refl ..
      · with_reducible refine KeepsLaws.comp ?_ (State.holdover_keeps ..) (KeepsLaws.subI rfl rfl)
        exact KeepsLaws.refl ..
    · with_reducible refine KeepsLaws.ite ?_ ?_
      · exact KeepsLaws.refl ..
      · with_reducible refine KeepsLaws.ite ?_ ?_
        · with_reducible refine KeepsLaws.comp ?_ (State.switchTo_keeps ..) (KeepsLaws.subI rfl rfl)
          exact KeepsLaws.refl ..
        · with_reducible refine KeepsLaws.ite ?_ ?_
          · exact KeepsLaws.refl ..
          · split
            · with_reducible refine KeepsLaws.ite ?_ ?_
              · with_reducible refine KeepsLaws.ite ?_ ?_
                · exact KeepsLaws.refl ..
                · with_reducible refine KeepsLaws.comp ?_ (State.holdover_keeps ..) (KeepsLaws.subI rfl rfl)
                  exact KeepsLaws.refl ..
              · with_reducible refine KeepsLaws.ite ?_ ?_
                · exact KeepsLaws.refl ..
                · with_reducible refine KeepsLaws.comp ?_ (State.setDpll_keeps ..) (KeepsLaws.subI rfl rfl)
                  with_reducible refine KeepsLaws.stepSetBit ?_ (KeepsLaws.bitI rfl)
                  with_reducible refine KeepsLaws.stepSetBits ?_ (KeepsLaws.bitI rfl)
                  with_reducible refine KeepsLaws.comp ?_ (State.holdAt_keeps ..) (KeepsLaws.subI rfl rfl)
                  exact KeepsLaws.refl ..
            · split
              · with_reducible refine KeepsLaws.comp ?_ (State.holdover_keeps ..) (KeepsLaws.subI rfl rfl)
                with_reducible refine KeepsLaws.stepSetBit ?_ (KeepsLaws.bitI rfl)
                exact KeepsLaws.refl ..
              · with_reducible refine KeepsLaws.comp ?_ (State.switchTo_keeps ..) (KeepsLaws.subI rfl rfl)
                exact KeepsLaws.refl ..

theorem State.checkDisagree_keeps (s : State) :
    Keeps 68157964 1647833362065034592062204593614792936953411884271164748649271296 s (State.checkDisagree s) := by
  unfold State.checkDisagree
  extract_lets
  rename_i e0 e1 e2 e3 e4 e5
  have h_e3 : Keeps 68157964 1647833362065034592062204593614792936953411884271164748649271296 s e3 := by
    unfold e3
    split
    · unfold e2
      with_reducible refine KeepsLaws.comp ?_ (State.event_keeps ..) (KeepsLaws.subI rfl rfl)
      exact KeepsLaws.refl ..
    · exact KeepsLaws.refl ..
  clear_value e3
  have h_e4 : Keeps 68157964 1647833362065034592062204593614792936953411884271164748649271296 s e4 := by
    unfold e4
    clear_value e0
    split
    · with_reducible refine KeepsLaws.stepBumpSat ?_ (KeepsLaws.bitI rfl)
      unfold e2
      with_reducible refine KeepsLaws.comp ?_ (State.event_keeps ..) (KeepsLaws.subI rfl rfl)
      assumption
    · assumption
  clear_value e4
  with_reducible refine KeepsLaws.ite ?_ ?_
  · exact KeepsLaws.refl ..
  · with_reducible refine KeepsLaws.comp ?_ (State.selectRef_keeps ..) (KeepsLaws.subI rfl rfl)
    with_reducible refine KeepsLaws.stepSetBit ?_ (KeepsLaws.bitI rfl)
    with_reducible refine KeepsLaws.comp ?_ (KeepsLaws.upd_tm ..) (KeepsLaws.subI rfl rfl)
    assumption

theorem State.refQualEvent_keeps (s : State) (i : ℕ) (qual : ℕ) (cause : ℕ) :
    Keeps 12 593920 s (State.refQualEvent s i qual cause) := by
  unfold State.refQualEvent
  with_reducible refine KeepsLaws.comp ?_ (State.event_keeps ..) (KeepsLaws.subI rfl rfl)
  exact KeepsLaws.refl ..

theorem State.refLost_keeps (s : State) (i : ℕ) (cause : ℕ) :
    Keeps 68157964 1750677396897609969696890167524627343514832875873263490108559360 s (State.refLost s i cause) := by
  unfold State.refLost
  extract_lets
  rename_i e0 e1 e2 e3 e4
  have h_e1 : Keeps 68157964 1750677396897609969696890167524627343514832875873263490108559360 s e1 := by
    unfold e1
    with_reducible refine KeepsLaws.ite ?_ ?_
    · with_reducible refine KeepsLaws.stepBumpSat ?_ (KeepsLaws.bitI rfl)
      exact KeepsLaws.refl ..
    · exact KeepsLaws.refl ..
  clear_value e1
  have h_e2 : Keeps 68157964 1750677396897609969696890167524627343514832875873263490108559360 s e2 := by
    unfold e2
    with_reducible refine KeepsLaws.comp ?_ (State.modRef_keeps ..) (KeepsLaws.subI rfl rfl)
    assumption
  clear_value e2
  have h_e3 : Keeps 68157964 1750677396897609969696890167524627343514832875873263490108559360 s e3 := by
    unfold e3
    with_reducible refine KeepsLaws.comp ?_ (State.refQualEvent_keeps ..) (KeepsLaws.subI rfl rfl)
    with_reducible refine KeepsLaws.stepSetBit ?_ (KeepsLaws.bitI rfl)
    assumption
  clear_value e3
  have h_e4 : Keeps 68157964 1750677396897609969696890167524627343514832875873263490108559360 s e4 := by
    unfold e4
    with_reducible refine KeepsLaws.ite ?_ ?_
    · with_reducible refine KeepsLaws.comp ?_ (State.stopWtr_keeps ..) (KeepsLaws.subI rfl rfl)
      assumption
    · assumption
  clear_value e4
  with_reducible refine KeepsLaws.ite ?_ ?_
  · with_reducible refine KeepsLaws.comp ?_ (State.checkDisagree_keeps ..) (KeepsLaws.subI rfl rfl)
    with_reducible refine KeepsLaws.comp ?_ (State.selectRef_keeps ..) (KeepsLaws.subI rfl rfl)
    assumption
  · assumption

theorem State.setServo_keeps (s : State) (st : ℕ) :
    Keeps 68157964 1750677396900603125050143856701108490052235823497518839956574208 s (State.setServo s st) := by
  unfold State.setServo
  extract_lets
  rename_i e0 e1 e2 e3
  have h_e1 : Keeps 68157964 1750677396900603125050143856701108490052235823497518839956574208 s e1 := by
    unfold e1
    with_reducible refine KeepsLaws.comp ?_ (State.event_keeps ..) (KeepsLaws.subI rfl rfl)
    with_reducible refine KeepsLaws.stepSetBits ?_ (KeepsLaws.bitI rfl)
    exact KeepsLaws.refl ..
  clear_value e1
  have h_e3 : Keeps 68157964 1750677396900603125050143856701108490052235823497518839956574208 s e3 := by
    unfold e3
    with_reducible refine KeepsLaws.comp ?_ (KeepsLaws.upd_tm ..) (KeepsLaws.subI rfl rfl)
    assumption
  clear_value e3
  with_reducible refine KeepsLaws.ite ?_ ?_
  · exact KeepsLaws.refl ..
  · with_reducible refine KeepsLaws.ite ?_ ?_
    · with_reducible refine KeepsLaws.ite ?_ ?_
      · with_reducible refine KeepsLaws.comp ?_ (State.refLost_keeps ..) (KeepsLaws.subI rfl rfl)
        assumption
      · with_reducible refine KeepsLaws.comp ?_ (State.modRef_keeps ..) (KeepsLaws.subI rfl rfl)
        assumption
    · with_reducible refine KeepsLaws.ite ?_ ?_
      · with_reducible refine KeepsLaws.comp ?_ (State.modRef_keeps ..) (KeepsLaws.subI rfl rfl)
        assumption
      · assumption

theorem State.setRate_keeps (s : State) (r : ℤ) :
    Keeps 512 287342913912354160942190067590682971928513585409425408 s (State.setRate s r) := by
  unfold State.setRate
  extract_lets
  rename_i e0 e1 e2
  have h_e0 : Keeps 512 287342913912354160942190067590682971928513585409425408 s e0 := by
    unfold e0
    with_reducible refine KeepsLaws.ite ?_ ?_
    · with_reducible refine KeepsLaws.comp ?_ (State.accrue_keeps ..) (KeepsLaws.subI rfl rfl)
      exact KeepsLaws.refl ..
    · with_reducible refine KeepsLaws.comp ?_ (State.slewTo_keeps ..) (KeepsLaws.subI rfl rfl)
      exact KeepsLaws.refl ..
  clear_value e0
  with_reducible refine KeepsLaws.stepReg ?_ (KeepsLaws.bitI rfl)
  with_reducible refine KeepsLaws.stepReg ?_ (KeepsLaws.bitI rfl)
  with_reducible refine KeepsLaws.comp ?_ (KeepsLaws.upd_tm ..) (KeepsLaws.subI rfl rfl)
  assumption

theorem State.servoHoldover_keeps (s : State) :
    Keeps 68157964 1750677397187946038962498017643298557642918795426032425365999616 s (State.servoHoldover s) := by
  unfold State.servoHoldover
  with_reducible refine KeepsLaws.ite ?_ ?_
  · exact KeepsLaws.refl ..
  · extract_lets
    rename_i e0 e1
    have h_e1 : Keeps 68157964 1750677397187946038962498017643298557642918795426032425365999616 s e1 := by
      unfold e1
      split
      · with_reducible refine KeepsLaws.comp ?_ (State.setRate_keeps ..) (KeepsLaws.subI rfl rfl)
        exact KeepsLaws.refl ..
      · exact KeepsLaws.refl ..
    clear_value e1
    with_reducible refine KeepsLaws.comp ?_ (State.setServo_keeps ..) (KeepsLaws.subI rfl rfl)
    assumption

theorem State.bmca_keeps (s : State) (oldPort : ℕ) (old : Option PtpMsg) :
    Keeps 68157964 1750677794104291123227712332455178589572997352679465070918963200 s (State.bmca s oldPort old) := by
  unfold State.bmca
  extract_lets
  rename_i e0 e1 e2 e3 e4 e5 e6 e7 e8
  have h_e4 : Keeps 68157964 1750677794104291123227712332455178589572997352679465070918963200 s e4 := by
    unfold e4
    with_reducible refine KeepsLaws.foldl (fun x a => ?_) ?_
    · with_reducible refine KeepsLaws.ite ?_ ?_
      · extract_lets
        rename_i e9
        with_reducible refine KeepsLaws.stepSetBits ?_ (KeepsLaws.bitI rfl)
        exact KeepsLaws.refl ..
      · exact KeepsLaws.refl ..
    · with_reducible refine KeepsLaws.stepSetBits ?_ (KeepsLaws.bitI rfl)
      exact KeepsLaws.refl ..
  clear_value e4
  have h_e5 : Keeps 68157964 1750677794104291123227712332455178589572997352679465070918963200 s e5 := by
    unfold e5
    clear_value e0
    split
    · extract_lets
      rename_i e10
      have h_e10 : Keeps 68157964 1750677794104291123227712332455178589572997352679465070918963200 s e10 := by
        unfold e10
        with_reducible refine KeepsLaws.stepSetBits ?_ (KeepsLaws.bitI rfl)
        with_reducible refine KeepsLaws.stepReg ?_ (KeepsLaws.bitI rfl)
        with_reducible refine KeepsLaws.stepReg ?_ (KeepsLaws.bitI rfl)
        assumption
      clear_value e10
      with_reducible refine KeepsLaws.ite ?_ ?_
      · assumption
      · with_reducible refine KeepsLaws.comp ?_ (State.event_keeps ..) (KeepsLaws.subI rfl rfl)
        assumption
    · assumption
  clear_value e5
  have h_e7 : Keeps 68157964 1750677794104291123227712332455178589572997352679465070918963200 s e7 := by
    unfold e7
    with_reducible refine KeepsLaws.comp ?_ (KeepsLaws.upd_tm ..) (KeepsLaws.subI rfl rfl)
    assumption
  clear_value e7
  with_reducible refine KeepsLaws.ite ?_ ?_
  · assumption
  · split
    · with_reducible refine KeepsLaws.ite ?_ ?_
      · with_reducible refine KeepsLaws.comp ?_ (State.setServo_keeps ..) (KeepsLaws.subI rfl rfl)
        with_reducible refine KeepsLaws.comp ?_ (KeepsLaws.upd_tm ..) (KeepsLaws.subI rfl rfl)
        assumption
      · assumption
    · with_reducible refine KeepsLaws.comp ?_ (State.setServo_keeps ..) (KeepsLaws.subI rfl rfl)
      with_reducible refine KeepsLaws.comp ?_ (KeepsLaws.upd_tm ..) (KeepsLaws.subI rfl rfl)
      assumption
    · with_reducible refine KeepsLaws.ite ?_ ?_
      · assumption
      · with_reducible refine KeepsLaws.comp ?_ (State.servoHoldover_keeps ..) (KeepsLaws.subI rfl rfl)
        assumption

theorem State.announce_keeps (s : State) (p : ℕ) (m : PtpMsg) :
    Keeps 68157964 1750677794104291123227712332455178589572997352679465070918963200 s (State.announce s p m) := by
  unfold State.announce
  extract_lets
  rename_i e0 e1 e2 e3 e4 e5 e6 e7 e8
  have h_e8 : Keeps 68157964 1750677794104291123227712332455178589572997352679465070918963200 s e8 := by
    unfold e8
    with_reducible refine KeepsLaws.comp ?_ (State.modPtpPort_keeps ..) (KeepsLaws.subI rfl rfl)
    exact KeepsLaws.refl ..
  clear_value e8
  with_reducible refine KeepsLaws.comp ?_ (State.bmca_keeps ..) (KeepsLaws.subI rfl rfl)
  assumption

theorem State.delayResp_keeps (s : State) (p : ℕ) (m : PtpMsg) :
    Keeps 512 393085106232100492168916012464054305598206584840093958144 s (State.delayResp s p m) := by
  unfold State.delayResp
  split
  · with_reducible refine KeepsLaws.ite ?_ ?_
    · extract_lets
      rename_i e0 e1 e2
      with_reducible refine KeepsLaws.stepSetBits ?_ (KeepsLaws.bitI rfl)
      with_reducible refine KeepsLaws.stepReg ?_ (KeepsLaws.bitI rfl)
      with_reducible refine KeepsLaws.comp ?_ (KeepsLaws.upd_tm ..) (KeepsLaws.subI rfl rfl)
      exact KeepsLaws.refl ..
    · exact KeepsLaws.refl ..
  · exact KeepsLaws.refl ..

theorem State.servoRate_keeps (s : State) (want : ℤ) :
    Keeps 780 196446772144746128030810609542830258475127121224911097856 s (State.servoRate s want) := by
  unfold State.servoRate
  extract_lets
  rename_i e0 e1 e2
  have h_e2 : Keeps 780 196446772144746128030810609542830258475127121224911097856 s e2 := by
    unfold e2
    with_reducible refine KeepsLaws.comp ?_ (State.setRate_keeps ..) (KeepsLaws.subI rfl rfl)
    exact KeepsLaws.refl ..
  clear_value e2
  with_reducible refine KeepsLaws.ite ?_ ?_
  · assumption
  · with_reducible refine KeepsLaws.comp ?_ (State.eventPerSec_keeps ..) (KeepsLaws.subI rfl rfl)
    with_reducible refine KeepsLaws.stepBumpSat ?_ (KeepsLaws.bitI rfl)
    assumption

theorem State.showOffset_keeps (s : State) (f : ℤ) :
    Keeps 512 383123885216472214589586756787577295904684780545900544 s (State.showOffset s f) := by
  unfold State.showOffset
  with_reducible refine KeepsLaws.stepSetSigned ?_ (KeepsLaws.bitI rfl)
  with_reducible refine KeepsLaws.comp ?_ (KeepsLaws.upd_tm ..) (KeepsLaws.subI rfl rfl)
  exact KeepsLaws.refl ..

theorem State.moveHeads_keeps (s : State) (a : ℤ) :
    Keeps 1048576 91343852333181432387730302044767688728495783936 s (State.moveHeads s a) := by
  unfold State.moveHeads
  extract_lets
  rename_i e0 e1
  with_reducible refine KeepsLaws.foldl (fun x a => ?_) ?_
  · with_reducible refine KeepsLaws.comp ?_ (State.modHead_keeps ..) (KeepsLaws.subI rfl rfl)
    exact KeepsLaws.refl ..
  · exact KeepsLaws.refl ..

theorem State.showStep_keeps (s : State) (a : ℤ) (how : ℕ) :
    Keeps 12 190032440222723472125611512513175741716347906500615278592 s (State.showStep s a how) := by
  unfold State.showStep
  extract_lets
  rename_i e0 e1 e2
  have h_e1 : Keeps 12 190032440222723472125611512513175741716347906500615278592 s e1 := by
    unfold e1
    with_reducible refine KeepsLaws.stepReg ?_ (KeepsLaws.bitI rfl)
    with_reducible refine KeepsLaws.stepReg ?_ (KeepsLaws.bitI rfl)
    with_reducible refine KeepsLaws.stepBumpWrap ?_ (KeepsLaws.bitI rfl)
    exact KeepsLaws.refl ..
  clear_value e1
  have h_e2 : Keeps 12 190032440222723472125611512513175741716347906500615278592 s e2 := by
    unfold e2
    with_reducible refine KeepsLaws.stepReg ?_ (KeepsLaws.bitI rfl)
    with_reducible refine KeepsLaws.stepReg ?_ (KeepsLaws.bitI rfl)
    assumption
  clear_value e2
  with_reducible refine KeepsLaws.comp ?_ (State.event_keeps ..) (KeepsLaws.subI rfl rfl)
  with_reducible refine KeepsLaws.stepSetBit ?_ (KeepsLaws.bitI rfl)
  assumption

theorem State.moveInputs_keeps (s : State) (a : ℤ) :
    Keeps 67163136 0 s (State.moveInputs s a) := by
  unfold State.moveInputs
  extract_lets
  rename_i e0 e1 e2 e3 e4 e5 e6 e7 e8 e9 e10 e11 e12
  with_reducible refine KeepsLaws.comp ?_ (KeepsLaws.updMk (F := 67163136) ?_) (KeepsLaws.subI rfl rfl)
  · exact KeepsLaws.refl ..
  · (intro f hf; cases f <;> first | exact absurd hf (by decide) | rfl)

theorem State.stepClock_keeps (s : State) (a : ℤ) :
    Keeps 512 0 s (State.stepClock s a) := by
  unfold State.stepClock
  extract_lets
  rename_i e0 e1 e2
  with_reducible refine KeepsLaws.comp ?_ (KeepsLaws.upd_tm ..) (KeepsLaws.subI rfl rfl)
  exact KeepsLaws.refl ..

theorem State.moveTouch_keeps (s : State) (a : ℤ) :
    Keeps 134217728 0 s (State.moveTouch s a) := by
  unfold State.moveTouch
  extract_lets
  rename_i e0
  with_reducible refine KeepsLaws.foldl (fun x a => ?_) ?_
  · with_reducible refine KeepsLaws.comp ?_ (State.modTfe_keeps ..) (KeepsLaws.subI rfl rfl)
    exact KeepsLaws.refl ..
  · exact KeepsLaws.refl ..

theorem State.moveVirtual_keeps (s : State) (h : ℕ) (c : ℕ) (oldK : ℕ) (oldT : ℕ) :
    Keeps 1048576 91343852333181432387730302044767688728495783936 s (State.moveVirtual s h c oldK oldT) := by
  unfold State.moveVirtual
  extract_lets
  rename_i e0 e1
  with_reducible refine KeepsLaws.comp ?_ (State.modHead_keeps ..) (KeepsLaws.subI rfl rfl)
  exact KeepsLaws.refl ..

theorem State.moveEncoder_keeps (s : State) (a : ℤ) :
    Keeps 1581056 91343852338498344370869965536382916969617162240 s (State.moveEncoder s a) := by
  unfold State.moveEncoder
  extract_lets
  rename_i e0 e1 e2 e3
  have h_e1 : Keeps 1581056 91343852338498344370869965536382916969617162240 s e1 := by
    unfold e1
    with_reducible refine KeepsLaws.foldl (fun x a => ?_) ?_
    · with_reducible refine KeepsLaws.ite ?_ ?_
      · extract_lets
        rename_i e4
        have h_e4 : Keeps 1581056 91343852338498344370869965536382916969617162240 x e4 := by
          unfold e4
          with_reducible refine KeepsLaws.comp ?_ (State.setChan_keeps ..) (KeepsLaws.subI rfl rfl)
          exact KeepsLaws.refl ..
        clear_value e4
        with_reducible refine KeepsLaws.foldl (fun x a => ?_) ?_
        · with_reducible refine KeepsLaws.ite ?_ ?_
          · with_reducible refine KeepsLaws.comp ?_ (State.moveVirtual_keeps ..) (KeepsLaws.subI rfl rfl)
            exact KeepsLaws.refl ..
          · exact KeepsLaws.refl ..
        · assumption
      · exact KeepsLaws.refl ..
    · exact KeepsLaws.refl ..
  clear_value e1
  with_reducible refine KeepsLaws.comp ?_ (KeepsLaws.updMk (F := 532480) ?_) (KeepsLaws.subI rfl rfl)
  · assumption
  · (intro f hf; cases f <;> first | exact absurd hf (by decide) | rfl)

theorem State.moveWaiters_keeps (s : State) (a : ℤ) :
    Keeps 80 0 s (State.moveWaiters s a) := by
  unfold State.moveWaiters
  extract_lets
  rename_i e0 e1 e2
  with_reducible refine KeepsLaws.comp ?_ (KeepsLaws.updMk (F := 80) ?_) (KeepsLaws.subI rfl rfl)
  · exact KeepsLaws.refl ..
  · (intro f hf; cases f <;> first | exact absurd hf (by decide) | rfl)

theorem State.ptpStep_keeps (s : State) (a : ℤ) (how : ℕ) :
    Keeps 202962524 1645906481864711103791179137190292679679073669112849031789875200 s (State.ptpStep s a how) := by
  unfold State.ptpStep
  extract_lets
  rename_i e0 e1
  have h_e0 : Keeps 202962524 1645906481864711103791179137190292679679073669112849031789875200 s e0 := by
    unfold e0
    with_reducible refine KeepsLaws.comp ?_ (State.moveWaiters_keeps ..) (KeepsLaws.subI rfl rfl)
    with_reducible refine KeepsLaws.comp ?_ (State.moveTouch_keeps ..) (KeepsLaws.subI rfl rfl)
    with_reducible refine KeepsLaws.comp ?_ (State.moveEncoder_keeps ..) (KeepsLaws.subI rfl rfl)
    with_reducible refine KeepsLaws.comp ?_ (State.moveHeads_keeps ..) (KeepsLaws.subI rfl rfl)
    with_reducible refine KeepsLaws.comp ?_ (State.moveInputs_keeps ..) (KeepsLaws.subI rfl rfl)
    with_reducible refine KeepsLaws.comp ?_ (State.stepClock_keeps ..) (KeepsLaws.subI rfl rfl)
    exact KeepsLaws.refl ..
  clear_value e0
  have h_e1 : Keeps 202962524 1645906481864711103791179137190292679679073669112849031789875200 s e1 := by
    unfold e1
    with_reducible refine KeepsLaws.comp ?_ (State.showStep_keeps ..) (KeepsLaws.subI rfl rfl)
    assumption
  clear_value e1
  with_reducible refine KeepsLaws.ite ?_ ?_
  · with_reducible refine KeepsLaws.comp ?_ (State.gridStep_keeps ..) (KeepsLaws.subI rfl rfl)
    assumption
  · assumption

theorem State.firstStep_keeps (s : State) :
    Keeps 202962780 1750677783759946222382962543853248139448073854868204237301026816 s (State.firstStep s) := by
  unfold State.firstStep
  extract_lets
  rename_i e0 e1 e2 e3
  have h_e2 : Keeps 202962780 1750677783759946222382962543853248139448073854868204237301026816 s e2 := by
    unfold e2
    with_reducible refine KeepsLaws.comp ?_ (State.ptpStep_keeps ..) (KeepsLaws.subI rfl rfl)
    exact KeepsLaws.refl ..
  clear_value e2
  have h_e3 : Keeps 202962780 1750677783759946222382962543853248139448073854868204237301026816 s e3 := by
    unfold e3
    with_reducible refine KeepsLaws.comp ?_ (State.servoRate_keeps ..) (KeepsLaws.subI rfl rfl)
    assumption
  clear_value e3
  with_reducible refine KeepsLaws.comp ?_ (State.setServo_keeps ..) (KeepsLaws.subI rfl rfl)
  with_reducible refine KeepsLaws.comp ?_ (State.showOffset_keeps ..) (KeepsLaws.subI rfl rfl)
  assumption

theorem State.keepHistory_keeps (s : State) :
    Keeps 512 0 s (State.keepHistory s) := by
  unfold State.keepHistory
  extract_lets
  rename_i e0 e1 e2 e3 e4 e5
  with_reducible refine KeepsLaws.comp ?_ (KeepsLaws.upd_tm ..) (KeepsLaws.subI rfl rfl)
  exact KeepsLaws.refl ..

theorem State.lockClock_keeps (s : State) (ok : Bool) :
    Keeps 512 0 s (State.lockClock s ok) := by
  unfold State.lockClock
  with_reducible refine KeepsLaws.comp ?_ (KeepsLaws.upd_tm ..) (KeepsLaws.subI rfl rfl)
  exact KeepsLaws.refl ..

theorem State.loopRate_keeps (s : State) (errs : List ℤ) :
    Keeps 512 0 s (State.loopRate s errs) := by
  unfold State.loopRate
  with_reducible refine KeepsLaws.ite ?_ ?_
  · exact KeepsLaws.refl ..
  · with_reducible refine KeepsLaws.comp ?_ (State.slewTo_keeps ..) (KeepsLaws.subI rfl rfl)
    exact KeepsLaws.refl ..

theorem State.offsetAlert_keeps (s : State) :
    Keeps 524 593920 s (State.offsetAlert s) := by
  unfold State.offsetAlert
  extract_lets
  rename_i e0 e1
  with_reducible refine KeepsLaws.ite ?_ ?_
  · with_reducible refine KeepsLaws.comp ?_ (State.event_keeps ..) (KeepsLaws.subI rfl rfl)
    with_reducible refine KeepsLaws.comp ?_ (KeepsLaws.upd_tm ..) (KeepsLaws.subI rfl rfl)
    exact KeepsLaws.refl ..
  · exact KeepsLaws.refl ..

theorem State.measure_keeps (s : State) (t : ℤ) (off : ℤ) :
    Keeps 202962780 1750677783759946222382962543853248139448073854868204237301026816 s (State.measure s t off) := by
  unfold State.measure
  extract_lets
  rename_i e0 e1 e2 e3 e4 e5 e6 e7 e8 e9 e10
  have h_e1 : Keeps 202962780 1750677783759946222382962543853248139448073854868204237301026816 s e1 := by
    unfold e1
    with_reducible refine KeepsLaws.comp ?_ (KeepsLaws.upd_tm ..) (KeepsLaws.subI rfl rfl)
    exact KeepsLaws.refl ..
  clear_value e1
  have h_e5 : Keeps 202962780 1750677783759946222382962543853248139448073854868204237301026816 s e5 := by
    unfold e5
    with_reducible refine KeepsLaws.comp ?_ (State.showOffset_keeps ..) (KeepsLaws.subI rfl rfl)
    assumption
  clear_value e5
  have h_e6 : Keeps 202962780 1750677783759946222382962543853248139448073854868204237301026816 s e6 := by
    unfold e6
    with_reducible refine KeepsLaws.comp ?_ (State.offsetAlert_keeps ..) (KeepsLaws.subI rfl rfl)
    with_reducible refine KeepsLaws.comp ?_ (State.showOffset_keeps ..) (KeepsLaws.subI rfl rfl)
    with_reducible refine KeepsLaws.ite ?_ ?_
    · with_reducible refine KeepsLaws.comp ?_ (State.setServo_keeps ..) (KeepsLaws.subI rfl rfl)
      assumption
    · assumption
  clear_value e6
  have h_e7 : Keeps 202962780 1750677783759946222382962543853248139448073854868204237301026816 s e7 := by
    unfold e7
    with_reducible refine KeepsLaws.comp ?_ (State.servoRate_keeps ..) (KeepsLaws.subI rfl rfl)
    assumption
  clear_value e7
  have h_e10 : Keeps 202962780 1750677783759946222382962543853248139448073854868204237301026816 s e10 := by
    unfold e10
    with_reducible refine KeepsLaws.comp ?_ (KeepsLaws.upd_tm ..) (KeepsLaws.subI rfl rfl)
    assumption
  clear_value e10
  split
  · with_reducible refine KeepsLaws.ite ?_ ?_
    · with_reducible refine KeepsLaws.comp ?_ (State.firstStep_keeps ..) (KeepsLaws.subI rfl rfl)
      assumption
    · assumption
  · assumption
  · with_reducible refine KeepsLaws.ite ?_ ?_
    · with_reducible refine KeepsLaws.comp ?_ (State.setServo_keeps ..) (KeepsLaws.subI rfl rfl)
      assumption
    · assumption

theorem State.measureRef_keeps (s : State) (i : ℕ) (ppb : ℤ) :
    Keeps 68157964 1776388405605753814105561561002085945155188123773788175473381376 s (State.measureRef s i ppb) := by
  unfold State.measureRef
  with_reducible refine KeepsLaws.ite ?_ ?_
  · exact KeepsLaws.refl ..
  · extract_lets
    rename_i e0 e1 e2 e3
    have h_e2 : Keeps 68157964 1776388405605753814105561561002085945155188123773788175473381376 s e2 := by
      unfold e2
      with_reducible refine KeepsLaws.stepSetSigned ?_ (KeepsLaws.bitI rfl)
      exact KeepsLaws.refl ..
    clear_value e2
    have h_e3 : Keeps 68157964 1776388405605753814105561561002085945155188123773788175473381376 s e3 := by
      unfold e3
      with_reducible refine KeepsLaws.comp ?_ (State.modRef_keeps ..) (KeepsLaws.subI rfl rfl)
      assumption
    clear_value e3
    with_reducible refine KeepsLaws.ite ?_ ?_
    · with_reducible refine KeepsLaws.comp ?_ (State.refLost_keeps ..) (KeepsLaws.subI rfl rfl)
      assumption
    · assumption

theorem State.trackEdge_keeps (s : State) (i : ℕ) (e : ℤ) (prev : ℤ) :
    Keeps 68157964 1645906291832270881067707006261868183363668461149714290053812224 s (State.trackEdge s i e prev) := by
  unfold State.trackEdge
  extract_lets
  rename_i e0 e1
  have h_e1 : Keeps 68157964 1645906291832270881067707006261868183363668461149714290053812224 s e1 := by
    unfold e1
    with_reducible refine KeepsLaws.ite ?_ ?_
    · with_reducible refine KeepsLaws.comp ?_ (State.gridStep_keeps ..) (KeepsLaws.subI rfl rfl)
      exact KeepsLaws.refl ..
    · with_reducible refine KeepsLaws.ite ?_ ?_
      · with_reducible refine KeepsLaws.comp ?_ (State.loopRate_keeps ..) (KeepsLaws.subI rfl rfl)
        exact KeepsLaws.refl ..
      · exact KeepsLaws.refl ..
  clear_value e1
  with_reducible refine KeepsLaws.comp ?_ (State.lockClock_keeps ..) (KeepsLaws.subI rfl rfl)
  with_reducible refine KeepsLaws.comp ?_ (State.modRef_keeps ..) (KeepsLaws.subI rfl rfl)
  assumption

theorem State.reviveRef_keeps (s : State) (i : ℕ) :
    Keeps 512 0 s (State.reviveRef s i) := by
  unfold State.reviveRef
  with_reducible refine KeepsLaws.comp ?_ (State.modRef_keeps ..) (KeepsLaws.subI rfl rfl)
  exact KeepsLaws.refl ..

theorem State.phaseEdge_keeps (s : State) (i : ℕ) (dt : ℕ) :
    Keeps 68157964 1802099414313897658514232954479544546795543371674312860838203392 s (State.phaseEdge s i dt) := by
  unfold State.phaseEdge
  extract_lets
  rename_i e0 e1 e2 e3 e4
  have h_e3 : Keeps 68157964 1802099414313897658514232954479544546795543371674312860838203392 s e3 := by
    unfold e3
    with_reducible refine KeepsLaws.ite ?_ ?_
    · with_reducible refine KeepsLaws.comp ?_ (State.reviveRef_keeps ..) (KeepsLaws.subI rfl rfl)
      exact KeepsLaws.refl ..
    · with_reducible refine KeepsLaws.ite ?_ ?_
      · with_reducible refine KeepsLaws.comp ?_ (State.refLost_keeps ..) (KeepsLaws.subI rfl rfl)
        exact KeepsLaws.refl ..
      · exact KeepsLaws.refl ..
  clear_value e3
  have h_e4 : Keeps 68157964 1802099414313897658514232954479544546795543371674312860838203392 s e4 := by
    unfold e4
    with_reducible refine KeepsLaws.stepSetSigned ?_ (KeepsLaws.bitI rfl)
    with_reducible refine KeepsLaws.comp ?_ (State.modRef_keeps ..) (KeepsLaws.subI rfl rfl)
    assumption
  clear_value e4
  with_reducible refine KeepsLaws.ite ?_ ?_
  · with_reducible refine KeepsLaws.comp ?_ (State.trackEdge_keeps ..) (KeepsLaws.subI rfl rfl)
    assumption
  · assumption

theorem State.phaseStep_keeps (s : State) (d : ℤ) :
    Keeps 68157964 1645906291832270881067707006261868183363668461149714290053812224 s (State.phaseStep s d).1 := by
  unfold State.phaseStep
  with_reducible refine KeepsLaws.iteQ ?_ ?_
  · dsimp only
    with_reducible refine KeepsLaws.comp ?_ (State.gridStep_keeps ..) (KeepsLaws.subI rfl rfl)
    exact KeepsLaws.refl ..
  · dsimp only
    exact KeepsLaws.refl ..

theorem State.refGained_keeps (s : State) (i : ℕ) :
    Keeps 68157964 1647833362065034592062204593614792936953411884271164748649271296 s (State.refGained s i) := by
  unfold State.refGained
  extract_lets
  rename_i e0 e1 e2 e3
  have h_e0 : Keeps 68157964 1647833362065034592062204593614792936953411884271164748649271296 s e0 := by
    unfold e0
    with_reducible refine KeepsLaws.comp ?_ (State.refQualEvent_keeps ..) (KeepsLaws.subI rfl rfl)
    with_reducible refine KeepsLaws.stepSetBit ?_ (KeepsLaws.bitI rfl)
    exact KeepsLaws.refl ..
  clear_value e0
  have h_e3 : Keeps 68157964 1647833362065034592062204593614792936953411884271164748649271296 s e3 := by
    unfold e3
    with_reducible refine KeepsLaws.ite ?_ ?_
    · with_reducible refine KeepsLaws.stepReg ?_ (KeepsLaws.bitI rfl)
      with_reducible refine KeepsLaws.stepSetBit ?_ (KeepsLaws.bitI rfl)
      with_reducible refine KeepsLaws.comp ?_ (KeepsLaws.upd_tm ..) (KeepsLaws.subI rfl rfl)
      assumption
    · assumption
  clear_value e3
  with_reducible refine KeepsLaws.comp ?_ (State.checkDisagree_keeps ..) (KeepsLaws.subI rfl rfl)
  with_reducible refine KeepsLaws.comp ?_ (State.selectRef_keeps ..) (KeepsLaws.subI rfl rfl)
  assumption

theorem State.rejoin_keeps (s : State) :
    Keeps 512 0 s (State.rejoin s) := by
  unfold State.rejoin
  with_reducible refine KeepsLaws.ite ?_ ?_
  · extract_lets
    rename_i e0 e1
    have h_e0 : Keeps 512 0 s e0 := by
      unfold e0
      with_reducible refine KeepsLaws.comp ?_ (State.accrue_keeps ..) (KeepsLaws.subI rfl rfl)
      exact KeepsLaws.refl ..
    clear_value e0
    with_reducible refine KeepsLaws.comp ?_ (KeepsLaws.upd_tm ..) (KeepsLaws.subI rfl rfl)
    assumption
  · exact KeepsLaws.refl ..

theorem State.setPhase_keeps (s : State) (new : ℤ) :
    Keeps 512 75325220824640169166029473078491996993228265333568414154752 s (State.setPhase s new) := by
  unfold State.setPhase
  extract_lets
  rename_i e0 e1 e2
  have h_e1 : Keeps 512 75325220824640169166029473078491996993228265333568414154752 s e1 := by
    unfold e1
    with_reducible refine KeepsLaws.foldl (fun x a => ?_) ?_
    · with_reducible refine KeepsLaws.ite ?_ ?_
      · with_reducible refine KeepsLaws.comp ?_ (State.modRef_keeps ..) (KeepsLaws.subI rfl rfl)
        exact KeepsLaws.refl ..
      · exact KeepsLaws.refl ..
    · exact KeepsLaws.refl ..
  clear_value e1
  with_reducible refine KeepsLaws.stepReg ?_ (KeepsLaws.bitI rfl)
  with_reducible refine KeepsLaws.stepReg ?_ (KeepsLaws.bitI rfl)
  with_reducible refine KeepsLaws.comp ?_ (KeepsLaws.upd_tm ..) (KeepsLaws.subI rfl rfl)
  assumption

theorem State.showMeasure_keeps (s : State) :
    Keeps 0 52238040641887957316641439579934199914803802008829695216320512 s (State.showMeasure s) := by
  unfold State.showMeasure
  extract_lets
  rename_i e0 e1 e2
  have h_e0 : Keeps 0 52238040641887957316641439579934199914803802008829695216320512 s e0 := by
    unfold e0
    with_reducible refine KeepsLaws.stepSetSigned ?_ (KeepsLaws.bitI rfl)
    exact KeepsLaws.refl ..
  clear_value e0
  have h_e1 : Keeps 0 52238040641887957316641439579934199914803802008829695216320512 s e1 := by
    unfold e1
    with_reducible refine KeepsLaws.ite ?_ ?_
    · with_reducible refine KeepsLaws.stepSetSigned ?_ (KeepsLaws.bitI rfl)
      assumption
    · assumption
  clear_value e1
  with_reducible refine KeepsLaws.stepReg ?_ (KeepsLaws.bitI rfl)
  assumption

theorem State.syncDone_keeps (s : State) (p : ℕ) (t1 : ℤ) (t2 : ℤ) (corr : ℤ) :
    Keeps 202962780 1750677783759946222382962543853248139448073854868204237301026816 s (State.syncDone s p t1 t2 corr) := by
  unfold State.syncDone
  extract_lets
  rename_i e0 e1
  with_reducible refine KeepsLaws.comp ?_ (State.measure_keeps ..) (KeepsLaws.subI rfl rfl)
  with_reducible refine KeepsLaws.comp ?_ (KeepsLaws.upd_tm ..) (KeepsLaws.subI rfl rfl)
  exact KeepsLaws.refl ..

theorem State.trackMeasure_keeps (s : State) (ppb : List ℤ) :
    Keeps 68157964 1645906291832270881067707006261868183363668461149714290053812224 s (State.trackMeasure s ppb) := by
  unfold State.trackMeasure
  extract_lets
  rename_i e0 e1 e2
  with_reducible refine KeepsLaws.ite ?_ ?_
  · split
    · with_reducible refine KeepsLaws.comp ?_ (State.slewTo_keeps ..) (KeepsLaws.subI rfl rfl)
      exact KeepsLaws.refl ..
    · exact KeepsLaws.refl ..
  · with_reducible refine KeepsLaws.ite ?_ ?_
    · with_reducible refine KeepsLaws.comp ?_ (State.rejoin_keeps ..) (KeepsLaws.subI rfl rfl)
      with_reducible refine KeepsLaws.comp ?_ (State.modRef_keeps ..) (KeepsLaws.subI rfl rfl)
      with_reducible refine KeepsLaws.comp ?_ (State.trackEdge_keeps ..) (KeepsLaws.subI rfl rfl)
      exact KeepsLaws.refl ..
    · with_reducible refine KeepsLaws.ite ?_ ?_
      · with_reducible refine KeepsLaws.comp ?_ (State.lockClock_keeps ..) (KeepsLaws.subI rfl rfl)
        with_reducible refine KeepsLaws.comp ?_ (State.loopRate_keeps ..) (KeepsLaws.subI rfl rfl)
        exact KeepsLaws.refl ..
      · exact KeepsLaws.refl ..

theorem execRefDpll_keeps (r : Req) (b : Body) (s : State) :
    KeepsO 68157980 1647833362065034592062204593614792936953411884271164748651368448 s (execRefDpll r b s) := by
  unfold execRefDpll
  with_reducible refine KeepsLaws.command (KeepsLaws.subI rfl rfl) (fun x => ?_)
  with_reducible refine KeepsLaws.doneA ?_
  with_reducible refine KeepsLaws.comp ?_ (State.checkDisagree_keeps ..) (KeepsLaws.subI rfl rfl)
  with_reducible refine KeepsLaws.comp ?_ (KeepsLaws.upd_tm ..) (KeepsLaws.subI rfl rfl)
  exact KeepsLaws.refl ..

theorem execRefFreqMeasure_keeps (ppb : List ℤ) (s : State) :
    KeepsO 68157964 1828613892044170998060675329003173729737159721071728942620676096 s (execRefFreqMeasure ppb s) := by
  unfold execRefFreqMeasure
  with_reducible refine KeepsLaws.iteO ?_ ?_
  · with_reducible refine KeepsLaws.next ?_
    exact KeepsLaws.refl ..
  · extract_lets
    rename_i e0
    have h_e0 : Keeps 68157964 1828613892044170998060675329003173729737159721071728942620676096 s e0 := by
      unfold e0
      with_reducible refine KeepsLaws.comp ?_ (State.trackMeasure_keeps ..) (KeepsLaws.subI rfl rfl)
      with_reducible refine KeepsLaws.comp ?_ (State.showMeasure_keeps ..) (KeepsLaws.subI rfl rfl)
      with_reducible refine KeepsLaws.comp ?_ (State.keepHistory_keeps ..) (KeepsLaws.subI rfl rfl)
      exact KeepsLaws.refl ..
    clear_value e0
    with_reducible refine KeepsLaws.next ?_
    with_reducible refine KeepsLaws.comp ?_ (State.checkDisagree_keeps ..) (KeepsLaws.subI rfl rfl)
    with_reducible refine KeepsLaws.foldl (fun x a => ?_) ?_
    · with_reducible refine KeepsLaws.comp ?_ (State.measureRef_keeps ..) (KeepsLaws.subI rfl rfl)
      exact KeepsLaws.refl ..
    · assumption

theorem execTmPort_keeps (r : Req) (b : Body) (s : State) :
    KeepsO 540 3530869726155007929657631550554312359057574937511022100480 s (execTmPort r b s) := by
  unfold execTmPort
  extract_lets
  rename_i e0 e1
  with_reducible refine KeepsLaws.command (KeepsLaws.subI rfl rfl) (fun x => ?_)
  extract_lets
  rename_i e2
  have h_e2 : Keeps 540 3530869726155007929657631550554312359057574937511022100480 x e2 := by
    unfold e2
    with_reducible refine KeepsLaws.comp ?_ (State.modPtpPort_keeps ..) (KeepsLaws.subI rfl rfl)
    exact KeepsLaws.refl ..
  clear_value e2
  with_reducible refine KeepsLaws.doneA ?_
  with_reducible refine KeepsLaws.stepReg ?_ (KeepsLaws.bitI rfl)
  with_reducible refine KeepsLaws.stepSetBit ?_ (KeepsLaws.bitI rfl)
  with_reducible refine KeepsLaws.stepSetBit ?_ (KeepsLaws.bitI rfl)
  assumption

theorem execPtpStepApply_keeps (s : State) :
    KeepsO 202962524 1645906481864711103791179137190292679679073669112849031791972352 s (execPtpStepApply s) := by
  unfold execPtpStepApply
  split
  · with_reducible refine KeepsLaws.next ?_
    exact KeepsLaws.refl ..
  · extract_lets
    rename_i e0 e1 e2 e3
    have h_e1 : Keeps 202962524 1645906481864711103791179137190292679679073669112849031791972352 s e1 := by
      unfold e1
      with_reducible refine KeepsLaws.comp ?_ (KeepsLaws.upd_tm ..) (KeepsLaws.subI rfl rfl)
      exact KeepsLaws.refl ..
    clear_value e1
    have h_e3 : Keeps 202962524 1645906481864711103791179137190292679679073669112849031791972352 s e3 := by
      unfold e3
      with_reducible refine KeepsLaws.comp ?_ (State.ptpStep_keeps ..) (KeepsLaws.subI rfl rfl)
      assumption
    clear_value e3
    with_reducible refine KeepsLaws.next ?_
    with_reducible refine KeepsLaws.comp ?_ (State.replyR_keeps ..) (KeepsLaws.subI rfl rfl)
    assumption

theorem execOscInLoss_keeps (s : State) :
    KeepsO 74449164 46077677787479011400871809854749003060721699188195105834806120593979732029732387622912 s (execOscInLoss s) := by
  unfold execOscInLoss
  with_reducible refine KeepsLaws.iteO ?_ ?_
  · with_reducible refine KeepsLaws.next ?_
    with_reducible refine KeepsLaws.comp ?_ (State.fault_keeps ..) (KeepsLaws.subI rfl rfl)
    with_reducible refine KeepsLaws.stepSetBit ?_ (KeepsLaws.bitI rfl)
    exact KeepsLaws.refl ..
  · with_reducible refine KeepsLaws.next ?_
    exact KeepsLaws.refl ..

theorem execRefConfig_keeps (r : Req) (b : Body) (s : State) :
    KeepsO 68157980 1773174529517235833554477636817403619950143717786222589804875776 s (execRefConfig r b s) := by
  unfold execRefConfig
  extract_lets
  rename_i e0 e1 e2 e3 e4 e5 e6 e7
  with_reducible refine KeepsLaws.command (KeepsLaws.subI rfl rfl) (fun x => ?_)
  with_reducible refine KeepsLaws.iteA ?_ ?_
  · with_reducible refine KeepsLaws.doneA ?_
    exact KeepsLaws.refl ..
  · extract_lets
    rename_i e8 e9 e10 e11
    have h_e9 : Keeps 68157980 1773174529517235833554477636817403619950143717786222589804875776 x e9 := by
      unfold e9
      with_reducible refine KeepsLaws.stepReg ?_ (KeepsLaws.bitI rfl)
      with_reducible refine KeepsLaws.stepReg ?_ (KeepsLaws.bitI rfl)
      with_reducible refine KeepsLaws.stepReg ?_ (KeepsLaws.bitI rfl)
      exact KeepsLaws.refl ..
    clear_value e9
    have h_e10 : Keeps 68157980 1773174529517235833554477636817403619950143717786222589804875776 x e10 := by
      unfold e10
      with_reducible refine KeepsLaws.ite ?_ ?_
      · with_reducible refine KeepsLaws.comp ?_ (State.refLost_keeps ..) (KeepsLaws.subI rfl rfl)
        assumption
      · assumption
    clear_value e10
    with_reducible refine KeepsLaws.doneA ?_
    with_reducible refine KeepsLaws.comp ?_ (State.modRef_keeps ..) (KeepsLaws.subI rfl rfl)
    assumption

theorem execPtpMessageReceive_keeps (p : Fin 17) (m : PtpMsg) (s : State) :
    KeepsO 202962780 1750680535355689847086407726265335387828213042314298117958733824 s (execPtpMessageReceive p m s) := by
  unfold execPtpMessageReceive
  with_reducible refine KeepsLaws.iteO ?_ ?_
  · with_reducible refine KeepsLaws.next ?_
    exact KeepsLaws.refl ..
  · extract_lets
    rename_i e0 e1 e2 e3 e4 e5 e6
    have h_e0 : Keeps 202962780 1750680535355689847086407726265335387828213042314298117958733824 s e0 := by
      unfold e0
      with_reducible refine KeepsLaws.stepBumpWrap ?_ (KeepsLaws.bitI rfl)
      exact KeepsLaws.refl ..
    clear_value e0
    have h_e2 : Keeps 202962780 1750680535355689847086407726265335387828213042314298117958733824 s e2 := by
      unfold e2
      with_reducible refine KeepsLaws.stepSetBits ?_ (KeepsLaws.bitI rfl)
      with_reducible refine KeepsLaws.stepSetBits ?_ (KeepsLaws.bitI rfl)
      assumption
    clear_value e2
    have h_e4 : Keeps 202962780 1750680535355689847086407726265335387828213042314298117958733824 s e4 := by
      unfold e4
      with_reducible refine KeepsLaws.comp ?_ (KeepsLaws.upd_tm ..) (KeepsLaws.subI rfl rfl)
      assumption
    clear_value e4
    with_reducible refine KeepsLaws.iteO ?_ ?_
    · with_reducible refine KeepsLaws.next ?_
      with_reducible refine KeepsLaws.stepBumpSat ?_ (KeepsLaws.bitI rfl)
      assumption
    · split
      · with_reducible refine KeepsLaws.next ?_
        with_reducible refine KeepsLaws.comp ?_ (State.announce_keeps ..) (KeepsLaws.subI rfl rfl)
        assumption
      · with_reducible refine KeepsLaws.iteO ?_ ?_
        · with_reducible refine KeepsLaws.iteO ?_ ?_
          · with_reducible refine KeepsLaws.next ?_
            with_reducible refine KeepsLaws.comp ?_ (KeepsLaws.upd_tm ..) (KeepsLaws.subI rfl rfl)
            assumption
          · with_reducible refine KeepsLaws.next ?_
            with_reducible refine KeepsLaws.comp ?_ (State.syncDone_keeps ..) (KeepsLaws.subI rfl rfl)
            assumption
        · with_reducible refine KeepsLaws.next ?_
          assumption
      · split
        · with_reducible refine KeepsLaws.iteO ?_ ?_
          · with_reducible refine KeepsLaws.next ?_
            with_reducible refine KeepsLaws.comp ?_ (State.syncDone_keeps ..) (KeepsLaws.subI rfl rfl)
            with_reducible refine KeepsLaws.comp ?_ (KeepsLaws.upd_tm ..) (KeepsLaws.subI rfl rfl)
            assumption
          · with_reducible refine KeepsLaws.next ?_
            assumption
        · with_reducible refine KeepsLaws.next ?_
          assumption
      · with_reducible refine KeepsLaws.iteO ?_ ?_
        · with_reducible refine KeepsLaws.next ?_
          with_reducible refine KeepsLaws.comp ?_ (State.delayResp_keeps ..) (KeepsLaws.subI rfl rfl)
          assumption
        · with_reducible refine KeepsLaws.next ?_
          assumption
      · with_reducible refine KeepsLaws.next ?_
        assumption

theorem execDelayReqSend_keeps (s : State) :
    KeepsO 512 0 s (execDelayReqSend s) := by
  unfold execDelayReqSend
  extract_lets
  rename_i e0 e1 e2 e3 e4 e5
  have h_e5 : Keeps 512 0 s e5 := by
    unfold e5
    with_reducible refine KeepsLaws.comp ?_ (KeepsLaws.upd_tm ..) (KeepsLaws.subI rfl rfl)
    exact KeepsLaws.refl ..
  clear_value e5
  with_reducible refine KeepsLaws.iteO ?_ ?_
  · with_reducible refine KeepsLaws.next ?_
    exact KeepsLaws.refl ..
  · with_reducible refine KeepsLaws.iteO ?_ ?_
    · with_reducible refine KeepsLaws.next ?_
      exact KeepsLaws.refl ..
    · with_reducible refine KeepsLaws.next ?_
      with_reducible refine KeepsLaws.comp ?_ (KeepsLaws.emit ..) (KeepsLaws.subI rfl rfl)
      assumption

theorem execTmStep_keeps (r : Req) (b : Body) (s : State) :
    KeepsO 202962524 1645906481864711103791179137190292679679073669112849031791972352 s (execTmStep r b s) := by
  unfold execTmStep
  extract_lets
  rename_i e0 e1 e2 e3
  with_reducible refine KeepsLaws.command (KeepsLaws.subI rfl rfl) (fun x => ?_)
  with_reducible refine KeepsLaws.iteA ?_ ?_
  · extract_lets
    rename_i e4 e5
    have h_e5 : Keeps 202962524 1645906481864711103791179137190292679679073669112849031791972352 x e5 := by
      unfold e5
      with_reducible refine KeepsLaws.comp ?_ (State.ptpStep_keeps ..) (KeepsLaws.subI rfl rfl)
      exact KeepsLaws.refl ..
    clear_value e5
    with_reducible refine KeepsLaws.nowA ?_
    assumption
  · with_reducible refine KeepsLaws.laterA ?_
    with_reducible refine KeepsLaws.comp ?_ (KeepsLaws.upd_tm ..) (KeepsLaws.subI rfl rfl)
    exact KeepsLaws.refl ..

theorem execDpllLockAchieved_keeps (s : State) :
    KeepsO 524 6277101735386680763835789423207666416102355444464035106816 s (execDpllLockAchieved s) := by
  unfold execDpllLockAchieved
  split
  · with_reducible refine KeepsLaws.iteO ?_ ?_
    · extract_lets
      rename_i e0 e1 e2
      have h_e0 : Keeps 524 6277101735386680763835789423207666416102355444464035106816 s e0 := by
        unfold e0
        with_reducible refine KeepsLaws.comp ?_ (State.accrue_keeps ..) (KeepsLaws.subI rfl rfl)
        exact KeepsLaws.refl ..
      clear_value e0
      with_reducible refine KeepsLaws.next ?_
      with_reducible refine KeepsLaws.comp ?_ (State.setDpll_keeps ..) (KeepsLaws.subI rfl rfl)
      with_reducible refine KeepsLaws.stepSetBit ?_ (KeepsLaws.bitI rfl)
      with_reducible refine KeepsLaws.stepSetBit ?_ (KeepsLaws.bitI rfl)
      with_reducible refine KeepsLaws.comp ?_ (KeepsLaws.upd_tm ..) (KeepsLaws.subI rfl rfl)
      assumption
    · with_reducible refine KeepsLaws.next ?_
      exact KeepsLaws.refl ..
  · with_reducible refine KeepsLaws.next ?_
    exact KeepsLaws.refl ..

theorem execTmPtpConfig_keeps (r : Req) (b : Body) (s : State) :
    KeepsO 84935196 738417393277345868327966488265647696546302593634827857156355748466673925708812325892361185464320 s (execTmPtpConfig r b s) := by
  unfold execTmPtpConfig
  extract_lets
  rename_i e0
  with_reducible refine KeepsLaws.command (KeepsLaws.subI rfl rfl) (fun x => ?_)
  extract_lets
  rename_i e1 e2 e3 e4 e5 e6 e7 e8
  have h_e2 : Keeps 84935196 738417393277345868327966488265647696546302593634827857156355748466673925708812325892361185464320 x e2 := by
    unfold e2
    with_reducible refine KeepsLaws.ite ?_ ?_
    · with_reducible refine KeepsLaws.comp ?_ (State.endPrbsOf_keeps ..) (KeepsLaws.subI rfl rfl)
      exact KeepsLaws.refl ..
    · exact KeepsLaws.refl ..
  clear_value e2
  have h_e4 : Keeps 84935196 738417393277345868327966488265647696546302593634827857156355748466673925708812325892361185464320 x e4 := by
    unfold e4
    with_reducible refine KeepsLaws.stepSetBits ?_ (KeepsLaws.bitI rfl)
    with_reducible refine KeepsLaws.comp ?_ (KeepsLaws.upd_tm ..) (KeepsLaws.subI rfl rfl)
    assumption
  clear_value e4
  have h_e5 : Keeps 84935196 738417393277345868327966488265647696546302593634827857156355748466673925708812325892361185464320 x e5 := by
    unfold e5
    with_reducible refine KeepsLaws.foldl (fun x a => ?_) ?_
    · with_reducible refine KeepsLaws.stepSetBits ?_ (KeepsLaws.bitI rfl)
      with_reducible refine KeepsLaws.stepSetBit ?_ (KeepsLaws.bitI rfl)
      with_reducible refine KeepsLaws.comp ?_ (State.modPtpPort_keeps ..) (KeepsLaws.subI rfl rfl)
      exact KeepsLaws.refl ..
    · assumption
  clear_value e5
  have h_e7 : Keeps 84935196 738417393277345868327966488265647696546302593634827857156355748466673925708812325892361185464320 x e7 := by
    unfold e7
    with_reducible refine KeepsLaws.stepSetBits ?_ (KeepsLaws.bitI rfl)
    with_reducible refine KeepsLaws.comp ?_ (KeepsLaws.upd_tm ..) (KeepsLaws.subI rfl rfl)
    assumption
  clear_value e7
  with_reducible refine KeepsLaws.iteA ?_ ?_
  · with_reducible refine KeepsLaws.doneA ?_
    assumption
  · with_reducible refine KeepsLaws.doneA ?_
    with_reducible refine KeepsLaws.ite ?_ ?_
    · with_reducible refine KeepsLaws.comp ?_ (State.servoHoldover_keeps ..) (KeepsLaws.subI rfl rfl)
      assumption
    · with_reducible refine KeepsLaws.comp ?_ (State.setServo_keeps ..) (KeepsLaws.subI rfl rfl)
      with_reducible refine KeepsLaws.comp ?_ (KeepsLaws.upd_tm ..) (KeepsLaws.subI rfl rfl)
      assumption

theorem execRefLossDeclared_keeps (i : Fin 5) (s : State) :
    KeepsO 68157964 1750677396897609969696890167524627343514832875873263490108559360 s (execRefLossDeclared i s) := by
  unfold execRefLossDeclared
  with_reducible refine KeepsLaws.iteO ?_ ?_
  · with_reducible refine KeepsLaws.next ?_
    exact KeepsLaws.refl ..
  · with_reducible refine KeepsLaws.iteO ?_ ?_
    · with_reducible refine KeepsLaws.next ?_
      exact KeepsLaws.refl ..
    · with_reducible refine KeepsLaws.next ?_
      with_reducible refine KeepsLaws.comp ?_ (State.refLost_keeps ..) (KeepsLaws.subI rfl rfl)
      exact KeepsLaws.refl ..

theorem execServoLockDwellExpiry_keeps (s : State) :
    KeepsO 68157964 1750677396900603125050143856701108490052235823497518839956574208 s (execServoLockDwellExpiry s) := by
  unfold execServoLockDwellExpiry
  split
  · with_reducible refine KeepsLaws.iteO ?_ ?_
    · with_reducible refine KeepsLaws.next ?_
      with_reducible refine KeepsLaws.comp ?_ (State.setServo_keeps ..) (KeepsLaws.subI rfl rfl)
      exact KeepsLaws.refl ..
    · with_reducible refine KeepsLaws.next ?_
      exact KeepsLaws.refl ..
  · with_reducible refine KeepsLaws.next ?_
    exact KeepsLaws.refl ..

theorem execDpllLockTimeout_keeps (s : State) :
    KeepsO 68157964 1750677396897609969696890167524627343514832875873263490108559360 s (execDpllLockTimeout s) := by
  unfold execDpllLockTimeout
  extract_lets
  rename_i e0
  with_reducible refine KeepsLaws.iteO ?_ ?_
  · with_reducible refine KeepsLaws.next ?_
    with_reducible refine KeepsLaws.comp ?_ (State.refLost_keeps ..) (KeepsLaws.subI rfl rfl)
    exact KeepsLaws.refl ..
  · with_reducible refine KeepsLaws.next ?_
    exact KeepsLaws.refl ..

theorem execRefSelect_keeps (r : Req) (b : Body) (s : State) :
    KeepsO 68157980 1646226424020775601786662631522451774350889681277381955816067072 s (execRefSelect r b s) := by
  unfold execRefSelect
  extract_lets
  rename_i e0
  with_reducible refine KeepsLaws.command (KeepsLaws.subI rfl rfl) (fun x => ?_)
  extract_lets
  rename_i e1 e2 e3
  have h_e1 : Keeps 68157980 1646226424020775601786662631522451774350889681277381955816067072 x e1 := by
    unfold e1
    with_reducible refine KeepsLaws.stepSetBit ?_ (KeepsLaws.bitI rfl)
    with_reducible refine KeepsLaws.stepSetBits ?_ (KeepsLaws.bitI rfl)
    exact KeepsLaws.refl ..
  clear_value e1
  have h_e2 : Keeps 68157980 1646226424020775601786662631522451774350889681277381955816067072 x e2 := by
    unfold e2
    with_reducible refine KeepsLaws.ite ?_ ?_
    · with_reducible refine KeepsLaws.stepSetBit ?_ (KeepsLaws.bitI rfl)
      exact KeepsLaws.refl ..
    · with_reducible refine KeepsLaws.comp ?_ (State.stopWtr_keeps ..) (KeepsLaws.subI rfl rfl)
      assumption
  clear_value e2
  have h_e3 : Keeps 68157980 1646226424020775601786662631522451774350889681277381955816067072 x e3 := by
    unfold e3
    with_reducible refine KeepsLaws.comp ?_ (State.selectRef_keeps ..) (KeepsLaws.subI rfl rfl)
    assumption
  clear_value e3
  with_reducible refine KeepsLaws.nowA ?_
  assumption

theorem execWtrExpiry_keeps (s : State) :
    KeepsO 68157964 1646226424020775601786662631522451774350889681277381955813969920 s (execWtrExpiry s) := by
  unfold execWtrExpiry
  split
  · with_reducible refine KeepsLaws.iteO ?_ ?_
    · with_reducible refine KeepsLaws.next ?_
      with_reducible refine KeepsLaws.comp ?_ (State.selectRef_keeps ..) (KeepsLaws.subI rfl rfl)
      with_reducible refine KeepsLaws.comp ?_ (State.stopWtr_keeps ..) (KeepsLaws.subI rfl rfl)
      exact KeepsLaws.refl ..
    · with_reducible refine KeepsLaws.next ?_
      exact KeepsLaws.refl ..
  · with_reducible refine KeepsLaws.next ?_
    exact KeepsLaws.refl ..

theorem execRefQualifyExpiry_keeps (i : Fin 5) (s : State) :
    KeepsO 68157964 1647833362065034592062204593614792936953411884271164748649271296 s (execRefQualifyExpiry i s) := by
  unfold execRefQualifyExpiry
  split
  · with_reducible refine KeepsLaws.iteO ?_ ?_
    · with_reducible refine KeepsLaws.next ?_
      with_reducible refine KeepsLaws.comp ?_ (State.refGained_keeps ..) (KeepsLaws.subI rfl rfl)
      exact KeepsLaws.refl ..
    · with_reducible refine KeepsLaws.next ?_
      exact KeepsLaws.refl ..
  · with_reducible refine KeepsLaws.next ?_
    exact KeepsLaws.refl ..

theorem execRefEdge_keeps (i : Fin 5) (s : State) :
    KeepsO 68157964 1802099414313897658514232954479544546795543371674312860838203392 s (execRefEdge i s) := by
  unfold execRefEdge
  extract_lets
  rename_i e0 e1
  with_reducible refine KeepsLaws.iteO ?_ ?_
  · with_reducible refine KeepsLaws.next ?_
    exact KeepsLaws.refl ..
  · with_reducible refine KeepsLaws.iteO ?_ ?_
    · with_reducible refine KeepsLaws.next ?_
      with_reducible refine KeepsLaws.comp ?_ (State.modRef_keeps ..) (KeepsLaws.subI rfl rfl)
      with_reducible refine KeepsLaws.comp ?_ (State.reviveRef_keeps ..) (KeepsLaws.subI rfl rfl)
      exact KeepsLaws.refl ..
    · with_reducible refine KeepsLaws.iteO ?_ ?_
      · with_reducible refine KeepsLaws.next ?_
        with_reducible refine KeepsLaws.comp ?_ (State.modRef_keeps ..) (KeepsLaws.subI rfl rfl)
        with_reducible refine KeepsLaws.ite ?_ ?_
        · with_reducible refine KeepsLaws.comp ?_ (State.refLost_keeps ..) (KeepsLaws.subI rfl rfl)
          exact KeepsLaws.refl ..
        · exact KeepsLaws.refl ..
      · with_reducible refine KeepsLaws.next ?_
        with_reducible refine KeepsLaws.comp ?_ (State.phaseEdge_keeps ..) (KeepsLaws.subI rfl rfl)
        exact KeepsLaws.refl ..

theorem execAnnounceTimeout_keeps (p : Fin 17) (s : State) :
    KeepsO 68157964 1750677794104291123227712332455178589572997352679465070918963200 s (execAnnounceTimeout p s) := by
  unfold execAnnounceTimeout
  split
  · with_reducible refine KeepsLaws.next ?_
    exact KeepsLaws.refl ..
  · extract_lets
    rename_i e0 e1 e2 e3 e4
    have h_e4 : Keeps 68157964 1750677794104291123227712332455178589572997352679465070918963200 s e4 := by
      unfold e4
      with_reducible refine KeepsLaws.ite ?_ ?_
      · with_reducible refine KeepsLaws.comp ?_ (State.servoHoldover_keeps ..) (KeepsLaws.subI rfl rfl)
        exact KeepsLaws.refl ..
      · exact KeepsLaws.refl ..
    clear_value e4
    with_reducible refine KeepsLaws.iteO ?_ ?_
    · with_reducible refine KeepsLaws.next ?_
      with_reducible refine KeepsLaws.comp ?_ (State.bmca_keeps ..) (KeepsLaws.subI rfl rfl)
      with_reducible refine KeepsLaws.comp ?_ (State.modPtpPort_keeps ..) (KeepsLaws.subI rfl rfl)
      assumption
    · with_reducible refine KeepsLaws.next ?_
      exact KeepsLaws.refl ..

theorem execRefPhase_keeps (r : Req) (b : Body) (s : State) :
    KeepsO 68157980 1645981617053095521236873035734946675360661689415047858470064128 s (execRefPhase r b s) := by
  unfold execRefPhase
  extract_lets
  rename_i e0
  with_reducible refine KeepsLaws.command (KeepsLaws.subI rfl rfl) (fun x => ?_)
  extract_lets
  rename_i e1
  have h_e1 : Keeps 68157980 1645981617053095521236873035734946675360661689415047858470064128 x e1.1 := by
    unfold e1
    with_reducible refine KeepsLaws.comp ?_ (State.phaseStep_keeps ..) (KeepsLaws.subI rfl rfl)
    with_reducible refine KeepsLaws.comp ?_ (State.setPhase_keeps ..) (KeepsLaws.subI rfl rfl)
    exact KeepsLaws.refl ..
  clear_value e1
  with_reducible refine KeepsLaws.nowA ?_
  assumption

end Sys2Proof.Machine
end

