-- ==== Sys2Proof/Laws/Memory.lean ====
section
/-! SUPPORT. The DRAM bytes keep their canonical form under every operation that writes them, and reset has it. -/

namespace Sys2Proof.Machine

/-- Writing a run of bytes from an address keeps the canonical form. -/
theorem Memory.wf_fold (data : List Byte) (a : Nat) (t : Tbl Byte) (w : Tbl.wf (fun _ => 0#8) t = true) :
    Tbl.wf (fun _ => 0#8) (data.foldl (fun (t : Nat × Tbl Byte) b => (t.1 + 1, Tbl.set t.2 t.1 b)) (a, t)).2 = true := by
  induction data generalizing a t with
  | nil => exact w
  | cons b l ih => exact ih _ _ (Tbl.wf_setD (d := fun _ => 0#8) a b w)

/-- A write to DRAM keeps the canonical form. -/
theorem Memory.wf_writeDram (s : State) (addr : Nat) (data : List Byte) (w : Memory.wf s = true) : Memory.wf (s.writeDram addr data) = true :=
  Memory.wf_fold data addr s.mem.bytes w

/-- DRAM that holds the same bytes has the same form. -/
theorem Memory.wf_congr {s t : State} (h : t.mem.bytes = s.mem.bytes) : Memory.wf t = Memory.wf s := by simp [Memory.wf, h]

/-- The reset state has it. -/
theorem Memory.wf_reset : Memory.wf State.reset = true := by decide

end Sys2Proof.Machine
end

