-- ==== Sys2Proof/Laws/Only.lean ====
section
/-! SUPPORT. From masks to lists: an operation that keeps what two masks leave out changes only what two lists name. -/

namespace Sys2Proof.Machine

/-- The mask of a list of fields. -/
def fieldMask (fs : List Field) : Nat := fs.foldr (fun f m => 2 ^ f.ctorIdx ||| m) 0
/-- The mask of a list of registers. -/
def regMask (rs : List Reg) : Nat := rs.foldr (fun r m => 2 ^ r.ctorIdx ||| m) 0

theorem Field.ctorIdx_inj {f g : Field} (h : f.ctorIdx = g.ctorIdx) : f = g := by
  cases f <;> cases g <;> first | rfl | exact absurd h (by decide)

theorem Reg.ctorIdx_inj {r q : Reg} (h : r.ctorIdx = q.ctorIdx) : r = q := by
  have e : ∀ r : Reg, Reg.ofNat r.ctorIdx = r := fun r => by cases r <;> rfl
  rw [← e r, h, e q]

theorem fieldMask_out {fs : List Field} {f : Field} (h : f ∉ fs) : (fieldMask fs).testBit f.ctorIdx = false := by
  induction fs with
  | nil => simp [fieldMask]
  | cons g l ih =>
    have hg : f ≠ g := fun e => h (e ▸ List.mem_cons_self ..)
    have hl : f ∉ l := fun e => h (List.mem_cons_of_mem _ e)
    have hi : ¬ g.ctorIdx = f.ctorIdx := fun e => hg (Field.ctorIdx_inj e.symm)
    show (2 ^ g.ctorIdx ||| fieldMask l).testBit f.ctorIdx = false
    rw [Nat.testBit_or, ih hl, Nat.testBit_two_pow_of_ne hi]; rfl

theorem regMask_out {rs : List Reg} {r : Reg} (h : r ∉ rs) : (regMask rs).testBit r.ctorIdx = false := by
  induction rs with
  | nil => simp [regMask]
  | cons q l ih =>
    have hg : r ≠ q := fun e => h (e ▸ List.mem_cons_self ..)
    have hl : r ∉ l := fun e => h (List.mem_cons_of_mem _ e)
    have hi : ¬ q.ctorIdx = r.ctorIdx := fun e => hg (Reg.ctorIdx_inj e.symm)
    show (2 ^ q.ctorIdx ||| regMask l).testBit r.ctorIdx = false
    rw [Nat.testBit_or, ih hl, Nat.testBit_two_pow_of_ne hi]; rfl

/-- What masks within two lists keep, the lists' complement keeps. -/
theorem Keeps.only_of_masks {F R : Nat} {s t : State} {fs : List Field} {rs : List Reg} (h : Keeps F R s t)
    (hs : KeepsLaws.sub F (fieldMask fs) R (regMask rs) = true) : OnlyChanges fs rs s t := by
  simp only [KeepsLaws.sub, Bool.and_eq_true, beq_iff_eq] at hs
  exact ⟨fun f hf => h.fields f (KeepsLaws.testBit_of_or hs.1 (fieldMask_out hf)),
    fun r i hr => h.regs r i (KeepsLaws.testBit_of_or hs.2 (regMask_out hr)), h.out, h.free⟩

end Sys2Proof.Machine
end

