-- ==== Sys2Proof/WellFormed.lean ====
section
/-! DEFINITION. Which commands are well formed: a command packet's body is at most 4,080 bytes and a multiple of 4 (R58), a
register access lies in the 64 MiB window (R613), a link comes up at a width and rate of R49, and operands of fixed length or
width have it. -/

namespace Sys2Proof

/-- A parameter body of R58. -/
def bodyWf (b : Body) : Bool := decide (b.length ≤ 4080) && b.length % 4 == 0

/-- Bytes of the register window (R613). -/
def windowSize : Nat := 67108864

/-- The offset of an aligned word of the register window (R617). -/
def wordOffset (a : Nat) : Bool := a % 4 == 0 && decide (a < windowSize)

/-- A host write lies inside its BAR (R49, R52). -/
def RegWrite.wf : RegWrite → Bool
  | .ring off bytes => decide (off + bytes.length ≤ 262144)
  | .bar0 off len _ => decide (1 ≤ len ∧ len ≤ 4) && decide (262144 ≤ off) && decide (off + len ≤ 524288)
  | .bar2 off len _ => decide (1 ≤ len ∧ len ≤ 4) && decide (off + len ≤ windowSize)

/-- Well-formedness of a command, one arm per row. -/
def Instr.wf (i : Instr) : Bool :=
  match i with
  | .doorbellWrite _ _ => true
  | .packetFetch _ => true
  | .packetStart => true
  | .urgentPreempt => true
  | .secondSetArm _ => true
  | .ringReset _ => true
  | .evtEnSet _ => true
  | .evtEnClear _ => true
  | .fetchEnWrite _ _ => true
  | .evtReadIndexWrite _ _ => true
  | .irqModerationExpiry _ => true
  | .semReq _ _ _ => true
  | .semRel _ _ => true
  | .semRelAll _ => true
  | .pcieLinkLeaveL0 _ _ => true
  | .pcieLinkEnterL0 _ width speed asked => (width == 1 || width == 2 || width == 4) && decide (1 ≤ speed ∧ speed ≤ 5) && asked.all (fun e => decide (e.1 < 4) && decide (e.2 ≤ 10))
  | .linkDownScopeTimeout _ => true
  | .portReset _ _ => true
  | .ctrlRestartBegin => true
  | .ctrlRestartEnd => true
  | .evinChangeAccepted _ _ _ => true
  | .evinStuckTimeout _ => true
  | .pselStable _ => true
  | .devInfo _ b => bodyWf b
  | .bootLoad _ b _ => bodyWf b
  | .fwStart => true
  | .devBoardTable _ b _ _ => bodyWf b
  | .eventMask _ b => bodyWf b
  | .prfLoad _ b _ => bodyWf b
  | .prfSelect _ b => bodyWf b
  | .prfPinMode _ b => bodyWf b
  | .prfStatus _ b => bodyWf b
  | .eviConfig _ b => bodyWf b
  | .cnyLimits _ b => bodyWf b
  | .cnyLock _ b => bodyWf b
  | .cnyHeadStyle _ b => bodyWf b
  | .cnyStill _ b => bodyWf b
  | .cnyHistory _ b => bodyWf b
  | .ingMacConfig _ b => bodyWf b
  | .ingContext _ b => bodyWf b
  | .ingMerge _ b => bodyWf b
  | .ingSdi _ b => bodyWf b
  | .lodeUpdate _ b => bodyWf b
  | .lodeRead _ b => bodyWf b
  | .ingHostRing _ b => bodyWf b
  | .ingInject _ b => bodyWf b
  | .injectFrameSent _ => true
  | .camPort _ b => bodyWf b
  | .camContext _ b => bodyWf b
  | .camParams _ b => bodyWf b
  | .camDefects _ b _ => bodyWf b
  | .camStatsRing _ b => bodyWf b
  | .decSession _ b => bodyWf b
  | .decRestart _ b => bodyWf b
  | .cfKeyCopy _ b => bodyWf b
  | .cfReserve _ b => bodyWf b
  | .cfAlloc _ b => bodyWf b
  | .encChannel _ b => bodyWf b
  | .encKey _ b => bodyWf b
  | .encStatsRing _ b => bodyWf b
  | .lyConfig _ b => bodyWf b
  | .lyPalette _ b => bodyWf b
  | .lyColour _ b _ => bodyWf b
  | .hdCompose _ b _ => bodyWf b
  | .cmpCommit _ b => bodyWf b
  | .cmpDiscard _ b => bodyWf b
  | .gfxPool _ b => bodyWf b
  | .gfxUpload _ b _ => bodyWf b
  | .hdTiming _ b => bodyWf b
  | .hdOutput _ b => bodyWf b
  | .hdHold _ b => bodyWf b
  | .hdDpAux _ b _ _ => bodyWf b
  | .tmPtpConfig _ b => bodyWf b
  | .tmPort _ b => bodyWf b
  | .tmStep _ b => bodyWf b
  | .refConfig _ b => bodyWf b
  | .refDpll _ b => bodyWf b
  | .refSelect _ b => bodyWf b
  | .refPhase _ b => bodyWf b
  | .audTdm _ b => bodyWf b
  | .audAes3 _ b => bodyWf b
  | .audRx _ b => bodyWf b
  | .audTx _ b => bodyWf b
  | .audClock _ b => bodyWf b
  | .audRoute _ b => bodyWf b
  | .audCsRead _ b => bodyWf b
  | .tchConfig _ b => bodyWf b
  | .tchReference _ b _ => bodyWf b
  | .tchMap _ b => bodyWf b
  | .tchRing _ b => bodyWf b
  | .tchNoiseMode _ b => bodyWf b
  | .tchRebase _ b => bodyWf b
  | .tchSelftest _ b _ => bodyWf b
  | .tchSelftestComplete _ => true
  | .tchSnapshot _ b => bodyWf b
  | .dmcTrain _ b _ _ _ => bodyWf b
  | .dmcRetrainPeriod _ b => bodyWf b
  | .memUsage _ b => bodyWf b
  | .mpuEntry _ b => bodyWf b
  | .mpuLock _ b => bodyWf b
  | .chkRun _ b => bodyWf b
  | .chkStop _ b => bodyWf b
  | .fltRead _ b => bodyWf b
  | .pairConfig _ b => bodyWf b
  | .pairSwitch _ b => bodyWf b
  | .pairDrill _ b => bodyWf b
  | .pwrIsland _ b => bodyWf b
  | .pwrThermWarn _ b => bodyWf b
  | .slPrbs _ b => bodyWf b
  | .slPrbsStop _ b => bodyWf b
  | .prbsTestEnd _ _ => true
  | .prbsNolockTimeout _ => true
  | .ringIndexWriteIng _ _ _ => true
  | .ringIndexWriteCam _ _ => true
  | .ringIndexWriteEnc _ _ => true
  | .ringIndexWriteTch _ _ => true
  | .w1cWrite _ _ _ => true
  | .rcRegisterRead _ addr _ => wordOffset addr
  | .latchingRegisterRead _ addr => wordOffset addr
  | .registerWrite _ w other => w.wf && other.all RegWrite.wf
  | .frameBoundary _ => true
  | .commitWindowClose _ => true
  | .canaryEvaluation _ _ _ _ => true
  | .evalDeadlineMiss _ _ => true
  | .lineCompose _ _ _ => true
  | .lineScan _ _ _ => true
  | .ethFrameReceive _ _ _ => true
  | .skewWindowExpiry _ => true
  | .contextLosTimeout _ => true
  | .mergeLegTimeout _ _ => true
  | .sdiTrsLossTimeout _ => true
  | .sdiLineReceive _ _ => true
  | .csiFrameStart _ _ => true
  | .csiFrameEnd _ _ => true
  | .csiLongPacket _ _ _ => true
  | .camLosTimeout _ _ => true
  | .pipeFrameDone _ _ => true
  | .peJobStart _ _ => true
  | .jobComplete _ _ _ => true
  | .jobResidueMismatch _ _ => true
  | .decPictureRelease _ => true
  | .bufferWaitEnd _ => true
  | .encPictureStart _ _ _ => true
  | .encRowInputDeadline _ _ _ => true
  | .encRowOutput _ _ => true
  | .encEndOfBitstream _ => true
  | .dpHpdChange _ _ _ _ => true
  | .dpLinkTrainDone _ _ => true
  | .flowPacketSend _ => true
  | .encFlowPacketSend _ => true
  | .holdMaxExpiry _ => true
  | .ptpMessageReceive _ _ => true
  | .delayReqSend => true
  | .announceTimeout _ => true
  | .servoLockDwellExpiry => true
  | .ptpStepApply => true
  | .refEdge _ => true
  | .refLossDeclared _ => true
  | .refFreqMeasure ppb => ppb.length == 5
  | .refQualifyExpiry _ => true
  | .wtrExpiry => true
  | .dpllLockAchieved => true
  | .dpllLockTimeout => true
  | .oscInLoss => true
  | .audRateClassChange _ _ => true
  | .audInputSample _ _ => true
  | .audHouseSample => true
  | .zcTimeout _ _ => true
  | .tdmFrameReceive _ slots => slots.length == 4 && slots.all (fun l => decide (l.length ≤ 16))
  | .aes3FrameReceive _ _ _ => true
  | .audRxRead _ => true
  | .audTxPacketSend _ => true
  | .scanFrameStart _ => true
  | .scanFrameProcess _ _ _ => true
  | .touchReportWrite _ => true
  | .dramRefresh _ => true
  | .dramRetrainPause _ _ _ _ => true
  | .mr4Poll _ _ => true
  | .dramPatrolRead _ _ _ => true
  | .arbiterWindowEnd _ => true
  | .interconnectRequest _ => true
  | .sramPatrol _ _ _ _ _ _ => true
  | .islandClearDone _ => true
  | .chkRunEnd _ _ => true
  | .chkPeriodStart _ => true
  | .faultRecordArrive _ => true
  | .dutyRelease => true
  | .hwDutyRelease => true
  | .islandLivenessTimeout _ => true
  | .heartbeatWrite _ => true
  | .watchdogTimeout _ => true
  | .restartGraceExpiry => true
  | .lockstepMismatch _ => true
  | .dbgAuthenticate _ _ => true
  | .seamHeartbeatSend => true
  | .seamHeartbeatReceive _ _ => true
  | .seamDownTimeout => true
  | .latchRecordReceive _ _ _ => true
  | .decisionRecordReceive _ _ _ _ _ _ => true
  | .frameCrcReceive _ _ frame crc => decide (frame < 2 ^ 48) && decide (crc < 2 ^ 32)
  | .encPictureReceive _ _ _ => true
  | .encRowReceive _ _ _ => true
  | .keyReqReceive _ mask cause type => decide (mask < 65536) && decide (cause < 256) && decide (type < 256)
  | .giveUpReceive _ _ => true
  | .handoverReceive _ _ => true
  | .handoverAckReceive _ _ => true
  | .snapshotRequestReceive _ => true
  | .snapshotReceive _ _ => true
  | .dutyInChange _ => true
  | .dutyInLossTimeout => true
  | .dutyWaitExpiry => true
  | .bothDutyTimeout => true
  | .dutyReadbackMismatch => true
  | .profileDiffTimeout => true
  | .porstAssert => true
  | .porstRelease _ _ => true
  | .trstAssert => true
  | .railExcursion => true
  | .avsMeasure _ _ _ => true
  | .pmbusPoll _ _ _ vout iout status _ => decide (vout < 65536) && decide (iout < 65536) && decide (status < 65536)
  | .droopStretch _ _ => true
  | .thermalSensorRead _ _ => true
  | .lanePllUnlock _ _ => true
  | .laneLockChange _ _ _ _ _ => true
  | .islandClockLoss _ => true
  | .faultPortLivenessRecord _ => true
  | .prbsCheckerLockChange _ _ _ => true
  | .aes3LockChange _ _ => true
  | .islandPowerOff _ => true
  | .snapshotRetry => true
  | .latchWaitTimeout _ => true
  | .evinActionPendingExpiry _ => true
  | .pullRestTaken _ => true
  | .crossingRegisterRead _ addr len => decide (1 ≤ len ∧ len ≤ 8) && decide (addr + len ≤ windowSize)
  | .offIslandRegisterRead _ addr => decide (addr < windowSize)

end Sys2Proof
end

