-- ==== Sys2Proof/Tests/Slice0.lean ====
section
/-! SUPPORT. The model's own tests: ill-formed commands refused, small steps, and states that meet the hypotheses of each statement
(test_wit_<statement>_<clause>). -/

set_option Elab.async false

namespace Sys2Proof.Tests

open Sys2Proof.Machine

/-- A header: port A, tag 0, not urgent. -/
def rq : Req := ⟨.A, 0, 0#32, false, false⟩

/-- A booted block: firmware runs, board table, DRAM trained, MPU and Canary locked, both event rings on, port A holds scope 0, and
every island is on. -/
def up : State :=
  let s := ((((((State.reset.setBit .HP_STATUS 0 12 true).setBit .HP_STATUS 1 12 true).setBit .DMC_STATUS 0 31 true).setBit .MPU_CTL 0 31 true).setBit
    .CNY_CTL 0 31 true).setReg .HP_CTL 0 3#32).setReg .HP_CTL 1 3#32
  { (List.range 41).foldl (fun (s : State) i => s.setBits .PWR_ISL_STAT i 31 30 2) s with
    boot := { s.boot with board := true }, sem := { heldA := 1 }, pwr := { s.pwr with porst := false },
    portA := { s.portA with evtLog2 := 10, linkUp := true }, portB := { s.portB with evtLog2 := 10, linkUp := true } }

/-- A command packet of opcode 0x0304 with a 4-byte body and tag 63 in port A's ring, under the doorbell. -/
def ringed : State :=
  let head : Body := leBytes 2 0x0304 ++ leBytes 1 63 ++ leBytes 1 0 ++ leBytes 2 4 ++ leBytes 2 1 ++ leBytes 4 7
  let body : Body := leBytes 4 0
  let bytes := head ++ leBytes 4 (crc32cFold 63#32 (head ++ body)).toNat ++ body
  { up with portA := { up.portA with lastDb := 20, ring := bytes.zipIdx.foldl (fun t e => Tbl.set t e.2 e.1) [] } }

/-- A fetched packet of opcode 0x0101. -/
def infoPkt : Packet := { req := rq, opcode := 0x0101, body := [], seq := 0 }

/-- A state in which it waits for its start. -/
def waiting : State := { up with portA := { up.portA with fetched := [infoPkt], tags := [⟨0, false, 0⟩] } }

/-- A state in which it is interpreted and an URGENT packet waits. -/
def urgentWaiting (k : Packet) : State :=
  { up with interp := { current := some k }, portA := { up.portA with fetched := [{ infoPkt with req := { rq with urgent := true } }] } }

/-- A test of 100 ms on lane 5. -/
def prbs0 : Prbs := { req := rq, restarted := false, dir := 3, rateKbps := 10000000, durationMs := 100, start := 0 }

/-- A block that runs it. -/
def testing : State := up.setPrbs 5 (some prbs0)

/-- The block before MPU_LOCK with one entry that opens all of DRAM to the Lantern pairs. -/
def openEntry : State :=
  (((((up.setBit .MPU_CTL 0 31 false).setReg .MPU_ENT_BASE 0 0#32).setReg .MPU_ENT_LIMIT 0 0xFFFFFFFF#32).setReg .MPU_ENT_MASK_LO 0 15#32).setReg
    .MPU_ENT_CTL 0 0x80000003#32)

/-- The block with its MPU open, running a check of one byte against 0. -/
def checking : State :=
  (up.setBit .MPU_CTL 0 31 false).setChk 0
    { cfg := leBytes 4 0x01000000 ++ leBytes 8 (dramBase + 1024 * granule) ++ leBytes 4 1 ++ leBytes 12 0, req := some rq, started := some 0 }

/-- The block on duty. -/
def onDutyUp : State := up.setBit .PAIR_STATUS 0 25 true

/-- House clocks and inputs 15 and 19 run; the FIFO of 19 holds 13 samples. -/
def listening : State :=
  ((((({ up with aud := { up.aud with ins := [(19, { chans := 2, fifo := List.replicate 13 [] })] } }).setBit .AUD_STATUS 0 31 true).setBit .AUD_IN_STAT 19 31
    true).setBits .AUD_IN_STAT 19 30 29 1).setBit .AUD_IN_STAT 15 31 true).setBits .AUD_IN_STAT 15 30 29 1

/-- Quads 0 to 3 of a board: one 100 Gb/s MAC, four 10 Gb/s MACs, four SDI inputs and outputs, one DisplayPort transmitter. -/
def quads : Body :=
  leBytes 16 0 ++ leBytes 4 1 ++ leBytes 8 28 ++ leBytes 8 0x0F01 ++ leBytes 8 0x0F02 ++ leBytes 8 0x0F03 ++ leBytes 8 0x0F04 ++ leBytes 96 0

/-- The booted block on that board. -/
def boarded : State := { up with boot := { up.boot with table := quads } }

/-- HD_TIMING of 1920 × 1080 at 60 Hz for head 0. -/
def hd60 : Body :=
  leBytes 4 0x0100 ++ leBytes 2 1920 ++ leBytes 2 88 ++ leBytes 2 44 ++ leBytes 2 2200 ++ leBytes 2 1080 ++ leBytes 2 4 ++ leBytes 2 5 ++ leBytes 2 1125
    ++ leBytes 2 60 ++ leBytes 2 1 ++ leBytes 4 0

/-- LY_CONFIG of layer 0 of head 0: source 7 on the whole of 1920 × 1080, budget 1 ms, no frozen window. -/
def live0 : Body :=
  leBytes 4 0x010000 ++ leBytes 8 0 ++ leBytes 2 1920 ++ leBytes 2 1080 ++ leBytes 16 0 ++ leBytes 4 7 ++ leBytes 4 1000 ++ leBytes 8 0

/-- A complete picture of source 7 with tag time 0. -/
def still0 : Surface := { addr := dramBase + 512 * granule, header := some { tag := ({ sourceId := 7 } : Tag).sealed, width := 1920, height := 1080 } }

/-- Layer 0 with that picture latched. -/
def run0 : LayerRun := { surf := some still0, everFull := true }

/-- Head 0 with that raster and layer, its boundary 3 s after the tag time. -/
def head0 : Head := { set := { timing := hd60, layers := [(0, { cfg := live0 })] }, frame := some 5, v := 45, flip := 3000000000, layers := [(0, run0)] }

/-- Head 0 runs. -/
def showing : State := ({ up with hd := { up.hd with head := [(0, head0)] } }).setBit .HD_STAT 0 31 true

/-- GRAPHIC pool 255 of two 16 × 16 surfaces of 8 bits. -/
def graphic : State := up.setPool (poolGfx 255) (newPool [dramBase + 512 * granule, dramBase + 513 * granule] 0xFFFF 16 16 8 0 1)

/-- Head 0 running a raster of two columns and one line. -/
def tiny : State :=
  showing.modHead 0 (fun x => { x with set := { x.set with timing := (hd60.take 4 ++ leBytes 2 2 ++ (hd60.drop 6).take 6 ++ leBytes 2 1 ++ hd60.drop 14) } })

/-- The picture stands complete in the pool of ingest context 3, whose source layer 0 shows. -/
def sourced : State := showing.setPool 3 { bound := true, sourceId := 7, surfs := [still0], order := [0] }

/-- Flow 47 and the encoded stream of channel 15 are bound; the first line of head 0 has been scanned. -/
def flowing : State :=
  let s := showing.modHead 0 (fun x => { x with flip := 0, v := 3, lines := [[]] })
  { s with now := 100000000, boot := { s.boot with taken := true }, hd := { s.hd with outs := [(559, leBytes 4 2 ++ leBytes 4 4 ++ leBytes 36 0), (783, leBytes 44 3)], flows := [(79, { queue := [[]] })] } }

/-- An ingest binding of a type for pictures of at most 2 × 1 pixels. -/
def smallBinding (ty : Nat) : Body := leBytes 2 0 ++ leBytes 2 ty ++ leBytes 8 0 ++ leBytes 2 2 ++ leBytes 2 1 ++ leBytes 16 0x10000

/-- Video for context 1023 from any source at address 1, port 5000. -/
def entry1023 : LodeEntry := { (default : LodeEntry) with dst := 1, src := 2, dport := 5000, context := 1023, group := 0xFFFF, type := 1, srcAny := true, ssrcAny := true }

/-- MAC 15 is on, context 1023 takes video from address 1 port 5000, context 1022 from SDI; both own pools. -/
def fed : State :=
  let c := fun ty => ({ bound := true, cfg := smallBinding ty } : IngCtx)
  let p := fun a => newPool [dramBase + a * granule, dramBase + (a + 1) * granule] 9 2 1 0x20 5 0
  { up with ing := { up.ing with macs := [(15, { enabled := true })], ctx := [(1022, c 6), (1023, c 1)] }, lode := { up.lode with entries := [(0, some entry1023)] }, pools := [(1022, p 512), (1023, p 514)] }

/-- A whole picture in one packet. -/
def onePacket : EthFrame :=
  { len := 100, fcsOk := true, ptp := none, udp := true, badIp := false, vlan := none, srcAddr := 2, dstAddr := 1, dstPort := 5000
    rtp := some ⟨2, true, 7, 90000, 3, 96, 0⟩, payloadOk := true, payload := [], runs := [⟨false, 0, 0, 2, [64, 512, 512, 64]⟩], au := none, data := [] }

/-- Session 127 with picture 3 decoded into buffer 1 of its pool of four. -/
def decoding : State :=
  let s := up.setPool (poolDec 127) (newPool ((List.range 4).map (fun k => dramBase + (512 + k) * granule)) 9 2 1 0x21 5 0)
  s.modSess 127 (fun d => { d with bound := true, cfg := leBytes 28 0, aus := [{ pic := 3, decoded := true, buf := some 1, info := { (default : AuInfo) with output := true } }] })

/-- ENC_CHANNEL of channel 15: source 9, 256 × 144 at 60 Hz, delay 4 rows, peak 100 Mb/s. -/
def chan15 : Body :=
  leBytes 4 0x010F ++ leBytes 2 9 ++ leBytes 2 4 ++ leBytes 2 256 ++ leBytes 2 144 ++ leBytes 2 60 ++ leBytes 2 1 ++ leBytes 4 0 ++ leBytes 4 100000
    ++ leBytes 4 1000000 ++ leBytes 4 0x0A1E ++ leBytes 2 0 ++ leBytes 2 1400 ++ leBytes 4 1000 ++ leBytes 8 0 ++ leBytes 2 96 ++ leBytes 2 10

/-- Channel 15 is active on PE 31, with a complete picture of its source and four reference buffers. -/
def encoding : State :=
  let f : Surface := { addr := dramBase + 520 * granule, header := some { tag := ({ sourceId := 9 } : Tag).sealed, width := 256, height := 144 } }
  let s := (up.setPool 9 { bound := true, sourceId := 9, surfs := [f], order := [0] }).setPool (poolEnc 15)
    (newPool ((List.range 4).map (fun k => dramBase + (512 + k) * granule)) 0xFFFF 256 144 0x21 0 2)
  let s1 := (s.setChan 15 { bound := true, cfg := chan15, needKey := none, pic := 7 }).setBits .ENC_CH_STAT 15 31 30 2
  { s1 with now := 1000000000, fab := { s1.fab with places := [(15, [31])], eePlaces := [(15, [7])] } }

/-- CAM_CONTEXT of context 15: port 7, virtual channel 3, RAW8, source 9, 16 × 16 in and out, 60 Hz. -/
def cam15 : Body :=
  leBytes 4 0x0307010F ++ leBytes 4 0x032A ++ leBytes 2 9 ++ leBytes 2 0xFFFF ++ leBytes 2 16 ++ leBytes 2 16 ++ leBytes 2 16 ++ leBytes 2 16 ++ leBytes 2 60
    ++ leBytes 2 1 ++ leBytes 2 100 ++ leBytes 2 0

/-- Port 7 feeds context 15, which has a pool of three surfaces, an open frame of 15 lines and an armed parameter set. -/
def filming : State :=
  let s := up.setPool (poolCam 15) (newPool ((List.range 3).map (fun k => dramBase + (512 + k) * granule)) 9 16 16 0x20 4 0)
  let s1 := (s.setCport 7 { enabled := true, clock := true, cfg := leBytes 8 0x0FA00400 }).setCctx 15
    { bound := true, cfg := cam15, writing := some { cfg := cam15, count := 15 }, armedSet := some { req := rq, body := List.replicate 2096 0#8 } }
  { s1 with now := 200000000 }

/-- Pipe 1 has worked for 1 ms on a frame of context 15. -/
def piping : State := (filming.modCctx 15 (fun x => { x with processing := some { cfg := cam15, count := 16, params := List.replicate 2096 0#8, lines := [] } })).setPipe 1
    { busy := some 15, started := 199000000, colour := some (dramBase + 512 * granule) }

/-- Fields of zeros behind a first byte are 0. -/
theorem le_zeros (x : Byte) (n k m : Nat) : Body.le (x :: List.replicate n 0#8) (k + 1) m = 0 := by
  have h : ∀ j, leNat (List.replicate j 0#8) = 0 := by
    intro j
    induction j with
    | zero => rfl
    | succ j ih => simp [List.replicate_succ, leNat, ih]
  simp [Body.le, h]

/-- The same at any later offset. -/
theorem le_zeros_pos (x : Byte) (n k m : Nat) (hk : 0 < k) : Body.le (x :: List.replicate n 0#8) k m = 0 := by
  obtain ⟨j, rfl⟩ : ∃ j, k = j + 1 := ⟨k - 1, by omega⟩
  exact le_zeros ..

/-- A parameter set of zeros for context 15 is well formed. -/
theorem params_zero (s : State) : camParamsBad s (15#8 :: List.replicate 2095 0#8) = false := by
  have h0 : Body.le (15#8 :: List.replicate 2095 0#8) 0 1 = 15 := by
    show leNat (List.take 1 (15#8 :: List.replicate 2095 0#8)) = 15
    rw [List.take_succ_cons, List.take_zero]; decide
  have hu (k : Nat) : Body.le (15#8 :: List.replicate 2095 0#8) (4 + 2 * k) 2 = 0 := le_zeros_pos _ _ _ _ (by omega)
  have hv (k : Nat) : Body.le (15#8 :: List.replicate 2095 0#8) (38 + 2 * k) 2 = 0 := le_zeros_pos _ _ _ _ (by omega)
  have hw (k : Nat) : Body.le (15#8 :: List.replicate 2095 0#8) (48 + 2 * k) 2 = 0 := le_zeros_pos _ _ _ _ (by omega)
  have hl : (15#8 :: List.replicate 2095 0#8 : Body).length = 2096 := by rw [List.length_cons, List.length_replicate]
  have hx (k m : Nat) (hk : 0 < k) := le_zeros_pos 15#8 2095 k m hk
  generalize (15#8 :: List.replicate 2095 0#8 : Body) = b at *
  have e (n : Nat) (f : Nat → Bool) (hf : ∀ k, f k = false) : (List.range n).any f = false := by
    rw [List.any_eq_false]; intro k _; rw [hf]; decide
  simp only [camParamsBad, Body.u8, Body.u16, Body.zero, hl, h0, hu, hv, hw, hx 1 1 (by omega), hx 2 1 (by omega), hx 3 1 (by omega), hx 44 4 (by omega)]
  rw [e, e, e] <;> (intros; rfl)

/-- A paired block in a state of the sequencer, on duty or not, the Seam link up, 1 s after power-up. -/
def pairAs (st : Nat) (duty : Bool) : State :=
  let s := (((up.setBit .PAIR_CFG 0 31 true).setBits .PAIR_STATUS 0 31 29 st).setBit .PAIR_STATUS 0 25 duty).setBit .PAIR_STATUS 0 23 true
  { s with now := 1000000000 }

/-- A good record on both lanes. -/
def okWire : SeamWire := ⟨true, true, false, false, true⟩

/-- TCH_CONFIG of front-end 1: mutual mode, 8 × 8 nodes, enabled. -/
def tch1 : Body :=
  leBytes 4 0x08010101 ++ leBytes 4 0xAAAA5555 ++ leBytes 20 0 ++ leBytes 2 100 ++ leBytes 2 50 ++ leBytes 2 100 ++ leBytes 2 100 ++ leBytes 4 0x00100780
    ++ leBytes 2 2 ++ leBytes 2 1 ++ leBytes 4 1

/-- Front-end 1 knows its layout and reference table and does not scan. -/
def touchOff : State := up.modTfe 1 (fun x => { x with cfg := tch1.set 1 0#8, table := List.replicate 64 1000, nodes := List.replicate 64 {} })

/-- Front-end 1 scans frame 0 of two nodes, and the ring is placed. -/
def touching : State :=
  let s := (up.modTfe 1 (fun x => { x with cfg := tch1, nodes := [{ base := 1000 }, { base := 1000 }], running := true, map := leBytes 32 0x0001 })).setBit .TCH_FE_STAT 1 31 true
  { s with now := 10000000, tch := { s.tch with ring := { log2 := 6, addr := 4096, port := .A } } }

/-- An Announce of master 5, port 1, every second. -/
def ann1 : PtpMsg := { (default : PtpMsg) with kind := 11, clock := 5, srcPort := 1, gm := 77, cls := 6 }

/-- PTP port 16 follows that master, the servo is LOCKED since the first step; references 0, 3 and 4 are enabled, 3 and 4 (10 MHz, rank 0) are qualified,
3 is current and 4 is manual; the DPLL is LOCKED, 100 s after power-up. -/
def timed : State :=
  let s := ((((((((up.setBits .TM_STATUS 0 26 22 16).setBits .TM_STATUS 0 15 8 0).setBits .TM_STATUS 0 29 27 3).setBit .TM_STATUS 0 30 true).setBit .TM_PORT_STAT 16 31 true).setReg .REF_CFG 0
    0x80000000#32).setReg .REF_CFG 3 0xA0000000#32).setReg .REF_CFG 4 0xA0000000#32).setReg .REF_STATUS 0 0x9C060000#32
  let x : RefSt := { alive := true, goodSince := some 0 }
  { s with now := 100000000000, tm := { s.tm with cfg := leBytes 2 0x0300 ++ leBytes 2 100 ++ leBytes 4 1000 ++ leBytes 4 10 ++ leBytes 4 100 ++ leBytes 4 0x10000
                                                  ports := [(16, { heard := [(ann1, 0, some 0)], best := some ann1 })], refs := [(3, x), (4, x)], wasLocked := true } }

/-! ### Ill-formed commands are refused, one for each check of WellFormed.lean -/

theorem test_ill_body_too_long : (Instr.devInfo rq (List.replicate 4084 0#8)).wf = false := by decide +kernel
theorem test_ill_body_not_whole_words : (Instr.devInfo rq [0#8]).wf = false := by decide +kernel
theorem test_ill_unaligned_register_read : (Instr.rcRegisterRead .A 0x010002 false).wf = false := by decide +kernel
theorem test_ill_register_read_beyond_window : (Instr.latchingRegisterRead (.host .A) 0x04000000).wf = false := by decide +kernel
theorem test_ill_ring_write_beyond_region : (Instr.registerWrite .A (.ring 262143 [0#8, 0#8]) none).wf = false := by decide +kernel
theorem test_ill_bar0_write_below_registers : (Instr.registerWrite .A (.bar0 262140 4 0#32) none).wf = false := by decide +kernel
theorem test_ill_bar2_write_of_no_bytes : (Instr.registerWrite .A (.bar2 0 0 0#32) none).wf = false := by decide +kernel
theorem test_ill_link_width : (Instr.pcieLinkEnterL0 .A 3 5 []).wf = false := by decide +kernel
theorem test_ill_link_rate : (Instr.pcieLinkEnterL0 .A 4 6 []).wf = false := by decide +kernel
theorem test_ill_preset_request : (Instr.pcieLinkEnterL0 .A 4 5 [(4, 0)]).wf = false := by decide +kernel
theorem test_ill_other_write : (Instr.registerWrite .A (.bar2 0 4 0#32) (some (.bar2 0 0 0#32))).wf = false := by decide +kernel
theorem test_ill_frequency_list : (Instr.refFreqMeasure [0, 0, 0, 0]).wf = false := by decide +kernel
theorem test_ill_tdm_ports : (Instr.tdmFrameReceive 0 [[]]).wf = false := by decide +kernel
theorem test_ill_frame_number : (Instr.frameCrcReceive okWire 0 (2 ^ 48) 0).wf = false := by decide +kernel
theorem test_ill_key_mask : (Instr.keyReqReceive okWire 65536 0 0).wf = false := by decide +kernel
theorem test_ill_regulator_word : (Instr.pmbusPoll true true true 65536 0 0 false).wf = false := by decide +kernel
theorem test_ill_crossing_length : (Instr.crossingRegisterRead (.host .A) 0 9).wf = false := by decide +kernel
theorem test_ill_absent_register_offset : (Instr.offIslandRegisterRead .A 0x04000000).wf = false := by decide +kernel

/-! ### Worked examples of the spec -/

/-- The offsets of the example after R624. -/
theorem test_register_offsets :
    [Reg.addr .CNY_LSTAT 17, Reg.addr .LODE_ENTRY 40000, Reg.addr .HP_EVT_RD 1] = [0x00100510, 0x00738800, 0x00011020] := by decide +kernel

/-- The physical address and channel of the example after R468, with the board's channel masks. -/
theorem test_dram_channel :
    physOf 0x01003B9ACA00 = 0x441E9D80 ∧
    (List.range 5).map (fun i => parity (physOf 0x01003B9ACA00) (0x000421084200 * 2 ^ i % 2 ^ 37)) = [true, false, false, false, true] := by decide +kernel

/-- The place of the same address: channel 17, bank group 3, bank 2, row 1,089, column 1,408. -/
theorem test_dram_place :
    (fun d : DramLoc => (d.channel, d.bankGroup, d.bank, d.row, d.column))
      (locate (fun i => 0x000421084200 * 2 ^ i % 2 ^ 37) (fun j => 0x808800 * 2 ^ j) (fun j => 0x2022000 * 2 ^ j) false false 0x441E9D80) =
      (17, 3, 2, 1089, 1408) := by decide +kernel

/-- The key offset of the example after R290. -/
theorem test_key_offset : keyOffset 40000000 8633333 64 = 18 := by decide +kernel

/-- Colour and blend of pixel (100, 2100) of the example after R341. -/
theorem test_banner_pixel :
    let under := stage5 1 [2400, 1600, 2800, 4095]
    under.take 3 = [3859, 2199, 1556] ∧ (blend false 4095 [4095, 514, 0, 3084] under).take 3 = [4037, 930, 384] := by decide +kernel

/-- Step and first position of layer 1 of the same example. -/
theorem test_scaler_step : scStep 3840 1920 = 131072 ∧ scPos 0 131072 0 = 32768 := by decide +kernel

/-- tl_up of the example of chapter 03: 7,410 ns for 2,250 lines at 60 Hz. -/
theorem test_line_time_rounds_up :
    tlUp (leBytes 4 0x0200 ++ leBytes 2 3840 ++ leBytes 2 176 ++ leBytes 2 88 ++ leBytes 2 4400 ++ leBytes 2 2160 ++ leBytes 2 8 ++ leBytes 2 10 ++ leBytes 2 2250
      ++ leBytes 2 60 ++ leBytes 2 1 ++ leBytes 4 0) = 7410 := by decide +kernel

/-! ### Small steps -/

/-- After reset both ports ask for scope 9: A gets it (R79 and its example). -/
theorem test_semaphore_tie :
    ∃ t, step { State.reset with pending := [.semReq .A 9#32 (some 9#32)] } = .next t ∧ t.sem.heldA = 512 ∧ t.sem.heldB = 0 ∧ t.pending = [] := by
  refine ⟨_, rfl, ?_⟩; decide +kernel

/-- With no command waiting the clock advances by one nanosecond. -/
theorem test_idle_step : step State.reset = .next { State.reset with now := 1 } := rfl


theorem test_wit_StepRunsTheFrontCommand_1 :
    ({ up with pending := [.packetStart] } : State).pending = .packetStart :: [] := by decide +kernel

theorem test_wit_IdleStepPassesOneNanosecond_1 :
    State.reset.pending = [] ∧ State.reset.mem.ch = [] := by decide +kernel

theorem test_wit_StepKeepsTheRegisterTableCanonical_1 :
    Tbl.wf resetAt (up.setReg .DEV_SCRATCH 0 5#32).regs = true ∧ Goes (step (up.setReg .DEV_SCRATCH 0 5#32)) := by exact ⟨by decide +kernel, _, rfl⟩

theorem test_wit_StepTakesOneCommandAndKeepsTheClock_1 :
    ({ up with pending := [.packetStart] } : State).pending = .packetStart :: [] ∧ Goes (step { up with pending := [.packetStart] }) := by exact ⟨rfl, _, rfl⟩

theorem test_wit_NoPacketRunsDuringARestart_1 :
    packet (.devInfo rq []) = some (rq, 0x0101) ∧ ({ up with interp := { restart := some 0 } } : State).interp.restart.isSome = true ∧
    ({ up with interp := { current := some { req := rq, opcode := 0x0304, body := [], seq := 0 } } } : State).interp.current = some { req := rq, opcode := 0x0304, body := [], seq := 0 } ∧ (0x0304 : Nat) ≠ 0x0101 := by decide +kernel

theorem test_wit_FirmwareMissingGivesNotReady_1 :
    packet (.prfStatus rq []) = some (rq, 0x0304) ∧ 0x0304 / 256 ≠ 1 ∧ State.reset.canRun rq 0x0304 = true ∧ State.reset.fwRuns = false := by decide +kernel

theorem test_wit_RingAndEventControlWritesTakeEffect_1 :
    Word.bits 16#32 17 0 % 4 = 0 ∧ up.span .A (up.port .A).lastDb ≤ up.span .A (Word.bits 16#32 17 0) := by decide +kernel

theorem test_wit_RingAndEventControlWritesTakeEffect_2 :
    Word.bits 18#32 17 0 ≠ (up.port .A).lastDb ∧ Word.bits 18#32 17 0 % 4 ≠ 0 := by decide +kernel

theorem test_wit_RingAndEventControlWritesTakeEffect_3 :
    (State.reset.setReg .HP_EVT_SIZE 1 16#32).evtEn .B = false ∧ 10 ≤ (State.reset.setReg .HP_EVT_SIZE 1 16#32).regBits .HP_EVT_SIZE Port.B.idx 4 0 ∧
    (State.reset.setReg .HP_EVT_SIZE 1 16#32).regBits .HP_EVT_SIZE Port.B.idx 4 0 ≤ 16 := by decide +kernel

theorem test_wit_PacketsAreFetchedAndStarted_1 :
    ringed.mayFetch .A = true ∧ (ringed.port .A).dropped = 0 ∧ (ringed.port .A).tags.length < ringed.freeRecords .A ∧
    Body.u16 ((ringed.port .A).bytes (ringed.cmdRd .A) 16) 4 = 4 ∧ Body.u16 ((ringed.port .A).bytes (ringed.cmdRd .A) 16) 6 = 1 ∧
    16 + 4 ≤ ringed.span .A (ringed.port .A).lastDb ∧
    crc32cFold (BitVec.ofNat 32 (256 * Port.A.idx + Body.u8 ((ringed.port .A).bytes (ringed.cmdRd .A) 16) 2))
      (((ringed.port .A).bytes (ringed.cmdRd .A) 16).take 12 ++ (ringed.port .A).bytes (ringed.cmdRd .A + 16) 4) =
      BitVec.ofNat 32 (Body.u32 ((ringed.port .A).bytes (ringed.cmdRd .A) 16) 12) ∧
    ringed.tagFree (reqOf .A ((ringed.port .A).bytes (ringed.cmdRd .A) 16)) = true ∧
    Body.u8 ((ringed.port .A).bytes (ringed.cmdRd .A) 16) 2 = 63 ∧ Body.u8 ((ringed.port .A).bytes (ringed.cmdRd .A) 16) 3 < 4 := by decide +kernel

theorem test_wit_PacketsAreFetchedAndStarted_2 :
    waiting.interp.current = none ∧ waiting.interp.restart = none ∧ waiting.ctrlHalted = false ∧ waiting.boot.starting = false ∧
    waiting.interp.again = [] ∧ (waiting.nextPacket true).or (waiting.nextPacket false) = some infoPkt ∧ opcodes.contains infoPkt.opcode = true := by decide +kernel

theorem test_wit_PacketsAreFetchedAndStarted_3 :
    infoPkt.req.urgent = false ∧ (urgentWaiting infoPkt).interp.current = some infoPkt ∧ (urgentWaiting infoPkt).interp.suspended = none ∧
    (urgentWaiting infoPkt).interp.restart = none ∧ (urgentWaiting infoPkt).ctrlHalted = false ∧
    (urgentWaiting infoPkt).nextPacket true = some { infoPkt with req := { rq with urgent := true } } := by decide +kernel

theorem test_wit_PacketsAreFetchedAndStarted_4 :
    let s := up.setChan 15 { bound := true, second := [{}] }; (s.chan 15).next = none ∧ (s.chan 15).second = [{}] ∧ (s.chan 15).bound = true := by decide +kernel

theorem test_wit_PacketsAreFetchedAndStarted_5 :
    let s := (up.setHead 23 { second := [{}] }).setBit .HD_STAT 23 31 true; (s.head 23).armed = none ∧ (s.head 23).second = [{}] ∧ s.running 23 = true := by decide +kernel

theorem test_wit_SemaphoreRequestsAreGrantedOrRefused_1 :
    Word.bits 63#32 5 0 = 63 := by decide +kernel

theorem test_wit_SemaphoreRequestsAreGrantedOrRefused_2 :
    State.reset.heldOf .A = 0 ∧ State.reset.heldOf .B = 0 ∧ Port.A = portOf (State.reset.regBits .SEM_TIE 0 0 0) := by decide +kernel

theorem test_wit_ScopesAreReleased_1 :
    Word.bits 63#32 6 0 < 64 ∧ up.holds .A 63 = false ∧ up.holds .A 0 = true := by decide +kernel

theorem test_wit_ScopesAreReleased_2 :
    Word.bits 64#32 6 0 = 64 ∧ 64 < Word.bits 65#32 6 0 := by decide +kernel

theorem test_wit_LinksAndPortResetsKeepOrReleaseScopes_1 :
    (up.port .A).linkUp = true := by decide +kernel

theorem test_wit_LinksAndPortResetsKeepOrReleaseScopes_2 :
    (State.reset.port .A).linkUp = false ∧ Port.A = State.reset.boot.port ∧ (4 : Nat) ∈ [1, 2, 4] ∧ (5 : Nat) ≤ 5 := by decide +kernel

theorem test_wit_LinksAndPortResetsKeepOrReleaseScopes_3 :
    (({ up with now := 100000000, portA := { up.portA with downSince := some 0 } } : State).port .A).downSince = some 0 ∧
    0 + 100000000 ≤ ({ up with now := 100000000, portA := { up.portA with downSince := some 0 } } : State).now ∧ up.heldOf .A ≠ 0 := by decide +kernel

theorem test_wit_LinksAndPortResetsKeepOrReleaseScopes_4 :
    ResetKind.flr ≠ .linkDown := by decide +kernel

theorem test_wit_ControlPlaneRestartHoldsPackets_1 :
    up.fwRuns = true ∧ up.interp.restart = none := by decide +kernel

theorem test_wit_ControlPlaneRestartHoldsPackets_2 :
    ({ up with interp := { restart := some 0 } } : State).interp.restart.isSome = true := by decide +kernel

theorem test_wit_InterruptsStatusAndReadIndicesFollowTheHost_1 :
    (({ up with now := 5, portB := { up.portB with modUntil := some 5, modPending := true } } : State).port .B).modUntil = some 5 ∧
    5 ≤ ({ up with now := 5, portB := { up.portB with modUntil := some 5, modPending := true } } : State).now := by decide +kernel

theorem test_wit_RegisterReadsAndWritesFollowTheAccessRules_1 :
    Reg.HP_BUSY_CNT.info.acc = .RC ∧ 1 < Reg.HP_BUSY_CNT.info.count ∧ up.offAt (Reg.HP_BUSY_CNT.addr 1) = false := by decide +kernel

theorem test_wit_RegisterReadsAndWritesFollowTheAccessRules_2 :
    up.offAt (Reg.HD_FRAME_LO.addr 23) = false := by decide +kernel

theorem test_wit_RegisterReadsAndWritesFollowTheAccessRules_3 :
    8 < 7 % 8 + 2 := by decide +kernel

theorem test_wit_RegisterReadsAndWritesFollowTheAccessRules_4 :
    23 < Reg.HD_FRAME_LO.info.count ∧ State.reset.offAt (Reg.HD_FRAME_LO.addr 23) = true := by decide +kernel

theorem test_wit_RegisterReadsAndWritesFollowTheAccessRules_5 :
    3 ≠ 4 ∨ 0 % 4 ≠ 0 := by decide +kernel

theorem test_wit_EventInputsActOnAcceptedChanges_1 :
    up.regBit .EVI_STAT 7 0 ≠ true ∧ up.filterNs 7 ≤ 10 := by decide +kernel

theorem test_wit_EventInputsActOnAcceptedChanges_2 :
    let s := up.setReg .EVI_CFG 7 0xC0000000#32; s.regBit .EVI_STAT 7 0 ≠ true ∧ s.filterNs 7 ≤ 10 ∧ s.regBit .EVI_CFG 7 31 = true ∧
    s.regBit .EVI_CFG 7 30 = true ∧ s.regBits .EVI_CFG 7 27 24 = 0 ∧ (s.evi 7).lastEdge = none ∧ s.evtEn .B = true ∧ s.passes .B 0x0310 = true ∧
    64 < s.freeRecords .B := by decide +kernel

theorem test_wit_EventInputsActOnAcceptedChanges_3 :
    let s : State := { up.setReg .EVI_CFG 0 1#32 with now := 1000000, evin := [(0, { activeAt := some 0 })] }; (s.evi 0).activeAt = some 0 ∧
    s.regBits .EVI_CFG 0 15 0 ≠ 0 ∧ 0 + s.regBits .EVI_CFG 0 15 0 * 1000000 ≤ s.now ∧ s.regBit .EVI_STAT 0 1 = false ∧ s.evtEn .A = true ∧
    s.passes .A 0x0311 = true ∧ 64 < s.freeRecords .A := by decide +kernel

theorem test_wit_EventInputsActOnAcceptedChanges_4 :
    let s : State := { up with now := 10000000, evin := [(3, { lastAction := some 0, pendingAct := true })] }; (s.evi 3).lastAction = some 0 ∧
    (s.evi 3).pendingAct = true ∧ 0 + 10000000 ≤ s.now := by decide +kernel

theorem test_wit_EventInputsActOnAcceptedChanges_5 :
    let b : Body := leBytes 4 0x02010107 ++ leBytes 4 0 ++ leBytes 4 3; Ready up rq 0x0310 [0] ∧ b.length = 12 ∧ b.u8 0 = 7 ∧ b.u8 1 < 2 ∧ b.u8 2 < 2 ∧
    b.u8 3 = 2 ∧ b.u8 5 = 0 ∧ b.u16 10 = 0 ∧ b.u16 8 < 4 := by decide +kernel

theorem test_wit_ProfileImagesLoadAsValidOrInvalid_1 :
    let b : Body := leBytes 4 3 ++ leBytes 8 0 ++ leBytes 4 0 ++ leBytes 4 (crc32c []).toNat; Ready up rq 0x0301 [4] ∧ b.length = 20 ∧ b.u8 0 = 3 ∧
    b.zero 1 3 = true ∧ b.u32 12 % 4 = 0 ∧ b.u32 12 ≤ 4194304 ∧ crc32c (takePad (b.u32 12) []) = BitVec.ofNat 32 (b.u32 16) ∧
    up.slotState 3 ≠ 3 ∧ up.slotState 3 ≠ 4 ∧ (match checkSections (parseSections [] 1 0) up.endInterp.blank with | .inr _ => true | .inl _ => false) = true := by decide +kernel

theorem test_wit_ProfileImagesLoadAsValidOrInvalid_2 :
    let b : Body := leBytes 4 0 ++ leBytes 8 0 ++ leBytes 4 4 ++ leBytes 4 0; Ready up rq 0x0301 [1] ∧ b.length = 20 ∧ b.u8 0 = 0 ∧
    b.zero 1 3 = true ∧ b.u32 12 = 4 ∧ crc32c (takePad (b.u32 12) []) ≠ BitVec.ofNat 32 (b.u32 16) ∧ up.slotState 0 ≠ 3 ∧ up.slotState 0 ≠ 4 := by decide +kernel

theorem test_wit_ProfileSelectionsStart_1 :
    let s := up.setSlotState 2 1; let b : Body := leBytes 4 2; Ready s rq 0x0302 [3] ∧ b.length = 4 ∧ b.zero 1 3 = true ∧ b.u8 0 = 2 ∧
    s.slotState 2 = 1 ∧ (s.slot 2).reason = 0 ∧ s.heldOf rq.port.other = 0 ∧ s.enginesLack 2 = false := by decide +kernel

theorem test_wit_ProfileSelectionsStart_2 :
    let s : State := { up with now := 10000000 }; s.pwr.porst = false ∧ s.pwr.released + 10000000 ≤ s.now ∧ s.regBit .PRF_STATE 0 7 = false := by decide +kernel

theorem test_wit_ProfileSelectionsStart_3 :
    let s : State := { (up.setSlotState 3 1).setBit .PRF_STATE 0 7 true with now := 10000000 }; s.pwr.porst = false ∧ s.pwr.released + 10000000 ≤ s.now ∧
    s.regBit .PRF_STATE 0 7 = true ∧ s.regBits .PRF_STATE 0 5 4 ≠ 3 ∧ s.slotState 3 = 1 ∧ (s.slot 3).reason = 0 ∧ s.prof.lastSel = none ∧ s.enginesLack 3 = false := by decide +kernel

theorem test_wit_ProfileSelectionsStart_4 :
    let s : State := { up.setBit .PRF_STATE 0 7 true with now := 10000000 }; s.pwr.porst = false ∧ s.pwr.released + 10000000 ≤ s.now ∧
    s.regBit .PRF_STATE 0 7 = true ∧ s.regBits .PRF_STATE 0 5 4 ≠ 1 ∧ s.slotState 1 = 0 ∧ s.evtEn .B = true ∧ s.passes .B 0x0302 = true ∧ 64 < s.freeRecords .B := by decide +kernel

theorem test_wit_MasksPinModeAndStatusAnswer_1 :
    let b : Body := leBytes 4 1; Ready up rq 0x0303 [0] ∧ b.length = 4 ∧ b.u8 0 < 2 ∧ b.zero 1 3 = true ∧ Ready up rq 0x0304 [] ∧ Ready up rq 0x0201 [] ∧
    (List.replicate 32 255#8 : Body).length = 32 := by decide +kernel

theorem test_wit_BringUpFollowsTheSpec_1 :
    State.reset.pwr.porst = true := by decide +kernel

theorem test_wit_BringUpFollowsTheSpec_2 :
    Ready up rq 0x0101 [] := by decide +kernel

theorem test_wit_BringUpFollowsTheSpec_3 :
    let s := State.reset.setReg .HP_CTL 0 3#32; Ready s rq 0x0102 [] ∧ s.boot.starting = false ∧ s.fwRuns = false ∧ rq.port = s.boot.port ∧
    (leBytes 16 0 : Body).length = 16 ∧ Body.u32 (leBytes 16 0) 8 ≤ 16777216 ∧ Body.zero (leBytes 16 0) 12 4 = true := by decide +kernel

theorem test_wit_BringUpFollowsTheSpec_4 :
    ({ State.reset with boot := { starting := true } } : State).boot.starting = true := by decide +kernel

theorem test_wit_BringUpFollowsTheSpec_5 :
    let s : State := { up with boot := { up.boot with board := false } }; Ready s rq 0x0103 [0] ∧ s.boot.board = false := by decide +kernel

theorem test_wit_BringUpFollowsTheSpec_6 :
    let s := up.setBits .PWR_ISL_STAT 39 31 30 0; let b : Body := leBytes 4 0x127; Ready s rq 0x7C01 [53] ∧ b.length = 4 ∧ b.u8 0 = 39 ∧ b.u8 1 = 1 ∧
    b.zero 2 2 = true ∧ s.island 39 = 0 ∧ s.pwr.queue = [] ∧ s.pwr.cmds = [] ∧ (List.range 41).all (fun i => s.island i != 1) = true := by decide +kernel

theorem test_wit_BringUpFollowsTheSpec_7 :
    (up.setBits .PWR_ISL_STAT 40 31 30 1).island 40 = 1 := by decide +kernel

theorem test_wit_BringUpFollowsTheSpec_8 :
    let s : State := { up with pwr := { up.pwr with cmds := [{ req := rq, restarted := false, islands := [38], on := false }] } }
    s.island 38 = 2 ∧ s.pwr.cmds.any (fun c => !c.on && c.islands.contains 38) = true ∧ s.xing = [] := by decide +kernel

theorem test_wit_PowerAndTemperatureAreWatched_1 :
    up.island 40 = 2 := by decide +kernel

theorem test_wit_PowerAndTemperatureAreWatched_2 :
    let s := up.setBit .PWR_STATUS 0 31 true; s.regBit .PWR_STATUS 0 31 = true ∧ statusBad 0 = false ∧ s.regBits .PWR_VSET 0 10 0 ≤ 0 + 15 ∧
    0 ≤ s.voutRange.2 + 15 ∧ s.pwr.nacks = 0 := by decide +kernel

theorem test_wit_PowerAndTemperatureAreWatched_3 :
    up.island 0 ≠ 0 ∧ guarded 0 = false := by decide +kernel

theorem test_wit_PowerAndTemperatureAreWatched_4 :
    Tbl.get ({ up with pwr := { up.pwr with hot := [(40, 2)] } } : State).pwr.hot 40 = 2 := by decide +kernel

theorem test_wit_PowerAndTemperatureAreWatched_5 :
    let b : Body := leBytes 4 104; Ready up rq 0x7C02 [53] ∧ b.length = 4 ∧ 60 ≤ b.u8 0 ∧ b.u8 0 ≤ 104 ∧ b.zero 1 3 = true := by decide +kernel

theorem test_wit_SerialLanesAreTestedAndWatched_1 :
    let b : Body := leBytes 4 0x30042 ++ leBytes 4 1250000 ++ leBytes 4 86400000; Ready up rq 0x7E01 [53] ∧ b.length = 12 ∧ b.u8 0 = 66 ∧ b.u8 1 ≤ 2 ∧
    b.u8 2 = 3 ∧ b.zero 3 1 = true ∧ prbsRateOk 66 (b.u32 4) = true ∧ b.u32 8 ≤ 86400000 ∧ up.prbs 66 = none ∧ up.laneBusy 66 = false := by decide +kernel

theorem test_wit_SerialLanesAreTestedAndWatched_2 :
    let s := testing; let b : Body := leBytes 4 5; Ready s rq 0x7E02 [53] ∧ b.length = 4 ∧ b.u8 0 ≤ 66 ∧ b.zero 1 3 = true ∧ s.prbs 5 = some prbs0 := by decide +kernel

theorem test_wit_SerialLanesAreTestedAndWatched_3 :
    ({ testing with now := 100000000 } : State).prbs 5 = some prbs0 ∧ prbs0.durationMs ≠ 0 ∧ prbs0.start + prbs0.durationMs * 1000000 ≤ 100000000 ∧
    prbs0.dir.testBit 1 = true ∧ prbs0.locked1 = none ∧ prbs0.start + 100000000 ≤ 100000000 ∧ prbs0.since = none := by decide +kernel

theorem test_wit_SerialLanesAreTestedAndWatched_4 :
    testing.prbs 5 = some prbs0 ∧ prbsLocks (testing.regBits .SL_PRBS_STAT 5 30 29) (List.replicate 71 false) = true := by decide +kernel

theorem test_wit_SerialLanesAreTestedAndWatched_5 :
    let x : Prbs := { prbs0 with since := some 0 }; (up.setPrbs 66 (some x)).prbs 66 = some x ∧ x.dir.testBit 1 = true ∧ x.since.isSome = true ∧
    (List.replicate 1024 true).length = 1024 ∧ 32 ≤ ((List.replicate 1024 true).filter id).length := by decide +kernel

theorem test_wit_SerialLanesAreTestedAndWatched_6 :
    let s := (up.setBit .SL_STATUS 0 15 true).setBit .SL_QUAD_STAT 15 18 true; s.regBit .SL_STATUS 0 15 = true ∧ s.regBit .SL_QUAD_STAT 15 18 = true := by decide +kernel

theorem test_wit_SerialLanesAreTestedAndWatched_7 :
    up.laneServes 66 = true ∧ up.regBit .SL_LANE_STAT 66 30 ≠ true := by decide +kernel

theorem test_wit_SerialLanesAreTestedAndWatched_8 :
    let s := boarded.setBit .SL_LANE_STAT 3 31 true; s.laneServes 3 = true ∧ s.laneFec 3 = true ∧ s.regBit .SL_LANE_STAT 3 30 ≠ true := by decide +kernel

theorem test_wit_MpuAndCheckUnitsFollowTheSpec_1 :
    let s := up.setBit .MPU_CTL 0 31 false; let b : Body := leBytes 4 0x0F00FF ++ leBytes 4 0x8000000 ++ leBytes 4 0x8000000 ++ leBytes 8 0xF; Ready s rq 0x7001 [52] ∧
    b.length = 20 ∧ b.u16 0 = 255 ∧ b.u8 2 = 15 ∧ b.zero 3 1 = true ∧ b.u32 4 ≤ b.u32 8 ∧ s.mpuLocked = false ∧ s.mpuEntLocked 255 = false := by decide +kernel

theorem test_wit_MpuAndCheckUnitsFollowTheSpec_2 :
    let s := openEntry; let b : Body := leBytes 4 0x4D50554C; Ready s rq 0x7002 [0] ∧ b.length = 4 ∧ b.u32 0 = 0x4D50554C ∧ s.mpuLocked = false ∧ s.fwRegionOk = true := by decide +kernel

theorem test_wit_MpuAndCheckUnitsFollowTheSpec_3 :
    let b : Body := leBytes 4 0x01010007 ++ leBytes 8 (2 ^ 44 - 1) ++ leBytes 4 1073741824 ++ leBytes 12 0; Ready up rq 0x7010 [52] ∧ b.length = 28 ∧
    b.u8 0 = 7 ∧ b.u8 1 ≤ 3 ∧ b.u8 2 ≤ 3 ∧ b.u8 3 = 1 ∧ b.u64 4 < 2 ^ 44 ∧ b.u32 12 = 1073741824 ∧ b.u32 24 = 0 ∧ up.chkBusy 7 = false := by decide +kernel

theorem test_wit_MpuAndCheckUnitsFollowTheSpec_4 :
    let s := checking; let c := (s.chk 0).cfg; (s.chk 0).started.isSome = true ∧ (s.chk 0).req = some rq ∧ s.evtEn .A = true ∧ s.interp.restart = none ∧
    c.u32 24 = 0 ∧ c.u8 3 = 1 ∧ (s.chk 0).dirty = false ∧ s.chkDenied (c.u64 4) (c.u32 12) = none ∧ s.chkPoison (c.u64 4) (c.u32 12) none = none ∧
    s.dramBytes (c.u64 4) (c.u32 12) = some [0#8] := by decide +kernel

theorem test_wit_MpuAndCheckUnitsFollowTheSpec_5 :
    Ready checking rq 0x7011 [52] ∧ (checking.chk 0).started.isSome = true ∧ Body.zero (leBytes 4 0) 1 3 = true := by decide +kernel

theorem test_wit_MpuAndCheckUnitsFollowTheSpec_6 :
    let s := up.setChk 7 { cfg := leBytes 24 0 ++ leBytes 4 60000 }; (s.chk 7).started = none ∧ (s.chk 7).cfg.u32 24 = 60000 ∧ (s.chk 7).nextAt ≤ s.now := by decide +kernel

theorem test_wit_FaultsAreLoggedAndReleaseDuty_1 :
    let b : Body := leBytes 4 256 ++ leBytes 8 4096; Ready up rq 0x7020 [] ∧ b.length = 12 ∧ b.u16 0 = 256 ∧ b.zero 2 2 = true ∧ hwSource 14 0x0F = true ∧ hwSource 13 0x07 = false := by decide +kernel

theorem test_wit_FaultsAreLoggedAndReleaseDuty_2 :
    let s := onDutyUp; s.onDuty = true ∧ s.flt.release = none := by decide +kernel

theorem test_wit_FaultsAreLoggedAndReleaseDuty_3 :
    let s := { onDutyUp with flt := { onDutyUp.flt with release := some (0, 1000000) } }; s.flt.release = some (0, 1000000) ∧ s.onDuty = true := by decide +kernel

theorem test_wit_FaultsAreLoggedAndReleaseDuty_4 :
    let s : State := { up with now := 3000000, flt := { up.flt with alive := [(40, some 0)] } }; s.island 40 = 2 ∧ Tbl.get s.flt.alive 40 = some 0 ∧ 0 + 3000000 ≤ s.now := by decide +kernel

theorem test_wit_FaultsAreLoggedAndReleaseDuty_5 :
    up.fwRuns = true ∧ up.flt.halted.contains 3 = false ∧ up.interp.restart = none := by decide +kernel

theorem test_wit_FaultsAreLoggedAndReleaseDuty_6 :
    let s : State := { onDutyUp with now := 5000000, flt := { up.flt with beats := [(3, some 0)] } }; Tbl.get s.flt.beats 3 = some 0 ∧ 0 + 5000000 ≤ s.now ∧ s.onDuty = true := by decide +kernel

theorem test_wit_FaultsAreLoggedAndReleaseDuty_7 :
    let s : State := { onDutyUp with now := 2000000000, interp := { restart := some 0 } }; s.interp.restart = some 0 ∧ 0 + 2000000000 ≤ s.now ∧
    s.flt.graceSpent = false ∧ s.onDuty = true := by decide +kernel

theorem test_wit_FaultsAreLoggedAndReleaseDuty_8 :
    let s : State := { up with boot := { up.boot with debugKey := [1#8] }, pwr := { porst := false } }; s.pwr.porst = false ∧ s.boot.debugKey ≠ [] := by decide +kernel

theorem test_wit_TheLowestMatchingEntryDecidesAnAccessPart_1 :
    let s := openEntry.setBit .MPU_CTL 0 31 true; let a : MemAccess := ⟨1, 0, 0, true, dramBase + 4095, 1, [7#8], 0⟩; s.mapped a.addr = true ∧ s.mpuLocked = true ∧
    s.trained = true ∧ s.masterStopped 1 = false ∧ dramBase ≤ a.addr ∧ 0 < a.len ∧ a.addr % 4096 + a.len ≤ 4096 ∧ a.data.length = a.len ∧
    s.mpuMatch 1 a.addr = some 0 ∧ s.regBit .MPU_ENT_CTL 0 1 = true ∧ s.xing = [] ∧ s.mem.ch = [] ∧ (default : DmcCh).pauseEnd ≤ s.now ∧ (default : DmcCh).queue = [] := by decide +kernel

theorem test_wit_TheLowestMatchingEntryDecidesAnAccessPart_2 :
    let s := up; let a : MemAccess := ⟨12, 0, 0, true, dramBase, 4096, List.replicate 4096 0#8, 0⟩; s.mapped a.addr = true ∧ s.mpuLocked = true ∧
    s.trained = true ∧ s.masterStopped 12 = false ∧ dramBase ≤ a.addr ∧ a.addr % 4096 + a.len ≤ 4096 ∧ a.data.length = a.len ∧ s.mpuMatch 12 a.addr = none := by decide +kernel

theorem test_wit_RequestsChangeOnlyTheBytesTheyWrite_1 :
    let a : MemAccess := ⟨3, 0, 0, false, 0x4000000, 4096, [], 0⟩; Goes (exec (.interconnectRequest a) up) ∧ Tbl.wf (fun _ => 0#8) up.mem.bytes = true := by exact ⟨⟨_, rfl⟩, by decide +kernel⟩

theorem test_wit_DramIsTrainedRefreshedPatrolledAndWatched_1 :
    let s := up.setBit .DMC_STATUS 0 31 false; Ready s rq 0x6801 [52] ∧ s.trained = false ∧ Ready s rq 0x6803 [] ∧ Ready s rq 0x6802 [52] := by decide +kernel

theorem test_wit_DramIsTrainedRefreshedPatrolledAndWatched_2 :
    let b : Body := leBytes 4 1024; Ready up rq 0x6802 [52] ∧ b.length = 4 ∧ b.u16 0 = 1024 ∧ b.zero 2 2 = true ∧ Ready up rq 0x6803 [] ∧ up.trained = true := by decide +kernel

theorem test_wit_DramIsTrainedRefreshedPatrolledAndWatched_3 :
    (up.dmc 31).nextRefresh ≤ up.now ∧ up.mem.newPeriod = none ∧ (up.dmc 31).nextRetrain ≤ (up.dmc 31).pauseEnd ∧ (up.dmc 31).pauseEnd ≤ up.now ∧ (up.dmc 31).queue = [] ∧
    (up.dmc 31).nextMr4 ≤ up.now ∧ (up.dmc 31).nextPatrol ≤ up.now ∧ up.regBits .DMC_CH_STAT 31 27 25 < 2 := by decide +kernel

theorem test_wit_DramIsTrainedRefreshedPatrolledAndWatched_4 :
    let s := up.setDmc 31 { fails := 2, dataB := 189, ctlB := 5 }; s.trained = true ∧ s.mem.newPeriod = none ∧ (s.dmc 31).nextRetrain ≤ (s.dmc 31).pauseEnd ∧ (s.dmc 31).pauseEnd ≤ s.now ∧ (s.dmc 31).fails = 2 ∧
    (s.dmc 31).windowEnd ≤ s.now ∧ 188 < (s.dmc 31).dataB ∧ (s.dmc 31).ctlB ≤ 5 := by decide +kernel

theorem test_wit_DramIsTrainedRefreshedPatrolledAndWatched_5 :
    let s := openEntry.poisonLine (dramBase + 64); s.trained = true ∧ s.mpuLocked = false ∧ s.masterStopped 3 = false ∧ (dramBase + 64) / 64 ∈ s.mem.poison ∧
    s.mapped (dramBase + 64) = true ∧ s.xing = [] ∧ s.mem.ch = [] ∧ (default : DmcCh).pauseEnd ≤ s.now ∧ (default : DmcCh).queue = [] := by decide +kernel

theorem test_wit_DramIsTrainedRefreshedPatrolledAndWatched_6 :
    up.island 40 = 2 := by decide +kernel

theorem test_wit_AudioPortsStreamsAndRoutesFollowTheSpec_1 :
    let b : Body := [3#8, 7#8, 16#8, 8#8]; Ready up rq 0x5801 [50] ∧ tdmBad b = false ∧ (up.applyTdm b).ratesJoin = false := by decide +kernel

theorem test_wit_AudioPortsStreamsAndRoutesFollowTheSpec_2 :
    let b : Body := [0#8, 7#8, 1#8, 0#8]; Ready up rq 0x5802 [50] ∧ aesBad b = false ∧ (up.applyAes3 b).ratesJoin = false := by decide +kernel

theorem test_wit_AudioPortsStreamsAndRoutesFollowTheSpec_3 :
    let b : Body := leBytes 4 0x20107F ++ leBytes 40 0; let c : Body := leBytes 4 0x2017F ++ leBytes 4 0x4E2003FF ++ leBytes 36 0; Ready up rq 0x5803 [50] ∧
    streamBad (b.take 1 ++ [0#8] ++ b.drop 2) = false ∧ streamBad c = false ∧ c.u8 3 = 0 ∧ 125 ≤ c.u16 6 ∧ c.u16 6 ≤ 20000 ∧ c.u16 4 ≤ 1023 ∧
    (Tbl.get ({ up with ing := { up.ing with ctx := [(1023, { bound := true, cfg := leBytes 3 0x20000 })] } } : State).ing.ctx 1023).cfg.u8 2 = 2 ∧
    up.streamChans false 127 + c.u8 2 ≤ 1024 ∧ txPayload c ≤ 1440 ∧ (up.applyRx c).ratesJoin = false := by decide +kernel

theorem test_wit_AudioPortsStreamsAndRoutesFollowTheSpec_4 :
    let c : Body := leBytes 4 0x0402017F ++ leBytes 30 0 ++ leBytes 10 0x023F; Ready boarded rq 0x5804 [50] ∧ streamBad c = false ∧ c.u16 4 = 0 ∧ c.u8 1 = 1 ∧
    c.u8 3 ≤ 15 ∧ boarded.macOnBoard (c.u8 3) = true ∧ c.u8 34 = 63 ∧ c.u8 35 ≠ 0 ∧ boarded.streamChans true 127 + c.u8 2 ≤ 1024 ∧ txPayload c ≤ 1440 ∧ (boarded.applyTx c).ratesJoin = false := by decide +kernel

theorem test_wit_AudioPortsStreamsAndRoutesFollowTheSpec_5 :
    let b : Body := leBytes 4 1; Ready up rq 0x5805 [50] ∧ b.length = 4 ∧ b.u8 0 = 1 ∧ b.zero 1 3 = true := by decide +kernel

theorem test_wit_AudioPortsStreamsAndRoutesFollowTheSpec_6 :
    let b : Body := leBytes 4 0xC3500001 ++ leBytes 8 0x00A73F3F00A7; Ready up rq 0x5810 [50] ∧ routeBad b = false ∧ up.routeChans b = false ∧ up.routeFormat b = false ∧
    b.u16 0 = 1 ∧ b.u16 2 = 50000 ∧ (up.aout (audKey (b.u16 4) (b.u8 6))).stage = 0 ∧ up.aud.cmds = [] ∧ routeTarget b 0 = some (167, 63) ∧ up.chanInUse (audKey 167 63) = false := by decide +kernel

theorem test_wit_AudioPortsStreamsAndRoutesFollowTheSpec_7 :
    let s : State := { up with aud := { up.aud with tdm := [(3, [3#8, 7#8, 16#8, 8#8])] } }; let b : Body := leBytes 4 0xC3500001 ++ leBytes 8 0x000E000F000F
    s.chanInUse (audKey 15 15) = true ∧ routeBad b = false ∧ s.routeChans b = false ∧ s.routeFormat b = false ∧ routeTarget b 0 = some (14, 0) ∧ (s.aout (audKey 15 15)).src = none ∧ (s.aout (audKey 15 15)).stage = 0 := by decide +kernel

theorem test_wit_AudioPortsStreamsAndRoutesFollowTheSpec_8 :
    let b : Body := leBytes 4 0x0F0027; Ready up rq 0x5811 [] ∧ b.length = 4 ∧ b.u16 0 = 39 ∧ b.u8 2 = 15 ∧ b.u8 3 = 0 := by decide +kernel

theorem test_wit_AudioPortsStreamsAndRoutesFollowTheSpec_9 :
    let s := listening; s.ainOn 19 = true ∧ s.mismatch 19 = false ∧ (s.ain 19).fifo.length = 13 ∧ s.ainOn 15 = true ∧ s.mismatch 15 = false ∧
    (s.ain 15).fifo.length ≤ 13 ∧ s.regBits .AUD_IN_STAT 19 30 29 ≠ sampleClass (some 48048001) ∧ sampleClass none ≠ (if s.ain96 19 then 2 else 1) := by decide +kernel

theorem test_wit_AudioPortsStreamsAndRoutesFollowTheSpec_10 :
    let s : State := { up with aud := { up.aud with rx := [(127, { bound := true, cfg := leBytes 8 0 })] } }; (s.rxs 127).bound = true ∧
    rxReadTime (s.rxs 127).cfg (s.rxs 127).nextT ≤ s.ptp := by decide +kernel

theorem test_wit_AudioPortsStreamsAndRoutesFollowTheSpec_11 :
    let s : State := { (up.setBit .PAIR_STATUS 0 25 true) with boot := { up.boot with taken := true }, aud := { up.aud with tx := [(127, { ready := [([], 0, 0)], tokens := 6000000000 })] } }
    (s.txs 127).ready = [([], 0, 0)] ∧ txCost (s.txs 127).cfg ≤ s.txLevel 127 ∧ s.txSends 127 = true ∧ s.flowFirst ((s.txs 127).cfg.u8 3) = none := by decide +kernel

theorem test_wit_AudioPortsStreamsAndRoutesFollowTheSpec_12 :
    let s : State := { up with aud := { up.aud with tick := 4800, outs := [(audKey 167 63, { stage := 1, timeoutUs := 50000 })] } }
    let x := s.aout (audKey 167 63); x.stage = 1 ∧ s.aud.realign = false ∧ x.since ≤ s.aud.tick ∧ x.timeoutUs * 96 ≤ (s.aud.tick - x.since) * 1000 ∧ s.nonPcm x.src = false ∧
    s.nonPcm (x.want.getD none) = false := by decide +kernel

theorem test_wit_AudioPortsStreamsAndRoutesFollowTheSpec_13 :
    let s := listening; s.regBit .AUD_STATUS 0 31 = true ∧ s.tickTime s.aud.tick ≤ s.tm.gridAt s.now ∧ s.aud.realign = false ∧ s.aud.tick % 2 = 0 ∧
    (s.ain 19).fifo = [] :: List.replicate 12 [] := by decide +kernel

theorem test_wit_AStalePictureIsMarked_1 :
    let s := showing; let x := s.head 0; s.evaluable 0 0 = some (45, 1124) ∧ s.ptp < s.evalDeadline 0 45 ∧ s.isStandby = false ∧ (x.layer 0).settled = false ∧
    (x.layer 0).still = false ∧ (x.layer 0).surf = some still0 ∧
    (lBudget (x.shadow 0).cfg * 1000 : Int) < (x.flip : Int) + (1124 + 1) * tlUp (lineRaster (s.rasterOf 0)) + 4 - s.tagTimeOf ({ sourceId := 7 } : Tag).sealed := by decide +kernel

theorem test_wit_AStalePictureIsMarked_2 :
    let s := showing.modHead 0 (fun x => { x with flip := 0, v := 3 }); s.evaluable 0 0 = some (3, 1082) ∧ s.isStandby = false ∧ ((s.head 0).layer 0).settled = false := by decide +kernel

theorem test_wit_AStalePictureIsMarked_3 :
    let s : State := { showing.modHead 0 (fun x => { x with flip := 0, v := 3 }) with now := 100000000 }; let d := s.evalDeadline 0 3; d = 29630 ∧ d ≤ 100000000 := by decide +kernel

theorem test_wit_SequenceTimesFollowTheEvaluations_1 :
    let s := showing; let x := s.head 0; s.evaluable 0 0 = some (45, 1124) ∧ s.ptp < s.evalDeadline 0 45 ∧ (x.layer 0).still = false ∧ (x.layer 0).surf = some still0 := by decide +kernel

theorem test_wit_CanaryCommandsAndCleanEvaluations_1 :
    let s := showing; s.evaluable 0 0 = some (45, 1124) ∧ s.ptp < s.evalDeadline 0 45 ∧ s.isStandby = false ∧ ((s.head 0).layer 0).settled = false := by decide +kernel

theorem test_wit_CanaryCommandsAndCleanEvaluations_2 :
    let s := up.setBit .CNY_CTL 0 31 false; let b : Body := leBytes 4 2000000 ++ leBytes 4 60000 ++ leBytes 4 0x4001; Ready s rq 0x1001 [54] ∧ b.length = 12 ∧
    b.u32 0 = 2000000 ∧ b.u32 4 = 60000 ∧ b.u8 8 = 1 ∧ b.u8 9 = 64 ∧ b.zero 10 2 = true ∧ s.cnyLocked = false ∧ Ready s rq 0x1002 [0] ∧ Ready up rq 0x1001 [54] ∧
    up.cnyLocked = true := by decide +kernel

theorem test_wit_CanaryCommandsAndCleanEvaluations_3 :
    let b : Body := leBytes 4 0x4C4F434B; b.length = 4 ∧ b.u32 0 = 0x4C4F434B := by decide +kernel

theorem test_wit_CanaryCommandsAndCleanEvaluations_4 :
    let b : Body := leBytes 12 23 ++ leBytes 4 2176; Ready up rq 0x1005 [] ∧ b.length = 16 ∧ b.u8 0 = 23 ∧ b.zero 1 3 = true ∧ b.u32 12 = 2176 := by decide +kernel

theorem test_wit_HeldSetsAreWrittenCommittedAndDiscarded_1 :
    let b : Body := leBytes 4 0x030000 ++ leBytes 8 0xFFFF ++ leBytes 4 0x4380780 ++ leBytes 4 0 ++ leBytes 4 0x4380780 ++ leBytes 8 0 ++ live0.drop 32; Ready up rq 0x4001 [5] ∧
    lyConfigBad up b = false ∧ (b.u8 2).testBit 1 = true := by decide +kernel

theorem test_wit_HeldSetsAreWrittenCommittedAndDiscarded_2 :
    let b : Body := leBytes 4 0x020717 ++ leBytes 4 256 ++ leBytes 1024 0; Ready up rq 0x4002 [28] ∧ lyPaletteBad up b = false ∧ (b.u8 2).testBit 1 = true := by decide +kernel

theorem test_wit_HeldSetsAreWrittenCommittedAndDiscarded_3 :
    let b : Body := leBytes 4 0x00020717 ++ leBytes 44 0; Ready up rq 0x4003 [28] ∧ lyColourBad up b (takePad (6144 * lutsOf (b.u8 3)) []) = false ∧ (b.u8 2).testBit 1 = true := by decide +kernel

theorem test_wit_HeldSetsAreWrittenCommittedAndDiscarded_4 :
    let b : Body := leBytes 4 0x0217 ++ leBytes 20 0; Ready up rq 0x4004 [28] ∧ hdComposeBad up b [] = false ∧ b.u64 16 = 0 ∧ (b.u8 1).testBit 1 = true := by decide +kernel

theorem test_wit_HeldSetsAreWrittenCommittedAndDiscarded_5 :
    let s := showing.modHead 0 (fun x => { x with held := [⟨0x4001, 0, live0⟩] }); Ready s rq 0x4005 [5] ∧ (s.head 0).held ≠ [] ∧ s.running 0 = true ∧
    (s.head 0).armed = none ∧ (s.head 0).second = [] ∧ s.gangMember 0 = false ∧ Ready s rq 0x4006 [5] := by decide +kernel

theorem test_wit_HeldSetsAreWrittenCommittedAndDiscarded_6 :
    let b : Body := leBytes 4 0x03080800 ++ leBytes 8 0x3FFFFFFF; Ready showing rq 0x1003 [54] ∧ styleBad showing b = false ∧ showing.running 0 = true ∧
    (showing.head 0).armed = none ∧ (showing.head 0).second = [] := by decide +kernel

theorem test_wit_HeldSetsAreWrittenCommittedAndDiscarded_7 :
    let b : Body := leBytes 4 0x010000; Ready showing rq 0x1004 [5] ∧ b.length = 4 ∧ headBad showing 0 = false ∧ b.zero 3 1 = true ∧ (showing.head 0).classOf 0 = 0 ∧
    b.u8 2 = 1 ∧ showing.poolOfLayer ((showing.head 0).shadow 0).cfg = none := by decide +kernel

theorem test_wit_GraphicPoolsAndLinesAreComposed_1 :
    let b : Body := leBytes 4 0x011700FF ++ leBytes 4 0x0808 ++ leBytes 4 0x100010; Ready up rq 0x4010 [28] ∧ b.length = 12 ∧ b.u16 0 = 255 ∧ b.u8 2 = 23 ∧ b.u8 3 = 1 ∧
    b.zero 6 2 = true ∧ b.u8 4 = 8 ∧ b.u8 5 = 8 ∧ b.u16 8 = 16 ∧ b.u16 10 = 16 ∧ (up.pool (2304 + 255)).bound = false ∧ graphic.gfxInUse 255 = false ∧
    (up.allocMany (linSize 8 16 16) 8).isSome = true := by decide +kernel

theorem test_wit_GraphicPoolsAndLinesAreComposed_2 :
    let b : Body := leBytes 12 0x001700FF; Ready graphic rq 0x4010 [28] ∧ b.length = 12 ∧ b.u8 3 = 0 ∧ b.zero 6 2 = true ∧ graphic.gfxInUse 255 = false ∧
    (graphic.pool (2304 + 255)).bound = true := by decide +kernel

theorem test_wit_GraphicPoolsAndLinesAreComposed_3 :
    let s := graphic; let p := s.pool (2304 + 255); let b : Body := leBytes 4 0x0500FF ++ leBytes 4 0x0F0000 ++ leBytes 16 0x10010; Ready s rq 0x4011 [5 + s.regBits .LY_GFX_STAT 255 4 0] ∧
    b.length = 24 ∧ p.bound = true ∧ b.u8 2 = 5 ∧ b.zero 3 1 = true ∧ b.u16 4 + b.u16 8 ≤ p.maxW ∧ b.u16 6 + b.u16 10 ≤ p.maxH ∧ b.u16 8 = 16 ∧
    b.u16 10 = 1 ∧ p.format < 0x10 ∧ (p.abandon.take).map (fun e => e.1) = some 0 ∧ 0 < p.surfs.length := by decide +kernel

theorem test_wit_GraphicPoolsAndLinesAreComposed_4 :
    let s := showing; s.running 0 = true ∧ s.gangMember 0 = false ∧ (s.head 0).frame.isSome = true ∧ s.outMode 0 ≠ 2 ∧ (s.head 0).latchWait = none ∧
    (s.head 0).fifo.length ≤ 3 ∧ (s.head 0).composed < tVact (s.rasterOf 0) := by decide +kernel

theorem test_wit_GraphicPoolsAndLinesAreComposed_5 :
    let s := tiny; s.running 0 = true ∧ (s.head 0).frame.isSome = true ∧ s.outMode 0 ≠ 2 ∧ (s.head 0).composed < tVact (s.rasterOf 0) ∧
    ((s.head 0).blendLine (s.rasterOf 0) (nthLine (s.rasterOf 0) (s.head 0).composed) (2 ^ 0) s.free).2.any (fun e => e.1 == 0) = true ∧
    ((s.head 0).layer 0).covered.contains (nthLine (s.rasterOf 0) (s.head 0).composed / 16) = false := by decide +kernel

theorem test_wit_FrameBoundariesTakeLatchAndCount_1 :
    let s := showing; s.running 0 = true ∧ s.gangMember 0 = false ∧ (s.head 0).nextB ≤ s.headTime 0 ∧ (s.head 0).armed = none ∧ s.outMode 0 = 0 ∧
    (s.head 0).adopt = none ∧ (s.head 0).frame = some 5 ∧ s.rasterOf 0 ≠ [] ∧ (s.head 0).closed = false ∧
    (s.head 0).nextB - linesNs (s.rasterOf 0) (tLead (s.rasterOf 0)) ≤ s.headTime 0 ∧ ((s.head 0).shadow 0).on = true ∧ ((s.head 0).layer 0).still = false := by decide +kernel

theorem test_wit_FrameBoundariesTakeLatchAndCount_2 :
    let s : State := { sourced with now := 1 }; s.poolOfLayer ((s.head 0).shadow 0).cfg = some 3 ∧ ((s.newestOf 3).bind (fun f => f.header)).isSome = true := by decide +kernel

theorem test_wit_FrameBoundariesTakeLatchAndCount_3 :
    let s := showing.modHead 0 (fun x => { x with armed := some { edits := [⟨0x4004, 0, leBytes 24 0⟩] } }); (s.head 0).armed.isSome = true ∧ s.outMode 0 = 0 ∧
    s.canaryBad ((s.head 0).set.arm { edits := [⟨0x4004, 0, leBytes 24 0⟩] }) = none ∧
    rasterChange (s.head 0).set.timing ((s.head 0).set.arm { edits := [⟨0x4004, 0, leBytes 24 0⟩] }).timing = false ∧ tFlag (s.head 0).set.timing 0 = true ∧
    (s.head 0).reraster = false ∧ s.channelOf 0 = none := by decide +kernel

theorem test_wit_FrameBoundariesTakeLatchAndCount_4 :
    let s := (showing.modHead 0 (fun x => { x with holdEnd := some 1, pullEnd := some 0 })).setOutMode 0 1; (s.head 0).pullEnd = some 0 ∧ 0 ≤ s.now ∧
    (s.head 0).holdEnd = some 1 ∧ s.outMode 0 = 1 ∧ 1 < (s.head 0).flip + 2 * linesNs (s.rasterOf 0) (tVtot (s.rasterOf 0)) ∧ (s.head 0).nextB ≤ s.headTime 0 := by decide +kernel

theorem test_wit_FrameBoundariesTakeLatchAndCount_5 :
    let b : Body := leBytes 4 200; Ready up rq 0x4803 [47] ∧ b.length = 4 ∧ b.u16 0 = 200 ∧ b.zero 2 2 = true := by decide +kernel

theorem test_wit_LinesAreScannedAndOutputsBound_1 :
    let s := showing.modHead 0 (fun x => { x with fifo := [⟨0, []⟩], layers := [(0, { run0 with own := some {} })] }); s.running 0 = true ∧ s.gangMember 0 = false ∧
    (s.head 0).frame.isSome = true ∧ s.outMode 0 = 0 ∧ (s.head 0).lines.length < tVact (s.rasterOf 0) ∧ (s.head 0).fifo.length = 1 ∧ s.isStandby = false ∧
    ((List.range 8).all (fun l => (s.evaluable 0 l).isNone)) = true ∧ (s.head 0).drillPhase = 0 := by decide +kernel

theorem test_wit_LinesAreScannedAndOutputsBound_2 :
    let b := hd60.set 24 1#8; Ready showing rq 0x4801 [5] ∧ timingBad showing b = false ∧ tFlag b 2 = false ∧ showing.running 0 = true ∧ (showing.head 0).armed = none ∧ (showing.head 0).second = [] := by decide +kernel

theorem test_wit_LinesAreScannedAndOutputsBound_3 :
    let b : Body := leBytes 4 0x0504 ++ leBytes 2 7680 ++ leBytes 2 88 ++ leBytes 2 44 ++ leBytes 2 8800 ++ hd60.drop 12; Ready up rq 0x4801 [9, 10, 11, 12] ∧ tFlag b 2 = true ∧
    tFlag b 0 = true ∧ timingBad up b = false ∧ (up.head 4).armed = none ∧ (up.head 4).second = [] := by decide +kernel

theorem test_wit_LinesAreScannedAndOutputsBound_4 :
    let s := { boarded with hd := showing.hd, regs := showing.regs }; let c : Body := leBytes 4 0x00010301 ++ leBytes 4 0x0204 ++ leBytes 36 1
    Ready s rq 0x4802 [5] ∧ outputBad s c = false ∧ s.outputNone c = false ∧ c.u8 0 = 1 ∧ oHead c = 0 ∧ s.running 0 = true ∧ (s.head 0).armed = none ∧ (s.head 0).second = [] := by decide +kernel

theorem test_wit_LinesAreScannedAndOutputsBound_5 :
    let b : Body := leBytes 44 0xFF000F03; Ready up rq 0x4802 [29 + 15] ∧ outputBad up b = false ∧ up.outputNone b = false ∧ b.u8 0 = 3 := by decide +kernel

theorem test_wit_LinesAreScannedAndOutputsBound_6 :
    let b : Body := leBytes 24 0x100000; Ready boarded rq 0x4810 [] ∧ b.length = 24 ∧ b.u8 0 = 0 ∧ (boarded.dpQuad 0).isSome = true ∧ b.u8 1 = 0 ∧ b.u8 2 = 16 ∧ b.zero 3 1 = true := by decide +kernel

theorem test_wit_LinesAreScannedAndOutputsBound_7 :
    let s := ({ boarded with hd := { up.hd with outs := [(0, leBytes 44 0)] } } : State).setBits .HD_DP_STAT 0 31 20 0x600; s.outBody 0 ≠ [] ∧ s.regBit .HD_DP_STAT 0 30 = true ∧
    s.regBit .HD_DP_STAT 0 29 = true ∧ (s.setBit .HD_DP_STAT 0 29 false).regBits .HD_DP_STAT 0 23 20 ≠ 15 := by decide +kernel

theorem test_wit_LinesAreScannedAndOutputsBound_8 :
    let s := flowing; let o := s.outBody (512 + 47); (s.flowNext 47).isSome = true ∧ (s.flowNext 47).all (fun x => decide (x.at0 ≤ s.ptp)) = true ∧ s.isStandby = false ∧
    flowCost (s.rasterOf (oHead o)) ≤ s.flowLevel 47 ∧ s.flowFirst (o.u8 10) = some 47 := by decide +kernel

theorem test_wit_LinesAreScannedAndOutputsBound_9 :
    let s : State := { flowing with hd := { flowing.hd with outs := flowing.hd.outs.filter (fun e => e.1 == 783) } }; let o := s.outBody (768 + 15)
    o ≠ [] ∧ s.ipOn = true ∧ (s.flow (64 + 15)).queue = [] :: [] ∧ 1000 * wireBits [] ≤ s.eflowLevel 15 (wireBits []) ∧ s.flowFirst (o.u8 10) = none ∧
    s.txFirst (o.u8 10) = false ∧ s.encFirst (o.u8 10) = some 15 := by decide +kernel

theorem test_wit_ReceivedFramesAreDispatchedAndReleased_1 :
    let s := fed; let f := { onePacket with len := 255, overrun := true }; (Tbl.get s.ing.macs 15).enabled = true ∧ f.fcsOk = true ∧ 64 ≤ f.len ∧ f.len < 256 ∧ f.overrun = true := by decide +kernel

theorem test_wit_ReceivedFramesAreDispatchedAndReleased_2 :
    let s := fed; let f := onePacket; let x := s.ictx 1023; let p := s.pool 1023; (Tbl.get s.ing.macs 15).enabled = true ∧ f.fcsOk = true ∧ f.overrun = false ∧ f.ptp = none ∧
    f.elsewhere (Tbl.get s.ing.macs 15).address = false ∧ f.pause = false ∧ f.control = false ∧ f.badIp = false ∧
    (s.lodeLookup f).all (fun e => decide (e.2.context = 1023 ∧ e.2.vlan / 32768 = 0 ∧ e.2.macMask = 0 ∧ e.2.type = 1 ∧ 256 ≤ e.2.group)) = true ∧ (s.lodeLookup f).isSome = true ∧
    f.payloadOk = true ∧ x.bound = true ∧ x.cfg.u8 2 = 1 ∧ x.cfg.u8 20 = 0 ∧ 256 ≤ x.group ∧ x.spoilt = 0 ∧ x.frames = [] ∧ x.next = none ∧ x.lastEnd = none ∧
    x.cfg.u16 12 = 2 ∧ x.cfg.u16 14 = 1 ∧ p.take.map (fun z => z.1) = some 0 ∧ p.surfs.map (·.addr) = [dramBase + 514 * granule, dramBase + 515 * granule] := by decide +kernel

theorem test_wit_ReceivedFramesAreDispatchedAndReleased_3 :
    let s := fed; (Tbl.get s.ing.macs 15).enabled = true ∧ { onePacket with fcsOk := false }.fcsOk = false ∧ s.lodeLookup { onePacket with dstPort := 1 } = none := by decide +kernel

theorem test_wit_ReceivedFramesAreDispatchedAndReleased_4 :
    let f : OpenFrame := { deadline := some 0, surface := some (dramBase + 514 * granule), width := 2, height := 1, cfg := smallBinding 1 }; let s := fed.modIctx 1023 (fun x => { x with frames := [f] })
    (s.ictx 1023).frames = [f] ∧ (s.ictx 1023).next = none ∧ f.cfg.u8 2 = 1 ∧ 0 ≤ s.now ∧ (f.size (s.ictx 1023).geo).1 ≤ f.cfg.u16 12 ∧ (f.size (s.ictx 1023).geo).2 ≤ f.cfg.u16 14 ∧
    (s.pool 1023).surfs.findIdx? (fun g => g.addr == dramBase + 514 * granule) = some 0 := by decide +kernel

theorem test_wit_ReceivedFramesAreDispatchedAndReleased_5 :
    let s : State := { fed with now := 65535000000 }; (s.ictx 1023).bound = true ∧ (s.ictx 1023).cfg.u8 2 ≠ 6 ∧
    (s.ictx 1023).lastPkt + (s.ictx 1023).cfg.u16 6 * 1000000 ≤ s.now ∧ 256 ≤ (s.ictx 1023).group ∧ (s.ictx 1022).bound = true ∧ (s.ictx 1022).cfg.u8 2 = 6 ∧
    s.sdiAlive 1022 + 1000000 ≤ s.now := by decide +kernel

theorem test_wit_ReceivedFramesAreDispatchedAndReleased_6 :
    let s := fed.setMgrp 255 { upA := true, upB := true }; (s.mgrp 255).upA = true ∧ (s.mgrp 255).upB = true ∧ (s.mgrp 255).lastB + (s.ictx (s.mgrp 255).context).cfg.u16 6 * 1000000 ≤ s.now := by decide +kernel

theorem test_wit_ReceivedFramesAreDispatchedAndReleased_7 :
    let s : State := { up.setSdi 15 { lock := true } with now := 1000000 }; (s.sdi 15).lock = true ∧ (s.sdi 15).lastTrs + 1000000 ≤ s.now := by decide +kernel

theorem test_wit_ReceivedFramesAreDispatchedAndReleased_8 :
    let s := fed.setSdi 15 { rates := 16, context := 1022 }; (s.sdi 15).rates.testBit (5 - 1) = true ∧ (s.sdi 15).context < 1024 ∧ (s.ictx 1022).bound = true ∧
    (s.ictx 1022).cfg.u8 2 = 6 ∧ (s.ictx 1022).next = none ∧ (s.ictx 1022).frames = [] ∧ 2 ≤ (s.ictx 1022).cfg.u16 12 ∧ 1 ≤ (s.ictx 1022).cfg.u16 14 ∧
    (s.pool 1022).take.map (fun z => z.1) = some 0 ∧ (s.pool 1022).surfs.map (·.addr) = [dramBase + 512 * granule, dramBase + 513 * granule] := by decide +kernel

theorem test_wit_IngestPortsAreSetAndFramesInjected_1 :
    let b : Body := leBytes 2 0x0104 ++ beBytes 6 0x020000000001; Ready boarded rq 0x2001 [45] ∧ b.length = 8 ∧ b.u8 0 = 4 ∧ b.u8 1 = 1 ∧ b.u8 2 % 2 = 0 ∧ boarded.macOnBoard 4 = true := by decide +kernel

theorem test_wit_IngestPortsAreSetAndFramesInjected_2 :
    let b : Body := leBytes 4 0x009600FF; Ready up rq 0x2003 [45] ∧ b.length = 4 ∧ b.u16 0 = 255 ∧ b.u16 2 = 150 := by decide +kernel

theorem test_wit_IngestPortsAreSetAndFramesInjected_3 :
    let b : Body := leBytes 4 0x03FE1F03; let s := { boarded with ing := fed.ing }; Ready s rq 0x2004 [45] ∧ b.length = 4 ∧ b.u8 0 = 3 ∧ b.u8 1 = 31 ∧ (s.ictx (b.u16 2)).bound = true ∧
    (s.ictx (b.u16 2)).cfg.u8 2 = 6 ∧ s.sdiOnBoard 3 = true := by decide +kernel

theorem test_wit_IngestPortsAreSetAndFramesInjected_4 :
    let b : Body := leBytes 4 0x0E01 ++ leBytes 8 4096; Ready up rq 0x2020 [45] ∧ b.length = 12 ∧ b.u8 0 = 1 ∧ b.u8 1 = 14 ∧ b.zero 2 2 = true ∧ b.u64 4 % 4096 = 0 := by decide +kernel

theorem test_wit_IngestPortsAreSetAndFramesInjected_5 :
    let b : Body := leBytes 4 0x3C8000 ++ leBytes 60 0; Ready up rq 0x2021 [45] ∧ b.u16 2 = 60 ∧ b.length = 4 + pad4 60 ∧ b.u16 0 ≠ 0 ∧ up.ing.inject.length < 64 := by decide +kernel

theorem test_wit_IngestPortsAreSetAndFramesInjected_6 :
    let q : Inject := { req := rq, macs := [15], bytes := [] }; let s : State := { up with ing := { up.ing with inject := [q] } }; s.ing.inject.find? (fun z => z.macs.contains 15) = some q ∧
    s.evtEn rq.port = true ∧ s.interp.restart = none ∧ s.flowFirst 15 = none ∧ s.txFirst 15 = false ∧ s.encFirst 15 = none := by decide +kernel

theorem test_wit_TheLodeTableChangesAsCommanded_1 :
    let b : Body := leBytes 8 0x100000001 ++ leBytes 16 0 ++ leBytes 4 0x00000101 ++ leBytes 4 0xFFFF03FF ++ leBytes 8 0; Ready up rq 0x2010 [45] ∧ b.length = 40 ∧ b.u16 0 = 1 ∧ b.zero 2 2 = true ∧
    Body.u8 (b.drop 4) 0 = 1 ∧ badRecord up 1 (Body.zero (b.drop 4) 1 3) ((b.drop 4).drop 4) = false ∧ up.lodeList = [] ∧ Tbl.wf (fun _ => none) up.lode.entries = true := by decide +kernel

theorem test_wit_TheLodeTableChangesAsCommanded_2 :
    let b : Body := leBytes 8 0x300000001 ++ entry1023.bytes; Ready fed rq 0x2010 [45] ∧ b.length = 40 ∧
    Body.u8 (b.drop 4) 0 = 3 ∧ badRecord fed 3 (Body.zero (b.drop 4) 1 3) ((b.drop 4).drop 4) = false ∧
    (fed.lodeList.find? (fun x => sameKey x.2 (lodeOf ((b.drop 4).drop 4)))).map (fun e => e.1) = some 0 ∧ Tbl.wf (fun _ => none) fed.lode.entries = true := by decide +kernel

theorem test_wit_TheLodeTableChangesAsCommanded_3 :
    let b : Body := leBytes 8 0x200000001 ++ entry1023.bytes; Ready fed rq 0x2010 [45] ∧ b.length = 40 ∧
    Body.u8 (b.drop 4) 0 = 2 ∧ badRecord fed 2 (Body.zero (b.drop 4) 1 3) ((b.drop 4).drop 4) = false ∧
    (fed.lodeList.find? (fun x => sameKey x.2 (lodeOf ((b.drop 4).drop 4)))).map (fun e => e.1) = some 0 := by decide +kernel

theorem test_wit_TheLodeTableChangesAsCommanded_4 :
    let b : Body := leBytes 4 65535 ++ leBytes 4 1 ++ leBytes 8 0; Ready up rq 0x2011 [] ∧ b.length = 16 ∧ b.u32 4 ≠ 0 ∧ b.u32 0 + b.u32 4 = 65536 := by decide +kernel

theorem test_wit_CodingJobsRunRetryAndFailOver_1 :
    let j : Job := { owner := 64, row := 1, rows := 2, cols := 4, num := 1 }; let s := (up.setPe 31 { owner := some 0x40, queue := [j] }).setPe 0 { owner := some 0x40, queue := [{ owner := 64, started := true, ctus := 3, cols := 4, rows := 2 }] }
    (s.peSt 31).running = some j ∧ (s.peSt 31).failed = false ∧ s.ctuReady j 1 = true ∧ s.entropyLeft j = false := by decide +kernel

theorem test_wit_CodingJobsRunRetryAndFailOver_2 :
    let j : Job := { owner := 15, rows := 1, cols := 4, started := true }; let s : State := (up.setPe 31 { owner := some 15, queue := [j] }).setEe 7 { owner := some 15 }
    let s1 : State := { s with fab := { s.fab with places := [(15, [31])], eePlaces := [(15, [7])] } }; (s1.peSt 31).running = some j ∧ s1.oreFree j.key = true ∧ s1.aboveDone j = true ∧
    s1.fab.dram = [] ∧ s1.fab.dramEe = [] ∧ fewest (fun n => (s1.eeSt n).queue.length) (s1.eesOf 15) = some 7 := by decide +kernel

theorem test_wit_CodingJobsRunRetryAndFailOver_3 :
    let j : Job := { owner := 191, rows := 1, started := true }; let s := ((up.setPe 0 { owner := some 64, queue := [j] }).modSess 127 (fun d => { d with aus := [{ info := { (default : AuInfo) with output := true } }] }));
    (s.peSt 0).running = some j ∧ s.aboveDone j = true ∧ s.belowDone j = true ∧ (s.sess (j.owner - 64)).aus.length = 1 ∧
    (∀ a ∈ (s.sess (j.owner - 64)).aus, a.pic = j.pic ∧ a.info.output = true ∧ a.info.second = false) := by decide +kernel

theorem test_wit_CodingJobsRunRetryAndFailOver_4 :
    let j : Job := { owner := 64 }; let s := up.setEe 7 { owner := some 64, queue := [j], binRem := 999999 }; (s.eeSt 7).queue = [j] ∧ s.oreFree j.key = true := by decide +kernel

theorem test_wit_CodingJobsRunRetryAndFailOver_5 :
    let j : Job := { owner := 64 }; let s := up.setEe 7 { owner := some 64, queue := [j] }; let s1 : State := { s with fab := { s.fab with ore := (List.range 257).map (fun k => (64, 1, k)) } };
    (s1.eeSt 7).queue = [j] ∧ s1.oreFree j.key = false := by decide +kernel

theorem test_wit_CodingJobsRunRetryAndFailOver_6 :
    let j : Job := { owner := 64 }; let s := (up.setEe 7 { owner := some 64, queue := [j] }).setPe 31 { owner := some 64, queue := [{ j with started := true }] }
    s.executing (.ee 7) = some j ∧ (s.engine (.ee 7)).failed = false ∧ j.bad = 0 ∧ s.executing (.pe 31) = some { j with started := true } := by decide +kernel

theorem test_wit_CodingJobsRunRetryAndFailOver_7 :
    let j : Job := { owner := 64, bad := 1, started := true }; let s : State := up.setPe 31 { owner := some 64, queue := [j] }; let s1 : State := { s with fab := { s.fab with places := [(0x40, [31])] } }
    s1.executing (.pe 31) = some j ∧ (s1.engine (.pe 31)).failed = false ∧ (s1.setEngine (.pe 31) { s1.engine (.pe 31) with failed := true }).spareFor (.pe 31) = some 28 := by decide +kernel

theorem test_wit_DecodeSessionsAndFabricCommands_1 :
    let b : Body := leBytes 4 0x0001007F ++ leBytes 2 9 ++ leBytes 1 4 ++ leBytes 1 183 ++ leBytes 2 64 ++ leBytes 2 64 ++ leBytes 2 60 ++ leBytes 2 1 ++ leBytes 4 4800 ++ leBytes 4 256 ++ leBytes 4 0;
    Ready up rq 0x3001 [49] ∧ decBad up b = false ∧ (up.stageDec b).isNone = false ∧ (up.sess (b.u16 0)).bound = false := by decide +kernel

theorem test_wit_DecodeSessionsAndFabricCommands_2 :
    let b : Body := leBytes 4 0x0001007F ++ leBytes 2 9 ++ leBytes 1 4 ++ leBytes 1 183 ++ leBytes 2 64 ++ leBytes 2 64 ++ leBytes 2 60 ++ leBytes 2 1 ++ leBytes 4 4800 ++ leBytes 4 256 ++ leBytes 4 0;
    (up.conf.withDec b).reject up = none := by decide +kernel

theorem test_wit_DecodeSessionsAndFabricCommands_3 :
    let s := up.modSess 127 (fun d => { d with bound := true, aus := [{}] }); let b : Body := leBytes 4 127; Ready s rq 0x3002 [49] ∧ b.length = 4 ∧ b.u16 0 = 127 ∧
    b.zero 2 2 = true ∧ (s.sess 127).bound = true := by decide +kernel

theorem test_wit_DecodeSessionsAndFabricCommands_4 :
    let s := decoding; let p := s.pool (poolDec 127); let final := s.sessState 127 != 2; (firstOut ((s.sess 127).outs final)).map (fun a => a.buf) = some (some 1) ∧
    (s.sess 127).outDue p.marked final = true ∧ (s.sess 127).stopped = false ∧ 1 < p.surfs.length := by decide +kernel

theorem test_wit_DecodeSessionsAndFabricCommands_5 :
    let a : DecAu := { pic := 4, waited := true }; let s := decoding.modSess 127 (fun d => { d with aus := [a] }); (s.sess 127).waiting = true ∧ (s.sess 127).stopped = false ∧
    (s.sess 127).aus.find? (fun a => !a.decoded) = some a ∧ (s.sess 127).mateBuf a = none ∧
    ((((s.markRefs 127 a).dropPrior 127 a).pool (poolDec 127)).take.map (fun z => z.1)) = some 0 := by decide +kernel

theorem test_wit_DecodeSessionsAndFabricCommands_6 :
    let b : Body := leBytes 4 0x0208; Ready up rq 0x3010 [0] ∧ b.length = 4 ∧ b.zero 2 2 = true ∧ b.u8 0 = 8 ∧ b.u8 1 = 2 ∧
    up.conf.enginesOver ((up.setBits .CF_RESERVE 0 3 0 8).setBits .CF_RESERVE 0 9 8 2) = false := by decide +kernel

theorem test_wit_DecodeSessionsAndFabricCommands_7 :
    Ready up rq 0x3011 [] ∧ Ready up rq 0x3003 [] := by decide +kernel

theorem test_wit_DecodeSessionsAndFabricCommands_8 :
    let s := decoding.modPool (poolEnc 15) (fun _ => { (newPool [dramBase + 515 * granule] 9 1 1 0x21 5 0) with surfs := [{ key := true, addr := dramBase }] })
    let b : Body := leBytes 4 0x000F0001 ++ leBytes 8 0 ++ leBytes 4 65536; let p := s.pool (poolEnc (b.u16 2)); b.length = 16 ∧ b.zero 1 1 = true ∧ b.u8 0 = 1 ∧ b.u16 2 = 15 ∧
    (p.surfs.find? (fun f => f.key)).map (fun f => decide ((f.keyBytes p.format s.free).length ≤ b.u32 12)) = some true := by decide +kernel

theorem test_wit_EncodeCommandsTakeEffect_1 :
    let b : Body := chan15.set 0 16#8; Ready up rq 0x3801 [] ∧ b.u8 0 = 16 ∧ chanBad up b = false := by decide +kernel

theorem test_wit_EncodeCommandsTakeEffect_2 :
    Ready up rq 0x3801 [scopeChan 15] ∧ chanBad up chan15 = false ∧ (up.stageChan 15 chan15).isNone = false ∧ (up.chan 15).bound = false ∧ (up.chan 15).second = [] ∧ up.chanFormat chan15 = false := by decide +kernel

theorem test_wit_EncodeCommandsTakeEffect_3 :
    ({ up.conf with enc := assocSet up.conf.enc 15 (some chan15) } : Conf).reject up = none := by decide +kernel

theorem test_wit_EncodeCommandsTakeEffect_4 :
    Ready encoding rq 0x3801 [scopeChan 15] ∧ chanBad encoding chan15 = false ∧ (encoding.stageChan 15 chan15).isNone = false ∧ (encoding.chan 15).bound = true ∧ (encoding.chan 15).next = none ∧ (encoding.chan 15).second = [] := by decide +kernel

theorem test_wit_EncodeCommandsTakeEffect_5 :
    let s := encoding.modChan 15 (fun x => { x with next := some {} }); Ready s rq 0x3801 [scopeChan 15] ∧ (s.stageChan 15 chan15).isNone = false ∧ (s.chan 15).bound = true ∧ (s.chan 15).next.isSome = true := by decide +kernel

theorem test_wit_EncodeCommandsTakeEffect_6 :
    let b : Body := leBytes 4 0x028000; Ready encoding rq 0x3802 ((maskBits (b.u16 0) 16).map scopeChan) ∧ b.length = 4 ∧ b.u16 0 ≠ 0 ∧ b.u8 2 = 2 ∧ b.u8 3 = 0 ∧
    (∀ c ∈ maskBits (b.u16 0) 16, (encoding.chan c).bound = true) ∧ encoding.isStandby = false := by decide +kernel

theorem test_wit_EncodeCommandsTakeEffect_7 :
    let s := encoding.setBits .PAIR_STATUS 0 31 29 2; let b : Body := leBytes 4 0x8000; Ready s rq 0x3802 [scopeChan 15] ∧ s.isStandby = true ∧ (s.chan 15).bound = true ∧ b.u16 0 ≠ 0 := by decide +kernel

theorem test_wit_EncodeCommandsTakeEffect_8 :
    let b : Body := leBytes 4 9 ++ leBytes 8 4096; Ready up rq 0x3803 [] ∧ anyChanScope (up.heldAt rq 0x3803) = true ∧ b.length = 12 ∧ b.zero 1 3 = true ∧ b.u8 0 = 9 ∧ b.u64 4 % 4096 = 0 := by decide +kernel

theorem test_wit_EncodeCommandsTakeEffect_9 :
    let s := encoding.modChan 15 (fun x => { x with eob := some (1000000000, 0) }); (s.chan 15).eob.isSome = true ∧ 1000000000 ≤ s.ptp ∧ (s.chan 15).pics = [] ∧
    eVirtual (s.chan 15).cfg = false ∧ 2 ≤ (s.chan 15).cfg.u16 34 := by decide +kernel

theorem test_wit_PicturesAreCodedOnTheirClock_1 :
    let s := encoding; let x := s.chan 15; x.bound = true ∧ x.eob = none ∧ x.next = none ∧ eTin x.cfg x.nextK 0 ≤ s.ptp ∧ s.isStandby = false ∧ s.chanState 15 = 2 ∧
    x.keyCause (eTk x.cfg x.nextK) = none := by decide +kernel

theorem test_wit_PicturesAreCodedOnTheirClock_2 :
    let s := encoding.modChan 15 (fun x => { x with nextK := 1, latch := [{}] }); let x := s.chan 15; x.keyCause (eTk x.cfg x.nextK) = some 0 ∧ eTin x.cfg x.nextK 0 ≤ s.ptp ∧
    (s.pool (poolEnc 15)).unusedBuf = some 0 ∧ 0 < eTk x.cfg x.nextK := by decide +kernel

theorem test_wit_PicturesAreCodedOnTheirClock_3 :
    let s := encoding.modChan 15 (fun x => { x with pics := [{ rows := [{}, {}] }], takenAt := some (dramBase + 520 * granule) }); eRows (s.chan 15).cfg = 3 ∧ eTinAt (s.chan 15).cfg 0 2 ≤ s.ptp ∧ Tbl.get s.fab.places 15 = [31] ∧
    (s.peSt 31).queue.length < 16 ∧ s.fab.dram = [] ∧ s.fab.dramEe = [] ∧ (s.chan 15).cfg.u8 29 = 10 ∧
    (s.chan 15).pics.getLast?.map (fun p => (p.kind, p.filled)) = some (0, false) ∧ 0 ≤ s.rowMargin 15 2 (eTinAt (s.chan 15).cfg 0 2) 5 := by decide +kernel

theorem test_wit_PicturesAreCodedOnTheirClock_4 :
    let s := encoding.modChan 15 (fun x => { x with pics := [{ rows := [{}, {}] }] }); s.rowMargin 15 2 (eTinAt (s.chan 15).cfg 0 2) (-5) < 0 := by decide +kernel

theorem test_wit_PicturesAreCodedOnTheirClock_5 :
    let s := encoding.modChan 15 (fun x => { x with pics := [{ rows := [{}, {}, {}], out := 2 }] }); (s.chan 15).pics.length = 1 ∧ eToutAt (s.chan 15).cfg 0 2 ≤ s.ptp ∧ 2 + 1 = eRows (s.chan 15).cfg := by decide +kernel

theorem test_wit_CameraFramesAreReceivedAndProcessed_1 :
    let s := filming; (s.cport 7).enabled = true ∧ s.camOf 7 3 = some 15 ∧ (s.cctx 15).next = none ∧ (s.cctx 15).armedSet.isSome = true ∧ s.evtEn .A = true ∧ s.interp.restart = none := by decide +kernel

theorem test_wit_CameraFramesAreReceivedAndProcessed_2 :
    let s := filming; (s.cctx 15).writing.map (fun f => f.count) = some 15 ∧ (s.cctx 15).writing.map (fun f => f.cfg.u8 4) = some 0x2A ∧ cW cam15 * cBits 0x2A / 8 = 16 ∧ cH cam15 = 16 := by decide +kernel

theorem test_wit_CameraFramesAreReceivedAndProcessed_3 :
    let s := filming.modCctx 15 (fun x => { x with writing := some { cfg := cam15, count := 16 } }); (s.cctx 15).writing.map (fun f => f.count) = some (cH (s.cctx 15).cfg) ∧
    (s.pipe 1).started ≠ s.now ∧ (s.pipe 1).busy = none ∧
    (s.cctx 15).bound = true := by decide +kernel

theorem test_wit_CameraFramesAreReceivedAndProcessed_4 :
    let s := filming; (s.cctx 15).bound = true ∧ (s.cctx 15).lastFs + (s.cctx 15).cfg.u16 24 * 1000000 ≤ s.now ∧ cPort (s.cctx 15).cfg = 7 ∧ (s.cport 7).enabled = true := by decide +kernel

theorem test_wit_CameraFramesAreReceivedAndProcessed_5 :
    let s := piping; (s.pipe 1).busy = some 15 ∧ (s.cctx 15).processing.map (fun f => f.cfg) = some cam15 ∧ (s.pipe 1).started + pipeNs cam15 ≤ s.now ∧ (s.pipe 1).retried = false ∧
    (s.pipe 1).colour = some (dramBase + 512 * granule) ∧ (s.pool (poolCam 15)).surfs.findIdx? (fun g => g.addr == dramBase + 512 * granule) = some 0 := by decide +kernel

theorem test_wit_CameraFramesAreReceivedAndProcessed_6 :
    let s := piping.setPipe 1 { busy := some 15, started := 0, retried := true }; (s.pipe 1).retried = true ∧ (s.pipe 1).busy = some 15 ∧ (s.cctx 15).processing.map (fun f => f.cfg) = some cam15 ∧
    (s.pipe 1).started + pipeNs cam15 ≤ s.now ∧ s.pipeCtxs 1 = [15] := by decide +kernel

theorem test_wit_CameraCommandsAndBindingsTakeEffect_1 :
    let b : Body := leBytes 4 0x04000107 ++ leBytes 4 4500; Ready filming rq 0x2801 [48] ∧ b.length = 8 ∧ b.u8 0 = 7 ∧ b.u8 1 = 1 ∧ b.u8 2 = 0 ∧ b.u8 3 ∈ [1, 2, 4] ∧ b.u16 4 = 4500 ∧
    b.zero 6 2 = true ∧ portOver (portBits (filming.camBindings.map (fun e => e.2)) 7) b = false := by decide +kernel

theorem test_wit_CameraCommandsAndBindingsTakeEffect_2 :
    let b : Body := leBytes 4 0x03010007 ++ leBytes 4 6000; Ready filming rq 0x2801 [48] ∧ b.u8 1 = 0 ∧ b.u8 2 = 1 ∧ b.u8 3 = 3 ∧ b.u16 4 = 6000 ∧ cPort (filming.cctx 15).cfg = 7 := by decide +kernel

theorem test_wit_CameraCommandsAndBindingsTakeEffect_3 :
    Ready filming rq 0x2803 [48] ∧ camParamsBad filming (15#8 :: List.replicate 2095 0#8) = false := by exact ⟨by decide +kernel, params_zero _⟩

theorem test_wit_CameraCommandsAndBindingsTakeEffect_4 :
    let b : Body := leBytes 4 0x0001000F ++ leBytes 8 0; Ready filming rq 0x2804 [48] ∧ b.length = 12 ∧ b.u8 0 = 15 ∧ b.zero 1 1 = true ∧ b.u16 2 = 1 ∧ defectsOk (filming.cctx 15).cfg (leBytes 4 0) 1 = true := by decide +kernel

theorem test_wit_CameraCommandsAndBindingsTakeEffect_5 :
    let b : Body := leBytes 4 10 ++ leBytes 8 4096; Ready up rq 0x2805 [48] ∧ b.length = 12 ∧ b.u8 0 = 10 ∧ b.zero 1 3 = true ∧ b.u64 4 % 4096 = 0 := by decide +kernel

theorem test_wit_CameraCommandsAndBindingsTakeEffect_6 :
    Ready up rq 0x2802 [48] ∧ camBad up cam15 = false ∧ (up.stageCam cam15).isNone = false ∧ (up.cctx 15).bound = false ∧ [0x2A, 0x2B, 0x2C].contains (cam15.u8 4) = true := by decide +kernel

theorem test_wit_CameraCommandsAndBindingsTakeEffect_7 :
    (up.conf.withCam cam15).reject up = none := by decide +kernel

theorem test_wit_CameraCommandsAndBindingsTakeEffect_8 :
    let b : Body := cam15.set 0 16#8; Ready up rq 0x2802 [48] ∧ b.u8 0 = 16 ∧ camBad up b = false := by decide +kernel

theorem test_wit_CameraCommandsAndBindingsTakeEffect_9 :
    let b : Body := cam15.set 5 4#8; Ready filming rq 0x2802 [48] ∧ camBad filming b = false ∧ (filming.stageCam b).isNone = false ∧ (filming.cctx 15).bound = true := by decide +kernel

theorem test_wit_CameraCommandsAndBindingsTakeEffect_10 :
    let b : Body := leBytes 4 0x010103FF ++ leBytes 2 9 ++ leBytes 2 1000 ++ leBytes 2 0 ++ leBytes 2 3 ++ leBytes 2 16 ++ leBytes 2 16 ++ leBytes 2 60 ++ leBytes 2 1 ++ leBytes 8 0 ++ leBytes 4 1; Ready up rq 0x2002 [45] ∧
    ingBad up (b.set 2 6#8) = false ∧ (up.stageIng (b.set 2 6#8)).isNone = false ∧ (up.ictx 1023).bound = false ∧ (up.conf.withIng (b.set 2 6#8)).reject up = none := by decide +kernel

theorem test_wit_DutyIsTakenAndYieldedByTheRules_1 :
    let s := pairAs 2 false; s.paired = true ∧ s.mayTakeDuty = true ∧ okWire.ok0 = true ∧ okWire.inOrder = true := by decide +kernel

theorem test_wit_DutyIsTakenAndYieldedByTheRules_2 :
    (pairAs 4 false).mayTakeDuty = false := by decide +kernel

theorem test_wit_DutyIsTakenAndYieldedByTheRules_3 :
    let s := pairAs 2 false; let s1 : State := { s with pair := { s.pair with sawIn := true } }; s1.mayTakeDuty = true ∧ s1.pair.inLow = some 0 ∧ 0 + 1000000 ≤ s1.now ∧ s1.pair.partnerOut = false := by decide +kernel

theorem test_wit_DutyIsTakenAndYieldedByTheRules_4 :
    let s := (pairAs 1 false).setBit .PRF_STATE 0 6 false; s.pairState = 1 ∧ s.mayTakeDuty = true ∧ s.pair.inLow = some 0 ∧ 0 + s.dutyWait ≤ s.now ∧ s.pair.waitFrom + s.dutyWait ≤ s.now ∧
    s.pair.partnerSeen = none := by decide +kernel

theorem test_wit_DutyIsTakenAndYieldedByTheRules_5 :
    let s := pairAs 3 true; let s1 : State := { s with pair := { s.pair with acked := true } }; s1.regBit .PAIR_STATUS 0 24 = false ∧ s1.onDuty = true ∧ s1.pair.acked = true := by decide +kernel

theorem test_wit_DutyIsTakenAndYieldedByTheRules_6 :
    let s := (pairAs 3 true).setBit .PAIR_STATUS 0 22 true; let s1 : State := { s with pair := { s.pair with inHigh := some 0 } }; s1.paired = true ∧ s1.onDuty = true ∧ s1.pairId = true ∧
    0 + 1000000 ≤ s1.now := by decide +kernel

theorem test_wit_DutyIsTakenAndYieldedByTheRules_7 :
    let s := pairAs 3 true; s.paired = true ∧ s.pair.lastHb + 10000 ≤ s.now ∧ s.seamUp = true ∧ s.pair.lastRec + 100000 ≤ s.now := by decide +kernel

theorem test_wit_DutyIsTakenAndYieldedByTheRules_8 :
    let s := pairAs 3 true; let s1 : State := { s with pair := { s.pair with diffSince := some 0 }, now := 1000000001 }; 0 + 1000000000 < s1.now ∧ s1.pair.diffTold = false ∧ Listens s1 .A 0x7806 := by decide +kernel

theorem test_wit_SeamRecordsMirrorTheDuty_1 :
    let s := (pairAs 2 false).setBit .HD_STAT 23 31 true; let s1 := s.modHead 23 (fun x => { x with latchWait := some 0 }); s1.paired = true ∧ okWire.ok1 = true ∧ okWire.inOrder = true ∧
    s1.onDuty = false ∧ s1.running 23 = true ∧ (s1.head 23).latchWait.isSome = true ∧ ((s1.head 23).layer 7).surf = none ∧ ((s1.head 23).layer 7).still = false := by decide +kernel

theorem test_wit_SeamRecordsMirrorTheDuty_2 :
    let s := showing.modHead 0 (fun x => { x with latchWait := some 0 }); let s1 : State := { s with now := 10000 }; (s1.head 0).latchWait = some 0 ∧ 0 + 10000 ≤ s1.now ∧ ((s1.head 0).shadow 0).on = true := by decide +kernel

theorem test_wit_SeamRecordsMirrorTheDuty_3 :
    let s := (pairAs 2 false).modHead 23 (fun x => { x with frame := some 9 }); let s1 := s.modLayer 23 7 (fun r => { r with own := some default }); s1.isStandby = true ∧
    (s1.head 23).frame = some 9 ∧ ((s1.head 23).layer 7).own.isSome = true ∧ ((s1.head 23).layer 7).settled = false ∧ ((s1.head 23).layer 7).mirror = none ∧ s1.decisionLate 23 7 = false := by decide +kernel

theorem test_wit_SeamRecordsMirrorTheDuty_4 :
    let s := (showing.setBit .PAIR_CFG 0 31 true).setReg .PAIR_STATUS 0 0x40800000#32; let s1 := (s.modHead 0 (fun x => { x with flip := 0 })).modLayer 0 0 (fun r => { r with own := some default });
    let s2 : State := { s1 with now := 1000000000 }; s2.isStandby = true ∧ s2.paired = true ∧ s2.decisionLate 0 0 = true ∧ ((s2.head 0).layer 0).mirror = none := by decide +kernel

theorem test_wit_SeamRecordsMirrorTheDuty_5 :
    let s := (pairAs 2 false).modHead 23 (fun x => { x with crcOwn := [(9, 1)] }); (s.head 23).crcOwn.find? (fun e => e.1 == 9) = some (9, 1) ∧ s.onDuty = false := by decide +kernel

theorem test_wit_SeamRecordsMirrorTheDuty_6 :
    let s := (encoding.setBit .PAIR_CFG 0 31 true).setBit .PAIR_STATUS 0 25 true; s.paired = true ∧ s.onDuty = true ∧ s.isStandby = false ∧ 15 ∈ maskBits 0x8000 16 ∧ (s.chan 15).bound = true ∧
    s.regBits .PAIR_CFG 0 15 0 = 0 := by decide +kernel

theorem test_wit_SeamRecordsMirrorTheDuty_7 :
    let s := pairAs 3 true; let s1 : State := { s with pair := { s.pair with handover := some 5 } }; s1.paired = true ∧ s1.onDuty = true ∧ s1.pair.handover = some 5 ∧ s1.pair.partnerCrc = s1.profileCrc := by decide +kernel

theorem test_wit_SeamRecordsMirrorTheDuty_8 :
    let s := pairAs 1 false; let s1 : State := { s with pair := { s.pair with snapFails := 3, snapAt := some 0 } }; s1.pairState = 1 ∧ s1.paired = true ∧ 3 ≤ s1.pair.snapFails ∧ 0 + 1000000000 ≤ s1.now := by decide +kernel

theorem test_wit_PairCommandsTakeEffect_1 :
    let b : Body := leBytes 2 1 ++ leBytes 2 60000 ++ leBytes 16 (2 ^ 128 - 1); Ready up rq 0x7801 [47] ∧ b.length = 20 ∧ b.u8 0 = 1 ∧ b.u8 1 = 0 ∧ b.u16 2 = 60000 ∧ up.pairState = 0 ∧
    (∀ h, h < 24 → (up.rasterOf h).isEmpty = true) := by decide +kernel

theorem test_wit_PairCommandsTakeEffect_2 :
    let s := pairAs 1 false; let b : Body := leBytes 20 0; Ready s rq 0x7801 [47] ∧ b.length = 20 ∧ b.u8 0 = 0 ∧ s.pairState = 1 ∧ (∀ h, h < 24 → (s.rasterOf h).isEmpty = true) := by decide +kernel

theorem test_wit_PairCommandsTakeEffect_3 :
    let s := pairAs 3 true; let b : Body := leBytes 4 1; Ready s rq 0x7802 [47] ∧ b.length = 4 ∧ b.u8 0 = 1 ∧ b.zero 1 3 = true ∧ s.onDuty = true ∧ s.fastest = none := by decide +kernel

theorem test_wit_PairCommandsTakeEffect_4 :
    let s := (showing.setBit .PAIR_CFG 0 31 true).setReg .PAIR_STATUS 0 0x62800000#32; Ready s rq 0x7802 [47] ∧ Body.u8 (leBytes 4 0) 0 = 0 ∧ s.onDuty = true ∧ s.paired = true ∧ s.seamUp = true ∧
    s.fastest = some 0 ∧ s.pair.handover = none := by decide +kernel

theorem test_wit_PairCommandsTakeEffect_5 :
    let s := (showing.setBit .PAIR_CFG 0 31 true).setReg .PAIR_STATUS 0 0x40800000#32; let b : Body := leBytes 4 1 ++ leBytes 4 0x3C3C; Ready s rq 0x7803 (47 :: (maskBits (b.le 0 3) 24).map scopeHead) ∧
    b.length = 8 ∧ b.le 0 3 ≠ 0 ∧ b.u8 3 = 0 ∧ b.u8 4 = 60 ∧ b.u8 5 = 60 ∧ b.zero 6 2 = true ∧ s.isStandby = true ∧ 0 ∈ maskBits (b.le 0 3) 24 ∧ s.running 0 = true ∧
    s.gangMember 0 = false ∧ s.isVirtual 0 = false ∧ s.pair.drill = none := by decide +kernel

theorem test_wit_TouchCommandsTakeEffect_1 :
    let s := touchOff; Ready s rq 0x6001 [51] ∧ tchConfigBad tch1 = false ∧ tch1.u8 0 = 1 ∧ tcOn tch1 = true ∧ (s.tfe 1).table ≠ [] ∧ s.tfeOn 1 = false ∧ (s.tfe 1).next = none ∧
    tcSelf (s.tfe 1).cfg = tcSelf tch1 ∧ ((s.tfe 1).cfg.drop 4).take 24 = (tch1.drop 4).take 24 ∧ tcNodes tch1 = 64 := by decide +kernel

theorem test_wit_TouchCommandsTakeEffect_2 :
    let b : Body := leBytes 4 0x00400001 ++ leBytes 8 0; Ready touchOff rq 0x6002 [51] ∧ b.length = 12 ∧ b.u8 0 = 1 ∧ b.zero 1 1 = true ∧ b.u16 2 = tcNodes (touchOff.tfe 1).cfg ∧ touchOff.tfeOn 1 = false := by decide +kernel

theorem test_wit_TouchCommandsTakeEffect_3 :
    let b : Body := leBytes 4 0x1701 ++ leBytes 28 100000; Ready touchOff rq 0x6003 [51] ∧ tchMapBad b = false ∧ b.u8 1 = 23 := by decide +kernel

theorem test_wit_TouchCommandsTakeEffect_4 :
    let b : Body := leBytes 4 12 ++ leBytes 8 4096; Ready touchOff rq 0x6004 [51] ∧ b.length = 12 ∧ b.u8 0 = 12 ∧ b.zero 1 3 = true ∧ b.u64 4 % 4096 = 0 ∧ touchOff.tfeOn 0 = false ∧ touchOff.tfeOn 1 = false := by decide +kernel

theorem test_wit_TouchCommandsTakeEffect_5 :
    let b : Body := leBytes 4 0x0201; Ready touching rq 0x6005 [51] ∧ b.length = 4 ∧ b.u8 0 = 1 ∧ b.u8 1 = 2 ∧ b.zero 2 2 = true ∧ touching.tfeOn 1 = true := by decide +kernel

theorem test_wit_TouchCommandsTakeEffect_6 :
    let b : Body := leBytes 8 0x0101; Ready touchOff rq 0x6006 [51] ∧ b.length = 8 ∧ b.u8 0 = 1 ∧ b.u8 1 = 1 ∧ b.zero 6 2 = true ∧ b.u16 4 = 0 ∧ (touchOff.tfe 1).contacts = [] := by decide +kernel

theorem test_wit_TouchCommandsTakeEffect_7 :
    let b : Body := leBytes 4 0x003F0101 ++ leBytes 4 1; Ready touchOff rq 0x6006 [51] ∧ b.u16 2 + b.u16 4 = tcNodes (touchOff.tfe 1).cfg ∧ touchOff.tfeOn 1 = false := by decide +kernel

theorem test_wit_TouchCommandsTakeEffect_8 :
    let b : Body := leBytes 12 1; Ready touching rq 0x6007 [51] ∧ b.length = 12 ∧ b.u8 0 = 1 ∧ b.zero 1 3 = true ∧ touching.tfeOn 1 = true ∧ (touching.tfe 1).capture = none := by decide +kernel

theorem test_wit_TouchCommandsTakeEffect_9 :
    let s := touching.modTfe 1 (fun x => { x with tests := [{ req := rq, left := 0 }] }); ((s.tfe 1).tests.find? (fun u => u.left == 0)).isSome = true ∧ s.evtEn .A = true ∧ s.interp.restart = none := by decide +kernel

theorem test_wit_TouchCommandsTakeEffect_10 :
    let b : Body := leBytes 12 1 ++ leBytes 4 512; Ready touching rq 0x6008 [] ∧ b.length = 16 ∧ b.u8 0 = 1 ∧ b.zero 1 3 = true ∧ 8 * tcNodes (touching.tfe 1).cfg = b.u32 12 := by decide +kernel

theorem test_wit_TouchFramesAreScannedAndReported_1 :
    let s := (touching.modTfe 1 (fun x => { x with running := false, nextK := 2 })); s.tfeOn 1 = true ∧ (s.tfe 1).running = false ∧ scanAt (s.tfe 1).nextK ≤ s.ptp ∧ (s.tfe 1).next = none := by decide +kernel

theorem test_wit_TouchFramesAreScannedAndReported_2 :
    let s := (touching.modTfe 1 (fun x => { x with capture := some (7, [7000, 7000]), table := [0, 0], snaps := [{ req := rq, live := true }] })); (s.tfe 1).running = true ∧ (s.tfe 1).tk + 3750000 ≤ s.ptp ∧
    (s.tfe 1).capture = some (7, [7000, 7000]) ∧ (s.tfe 1).nodes.length = 2 ∧ s.evtEn .A = true ∧ s.interp.restart = none := by decide +kernel

theorem test_wit_TouchFramesAreScannedAndReported_3 :
    let s := touching; s.tfeOn 1 = true ∧ (s.tfe 1).capture = none ∧ (s.tfe 1).moved = false ∧ (s.tfe 1).nodes.length = 2 := by decide +kernel

theorem test_wit_TouchFramesAreScannedAndReported_4 :
    let s := touching.modTfe 1 (fun x => { x with reports := [{ entries := [{}] }] }); (s.tfe 1).reports.length = 1 ∧ (s.tfe 1).map.isEmpty = false ∧ (s.provOf 1 0 {}).isSome = true ∧ s.tch.ring.log2 = 6 ∧
    0 + 2100000 ≤ s.ptp ∧ s.tch.ring.full = false ∧ s.regBits .TCH_RING_WR 0 11 0 = 0 := by decide +kernel

theorem test_wit_ClockAndReferenceCommandsTakeEffect_1 :
    let b : Body := leBytes 2 0x0A7F ++ leBytes 2 500 ++ leBytes 4 10 ++ leBytes 4 1 ++ leBytes 4 10000000 ++ leBytes 4 0x1FFFF; Ready up rq 0x5001 [46] ∧ b.length = 20 ∧ b.u8 0 = 127 ∧ b.u8 1 = 10 ∧
    b.u16 2 = 500 ∧ b.u32 4 = 10 ∧ b.u16 8 = 1 ∧ b.zero 10 2 = true ∧ b.u32 12 = 10000000 ∧ b.u32 16 < 2 ^ 17 ∧ up.tm.cfg.isEmpty = true := by decide +kernel

theorem test_wit_ClockAndReferenceCommandsTakeEffect_2 :
    let b : Body := leBytes 4 0x3F010110 ++ leBytes 8 0 ++ sleBytes 4 (-1000000) ++ leBytes 8 0; Ready up rq 0x5002 [46] ∧ b.length = 24 ∧ b.u8 0 = 16 ∧ b.u8 1 = 1 ∧ b.u8 2 = 1 ∧ b.u8 3 = 63 ∧
    b.zero 10 2 = true ∧ b.sle 12 4 = -1000000 ∧ b.zero 22 2 = true := by decide +kernel

theorem test_wit_ClockAndReferenceCommandsTakeEffect_3 :
    let b : Body := leBytes 8 1 ++ sleBytes 8 (-5); Ready timed rq 0x5003 [0] ∧ b.length = 16 ∧ b.u8 0 = 1 ∧ b.zero 1 3 = true ∧ b.u32 4 = 0 ∧ b.sle 8 8 = -5 ∧ timed.stepped = true ∧
    Listens timed .B 0x5003 := by decide +kernel

theorem test_wit_ClockAndReferenceCommandsTakeEffect_4 :
    let b : Body := leBytes 4 0 ++ leBytes 4 200 ++ leBytes 8 0; Ready timed rq 0x5003 [0] ∧ b.length = 16 ∧ b.u8 0 = 0 ∧ b.zero 1 3 = true ∧ b.u32 4 = 200 ∧ (secondsTo timed.ptp 200).isSome = true ∧
    timed.stepped = true ∧ timed.servo = 3 := by decide +kernel

theorem test_wit_ClockAndReferenceCommandsTakeEffect_5 :
    let s : State := { timed with tm := { timed.tm with steps := [{ req := rq, atSec := 1 }] } }; (s.tm.steps.find? (fun c => (secondsTo s.ptp c.atSec).isNone)).isSome = true ∧ s.evtEn .A = true ∧
    s.interp.restart = none := by decide +kernel

theorem test_wit_ClockAndReferenceCommandsTakeEffect_6 :
    let b : Body := leBytes 4 0x07030104 ++ leBytes 4 1 ++ leBytes 4 100000000 ++ leBytes 4 0; Ready up rq 0x5010 [46] ∧ b.length = 16 ∧ b.u8 0 = 4 ∧ b.u8 1 = 1 ∧ b.u8 2 = 3 ∧ b.u8 3 = 7 ∧ b.u8 4 = 1 ∧
    b.zero 5 3 = true ∧ b.u32 8 = 100000000 := by decide +kernel

theorem test_wit_ClockAndReferenceCommandsTakeEffect_7 :
    let b : Body := leBytes 4 0x00040104 ++ leBytes 4 0 ++ leBytes 4 0 ++ leBytes 2 24000 ++ leBytes 2 1001; Ready up rq 0x5010 [46] ∧ b.length = 16 ∧ b.u8 0 = 4 ∧ b.u8 2 = 4 ∧ b.u16 14 = 1001 ∧
    24000 * b.u16 14 = b.u16 12 * 1001 := by decide +kernel

theorem test_wit_ClockAndReferenceCommandsTakeEffect_8 :
    let b : Body := leBytes 16 0x100; Ready up rq 0x5010 [46] ∧ b.length = 16 ∧ b.u8 0 = 0 ∧ b.u8 1 = 1 ∧ b.u8 3 = 0 ∧ b.zero 5 3 = true := by decide +kernel

theorem test_wit_ClockAndReferenceCommandsTakeEffect_9 :
    let b : Body := leBytes 2 600 ++ leBytes 2 1 ++ leBytes 4 100 ++ leBytes 2 10 ++ leBytes 2 60 ++ leBytes 2 0x6402 ++ leBytes 2 0 ++ leBytes 4 50000 ++ leBytes 4 50; Ready up rq 0x5011 [46] ∧
    b.length = 24 ∧ b.u16 0 = 600 ∧ b.u16 2 = 1 ∧ b.u32 4 = 100 ∧ b.u16 8 = 10 ∧ b.u16 10 = 60 ∧ b.u8 12 = 2 ∧ b.u8 13 = 100 ∧ b.zero 14 2 = true ∧ b.u32 16 = 50000 ∧ b.u32 20 = 50 := by decide +kernel

theorem test_wit_ClockAndReferenceCommandsTakeEffect_10 :
    let b : Body := leBytes 4 4; Ready timed rq 0x5012 [46] ∧ b.length = 4 ∧ b.zero 1 3 = true ∧ b.u8 0 = 4 ∧ timed.refOn 4 = true ∧ timed.refQual 4 = true ∧ timed.curRef ≠ 4 := by decide +kernel

theorem test_wit_ClockAndReferenceCommandsTakeEffect_11 :
    let b : Body := leBytes 4 255; Ready timed rq 0x5012 [46] ∧ b.length = 4 ∧ b.zero 1 3 = true ∧ b.u8 0 = 0xFF ∧ timed.manRef ≠ 7 ∧ timed.dpll ≠ 3 := by decide +kernel

theorem test_wit_ClockAndReferenceCommandsTakeEffect_12 :
    let b : Body := leBytes 4 255; let s := timed.setBits .REF_STATUS 0 31 30 3; Ready s rq 0x5012 [46] ∧ b.u8 0 = 0xFF ∧ s.dpll = 3 := by decide +kernel

theorem test_wit_ClockAndReferenceCommandsTakeEffect_13 :
    let b : Body := sleBytes 8 (-500000000000); Ready timed rq 0x5013 [46] ∧ b.length = 8 ∧ ((b.sle 0 8 - timed.tm.ofsPs).natAbs : ℚ) ≤ timed.phaseLimit ∧ b.sle 0 8 = -500000000000 := by decide +kernel

theorem test_wit_ThePtpServoFollowsItsMaster_1 :
    timed.ptpOn 16 = true ∧ (0 : Nat) = timed.regBits .TM_STATUS 0 15 8 ∧ timed.getReg .TM_PORT_BAD 16 ≠ 0xFFFFFFFF#32 := by decide +kernel

theorem test_wit_ThePtpServoFollowsItsMaster_2 :
    let s : State := { ((timed.setBits .TM_STATUS 0 26 22 31).setBits .TM_STATUS 0 29 27 0) with tm := { timed.tm with ports := [(16, { heard := [(ann1, 99000000000, none)] })] } }; s.ptpOn 16 = true ∧
    s.ptpBad ann1 = false ∧ ann1.kind = 11 ∧ ann1.steps < 255 ∧ s.slavePort = 31 ∧ s.servo = 0 ∧ (∀ q, q < 17 → (s.ptpPort q).best = none) ∧ (s.ptpPort 16).heard = [(ann1, 99000000000, none)] ∧
    s.now ≤ 99000000000 + 4 * logNs ann1.logInterval ∧ ann1.gm < 2 ^ 64 ∧ ann1.cls < 256 ∧ Listens s .A 0x5002 := by decide +kernel

theorem test_wit_ThePtpServoFollowsItsMaster_3 :
    let m : PtpMsg := { ann1 with kind := 0, time := 1000000000 }; timed.ptpOn 16 = true ∧ timed.ptpBad m = false ∧ timed.slavePort = 16 ∧ (timed.ptpPort 16).best = some ann1 ∧ timed.servo = 3 := by decide +kernel

theorem test_wit_ThePtpServoFollowsItsMaster_4 :
    let s : State := { timed.setBits .TM_STATUS 0 29 27 1 with tm := { timed.tm with meas := List.replicate 7 (0, 79298560) } }; let m : PtpMsg := { ann1 with kind := 0, time := 100000000000 }; s.ptpBad m = false ∧
    s.servo = 1 ∧ s.ptpOn 16 = true ∧ s.slavePort = 16 ∧ (s.ptpPort 16).best = some ann1 ∧ (let l : List Int := 13762560 :: List.replicate 7 79298560
    l.Perm (((m.time : Int) * 65536 + m.correction + s.asymFine 16 + s.tm.mpd - s.rxFine 16) :: s.tm.meas.map (fun e => e.2)) ∧ l.Pairwise (· ≤ ·) ∧
      l.getD 7 0 - l.getD 0 0 = 65536000) := by decide +kernel

theorem test_wit_ThePtpServoFollowsItsMaster_5 :
    let s : State := { timed.setBits .TM_STATUS 0 29 27 2 with tm := { timed.tm with sync := some (3, 0, 5) } }; let m : PtpMsg := { ann1 with kind := 8, seq := 3 }; s.ptpOn 16 = true ∧ s.ptpBad m = false ∧ s.servo = 2 ∧
    s.slavePort = 16 ∧ (s.ptpPort 16).best = some ann1 := by decide +kernel

theorem test_wit_ThePtpServoFollowsItsMaster_6 :
    let s : State := { timed with tm := { timed.tm with delayReq := some (3, 0) } }; let m : PtpMsg := { ann1 with kind := 9, seq := 3, reqPort := 17 }; s.ptpOn 16 = true ∧ s.ptpBad m = false ∧ s.slavePort = 16 ∧
    (s.ptpPort 16).best = some ann1 := by decide +kernel

theorem test_wit_ThePtpServoFollowsItsMaster_7 :
    timed.servo ≠ 1 ∧ timed.slavePort = 16 := by decide +kernel

theorem test_wit_ThePtpServoFollowsItsMaster_8 :
    let s := timed.setBits .TM_STATUS 0 26 22 15; s.slavePort = 15 ∧ s.flowFirst 15 = none ∧ s.txFirst 15 = false ∧ s.encFirst 15 = none := by decide +kernel

theorem test_wit_ThePtpServoFollowsItsMaster_9 :
    timed.ptpOn 16 = true ∧ timed.slavePort = 16 ∧ (timed.ptpPort 16).best = some ann1 ∧ (timed.ptpPort 16).heard = [(ann1, 0, some 0)] ∧ (∀ q, q < 17 → q ≠ 16 → (timed.ptpPort q).best = none) ∧
    (timed.ptpPort 16).lastAnn + timed.annTimeout * logNs ann1.logInterval ≤ timed.now ∧ timed.servo = 3 ∧ timed.refOn 0 = true := by decide +kernel

theorem test_wit_ThePtpServoFollowsItsMaster_10 :
    let s : State := { timed.setBits .TM_STATUS 0 29 27 2 with tm := { timed.tm with inLock := some 0 } }; s.tm.inLock = some 0 ∧ s.servo = 2 ∧ 0 + s.tm.cfg.u16 8 * sec ≤ s.now ∧ Listens s .A 0x5001 := by decide +kernel

theorem test_wit_ReferencesQualifySwitchAndHold_1 :
    let s : State := (timed.setReg .REF_CFG 1 0x90000000#32).modRef 1 (fun x => { x with seen := true, lastEdge := 100000000000, alive := true, jumps := 3, errPs := 0 }); let s1 : State := { s.setBits .REF_STATUS 0 29 27 1 with now := 101000500000 }; s1.refOn 1 = true ∧
    s1.refType 1 = 1 ∧ (s1.ref 1).lastEdge ≤ s1.now ∧ 999000000 ≤ s1.now - (s1.ref 1).lastEdge ∧ s1.curRef = 1 ∧ (s1.ref 1).jumps = 3 ∧ s1.dplCfg.u32 20 * 1000 < (s1.edgeErr 1 (s1.tm.gridFix s1.now * 1000 / 2 ^ 48)).natAbs ∧
    (s1.getReg .REF_DELAY 1).toNat = 0 ∧ Listens s1 .A 0x5013 := by decide +kernel

theorem test_wit_ReferencesQualifySwitchAndHold_2 :
    let s := timed.setBits .REF_STATUS 0 26 24 3; s.refOn 3 = true ∧ (s.ref 3).alive = true ∧ s.refPhase 3 = false ∧ s.getReg .REF_LOSS 3 ≠ 0xFFFFFFFF#32 ∧ s.refQual 3 = true ∧ s.curRef = 3 ∧ s.manRef = 3 ∧
    s.regBit .REF_STATUS 0 22 = false ∧ (∀ j : Fin 5, j ≠ 3 → ((s.refOn j && s.refQual j) = true ↔ j = 4)) ∧ Listens s .A 0x5010 ∧ 65 < s.freeRecords .A := by decide +kernel

theorem test_wit_ReferencesQualifySwitchAndHold_3 :
    let s := (timed.setBits .REF_STATUS 0 26 24 3).setBit .REF_STATUS 0 18 false; s.refOn 3 = true ∧ (s.ref 3).alive = true ∧ s.refPhase 3 = false ∧ s.refQual 3 = true ∧ s.curRef = 3 ∧ s.manRef = 3 ∧
    s.regBit .REF_STATUS 0 22 = false ∧ (∀ j : Fin 5, j ≠ 3 → (s.refOn j && s.refQual j) = false) ∧ s.tm.wasLocked = true ∧ s.dpll ≠ 3 := by decide +kernel

theorem test_wit_ReferencesQualifySwitchAndHold_4 :
    timed.tm.measAt + sec ≤ timed.now ∧ timed.dpll = 2 ∧ timed.refOn 4 = true ∧ (timed.ref 4).alive = true ∧ timed.dplCfg.u32 4 = 10000 := by decide +kernel

theorem test_wit_ReferencesQualifySwitchAndHold_5 :
    let s := timed.setBit .REF_STATUS 0 18 false; (s.ref 4).goodSince = some 0 ∧ s.refOn 4 = true ∧ (s.ref 4).alive = true ∧ s.refQual 4 = false ∧ 0 + s.dplCfg.u16 2 * sec ≤ s.now ∧ s.manRef = 4 ∧ s.curRef = 3 ∧
    s.refQual 3 = true ∧ s.regBit .REF_STATUS 0 22 = false := by decide +kernel

theorem test_wit_ReferencesQualifySwitchAndHold_6 :
    let s := (timed.setBit .REF_STATUS 0 18 false).setBits .REF_STATUS 0 29 27 7; (s.ref 4).goodSince = some 0 ∧ s.refOn 4 = true ∧ (s.ref 4).alive = true ∧ s.refQual 4 = false ∧ s.manRef = 4 ∧ s.curRef = 7 ∧
    s.regBit .REF_STATUS 0 22 = false := by decide +kernel

theorem test_wit_ReferencesQualifySwitchAndHold_7 :
    let s : State := { timed with tm := { timed.tm with wtrAt := some 5 } }; s.tm.wtrAt = some 5 ∧ 5 ≤ s.now ∧ s.regBit .REF_STATUS 0 19 = false ∧ s.manRef < 5 ∧ s.refQual s.manRef = true ∧ s.curRef ≠ s.manRef ∧
    s.regBit .REF_STATUS 0 22 = false := by decide +kernel

theorem test_wit_ReferencesQualifySwitchAndHold_8 :
    let s : State := { timed.setBits .REF_STATUS 0 31 30 1 with tm := { timed.tm with errSince := some 0 } }; s.tm.errSince = some 0 ∧ s.dpll = 1 ∧ 0 + sec ≤ s.now := by decide +kernel

theorem test_wit_ReferencesQualifySwitchAndHold_9 :
    let s : State := { timed.setBits .REF_STATUS 0 31 30 1 with now := 200000000000 }; s.dpll = 1 ∧ s.curRef < 5 ∧ s.dplCfg.u8 12 = 1 ∧ s.tm.switchAt + 20 * sec ≤ s.now ∧ s.refQual s.curRef = true ∧ Listens s .A 0x5011 := by decide +kernel

theorem test_wit_ReferencesQualifySwitchAndHold_10 :
    timed.regBit .TM_STATUS 0 31 = true := by decide +kernel

theorem test_wit_MemoryKeepsItsCanonicalForm_1 :
    Memory.wf { up with mem := { up.mem with bytes := [(5, 1#8)] } } = true := by decide +kernel

theorem test_wit_MemoryKeepsItsCanonicalForm_2 :
    let c : Instr := .ringReset .A; Goes (exec c up) ∧ (∀ a, c ≠ .interconnectRequest a) ∧ (∀ r a b l k, c ≠ .dmcTrain r a b l k) ∧ c ≠ .porstAssert ∧
    (∀ i, c ≠ .islandClearDone i) ∧ c ≠ .fwStart := by exact ⟨⟨_, rfl⟩, by simp, by simp, by simp, by simp, by simp⟩

theorem test_wit_LockedEntriesHoldUntilPorst_1 :
    Goes (step { (up.setReg .MPU_ENT_CTL 255 4#32) with pending := [.mpuEntry rq (leBytes 20 0x1FF)] }) ∧ up.mpuLocked = true ∧ up.cnyLocked = true ∧
    (up.setReg .MPU_ENT_CTL 255 4#32).mpuEntLocked 255 = true := by exact ⟨⟨_, rfl⟩, by decide +kernel⟩

theorem test_wit_ZlcCodesReadBack_1 :
    (0 : Nat) < 1024 ∧ (1023 : Nat) < 1024 ∧ zlcCode 0 1023 = 2 ∧ zlcCode 1023 0 = 1 ∧ zlcCode 0 512 = 1023 := by decide +kernel

theorem test_wit_ZlcCodesReadBack_2 :
    zlcPredict false false false 1023 0 512 = 511 := by decide +kernel

theorem test_wit_ZlcCodesReadBack_3 :
    ∀ m ∈ [0, 1023, 511], m < 1024 := by decide +kernel

theorem test_wit_ZlcCodesReadBack_4 :
    (10 : Nat) ≤ 10 := by decide +kernel

theorem test_wit_ZlcCodesReadBack_5 :
    ([true, true, false, false] : List Bool).take 2 = [true, true] ∧ ([true, false, true, true, false] : List Bool).take 4 = [true, false, true, true] := by decide +kernel

theorem test_wit_CommandsWithoutScopesAreNotExecuted_1 :
    let s : State := { up with sem := {} }; packet (.tmStep rq (leBytes 16 0)) = some (rq, 0x5003) ∧ s.canRun rq 0x5003 = true ∧ s.heldAt rq 0x5003 = 0 := by decide +kernel

theorem test_wit_CommandsWithoutScopesAreNotExecuted_2 :
    let s : State := { up with sem := {} }; let b : Body := leBytes 4 255 ++ leBytes 8 0 ++ leBytes 8 15; s.canRun rq 0x7001 = true ∧ s.notReady 0x7001 = false ∧ s.heldAt rq 0x7001 = 0 ∧ b.length = 20 ∧ b.u16 0 = 255 ∧
    b.u8 2 ≤ 15 ∧ b.zero 3 1 = true ∧ b.u32 4 ≤ b.u32 8 := by decide +kernel

theorem test_wit_HostAndPictureCommandsLeaveTheRestAlone_1 :
    hostFootprint (.ringReset .B) = some ([], [.HP_CMD_RD]) ∧ Goes (exec (.ringReset .B) up) := by exact ⟨rfl, _, rfl⟩

theorem test_wit_HostAndPictureCommandsLeaveTheRestAlone_2 :
    pictureFootprint (.cnyHistory rq []) = some (answerFields, answerRegs) ∧ Goes (exec (.cnyHistory rq []) up) := by exact ⟨rfl, _, rfl⟩

theorem test_wit_InputAndTimeCommandsLeaveTheRestAlone_1 :
    inputFootprint (.lodeRead rq []) = some (answerFields, answerRegs) ∧ Goes (exec (.lodeRead rq []) up) := by exact ⟨rfl, _, rfl⟩

theorem test_wit_InputAndTimeCommandsLeaveTheRestAlone_2 :
    timeFootprint (.audCsRead rq []) = some (answerFields, answerRegs) ∧ Goes (exec (.audCsRead rq []) up) := by exact ⟨rfl, _, rfl⟩

end Sys2Proof.Tests
end

section
/-! SUPPORT AND CLAIMS. The scope statements (00_scope.md): every step answers a next state and keeps the register table canonical, and
what a read of a register of access RC answers. -/

namespace Sys2Proof.Machine

/-! ### One step: the front command, or a nanosecond -/

/-- With no command waiting a step lets a nanosecond pass. -/
theorem step_of_idle {s : State} (h : s.pending = []) : step s = .next s.tick := by
  unfold step; rw [h]

/-- With a command waiting a step runs it on the queue's rest. -/
theorem step_of_pending {s : State} {c : Instr} {rest : List Instr} (h : s.pending = c :: rest) :
    step s = exec c { s with pending := rest } := by
  unfold step; rw [h]

/-! ### What every row of the table keeps -/

/-- Every row changes at most the fields and the registers of two masks: it keeps the register table canonical, only adds to what has
left the device, and only draws free values (Keeps). -/
theorem exec_keeps (c : Instr) (s : State) : ∃ F R, KeepsO F R s (exec c s) := by
  cases c with
  | doorbellWrite p value => exact ⟨_, _, execDoorbellWrite_keeps p value s⟩
  | packetFetch p => exact ⟨_, _, execPacketFetch_keeps p s⟩
  | packetStart => exact ⟨_, _, execPacketStart_keeps s⟩
  | urgentPreempt => exact ⟨_, _, execUrgentPreempt_keeps s⟩
  | secondSetArm t => exact ⟨_, _, execSecondSetArm_keeps t s⟩
  | ringReset p => exact ⟨_, _, execRingReset_keeps p s⟩
  | evtEnSet p => exact ⟨_, _, execEvtEnSet_keeps p s⟩
  | evtEnClear p => exact ⟨_, _, execEvtEnClear_keeps p s⟩
  | fetchEnWrite p on => exact ⟨_, _, execFetchEnWrite_keeps p on s⟩
  | evtReadIndexWrite p value => exact ⟨_, _, execEvtReadIndexWrite_keeps p value s⟩
  | irqModerationExpiry p => exact ⟨_, _, execIrqModerationExpiry_keeps p s⟩
  | semReq p value other => exact ⟨_, _, execSemReq_keeps p value other s⟩
  | semRel p value => exact ⟨_, _, execSemRel_keeps p value s⟩
  | semRelAll p => exact ⟨_, _, execSemRelAll_keeps p s⟩
  | pcieLinkLeaveL0 p d3hot => exact ⟨_, _, execPcieLinkLeaveL0_keeps p d3hot s⟩
  | pcieLinkEnterL0 p width speed asked => exact ⟨_, _, execPcieLinkEnterL0_keeps p width speed asked s⟩
  | linkDownScopeTimeout p => exact ⟨_, _, execLinkDownScopeTimeout_keeps p s⟩
  | portReset p kind => exact ⟨_, _, execPortReset_keeps p kind s⟩
  | ctrlRestartBegin => exact ⟨_, _, execCtrlRestartBegin_keeps s⟩
  | ctrlRestartEnd => exact ⟨_, _, execCtrlRestartEnd_keeps s⟩
  | evinChangeAccepted n level heldNs => exact ⟨_, _, execEvinChangeAccepted_keeps n level heldNs s⟩
  | evinStuckTimeout n => exact ⟨_, _, execEvinStuckTimeout_keeps n s⟩
  | pselStable v => exact ⟨_, _, execPselStable_keeps v s⟩
  | devInfo r b => exact ⟨_, _, execDevInfo_keeps r b s⟩
  | bootLoad r b image => exact ⟨_, _, execBootLoad_keeps r b image s⟩
  | fwStart => exact ⟨_, _, execFwStart_keeps s⟩
  | devBoardTable r b image linear => exact ⟨_, _, execDevBoardTable_keeps r b image linear s⟩
  | eventMask r b => exact ⟨_, _, execEventMask_keeps r b s⟩
  | prfLoad r b image => exact ⟨_, _, execPrfLoad_keeps r b image s⟩
  | prfSelect r b => exact ⟨_, _, execPrfSelect_keeps r b s⟩
  | prfPinMode r b => exact ⟨_, _, execPrfPinMode_keeps r b s⟩
  | prfStatus r b => exact ⟨_, _, execPrfStatus_keeps r b s⟩
  | eviConfig r b => exact ⟨_, _, execEviConfig_keeps r b s⟩
  | cnyLimits r b => exact ⟨_, _, execCnyLimits_keeps r b s⟩
  | cnyLock r b => exact ⟨_, _, execCnyLock_keeps r b s⟩
  | cnyHeadStyle r b => exact ⟨_, _, execCnyHeadStyle_keeps r b s⟩
  | cnyStill r b => exact ⟨_, _, execCnyStill_keeps r b s⟩
  | cnyHistory r b => exact ⟨_, _, execCnyHistory_keeps r b s⟩
  | ingMacConfig r b => exact ⟨_, _, execIngMacConfig_keeps r b s⟩
  | ingContext r b => exact ⟨_, _, execIngContext_keeps r b s⟩
  | ingMerge r b => exact ⟨_, _, execIngMerge_keeps r b s⟩
  | ingSdi r b => exact ⟨_, _, execIngSdi_keeps r b s⟩
  | lodeUpdate r b => exact ⟨_, _, execLodeUpdate_keeps r b s⟩
  | lodeRead r b => exact ⟨_, _, execLodeRead_keeps r b s⟩
  | ingHostRing r b => exact ⟨_, _, execIngHostRing_keeps r b s⟩
  | ingInject r b => exact ⟨_, _, execIngInject_keeps r b s⟩
  | injectFrameSent mac => exact ⟨_, _, execInjectFrameSent_keeps mac s⟩
  | camPort r b => exact ⟨_, _, execCamPort_keeps r b s⟩
  | camContext r b => exact ⟨_, _, execCamContext_keeps r b s⟩
  | camParams r b => exact ⟨_, _, execCamParams_keeps r b s⟩
  | camDefects r b table => exact ⟨_, _, execCamDefects_keeps r b table s⟩
  | camStatsRing r b => exact ⟨_, _, execCamStatsRing_keeps r b s⟩
  | decSession r b => exact ⟨_, _, execDecSession_keeps r b s⟩
  | decRestart r b => exact ⟨_, _, execDecRestart_keeps r b s⟩
  | cfKeyCopy r b => exact ⟨_, _, execCfKeyCopy_keeps r b s⟩
  | cfReserve r b => exact ⟨_, _, execCfReserve_keeps r b s⟩
  | cfAlloc r b => exact ⟨_, _, execCfAlloc_keeps r b s⟩
  | encChannel r b => exact ⟨_, _, execEncChannel_keeps r b s⟩
  | encKey r b => exact ⟨_, _, execEncKey_keeps r b s⟩
  | encStatsRing r b => exact ⟨_, _, execEncStatsRing_keeps r b s⟩
  | lyConfig r b => exact ⟨_, _, execLyConfig_keeps r b s⟩
  | lyPalette r b => exact ⟨_, _, execLyPalette_keeps r b s⟩
  | lyColour r b table => exact ⟨_, _, execLyColour_keeps r b table s⟩
  | hdCompose r b table => exact ⟨_, _, execHdCompose_keeps r b table s⟩
  | cmpCommit r b => exact ⟨_, _, execCmpCommit_keeps r b s⟩
  | cmpDiscard r b => exact ⟨_, _, execCmpDiscard_keeps r b s⟩
  | gfxPool r b => exact ⟨_, _, execGfxPool_keeps r b s⟩
  | gfxUpload r b data => exact ⟨_, _, execGfxUpload_keeps r b data s⟩
  | hdTiming r b => exact ⟨_, _, execHdTiming_keeps r b s⟩
  | hdOutput r b => exact ⟨_, _, execHdOutput_keeps r b s⟩
  | hdHold r b => exact ⟨_, _, execHdHold_keeps r b s⟩
  | hdDpAux r b answer data => exact ⟨_, _, execHdDpAux_keeps r b answer data s⟩
  | tmPtpConfig r b => exact ⟨_, _, execTmPtpConfig_keeps r b s⟩
  | tmPort r b => exact ⟨_, _, execTmPort_keeps r b s⟩
  | tmStep r b => exact ⟨_, _, execTmStep_keeps r b s⟩
  | refConfig r b => exact ⟨_, _, execRefConfig_keeps r b s⟩
  | refDpll r b => exact ⟨_, _, execRefDpll_keeps r b s⟩
  | refSelect r b => exact ⟨_, _, execRefSelect_keeps r b s⟩
  | refPhase r b => exact ⟨_, _, execRefPhase_keeps r b s⟩
  | audTdm r b => exact ⟨_, _, execAudTdm_keeps r b s⟩
  | audAes3 r b => exact ⟨_, _, execAudAes3_keeps r b s⟩
  | audRx r b => exact ⟨_, _, execAudRx_keeps r b s⟩
  | audTx r b => exact ⟨_, _, execAudTx_keeps r b s⟩
  | audClock r b => exact ⟨_, _, execAudClock_keeps r b s⟩
  | audRoute r b => exact ⟨_, _, execAudRoute_keeps r b s⟩
  | audCsRead r b => exact ⟨_, _, execAudCsRead_keeps r b s⟩
  | tchConfig r b => exact ⟨_, _, execTchConfig_keeps r b s⟩
  | tchReference r b table => exact ⟨_, _, execTchReference_keeps r b table s⟩
  | tchMap r b => exact ⟨_, _, execTchMap_keeps r b s⟩
  | tchRing r b => exact ⟨_, _, execTchRing_keeps r b s⟩
  | tchNoiseMode r b => exact ⟨_, _, execTchNoiseMode_keeps r b s⟩
  | tchRebase r b => exact ⟨_, _, execTchRebase_keeps r b s⟩
  | tchSelftest r b table => exact ⟨_, _, execTchSelftest_keeps r b table s⟩
  | tchSelftestComplete f => exact ⟨_, _, execTchSelftestComplete_keeps f s⟩
  | tchSnapshot r b => exact ⟨_, _, execTchSnapshot_keeps r b s⟩
  | dmcTrain r b pass step durationMs => exact ⟨_, _, execDmcTrain_keeps r b pass step durationMs s⟩
  | dmcRetrainPeriod r b => exact ⟨_, _, execDmcRetrainPeriod_keeps r b s⟩
  | memUsage r b => exact ⟨_, _, execMemUsage_keeps r b s⟩
  | mpuEntry r b => exact ⟨_, _, execMpuEntry_keeps r b s⟩
  | mpuLock r b => exact ⟨_, _, execMpuLock_keeps r b s⟩
  | chkRun r b => exact ⟨_, _, execChkRun_keeps r b s⟩
  | chkStop r b => exact ⟨_, _, execChkStop_keeps r b s⟩
  | fltRead r b => exact ⟨_, _, execFltRead_keeps r b s⟩
  | pairConfig r b => exact ⟨_, _, execPairConfig_keeps r b s⟩
  | pairSwitch r b => exact ⟨_, _, execPairSwitch_keeps r b s⟩
  | pairDrill r b => exact ⟨_, _, execPairDrill_keeps r b s⟩
  | pwrIsland r b => exact ⟨_, _, execPwrIsland_keeps r b s⟩
  | pwrThermWarn r b => exact ⟨_, _, execPwrThermWarn_keeps r b s⟩
  | slPrbs r b => exact ⟨_, _, execSlPrbs_keeps r b s⟩
  | slPrbsStop r b => exact ⟨_, _, execSlPrbsStop_keeps r b s⟩
  | prbsTestEnd l errs => exact ⟨_, _, execPrbsTestEnd_keeps l errs s⟩
  | prbsNolockTimeout l => exact ⟨_, _, execPrbsNolockTimeout_keeps l s⟩
  | ringIndexWriteIng p ring value => exact ⟨_, _, execRingIndexWriteIng_keeps p ring value s⟩
  | ringIndexWriteCam p value => exact ⟨_, _, execRingIndexWriteCam_keeps p value s⟩
  | ringIndexWriteEnc p value => exact ⟨_, _, execRingIndexWriteEnc_keeps p value s⟩
  | ringIndexWriteTch p value => exact ⟨_, _, execRingIndexWriteTch_keeps p value s⟩
  | w1cWrite p value hwSets => exact ⟨_, _, execW1cWrite_keeps p value hwSets s⟩
  | rcRegisterRead p addr both => exact ⟨_, _, execRcRegisterRead_keeps p addr both s⟩
  | latchingRegisterRead m addr => exact ⟨_, _, execLatchingRegisterRead_keeps m addr s⟩
  | registerWrite p w other => exact ⟨_, _, execRegisterWrite_keeps p w other s⟩
  | frameBoundary h => exact ⟨_, _, execFrameBoundary_keeps h s⟩
  | commitWindowClose h => exact ⟨_, _, execCommitWindowClose_keeps h s⟩
  | canaryEvaluation h l eccError disagree => exact ⟨_, _, execCanaryEvaluation_keeps h l eccError disagree s⟩
  | evalDeadlineMiss h l => exact ⟨_, _, execEvalDeadlineMiss_keeps h l s⟩
  | lineCompose h late residue => exact ⟨_, _, execLineCompose_keeps h late residue s⟩
  | lineScan h markBad hatchBad => exact ⟨_, _, execLineScan_keeps h markBad hatchBad s⟩
  | ethFrameReceive mac f also => exact ⟨_, _, execEthFrameReceive_keeps mac f also s⟩
  | skewWindowExpiry c => exact ⟨_, _, execSkewWindowExpiry_keeps c s⟩
  | contextLosTimeout c => exact ⟨_, _, execContextLosTimeout_keeps c s⟩
  | mergeLegTimeout g leg => exact ⟨_, _, execMergeLegTimeout_keeps g leg s⟩
  | sdiTrsLossTimeout n => exact ⟨_, _, execSdiTrsLossTimeout_keeps n s⟩
  | sdiLineReceive n line => exact ⟨_, _, execSdiLineReceive_keeps n line s⟩
  | csiFrameStart port vc => exact ⟨_, _, execCsiFrameStart_keeps port vc s⟩
  | csiFrameEnd port vc => exact ⟨_, _, execCsiFrameEnd_keeps port vc s⟩
  | csiLongPacket port vc pkt => exact ⟨_, _, execCsiLongPacket_keeps port vc pkt s⟩
  | camLosTimeout c clockGone => exact ⟨_, _, execCamLosTimeout_keeps c clockGone s⟩
  | pipeFrameDone q residueBad => exact ⟨_, _, execPipeFrameDone_keeps q residueBad s⟩
  | peJobStart pe x => exact ⟨_, _, execPeJobStart_keeps pe x s⟩
  | jobComplete e bins row => exact ⟨_, _, execJobComplete_keeps e bins row s⟩
  | jobResidueMismatch e also => exact ⟨_, _, execJobResidueMismatch_keeps e also s⟩
  | decPictureRelease n => exact ⟨_, _, execDecPictureRelease_keeps n s⟩
  | bufferWaitEnd n => exact ⟨_, _, execBufferWaitEnd_keeps n s⟩
  | encPictureStart c ready pre => exact ⟨_, _, execEncPictureStart_keeps c ready pre s⟩
  | encRowInputDeadline c r told => exact ⟨_, _, execEncRowInputDeadline_keeps c r told s⟩
  | encRowOutput c row => exact ⟨_, _, execEncRowOutput_keeps c row s⟩
  | encEndOfBitstream c => exact ⟨_, _, execEncEndOfBitstream_keeps c s⟩
  | dpHpdChange d what sink lostLock => exact ⟨_, _, execDpHpdChange_keeps d what sink lostLock s⟩
  | dpLinkTrainDone d ok => exact ⟨_, _, execDpLinkTrainDone_keeps d ok s⟩
  | flowPacketSend f => exact ⟨_, _, execFlowPacketSend_keeps f s⟩
  | encFlowPacketSend c => exact ⟨_, _, execEncFlowPacketSend_keeps c s⟩
  | holdMaxExpiry h => exact ⟨_, _, execHoldMaxExpiry_keeps h s⟩
  | ptpMessageReceive p m => exact ⟨_, _, execPtpMessageReceive_keeps p m s⟩
  | delayReqSend => exact ⟨_, _, execDelayReqSend_keeps s⟩
  | announceTimeout p => exact ⟨_, _, execAnnounceTimeout_keeps p s⟩
  | servoLockDwellExpiry => exact ⟨_, _, execServoLockDwellExpiry_keeps s⟩
  | ptpStepApply => exact ⟨_, _, execPtpStepApply_keeps s⟩
  | refEdge n => exact ⟨_, _, execRefEdge_keeps n s⟩
  | refLossDeclared n => exact ⟨_, _, execRefLossDeclared_keeps n s⟩
  | refFreqMeasure ppb => exact ⟨_, _, execRefFreqMeasure_keeps ppb s⟩
  | refQualifyExpiry n => exact ⟨_, _, execRefQualifyExpiry_keeps n s⟩
  | wtrExpiry => exact ⟨_, _, execWtrExpiry_keeps s⟩
  | dpllLockAchieved => exact ⟨_, _, execDpllLockAchieved_keeps s⟩
  | dpllLockTimeout => exact ⟨_, _, execDpllLockTimeout_keeps s⟩
  | oscInLoss => exact ⟨_, _, execOscInLoss_keeps s⟩
  | audRateClassChange n mHz => exact ⟨_, _, execAudRateClassChange_keeps n mHz s⟩
  | audInputSample n v => exact ⟨_, _, execAudInputSample_keeps n v s⟩
  | audHouseSample => exact ⟨_, _, execAudHouseSample_keeps s⟩
  | zcTimeout o ch => exact ⟨_, _, execZcTimeout_keeps o ch s⟩
  | tdmFrameReceive g slots => exact ⟨_, _, execTdmFrameReceive_keeps g slots s⟩
  | aes3FrameReceive n a b => exact ⟨_, _, execAes3FrameReceive_keeps n a b s⟩
  | audRxRead r => exact ⟨_, _, execAudRxRead_keeps r s⟩
  | audTxPacketSend t => exact ⟨_, _, execAudTxPacketSend_keeps t s⟩
  | scanFrameStart f => exact ⟨_, _, execScanFrameStart_keeps f s⟩
  | scanFrameProcess f raw noise => exact ⟨_, _, execScanFrameProcess_keeps f raw noise s⟩
  | touchReportWrite f => exact ⟨_, _, execTouchReportWrite_keeps f s⟩
  | dramRefresh c => exact ⟨_, _, execDramRefresh_keeps c s⟩
  | dramRetrainPause c ok drift pauseNs => exact ⟨_, _, execDramRetrainPause_keeps c ok drift pauseNs s⟩
  | mr4Poll c rate => exact ⟨_, _, execMr4Poll_keeps c rate s⟩
  | dramPatrolRead c ce ue => exact ⟨_, _, execDramPatrolRead_keeps c ce ue s⟩
  | arbiterWindowEnd c => exact ⟨_, _, execArbiterWindowEnd_keeps c s⟩
  | interconnectRequest a => exact ⟨_, _, execInterconnectRequest_keeps a s⟩
  | sramPatrol a island word inst found last => exact ⟨_, _, execSramPatrol_keeps a island word inst found last s⟩
  | islandClearDone n => exact ⟨_, _, execIslandClearDone_keeps n s⟩
  | chkRunEnd u ue => exact ⟨_, _, execChkRunEnd_keeps u ue s⟩
  | chkPeriodStart u => exact ⟨_, _, execChkPeriodStart_keeps u s⟩
  | faultRecordArrive recs => exact ⟨_, _, execFaultRecordArrive_keeps recs s⟩
  | dutyRelease => exact ⟨_, _, execDutyRelease_keeps s⟩
  | hwDutyRelease => exact ⟨_, _, execHwDutyRelease_keeps s⟩
  | islandLivenessTimeout n => exact ⟨_, _, execIslandLivenessTimeout_keeps n s⟩
  | heartbeatWrite p => exact ⟨_, _, execHeartbeatWrite_keeps p s⟩
  | watchdogTimeout p => exact ⟨_, _, execWatchdogTimeout_keeps p s⟩
  | restartGraceExpiry => exact ⟨_, _, execRestartGraceExpiry_keeps s⟩
  | lockstepMismatch p => exact ⟨_, _, execLockstepMismatch_keeps p s⟩
  | dbgAuthenticate challenge signature => exact ⟨_, _, execDbgAuthenticate_keeps challenge signature s⟩
  | seamHeartbeatSend => exact ⟨_, _, execSeamHeartbeatSend_keeps s⟩
  | seamHeartbeatReceive w m => exact ⟨_, _, execSeamHeartbeatReceive_keeps w m s⟩
  | seamDownTimeout => exact ⟨_, _, execSeamDownTimeout_keeps s⟩
  | latchRecordReceive w h m => exact ⟨_, _, execLatchRecordReceive_keeps w h m s⟩
  | decisionRecordReceive w h l glyph checks frame => exact ⟨_, _, execDecisionRecordReceive_keeps w h l glyph checks frame s⟩
  | frameCrcReceive w h frame crc => exact ⟨_, _, execFrameCrcReceive_keeps w h frame crc s⟩
  | encPictureReceive w c m => exact ⟨_, _, execEncPictureReceive_keeps w c m s⟩
  | encRowReceive w c m => exact ⟨_, _, execEncRowReceive_keeps w c m s⟩
  | keyReqReceive w mask cause type => exact ⟨_, _, execKeyReqReceive_keeps w mask cause type s⟩
  | giveUpReceive w cause => exact ⟨_, _, execGiveUpReceive_keeps w cause s⟩
  | handoverReceive w k => exact ⟨_, _, execHandoverReceive_keeps w k s⟩
  | handoverAckReceive w k => exact ⟨_, _, execHandoverAckReceive_keeps w k s⟩
  | snapshotRequestReceive w => exact ⟨_, _, execSnapshotRequestReceive_keeps w s⟩
  | snapshotReceive w m => exact ⟨_, _, execSnapshotReceive_keeps w m s⟩
  | dutyInChange level => exact ⟨_, _, execDutyInChange_keeps level s⟩
  | dutyInLossTimeout => exact ⟨_, _, execDutyInLossTimeout_keeps s⟩
  | dutyWaitExpiry => exact ⟨_, _, execDutyWaitExpiry_keeps s⟩
  | bothDutyTimeout => exact ⟨_, _, execBothDutyTimeout_keeps s⟩
  | dutyReadbackMismatch => exact ⟨_, _, execDutyReadbackMismatch_keeps s⟩
  | profileDiffTimeout => exact ⟨_, _, execProfileDiffTimeout_keeps s⟩
  | porstAssert => exact ⟨_, _, execPorstAssert_keeps s⟩
  | porstRelease pairId bootsel => exact ⟨_, _, execPorstRelease_keeps pairId bootsel s⟩
  | trstAssert => exact ⟨_, _, execTrstAssert_keeps s⟩
  | railExcursion => exact ⟨_, _, execRailExcursion_keeps s⟩
  | avsMeasure n vminUv failing => exact ⟨_, _, execAvsMeasure_keeps n vminUv failing s⟩
  | pmbusPoll ackV ackI ackS vout iout status alert => exact ⟨_, _, execPmbusPoll_keeps ackV ackI ackS vout iout status alert s⟩
  | droopStretch n steps => exact ⟨_, _, execDroopStretch_keeps n steps s⟩
  | thermalSensorRead n c => exact ⟨_, _, execThermalSensorRead_keeps n c s⟩
  | lanePllUnlock q video => exact ⟨_, _, execLanePllUnlock_keeps q video s⟩
  | laneLockChange l locked code corrected uncorrectable => exact ⟨_, _, execLaneLockChange_keeps l locked code corrected uncorrectable s⟩
  | islandClockLoss n => exact ⟨_, _, execIslandClockLoss_keeps n s⟩
  | faultPortLivenessRecord n => exact ⟨_, _, execFaultPortLivenessRecord_keeps n s⟩
  | prbsCheckerLockChange l tail errs => exact ⟨_, _, execPrbsCheckerLockChange_keeps l tail errs s⟩
  | aes3LockChange n locked => exact ⟨_, _, execAes3LockChange_keeps n locked s⟩
  | islandPowerOff n => exact ⟨_, _, execIslandPowerOff_keeps n s⟩
  | snapshotRetry => exact ⟨_, _, execSnapshotRetry_keeps s⟩
  | latchWaitTimeout h => exact ⟨_, _, execLatchWaitTimeout_keeps h s⟩
  | evinActionPendingExpiry n => exact ⟨_, _, execEvinActionPendingExpiry_keeps n s⟩
  | pullRestTaken h => exact ⟨_, _, execPullRestTaken_keeps h s⟩
  | crossingRegisterRead m addr len => exact ⟨_, _, execCrossingRegisterRead_keeps m addr len s⟩
  | offIslandRegisterRead p addr => exact ⟨_, _, execOffIslandRegisterRead_keeps p addr s⟩

/-- Settles O4: every row of the table, and the passing of time, keeps what Keeps says of the register table. -/
theorem stepKeepsTheRegisterTableCanonical : Obligations.StepKeepsTheRegisterTableCanonical := by
  unfold Obligations.StepKeepsTheRegisterTableCanonical
  intro s t canonical hstep
  cases hp : s.pending with
  | nil =>
    rw [step_of_idle hp] at hstep
    obtain rfl := Host.Outcome.next.inj hstep
    exact (State.tick_keeps s).canon canonical
  | cons c rest =>
    rw [step_of_pending hp] at hstep
    obtain ⟨F, R, keeps⟩ := exec_keeps c { s with pending := rest }
    exact (keeps t hstep).canon canonical

/-! ### Every row answers a next state -/

/-- Answering a state is going on. -/
theorem Goes.next (t : State) : Goes (.next t) := ⟨t, rfl⟩

/-- A choice goes on where both of its branches do. -/
theorem Goes.ite {c : Prop} {_ : Decidable c} {a b : Host.Outcome State Fault Refusal} (ha : Goes a) (hb : Goes b) :
    Goes (if c then a else b) := by split <;> assumption

/-- A command packet goes on whatever its checks find and its effect answers (R19, R20): with a status, an answer or a later one. -/
theorem Goes.command {op : Nat} {r : Req} {s : State} {need : List Nat} {bad : Bool} {c : Pre} {eff : State → Answer} :
    Goes (command op r s need bad c eff) := by
  unfold Machine.command
  refine .ite ?_ (.next _)
  dsimp only
  split
  · exact .next _
  · split <;> exact .next _

/-! Rows that look several things up: one lemma each, along the branches of the row's meaning. -/

theorem execPacketStart_goes (s : State) :
    Goes (execPacketStart s) := by
  unfold execPacketStart
  refine .ite (.next _) ?_
  split
  · exact .next _
  · split <;> exact .next _

theorem execSecondSetArm_goes (t : Target) (s : State) :
    Goes (execSecondSetArm t s) := by
  unfold execSecondSetArm
  cases t with
  | head h =>
    dsimp only
    split <;> exact .next _
  | chan c =>
    dsimp only
    split <;> exact .next _

theorem execLineScan_goes (h : Fin 24) (markBad hatchBad : Bool) (s0 : State) :
    Goes (execLineScan h markBad hatchBad s0) := by
  unfold execLineScan
  refine .ite (.next _) (.ite (.next _) ?_)
  split <;> exact .next _

theorem execSdiLineReceive_goes (i : Fin 16) (line : SdiLine) (s : State) :
    Goes (execSdiLineReceive i line s) := by
  unfold execSdiLineReceive
  extract_lets
  refine .ite (.next _) ?_
  extract_lets
  refine .ite (.next _) ?_
  extract_lets
  split <;> exact .next _

theorem execCsiFrameStart_goes (port : Fin 8) (vc : Fin 4) (s : State) :
    Goes (execCsiFrameStart port vc s) := by
  unfold execCsiFrameStart
  refine .ite (.next _) ?_
  dsimp only
  split <;> exact .next _

theorem execCsiFrameEnd_goes (port : Fin 8) (vc : Fin 4) (s : State) :
    Goes (execCsiFrameEnd port vc s) := by
  unfold execCsiFrameEnd
  refine .ite (.next _) ?_
  dsimp only
  split <;> exact .next _

theorem execCsiLongPacket_goes (port : Fin 8) (vc : Fin 4) (pkt : CsiLong) (s : State) :
    Goes (execCsiLongPacket port vc pkt s) := by
  unfold execCsiLongPacket
  refine .ite (.next _) (.ite (.next _) ?_)
  split
  · exact .next _
  · split <;> exact .next _

theorem execPipeFrameDone_goes (q : Fin 2) (residueBad : Bool) (s : State) :
    Goes (execPipeFrameDone q residueBad s) := by
  unfold execPipeFrameDone
  dsimp only
  split
  · exact .next _
  · split
    exacts [.next _, .ite (.next _) (.ite (.next _) (.ite (.next _) (.next _)))]

theorem execJobComplete_goes (e : Engine) (bins : Nat) (row : DecRow) (s : State) :
    Goes (execJobComplete e bins row s) := by
  unfold execJobComplete
  split
  · dsimp only
    split <;> exact .next _
  · dsimp only
    split
    exacts [.next _, .ite (.next _) (.ite (.next _) (.next _))]

theorem execEncRowInputDeadline_goes (c : Fin 16) (r : Nat) (told : Int) (s : State) :
    Goes (execEncRowInputDeadline c r told s) := by
  unfold execEncRowInputDeadline
  extract_lets
  split
  exacts [.next _, .ite (.next _) (.next _)]

theorem execEncRowOutput_goes (c : Fin 16) (row : RowCoded) (s : State) :
    Goes (execEncRowOutput c row s) := by
  unfold execEncRowOutput
  extract_lets
  split
  · exact .next _
  · extract_lets
    split
    exacts [.next _, .ite (.next _) (.next _)]

theorem execDpLinkTrainDone_goes (d : Fin 16) (ok : Bool) (s : State) :
    Goes (execDpLinkTrainDone d ok s) := by
  unfold execDpLinkTrainDone
  refine .ite (.next _) (.ite (.next _) ?_)
  split <;> exact .next _

theorem execFlowPacketSend_goes (f : Fin 48) (s : State) :
    Goes (execFlowPacketSend f s) := by
  unfold execFlowPacketSend
  extract_lets
  split
  exacts [.next _, .ite (.next _) (.ite (.next _) (.ite (.ite (.next _) (.next _)) (.ite (.next _) (.next _))))]

theorem execEncFlowPacketSend_goes (c : Fin 16) (s : State) :
    Goes (execEncFlowPacketSend c s) := by
  unfold execEncFlowPacketSend
  refine .ite (.next _) ?_
  split
  exacts [.next _, .ite (.ite (.next _) (.next _)) (.ite (.next _) (.next _))]

theorem execPtpMessageReceive_goes (p : Fin 17) (m : PtpMsg) (s : State) :
    Goes (execPtpMessageReceive p m s) := by
  unfold execPtpMessageReceive
  refine .ite (.next _) ?_
  extract_lets
  refine .ite (.next _) ?_
  extract_lets
  split
  · exact .next _
  · exact .ite (.ite (.next _) (.next _)) (.next _)
  · split
    exacts [.ite (.next _) (.next _), .next _]
  · exact .ite (.next _) (.next _)
  · exact .next _

theorem execSramPatrol_goes (a : Fin 10) (island : Fin 41) (word inst : Nat) (found : Fin 3) (last : Bool) (s : State) :
    Goes (execSramPatrol a island word inst found last s) := by
  unfold execSramPatrol
  refine .ite (.next _) ?_
  extract_lets
  split <;> exact .next _

theorem execChkRunEnd_goes (u : Fin 8) (ue : Option Nat) (s : State) :
    Goes (execChkRunEnd u ue s) := by
  unfold execChkRunEnd
  refine .ite (.next _) (.ite (.next _) ?_)
  split
  · exact .next _
  · exact .next _

theorem execPrbsCheckerLockChange_goes (l : Fin 67) (tail : List Bool) (errs : Nat) (s : State) :
    Goes (execPrbsCheckerLockChange l tail errs s) := by
  unfold execPrbsCheckerLockChange
  split
  exacts [.next _, .ite (.next _) (.ite (.ite (.next _) (.next _)) (.ite (.next _) (.next _)))]

/-- Every row of the table answers a next state, in every state. The rows stand by the shape of their meaning. -/
theorem exec_goes (c : Instr) (s : State) : Goes (exec c s) := by
  cases c with
  -- command packets
  | devInfo | devBoardTable | eventMask | prfLoad | prfSelect | prfPinMode | prfStatus | eviConfig | cnyLimits |
      cnyLock | cnyHeadStyle | cnyStill | cnyHistory | ingMacConfig | ingContext | ingMerge | ingSdi | lodeUpdate |
      lodeRead | ingHostRing | ingInject | camPort | camContext | camParams | camDefects | camStatsRing | decSession |
      decRestart | cfKeyCopy | cfReserve | cfAlloc | encChannel | encKey | encStatsRing | lyConfig | lyPalette |
      lyColour | hdCompose | cmpCommit | cmpDiscard | gfxPool | gfxUpload | hdTiming | hdOutput | hdHold | hdDpAux |
      tmPtpConfig | tmPort | tmStep | refConfig | refDpll | refSelect | refPhase | audTdm | audAes3 | audRx | audTx |
      audClock | audRoute | audCsRead | tchConfig | tchReference | tchMap | tchRing | tchNoiseMode | tchRebase |
      tchSelftest | tchSnapshot | dmcTrain | dmcRetrainPeriod | memUsage | mpuEntry | mpuLock | chkRun | chkStop |
      fltRead | pairConfig | pairSwitch | pairDrill | pwrIsland | pwrThermWarn | slPrbs | slPrbsStop =>
    dsimp only [exec, execDevInfo, execDevBoardTable, execEventMask, execPrfLoad, execPrfSelect, execPrfPinMode,
      execPrfStatus, execEviConfig, execCnyLimits, execCnyLock, execCnyHeadStyle, execCnyStill, execCnyHistory,
      execIngMacConfig, execIngContext, execIngMerge, execIngSdi, execLodeUpdate, execLodeRead, execIngHostRing,
      execIngInject, execCamPort, execCamContext, execCamParams, execCamDefects, execCamStatsRing, execDecSession,
      execDecRestart, execCfKeyCopy, execCfReserve, execCfAlloc, execEncChannel, execEncKey, execEncStatsRing,
      execLyConfig, execLyPalette, execLyColour, execHdCompose, execCmpCommit, execCmpDiscard, execGfxPool,
      execGfxUpload, execHdTiming, execHdOutput, execHdHold, execHdDpAux, execTmPtpConfig, execTmPort, execTmStep,
      execRefConfig, execRefDpll, execRefSelect, execRefPhase, execAudTdm, execAudAes3, execAudRx, execAudTx,
      execAudClock, execAudRoute, execAudCsRead, execTchConfig, execTchReference, execTchMap, execTchRing,
      execTchNoiseMode, execTchRebase, execTchSelftest, execTchSnapshot, execDmcTrain, execDmcRetrainPeriod,
      execMemUsage, execMpuEntry, execMpuLock, execChkRun, execChkStop, execFltRead, execPairConfig, execPairSwitch,
      execPairDrill, execPwrIsland, execPwrThermWarn, execSlPrbs, execSlPrbsStop]
    exact .command ..
  -- a command packet that the boot ROM may not take
  | bootLoad =>
    exact .ite (.next _) (.command ..)
  -- rows with one effect
  | doorbellWrite | ringReset | evtEnSet | evtEnClear | fetchEnWrite | evtReadIndexWrite | semRel | semRelAll |
      pcieLinkLeaveL0 | portReset | ringIndexWriteIng | ringIndexWriteCam | ringIndexWriteEnc | ringIndexWriteTch |
      w1cWrite | latchingRegisterRead | skewWindowExpiry | jobResidueMismatch | audInputSample | zcTimeout |
      tdmFrameReceive | faultRecordArrive | dutyRelease | hwDutyRelease | lockstepMismatch | seamHeartbeatReceive |
      latchRecordReceive | decisionRecordReceive | frameCrcReceive | encPictureReceive | encRowReceive | keyReqReceive
      | giveUpReceive | handoverReceive | handoverAckReceive | snapshotRequestReceive | dutyInLossTimeout |
      dutyReadbackMismatch | porstAssert | trstAssert | railExcursion | thermalSensorRead | aes3LockChange |
      offIslandRegisterRead =>
    exact .next _
  -- rows under one or more conditions
  | packetFetch | pcieLinkEnterL0 | ctrlRestartEnd | fwStart | rcRegisterRead | commitWindowClose | lineCompose |
      contextLosTimeout | sdiTrsLossTimeout | bufferWaitEnd | refFreqMeasure | dpllLockTimeout | oscInLoss |
      audRateClassChange | audHouseSample | aes3FrameReceive | audRxRead | scanFrameProcess | dramRefresh | mr4Poll |
      dramPatrolRead | arbiterWindowEnd | interconnectRequest | islandClearDone | chkPeriodStart | heartbeatWrite |
      dbgAuthenticate | seamHeartbeatSend | seamDownTimeout | dutyWaitExpiry | bothDutyTimeout | porstRelease |
      avsMeasure | pmbusPoll | lanePllUnlock | laneLockChange | islandClockLoss | faultPortLivenessRecord |
      islandPowerOff | snapshotRetry | crossingRegisterRead =>
    exact .ite (.next _) (.next _)
  | ctrlRestartBegin | evinChangeAccepted | frameBoundary | encPictureStart | delayReqSend | refLossDeclared |
      scanFrameStart | snapshotReceive | dutyInChange | droopStretch =>
    exact .ite (.next _) (.ite (.next _) (.next _))
  | pselStable | camLosTimeout | refEdge =>
    exact .ite (.next _) (.ite (.next _) (.ite (.next _) (.next _)))
  | dramRetrainPause =>
    exact .ite (.ite (.next _) (.next _)) (.next _)
  | mergeLegTimeout =>
    exact .ite (.ite (.next _) (.next _)) (.ite (.next _) (.next _))
  | dpHpdChange =>
    exact .ite (.next _) (.ite (.next _) (.ite (.next _) (.ite (.ite (.next _) (.next _)) (.next _))))
  -- timers and others that act on what they find, under a condition
  | linkDownScopeTimeout | evinStuckTimeout | prbsTestEnd | prbsNolockTimeout | holdMaxExpiry | servoLockDwellExpiry |
      refQualifyExpiry | wtrExpiry | dpllLockAchieved | islandLivenessTimeout | watchdogTimeout | restartGraceExpiry |
      profileDiffTimeout | latchWaitTimeout | pullRestTaken | urgentPreempt =>
    dsimp only [exec, execLinkDownScopeTimeout, execEvinStuckTimeout, execPrbsTestEnd, execPrbsNolockTimeout,
      execHoldMaxExpiry, execServoLockDwellExpiry, execRefQualifyExpiry, execWtrExpiry, execDpllLockAchieved,
      execIslandLivenessTimeout, execWatchdogTimeout, execRestartGraceExpiry, execProfileDiffTimeout,
      execLatchWaitTimeout, execPullRestTaken, execUrgentPreempt]
    split
    exacts [.ite (.next _) (.next _), .next _]
  -- rows that do nothing where what they look for is not there, and else go by conditions
  | irqModerationExpiry | evalDeadlineMiss | announceTimeout | encEndOfBitstream | peJobStart | touchReportWrite =>
    dsimp only [exec, execIrqModerationExpiry, execEvalDeadlineMiss, execAnnounceTimeout, execEncEndOfBitstream,
      execPeJobStart, execTouchReportWrite]
    split
    exacts [.next _, .ite (.next _) (.next _)]
  | injectFrameSent | canaryEvaluation | audTxPacketSend =>
    dsimp only [exec, execInjectFrameSent, execCanaryEvaluation, execAudTxPacketSend]
    split
    exacts [.next _, .ite (.next _) (.ite (.next _) (.next _))]
  -- rows with one effect for each form of an operand or of what they find
  | semReq | registerWrite | ethFrameReceive | tchSelftestComplete | ptpStepApply | decPictureRelease |
      evinActionPendingExpiry =>
    dsimp only [exec, execSemReq, execRegisterWrite, execEthFrameReceive, execTchSelftestComplete, execPtpStepApply,
      execDecPictureRelease, execEvinActionPendingExpiry]
    split <;> exact .next _
  -- the rows with lemmas of their own
  | packetStart => exact execPacketStart_goes ..
  | secondSetArm => exact execSecondSetArm_goes ..
  | lineScan => exact execLineScan_goes ..
  | sdiLineReceive => exact execSdiLineReceive_goes ..
  | csiFrameStart => exact execCsiFrameStart_goes ..
  | csiFrameEnd => exact execCsiFrameEnd_goes ..
  | csiLongPacket => exact execCsiLongPacket_goes ..
  | pipeFrameDone => exact execPipeFrameDone_goes ..
  | jobComplete => exact execJobComplete_goes ..
  | encRowInputDeadline => exact execEncRowInputDeadline_goes ..
  | encRowOutput => exact execEncRowOutput_goes ..
  | dpLinkTrainDone => exact execDpLinkTrainDone_goes ..
  | flowPacketSend => exact execFlowPacketSend_goes ..
  | encFlowPacketSend => exact execEncFlowPacketSend_goes ..
  | ptpMessageReceive => exact execPtpMessageReceive_goes ..
  | sramPatrol => exact execSramPatrol_goes ..
  | chkRunEnd => exact execChkRunEnd_goes ..
  | prbsCheckerLockChange => exact execPrbsCheckerLockChange_goes ..

/-- Settles O3: the front command's row answers a next state, and so does the passing of time. -/
theorem everyStepAnswersANextState : Obligations.EveryStepAnswersANextState := by
  unfold Obligations.EveryStepAnswersANextState
  intro s
  cases hp : s.pending with
  | nil => rw [step_of_idle hp]; exact .next _
  | cons c rest => rw [step_of_pending hp]; exact exec_goes c _

/-! ### Reads of a figure that the firmware keeps (R12, R618) -/

/-- A state whose SRM block is ON and no firmware runs, with a count stored at SRM_SCR_DMA_WAIT[0]. -/
def storedScratchWait : State :=
  (State.reset.setBits .PWR_ISL_STAT (Block.island .SRM) 31 30 2).setReg .SRM_SCR_DMA_WAIT 0 1#32

/-- SRM_SCR_DMA_WAIT shows the figure of the running firmware and never its stored word: 0 while no firmware runs. -/
theorem State.readWord_scratchWait (s : State) (m : BusMaster) (hf : s.fwRuns = false) :
    s.readWord m (Reg.SRM_SCR_DMA_WAIT.addr 0) = (0#32, s.setReg .SRM_SCR_DMA_WAIT 0 0#32) := by
  have hlog : ¬ (logBase ≤ Reg.SRM_SCR_DMA_WAIT.addr 0 ∧ Reg.SRM_SCR_DMA_WAIT.addr 0 < logBase + 8192) := by decide
  have hlode : ¬ (lodeBase ≤ Reg.SRM_SCR_DMA_WAIT.addr 0 ∧ Reg.SRM_SCR_DMA_WAIT.addr 0 < lodeBase + 2097152) := by decide
  have hat : Reg.atAddr (Reg.SRM_SCR_DMA_WAIT.addr 0) = some (.SRM_SCR_DMA_WAIT, 0) := Reg.atAddr_addr (by decide)
  simp only [State.readWord, if_neg hlog, if_neg hlode, hat]
  simp [State.readBy, State.latchWords, latchKey, State.readReg, hf, Reg.info]

/-- A host's read of SRM_SCR_DMA_WAIT without running firmware answers 0. -/
theorem State.hostRead_scratchWait_out (s : State) (p : Port) (hf : s.fwRuns = false)
    (hon : s.offAt (Reg.SRM_SCR_DMA_WAIT.addr 0) = false) :
    (s.hostRead p (Reg.SRM_SCR_DMA_WAIT.addr 0)).out = .readData (.host p) (Reg.SRM_SCR_DMA_WAIT.addr 0) 0 :: s.out := by
  unfold State.hostRead
  rw [if_neg (by simp [hon]), s.readWord_scratchWait _ hf]
  simp [State.emit]

/-- Refutes O16: SRM_SCR_DMA_WAIT is of access RC, but a read shows what the firmware counts and not the stored word. With 1 stored,
its island ON and no firmware running, RC_REGISTER_READ answers 0 where the first clause asks for 1. -/
theorem not_registerReadsAndWritesFollowTheAccessRules : ¬ Obligations.RegisterReadsAndWritesFollowTheAccessRules := by
  unfold Obligations.RegisterReadsAndWritesFollowTheAccessRules
  rintro ⟨rcReads, -⟩
  have hon : storedScratchWait.offAt (Reg.SRM_SCR_DMA_WAIT.addr 0) = false := by decide +kernel
  have hfw : storedScratchWait.fwRuns = false := by decide +kernel
  have hstored : storedScratchWait.getReg .SRM_SCR_DMA_WAIT 0 = 1#32 := State.getReg_setReg_self _ _ (by decide)
  obtain ⟨t, ht, -, hout⟩ := rcReads .A .SRM_SCR_DMA_WAIT 0 storedScratchWait rfl (by decide) hon
  obtain rfl : storedScratchWait.hostRead .A (Reg.SRM_SCR_DMA_WAIT.addr 0) = t := Host.Outcome.next.inj ht
  rw [State.hostRead_scratchWait_out _ _ hfw hon, hstored] at hout
  simp at hout

end Sys2Proof.Machine
end

section
/-! SUPPORT AND CLAIMS. The architecture statements (01_architecture.md): the passing of time on an empty queue, what holds a command
packet back, and the control-plane restart. -/

namespace Sys2Proof.Machine

/-! ### A nanosecond passes (R24) -/

/-- Serving the DRAM requests that wait takes no command from the queue. -/
theorem State.tick_pending (s : State) : s.tick.pending = s.pending := (State.tick_keeps s).fields .pending rfl

/-- A nanosecond is one nanosecond of device time: serving what waits takes none. -/
theorem State.tick_now (s : State) : s.tick.now = s.now + 1 := by
  unfold State.tick
  extract_lets later
  split
  · rfl
  · exact (KeepsLaws.foldl (fun u c => State.serveDmc_keeps u c _) (KeepsLaws.refl _ _ later)).fields .now rfl

/-- Where no request waits in a DRAM controller, nothing but device time passes. -/
theorem State.tick_of_no_request {s : State} (h : ∀ e ∈ s.mem.ch, e.2.queue = []) : s.tick = { s with now := s.now + 1 } := by
  unfold State.tick
  exact if_pos (List.all_eq_true.mpr fun e he => List.isEmpty_iff.mpr (h e he))

/-- Settles O2 (log 1): an idle step is a tick, which advances the time by one and leaves the queue alone. -/
theorem idleStepPassesOneNanosecond : Obligations.IdleStepPassesOneNanosecond := by
  unfold Obligations.IdleStepPassesOneNanosecond
  constructor
  · intro s idle
    exact ⟨s.tick, step_of_idle idle, s.tick_now, s.tick_pending.trans idle⟩
  · intro s idle empty
    rw [step_of_idle idle, State.tick_of_no_request empty]

/-! ### What holds a command packet back (R25, R71) -/

/-- The interpreter runs no packet during a restart, nor one other than the packet that it holds. -/
theorem State.canRun_eq_false {s : State} {r : Req} {op : Nat}
    (h : s.interp.restart.isSome = true ∨ ∃ k, s.interp.current = some k ∧ (k.req ≠ r ∨ k.opcode ≠ op)) : s.canRun r op = false := by
  unfold State.canRun
  obtain restarting | ⟨k, hk, other⟩ := h
  · simp [← Option.not_isSome, restarting]
  · have : (k.req == r && k.opcode == op) = false := by
      rw [Bool.and_eq_false_iff, beq_eq_false_iff_ne, beq_eq_false_iff_ne]; exact other
    simp [hk, this]

/-- The row of a command packet is `command` with the packet's header and opcode; only BOOT_LOAD may be left lying before that (R19, R20). -/
theorem exec_packet {i : Instr} {r : Req} {op : Nat} (s : State) (h : packet i = some (r, op)) :
    (op = 0x0102 ∧ exec i s = .next s) ∨ ∃ need bad c eff, exec i s = command op r s need bad c eff := by
  cases i with
  | bootLoad q b image =>
    obtain ⟨rfl, rfl⟩ := Prod.mk.inj (Option.some.inj h)
    dsimp only [exec, execBootLoad]
    split
    · exact .inl ⟨rfl, rfl⟩
    · exact .inr ⟨_, _, _, _, rfl⟩
  | devInfo | devBoardTable | eventMask | prfLoad | prfSelect | prfPinMode | prfStatus | eviConfig | cnyLimits |
      cnyLock | cnyHeadStyle | cnyStill | cnyHistory | ingMacConfig | ingContext | ingMerge | ingSdi | lodeUpdate |
      lodeRead | ingHostRing | ingInject | camPort | camContext | camParams | camDefects | camStatsRing | decSession |
      decRestart | cfKeyCopy | cfReserve | cfAlloc | encChannel | encKey | encStatsRing | lyConfig | lyPalette |
      lyColour | hdCompose | cmpCommit | cmpDiscard | gfxPool | gfxUpload | hdTiming | hdOutput | hdHold | hdDpAux |
      tmPtpConfig | tmPort | tmStep | refConfig | refDpll | refSelect | refPhase | audTdm | audAes3 | audRx | audTx |
      audClock | audRoute | audCsRead | tchConfig | tchReference | tchMap | tchRing | tchNoiseMode | tchRebase |
      tchSelftest | tchSnapshot | dmcTrain | dmcRetrainPeriod | memUsage | mpuEntry | mpuLock | chkRun | chkStop |
      fltRead | pairConfig | pairSwitch | pairDrill | pwrIsland | pwrThermWarn | slPrbs | slPrbsStop =>
    obtain ⟨rfl, rfl⟩ := Prod.mk.inj (Option.some.inj h)
    dsimp only [exec, execDevInfo, execDevBoardTable, execEventMask, execPrfLoad, execPrfSelect, execPrfPinMode,
      execPrfStatus, execEviConfig, execCnyLimits, execCnyLock, execCnyHeadStyle, execCnyStill, execCnyHistory,
      execIngMacConfig, execIngContext, execIngMerge, execIngSdi, execLodeUpdate, execLodeRead, execIngHostRing,
      execIngInject, execCamPort, execCamContext, execCamParams, execCamDefects, execCamStatsRing, execDecSession,
      execDecRestart, execCfKeyCopy, execCfReserve, execCfAlloc, execEncChannel, execEncKey, execEncStatsRing,
      execLyConfig, execLyPalette, execLyColour, execHdCompose, execCmpCommit, execCmpDiscard, execGfxPool,
      execGfxUpload, execHdTiming, execHdOutput, execHdHold, execHdDpAux, execTmPtpConfig, execTmPort, execTmStep,
      execRefConfig, execRefDpll, execRefSelect, execRefPhase, execAudTdm, execAudAes3, execAudRx, execAudTx,
      execAudClock, execAudRoute, execAudCsRead, execTchConfig, execTchReference, execTchMap, execTchRing,
      execTchNoiseMode, execTchRebase, execTchSelftest, execTchSnapshot, execDmcTrain, execDmcRetrainPeriod,
      execMemUsage, execMpuEntry, execMpuLock, execChkRun, execChkStop, execFltRead, execPairConfig, execPairSwitch,
      execPairDrill, execPwrIsland, execPwrThermWarn, execSlPrbs, execSlPrbsStop]
    exact .inr ⟨_, _, _, _, rfl⟩
  | _ => cases h

/-- Settles O7: `command` leaves the state of an interpreter that cannot run the packet. That a packet's row does nothing while another
packet is interpreted is the model's choice (log 41). -/
theorem noPacketRunsDuringARestart : Obligations.NoPacketRunsDuringARestart := by
  unfold Obligations.NoPacketRunsDuringARestart
  intro i r op s hpacket held
  obtain ⟨-, lying⟩ | ⟨need, bad, c, eff, runs⟩ := exec_packet s hpacket
  · exact lying
  · rw [runs, command_held (State.canRun_eq_false held)]

/-! ### The control-plane restart (R25) -/

/-- A restart opens: the packets of the interpreter are cut and come first when they start again, and pairs 0 and 1 are not watched. -/
def State.openRestart (s : State) : State :=
  { s with
    interp := { s.interp with
      current := none
      suspended := none
      again := (s.interp.current.toList ++ s.interp.suspended.toList).map (fun k => { k with restarted := true }) ++ s.interp.again
      restart := some s.now }
    flt := { s.flt with beats := Tbl.set (Tbl.set s.flt.beats 0 none) 1 none, graceSpent := false } }

/-- A restart closes: no reply is due any more, and pairs 0 and 1 run again (log 47). -/
def State.closeRestart (s : State) : State :=
  { s with
    interp := { s.interp with restart := none, due := [] }
    flt := { s.flt with halted := s.flt.halted.filter (fun p => 2 ≤ p) } }

/-- With firmware running and no restart open, CTRL_RESTART_BEGIN opens one, raises its event and discards the held sets. -/
theorem exec_ctrlRestartBegin {s : State} (hfw : s.fwRuns = true) (hr : s.interp.restart = none) :
    exec .ctrlRestartBegin s = .next ((List.range 24).foldl (fun u h => u.discardHeld h 2) (s.openRestart.restartEvent 0)) := by
  change execCtrlRestartBegin s = _
  unfold execCtrlRestartBegin
  rw [if_neg (by simp [hfw]), if_neg (by simp [hr])]
  rfl

/-- CTRL_RESTART_END of an open restart closes it, raises its event and writes the replies that fell due. -/
theorem exec_ctrlRestartEnd {s : State} (hr : s.interp.restart.isSome = true) :
    exec .ctrlRestartEnd s = .next (s.interp.due.foldl
      (fun u d => u.replyR d.req d.opcode d.status d.reason d.restarted d.body) (s.closeRestart.restartEvent 1)) := by
  change execCtrlRestartEnd s = _
  unfold execCtrlRestartEnd
  rw [if_neg (by simp [← Option.not_isSome, hr])]
  rfl

/-- What CTRL_RESTART_BEGIN does after the opening leaves the interpreter alone. -/
theorem State.restartDiscards_interp (s : State) :
    ((List.range 24).foldl (fun u h => u.discardHeld h 2) (s.restartEvent 0)).interp = s.interp :=
  (KeepsLaws.foldl (fun u h => State.discardHeld_keeps u h 2)
    (KeepsLaws.mono (s.restartEvent_keeps 0) (KeepsLaws.subI rfl rfl))).fields .interp rfl

/-- A reply outside a restart is written at once and touches the ports only. -/
theorem State.replyR_keeps_of_no_restart {s : State} (h : s.interp.restart = none) (r : Req) (op status reason : Nat) (rs : Bool)
    (body : List Byte) : Keeps 12 2686976 s (s.replyR r op status reason rs body) := by
  unfold State.replyR
  rw [h]
  exact KeepsLaws.comp (State.putReply_keeps ..) (State.freeTag_keeps ..) (KeepsLaws.subI rfl rfl)

/-- Outside a restart all replies that fell due are written, which touches the ports only. -/
theorem State.dueReplies_keeps (due : List DueReply) {s : State} (h : s.interp.restart = none) :
    Keeps 12 2686976 s (due.foldl (fun u d => u.replyR d.req d.opcode d.status d.reason d.restarted d.body) s) := by
  induction due generalizing s with
  | nil => exact KeepsLaws.refl ..
  | cons d due ih =>
    have first := State.replyR_keeps_of_no_restart h d.req d.opcode d.status d.reason d.restarted d.body
    have running : (s.replyR d.req d.opcode d.status d.reason d.restarted d.body).interp.restart = none := by
      rw [first.fields .interp rfl, h]
    exact KeepsLaws.trans first (ih running)

/-- What CTRL_RESTART_END does after the closing touches the ports only. -/
theorem State.restartReplies_keeps (due : List DueReply) {s : State} (h : s.interp.restart = none) :
    Keeps 12 2691072 s
      (due.foldl (fun u d => u.replyR d.req d.opcode d.status d.reason d.restarted d.body) (s.restartEvent 1)) := by
  have event := s.restartEvent_keeps 1
  have running : (s.restartEvent 1).interp.restart = none := by rw [event.fields .interp rfl, h]
  exact KeepsLaws.comp (KeepsLaws.mono event (KeepsLaws.subI rfl rfl)) (State.dueReplies_keeps due running)
    (KeepsLaws.subI rfl rfl)

/-- No port fetches during a restart. -/
theorem State.mayFetch_of_restart {s : State} {t : Nat} (h : s.interp.restart = some t) (p : Port) : s.mayFetch p = false := by
  simp [State.mayFetch, h]

/-- A closed restart leaves pairs 0 and 1 running. -/
theorem State.closeRestart_ctrlHalted (s : State) : s.closeRestart.ctrlHalted = false := by
  simp [State.ctrlHalted, State.closeRestart]

/-- Settles O14: the interpreter is as the opening leaves it, and at the end the replies that fell due touch the ports only. That the
end lets stopped pairs 0 and 1 run again is the model's choice (log 47). -/
theorem controlPlaneRestartHoldsPackets : Obligations.ControlPlaneRestartHoldsPackets := by
  unfold Obligations.ControlPlaneRestartHoldsPackets
  constructor
  · intro s hfw hr
    have hi := s.openRestart.restartDiscards_interp
    have opened := congrArg Interp.restart hi
    exact ⟨_, exec_ctrlRestartBegin hfw hr, opened, congrArg Interp.current hi, congrArg Interp.suspended hi,
      congrArg Interp.again hi, State.mayFetch_of_restart opened .A, State.mayFetch_of_restart opened .B⟩
  · intro s hr
    have kept := State.restartReplies_keeps s.interp.due (s := s.closeRestart) rfl
    have hi := kept.fields .interp rfl
    refine ⟨_, exec_ctrlRestartEnd hr, congrArg Interp.restart hi, congrArg Interp.due hi, ?_⟩
    unfold State.ctrlHalted
    rw [kept.fields .flt rfl]
    exact s.closeRestart_ctrlHalted

end Sys2Proof.Machine
end

section
/-! SUPPORT AND CLAIMS. What the interpreter does with a command packet (02_host_ports_commands.md): the front of the queue, the
prerequisites of R92 and the scopes of R77. -/

namespace Sys2Proof

/-- A mask below 2^n other than 0 names something. -/
theorem maskBits_ne_nil {m n : Nat} (hm : m ≠ 0) (hn : m < 2 ^ n) : maskBits m n ≠ [] := by
  obtain ⟨i, hi⟩ := Nat.exists_testBit_of_ne_zero hm
  have below : i < n := by
    by_contra h
    rw [Nat.testBit_lt_two_pow (hn.trans_le (Nat.pow_le_pow_right (by decide) (not_lt.mp h)))] at hi
    cases hi
  exact List.ne_nil_of_mem (List.mem_filter.mpr ⟨List.mem_range.mpr below, hi⟩)

/-- Bytes spell a number below 256 to their count. -/
theorem leNat_lt (l : List Byte) : leNat l < 256 ^ l.length := by
  induction l with
  | nil => decide
  | cons x l ih =>
    have := x.isLt
    rw [leNat, List.length_cons, Nat.pow_succ]
    omega

/-- A field of k bytes is below 256^k. -/
theorem Body.le_lt (b : Body) (off k : Nat) : b.le off k < 256 ^ k :=
  (leNat_lt _).trans_le (Nat.pow_le_pow_right (by decide) (List.length_take_le ..))

end Sys2Proof

namespace Sys2Proof.Machine

/-- Settles O1: it is what `step` does with a queue that is not empty. -/
theorem stepRunsTheFrontCommand : Obligations.StepRunsTheFrontCommand := by
  unfold Obligations.StepRunsTheFrontCommand
  intro s c rest waiting
  exact step_of_pending waiting

/-! ### A missing prerequisite (R20, R92) -/

/-- Without running firmware every group but 0x01 lacks its prerequisite (R92). -/
theorem State.notReady_of_no_firmware {s : State} {op : Nat} (hf : s.fwRuns = false) (hg : op / 256 ≠ 1) : s.notReady op = true := by
  simp [State.notReady, hf, hg]

/-- A missing prerequisite leaves NOTREADY, or one of the statuses that R20 ranks before it. -/
theorem firstStatus_of_notReady (bad denied : Bool) (c : Pre) :
    ∃ st x, firstStatus bad true denied c = some (st, x) ∧ (st = .CHECKFAIL ∨ st = .BADPARAM ∨ st = .NOTREADY) := by
  unfold firstStatus
  split
  · exact ⟨_, _, rfl, .inl rfl⟩
  · split
    · exact ⟨_, _, rfl, .inr (.inl rfl)⟩
    · exact ⟨_, _, rfl, .inr (.inr rfl)⟩

/-- Settles O8: a packet's row is `command`, whose first status is at the latest the NOTREADY of R92. -/
theorem firmwareMissingGivesNotReady : Obligations.FirmwareMissingGivesNotReady := by
  unfold Obligations.FirmwareMissingGivesNotReady
  intro i r op s hpacket group hrun hfw
  obtain ⟨rfl, -⟩ | ⟨need, bad, c, eff, runs⟩ := exec_packet s hpacket
  · exact absurd rfl group
  · obtain ⟨st, x, first, early⟩ := firstStatus_of_notReady bad (!scopesOk (s.heldAt r op) need) c
    rw [← State.notReady_of_no_firmware hfw group] at first
    exact ⟨st, x, _, _, runs.trans (command_status hrun first), early⟩

/-! ### A missing scope (R19, R76, R77) -/

/-- Holding nothing gives no scope that a command names. -/
theorem scopesOk_none {need : List Nat} (h : need ≠ []) : scopesOk 0 need = false := by
  obtain ⟨n, need, rfl⟩ := List.exists_cons_of_ne_nil h
  simp [scopesOk]

/-- Bad operands, a missing scope and a missing resource each leave a status other than OK (R19, R20). -/
theorem firstStatus_refuses {bad notReady denied : Bool} {c : Pre} (h : bad = true ∨ denied = true ∨ c.denied = true ∨ c.noRes = true) :
    ∃ st x, firstStatus bad notReady denied c = some (st, x) ∧ 0 < st.code := by
  unfold firstStatus
  split_ifs with h1 h2 h3 h4 h5 h6 h7
  case neg => exact absurd h (by simp_all)
  all_goals exact ⟨_, _, rfl, by decide⟩

/-- What O58 says of a row: its whole effect is one reply with a status other than OK. -/
def OnlyRefused (s : State) (r : Req) (op : Nat) (o : Host.Outcome State Fault Refusal) : Prop :=
  ∃ st reason body, 0 < st ∧ o = .next (s.endInterp.replyR r op st reason s.isRestarted body)

section

variable {s : State} {r : Req} {op : Nat} {need : List Nat} {bad : Bool} {c : Pre} {eff : State → Answer}

/-- A command that bad operands, a missing scope or a missing resource keep from executing is only refused. -/
theorem command_refused (hrun : s.canRun r op = true)
    (h : bad = true ∨ scopesOk (s.heldAt r op) need = false ∨ c.denied = true ∨ c.noRes = true) :
    OnlyRefused s r op (command op r s need bad c eff) := by
  obtain ⟨st, x, first, code⟩ := firstStatus_refuses (bad := bad) (notReady := s.notReady op) (denied := !scopesOk (s.heldAt r op) need)
    (c := c) (by simpa using h)
  exact ⟨st.code, x, c.rbody, code, command_status hrun first⟩

/-- A command that names a scope is only refused where its port holds none. -/
theorem command_unscoped (hrun : s.canRun r op = true) (held : s.heldAt r op = 0) (hneed : need ≠ []) :
    OnlyRefused s r op (command op r s need bad c eff) :=
  command_refused hrun (.inr (.inl (by rw [held]; exact scopesOk_none hneed)))

end

/-- CMP_COMMIT of no head is bad, and of some head it names their scopes. -/
theorem execCmpCommit_unscoped {s : State} {r : Req} (b : Body) (hrun : s.canRun r 0x4005 = true) (held : s.heldAt r 0x4005 = 0) :
    OnlyRefused s r 0x4005 (execCmpCommit r b s) := by
  unfold execCmpCommit
  by_cases none : maskBits (b.le 0 3) 24 = []
  · exact command_refused hrun (.inl (by simp [none]))
  · exact command_unscoped hrun held (by simpa using none)

/-- ENC_CHANNEL names the channel's scope, or a channel that does not exist. -/
theorem execEncChannel_unscoped {s : State} {r : Req} (b : Body) (hrun : s.canRun r 0x3801 = true) (held : s.heldAt r 0x3801 = 0) :
    OnlyRefused s r 0x3801 (execEncChannel r b s) := by
  unfold execEncChannel
  by_cases exists16 : b.u8 0 < 16
  · exact command_unscoped hrun held (by simp [exists16])
  · exact command_refused hrun (.inr (.inr (.inr (by simp; omega))))

/-- ENC_KEY of no channel is bad, and of some channel it names their scopes. -/
theorem execEncKey_unscoped {s : State} {r : Req} (b : Body) (hrun : s.canRun r 0x3802 = true) (held : s.heldAt r 0x3802 = 0) :
    OnlyRefused s r 0x3802 (execEncKey r b s) := by
  unfold execEncKey
  by_cases none : b.u16 0 = 0
  · exact command_refused hrun (.inl (by simp [none]))
  · exact command_unscoped hrun held (by simpa using maskBits_ne_nil none (Body.le_lt b 0 2))

/-- ENC_STATS_RING asks for the scope of any channel. -/
theorem execEncStatsRing_unscoped {s : State} {r : Req} (b : Body) (hrun : s.canRun r 0x3803 = true) (held : s.heldAt r 0x3803 = 0) :
    OnlyRefused s r 0x3803 (execEncStatsRing r b s) := by
  unfold execEncStatsRing
  exact command_refused hrun (.inr (.inr (.inl (by simp [held, anyChanScope]))))

/-- HD_TIMING names the scope of its head, or those of the heads of its gang. -/
theorem execHdTiming_unscoped {s : State} {r : Req} (b : Body) (hrun : s.canRun r 0x4801 = true) (held : s.heldAt r 0x4801 = 0) :
    OnlyRefused s r 0x4801 (execHdTiming r b s) := by
  unfold execHdTiming
  exact command_unscoped hrun held (by split_ifs <;> simp)

/-- The opcodes whose entry names no scope, or one by their operands alone (R77). -/
def scopeFree : List Nat :=
  [0x0101, 0x0102, 0x0201, 0x0304, 0x1005, 0x2011, 0x3003, 0x3011, 0x4006, 0x4810, 0x5811, 0x6008, 0x6803, 0x7020]

/-- A packet of any other opcode is only refused where its port holds no scope. -/
theorem exec_unscoped {i : Instr} {r : Req} {op : Nat} {s : State} (h : packet i = some (r, op)) (hrun : s.canRun r op = true)
    (held : s.heldAt r op = 0) (named : op ∉ scopeFree) : OnlyRefused s r op (exec i s) := by
  cases i with
  | cmpCommit q b =>
    obtain ⟨rfl, rfl⟩ := Prod.mk.inj (Option.some.inj h)
    exact execCmpCommit_unscoped b hrun held
  | encChannel q b =>
    obtain ⟨rfl, rfl⟩ := Prod.mk.inj (Option.some.inj h)
    exact execEncChannel_unscoped b hrun held
  | encKey q b =>
    obtain ⟨rfl, rfl⟩ := Prod.mk.inj (Option.some.inj h)
    exact execEncKey_unscoped b hrun held
  | encStatsRing q b =>
    obtain ⟨rfl, rfl⟩ := Prod.mk.inj (Option.some.inj h)
    exact execEncStatsRing_unscoped b hrun held
  | hdTiming q b =>
    obtain ⟨rfl, rfl⟩ := Prod.mk.inj (Option.some.inj h)
    exact execHdTiming_unscoped b hrun held
  | devInfo | bootLoad | eventMask | prfStatus | cnyHistory | lodeRead | cfKeyCopy | cfAlloc | cmpDiscard | hdDpAux | audCsRead |
      tchSnapshot | memUsage | fltRead =>
    obtain ⟨-, rfl⟩ := Prod.mk.inj (Option.some.inj h)
    exact absurd (by decide) named
  | devBoardTable | prfLoad | prfSelect | prfPinMode | eviConfig | cnyLimits | cnyLock | cnyHeadStyle | cnyStill | ingMacConfig |
      ingContext | ingMerge | ingSdi | lodeUpdate | ingHostRing | ingInject | camPort | camContext | camParams | camDefects |
      camStatsRing | decSession | decRestart | cfReserve | lyConfig | lyPalette | lyColour | hdCompose | gfxPool | gfxUpload |
      hdOutput | hdHold | tmPtpConfig | tmPort | tmStep | refConfig | refDpll | refSelect | refPhase | audTdm | audAes3 | audRx |
      audTx | audClock | audRoute | tchConfig | tchReference | tchMap | tchRing | tchNoiseMode | tchRebase | tchSelftest |
      dmcTrain | dmcRetrainPeriod | mpuEntry | mpuLock | chkRun | chkStop | pairConfig | pairSwitch | pairDrill | pwrIsland |
      pwrThermWarn | slPrbs | slPrbsStop =>
    obtain ⟨rfl, rfl⟩ := Prod.mk.inj (Option.some.inj h)
    dsimp only [exec, execDevBoardTable, execPrfLoad, execPrfSelect, execPrfPinMode, execEviConfig, execCnyLimits, execCnyLock,
      execCnyHeadStyle, execCnyStill, execIngMacConfig, execIngContext, execIngMerge, execIngSdi, execLodeUpdate, execIngHostRing,
      execIngInject, execCamPort, execCamContext, execCamParams, execCamDefects, execCamStatsRing, execDecSession, execDecRestart,
      execCfReserve, execLyConfig, execLyPalette, execLyColour, execHdCompose, execGfxPool, execGfxUpload, execHdOutput, execHdHold,
      execTmPtpConfig, execTmPort, execTmStep, execRefConfig, execRefDpll, execRefSelect, execRefPhase, execAudTdm, execAudAes3,
      execAudRx, execAudTx, execAudClock, execAudRoute, execTchConfig, execTchReference, execTchMap, execTchRing, execTchNoiseMode,
      execTchRebase, execTchSelftest, execDmcTrain, execDmcRetrainPeriod, execMpuEntry, execMpuLock, execChkRun, execChkStop,
      execPairConfig, execPairSwitch, execPairDrill, execPwrIsland, execPwrThermWarn, execSlPrbs, execSlPrbsStop]
    exact command_unscoped hrun held (List.cons_ne_nil _ _)
  | _ => cases h

/-- MPU_ENTRY with good operands and its prerequisites is DENIED where the port holds no scope. -/
theorem execMpuEntry_denied {s : State} {r : Req} {b : Body} (hrun : s.canRun r 0x7001 = true) (ready : s.notReady 0x7001 = false)
    (held : s.heldAt r 0x7001 = 0)
    (good : (b.length != 20 || (decide (255 < b.u16 0) && b.u16 0 != 0xFFFF) || decide (15 < b.u8 2) || !b.zero 3 1
      || decide (b.u32 8 < b.u32 4)) = false) :
    execMpuEntry r b s = .next (s.endInterp.replyR r 0x7001 2 0 s.isRestarted []) := by
  unfold execMpuEntry
  refine command_status (st := .DENIED) (reason := 0) hrun ?_
  rw [held, scopesOk_none (List.cons_ne_nil _ _), good, ready]
  rfl

/-- Settles O58: every other packet names a scope, or is bad, denied or without its channel where it names none. -/
theorem commandsWithoutScopesAreNotExecuted : Obligations.CommandsWithoutScopesAreNotExecuted := by
  unfold Obligations.CommandsWithoutScopesAreNotExecuted
  constructor
  · intro i r op s hpacket hrun held named
    exact exec_unscoped hpacket hrun held named
  · intro r b s hrun ready held length entry flags reserved order
    refine execMpuEntry_denied hrun ready held ?_
    simp [length, reserved]
    omega

end Sys2Proof.Machine
end

section
/-! SUPPORT AND CLAIMS. The host ports' registers (02_host_ports_commands.md): doorbell, ring and event control (R56, R62, R63, R97),
interrupt moderation (R69), status and the read indices of rings (R14, R620). -/

namespace Sys2Proof.Machine

/-! ### Register fields after other changes -/

section

variable (s : State) (p : Port) (r : Reg) (i hi lo k n : Nat) (f : HostPort → HostPort)

@[simp] theorem State.regBits_modPort : (s.modPort p f).regBits r i hi lo = s.regBits r i hi lo := State.regBits_congr (by simp) ..
@[simp] theorem State.regBit_modPort : (s.modPort p f).regBit r i k = s.regBit r i k := State.regBit_congr (by simp) ..
@[simp] theorem State.regBits_irq : (s.irq p n).regBits r i hi lo = s.regBits r i hi lo := rfl
@[simp] theorem State.regBit_irq : (s.irq p n).regBit r i k = s.regBit r i k := rfl

end

/-- Another bit of a register reads as before. -/
theorem State.regBit_setBit_ne (s : State) {r q : Reg} {i j k l : Nat} (b : Bool) (hk : k < 32) (d : r ≠ q ∨ i ≠ j ∨ k ≠ l) :
    (s.setBit r i k b).regBit q j l = s.regBit q j l :=
  State.regBit_setBits_ne s _ (le_refl k) hk (d.imp_right (.imp_right fun h => (Nat.lt_or_gt_of_ne h).symm))

/-- A field that holds no bit written reads as before. -/
theorem State.regBits_setBit_ne (s : State) {r q : Reg} {i j k hi lo : Nat} (b : Bool) (hk : k < 32) (hl : lo ≤ hi)
    (d : r ≠ q ∨ i ≠ j ∨ hi < k ∨ k < lo) : (s.setBit r i k b).regBits q j hi lo = s.regBits q j hi lo :=
  State.regBits_setBits_ne s _ (le_refl k) hk hl d

/-! ### The doorbell (R56) -/

/-- A doorbell offset in the forward order of the ring, or the last one again, becomes the last doorbell. -/
theorem State.doorbell_valid {s : State} {p : Port} {v : Word} (aligned : v.bits 17 0 % 4 = 0)
    (forward : s.span p (s.port p).lastDb ≤ s.span p (v.bits 17 0)) :
    ((s.doorbell p v).port p).lastDb = v.bits 17 0 ∧ (s.doorbell p v).out = s.out ∧ (s.doorbell p v).regs = s.regs := by
  unfold State.doorbell
  by_cases again : v.bits 17 0 = (s.port p).lastDb
  · rw [if_pos again]
    exact ⟨again.symm, rfl, rfl⟩
  · rw [if_neg again, if_neg (by omega)]
    simp

/-- An offset that is not a packet's place is a ring error. -/
theorem State.doorbell_invalid {s : State} {p : Port} {v : Word} (new : v.bits 17 0 ≠ (s.port p).lastDb)
    (bad : v.bits 17 0 % 4 ≠ 0 ∨ s.span p (v.bits 17 0) < s.span p (s.port p).lastDb) :
    s.doorbell p v = s.ringError p (v.bits 17 0) 0 := by
  unfold State.doorbell
  rw [if_neg new, if_pos bad]

/-- A ring error leaves the last doorbell of every port. -/
theorem State.ringError_lastDb (s : State) (p q : Port) (off kind : Nat) :
    ((s.ringError p off kind).port q).lastDb = (s.port q).lastDb := by
  have core := congrArg HostPort.lastDb (((s.setBit .HP_STATUS p.idx 3 true).irq p 2).core_event q 0x0204 (leBytes 4 off ++ leBytes 1 kind))
  simpa [HostPort.core, State.ringError] using core

/-- A ring error sets RING_ERR. -/
theorem State.ringError_status (s : State) (p : Port) (off kind : Nat) : (s.ringError p off kind).regBit .HP_STATUS p.idx 3 = true := by
  have kept := ((s.setBit .HP_STATUS p.idx 3 true).irq p 2).status_event 0x0204 (leBytes 4 off ++ leBytes 1 kind)
    (i := p.idx) (hi := 3) (lo := 3) (le_refl 3) (by decide)
  have set := s.regBit_setBit_self (r := .HP_STATUS) (i := p.idx) (k := 3) true p.idx_lt (by decide)
  unfold State.regBits at kept
  unfold State.regBit at set ⊢
  rw [State.ringError, kept]
  exact set

/-- A ring error sends vector 2. -/
theorem State.ringError_sends (s : State) (p : Port) (off kind : Nat) : Sends s (s.ringError p off kind) (.irq p 2) :=
  (Sends.after (KeepsLaws.setReg ..) (sends_irq (s.setBit .HP_STATUS p.idx 3 true) p 2)).keeps (State.event_keeps ..)

/-! ### Event-ring control (R62, R63, R97) -/

/-- EVT_EN set at an allowed size, field by field. -/
theorem State.evtOn_effect {s : State} {p : Port} (off : s.evtEn p = false) (least : 10 ≤ s.regBits .HP_EVT_SIZE p.idx 4 0)
    (most : s.regBits .HP_EVT_SIZE p.idx 4 0 ≤ 16) :
    (s.evtOn p).evtEn p = true ∧ ((s.evtOn p).port p).evtLog2 = s.regBits .HP_EVT_SIZE p.idx 4 0 ∧
      ((s.evtOn p).port p).evtBase = (s.getReg .HP_EVT_BASE_LO p.idx).toNat + 2 ^ 32 * (s.getReg .HP_EVT_BASE_HI p.idx).toNat ∧
      (s.evtOn p).regBits .HP_EVT_WR p.idx 15 0 = 0 ∧ (s.evtOn p).regBits .HP_EVT_RD p.idx 15 0 = 0 ∧
      ((s.evtOn p).port p).phase = true ∧ ((s.evtOn p).port p).seq = 0 := by
  unfold State.evtOn
  dsimp only
  rw [if_neg (by simp [off]; omega)]
  refine ⟨?_, by simp, by simp, ?_, ?_, by simp, by simp⟩
  · unfold State.evtEn
    rw [State.regBit_modPort, State.regBit_setBits_ne _ _ (by decide) (by decide) (.inl (by decide)),
      State.regBit_setBits_ne _ _ (by decide) (by decide) (.inl (by decide))]
    exact s.regBit_setBit_self true p.idx_lt (by decide)
  · rw [State.regBits_modPort, State.regBits_setBits_ne _ _ (by decide) (by decide) (by decide) (.inl (by decide))]
    exact State.regBits_setBits_self _ _ p.idx_lt (by decide) (by decide)
  · rw [State.regBits_modPort]
    exact State.regBits_setBits_self _ _ p.idx_lt (by decide) (by decide)

/-- The host's read index stands in HP_EVT_RD, whatever the ring's overflow event writes. -/
theorem State.evtRead_index (s : State) (p : Port) (v : Word) : (s.evtRead p v).regBits .HP_EVT_RD p.idx 15 0 = v.bits 15 0 := by
  unfold State.evtRead
  rw [(State.noteOverflow_keeps ..).regBits, State.regBits_setBits_self _ _ p.idx_lt (by decide) (by decide)]
  exact Nat.mod_eq_of_lt (v.bits_lt 15 0)

/-- RING_RESET moves HP_CMD_RD to the last doorbell. -/
theorem State.ringReset_cmdRd (s : State) (p : Port) : (s.ringReset p).cmdRd p = (s.port p).lastDb % ringSize :=
  State.regBits_setBits_self _ _ p.idx_lt (by decide) (by decide)

/-- Settles O9: each row is the register operation of its name. -/
theorem ringAndEventControlWritesTakeEffect : Obligations.RingAndEventControlWritesTakeEffect := by
  unfold Obligations.RingAndEventControlWritesTakeEffect
  refine ⟨?_, ?_, ?_, ?_, ?_, ?_, ?_⟩
  · intro p v s aligned forward
    exact ⟨_, rfl, State.doorbell_valid aligned forward⟩
  · intro p v s new bad
    refine ⟨s.ringError p (v.bits 17 0) 0, congrArg Host.Outcome.next (State.doorbell_invalid new bad), ?_⟩
    exact ⟨s.ringError_lastDb p p _ _, s.ringError_status p _ _, s.ringError_sends p _ _⟩
  · intro p s
    exact ⟨_, rfl, s.ringReset_cmdRd p, State.setBits_out ..⟩
  · intro p s off least most
    exact ⟨_, rfl, State.evtOn_effect off least most⟩
  · intro p s
    exact ⟨_, rfl, s.regBit_setBit_self false p.idx_lt (by decide), s.regBit_setBit_ne _ (by decide) (.inr (.inr (by decide))),
      State.setBit_out ..⟩
  · intro p on s
    exact ⟨_, rfl, s.regBit_setBit_self on p.idx_lt (by decide), s.regBit_setBit_ne _ (by decide) (.inr (.inr (by decide))),
      State.setBit_out ..⟩
  · intro p v s
    exact ⟨_, rfl, s.evtRead_index p v⟩

end Sys2Proof.Machine
end

section
/-! SUPPORT AND CLAIMS. The semaphore (02_host_ports_commands.md): requests and ties (R76, R78, R79, R98), releases (R80). -/

namespace Sys2Proof

/-- Taking out bits that are not set changes nothing. -/
theorem and_not_of_and_eq_zero {w : Nat} {a m : BitVec w} (h : a &&& m = 0) : a &&& ~~~m = a := by
  refine BitVec.eq_of_getLsbD_eq fun i hi => ?_
  have apart := congrArg (BitVec.getLsbD · i) h
  rw [BitVec.getLsbD_and, BitVec.getLsbD_not]
  rw [BitVec.getLsbD_and] at apart
  cases ha : a.getLsbD i <;> simp [ha, hi] at apart ⊢
  exact apart

/-- A field within a written one reads as those bits of what was written. -/
theorem Word.bits_setBits_within (v : Word) {hi lo h2 l2 : Nat} (n : Nat) (hl : lo ≤ l2) (h22 : l2 ≤ h2) (hh : h2 ≤ hi) (h32 : hi < 32) :
    (v.setBits hi lo n).bits h2 l2 = n / 2 ^ (l2 - lo) % 2 ^ (h2 - l2 + 1) := by
  apply Nat.eq_of_testBit_eq
  intro k
  rw [Word.testBit_bits, Nat.testBit_mod_two_pow, Nat.testBit_div_two_pow, Word.getLsbD_setBits _ _ _ (by omega) h32]
  by_cases h : k ≤ h2 - l2
  · rw [if_pos (by omega)]
    simp [h, Nat.lt_succ_of_le h, show l2 + k - lo = k + (l2 - lo) by omega]
  · simp [h, show ¬ k < h2 - l2 + 1 by omega]

end Sys2Proof

namespace Sys2Proof.Machine

/-! ### Scopes after other changes -/

/-- What leaves the semaphore alone leaves the scopes of both ports. -/
theorem Keeps.heldOf {F R : Nat} {s t : State} (k : Keeps F R s t) (p : Port) (h : F.testBit Field.sem.ctorIdx = false := by rfl) :
    t.heldOf p = s.heldOf p :=
  State.heldOf_congr (k.fields .sem h) p

/-! ### Releases (R80) -/

/-- The mask of a scope has its bit alone. -/
theorem getLsbD_scopeBit {n : Nat} (hn : n < 64) (i : Nat) : (scopeBit n).getLsbD i = decide (n = i) := by
  rw [scopeBit, BitVec.getLsbD_ofNat, Nat.testBit_two_pow]
  by_cases e : n = i
  · simp [← e, hn]
  · simp [e]

/-- A scope that a port does not hold is not among its scopes. -/
theorem State.heldOf_and_scopeBit {s : State} {p : Port} {n : Nat} (hn : n < 64) (h : s.holds p n = false) :
    s.heldOf p &&& scopeBit n = 0 := by
  refine BitVec.eq_of_getLsbD_eq fun i _ => ?_
  rw [BitVec.getLsbD_and, getLsbD_scopeBit hn]
  by_cases e : n = i
  · subst e
    rw [show (s.heldOf p).getLsbD n = false from h, Bool.false_and]
    exact BitVec.getLsbD_zero.symm
  · simp [e]

/-- Scopes that a port does not hold cannot leave it. -/
theorem State.releaseScopes_none {s : State} {p : Port} {mask : BitVec 64} (h : s.heldOf p &&& mask = 0) (forced : Bool) :
    s.releaseScopes p mask forced = s := by
  unfold State.releaseScopes
  dsimp only
  rw [if_pos h]

/-- What a release does after the scopes have left: signals, the event of a forced one, and the discards of held sets. -/
theorem State.releaseScopes_after {s : State} {p : Port} {mask : BitVec 64} (h : s.heldOf p &&& mask ≠ 0) (forced : Bool) :
    Keeps 1048588 274031556999544297163190906134303066185487945728 (s.setHeld p (s.heldOf p &&& ~~~mask)) (s.releaseScopes p mask forced) := by
  unfold State.releaseScopes
  dsimp only
  rw [if_neg h]
  refine KeepsLaws.comp ?_ (State.discardLost_keeps ..) (KeepsLaws.subI rfl rfl)
  split_ifs
  · refine KeepsLaws.comp ?_ (State.irq_keeps ..) (KeepsLaws.subI rfl rfl)
    refine KeepsLaws.comp ?_ (State.irq_keeps ..) (KeepsLaws.subI rfl rfl)
    exact KeepsLaws.mono (State.eventTo_keeps ..) (KeepsLaws.subI rfl rfl)
  · exact KeepsLaws.mono (State.irq_keeps ..) (KeepsLaws.subI rfl rfl)

/-- A release takes the scopes of its mask from its port. -/
theorem State.releaseScopes_self (s : State) (p : Port) (mask : BitVec 64) (forced : Bool) :
    (s.releaseScopes p mask forced).heldOf p = s.heldOf p &&& ~~~mask := by
  by_cases h : s.heldOf p &&& mask = 0
  · rw [State.releaseScopes_none h, and_not_of_and_eq_zero h]
  · rw [(State.releaseScopes_after h forced).heldOf]
    exact s.heldOf_setHeld_self p _

/-- A release takes no scope from the other port. -/
theorem State.releaseScopes_other (s : State) (p : Port) (mask : BitVec 64) (forced : Bool) :
    (s.releaseScopes p mask forced).heldOf p.other = s.heldOf p.other := by
  by_cases h : s.heldOf p &&& mask = 0
  · rw [State.releaseScopes_none h]
  · rw [(State.releaseScopes_after h forced).heldOf]
    exact s.heldOf_setHeld_other p _

/-- A release of every scope leaves the port none. -/
theorem State.releaseScopes_all (s : State) (p : Port) (forced : Bool) : (s.releaseScopes p (BitVec.allOnes 64) forced).heldOf p = 0 := by
  rw [State.releaseScopes_self, BitVec.not_allOnes]
  exact BitVec.and_zero

/-- SEM_REL of one scope takes that scope alone. -/
theorem State.semRelease_one {s : State} {p : Port} {v : Word} (h : v.bits 6 0 < 64) :
    s.semRelease p v = s.releaseScopes p (scopeBit (v.bits 6 0)) false := by
  unfold State.semRelease
  dsimp only
  rw [if_neg (by omega), if_neg (by omega)]

/-- SEM_REL of 0x40 takes every scope. -/
theorem State.semRelease_all {s : State} {p : Port} {v : Word} (h : v.bits 6 0 = 64) :
    s.semRelease p v = s.releaseScopes p (BitVec.allOnes 64) false := by
  unfold State.semRelease
  dsimp only
  rw [if_pos h]

/-- SEM_REL of a value that names nothing has no effect. -/
theorem State.semRelease_none {s : State} {p : Port} {v : Word} (h : 64 < v.bits 6 0) : s.semRelease p v = s := by
  unfold State.semRelease
  dsimp only
  rw [if_neg (by omega), if_pos h]

/-- Settles O12: every release is `releaseScopes` with the mask of what it names. -/
theorem scopesAreReleased : Obligations.ScopesAreReleased := by
  unfold Obligations.ScopesAreReleased
  refine ⟨?_, ?_, ?_, ?_⟩
  · intro p v s one
    refine ⟨s.releaseScopes p (scopeBit (v.bits 6 0)) false, congrArg _ (State.semRelease_one one), s.releaseScopes_self .., s.releaseScopes_other ..,
      fun free => State.releaseScopes_none (State.heldOf_and_scopeBit one free) false⟩
  · intro p v s all
    exact ⟨s.releaseScopes p (BitVec.allOnes 64) false, congrArg _ (State.semRelease_all all), s.releaseScopes_all .., s.releaseScopes_other ..⟩
  · intro p v s none
    exact congrArg _ (State.semRelease_none none)
  · intro p s
    exact ⟨_, rfl, s.releaseScopes_all .., s.releaseScopes_other ..⟩

/-! ### Requests (R78, R98) -/

/-- R78's rule: the port holds the scope already, or the other port holds neither it nor a scope that excludes it. -/
def State.grants (s : State) (p : Port) (n : Nat) : Bool :=
  s.holds p n || (!s.holds p.other n && (if n = 0 then decide (s.heldOf p.other = 0) else !s.holds p.other 0))

/-- WHY is 0 exactly when R78 grants. -/
theorem semWhy_eq_zero (s : State) (p : Port) (n : Nat) : (semWhy (s.heldOf p) (s.heldOf p.other) n == 0) = s.grants p n := by
  unfold semWhy State.grants State.holds
  by_cases zero : n = 0
  · subst zero
    split_ifs <;> simp_all
  · split_ifs <;> simp_all

/-- SEM_RESULT after a decision: SEQ one higher, WHY, the decision and the scope (R98). -/
def State.semShown (s : State) (p : Port) (n why : Nat) (granted : Bool) : State :=
  (s.addWrapBits .SEM_RESULT p.idx 31 16 1).setBits .SEM_RESULT p.idx 15 0 (256 * why + 128 * bit01 granted + n)

section

variable (s : State) (p : Port) {n why : Nat} (granted : Bool)

/-- A field of SEM_RESULT below SEQ is that of the number written there. -/
theorem State.semShown_low {hi lo : Nat} (hl : lo ≤ hi) (hh : hi ≤ 15) :
    (s.semShown p n why granted).regBits .SEM_RESULT p.idx hi lo = (256 * why + 128 * bit01 granted + n) / 2 ^ lo % 2 ^ (hi - lo + 1) := by
  unfold State.semShown State.regBits
  rw [State.setBits, State.getReg_setReg_self _ _ p.idx_lt, Word.bits_setBits_within _ _ (Nat.zero_le lo) hl hh (by decide), Nat.sub_zero]

theorem State.semShown_scope (hn : n < 64) : (s.semShown p n why granted).regBits .SEM_RESULT p.idx 6 0 = n := by
  rw [State.semShown_low _ _ _ (by decide) (by decide)]
  omega

theorem State.semShown_decision (hn : n < 64) : (s.semShown p n why granted).regBit .SEM_RESULT p.idx 7 = granted := by
  unfold State.regBit
  rw [← State.regBits, State.semShown_low _ _ _ (by decide) (by decide)]
  cases granted <;> simp [bit01] <;> omega

theorem State.semShown_why (hn : n < 64) (hw : why < 256) : (s.semShown p n why granted).regBits .SEM_RESULT p.idx 15 8 = why := by
  rw [State.semShown_low _ _ _ (by decide) (by decide)]
  cases granted <;> simp [bit01] <;> omega

theorem State.semShown_seq : (s.semShown p n why granted).regBits .SEM_RESULT p.idx 31 16 = (s.regBits .SEM_RESULT p.idx 31 16 + 1) % 2 ^ 16 := by
  unfold State.semShown
  rw [State.regBits_setBits_ne _ _ (by decide) (by decide) (by decide) (.inr (.inr (.inr (by decide)))), State.addWrapBits,
    State.regBits_setBits_self _ _ p.idx_lt (by decide) (by decide), Nat.mod_mod]

end

/-- WHY of a decision (R98): that of the rule, or 3 when the port would have had the scope but for the other port's win in a tie. -/
def State.semReason (s : State) (p : Port) (n : Nat) (before : Option (BitVec 64)) : Nat :=
  let w := semWhy (s.heldOf p) (s.heldOf p.other) n
  if w != 0 && before.any (fun b => semWhy (s.heldOf p) b n == 0) then 3 else w

/-- A decision shows itself, and gives the port a scope that it is granted and does not hold. -/
theorem State.semDecide_eq (s : State) (p : Port) (n : Nat) (before : Option (BitVec 64)) :
    s.semDecide p n before =
      let shown := s.semShown p n (s.semReason p n before) (s.grants p n)
      if s.grants p n ∧ !s.holds p n then (shown.setHeld p (s.heldOf p ||| scopeBit n)).irq p.other 3 else shown := by
  unfold State.semDecide State.semReason State.semShown
  rw [← semWhy_eq_zero]
  cases before <;> simp only [beq_iff_eq, Option.any_none, Option.any_some]

section

variable (s : State) (p : Port) (n : Nat) (before : Option (BitVec 64))

/-- The registers after a decision are those of its showing. -/
theorem State.semDecide_getReg (r : Reg) (i : Nat) :
    (s.semDecide p n before).getReg r i = (s.semShown p n (s.semReason p n before) (s.grants p n)).getReg r i := by
  rw [State.semDecide_eq]
  dsimp only
  split_ifs <;> simp

/-- A granted scope is held afterwards; a refusal changes no scope of the port. -/
theorem State.semDecide_self (hn : n < 64) :
    (s.semDecide p n before).heldOf p = if s.grants p n then s.heldOf p ||| scopeBit n else s.heldOf p := by
  have shown (why : Nat) (g : Bool) : (s.semShown p n why g).heldOf p = s.heldOf p := State.heldOf_congr (by simp [State.semShown]) p
  rw [State.semDecide_eq]
  dsimp only
  cases granted : s.grants p n
  · simpa using shown _ _
  · cases held : s.holds p n
    · simp [State.irq, State.emit]
      exact State.heldOf_setHeld_self ..
    · have again : s.heldOf p ||| scopeBit n = s.heldOf p := by
        refine BitVec.eq_of_getLsbD_eq fun i _ => ?_
        rw [BitVec.getLsbD_or, getLsbD_scopeBit hn]
        by_cases e : n = i
        · subst e
          rw [show (s.heldOf p).getLsbD n = true from held, Bool.true_or]
        · simp [e]
      simpa [again] using shown _ _

/-- A decision changes no scope of the other port. -/
theorem State.semDecide_other : (s.semDecide p n before).heldOf p.other = s.heldOf p.other := by
  have shown (why : Nat) (g : Bool) : (s.semShown p n why g).heldOf p.other = s.heldOf p.other :=
    State.heldOf_congr (by simp [State.semShown]) p.other
  rw [State.semDecide_eq]
  dsimp only
  split_ifs
  · exact (State.heldOf_setHeld_other ..).trans (shown _ _)
  · exact shown _ _

theorem State.semDecide_regBits (r : Reg) (i hi lo : Nat) :
    (s.semDecide p n before).regBits r i hi lo = (s.semShown p n (s.semReason p n before) (s.grants p n)).regBits r i hi lo := by
  unfold State.regBits
  rw [State.semDecide_getReg]

theorem State.semDecide_regBit (r : Reg) (i k : Nat) :
    (s.semDecide p n before).regBit r i k = (s.semShown p n (s.semReason p n before) (s.grants p n)).regBit r i k := by
  unfold State.regBit
  rw [State.semDecide_getReg]

/-- A decision shows itself to its own port alone. -/
theorem State.semDecide_getReg_ne {r : Reg} {i : Nat} (h : r ≠ .SEM_RESULT ∨ i ≠ p.idx) : (s.semDecide p n before).getReg r i = s.getReg r i := by
  have h' : Reg.SEM_RESULT ≠ r ∨ p.idx ≠ i := h.imp Ne.symm Ne.symm
  rw [State.semDecide_getReg]
  unfold State.semShown State.addWrapBits State.setBits
  rw [State.getReg_setReg_ne _ _ h', State.getReg_setReg_ne _ _ h']

theorem State.semDecide_regBit_ne {r : Reg} {i k : Nat} (h : r ≠ .SEM_RESULT ∨ i ≠ p.idx) :
    (s.semDecide p n before).regBit r i k = s.regBit r i k := by
  unfold State.regBit
  rw [State.semDecide_getReg_ne _ _ _ _ h]

end

/-! ### Ties (R79) -/

/-- Ports that hold nothing share nothing. -/
theorem State.heldOf_free {s : State} (a : s.heldOf .A = 0) (b : s.heldOf .B = 0) (p : Port) : s.heldOf p = 0 := by
  cases p
  · exact a
  · exact b

/-- While both ports hold nothing a request is granted. -/
theorem State.grants_free {s : State} (free : ∀ p, s.heldOf p = 0) (p : Port) (n : Nat) : s.grants p n = true := by
  simp [State.grants, State.holds, free]

section

variable {s : State} {q : Port} {n : Nat}

/-- The port that decides second in a tie holds nothing, and the scope is the other port's: it loses, with WHY 3. -/
theorem State.tie_lost (hn : n < 64) (mine : s.heldOf q = 0) (theirs : s.heldOf q.other = scopeBit n) :
    s.grants q n = false ∧ s.semReason q n (some 0) = 3 := by
  have held : (scopeBit n).getLsbD n = true := by rw [getLsbD_scopeBit hn]; simp
  constructor
  · simp [State.grants, State.holds, mine, theirs, held]
  · simp [State.semReason, semWhy, mine, theirs, held]

/-- The first port's decision of a tie, and the second's after it. -/
def State.tieDecided (s : State) (q : Port) (n : Nat) : State := (s.semDecide q n none).semDecide q.other n (some 0)

theorem State.tieDecided_effect (hn : n < 64) (free : ∀ p, s.heldOf p = 0) :
    (s.tieDecided q n).heldOf q = scopeBit n ∧ (s.tieDecided q n).heldOf q.other = 0 ∧
      (s.tieDecided q n).regBit .SEM_RESULT q.idx 7 = true ∧ (s.tieDecided q n).regBit .SEM_RESULT q.other.idx 7 = false ∧
      (s.tieDecided q n).regBits .SEM_RESULT q.other.idx 15 8 = 3 := by
  have first : (s.semDecide q n none).heldOf q = scopeBit n := by
    rw [State.semDecide_self _ _ _ _ hn, State.grants_free free, if_pos rfl, free]
    exact BitVec.zero_or
  have second : (s.semDecide q n none).heldOf q.other = 0 := by rw [State.semDecide_other, free]
  obtain ⟨refused, why⟩ := State.tie_lost (s := s.semDecide q n none) (q := q.other) hn second (by rw [Port.other_other]; exact first)
  refine ⟨?_, ?_, ?_, ?_, ?_⟩
  · have kept := State.semDecide_other (s.semDecide q n none) q.other n (some 0)
    rw [Port.other_other] at kept
    exact kept.trans first
  · rw [State.tieDecided, State.semDecide_self _ _ _ _ hn, refused]
    exact second
  · rw [State.tieDecided, State.semDecide_regBit_ne _ _ _ _ (.inr fun e => q.ne_other (Port.idx_inj e)), State.semDecide_regBit,
      State.semShown_decision _ _ _ hn, State.grants_free free]
  · rw [State.tieDecided, State.semDecide_regBit, State.semShown_decision _ _ _ hn, refused]
  · rw [State.tieDecided, State.semDecide_regBits, why, State.semShown_why _ _ _ hn (by decide)]

/-- In a tie for one scope the port of SEM_TIE.PRIO decides first; then PRIO flips and the ties are counted. -/
theorem State.semBoth_same (hq : q = portOf (s.regBits .SEM_TIE 0 0 0)) (free : s.heldOf q = 0) :
    s.semBoth n n = ((s.tieDecided q n).setBit .SEM_TIE 0 0 (!s.regBit .SEM_TIE 0 0)).addSatBits .SEM_TIE 0 31 1 1 := by
  unfold State.semBoth State.tieDecided
  rw [if_pos (by simp [semTie]), ← hq]
  simp only [free, ite_self]

end

/-- Settles O11: a lone request is one decision; in a tie the port of PRIO decides first and wins, since both are free. -/
theorem semaphoreRequestsAreGrantedOrRefused : Obligations.SemaphoreRequestsAreGrantedOrRefused := by
  unfold Obligations.SemaphoreRequestsAreGrantedOrRefused
  constructor
  · intro p v s n grant
    have hn : n < 64 := v.bits_lt 5 0
    refine ⟨_, rfl, s.semDecide_self p n none hn, s.semDecide_other p n none, ?_, ?_, ?_⟩
    · rw [State.semDecide_regBits, State.semShown_scope _ _ _ hn]
    · rw [State.semDecide_regBit, State.semShown_decision _ _ _ hn]
      rfl
    · rw [State.semDecide_regBits, State.semShown_seq]
  · intro p q v s freeA freeB hq
    have free := State.heldOf_free freeA freeB
    obtain ⟨won, lost, granted, refused, why⟩ := State.tieDecided_effect (s := s) (q := q) (v.bits_lt 5 0) free
    have result : exec (.semReq p v (some v)) s = .next (s.semBoth (v.bits 5 0) (v.bits 5 0)) := congrArg Host.Outcome.next (ite_self _)
    rw [State.semBoth_same hq (free q)] at result
    have tie (t : State) : Keeps 0 (2 ^ Reg.SEM_TIE.ctorIdx) t ((t.setBit .SEM_TIE 0 0 (!s.regBit .SEM_TIE 0 0)).addSatBits .SEM_TIE 0 31 1 1) :=
      KeepsLaws.stepAddSatBits (KeepsLaws.stepSetBit (KeepsLaws.refl ..) (KeepsLaws.bitI rfl)) (KeepsLaws.bitI rfl)
    refine ⟨_, result, ?_, ?_, ?_, ?_, ?_, ?_⟩
    · rw [(tie _).heldOf, won]
      rfl
    · rw [(tie _).heldOf, lost]
    · rw [(tie _).regBit, granted]
    · rw [(tie _).regBit, refused]
    · rw [(tie _).regBits, why]
    · rw [State.addSatBits, State.regBit_setBits_ne _ _ (by decide) (by decide) (.inr (.inr (.inl (by decide))))]
      exact State.regBit_setBit_self _ _ (by decide) (by decide)

end Sys2Proof.Machine
end

section
/-! SUPPORT AND CLAIMS. Links and resets of the host ports (02_host_ports_commands.md R75, R81, R97). -/

namespace Sys2Proof.Machine

/-! ### The link (R97) -/

section

variable (s : State) (p : Port) (up : Bool) (width speed : Nat)

/-- The event of a link change finds the port as the change has left it. -/
theorem State.core_setLink :
    ((s.setLink p up width speed).port p).core =
      { (s.port p) with linkUp := up, downSince := if up then none else some s.now }.core := by
  unfold State.setLink
  dsimp only
  rw [State.core_event, State.port_modPort_self]
  simp

/-- A link change shows in HP_STATUS. -/
theorem State.setLink_up : (s.setLink p up width speed).regBit .HP_STATUS p.idx 0 = up := by
  unfold State.regBit
  rw [← State.regBits]
  unfold State.setLink
  dsimp only
  rw [State.status_event _ _ _ (le_refl 0) (.inl (by decide)), State.regBits_modPort]
  exact State.regBit_setBit_self _ up p.idx_lt (by decide)

theorem State.setLink_width (h : width < 8) : (s.setLink p up width speed).regBits .HP_STATUS p.idx 10 8 = width := by
  unfold State.setLink
  dsimp only
  rw [State.status_event _ _ _ (by decide) (.inr (by decide)), State.regBits_modPort,
    State.regBits_setBit_ne _ _ (by decide) (by decide) (.inr (.inr (.inr (by decide)))),
    State.regBits_setBits_ne _ _ (by decide) (by decide) (by decide) (.inr (.inr (.inr (by decide)))),
    State.regBits_setBits_self _ _ p.idx_lt (by decide) (by decide)]
  exact Nat.mod_eq_of_lt h

theorem State.setLink_speed (h : speed < 16) : (s.setLink p up width speed).regBits .HP_STATUS p.idx 7 4 = speed := by
  unfold State.setLink
  dsimp only
  rw [State.status_event _ _ _ (by decide) (.inr (by decide)), State.regBits_modPort,
    State.regBits_setBit_ne _ _ (by decide) (by decide) (.inr (.inr (.inr (by decide)))),
    State.regBits_setBits_self _ _ p.idx_lt (by decide) (by decide)]
  exact Nat.mod_eq_of_lt h

end

/-- A link that leaves L0 goes down now. -/
theorem State.linkLeave_down {s : State} {p : Port} (h : (s.port p).linkUp = true) :
    ((s.linkLeave p).port p).linkUp = false ∧ ((s.linkLeave p).port p).downSince = some s.now ∧
      (s.linkLeave p).regBit .HP_STATUS p.idx 0 = false := by
  unfold State.linkLeave
  rw [if_pos h]
  have core := State.core_setLink { s with sl := { s.sl with sends := (portLanes p).foldl (fun t l => Tbl.set t l none) s.sl.sends } } p false 0 0
  exact ⟨congrArg HostPort.linkUp core, congrArg HostPort.downSince core, State.setLink_up ..⟩

/-- A link that trains to L0 comes up at its width and rate. -/
theorem State.linkTrain_up (s : State) (p : Port) {width speed : Nat} (asked : List (Nat × Nat)) (hw : width < 8) (hg : speed < 16) :
    ((s.linkTrain p width speed asked).port p).linkUp = true ∧ ((s.linkTrain p width speed asked).port p).downSince = none ∧
      (s.linkTrain p width speed asked).regBit .HP_STATUS p.idx 0 = true ∧
      (s.linkTrain p width speed asked).regBits .HP_STATUS p.idx 10 8 = width ∧
      (s.linkTrain p width speed asked).regBits .HP_STATUS p.idx 7 4 = speed := by
  unfold State.linkTrain
  dsimp only
  have core (u : State) := State.core_setLink u p true width speed
  exact ⟨congrArg HostPort.linkUp (core _), congrArg HostPort.downSince (core _), State.setLink_up .., State.setLink_width _ _ _ _ _ hw,
    State.setLink_speed _ _ _ _ _ hg⟩

/-! ### A forced release (R81) -/

/-- A forced release of scopes that were held sends vector 3 to the other port. -/
theorem State.releaseScopes_sends {s : State} {p : Port} {mask : BitVec 64} (h : s.heldOf p &&& mask ≠ 0) :
    Sends s (s.releaseScopes p mask true) (.irq p.other 3) := by
  unfold State.releaseScopes
  dsimp only
  rw [if_neg h, if_pos rfl]
  refine (Sends.after (F := 44) (R := 593920) ?_ (sends_irq _ _ _)).keeps (State.discardLost_keeps ..)
  refine KeepsLaws.comp ?_ (State.irq_keeps ..) (KeepsLaws.subI rfl rfl)
  refine KeepsLaws.comp ?_ (State.eventTo_keeps ..) (KeepsLaws.subI rfl rfl)
  exact KeepsLaws.mono (State.setHeld_keeps ..) (KeepsLaws.subI rfl rfl)

/-! ### A port after its reset (R75) -/

/-- The rings of a port are empty and closed, and no fetched packet waits. -/
structure State.Emptied (s : State) (p : Port) : Prop where
  fetched : (s.port p).fetched = []
  lastDb : (s.port p).lastDb = 0
  cmdRd : s.cmdRd p = 0
  evtWr : s.regBits .HP_EVT_WR p.idx 15 0 = 0
  ctl : s.getReg .HP_CTL p.idx = 0#32

/-- The registers of `Emptied`. -/
def emptiedRegs : List Reg := [.HP_CMD_RD, .HP_EVT_WR, .HP_CTL]

/-- A change that keeps the port's ring places and ring registers keeps it emptied. -/
theorem State.Emptied.congr {s t : State} {p : Port} (h : s.Emptied p) (hf : (t.port p).fetched = (s.port p).fetched)
    (hl : (t.port p).lastDb = (s.port p).lastDb) (hr : ∀ r ∈ emptiedRegs, t.getReg r p.idx = s.getReg r p.idx) : t.Emptied p := by
  obtain ⟨fetched, lastDb, cmdRd, evtWr, ctl⟩ := h
  unfold State.cmdRd at cmdRd
  unfold State.regBits at cmdRd evtWr
  refine ⟨hf.trans fetched, hl.trans lastDb, ?_, ?_, ?_⟩
  · unfold State.cmdRd State.regBits
    rw [hr _ (by simp [emptiedRegs]), cmdRd]
  · unfold State.regBits
    rw [hr _ (by simp [emptiedRegs]), evtWr]
  · rw [hr _ (by simp [emptiedRegs]), ctl]

/-- What touches neither the ports nor those registers keeps a port emptied. -/
theorem State.Emptied.keeps {F R : Nat} {s t : State} {p : Port} (h : s.Emptied p) (k : Keeps F R s t)
    (hA : F.testBit Field.portA.ctorIdx = false := by rfl) (hB : F.testBit Field.portB.ctorIdx = false := by rfl)
    (hr : ∀ r ∈ emptiedRegs, R.testBit r.ctorIdx = false := by decide) : t.Emptied p := by
  have port := State.port_congr (k.fields .portA hA) (k.fields .portB hB) p
  exact h.congr (by rw [port]) (by rw [port]) fun r hm => k.reg (hr r hm)

theorem State.Emptied.setReg {s : State} {p : Port} (h : s.Emptied p) {r : Reg} (hr : r ∉ emptiedRegs) (i : Nat) (v : Word) :
    (s.setReg r i v).Emptied p :=
  h.congr (by simp) (by simp) fun _ hm => State.getReg_setReg_ne _ _ (.inl fun e => hr (e ▸ hm))

theorem State.Emptied.setBits {s : State} {p : Port} (h : s.Emptied p) {r : Reg} (hr : r ∉ emptiedRegs) (i hi lo n : Nat) :
    (s.setBits r i hi lo n).Emptied p := h.setReg hr ..

theorem State.Emptied.setBit {s : State} {p : Port} (h : s.Emptied p) {r : Reg} (hr : r ∉ emptiedRegs) (i k : Nat) (b : Bool) :
    (s.setBit r i k b).Emptied p := h.setReg hr ..

theorem State.Emptied.modPort {s : State} {p : Port} {f : HostPort → HostPort} (h : s.Emptied p)
    (hf : ∀ x, (f x).fetched = x.fetched ∧ (f x).lastDb = x.lastDb) : (s.modPort p f).Emptied p :=
  h.congr (by simpa using (hf _).1) (by simpa using (hf _).2) fun _ _ => State.getReg_modPort ..

theorem State.Emptied.ite {s t : State} {p : Port} {c : Prop} {_ : Decidable c} (h : s.Emptied p) (k : t.Emptied p) :
    (if c then s else t).Emptied p := by
  split <;> assumption

/-- A port whose event ring is off takes no event. -/
theorem State.eventTo_off {s : State} {p : Port} (h : s.evtEn p = false) (t code : Nat) (fields : List Byte) :
    s.eventTo p t code fields = s := by
  unfold State.eventTo
  simp [h]

/-- No event reaches an emptied port's ring, and one of the other port leaves it alone. -/
theorem State.Emptied.eventTo {s : State} {p : Port} (h : s.Emptied p) (q : Port) (t code : Nat) (fields : List Byte) :
    (s.eventTo q t code fields).Emptied p := by
  have core := State.core_eventTo s q p t code fields
  have fetched := congrArg HostPort.fetched core
  have lastDb := congrArg HostPort.lastDb core
  simp only [HostPort.core] at fetched lastDb
  refine h.congr fetched lastDb fun r _ => ?_
  by_cases e : q = p
  · subst e
    have off : s.evtEn q = false := by simp [State.evtEn, State.regBit, h.ctl, Word.bits]
    rw [State.eventTo_off off]
  · obtain rfl : q = p.other := by cases p <;> cases q <;> simp_all [Port.other]
    have kept := State.other_eventTo s p.other t code fields r
    rwa [Port.other_other] at kept

theorem State.Emptied.event {s : State} {p : Port} (h : s.Emptied p) (code : Nat) (fields : List Byte) : (s.event code fields).Emptied p :=
  (h.eventTo .A _ _ _).eventTo .B _ _ _

theorem State.Emptied.discardHeld {s : State} {p : Port} (h : s.Emptied p) (head cause : Nat) : (s.discardHeld head cause).Emptied p := by
  unfold State.discardHeld
  dsimp only
  split_ifs
  · exact h
  · exact ((h.keeps (State.setHead_keeps ..)).keeps (KeepsLaws.setReg ..)).event _ _

theorem State.Emptied.discardLost {s : State} {p : Port} (h : s.Emptied p) (q : Port) (lost : BitVec 64) : (s.discardLost q lost).Emptied p := by
  unfold State.discardLost
  generalize List.range 24 = heads
  induction heads generalizing s with
  | nil => exact h
  | cons head heads ih =>
    exact ih (State.Emptied.ite (h.discardHeld _ _) h)

theorem State.Emptied.releaseScopes {s : State} {p : Port} (h : s.Emptied p) (q : Port) (mask : BitVec 64) (forced : Bool) :
    (s.releaseScopes q mask forced).Emptied p := by
  have released := h.keeps (State.setHeld_keeps s q (s.heldOf q &&& ~~~mask))
  unfold State.releaseScopes
  dsimp only
  split_ifs
  · exact h
  · exact (((released.eventTo _ _ _ _).keeps (State.irq_keeps ..)).keeps (State.irq_keeps ..)).discardLost _ _
  · exact (released.keeps (State.irq_keeps ..)).discardLost _ _

theorem State.Emptied.setLink {s : State} {p : Port} (h : s.Emptied p) (up : Bool) (width speed : Nat) :
    (s.setLink p up width speed).Emptied p := by
  have shown := ((h.setBits (r := .HP_STATUS) (by decide) p.idx 10 8 width).setBits (r := .HP_STATUS) (by decide) p.idx 7 4 speed).setBit
    (r := .HP_STATUS) (by decide) p.idx 0 up
  exact (shown.modPort (f := fun x => { x with linkUp := up, downSince := if up then none else some s.now }) fun _ => ⟨rfl, rfl⟩).event _ _

theorem State.Emptied.linkLeave {s : State} {p : Port} (h : s.Emptied p) : (s.linkLeave p).Emptied p := by
  unfold State.linkLeave
  refine State.Emptied.ite (State.Emptied.setLink ?_ ..) h
  exact h.keeps (KeepsLaws.upd_sl ..)

/-- A reset empties its port. -/
theorem State.resetPort_emptied (s : State) (p : Port) : (s.resetPort p).Emptied p := by
  unfold State.resetPort
  extract_lets gone
  refine ⟨by simp, by simp, ?_, ?_, State.getReg_setReg_self _ _ p.idx_lt⟩
  · unfold State.cmdRd State.regBits
    rw [State.getReg_setReg_ne _ _ (.inl (by decide)), State.setBits, State.getReg_setReg_ne _ _ (.inl (by decide)), ← State.regBits]
    exact State.regBits_setBits_self _ 0 p.idx_lt (by decide) (by decide)
  · unfold State.regBits
    rw [State.getReg_setReg_ne _ _ (.inl (by decide)), ← State.regBits]
    exact State.regBits_setBits_self _ 0 p.idx_lt (by decide) (by decide)

/-- Every reset leaves its port emptied. -/
theorem execPortReset_emptied (p : Port) (k : ResetKind) (s : State) : ∃ t, execPortReset p k s = .next t ∧ t.Emptied p := by
  have released : (if k = .linkDown then s.resetPort p else (s.resetPort p).releaseScopes p (BitVec.allOnes 64) true).Emptied p := by
    split_ifs
    · exact s.resetPort_emptied p
    · exact (s.resetPort_emptied p).releaseScopes _ _ _
  refine ⟨_, rfl, ?_⟩
  by_cases leaves : k = .linkDown ∨ k = .perst
  · rw [if_pos leaves]
    exact released.linkLeave
  · rw [if_neg leaves]
    exact released

/-- Every reset but a link-down leaves its port no scope. -/
theorem execPortReset_releases (p : Port) {k : ResetKind} (s : State) (h : k ≠ .linkDown) :
    ∃ t, execPortReset p k s = .next t ∧ t.heldOf p = 0 := by
  refine ⟨_, rfl, ?_⟩
  rw [if_neg h]
  by_cases leaves : k = .linkDown ∨ k = .perst
  · rw [if_pos leaves, (State.linkLeave_keeps ..).heldOf, State.releaseScopes_all]
  · rw [if_neg leaves, State.releaseScopes_all]

/-- Settles O13: link changes keep every scope, the timeout is a forced release of all, and a reset's discards and its forced release
write nothing into the ring that it has closed. -/
theorem linksAndPortResetsKeepOrReleaseScopes : Obligations.LinksAndPortResetsKeepOrReleaseScopes := by
  unfold Obligations.LinksAndPortResetsKeepOrReleaseScopes
  refine ⟨?_, ?_, ?_, ?_, ?_⟩
  · intro p d3hot s up
    have kept := KeepsLaws.comp (F := 16777228) (R := 593920) (KeepsLaws.mono (State.modPort_keeps s p fun h => { h with d3hot := h.d3hot || d3hot })
      (KeepsLaws.subI rfl rfl)) (State.linkLeave_keeps _ p) (KeepsLaws.subI rfl rfl)
    obtain ⟨down, since, shown⟩ := State.linkLeave_down (s := s.modPort p fun h => { h with d3hot := h.d3hot || d3hot }) (p := p) (by simpa using up)
    exact ⟨_, rfl, down, by simpa using since, shown, kept.heldOf p, kept.heldOf p.other⟩
  · intro p w g asked s down width least most port
    refine ⟨(s.modPort p fun h => { h with d3hot := false }).linkTrain p w g asked, if_neg ?_, State.linkTrain_up _ p asked ?_ ?_⟩
    · obtain rfl | board := port <;> obtain rfl | rfl | rfl := width <;> simp [*] <;> omega
    · omega
    · omega
  · intro p s u since late
    have result : exec (.linkDownScopeTimeout p) s =
        .next ((s.modPort p fun h => { h with downSince := none }).releaseScopes p (BitVec.allOnes 64) true) := by
      change execLinkDownScopeTimeout p s = _
      unfold execLinkDownScopeTimeout
      rw [since]
      exact if_pos late
    have same (q : Port) : (s.modPort p fun h => { h with downSince := none }).heldOf q = s.heldOf q := State.heldOf_congr (by simp) q
    refine ⟨_, result, State.releaseScopes_all .., (State.releaseScopes_other ..).trans (same _), fun held => ?_⟩
    refine Sends.after (State.modPort_keeps ..) (State.releaseScopes_sends ?_)
    rwa [BitVec.and_allOnes, same]
  · intro p k s
    obtain ⟨t, result, fetched, lastDb, cmdRd, evtWr, ctl⟩ := execPortReset_emptied p k s
    exact ⟨t, result, fetched, lastDb, cmdRd, evtWr, ctl⟩
  · intro p k s kind
    exact execPortReset_releases p s kind

end Sys2Proof.Machine
end

section
/-! SUPPORT AND CLAIMS. Interrupt moderation (02_host_ports_commands.md R69), W1C status (00_scope.md R14) and the read indices of the
rings that blocks keep in host memory (19_address_map.md R620). -/

namespace Sys2Proof.Machine

/-- With no interval running vector 0 is sent at once (R69). -/
theorem State.signal0_sends {s : State} {p : Port} (h : (s.port p).modUntil = none) : Sends s (s.signal0 p) (.irq p 0) := by
  unfold State.signal0
  dsimp only
  split_ifs
  · exact sends_irq ..
  · rw [h]
    exact Sends.after (State.modPort_keeps ..) (sends_irq ..)

/-- A write of HP_STATUS, one bit at a time: what was set and not written 1 stays, and what hardware sets is set (R14). -/
theorem State.clearStatus_bit (s : State) (p : Port) (v hw : Word) {k : Nat} (hk : k = 2 ∨ k = 3) :
    (s.clearStatus p v hw).regBit .HP_STATUS p.idx k = ((s.regBit .HP_STATUS p.idx k && !v.bit k) || hw.bit k) := by
  unfold State.clearStatus
  dsimp only
  obtain rfl | rfl := hk
  · rw [State.regBit_setBit_ne _ _ (by decide) (.inr (.inr (by decide)))]
    exact State.regBit_setBit_self _ _ p.idx_lt (by decide)
  · rw [State.regBit_setBit_self _ _ p.idx_lt (by decide), State.regBit_setBit_ne _ _ (by decide) (.inr (.inr (by decide)))]

/-! ### Read indices (R620) -/

/-- An index write reads back where its condition holds; one that is dropped changes the drop counter alone. -/
theorem State.getReg_indexWrite {c : Prop} {_ : Decidable c} (s u : State) (p : Port) {r : Reg} {i : Nat} (v : Word) (hi : i < r.info.count)
    (hr : .HP_WR_DROP ≠ r) :
    (if c then u.setReg r i v else s.bumpSat .HP_WR_DROP p.idx).getReg r i = if c then v else s.getReg r i := by
  split_ifs
  · exact State.getReg_setReg_self _ _ hi
  · exact State.getReg_setReg_ne _ _ (.inl hr)

section

variable (s : State) (p : Port) (v : Word)

theorem State.writeRingIng_index (k : Fin 2) : (s.writeRingIng p k v).getReg .ING_RING_RD k =
    if (s.iring k).log2 ≠ 0 ∧ (s.iring k).port = p then v &&& 0x3FFF#32 else s.getReg .ING_RING_RD k :=
  State.getReg_indexWrite _ _ _ _ k.isLt (by decide)

theorem State.writeRingCam_index : (s.writeRingCam p v).getReg .CAM_STATS_RD 0 =
    if s.cam.ring.log2 ≠ 0 ∧ s.cam.ring.port = p then v &&& 0x3FF#32 else s.getReg .CAM_STATS_RD 0 :=
  State.getReg_indexWrite _ _ _ _ (by decide) (by decide)

theorem State.writeRingEnc_index : (s.writeRingEnc p v).getReg .ENC_STATS_RD 0 =
    if s.enc.ring.log2 ≠ 0 ∧ s.enc.ring.port = p then v &&& 0x1FF#32 else s.getReg .ENC_STATS_RD 0 :=
  State.getReg_indexWrite _ _ _ _ (by decide) (by decide)

theorem State.writeRingTch_index : (s.writeRingTch p v).getReg .TCH_RING_RD 0 =
    if s.tch.ring.log2 ≠ 0 ∧ s.tch.ring.port = p then v &&& 0xFFF#32 else s.getReg .TCH_RING_RD 0 :=
  State.getReg_indexWrite _ _ _ _ (by decide) (by decide)

end

/-- The end of the moderation interval. -/
theorem execIrqModerationExpiry_eq {s : State} {p : Port} {u : Nat} (running : (s.port p).modUntil = some u) (due : u ≤ s.now) :
    execIrqModerationExpiry p s =
      let ended := s.modPort p (fun h => { h with modUntil := none, modPending := false })
      .next (if (s.port p).modPending then ended.signal0 p else ended) := by
  unfold execIrqModerationExpiry
  rw [running]
  exact if_neg (not_lt.mpr due)

/-- Settles O15: the interval's end, the W1C write and each index write, one operation each. -/
theorem interruptsStatusAndReadIndicesFollowTheHost : Obligations.InterruptsStatusAndReadIndicesFollowTheHost := by
  unfold Obligations.InterruptsStatusAndReadIndicesFollowTheHost
  refine ⟨?_, ?_, ?_, ?_, ?_, ?_⟩
  · intro p s u running due
    refine ⟨_, execIrqModerationExpiry_eq running due, ?_⟩
    split_ifs
    · exact Sends.after (State.modPort_keeps ..) (State.signal0_sends (by simp))
    · exact ⟨by simp, by simp⟩
  · intro p v hw s
    exact ⟨_, rfl, fun k hk => s.clearStatus_bit p v hw hk⟩
  · intro p k v s
    exact ⟨_, rfl, s.writeRingIng_index p v k⟩
  · intro p v s
    exact ⟨_, rfl, s.writeRingCam_index p v⟩
  · intro p v s
    exact ⟨_, rfl, s.writeRingEnc_index p v⟩
  · intro p v s
    exact ⟨_, rfl, s.writeRingTch_index p v⟩

end Sys2Proof.Machine
end

section
/-! SUPPORT AND CLAIMS. The way of a command packet from the ring to the interpreter (02_host_ports_commands.md): fetch (R55, R57 to
R60, R70), start and preemption (R71), and the sets that wait behind an armed one (R73). -/

namespace Sys2Proof.Machine

/-! ### Fetch -/

/-- A port that has dropped no event has no overflow to note. -/
theorem State.noteOverflow_none {s : State} {p : Port} (h : (s.port p).dropped = 0) : s.noteOverflow p = s := by
  unfold State.noteOverflow
  exact if_neg fun c => c.1 h

/-- The packet that a good header and body make: it waits for its start with its tag in flight. -/
def HostPort.take (x : HostPort) (r : Req) (op : Nat) (body : Body) (now : Nat) : HostPort :=
  { x with
    tags := x.tags ++ [{ tag := r.tag.val, urgent := r.urgent, seq := x.nextPkt }]
    fetched := x.fetched ++ [{ req := r, opcode := op, body := body, seq := x.nextPkt, fetched := now }]
    nextPkt := x.nextPkt + 1 }

/-- The tag of a header below 64. -/
theorem reqOf_tag {p : Port} {h : Body} (ht : h.u8 2 < 64) : (reqOf p h).tag.val = h.u8 2 := Nat.mod_eq_of_lt ht

/-- A packet with a right CRC, a free tag and no reserved bit is accepted. -/
theorem State.accept_good {s : State} {p : Port} {h body : Body}
    (crc : crc32cFold (BitVec.ofNat 32 (256 * p.idx + h.u8 2)) (h.take 12 ++ body) = BitVec.ofNat 32 (h.u32 12))
    (tagFree : s.tagFree (reqOf p h) = true) (tag : h.u8 2 < 64) (flags : h.u8 3 < 4) :
    s.accept (reqOf p h) h body = s.modPort p (fun x => x.take (reqOf p h) (h.u16 0) body s.now) := by
  unfold State.accept
  dsimp only
  rw [show (reqOf p h).port = p from rfl, reqOf_tag tag, if_neg (by simp [crc]), if_neg (by simp [tagFree]), if_neg (by omega)]
  simp [HostPort.take, reqOf_tag tag]

/-- A whole, good packet that the doorbell covers is accepted, and HP_CMD_RD moves past it. -/
theorem State.fetch_good {s : State} {p : Port} {h : Body} {len : Nat} (header : h = (s.port p).bytes (s.cmdRd p) 16)
    (length : len = h.u16 4) (aligned : len % 4 = 0) (most : len ≤ 4080) (version : h.u16 6 = 1)
    (whole : 16 + len ≤ s.span p (s.port p).lastDb) :
    s.fetch p = (s.accept (reqOf p h) h ((s.port p).bytes (s.cmdRd p + 16) len)).setBits .HP_CMD_RD p.idx 17 0
      ((s.cmdRd p + 16 + len) % ringSize) := by
  unfold State.fetch
  dsimp only
  rw [← header, ← length, if_neg (by omega), if_neg (by omega), if_neg (by omega)]

/-- PACKET_FETCH with nothing to note and room for the answers fetches. -/
theorem execPacketFetch_fetches {s : State} {p : Port} (may : s.mayFetch p = true) (quiet : (s.port p).dropped = 0)
    (room : (s.port p).tags.length < s.freeRecords p) : execPacketFetch p s = .next (s.fetch p) := by
  unfold execPacketFetch
  rw [State.noteOverflow_none quiet]
  exact if_pos (by simp [may, room])

/-! ### Start and preemption -/

/-- A defined packet that starts becomes the current one, with the scopes that its port holds (R74), and leaves the fetched ones. -/
theorem State.startPacket_defined {s : State} {k : Packet} (defined : opcodes.contains k.opcode = true) :
    (s.startPacket k).interp.current = some { k with held := s.heldOf k.req.port } ∧
      (s.startPacket k).interp.suspended = s.interp.suspended ∧
      ((s.startPacket k).port k.req.port).fetched = (s.port k.req.port).fetched.filter (fun x => x.seq != k.seq) ∧
      (s.startPacket k).out = s.out := by
  have held : (s.modPort k.req.port fun h => { h with fetched := h.fetched.filter (fun x => x.seq != k.seq) }).heldOf k.req.port =
      s.heldOf k.req.port := State.heldOf_congr (by simp) _
  have fetched := s.port_modPort_self k.req.port fun h => { h with fetched := h.fetched.filter (fun x => x.seq != k.seq) }
  unfold State.startPacket
  dsimp only
  rw [if_pos defined]
  refine ⟨?_, ?_, congrArg HostPort.fetched fetched, by simp⟩
  · rw [← held]
    rfl
  · split_ifs <;> simp

/-- PACKET_START of a free interpreter that no restart holds back starts the packet whose turn it is. -/
theorem execPacketStart_starts {s : State} {k : Packet} (free : s.interp.current = none) (running : s.interp.restart = none)
    (paired : s.ctrlHalted = false) (booted : s.boot.starting = false) (fresh : s.interp.again = [])
    (turn : (s.nextPacket true).or (s.nextPacket false) = some k) : execPacketStart s = .next (s.startPacket k) := by
  unfold execPacketStart
  rw [if_neg (by simp [free, running, paired, booted]), fresh]
  dsimp only
  rw [turn]

/-- URGENT_PREEMPT of non-URGENT work starts the ready URGENT packet with the work set aside. -/
theorem execUrgentPreempt_preempts {s : State} {c k : Packet} (work : s.interp.current = some c) (plain : c.req.urgent = false)
    (alone : s.interp.suspended = none) (running : s.interp.restart = none) (paired : s.ctrlHalted = false)
    (ready : s.nextPacket true = some k) :
    execUrgentPreempt s = .next (State.startPacket { s with interp := { s.interp with current := none, suspended := some c } } k) := by
  unfold execUrgentPreempt
  rw [work, ready]
  exact if_neg (by simp [plain, alone, running, paired])

/-! ### Sets behind an armed one -/

@[simp] theorem State.chan_setChan_self (s : State) (c : Nat) (x : EncChan) : (s.setChan c x).chan c = x := by
  simp [State.chan, State.setChan]

@[simp] theorem State.head_setHead_self (s : State) (h : Nat) (x : Head) : (s.setHead h x).head h = x := by
  simp [State.head, State.setHead]

/-- HD_STAT keeps what a change of a head leaves to it. -/
@[simp] theorem State.running_setHead (s : State) (h : Nat) (x : Head) : (s.setHead h x).running h = s.running h :=
  (State.setHead_keeps s h x).regBit

/-- SECOND_SET_ARM of a bound channel that has taken its set arms the one behind it. -/
theorem execSecondSetArm_chan {s : State} {c : Fin 16} {a : ChanArm} {rest : List ChanArm} (took : (s.chan c).next = none)
    (waits : (s.chan c).second = a :: rest) (bound : (s.chan c).bound = true) :
    ∃ t, execSecondSetArm (.chan c) s = .next t ∧ t.chan c = { s.chan c with next := some a, second := rest } := by
  unfold execSecondSetArm
  dsimp only
  rw [took, waits]
  refine ⟨_, rfl, ?_⟩
  unfold State.armChanFirst
  simp [bound]

/-- A set that comes to the front of a running head waits there for a boundary (R73). -/
theorem State.armFirst_running {s : State} {h : Nat} (a : Arm) (running : s.running h = true) :
    ∃ x, ((s.armFirst h a).head h).armed = some x ∧ x.edits = a.edits ∧ x.cmd = a.cmd ∧
      ((s.armFirst h a).head h).second = (s.head h).second := by
  unfold State.armFirst
  rw [if_neg (by simp [running])]
  unfold State.armNow
  dsimp only
  rw [State.head_setHead_self]
  exact ⟨_, rfl, rfl, rfl, rfl⟩

/-- SECOND_SET_ARM of a running head that has taken its set brings the one behind it to the front. -/
theorem execSecondSetArm_head {s : State} {h : Fin 24} {a : Arm} {rest : List Arm} (took : (s.head h).armed = none)
    (waits : (s.head h).second = a :: rest) (running : s.running h = true) :
    ∃ t x, execSecondSetArm (.head h) s = .next t ∧ (t.head h).armed = some x ∧ x.edits = a.edits ∧ x.cmd = a.cmd ∧
      (t.head h).second = rest := by
  have result : execSecondSetArm (.head h) s = .next ((s.setHead h { s.head h with second := rest }).armFirst h
      { a with since := max a.since (s.head h).lastTake }) := by
    unfold execSecondSetArm
    dsimp only
    rw [took, waits]
  obtain ⟨x, armed, edits, cmd, second⟩ := State.armFirst_running (s := s.setHead h { s.head h with second := rest }) (h := h)
    { a with since := max a.since (s.head h).lastTake } (by simpa using running)
  rw [State.head_setHead_self] at second
  exact ⟨_, x, result, armed, edits, cmd, second⟩

/-- Settles O10: a good packet passes every check of the fetch, a ready one starts, and the waiting sets come to the front. -/
theorem packetsAreFetchedAndStarted : Obligations.PacketsAreFetchedAndStarted := by
  unfold Obligations.PacketsAreFetchedAndStarted
  refine ⟨?_, ?_, ?_, ?_, ?_⟩
  · intro p s h len may quiet room header length aligned most version whole crc tagFree tag flags
    have fetched := State.fetch_good header length aligned most version whole
    rw [State.accept_good crc tagFree tag flags] at fetched
    refine ⟨_, execPacketFetch_fetches may quiet room, ?_⟩
    rw [fetched, State.port_setBits, State.port_modPort_self]
    refine ⟨⟨_, rfl, rfl, rfl, rfl, rfl⟩, by rw [HostPort.take, reqOf_tag tag], ?_, by simp⟩
    rw [State.cmdRd, State.regBits_setBits_self _ _ p.idx_lt (by decide) (by decide)]
    exact Nat.mod_mod ..
  · intro s k free running paired booted fresh turn defined
    obtain ⟨current, -, fetched, out⟩ := State.startPacket_defined (s := s) defined
    exact ⟨_, execPacketStart_starts free running paired booted fresh turn, current, fetched, out⟩
  · intro s c k work plain alone running paired ready defined
    obtain ⟨current, suspended, -⟩ := State.startPacket_defined (s := { s with interp := { s.interp with current := none, suspended := some c } })
      defined
    exact ⟨_, execUrgentPreempt_preempts work plain alone running paired ready, suspended, current⟩
  · intro s c a rest took waits bound
    obtain ⟨t, result, chan⟩ := execSecondSetArm_chan took waits bound
    exact ⟨t, result, by rw [chan], by rw [chan]⟩
  · intro s h a rest took waits running
    exact execSecondSetArm_head took waits running

end Sys2Proof.Machine
end

section
/-! SUPPORT AND CLAIMS. The answers of the profile store's and the event masks' own commands (02_host_ports_commands.md): EVENT_MASK
(R67), PRF_PIN_MODE (R90) and PRF_STATUS (R84, R99). -/

namespace Sys2Proof

/-- A field that bytes of its own fill reads as their number. -/
theorem Body.le_leBytes {b : Body} {off k n : Nat} (h : (b.drop off).take k = leBytes k n) : b.le off k = n % 256 ^ k := by
  rw [Body.le, h, leNat_leBytes]

end Sys2Proof

namespace Sys2Proof.Machine

/-! ### EVENT_MASK (R67) -/

/-- What touches no port's mask leaves what passes. -/
theorem State.passes_congr {s t : State} {p : Port} (h : (t.port p).blockMask = (s.port p).blockMask) (code : Nat) :
    t.passes p code = s.passes p code := by
  unfold State.passes
  rw [h]

/-- A reply counts in the ring of its port and leaves the rest of every port. -/
theorem State.core_putReply (s : State) (r : Req) (op status reason : Nat) (rs : Bool) (body : List Byte) (p : Port) :
    ((s.putReply r op status reason rs body).port p).core = (s.port p).core := by
  unfold State.putReply
  dsimp only
  split_ifs <;> simp [State.core_signal0, State.core_pushRecord]

/-- A reply leaves the masks of both ports. -/
theorem State.replyR_blockMask (s : State) (r : Req) (op status reason : Nat) (rs : Bool) (body : List Byte) (p : Port) :
    ((s.replyR r op status reason rs body).port p).blockMask = (s.port p).blockMask := by
  have put := congrArg HostPort.blockMask (s.core_putReply r op status reason rs body p)
  simp only [HostPort.core] at put
  unfold State.replyR
  split
  · exact congrArg HostPort.blockMask (State.port_congr rfl rfl p)
  · rw [State.freeTag, State.port_modPort]
    split_ifs with e
    · subst e
      exact put
    · exact put

/-- A mask of 256 groups, kept as the groups that it stops, passes exactly its own. -/
theorem passes_of_mask {s : State} {p : Port} {m : Nat} (mask : (s.port p).blockMask = 2 ^ 256 - 1 - m) (hm : m < 2 ^ 256) {g : Nat}
    (hg : g < 256) : s.passes p (256 * g) = m.testBit g := by
  unfold State.passes
  rw [mask, Nat.mul_div_cancel_left g (by decide), Nat.sub_sub, Nat.add_comm 1 m, Nat.testBit_two_pow_sub_succ hm]
  simp [hg]

/-- EVENT_MASK of a whole body answers OK and writes the mask of its port. -/
theorem execEventMask_effect {r : Req} {b : Body} {s : State} (ready : Ready s r 0x0201 []) (length : b.length = 32) :
    ∃ t, execEventMask r b s = .next t ∧ Answers s t r 0x0201 0 0 [] ∧
      (t.port r.port).blockMask = 2 ^ 256 - 1 - b.le 0 32 ∧ (t.port r.port.other).blockMask = (s.port r.port.other).blockMask := by
  have first := firstStatus_none (c := {}) (bad := b.length != 32) ready (by simp [length])
  have out : s.out <:+ (s.endInterp.modPort r.port fun h => { h with blockMask := 2 ^ 256 - 1 - b.le 0 32 }).out := by simp
  refine ⟨_, command_now ready.1 first rfl, answers_replyR out ?_ ?_, ?_, ?_⟩
  · simpa using canRun_restart ready.1
  · simpa [State.evtEn] using (s.endInterp_evtEn r.port).trans ready.2.2.2
  · rw [State.replyR_blockMask, State.port_modPort_self]
  · rw [State.replyR_blockMask, State.port_modPort_other, State.port_endInterp]

/-! ### PRF_PIN_MODE and PRF_STATUS (R84, R90, R99) -/

/-- PRF_PIN_MODE of good operands answers OK and sets the mode. -/
theorem execPrfPinMode_effect {r : Req} {b : Body} {s : State} (ready : Ready s r 0x0303 [0]) (length : b.length = 4) (mode : b.u8 0 < 2)
    (reserved : b.zero 1 3 = true) :
    ∃ t, execPrfPinMode r b s = .next t ∧ Answers s t r 0x0303 0 0 [] ∧ t.regBit .PRF_STATE 0 7 = (b.u8 0 == 1) := by
  have good : (b.length != 4 || decide (1 < b.u8 0) || !b.zero 1 3) = false := by simp [length, reserved]; omega
  have set : Keeps 0 (2 ^ Reg.PRF_STATE.ctorIdx) s.endInterp (s.endInterp.setBit .PRF_STATE 0 7 (b.u8 0 == 1)) :=
    KeepsLaws.stepSetBit (KeepsLaws.refl ..) (KeepsLaws.bitI rfl)
  obtain ⟨t, result, answers, kept⟩ := command_answers ready (firstStatus_none (c := {}) ready good)
    (eff := fun s => done (s.setBit .PRF_STATE 0 7 (b.u8 0 == 1))) rfl set
  exact ⟨t, result, answers, kept.regBit.trans (State.regBit_setBit_self _ _ (by decide) (by decide))⟩

/-- The figure that PRF_STATUS gives of a slot: the reject reason of an INVALID one. -/
def State.slotReason (s : State) (n : Nat) : Nat := if s.slotState n = 2 then (s.slot n).reason else 0

/-- The figure that PRF_STATUS gives of a slot: the length in KiB of one that is not EMPTY. -/
def State.slotKib (s : State) (n : Nat) : Nat := if s.slotState n = 0 then 0 else ceilDiv (s.slot n).len 1024

/-- Reply body of PRF_STATUS: the state register and two figures of each slot. -/
def State.statusBody (s : State) : List Byte :=
  leBytes 4 s.prfState.toNat ++ ((List.range 4).map (fun n => leBytes 2 (s.slotReason n))).flatten
    ++ ((List.range 4).map (fun n => leBytes 2 (s.slotKib n))).flatten

theorem State.statusBody_length (s : State) : s.statusBody.length = 20 := by simp [State.statusBody, List.range_succ]

theorem State.statusBody_state (s : State) : Body.u32 s.statusBody 0 = s.prfState.toNat := by
  have head : (s.statusBody.drop 0).take 4 = leBytes 4 s.prfState.toNat := by simp [State.statusBody]
  exact (Body.le_leBytes head).trans (Nat.mod_eq_of_lt s.prfState.isLt)

theorem State.statusBody_slot (s : State) {n : Nat} (hn : n < 4) :
    Body.u16 s.statusBody (4 + 2 * n) = s.slotReason n % 65536 ∧ Body.u16 s.statusBody (12 + 2 * n) = s.slotKib n % 65536 := by
  have reason : (s.statusBody.drop (4 + 2 * n)).take 2 = leBytes 2 (s.slotReason n) := by
    interval_cases n <;> simp [State.statusBody, List.range_succ, leBytes]
  have kib : (s.statusBody.drop (12 + 2 * n)).take 2 = leBytes 2 (s.slotKib n) := by
    interval_cases n <;> simp [State.statusBody, List.range_succ, leBytes]
  exact ⟨Body.le_leBytes reason, Body.le_leBytes kib⟩

/-- PRF_STATUS answers OK with its body, and changes nothing but the answer's way. -/
theorem execPrfStatus_effect {r : Req} {s : State} (ready : Ready s r 0x0304 []) :
    ∃ t, execPrfStatus r [] s = .next t ∧ Answers s t r 0x0304 0 0 s.endInterp.statusBody ∧ t.getReg .PRF_STATE 0 = s.getReg .PRF_STATE 0 := by
  obtain ⟨t, result, answers, kept⟩ := command_answers ready (firstStatus_none (c := {}) ready rfl)
    (eff := fun s => .now s .OK s.statusBody) rfl (KeepsLaws.refl 0 0 _)
  exact ⟨t, result, answers, kept.reg⟩

/-- Settles O20: each command's effect is one write, or none, and its answer. -/
theorem masksPinModeAndStatusAnswer : Obligations.MasksPinModeAndStatusAnswer := by
  unfold Obligations.MasksPinModeAndStatusAnswer
  refine ⟨?_, ?_, ?_⟩
  · intro r b s ready length
    obtain ⟨t, result, answers, mine, other⟩ := execEventMask_effect ready length
    exact ⟨t, result, answers, fun g hg => ⟨passes_of_mask mine (b.le_lt 0 32) hg, State.passes_congr other _⟩⟩
  · intro r b s ready length mode reserved
    exact execPrfPinMode_effect ready length mode reserved
  · intro r s ready
    obtain ⟨t, result, answers, kept⟩ := execPrfStatus_effect ready
    exact ⟨t, _, result, answers, s.endInterp.statusBody_length, s.endInterp.statusBody_state, kept,
      fun n hn => s.endInterp.statusBody_slot hn⟩

end Sys2Proof.Machine
end

section
/-! SUPPORT AND CLAIMS. PRF_LOAD (02_host_ports_commands.md R83 to R85, R91). -/

namespace Sys2Proof.Machine

/-- A ready command whose execution finds a status answers it with its reason; past its effect only what a reply touches differs. -/
theorem command_refuses {F R op reason : Nat} {s u : State} {r : Req} {need : List Nat} {bad : Bool} {c : Pre} {eff : State → Answer}
    {st : Status} {body : List Byte} (h : Ready s r op need)
    (hf : firstStatus bad (s.notReady op) (!scopesOk (s.heldAt r op) need) c = none) (he : eff s.endInterp = .refuse u st reason body)
    (k : Keeps F R s.endInterp u) (hi : F.testBit Field.interp.ctorIdx = false := by rfl)
    (hc : R.testBit Reg.HP_CTL.ctorIdx = false := by rfl) :
    ∃ t, command op r s need bad c eff = .next t ∧ Answers s t r op st.code reason body ∧ Keeps 28 2686976 u t := by
  have closed := (State.endInterp_restart s).trans (canRun_restart h.1)
  refine ⟨_, command_refuse h.1 hf he, answers_replyR k.out ?_ ?_, State.replyR_keeps ..⟩
  · rwa [k.fields .interp hi]
  · unfold State.evtEn
    rw [k.regBit hc]
    exact h.2.2.2

/-! ### The slot after a load (R84) -/

theorem State.putSlot_slot (s : State) (n len reason : Nat) (l : List Section) (ok : Bool) :
    (s.putSlot n len reason l ok).slot n = { sections := l, len := len, reason := reason } := by
  simp [State.putSlot, State.setSlotState, State.slot, State.setSlot]

theorem State.putSlot_state (s : State) (n len reason : Nat) (l : List Section) (ok : Bool) (hn : n < 4) :
    (s.putSlot n len reason l ok).regBits .PRF_STATE 0 (19 + 4 * n) (16 + 4 * n) = if ok then 1 else 2 := by
  rw [State.putSlot, State.setSlotState, State.regBits_setBits_self _ _ (by decide) (by omega) (by omega),
    show 19 + 4 * n - (16 + 4 * n) + 1 = 4 by omega]
  cases ok <;> rfl

/-- A reply leaves the profile slots and their states. -/
theorem reply_keeps_slots {s t : State} (k : Keeps 28 2686976 s t) (n : Nat) :
    t.slot n = s.slot n ∧ ∀ hi lo, t.regBits .PRF_STATE 0 hi lo = s.regBits .PRF_STATE 0 hi lo :=
  ⟨congrArg (fun p : Profiles => Tbl.get p.slots n) (k.fields .prof rfl), fun _ _ => k.regBits⟩

/-! ### The load -/

/-- What PRF_LOAD executes once nothing keeps it back. -/
def prfLoadEffect (b : Body) (image : List Byte) (s : State) : Answer :=
  if b.length == 20 && crc32c (takePad (b.u32 12) image) != BitVec.ofNat 32 (b.u32 16) then
    .refuse (s.putSlot (b.u8 0) (b.u32 12) 0 [] false) .CHECKFAIL 0 (loadFailed 0xFFFFFFFF)
  else s.loadImage (b.u8 0) (b.u32 12) (takePad (b.u32 12) image)

/-- PRF_LOAD of a good body into a slot that is neither ACTIVE nor PENDING executes: the image is judged in its effect alone. -/
theorem execPrfLoad_executes {r : Req} {b : Body} {s : State} (image : List Byte) (ready : Ready s r 0x0301 [1 + b.u8 0])
    (length : b.length = 20) (slot : b.u8 0 < 4) (reserved : b.zero 1 3 = true) (whole : b.u32 12 % 4 = 0) (fits : b.u32 12 ≤ 4194304)
    (notPending : s.slotState (b.u8 0) ≠ 3) (notActive : s.slotState (b.u8 0) ≠ 4) :
    ∃ bad c, execPrfLoad r b image s = command 0x0301 r s [1 + b.u8 0] bad c (prfLoadEffect b image) ∧
      firstStatus bad (s.notReady 0x0301) (!scopesOk (s.heldAt r 0x0301) [1 + b.u8 0]) c = none := by
  have good : (b.length != 20 || decide (3 < b.u8 0) || !b.zero 1 3 || b.u32 12 % 4 != 0 || decide (4194304 < b.u32 12)) = false := by
    simp [length, reserved, whole]
    omega
  have unlocked : (s.slotState (b.u8 0) == 3 || s.slotState (b.u8 0) == 4) = false := by simp [notPending, notActive]
  have unbarred : (s.notReady 0x0301 || !scopesOk (s.heldAt r 0x0301) [1 + b.u8 0]
      || (s.slotState (b.u8 0) == 3 || s.slotState (b.u8 0) == 4)) = false := by
    rw [ready.2.1, ready.2.2.1, unlocked]
    rfl
  refine ⟨_, _, rfl, firstStatus_none ready ?_ ?_ (h3 := unlocked)⟩
  · rw [good, unbarred, Bool.false_and, Bool.or_false]
  · rw [good, unbarred, Bool.or_false, Bool.false_and]

/-- The reject reason of a checked image, if its configuration is rejected (R85): z is the blank device with the image on it. -/
def State.imageReject (s z : State) (l : List Section) : Option Nat :=
  if finalFormat z l then some rFORMAT else (s.profileConf l).reject s

section

variable {s z : State} {len : Nat} {img : Body} {secs : List (Nat × Option Section)}

/-- A checked image that is accepted makes its slot VALID. -/
theorem State.loadImage_accepted (n : Nat) (parsed : parseSections img (len / 8 + 1) 0 = secs) (checked : checkSections secs s.blank = .inr z)
    (accepted : s.imageReject z (secs.filterMap (·.2)) = none) :
    s.loadImage n len img = .now (s.putSlot n len 0 (secs.filterMap (·.2)) true) .OK
      (loadBody s (s.profileConf (secs.filterMap (·.2))) 0xFFFFFFFF) := by
  unfold State.imageReject at accepted
  simp only [State.loadImage, parsed, checked, accepted]

/-- A checked image that is rejected makes its slot INVALID, with the reason. -/
theorem State.loadImage_rejected {x : Nat} (n : Nat) (parsed : parseSections img (len / 8 + 1) 0 = secs)
    (checked : checkSections secs s.blank = .inr z) (rejected : s.imageReject z (secs.filterMap (·.2)) = some x) :
    s.loadImage n len img = .refuse (s.putSlot n len x (secs.filterMap (·.2)) false) .REJECTED x
      (loadBody s (s.profileConf (secs.filterMap (·.2))) 0xFFFFFFFF) := by
  unfold State.imageReject at rejected
  simp only [State.loadImage, parsed, checked, rejected]

end

/-- Settles O18: the effect writes the slot and its state, and the answer after it touches neither. -/
theorem profileImagesLoadAsValidOrInvalid : Obligations.ProfileImagesLoadAsValidOrInvalid := by
  unfold Obligations.ProfileImagesLoadAsValidOrInvalid
  refine ⟨?_, ?_⟩
  · intro r b image s z l ready length slot reserved whole fits crc notPending notActive parsed checked
    obtain ⟨bad, c, runs, free⟩ := execPrfLoad_executes image ready length slot reserved whole fits notPending notActive
    have effect : prfLoadEffect b image s.endInterp = s.endInterp.loadImage (b.u8 0) (b.u32 12) (takePad (b.u32 12) image) := by
      simp [prfLoadEffect, crc]
    cases verdict : s.endInterp.imageReject z (l.filterMap (·.2)) with
    | none =>
      obtain ⟨t, result, answers, kept⟩ := command_answers ready free
        (effect.trans (State.loadImage_accepted _ parsed.symm checked verdict)) (State.putSlot_keeps ..)
      obtain ⟨keptSlot, keptBits⟩ := reply_keeps_slots kept (b.u8 0)
      rw [State.putSlot_slot] at keptSlot
      unfold State.imageReject at verdict
      rw [verdict]
      refine ⟨t, runs.trans result, by rw [keptSlot], by rw [keptSlot], ?_, by rw [keptSlot], _, answers⟩
      rw [keptBits, State.putSlot_state _ _ _ _ _ _ slot]
      rfl
    | some x =>
      obtain ⟨t, result, answers, kept⟩ := command_refuses ready free
        (effect.trans (State.loadImage_rejected _ parsed.symm checked verdict)) (State.putSlot_keeps ..)
      obtain ⟨keptSlot, keptBits⟩ := reply_keeps_slots kept (b.u8 0)
      rw [State.putSlot_slot] at keptSlot
      unfold State.imageReject at verdict
      rw [verdict]
      refine ⟨t, runs.trans result, by rw [keptSlot], by rw [keptSlot], ?_, by rw [keptSlot], _, answers⟩
      rw [keptBits, State.putSlot_state _ _ _ _ _ _ slot]
      rfl
  · intro r b image s ready length slot reserved whole fits crc notPending notActive
    obtain ⟨bad, c, runs, free⟩ := execPrfLoad_executes image ready length slot reserved whole fits notPending notActive
    have effect : prfLoadEffect b image s.endInterp =
        .refuse (s.endInterp.putSlot (b.u8 0) (b.u32 12) 0 [] false) .CHECKFAIL 0 (loadFailed 0xFFFFFFFF) := by
      simp [prfLoadEffect, crc, length]
    obtain ⟨t, result, answers, kept⟩ := command_refuses ready free effect (State.putSlot_keeps ..)
    refine ⟨t, runs.trans result, ?_, _, answers⟩
    rw [(reply_keeps_slots kept (b.u8 0)).2, State.putSlot_state _ _ _ _ _ _ slot]
    rfl

end Sys2Proof.Machine
end

section
/-! SUPPORT AND CLAIMS. The event inputs (02_host_ports_commands.md R93 to R95). -/

namespace Sys2Proof.Machine

/-- An input changed holds what the change makes of it. -/
@[simp] theorem State.evi_modEvi_self (s : State) (n : Nat) (f : EvIn → EvIn) : (s.modEvi n f).evi n = f (s.evi n) := by
  simp [State.evi, State.modEvi, Tbl.modify]

/-- What leaves the inputs leaves each of them. -/
theorem Keeps.evi {F R : Nat} {s t : State} (k : Keeps F R s t) (n : Nat) (h : F.testBit Field.evin.ctorIdx = false := by rfl) :
    t.evi n = s.evi n :=
  congrArg (fun l => Tbl.get l n) (k.fields .evin h)

/-! ### Accepted changes (R93, R94) -/

section

variable {n : Fin 8} {lv : Bool} {held : Nat} {s : State}

/-- The end of an activation leaves the levels: it clears the stuck bit alone. -/
theorem State.evinRelease_level (s : State) (n held : Nat) : (s.evinRelease n held).regBit .EVI_STAT n 0 = s.regBit .EVI_STAT n 0 := by
  have cleared : ((s.modEvi n fun x => { x with activeAt := none }).setBit .EVI_STAT n 1 false).regBit .EVI_STAT n 0 = s.regBit .EVI_STAT n 0 :=
    (State.regBit_setBit_ne _ _ (by decide) (.inr (.inr (by decide)))).trans (State.modEvi_keeps s n _).regBit
  unfold State.evinRelease
  dsimp only
  split_ifs
  · exact (State.event_keeps ..).regBit.trans cleared
  · exact cleared

/-- An accepted change shows its level, whatever it sets off. -/
theorem execEvinChangeAccepted_level (new : s.regBit .EVI_STAT n 0 ≠ lv) (long : s.filterNs n ≤ held) :
    ∃ t, execEvinChangeAccepted n lv held s = .next t ∧ t.regBit .EVI_STAT n 0 = lv := by
  have shown : (s.setBit .EVI_STAT n 0 lv).regBit .EVI_STAT n 0 = lv := State.regBit_setBit_self _ _ n.isLt (by decide)
  unfold execEvinChangeAccepted
  rw [if_neg (by simp [new, long])]
  dsimp only
  split_ifs
  · exact ⟨_, rfl, shown⟩
  · exact ⟨_, rfl, (State.evinActive_keeps ..).regBit.trans shown⟩
  · exact ⟨_, rfl, (State.evinRelease_level ..).trans shown⟩

/-- An EVENT_ONLY input has no action beside its event. -/
theorem State.evinAct_eventOnly {n : Nat} (only : s.regBits .EVI_CFG n 27 24 = 0) : s.evinAct n true = (true, s) := by
  unfold State.evinAct
  rw [only]
  rfl

/-- The first activation of an EVENT_ONLY input notes its time and raises EVIN_EDGE. -/
theorem State.evinActive_first {q : Port} (t : Nat) (only : s.regBits .EVI_CFG n 27 24 = 0) (first : (s.evi n).lastEdge = none)
    (listens : Listens s q 0x0310) :
    ((s.evinActive n held t).evi n).activeAt = some (s.now - held) ∧ Raises s (s.evinActive n held t) q 0x0310 := by
  have noted := State.modEvi_keeps s n fun x => { x with activeAt := some (s.now - held), lastEdge := some (s.now - held) }
  have active : s.evinActive n held t = (s.modEvi n fun x => { x with activeAt := some (s.now - held), lastEdge := some (s.now - held) }).eventAt t
      0x0310 [BitVec.ofNat 8 n, BitVec.ofNat 8 (bit01 true)] := by
    simp only [State.evinActive, first, if_true, State.evinAct_eventOnly (noted.regBits.trans only)]
  rw [active]
  exact ⟨by rw [(State.eventAt_keeps ..).evi, State.evi_modEvi_self], Raises.after noted (raises_eventAt _ _ (listens.keeps noted))⟩

/-- An accepted change of an enabled input to its active level is its activation. -/
theorem execEvinChangeAccepted_active (new : s.regBit .EVI_STAT n 0 ≠ lv) (long : s.filterNs n ≤ held) (enabled : s.regBit .EVI_CFG n 31 = true)
    (active : s.regBit .EVI_CFG n 30 = lv) :
    execEvinChangeAccepted n lv held s = .next ((s.setBit .EVI_STAT n 0 lv).evinActive n held ((s.ptp - held) / 10 * 10)) := by
  unfold execEvinChangeAccepted
  rw [if_neg (by simp [new, long])]
  simp [enabled, active]

end

/-! ### Stuck inputs and waiting selections (R94, R95) -/

/-- An input active for STUCK_MS shows its stuck bit and raises EVIN_STUCK. -/
theorem execEvinStuckTimeout_stuck {n : Fin 8} {s : State} {u : Nat} {q : Port} (active : (s.evi n).activeAt = some u)
    (used : s.regBits .EVI_CFG n 15 0 ≠ 0) (due : u + s.regBits .EVI_CFG n 15 0 * 1000000 ≤ s.now) (fresh : s.regBit .EVI_STAT n 1 = false)
    (listens : Listens s q 0x0311) :
    ∃ t, execEvinStuckTimeout n s = .next t ∧ t.regBit .EVI_STAT n 1 = true ∧ Raises s t q 0x0311 := by
  have set : Keeps 0 (2 ^ Reg.EVI_STAT.ctorIdx) s (s.setBit .EVI_STAT n 1 true) :=
    KeepsLaws.stepSetBit (KeepsLaws.refl ..) (KeepsLaws.bitI rfl)
  have result : execEvinStuckTimeout n s = .next ((s.setBit .EVI_STAT n 1 true).event 0x0311
      ([BitVec.ofNat 8 n, 0#8, 0#8, 0#8] ++ leBytes 4 ((s.now - u) / ms))) := by
    unfold execEvinStuckTimeout
    rw [active]
    exact if_pos ⟨used, due, fresh⟩
  exact ⟨_, result, (State.event_keeps ..).regBit.trans (State.regBit_setBit_self _ _ n.isLt (by decide)),
    Raises.after set (raises_event _ (listens.keeps set))⟩

/-- A selection by an input starts its next 10 ms and leaves none waiting. -/
theorem State.evinSelect_evi (s : State) (n : Nat) :
    (s.evinSelect n).evi n = { s.evi n with lastAction := some s.now, pendingAct := false } :=
  ((State.selectFree_keeps ..).evi n).trans (State.evi_modEvi_self ..)

/-- The end of the 10 ms after the last action makes the waiting selection. -/
theorem execEvinActionPendingExpiry_waiting {n : Fin 8} {s : State} {u : Nat} (last : (s.evi n).lastAction = some u)
    (waiting : (s.evi n).pendingAct = true) (due : u + 10000000 ≤ s.now) :
    execEvinActionPendingExpiry n s = .next (s.evinSelect n) := by
  unfold execEvinActionPendingExpiry
  rw [last]
  exact congrArg _ (if_pos ⟨waiting, due⟩)

/-! ### EVI_CONFIG (R95) -/

/-- An input's configuration as EVI_CONFIG writes it. -/
def eviWord (b : Body) : Nat := 2 ^ 31 * b.u8 1 + 2 ^ 30 * b.u8 2 + 2 ^ 24 * b.u8 3 + 2 ^ 16 * b.u8 4 + b.u16 6

/-- What EVI_CONFIG writes. -/
def State.eviConfigured (s : State) (b : Body) : State :=
  ((((s.modEvi (b.u8 0) fun x => { x with activeAt := none, pendingAct := false }).setReg .EVI_CFG (b.u8 0) (BitVec.ofNat 32 (eviWord b))).setBits
    .EVI_ARG (b.u8 0) 15 0 (b.u16 8)).setReg .EVI_OVR (b.u8 0) 0#32).setBit .EVI_STAT (b.u8 0) 1 false

theorem State.eviConfigured_keeps (s : State) (b : Body) : Keeps 128 128849018880 s (s.eviConfigured b) := by
  unfold State.eviConfigured
  refine KeepsLaws.stepSetBit (KeepsLaws.stepReg (KeepsLaws.stepSetBits (KeepsLaws.stepReg ?_ (KeepsLaws.bitI rfl)) (KeepsLaws.bitI rfl))
    (KeepsLaws.bitI rfl)) (KeepsLaws.bitI rfl)
  exact KeepsLaws.mono (State.modEvi_keeps ..) (KeepsLaws.subI rfl rfl)

/-- EVI_CONFIG of good operands answers OK. -/
theorem execEviConfig_effect {r : Req} {b : Body} {s : State} (ready : Ready s r 0x0310 [0]) (length : b.length = 12) (input : b.u8 0 < 8)
    (enable : b.u8 1 < 2) (level : b.u8 2 < 2) (action : b.u8 3 < 4) (reserved : b.u8 5 = 0) (tail : b.u16 10 = 0)
    (slot : b.u8 3 = 2 → b.u16 8 < 4) :
    ∃ t, execEviConfig r b s = .next t ∧ Answers s t r 0x0310 0 0 [] ∧ Keeps 28 2686976 (s.endInterp.eviConfigured b) t := by
  have zero : b.zero 10 2 = true := beq_iff_eq.mpr tail
  refine command_answers ready (firstStatus_none (c := {}) ready ?_) (eff := fun s => done (s.eviConfigured b)) rfl (State.eviConfigured_keeps ..)
  simp [length, zero, reserved]
  omega

theorem State.eviConfigured_cfg (s : State) {b : Body} (input : b.u8 0 < 8) :
    (s.eviConfigured b).getReg .EVI_CFG (b.u8 0) = BitVec.ofNat 32 (eviWord b) := by
  simp [State.eviConfigured, State.setBit, State.setBits, State.getReg_setReg, Reg.info, input]

theorem State.eviConfigured_arg (s : State) {b : Body} (input : b.u8 0 < 8) :
    (s.eviConfigured b).regBits .EVI_ARG (b.u8 0) 15 0 = b.u16 8 := by
  have small : b.u16 8 < 2 ^ 16 := b.le_lt 8 2
  have written (u : State) : (u.setBits .EVI_ARG (b.u8 0) 15 0 (b.u16 8)).regBits .EVI_ARG (b.u8 0) 15 0 = b.u16 8 :=
    (State.regBits_setBits_self _ _ input (by decide) (by decide)).trans (Nat.mod_eq_of_lt small)
  unfold State.eviConfigured
  rw [State.regBits_setBit_ne _ _ (by decide) (by decide) (.inl (by decide)), State.regBits, State.getReg_setReg_ne _ _ (.inl (by decide))]
  exact written _

theorem State.eviConfigured_overruns (s : State) {b : Body} (input : b.u8 0 < 8) : (s.eviConfigured b).getReg .EVI_OVR (b.u8 0) = 0#32 := by
  simp [State.eviConfigured, State.setBit, State.setBits, State.getReg_setReg, Reg.info, input]

theorem State.eviConfigured_stuck (s : State) {b : Body} (input : b.u8 0 < 8) : (s.eviConfigured b).regBit .EVI_STAT (b.u8 0) 1 = false :=
  State.regBit_setBit_self _ _ input (by decide)

/-- Settles O17: each accepted change, timeout and configuration has its own effect, and what it sets off leaves that standing. -/
theorem eventInputsActOnAcceptedChanges : Obligations.EventInputsActOnAcceptedChanges := by
  unfold Obligations.EventInputsActOnAcceptedChanges
  refine ⟨?_, ?_, ?_, ?_, ?_⟩
  · intro n lv held s new long
    exact execEvinChangeAccepted_level new long
  · intro n lv held s q new long enabled active only first listens
    have set : Keeps 0 (2 ^ Reg.EVI_STAT.ctorIdx) s (s.setBit .EVI_STAT n 0 lv) :=
      KeepsLaws.stepSetBit (KeepsLaws.refl ..) (KeepsLaws.bitI rfl)
    obtain ⟨noted, raises⟩ := State.evinActive_first (held := held) ((s.ptp - held) / 10 * 10) (set.regBits.trans only)
      ((congrArg _ (set.evi n)).trans first) (listens.keeps set)
    have time : (s.setBit .EVI_STAT n 0 lv).now = s.now := set.fields .now rfl
    rw [time] at noted
    exact ⟨_, execEvinChangeAccepted_active new long enabled active, noted, Raises.after set raises⟩
  · intro n s u q active used due fresh listens
    exact execEvinStuckTimeout_stuck active used due fresh listens
  · intro n s u last waiting due
    exact ⟨_, execEvinActionPendingExpiry_waiting last waiting due, by rw [State.evinSelect_evi], by rw [State.evinSelect_evi]⟩
  · intro r b s ready length input enable level action reserved tail slot
    obtain ⟨t, result, answers, kept⟩ := execEviConfig_effect ready length input enable level action reserved tail slot
    exact ⟨t, result, answers, kept.reg.trans (State.eviConfigured_cfg _ input), kept.regBits.trans (State.eviConfigured_arg _ input),
      kept.reg.trans (State.eviConfigured_overruns _ input), kept.regBit.trans (State.eviConfigured_stuck _ input)⟩

end Sys2Proof.Machine
end

section
/-! SUPPORT. What a selection writes first, and nothing of the selection's own work touches again (02_host_ports_commands.md R86 to R90):
the slot selected last and PSEL in PRF_STATE, and on whose behalf the selection stands. -/

namespace Sys2Proof

/-- A field below the bits written reads as before. -/
theorem Word.bits_setBits_below (v : Word) {hi lo h2 l2 : Nat} (n : Nat) (hl2 : l2 ≤ h2) (below : h2 < lo) :
    (v.setBits hi lo n).bits h2 l2 = v.bits h2 l2 := by
  apply Nat.eq_of_testBit_eq
  intro k
  rw [Word.testBit_bits, Word.testBit_bits]
  by_cases inside : k ≤ h2 - l2
  · have clear (m : Nat) : (m * 2 ^ lo).testBit (l2 + k) = false := by
      rw [Nat.testBit_mul_two_pow]
      simp
      omega
    have masked (m : Nat) : (BitVec.ofNat 32 (m * 2 ^ lo)).getLsbD (l2 + k) = false := by rw [BitVec.getLsbD_ofNat, clear, Bool.and_false]
    by_cases word : l2 + k < 32
    · simp only [Word.setBits, BitVec.getLsbD_or, BitVec.getLsbD_and, BitVec.getLsbD_not, masked, word]
      simp
    · simp [BitVec.getLsbD_of_ge _ _ (Nat.le_of_not_lt word)]
  · simp [inside]

end Sys2Proof

namespace Sys2Proof.Machine

/-- The selection that stands is the same in two states: the slot selected last and PSEL (PRF_STATE 5:2), and the source of the selection. -/
structure SelectionKept (s t : State) : Prop where
  bits : ∀ {hi lo : Nat}, lo ≤ hi → 2 ≤ lo → hi ≤ 5 → t.regBits .PRF_STATE 0 hi lo = s.regBits .PRF_STATE 0 hi lo
  src : t.prof.src = s.prof.src
  srcArg : t.prof.srcArg = s.prof.srcArg

namespace SelectionKept

variable {F R : Nat} {s t u : State}

theorem refl (s : State) : SelectionKept s s := ⟨fun _ _ _ => rfl, rfl, rfl⟩

theorem trans (h : SelectionKept s u) (k : SelectionKept u t) : SelectionKept s t :=
  ⟨fun a b c => (k.bits a b c).trans (h.bits a b c), k.src.trans h.src, k.srcArg.trans h.srcArg⟩

/-- What touches neither the profile store nor its register leaves the selection. -/
theorem of (k : Keeps F R s t) (hF : F.testBit Field.prof.ctorIdx = false := by rfl)
    (hR : R.testBit Reg.PRF_STATE.ctorIdx = false := by rfl) : SelectionKept s t :=
  ⟨fun _ _ _ => k.regBits hR, congrArg Profiles.src (k.fields .prof hF), congrArg Profiles.srcArg (k.fields .prof hF)⟩

theorem step (h : SelectionKept s u) (k : Keeps F R u t) (hF : F.testBit Field.prof.ctorIdx = false := by rfl)
    (hR : R.testBit Reg.PRF_STATE.ctorIdx = false := by rfl) : SelectionKept s t :=
  h.trans (of k hF hR)

/-- An update of the profile store that keeps the source, past which the registers are the same. -/
theorem update {p : Profiles} {i : Interp} (hs : p.src = s.prof.src) (ha : p.srcArg = s.prof.srcArg) :
    SelectionKept s { s with prof := p, interp := i } :=
  ⟨fun _ _ _ => rfl, hs, ha⟩

theorem ite {c : Prop} {_ : Decidable c} {a b : State} (h : SelectionKept s a) (k : SelectionKept s b) : SelectionKept s (if c then a else b) := by
  split <;> assumption

theorem foldl {α : Type} {g : State → α → State} {l : List α} (hg : ∀ x a, SelectionKept x (g x a)) (h : SelectionKept s u) :
    SelectionKept s (l.foldl g u) := by
  induction l generalizing u with
  | nil => exact h
  | cons a l ih => exact ih (h.trans (hg u a))

/-- A write of another register. -/
theorem writeReg {r : Reg} (i : Nat) (v : Word) (h : r.ctorIdx ≠ Reg.PRF_STATE.ctorIdx := by decide) : SelectionKept s (s.setReg r i v) :=
  of (KeepsLaws.setReg r i v s) rfl (Nat.testBit_two_pow_of_ne h)

/-- A write of PRF_STATE above its bit 5. -/
theorem setBits_above {hi lo : Nat} (n : Nat) (above : 5 < lo) : SelectionKept s (s.setBits .PRF_STATE 0 hi lo n) := by
  refine ⟨fun {h2 l2} order _ top => ?_, rfl, rfl⟩
  unfold State.regBits State.setBits
  rw [State.getReg_setReg_self _ _ (by decide), Word.bits_setBits_below _ _ order (by omega)]

/-- A write of the ACTIVE slot in PRF_STATE. -/
theorem setActive (n : Nat) : SelectionKept s (s.setBits .PRF_STATE 0 1 0 n) :=
  ⟨fun order low _ => State.regBits_setBits_ne s n (by decide) (by decide) order (.inr (.inr (.inr (by omega)))), rfl, rfl⟩

end SelectionKept

open SelectionKept

/-! ### The profile switch (R86, R87) -/

section

variable (s : State)

theorem State.setSlotState_selection (n st : Nat) : SelectionKept s (s.setSlotState n st) := setBits_above st (by omega)

theorem State.setSlot_selection (n : Nat) (x : Slot) : SelectionKept s (s.setSlot n x) := ⟨fun _ _ _ => rfl, rfl, rfl⟩

theorem State.storeEdit_selection (slot : Option Nat) (op : Nat) (b : Body) : SelectionKept s (s.storeEdit slot op b) := by
  cases slot with
  | none => exact refl s
  | some n => exact s.setSlot_selection n _

theorem State.storeTaken_selection (op : Nat) (b : Body) : SelectionKept s (s.storeTaken op b) := by
  unfold State.storeTaken
  split
  · exact refl s
  · split
    · exact ite (refl s) (s.storeEdit_selection ..)
    · exact s.storeEdit_selection ..

/-- The end of a switch writes the ACTIVE slot, the states of the slots and the count of switches. -/
theorem State.profileDone_selection (n : Nat) : SelectionKept s (s.profileDone n) := by
  unfold State.profileDone
  extract_lets prev s1 s2 s3 first boot pair s4 ws s5 s5'
  have k1 : SelectionKept s s1 := by
    unfold s1 prev
    split
    · exact ite (s.setSlotState_selection ..) (refl s)
    · exact refl s
  have k2 : SelectionKept s s2 :=
    (((k1.trans (s1.setSlotState_selection ..)).trans (setActive n)).trans (setBits_above _ (by decide))).trans (setBits_above _ (by decide))
  have k3 : SelectionKept s s3 := k2.step (State.event_keeps ..)
  have k4 : SelectionKept s s4 := ⟨k3.bits, k3.src, k3.srcArg⟩
  have k5 : SelectionKept s s5 := foldl (fun u w => of (State.stepWaiter_keeps ..)) k4
  have k6 : SelectionKept s s5' :=
    ite (foldl (fun u e => ite (of (State.startTraining_keeps ..)) (ite (foldl (fun u l => writeReg ..) (writeReg ..)) (refl u))) k5) k5
  exact ite (k6.step (State.setDutyOut_keeps ..)) k6

/-- A head or channel leaves the switch: the update keeps the source, and the last one ends the switch. -/
theorem State.profileStep_selection (n h : Nat) {f : Profiles → Profiles} (hs : (f s.prof).src = s.prof.src) (ha : (f s.prof).srcArg = s.prof.srcArg) :
    SelectionKept s (s.profileStep n h f) := by
  unfold State.profileStep
  refine ite ?_ (refl s)
  extract_lets p p1 i s1
  have k1 : SelectionKept s s1 := update hs ha
  exact ite (k1.trans (s1.profileDone_selection n)) k1

theorem State.profileKept_selection (n h : Nat) (refused : Bool) : SelectionKept s (s.profileKept n h refused) :=
  s.profileStep_selection n h rfl rfl

theorem State.profileTook_selection (n h : Nat) (late : Bool) (t : Nat) : SelectionKept s (s.profileTook n h late t) := by
  apply State.profileStep_selection <;> split <;> rfl

theorem State.supersede_selection (n : Nat) : SelectionKept s (s.supersede n) := by
  unfold State.supersede
  split
  · exact refl s
  · exact ite (refl s) (foldl (fun u w => of (State.stepWaiter_keeps ..)) (s.setSlotState_selection ..))

/-! ### Heads (R86) -/

/-- A head's take writes its set into the profile store at most, and leaves the switch. -/
theorem State.takeArm_selection (h : Nat) (a : Arm) : SelectionKept s (s.takeArm h a) := by
  unfold State.takeArm
  extract_lets x new bad t change s1 s2 s3 members s3' s4 s5 s6 s7 s8 stills s8' body s9
  have k1 : SelectionKept s s1 := (of (State.setHead_keeps ..)).step (State.rebind_keeps ..)
  have k2 : SelectionKept s s2 := foldl (fun u e => of (State.takeOut_keeps ..)) k1
  have k3 : SelectionKept s s3 :=
    ite (foldl (fun u o => ite (of (State.sdiBlack_keeps ..)) (of (State.takeOut_keeps ..))) k2) k2
  have k3' : SelectionKept s s3' := ite (foldl (fun u m => of (State.showHead_keeps ..)) k3) k3
  have k4 : SelectionKept s s4 :=
    ite ((k3'.step (State.showHead_keeps ..)).step (State.restartOuts_keeps ..)) (k3'.step (State.showHead_keeps ..))
  have k5 : SelectionKept s s5 := (k4.step (State.showSet_keeps ..)).step (State.allocFlat_keeps ..)
  have k6 : SelectionKept s s6 := ite k5 ((k5.step (State.setOutMode_keeps ..)).step (State.modHead_keeps ..))
  have k7 : SelectionKept s s7 := ite k6 (foldl (fun u e => ite (refl u) (u.storeEdit_selection ..)) k6)
  have k8 : SelectionKept s s8 := ite ((k7.trans (writeReg ..)).step (State.eventPerSec_keeps ..)) k7
  have k8' : SelectionKept s s8' := foldl (fun u e => of (State.applyStill_keeps ..)) k8
  have k9 : SelectionKept s s9 := by
    unfold s9
    split
    · exact k8'.step (State.stepWaiter_keeps ..)
    · exact k8'
  clear_value bad
  split
  · extract_lets f1 f2
    have m1 : SelectionKept s f1 := (of (State.event_keeps ..)).step (State.fault_keeps ..)
    have m2 : SelectionKept s f2 := by
      unfold f2
      split
      · exact m1.step (State.stepWaiter_keeps ..)
      · exact m1
    split
    · exact m2.trans (f2.profileKept_selection ..)
    · exact m2
  · split
    · exact k9.trans (s9.profileTook_selection ..)
    · exact k9

theorem State.armHead_selection (h : Nat) (a : Arm) : SelectionKept s (s.armHead h a) := by
  unfold State.armHead State.armFirst
  exact ite (of (State.setHead_keeps ..)) (ite (s.takeArm_selection h a) (of (State.armNow_keeps ..)))

theorem State.armProfile_selection (l : List Section) (n since h : Nat) : SelectionKept s (s.armProfile l n since h) := by
  unfold State.armProfile
  extract_lets es s1 outs s2
  have k1 : SelectionKept s s1 := of (State.dropHeadArms_keeps ..)
  have k2 : SelectionKept s s2 := ite k1 ((k1.step (State.discardHeld_keeps ..)).step (State.powerUpAll_keeps ..))
  exact ite k1 (k2.trans (s2.armHead_selection ..))

/-! ### Encoder channels (R86) -/

theorem State.tookChan_selection (c : Nat) (a : ChanArm) : SelectionKept s (s.tookChan c a) := by
  unfold State.tookChan
  extract_lets t s1 s2
  have k1 : SelectionKept s s1 := by
    unfold s1
    split
    · exact (of (State.modChan_keeps ..)).step (State.flowProfile_keeps ..)
    · exact s.storeEdit_selection ..
  have k2 : SelectionKept s s2 := by
    unfold s2
    split
    · exact k1.step (State.stepWaiter_keeps ..)
    · exact k1
  split
  · exact k2.trans (s2.profileTook_selection ..)
  · exact k2

theorem State.armChan_selection (c : Nat) (a : ChanArm) : SelectionKept s (s.armChan c a) := by
  unfold State.armChan State.armChanFirst
  refine ite (of (State.setChan_keeps ..)) (ite (ite ?_ (s.tookChan_selection c a)) (of (State.setChan_keeps ..)))
  exact ((of (State.applyChan_keeps ..)).step (State.setChanState_keeps ..)).trans (State.tookChan_selection ..)

theorem State.chanProfile_selection (l : List Section) (n c : Nat) : SelectionKept s (s.chanProfile l n c) := by
  unfold State.chanProfile
  extract_lets s1
  have k1 : SelectionKept s s1 := of (State.dropChanArms_keeps ..)
  split
  · split
    · exact (k1.step (State.stageChan_keeps _ _ _ _ _ (by assumption))).trans (State.armChan_selection ..)
    · exact k1.trans (s1.profileKept_selection ..)
  · exact ite (k1.trans (s1.armChan_selection ..)) k1

/-! ### Bindings that take effect at the selection (R83, R164, R433) -/

theorem State.applyBinding_selection (c : Nat) (b : Body) (quiet : Bool) : SelectionKept s (s.applyBinding c b quiet) := by
  unfold State.applyBinding
  extract_lets old s1 fresh s3 s2
  have k1 : SelectionKept s s1 := ite (refl s) (s.storeTaken_selection ..)
  have k2 : SelectionKept s s2 := by
    refine ite ((ite (k1.step (State.freePool_keeps ..)) k1).step (State.setIctx_keeps ..)) ?_
    have k3 : SelectionKept s s3 := ite (k1.step (State.adoptPool_keeps ..)) (ite (k1.step (State.freePool_keeps ..)) k1)
    exact (k3.step (State.modIctx_keeps ..)).step (State.showLos_keeps ..)
  exact ite (k2.step (State.showSessLos_keeps ..)) k2

theorem State.bindIng_selection (b : Body) (quiet : Bool) : SelectionKept s (s.bindIng b quiet) := by
  unfold State.bindIng
  exact ite (of (State.modIctx_keeps ..)) (ite (refl s) (s.applyBinding_selection ..))

theorem State.applyCam_selection (c : Nat) (b : Body) (quiet : Bool) : SelectionKept s (s.applyCam c b quiet) := by
  unfold State.applyCam
  extract_lets s1 mine t2 t3 s2 s3 s4 los s5
  have k1 : SelectionKept s s1 := ite (refl s) (s.storeTaken_selection ..)
  have m2 : SelectionKept s t2 := foldl (fun u q => of (State.pipeDrop_keeps ..)) k1
  have m3 : SelectionKept s t3 := ((m2.step (State.freePool_keeps ..)).step (State.freePool_keeps ..)).step (State.freePool_keeps ..)
  have k2 : SelectionKept s s2 := ((k1.step (State.adoptPool_keeps ..)).step (State.adoptPool_keeps ..)).step (State.adoptPool_keeps ..)
  have k3 : SelectionKept s s3 := ite (k2.step (State.freePool_keeps ..)) k2
  have k5 : SelectionKept s s5 := (k3.step (State.modCctx_keeps ..)).step (State.modPool_keeps ..)
  refine ite ?_ ?_
  · exact (foldl (fun u q => of (State.pipeSelect_keeps ..)) (m3.step (State.setCctx_keeps ..))).step (State.showCams_keeps ..)
  · exact (ite k5 (k5.step (State.modPool_keeps ..))).step (State.showCams_keeps ..)

theorem State.camTake_selection (c : Nat) (b : Body) (quiet : Bool) (fuel : Nat) : SelectionKept s (s.camTake c b quiet fuel) := by
  induction fuel generalizing s c b quiet with
  | zero => exact s.applyCam_selection c b quiet
  | succ fuel ih =>
    unfold State.camTake
    extract_lets s1 other
    have k1 : SelectionKept s s1 := s.applyCam_selection c b quiet
    clear_value other
    split
    · exact k1
    · split
      · exact k1
      · exact (k1.step (State.shortCam_keeps ..)).trans (ih ..)

theorem State.bindCam_selection (b : Body) (quiet : Bool) : SelectionKept s (s.bindCam b quiet) := by
  unfold State.bindCam
  exact ite (of (State.modCctx_keeps ..)) (ite (refl s) ((of (State.powerUp_keeps ..)).trans (State.camTake_selection ..)))

theorem State.applyDec_selection (n : Nat) (b : Body) (quiet : Bool) : SelectionKept s (s.applyDec n b quiet) := by
  unfold State.applyDec
  extract_lets d s1 fresh s2
  have k1 : SelectionKept s s1 := ite (refl s) (s.storeTaken_selection ..)
  have k2 : SelectionKept s s2 :=
    ((((k1.step (State.dropAus_keeps ..)).step (State.disown_keeps ..)).step (State.adoptPool_keeps ..)).step (State.modSess_keeps ..))
  refine ite ?_ (ite ((k1.step (State.modSess_keeps ..)).step (State.showDec_keeps ..)) ?_)
  · exact (((((k1.step (State.dropAus_keeps ..)).step (State.disown_keeps ..)).step (State.freePool_keeps ..)).step
      (State.modSess_keeps ..)).step (State.setSess_keeps ..)).trans (writeReg ..) |>.step (State.showDec_keeps ..)
  · exact ((k2.step (State.setSess_keeps ..)).step (State.showSessLos_keeps ..)).step (State.showDec_keeps ..)

theorem State.bindDec_selection (b : Body) (quiet : Bool) : SelectionKept s (s.bindDec b quiet) := by
  unfold State.bindDec
  extract_lets n d waits s1
  have k1 : SelectionKept s s1 := of (State.modSess_keeps ..)
  refine ite (ite ?_ k1) (ite (refl s) (s.applyDec_selection ..))
  unfold State.sessBoundary
  split
  · exact k1
  · exact k1.trans (s1.applyDec_selection ..)

theorem State.applyTchMap_selection (b : Body) (quiet : Bool) : SelectionKept s (s.applyTchMap b quiet) := by
  unfold State.applyTchMap
  refine ite (of (State.modTfe_keeps ..)) ?_
  unfold State.takeTchMap
  extract_lets on s1
  have k1 : SelectionKept s s1 := ite (refl s) (s.storeTaken_selection ..)
  exact ((k1.step (State.modTfe_keeps ..)).trans (writeReg ..)).trans (writeReg ..)

/-- A staged binding is put, or the binding stays as it is. -/
theorem State.putBinding_selection {F R : Nat} {staged : Option State} {arm : State → State} (k : KeepsM F R s staged)
    (ha : ∀ u, SelectionKept u (arm u)) (hF : F.testBit Field.prof.ctorIdx = false := by rfl)
    (hR : R.testBit Reg.PRF_STATE.ctorIdx = false := by rfl) : SelectionKept s (s.putBinding staged arm) := by
  cases staged with
  | none => exact refl s
  | some u => exact (of (k u rfl) hF hR).trans (ha u)

theorem State.putSection_selection (l : List Section) (e : Section) : SelectionKept s (s.putSection l e) := by
  unfold State.putSection
  extract_lets b
  split
  · exact s.putBinding_selection (State.stageIng_keeps s b) fun u => u.bindIng_selection b true
  · exact s.putBinding_selection (State.stageCam_keeps s b) fun u => u.bindCam_selection b true
  · exact of (State.armParams_keeps ..)
  · exact s.putBinding_selection (State.stageDec_keeps s b) fun u => u.bindDec_selection b true
  · exact (of (State.powerUp_keeps ..)).step (State.applyTdm_keeps ..)
  · exact (of (State.powerUp_keeps ..)).step (State.applyAes3_keeps ..)
  · exact (of (State.powerUp_keeps ..)).step (State.applyRx_keeps ..)
  · exact ((ite (of (State.powerUp_keeps ..)) (refl s)).step (State.powerUp_keeps ..)).step (State.applyTx_keeps ..)
  · exact of (State.applyRoutes_keeps ..)
  · exact s.applyTchMap_selection b true
  · have powered : SelectionKept s (s.powerUpAll (s.islandsOfOut b)) := of (State.powerUpAll_keeps ..)
    exact ite (ite powered (powered.step (State.takeOut_keeps ..))) (refl s)
  · exact refl s

theorem State.unbindOthers_selection (l : List Section) : SelectionKept s (s.unbindOthers l) := by
  unfold State.unbindOthers
  refine foldl (fun u e => ?_) (foldl (fun u e => u.bindCam_selection ..) (foldl (fun u e => ?_) (refl s)))
  · exact (of (State.unstage_keeps ..)).trans (State.bindDec_selection ..)
  · exact (of (State.unstage_keeps ..)).trans (State.bindIng_selection ..)

end

/-! ### The selection itself (R86 to R88) -/

/-- What the selection writes first stands at its end: the slot, its source and, from before it, PSEL. -/
theorem State.selectSlot_stands (s : State) {n : Nat} (src arg since : Nat) (hn : n < 4) :
    (s.selectSlot n src arg since).regBits .PRF_STATE 0 3 2 = n ∧ (s.selectSlot n src arg since).regBits .PRF_STATE 0 5 4 = s.regBits .PRF_STATE 0 5 4 ∧
      (s.selectSlot n src arg since).prof.src = src ∧ (s.selectSlot n src arg since).prof.srcArg = arg := by
  unfold State.selectSlot
  extract_lets l hs cs s1 p s2 s3 s4 s5
  have before : SelectionKept s ((s.supersede n).setSlotState n 3) := (s.supersede_selection n).trans (State.setSlotState_selection ..)
  have noted : SelectionKept (((s.supersede n).setSlotState n 3).setBits .PRF_STATE 0 3 2 n) s1 :=
    of (State.endGiveUp_keeps ..)
  have k3 : SelectionKept s2 s3 :=
    foldl (fun u e => u.putSection_selection ..) (((s2.unbindOthers_selection l).trans (foldl (fun u e => of (State.changeRoute_keeps ..))
      (refl _))).trans (foldl (fun u e => of (State.takeOut_keeps ..)) (refl _)))
  have k5 : SelectionKept s2 s5 :=
    (foldl (fun u h => u.armProfile_selection ..) (foldl (fun u c => u.chanProfile_selection ..) k3)).step (State.allocate_keeps ..)
  have k6 : SelectionKept s2 (if hs.isEmpty && cs.isEmpty then s5.profileDone n else s5) := ite (k5.trans (s5.profileDone_selection n)) k5
  refine ⟨?_, ?_, k6.src, k6.srcArg⟩
  · rw [k6.bits (by decide) (by decide) (by decide)]
    refine (noted.bits (by decide) (by decide) (by decide)).trans ?_
    rw [State.regBits_setBits_self _ _ (by decide) (by decide) (by decide)]
    exact Nat.mod_eq_of_lt hn
  · rw [k6.bits (by decide) (by decide) (by decide)]
    refine (noted.bits (by decide) (by decide) (by decide)).trans ?_
    rw [State.regBits_setBits_ne _ _ (by decide) (by decide) (by decide) (.inr (.inr (.inr (by decide))))]
    exact before.bits (by decide) (by decide) (by decide)

end Sys2Proof.Machine
end

section
/-! SUPPORT AND CLAIMS. PRF_SELECT and PSEL in pin mode (02_host_ports_commands.md R86 to R90, R94, R99). -/

namespace Sys2Proof.Machine

/-! ### Slots that a selection may name (R84, R88) -/

/-- A slot that the state calls VALID is kept as VALID. -/
theorem State.valid_of_slotState {s : State} {n : Nat} (valid : s.slotState n = 1) :
    s.regBits .PRF_STATE 0 (19 + 4 * n) (16 + 4 * n) = 1 := by
  unfold State.slotState at valid
  dsimp only at valid
  split_ifs at valid
  · exact absurd valid (by decide)
  · exact valid

/-- A slot kept as VALID is VALID, or LOADING: neither PENDING nor ACTIVE. -/
theorem State.slotState_of_valid {s : State} {n : Nat} (kept : s.regBits .PRF_STATE 0 (19 + 4 * n) (16 + 4 * n) = 1) :
    s.slotState n ≠ 3 ∧ s.slotState n ≠ 4 := by
  unfold State.slotState
  rw [kept]
  dsimp only
  split_ifs <;> decide

theorem State.selectable_of_valid {s : State} {n : Nat} (hn : n < 4) (valid : s.slotState n = 1) (good : (s.slot n).reason = 0) :
    s.selectable n = true := by
  simp [State.selectable, hn, valid, good]

/-! ### PRF_SELECT (R86) -/

/-- A port that holds nothing keeps no selection from the other port. -/
theorem State.selectDenied_free {s : State} {p : Port} (n : Nat) (free : s.heldOf p.other = 0) : s.selectDenied p n = false := by
  simp [State.selectDenied, State.holds, free]

/-- PRF_SELECT of a VALID slot ends as the selection that it starts. -/
theorem execPrfSelect_valid {r : Req} {b : Body} {s : State} (ready : Ready s r 0x0302 [1 + b.u8 0]) (length : b.length = 4)
    (reserved : b.zero 1 3 = true) (slot : b.u8 0 < 4) (valid : s.slotState (b.u8 0) = 1) (good : (s.slot (b.u8 0)).reason = 0)
    (free : s.heldOf r.port.other = 0) (engines : s.enginesLack (b.u8 0) = false) :
    ∃ (u : State) (since : Nat), execPrfSelect r b s = .next (u.selectSlot (b.u8 0) 0 r.port.idx since) := by
  have operands : (b.length != 4 || !b.zero 1 3 || !s.selectable (b.u8 0)) = false := by
    simp [length, reserved, State.selectable_of_valid slot valid good]
  obtain ⟨notPending, notActive⟩ := State.slotState_of_valid (s := s.endInterp.noteSel 9) (n := b.u8 0) (State.valid_of_slotState (s := s) valid)
  unfold execPrfSelect
  refine ⟨((s.endInterp.noteSel 9).newWaiter { req := r, opcode := 0x0302, restarted := s.isRestarted, heads := [24], slot := some (b.u8 0) }).2,
    s.fetchOf r 0x0302, command_later ready.1 (firstStatus_none ready operands (h2 := State.selectDenied_free _ free) (h6 := ?_)) ?_⟩
  · exact if_neg (by simp [engines])
  · dsimp only
    rw [if_neg (fun h => notActive h.1), if_neg notPending]

/-! ### PSEL (R90, R99) -/

section

variable (s : State) (v : Nat)

/-- PRF_STATE with a new PSEL. -/
def State.withPsel : State := s.setBits .PRF_STATE 0 5 4 v

theorem State.withPsel_keeps : Keeps 0 (2 ^ Reg.PRF_STATE.ctorIdx) s (s.withPsel v) :=
  KeepsLaws.stepSetBits (KeepsLaws.refl ..) (KeepsLaws.bitI rfl)

theorem State.withPsel_shows (hv : v < 4) : (s.withPsel v).regBits .PRF_STATE 0 5 4 = v :=
  (State.regBits_setBits_self _ _ (by decide) (by decide) (by decide)).trans (Nat.mod_eq_of_lt hv)

/-- PSEL changes the state of no slot. -/
theorem State.slotState_withPsel (n : Nat) : (s.withPsel v).slotState n = s.slotState n := by
  have k := s.withPsel_keeps v
  have kept : (s.withPsel v).regBits .PRF_STATE 0 (19 + 4 * n) (16 + 4 * n) = s.regBits .PRF_STATE 0 (19 + 4 * n) (16 + 4 * n) :=
    State.regBits_setBits_ne _ _ (by decide) (by decide) (by omega) (.inr (.inr (.inr (by omega))))
  have interp : (s.withPsel v).interp = s.interp := k.fields .interp rfl
  have boot : (s.withPsel v).boot = s.boot := k.fields .boot rfl
  have notReady : (s.withPsel v).notReady 0x0301 = s.notReady 0x0301 := by
    simp only [State.notReady, State.fwRuns, State.mpuLocked, State.trained, State.cnyLocked, boot,
      k.regBit (q := .HP_STATUS), k.regBit (q := .MPU_CTL), k.regBit (q := .DMC_STATUS), k.regBit (q := .CNY_CTL)]
  have loading : (s.withPsel v).slotLoading n = s.slotLoading n := by
    unfold State.slotLoading
    rw [interp, notReady]
  unfold State.slotState
  rw [kept, loading]

theorem State.slot_withPsel (n : Nat) : (s.withPsel v).slot n = s.slot n :=
  congrArg (fun p : Profiles => Tbl.get p.slots n) ((s.withPsel_keeps v).fields .prof rfl)

theorem State.selectable_withPsel (n : Nat) : (s.withPsel v).selectable n = s.selectable n := by
  simp only [State.selectable, State.slotState_withPsel, State.slot_withPsel]

theorem State.enginesLack_withPsel (n : Nat) : (s.withPsel v).enginesLack n = s.enginesLack n := by
  have k := s.withPsel_keeps v
  have fab : (s.withPsel v).fab = s.fab := k.fields .fab rfl
  simp only [State.enginesLack, State.slot_withPsel, Conf.enginesOver, State.healthy, fab, k.regBits (q := .CF_RESERVE)]
  rfl

/-- A selection by a pin or an event input leaves PSEL. -/
theorem State.selectFree_psel (n src arg : Nat) : (s.selectFree n src arg).regBits .PRF_STATE 0 5 4 = s.regBits .PRF_STATE 0 5 4 := by
  unfold State.selectFree
  split_ifs with refused stands
  · rfl
  · rfl
  · have hn : n < 4 := by
      simp [State.selectable] at refused
      exact refused.1.1.1.1
    exact (State.selectSlot_stands (s.noteSel (selRank src arg)) src arg s.now hn).2.1

end

section

variable {v : Fin 4} {s : State}

/-- PSEL counts from 10 ms after the release of PORST_N: it is shown, and in pin mode a new value acts. -/
theorem execPselStable_counts (up : s.pwr.porst = false) (late : s.pwr.released + 10000000 ≤ s.now) :
    execPselStable v s =
      if s.regBits .PRF_STATE 0 5 4 = v ∨ !s.regBit .PRF_STATE 0 7 then .next (s.withPsel v)
      else if s.selectable v then .next ((s.withPsel v).selectFree v 1 0)
      else .next ((s.withPsel v).event 0x0302 [BitVec.ofNat 8 v, BitVec.ofNat 8 (s.slotState v)]) := by
  have counts : ¬(s.pwr.porst = true ∨ s.now < s.pwr.released + 10 * ms) := by
    rw [up]
    simpa [ms] using late
  unfold execPselStable
  dsimp only
  rw [if_neg counts, ← State.selectable_withPsel s v, ← State.slotState_withPsel s v]
  rfl

/-- Whatever a stable level sets off, PRF_STATE shows it. -/
theorem execPselStable_shows (up : s.pwr.porst = false) (late : s.pwr.released + 10000000 ≤ s.now) :
    ∃ t, execPselStable v s = .next t ∧ t.regBits .PRF_STATE 0 5 4 = v ∧ (s.regBit .PRF_STATE 0 7 = false → t.interp = s.interp ∧ t.prof = s.prof) := by
  have shows := s.withPsel_shows v v.isLt
  rw [execPselStable_counts up late]
  split_ifs with quiet selects
  · exact ⟨_, rfl, shows, fun _ => ⟨(s.withPsel_keeps v).fields .interp rfl, (s.withPsel_keeps v).fields .prof rfl⟩⟩
  · exact ⟨_, rfl, (State.selectFree_psel ..).trans shows, fun off => absurd (.inr (by simp [off])) quiet⟩
  · exact ⟨_, rfl, (State.event_keeps ..).regBits.trans shows, fun off => absurd (.inr (by simp [off])) quiet⟩

/-- A selection by a pin of a VALID slot, the first of its cycle, with engines enough, starts. -/
theorem State.selectFree_valid {n : Nat} (src arg : Nat) (hn : n < 4) (valid : s.slotState n = 1) (good : (s.slot n).reason = 0)
    (first : s.prof.lastSel = none) (engines : s.enginesLack n = false) :
    s.selectFree n src arg = (s.noteSel (selRank src arg)).selectSlot n src arg s.now := by
  have outranked : s.selOutranked (selRank src arg) = false := by rw [State.selOutranked, first]
  simp [State.selectFree, State.selectable_of_valid hn valid good, outranked, engines, valid]

/-- In pin mode a new level of a VALID slot selects it. -/
theorem execPselStable_selects (up : s.pwr.porst = false) (late : s.pwr.released + 10000000 ≤ s.now) (pins : s.regBit .PRF_STATE 0 7 = true)
    (new : s.regBits .PRF_STATE 0 5 4 ≠ v) (valid : s.slotState v = 1) (good : (s.slot v).reason = 0) (first : s.prof.lastSel = none)
    (engines : s.enginesLack v = false) :
    execPselStable v s = .next (((s.withPsel v).noteSel (selRank 1 0)).selectSlot v 1 0 (s.withPsel v).now) := by
  have prof : (s.withPsel v).prof = s.prof := (s.withPsel_keeps v).fields .prof rfl
  rw [execPselStable_counts up late, if_neg (by simp [new, pins]), if_pos (State.selectable_of_valid v.isLt valid good),
    State.selectFree_valid 1 0 v.isLt ((s.slotState_withPsel ..).trans valid) ((congrArg Slot.reason (s.slot_withPsel ..)).trans good)
      ((congrArg Profiles.lastSel prof).trans first) ((s.enginesLack_withPsel ..).trans engines)]

/-- In pin mode a new level of a slot that no selection may name raises PRF_PIN_INVALID. -/
theorem execPselStable_refuses (up : s.pwr.porst = false) (late : s.pwr.released + 10000000 ≤ s.now) (pins : s.regBit .PRF_STATE 0 7 = true)
    (new : s.regBits .PRF_STATE 0 5 4 ≠ v) (invalid : s.slotState v = 0 ∨ s.slotState v = 2 ∨ s.slotState v = 5) :
    execPselStable v s = .next ((s.withPsel v).event 0x0302 [BitVec.ofNat 8 v, BitVec.ofNat 8 (s.slotState v)]) := by
  have barred : s.selectable v = false := by rcases invalid with h | h | h <;> simp [State.selectable, h]
  rw [execPselStable_counts up late, if_neg (by simp [new, pins]), if_neg (by simp [barred])]

end

/-- Settles O19: each selection is one run of the selection's own work, which leaves what it noted first. -/
theorem profileSelectionsStart : Obligations.ProfileSelectionsStart := by
  unfold Obligations.ProfileSelectionsStart
  refine ⟨?_, ?_, ?_, ?_⟩
  · intro r b s ready length reserved slot valid good free engines
    obtain ⟨u, since, result⟩ := execPrfSelect_valid ready length reserved slot valid good free engines
    obtain ⟨chosen, _, src, arg⟩ := u.selectSlot_stands 0 r.port.idx since slot
    exact ⟨_, result, chosen, src, arg⟩
  · intro v s up late
    exact execPselStable_shows up late
  · intro v s up late pins new valid good first engines
    obtain ⟨chosen, psel, src, _⟩ := ((s.withPsel v).noteSel (selRank 1 0)).selectSlot_stands 1 0 (s.withPsel v).now v.isLt
    exact ⟨_, execPselStable_selects up late pins new valid good first engines, psel.trans (s.withPsel_shows v v.isLt), chosen, src⟩
  · intro v s q up late pins new invalid listens
    have k := s.withPsel_keeps v
    refine ⟨_, execPselStable_refuses up late pins new invalid, (State.event_keeps ..).regBits.trans (s.withPsel_shows v v.isLt), ?_,
      Raises.after k (raises_event _ (listens.keeps k))⟩
    exact ((State.event_keeps ..).fields .prof rfl : _ = (s.withPsel v).prof).trans (k.fields .prof rfl)

end Sys2Proof.Machine
end

section
/-! SUPPORT AND CLAIMS. ING_MAC_CONFIG and the power-up of island 20 (04_ingest.md R154; 16_power_startup.md R30, R561). -/

namespace Sys2Proof

/-- A table whose values are changed key by key lists the changed values. -/
theorem Tbl.find_map {α : Type} (t : Tbl α) (g : Nat → α → α) (i : Nat) :
    Tbl.find (t.map fun e => (e.1, g e.1 e.2)) i = (Tbl.find t i).map (g i) := by
  induction t with
  | nil => rfl
  | cons e t ih =>
    obtain ⟨k, v⟩ := e
    simp only [List.map_cons, Tbl.find]
    split_ifs with h
    · simp [h]
    · exact ih

end Sys2Proof

namespace Sys2Proof.Machine

/-- What the power-off of island 20 leaves of a MAC: one from 8 on is disabled. -/
def MacSt.dropped (m : Nat) (x : MacSt) : MacSt := if 8 ≤ m then { x with enabled := false, address := 0 } else x

theorem State.dropData_macs (s : State) :
    (s.dropData 20).ing.macs = s.ing.macs.map fun e => (e.1, MacSt.dropped e.1 e.2) := by
  refine List.map_congr_left fun e _ => ?_
  unfold MacSt.dropped
  split_ifs <;> rfl

/-- No MAC from 8 on is enabled when island 20 has lost its data. -/
theorem State.dropData_disables (s : State) {m : Nat} (high : 8 ≤ m) : (Tbl.get (s.dropData 20).ing.macs m).enabled = false := by
  rw [State.dropData_macs, Tbl.get, Tbl.getD, Tbl.find_map]
  cases Tbl.find s.ing.macs m with
  | none => rfl
  | some x => simp [MacSt.dropped, high]

/-- Powering island 20 up from OFF clears it, and with it the MACs from 8 on. -/
theorem State.powerUp_disables {s : State} {m : Nat} (off : s.island 20 = 0) (high : 8 ≤ m) :
    (Tbl.get (s.powerUp 20).ing.macs m).enabled = false := by
  rw [State.powerUp, State.powerUpFor, if_pos off]
  generalize s.startIsland 20 1 = u
  have cleared : (u.finishIsland 20).ing = (u.dropData 20).ing :=
    (((u.clearSram 20).setIsland_keeps 20 2 _).fields .ing rfl).trans (State.setBits_ing ..)
  rw [cleared]
  exact u.dropData_disables high

/-- ING_MAC_CONFIG ends the tests on the MAC's lanes and writes the MAC and its MAC_UP. -/
def State.macWritten (s : State) (b : Body) : State :=
  let s1 := s.endPrbsOf (s.macLanes (b.u8 0))
  let x := Tbl.get s1.ing.macs (b.u8 0)
  let s2 := { s1 with ing := { s1.ing with macs := Tbl.set s1.ing.macs (b.u8 0) { x with enabled := b.u8 1 == 1, address := b.be 2 6 } } }
  s2.setBit .ING_STATUS 0 (16 + b.u8 0) (b.u8 1 == 1 && x.locked)

/-- What ING_MAC_CONFIG executes: after the MAC it powers up island 20 for one that needs it. -/
def State.macConfigured (s : State) (b : Body) : State :=
  if b.u8 1 == 1 && decide (8 ≤ b.u8 0) then (s.macWritten b).powerUp 20 else s.macWritten b

theorem State.macWritten_keeps (s : State) (b : Body) :
    Keeps 16778268 738417393277345868327966488265645945868513086830327227110598368329165803639010520659055327383552 s (s.macWritten b) := by
  unfold State.macWritten
  refine KeepsLaws.stepSetBit ?_ (KeepsLaws.bitI rfl)
  refine KeepsLaws.comp ?_ (KeepsLaws.upd_ing ..) (KeepsLaws.subI rfl rfl)
  exact KeepsLaws.mono (State.endPrbsOf_keeps ..) (KeepsLaws.subI rfl rfl)

section

variable {r : Req} {b : Body} {s : State}

/-- ING_MAC_CONFIG that enables a MAC of island 20 while the island is OFF writes the MAC first and powers the island up after it: the
island's clear disables the MAC again. -/
theorem execIngMacConfig_off (ready : Ready s r 0x2001 [45]) (length : b.length = 8) (high : 8 ≤ b.u8 0) (mac : b.u8 0 ≤ 15)
    (enable : b.u8 1 = 1) (unicast : b.u8 2 % 2 = 0) (onBoard : s.macOnBoard (b.u8 0) = true) (off : s.island 20 = 0) :
    ∃ t, execIngMacConfig r b s = .next t ∧ (Tbl.get t.ing.macs (b.u8 0)).enabled = false := by
  have good : (b.length != 8 || decide (15 < b.u8 0) || decide (1 < b.u8 1) || b.u8 2 % 2 == 1 || !(s.macOnBoard (b.u8 0))) = false := by
    simp [length, enable, unicast, onBoard, mac]
  refine ⟨_, command_now (c := {}) (eff := fun s => done (s.macConfigured b)) ready.1 (firstStatus_none ready good) rfl, ?_⟩
  rw [(State.replyR_keeps ..).fields .ing rfl, State.macConfigured, if_pos (by simp [enable, high])]
  exact State.powerUp_disables ((s.endInterp.macWritten_keeps b).regBits.trans off) high

end

/-- A board with 12 MACs of 10 Gb/s on its quads 0 to 2. -/
def twelveMacs : Body := leBytes 16 0 ++ leBytes 4 1 ++ leBytes 8 28 ++ leBytes 8 0x0F02 ++ leBytes 8 0x0F02 ++ leBytes 8 0x0F02 ++ leBytes 104 0

/-- The firmware runs on that board and port A holds scope 0; island 20 is OFF, as it is after reset. -/
def island20Off : State :=
  let s := (State.reset.setBit .HP_STATUS 0 12 true).setReg .HP_CTL 0 3#32
  { s with boot := { s.boot with board := true, table := twelveMacs }, sem := { heldA := 1 } }

/-- ING_MAC_CONFIG's body that enables MAC 8 with the address 02-00-00-00-00-01. -/
def enableMac8 : Body := leBytes 2 0x0108 ++ beBytes 6 0x020000000001

/-- Refutes O39: enabling MAC 8 of a board of 12 while island 20 is OFF powers the island up, and the clear of the island takes the
enable back, where the first clause asks for an enabled MAC. -/
theorem not_ingestPortsAreSetAndFramesInjected : ¬ Obligations.IngestPortsAreSetAndFramesInjected := by
  unfold Obligations.IngestPortsAreSetAndFramesInjected
  rintro ⟨macConfig, -⟩
  have ready : Ready island20Off ⟨.A, 0, 0#32, false, false⟩ 0x2001 [45] := by decide +kernel
  have mac : enableMac8.u8 0 = 8 := by decide
  have enable : enableMac8.u8 1 = 1 := by decide
  have unicast : enableMac8.u8 2 % 2 = 0 := by decide
  have onBoard : island20Off.macOnBoard (enableMac8.u8 0) = true := by decide +kernel
  have off : island20Off.island 20 = 0 := by decide +kernel
  obtain ⟨t, result, -, enabled, -⟩ := macConfig _ _ _ ready rfl (by omega) (by omega) unicast onBoard
  obtain ⟨u, same, disabled⟩ := execIngMacConfig_off ready rfl (by omega) (by omega) enable unicast onBoard off
  obtain rfl : u = t := Host.Outcome.next.inj (same.symm.trans result)
  simp [disabled, enable] at enabled

end Sys2Proof.Machine
end

section
/-! SUPPORT. The counters, and what the writes of ingest leave of contexts, merge groups, SDI inputs and pools. -/

namespace Sys2Proof.Machine

/-! ### Counters (R623) -/

section

variable {s t : State} {r : Reg} {i : Nat}

theorem State.bumpSat_keeps (s : State) (r : Reg) (i : Nat) : Keeps 0 (2 ^ r.ctorIdx) s (s.bumpSat r i) := KeepsLaws.setReg ..

theorem State.bumpWrap_keeps (s : State) (r : Reg) (i : Nat) : Keeps 0 (2 ^ r.ctorIdx) s (s.bumpWrap r i) := KeepsLaws.setReg ..

/-- A wrapping counter counts one. -/
theorem State.getReg_bumpWrap_self (s : State) (h : i < r.info.count) : (s.bumpWrap r i).getReg r i = s.getReg r i + 1 := by
  rw [State.bumpWrap, State.addWrapBits, State.setBits, State.getReg_setReg_self _ _ h]
  refine BitVec.eq_of_toNat_eq ?_
  rw [← Word.bits_full, Word.bits_setBits_self _ _ (by decide) (by decide), State.regBits, Word.bits_full, BitVec.toNat_add]
  simp

/-- A saturating counter shows the same after the same value. -/
theorem State.getReg_bumpSat_congr (h : t.getReg r i = s.getReg r i) : (t.bumpSat r i).getReg r i = (s.bumpSat r i).getReg r i := by
  simp only [State.bumpSat, State.addSat, State.addSatBits, State.setBits, State.regBits, State.getReg_setReg, h]

end

/-! ### Contexts, merge groups and SDI inputs -/

section

variable (s : State)

/-- Past its data a context's write shows its status alone. -/
theorem State.setIctx_ing (c : Nat) (x : IngCtx) : (s.setIctx c x).ing = { s.ing with ctx := Tbl.set s.ing.ctx c x } :=
  State.setReg_ing ..

@[simp] theorem State.ictx_setIctx_self (c : Nat) (x : IngCtx) : (s.setIctx c x).ictx c = x := by
  rw [State.ictx, State.setIctx_ing]
  exact Tbl.get_set_self ..

@[simp] theorem State.ictx_modIctx_self (c : Nat) (f : IngCtx → IngCtx) : (s.modIctx c f).ictx c = f (s.ictx c) := s.ictx_setIctx_self ..

@[simp] theorem State.setIctx_sdi (c : Nat) (x : IngCtx) : (s.setIctx c x).ing.sdi = s.ing.sdi := by rw [State.setIctx_ing]

/-- Past its data a merge group's write shows its status alone. -/
theorem State.setMgrp_ing (g : Nat) (m : MergeGroup) : (s.setMgrp g m).ing = { s.ing with groups := Tbl.set s.ing.groups g m } :=
  State.setReg_ing ..

@[simp] theorem State.mgrp_setMgrp_self (g : Nat) (m : MergeGroup) : (s.setMgrp g m).mgrp g = m := by
  rw [State.mgrp, State.setMgrp_ing]
  exact Tbl.get_set_self ..

@[simp] theorem State.ictx_setMgrp (g : Nat) (m : MergeGroup) (c : Nat) : (s.setMgrp g m).ictx c = s.ictx c := by
  rw [State.ictx, State.setMgrp_ing]
  rfl

theorem State.setSdi_ing (i : Nat) (x : SdiIn) : (s.setSdi i x).ing = { s.ing with sdi := Tbl.set s.ing.sdi i x } :=
  State.setBit_ing ..

@[simp] theorem State.sdi_setSdi_self (i : Nat) (x : SdiIn) : (s.setSdi i x).sdi i = x := by
  rw [State.sdi, State.setSdi_ing]
  exact Tbl.get_set_self ..

@[simp] theorem State.ictx_setSdi (i : Nat) (x : SdiIn) (c : Nat) : (s.setSdi i x).ictx c = s.ictx c := by
  rw [State.ictx, State.setSdi_ing]
  rfl

@[simp] theorem State.pool_setPool_self (k : Nat) (p : Pool) : (s.setPool k p).pool k = p := Tbl.get_set_self ..

@[simp] theorem State.pool_modPool_self (k : Nat) (f : Pool → Pool) : (s.modPool k f).pool k = f (s.pool k) := s.pool_setPool_self ..

end

/-! ### What masks say of them -/

section

variable {F R : Nat} {s t : State}

theorem Keeps.ictx (k : Keeps F R s t) (c : Nat) (h : F.testBit Field.ing.ctorIdx = false := by rfl) : t.ictx c = s.ictx c :=
  congrArg (fun x : Ingest => Tbl.get x.ctx c) (k.fields .ing h)

theorem Keeps.mgrp (k : Keeps F R s t) (g : Nat) (h : F.testBit Field.ing.ctorIdx = false := by rfl) : t.mgrp g = s.mgrp g :=
  congrArg (fun x : Ingest => Tbl.get x.groups g) (k.fields .ing h)

theorem Keeps.sdi (k : Keeps F R s t) (h : F.testBit Field.ing.ctorIdx = false := by rfl) : t.ing.sdi = s.ing.sdi :=
  congrArg Ingest.sdi (k.fields .ing h)

theorem Keeps.pool (k : Keeps F R s t) (n : Nat) (h : F.testBit Field.pools.ctorIdx = false := by rfl) : t.pool n = s.pool n :=
  congrArg (fun x : Tbl Pool => Tbl.get x n) (k.fields .pools h)

theorem Keeps.now (k : Keeps F R s t) (h : F.testBit Field.now.ctorIdx = false := by rfl) : t.now = s.now := k.fields .now h

/-- PTP time hangs on device time and the clock alone. -/
theorem Keeps.ptp (k : Keeps F R s t) (hn : F.testBit Field.now.ctorIdx = false := by rfl) (ht : F.testBit Field.tm.ctorIdx = false := by rfl) :
    t.ptp = s.ptp := by
  rw [State.ptp, State.ptp, k.fields .now hn, k.fields .tm ht]

/-- The arrival time at a MAC hangs on the clock and the board table alone. -/
theorem Keeps.rxTime (k : Keeps F R s t) (p : Nat) (hn : F.testBit Field.now.ctorIdx = false := by rfl)
    (ht : F.testBit Field.tm.ctorIdx = false := by rfl) (hb : F.testBit Field.boot.ctorIdx = false := by rfl) : t.rxTime p = s.rxTime p := by
  have clock : t.ptpFine = s.ptpFine := by rw [State.ptpFine, State.ptpFine, k.fields .now hn, k.fields .tm ht]
  have board : t.board = s.board := by rw [State.board, State.board, k.fields .boot hb]
  rw [State.rxTime, State.rxTime, State.rxFine, State.rxFine, clock, State.stampCorr, State.stampCorr, State.macLanes, State.macLanes, board]

end

end Sys2Proof.Machine
end

section
/-! SUPPORT. Received frames up to their dispatch (04_ingest.md R154, R155, R157, R158, R166). -/

namespace Sys2Proof.Machine

/-- A frame that its MAC receives whole: enabled, with a right FCS and length, and room in the lookup (R154, R155, R157). -/
structure ReceivedWhole (s : State) (m : Nat) (f : EthFrame) : Prop where
  enabled : (Tbl.get s.ing.macs m).enabled = true
  fcs : f.fcsOk = true
  short : 64 ≤ f.len
  long : f.len ≤ 9600
  room : f.overrun = false

section

variable {s : State} {m : Nat} {f : EthFrame}

theorem State.receive_bad (enabled : (Tbl.get s.ing.macs m).enabled = true) (bad : f.fcsOk = false ∨ f.len < 64 ∨ 9600 < f.len) :
    s.receive m f = (s.bumpWrap .ING_MAC_RX m).bumpSat .ING_MAC_FCS m := by
  have bad' : !f.fcsOk ∨ f.len < 64 ∨ 9600 < f.len := by simpa using bad
  rw [State.receive, if_neg (by simp [enabled]), if_pos bad']

theorem State.receive_overrun (enabled : (Tbl.get s.ing.macs m).enabled = true) (fcs : f.fcsOk = true) (short : 64 ≤ f.len) (long : f.len < 256)
    (overrun : f.overrun = true) : s.receive m f = (s.bumpWrap .ING_MAC_RX m).bumpSat .ING_MAC_OVR m := by
  rw [State.receive, if_neg (by simp [enabled]), if_neg (by simp [fcs]; omega), if_pos ⟨overrun, long⟩]

/-- A frame received whole for this MAC, neither PTP nor a pause, is dispatched by rows 4 to 9 of R155. -/
theorem State.receive_classifies (whole : ReceivedWhole s m f) (ptp : f.ptp = none) (mine : f.elsewhere (Tbl.get s.ing.macs m).address = false)
    (pause : f.pause = false) : s.receive m f = (s.bumpWrap .ING_MAC_RX m).classify m f := by
  obtain ⟨enabled, fcs, short, long, room⟩ := whole
  rw [State.receive, if_neg (by simp [enabled]), if_neg (by simp [fcs]; omega), if_neg (by simp [room]), if_neg (by simp [ptp]),
    if_neg (by simp [mine]), if_neg (by simp [pause])]

end

/-- The lookup hangs on the table and device time alone. -/
theorem Keeps.lodeLookup {F R : Nat} {s t : State} (k : Keeps F R s t) (f : EthFrame) (hl : F.testBit Field.lode.ctorIdx = false := by rfl)
    (hn : F.testBit Field.now.ctorIdx = false := by rfl) : t.lodeLookup f = s.lodeLookup f := by
  rw [State.lodeLookup, State.lodeLookup, State.lodeList, State.lodeList, k.fields .lode hl, k.fields .now hn]

/-- A frame that matches no entry counts as unknown and goes to ring 0 as a sample (R155 row 5, R166). -/
theorem State.classify_unknown {s : State} {m : Nat} {f : EthFrame} (data : f.control = false) (unmatched : s.lodeLookup f = none) :
    s.classify m f = ((s.bumpSat .ING_MAC_UNK m).sampleFrame m 0 f).eventPerSec 0x2003 m 1 (fun k => leBytes 1 m ++ leBytes 3 0 ++ leBytes 4 k) := by
  rw [State.classify, if_neg (by simp [data]), unmatched]

/-- A sample and its event touch ports, rings and their counters alone. -/
theorem State.sampled_keeps (s : State) (m : Nat) (f : EthFrame) (mk : Nat → List Byte) :
    Keeps 1292 396316767209197568 s ((s.sampleFrame m 0 f).eventPerSec 0x2003 m 1 mk) :=
  KeepsLaws.comp (KeepsLaws.mono (State.sampleFrame_keeps ..) (KeepsLaws.subI rfl rfl)) (State.eventPerSec_keeps ..) (KeepsLaws.subI rfl rfl)

/-- Two frames of one cycle are received one after the other: a control frame goes before one that is none (R166). -/
theorem execEthFrameReceive_two (m n : Fin 16) (f g : EthFrame) (s : State) :
    execEthFrameReceive m f (some (n, g)) s =
      .next (if g.control = true ∧ f.control = false then (s.receive n g).receive m f else (s.receive m f).receive n g) := by
  simp [execEthFrameReceive]

/-! ### Losses (R171, R182) -/

/-- A reported loss is noted in its context alone. -/
theorem State.setLos_ictx (s : State) (c : Nat) (lost : Bool) (t : Nat) : (s.setLos c lost t).ictx c = { s.ictx c with los := lost } := by
  rw [State.setLos]
  split_ifs with same
  · rw [← same]
  · rw [(State.eventLimited_keeps ..).ictx, (State.showLos_keeps ..).ictx, State.ictx_setIctx_self]

theorem State.setLos_sdi (s : State) (c : Nat) (lost : Bool) (t : Nat) : (s.setLos c lost t).ing.sdi = s.ing.sdi := by
  rw [State.setLos]
  split_ifs
  · rfl
  · rw [(State.eventLimited_keeps ..).sdi, (State.showLos_keeps ..).sdi, State.setIctx_sdi]

theorem State.sdiLoss_sdi (s : State) (c : Nat) : (s.sdiLoss c).ing.sdi = s.ing.sdi := by
  rw [State.sdiLoss]
  split_ifs
  · exact s.setLos_sdi ..
  · rfl

/-- CONTEXT_LOS_TIMEOUT that is due reports the loss: at a packet's time, or, for SDI, at that of the last TRS. -/
theorem execContextLosTimeout_due {c : Fin 1024} {s : State} (bound : (s.ictx c).bound = true)
    (due : if (s.ictx c).cfg.u8 2 = 6 then s.sdiAlive c + 1000000 ≤ s.now
      else (s.ictx c).lastPkt + (s.ictx c).cfg.u16 6 * 1000000 ≤ s.now ∧
        ((s.ictx c).group < 256 → (s.mgrp (s.ictx c).group).upA = false ∧ (s.mgrp (s.ictx c).group).upB = false)) :
    ∃ n, execContextLosTimeout c s = .next (s.setLos c true n) := by
  by_cases sdi : (s.ictx c).cfg.u8 2 = 6
  · rw [if_pos sdi] at due
    have loss : s.sdiLoss c = s.setLos c true (s.tm.ptpAt (s.sdiAlive c)) := if_pos (by simp [bound, iType, sdi, ms, due])
    exact ⟨_, by rw [execContextLosTimeout, if_neg (by simp [iType, sdi]), loss]⟩
  · rw [if_neg sdi] at due
    obtain ⟨late, down⟩ := due
    exact ⟨_, if_pos (by simpa [bound, iType, sdi, iLos, ms, late] using (Nat.lt_or_ge _ 256).symm.imp_right down)⟩

section

variable {g : Fin 256} {s : State}

/-- A merge group shows its legs. -/
theorem State.setMgrp_legs (s : State) (g : Fin 256) (m : MergeGroup) :
    (s.setMgrp g m).regBit .ING_MG_STAT g 0 = m.upA ∧ (s.setMgrp g m).regBit .ING_MG_STAT g 1 = m.upB := by
  have shown : ∀ k, (s.setMgrp g m).regBit .ING_MG_STAT g k =
      ((((((zeroWord.setBits 23 8 m.skewMs).setBits 3 3 (bit01 m.aheadB)).setBits 1 1 (bit01 m.upB)).setBits 0 0 (bit01 m.upA)).bits k k) == 1) := by
    intro k
    rw [State.regBit, State.setMgrp, State.getReg_setReg_self _ _ (by exact g.isLt)]
  rw [shown, shown, Word.bits_setBits_self _ _ (by omega) (by omega), Word.bits_setBits_ne _ _ (by omega) (by omega) (by omega) (by omega),
    Word.bits_setBits_self _ _ (by omega) (by omega)]
  cases m.upA <;> cases m.upB <;> exact ⟨rfl, rfl⟩

/-- MERGE_LEG_TIMEOUT of a leg that is up and silent for LOS_MS takes it down, with an event. -/
theorem execMergeLegTimeout_due {leg : Fin 2} (up : (if leg = 0 then (s.mgrp g).upA else (s.mgrp g).upB) = true)
    (due : (if leg = 0 then (s.mgrp g).lastA else (s.mgrp g).lastB) + (s.ictx (s.mgrp g).context).cfg.u16 6 * 1000000 ≤ s.now) :
    ∃ t, execMergeLegTimeout g leg s = .next t ∧
      Keeps 268 593920 (s.setMgrp g (if leg = 0 then { s.mgrp g with upA := false } else { s.mgrp g with upB := false })) t := by
  by_cases first : leg = 0
  · simp only [first, if_true] at up due ⊢
    exact ⟨_, if_pos (by simp [up, iLos, ms, due]), State.eventLimited_keeps ..⟩
  · simp only [first, if_false] at up due ⊢
    exact ⟨_, by rw [execMergeLegTimeout, if_neg first, if_pos (by simp [up, iLos, ms, due])], State.eventLimited_keeps ..⟩

end

end Sys2Proof.Machine
end

section
/-! SUPPORT. Frames that close and pictures that are released (04_ingest.md R175, R187, R188, R190; 03_liveness.md R102, R103, R108). -/

namespace Sys2Proof.Machine

/-! ### Surfaces taken and released -/

section

variable {p q : Pool} {i : Nat}

/-- The surface of an index where every other one has another address. -/
theorem Pool.findIdx_addr (hi : i < p.surfs.length)
    (unique : ∀ j, j < p.surfs.length → (p.surf j).addr = (p.surf i).addr → j = i) :
    p.surfs.findIdx? (fun g => g.addr == (p.surf i).addr) = some i := by
  have at_ : ∀ j (h : j < p.surfs.length), p.surf j = p.surfs[j] := fun j h => by simp [Pool.surf, h]
  rw [List.findIdx?_eq_some_iff_getElem]
  refine ⟨hi, by simp [at_ i hi], fun j hj same => ?_⟩
  have hj' : j < p.surfs.length := hj.trans hi
  exact hj.ne (unique j hj' (by simpa [at_ j hj'] using same))

/-- A surface that is taken leaves the places and addresses of the pool's surfaces. -/
theorem Pool.take_surfs (taken : p.take = some (i, q)) : q.surfs.length = p.surfs.length ∧ ∀ j, (q.surf j).addr = (p.surf j).addr := by
  unfold Pool.take at taken
  obtain ⟨k, -, h⟩ := Option.map_eq_some_iff.mp taken
  obtain ⟨rfl, rfl⟩ := Prod.mk.inj h
  refine ⟨List.length_modify .., fun j => ?_⟩
  simp only [Pool.surf, Pool.modSurf, List.getD_eq_getElem?_getD, List.getElem?_modify]
  split_ifs <;> cases p.surfs[j]? <;> rfl

theorem Pool.take_source (taken : p.take = some (i, q)) : q.sourceId = p.sourceId ∧ q.nextSeq = p.nextSeq := by
  obtain ⟨k, -, h⟩ := Option.map_eq_some_iff.mp taken
  obtain ⟨rfl, rfl⟩ := Prod.mk.inj h
  exact ⟨rfl, rfl⟩

/-- A pool gives the same surface whatever it reads of its input's loss of signal. -/
theorem Pool.take_los (p : Pool) (l : Bool) : ({ p with los := l } : Pool).take = p.take.map fun z => (z.1, { z.2 with los := l }) := by
  show Option.map _ p.candidate = Option.map _ (Option.map _ p.candidate)
  rw [Option.map_map]
  rfl

/-- TAG_CRC covers no byte of itself (R105). -/
theorem Tag.covered_crc (t : Tag) (x : Byte) : ({ t with crc := x } : Tag).covered = t.covered := rfl

theorem Tag.sealed_crc (t : Tag) : t.sealed.crc = crc8 t.sealed.covered := congrArg crc8 (t.covered_crc _).symm

/-- The tag that a released frame carries. -/
def Pool.tagOf (p : Pool) (f : FrameOut) : Tag :=
  { sourceId := p.sourceId, flags := f.flags, seq := p.nextSeq, time := f.time % (2 ^ 30 * 1000000000), basis := f.basis }

/-- A released surface has its header, with the tag of the pool's source and next number. -/
theorem Pool.release_header (f : FrameOut) (now dev : Nat) (hi : i < p.surfs.length) :
    ∃ hd, ((p.release i f now dev).surf i).header = some hd ∧ hd.tag = (p.tagOf f).sealed ∧ hd.done = now := by
  simp [Pool.surf, Pool.release, Pool.modSurf, hi, Surface.seal, mkHeader, Pool.tagOf]

@[simp] theorem Pool.release_newest (f : FrameOut) (now dev : Nat) : (p.release i f now dev).newestIdx = some i := by
  simp [Pool.newestIdx, Pool.release]

end

/-- The frame's surface i is released into the pool of context c with a tag time, and counted. -/
def State.Releases (s t : State) (c i time : Nat) : Prop :=
  (∃ (out : FrameOut) (old : List Surface), out.time = time ∧ t.pool c = { (s.pool c).release i out s.ptp s.now with old := old }) ∧
    t.getReg .ING_CTX_FRAMES c = s.getReg .ING_CTX_FRAMES c + 1

namespace State.Releases

variable {F R : Nat} {s t u : State} {c i time : Nat}

theorem newest (h : s.Releases t c i time) : (t.pool c).newestIdx = some i := by
  obtain ⟨⟨out, old, -, pool⟩, -⟩ := h
  rw [pool]
  exact Pool.release_newest ..

theorem nextSeq (h : s.Releases t c i time) : (t.pool c).nextSeq = ((s.pool c).nextSeq + 1) % 2 ^ 32 := by
  obtain ⟨⟨out, old, -, pool⟩, -⟩ := h
  simp only [pool, Pool.release]

theorem header (h : s.Releases t c i time) (hi : i < (s.pool c).surfs.length) :
    ∃ hd, ((t.pool c).surf i).header = some hd ∧ hd.tag.sourceId = (s.pool c).sourceId ∧ hd.tag.seq = (s.pool c).nextSeq ∧
      hd.tag.time = time % (2 ^ 30 * 1000000000) ∧ hd.tag.crc = crc8 hd.tag.covered ∧ hd.done = s.ptp := by
  obtain ⟨⟨out, old, rfl, pool⟩, -⟩ := h
  obtain ⟨hd, header, tag, stamp⟩ := Pool.release_header (p := s.pool c) out s.ptp s.now hi
  refine ⟨hd, by rw [pool]; exact header, ?_⟩
  rw [tag]
  exact ⟨rfl, rfl, rfl, Tag.sealed_crc _, stamp⟩

/-- What happens before the release and leaves pools, counter and clock. -/
theorem after (k : Keeps F R s u) (h : u.Releases t c i time) (hp : F.testBit Field.pools.ctorIdx = false := by rfl)
    (hn : F.testBit Field.now.ctorIdx = false := by rfl) (ht : F.testBit Field.tm.ctorIdx = false := by rfl)
    (hr : R.testBit Reg.ING_CTX_FRAMES.ctorIdx = false := by rfl) : s.Releases t c i time := by
  obtain ⟨⟨out, old, hout, pool⟩, counted⟩ := h
  refine ⟨⟨out, old, hout, ?_⟩, ?_⟩
  · rw [pool, k.pool c hp, k.ptp hn ht, k.now hn]
  · rw [counted, k.reg hr]

/-- What happens after the release and leaves pools and counter. -/
theorem keeps (h : s.Releases t c i time) (k : Keeps F R t u) (hp : F.testBit Field.pools.ctorIdx = false := by rfl)
    (hr : R.testBit Reg.ING_CTX_FRAMES.ctorIdx = false := by rfl) : s.Releases u c i time := by
  obtain ⟨⟨out, old, hout, pool⟩, counted⟩ := h
  exact ⟨⟨out, old, hout, (k.pool c hp).trans pool⟩, (k.reg hr).trans counted⟩

end State.Releases

/-- Surfaces that nothing holds any more leave the pool as it is. -/
theorem State.collect_pool (s : State) (k : Nat) : ∃ old, (s.collect k).pool k = { s.pool k with old := old } :=
  ⟨_, State.pool_setPool_self ..⟩

/-- A noted size is noted in its context alone. -/
theorem State.noteSize_ictx (s : State) (c : Nat) (big : Bool) (w h : Nat) :
    (s.noteSize c big w h).ictx c = { s.ictx c with tooLarge := big } := by
  rw [State.noteSize]
  split_ifs with same
  · rw [← same]
  · rw [(State.eventLimited_keeps ..).ictx, State.ictx_setIctx_self]

theorem State.noteSize_sdi (s : State) (c : Nat) (big : Bool) (w h : Nat) : (s.noteSize c big w h).ing.sdi = s.ing.sdi := by
  rw [State.noteSize]
  split_ifs
  · rfl
  · rw [(State.eventLimited_keeps ..).sdi, State.setIctx_sdi]

/-- What a release does past the size: the surface at address a, the collection, the channels that took it, and the counter. -/
def State.releasePicture (s : State) (c a : Nat) (b : Body) (out : FrameOut) (ptp dev : Nat) : State :=
  (((s.modPool c (fun p => p.releaseAt a (iSource b) (iFormat b) out ptp dev)).collect c).headerDone c).bumpWrap .ING_CTX_FRAMES c

section

variable {s : State} {c a i : Nat} {f : OpenFrame}

/-- A picture of a size that its binding allows is released; a concealed one is counted as such. -/
theorem State.releaseIngest_fits (time basis flags master : Nat) (surface : f.surface = some a)
    (wide : (f.size (s.ictx c).geo).1 ≤ f.cfg.u16 12) (high : (f.size (s.ictx c).geo).2 ≤ f.cfg.u16 14) :
    ∃ (out : FrameOut) (conc : Bool) (w h : Nat), (s.releaseIngest c f time basis flags master =
      if conc then ((s.noteSize c false w h).releasePicture c a f.cfg out s.ptp s.now).bumpSat .ING_CTX_CONCEALED c
      else (s.noteSize c false w h).releasePicture c a f.cfg out s.ptp s.now) ∧ out.time = time := by
  have small : (decide ((f.size (s.ictx c).geo).1 > f.cfg.u16 12) || decide ((f.size (s.ictx c).geo).2 > f.cfg.u16 14)) = false := by
    simp [wide, high]
  unfold State.releaseIngest
  simp only [surface, small]
  exact ⟨_, _, _, _, rfl, rfl⟩

theorem State.releasePicture_releases (b : Body) (out : FrameOut) (hc : c < 1024)
    (found : (s.pool c).surfs.findIdx? (fun g => g.addr == a) = some i) :
    s.Releases (s.releasePicture c a b out s.ptp s.now) c i out.time := by
  rw [State.releasePicture]
  generalize hu : s.modPool c (fun p => p.releaseAt a (iSource b) (iFormat b) out s.ptp s.now) = u
  have here : u.pool c = (s.pool c).release i out s.ptp s.now := by rw [← hu, State.pool_modPool_self, Pool.releaseAt, found]
  have uncounted : u.getReg .ING_CTX_FRAMES c = s.getReg .ING_CTX_FRAMES c := hu ▸ (State.modPool_keeps ..).reg
  obtain ⟨old, collected⟩ := u.collect_pool c
  refine ⟨⟨out, old, rfl, ?_⟩, ?_⟩
  · rw [(State.bumpWrap_keeps ..).pool, (State.headerDone_keeps ..).pool, collected, here]
  · rw [State.getReg_bumpWrap_self _ hc, (State.headerDone_keeps ..).reg, (State.collect_keeps ..).reg, uncounted]

theorem State.releasePicture_keeps (s : State) (c a : Nat) (b : Body) (out : FrameOut) (ptp dev : Nat) :
    Keeps 34177036 5449834782718155080086200567866824658944 s (s.releasePicture c a b out ptp dev) := by
  unfold State.releasePicture
  refine KeepsLaws.stepBumpWrap ?_ (KeepsLaws.bitI rfl)
  refine KeepsLaws.comp ?_ (State.headerDone_keeps ..) (KeepsLaws.subI rfl rfl)
  refine KeepsLaws.comp ?_ (State.collect_keeps ..) (KeepsLaws.subI rfl rfl)
  exact KeepsLaws.mono (State.modPool_keeps ..) (KeepsLaws.subI rfl rfl)

/-- A picture of a size that its binding allows is released; its context notes that it was not too large, and no more. -/
theorem State.releaseIngest_releases (time basis flags master : Nat) (surface : f.surface = some a) (hc : c < 1024)
    (found : (s.pool c).surfs.findIdx? (fun g => g.addr == a) = some i)
    (wide : (f.size (s.ictx c).geo).1 ≤ f.cfg.u16 12) (high : (f.size (s.ictx c).geo).2 ≤ f.cfg.u16 14) :
    s.Releases (s.releaseIngest c f time basis flags master) c i time ∧
      (s.releaseIngest c f time basis flags master).ictx c = { s.ictx c with tooLarge := false } := by
  obtain ⟨out, conc, w, h, eq, rfl⟩ := State.releaseIngest_fits time basis flags master surface wide high
  have noted := s.noteSize_keeps c false w h
  generalize hu : (s.noteSize c false w h).releasePicture c a f.cfg out s.ptp s.now = u at eq
  have released : s.Releases u c i out.time := by
    rw [← hu, ← noted.ptp, ← noted.now]
    exact (State.releasePicture_releases _ _ hc (by rwa [noted.pool])).after noted
  have context : u.ictx c = { s.ictx c with tooLarge := false } := by
    rw [← hu, (State.releasePicture_keeps ..).ictx, State.noteSize_ictx]
  have concealed := u.bumpSat_keeps .ING_CTX_CONCEALED c
  rw [eq]
  split_ifs
  · exact ⟨released.keeps concealed, (concealed.ictx c).trans context⟩
  · exact ⟨released, context⟩

end

/-! ### Frames that close (R175) -/

/-- With no change waiting a boundary of the input changes nothing (R169). -/
theorem State.ctxBoundary_none {s : State} {c : Nat} (settled : (s.ictx c).next = none) : s.ctxBoundary c = s := by
  rw [State.ctxBoundary, settled]

/-- The size of the last frame that ended with its marker tells nothing new of the frame that sets it. -/
theorem OpenFrame.size_self (f : OpenFrame) (geo : Nat × Nat) : f.size (if f.marker.isSome then (f.width, f.height) else geo) = f.size geo := by
  unfold OpenFrame.size
  split_ifs <;> rfl

section

variable {s : State} {c a i : Nat} {f : OpenFrame}

/-- What closing its only open frame leaves of a context: its end is noted, and its size where the marker has come. -/
def IngCtx.closed (x : IngCtx) (f : OpenFrame) : IngCtx :=
  { x with
    spoiltSeqs := x.spoiltSeqs.filter (fun q => seqAfter q (f.lastNum none))
    frames := []
    lastEnd := some (match x.lastEnd with | some o => if seqAfter o (f.lastNum none) then o else f.lastNum none | none => f.lastNum none)
    geo := if f.marker.isSome then (f.width, f.height) else x.geo }

/-- What closing a frame counts past its context: the numbers never accepted, and in its merge group the leg that was ahead. -/
def State.noteEnd (s : State) (c lost g : Nat) (aheadB : Bool) : State :=
  let s1 := if lost = 0 then s else s.addSat .ING_CTX_LOST c lost
  if g < 256 then s1.setMgrp g { (s1.mgrp g) with aheadB := aheadB } else s1

theorem State.noteEnd_keeps (s : State) (c lost g : Nat) (aheadB : Bool) : Keeps 1024 9739880870918643253248 s (s.noteEnd c lost g aheadB) := by
  have counted : Keeps 1024 9739880870918643253248 s (if lost = 0 then s else s.addSat .ING_CTX_LOST c lost) :=
    KeepsLaws.ite (KeepsLaws.refl ..) (KeepsLaws.stepAddSat (KeepsLaws.refl ..) (KeepsLaws.bitI rfl))
  exact KeepsLaws.ite (KeepsLaws.comp counted (State.setMgrp_keeps ..) (KeepsLaws.subI rfl rfl)) counted

theorem State.noteEnd_ictx (s : State) (c lost g : Nat) (aheadB : Bool) : (s.noteEnd c lost g aheadB).ictx c = s.ictx c := by
  have counted : ∀ n, (s.addSat .ING_CTX_LOST c n).ictx c = s.ictx c := fun n => (KeepsLaws.setReg ..).ictx c
  unfold State.noteEnd
  split_ifs <;> simp [counted]

/-- The only open frame of a video context closes: past its context and what it counts, its picture is released. -/
theorem State.closeFrame_only (one : (s.ictx c).frames = [f]) (video : f.cfg.u8 2 = 1) :
    ∃ lost, s.closeFrame c 0 none = ((s.setIctx c ((s.ictx c).closed f)).noteEnd c lost (s.ictx c).group (f.markerLeg == 1)).releaseIngest c f
      f.tagTime.1 f.tagTime.2.1 f.tagTime.2.2 8 := by
  have type : iType f.cfg = 1 := video
  have no_next : nextFirst [] f none = none := rfl
  rw [State.closeFrame, one]
  simp only [List.getElem?_cons_zero, List.eraseIdx_cons_zero, List.modify_nil, no_next, type, if_true]
  exact ⟨_, rfl⟩

/-- The only open frame of a video context closes with a release, and none is open after it. -/
theorem State.closeFrame_releases (one : (s.ictx c).frames = [f]) (video : f.cfg.u8 2 = 1) (surface : f.surface = some a) (hc : c < 1024)
    (found : (s.pool c).surfs.findIdx? (fun g => g.addr == a) = some i)
    (wide : (f.size (s.ictx c).geo).1 ≤ f.cfg.u16 12) (high : (f.size (s.ictx c).geo).2 ≤ f.cfg.u16 14) :
    s.Releases (s.closeFrame c 0 none) c i f.tagTime.1 ∧ ((s.closeFrame c 0 none).ictx c).frames = [] ∧
      ((s.closeFrame c 0 none).ictx c).next = (s.ictx c).next := by
  obtain ⟨lost, eq⟩ := State.closeFrame_only one video
  generalize hu : (s.setIctx c ((s.ictx c).closed f)).noteEnd c lost (s.ictx c).group (f.markerLeg == 1) = u at eq
  have context : u.ictx c = (s.ictx c).closed f := by rw [← hu, State.noteEnd_ictx, State.ictx_setIctx_self]
  have kept : Keeps 1024 10330176681277348904960 s u :=
    hu ▸ KeepsLaws.comp (KeepsLaws.mono (State.setIctx_keeps ..) (KeepsLaws.subI rfl rfl)) (State.noteEnd_keeps ..) (KeepsLaws.subI rfl rfl)
  have size : f.size (u.ictx c).geo = f.size (s.ictx c).geo := by rw [context]; exact f.size_self _
  obtain ⟨released, after⟩ := State.releaseIngest_releases f.tagTime.1 f.tagTime.2.1 f.tagTime.2.2 8 surface hc (by rwa [kept.pool])
    (size ▸ wide) (size ▸ high)
  rw [eq, after, context]
  exact ⟨released.after kept, rfl, rfl⟩

/-- The only open frame of a context, when it is due, is all that closes; with no change waiting nothing follows. -/
theorem State.closeAll_only (one : (s.ictx c).frames = [f]) (due : ∃ d, f.deadline = some d ∧ d ≤ s.now) (settled : (s.ictx c).next = none)
    (after : ((s.closeFrame c 0 none).ictx c).next = none) : s.closeAll c none = s.closeFrame c 0 none := by
  obtain ⟨d, deadline, late⟩ := due
  rw [State.closeAll, one, List.length_singleton, State.closeDue]
  simp [one, deadline, late, settled, State.closeDue, State.ctxBoundary_none after]

end

end Sys2Proof.Machine
end

section
/-! SUPPORT. A progressive picture in one packet: its frame opens, is complete and closes (04_ingest.md R174, R175, R177, R187). -/

namespace Sys2Proof.Machine

/-- What the release of a picture shows after s: the newest surface with its header, tag and check value, and the counts. -/
def State.ShowsPicture (s t : State) (c i time : Nat) : Prop :=
  ∃ hd, (t.pool c).newestIdx = some i ∧ ((t.pool c).surf i).header = some hd ∧ hd.tag.sourceId = (s.pool c).sourceId ∧
    hd.tag.seq = (s.pool c).nextSeq ∧ hd.tag.time = time % (2 ^ 30 * 1000000000) ∧ hd.tag.crc = crc8 hd.tag.covered ∧ hd.done = s.ptp ∧
    (t.pool c).nextSeq = ((s.pool c).nextSeq + 1) % 2 ^ 32 ∧ t.getReg .ING_CTX_FRAMES c = s.getReg .ING_CTX_FRAMES c + 1

theorem State.Releases.shows {s t : State} {c i time : Nat} (h : s.Releases t c i time) (hi : i < (s.pool c).surfs.length) :
    s.ShowsPicture t c i time := by
  obtain ⟨hd, header, source, seq, stamp, crc, done⟩ := h.header hi
  exact ⟨hd, h.newest, header, source, seq, stamp, crc, done, h.nextSeq, h.2⟩

/-- It shows the same after an earlier state of the same clock, source, next number and count. -/
theorem State.ShowsPicture.after {F R : Nat} {s u t : State} {c i time : Nat} (k : Keeps F R s u) (h : u.ShowsPicture t c i time)
    (pool : (u.pool c).sourceId = (s.pool c).sourceId ∧ (u.pool c).nextSeq = (s.pool c).nextSeq)
    (hn : F.testBit Field.now.ctorIdx = false := by rfl) (ht : F.testBit Field.tm.ctorIdx = false := by rfl)
    (hr : R.testBit Reg.ING_CTX_FRAMES.ctorIdx = false := by rfl) : s.ShowsPicture t c i time := by
  obtain ⟨source, next⟩ := pool
  simpa only [State.ShowsPicture, source, next, k.ptp hn ht, k.reg hr] using h

theorem State.ShowsPicture.congr_time {s t : State} {c i time time' : Nat} (h : s.ShowsPicture t c i time)
    (same : time % (2 ^ 30 * 1000000000) = time' % (2 ^ 30 * 1000000000)) : s.ShowsPicture t c i time' := by
  simpa only [State.ShowsPicture, same] using h

/-- A tag time of a clock that has not been stepped since is as the rules of R103 give it, modulo 2^30 s. -/
theorem OpenFrame.tagTime_unmoved {f : OpenFrame} (unmoved : f.moved = 0) :
    f.tagTime.1 % (2 ^ 30 * 1000000000) = (Machine.tagTime (f.cfg.u8 3 == 0) 90000 f.ts f.arrival).1 % (2 ^ 30 * 1000000000) := by
  generalize ht : (Machine.tagTime (f.cfg.u8 3 == 0) 90000 f.ts f.arrival).1 = t
  have moved : f.tagTime.1 = t % (2 ^ 48 * sec) := by
    subst ht
    simp only [OpenFrame.tagTime, OpenFrame.onClock, unmoved, Int.add_zero]
    exact Int.toNat_natCast _
  rw [moved]
  exact Nat.mod_mod_of_dvd t ⟨2 ^ 18, rfl⟩

/-! ### The packet in its frame -/

/-- Nothing of a list of bounded numbers is above the bound. -/
theorem foldl_max_le {b : Nat} (l : List Nat) {a : Nat} (ha : a ≤ b) (h : ∀ x ∈ l, x ≤ b) : l.foldl max a ≤ b := by
  induction l generalizing a with
  | nil => exact ha
  | cons x l ih => exact ih (max_le ha (h x (by simp))) (fun y hy => h y (by simp [hy]))

/-- The frame that a packet opens in an ungrouped progressive context without an open frame (R175, R187). -/
def IngCtx.opened (x : IngCtx) (arrival : Nat) (r : Rtp) (a : Nat) : OpenFrame :=
  { cfg := x.cfg, arrival := arrival, ts := r.ts, surface := some a, joined := x.lastEnd.isNone, prevEnd := x.lastEnd }

section

variable {x : IngCtx} {arrival a seq now ptp : Nat} {r : Rtp} {e : EthFrame}

/-- The frame that its first packet completes with the marker: the bands before the last one written, the marker noted, and due at once
(R175 with W = 0, R177). -/
structure Completed (x : IngCtx) (arrival a now : Nat) (r : Rtp) (f : OpenFrame) : Prop where
  cfg : f.cfg = x.cfg
  arrival : f.arrival = arrival
  moved : f.moved = 0
  ts : f.ts = r.ts
  surface : f.surface = some a
  deadline : f.deadline = some now
  wide : ∀ geo, (f.size geo).1 ≤ x.cfg.u16 12
  high : ∀ geo, (f.size geo).2 ≤ x.cfg.u16 14

theorem IngCtx.opened_add (prev : Option Surface) (marker : r.marker = true) (frame : ∀ q ∈ e.runs, q.field = false)
    (fits : ∀ q ∈ e.runs, q.pixel + q.width ≤ x.cfg.u16 12 ∧ q.line + 1 ≤ x.cfg.u16 14) :
    ∃ f, (x.opened arrival r a).add prev seq 0 now ptp r e = (f, false) ∧ Completed x arrival a now r f := by
  have no_patch : ∀ n, (!e.runs.isEmpty && decide (n < (x.opened arrival r a).written)) = false := fun n => by simp [IngCtx.opened]
  have first : e.runs.any (·.field) = false := by simpa using frame
  have wide : (e.runs.map (fun q => q.pixel + q.width)).foldl max 0 ≤ x.cfg.u16 12 :=
    foldl_max_le _ (Nat.zero_le _) (by simpa using fun q hq => (fits q hq).1)
  have high : (e.runs.map (fun q => q.line + 1)).foldl max 0 ≤ x.cfg.u16 14 :=
    foldl_max_le _ (Nat.zero_le _) (by simpa using fun q hq => (fits q hq).2)
  unfold OpenFrame.add
  simp only [no_patch, Bool.false_and, Bool.false_eq_true, if_false, first, marker]
  refine ⟨_, rfl, rfl, rfl, rfl, rfl, rfl, ?_, fun _ => ?_, fun _ => ?_⟩
  · simp [IngCtx.opened]
  · exact wide
  · exact high

end

/-! ### The packet in its context -/

section

variable {s : State} {m c i seq leg : Nat} {p : Pool} {f g : OpenFrame} {r : Rtp} {e : EthFrame}

/-- The first packet of a frame takes a surface and opens the frame alone. -/
theorem State.openFrame_only (idle : (s.ictx c).frames = []) (ungrouped : 256 ≤ (s.ictx c).group) (video : (s.ictx c).cfg.u8 2 = 1)
    (progressive : (s.ictx c).cfg.u8 20 = 0) (taken : (s.pool c).take = some (i, p)) :
    s.openFrame m c seq r false =
      (s.setPool c p).setIctx c { s.ictx c with frames := [(s.ictx c).opened (s.rxTime m) r (p.surf i).addr] } := by
  have type : iType (s.ictx c).cfg = 1 := video
  have alone : ¬ (s.ictx c).group < 256 := by omega
  have got : s.takeForCtx c = (some (p.surf i).addr, s.setPool c p) := by
    rw [State.takeForCtx, show (s.pool (poolIng c)).take = some (i, p) from taken]
    rfl
  have same : (s.setPool c p).ictx c = s.ictx c := rfl
  unfold State.openFrame
  simp only [type, got, alone, if_false, if_true, State.modIctx, same, idle, IngCtx.before]
  simp [progressive, IngCtx.opened]

/-- A packet that goes into the only open frame of a context changes that frame, and what is due closes. -/
theorem State.putPacket_only (one : (s.ictx c).frames = [f])
    (add : f.add (f.surface.bind fun a => (s.pool c).previous a) seq leg s.now s.ptp r e = (g, false)) :
    s.putPacket c 0 seq leg r e = (s.setIctx c { s.ictx c with frames := [g] }).closeAll c none := by
  rw [State.putPacket, one]
  simp only [List.getElem?_cons_zero, show poolIng c = c from rfl, add]
  rfl

/-- With no frame open, and none closed that the packet could be of, a packet opens a frame. -/
theorem State.assemblePacket_opens (bound : (s.ictx c).bound = true) (idle : (s.ictx c).frames = []) (settled : (s.ictx c).next = none)
    (fresh : ∀ n, (s.ictx c).lastEnd = some n → seqAfter seq n = true) (frame : ∀ q ∈ e.runs, q.field = false) :
    s.assemblePacket m c seq leg r e = ((s.setIctx c (s.ictx c)).openFrame m c seq r false).putPacket c 0 seq leg r e := by
  have first : e.runs.any (·.field) = false := by simpa using frame
  have none_open : (s.ictx c).frameOf seq r e = none := by simp [IngCtx.frameOf, idle, first]
  have unchanged : ∀ h, ({ s.ictx c with frames := (s.ictx c).frames.mapIdx h } : IngCtx) = s.ictx c := fun h => by
    rw [idle, List.mapIdx_nil, ← idle]
  have still : ((s.setIctx c (s.ictx c)).closeAll c (some seq)).ctxBoundary c = s.setIctx c (s.ictx c) := by
    rw [State.closeAll, State.ictx_setIctx_self, idle, List.length_nil, State.closeDue, State.ctxBoundary_none (by simp [settled])]
  unfold State.assemblePacket
  simp only [none_open, unchanged]
  simp only [settled, Option.any_none, Bool.false_eq_true, if_false, still, State.ictx_setIctx_self, first]
  rw [if_neg, if_neg]
  · rw [IngCtx.before, idle]
    rfl
  · simp [bound]
  · cases closed : (s.ictx c).lastEnd with
    | none => simp
    | some n => simp [fresh n closed]

/-- A packet that brings a whole progressive picture to an idle, ungrouped video context is released as that picture. -/
theorem State.assemblePacket_shows (hc : c < 1024) (bound : (s.ictx c).bound = true) (video : (s.ictx c).cfg.u8 2 = 1)
    (progressive : (s.ictx c).cfg.u8 20 = 0) (ungrouped : 256 ≤ (s.ictx c).group) (idle : (s.ictx c).frames = [])
    (settled : (s.ictx c).next = none) (fresh : ∀ n, (s.ictx c).lastEnd = some n → seqAfter seq n = true) (marker : r.marker = true)
    (frame : ∀ q ∈ e.runs, q.field = false)
    (fits : ∀ q ∈ e.runs, q.pixel + q.width ≤ (s.ictx c).cfg.u16 12 ∧ q.line + 1 ≤ (s.ictx c).cfg.u16 14)
    (taken : (s.pool c).take = some (i, p)) (hi : i < (s.pool c).surfs.length)
    (unique : ∀ j, j < (s.pool c).surfs.length → ((s.pool c).surf j).addr = ((s.pool c).surf i).addr → j = i) :
    s.ShowsPicture (s.assemblePacket m c seq 0 r e) c i (tagTime ((s.ictx c).cfg.u8 3 == 0) 90000 r.ts (s.rxTime m)).1 := by
  obtain ⟨length, addr⟩ := Pool.take_surfs taken
  have found : p.surfs.findIdx? (fun g => g.addr == (p.surf i).addr) = some i :=
    Pool.findIdx_addr (by omega) fun j hj same => unique j (by omega) (by rwa [addr, addr] at same)
  rw [State.assemblePacket_opens bound idle settled fresh frame]
  generalize hu : s.setIctx c (s.ictx c) = u
  have ku : Keeps 1024 590295810358705651712 s u := hu ▸ State.setIctx_keeps ..
  have context : u.ictx c = s.ictx c := by rw [← hu, State.ictx_setIctx_self]
  rw [State.openFrame_only (p := p) (i := i) (by rwa [context]) (by rwa [context]) (by rwa [context]) (by rwa [context]) (by rwa [ku.pool])]
  generalize hv : (u.setPool c p).setIctx c _ = v
  have kv : Keeps 33792 590295810358705651712 u v :=
    hv ▸ KeepsLaws.comp (KeepsLaws.mono (State.setPool_keeps ..) (KeepsLaws.subI rfl rfl)) (State.setIctx_keeps ..) (KeepsLaws.subI rfl rfl)
  have opened : v.ictx c = { s.ictx c with frames := [(s.ictx c).opened (s.rxTime m) r (p.surf i).addr] } := by
    rw [← hv, State.ictx_setIctx_self, context, ku.rxTime]
  have pool : v.pool c = p := by rw [← hv, (State.setIctx_keeps ..).pool, State.pool_setPool_self]
  obtain ⟨g, add, done⟩ := IngCtx.opened_add (now := v.now) (ptp := v.ptp) (seq := seq) (a := (p.surf i).addr) (arrival := s.rxTime m)
    ((v.pool c).previous (p.surf i).addr) marker frame fits
  rw [State.putPacket_only (by rw [opened]) add]
  generalize hw : v.setIctx c _ = w
  have kw : Keeps 1024 590295810358705651712 v w := hw ▸ State.setIctx_keeps ..
  have filled : w.ictx c = { v.ictx c with frames := [g] } := by rw [← hw, State.ictx_setIctx_self]
  have one : (w.ictx c).frames = [g] := by rw [filled]
  have waiting : (w.ictx c).next = none := by rw [filled, opened]; exact settled
  obtain ⟨released, -, next⟩ := State.closeFrame_releases one (by rw [done.cfg]; exact video) done.surface hc (by rw [kw.pool, pool]; exact found)
    (by rw [done.cfg]; exact done.wide _) (by rw [done.cfg]; exact done.high _)
  rw [State.closeAll_only one ⟨_, done.deadline, kw.now.ge⟩ waiting (next.trans waiting)]
  have k : Keeps 33792 590295810358705651712 s w :=
    KeepsLaws.trans (KeepsLaws.comp (KeepsLaws.mono ku (KeepsLaws.subI rfl rfl)) kv (KeepsLaws.subI rfl rfl)) (KeepsLaws.mono kw (KeepsLaws.subI rfl rfl))
  refine ((released.shows (by rw [kw.pool, pool]; omega)).after k ?_).congr_time ?_
  · rw [kw.pool, pool]
    exact Pool.take_source taken
  · rw [OpenFrame.tagTime_unmoved done.moved, done.cfg, done.ts, done.arrival]

end

end Sys2Proof.Machine
end

section
/-! SUPPORT. A matched packet on its way to its context (04_ingest.md R155, R159, R171, R174). -/

namespace Sys2Proof.Machine

section

variable {s : State} {m c i k seq leg time : Nat} {r : Rtp} {f : EthFrame} {e : LodeEntry}

/-- The pool of a context reads its loss of signal, and nothing else of it changes (R124). -/
theorem State.setLos_pool (pooled : iPooled (s.ictx c).cfg = true) (lost : Bool) (t : Nat) :
    ∃ l, (s.setLos c lost t).pool c = { s.pool c with los := l } := by
  rw [State.setLos]
  split_ifs
  · exact ⟨(s.pool c).los, rfl⟩
  · rw [(State.eventLimited_keeps ..).pool, State.showLos, State.ictx_setIctx_self, if_pos pooled]
    exact ⟨lost, (State.pool_modPool_self ..).trans (by rw [(State.setIctx_keeps ..).pool]; rfl)⟩

/-- A packet is noted in its context: its number and its arrival, and with it the signal is there (R171, R174). -/
def State.delivered (s : State) (c seq : Nat) : State :=
  ((s.modIctx c fun x => { x with lastSeq := seq }).modIctx c fun x => { x with lastPkt := s.now, recent := [] }).setLos c false s.ptp

theorem State.delivered_ictx (s : State) (c seq : Nat) :
    (s.delivered c seq).ictx c = { s.ictx c with lastSeq := seq, lastPkt := s.now, recent := [], los := false } := by
  rw [State.delivered, State.setLos_ictx, State.ictx_modIctx_self, State.ictx_modIctx_self]

theorem State.delivered_pool (pooled : iPooled (s.ictx c).cfg = true) (seq : Nat) : ∃ l, (s.delivered c seq).pool c = { s.pool c with los := l } := by
  rw [State.delivered]
  generalize hu : (s.modIctx c fun x => { x with lastSeq := seq }).modIctx c _ = u
  have pool : u.pool c = s.pool c := by rw [← hu, (State.modIctx_keeps ..).pool, (State.modIctx_keeps ..).pool]
  have cfg : (u.ictx c).cfg = (s.ictx c).cfg := by rw [← hu, State.ictx_modIctx_self, State.ictx_modIctx_self]
  rw [← pool]
  exact State.setLos_pool (cfg ▸ pooled) ..

theorem State.delivered_keeps (s : State) (c seq : Nat) : Keeps 34060 590295810358706245632 s (s.delivered c seq) := by
  refine KeepsLaws.comp ?_ (State.setLos_keeps ..) (KeepsLaws.subI rfl rfl)
  refine KeepsLaws.comp ?_ (State.modIctx_keeps ..) (KeepsLaws.subI rfl rfl)
  exact KeepsLaws.mono (State.modIctx_keeps ..) (KeepsLaws.subI rfl rfl)

/-- A packet of a video context goes to assembly. -/
theorem State.deliver_video (video : (s.ictx c).cfg.u8 2 = 1) : s.deliver m c seq leg r f = (s.delivered c seq).assemblePacket m c seq leg r f := by
  have type : iType (s.ictx c).cfg = 1 := video
  have uncoded : iCoded (s.ictx c).cfg = false := by simp [iCoded, type]
  unfold State.deliver
  simp only [type, uncoded, Bool.false_and, Bool.false_eq_true, if_false]
  rfl

/-- A context and its pool take a whole picture: bound for progressive video, ungrouped and idle, with a surface i to take whose address
no other one has (R155, R175, R187). -/
structure State.TakesPicture (s : State) (c i seq : Nat) : Prop where
  context : c < 1024
  bound : (s.ictx c).bound = true
  video : (s.ictx c).cfg.u8 2 = 1
  progressive : (s.ictx c).cfg.u8 20 = 0
  ungrouped : 256 ≤ (s.ictx c).group
  idle : (s.ictx c).frames = []
  settled : (s.ictx c).next = none
  fresh : ∀ n, (s.ictx c).lastEnd = some n → seqAfter seq n = true
  taken : ∃ p, (s.pool c).take = some (i, p)
  index : i < (s.pool c).surfs.length
  unique : ∀ j, j < (s.pool c).surfs.length → ((s.pool c).surf j).addr = ((s.pool c).surf i).addr → j = i

/-- A frame carries a whole progressive picture that a binding has room for. -/
structure CarriesPicture (f : EthFrame) (r : Rtp) (b : Body) : Prop where
  marker : r.marker = true
  frame : ∀ q ∈ f.runs, q.field = false
  fits : ∀ q ∈ f.runs, q.pixel + q.width ≤ b.u16 12 ∧ q.line + 1 ≤ b.u16 14

/-- A whole picture delivered to a context that takes it is released. -/
theorem State.deliver_shows (takes : s.TakesPicture c i seq) (picture : CarriesPicture f r (s.ictx c).cfg) :
    s.ShowsPicture (s.deliver m c seq 0 r f) c i (tagTime ((s.ictx c).cfg.u8 3 == 0) 90000 r.ts (s.rxTime m)).1 := by
  obtain ⟨context, bound, video, progressive, ungrouped, idle, settled, fresh, ⟨p, taken⟩, index, unique⟩ := takes
  obtain ⟨marker, frame, fits⟩ := picture
  rw [State.deliver_video video]
  have kept := s.delivered_keeps c seq
  have noted := s.delivered_ictx c seq
  obtain ⟨l, pool⟩ := State.delivered_pool (s := s) (c := c) (by simp [iPooled, iType, video]) seq
  generalize s.delivered c seq = u at kept noted pool ⊢
  have taken' : (u.pool c).take = some (i, { p with los := l }) := by rw [pool, Pool.take_los, taken]; rfl
  have shows' := State.assemblePacket_shows (s := u) (m := m) (seq := seq) (r := r) (e := f) context (by rw [noted]; exact bound) (by rw [noted]; exact video)
    (by rw [noted]; exact progressive) (by rw [noted]; exact ungrouped) (by rw [noted]; exact idle) (by rw [noted]; exact settled)
    (by rw [noted]; exact fresh) marker frame (by rw [noted]; exact fits) taken' (by rw [pool]; exact index) (by rw [pool]; exact unique)
  rw [noted, kept.rxTime] at shows'
  exact shows'.after kept (by rw [pool]; exact ⟨rfl, rfl⟩)

/-- A frame is an intact video packet of entry k, which names no merge group, and comes as the entry asks (R155 rows 6 to 8, R158). -/
structure State.MatchesVideo (s : State) (m : Nat) (f : EthFrame) (r : Rtp) (k : Nat) (e : LodeEntry) : Prop where
  data : f.control = false
  entry : s.lodeLookup f = some (k, e)
  vlan : e.vlan / 32768 = 0
  mac : e.macMask = 0
  type : e.type = 1
  ungrouped : 256 ≤ e.group
  rtp : f.rtp = some r
  whole : f.badIp = false
  version : r.version = 2
  payload : f.payloadOk = true

theorem State.lodeHit_ictx (s : State) (k : Nat) (e : LodeEntry) (c : Nat) : (s.lodeHit k e).ictx c = s.ictx c := (State.lodeHit_keeps ..).ictx c

/-- It hits its entry and is delivered to the entry's context. -/
theorem State.classify_video (matched : s.MatchesVideo m f r k e) (bound : (s.ictx e.context).bound = true)
    (video : (s.ictx e.context).cfg.u8 2 = 1) (unspoilt : (s.ictx e.context).spoilt = 0) :
    s.classify m f = (s.lodeHit k e).deliver m e.context (r.extSeq * 65536 + r.seq) 0 r f := by
  obtain ⟨data, entry, vlan, mac, type, ungrouped, rtp, whole, version, payload⟩ := matched
  have typed : iType (s.ictx e.context).cfg = 1 := video
  have alone : ¬ e.group < 256 := by omega
  unfold State.classify
  simp only [data, entry, State.lodeHit_ictx, vlan, mac, type, rtp, whole, version, payload, bound, typed, unspoilt, alone, iCoded]
  simp [extSeq]

theorem State.getReg_lodeHit (s : State) (k : Nat) (e : LodeEntry) : (s.lodeHit k e).getReg .LODE_HITS 0 = s.getReg .LODE_HITS 0 + 1 :=
  State.getReg_bumpWrap_self _ (by decide)

/-- A next number in sequence is after the last one. -/
theorem seqAfter_succ {n : Nat} (hn : n < 2 ^ 32) : seqAfter n ((n + 2 ^ 32 - 1) % 2 ^ 32) = true := by
  simp only [seqAfter, decide_eq_true_eq]
  omega

end

end Sys2Proof.Machine
end

section
/-! SUPPORT. SDI inputs (04_ingest.md R171, R183, R184, R187). -/

namespace Sys2Proof.Machine

/-! ### What leaves the SDI inputs alone -/

/-- The SDI inputs are the same in two states. -/
def SdiKept (s t : State) : Prop := t.ing.sdi = s.ing.sdi

namespace SdiKept

variable {F R : Nat} {s t u : State}

theorem refl (s : State) : SdiKept s s := rfl

theorem trans (h : SdiKept s u) (k : SdiKept u t) : SdiKept s t := Eq.trans k h

theorem step (h : SdiKept s u) (k : Keeps F R u t) (hF : F.testBit Field.ing.ctorIdx = false := by rfl) : SdiKept s t := h.trans (k.sdi hF)

theorem setIctx (h : SdiKept s u) (c : Nat) (x : IngCtx) : SdiKept s (u.setIctx c x) := h.trans (u.setIctx_sdi c x)

theorem modIctx (h : SdiKept s u) (c : Nat) (f : IngCtx → IngCtx) : SdiKept s (u.modIctx c f) := h.setIctx ..

theorem ite {c : Prop} {_ : Decidable c} {a b : State} (h : SdiKept s a) (k : SdiKept s b) : SdiKept s (if c then a else b) := by
  split <;> assumption

theorem foldl {α : Type} {g : State → α → State} (l : List α) (hg : ∀ x a, SdiKept x (g x a)) : ∀ u, SdiKept u (l.foldl g u) := by
  induction l with
  | nil => exact refl
  | cons a l ih => exact fun u => (hg u a).trans (ih _)

theorem sdi (h : SdiKept s t) (i : Nat) : t.sdi i = s.sdi i := congrArg (fun x : Tbl SdiIn => Tbl.get x i) h

end SdiKept

theorem State.addSatBits_keeps (s : State) (r : Reg) (i hi lo n : Nat) : Keeps 0 (2 ^ r.ctorIdx) s (s.addSatBits r i hi lo n) :=
  KeepsLaws.setReg ..

section

variable (s : State) (c : Nat)

theorem State.applyBinding_sdi (b : Body) (quiet : Bool) : SdiKept s (s.applyBinding c b quiet) := by
  unfold State.applyBinding
  extract_lets old stored free bound applied
  have hs : SdiKept s stored := .ite (.refl s) ((SdiKept.refl s).step (State.storeTaken_keeps ..))
  clear_value stored
  have hb : SdiKept s bound := .ite (hs.step (State.adoptPool_keeps ..)) (.ite (hs.step (State.freePool_keeps ..)) hs)
  clear_value bound
  have ha : SdiKept s applied := by
    have freed : SdiKept s (stored.freePool (poolIng c)) := hs.step (State.freePool_keeps ..)
    with_reducible refine SdiKept.ite (SdiKept.setIctx (SdiKept.ite freed hs) ..) ?_
    exact (hb.modIctx ..).step (State.showLos_keeps ..)
  clear_value applied
  exact .ite (ha.step (State.showSessLos_keeps ..)) ha

theorem State.dropFrames_sdi : SdiKept s (s.dropFrames c) := by
  refine .modIctx (SdiKept.foldl _ (fun u f => ?_) s) ..
  cases f.surface with
  | none => exact .refl u
  | some a => exact ((SdiKept.refl u).step (State.modPool_keeps ..)).step (State.collect_keeps ..)

theorem State.ctxBoundary_sdi : SdiKept s (s.ctxBoundary c) := by
  unfold State.ctxBoundary
  split
  · exact .refl s
  · exact (SdiKept.modIctx (.ite (s.dropFrames_sdi c) (.refl s)) ..).trans (State.applyBinding_sdi ..)

theorem State.takeForCtx_sdi : SdiKept s (s.takeForCtx c).2 := by
  unfold State.takeForCtx
  split
  · exact (SdiKept.refl s).step (State.setPool_keeps ..)
  · have withheld : SdiKept s (s.addSatBits .ING_CTX_WITHHELD c 31 16 1) := (SdiKept.refl s).step (State.addSatBits_keeps ..)
    dsimp only
    exact withheld.step (State.eventPerSec_keeps ..)

theorem State.releaseIngest_sdi (f : OpenFrame) (time basis flags master : Nat) :
    SdiKept s (s.releaseIngest c f time basis flags master) := by
  unfold State.releaseIngest
  generalize f.size (s.ictx c).geo = size
  obtain ⟨w, h⟩ := size
  dsimp only
  have noted : SdiKept s (s.noteSize c (decide (w > f.cfg.u16 12) || decide (h > f.cfg.u16 14)) w h) := State.noteSize_sdi ..
  split
  · exact noted
  · have dropped : ∀ h : Pool → Pool, SdiKept s _ := fun h =>
      ((noted.step (State.modPool_keeps _ (poolIng c) h)).step (State.collect_keeps _ (poolIng c))).step
        (State.addSatBits_keeps _ .ING_CTX_WITHHELD c 15 0 1)
    have released : ∀ (b : Body) (a : Nat) (out : FrameOut), SdiKept s
        (State.releasePicture (s.noteSize c (decide (w > f.cfg.u16 12) || decide (h > f.cfg.u16 14)) w h) c a b out s.ptp s.now) :=
      fun b a out => noted.step (State.releasePicture_keeps ..)
    split
    · exact dropped _
    · exact SdiKept.ite ((released ..).step (State.bumpSat_keeps ..)) (released ..)

theorem State.closeSdi_sdi (f : OpenFrame) : SdiKept s (s.closeSdi c f) :=
  (((SdiKept.refl s).modIctx ..).trans (State.releaseIngest_sdi ..)).trans (State.ctxBoundary_sdi ..)

theorem State.sdiActive_sdi (y : Nat) (line : SdiLine) : SdiKept s (s.sdiActive c y line) := by
  unfold State.sdiActive
  extract_lets begun opened
  have hb : SdiKept s begun := (s.dropFrames_sdi c).trans (State.ctxBoundary_sdi ..)
  have ho : SdiKept s opened := .ite (.ite ((hb.trans (State.takeForCtx_sdi ..)).modIctx ..) hb) (.refl s)
  clear_value opened
  split
  · exact ho
  · exact .ite ((ho.modIctx ..).trans (State.closeSdi_sdi ..)) (ho.modIctx ..)

end

/-- The lock of a lane leaves every context: the MACs follow it, or the Seam link. -/
theorem State.macsFollow_ctx (s : State) : s.macsFollow.ing.ctx = s.ing.ctx := by
  unfold State.macsFollow
  generalize List.range 16 = l
  induction l generalizing s with
  | nil => rfl
  | cons m l ih =>
    refine (ih _).trans ?_
    dsimp only
    rw [State.setBit_ing]

theorem State.laneLock_ctx (s : State) (l : Nat) (locked : Bool) : (s.laneLock l locked).ing.ctx = s.ing.ctx := by
  unfold State.laneLock
  split
  · rfl
  · extract_lets shown counted
    have hc : counted.ing = s.ing := by
      unfold counted shown
      split_ifs <;> simp
    clear_value counted
    split
    rename_i proto named eq
    extract_lets told
    have ht : told.ing = s.ing :=
      ((State.eventLimited_keeps ..).fields .ing rfl).trans
        ((KeepsLaws.ofSnd eq (State.laneProto_keeps ..)).fields .ing rfl |>.trans hc)
    clear_value told
    split_ifs
    · rw [State.macsFollow_ctx, ht]
    · rw [(State.seamLaneLock_keeps ..).fields .ing rfl, ht]
    · rw [ht]

/-- The locks of an input's lanes leave every context. -/
theorem State.lanesLock_ctx (lanes : List Nat) (locked : Bool) (s : State) :
    (lanes.foldl (fun u l => u.laneLock l locked) s).ing.ctx = s.ing.ctx := by
  induction lanes generalizing s with
  | nil => rfl
  | cons l lanes ih => exact (ih _).trans (s.laneLock_ctx l locked)

theorem State.lanesLock_keeps (lanes : List Nat) (locked : Bool) (s : State) :
    Keeps 4195596 45890346847855729858795526085023157322283110047848324952341760123403484590938090090698117812224 s
      (lanes.foldl (fun u l => u.laneLock l locked) s) :=
  KeepsLaws.foldl (fun _ _ => State.laneLock_keeps ..) (KeepsLaws.refl ..)

end Sys2Proof.Machine
end

section
/-! SUPPORT. A progressive picture in one SDI line: its frame opens and closes with it (04_ingest.md R184, R187, R188). -/

namespace Sys2Proof.Machine

/-- A context and its pool take a whole picture from SDI: bound and idle, with a surface k to take whose address no other one has. -/
structure State.TakesSdi (s : State) (c k : Nat) : Prop where
  context : c < 1024
  bound : (s.ictx c).bound = true
  sdi : (s.ictx c).cfg.u8 2 = 6
  settled : (s.ictx c).next = none
  idle : (s.ictx c).frames = []
  taken : ∃ p, (s.pool c).take = some (k, p)
  index : k < (s.pool c).surfs.length
  unique : ∀ j, j < (s.pool c).surfs.length → ((s.pool c).surf j).addr = ((s.pool c).surf k).addr → j = k

/-- A line, where it is the first active one, is a whole progressive picture that a binding has room for. -/
structure LineIsPicture (line : SdiLine) (b : Body) : Prop where
  last : line.last = true
  progressive : line.interlaced = false
  wide : line.width ≤ b.u16 12
  high : 1 ≤ b.u16 14

section

variable {s : State} {c a i k : Nat} {f : OpenFrame} {line : SdiLine} {p : Pool}

/-- A frame that ends with its last line closes with a release, and none is open after it. -/
theorem State.closeSdi_releases (marked : f.marker = some 0) (surface : f.surface = some a) (hc : c < 1024)
    (found : (s.pool c).surfs.findIdx? (fun g => g.addr == a) = some i) (wide : f.width ≤ f.cfg.u16 12) (high : f.height ≤ f.cfg.u16 14)
    (settled : (s.ictx c).next = none) :
    s.Releases (s.closeSdi c f) c i f.atArrival ∧ ((s.closeSdi c f).ictx c).frames = [] := by
  unfold State.closeSdi
  generalize hu : s.modIctx c _ = u
  have kept : Keeps 1024 590295810358705651712 s u := hu ▸ State.modIctx_keeps ..
  have context : u.ictx c = { s.ictx c with frames := [], geo := (f.width, f.height) } := by rw [← hu, State.ictx_modIctx_self]
  have size : f.size (u.ictx c).geo = (f.width, f.height) := by simp [OpenFrame.size, marked]
  obtain ⟨released, after⟩ := State.releaseIngest_releases f.atArrival 1 0 10 surface hc (by rwa [kept.pool])
    (by rw [size]; exact wide) (by rw [size]; exact high)
  rw [State.ctxBoundary_none (by rw [after, context]; exact settled), after, context]
  exact ⟨released.after kept, rfl⟩

/-- A context without an open frame has none to give up. -/
theorem State.dropFrames_idle (idle : (s.ictx c).frames = []) : s.dropFrames c = s.setIctx c (s.ictx c) := by
  have same : ({ s.ictx c with frames := [] } : IngCtx) = s.ictx c := by rw [← idle]
  rw [State.dropFrames, idle]
  exact congrArg (s.setIctx c) same

/-- The first active line of a frame takes a surface and opens the frame; the last one closes it. -/
theorem State.sdiActive_only (bound : (s.ictx c).bound = true) (sdi : (s.ictx c).cfg.u8 2 = 6) (settled : (s.ictx c).next = none)
    (idle : (s.ictx c).frames = []) (taken : (s.pool c).take = some (i, p)) (last : line.last = true) (progressive : line.interlaced = false) :
    ∃ (u : State) (f : OpenFrame), s.sdiActive c 0 line = u.closeSdi c f ∧ Keeps 33792 590295810358705651712 s u ∧ u.pool c = p ∧
      u.ictx c = { s.ictx c with frames := [f] } ∧ f.cfg = (s.ictx c).cfg ∧ f.marker = some 0 ∧ f.surface = some (p.surf i).addr ∧
      f.width = line.width ∧ f.height = 1 := by
  have type : iType (s.ictx c).cfg = 6 := sdi
  unfold State.sdiActive
  rw [State.dropFrames_idle idle]
  generalize hu : s.setIctx c (s.ictx c) = u
  have ku : Keeps 1024 590295810358705651712 s u := hu ▸ State.setIctx_keeps ..
  have context : u.ictx c = s.ictx c := by rw [← hu, State.ictx_setIctx_self]
  have got : u.takeForCtx c = (some (p.surf i).addr, u.setPool c p) := by
    rw [State.takeForCtx, show (u.pool (poolIng c)).take = some (i, p) from (congrArg _ (ku.pool c)).trans taken]
    rfl
  rw [State.ctxBoundary_none (context ▸ settled)]
  extract_lets begun opened run
  have opening : opened = (u.setPool c p).modIctx c fun z =>
      { z with frames := [{ cfg := z.cfg, arrival := s.ptp, surface := some (p.surf i).addr, interlaced := line.interlaced }] } := by
    unfold opened begun
    rw [if_pos (by simp [progressive]), if_pos (by simp [context, bound, type]), got]
  clear_value opened
  have ko : Keeps 33792 590295810358705651712 s opened := opening ▸ KeepsLaws.comp
    (KeepsLaws.comp (KeepsLaws.mono ku (KeepsLaws.subI rfl rfl)) (State.setPool_keeps u c p) (KeepsLaws.subI rfl rfl))
    (State.modIctx_keeps ..) (KeepsLaws.subI rfl rfl)
  have pool : opened.pool c = p := by rw [opening, (State.modIctx_keeps ..).pool, State.pool_setPool_self]
  have filled : opened.ictx c = { s.ictx c with frames := [{ cfg := (s.ictx c).cfg, arrival := s.ptp, surface := some (p.surf i).addr }] } := by
    rw [opening, State.ictx_modIctx_self, (State.setPool_keeps ..).ictx, context, progressive]
  simp only [filled, last, if_true]
  refine ⟨_, _, rfl, ?_, ?_, ?_, ?_⟩
  · exact KeepsLaws.comp ko (State.modIctx_keeps ..) (KeepsLaws.subI rfl rfl)
  · rw [(State.modIctx_keeps ..).pool, pool]
  · rw [State.ictx_modIctx_self, filled]
  · simp [OpenFrame.writeTo, runLine, run]

/-- A line that is a whole progressive picture is released as that picture. -/
theorem State.sdiActive_releases (takes : s.TakesSdi c k) (whole : LineIsPicture line (s.ictx c).cfg) :
    ∃ time, s.ShowsPicture (s.sdiActive c 0 line) c k time ∧ ((s.sdiActive c 0 line).ictx c).frames = [] := by
  obtain ⟨hc, bound, sdi, settled, idle, ⟨p, taken⟩, index, unique⟩ := takes
  obtain ⟨last, progressive, wide, high⟩ := whole
  obtain ⟨length, addr⟩ := Pool.take_surfs taken
  have found : p.surfs.findIdx? (fun g => g.addr == (p.surf k).addr) = some k :=
    Pool.findIdx_addr (by omega) fun j hj same => unique j (by omega) (by rwa [addr, addr] at same)
  obtain ⟨u, f, eq, kept, pool, context, cfg, marked, surface, width, height⟩ :=
    State.sdiActive_only bound sdi settled idle taken last progressive
  obtain ⟨released, closed⟩ := State.closeSdi_releases marked surface hc (by rwa [pool]) (by rw [cfg, width]; exact wide)
    (by rw [cfg, height]; exact high) (by rw [context]; exact settled)
  rw [eq]
  exact ⟨_, (released.shows (by rw [pool]; omega)).after kept (by rw [pool]; exact Pool.take_source taken), closed⟩

end

end Sys2Proof.Machine
end

section
/-! SUPPORT. SDI inputs that lose their framing and receive lines (04_ingest.md R171, R183, R184). -/

namespace Sys2Proof.Machine

/-- What an input shows of a received line: its lock, the time and the rate, and a bad CRC is counted. -/
structure State.ShowsLine (s u : State) (i : Nat) (line : SdiLine) : Prop where
  lock : (u.sdi i).lock = true
  lastTrs : (u.sdi i).lastTrs = s.now
  rate : u.regBits .ING_SDI_STAT i 30 28 = line.rate
  crc : u.getReg .ING_SDI_CRC i = (if line.crcOk then s else s.bumpSat .ING_SDI_CRC i).getReg .ING_SDI_CRC i

/-- What leaves inputs and their registers leaves what a line showed. -/
theorem State.ShowsLine.after {F R : Nat} {s u t : State} {i : Nat} {line : SdiLine} (h : s.ShowsLine u i line) (k : Keeps F R u t)
    (sdi : SdiKept u t) (hs : R.testBit Reg.ING_SDI_STAT.ctorIdx = false := by rfl) (hc : R.testBit Reg.ING_SDI_CRC.ctorIdx = false := by rfl) :
    s.ShowsLine t i line where
  lock := by rw [sdi.sdi, h.lock]
  lastTrs := by rw [sdi.sdi, h.lastTrs]
  rate := by rw [k.regBits hs, h.rate]
  crc := by rw [k.reg hc, h.crc]

/-- A noted line leaves contexts and, past rings, lanes and audio, everything. -/
structure State.NotesLine (s u : State) (i : Nat) (line : SdiLine) : Prop where
  shows : s.ShowsLine u i line
  contexts : ∀ c, u.ictx c = s.ictx c
  kept : Keeps 71304460 45890346847855729858795526085220617869161654772906921254248642184001413008150915263171436023808 s u

section

variable {s u : State} {i : Fin 16} {line : SdiLine} {k : Nat}

/-- An input that is not framed any more is unlocked, and shows it. -/
theorem execSdiTrsLossTimeout_due (locked : (s.sdi i).lock = true) (due : (s.sdi i).lastTrs + 1000000 ≤ s.now) :
    ∃ t, execSdiTrsLossTimeout i s = .next t ∧ (t.sdi i).lock = false ∧ t.regBit .ING_SDI_STAT i 31 = false ∧
      t.regBit .ING_STATUS 0 i = false := by
  generalize hu : (s.sdiLanes i).foldl (fun (s : State) l => s.laneLock l false) s = u
  generalize hv : u.setSdi i { s.sdi i with lock := false } = v
  generalize hw : v.setBit .ING_SDI_STAT i 31 false = w
  have ran : execSdiTrsLossTimeout i s = .next (w.sdiLoss (s.sdi i).context) := by
    subst hw hv hu
    exact (if_pos due).trans (by rw [if_pos locked])
  have input : (w.sdi i).lock = false := by
    rw [State.sdi, ← hw, State.setBit_ing, ← hv, ← State.sdi, State.sdi_setSdi_self]
  have stat : w.regBit .ING_SDI_STAT i 31 = false := hw ▸ State.regBit_setBit_self _ _ i.isLt (by decide)
  have status : w.regBit .ING_STATUS 0 i = false := by
    rw [← hw, State.regBit_setBit_ne _ _ (by decide) (.inl (by decide)), ← hv]
    exact State.regBit_setBit_self _ _ (by decide) (by omega)
  refine ⟨_, ran, ?_, ?_, ?_⟩
  · rw [State.sdi, State.sdiLoss_sdi, ← State.sdi, input]
  · rw [(State.sdiLoss_keeps ..).regBit, stat]
  · rw [(State.sdiLoss_keeps ..).regBit, status]

/-- A line of an allowed rate is noted; then, in a bound SDI context, the signal is there and an active line is written. -/
theorem execSdiLineReceive_notes (allowed : (s.sdi i).rates.testBit (line.rate - 1) = true) (low : 1 ≤ line.rate) (high : line.rate ≤ 5) :
    ∃ u, s.NotesLine u i line ∧ execSdiLineReceive i line s =
      if !(u.ictx (s.sdi i).context).bound ∨ iType (u.ictx (s.sdi i).context).cfg ≠ 6 then .next u
      else match line.active with
        | none => .next (u.setLos (s.sdi i).context false s.ptp)
        | some y => .next ((u.setLos (s.sdi i).context false s.ptp).sdiActive (s.sdi i).context y line) := by
  have some_rate : (s.sdi i).rates ≠ 0 := fun none_ => by simp [none_] at allowed
  have bits : line.rate % 2 ^ (30 - 28 + 1) = line.rate := Nat.mod_eq_of_lt (by omega)
  unfold execSdiLineReceive
  rw [if_neg (by simp [some_rate, allowed]; omega)]
  extract_lets locked seen input st0 st1 shown noted
  have framed : Keeps 71304460 45890346847855729858795526085220617869161654772906921254248642184001412932593051537257112604672 s input :=
    KeepsLaws.comp (KeepsLaws.mono (State.lanesLock_keeps ..) (KeepsLaws.subI rfl rfl)) (State.setSdi_keeps ..) (KeepsLaws.subI rfl rfl)
  have kept : Keeps 71304460 45890346847855729858795526085220617869161654772906921254248642184001412932593051537257112604672 s shown :=
    KeepsLaws.comp (KeepsLaws.stepReg framed (KeepsLaws.bitI rfl)) (State.audioSdi_keeps ..) (KeepsLaws.subI rfl rfl)
  have ing : noted.ing = input.ing := by
    have here : shown.ing = input.ing := ((State.audioSdi_keeps ..).fields .ing rfl).trans (State.setReg_ing ..)
    unfold noted
    split_ifs
    · exact here
    · exact ((State.bumpSat_keeps ..).fields .ing rfl).trans here
  have sdi : noted.sdi i = input.sdi i := congrArg (fun x : Ingest => Tbl.get x.sdi i) ing
  have rate0 : st0.bits 30 28 = line.rate := by rw [Word.bits_setBits_self _ _ (by decide) (by decide), bits]
  have rate1 : st1.bits 30 28 = line.rate := by
    unfold st1
    cases line.st352 with
    | some v =>
      rw [Word.bits_setBits_ne _ _ (by decide) (by decide) (by decide) (by decide),
        Word.bits_setBits_ne _ _ (by decide) (by decide) (by decide) (by decide), rate0]
    | none =>
      dsimp only
      split_ifs
      · rw [Word.bits_setBits_ne _ _ (by decide) (by decide) (by decide) (by decide), rate0]
      · exact rate0
  have rate : shown.regBits .ING_SDI_STAT i 30 28 = line.rate := by
    rw [(State.audioSdi_keeps ..).regBits, State.regBits, State.getReg_setReg_self _ _ (by exact i.isLt),
      Word.bits_setBits_ne _ _ (by decide) (by decide) (by decide) (by decide), rate1]
  have crc : shown.getReg .ING_SDI_CRC i = s.getReg .ING_SDI_CRC i := kept.reg
  refine ⟨noted, ⟨⟨?_, ?_, ?_, ?_⟩, fun c => ?_, ?_⟩, rfl⟩
  · rw [sdi, State.sdi_setSdi_self]
  · rw [sdi, State.sdi_setSdi_self]
  · unfold noted
    split_ifs
    · exact rate
    · rw [(State.bumpSat_keeps ..).regBits, rate]
  · unfold noted
    split_ifs
    · exact crc
    · exact State.getReg_bumpSat_congr crc
  · rw [State.ictx, ing, ← State.ictx, State.ictx_setSdi, State.ictx, State.lanesLock_ctx, ← State.ictx]
  · have kept' : Keeps 71304460 45890346847855729858795526085220617869161654772906921254248642184001413008150915263171436023808 s shown :=
      KeepsLaws.mono kept (KeepsLaws.subI rfl rfl)
    exact KeepsLaws.ite kept' (KeepsLaws.stepBumpSat kept' (KeepsLaws.bitI rfl))

/-- A context that takes a picture takes it in any state that has the same context, and the same pool but for its loss of signal. -/
theorem State.TakesSdi.congr {c k : Nat} {l l' : Bool} (h : s.TakesSdi c k) (context : u.ictx c = { s.ictx c with los := l' })
    (pool : u.pool c = { s.pool c with los := l }) : u.TakesSdi c k := by
  obtain ⟨hc, bound, sdi, settled, idle, ⟨p, taken⟩, index, unique⟩ := h
  refine ⟨hc, ?_, ?_, ?_, ?_, ⟨{ p with los := l }, ?_⟩, ?_, ?_⟩
  · rwa [context]
  · rwa [context]
  · rwa [context]
  · rwa [context]
  · rw [pool, Pool.take_los, taken]
    rfl
  · rwa [pool]
  · rwa [pool]

/-- A line of an allowed rate is shown, and one that is a whole progressive picture is released. -/
theorem execSdiLineReceive_shows (allowed : (s.sdi i).rates.testBit (line.rate - 1) = true) (low : 1 ≤ line.rate) (high : line.rate ≤ 5) :
    ∃ t, execSdiLineReceive i line s = .next t ∧ s.ShowsLine t i line ∧
      ∀ k, s.TakesSdi (s.sdi i).context k → LineIsPicture line (s.ictx (s.sdi i).context).cfg → line.active = some 0 →
        ∃ time, s.ShowsPicture t (s.sdi i).context k time ∧ (t.ictx (s.sdi i).context).frames = [] := by
  generalize hc : (s.sdi i).context = c
  obtain ⟨u, noted, ran⟩ := execSdiLineReceive_notes allowed low high
  rw [hc] at ran
  obtain ⟨shows', contexts, kept⟩ := noted
  have told : s.ShowsLine (u.setLos c false s.ptp) i line := shows'.after (State.setLos_keeps ..) (State.setLos_sdi ..)
  rw [ran]
  by_cases sdi : !(u.ictx c).bound ∨ iType (u.ictx c).cfg ≠ 6
  · rw [if_pos sdi]
    exact ⟨u, rfl, shows', fun k takes => absurd sdi (by simp [contexts, takes.bound, iType, takes.sdi])⟩
  rw [if_neg sdi]
  cases active : line.active with
  | none => exact ⟨_, rfl, told, fun _ _ _ other => nomatch other⟩
  | some y =>
    refine ⟨_, rfl, told.after (State.sdiActive_keeps ..) (State.sdiActive_sdi ..), fun k takes whole first => ?_⟩
    obtain rfl : y = 0 := Option.some.inj first
    obtain ⟨l, pool⟩ := State.setLos_pool (s := u) (c := c) (by rw [contexts]; simp [iPooled, iType, takes.sdi]) false s.ptp
    have context := u.setLos_ictx c false s.ptp
    have lost := u.setLos_keeps c false s.ptp
    generalize u.setLos c false s.ptp = v at context pool lost
    rw [contexts] at context
    rw [kept.pool] at pool
    obtain ⟨time, released, closed⟩ := State.sdiActive_releases (takes.congr context pool) (by rwa [context])
    have k' : Keeps 71337228 45890346847855729858795526085220617869161654772906921254248642184001413008741211073530141675520 s v := KeepsLaws.comp (KeepsLaws.mono kept (KeepsLaws.subI rfl rfl)) lost (KeepsLaws.subI rfl rfl)
    exact ⟨time, released.after k' (by rw [pool]; exact ⟨rfl, rfl⟩), closed⟩

end

end Sys2Proof.Machine
end

section
/-! O38 (04_ingest.md R154 to R158, R166, R171 to R190). -/

namespace Sys2Proof.Machine

section

variable {s : State} {m : Fin 16} {f : EthFrame} {r : Rtp} {k i : Nat} {e : LodeEntry}

/-- A frame by itself is received. -/
theorem execEthFrameReceive_one (m : Fin 16) (f : EthFrame) (s : State) : execEthFrameReceive m f none s = .next (s.receive m f) := by
  simp [execEthFrameReceive]

/-- A counter of one MAC does not disturb another counter. -/
theorem State.counted_frame (s : State) (m : Fin 16) {q : Reg} (other : q ≠ .ING_MAC_RX) :
    ((s.bumpWrap .ING_MAC_RX m).bumpSat q m).getReg .ING_MAC_RX m = s.getReg .ING_MAC_RX m + 1 ∧
      ((s.bumpWrap .ING_MAC_RX m).bumpSat q m).getReg q m = (s.bumpSat q m).getReg q m := by
  refine ⟨?_, State.getReg_bumpSat_congr (State.getReg_setReg_ne _ _ (.inl other.symm))⟩
  exact (State.getReg_setReg_ne _ _ (.inl other)).trans (State.getReg_bumpWrap_self _ (by exact m.isLt))

theorem State.counted_fields (s : State) (m : Fin 16) (q : Reg) :
    ((s.bumpWrap .ING_MAC_RX m).bumpSat q m).ing = s.ing ∧ ((s.bumpWrap .ING_MAC_RX m).bumpSat q m).lode = s.lode ∧
      ((s.bumpWrap .ING_MAC_RX m).bumpSat q m).pools = s.pools := by
  have counted := State.bumpSat_keeps (s.bumpWrap .ING_MAC_RX m) q m
  have received := State.bumpWrap_keeps s .ING_MAC_RX m
  exact ⟨(counted.fields .ing rfl).trans (received.fields .ing rfl), (counted.fields .lode rfl).trans (received.fields .lode rfl),
    (counted.fields .pools rfl).trans (received.fields .pools rfl)⟩

/-- A context that takes a picture takes it in any state that has the same context and pool. -/
theorem State.TakesPicture.congr {t : State} {c seq : Nat} (h : s.TakesPicture c i seq) (context : t.ictx c = s.ictx c)
    (pool : t.pool c = s.pool c) : t.TakesPicture c i seq := by
  obtain ⟨hc, bound, video, progressive, ungrouped, idle, settled, fresh, taken, index, unique⟩ := h
  rw [← context] at bound video progressive ungrouped idle settled fresh
  rw [← pool] at taken index unique
  exact ⟨hc, bound, video, progressive, ungrouped, idle, settled, fresh, taken, index, unique⟩

/-- A matched packet that brings a whole progressive picture to its context is counted as a hit, and the picture is released. -/
theorem State.receive_shows (whole : ReceivedWhole s m f) (ptp : f.ptp = none) (mine : f.elsewhere (Tbl.get s.ing.macs m).address = false)
    (pause : f.pause = false) (matched : s.MatchesVideo m f r k e) (unspoilt : (s.ictx e.context).spoilt = 0)
    (takes : s.TakesPicture e.context i (r.extSeq * 65536 + r.seq)) (picture : CarriesPicture f r (s.ictx e.context).cfg) :
    s.ShowsPicture (s.receive m f) e.context i (tagTime ((s.ictx e.context).cfg.u8 3 == 0) 90000 r.ts (s.rxTime m)).1 ∧
      (s.receive m f).getReg .LODE_HITS 0 = s.getReg .LODE_HITS 0 + 1 := by
  rw [State.receive_classifies whole ptp mine pause]
  have received := s.bumpWrap_keeps .ING_MAC_RX m
  generalize s.bumpWrap .ING_MAC_RX m = u at received ⊢
  have matched' : u.MatchesVideo m f r k e := { matched with entry := (received.lodeLookup f).trans matched.entry }
  have context : u.ictx e.context = s.ictx e.context := received.ictx _
  rw [State.classify_video matched' (by rw [context]; exact takes.bound) (by rw [context]; exact takes.video) (by rw [context]; exact unspoilt)]
  have hit := u.lodeHit_keeps k e
  have counted := u.getReg_lodeHit k e
  generalize u.lodeHit k e = v at hit counted ⊢
  have context' : v.ictx e.context = s.ictx e.context := (hit.ictx _).trans context
  have pool : v.pool e.context = s.pool e.context := (hit.pool _).trans (received.pool _)
  have shows' := State.deliver_shows (m := m) (takes.congr context' pool) (by rwa [context'])
  rw [context', hit.rxTime, received.rxTime] at shows'
  refine ⟨(shows'.after hit ?_).after received ?_, ?_⟩
  · rw [hit.pool]
    exact ⟨rfl, rfl⟩
  · rw [received.pool]
    exact ⟨rfl, rfl⟩
  · rw [(State.deliver_keeps ..).reg, counted, received.reg]

/-- A good frame that matches no entry is counted, as unknown, and sampled. -/
theorem State.receive_unknown (whole : ReceivedWhole s m f) (ptp : f.ptp = none) (mine : f.elsewhere (Tbl.get s.ing.macs m).address = false)
    (pause : f.pause = false) (data : f.control = false) (unmatched : s.lodeLookup f = none) :
    Keeps 1292 396316767209197568 ((s.bumpWrap .ING_MAC_RX m).bumpSat .ING_MAC_UNK m) (s.receive m f) := by
  rw [State.receive_classifies whole ptp mine pause,
    State.classify_unknown data (((s.bumpWrap_keeps .ING_MAC_RX m).lodeLookup f).trans unmatched)]
  exact State.sampled_keeps ..

/-- A packet whose number follows the last frame's end, where one has ended, is of no frame that has closed. -/
theorem fresh_of_joins {x : Option Nat} {n : Nat} (hn : n < 2 ^ 32) (joins : x = none ∨ x = some ((n + 2 ^ 32 - 1) % 2 ^ 32)) :
    ∀ q, x = some q → seqAfter n q = true := by
  rintro q rfl
  obtain none_ | follows := joins
  · exact nomatch none_
  · rw [Option.some.inj follows]
    exact seqAfter_succ hn

end

/-- Settles O38: each event shows what its own lemma says; a control frame of two is received first. -/
theorem receivedFramesAreDispatchedAndReleased : Obligations.ReceivedFramesAreDispatchedAndReleased := by
  unfold Obligations.ReceivedFramesAreDispatchedAndReleased
  refine ⟨fun m f s enabled bad => ?_, fun m f s enabled fcs short long overrun => ?_,
    fun m f s enabled fcs short long room ptp mine pause data unmatched => ?_, fun m n f g s => ?_, ?_, ?_, fun c s bound due => ?_,
    fun g leg s up due => ?_, fun i s locked due => execSdiTrsLossTimeout_due locked due, fun i l s allowed low high context => ?_⟩
  · obtain ⟨received, counted⟩ := s.counted_frame m (q := .ING_MAC_FCS) (by decide)
    refine ⟨_, (execEthFrameReceive_one m f s).trans (congrArg _ (State.receive_bad enabled bad)), received, counted, ?_⟩
    exact s.counted_fields m _
  · obtain ⟨-, counted⟩ := s.counted_frame m (q := .ING_MAC_OVR) (by decide)
    exact ⟨_, (execEthFrameReceive_one m f s).trans (congrArg _ (State.receive_overrun enabled fcs short long overrun)), counted,
      s.counted_fields m _⟩
  · obtain ⟨received, counted⟩ := s.counted_frame m (q := .ING_MAC_UNK) (by decide)
    obtain ⟨-, lode, pools⟩ := s.counted_fields m .ING_MAC_UNK
    have sampled := State.receive_unknown ⟨enabled, fcs, short, long, room⟩ ptp mine pause data unmatched
    exact ⟨_, execEthFrameReceive_one m f s, sampled.reg.trans received, sampled.reg.trans counted, (sampled.fields .lode rfl).trans lode,
      (sampled.fields .pools rfl).trans pools⟩
  · by_cases control : g.control = true ∧ f.control = false
    · refine ⟨s.receive n g, (s.receive n g).receive m f, (execEthFrameReceive_two ..).trans (congrArg _ (if_pos control)), ?_⟩
      rw [if_pos control]
      exact ⟨execEthFrameReceive_one .., execEthFrameReceive_one ..⟩
    · refine ⟨s.receive m f, (s.receive m f).receive n g, (execEthFrameReceive_two ..).trans (congrArg _ (if_neg control)), ?_⟩
      rw [if_neg control]
      exact ⟨execEthFrameReceive_one .., execEthFrameReceive_one ..⟩
  · intro m f r k i e s enabled fcs short long room ptp mine pause data entry vlan mac type ungrouped rtp whole version payload marker seq extSeq
      context x p bound video progressive alone unspoilt idle settled joins fits frame taken index unique
    obtain ⟨⟨_, q⟩, took, rfl⟩ := Option.map_eq_some_iff.mp taken
    obtain ⟨⟨hd, newest, header, source, number, time, crc, done, next, frames⟩, hits⟩ :=
      State.receive_shows ⟨enabled, fcs, short, long, room⟩ ptp mine pause
        ⟨data, entry, vlan, mac, type, ungrouped, rtp, whole, version, payload⟩ unspoilt
        ⟨context, bound, video, progressive, alone, idle, settled, fresh_of_joins (by omega) joins, ⟨q, took⟩, index, unique⟩
        ⟨marker, frame, fits⟩
    exact ⟨_, hd, execEthFrameReceive_one .., newest, header, source, number, time, crc, done, next, frames, hits⟩
  · intro c f d a i s x one deadline late settled video surface found wide high
    obtain ⟨released, closed, next⟩ := State.closeFrame_releases one video surface c.isLt found wide high
    have only : execSkewWindowExpiry c s = .next (s.closeFrame c 0 none) :=
      congrArg _ (State.closeAll_only one ⟨d, deadline, late⟩ settled (next.trans settled))
    exact ⟨_, only, closed, released.newest, released.2⟩
  · obtain ⟨n, ran⟩ := execContextLosTimeout_due bound due
    exact ⟨_, ran, by rw [State.setLos_ictx], by rw [State.setLos_ictx]; exact bound⟩
  · obtain ⟨t, ran, told⟩ := execMergeLegTimeout_due up due
    refine ⟨t, ran, ?_⟩
    rw [told.mgrp, told.regBit, State.mgrp_setMgrp_self]
    obtain rfl | rfl : leg = 0 ∨ leg = 1 := by omega
    · exact ⟨rfl, rfl, (State.setMgrp_legs ..).1⟩
    · exact ⟨rfl, rfl, (State.setMgrp_legs ..).2⟩
  · obtain ⟨t, ran, ⟨lock, lastTrs, rate, crc⟩, picture⟩ := execSdiLineReceive_shows allowed low high
    refine ⟨t, ran, lock, lastTrs, rate, crc, fun k bound sdi settled idle active last progressive _ wide high taken index unique => ?_⟩
    obtain ⟨⟨_, p⟩, took, rfl⟩ := Option.map_eq_some_iff.mp taken
    obtain ⟨time, ⟨hd, newest, -, -, -, -, -, -, -, frames⟩, closed⟩ :=
      picture _ ⟨context, bound, sdi, settled, idle, ⟨p, took⟩, index, unique⟩ ⟨last, progressive, wide, high⟩ active
    exact ⟨newest, closed, frames⟩

end Sys2Proof.Machine
end

section
/-! SUPPORT. What the writes of the camera block leave of its contexts, ports and pipes (05_camera_pipes.md R194, R197, R202, R205). -/

namespace Sys2Proof.Machine

section

variable (s : State)

theorem State.setCctx_cam (c : Nat) (x : CamCtx) : (s.setCctx c x).cam = { s.cam with ctx := Tbl.set s.cam.ctx c x } := by
  rw [State.setCctx, State.setReg_cam, State.setBit_cam]

theorem State.setPipe_cam (q : Nat) (x : Pipe) : (s.setPipe q x).cam = { s.cam with pipes := Tbl.set s.cam.pipes q x } := by
  rw [State.setPipe, State.setBits_cam, State.setBit_cam]

theorem State.setCport_cam (p : Nat) (x : CamPort) : (s.setCport p x).cam = { s.cam with ports := Tbl.set s.cam.ports p x } :=
  State.setBit_cam ..

theorem State.cctx_setCctx (c d : Nat) (x : CamCtx) : (s.setCctx c x).cctx d = if c = d then x else s.cctx d := by
  rw [State.cctx, State.setCctx_cam]
  exact Tbl.get_set ..

theorem State.cctx_modCctx (c d : Nat) (f : CamCtx → CamCtx) : (s.modCctx c f).cctx d = if c = d then f (s.cctx c) else s.cctx d :=
  s.cctx_setCctx ..

@[simp] theorem State.cctx_setCctx_self (c : Nat) (x : CamCtx) : (s.setCctx c x).cctx c = x := by
  rw [State.cctx_setCctx, if_pos rfl]

@[simp] theorem State.cctx_modCctx_self (c : Nat) (f : CamCtx → CamCtx) : (s.modCctx c f).cctx c = f (s.cctx c) := s.cctx_setCctx_self ..

@[simp] theorem State.cctx_setPipe (q c : Nat) (x : Pipe) : (s.setPipe q x).cctx c = s.cctx c := by
  rw [State.cctx, State.setPipe_cam]
  rfl

@[simp] theorem State.cctx_setCport (p c : Nat) (x : CamPort) : (s.setCport p x).cctx c = s.cctx c := by
  rw [State.cctx, State.setCport_cam]
  rfl

@[simp] theorem State.pipe_setPipe_self (q : Nat) (x : Pipe) : (s.setPipe q x).pipe q = x := by
  rw [State.pipe, State.setPipe_cam]
  exact Tbl.get_set_self ..

@[simp] theorem State.pipe_setCctx (c q : Nat) (x : CamCtx) : (s.setCctx c x).pipe q = s.pipe q := by
  rw [State.pipe, State.setCctx_cam]
  rfl

@[simp] theorem State.pipe_setCport (p q : Nat) (x : CamPort) : (s.setCport p x).pipe q = s.pipe q := by
  rw [State.pipe, State.setCport_cam]
  rfl

@[simp] theorem State.cport_setCport_self (p : Nat) (x : CamPort) : (s.setCport p x).cport p = x := by
  rw [State.cport, State.setCport_cam]
  exact Tbl.get_set_self ..

@[simp] theorem State.ports_setCctx (c : Nat) (x : CamCtx) : (s.setCctx c x).cam.ports = s.cam.ports := by rw [State.setCctx_cam]

@[simp] theorem State.ports_setPipe (q : Nat) (x : Pipe) : (s.setPipe q x).cam.ports = s.cam.ports := by rw [State.setPipe_cam]

theorem State.out_modCctx (c : Nat) (f : CamCtx → CamCtx) : (s.modCctx c f).out = s.out := by
  rw [State.modCctx, State.setCctx, State.setReg_out, State.setBit_out]

theorem State.pool_setPool_ne {k n : Nat} (p : Pool) (h : k ≠ n) : (s.setPool k p).pool n = s.pool n := Tbl.get_set_ne _ _ h

theorem State.pool_modPool_ne {k n : Nat} (f : Pool → Pool) (h : k ≠ n) : (s.modPool k f).pool n = s.pool n := s.pool_setPool_ne _ h

/-- A packet on a port tells of its clock and no more. -/
theorem State.cctx_portAlive (p c : Nat) : (s.portAlive p).cctx c = s.cctx c := by
  rw [State.portAlive]
  split_ifs
  · rfl
  · exact s.cctx_setCport ..

theorem State.pipe_portAlive (p q : Nat) : (s.portAlive p).pipe q = s.pipe q := by
  rw [State.portAlive]
  split_ifs
  · rfl
  · exact s.pipe_setCport ..

end

/-! ### What masks say of them -/

section

variable {F R : Nat} {s t : State}

theorem Keeps.cctx (k : Keeps F R s t) {c : Nat} (h : F.testBit Field.cam.ctorIdx = false) : t.cctx c = s.cctx c :=
  congrArg (fun x : Camera => Tbl.get x.ctx c) (k.fields .cam h)

theorem Keeps.pipe (k : Keeps F R s t) {q : Nat} (h : F.testBit Field.cam.ctorIdx = false) : t.pipe q = s.pipe q :=
  congrArg (fun x : Camera => Tbl.get x.pipes q) (k.fields .cam h)

theorem Keeps.cport (k : Keeps F R s t) {p : Nat} (h : F.testBit Field.cam.ctorIdx = false) : t.cport p = s.cport p :=
  congrArg (fun x : Camera => Tbl.get x.ports p) (k.fields .cam h)

theorem Keeps.ports (k : Keeps F R s t) (h : F.testBit Field.cam.ctorIdx = false) : t.cam.ports = s.cam.ports :=
  congrArg Camera.ports (k.fields .cam h)

theorem Keeps.restart (k : Keeps F R s t) (h : F.testBit Field.interp.ctorIdx = false) : t.interp.restart = s.interp.restart :=
  congrArg Interp.restart (k.fields .interp h)

theorem Keeps.evtEn (k : Keeps F R s t) {p : Port} (h : R.testBit Reg.HP_CTL.ctorIdx = false) : t.evtEn p = s.evtEn p :=
  k.regBit h

end

/-! ### Bindings and lookups -/

section

variable {s t : State}

/-- The lookup of a port and virtual channel hangs on the bindings in force alone. -/
theorem State.camOf_congr (same : ∀ c, (t.cctx c).bound = (s.cctx c).bound ∧ (t.cctx c).cfg = (s.cctx c).cfg) (p v : Nat) :
    t.camOf p v = s.camOf p v := by
  unfold State.camOf
  simp only [same]

theorem State.pipeCtxs_congr (same : ∀ c, (t.cctx c).bound = (s.cctx c).bound ∧ (t.cctx c).cfg = (s.cctx c).cfg) (q : Nat) :
    t.pipeCtxs q = s.pipeCtxs q := by
  unfold State.pipeCtxs
  simp only [same]

/-- What the lookup finds is bound there. -/
theorem State.camOf_some {p v c : Nat} (found : s.camOf p v = some c) :
    c < 16 ∧ (s.cctx c).bound = true ∧ cPort (s.cctx c).cfg = p ∧ (s.cctx c).cfg.u8 3 = v := by
  have here := List.find?_some found
  have inside := List.mem_range.mp (List.mem_of_find?_eq_some found)
  simp only [Bool.and_eq_true, beq_iff_eq] at here
  obtain ⟨⟨bound, port⟩, channel⟩ := here
  exact ⟨inside, bound, port, channel⟩

theorem State.mem_camsOn {p c : Nat} (hc : c < 16) (bound : (s.cctx c).bound = true) (port : cPort (s.cctx c).cfg = p) : c ∈ s.camsOn p := by
  refine List.mem_map.mpr ⟨(c, (s.cctx c).cfg), List.mem_filter.mpr ⟨List.mem_filterMap.mpr ⟨c, List.mem_range.mpr hc, ?_⟩, ?_⟩, rfl⟩
  · rw [if_pos bound]
  · simpa using port

theorem State.mem_pipeCtxs {q c : Nat} : c ∈ s.pipeCtxs q ↔ c < 16 ∧ (s.cctx c).bound = true ∧ cPort (s.cctx c).cfg / 4 = q := by
  simp [State.pipeCtxs]

end

end Sys2Proof.Machine
end

section
/-! SUPPORT. What the image pipes do to contexts and pools as they take frames and let them go (05_camera_pipes.md R204 to R206, R216). -/

namespace Sys2Proof.Machine

/-- A context but for the complete frames that its pipe has yet to finish. -/
def CamCtx.received (x : CamCtx) : CamCtx := { x with waiting := none, processing := none }

theorem CamCtx.received_binding {x y : CamCtx} (h : x.received = y.received) : x.bound = y.bound ∧ x.cfg = y.cfg :=
  ⟨congrArg (·.bound) h, congrArg (·.cfg) h⟩

/-- From s to t the work of the pipes differs at most: the ports stand, and the contexts but for their complete frames. -/
structure State.PipeWork (s t : State) : Prop where
  ports : t.cam.ports = s.cam.ports
  received : ∀ c, (t.cctx c).received = (s.cctx c).received

namespace State.PipeWork

variable {F R : Nat} {s t u : State}

theorem refl (s : State) : s.PipeWork s := ⟨rfl, fun _ => rfl⟩

theorem trans (h : s.PipeWork u) (k : u.PipeWork t) : s.PipeWork t :=
  ⟨k.ports.trans h.ports, fun c => (k.received c).trans (h.received c)⟩

theorem of_keeps (k : Keeps F R s t) (h : F.testBit Field.cam.ctorIdx = false) : s.PipeWork t :=
  ⟨k.ports h, fun _ => congrArg CamCtx.received (k.cctx h)⟩

theorem setPipe (s : State) (q : Nat) (x : Pipe) : s.PipeWork (s.setPipe q x) := ⟨s.ports_setPipe .., fun c => by rw [State.cctx_setPipe]⟩

theorem modCctx (s : State) (c : Nat) {f : CamCtx → CamCtx} (h : ∀ x, (f x).received = x.received) : s.PipeWork (s.modCctx c f) := by
  refine ⟨s.ports_setCctx .., fun d => ?_⟩
  rw [State.cctx_modCctx]
  split_ifs with e
  · rw [h, e]
  · rfl

theorem camOf (h : s.PipeWork t) (p v : Nat) : t.camOf p v = s.camOf p v :=
  State.camOf_congr (fun c => CamCtx.received_binding (h.received c)) p v

end State.PipeWork

section

variable {s : State} {q c : Nat}

/-- A pipe on a frame drops it: the surfaces go back to their pools, and the pipe is idle. -/
theorem State.pipeDrop_busy (busy : (s.pipe q).busy = some c) : ∃ u, Keeps 33652736 0 s u ∧ s.pipeDrop q = u.setPipe q {} := by
  have given : ∀ (u : State) (k a : Nat), Keeps 33652736 0 u ((u.modPool k fun y => y.abandonAt a).collect k) := fun u k a =>
    KeepsLaws.comp (KeepsLaws.mono (State.modPool_keeps ..) (KeepsLaws.subI rfl rfl)) (State.collect_keeps ..) (KeepsLaws.subI rfl rfl)
  unfold State.pipeDrop
  simp only [busy]
  refine ⟨_, ?_, rfl⟩
  cases (s.pipe q).colour <;> cases (s.pipe q).infra
  · exact KeepsLaws.refl ..
  · exact given ..
  · exact given ..
  · exact KeepsLaws.trans (given ..) (given ..)

theorem State.pipeDrop_work (s : State) (q : Nat) : s.PipeWork (s.pipeDrop q) := by
  cases busy : (s.pipe q).busy with
  | none =>
    unfold State.pipeDrop
    simp only [busy]
    exact .refl s
  | some c =>
    obtain ⟨u, kept, eq⟩ := State.pipeDrop_busy busy
    rw [eq]
    exact (PipeWork.of_keeps kept rfl).trans (.setPipe ..)

theorem State.pipeAgain_work (s : State) (q c start : Nat) : s.PipeWork (s.pipeAgain q c start) := by
  unfold State.pipeAgain
  dsimp only
  split
  · exact .refl s
  · split
    · exact .refl s
    · split_ifs
      · exact (s.pipeDrop_work q).trans (.modCctx _ _ fun _ => rfl)
      · exact .refl s

/-- A pipe that has not selected in this very cycle keeps what it is on (R205). -/
theorem State.pipeAgain_earlier (c start : Nat) (earlier : (s.pipe q).busy = none ∨ (s.pipe q).started ≠ s.now) :
    s.pipeAgain q c start = s := by
  unfold State.pipeAgain
  dsimp only
  split
  · rfl
  · rename_i busy
    have started : (s.pipe q).started ≠ s.now := earlier.resolve_left (by simp [busy])
    split
    · rfl
    · rw [if_neg fun ⟨_, same, _⟩ => started same]

end

/-! ### Surfaces taken (R187, R216) -/

/-- A pool as it was, or with one more surface taken from it. -/
def Pool.TakenFrom (p q : Pool) : Prop := q = p ∨ ∃ i, p.take = some (i, q)

section

variable {p q : Pool} {i : Nat}

theorem Pool.take_writerFault (taken : p.take = some (i, q)) : q.writerFault = p.writerFault := by
  obtain ⟨k, -, h⟩ := Option.map_eq_some_iff.mp taken
  obtain ⟨rfl, rfl⟩ := Prod.mk.inj h
  rfl

/-- A surface to be taken is neither one with a complete header, unless it is an older one, nor the newest. -/
theorem Pool.candidate_cases (found : p.candidate = some i) : (p.surf i).header = none ∨ i ∈ p.order.dropLast := by
  unfold Pool.candidate at found
  dsimp only at found
  split at found
  · rename_i j first
    obtain rfl := Option.some.inj found
    have here := List.find?_some first
    simp only [Bool.and_eq_true, Option.isNone_iff_eq_none] at here
    exact .inl here.1
  · exact .inr (List.mem_of_find?_eq_some found)

/-- The newest surface with its header is not taken: it stays as it is, and the newest (R187). -/
theorem Pool.take_newest {j : Nat} {l : List Nat} (taken : p.take = some (j, q)) (order : p.order = l ++ [i]) (once : i ∉ l)
    (complete : (p.surf i).header ≠ none) : q.newestIdx = some i ∧ q.surf i = p.surf i := by
  obtain ⟨k, found, h⟩ := Option.map_eq_some_iff.mp taken
  obtain ⟨rfl, rfl⟩ := Prod.mk.inj h
  have other : k ≠ i := by
    rintro rfl
    obtain none_ | older := Pool.candidate_cases found
    · exact complete none_
    · rw [order, List.dropLast_concat] at older
      exact once older
  constructor
  · simp [Pool.newestIdx, order, List.filter_append, other.symm]
  · simp [Pool.surf, Pool.modSurf, List.getD_eq_getElem?_getD, other]

end

theorem poolCam_ne_poolIr {c : Nat} (hc : c < 16) (d : Nat) : poolIr d ≠ poolCam c := by
  unfold poolIr poolCam
  omega

theorem poolCam_inj {c d : Nat} (h : poolCam c = poolCam d) : c = d := Nat.add_left_cancel h

section

variable {s : State}

theorem State.camTakeSurface_keeps (s : State) (c k w h : Nat) :
    Keeps 33036 154742504910672534362984448 s (s.camTakeSurface c k w h).2 := by
  have withheld : Keeps 33036 154742504910672534362984448 s (s.addSatBits .CAM_CTX_WITHHELD c 15 0 1) := by
    with_reducible refine KeepsLaws.stepAddSatBits ?_ (KeepsLaws.bitI rfl)
    exact KeepsLaws.refl ..
  unfold State.camTakeSurface
  dsimp only
  split
  · exact KeepsLaws.mono (State.setPool_keeps ..) (KeepsLaws.subI rfl rfl)
  · dsimp only
    with_reducible refine KeepsLaws.comp withheld (State.eventPerSec_keeps ..) (KeepsLaws.subI rfl rfl)

/-- A surface is taken from the pool that is named, or from none. -/
theorem State.camTakeSurface_pool (s : State) (c k w h n : Nat) :
    ((s.camTakeSurface c k w h).2.pool n = s.pool n) ∨ k = n ∧ Pool.TakenFrom (s.pool n) ((s.camTakeSurface c k w h).2.pool n) := by
  unfold State.camTakeSurface
  dsimp only
  split
  · rename_i i p found
    by_cases e : k = n
    · subst e
      refine .inr ⟨rfl, .inr ⟨i, ?_⟩⟩
      rw [State.pool_setPool_self]
      split_ifs at found
      exact found
    · exact .inl (State.pool_setPool_ne _ _ e)
  · exact .inl (by rw [(State.eventPerSec_keeps ..).pool _ rfl, (State.addSatBits_keeps ..).pool _ rfl])

end

end Sys2Proof.Machine
end

section
/-! SUPPORT. How raw frames close and reach their pipe (05_camera_pipes.md R199, R201, R204 to R206). -/

namespace Sys2Proof.Machine

/-! ### A pipe selects (R205) -/

/-- From s to u surfaces are taken for a frame: at most one of each camera pool. -/
structure State.SurfacesTaken (s u : State) : Prop where
  kept : Keeps 33036 154742504910672534362984448 s u
  taken : ∀ d, d < 16 → Pool.TakenFrom (s.pool (poolCam d)) (u.pool (poolCam d))

/-- A pipe takes a surface of its frame's pool, and one of its IR pool where the frame has a plane. -/
theorem State.surfacesTaken (s : State) (c w h v g : Nat) (plane : Bool) :
    s.SurfacesTaken (if plane then (s.camTakeSurface c (poolCam c) w h).2.camTakeSurface c (poolIr c) v g
      else (none, (s.camTakeSurface c (poolCam c) w h).2)).2 := by
  have colour : s.SurfacesTaken (s.camTakeSurface c (poolCam c) w h).2 :=
    ⟨s.camTakeSurface_keeps .., fun d _ => (s.camTakeSurface_pool ..).elim .inl (·.2)⟩
  split_ifs
  · refine ⟨KeepsLaws.trans colour.kept (State.camTakeSurface_keeps ..), fun d hd => ?_⟩
    have same := ((s.camTakeSurface c (poolCam c) w h).2.camTakeSurface_pool c (poolIr c) v g (poolCam d)).resolve_right
      fun e => poolCam_ne_poolIr hd c e.1
    rw [same]
    exact colour.taken d hd
  · exact colour

section

variable {s : State} {q c : Nat} {f : RawFrame}

theorem State.pipeSelect_busy (busy : (s.pipe q).busy.isSome = true) : s.pipeSelect q = s := if_pos busy

theorem State.pipeSelect_idle (idle : (s.pipe q).busy = none) (empty : s.earliest (s.pipeCtxs q) = none) : s.pipeSelect q = s := by
  rw [State.pipeSelect, if_neg (by simp [idle])]
  simp only [empty]

/-- An idle pipe takes the waiting frame with the earliest start, with the surfaces it writes. -/
theorem State.pipeSelect_takes (idle : (s.pipe q).busy = none) (first : s.earliest (s.pipeCtxs q) = some (c, f)) :
    ∃ u x w, s.SurfacesTaken u ∧ x.busy = some c ∧ s.pipeSelect q =
      ((u.modCctx c fun y => { y with waiting := none, processing := some f }).setPipe q x).setReg .CAM_CTX_QUEUE_US c w := by
  rw [State.pipeSelect, if_neg (by simp [idle])]
  simp only [first]
  exact ⟨_, _, _, State.surfacesTaken .., rfl, rfl⟩

/-- Where one context alone has a waiting frame, that frame is the earliest. -/
theorem State.earliest_only (waiting : (s.cctx c).waiting = some f) (alone : ∀ d, d ≠ c → (s.cctx d).waiting = none) (l : List Nat) :
    s.earliest l = if c ∈ l then some (c, f) else none := by
  induction l with
  | nil => rfl
  | cons d l ih =>
    rw [State.earliest, ih]
    by_cases e : d = c
    · subst e
      simp only [waiting, List.mem_cons, true_or, if_true]
      by_cases later : d ∈ l
      · simp [later]
      · simp [later]
    · simp [alone d e, Ne.symm e]

/-- Past the selection only the surfaces taken differ of the pools that frames are written to. -/
theorem State.pipeSelect_taken (s : State) (q : Nat) {d : Nat} (hd : d < 16) :
    Pool.TakenFrom (s.pool (poolCam d)) ((s.pipeSelect q).pool (poolCam d)) := by
  by_cases busy : (s.pipe q).busy.isSome = true
  · exact .inl (by rw [State.pipeSelect_busy busy])
  · have idle : (s.pipe q).busy = none := by simpa using busy
    cases first : s.earliest (s.pipeCtxs q) with
    | none => exact .inl (by rw [State.pipeSelect_idle idle first])
    | some e =>
      obtain ⟨u, x, w, taken, -, eq⟩ := State.pipeSelect_takes idle first
      rw [eq, (KeepsLaws.setReg ..).pool _ rfl, (State.setPipe_keeps ..).pool _ rfl, (State.modCctx_keeps ..).pool _ rfl]
      exact taken.taken d hd

theorem State.pipeSelect_work (s : State) (q : Nat) : s.PipeWork (s.pipeSelect q) := by
  by_cases busy : (s.pipe q).busy.isSome = true
  · rw [State.pipeSelect_busy busy]
    exact .refl s
  · have idle : (s.pipe q).busy = none := by simpa using busy
    cases first : s.earliest (s.pipeCtxs q) with
    | none =>
      rw [State.pipeSelect_idle idle first]
      exact .refl s
    | some e =>
      obtain ⟨u, x, w, taken, -, eq⟩ := State.pipeSelect_takes idle first
      rw [eq]
      have moved : u.PipeWork (u.modCctx e.1 fun y => { y with waiting := none, processing := some e.2 }) := .modCctx _ _ fun _ => rfl
      exact (((PipeWork.of_keeps taken.kept rfl).trans moved).trans (.setPipe ..)).trans (.of_keeps (KeepsLaws.setReg ..) rfl)

end

/-! ### Frames that close (R199, R204) -/

/-- Something that is counted with its event, where it has happened, changes the counter and what an event changes. -/
theorem Keeps.counted {F R : Nat} {s u : State} {p : Prop} {_ : Decidable p} (k : Keeps F R s u) {r : Reg} {i code inst n : Nat}
    {mk : Nat → List Byte} (hr : R.testBit r.ctorIdx = true) (hs : KeepsLaws.sub 268 F 593920 R = true) :
    Keeps F R s (if p then (u.bumpSat r i).eventPerSec code inst n mk else u) :=
  KeepsLaws.ite (KeepsLaws.comp (KeepsLaws.stepBumpSat k hr) (State.eventPerSec_keeps ..) hs) k

section

variable {s : State} {c : Nat} {f : RawFrame}

theorem State.closeCam_idle (idle : (s.cctx c).writing = none) : s.closeCam c = s := by
  unfold State.closeCam
  simp only [idle]

theorem State.closeCam_short (writing : (s.cctx c).writing = some f) (short : f.count < cH f.cfg) : s.closeCam c = s.shortCam c := by
  unfold State.closeCam
  simp only [writing, short, if_true]

/-- A complete frame waits for its pipe, which selects again; what it counts first touches ports, limits and counters. -/
theorem State.closeCam_whole (writing : (s.cctx c).writing = some f) (whole : ¬ f.count < cH f.cfg) :
    ∃ u flags, Keeps 268 928455029464035206174937088 s u ∧ s.closeCam c =
      ((u.setCctx c { s.cctx c with writing := none, waiting := some { f with closed := s.now, flags := flags } }).pipeAgain
        (cPort f.cfg / 4) c f.start).pipeSelect (cPort f.cfg / 4) := by
  unfold State.closeCam
  simp only [writing, whole, if_false]
  exact ⟨_, _, Keeps.counted (Keeps.counted (KeepsLaws.refl ..) (KeepsLaws.bitI rfl) (KeepsLaws.subI rfl rfl)) (KeepsLaws.bitI rfl)
    (KeepsLaws.subI rfl rfl), rfl⟩

/-- A frame that closes short is withheld and counted, and the rest of its context stands (R199). -/
theorem State.cctx_shortCam (s : State) (c d : Nat) :
    (s.shortCam c).cctx d = if c = d then { s.cctx d with writing := none } else s.cctx d := by
  unfold State.shortCam
  split
  · rename_i idle
    split_ifs with e
    · rw [← e, ← idle]
    · rfl
  · rw [(State.eventPerSec_keeps ..).cctx rfl, (State.addSatBits_keeps ..).cctx rfl, State.cctx_modCctx]
    split_ifs with e
    · rw [e]
    · rfl

theorem State.shortCam_withheld (hc : c < 16) (writing : (s.cctx c).writing = some f) :
    (s.shortCam c).regBits .CAM_CTX_WITHHELD c 31 16 = min 65535 (s.regBits .CAM_CTX_WITHHELD c 31 16 + 1) := by
  unfold State.shortCam
  simp only [writing]
  rw [(State.eventPerSec_keeps ..).regBits rfl, State.addSatBits, State.regBits_setBits_self _ _ hc (by decide) (by decide),
    (State.modCctx_keeps ..).regBits rfl]
  omega

theorem State.ports_shortCam (s : State) (c : Nat) : (s.shortCam c).cam.ports = s.cam.ports := by
  unfold State.shortCam
  split
  · rfl
  · rw [(State.eventPerSec_keeps ..).ports rfl, (State.addSatBits_keeps ..).ports rfl, State.modCctx, State.ports_setCctx]

/-- A frame that closes leaves the rest of every context, but for what its pipe then does. -/
theorem State.received_closeCam (s : State) (c d : Nat) :
    ((s.closeCam c).cctx d).received = if c = d then { (s.cctx d).received with writing := none } else (s.cctx d).received := by
  cases writing : (s.cctx c).writing with
  | none =>
    rw [State.closeCam_idle writing]
    split_ifs with e
    · rw [← e, ← writing]
      rfl
    · rfl
  | some f =>
    by_cases short : f.count < cH f.cfg
    · rw [State.closeCam_short writing short, State.cctx_shortCam]
      split_ifs <;> rfl
    · obtain ⟨u, flags, counted, eq⟩ := State.closeCam_whole writing short
      rw [eq, (State.pipeSelect_work ..).received, (State.pipeAgain_work ..).received, State.cctx_setCctx]
      split_ifs with e
      · rw [← e]
        rfl
      · rw [counted.cctx rfl]

theorem State.ports_closeCam (s : State) (c : Nat) : (s.closeCam c).cam.ports = s.cam.ports := by
  cases writing : (s.cctx c).writing with
  | none => rw [State.closeCam_idle writing]
  | some f =>
    by_cases short : f.count < cH f.cfg
    · rw [State.closeCam_short writing short, State.ports_shortCam]
    · obtain ⟨u, flags, counted, eq⟩ := State.closeCam_whole writing short
      rw [eq, (State.pipeSelect_work ..).ports, (State.pipeAgain_work ..).ports, State.ports_setCctx, counted.ports rfl]

/-! ### Losses of signal (R201) -/

/-- A pool's write that a condition asks for leaves the camera block. -/
theorem Keeps.modPool_ite {p : Prop} {_ : Decidable p} (u : State) (k : Nat) (g : Pool → Pool) :
    Keeps 32768 0 u (if p then u else u.modPool k g) := KeepsLaws.ite (KeepsLaws.refl ..) (State.modPool_keeps ..)

/-- A reported loss or return of signal is noted in its context alone. -/
theorem State.cctx_setCamLos (s : State) (c d : Nat) (lost : Bool) (t : Nat) :
    (s.setCamLos c lost t).cctx d = if c = d then { s.cctx d with los := lost } else s.cctx d := by
  rw [State.setCamLos]
  by_cases same : (s.cctx c).los = lost
  · rw [if_pos same]
    split_ifs with e
    · rw [← e, ← same]
    · rfl
  · rw [if_neg same, (State.eventLimited_keeps ..).cctx rfl, (Keeps.modPool_ite ..).cctx rfl, (State.modPool_keeps ..).cctx rfl, State.cctx_setCctx]
    split_ifs with e
    · rw [e]
    · rfl

theorem State.ports_setCamLos (s : State) (c : Nat) (lost : Bool) (t : Nat) : (s.setCamLos c lost t).cam.ports = s.cam.ports := by
  rw [State.setCamLos]
  split_ifs
  · rfl
  · rw [(State.eventLimited_keeps ..).ports rfl, (State.modPool_keeps ..).ports rfl, State.ports_setCctx]
  · rw [(State.eventLimited_keeps ..).ports rfl, (State.modPool_keeps ..).ports rfl, (State.modPool_keeps ..).ports rfl, State.ports_setCctx]

/-- What a loss of signal leaves of a context: no frame is open (R199, R201). -/
def CamCtx.lost (x : CamCtx) : CamCtx := { x.received with writing := none, los := true }

theorem CamCtx.lost_congr {x y : CamCtx} (h : x.received = y.received) : x.lost = y.lost :=
  congrArg (fun z : CamCtx => { z with writing := none, los := true }) h

theorem State.received_loseCam (s : State) (c d : Nat) :
    ((s.loseCam c).cctx d).received = if c = d then (s.cctx d).lost else (s.cctx d).received := by
  have closed := s.received_closeCam c d
  rw [State.loseCam, State.cctx_setCamLos]
  split_ifs at closed ⊢
  · exact congrArg (fun z : CamCtx => { z with los := true }) closed
  · exact closed

theorem State.ports_loseCam (s : State) (c : Nat) : (s.loseCam c).cam.ports = s.cam.ports := by
  rw [State.loseCam, State.ports_setCamLos, State.ports_closeCam]

/-- Contexts that lose their signal one after the other have all lost it, and the others have not. -/
theorem State.received_loseCams (s : State) (l : List Nat) (d : Nat) :
    ((l.foldl State.loseCam s).cctx d).received = if d ∈ l then (s.cctx d).lost else (s.cctx d).received := by
  induction l generalizing s with
  | nil => rfl
  | cons c l ih =>
    have first := s.received_loseCam c d
    rw [List.foldl_cons, ih]
    by_cases e : c = d
    · rw [if_pos e] at first
      subst e
      simp only [List.mem_cons, true_or, if_true, first]
      split_ifs
      · exact congrArg (fun z : CamCtx => { z with writing := none, los := true }) first
      · rfl
    · rw [if_neg e] at first
      simp only [List.mem_cons, Ne.symm e, false_or, first, CamCtx.lost_congr first]

theorem State.ports_loseCams (s : State) (l : List Nat) : (l.foldl State.loseCam s).cam.ports = s.cam.ports := by
  induction l generalizing s with
  | nil => rfl
  | cons c l ih => rw [List.foldl_cons, ih, State.ports_loseCam]

theorem State.loseCams_lost {s : State} {l : List Nat} {d : Nat} (h : d ∈ l) :
    ((l.foldl State.loseCam s).cctx d).los = true ∧ ((l.foldl State.loseCam s).cctx d).writing = none := by
  have lost := s.received_loseCams l d
  rw [if_pos h] at lost
  exact ⟨congrArg (·.los) lost, congrArg (·.writing) lost⟩

theorem State.loseCams_keeps (s : State) (l : List Nat) : Keeps 33657100 23404954983466672650958999552 s (l.foldl State.loseCam s) :=
  KeepsLaws.foldl (fun _ _ => State.loseCam_keeps ..) (KeepsLaws.refl ..)

end

end Sys2Proof.Machine
end

section
/-! SUPPORT. The camera commands and the bindings of cameras and inputs (05_camera_pipes.md R194 to R197, R209 to R211, R220;
04_ingest.md R169, R170, R186). -/

namespace Sys2Proof.Machine

/-! ### Commands that are refused (R20) -/

section

variable {op reason : Nat} {s : State} {r : Req} {need : List Nat} {bad : Bool} {c : Pre} {eff : State → Answer}

/-- A ready command that is refused before its execution answers why; only what a reply touches differs. -/
theorem command_answers_status {st : Status} (h : Ready s r op need)
    (hf : firstStatus bad (s.notReady op) (!scopesOk (s.heldAt r op) need) c = some (st, reason)) :
    ∃ t, command op r s need bad c eff = .next t ∧ Answers s t r op st.code reason c.rbody ∧ Keeps 28 2686976 s t := by
  obtain ⟨free, -, -, events⟩ := h
  refine ⟨_, command_status free hf, answers_replyR (u := s.endInterp) (List.suffix_refl _) (canRun_restart (s := s) free) events, ?_⟩
  exact KeepsLaws.comp (KeepsLaws.mono s.endInterp_keeps (KeepsLaws.subI rfl rfl)) (State.replyR_keeps ..) (KeepsLaws.subI rfl rfl)

/-- A ready command of good operands that needs no more than room and a configuration that passes is refused for want of one of them,
or takes effect. -/
theorem command_resources {F R : Nat} {g : State → State} {noRes : Bool} {rej : Option Nat} (h : Ready s r op need) (good : bad = false)
    (k : Keeps F R s.endInterp (g s.endInterp)) (hi : F.testBit Field.interp.ctorIdx = false)
    (hc : R.testBit Reg.HP_CTL.ctorIdx = false) :
    ∃ t, command op r s need bad { noRes := noRes, rej := rej } (fun s => done (g s)) = .next t ∧
      (noRes = true → Answers s t r op 5 0 []) ∧
      (noRes = false → ∀ x, rej = some x → Answers s t r op 7 x [] ∧ Keeps 28 2686976 s t) ∧
      (noRes = false → rej = none → Answers s t r op 0 0 [] ∧ Keeps 28 2686976 (g s.endInterp) t) := by
  have first : firstStatus bad (s.notReady op) (!scopesOk (s.heldAt r op) need) { noRes := noRes, rej := rej } =
      if noRes then some (.NORESOURCE, 0) else rej.map fun x => (.REJECTED, x) := by
    obtain ⟨-, ready, scopes, -⟩ := h
    simp [firstStatus, good, ready, scopes]
  cases noRes with
  | true =>
    obtain ⟨t, result, answers, -⟩ := command_answers_status h first (eff := fun s => done (g s))
    exact ⟨t, result, fun _ => answers, by simp, by simp⟩
  | false =>
    cases rej with
    | some x =>
      obtain ⟨t, result, answers, kept⟩ := command_answers_status h first (eff := fun s => done (g s))
      refine ⟨t, result, by simp, fun _ y same => ?_, by simp⟩
      obtain rfl := Option.some.inj same
      exact ⟨answers, kept⟩
    | none =>
      obtain ⟨t, result, answers, kept⟩ := command_answers h first (eff := fun s => done (g s)) rfl k hi hc
      exact ⟨t, result, by simp, by simp, fun _ _ => ⟨answers, kept⟩⟩

end

/-! ### Islands powered up for a port or a pipe (R30, R561) -/

theorem State.ctx_dropData (s : State) (i : Nat) : (s.dropData i).cam.ctx = s.cam.ctx := by
  have wiped : (s.wipeIsland i).cam.ctx = s.cam.ctx := rfl
  have heads : ∀ (u : State) (g : Nat → Nat), ((List.range 8).foldl (fun (u : State) k => u.dropHead (g k)) u).cam.ctx = u.cam.ctx := fun u g =>
    congrArg Camera.ctx ((KeepsLaws.foldl (fun _ _ => State.dropHead_keeps ..) (KeepsLaws.refl ..)).fields .cam rfl)
  unfold State.dropData
  dsimp only
  split_ifs
  · exact wiped
  · exact wiped
  · exact (heads _ _).trans wiped
  · exact wiped
  · exact wiped
  · exact wiped

/-- The clear of an island empties no camera context: the firmware holds them. -/
theorem State.cctx_powerUp (s : State) (i c : Nat) : (s.powerUp i).cctx c = s.cctx c := by
  refine congrArg (fun x : Tbl CamCtx => Tbl.get x c) ?_
  rw [State.powerUp, State.powerUpFor]
  split_ifs
  · have started := (s.startIsland_keeps i 1).fields .cam rfl
    generalize s.startIsland i 1 = u at started
    have finished : (u.finishIsland i).cam = (u.dropData i).cam :=
      (((u.clearSram i).setIsland_keeps i 2 _).fields .cam rfl).trans (State.bumpWrap_cam ..)
    rw [finished, State.ctx_dropData]
    exact congrArg Camera.ctx started
  · rfl

/-! ### CAM_PORT (R194, R196, R199, R201) -/

section

variable {s : State} {r : Req} {b : Body}

/-- What CAM_PORT does once nothing keeps it back: a disabled port's contexts lose their signal first, an enabled one's island has power. -/
def State.camPortSet (s : State) (b : Body) : State :=
  let en := b.u8 1 == 1
  let s1 := if en then s else (s.camsOn (b.u8 0)).foldl State.loseCam s
  ((if en then s1.powerUp (25 + b.u8 0 / 4) else s1).setCport (b.u8 0) { (s1.cport (b.u8 0)) with enabled := en, cfg := b, clock := en }).showCport
    (b.u8 0)

/-- The reject reason of CAM_PORT. -/
def State.camPortReject (s : State) (b : Body) : Option Nat :=
  if b.u8 1 == 1 && portOver (portBits (s.camBindings.map (·.2)) (b.u8 0)) b then some rBANDWIDTH else none

theorem execCamPort_good (length : b.length = 8) (port : b.u8 0 ≤ 7) (enable : b.u8 1 ≤ 1) (phy : b.u8 2 ≤ 1)
    (width : if b.u8 2 = 0 then b.u8 3 ∈ [1, 2, 4] else 1 ≤ b.u8 3 ∧ b.u8 3 ≤ 3) (slow : 80 ≤ b.u16 4)
    (fast : b.u16 4 ≤ (if b.u8 2 = 0 then 4500 else 6000)) (reserved : b.zero 6 2 = true) :
    ∃ bad, bad = false ∧ execCamPort r b s = command 0x2801 r s [48] bad { rej := s.camPortReject b } fun s => done (s.camPortSet b) := by
  refine ⟨_, ?_, rfl⟩
  have lanes : (if b.u8 2 = 0 then (b.u8 3 == 1 || b.u8 3 == 2 || b.u8 3 == 4) else decide (1 ≤ b.u8 3 ∧ b.u8 3 ≤ 3)) = true := by
    split_ifs at width ⊢
    · simpa [or_assoc] using width
    · simpa using width
  rw [lanes]
  simp [length, port, enable, phy, slow, fast, reserved]

theorem State.camPortSet_keeps (s : State) (b : Body) :
    Keeps 246519052 1065974306048913481878971270901677136270159599374277992804661243017826614185916111232498468982784 s (s.camPortSet b) := by
  have lost : Keeps 246519052 1065974306048913481878971270901677136270159599374277992804661243017826614185916111232498468982784 s
      (if b.u8 1 == 1 then s else (s.camsOn (b.u8 0)).foldl State.loseCam s) :=
    KeepsLaws.ite (KeepsLaws.refl ..) (KeepsLaws.mono (s.loseCams_keeps _) (KeepsLaws.subI rfl rfl))
  unfold State.camPortSet
  refine KeepsLaws.comp ?_ (State.showCport_keeps ..) (KeepsLaws.subI rfl rfl)
  refine KeepsLaws.comp ?_ (State.setCport_keeps ..) (KeepsLaws.subI rfl rfl)
  exact KeepsLaws.ite (KeepsLaws.comp lost (State.powerUp_keeps ..) (KeepsLaws.subI rfl rfl)) lost

theorem State.camPortSet_cport (s : State) (b : Body) :
    ((s.camPortSet b).cport (b.u8 0)).enabled = (b.u8 1 == 1) ∧ ((s.camPortSet b).cport (b.u8 0)).cfg = b := by
  rw [State.camPortSet, (State.showCport_keeps ..).cport rfl, State.cport_setCport_self]
  exact ⟨rfl, rfl⟩

/-- A port that is disabled ends its contexts' frames and shows their loss. -/
theorem State.camPortSet_lost {c : Nat} (disable : b.u8 1 = 0) (hc : c < 16) (bound : (s.cctx c).bound = true)
    (port : cPort (s.cctx c).cfg = b.u8 0) : ((s.camPortSet b).cctx c).los = true ∧ ((s.camPortSet b).cctx c).writing = none := by
  rw [State.camPortSet, (State.showCport_keeps ..).cctx rfl, State.cctx_setCport, disable]
  exact State.loseCams_lost (State.mem_camsOn hc bound port)

end

end Sys2Proof.Machine
end

section
/-! SUPPORT AND CLAIMS. The camera's other commands, and the bindings of cameras and inputs (05_camera_pipes.md R197, R209 to R211, R220;
04_ingest.md R169, R170, R186). -/

namespace Sys2Proof.Machine

/-! ### CAM_PARAMS, CAM_DEFECTS and CAM_STATS_RING (R209 to R211, R220) -/

section

variable {s : State} {r : Req} {b : Body}

theorem State.cctx_armParams (s : State) (c : Nat) (a : ArmedParams) : (s.armParams c a).cctx c = { s.cctx c with armedSet := some a } := by
  unfold State.armParams
  dsimp only
  rw [State.cctx_modCctx_self]
  split
  · rw [(State.camReply_keeps ..).cctx rfl]
  · rfl

/-- A set that replaces none answers nothing. -/
theorem State.armParams_out {c : Nat} (a : ArmedParams) (first : (s.cctx c).armedSet = none) : (s.armParams c a).out = s.out := by
  unfold State.armParams
  simp only [first]
  exact State.out_modCctx ..

/-- CAM_DEFECTS arms its table, answering the one it replaces. -/
def State.armDefects (s : State) (c : Nat) (a : ArmedParams) : State :=
  let s1 := match (s.cctx c).armedDef with | some o => s.camReply 0x2804 o 0 true | none => s
  s1.modCctx c fun y => { y with armedDef := some a }

theorem State.cctx_armDefects (s : State) (c : Nat) (a : ArmedParams) : ((s.armDefects c a).cctx c).armedDef = some a := by
  rw [State.armDefects, State.cctx_modCctx_self]

theorem State.armDefects_out {c : Nat} (a : ArmedParams) (first : (s.cctx c).armedDef = none) : (s.armDefects c a).out = s.out := by
  unfold State.armDefects
  simp only [first]
  exact State.out_modCctx ..

theorem execCamParams_arms (ready : Ready s r 0x2803 [48]) (good : camParamsBad s b = false) :
    ∃ a, a.req = r ∧ a.body = b ∧ execCamParams r b s = .next (s.endInterp.armParams (b.u8 0) a) :=
  ⟨_, rfl, rfl, command_later ready.1 (firstStatus_none (c := {}) ready good) rfl⟩

theorem execCamDefects_arms {table : List Byte} (ready : Ready s r 0x2804 [48]) (length : b.length = 12) (context : b.u8 0 ≤ 15)
    (reserved : b.zero 1 1 = true) (sites : b.u16 2 ≤ 4096) (ordered : defectsOk (s.cctx (b.u8 0)).cfg table (b.u16 2) = true) :
    ∃ a, a.req = r ∧ a.defects = defectSites table (b.u16 2) ∧ execCamDefects r b table s = .next (s.endInterp.armDefects (b.u8 0) a) := by
  have good : (b.length != 12 || decide (15 < b.u8 0) || !b.zero 1 1 || decide (4096 < b.u16 2)
      || !defectsOk (s.cctx (b.u8 0)).cfg table (b.u16 2)) = false := by
    simp [length, context, reserved, sites, ordered]
  exact ⟨{ req := r, restarted := s.isRestarted, body := b, defects := defectSites table (b.u16 2) }, rfl, rfl,
    command_later (eff := fun u => .later (u.armDefects (b.u8 0) _)) ready.1 (firstStatus_none (c := {}) ready good) rfl⟩

/-- The statistics ring is placed, and its indices start afresh. -/
def State.placeCamRing (s : State) (n addr : Nat) (p : Port) : State :=
  (({ s with cam := { s.cam with ring := { log2 := n, addr := addr, port := p } } }).setReg .CAM_STATS_WR 0 0#32).setReg .CAM_STATS_RD 0 0#32

theorem State.placeCamRing_keeps (s : State) (n addr : Nat) (p : Port) : Keeps 4096 906694364710971881029632 s (s.placeCamRing n addr p) := by
  unfold State.placeCamRing
  refine KeepsLaws.stepReg ?_ (KeepsLaws.bitI rfl)
  refine KeepsLaws.stepReg ?_ (KeepsLaws.bitI rfl)
  exact KeepsLaws.mono (KeepsLaws.upd_cam ..) (KeepsLaws.subI rfl rfl)

theorem State.placeCamRing_ring (s : State) (n addr : Nat) (p : Port) :
    (s.placeCamRing n addr p).cam.ring = { log2 := n, addr := addr, port := p } := by
  rw [State.placeCamRing, State.setReg_cam, State.setReg_cam]

theorem State.placeCamRing_indices (s : State) (n addr : Nat) (p : Port) :
    (s.placeCamRing n addr p).getReg .CAM_STATS_WR 0 = 0#32 ∧ (s.placeCamRing n addr p).getReg .CAM_STATS_RD 0 = 0#32 := by
  constructor
  · rw [State.placeCamRing, State.getReg_setReg_ne _ _ (.inl (by decide)), State.getReg_setReg_self _ _ (by decide)]
  · exact State.getReg_setReg_self _ _ (by decide)

theorem execCamStatsRing_places (ready : Ready s r 0x2805 [48]) (length : b.length = 12) (size : b.u8 0 = 0 ∨ 4 ≤ b.u8 0 ∧ b.u8 0 ≤ 10)
    (reserved : b.zero 1 3 = true) (aligned : b.u64 4 % 4096 = 0) :
    ∃ t, execCamStatsRing r b s = .next t ∧ Answers s t r 0x2805 0 0 [] ∧
      Keeps 28 2686976 (s.endInterp.placeCamRing (b.u8 0) (b.u64 4) r.port) t := by
  have good : (b.length != 12 || (b.u8 0 != 0 && (decide (b.u8 0 < 4) || decide (10 < b.u8 0))) || !b.zero 1 3 || b.u64 4 % 4096 != 0) = false := by
    simp [length, reserved, aligned]
    omega
  exact command_answers ready (firstStatus_none (c := {}) ready good) (eff := fun s => done (s.placeCamRing (b.u8 0) (b.u64 4) r.port)) rfl
    (State.placeCamRing_keeps ..)

end

/-! ### Camera bindings (R169, R197, R211) -/

section

variable {s : State} {b : Body}

/-- A binding in force on a context, with the loss of signal that stands there. -/
def CamCtx.bind (x : CamCtx) (b : Body) (now : Nat) : CamCtx :=
  { x with bound := true, cfg := b, next := none, lastFs := if x.bound then x.lastFs else now }

/-- A camera binding that is put in force leaves the other contexts. -/
theorem State.cctx_applyCam (s : State) (c d : Nat) (quiet : Bool) (bind : b.u8 1 = 1) :
    (s.applyCam c b quiet).cctx d = if c = d then (s.cctx d).bind b s.now else s.cctx d := by
  have stored : Keeps 64 0 s (if quiet then s else s.storeTaken 0x2802 b) := KeepsLaws.ite (KeepsLaws.refl ..) (State.storeTaken_keeps ..)
  unfold State.applyCam
  dsimp only
  rw [if_neg (by omega), (State.showCams_keeps ..).cctx rfl, (Keeps.modPool_ite ..).cctx rfl, (State.modPool_keeps ..).cctx rfl]
  generalize (if quiet then s else s.storeTaken 0x2802 b) = t at stored ⊢
  have adopted : Keeps 33652736 0 t (((t.adoptPool (poolCam c)).adoptPool (poolIr c)).adoptPool (poolRaw c)) :=
    KeepsLaws.trans (KeepsLaws.trans (State.adoptPool_keeps ..) (State.adoptPool_keeps ..)) (State.adoptPool_keeps ..)
  generalize ((t.adoptPool (poolCam c)).adoptPool (poolIr c)).adoptPool (poolRaw c) = u at adopted ⊢
  have freed : Keeps 33652736 0 u (if b.u8 6 = 0 then u.freePool (poolIr c) else u) :=
    KeepsLaws.ite (State.freePool_keeps ..) (KeepsLaws.refl ..)
  generalize (if b.u8 6 = 0 then u.freePool (poolIr c) else u) = v at freed ⊢
  have same : ∀ e, v.cctx e = s.cctx e := fun e => by rw [freed.cctx rfl, adopted.cctx rfl, stored.cctx rfl]
  rw [State.cctx_modCctx, same, same]
  by_cases e : c = d
  · rw [if_pos e, if_pos e, e]
    rfl
  · rw [if_neg e, if_neg e]

/-- No other context's binding, in force or waiting, names the port and virtual channel of a good one (R197). -/
theorem camBad_free (good : camBad s b = false) (bind : b.u8 1 = 1) {d : Nat} (hd : d < 16) (other : d ≠ b.u8 0)
    (bound : (s.cctx d).bound = true) : ¬ (cPort (s.cctx d).cfg = cPort b ∧ (s.cctx d).cfg.u8 3 = b.u8 3) := by
  simp only [camBad, bind, beq_self_eq_true, Bool.true_and, Bool.or_eq_false_iff] at good
  obtain ⟨-, -, alone⟩ := good
  have free := List.any_eq_false.mp alone d (List.mem_range.mpr hd)
  simp only [CamCtx.bindings, bound, if_true, List.singleton_append, List.any_cons, Bool.and_eq_true, bne_iff_ne, Bool.or_eq_true,
    beq_iff_eq, not_and, not_or] at free
  exact fun ⟨port, channel⟩ => (free other).1 port channel

/-- A binding whose port and virtual channel no other context holds moves none along (R197). -/
theorem State.camTake_alone {c : Nat} (quiet : Bool) (n : Nat) (bind : b.u8 1 = 1)
    (free : ∀ d, d < 16 → d ≠ c → (s.cctx d).bound = true → ¬ (cPort (s.cctx d).cfg = cPort b ∧ (s.cctx d).cfg.u8 3 = b.u8 3)) :
    s.camTake c b quiet n = s.applyCam c b quiet := by
  cases n with
  | zero => rfl
  | succ n =>
    have none_ : ((List.range 16).find? fun d => d != c && b.u8 1 == 1 && ((s.applyCam c b quiet).cctx d).bound &&
        cPort ((s.applyCam c b quiet).cctx d).cfg == cPort b && ((s.applyCam c b quiet).cctx d).cfg.u8 3 == b.u8 3) = none := by
      rw [List.find?_eq_none]
      intro d hd
      simp only [State.cctx_applyCam s c d quiet bind, Bool.and_eq_true, bne_iff_ne, beq_iff_eq]
      rintro ⟨⟨⟨⟨other, -⟩, bound⟩, port⟩, channel⟩
      rw [if_neg other.symm] at bound port channel
      exact free d (List.mem_range.mp hd) other bound ⟨port, channel⟩
    rw [State.camTake]
    simp only [none_]

/-- A binding of a bound context waits for its next frame start. -/
theorem State.bindCam_waits (bound : (s.cctx (b.u8 0)).bound = true) :
    ((s.bindCam b false).cctx (b.u8 0)).next = some b ∧ ((s.bindCam b false).cctx (b.u8 0)).cfg = (s.cctx (b.u8 0)).cfg := by
  rw [State.bindCam]
  simp only [bound, if_true]
  rw [State.cctx_modCctx_self]
  exact ⟨rfl, rfl⟩

/-- A binding of an unbound context whose port and virtual channel are free is in force at once. -/
theorem State.bindCam_binds (unbound : ¬ (s.cctx (b.u8 0)).bound = true) (bind : b.u8 1 = 1)
    (free : ∀ d, d < 16 → d ≠ b.u8 0 → (s.cctx d).bound = true → ¬ (cPort (s.cctx d).cfg = cPort b ∧ (s.cctx d).cfg.u8 3 = b.u8 3)) :
    ((s.bindCam b false).cctx (b.u8 0)).bound = true ∧ ((s.bindCam b false).cctx (b.u8 0)).cfg = b := by
  have powered := s.cctx_powerUp (25 + cPort b / 4)
  rw [State.bindCam, if_neg unbound, if_neg (by omega)]
  generalize s.powerUp (25 + cPort b / 4) = u at powered ⊢
  simp only [← powered] at free
  rw [State.camTake_alone false 16 bind free, State.cctx_applyCam u _ _ false bind, if_pos rfl]
  exact ⟨rfl, rfl⟩

/-- The effect of CAM_CONTEXT: pools and raw buffers are staged, and the binding is armed. -/
def State.camBound (s : State) (b : Body) : State := ((s.stageCam b).getD s).bindCam b false

theorem State.stagedCam_keeps (s : State) (b : Body) : Keeps 33652736 0 s ((s.stageCam b).getD s) :=
  KeepsLaws.getD (s.stageCam_keeps b) (KeepsLaws.refl ..)

theorem State.camBound_keeps (s : State) (b : Body) :
    Keeps 246519116 1065974306048913481878971270901677136270159599374277992804661243017825685730886647197292292542464 s (s.camBound b) :=
  KeepsLaws.comp (KeepsLaws.mono (s.stagedCam_keeps b) (KeepsLaws.subI rfl rfl)) (State.bindCam_keeps ..) (KeepsLaws.subI rfl rfl)

/-- CAM_CONTEXT changes a bound context at its next frame start, an unbound one at once (R197, R211). -/
theorem State.camBound_context (good : camBad s b = false) :
    if (s.cctx (b.u8 0)).bound = true then
      ((s.camBound b).cctx (b.u8 0)).next = some b ∧ ((s.camBound b).cctx (b.u8 0)).cfg = (s.cctx (b.u8 0)).cfg
    else b.u8 1 = 1 → ((s.camBound b).cctx (b.u8 0)).bound = true ∧ ((s.camBound b).cctx (b.u8 0)).cfg = b := by
  have staged : ∀ d, ((s.stageCam b).getD s).cctx d = s.cctx d := fun d => (s.stagedCam_keeps b).cctx rfl
  rw [State.camBound]
  generalize (s.stageCam b).getD s = u at staged ⊢
  simp only [← staged]
  split_ifs with bound
  · exact State.bindCam_waits bound
  · refine fun bind => State.bindCam_binds bound bind fun d hd other => ?_
    rw [staged]
    exact camBad_free good bind hd other

variable {r : Req}

/-- The reject reason of CAM_CONTEXT: a data type outside R195, or what the configuration gives. -/
def State.camContextReject (s : State) (b : Body) : Option Nat :=
  if (b.u8 1 == 1 && !([0x2A, 0x2B, 0x2C].contains (b.u8 4))) = true then some rFORMAT else (s.conf.withCam b).reject s

end

/-! ### Ingest bindings (R169, R186) -/

section

variable {s : State} {b : Body}

/-- An ingest binding that takes hold is the context's, and an unbind leaves it unbound. -/
theorem State.ictx_applyBinding (s : State) (c : Nat) (b : Body) (quiet : Bool) :
    if b.u8 28 = 0 then ((s.applyBinding c b quiet).ictx c).bound = false
    else ((s.applyBinding c b quiet).ictx c).bound = true ∧ ((s.applyBinding c b quiet).ictx c).cfg = b := by
  have shown : ∀ (u : State) (p : Prop) (_ : Decidable p) n, (if p then u.showSessLos n else u).ictx c = u.ictx c := fun u p _ n =>
    (KeepsLaws.ite (State.showSessLos_keeps u n) (KeepsLaws.refl ..)).ictx c rfl
  unfold State.applyBinding
  dsimp only
  rw [shown]
  by_cases unbind : b.u8 28 = 0
  · rw [if_pos unbind, if_pos unbind, State.ictx_setIctx_self]
    rfl
  · rw [if_neg unbind, if_neg unbind, (State.showLos_keeps ..).ictx _ rfl, State.ictx_modIctx_self]
    exact ⟨rfl, rfl⟩

/-- The effect of ING_CONTEXT: the pool is staged, and the binding is armed. -/
def State.ingBound (s : State) (b : Body) : State := ((s.stageIng b).getD s).bindIng b false

theorem State.stagedIng_keeps (s : State) (b : Body) : Keeps 33652736 0 s ((s.stageIng b).getD s) :=
  KeepsLaws.getD (s.stageIng_keeps b) (KeepsLaws.refl ..)

theorem State.ingBound_keeps (s : State) (b : Body) : Keeps 33653824 590295810358705651712 s (s.ingBound b) :=
  KeepsLaws.comp (KeepsLaws.mono (s.stagedIng_keeps b) (KeepsLaws.subI rfl rfl)) (State.bindIng_keeps ..) (KeepsLaws.subI rfl rfl)

/-- A good body of ING_CONTEXT binds or unbinds. -/
theorem ingBad_enable (good : ingBad s b = false) : b.u8 28 = 0 ∨ b.u8 28 = 1 := by
  simp only [ingBad, Bool.or_eq_false_iff, decide_eq_false_iff_not] at good
  obtain ⟨⟨⟨⟨-, -⟩, enable⟩, -⟩, -⟩ := good
  omega

/-- ING_CONTEXT changes a context with an open frame at the input's next frame boundary, any other at once (R169). -/
theorem State.ingBound_context (s : State) {b : Body} (enable : b.u8 28 = 0 ∨ b.u8 28 = 1) :
    if (s.ictx (b.u16 0)).bound = true ∧ (s.ictx (b.u16 0)).frames ≠ [] then
      ((s.ingBound b).ictx (b.u16 0)).next = some b ∧ ((s.ingBound b).ictx (b.u16 0)).cfg = (s.ictx (b.u16 0)).cfg
    else if b.u8 28 = 1 then ((s.ingBound b).ictx (b.u16 0)).bound = true ∧ ((s.ingBound b).ictx (b.u16 0)).cfg = b
    else ((s.ingBound b).ictx (b.u16 0)).bound = false := by
  have staged := (s.stagedIng_keeps b).ictx (b.u16 0) rfl
  rw [State.ingBound]
  generalize (s.stageIng b).getD s = u at staged ⊢
  rw [← staged]
  by_cases opened : (u.ictx (b.u16 0)).bound = true ∧ (u.ictx (b.u16 0)).frames ≠ []
  · have armed : u.bindIng b false = u.modIctx (b.u16 0) fun x => { x with next := some b, nextQuiet := false } :=
      if_pos (by simpa using opened)
    rw [if_pos opened, armed, State.ictx_modIctx_self]
    exact ⟨rfl, rfl⟩
  · rw [if_neg opened, State.bindIng, if_neg (c := _ = true) (by simpa using opened)]
    by_cases idle : (b.u8 28 = 0 && !(u.ictx (b.u16 0)).bound) = true
    · obtain ⟨unbind, unbound⟩ : b.u8 28 = 0 ∧ (u.ictx (b.u16 0)).bound = false := by simpa using idle
      rw [if_pos idle, if_neg (by omega)]
      exact unbound
    · have applied := u.ictx_applyBinding (b.u16 0) b false
      rw [if_neg idle]
      rcases enable with unbind | bind
      · simpa [unbind] using applied
      · simpa [bind] using applied

end

/-- Settles O46: CAM_PORT and the two bindings are refused or take their effect, the other commands have one effect each. -/
theorem cameraCommandsAndBindingsTakeEffect : Obligations.CameraCommandsAndBindingsTakeEffect := by
  unfold Obligations.CameraCommandsAndBindingsTakeEffect
  refine ⟨fun r b s ready length port enable phy width slow fast reserved => ?_, fun r b s ready good => ?_,
    fun r b table s ready length context reserved sites ordered => ?_, fun r b s ready length size reserved aligned => ?_,
    fun r b s ready good => ?_, fun r b s ready good => ?_⟩
  · obtain ⟨bad, good, eq⟩ := execCamPort_good (r := r) (s := s) length port enable phy width slow fast reserved
    obtain ⟨t, result, -, rejects, accepts⟩ := command_resources ready good (noRes := false) (rej := s.camPortReject b)
      (g := fun s => s.camPortSet b) (s.endInterp.camPortSet_keeps b) rfl rfl
    refine ⟨t, eq.trans result, ?_⟩
    by_cases overloaded : b.u8 1 = 1 ∧ portOver (portBits (s.camBindings.map (fun e => e.2)) (b.u8 0)) b = true
    · obtain ⟨answers, kept⟩ := rejects rfl rBANDWIDTH (if_pos (by simpa using overloaded))
      rw [if_pos overloaded]
      exact ⟨answers, kept.fields .cam rfl⟩
    · obtain ⟨answers, kept⟩ := accepts rfl (if_neg (by simpa using overloaded))
      obtain ⟨enabled, cfg⟩ := s.endInterp.camPortSet_cport b
      rw [if_neg overloaded, kept.cport rfl]
      refine ⟨answers, enabled, cfg, fun disable c hc bound on => ?_⟩
      rw [kept.cctx rfl]
      exact State.camPortSet_lost (s := s.endInterp) disable hc bound on
  · obtain ⟨a, req, body, result⟩ := execCamParams_arms ready good
    refine ⟨_, a, result, ?_, req, body, ?_, fun first => State.armParams_out (s := s.endInterp) a first⟩
    · rw [State.cctx_armParams]
    · rw [State.cctx_armParams]
      rfl
  · obtain ⟨a, req, defects, result⟩ := execCamDefects_arms ready length context reserved sites ordered
    exact ⟨_, a, result, State.cctx_armDefects .., req, defects, fun first => State.armDefects_out (s := s.endInterp) a first⟩
  · obtain ⟨t, result, answers, kept⟩ := execCamStatsRing_places ready length size reserved aligned
    obtain ⟨write, read⟩ := s.endInterp.placeCamRing_indices (b.u8 0) (b.u64 4) r.port
    refine ⟨t, result, answers, ?_⟩
    rw [kept.fields .cam rfl, State.placeCamRing_ring, kept.reg rfl, kept.reg rfl]
    exact ⟨rfl, rfl, rfl, write, read⟩
  · obtain ⟨t, result, full, rejects, accepts⟩ := command_resources ready good (noRes := decide (15 < b.u8 0) || (s.stageCam b).isNone)
      (rej := s.camContextReject b) (g := fun s => s.camBound b) (s.endInterp.camBound_keeps b) rfl rfl
    refine ⟨t, result, ?_⟩
    by_cases room : 15 < b.u8 0 ∨ (s.stageCam b).isNone = true
    · rw [if_pos room]
      exact full (by simpa using room)
    · rw [if_neg room]
      have room' : (decide (15 < b.u8 0) || (s.stageCam b).isNone) = false := by
        simpa only [Bool.or_eq_false_iff, decide_eq_false_iff_not, not_or, Bool.not_eq_true] using room
      split
      · rename_i x rejected
        obtain ⟨answers, kept⟩ := rejects room' x rejected
        exact ⟨answers, kept.fields .cam rfl⟩
      · rename_i passed
        obtain ⟨answers, kept⟩ := accepts room' passed
        rw [kept.cctx rfl]
        exact ⟨answers, State.camBound_context (s := s.endInterp) good⟩
  · obtain ⟨t, result, full, rejects, accepts⟩ := command_resources ready good (noRes := (s.stageIng b).isNone)
      (rej := (s.conf.withIng b).reject s) (g := fun s => s.ingBound b) (s.endInterp.ingBound_keeps b) rfl rfl
    refine ⟨t, result, ?_⟩
    by_cases room : (s.stageIng b).isNone = true
    · rw [if_pos room]
      exact full room
    · rw [if_neg room]
      have room' : (s.stageIng b).isNone = false := by simpa only [Bool.not_eq_true] using room
      split
      · rename_i x rejected
        obtain ⟨answers, kept⟩ := rejects room' x rejected
        exact ⟨answers, kept.fields .ing rfl⟩
      · rename_i passed
        obtain ⟨answers, kept⟩ := accepts room' passed
        have context := s.endInterp.ingBound_context (ingBad_enable good)
        rw [← kept.ictx _ rfl] at context
        exact ⟨answers, context⟩

end Sys2Proof.Machine
end

section
/-! SUPPORT. What the packets of a camera port and a loss of its signal do (05_camera_pipes.md R197 to R201, R209, R223). -/

namespace Sys2Proof.Machine

section

variable {s u : State} {p v c : Nat} {f : RawFrame}

/-! ### Frames that open (R198, R201, R209) -/

/-- A context whose next frame opens at a time, into a raw buffer, with the armed sets in force. -/
def CamCtx.opened (x : CamCtx) (buf start now : Nat) : CamCtx :=
  let params := (x.armedSet.map (·.body)).getD x.params
  let defects := (x.armedDef.map (·.defects)).getD x.defects
  { x with params := params, defects := defects, armedSet := none, armedDef := none, lastFs := now,
           writing := some { cfg := x.cfg, buf := buf, start := start, params := params, defects := defects } }

/-- The armed sets of a context are answered as they come into force, and a parameter set is the profile's (R209). -/
def State.takeArmed (s : State) (x : CamCtx) (start : Nat) : State :=
  let taken := match x.armedSet with
    | some a => (if a.quiet then s else s.storeTaken 0x2803 a.body).camReply 0x2803 a start false
    | none => s
  match x.armedDef with
  | some a => taken.camReply 0x2804 a start false
  | none => taken

theorem State.openCam_eq (s : State) (c : Nat) :
    s.openCam c =
      let u := s.setCamLos c false s.ptp
      let x := u.cctx c
      ((((u.takeArmed x s.ptp).modCctx c fun y =>
        { y with params := (x.armedSet.map (·.body)).getD x.params, defects := (x.armedDef.map (·.defects)).getD x.defects,
                 armedSet := none, armedDef := none, lastFs := s.now, writing := (x.opened x.freeRaw s.ptp s.now).writing }).setReg
          .CAM_CTX_FS_SEC c (BitVec.ofNat 32 (s.ptp / sec))).setReg .CAM_CTX_FS_NS c (BitVec.ofNat 32 (s.ptp % sec))) := rfl

theorem State.takeArmed_keeps (s : State) (x : CamCtx) (start : Nat) : Keeps 92 2686976 s (s.takeArmed x start) := by
  have replied : ∀ (u : State) (op : Nat) (a : ArmedParams), Keeps 92 2686976 u (u.camReply op a start false) := fun u op a =>
    KeepsLaws.mono (State.camReply_keeps ..) (KeepsLaws.subI rfl rfl)
  have stored : ∀ a : ArmedParams, Keeps 92 2686976 s (if a.quiet then s else s.storeTaken 0x2803 a.body) := fun a =>
    KeepsLaws.ite (KeepsLaws.refl ..) (KeepsLaws.mono (State.storeTaken_keeps ..) (KeepsLaws.subI rfl rfl))
  unfold State.takeArmed
  cases x.armedSet <;> cases x.armedDef
  · exact KeepsLaws.refl ..
  · exact replied ..
  · exact KeepsLaws.trans (stored _) (replied ..)
  · exact KeepsLaws.trans (KeepsLaws.trans (stored _) (replied ..)) (replied ..)

/-- A command's parameter set is answered with the time of the frame start. -/
theorem State.takeArmed_answers {x : CamCtx} {a : ArmedParams} {start : Nat} (sent : s.out <:+ u.out) (armed : x.armedSet = some a)
    (loud : a.quiet = false) (events : u.evtEn a.req.port = true) (running : u.interp.restart = none) :
    Answers s (u.takeArmed x start) a.req 0x2803 0 0 (timeBytes start ++ [0#8]) := by
  have stored := u.storeTaken_keeps 0x2803 a.body
  have answered : Answers s ((u.storeTaken 0x2803 a.body).camReply 0x2803 a start false) a.req 0x2803 0 0 (timeBytes start ++ [0#8]) := by
    rw [State.camReply, loud]
    exact answers_replyR (sent.trans stored.out) ((stored.restart rfl).trans running) ((stored.evtEn rfl).trans events)
  unfold State.takeArmed
  simp only [armed, loud]
  cases x.armedDef
  · exact answered
  · exact answered.keeps (State.camReply_keeps ..)

theorem State.cctx_openCam (s : State) (c : Nat) :
    ∃ buf, (s.openCam c).cctx c = ({ s.cctx c with los := false } : CamCtx).opened buf s.ptp s.now := by
  have lit : (s.setCamLos c false s.ptp).cctx c = { s.cctx c with los := false } := by rw [State.cctx_setCamLos, if_pos rfl]
  refine ⟨((s.setCamLos c false s.ptp).cctx c).freeRaw, ?_⟩
  rw [State.openCam_eq]
  dsimp only
  rw [(KeepsLaws.setReg ..).cctx rfl, (KeepsLaws.setReg ..).cctx rfl, State.cctx_modCctx_self, (State.takeArmed_keeps ..).cctx rfl, lit]
  rfl

/-- The registers of a context's last frame start show its time. -/
theorem State.openCam_time (s : State) (hc : c < 16) :
    (s.openCam c).getReg .CAM_CTX_FS_SEC c = BitVec.ofNat 32 (s.ptp / 1000000000) ∧
      (s.openCam c).getReg .CAM_CTX_FS_NS c = BitVec.ofNat 32 (s.ptp % 1000000000) := by
  rw [State.openCam_eq]
  constructor
  · exact (State.getReg_setReg_ne _ _ (.inl (by decide))).trans (State.getReg_setReg_self _ _ hc)
  · exact State.getReg_setReg_self _ _ hc

theorem State.openCam_answers {a : ArmedParams} (sent : s.out <:+ u.out) (armed : (u.cctx c).armedSet = some a) (loud : a.quiet = false)
    (events : u.evtEn a.req.port = true) (running : u.interp.restart = none) :
    Answers s (u.openCam c) a.req 0x2803 0 0 (timeBytes u.ptp ++ [0#8]) := by
  have lost := u.setCamLos_keeps c false u.ptp
  have armed' : ((u.setCamLos c false u.ptp).cctx c).armedSet = some a := by rw [State.cctx_setCamLos, if_pos rfl]; exact armed
  have answered := State.takeArmed_answers (start := u.ptp) (sent.trans lost.out) armed' loud ((lost.evtEn rfl).trans events)
    ((lost.restart rfl).trans running)
  rw [State.openCam_eq]
  exact ((answered.keeps (State.modCctx_keeps ..)).keeps (KeepsLaws.setReg ..)).keeps (KeepsLaws.setReg ..)

/-- A port's packet finds the context that it found before. -/
theorem State.camOf_portAlive (s : State) (k p v : Nat) : (s.portAlive k).camOf p v = s.camOf p v :=
  State.camOf_congr (fun c => by rw [State.cctx_portAlive]; exact ⟨rfl, rfl⟩) p v

theorem State.binding_closeCam (s : State) (c d : Nat) :
    ((s.closeCam c).cctx d).bound = (s.cctx d).bound ∧ ((s.closeCam c).cctx d).cfg = (s.cctx d).cfg := by
  have closed := s.received_closeCam c d
  split_ifs at closed
  · exact CamCtx.received_binding (y := { s.cctx d with writing := none }) closed
  · exact CamCtx.received_binding closed

/-- The open frame of a bound context closes at the next frame start, and another opens (R198, R199). -/
theorem execCsiFrameStart_opens {p : Fin 8} {v : Fin 4} (enabled : (s.cport p).enabled = true) (found : s.camOf p v = some c)
    (settled : (s.cctx c).next = none) : execCsiFrameStart p v s = .next (((s.portAlive p).closeCam c).openCam c) := by
  have alive := s.camOf_portAlive p p v
  have starts : (s.portAlive p).camStarting p v = some c := by
    unfold State.camStarting
    simp only [alive, found]
  have same : ((s.portAlive p).closeCam c).camOf p v = some c := by
    rw [State.camOf_congr fun d => State.binding_closeCam .., alive, found]
  unfold execCsiFrameStart
  rw [if_neg (by simp [enabled])]
  simp only [starts, State.cctx_portAlive, settled, Option.isSome_none, Bool.false_eq_true, if_false, same]

/-- What a frame start leaves before the new frame opens. -/
theorem State.closed_keeps (s : State) (p c : Nat) :
    Keeps 33657100 23404954983466672650958999552 s ((s.portAlive p).closeCam c) :=
  KeepsLaws.trans (KeepsLaws.mono (State.portAlive_keeps ..) (KeepsLaws.subI rfl rfl)) (State.closeCam_keeps ..)

/-! ### Lines (R200) -/

/-- A good line is added to its frame, or counted where the frame has its lines (R199, R200). -/
theorem State.camLine_good {pkt : CsiLong} (port c : Nat) (picture : pkt.dataType ≠ 0x12) (type : pkt.dataType = f.cfg.u8 4)
    (crc : pkt.crcOk = true) (count : pkt.count = cW f.cfg * cBits (f.cfg.u8 4) / 8) :
    s.camLine port c f pkt = s.modCctx c fun y => { y with writing := some { f with
      count := f.count + 1,
      lines := if f.count < cH f.cfg then f.lines ++ [fitLine (cW f.cfg) (cBits (f.cfg.u8 4)) pkt.samples] else f.lines } } := by
  rw [State.camLine, if_neg picture, if_neg (not_not.mpr type)]
  simp [crc, count]

/-- A good CSI_LONG_PACKET adds its line to the open frame of the context that it names. -/
theorem execCsiLongPacket_good {p : Fin 8} {v : Fin 4} {pkt : CsiLong} (enabled : (s.cport p).enabled = true) (header : pkt.hdrOk = true)
    (found : s.camOf p v = some c) (writing : (s.cctx c).writing = some f) (picture : pkt.dataType ≠ 0x12)
    (type : pkt.dataType = f.cfg.u8 4) (crc : pkt.crcOk = true) (count : pkt.count = cW f.cfg * cBits (f.cfg.u8 4) / 8) :
    execCsiLongPacket p v pkt s = .next ((s.portAlive p).modCctx c fun y => { y with writing := some { f with
      count := f.count + 1,
      lines := if f.count < cH f.cfg then f.lines ++ [fitLine (cW f.cfg) (cBits (f.cfg.u8 4)) pkt.samples] else f.lines } }) := by
  rw [← State.camLine_good p c picture type crc count]
  unfold execCsiLongPacket
  rw [if_neg (by simp [enabled])]
  simp only [header, State.camOf_portAlive, found, State.cctx_portAlive, writing, Bool.not_true, Bool.false_eq_true, if_false]

/-! ### Frames that end (R199, R204, R205) -/

/-- CSI_FRAME_END of a bound context closes its open frame. -/
theorem execCsiFrameEnd_closes {p : Fin 8} {v : Fin 4} (enabled : (s.cport p).enabled = true) (found : s.camOf p v = some c) :
    execCsiFrameEnd p v s = .next ((s.portAlive p).closeCam c) := by
  have same := (s.camOf_portAlive p p v).trans found
  unfold execCsiFrameEnd
  rw [if_neg (by simp [enabled])]
  simp only [same]

theorem State.closeCam_writing (s : State) (c : Nat) : ((s.closeCam c).cctx c).writing = none := by
  have closed := s.received_closeCam c c
  rw [if_pos rfl] at closed
  exact congrArg (·.writing) closed

/-- A complete frame waits in its context, and its pipe selects again where it has not selected in this very cycle (R204, R205). -/
theorem State.closeCam_waits (writing : (s.cctx c).writing = some f) (whole : ¬ f.count < cH f.cfg)
    (earlier : (s.pipe (cPort f.cfg / 4)).started ≠ s.now) :
    ∃ (u : State) (g : RawFrame), s.closeCam c = u.pipeSelect (cPort f.cfg / 4) ∧ g.start = f.start ∧ g.lines = f.lines ∧ g.closed = s.now ∧
      (∀ d, u.cctx d = if c = d then { s.cctx d with writing := none, waiting := some g } else s.cctx d) ∧
      ∀ q, u.pipe q = s.pipe q := by
  obtain ⟨w, flags, counted, eq⟩ := State.closeCam_whole writing whole
  have pipes : ∀ x q, (w.setCctx c x).pipe q = s.pipe q := fun x q => by rw [State.pipe_setCctx, counted.pipe rfl]
  have now : ∀ x, (w.setCctx c x).now = s.now := fun x => by rw [(State.setCctx_keeps ..).now rfl, counted.now rfl]
  rw [State.pipeAgain_earlier _ _ (.inr (by rw [pipes, now]; exact earlier))] at eq
  refine ⟨_, { f with closed := s.now, flags := flags }, eq, rfl, rfl, rfl, fun d => ?_, pipes _⟩
  rw [State.cctx_setCctx]
  split_ifs with e
  · rw [e]
  · rw [counted.cctx rfl]

/-- A complete frame waits while its pipe is busy. -/
theorem State.closeCam_queued (writing : (s.cctx c).writing = some f) (whole : ¬ f.count < cH f.cfg)
    (earlier : (s.pipe (cPort f.cfg / 4)).started ≠ s.now) (busy : (s.pipe (cPort f.cfg / 4)).busy.isSome = true) :
    ∃ g, ((s.closeCam c).cctx c).waiting = some g ∧ g.start = f.start ∧ g.lines = f.lines ∧ g.closed = s.now := by
  obtain ⟨u, g, eq, start, lines, closed, contexts, pipes⟩ := State.closeCam_waits writing whole earlier
  refine ⟨g, ?_, start, lines, closed⟩
  rw [eq, State.pipeSelect_busy (by rw [pipes]; exact busy), contexts, if_pos rfl]

/-- A complete frame goes to its idle pipe where no other frame waits. -/
theorem State.closeCam_processed (writing : (s.cctx c).writing = some f) (whole : ¬ f.count < cH f.cfg)
    (earlier : (s.pipe (cPort f.cfg / 4)).started ≠ s.now) (idle : (s.pipe (cPort f.cfg / 4)).busy = none)
    (serves : c ∈ s.pipeCtxs (cPort f.cfg / 4)) (alone : ∀ d, d ≠ c → (s.cctx d).waiting = none) :
    ((s.closeCam c).pipe (cPort f.cfg / 4)).busy = some c ∧
      ∃ g, ((s.closeCam c).cctx c).processing = some g ∧ g.start = f.start ∧ g.lines = f.lines := by
  obtain ⟨u, g, eq, start, lines, -, contexts, pipes⟩ := State.closeCam_waits writing whole earlier
  have others : ∀ d, d ≠ c → (u.cctx d).waiting = none := fun d other => by
    rw [contexts, if_neg other.symm]
    exact alone d other
  have waiting : (u.cctx c).waiting = some g := by rw [contexts, if_pos rfl]
  have bindings : u.pipeCtxs (cPort f.cfg / 4) = s.pipeCtxs (cPort f.cfg / 4) := State.pipeCtxs_congr (fun d => by
    rw [contexts]
    split_ifs <;> exact ⟨rfl, rfl⟩) _
  have first := State.earliest_only waiting others (u.pipeCtxs (cPort f.cfg / 4))
  rw [if_pos (bindings ▸ serves)] at first
  obtain ⟨w, x, n, -, takes, selected⟩ := State.pipeSelect_takes (by rw [pipes]; exact idle) first
  rw [eq, selected]
  refine ⟨?_, g, ?_, start, lines⟩
  · rw [(KeepsLaws.setReg ..).pipe rfl, State.pipe_setPipe_self]
    exact takes
  · rw [(KeepsLaws.setReg ..).cctx rfl, State.cctx_setPipe, State.cctx_modCctx_self]

/-! ### Losses of signal (R201, R223) -/

theorem State.loseCam_lost (s : State) (c : Nat) : ((s.loseCam c).cctx c).los = true ∧ ((s.loseCam c).cctx c).writing = none :=
  State.loseCams_lost (s := s) (List.mem_singleton_self c)

/-- CAM_LOS_TIMEOUT of a port whose clock is gone shows the loss on every context of the port. -/
theorem execCamLosTimeout_clock {c : Fin 16} (bound : (s.cctx c).bound = true) (enabled : (s.cport (cPort (s.cctx c).cfg)).enabled = true) :
    ∃ t, execCamLosTimeout c true s = .next t ∧ (t.cport (cPort (s.cctx c).cfg)).clock = false ∧
      ∀ d, d < 16 → (s.cctx d).bound = true → cPort (s.cctx d).cfg = cPort (s.cctx c).cfg →
        (t.cctx d).los = true ∧ (t.cctx d).writing = none := by
  refine ⟨_, by rw [execCamLosTimeout, if_neg (by simp [bound]), if_pos (by simp [enabled])], ?_, fun d hd boundD port => ?_⟩
  · rw [State.cport, State.ports_loseCams, ← State.cport, State.cport_setCport_self]
  · exact State.loseCams_lost (State.mem_camsOn hd boundD port)

/-- CAM_LOS_TIMEOUT shows the loss of its own context where the time has passed, or the port gives no frames (R201, R223). -/
theorem execCamLosTimeout_alone {c : Fin 16} {clockGone : Bool} (bound : (s.cctx c).bound = true)
    (here : ¬ (clockGone && (s.cport (cPort (s.cctx c).cfg)).enabled) = true) :
    ∃ t, execCamLosTimeout c clockGone s = .next t ∧
      ((s.cctx c).lastFs + (s.cctx c).cfg.u16 24 * 1000000 ≤ s.now ∨ (s.cport (cPort (s.cctx c).cfg)).enabled = false ∨
        (s.cport (cPort (s.cctx c).cfg)).clock = false → (t.cctx c).los = true ∧ (t.cctx c).writing = none) := by
  simp only [← Bool.not_eq_true']
  by_cases due : (s.cctx c).lastFs + (s.cctx c).cfg.u16 24 * 1000000 ≤ s.now ∨ (!(s.cport (cPort (s.cctx c).cfg)).enabled) = true ∨
      (!(s.cport (cPort (s.cctx c).cfg)).clock) = true
  · exact ⟨_, by rw [execCamLosTimeout, if_neg (by simp [bound]), if_neg here]; exact if_pos due, fun _ => s.loseCam_lost c⟩
  · exact ⟨s, by rw [execCamLosTimeout, if_neg (by simp [bound]), if_neg here]; exact if_neg due, fun cause => absurd cause due⟩

end

end Sys2Proof.Machine
end

section
/-! SUPPORT. Fault records that a raised fault leaves in the log (14_protection_faults.md R504, R506). -/

namespace Sys2Proof.Machine

/-! ### Records of the fault log (R504) -/

/-- The fault log holds a record of an island, class, severity, sequence number and time. -/
def State.Recorded (t : State) (island cls sev seq time : Nat) : Prop :=
  ∃ x ∈ t.flt.log, x.island = island ∧ x.cls = cls ∧ x.sev = sev ∧ x.seq = seq ∧ x.time = time

section

variable {F R : Nat} {s t u : State} {island cls sev seq time : Nat}

theorem State.Recorded.of_log (h : t.Recorded island cls sev seq time) (same : u.flt.log = t.flt.log) : u.Recorded island cls sev seq time := by
  unfold State.Recorded
  rw [same]
  exact h

theorem State.Recorded.keeps (h : t.Recorded island cls sev seq time) (k : Keeps F R t u)
    (hf : F.testBit Field.flt.ctorIdx = false) : u.Recorded island cls sev seq time :=
  h.of_log (congrArg Flt.log (k.fields .flt hf))

@[simp] theorem State.event_flt (s : State) (code : Nat) (fields : List Byte) : (s.event code fields).flt = s.flt :=
  (State.event_keeps ..).fields .flt rfl

@[simp] theorem State.eventPerSec_flt (s : State) (code inst n : Nat) (mk : Nat → List Byte) : (s.eventPerSec code inst n mk).flt = s.flt :=
  (State.eventPerSec_keeps ..).fields .flt rfl

@[simp] theorem State.setRegs_flt (s : State) (r : Reg) (l : List Nat) (v : Nat → Word) :
    (l.foldl (fun s k => s.setReg r k (v k)) s).flt = s.flt := by
  induction l generalizing s with
  | nil => rfl
  | cons k l ih => rw [List.foldl_cons, ih, State.setReg_flt]

/-- A record enters the log at its head, with the number and time of its arrival. -/
theorem State.logRecord_recorded (s : State) (island cls sev inst : Nat) (detail : List Byte) :
    (s.logRecord island cls sev inst detail).1.Recorded island cls sev (s.regBits .FLT_COUNT 0 15 0) s.ptp := by
  have drawn := s.detailOf_keeps detail
  rw [← drawn.regBits rfl, ← drawn.ptp rfl rfl]
  unfold State.logRecord
  generalize s.detailOf detail = d at drawn ⊢
  obtain ⟨bytes, u⟩ := d
  dsimp only at drawn ⊢
  generalize hr : FaultRec.mk u.ptp island cls sev 0 inst (u.regBits .FLT_COUNT 0 15 0) bytes = r
  refine ⟨r, ?_, by subst hr; exact ⟨rfl, rfl, rfl, rfl, rfl⟩⟩
  split_ifs <;> simp

/-- ACTION of a record changes nothing else of it (R506). -/
theorem State.Recorded.setAction (h : t.Recorded island cls sev seq time) (n action : Nat) :
    (t.setAction n action).Recorded island cls sev seq time := by
  have first := h.keeps (t.firstAction_keeps n action) rfl
  unfold State.setAction
  dsimp only
  split
  · exact first
  · refine State.Recorded.keeps ?_ (State.eventAt_keeps ..) rfl
    obtain ⟨x, hx, fields⟩ := first
    refine ⟨_, List.mem_map_of_mem hx, ?_⟩
    split_ifs <;> exact fields

theorem State.fault_recorded (s : State) (island cls sev inst : Nat) (detail : List Byte) :
    (s.fault island cls sev inst detail).Recorded island cls sev (s.regBits .FLT_COUNT 0 15 0) s.ptp := by
  have recorded := s.logRecord_recorded island cls sev inst detail
  unfold State.fault
  generalize s.logRecord island cls sev inst detail = d at recorded ⊢
  obtain ⟨u, r⟩ := d
  dsimp only at recorded ⊢
  split_ifs
  · exact recorded
  · split
    · exact recorded.of_log rfl
    · exact recorded.setAction ..
  · exact (recorded.setAction ..).keeps (State.ineligible_keeps ..) rfl

/-- A fault that is raised past what leaves the fault log's number and the clock is logged. -/
theorem State.fault_logs (k : Keeps F R s u) (island cls sev inst : Nat) (detail : List Byte)
    (hr : R.testBit Reg.FLT_COUNT.ctorIdx = false) (hn : F.testBit Field.now.ctorIdx = false)
    (ht : F.testBit Field.tm.ctorIdx = false) : Logs s (u.fault island cls sev inst detail) island cls sev := by
  have recorded := u.fault_recorded island cls sev inst detail
  rw [k.regBits hr, k.ptp hn ht] at recorded
  exact recorded

end

end Sys2Proof.Machine
end

section
/-! SUPPORT. Frames that are withheld, and frames that leave with their pictures (03_liveness.md R125; 04_ingest.md R187; 05_camera_pipes.md
R216, R221). -/

namespace Sys2Proof.Machine

section

variable {s : State} {q c a i : Nat} {f : RawFrame}

/-! ### A withheld frame (R125, R221) -/

/-- The pools of a context that its pipe writes have a faulty writer. -/
def State.markWriter (s : State) (d : Nat) : State :=
  (s.modPool (poolCam d) fun y => { y with writerFault := true }).modPool (poolIr d) fun y => { y with writerFault := true }

theorem State.writerFault_markWriter (s : State) (d : Nat) {e : Nat} (he : e < 16) :
    ((s.markWriter d).pool (poolCam e)).writerFault = (decide (d = e) || (s.pool (poolCam e)).writerFault) := by
  rw [State.markWriter, State.pool_modPool_ne _ _ (poolCam_ne_poolIr he d)]
  by_cases same : d = e
  · subst same
    simp
  · rw [State.pool_modPool_ne _ _ fun h => same (poolCam_inj h)]
    simp [same]

theorem State.writerFault_markWriters (s : State) (l : List Nat) {e : Nat} (he : e < 16) :
    ((l.foldl State.markWriter s).pool (poolCam e)).writerFault = (decide (e ∈ l) || (s.pool (poolCam e)).writerFault) := by
  induction l generalizing s with
  | nil => simp
  | cons d l ih =>
    rw [List.foldl_cons, ih, State.writerFault_markWriter _ _ he]
    by_cases same : e = d
    · simp [same]
    · simp [same, Ne.symm same]

/-- A withheld frame marks the writer of every context of its pipe (R125). -/
theorem State.pipeWithhold_writers (s : State) (q c : Nat) {d : Nat} (serves : d ∈ s.pipeCtxs q) :
    ((s.pipeWithhold q c).pool (poolCam d)).writerFault = true := by
  have dropped : s.PipeWork ((s.pipeDrop q).modCctx c fun x => { x with processing := none }) :=
    (s.pipeDrop_work q).trans (.modCctx _ _ fun _ => rfl)
  have told := dropped.trans (.of_keeps (State.camRetry_keeps _ q c 2) rfl)
  unfold State.pipeWithhold
  dsimp only
  rw [State.pipeCtxs_congr (fun e => CamCtx.received_binding (told.received e))]
  refine (State.writerFault_markWriters _ _ (State.mem_pipeCtxs.mp serves).1).trans ?_
  simp [serves]

/-! ### Pictures of a frame (R216) -/

/-- A finished plane goes into the surface at address a of pool k. -/
def State.putSurface (s : State) (k source a : Nat) (out : FrameOut) : State :=
  ((s.modPool k fun y => y.releaseAt a source 0x20 out s.ptp s.now).collect k).headerDone k

theorem State.putSurface_keeps (s : State) (k source a : Nat) (out : FrameOut) :
    Keeps 34177036 5449834782718155078905608947149413355520 s (s.putSurface k source a out) := by
  unfold State.putSurface
  refine KeepsLaws.comp ?_ (State.headerDone_keeps ..) (KeepsLaws.subI rfl rfl)
  refine KeepsLaws.comp ?_ (State.collect_keeps ..) (KeepsLaws.subI rfl rfl)
  exact KeepsLaws.mono (State.modPool_keeps ..) (KeepsLaws.subI rfl rfl)

theorem State.putSurface_pool {k source : Nat} {out : FrameOut} (found : (s.pool k).surfs.findIdx? (fun g => g.addr == a) = some i) :
    ∃ old, (s.putSurface k source a out).pool k = { (s.pool k).release i out s.ptp s.now with old := old } := by
  obtain ⟨old, collected⟩ := (s.modPool k fun y => y.releaseAt a source 0x20 out s.ptp s.now).collect_pool k
  refine ⟨old, ?_⟩
  rw [State.putSurface, (State.headerDone_keeps ..).pool _ rfl, collected, State.pool_modPool_self, Pool.releaseAt, found]

theorem State.putSurface_pool_ne {k source n : Nat} {out : FrameOut} (other : k ≠ n) : (s.putSurface k source a out).pool n = s.pool n := by
  rw [State.putSurface, (State.headerDone_keeps ..).pool _ rfl, State.collect, State.pool_setPool_ne _ _ other,
    (State.releaseAll_keeps ..).pool _ rfl, State.pool_modPool_ne _ _ other]

/-- The colour picture of a frame that pipe q processed. -/
def RawFrame.picture (f : RawFrame) (q : Nat) : FrameOut :=
  { lines := pipeColour f.cfg f, width := f.cfg.u16 16, height := f.cfg.u16 18, time := f.start, basis := 2, flags := f.flags, master := 12 + q }

/-- A frame's colour picture goes into its surface, and its IR plane where one was taken for it. -/
def State.putPictures (s : State) (c q : Nat) (f : RawFrame) (a : Nat) : State :=
  let coloured := s.putSurface (poolCam c) (cSource f.cfg) a (f.picture q)
  match (s.pipe q).infra with
  | some d => coloured.putSurface (poolIr c) (f.cfg.u16 10) d
      { f.picture q with lines := pipeIr f.cfg f, width := cW f.cfg / 2, height := cH f.cfg / 2 }
  | none => coloured

theorem State.putPictures_keeps (s : State) (c q : Nat) (f : RawFrame) (a : Nat) :
    Keeps 34177036 5449834782718155078905608947149413355520 s (s.putPictures c q f a) := by
  unfold State.putPictures
  dsimp only
  split
  · exact KeepsLaws.trans (State.putSurface_keeps ..) (State.putSurface_keeps ..)
  · exact State.putSurface_keeps ..

theorem State.putPictures_pool (hc : c < 16) (found : (s.pool (poolCam c)).surfs.findIdx? (fun g => g.addr == a) = some i) :
    ∃ old, (s.putPictures c q f a).pool (poolCam c) = { (s.pool (poolCam c)).release i (f.picture q) s.ptp s.now with old := old } := by
  unfold State.putPictures
  dsimp only
  split
  · rw [State.putSurface_pool_ne (poolCam_ne_poolIr hc c)]
    exact State.putSurface_pool found
  · exact State.putSurface_pool found

/-- A frame that leaves is counted past its pictures, and its record is written (R216, R219). -/
theorem State.camRelease_eq (colour : (s.pipe q).colour = some a) :
    ∃ u g r, Keeps 0 0 (s.putPictures c q f a) u ∧ s.camRelease c q f = ((u.bumpWrap .CAM_CTX_FRAMES c).modCctx c g).camStats r := by
  unfold State.camRelease
  simp only [colour]
  exact ⟨_, _, _, KeepsLaws.drawn _, rfl⟩

theorem State.camRelease_frames (hc : c < 16) (colour : (s.pipe q).colour = some a) :
    (s.camRelease c q f).getReg .CAM_CTX_FRAMES c = s.getReg .CAM_CTX_FRAMES c + 1 := by
  obtain ⟨u, g, r, kept, eq⟩ := State.camRelease_eq (c := c) (f := f) colour
  rw [eq, (State.camStats_keeps ..).reg rfl, (State.modCctx_keeps ..).reg rfl, State.getReg_bumpWrap_self _ hc, kept.reg rfl,
    (State.putPictures_keeps ..).reg rfl]

theorem State.camRelease_pool (hc : c < 16) (colour : (s.pipe q).colour = some a)
    (found : (s.pool (poolCam c)).surfs.findIdx? (fun g => g.addr == a) = some i) :
    ∃ old, (s.camRelease c q f).pool (poolCam c) = { (s.pool (poolCam c)).release i (f.picture q) s.ptp s.now with old := old } := by
  obtain ⟨u, g, r, kept, eq⟩ := State.camRelease_eq (c := c) (f := f) colour
  rw [eq, (State.camStats_keeps ..).pool _ rfl, (State.modCctx_keeps ..).pool _ rfl, (State.bumpWrap_keeps ..).pool _ rfl, kept.pool _ rfl]
  exact State.putPictures_pool hc found

end

/-! ### A released surface (R187) -/

section

variable {p w : Pool} {i now dev : Nat} {out : FrameOut} {old : List Surface}

theorem Pool.release_lines (hi : i < p.surfs.length) : ((p.release i out now dev).surf i).lines = out.lines := by
  simp [Pool.surf, Pool.release, Pool.modSurf, hi, Surface.seal]

/-- The surface released last stays the newest, as it is, whatever is taken from its pool next. -/
theorem Pool.TakenFrom.newest (hi : i < p.surfs.length) (taken : Pool.TakenFrom { p.release i out now dev with old := old } w) :
    w.newestIdx = some i ∧ w.surf i = (p.release i out now dev).surf i := by
  obtain rfl | ⟨j, taken⟩ := taken
  · exact ⟨p.release_newest out now dev, rfl⟩
  · obtain ⟨hd, header, -, -⟩ := p.release_header out now dev hi
    refine Pool.take_newest (p := { p.release i out now dev with old := old }) taken rfl ?_ ?_
    · simp
    · exact ne_of_eq_of_ne header (by simp)

theorem Pool.TakenFrom.nextSeq (taken : Pool.TakenFrom p w) : w.nextSeq = p.nextSeq := by
  obtain rfl | ⟨j, taken⟩ := taken
  · rfl
  · exact (Pool.take_source taken).2

theorem Pool.TakenFrom.writerFault (taken : Pool.TakenFrom p w) : w.writerFault = p.writerFault := by
  obtain rfl | ⟨j, taken⟩ := taken
  · rfl
  · exact Pool.take_writerFault taken

end

end Sys2Proof.Machine
end

section
/-! SUPPORT AND CLAIM. PIPE_FRAME_DONE, and the claim about camera frames (03_liveness.md R125; 05_camera_pipes.md R205, R206, R216, R221). -/

namespace Sys2Proof.Machine

section

variable {s : State} {q : Fin 2} {c : Nat} {f : RawFrame}

/-- A first residue mismatch starts the frame again and is logged as masked. -/
theorem execPipeFrameDone_retries (busy : (s.pipe q).busy = some c) (processing : (s.cctx c).processing = some f)
    (due : (s.pipe q).started + pipeNs f.cfg ≤ s.now) (first : (s.pipe q).retried = false) :
    ∃ t, execPipeFrameDone q true s = .next t ∧ t.pipe q = { s.pipe q with retried := true, started := s.now } ∧
      Logs s t (25 + q) fcRETRY 0 ∧ t.getReg .CAM_PIPE_RETRY q = (s.bumpSat .CAM_PIPE_RETRY q).getReg .CAM_PIPE_RETRY q := by
  have counted : Keeps 4096 99035203142830421991929937920 s
      ((s.setPipe q { s.pipe q with retried := true, started := s.now }).bumpSat .CAM_PIPE_RETRY q) := by
    with_reducible refine KeepsLaws.stepBumpSat ?_ (KeepsLaws.bitI rfl)
    exact KeepsLaws.mono (State.setPipe_keeps ..) (KeepsLaws.subI rfl rfl)
  refine ⟨_, ?_, ?_, State.fault_logs counted (25 + q) fcRETRY 0 q [] rfl rfl rfl, ?_⟩
  · unfold execPipeFrameDone
    simp only [busy, processing, if_neg (Nat.not_lt.mpr due), first, Bool.not_false, Bool.and_self, if_true]
  · rw [(State.fault_keeps ..).pipe rfl, (State.bumpSat_keeps ..).pipe rfl, State.pipe_setPipe_self]
  · rw [(State.fault_keeps ..).reg rfl, State.getReg_bumpSat_congr ((State.setPipe_keeps ..).reg rfl)]

/-- A second residue mismatch withholds the frame, which faults its writers, and is logged as unmasked. -/
theorem execPipeFrameDone_withholds (busy : (s.pipe q).busy = some c) (processing : (s.cctx c).processing = some f)
    (due : (s.pipe q).started + pipeNs f.cfg ≤ s.now) (again : (s.pipe q).retried = true) :
    ∃ t, execPipeFrameDone q true s = .next t ∧ t.getReg .CAM_PIPE_FRAMES q = s.getReg .CAM_PIPE_FRAMES q + 1 ∧
      Logs s t (25 + q) fcRETRY 1 ∧ (∀ d ∈ s.pipeCtxs q, (t.pool (poolCam d)).writerFault = true) ∧
      t.getReg .CAM_CTX_FRAMES c = s.getReg .CAM_CTX_FRAMES c := by
  have withheld := (s.bumpWrap .CAM_PIPE_FRAMES q).pipeWithhold_keeps q c
  have counted : Keeps 33656844 59459958627653373157395992576 s ((s.bumpWrap .CAM_PIPE_FRAMES q).pipeWithhold q c) :=
    KeepsLaws.comp (KeepsLaws.mono (State.bumpWrap_keeps ..) (KeepsLaws.subI rfl rfl)) withheld (KeepsLaws.subI rfl rfl)
  have contexts : (s.bumpWrap .CAM_PIPE_FRAMES q).pipeCtxs q = s.pipeCtxs q := State.pipeCtxs_congr (fun d => by
    rw [(State.bumpWrap_keeps ..).cctx rfl]
    exact ⟨rfl, rfl⟩) _
  refine ⟨_, ?_, ?_, State.Recorded.keeps (State.fault_logs counted (25 + q) fcRETRY 1 q [] rfl rfl rfl) (State.pipeSelect_keeps _ q) rfl,
    fun d serves => ?_, ?_⟩
  · unfold execPipeFrameDone
    simp only [busy, processing, if_neg (Nat.not_lt.mpr due), again, Bool.not_true, Bool.and_false, Bool.false_eq_true, if_false, if_true]
  · rw [(State.pipeSelect_keeps ..).reg rfl, (State.fault_keeps ..).reg rfl, withheld.reg rfl, State.getReg_bumpWrap_self _ q.isLt]
  · rw [(State.pipeSelect_taken _ _ (State.mem_pipeCtxs.mp serves).1).writerFault, (State.fault_keeps ..).pool _ rfl]
    exact State.pipeWithhold_writers _ _ _ (contexts ▸ serves)
  · rw [(State.pipeSelect_keeps ..).reg rfl, (State.fault_keeps ..).reg rfl, counted.reg rfl]

/-- A frame that has passed is counted and leaves, and its pipe selects the next. -/
theorem execPipeFrameDone_leaves (busy : (s.pipe q).busy = some c) (processing : (s.cctx c).processing = some f)
    (due : (s.pipe q).started + pipeNs f.cfg ≤ s.now) :
    ∃ u g, Keeps 12 39614081257132168796772569088 s u ∧ u.getReg .CAM_PIPE_FRAMES q = s.getReg .CAM_PIPE_FRAMES q + 1 ∧
      execPipeFrameDone q false s = .next ((((u.camRelease c q f).modCctx c g).setPipe q default).pipeSelect q) := by
  have counted : Keeps 12 39614081257132168796772569088 s (s.bumpWrap .CAM_PIPE_FRAMES q) :=
    KeepsLaws.mono (State.bumpWrap_keeps ..) (KeepsLaws.subI rfl rfl)
  have one := s.getReg_bumpWrap_self (r := .CAM_PIPE_FRAMES) q.isLt
  unfold execPipeFrameDone
  simp only [busy, processing, if_neg (Nat.not_lt.mpr due), Bool.false_and, Bool.false_eq_true, if_false]
  refine ⟨_, _, ?_, ?_, rfl⟩
  · split_ifs
    · exact KeepsLaws.comp counted (State.camRetry_keeps ..) (KeepsLaws.subI rfl rfl)
    · exact counted
  · split_ifs
    · exact ((State.camRetry_keeps ..).reg rfl).trans one
    · exact one

/-- The frame that leaves is its pool's newest, in the surface taken for it, with its time and the next number (R102, R216). -/
theorem State.camRelease_surface {u : State} {a i : Nat} {g : CamCtx → CamCtx} (hc : c < 16) (colour : (u.pipe q).colour = some a)
    (found : (u.pool (poolCam c)).surfs.findIdx? (fun g => g.addr == a) = some i) :
    ∃ w, ((((u.camRelease c q f).modCctx c g).setPipe q default).pipeSelect q).pool (poolCam c) = w ∧
      w.newestIdx = some i ∧ w.nextSeq = ((u.pool (poolCam c)).nextSeq + 1) % 2 ^ 32 ∧
      (w.surf i).lines = pipeColour f.cfg f ∧ ∃ hd, (w.surf i).header = some hd ∧ hd.tag.time = f.start % (2 ^ 30 * 1000000000) ∧
        hd.tag.basis = 2 ∧ hd.tag.sourceId = (u.pool (poolCam c)).sourceId ∧ hd.tag.seq = (u.pool (poolCam c)).nextSeq ∧
        hd.tag.flags = f.flags ∧ hd.done = u.ptp := by
  have hi : i < (u.pool (poolCam c)).surfs.length := (List.findIdx?_eq_some_iff_getElem.mp found).1
  obtain ⟨old, released⟩ := State.camRelease_pool (f := f) hc colour found
  have taken := State.pipeSelect_taken (((u.camRelease c q f).modCctx c g).setPipe q default) q hc
  rw [(State.setPipe_keeps ..).pool _ rfl, (State.modCctx_keeps ..).pool _ rfl, released] at taken
  obtain ⟨newest, surface⟩ := Pool.TakenFrom.newest hi taken
  obtain ⟨hd, header, tag, stamp⟩ := Pool.release_header (f.picture q) u.ptp u.now hi
  refine ⟨_, rfl, newest, taken.nextSeq, ?_, hd, ?_, ?_⟩
  · rw [surface]
    exact Pool.release_lines hi
  · rw [surface]
    exact header
  · rw [tag]
    exact ⟨rfl, rfl, rfl, rfl, rfl, stamp⟩

end

/-- Settles O45: a packet of a port does to the one context that it names what its line, frame start or frame end does; a pipe that is
done retries, withholds or lets go its frame. -/
theorem cameraFramesAreReceivedAndProcessed : Obligations.CameraFramesAreReceivedAndProcessed := by
  unfold Obligations.CameraFramesAreReceivedAndProcessed
  refine ⟨fun p v c s enabled found settled => ?_, fun p v k c f s enabled header found writing type picture crc count => ?_,
    fun p v c f s enabled found writing binding earlier => ?_, fun c clockGone s bound => ?_,
    fun q bad c f s busy processing due => ?_⟩
  · have kept := s.closed_keeps p c
    have closed := (s.portAlive p).received_closeCam c c
    rw [if_pos rfl, State.cctx_portAlive] at closed
    have result := execCsiFrameStart_opens enabled found settled
    generalize (s.portAlive p).closeCam c = u at kept closed result
    obtain ⟨buf, opened⟩ := u.cctx_openCam c
    obtain ⟨seconds, nanoseconds⟩ := u.openCam_time (State.camOf_some found).1
    have armedSet : (u.cctx c).armedSet = (s.cctx c).armedSet := congrArg (·.armedSet) closed
    have armedDef : (u.cctx c).armedDef = (s.cctx c).armedDef := congrArg (·.armedDef) closed
    have params : (u.cctx c).params = (s.cctx c).params := congrArg (·.params) closed
    have defects : (u.cctx c).defects = (s.cctx c).defects := congrArg (·.defects) closed
    rw [← armedSet, ← armedDef, ← params, ← defects, ← kept.ptp rfl rfl, ← kept.now rfl]
    refine ⟨_, _, result, congrArg (·.writing) opened, rfl, rfl, rfl, congrArg (·.los) opened, congrArg (·.lastFs) opened, seconds, nanoseconds,
      rfl, rfl, congrArg (·.armedSet) opened, congrArg (·.armedDef) opened, fun a armed loud events running => ?_⟩
    exact State.openCam_answers kept.out armed loud ((kept.evtEn rfl).trans events) ((kept.restart rfl).trans running)
  · refine ⟨_, execCsiLongPacket_good enabled header found writing picture type crc count, ?_⟩
    rw [State.cctx_modCctx_self]
    exact ⟨rfl, rfl⟩
  · obtain ⟨hc, bound, port, -⟩ := State.camOf_some found
    have pipe : p.val / 4 = cPort f.cfg / 4 := by rw [binding, port]
    rw [pipe] at earlier ⊢
    refine ⟨_, execCsiFrameEnd_closes enabled found, State.closeCam_writing .., ?_⟩
    have alive := s.portAlive_keeps p
    rw [← s.cctx_portAlive p] at writing
    rw [← s.pipe_portAlive p, ← alive.now rfl] at earlier
    rw [← s.pipe_portAlive p]
    simp only [← s.cctx_portAlive p] at bound binding ⊢
    rw [← alive.regBits rfl]
    generalize s.portAlive p = a at *
    by_cases short : f.count < cH f.cfg
    · rw [if_pos short, State.closeCam_short writing short]
      refine ⟨State.shortCam_withheld hc writing, ?_⟩
      rw [State.cctx_shortCam, if_pos rfl]
    · rw [if_neg short]
      split_ifs with busy
      · obtain ⟨g, waiting, start, lines, closed⟩ := State.closeCam_queued writing short earlier busy
        exact ⟨g, waiting, start, lines, closed.trans (alive.now rfl)⟩
      · exact State.closeCam_processed writing short earlier (by simpa using busy) (State.mem_pipeCtxs.mpr ⟨hc, bound, by rw [binding]⟩)
  · by_cases here : (clockGone && (s.cport (cPort (s.cctx c).cfg)).enabled) = true
    · obtain ⟨rfl, enabled⟩ : clockGone = true ∧ (s.cport (cPort (s.cctx c).cfg)).enabled = true := by simpa using here
      obtain ⟨t, result, clock, lost⟩ := execCamLosTimeout_clock bound enabled
      exact ⟨t, result, fun _ => lost c c.isLt bound rfl, fun _ _ => ⟨clock, lost⟩⟩
    · obtain ⟨t, result, lost⟩ := execCamLosTimeout_alone bound here
      refine ⟨t, result, fun cause => lost ?_, fun gone enabled => absurd (by simp [gone, enabled]) here⟩
      obtain lapsed | gone | off | dead := cause
      · exact .inl lapsed
      · exact .inr (.inl (by simpa [gone] using here))
      · exact .inr (.inl off)
      · exact .inr (.inr dead)
  · cases bad with
    | false =>
      obtain ⟨u, g, kept, frames, result⟩ := execPipeFrameDone_leaves busy processing due
      refine ⟨_, result, ?_⟩
      rw [if_neg (by simp), if_neg (by simp)]
      refine ⟨?_, fun a i hc colour found => ?_⟩
      · rw [(State.pipeSelect_keeps ..).reg rfl, (State.setPipe_keeps ..).reg rfl, (State.modCctx_keeps ..).reg rfl,
          (State.camRelease_keeps ..).reg rfl, frames]
      · rw [← kept.pool _ rfl] at found
        rw [← kept.pipe rfl] at colour
        obtain ⟨w, pool, newest, next, lines, header⟩ := State.camRelease_surface (f := f) (g := g) hc colour found
        rw [pool, ← kept.pool _ rfl, ← kept.ptp rfl rfl]
        refine ⟨newest, next, ?_, lines, header⟩
        rw [(State.pipeSelect_keeps ..).reg rfl, (State.setPipe_keeps ..).reg rfl, (State.modCctx_keeps ..).reg rfl,
          State.camRelease_frames hc colour, kept.reg rfl]
    | true =>
      cases retried : (s.pipe q).retried with
      | false =>
        obtain ⟨t, result, again⟩ := execPipeFrameDone_retries busy processing due retried
        exact ⟨t, result, by rw [if_pos ⟨rfl, rfl⟩]; exact again⟩
      | true =>
        obtain ⟨t, result, frames, logged, writers, counted⟩ := execPipeFrameDone_withholds busy processing due retried
        exact ⟨t, result, by rw [if_neg (by simp), if_pos rfl]; exact ⟨frames, logged, writers, counted⟩⟩

end Sys2Proof.Machine
end

section
/-! SUPPORT. What the writes of the coding fabric leave of its engines, and what moving jobs leaves of it (06_coding_fabric_decode.md R225 to
R235, R244). -/

namespace Sys2Proof.Machine

/-! ### Engines written -/

section

variable (s : State)

theorem State.setPe_fab (n : Nat) (e : EngineSt) : (s.setPe n e).fab = { s.fab with pe := Tbl.set s.fab.pe n e } := by
  simp [State.setPe]

theorem State.setEe_fab (n : Nat) (e : EngineSt) : (s.setEe n e).fab = { s.fab with ee := Tbl.set s.fab.ee n e } := by
  simp [State.setEe]

theorem State.peSt_setPe (n k : Nat) (e : EngineSt) : (s.setPe n e).peSt k = if n = k then e else s.peSt k := by
  rw [State.peSt, State.setPe_fab]
  exact Tbl.get_set ..

theorem State.eeSt_setEe (n k : Nat) (e : EngineSt) : (s.setEe n e).eeSt k = if n = k then e else s.eeSt k := by
  rw [State.eeSt, State.setEe_fab]
  exact Tbl.get_set ..

@[simp] theorem State.peSt_setPe_self (n : Nat) (e : EngineSt) : (s.setPe n e).peSt n = e := by rw [State.peSt_setPe, if_pos rfl]

@[simp] theorem State.eeSt_setEe_self (n : Nat) (e : EngineSt) : (s.setEe n e).eeSt n = e := by rw [State.eeSt_setEe, if_pos rfl]

@[simp] theorem State.eeSt_setPe (n k : Nat) (e : EngineSt) : (s.setPe n e).eeSt k = s.eeSt k := by
  rw [State.eeSt, State.setPe_fab]
  rfl

@[simp] theorem State.peSt_setEe (n k : Nat) (e : EngineSt) : (s.setEe n e).peSt k = s.peSt k := by
  rw [State.peSt, State.setEe_fab]
  rfl

end

section

variable {F R : Nat} {s t u : State}

theorem Keeps.fab (k : Keeps F R s t) (h : F.testBit Field.fab.ctorIdx = false) : t.fab = s.fab := k.fields .fab h

theorem Keeps.sess (k : Keeps F R s t) (n : Nat) (h : F.testBit Field.dec.ctorIdx = false) : t.sess n = s.sess n :=
  congrArg (fun x : Tbl DecSession => Tbl.get x n) (k.fields .dec h)

/-! ### What jobs leave as it is when they move -/

/-- The fabric without what dispatch changes: engines, job lists, the engines of entropy segments, the picture in dispatch and the number
of the next job. -/
def Fabric.progress (f : Fabric) : Fabric :=
  { f with pe := [], ee := [], dram := [], dramEe := [], segEng := [], current := none, nextNum := 0 }

/-- An engine without its queue. -/
def EngineSt.emptied (e : EngineSt) : EngineSt := { e with queue := [] }

/-- An engine without its owner. -/
def EngineSt.unowned (e : EngineSt) : EngineSt := { e with owner := none }

/-- Between two states no more than dispatch changes of the fabric has changed, and nothing of what f shows of the engines. -/
structure State.Dispatched {α : Type} (f : EngineSt → α) (s t : State) : Prop where
  progress : t.fab.progress = s.fab.progress
  pe : ∀ n, f (t.peSt n) = f (s.peSt n)
  ee : ∀ n, f (t.eeSt n) = f (s.eeSt n)

namespace State.Dispatched

variable {α β : Type} {f : EngineSt → α}

theorem refl (f : EngineSt → α) (s : State) : State.Dispatched f s s := ⟨rfl, fun _ => rfl, fun _ => rfl⟩

theorem trans (h : Dispatched f s u) (k : Dispatched f u t) : Dispatched f s t :=
  ⟨k.progress.trans h.progress, fun n => (k.pe n).trans (h.pe n), fun n => (k.ee n).trans (h.ee n)⟩

theorem of_fab (h : t.fab = s.fab) : Dispatched f s t := by
  refine ⟨by rw [h], fun n => ?_, fun n => ?_⟩
  · rw [State.peSt, State.peSt, h]
  · rw [State.eeSt, State.eeSt, h]

theorem of_keeps (k : Keeps F R s t) (h : F.testBit Field.fab.ctorIdx = false) : Dispatched f s t := of_fab (k.fab h)

/-- A change of what dispatch changes, but for the engines. -/
theorem update {x : Fabric} (h : x.progress = s.fab.progress) (hp : x.pe = s.fab.pe) (he : x.ee = s.fab.ee) :
    Dispatched f s { s with fab := x } :=
  ⟨h, fun n => congrArg (fun l => f (Tbl.get l n)) hp, fun n => congrArg (fun l => f (Tbl.get l n)) he⟩

/-- What a part of an engine shows that f does not change. -/
theorem through {f : EngineSt → EngineSt} (h : Dispatched f s t) (g : EngineSt → β) (hg : ∀ e, g (f e) = g e) : Dispatched g s t :=
  ⟨h.progress, fun n => by rw [← hg, h.pe, hg], fun n => by rw [← hg, h.ee, hg]⟩

/-- What dispatch does not change of the fabric. -/
theorem kept (h : Dispatched f s t) (g : Fabric → β) (hg : ∀ x, g x.progress = g x) : g t.fab = g s.fab := by
  rw [← hg, h.progress, hg]

theorem setPe (n : Nat) {e : EngineSt} (h : f e = f (s.peSt n)) : Dispatched f s (s.setPe n e) := by
  refine ⟨by rw [State.setPe_fab]; rfl, fun k => ?_, fun k => by rw [State.eeSt_setPe]⟩
  rw [State.peSt_setPe]
  split_ifs with same
  · rw [h, same]
  · rfl

theorem setEe (n : Nat) {e : EngineSt} (h : f e = f (s.eeSt n)) : Dispatched f s (s.setEe n e) := by
  refine ⟨by rw [State.setEe_fab]; rfl, fun k => by rw [State.peSt_setEe], fun k => ?_⟩
  rw [State.eeSt_setEe]
  split_ifs with same
  · rw [h, same]
  · rfl

theorem ite {c : Prop} {_ : Decidable c} {a b : State} (h : Dispatched f s a) (k : Dispatched f s b) : Dispatched f s (if c then a else b) := by
  split_ifs <;> assumption

theorem foldl {γ : Type} {g : State → γ → State} {l : List γ} (h : ∀ u x, Dispatched f u (g u x)) : Dispatched f s (l.foldl g s) :=
  List.foldlRecOn l g (.refl ..) fun u k x _ => k.trans (h u x)

end State.Dispatched

end

/-! ### Jobs that move (R232, R234, R235) -/

section

variable (s : State)

theorem State.pushPe_dispatched (n : Nat) (j : Job) : State.Dispatched EngineSt.emptied s (s.pushPe n j) := by
  refine .trans ?_ (.setPe n rfl)
  exact .update rfl rfl rfl

theorem State.pushEe_dispatched (n : Nat) (j : Job) : State.Dispatched EngineSt.emptied s (s.pushEe n j) := by
  refine .trans ?_ (.setEe n rfl)
  exact .update rfl rfl rfl

theorem State.offerPe_dispatched (n : Option Nat) (j : Job) : State.Dispatched EngineSt.emptied s (s.offerPe n j) := by
  unfold State.offerPe
  split
  · exact .ite (s.pushPe_dispatched ..) (.update rfl rfl rfl)
  · exact .update rfl rfl rfl

theorem State.offerEe_dispatched (n : Option Nat) (j : Job) : State.Dispatched EngineSt.emptied s (s.offerEe n j) := by
  unfold State.offerEe
  split
  · exact .ite (s.pushEe_dispatched ..) (.update rfl rfl rfl)
  · exact .update rfl rfl rfl

theorem State.refillChan_dispatched (o : Nat) : State.Dispatched EngineSt.emptied s (s.refillChan o) := by
  refine .trans ?_ (.foldl fun u j => u.offerEe_dispatched _ j)
  refine .trans ?_ (.update rfl rfl rfl)
  refine .trans ?_ (.foldl fun u j => u.offerPe_dispatched _ j)
  exact .update rfl rfl rfl

theorem State.refillPool_dispatched (fuel : Nat) : State.Dispatched EngineSt.emptied s (s.refillPool fuel) := by
  induction fuel generalizing s with
  | zero => exact .refl ..
  | succ fuel ih =>
    unfold State.refillPool
    dsimp only
    split
    · exact .refl ..
    · split
      · exact .refl ..
      · refine .ite (.trans (.trans ?_ (State.pushPe_dispatched ..)) (ih ..)) (.refl ..)
        exact .update rfl rfl rfl

theorem State.refillEes_dispatched : State.Dispatched EngineSt.emptied s s.refillEes := by
  refine .trans ?_ (.foldl fun u j => u.offerEe_dispatched _ j)
  exact .update rfl rfl rfl

theorem State.refill_dispatched : State.Dispatched EngineSt.emptied s s.refill :=
  .trans (.trans (.trans (.foldl fun u o => u.refillChan_dispatched o) (State.refillPool_dispatched ..)) (State.refillEes_dispatched _))
    (.of_keeps (State.countJobs_keeps _) rfl)

end

end Sys2Proof.Machine
end

section
/-! SUPPORT. The entropy engines while jobs move up, rows that settle, and jobs that are dropped (06_coding_fabric_decode.md R225, R232 to
R235). -/

namespace Sys2Proof.Machine

/-! ### Entropy jobs while jobs move up -/

section

variable {s t u : State}

/-- Entropy engines and entropy job lists are the same in two states. -/
def State.SameEntropy (s t : State) : Prop := t.fab.ee = s.fab.ee ∧ t.fab.dramEe = s.fab.dramEe

theorem State.SameEntropy.trans (h : s.SameEntropy u) (k : u.SameEntropy t) : s.SameEntropy t := ⟨k.1.trans h.1, k.2.trans h.2⟩

theorem State.SameEntropy.update {x : Fabric} (he : x.ee = s.fab.ee) (hl : x.dramEe = s.fab.dramEe) : s.SameEntropy { s with fab := x } := ⟨he, hl⟩

theorem State.pushPe_entropy (s : State) (n : Nat) (j : Job) : s.SameEntropy (s.pushPe n j) := by
  unfold State.pushPe State.SameEntropy
  rw [State.setPe_fab]
  exact ⟨rfl, rfl⟩

theorem State.offerPe_entropy (s : State) (n : Option Nat) (j : Job) : s.SameEntropy (s.offerPe n j) := by
  unfold State.offerPe
  split
  · split_ifs
    · exact s.pushPe_entropy ..
    · exact ⟨rfl, rfl⟩
  · exact ⟨rfl, rfl⟩

theorem State.refillPool_entropy (s : State) (fuel : Nat) : s.SameEntropy (s.refillPool fuel) := by
  induction fuel generalizing s with
  | zero => exact ⟨rfl, rfl⟩
  | succ fuel ih =>
    unfold State.refillPool
    dsimp only
    split
    · exact ⟨rfl, rfl⟩
    · split
      · exact ⟨rfl, rfl⟩
      · split_ifs
        · refine .trans (.trans ?_ (State.pushPe_entropy ..)) (ih _)
          exact .update rfl rfl
        · exact ⟨rfl, rfl⟩

/-- The rows of a channel that wait go to their PEs, which leaves its entropy rows. -/
def State.refillRows (s : State) (o : Nat) : State :=
  (Tbl.get s.fab.dram o).foldl (fun s j => s.offerPe (s.chanPe j) j) { s with fab := { s.fab with dram := Tbl.set s.fab.dram o [] } }

theorem State.refillChan_eq (s : State) (o : Nat) :
    s.refillChan o = (Tbl.get (s.refillRows o).fab.dramEe o).foldl (fun s j => s.offerEe (fewest (fun n => (s.eeSt n).queue.length) (s.eesOf o)) j)
      { s.refillRows o with fab := { (s.refillRows o).fab with dramEe := Tbl.set (s.refillRows o).fab.dramEe o [] } } := rfl

theorem State.refillRows_entropy (s : State) (o : Nat) : s.SameEntropy (s.refillRows o) :=
  List.foldlRecOn (motive := fun t => s.SameEntropy t) _ _ ⟨rfl, rfl⟩ fun u k _ _ => k.trans (u.offerPe_entropy ..)

/-- Without waiting entropy jobs a channel's rows move up alone. -/
theorem State.refillChan_entropy (o : Nat) (none_ : s.fab.dramEe = []) : s.SameEntropy (s.refillChan o) := by
  obtain ⟨ee, lists⟩ := s.refillRows_entropy o
  rw [none_] at lists
  rw [State.refillChan_eq, lists]
  exact ⟨ee, none_.symm⟩

/-- The channels of which jobs wait get them to their engines. -/
def State.refillChans (s : State) : State :=
  (((s.fab.dram ++ s.fab.dramEe).map (fun e => e.1)).filter (fun o => decide (o < 64))).foldl (fun s o => s.refillChan o) s

/-- What the channels leave of the entropy engines stays where no entropy job of a session waits. -/
theorem State.refill_ee (none_ : s.refillChans.fab.dramEe = []) : s.refill.fab.ee = s.refillChans.fab.ee := by
  have idle : ∀ fuel, (s.refillChans.refillPool fuel).refillEes.fab.ee = s.refillChans.fab.ee := fun fuel => by
    obtain ⟨ee, lists⟩ := s.refillChans.refillPool_entropy fuel
    unfold State.refillEes
    rw [lists, none_]
    exact ee
  exact (congrArg Fabric.ee ((State.countJobs_keeps _).fab rfl)).trans (idle _)

/-- Without waiting entropy jobs every entropy engine keeps what it has. -/
theorem State.refill_entropy (none_ : s.fab.dramEe = []) : s.refill.fab.ee = s.fab.ee := by
  obtain ⟨ee, lists⟩ : s.SameEntropy s.refillChans :=
    List.foldlRecOn (motive := fun t => s.SameEntropy t) _ _ ⟨rfl, rfl⟩ fun u k o _ => k.trans (State.refillChan_entropy o (k.2.trans none_))
  exact (State.refill_ee (lists.trans none_)).trans ee

/-- The one entropy row of a channel that waits goes to the channel's EE with the fewest jobs, where this has room (R225, log 187). -/
theorem State.refill_entropyRow {o k : Nat} {j : Job} (rows : s.fab.dram = []) (entropy : s.fab.dramEe = [(o, [j])]) (chan : o < 64)
    (few : fewest (fun n => (s.eeSt n).queue.length) (s.eesOf o) = some k) (room : (s.eeSt k).queue.length < 16) :
    (s.refill.eeSt k).queue = (s.eeSt k).queue ++ [{ j with num := s.fab.nextNum }] := by
  have alone : s.refillRows o = { s with fab := { s.fab with dram := [] } } := by
    rw [State.refillRows, rows]
    rfl
  have first : Tbl.get s.fab.dramEe o = [j] := by simp [entropy, Tbl.get, Tbl.getD, Tbl.find]
  have gone : Tbl.set s.fab.dramEe o [] = [] := by
    rw [entropy]
    exact (if_pos rfl).trans rfl
  have offered : s.refillChan o = State.offerEe { s with fab := { s.fab with dram := [], dramEe := [] } } (some k) j := by
    rw [State.refillChan_eq, alone]
    dsimp only
    rw [first, gone, ← few]
    rfl
  have pushed : s.refillChans = State.pushEe { s with fab := { s.fab with dram := [], dramEe := [] } } k j := by
    have chans : ((s.fab.dram ++ s.fab.dramEe).map (fun e => e.1)).filter (fun o => decide (o < 64)) = [o] := by simp [rows, entropy, chan]
    rw [State.refillChans, chans]
    exact offered.trans (if_pos room)
  have ee : s.refill.fab.ee = s.refillChans.fab.ee := State.refill_ee (by rw [pushed, State.pushEe, State.setEe_fab])
  rw [State.eeSt, ee, pushed]
  change ((State.pushEe _ k j).eeSt k).queue = _
  rw [State.pushEe, State.eeSt_setEe_self]
  rfl

end

/-! ### Rows that settle (R233, log 185) -/

section

variable {s t : State} {o pic n : Nat} {j : Job}

/-- The rows of a picture that PE n has filtered and written. -/
def State.settled (s : State) (o pic n : Nat) : List Job :=
  (s.peSt n).queue.filter fun j => j.owner == o && j.pic == pic && j.recon && s.belowDone j

/-- The settled rows of a picture leave PE n. -/
def State.settlePe (s : State) (o pic n : Nat) : State :=
  let out := fun (j : Job) => j.owner == o && j.pic == pic && j.recon && s.belowDone j
  let l := s.settled o pic n
  if l.isEmpty then s
  else
    let s1 := (s.setPe n { s.peSt n with queue := (s.peSt n).queue.filter (fun j => !out j) }).addWrapBits .CF_PE_JOBS n 31 0 l.length
    { s1 with fab := { s1.fab with rowsDone := l.map Job.key ++ s1.fab.rowsDone } }

theorem State.settleRows_eq (s : State) (o pic : Nat) : s.settleRows o pic = (List.range 32).foldl (fun s n => s.settlePe o pic n) s := rfl

/-- Rows of a picture have settled: PEs have changed, and rows are done besides those that were. -/
def State.Settles (s t : State) : Prop :=
  ∃ pe done, t.fab = { s.fab with pe := pe, rowsDone := done ++ s.fab.rowsDone }

theorem State.Settles.trans {u : State} (h : s.Settles u) (k : u.Settles t) : s.Settles t := by
  obtain ⟨pe, done, h⟩ := h
  obtain ⟨pe', done', k⟩ := k
  exact ⟨pe', done' ++ done, by rw [k, h, List.append_assoc]⟩

theorem State.settlePe_settles (s : State) (o pic n : Nat) : s.Settles (s.settlePe o pic n) := by
  unfold State.settlePe
  dsimp only
  split_ifs
  · exact ⟨_, [], rfl⟩
  · exact ⟨_, _, by rw [State.addWrapBits_fab, State.setPe_fab]⟩

theorem State.settles_fold (s : State) (o pic : Nat) (l : List Nat) : s.Settles (l.foldl (fun s n => s.settlePe o pic n) s) :=
  List.foldlRecOn (motive := fun t => s.Settles t) _ _ ⟨_, [], rfl⟩ fun u k _ _ => k.trans (u.settlePe_settles ..)

theorem State.settlePe_other {k : Nat} (s : State) (o pic : Nat) (h : n ≠ k) : (s.settlePe o pic n).peSt k = s.peSt k := by
  unfold State.settlePe
  dsimp only
  split_ifs
  · rfl
  · rw [State.peSt]
    dsimp only
    rw [State.addWrapBits_fab, State.setPe_fab]
    exact Tbl.get_set_ne _ _ h

theorem State.settlePe_done (h : j ∈ s.settled o pic n) : j.key ∈ (s.settlePe o pic n).fab.rowsDone := by
  unfold State.settlePe
  dsimp only
  rw [if_neg (by simpa using List.ne_nil_of_mem h)]
  exact List.mem_append_left _ (List.mem_map_of_mem h)

/-- Every settled row of every PE is done. -/
theorem State.settleRows_done (hn : n < 32) (h : j ∈ s.settled o pic n) : j.key ∈ (s.settleRows o pic).fab.rowsDone := by
  rw [State.settleRows_eq]
  have here : n ∈ List.range 32 := List.mem_range.mpr hn
  generalize List.range 32 = l at here
  induction l generalizing s with
  | nil => simp at here
  | cons k l ih =>
    rw [List.foldl_cons]
    by_cases same : k = n
    · subst same
      obtain ⟨pe, done, later⟩ := (s.settlePe o pic k).settles_fold o pic l
      rw [later]
      exact List.mem_append_right _ (State.settlePe_done h)
    · refine ih ?_ ((List.mem_cons.mp here).resolve_left (Ne.symm same))
      obtain ⟨pe, done, step⟩ := s.settlePe_settles o pic k
      rw [State.settled, State.settlePe_other s o pic same]
      simpa only [State.settled, State.belowDone, step] using h

end

/-! ### Jobs that are dropped -/

/-- Jobs of pictures that are gone leave the engines, and nothing else of these changes. -/
theorem State.dropJobs_dispatched (s : State) (gone : Nat → Nat → Bool) :
    State.Dispatched EngineSt.emptied { s with fab := s.fab.drop gone } (s.dropJobs gone) := by
  refine .trans ?_ (.foldl fun u k => .ite (.refl ..) (.setEe k rfl))
  exact .foldl fun u k => .ite (.refl ..) (.setPe k rfl)

end Sys2Proof.Machine
end

section
/-! SUPPORT. Rows that PEs start and complete, and rows that EEs complete (06_coding_fabric_decode.md R225, R227, R232, R233, R235). -/

namespace Sys2Proof.Machine

section

variable (s : State)

/-- A wrapping 32-bit counter counts any number. -/
theorem State.getReg_addWrapBits_self {r : Reg} {i : Nat} (n : Nat) (h : i < r.info.count) :
    (s.addWrapBits r i 31 0 n).getReg r i = s.getReg r i + BitVec.ofNat 32 n := by
  rw [State.addWrapBits, State.setBits, State.getReg_setReg_self _ _ h]
  refine BitVec.eq_of_toNat_eq ?_
  rw [← Word.bits_full, Word.bits_setBits_self _ _ (by decide) (by decide), State.regBits, Word.bits_full, BitVec.toNat_add]
  simp

/-! ### Granules (R227) -/

theorem State.oreTake_ore (x : Nat × Nat × Nat) : x ∈ (s.oreTake x).fab.ore := by
  unfold State.oreTake
  split_ifs with held
  · simpa using held
  · exact List.mem_cons_self

/-- A granule taken changes the granules alone. -/
theorem State.oreTake_fab (x : Nat × Nat × Nat) : ∃ ore, (s.oreTake x).fab = { s.fab with ore := ore } := by
  unfold State.oreTake
  split_ifs
  · exact ⟨_, rfl⟩
  · exact ⟨_, rfl⟩

end

/-! ### PE_JOB_START (R225, R233) -/

theorem execPeJobStart_starts {p : Fin 32} {x : Nat} {j : Job} {s : State} (running : (s.peSt p).running = some j)
    (healthy : (s.peSt p).failed = false) (inside : x < j.cols) (forward : j.ctus ≤ x) (above : s.ctuReady j x = true)
    (ready : if j.owner < 64 then s.oreFree j.key = true else s.entropyLeft j = false) :
    ∃ t, execPeJobStart p x s = .next t ∧ t.peSt p = (s.peSt p).modJob j.num (fun j => { j with started := true, ctus := x }) ∧
      (∀ n, n ≠ p.val → t.peSt n = s.peSt n) ∧ (j.owner < 64 → j.key ∈ t.fab.ore) := by
  generalize hu : s.setPe p ((s.peSt p).modJob j.num (fun j => { j with started := true, ctus := x })) = u
  have mine : u.peSt p = (s.peSt p).modJob j.num (fun j => { j with started := true, ctus := x }) := by rw [← hu, State.peSt_setPe_self]
  have others : ∀ n, n ≠ p.val → u.peSt n = s.peSt n := fun n other => by rw [← hu, State.peSt_setPe, if_neg (Ne.symm other)]
  unfold execPeJobStart
  simp only [running, healthy, inside, forward, above, hu]
  by_cases chan : j.owner < 64
  · simp only [if_pos chan] at ready ⊢
    obtain ⟨ore, taken⟩ := u.oreTake_fab j.key
    have kept := (State.countJobs_keeps (u.oreTake j.key)).fab rfl
    have same : ∀ n, ((u.oreTake j.key).countJobs).peSt n = u.peSt n := fun n => by rw [State.peSt, kept, taken]; rfl
    refine ⟨_, by rw [ready]; rfl, by rw [same, mine], fun n other => by rw [same, others n other], fun _ => ?_⟩
    rw [kept]
    exact u.oreTake_ore _
  · simp only [if_neg chan] at ready ⊢
    exact ⟨u, by rw [ready]; rfl, mine, others, fun c => absurd c chan⟩

/-! ### JOB_COMPLETE of an EE (R225, R227, R232) -/

section

variable {e : Fin 8} {row : DecRow} {j : Job} {q : List Job} {s : State}

theorem State.countBins_ee (s : State) (n bins : Nat) :
    (s.countBins n bins).fab = { s.fab with ee := Tbl.set s.fab.ee n { s.eeSt n with binRem := ((s.eeSt n).binRem + bins) % 1000000 } } := by
  unfold State.countBins
  dsimp only
  rw [State.addWrapBits_fab, State.setEe_fab]

theorem State.countBins_eeSt (s : State) (n bins : Nat) :
    ((s.countBins n bins).eeSt n).queue = (s.eeSt n).queue ∧ ((s.countBins n bins).eeSt n).binRem = ((s.eeSt n).binRem + bins) % 1000000 := by
  rw [State.eeSt, State.countBins_ee, Tbl.get_set_self]
  exact ⟨rfl, rfl⟩

/-- An EE's first row leaves its queue with its bins counted. -/
def State.rowParsed (s : State) (e : Fin 8) (bins : Nat) (q : List Job) : State :=
  (s.setEe e { s.eeSt e with queue := q }).countBins e bins

theorem State.rowParsed_keeps (s : State) (e : Fin 8) (bins : Nat) (q : List Job) :
    Keeps 8192 405648192073033408478945025720320 s (s.rowParsed e bins q) :=
  KeepsLaws.comp (KeepsLaws.mono (State.setEe_keeps ..) (KeepsLaws.subI rfl rfl)) (State.countBins_keeps ..) (KeepsLaws.subI rfl rfl)

theorem State.rowParsed_lists (s : State) (e : Fin 8) (bins : Nat) (q : List Job) : (s.rowParsed e bins q).fab.dramEe = s.fab.dramEe := by
  rw [State.rowParsed, State.countBins_ee, State.setEe_fab]

theorem State.rowParsed_eeSt (s : State) (e : Fin 8) (bins : Nat) (q : List Job) :
    ((s.rowParsed e bins q).eeSt e).queue = q ∧ ((s.rowParsed e bins q).eeSt e).binRem = ((s.eeSt e).binRem + bins) % 1000000 := by
  obtain ⟨queue, rem⟩ := (s.setEe e { s.eeSt e with queue := q }).countBins_eeSt e bins
  rw [State.eeSt_setEe_self] at queue rem
  exact ⟨queue, rem⟩

theorem State.rowParsed_bins (s : State) (e : Fin 8) (bins : Nat) (q : List Job) :
    (s.rowParsed e bins q).getReg .CF_EE_MBINS e =
      s.getReg .CF_EE_MBINS e + BitVec.ofNat 32 (((s.eeSt e).binRem + bins) / 1000000) := by
  unfold State.rowParsed State.countBins
  rw [State.getReg_addWrapBits_self _ _ e.isLt, (State.setEe_keeps ..).reg rfl, (State.setEe_keeps ..).reg rfl, State.eeSt_setEe_self]

/-- What a parsed row frees or takes: an encode row its granule, and its bits are coded; a decode row takes one. -/
def State.parsedOut (s : State) (j : Job) : State :=
  if j.owner < 64 then
    let t := s.oreDrop j.key
    { t with fab := { t.fab with coded := (j.owner, j.pic, j.row, t.ptp) :: t.fab.coded } }
  else s.oreTake j.key

theorem State.parsedOut_keeps (s : State) (j : Job) : Keeps 8192 0 s (s.parsedOut j) := by
  unfold State.parsedOut
  refine KeepsLaws.ite ?_ (State.oreTake_keeps ..)
  exact KeepsLaws.comp (State.oreDrop_keeps ..) (KeepsLaws.upd_fab ..) (KeepsLaws.subI rfl rfl)

theorem State.parsedOut_entropy (s : State) (j : Job) : s.SameEntropy (s.parsedOut j) := by
  unfold State.parsedOut
  split_ifs
  · exact ⟨rfl, rfl⟩
  · obtain ⟨ore, taken⟩ := s.oreTake_fab j.key
    exact ⟨by rw [taken], by rw [taken]⟩

theorem State.parsedOut_shows (s : State) (j : Job) :
    if j.owner < 64 then (j.owner, j.pic, j.row, s.ptp) ∈ (s.parsedOut j).fab.coded else j.key ∈ (s.parsedOut j).fab.ore := by
  unfold State.parsedOut
  split_ifs
  · exact List.mem_cons_self
  · exact s.oreTake_ore _

/-- A row that is parsed with its granule leaves the EE. -/
theorem execJobComplete_parsed (bins : Nat) (first : (s.eeSt e).queue = j :: q) (healthy : (s.eeSt e).failed = false)
    (granule : j.owner < 64 ∨ s.oreFree j.key = true) :
    execJobComplete (.ee e) bins row s = .next ((s.rowParsed e bins q).parsedOut j).refill := by
  have moves : ¬ (64 ≤ j.owner ∧ s.oreFree j.key = false) := by
    rintro ⟨dec, full⟩
    rcases granule with chan | free
    · omega
    · simp [free] at full
  unfold execJobComplete
  dsimp only
  rw [first]
  dsimp only
  rw [if_neg (c := _ = true) (by simp [healthy]), if_neg moves]
  rfl

theorem State.parsed_effect (s : State) (e : Fin 8) (bins : Nat) (q : List Job) (j : Job) :
    let t := ((s.rowParsed e bins q).parsedOut j).refill
    (s.fab.dramEe = [] → (t.eeSt e).queue = q) ∧ (t.eeSt e).binRem = ((s.eeSt e).binRem + bins) % 1000000 ∧
      t.getReg .CF_EE_MBINS e = s.getReg .CF_EE_MBINS e + BitVec.ofNat 32 (((s.eeSt e).binRem + bins) / 1000000) ∧
      (if j.owner < 64 then (j.owner, j.pic, j.row, s.ptp) ∈ t.fab.coded else j.key ∈ t.fab.ore) := by
  have shown := (s.rowParsed e bins q).parsedOut_shows j
  have out := (s.rowParsed e bins q).parsedOut_keeps j
  have counted := s.rowParsed_bins e bins q
  rw [(s.rowParsed_keeps e bins q).ptp rfl rfl] at shown
  rw [← out.reg rfl] at counted
  obtain ⟨queue, rem⟩ := s.rowParsed_eeSt e bins q
  have lists := s.rowParsed_lists e bins q
  obtain ⟨engines, waiting⟩ := (s.rowParsed e bins q).parsedOut_entropy j
  generalize (s.rowParsed e bins q).parsedOut j = u at shown counted engines waiting ⊢
  have here : u.eeSt e = (s.rowParsed e bins q).eeSt e := congrArg (fun l => Tbl.get l e) engines
  rw [← here] at queue rem
  have moved := u.refill_dispatched
  refine ⟨fun none_ => ?_, ?_, ?_, ?_⟩
  · rw [State.eeSt, State.refill_entropy (waiting.trans (lists.trans none_))]
    exact queue
  · exact ((moved.through EngineSt.binRem fun _ => rfl).ee e).trans rem
  · rw [(State.refill_keeps ..).reg rfl, counted]
  · rw [moved.kept Fabric.coded fun _ => rfl, moved.kept Fabric.ore fun _ => rfl]
    exact shown

/-- Without a granule the EE of a decode row stalls, and the stall is counted once. -/
theorem execJobComplete_stalls (bins : Nat) (first : (s.eeSt e).queue = j :: q) (healthy : (s.eeSt e).failed = false)
    (dec : 64 ≤ j.owner) (full : s.oreFree j.key = false) :
    ∃ t, execJobComplete (.ee e) bins row s = .next t ∧ (t.eeSt e).queue = { j with stalled := true } :: q ∧
      t.getReg .CF_OREBIN_STALL 0 = (if j.stalled then s else s.bumpSat .CF_OREBIN_STALL 0).getReg .CF_OREBIN_STALL 0 := by
  unfold execJobComplete
  dsimp only
  rw [first]
  dsimp only
  rw [if_neg (c := _ = true) (by simp [healthy]), if_pos ⟨dec, full⟩]
  refine ⟨_, rfl, ?_⟩
  by_cases stalled : j.stalled = true
  · rw [if_pos stalled, if_pos stalled, first]
    exact ⟨congrArg (· :: q) (by rw [← stalled]), rfl⟩
  · rw [if_neg stalled, if_neg stalled]
    refine ⟨?_, State.getReg_bumpSat_congr ((State.setEe_keeps ..).reg rfl)⟩
    rw [State.eeSt, State.bumpSat_fab]
    exact congrArg EngineSt.queue (State.eeSt_setEe_self ..)

end

end Sys2Proof.Machine
end

section
/-! SUPPORT. Decode sessions: what starts, takes and decodes pictures leaves of sessions and pools (06_coding_fabric_decode.md R239 to R241,
R254, R255). -/

namespace Sys2Proof.Machine

section

variable {s t : State} {n i : Nat} {a : DecAu}

@[simp] theorem State.sess_modSess_self (s : State) (n : Nat) (f : DecSession → DecSession) : (s.modSess n f).sess n = f (s.sess n) :=
  Tbl.get_set_self ..

/-! ### A picture starts (R229, R239, R256) -/

/-- The entropy and pixel jobs of a picture wait in the lists of its session. -/
def State.queueJobs (s : State) (jobs : List Job × List Job) : State :=
  jobs.2.foldl (fun s j => s.toDram j) (jobs.1.foldl (fun s j => s.toDramEe j) s)

theorem State.queueJobs_keeps (s : State) (jobs : List Job × List Job) : Keeps 8192 0 s (s.queueJobs jobs) :=
  KeepsLaws.foldl (fun u j => u.toDram_keeps j) (KeepsLaws.foldl (fun u j => u.toDramEe_keeps j) (KeepsLaws.refl ..))

theorem State.queueJobs_dispatched (s : State) (jobs : List Job × List Job) : State.Dispatched EngineSt.emptied s (s.queueJobs jobs) := by
  refine .trans ?_ (.foldl fun u j => .update rfl rfl rfl)
  exact .foldl fun u j => .update rfl rfl rfl

/-- Past the marks and the session's own data, a start only queues jobs. -/
theorem State.startAu_eq (s : State) (n i : Nat) (a : DecAu) :
    ∃ (b : DecAu) (refs : List RefPic) (jobs : List Job × List Job), b.pic = a.pic ∧ b.buf = some i ∧ s.startAu n i a =
      (((s.modPool (poolDec n) (fun p => p.modSurf i (fun f => { f with short := f.short || a.info.short, long := f.long || a.info.long }))).modSess n
        (fun d => { d with refs := refs, aus := d.aus.map (fun x => if x.pic = a.pic then b else x) })).queueJobs jobs).refill := by
  refine ⟨_, _, picJobs n (dCodec (s.sess n).cfg) a, ?_, ?_, by unfold State.startAu State.queueJobs; rfl⟩ <;> rfl

/-- The access unit of a picture that starts has its buffer; the others are as they were. -/
theorem State.startAu_sess (s : State) (n i : Nat) (a : DecAu) :
    ∃ b refs, b.pic = a.pic ∧ b.buf = some i ∧
      (s.startAu n i a).sess n = { s.sess n with refs := refs, aus := (s.sess n).aus.map (fun x => if x.pic = a.pic then b else x) } := by
  obtain ⟨b, refs, jobs, pic, buf, eq⟩ := s.startAu_eq n i a
  refine ⟨b, refs, pic, buf, ?_⟩
  rw [eq, (State.refill_keeps ..).sess _ rfl, (State.queueJobs_keeps ..).sess _ rfl, State.sess_modSess_self, (State.modPool_keeps ..).sess _ rfl]

theorem State.startAu_pool (s : State) (n i : Nat) (a : DecAu) :
    (s.startAu n i a).pool (poolDec n) =
      (s.pool (poolDec n)).modSurf i (fun f => { f with short := f.short || a.info.short, long := f.long || a.info.long }) := by
  obtain ⟨b, refs, jobs, -, -, eq⟩ := s.startAu_eq n i a
  rw [eq, (State.refill_keeps ..).pool _ rfl, (State.queueJobs_keeps ..).pool _ rfl, (State.modSess_keeps ..).pool _ rfl, State.pool_modPool_self]

theorem State.startAu_dispatched (s : State) (n i : Nat) (a : DecAu) : State.Dispatched EngineSt.emptied s (s.startAu n i a) := by
  obtain ⟨b, refs, jobs, -, -, eq⟩ := s.startAu_eq n i a
  rw [eq]
  refine .trans (.trans ?_ (State.queueJobs_dispatched ..)) (State.refill_dispatched _)
  exact .trans (.of_keeps (State.modPool_keeps ..) rfl) (.of_keeps (State.modSess_keeps ..) rfl)

/-! ### The next access unit is tried (R240, R241, R254) -/

/-- What a session frees before its next access unit starts: reference marks, and prior pictures that a new sequence discards. -/
def State.unmarked (s : State) (n : Nat) (a : DecAu) : State := (s.markRefs n a).dropPrior n a

theorem State.unmarked_keeps (s : State) (n : Nat) (a : DecAu) : Keeps 49152 0 s (s.unmarked n a) :=
  KeepsLaws.trans (State.markRefs_keeps ..) (State.dropPrior_keeps ..)

/-- An access unit that finds no buffer waits, and the first wait is counted. -/
def State.waitAu (s : State) (n : Nat) (a : DecAu) : State :=
  if a.waited then s
  else (s.bumpSat .DEC_SESS_POOLWAIT n).modSess n (fun d =>
    { d with aus := d.aus.map (fun (x : DecAu) => if x.pic = a.pic then { x with waited := true } else x) })

theorem State.waitAu_keeps (s : State) (n : Nat) (a : DecAu) :
    Keeps 16384 (2 ^ Reg.DEC_SESS_POOLWAIT.ctorIdx) s (s.waitAu n a) := by
  unfold State.waitAu
  refine KeepsLaws.ite (KeepsLaws.refl ..) ?_
  exact KeepsLaws.comp (KeepsLaws.mono (State.bumpSat_keeps ..) (KeepsLaws.subI rfl rfl)) (State.modSess_keeps ..) (KeepsLaws.subI rfl rfl)

/-- An access unit starts in the buffer of its first field, or in one that the pool gives, or it waits. -/
def State.startNext (s : State) (n : Nat) (a : DecAu) : State :=
  match (s.sess n).mateBuf a with
  | some i => (s.unmarked n a).startAu n i a
  | none =>
    match ((s.unmarked n a).pool (poolDec n)).take with
    | some (i, p) => ((s.unmarked n a).setPool (poolDec n) { p with writing := none }).startAu n i a
    | none => (s.unmarked n a).waitAu n a

theorem State.tryStart_next (next : (s.sess n).aus.find? (fun a => !a.decoded) = some a)
    (free : ¬ (a.buf.isSome || (s.sess n).stopped) = true) : s.tryStart n = (s.startNext n a).showPool n := by
  unfold State.tryStart
  dsimp only
  rw [next]
  exact if_neg free

theorem State.startNext_cases (s : State) (n : Nat) (a : DecAu) :
    (∃ i, s.startNext n a = (s.unmarked n a).startAu n i a) ∨
      (∃ i p, ((s.unmarked n a).pool (poolDec n)).take = some (i, p) ∧
        s.startNext n a = ((s.unmarked n a).setPool (poolDec n) { p with writing := none }).startAu n i a) ∨
      s.startNext n a = (s.unmarked n a).waitAu n a := by
  unfold State.startNext
  split
  · exact .inl ⟨_, rfl⟩
  · split
    · rename_i i p taken
      exact .inr (.inl ⟨i, p, taken, rfl⟩)
    · exact .inr (.inr rfl)

/-- A session's try changes nothing, or starts its next access unit or lets it wait. -/
theorem State.tryStart_cases (s : State) (n : Nat) : s.tryStart n = s ∨ ∃ a, s.tryStart n = (s.startNext n a).showPool n := by
  cases next : (s.sess n).aus.find? (fun a => !a.decoded) with
  | none =>
    left
    unfold State.tryStart
    dsimp only
    rw [next]
  | some a =>
    by_cases free : (a.buf.isSome || (s.sess n).stopped) = true
    · left
      unfold State.tryStart
      dsimp only
      rw [next]
      exact if_pos free
    · exact .inr ⟨a, State.tryStart_next next free⟩

/-- Where every access unit is decoded nothing starts. -/
theorem State.tryStart_idle (decoded : ∀ a ∈ (s.sess n).aus, a.decoded = true) : s.tryStart n = s := by
  have none_ : (s.sess n).aus.find? (fun a => !a.decoded) = none := by
    rw [List.find?_eq_none]
    intro a ha
    simp [decoded a ha]
  unfold State.tryStart
  dsimp only
  rw [none_]

/-- An access unit without a buffer of its own, or of a first field, starts in a surface that its pool gives (R240, R241). -/
theorem State.startNext_takes {p : Pool} (single : (s.sess n).mateBuf a = none) (taken : ((s.unmarked n a).pool (poolDec n)).take = some (i, p)) :
    s.startNext n a = ((s.unmarked n a).setPool (poolDec n) { p with writing := none }).startAu n i a := by
  unfold State.startNext
  rw [single]
  dsimp only
  rw [taken]

theorem State.startNext_dispatched (s : State) (n : Nat) (a : DecAu) : State.Dispatched EngineSt.emptied s (s.startNext n a) := by
  refine .trans (.of_keeps (s.unmarked_keeps n a) rfl) ?_
  obtain ⟨i, eq⟩ | ⟨i, p, -, eq⟩ | eq := s.startNext_cases n a
  · exact eq ▸ State.startAu_dispatched ..
  · exact eq ▸ .trans (.of_keeps (State.setPool_keeps ..) rfl) (State.startAu_dispatched ..)
  · exact eq ▸ .of_keeps (State.waitAu_keeps ..) rfl

theorem State.tryStart_dispatched (s : State) (n : Nat) : State.Dispatched EngineSt.emptied s (s.tryStart n) := by
  obtain same | ⟨a, tried⟩ := s.tryStart_cases n
  · rw [same]
    exact .refl ..
  · rw [tried]
    exact .trans (s.startNext_dispatched n a) (.of_keeps (State.showPool_keeps ..) rfl)

/-! ### Access units of a session -/

/-- Between two states a session has taken no access unit of a picture that it did not have. -/
def State.NoNewPics (n : Nat) (s t : State) : Prop := ∀ x ∈ (t.sess n).aus, ∃ y ∈ (s.sess n).aus, y.pic = x.pic

theorem State.NoNewPics.trans {u : State} (h : State.NoNewPics n s u) (k : State.NoNewPics n u t) : State.NoNewPics n s t := by
  intro x hx
  obtain ⟨y, hy, same⟩ := k x hx
  obtain ⟨z, hz, same'⟩ := h y hy
  exact ⟨z, hz, same'.trans same⟩

theorem State.NoNewPics.of_sess (h : (t.sess n).aus = (s.sess n).aus) : State.NoNewPics n s t := by
  intro x hx
  exact ⟨x, h ▸ hx, rfl⟩

theorem State.NoNewPics.of_map {f : DecAu → DecAu} (h : (t.sess n).aus = (s.sess n).aus.map f) (hf : ∀ x, (f x).pic = x.pic) :
    State.NoNewPics n s t := by
  intro x hx
  rw [h] at hx
  obtain ⟨y, hy, rfl⟩ := List.mem_map.mp hx
  exact ⟨y, hy, (hf y).symm⟩

theorem State.unmarked_noNewPics (s : State) (n : Nat) (a : DecAu) : State.NoNewPics n s (s.unmarked n a) := by
  have marks : State.NoNewPics n s (s.markRefs n a) := .of_sess (by
    rw [State.markRefs, State.sess_modSess_self, (State.modPool_keeps ..).sess _ rfl])
  refine marks.trans ?_
  unfold State.unmarked State.dropPrior
  split_ifs
  · intro x hx
    rw [State.sess_modSess_self, (State.freeBufs_keeps ..).sess _ rfl] at hx
    exact ⟨x, List.mem_of_mem_filter hx, rfl⟩
  · exact .of_sess rfl

theorem State.startAu_noNewPics (s : State) (n i : Nat) (a : DecAu) : State.NoNewPics n s (s.startAu n i a) := by
  obtain ⟨b, refs, pic, -, eq⟩ := s.startAu_sess n i a
  refine .of_map (by rw [eq]) fun x => ?_
  split_ifs with same
  · rw [pic, same]
  · rfl

theorem State.waitAu_noNewPics (s : State) (n : Nat) (a : DecAu) : State.NoNewPics n s (s.waitAu n a) := by
  unfold State.waitAu
  split_ifs
  · exact .of_sess rfl
  · refine .of_map (by rw [State.sess_modSess_self, (State.bumpSat_keeps ..).sess _ rfl]) fun x => ?_
    split_ifs <;> rfl

theorem State.startNext_noNewPics (s : State) (n : Nat) (a : DecAu) : State.NoNewPics n s (s.startNext n a) := by
  refine (s.unmarked_noNewPics n a).trans ?_
  obtain ⟨i, eq⟩ | ⟨i, p, -, eq⟩ | eq := s.startNext_cases n a
  · exact eq ▸ State.startAu_noNewPics _ n i a
  · have given : State.NoNewPics n (s.unmarked n a) ((s.unmarked n a).setPool (poolDec n) { p with writing := none }) :=
      .of_sess (by rw [(State.setPool_keeps ..).sess _ rfl])
    exact eq ▸ given.trans (State.startAu_noNewPics _ n i a)
  · exact eq ▸ State.waitAu_noNewPics _ n a

theorem State.tryStart_noNewPics (s : State) (n : Nat) : State.NoNewPics n s (s.tryStart n) := by
  obtain same | ⟨a, tried⟩ := s.tryStart_cases n
  · rw [same]
    exact .of_sess rfl
  · rw [tried]
    exact (s.startNext_noNewPics n a).trans (.of_sess (by rw [(State.showPool_keeps ..).sess _ rfl]))

/-! ### A decoded picture (R239, R248, R255) -/

/-- An access unit that is no second field is its own picture. -/
theorem DecSession.join_first (d : DecSession) (first : a.info.second = false) :
    d.join a = (a, { d with aus := d.aus.map (fun x => if x.pic = a.pic then a else x) }) := by
  unfold DecSession.join
  simp [first]

/-- An access unit of a session all of whose rows are done: its samples, and whether these are concealed. -/
def DecAu.finish (a : DecAu) (d : DecSession) : DecAu :=
  { a with
    decoded := true, got := []
    picture := (List.range (picRows (dCodec d.cfg) a.info)).foldl (fun (p : Planes) r => p.append (Tbl.get a.got r)) {}
    concealed := a.concealed || (a.info.hashBad && dCodec d.cfg == 0 && (d.cfg.u8 24).testBit 1) }

/-- A picture that is decoded takes the place of its access unit in its session; then the next access unit is tried. -/
theorem State.picDecoded_eq {pic : Nat} (found : (s.sess n).aus.find? (fun a => a.pic == pic) = some a) (first : a.info.second = false)
    (output : a.info.output = true) :
    ∃ (b : DecAu) (u : State), b.pic = a.pic ∧ b.decoded = true ∧
      (u.sess n).aus = (s.sess n).aus.map (fun x => if x.pic = b.pic then b else x) ∧ s.picDecoded n pic = (u.showPool n).tryStart n := by
  unfold State.picDecoded
  dsimp only
  rw [found]
  dsimp only
  rw [DecSession.join_first _ (by exact first)]
  dsimp only
  refine ⟨a.finish (s.sess n), _, rfl, rfl, ?_, rfl⟩
  split
  · rw [State.sess_modSess_self, if_pos output]
    rfl
  · rw [(State.modPool_keeps ..).sess _ rfl, State.sess_modSess_self, if_pos output]
    rfl

/-- The picture of the one access unit of its number is decoded, where all others are. -/
theorem State.picDecoded_decodes {pic : Nat} (found : (s.sess n).aus.find? (fun a => a.pic == pic) = some a) (first : a.info.second = false)
    (output : a.info.output = true) (others : ∀ x ∈ (s.sess n).aus, x.pic ≠ pic → x.decoded = true) :
    ∃ x ∈ ((s.picDecoded n pic).sess n).aus, x.pic = pic ∧ x.decoded = true := by
  obtain ⟨b, u, same, decoded, aus, eq⟩ := State.picDecoded_eq found first output
  have number : b.pic = pic := same.trans (by simpa using List.find?_some found)
  have shown : ((u.showPool n).sess n).aus = (s.sess n).aus.map (fun x => if x.pic = b.pic then b else x) := by
    rw [(State.showPool_keeps ..).sess _ rfl, aus]
  rw [eq, State.tryStart_idle]
  · rw [shown]
    exact ⟨b, List.mem_map.mpr ⟨a, List.mem_of_find?_eq_some found, if_pos same.symm⟩, number, decoded⟩
  · intro x hx
    rw [shown] at hx
    obtain ⟨y, hy, rfl⟩ := List.mem_map.mp hx
    split_ifs with mine
    · exact decoded
    · exact others y hy fun h => mine (h.trans number.symm)

theorem State.picDecoded_dispatched (s : State) (n pic : Nat) : State.Dispatched EngineSt.emptied s (s.picDecoded n pic) := by
  unfold State.picDecoded
  dsimp only
  split
  · exact .refl ..
  · refine .trans (.trans ?_ (.of_keeps (State.showPool_keeps ..) rfl)) (State.tryStart_dispatched ..)
    have hashed : ∀ (c : Prop) (_ : Decidable c) (u : State) (mk : Nat → List Byte), State.Dispatched EngineSt.emptied u
        (if c then (u.bumpSat .DEC_SESS_HASH n).eventPerSec 0x3004 n 1 mk else u) := fun c _ u mk =>
      .ite (.trans (.of_keeps (State.bumpSat_keeps ..) rfl) (.of_keeps (State.eventPerSec_keeps ..) rfl)) (.refl ..)
    split
    · exact .trans (hashed ..) (.of_keeps (State.modSess_keeps ..) rfl)
    · exact .trans (.trans (hashed ..) (.of_keeps (State.modSess_keeps ..) rfl)) (.of_keeps (State.modPool_keeps ..) rfl)

end

end Sys2Proof.Machine
end

section
/-! SUPPORT. Rows that PEs complete (06_coding_fabric_decode.md R225, R227, R233, R235, R248). -/

namespace Sys2Proof

/-- A job that joins the empty job lists is alone in them. -/
theorem Tbl.modify_append_nil {a : Machine.Job} (k : Nat) : Tbl.modify ([] : List (Nat × List Machine.Job)) k (fun l => l ++ [a]) = [(k, [a])] := by
  simp [Tbl.modify, Tbl.set, Tbl.get, Tbl.setD, Tbl.getD, Tbl.find, Tbl.insert, show (default : List Machine.Job) = [] from rfl]

end Sys2Proof

namespace Sys2Proof.Machine

section

variable {n : Nat} {row : DecRow} {j : Job} {s : State}

/-! ### A reconstructed row (R233) -/

theorem State.noteRecon_fab (s : State) (x : Nat × Nat × Nat) :
    ∃ l, (s.noteRecon x).fab = { s.fab with rowsRecon := l } ∧ x ∈ l ∧ ∀ y ∈ s.fab.rowsRecon, y ∈ l := by
  unfold State.noteRecon
  split_ifs with noted
  · exact ⟨_, rfl, by simpa using noted, fun y hy => hy⟩
  · exact ⟨_, rfl, List.mem_cons_self, fun y hy => List.mem_cons_of_mem _ hy⟩

/-- A PE's row counts as reconstructed. -/
def State.rowReconstructed (s : State) (n : Nat) (j : Job) : State :=
  (s.setPe n ((s.peSt n).modJob j.num (fun j => { j with recon := true }))).noteRecon j.key

theorem State.rowReconstructed_fab (s : State) (n : Nat) (j : Job) :
    ∃ pe l, (s.rowReconstructed n j).fab = { s.fab with pe := pe, rowsRecon := l } ∧
      Tbl.get pe n = (s.peSt n).modJob j.num (fun j => { j with recon := true }) ∧ j.key ∈ l ∧ ∀ y ∈ s.fab.rowsRecon, y ∈ l := by
  obtain ⟨l, eq, here, before⟩ := (s.setPe n ((s.peSt n).modJob j.num (fun j => { j with recon := true }))).noteRecon_fab j.key
  rw [State.setPe_fab] at eq before
  exact ⟨_, l, eq, Tbl.get_set_self .., here, before⟩

theorem State.rowReconstructed_keeps (s : State) (n : Nat) (j : Job) :
    Keeps 8192 10141204801825835211973625643008 s (s.rowReconstructed n j) :=
  KeepsLaws.comp (State.setPe_keeps ..) (State.noteRecon_keeps ..) (KeepsLaws.subI rfl rfl)

/-- The entropy job of an encode row. -/
def Job.entropy (j : Job) : Job :=
  { owner := j.owner, pic := j.pic, row := j.row, rows := j.rows, cols := j.cols, seg := j.row }

/-- What a row that waits keeps of a session's access unit of its picture. -/
def DecSession.keepRow (d : DecSession) (j : Job) (row : DecRow) (a : DecAu) : DecAu :=
  if a.pic = j.pic then
    { a with got := Tbl.set a.got j.row (decodedRow (dCodec d.cfg) a.info d.last j.row row), concealed := a.concealed || row.lost != [] }
  else a

/-- An encode row's entropy job waits; a decode row's samples are kept and its granule is free. -/
def State.rowOut (s : State) (j : Job) (row : DecRow) : State :=
  if j.owner < 64 then
    s.toDramEe j.entropy
  else
    (s.oreDrop j.key).modSess (j.owner - 64) (fun d =>
      { d with aus := d.aus.map (d.keepRow j row) })

theorem State.rowRecon_eq (s : State) (n : Nat) (j : Job) (row : DecRow) :
    s.rowRecon n j row = ((((s.rowReconstructed n j).rowOut j row).settleRows j.owner j.pic).checkPicture j).refill := rfl

theorem execJobComplete_reconstructs {p : Fin 32} (bins : Nat) (running : (s.peSt p).running = some j) (healthy : (s.peSt p).failed = false)
    (started : j.started = true) (above : s.aboveDone j = true) : execJobComplete (.pe p) bins row s = .next (s.rowRecon p j row) := by
  unfold execJobComplete
  dsimp only
  rw [running]
  dsimp only
  rw [if_pos (by simp [started, healthy, above])]

/-! ### An encode row goes to an EE (R225, R232) -/

/-- A channel's row is reconstructed and its entropy job waits; no picture is checked for it. -/
theorem State.rowRecon_chan (chan : j.owner < 64) :
    ∃ u : State, s.rowRecon n j row = u.refill ∧ j.key ∈ u.fab.rowsRecon ∧ u.fab.ee = s.fab.ee ∧ u.fab.eePlaces = s.fab.eePlaces ∧
      u.fab.dram = s.fab.dram ∧
      u.fab.dramEe = Tbl.modify s.fab.dramEe j.owner (fun l => l ++ [j.entropy]) := by
  obtain ⟨pe, l, recon, -, here, -⟩ := s.rowReconstructed_fab n j
  obtain ⟨pe', done, settled⟩ := ((s.rowReconstructed n j).rowOut j row).settles_fold j.owner j.pic (List.range 32)
  rw [← State.settleRows_eq] at settled
  have unchecked : ((((s.rowReconstructed n j).rowOut j row).settleRows j.owner j.pic).checkPicture j) =
      (((s.rowReconstructed n j).rowOut j row).settleRows j.owner j.pic) := if_neg (by omega)
  have out : ((s.rowReconstructed n j).rowOut j row).fab = { (s.rowReconstructed n j).fab with
      dramEe := Tbl.modify (s.rowReconstructed n j).fab.dramEe j.owner (fun l => l ++ [j.entropy]) } := by
    rw [State.rowOut, if_pos chan]
    rfl
  refine ⟨_, by rw [State.rowRecon_eq, unchecked], ?_⟩
  rw [settled, out, recon]
  exact ⟨here, rfl, rfl, rfl, rfl⟩

theorem State.rowRecon_entropy {k : Nat} (chan : j.owner < 64) (rows : s.fab.dram = []) (entropy : s.fab.dramEe = [])
    (few : fewest (fun n => (s.eeSt n).queue.length) (s.eesOf j.owner) = some k) (room : (s.eeSt k).queue.length < 16) :
    ∃ q, ((s.rowRecon n j row).eeSt k).queue = (s.eeSt k).queue ++ [q] ∧ q.key = j.key := by
  obtain ⟨u, eq, -, ee, places, dram, dramEe⟩ := State.rowRecon_chan (n := n) (s := s) (row := row) chan
  have same : ∀ k, u.eeSt k = s.eeSt k := fun k => congrArg (fun l => Tbl.get l k) ee
  have held : u.eesOf j.owner = s.eesOf j.owner := congrArg (fun l => Tbl.get l j.owner) places
  rw [entropy] at dramEe
  refine ⟨{ j.entropy with num := u.fab.nextNum }, ?_, rfl⟩
  rw [eq, ← same]
  refine State.refill_entropyRow (dram.trans rows) (dramEe.trans (Tbl.modify_append_nil ..)) chan ?_ (by rwa [same])
  simpa only [same, held] using few

/-! ### A decode row (R227, R235, R248) -/

/-- Only jobs of pictures that are gone give granules back. -/
theorem State.checkPicture_ore (s : State) (j : Job) {x : Nat × Nat × Nat} (h : x ∈ (s.checkPicture j).fab.ore) : x ∈ s.fab.ore := by
  unfold State.checkPicture at h
  split_ifs at h
  · rw [(State.picDecoded_dispatched ..).kept Fabric.ore fun _ => rfl, (State.dropJobs_dispatched ..).kept Fabric.ore fun _ => rfl] at h
    exact List.mem_of_mem_filter h
  · exact h

theorem State.rowRecon_granule (dec : 64 ≤ j.owner) : j.key ∉ (s.rowRecon n j row).fab.ore := by
  intro held
  rw [State.rowRecon_eq, (State.refill_dispatched _).kept Fabric.ore fun _ => rfl] at held
  have settled := State.checkPicture_ore _ _ held
  obtain ⟨pe, done, eq⟩ := ((s.rowReconstructed n j).rowOut j row).settles_fold j.owner j.pic (List.range 32)
  rw [State.settleRows_eq, eq, State.rowOut, if_neg (by omega)] at settled
  simpa using (List.mem_filter.mp settled).2

end

end Sys2Proof.Machine
end

section
/-! SUPPORT. The last row of a picture makes the picture decoded (06_coding_fabric_decode.md R233, R248, log 185). -/

namespace Sys2Proof.Machine

section

variable {n : Nat} {row : DecRow} {j : Job} {s : State}

/-- A decode row that is out: the row is reconstructed, what was reconstructed still is, and the rows done are as they were. -/
theorem State.rowOut_decode (dec : 64 ≤ j.owner) (s : State) (n : Nat) (row : DecRow) :
    ∃ pe l ore, ((s.rowReconstructed n j).rowOut j row).fab = { s.fab with pe := pe, rowsRecon := l, ore := ore } ∧
      Tbl.get pe n = (s.peSt n).modJob j.num (fun j => { j with recon := true }) ∧ ∀ y ∈ s.fab.rowsRecon, y ∈ l := by
  obtain ⟨pe, l, eq, here, -, before⟩ := s.rowReconstructed_fab n j
  refine ⟨pe, l, s.fab.ore.filter (fun y => y != j.key), ?_, here, before⟩
  rw [State.rowOut, if_neg (by omega), (State.modSess_keeps ..).fab rfl]
  exact congrArg (fun f : Fabric => { f with ore := f.ore.filter (fun y => y != j.key) }) eq

theorem State.rowOut_sess (dec : 64 ≤ j.owner) (s : State) (n : Nat) (row : DecRow) :
    ((s.rowReconstructed n j).rowOut j row).sess (j.owner - 64) =
      { s.sess (j.owner - 64) with aus := (s.sess (j.owner - 64)).aus.map ((s.sess (j.owner - 64)).keepRow j row) } := by
  rw [State.rowOut, if_neg (by omega), State.sess_modSess_self, (State.oreDrop_keeps ..).sess _ rfl, (State.rowReconstructed_keeps ..).sess _ rfl]

/-- The row below being reconstructed, a PE's row settles as soon as it is out. -/
theorem State.rowOut_settled (dec : 64 ≤ j.owner) (running : (s.peSt n).running = some j) (below : s.belowDone j = true) :
    { j with recon := true } ∈ ((s.rowReconstructed n j).rowOut j row).settled j.owner j.pic n := by
  obtain ⟨pe, l, ore, eq, here, before⟩ := State.rowOut_decode dec s n row
  have filtered : ((s.rowReconstructed n j).rowOut j row).belowDone { j with recon := true } = true := by
    rw [State.belowDone, eq]
    rw [State.belowDone, Bool.or_eq_true] at below
    refine (Bool.or_eq_true ..).mpr (below.imp id fun listed => ?_)
    simpa using before _ (by simpa using listed)
  refine List.mem_filter.mpr ⟨?_, by simp [filtered]⟩
  rw [State.peSt, eq]
  dsimp only
  rw [here]
  exact List.mem_map.mpr ⟨j, List.mem_of_find?_eq_some running, if_pos rfl⟩

/-- With the rows that settle all rows of a picture are done. -/
theorem State.rows_all_done (dec : 64 ≤ j.owner) (hn : n < 32) (running : (s.peSt n).running = some j) (below : s.belowDone j = true)
    (others : ∀ r, r < j.rows → r ≠ j.row → (j.owner, j.pic, r) ∈ s.fab.rowsDone) {r : Nat} (hr : r < j.rows) :
    (j.owner, j.pic, r) ∈ (((s.rowReconstructed n j).rowOut j row).settleRows j.owner j.pic).fab.rowsDone := by
  by_cases mine : r = j.row
  · subst mine
    exact State.settleRows_done (j := { j with recon := true }) hn (State.rowOut_settled dec running below)
  · obtain ⟨pe, l, ore, eq, -⟩ := State.rowOut_decode dec s n row
    obtain ⟨pe', done, settled⟩ := ((s.rowReconstructed n j).rowOut j row).settles_fold j.owner j.pic (List.range 32)
    rw [State.settleRows_eq, settled, eq]
    exact List.mem_append_right _ (others r hr mine)

theorem DecSession.keepRow_pic (d : DecSession) (j : Job) (row : DecRow) (a : DecAu) : (d.keepRow j row a).pic = a.pic := by
  unfold DecSession.keepRow
  split_ifs <;> rfl

theorem DecSession.keepRow_info (d : DecSession) (j : Job) (row : DecRow) (a : DecAu) : (d.keepRow j row a).info = a.info := by
  unfold DecSession.keepRow
  split_ifs <;> rfl

theorem DecSession.keepRow_decoded (d : DecSession) (j : Job) (row : DecRow) (a : DecAu) : (d.keepRow j row a).decoded = a.decoded := by
  unfold DecSession.keepRow
  split_ifs <;> rfl

/-- The last row of a picture that a session outputs makes the picture decoded. -/
theorem State.rowRecon_decodes {a : DecAu} (dec : 64 ≤ j.owner) (hn : n < 32) (running : (s.peSt n).running = some j)
    (others : ∀ r, r < j.rows → r ≠ j.row → (j.owner, j.pic, r) ∈ s.fab.rowsDone) (below : s.belowDone j = true)
    (ha : a ∈ (s.sess (j.owner - 64)).aus) (pic : a.pic = j.pic) (only : ∀ x ∈ (s.sess (j.owner - 64)).aus, x.pic = j.pic → x = a)
    (output : a.info.output = true) (first : a.info.second = false)
    (decoded : ∀ x ∈ (s.sess (j.owner - 64)).aus, x.pic ≠ j.pic → x.decoded = true) :
    ∃ x ∈ ((s.rowRecon n j row).sess (j.owner - 64)).aus, x.pic = j.pic ∧ x.decoded = true := by
  let d := s.sess (j.owner - 64)
  let v := ((s.rowReconstructed n j).rowOut j row).settleRows j.owner j.pic
  let w := v.dropJobs (fun o p => o == j.owner && p == j.pic)
  have checked : v.checkPicture j = w.picDecoded (j.owner - 64) j.pic := if_pos ⟨dec, List.all_eq_true.mpr fun r hr => by
    simpa using State.rows_all_done dec hn running below others (List.mem_range.mp hr)⟩
  have aus : (w.sess (j.owner - 64)).aus = d.aus.map (d.keepRow j row) := by
    rw [(State.dropJobs_keeps ..).sess _ rfl, (State.settleRows_keeps ..).sess _ rfl, State.rowOut_sess dec]
  obtain ⟨a0, found⟩ : ∃ a0, (w.sess (j.owner - 64)).aus.find? (fun a => a.pic == j.pic) = some a0 := by
    refine Option.isSome_iff_exists.mp (List.find?_isSome.mpr ⟨d.keepRow j row a, ?_, by simp [DecSession.keepRow_pic, pic]⟩)
    rw [aus]
    exact List.mem_map_of_mem ha
  have info : a0.info = a.info := by
    have number : a0.pic = j.pic := by simpa using List.find?_some found
    obtain ⟨x, hx, rfl⟩ := List.mem_map.mp (aus ▸ List.mem_of_find?_eq_some found)
    rw [DecSession.keepRow_pic] at number
    rw [DecSession.keepRow_info, only x hx number]
  rw [State.rowRecon_eq, (State.refill_keeps _).sess _ rfl]
  change ∃ x ∈ ((v.checkPicture j).sess (j.owner - 64)).aus, _
  rw [checked]
  refine State.picDecoded_decodes found (info ▸ first) (info ▸ output) fun x hx other => ?_
  obtain ⟨y, hy, rfl⟩ := List.mem_map.mp (aus ▸ hx)
  rw [DecSession.keepRow_pic] at other
  rw [DecSession.keepRow_decoded]
  exact decoded y hy other

/-- A channel's row counts as reconstructed, and what moves up does not change that. -/
theorem State.rowRecon_noted (chan : j.owner < 64) : j.key ∈ (s.rowRecon n j row).fab.rowsRecon := by
  obtain ⟨u, eq, noted, -⟩ := State.rowRecon_chan (n := n) (s := s) (row := row) chan
  rw [eq, (State.refill_dispatched u).kept Fabric.rowsRecon fun _ => rfl]
  exact noted

end

end Sys2Proof.Machine
end

section
/-! SUPPORT. Engines of either kind, and the first mismatch of a job (06_coding_fabric_decode.md R243, R245). -/

namespace Sys2Proof.Machine

/-! ### Engines of a kind -/

/-- Engine k of the kind of e. -/
def State.kin (s : State) (e : Engine) (k : Nat) : EngineSt :=
  match e with
  | .pe _ => s.peSt k
  | .ee _ => s.eeSt k

section

variable {s t : State} {e f : Engine} {j k : Job}

theorem State.engine_eq_kin (s : State) (e : Engine) : s.engine e = s.kin e (engNum e) := by cases e <;> rfl

theorem State.kin_of_fab (h : t.fab = s.fab) (e : Engine) (k : Nat) : t.kin e k = s.kin e k := by
  cases e <;> simp only [State.kin, State.peSt, State.eeSt, h]

theorem State.engine_of_fab (h : t.fab = s.fab) (e : Engine) : t.engine e = s.engine e := by
  rw [State.engine_eq_kin, State.engine_eq_kin, State.kin_of_fab h]

theorem State.Dispatched.kin {α : Type} {f : EngineSt → α} (h : State.Dispatched f s t) (e : Engine) (k : Nat) : f (t.kin e k) = f (s.kin e k) := by
  cases e with
  | pe n => exact h.pe k
  | ee n => exact h.ee k

theorem State.kin_setEngine (s : State) (e : Engine) (x : EngineSt) (k : Nat) :
    (s.setEngine e x).kin e k = if engNum e = k then x else s.kin e k := by
  cases e with
  | pe n => exact s.peSt_setPe n k x
  | ee n => exact s.eeSt_setEe n k x

theorem State.engine_setEngine_self (s : State) (e : Engine) (x : EngineSt) : (s.setEngine e x).engine e = x := by
  rw [State.engine_eq_kin, State.kin_setEngine, if_pos rfl]

theorem State.engine_setEngine_ne (h : e ≠ f) (s : State) (x : EngineSt) : (s.setEngine e x).engine f = s.engine f := by
  cases e with
  | pe n =>
    cases f with
    | pe m => exact (s.peSt_setPe n m x).trans (if_neg fun same => h (congrArg Engine.pe (Fin.ext same)))
    | ee m => exact s.eeSt_setPe n m x
  | ee n =>
    cases f with
    | pe m => exact s.peSt_setEe n m x
    | ee m => exact (s.eeSt_setEe n m x).trans (if_neg fun same => h (congrArg Engine.ee (Fin.ext same)))

/-! ### A job that is repeated (R243) -/

/-- The mismatches of an engine's jobs. -/
def State.countRetry (s : State) (e : Engine) : State :=
  match e with
  | .pe n => s.bumpSat .CF_PE_RETRY n.val
  | .ee n => s.bumpSat .CF_EE_RETRY n.val

theorem State.countRetry_fab (s : State) (e : Engine) : (s.countRetry e).fab = s.fab := by
  cases e <;> exact State.bumpSat_fab ..

theorem State.retryJob_eq (s : State) (e : Engine) (j : Job) : ∃ mk,
    s.retryJob e j = (((s.setEngine e ((s.engine e).modJob j.num (fun j => j.again 1))).countRetry e).eventPerSec 0x3010
      ((engKind e) * 64 + (engNum e)) 1 mk).fault (engIsland e) fcRETRY 0 (engNum e) [] := by
  cases e <;> exact ⟨_, rfl⟩

theorem State.retryJob_fab (s : State) (e : Engine) (j : Job) :
    (s.retryJob e j).fab = (s.setEngine e ((s.engine e).modJob j.num (fun j => j.again 1))).fab := by
  obtain ⟨mk, eq⟩ := s.retryJob_eq e j
  rw [eq, (State.fault_keeps ..).fab rfl, (State.eventPerSec_keeps ..).fab rfl, State.countRetry_fab]

theorem State.retryJob_engine_self (s : State) (e : Engine) (j : Job) :
    (s.retryJob e j).engine e = (s.engine e).modJob j.num (fun j => j.again 1) := by
  rw [State.engine_of_fab (s.retryJob_fab e j), State.engine_setEngine_self]

theorem State.retryJob_engine_ne (h : e ≠ f) (s : State) (j : Job) : (s.retryJob e j).engine f = s.engine f := by
  rw [State.engine_of_fab (s.retryJob_fab e j), State.engine_setEngine_ne h]

theorem State.countRetry_keeps (s : State) (e : Engine) :
    Keeps 0 (2 ^ Reg.CF_PE_RETRY.ctorIdx ||| 2 ^ Reg.CF_EE_RETRY.ctorIdx) s (s.countRetry e) := by
  cases e <;> exact KeepsLaws.mono (State.bumpSat_keeps ..) (KeepsLaws.subI rfl rfl)

theorem State.retryJob_logs (s : State) (e : Engine) (j : Job) : Logs s (s.retryJob e j) (engIsland e) 0x05 0 := by
  obtain ⟨mk, eq⟩ := s.retryJob_eq e j
  rw [eq]
  have set : Keeps 8460 (91270843216432516907762631380992 ||| (2 ^ Reg.CF_PE_RETRY.ctorIdx ||| 2 ^ Reg.CF_EE_RETRY.ctorIdx)) s _ :=
    KeepsLaws.mono (s.setEngine_keeps e ((s.engine e).modJob j.num (fun j => j.again 1))) (KeepsLaws.subI rfl rfl)
  exact State.fault_logs (KeepsLaws.comp (KeepsLaws.comp set (State.countRetry_keeps ..) (KeepsLaws.subI rfl rfl)) (State.eventPerSec_keeps ..)
    (KeepsLaws.subI rfl rfl)) _ _ _ _ _ rfl rfl rfl

theorem State.retryJob_counts_pe (s : State) (n : Fin 32) (j : Job) :
    (s.retryJob (.pe n) j).getReg .CF_PE_RETRY n = (s.bumpSat .CF_PE_RETRY n).getReg .CF_PE_RETRY n := by
  obtain ⟨mk, eq⟩ := s.retryJob_eq (.pe n) j
  rw [eq, (State.fault_keeps ..).reg rfl, (State.eventPerSec_keeps ..).reg rfl]
  exact State.getReg_bumpSat_congr ((State.setPe_keeps ..).reg rfl)

theorem State.retryJob_counts_ee (s : State) (n : Fin 8) (j : Job) :
    (s.retryJob (.ee n) j).getReg .CF_EE_RETRY n = (s.bumpSat .CF_EE_RETRY n).getReg .CF_EE_RETRY n := by
  obtain ⟨mk, eq⟩ := s.retryJob_eq (.ee n) j
  rw [eq, (State.fault_keeps ..).reg rfl, (State.eventPerSec_keeps ..).reg rfl]
  exact State.getReg_bumpSat_congr ((State.setEe_keeps ..).reg rfl)

/-! ### Mismatches of one and of two engines -/

theorem execJobResidueMismatch_retries (executing : s.executing e = some j) (healthy : (s.engine e).failed = false) (first : j.bad = 0) :
    execJobResidueMismatch e none s = .next (s.retryJob e j) := by
  simp [execJobResidueMismatch, engOrder, executing, healthy, first]

/-- Mismatches of two engines in one cycle are taken in the engines' order. -/
theorem execJobResidueMismatch_retries_both (other : e ≠ f) (he : s.executing e = some j) (hf : s.executing f = some k)
    (sound : (s.engine e).failed = false) (sound' : (s.engine f).failed = false) (first : j.bad = 0) (first' : k.bad = 0) :
    execJobResidueMismatch e (some f) s = .next ((s.retryJob e j).retryJob f k) ∨
      execJobResidueMismatch e (some f) s = .next ((s.retryJob f k).retryJob e j) := by
  unfold execJobResidueMismatch engOrder
  dsimp only
  by_cases before : engKind f * 64 + engNum f < engKind e * 64 + engNum e
  · right
    simp [before, he, hf, sound, sound', first, first']
  · left
    simp [before, other, he, hf, sound, sound', first, first']

/-- Two engines repeat their jobs, in whatever order they come. -/
theorem State.retryJob_both (other : e ≠ f) (s : State) (j k : Job) :
    ((s.retryJob e j).retryJob f k).engine e = (s.engine e).modJob j.num (fun j => j.again 1) ∧
      ((s.retryJob e j).retryJob f k).engine f = (s.engine f).modJob k.num (fun j => j.again 1) := by
  constructor
  · rw [State.retryJob_engine_ne (Ne.symm other), State.retryJob_engine_self]
  · rw [State.retryJob_engine_self, State.retryJob_engine_ne other]

theorem execJobResidueMismatch_repeats_both (other : e ≠ f) (he : s.executing e = some j) (hf : s.executing f = some k)
    (sound : (s.engine e).failed = false) (sound' : (s.engine f).failed = false) (first : j.bad = 0) (first' : k.bad = 0) :
    ∃ t, execJobResidueMismatch e (some f) s = .next t ∧ t.engine e = (s.engine e).modJob j.num (fun j => j.again 1) ∧
      t.engine f = (s.engine f).modJob k.num (fun j => j.again 1) := by
  obtain taken | taken := execJobResidueMismatch_retries_both other he hf sound sound' first first'
  · exact ⟨_, taken, s.retryJob_both other j k⟩
  · exact ⟨_, taken, (s.retryJob_both (Ne.symm other) k j).symm⟩

end

end Sys2Proof.Machine
end

section
/-! SUPPORT. The second mismatch of a job: the engine fails, and a spare takes its place or its sessions stop (06_coding_fabric_decode.md
R244, R245). -/

namespace Sys2Proof

/-- A filter that passes the listed value of a key leaves it listed. -/
theorem Tbl.find_filter {α : Type} {t : Tbl α} {p : Nat × α → Bool} {i : Nat} {x : α} (found : Tbl.find t i = some x) (pass : p (i, x) = true) :
    Tbl.find (t.filter p) i = some x := by
  induction t with
  | nil => exact found
  | cons e t ih =>
    obtain ⟨k, v⟩ := e
    rw [Tbl.find] at found
    split_ifs at found with here
    · obtain rfl : v = x := Option.some.inj found
      subst here
      rw [List.filter_cons_of_pos pass, Tbl.find, if_pos rfl]
    · rw [List.filter_cons]
      split_ifs
      · rw [Tbl.find, if_neg here]
        exact ih found
      · exact ih found

end Sys2Proof

namespace Sys2Proof.Machine

section

variable {s t : State} {e : Engine} {j : Job} {k : Nat}

/-! ### The spare's place (R244) -/

/-- The engines of e's kind that an owner holds. -/
def State.heldBy (s : State) (e : Engine) (o : Nat) : List Nat :=
  match e with
  | .pe _ => s.pesOf o
  | .ee _ => s.eesOf o

/-- A table of engines with a spare in a failed engine's place. -/
def swapPlaces (n : Nat) (k : Option Nat) (t : Tbl (List Nat)) : Tbl (List Nat) :=
  (t.map (fun p => (p.1, swapNum n k p.2))).filter (fun p => p.2 != [])

theorem mem_swapNum {n : Nat} {l : List Nat} (h : n ∈ l) : k ∈ swapNum n (some k) l :=
  List.mem_map.mpr ⟨n, h, if_pos rfl⟩

/-- Who held the failed engine holds the spare. -/
theorem mem_swapPlaces {n o : Nat} {t : Tbl (List Nat)} (h : n ∈ Tbl.get t o) : k ∈ Tbl.get (swapPlaces n (some k) t) o := by
  rw [Tbl.get, Tbl.getD] at h
  cases found : Tbl.find t o with
  | none =>
    rw [found] at h
    exact absurd h List.not_mem_nil
  | some l =>
    rw [found] at h
    have taken := mem_swapNum (k := k) h
    have mapped : Tbl.find (t.map (fun p => (p.1, swapNum n (some k) p.2))) o = some (swapNum n (some k) l) := by
      rw [Tbl.find_map t (fun _ => swapNum n (some k)), found]
      rfl
    rw [swapPlaces, Tbl.get, Tbl.getD, Tbl.find_filter mapped (by simpa using List.ne_nil_of_mem taken)]
    exact taken

theorem State.swapEngine_kin (s : State) (e : Engine) (k : Option Nat) (f : Engine) (m : Nat) : (s.swapEngine e k).kin f m = s.kin f m := by
  cases e <;> cases f <;> rfl

theorem State.swapEngine_heldBy {o : Nat} (h : engNum e ∈ s.heldBy e o) : k ∈ (s.swapEngine e (some k)).heldBy e o := by
  cases e <;> exact mem_swapPlaces h

theorem State.spareFor_healthy (spare : s.spareFor e = some k) : (s.kin e k).failed = false := by
  have listed : k ∈ (match e with | .pe _ => s.spares.1 | .ee _ => s.spares.2) := by
    unfold State.spareFor at spare
    dsimp only at spare
    split at spare
    · rename_i found
      exact Option.some.inj spare ▸ List.mem_of_find?_eq_some found
    · exact List.mem_of_getElem? spare
  cases e with
  | pe n =>
    have := (List.mem_filter.mp listed).2
    simp only [Bool.and_eq_true, Bool.not_eq_true'] at this
    exact this.1.1
  | ee n =>
    have := (List.mem_filter.mp listed).2
    simp only [Bool.and_eq_true, Bool.not_eq_true'] at this
    exact this.1.1

/-! ### The failed engine (R244) -/

/-- The jobs of a failed engine, the failed one first. -/
def EngineSt.left (x : EngineSt) (j : Job) : List Job := j.again 0 :: x.queue.filter (fun k => k.num != j.num)

/-- An engine that has failed in a job. -/
def EngineSt.out (x : EngineSt) (j : Job) : EngineSt := { x with failed := true, failedJob := j.num % 256, queue := [], owner := none }

/-- A failed engine is out, and its spare is in its place. -/
def State.engineOut (s : State) (e : Engine) (j : Job) : State :=
  ((s.setEngine e ((s.engine e).out j)).event 0x3011
    [BitVec.ofNat 8 (engKind e), BitVec.ofNat 8 (engNum e), BitVec.ofNat 8 ((s.engine e).owner.getD 0xFE),
      BitVec.ofNat 8 (bit01 (s.spareFor e).isSome)]).swapEngine e (s.spareFor e)

theorem State.engineOut_kin (s : State) (e : Engine) (j : Job) (m : Nat) :
    (s.engineOut e j).kin e m = if engNum e = m then (s.engine e).out j else s.kin e m := by
  rw [State.engineOut, State.swapEngine_kin, State.kin_of_fab ((State.event_keeps ..).fab rfl), State.kin_setEngine]

theorem State.heldBy_of_fab (h : t.fab = s.fab) (o : Nat) : t.heldBy e o = s.heldBy e o := by
  cases e <;> simp only [State.heldBy, State.pesOf, State.eesOf, h]

theorem State.Dispatched.heldBy {α : Type} {f : EngineSt → α} (h : State.Dispatched f s t) (e : Engine) (o : Nat) : t.heldBy e o = s.heldBy e o := by
  cases e with
  | pe n => exact h.kept (fun x => Tbl.get x.places o) fun _ => rfl
  | ee n => exact h.kept (fun x => Tbl.get x.eePlaces o) fun _ => rfl

theorem State.setEngine_heldBy (s : State) (e : Engine) (x : EngineSt) (o : Nat) : (s.setEngine e x).heldBy e o = s.heldBy e o := by
  cases e with
  | pe n => exact (State.Dispatched.setPe (f := fun _ => ()) n rfl).heldBy (.pe n) o
  | ee n => exact (State.Dispatched.setEe (f := fun _ => ()) n rfl).heldBy (.ee n) o

theorem State.engineOut_heldBy {o : Nat} (spare : s.spareFor e = some k) (h : engNum e ∈ s.heldBy e o) : k ∈ (s.engineOut e j).heldBy e o := by
  rw [State.engineOut, spare]
  refine State.swapEngine_heldBy ?_
  rw [State.heldBy_of_fab ((State.event_keeps ..).fab rfl), State.setEngine_heldBy]
  exact h

/-! ### Jobs that move to the spare (R232, R244) -/

/-- Jobs that join job lists leave the engines alone. -/
theorem State.listed_dispatched (s : State) (l : List Job) : State.Dispatched id s (l.foldl (fun s j => s.toDram j) s) :=
  .foldl fun _ _ => .update rfl rfl rfl

theorem State.listedEe_dispatched (s : State) (l : List Job) : State.Dispatched id s (l.foldl (fun s j => s.toDramEe j) s) :=
  .foldl fun _ _ => .update rfl rfl rfl

theorem State.moveJobs_kin (s : State) (e : Engine) (k : Nat) (l : List Job) (m : Nat) :
    (s.moveJobs e k l).kin e m =
      if k = m then { s.kin e k with queue := (s.kin e k).queue ++ l.take (16 - (s.kin e k).queue.length) } else s.kin e m := by
  cases e with
  | pe n => exact ((State.listed_dispatched _ _).pe m).trans (s.peSt_setPe ..)
  | ee n => exact ((State.listedEe_dispatched _ _).ee m).trans (s.eeSt_setEe ..)

theorem State.moveJobs_dispatched (s : State) (e : Engine) (k : Nat) (l : List Job) : State.Dispatched EngineSt.emptied s (s.moveJobs e k l) := by
  cases e with
  | pe n =>
    refine .trans ?_ ((State.listed_dispatched ..).through _ fun _ => rfl)
    exact .setPe k rfl
  | ee n =>
    refine .trans ?_ ((State.listedEe_dispatched ..).through _ fun _ => rfl)
    exact .setEe k rfl

theorem State.showOwners_dispatched (s : State) : State.Dispatched EngineSt.unowned s s.showOwners := by
  refine .trans ?_ (.of_keeps (State.showEngines_keeps _) rfl)
  refine .trans ?_ (.foldl fun u c => .of_fab (State.setBits_fab ..))
  refine .trans ?_ (.foldl fun u c => .ite (.refl ..) (.setEe c rfl))
  exact .foldl fun u c => .ite (.refl ..) (.setPe c rfl)

end

end Sys2Proof.Machine
end

section
/-! SUPPORT. Failover as a whole (06_coding_fabric_decode.md R244, R245). -/

namespace Sys2Proof.Machine

section

variable {s t : State} {e : Engine} {j : Job} {k n : Nat}

theorem State.engineOut_keeps (s : State) (e : Engine) (j : Job) : Keeps 24588 91270843216432516907762631380992 s (s.engineOut e j) := by
  have set : Keeps 24588 91270843216432516907762631380992 s (s.setEngine e ((s.engine e).out j)) :=
    KeepsLaws.mono (State.setEngine_keeps ..) (KeepsLaws.subI rfl rfl)
  exact KeepsLaws.comp (KeepsLaws.comp set (State.event_keeps ..) (KeepsLaws.subI rfl rfl)) (State.swapEngine_keeps ..) (KeepsLaws.subI rfl rfl)

theorem State.sess_modSess_ne {m : Nat} (s : State) (h : n ≠ m) (f : DecSession → DecSession) : (s.modSess n f).sess m = s.sess m :=
  Tbl.get_set_ne _ _ h

/-! ### A spare takes over (R244) -/

/-- Past the jobs that move, a failover with a spare changes nothing of the engines but who owns them. -/
theorem State.failEngine_spare (spare : s.spareFor e = some k) : ∃ data,
    s.failEngine e j = ((((((s.engineOut e j).moveJobs e k ((s.engine e).left j)).showOwners).event 0x3012 data).fault
      (engIsland e) fcENGINE 0 (engNum e) []).checkSpares).countJobs := by
  unfold State.failEngine State.engineOut
  dsimp only
  rw [spare]
  exact ⟨_, rfl⟩

theorem State.failEngine_spare_dispatched (spare : s.spareFor e = some k) :
    State.Dispatched EngineSt.unowned ((s.engineOut e j).moveJobs e k ((s.engine e).left j)) (s.failEngine e j) := by
  obtain ⟨data, eq⟩ := State.failEngine_spare (j := j) spare
  rw [eq]
  refine .trans ?_ (.of_keeps (State.countJobs_keeps _) rfl)
  refine .trans ?_ (.of_keeps (State.checkSpares_keeps _) rfl)
  refine .trans ?_ (.of_keeps (State.fault_keeps ..) rfl)
  exact .trans (State.showOwners_dispatched _) (.of_keeps (State.event_keeps ..) rfl)

theorem State.failEngine_spare_logs (spare : s.spareFor e = some k) : Logs s (s.failEngine e j) (engIsland e) 0x06 0 := by
  obtain ⟨data, eq⟩ := State.failEngine_spare (j := j) spare
  rw [eq]
  have out : Keeps 24588 5317652449546521806114377502881812480 s (s.engineOut e j) :=
    KeepsLaws.mono (State.engineOut_keeps ..) (KeepsLaws.subI rfl rfl)
  have moved := KeepsLaws.comp (KeepsLaws.comp (KeepsLaws.comp out (State.moveJobs_keeps _ e k ((s.engine e).left j)) (KeepsLaws.subI rfl rfl))
    (State.showOwners_keeps _) (KeepsLaws.subI rfl rfl)) (State.event_keeps _ 0x3012 data) (KeepsLaws.subI rfl rfl)
  have logged : Logs s _ (engIsland e) fcENGINE 0 := State.fault_logs moved _ _ _ (engNum e) [] rfl rfl rfl
  exact State.Recorded.keeps (State.Recorded.keeps logged (State.checkSpares_keeps _) rfl) (State.countJobs_keeps _) rfl

/-- No failed engine is its own spare. -/
theorem State.spareFor_ne (spare : s.spareFor e = some k) (failed : (s.engine e).failed = true) : k ≠ engNum e := by
  rintro rfl
  rw [State.engine_eq_kin, State.spareFor_healthy spare] at failed
  exact absurd failed (by decide)

/-- The failed engine is empty, and the spare, standing where it stood, has its jobs behind its own. -/
theorem State.failEngine_moves (spare : s.spareFor e = some k) (failed : (s.engine e).failed = true) :
    ((s.failEngine e j).engine e).failed = true ∧ ((s.failEngine e j).engine e).queue = [] ∧
      (∀ o, engNum e ∈ s.heldBy e o → k ∈ (s.failEngine e j).heldBy e o) ∧
      ((s.failEngine e j).kin e k).queue = (s.kin e k).queue ++ ((s.engine e).left j).take (16 - (s.kin e k).queue.length) := by
  have shown := State.failEngine_spare_dispatched (j := j) spare
  have queues := fun m => (shown.through EngineSt.queue fun _ => rfl).kin e m
  have other := State.spareFor_ne spare failed
  have gone : ((s.engineOut e j).moveJobs e k ((s.engine e).left j)).kin e (engNum e) = (s.engine e).out j := by
    rw [State.moveJobs_kin, if_neg other, State.engineOut_kin, if_pos rfl]
  refine ⟨?_, ?_, fun o held => ?_, ?_⟩
  · rw [State.engine_eq_kin, (shown.through EngineSt.failed fun _ => rfl).kin, gone]
    rfl
  · rw [State.engine_eq_kin, queues, gone]
    rfl
  · rw [shown.heldBy, (State.moveJobs_dispatched ..).heldBy]
    exact State.engineOut_heldBy spare held
  · rw [queues, State.moveJobs_kin, if_pos rfl, State.engineOut_kin, if_neg (Ne.symm other)]

/-! ### Without a spare (R245) -/

theorem State.failEngine_none (none_ : s.spareFor e = none) :
    s.failEngine e j = ((((((s.engine e).left j).map (fun k => k.owner)).foldl (fun s o => s.stopOwner o) (s.engineOut e j)).showOwners).fault
      (engIsland e) fcENGINE 1 (engNum e) []).refill := by
  unfold State.failEngine State.engineOut
  dsimp only
  rw [none_]
  rfl

theorem State.stopOwner_failed (s : State) (o : Nat) (e : Engine) (m : Nat) : ((s.stopOwner o).kin e m).failed = (s.kin e m).failed := by
  unfold State.stopOwner
  split_ifs
  · rfl
  · rw [State.kin_of_fab ((State.modSess_keeps ..).fab rfl), ((State.dropJobs_dispatched ..).through EngineSt.failed fun _ => rfl).kin]
    cases e <;> rfl

theorem State.stopOwner_stops (dec : 64 ≤ k) (s : State) : ((s.stopOwner k).sess (k - 64)).stopped = true := by
  rw [State.stopOwner, if_neg (by omega), State.sess_modSess_self]

theorem State.stopOwner_stopped (h : (s.sess n).stopped = true) (o : Nat) : ((s.stopOwner o).sess n).stopped = true := by
  by_cases same : n = o - 64 ∧ 64 ≤ o
  · obtain ⟨rfl, dec⟩ := same
    exact s.stopOwner_stops dec
  · unfold State.stopOwner
    split_ifs with chan
    · exact h
    · rw [State.sess_modSess_ne _ (by omega), (State.dropJobs_keeps ..).sess _ rfl]
      exact h

/-- The sessions of which a failed engine has jobs. -/
def State.stopOwners (s : State) (l : List Nat) : State := l.foldl (fun s o => s.stopOwner o) s

theorem State.stopOwners_keeps (s : State) (l : List Nat) : Keeps 24576 91270843216432516907762630787072 s (s.stopOwners l) :=
  KeepsLaws.foldl (fun u o => u.stopOwner_keeps o) (KeepsLaws.refl ..)

theorem State.stopOwners_failed (s : State) (l : List Nat) (e : Engine) (m : Nat) : ((s.stopOwners l).kin e m).failed = (s.kin e m).failed :=
  List.foldlRecOn (motive := fun t : State => (t.kin e m).failed = (s.kin e m).failed) l _ rfl fun u h o _ => (State.stopOwner_failed u o e m).trans h

theorem State.stopOwners_head (dec : 64 ≤ k) (s : State) (l : List Nat) : ((s.stopOwners (k :: l)).sess (k - 64)).stopped = true :=
  List.foldlRecOn (motive := fun t : State => (t.sess (k - 64)).stopped = true) l _ (s.stopOwner_stops dec) fun _ h o _ => State.stopOwner_stopped h o

/-- Without a spare the failure is unmasked, and the session of the failed job stops. -/
theorem State.failEngine_stops (none_ : s.spareFor e = none) :
    ((s.failEngine e j).engine e).failed = true ∧ Logs s (s.failEngine e j) (engIsland e) 0x06 1 ∧
      (64 ≤ j.owner → ((s.failEngine e j).sess (j.owner - 64)).stopped = true) := by
  let l := ((s.engine e).left j).map (fun k => k.owner)
  have eq : s.failEngine e j = ((((s.engineOut e j).stopOwners l).showOwners).fault (engIsland e) fcENGINE 1 (engNum e) []).refill :=
    State.failEngine_none none_
  rw [eq]
  refine ⟨?_, ?_, fun dec => ?_⟩
  · rw [State.engine_eq_kin, ((State.refill_dispatched _).through EngineSt.failed fun _ => rfl).kin, State.kin_of_fab ((State.fault_keeps ..).fab rfl),
      ((State.showOwners_dispatched _).through EngineSt.failed fun _ => rfl).kin, State.stopOwners_failed, State.engineOut_kin, if_pos rfl]
    rfl
  · have out : Keeps 24588 5317652449546521806114377502881812480 s (s.engineOut e j) :=
      KeepsLaws.mono (State.engineOut_keeps ..) (KeepsLaws.subI rfl rfl)
    have stopped := KeepsLaws.comp (KeepsLaws.comp out (State.stopOwners_keeps _ l) (KeepsLaws.subI rfl rfl)) (State.showOwners_keeps _)
      (KeepsLaws.subI rfl rfl)
    have logged : Logs s _ (engIsland e) fcENGINE 1 := State.fault_logs stopped _ _ _ (engNum e) [] rfl rfl rfl
    exact State.Recorded.keeps logged (State.refill_keeps _) rfl
  · rw [(State.refill_keeps _).sess _ rfl, (State.fault_keeps ..).sess _ rfl, (State.showOwners_keeps _).sess _ rfl]
    exact State.stopOwners_head dec _ _

/-! ### The second mismatch (R244, R245) -/

/-- An engine that is unavailable before its spare is sought. -/
def State.marked (s : State) (e : Engine) : State := s.setEngine e { s.engine e with failed := true }

theorem execJobResidueMismatch_fails (executing : s.executing e = some j) (healthy : (s.engine e).failed = false) (second : j.bad ≠ 0) :
    execJobResidueMismatch e none s = .next ((s.marked e).failEngine e j) := by
  unfold execJobResidueMismatch engOrder
  simp only [List.filterMap_cons, List.filterMap_nil, executing, healthy]
  simp [second, State.marked]

/-- What holds of a failover from the state in which the engine has failed holds from the state before. -/
theorem Logs.of_keeps {F R island cls sev : Nat} {u : State} (h : Logs u t island cls sev) (k : Keeps F R s u)
    (hr : R.testBit Reg.FLT_COUNT.ctorIdx = false) (hn : F.testBit Field.now.ctorIdx = false) (ht : F.testBit Field.tm.ctorIdx = false) : Logs s t island cls sev := by
  unfold Logs at h ⊢
  rw [k.regBits hr, k.ptp hn ht] at h
  exact h

theorem State.marked_engine (s : State) (e : Engine) : (s.marked e).engine e = { s.engine e with failed := true } := s.engine_setEngine_self ..

theorem State.marked_stops (none_ : (s.marked e).spareFor e = none) :
    (((s.marked e).failEngine e j).engine e).failed = true ∧ Logs s ((s.marked e).failEngine e j) (engIsland e) 0x06 1 ∧
      (64 ≤ j.owner → (((s.marked e).failEngine e j).sess (j.owner - 64)).stopped = true) := by
  obtain ⟨out, logged, stopped⟩ := State.failEngine_stops (j := j) none_
  exact ⟨out, logged.of_keeps (State.setEngine_keeps ..) rfl rfl rfl, stopped⟩

theorem State.marked_moves (spare : (s.marked e).spareFor e = some k) :
    (((s.marked e).failEngine e j).engine e).failed = true ∧ Logs s ((s.marked e).failEngine e j) (engIsland e) 0x06 0 ∧
      (((s.marked e).failEngine e j).engine e).queue = [] ∧ (∀ o, engNum e ∈ s.heldBy e o → k ∈ ((s.marked e).failEngine e j).heldBy e o) ∧
      (((s.marked e).failEngine e j).kin e k).queue = (s.kin e k).queue ++ ((s.engine e).left j).take (16 - (s.kin e k).queue.length) := by
  have failed : ((s.marked e).engine e).failed = true := by rw [State.marked_engine]
  have own : (s.marked e).kin e k = s.kin e k := (s.kin_setEngine ..).trans (if_neg (Ne.symm (State.spareFor_ne spare failed)))
  have jobs : ((s.marked e).engine e).left j = (s.engine e).left j := by rw [State.marked_engine]; rfl
  have held : ∀ o, (s.marked e).heldBy e o = s.heldBy e o := s.setEngine_heldBy e _
  obtain ⟨out, empty, places, queue⟩ := State.failEngine_moves (j := j) spare failed
  rw [own, jobs] at queue
  simp only [held] at places
  exact ⟨out, (State.failEngine_spare_logs spare).of_keeps (State.setEngine_keeps ..) rfl rfl rfl, empty, places, queue⟩

end

end Sys2Proof.Machine
end

section
/-! SUPPORT AND CLAIMS. Jobs of the coding fabric start, complete, are repeated and move to a spare (06_coding_fabric_decode.md R225, R227,
R232, R233, R235, R243 to R245, R248). -/

namespace Sys2Proof.Machine

section

variable {e : Fin 8} {row : DecRow} {j : Job} {q : List Job} {s : State}

/-- An EE whose first job needs no granule, or finds one, completes it; otherwise it stalls. -/
theorem execJobComplete_ee (bins : Nat) (first : (s.eeSt e).queue = j :: q) (healthy : (s.eeSt e).failed = false) :
    ∃ t, execJobComplete (.ee e) bins row s = .next t ∧
      if j.owner < 64 ∨ s.oreFree j.key = true then (s.fab.dramEe = [] → (t.eeSt e).queue = q) ∧ (t.eeSt e).binRem = ((s.eeSt e).binRem + bins) % 1000000 ∧
        t.getReg .CF_EE_MBINS e = s.getReg .CF_EE_MBINS e + BitVec.ofNat 32 (((s.eeSt e).binRem + bins) / 1000000) ∧
        (if j.owner < 64 then (j.owner, j.pic, j.row, s.ptp) ∈ t.fab.coded else j.key ∈ t.fab.ore)
      else (t.eeSt e).queue = { j with stalled := true } :: q ∧
        t.getReg .CF_OREBIN_STALL 0 = (if j.stalled then s else s.bumpSat .CF_OREBIN_STALL 0).getReg .CF_OREBIN_STALL 0 := by
  by_cases granule : j.owner < 64 ∨ s.oreFree j.key = true
  · simp only [if_pos granule]
    exact ⟨_, execJobComplete_parsed bins first healthy granule, State.parsed_effect s e bins q j⟩
  · simp only [if_neg granule]
    obtain ⟨dec, full⟩ := not_or.mp granule
    exact execJobComplete_stalls bins first healthy (by omega) (by simpa using full)

end

/-- Settles O41: a start and a completion change the engine that works and no more than dispatch changes of the others; a failover is
followed through the spare's place and queue, or to the session that stops. -/
theorem codingJobsRunRetryAndFailOver : Obligations.CodingJobsRunRetryAndFailOver := by
  unfold Obligations.CodingJobsRunRetryAndFailOver
  refine ⟨?starts, ?reconstructs, ?parses, ?repeats, ?both, ?failsOver⟩
  case starts =>
    intro p x j s running healthy inside forward above ready
    exact execPeJobStart_starts running healthy inside forward above ready
  case reconstructs =>
    intro p bins row j s running healthy started above
    refine ⟨_, execJobComplete_reconstructs bins running healthy started above, fun chan => ⟨State.rowRecon_noted chan, ?_⟩,
      fun dec => ⟨State.rowRecon_granule dec, ?_⟩⟩
    · intro k rows entropy few room
      exact State.rowRecon_entropy chan rows entropy few room
    · intro others below a ha pic only output first decoded
      exact State.rowRecon_decodes dec p.isLt running others below ha pic only output first decoded
  case parses =>
    intro e bins row j q s first healthy
    exact execJobComplete_ee (row := row) bins first healthy
  case repeats =>
    intro e j s executing healthy first
    refine ⟨_, execJobResidueMismatch_retries executing healthy first, s.retryJob_engine_self e j, s.retryJob_logs e j, ?_⟩
    cases e with
    | pe n => exact s.retryJob_counts_pe n j
    | ee n => exact s.retryJob_counts_ee n j
  case both =>
    intro e f j k s other he hf sound sound' first first'
    exact execJobResidueMismatch_repeats_both other he hf sound sound' first first'
  case failsOver =>
    intro e j s executing healthy second
    change ∃ t, _ ∧ _ ∧ match (s.marked e).spareFor e with | none => _ | some k => _
    refine ⟨_, execJobResidueMismatch_fails executing healthy second, ?_⟩
    cases spare : (s.marked e).spareFor e with
    | none => exact State.marked_stops spare
    | some k =>
      obtain ⟨out, logged, empty, places, queue⟩ := State.marked_moves (j := j) spare
      refine ⟨out, logged, empty, ?_⟩
      cases e <;> exact ⟨places, queue⟩

end Sys2Proof.Machine
end

section
/-! SUPPORT. CF_RESERVE, CF_ALLOC and CF_KEY_COPY (06_coding_fabric_decode.md R228, R230, R239). -/

namespace Sys2Proof.Machine

section

variable {s t : State} {r : Req} {b : Body}

/-! ### CF_RESERVE (R230) -/

/-- The reserve of a CF_RESERVE. -/
def State.reserved (s : State) (b : Body) : State := (s.setBits .CF_RESERVE 0 3 0 (b.u8 0)).setBits .CF_RESERVE 0 9 8 (b.u8 1)

theorem State.reserved_pes (s : State) (few : b.u8 0 ≤ 8) : (s.reserved b).regBits .CF_RESERVE 0 3 0 = b.u8 0 := by
  rw [State.reserved, State.regBits_setBits_ne _ _ (by decide) (by decide) (by decide) (by decide),
    State.regBits_setBits_self _ _ (by decide) (by decide) (by decide)]
  exact Nat.mod_eq_of_lt (Nat.lt_of_le_of_lt few (by decide))

theorem State.reserved_ees (s : State) (few : b.u8 1 ≤ 2) : (s.reserved b).regBits .CF_RESERVE 0 9 8 = b.u8 1 := by
  rw [State.reserved, State.regBits_setBits_self _ _ (by decide) (by decide) (by decide)]
  exact Nat.mod_eq_of_lt (Nat.lt_of_le_of_lt few (by decide))

theorem State.reserved_keeps (s : State) (b : Body) : Keeps 0 (2 ^ Reg.CF_RESERVE.ctorIdx) s (s.reserved b) :=
  KeepsLaws.stepSetBits (KeepsLaws.stepSetBits (KeepsLaws.refl ..) (KeepsLaws.bitI rfl)) (KeepsLaws.bitI rfl)

theorem execCfReserve_reserves (ready : Ready s r 0x3010 [0]) (length : b.length = 4) (zero : b.zero 2 2 = true) (pes : b.u8 0 ≤ 8) (ees : b.u8 1 ≤ 2) :
    ∃ t, execCfReserve r b s = .next t ∧
      if s.conf.enginesOver (s.reserved b) = true then Answers s t r 0x3010 7 rENGINES [] ∧ t.getReg .CF_RESERVE 0 = s.getReg .CF_RESERVE 0
      else Answers s t r 0x3010 0 0 [] ∧ t.regBits .CF_RESERVE 0 3 0 = b.u8 0 ∧ t.regBits .CF_RESERVE 0 9 8 = b.u8 1 := by
  have good : (b.length != 4 || !b.zero 2 2 || decide (8 < b.u8 0) || decide (2 < b.u8 1)) = false := by simp [length, zero, pes, ees]
  have changes : Keeps 0 (2 ^ Reg.CF_RESERVE.ctorIdx ||| 649195563641881982241499129053184) s.endInterp (s.endInterp.reserved b).showEngines :=
    KeepsLaws.comp (KeepsLaws.mono (s.endInterp.reserved_keeps b) (KeepsLaws.subI rfl rfl)) (State.showEngines_keeps _) (KeepsLaws.subI rfl rfl)
  obtain ⟨t, result, -, rejects, accepts⟩ := command_resources ready good (noRes := false)
    (rej := if s.conf.enginesOver (s.reserved b) then some rENGINES else none) (g := fun s => (s.reserved b).showEngines) changes rfl rfl
  refine ⟨t, result, ?_⟩
  split_ifs at rejects accepts ⊢ with short
  · obtain ⟨answers, kept⟩ := rejects rfl _ rfl
    exact ⟨answers, kept.reg rfl⟩
  · obtain ⟨answers, kept⟩ := accepts rfl rfl
    refine ⟨answers, ?_, ?_⟩
    · rw [kept.regBits rfl, (State.showEngines_keeps _).regBits rfl, State.reserved_pes _ pes]
    · rw [kept.regBits rfl, (State.showEngines_keeps _).regBits rfl, State.reserved_ees _ ees]

/-! ### CF_ALLOC (R228) -/

theorem execCfAlloc_lists (ready : Ready s r 0x3011 []) (length : b.length = 0) :
    ∃ t, execCfAlloc r b s = .next t ∧ t.fab = s.fab ∧
      Answers s t r 0x3011 0 0 ((List.range 32).map (fun n => BitVec.ofNat 8 (s.peSt n).code) ++ (List.range 8).map (fun n => BitVec.ofNat 8 (s.eeSt n).code)) := by
  obtain ⟨t, result, answers, kept⟩ := command_answers (bad := b.length != 0) (c := {}) (eff := fun s =>
      .now s .OK ((List.range 32).map (fun n => BitVec.ofNat 8 (s.peSt n).code) ++ (List.range 8).map (fun n => BitVec.ofNat 8 (s.eeSt n).code)))
    ready (firstStatus_none ready (by simp [length])) rfl (KeepsLaws.refl 0 0 s.endInterp)
  exact ⟨t, result, kept.fab rfl, answers⟩

/-! ### CF_KEY_COPY (R239) -/

/-- The pool that a CF_KEY_COPY names. -/
def State.keyPool (s : State) (b : Body) : Pool := s.pool (if b.u8 0 = 0 then poolDec (b.u16 2) else poolEnc (b.u16 2))

/-- The bytes that a CF_KEY_COPY copies. -/
def State.keyData (s : State) (b : Body) : List Byte :=
  (((s.keyPool b).surfs.find? (fun f => f.key)).map (fun f => f.keyBytes (s.keyPool b).format s.free)).getD []

theorem execCfKeyCopy_good (length : b.length = 16) (zero : b.zero 1 1 = true) (kind : b.u8 0 ≤ 1) (dec : b.u8 0 = 0 → b.u16 2 ≤ 127)
    (enc : b.u8 0 = 1 → b.u16 2 ≤ 15) :
    execCfKeyCopy r b s = command 0x3003 r s [] (decide (b.u32 12 < (s.keyData b).length))
      { rej := if ((s.keyPool b).surfs.find? (fun f => f.key)).isNone then some rNOKEYPIC else none } (fun s' =>
        .now (s'.draw.2.emit (.dma r.port (b.u64 4) (s.keyData b))) .OK (leBytes 4 (s.keyData b).length ++ (s.keyData b).take 16)) := by
  have number : ¬ (if b.u8 0 = 0 then 127 else 15) < b.u16 2 := by
    split_ifs with decode
    · exact not_lt.mpr (dec decode)
    · exact not_lt.mpr (enc (by omega))
  unfold execCfKeyCopy
  dsimp only
  rw [show (b.length != 16 || !b.zero 1 1 || decide (1 < b.u8 0) || decide ((if b.u8 0 = 0 then 127 else 15) < b.u16 2)) = false by
    simp [length, zero, kind, number], Bool.false_or]
  rfl

theorem execCfKeyCopy_empty (ready : Ready s r 0x3003 []) (length : b.length = 16) (zero : b.zero 1 1 = true) (kind : b.u8 0 ≤ 1)
    (dec : b.u8 0 = 0 → b.u16 2 ≤ 127) (enc : b.u8 0 = 1 → b.u16 2 ≤ 15) (none_ : (s.keyPool b).surfs.find? (fun f => f.key) = none) :
    ∃ t, execCfKeyCopy r b s = .next t ∧ Answers s t r 0x3003 7 0x0130 [] := by
  have data : s.keyData b = [] := by
    rw [State.keyData, none_]
    rfl
  have first : firstStatus (decide (b.u32 12 < (s.keyData b).length)) (s.notReady 0x3003) (!scopesOk (s.heldAt r 0x3003) [])
      { rej := some rNOKEYPIC } = some (.REJECTED, rNOKEYPIC) := by
    obtain ⟨-, free, scopes, -⟩ := ready
    simp [firstStatus, data, free, scopes]
  rw [execCfKeyCopy_good length zero kind dec enc, none_]
  obtain ⟨t, result, answers, -⟩ := command_answers_status ready first
  exact ⟨t, result, answers⟩

/-- The buffer that carries KEY is copied where the host's memory takes all of it; otherwise the parameters are refused. -/
theorem execCfKeyCopy_copies {f : Surface} (ready : Ready s r 0x3003 []) (length : b.length = 16) (zero : b.zero 1 1 = true) (kind : b.u8 0 ≤ 1)
    (dec : b.u8 0 = 0 → b.u16 2 ≤ 127) (enc : b.u8 0 = 1 → b.u16 2 ≤ 15) (found : (s.keyPool b).surfs.find? (fun f => f.key) = some f) :
    ∃ t, execCfKeyCopy r b s = .next t ∧ ((f.keyBytes (s.keyPool b).format s.free).length ≤ b.u32 12 →
      Answers s t r 0x3003 0 0 (leBytes 4 (f.keyBytes (s.keyPool b).format s.free).length ++ (f.keyBytes (s.keyPool b).format s.free).take 16) ∧
        Sends s t (.dma r.port (b.u64 4) (f.keyBytes (s.keyPool b).format s.free))) := by
  have data : s.keyData b = f.keyBytes (s.keyPool b).format s.free := by
    rw [State.keyData, found]
    rfl
  rw [execCfKeyCopy_good length zero kind dec enc, found, data]
  generalize f.keyBytes (s.keyPool b).format s.free = bytes
  by_cases room : bytes.length ≤ b.u32 12
  · have sent : Keeps 0 0 s.endInterp (s.endInterp.draw.2.emit (.dma r.port (b.u64 4) bytes)) :=
      KeepsLaws.comp (KeepsLaws.drawn _) (KeepsLaws.emit ..) (KeepsLaws.subI rfl rfl)
    obtain ⟨t, result, answers, kept⟩ := command_answers (bad := decide (b.u32 12 < bytes.length)) (c := {}) (eff := fun s' =>
        .now (s'.draw.2.emit (.dma r.port (b.u64 4) bytes)) .OK (leBytes 4 bytes.length ++ bytes.take 16)) ready
      (firstStatus_none ready (by simpa using room)) rfl sent
    exact ⟨t, result, fun _ => ⟨answers, .keeps (u := s.endInterp.draw.2.emit (.dma r.port (b.u64 4) bytes))
      ⟨[_], rfl, List.mem_singleton_self _⟩ kept⟩⟩
  · have first : firstStatus (decide (b.u32 12 < bytes.length)) (s.notReady 0x3003) (!scopesOk (s.heldAt r 0x3003) []) {} = some (.BADPARAM, 0) := by
      simp [firstStatus, not_le.mp room]
    obtain ⟨t, result, -⟩ := command_answers_status ready first
    exact ⟨t, result, fun fits => absurd fits room⟩

end

end Sys2Proof.Machine
end

section
/-! SUPPORT. DEC_SESSION and DEC_RESTART (06_coding_fabric_decode.md R247, R250, R252, R258). -/

namespace Sys2Proof.Machine

section

variable {s t : State} {r : Req} {b : Body} {n : Nat}

/-! ### The state that a session shows (R250, R259) -/

theorem State.sessState_event (s : State) (code : Nat) (fields : List Byte) : (s.event code fields).sessState n = s.sessState n :=
  (State.event_keeps ..).regBits rfl

/-- A field of another register, or below the state, leaves the state. -/
theorem State.sessState_setBits (s : State) {q : Reg} {i hi lo : Nat} (v : Nat) (apart : q ≠ .DEC_SESS_STAT ∨ hi < 30) (hl : lo ≤ hi) (hh : hi < 32) :
    (s.setBits q i hi lo v).sessState n = s.sessState n :=
  State.regBits_setBits_ne _ _ hl hh (by decide) (apart.imp id fun below => .inr (.inr below))

/-- A session that moves to a state shows it. -/
theorem State.sessState_setSess (hn : n < 128) (s : State) {st : Nat} (hs : st < 4) (reason : Nat) (info : AuInfo) :
    (s.setSess n st reason info).sessState n = st := by
  unfold State.setSess
  split_ifs with same
  · exact same.1
  · rw [State.sessState_event, State.sessState_setBits _ _ (by decide) (by decide) (by decide), State.sessState,
      State.regBits_setBits_self _ _ hn (by decide) (by decide)]
    exact Nat.mod_eq_of_lt hs

/-- The counts of a session's pool stand beside its state. -/
theorem State.sessState_showPool (s : State) (m : Nat) : (s.showPool m).sessState n = s.sessState n := by
  have counts : ∀ (u : State) {hi lo : Nat} (v : Nat), hi < 30 → lo ≤ hi → (u.setBits .DEC_SESS_STAT m hi lo v).sessState n = u.sessState n :=
    fun u _ _ v below order => u.sessState_setBits v (.inr below) order (by omega)
  unfold State.showPool State.setBit
  dsimp only
  rw [counts _ _ (by decide) (by decide), counts _ _ (by decide) (by decide), counts _ _ (by decide) (by decide), counts _ _ (by decide) (by decide)]

theorem State.sessState_showDec (s : State) (m : Nat) : (s.showDec m).sessState n = s.sessState n := by
  unfold State.showDec
  dsimp only
  rw [State.sessState_setBits _ _ (by decide) (by decide) (by decide), State.sessState_showPool,
    State.sessState_setBits _ _ (by decide) (by decide) (by decide), State.sessState_setBits _ _ (by decide) (by decide) (by decide)]

/-! ### Access units dropped, and DEC_RESTART (R252) -/

theorem State.dropAus_sess (s : State) (n : Nat) :
    ∃ refs, (s.dropAus n).sess n = { s.sess n with aus := [], bufUse := 0, refs := refs } := by
  refine ⟨(s.sess n).refs.filter (fun r => !((s.sess n).aus.filterMap (fun a => a.buf)).contains r.buf), ?_⟩
  unfold State.dropAus
  dsimp only
  rw [(State.refill_keeps ..).sess _ rfl, State.sess_modSess_self, (State.dropJobs_keeps ..).sess _ rfl, (State.modPool_keeps ..).sess _ rfl]

/-- A session that restarts. -/
def State.restarted (s : State) (n : Nat) (info : AuInfo) : State := ((s.dropAus n).setSess n 1 0 info).showPool n

theorem State.restarted_sess (s : State) (n : Nat) (info : AuInfo) :
    ∃ refs, (s.restarted n info).sess n = { s.sess n with aus := [], bufUse := 0, refs := refs } := by
  obtain ⟨refs, eq⟩ := s.dropAus_sess n
  refine ⟨refs, ?_⟩
  rw [State.restarted, (State.showPool_keeps ..).sess _ rfl, (State.setSess_keeps ..).sess _ rfl, eq]

theorem State.restarted_state (hn : n < 128) (s : State) (info : AuInfo) : (s.restarted n info).sessState n = 1 := by
  rw [State.restarted, State.sessState_showPool, State.sessState_setSess hn _ (by decide)]

theorem State.restarted_keeps (s : State) (n : Nat) (info : AuInfo) : Keeps 57356 1391563446400538825493005944295424 s (s.restarted n info) :=
  KeepsLaws.comp (KeepsLaws.comp (KeepsLaws.mono (State.dropAus_keeps ..) (KeepsLaws.subI rfl rfl)) (State.setSess_keeps ..) (KeepsLaws.subI rfl rfl))
    (State.showPool_keeps ..) (KeepsLaws.subI rfl rfl)

theorem execDecRestart_restarts (ready : Ready s r 0x3002 [49]) (length : b.length = 4) (zero : b.zero 2 2 = true) (number : b.u16 0 ≤ 127)
    (bound : (s.sess (b.u16 0)).bound = true) :
    ∃ t, execDecRestart r b s = .next t ∧ Answers s t r 0x3002 0 0 [] ∧ t.sessState (b.u16 0) = 1 ∧ (t.sess (b.u16 0)).aus = [] ∧
      (t.sess (b.u16 0)).bound = true ∧ (t.sess (b.u16 0)).cfg = (s.sess (b.u16 0)).cfg := by
  have good : (b.length != 4 || !b.zero 2 2 || decide (127 < b.u16 0) || !(s.sess (b.u16 0)).bound) = false := by
    simp [length, zero, number, bound]
  obtain ⟨t, result, answers, kept⟩ := command_answers (c := {})
    (eff := fun u => done (u.restarted (b.u16 0) (u.sess (b.u16 0)).stream)) ready (firstStatus_none ready good) rfl (State.restarted_keeps ..) rfl rfl
  obtain ⟨refs, eq⟩ := s.endInterp.restarted_sess (b.u16 0) (s.endInterp.sess (b.u16 0)).stream
  refine ⟨t, result, answers, ?_, ?_⟩
  · exact (kept.regBits rfl).trans (State.restarted_state (Nat.lt_succ_of_le number) ..)
  · rw [kept.sess _ rfl, eq]
    exact ⟨rfl, bound, rfl⟩

end

end Sys2Proof.Machine
end

section
/-! SUPPORT. DEC_SESSION (06_coding_fabric_decode.md R228, R247, R250, R258). -/

namespace Sys2Proof.Machine

section

variable {s t : State} {r : Req} {b : Body} {n : Nat}

/-- A declaration of a session that is not bound starts it afresh in WAIT_KEY. -/
theorem State.applyDec_afresh (hn : n < 128) (bind : b.u8 2 = 1) (unbound : (s.sess n).bound = false) (quiet : Bool) :
    ((s.applyDec n b quiet).sess n).bound = true ∧ ((s.applyDec n b quiet).sess n).cfg = b ∧ (s.applyDec n b quiet).sessState n = 1 := by
  unfold State.applyDec
  dsimp only
  rw [if_neg (by omega), if_neg (c := _ = true) (by simp [unbound])]
  generalize State.adoptPool _ _ = u
  refine ⟨?_, ?_, ?_⟩
  · rw [(State.showDec_keeps ..).sess _ rfl, (State.showSessLos_keeps ..).sess _ rfl, (State.setSess_keeps ..).sess _ rfl, State.sess_modSess_self]
  · rw [(State.showDec_keeps ..).sess _ rfl, (State.showSessLos_keeps ..).sess _ rfl, (State.setSess_keeps ..).sess _ rfl, State.sess_modSess_self]
  · rw [State.sessState_showDec]
    exact ((State.showSessLos_keeps ..).regBits rfl).trans (State.sessState_setSess hn _ (by decide) ..)

theorem State.bindDec_unbound (bind : b.u8 2 = 1) (unbound : (s.sess (b.u16 0)).bound = false) (quiet : Bool) :
    s.bindDec b quiet = s.applyDec (b.u16 0) b quiet := by
  unfold State.bindDec
  dsimp only
  rw [if_neg (c := _ = true) (by simp [unbound]), if_neg (by omega)]

/-- What DEC_SESSION does once nothing keeps it back. -/
def State.decBound (s : State) (b : Body) : State := (((s.stageDec b).getD s).bindDec b false).allocate

theorem State.stagedDec_keeps (s : State) (b : Body) : Keeps 33652736 0 s ((s.stageDec b).getD s) :=
  KeepsLaws.getD (s.stageDec_keeps b) (KeepsLaws.refl ..)

theorem State.decBound_keeps (s : State) (b : Body) :
    Keeps 33677388 5485106241622820396535938628729769984 s (s.decBound b) :=
  KeepsLaws.comp (KeepsLaws.comp (KeepsLaws.mono (s.stagedDec_keeps b) (KeepsLaws.subI rfl rfl)) (State.bindDec_keeps ..) (KeepsLaws.subI rfl rfl))
    (State.allocate_keeps ..) (KeepsLaws.subI rfl rfl)

theorem State.decBound_binds (hn : b.u16 0 < 128) (bind : b.u8 2 = 1) (unbound : (s.sess (b.u16 0)).bound = false) :
    ((s.decBound b).sess (b.u16 0)).bound = true ∧ ((s.decBound b).sess (b.u16 0)).cfg = b ∧ (s.decBound b).sessState (b.u16 0) = 1 := by
  have staged := (s.stagedDec_keeps b).sess (b.u16 0) rfl
  unfold State.decBound
  generalize (s.stageDec b).getD s = u at staged ⊢
  have fresh : (u.sess (b.u16 0)).bound = false := by rw [staged, unbound]
  rw [State.bindDec_unbound bind fresh, (State.allocate_keeps _).sess _ rfl]
  obtain ⟨bound, cfg, shown⟩ := State.applyDec_afresh hn bind fresh false
  exact ⟨bound, cfg, ((State.allocate_keeps _).regBits rfl).trans shown⟩

/-- The first reason to reject a declaration. -/
def State.decReject (s : State) (b : Body) : Option Nat :=
  if b.u8 2 == 1 && decFormat b then some rFORMAT else (s.conf.withDec b).reject s

theorem execDecSession_declares (ready : Ready s r 0x3001 [49]) (good : decBad s b = false) :
    ∃ t, execDecSession r b s = .next t ∧
      if 127 < b.u16 0 ∨ (s.stageDec b).isNone then Answers s t r 0x3001 5 0 []
      else match s.decReject b with
        | some x => Answers s t r 0x3001 7 x [] ∧ t.dec = s.dec
        | none => Answers s t r 0x3001 0 0 [] ∧ (b.u8 2 = 1 → (s.sess (b.u16 0)).bound = false →
            (t.sess (b.u16 0)).bound = true ∧ (t.sess (b.u16 0)).cfg = b ∧ t.sessState (b.u16 0) = 1) := by
  obtain ⟨t, result, full, rejects, accepts⟩ := command_resources ready good (noRes := decide (127 < b.u16 0) || (s.stageDec b).isNone)
    (rej := s.decReject b) (g := fun s => s.decBound b) (s.endInterp.decBound_keeps b) rfl rfl
  refine ⟨t, result, ?_⟩
  by_cases room : 127 < b.u16 0 ∨ (s.stageDec b).isNone = true
  · rw [if_pos room]
    exact full (by simpa using room)
  · have placed : (decide (127 < b.u16 0) || (s.stageDec b).isNone) = false := by
      simpa only [Bool.or_eq_false_iff, decide_eq_false_iff_not, not_or, Bool.not_eq_true] using room
    rw [if_neg room]
    cases rejected : s.decReject b with
    | some x =>
      obtain ⟨answers, kept⟩ := rejects placed x rejected
      exact ⟨answers, kept.fields .dec rfl⟩
    | none =>
      obtain ⟨answers, kept⟩ := accepts placed rejected
      refine ⟨answers, fun bind unbound => ?_⟩
      obtain ⟨bound, cfg, shown⟩ := State.decBound_binds (s := s.endInterp) (by omega) bind unbound
      rw [kept.sess _ rfl]
      exact ⟨bound, cfg, (kept.regBits rfl).trans shown⟩

end

end Sys2Proof.Machine
end

section
/-! SUPPORT. A session that waits gets a buffer (06_coding_fabric_decode.md R239 to R241). -/

namespace Sys2Proof.Machine

section

variable {s t : State} {n i : Nat} {a : DecAu} {p q : Pool}

/-- A change of a surface that keeps headers. -/
theorem Pool.modSurf_header (p : Pool) (i j : Nat) {f : Surface → Surface} (keeps : ∀ g, (f g).header = g.header) :
    ((p.modSurf i f).surf j).header = (p.surf j).header := by
  simp only [Pool.surf, Pool.modSurf, List.getD_eq_getElem?_getD, List.getElem?_modify]
  cases p.surfs[j]? with
  | none => rfl
  | some g =>
    by_cases same : i = j
    · simpa [same] using keeps g
    · simp [same]

/-- A surface that its pool gives has no header (R240). -/
theorem Pool.take_header (taken : p.take = some (i, q)) : (q.surf i).header = none := by
  obtain ⟨k, -, h⟩ := Option.map_eq_some_iff.mp taken
  obtain ⟨rfl, rfl⟩ := Prod.mk.inj h
  simp only [Pool.surf, Pool.modSurf, List.getD_eq_getElem?_getD, List.getElem?_modify]
  cases p.surfs[k]? <;> simp [show (default : Surface).header = none from rfl]

/-- The next access unit of a session without a buffer starts in the surface that the pool gives. -/
theorem State.tryStart_takes (next : (s.sess n).aus.find? (fun a => !a.decoded) = some a) (running : (s.sess n).stopped = false) (new : a.buf = none)
    (single : (s.sess n).mateBuf a = none) (taken : ((s.unmarked n a).pool (poolDec n)).take = some (i, p)) :
    (((s.tryStart n).pool (poolDec n)).surf i).header = none ∧ ∀ x ∈ ((s.tryStart n).sess n).aus, x.pic = a.pic → x.buf = some i := by
  have empty : (p.surf i).header = none := Pool.take_header taken
  rw [State.tryStart_next next (by simp [new, running]), State.startNext_takes single taken, (State.showPool_keeps ..).pool _ rfl,
    (State.showPool_keeps ..).sess _ rfl]
  constructor
  · rw [State.startAu_pool, State.pool_setPool_self, Pool.modSurf_header]
    · exact empty
    · exact fun _ => rfl
  · obtain ⟨b, refs, -, buf, eq⟩ := State.startAu_sess ((s.unmarked n a).setPool (poolDec n) { p with writing := none }) n i a
    intro x hx pic
    rw [eq] at hx
    obtain ⟨y, -, rfl⟩ := List.mem_map.mp hx
    split_ifs at pic ⊢ with same
    · exact buf
    · exact absurd pic same

theorem execBufferWaitEnd_starts {n : Fin 144} (dec : n.val < 128) (waiting : (s.sess n).waiting = true) :
    execBufferWaitEnd n s = .next (s.tryStart n) := by
  unfold execBufferWaitEnd
  rw [if_pos (by simp [dec, waiting])]

end

end Sys2Proof.Machine
end

section
/-! SUPPORT. Pictures that decode sessions release (06_coding_fabric_decode.md R253 to R255). -/

namespace Sys2Proof.Machine

/-! ### The newest surface of a pool -/

section

variable {p q : Pool} {i j : Nat} {hd : Header} {out : FrameOut} {now dev : Nat}

/-- A pool's newest complete surface is i, with a header. -/
def Pool.Shows (p : Pool) (i : Nat) (hd : Header) : Prop := p.newestIdx = some i ∧ (p.surf i).header = some hd

/-- The same, and no older surface is i. -/
def Pool.Newest (p : Pool) (i : Nat) (hd : Header) : Prop := ∃ l, p.order = l ++ [i] ∧ i ∉ l ∧ (p.surf i).header = some hd

theorem Pool.Newest.shows (h : p.Newest i hd) : p.Shows i hd := by
  obtain ⟨l, order, -, header⟩ := h
  exact ⟨by simp [Pool.newestIdx, order], header⟩

theorem Pool.Shows.modSurf (h : p.Shows i hd) {f : Surface → Surface} (keeps : ∀ g, (f g).header = g.header) : (p.modSurf j f).Shows i hd :=
  ⟨h.1, (p.modSurf_header j i keeps).trans h.2⟩

theorem Pool.Newest.modSurf (h : p.Newest i hd) {f : Surface → Surface} (keeps : ∀ g, (f g).header = g.header) : (p.modSurf j f).Newest i hd := by
  obtain ⟨l, order, once, header⟩ := h
  exact ⟨l, order, once, (p.modSurf_header j i keeps).trans header⟩

theorem Pool.Newest.foldl {α : Type} (h : p.Newest i hd) (l : List α) {f : Surface → Surface} (k : α → Nat) (keeps : ∀ g, (f g).header = g.header) :
    (l.foldl (fun p x => p.modSurf (k x) f) p).Newest i hd :=
  List.foldlRecOn (motive := fun q : Pool => q.Newest i hd) l _ h fun _ h _ _ => h.modSurf keeps

/-- The next surface that is taken is another one. -/
theorem Pool.Newest.take (h : p.Newest i hd) (taken : p.take = some (j, q)) : q.Shows i hd := by
  obtain ⟨l, order, once, header⟩ := h
  obtain ⟨newest, same⟩ := Pool.take_newest taken order once (by simp [header])
  exact ⟨newest, by rw [same, header]⟩

/-- A released surface is the newest, with the header of its frame. -/
theorem Pool.release_newestHeader (p : Pool) (out : FrameOut) (now dev : Nat) (hi : i < p.surfs.length) :
    ∃ hd, (p.release i out now dev).Newest i hd ∧ hd.tag = (p.tagOf out).sealed ∧ hd.done = now ∧ hd.width = out.width ∧ hd.height = out.height ∧
      hd.contentCrc = contentCrc out.lines := by
  refine ⟨mkHeader (p.tagOf out) (contentCrc out.lines) out.width out.height p.format out.master p.surfs[i].addr now,
    ⟨p.order.filter (fun k => k != i), rfl, by simp, ?_⟩, rfl, rfl, rfl, rfl, rfl⟩
  simp [Pool.surf, Pool.release, Pool.modSurf, hi, Surface.seal, Pool.tagOf]

end

/-! ### The next access unit and the newest surface (R240, R254) -/

section

variable {s t : State} {n i : Nat} {a : DecAu} {hd : Header}

theorem State.unmarked_newest (h : (s.pool (poolDec n)).Newest i hd) : ((s.unmarked n a).pool (poolDec n)).Newest i hd := by
  have marks : ((s.markRefs n a).pool (poolDec n)).Newest i hd := by
    rw [State.markRefs, (State.modSess_keeps ..).pool _ rfl, State.pool_modPool_self]
    exact h.foldl _ (fun r : RefPic => r.buf) fun _ => rfl
  unfold State.unmarked State.dropPrior
  split_ifs
  · rw [(State.modSess_keeps ..).pool _ rfl, State.freeBufs, State.pool_modPool_self]
    exact marks.foldl _ id fun _ => rfl
  · exact marks

theorem State.startAu_shows {j : Nat} (h : (s.pool (poolDec n)).Shows i hd) : ((s.startAu n j a).pool (poolDec n)).Shows i hd := by
  rw [State.startAu_pool]
  exact h.modSurf fun _ => rfl

theorem State.startNext_shows (h : (s.pool (poolDec n)).Newest i hd) : ((s.startNext n a).pool (poolDec n)).Shows i hd := by
  have cleared := s.unmarked_newest (a := a) h
  obtain ⟨j, eq⟩ | ⟨j, p, taken, eq⟩ | eq := s.startNext_cases n a
  · exact eq ▸ State.startAu_shows cleared.shows
  · have given : p.Shows i hd := cleared.take taken
    refine eq ▸ State.startAu_shows ?_
    rw [State.pool_setPool_self]
    exact given
  · rw [eq, (State.waitAu_keeps ..).pool _ rfl]
    exact cleared.shows

/-- Whatever a session tries next, its newest surface stays. -/
theorem State.tryStart_shows (h : (s.pool (poolDec n)).Newest i hd) : ((s.tryStart n).pool (poolDec n)).Shows i hd := by
  obtain same | ⟨a, tried⟩ := s.tryStart_cases n
  · rw [same]
    exact h.shows
  · rw [tried, (State.showPool_keeps ..).pool _ rfl]
    exact State.startNext_shows h

/-! ### A picture is released (R253, R255) -/

/-- The frame of a picture that a session releases, with flags. -/
def DecAu.frameOut (a : DecAu) (flags : Nat) : FrameOut :=
  { lines := a.stored, width := a.info.outWidth, height := a.info.outHeight, time := a.tag.time, basis := a.tag.basis, flags := flags, master := 14 }

/-- A released picture is pinned as its session's newest output, and its access unit is gone. -/
def State.outPic (s : State) (n i : Nat) (a : DecAu) (flags : Nat) : State :=
  ((s.modPool (poolDec n) (fun p => ((p.unpin 300).release i (a.frameOut flags) s.ptp s.now).pin i 300)).collect (poolDec n)).modSess n
    (fun d => { d with aus := d.aus.filter (fun x => x.pic != a.pic) })

theorem State.releasePic_eq (s : State) (n : Nat) (held : a.buf = some i) :
    ∃ (u : State) (flags : Nat), Keeps 268 (2 ^ Reg.DEC_SESS_CONCEALED.ctorIdx ||| 593920) s u ∧
      s.releasePic n a = (((u.outPic n i a flags).bumpWrap .DEC_SESS_PICS n).showPool n).tryStart n := by
  unfold State.releasePic
  dsimp only
  rw [held]
  refine ⟨_, _, ?_, rfl⟩
  refine KeepsLaws.ite ?_ (KeepsLaws.refl ..)
  exact KeepsLaws.comp (KeepsLaws.mono (State.bumpSat_keeps ..) (KeepsLaws.subI rfl rfl)) (State.eventPerSec_keeps ..) (KeepsLaws.subI rfl rfl)

theorem State.outPic_newest (flags : Nat) (hi : i < (s.pool (poolDec n)).surfs.length) :
    ∃ hd, ((s.outPic n i a flags).pool (poolDec n)).Newest i hd ∧ hd.tag = ((s.pool (poolDec n)).tagOf (a.frameOut flags)).sealed ∧ hd.done = s.ptp ∧
      hd.width = a.info.outWidth ∧ hd.height = a.info.outHeight ∧ hd.contentCrc = contentCrc a.stored := by
  obtain ⟨hd, newest, fields⟩ := ((s.pool (poolDec n)).unpin 300).release_newestHeader (i := i) (a.frameOut flags) s.ptp s.now
    (by simpa [Pool.unpin] using hi)
  refine ⟨hd, ?_, fields⟩
  obtain ⟨old, eq⟩ := (s.modPool (poolDec n) (fun p => ((p.unpin 300).release i (a.frameOut flags) s.ptp s.now).pin i 300)).collect_pool (poolDec n)
  rw [State.outPic, (State.modSess_keeps ..).pool _ rfl, eq, State.pool_modPool_self]
  exact newest.modSurf fun _ => rfl

theorem State.outPic_aus (s : State) (n i : Nat) (a : DecAu) (flags : Nat) :
    ((s.outPic n i a flags).sess n).aus = (s.sess n).aus.filter (fun x => x.pic != a.pic) := by
  rw [State.outPic, State.sess_modSess_self, (State.collect_keeps ..).sess _ rfl, (State.modPool_keeps ..).sess _ rfl]

theorem State.outPic_keeps (s : State) (n i : Nat) (a : DecAu) (flags : Nat) : Keeps 33669120 0 s (s.outPic n i a flags) :=
  KeepsLaws.comp (KeepsLaws.comp (KeepsLaws.mono (State.modPool_keeps ..) (KeepsLaws.subI rfl rfl)) (State.collect_keeps ..) (KeepsLaws.subI rfl rfl))
    (State.modSess_keeps ..) (KeepsLaws.subI rfl rfl)

/-- The next picture in output order leaves as the newest surface, with its tag and the next number, and is counted. -/
theorem State.releasePic_releases (hn : n < 128) (held : a.buf = some i) (hi : i < (s.pool (poolDec n)).surfs.length) :
    ∃ hd flags, ((s.releasePic n a).pool (poolDec n)).Shows i hd ∧ hd.tag = ((s.pool (poolDec n)).tagOf (a.frameOut flags)).sealed ∧
      hd.done = s.ptp ∧ hd.width = a.info.outWidth ∧ hd.height = a.info.outHeight ∧ hd.contentCrc = contentCrc a.stored ∧
      (∀ x ∈ ((s.releasePic n a).sess n).aus, x.pic ≠ a.pic) ∧ (s.releasePic n a).getReg .DEC_SESS_PICS n = s.getReg .DEC_SESS_PICS n + 1 := by
  obtain ⟨u, flags, kept, eq⟩ := s.releasePic_eq n held
  rw [← kept.pool (poolDec n) rfl] at hi ⊢
  obtain ⟨hd, newest, tag, done, width, height, content⟩ := u.outPic_newest flags hi (a := a)
  rw [eq]
  refine ⟨hd, flags, State.tryStart_shows ?_, tag, done.trans (kept.ptp rfl rfl), width, height, content, fun x hx => ?_, ?_⟩
  · rw [(State.showPool_keeps ..).pool _ rfl, (State.bumpWrap_keeps ..).pool _ rfl]
    exact newest
  · obtain ⟨y, hy, same⟩ := State.tryStart_noNewPics _ n x hx
    rw [(State.showPool_keeps ..).sess _ rfl, (State.bumpWrap_keeps ..).sess _ rfl, State.outPic_aus] at hy
    rw [← same]
    simpa using (List.mem_filter.mp hy).2
  · rw [(State.tryStart_keeps ..).reg rfl, (State.showPool_keeps ..).reg rfl, State.getReg_bumpWrap_self _ hn, (State.outPic_keeps ..).reg rfl,
      kept.reg rfl]

theorem execDecPictureRelease_due {n : Fin 128} (next : firstOut ((s.sess n).outs (s.sessState n != 2)) = some a)
    (due : (s.sess n).outDue (s.pool (poolDec n)).marked (s.sessState n != 2) = true) (running : (s.sess n).stopped = false) :
    execDecPictureRelease n s = .next (s.releasePic n a) := by
  unfold execDecPictureRelease
  dsimp only
  rw [next]
  dsimp only
  rw [if_pos (by simp [due, running])]

end

end Sys2Proof.Machine
end

section
/-! CLAIMS. Decode sessions and the commands of the coding fabric (06_coding_fabric_decode.md R228, R230, R238 to R241, R247, R249, R250, R252,
R253, R255, R258). -/

namespace Sys2Proof.Machine

/-- Settles O42: the commands through their one effect or refusal, a release and the end of a wait through what the next start leaves of the
session and of its pool. -/
theorem decodeSessionsAndFabricCommands : Obligations.DecodeSessionsAndFabricCommands := by
  unfold Obligations.DecodeSessionsAndFabricCommands
  refine ⟨?session, ?restart, ?release, ?wait, ?reserve, ?alloc, ?keyCopy⟩
  case session =>
    intro r b s ready good
    exact execDecSession_declares ready good
  case restart =>
    intro r b s ready length zero number bound
    exact execDecRestart_restarts ready length zero number bound
  case release =>
    intro n i a s p final next due running held hi
    obtain ⟨hd, flags, ⟨newest, header⟩, tag, done, width, height, content, gone, counted⟩ := State.releasePic_releases n.isLt held hi
    refine ⟨_, hd, execDecPictureRelease_due next due running, newest, header, ?_, ?_, ?_, ?_, done, width, height, content, ?_, gone, counted⟩
    · rw [tag]
      rfl
    · rw [tag]
      rfl
    · rw [tag]
      rfl
    · rw [tag]
      rfl
    · rw [tag]
      exact Tag.sealed_crc _
  case wait =>
    intro n a i p s dec waiting running next new single taken
    exact ⟨_, execBufferWaitEnd_starts dec waiting, State.tryStart_takes next running new single taken⟩
  case reserve =>
    intro r b s ready length zero pes ees
    exact execCfReserve_reserves ready length zero pes ees
  case alloc =>
    intro r b s ready length
    exact execCfAlloc_lists ready length
  case keyCopy =>
    intro r b s ready length zero kind dec enc p
    change ∃ t, _ ∧ match (s.keyPool b).surfs.find? (fun f => f.key) with | none => _ | some f => _
    cases found : (s.keyPool b).surfs.find? (fun f => f.key) with
    | none => exact execCfKeyCopy_empty ready length zero kind dec enc found
    | some f => exact execCfKeyCopy_copies ready length zero kind dec enc found

end Sys2Proof.Machine
end
section
/-! SUPPORT. What the writes of the encoder leave of its channels, and the frames that channels take (07_encoder.md R274, R277, R288). -/

namespace Sys2Proof.Machine

/-! ### Channels written -/

section

variable (s : State)

theorem State.setChan_enc (c : Nat) (x : EncChan) : (s.setChan c x).enc = { s.enc with chan := Tbl.set s.enc.chan c x } := State.setBit_enc ..

@[simp] theorem State.chan_modChan_self (c : Nat) (f : EncChan → EncChan) : (s.modChan c f).chan c = f (s.chan c) := s.chan_setChan_self ..

@[simp] theorem State.keyCmds_setChan (c : Nat) (x : EncChan) : (s.setChan c x).enc.keyCmds = s.enc.keyCmds := by rw [State.setChan_enc]

@[simp] theorem State.keyCmds_modChan (c : Nat) (f : EncChan → EncChan) : (s.modChan c f).enc.keyCmds = s.enc.keyCmds := s.keyCmds_setChan ..

end

section

variable {F R : Nat} {s t : State}

theorem State.chan_congr (h : t.enc = s.enc) (c : Nat) : t.chan c = s.chan c := congrArg (fun x : Encoder => Tbl.get x.chan c) h

theorem Keeps.enc (k : Keeps F R s t) (h : F.testBit Field.enc.ctorIdx = false := by rfl) : t.enc = s.enc := k.fields .enc h

theorem Keeps.chan (k : Keeps F R s t) (c : Nat) (h : F.testBit Field.enc.ctorIdx = false := by rfl) : t.chan c = s.chan c :=
  State.chan_congr (k.enc h) c

theorem Keeps.isStandby (k : Keeps F R s t) (h : R.testBit Reg.PAIR_STATUS.ctorIdx = false := by rfl) : t.isStandby = s.isStandby := by
  rw [State.isStandby, State.isStandby, State.pairState, State.pairState, k.regBits h]

/-- Only a standby follows the duty's pictures and rows (R299). -/
theorem State.mirrorOf_alone (alone : s.isStandby = false) (c pic : Nat) : s.mirrorOf c pic = none := by
  rw [State.mirrorOf, alone]
  rfl

theorem State.rowMirror_alone (alone : s.isStandby = false) (c pic row : Nat) : s.rowMirror c pic row = none := by
  rw [State.rowMirror, alone]
  rfl

end

/-! ### Pictures of a channel -/

section

variable {x : EncChan} {p : EncPic} {num : Nat} {f : EncPic → EncPic}

theorem EncChan.getLast?_modPic (last : x.pics.getLast? = some p) (h : p.num = num) : (x.modPic num f).pics.getLast? = some (f p) := by
  rw [EncChan.modPic, List.getLast?_map, last, Option.map_some, if_pos h]

theorem EncChan.head?_modPic (first : x.pics.head? = some p) (h : p.num = num) : (x.modPic num f).pics.head? = some (f p) := by
  rw [EncChan.modPic, List.head?_map, first, Option.map_some, if_pos h]

end

/-! ### The frame a channel takes (R274, R277) -/

/-- A channel without what it knows of the frames it takes. -/
def EncChan.untaken (x : EncChan) : EncChan :=
  { x with taken := none, takenAt := none, takenOpen := false, everFull := false, tSeq := 0, crc := none, tCrc := 0, distrust := false,
           prevMismatch := false, prevConcealed := false }

/-- From s to t channel c has learned of frames at most, and the ENC_KEY commands wait as before. -/
structure State.Learns (c : Nat) (s t : State) : Prop where
  untaken : (t.chan c).untaken = (s.chan c).untaken
  keyCmds : t.enc.keyCmds = s.enc.keyCmds

theorem State.Learns.refl (c : Nat) (s : State) : State.Learns c s s := ⟨rfl, rfl⟩

theorem State.Learns.trans {c : Nat} {s u t : State} (h : State.Learns c s u) (k : State.Learns c u t) : State.Learns c s t :=
  ⟨k.untaken.trans h.untaken, k.keyCmds.trans h.keyCmds⟩

theorem State.Learns.setChan {c : Nat} {s : State} {x : EncChan} (h : x.untaken = (s.chan c).untaken) : State.Learns c s (s.setChan c x) :=
  ⟨by rw [State.chan_setChan_self, h], s.keyCmds_setChan ..⟩

theorem State.Learns.of_keeps {c F R : Nat} {s t : State} (k : Keeps F R s t) (h : F.testBit Field.enc.ctorIdx = false := by rfl) :
    State.Learns c s t :=
  ⟨by rw [k.chan c h], by rw [k.enc h]⟩

theorem State.checkTaken_learns (s : State) (c : Nat) : State.Learns c s (s.checkTaken c) := by
  unfold State.checkTaken
  dsimp only
  split
  · exact .refl ..
  · next f hd _ =>
    have seen : (if (s.chan c).crc = some hd.contentCrc then s.chan c
        else { s.chan c with crc := some hd.contentCrc, tCrc := s.tagTimeOf hd.tag }).untaken = (s.chan c).untaken := by
      split_ifs <;> rfl
    generalize (if (s.chan c).crc = some hd.contentCrc then s.chan c else _) = x at seen ⊢
    split_ifs
    · exact .refl ..
    · exact .setChan seen
    · refine .trans (.setChan ?_) (.trans (.of_keeps (State.bumpSat_keeps ..)) (.of_keeps (State.event_keeps ..)))
      exact seen
    · exact .setChan seen

theorem State.poolOfSource_lt {s : State} {src k : Nat} (h : s.poolOfSource src = some k) : k < 2304 := by
  simpa using (List.mem_filter.mp (List.mem_of_getElem? h)).2

/-- A channel that has taken a frame (R274). -/
def EncChan.took (x : EncChan) (f : Cand) (tin : Nat) : EncChan :=
  { x with taken := some f.tag, takenAt := some f.addr, takenOpen := f.opened, everFull := true, tSeq := tin, distrust := false }

theorem State.takeFrame_eq {s : State} {c k : Nat} (f : Cand) (tin : Nat) (found : s.poolOfSource ((s.chan c).cfg.u16 4) = some k) :
    ∃ skip, s.takeFrame c f tin = ((((s.modPool k (fun p => (p.unpin (32 + c)).pinAt f.addr (32 + c))).collect k).setChan c
      ((s.chan c).took f tin)).addSat .ENC_CH_SKIPPED c skip) := by
  unfold State.takeFrame
  dsimp only
  rw [found]
  exact ⟨_, rfl⟩

theorem State.takeFrame_none {s : State} {c : Nat} (f : Cand) (tin : Nat) (missing : s.poolOfSource ((s.chan c).cfg.u16 4) = none) :
    s.takeFrame c f tin = s := by
  unfold State.takeFrame
  dsimp only
  rw [missing]

/-- A channel takes the frame that it finds in its source's pool. -/
theorem State.chan_takeFrame {s : State} {c k : Nat} (f : Cand) (tin : Nat) (found : s.poolOfSource ((s.chan c).cfg.u16 4) = some k) :
    (s.takeFrame c f tin).chan c = (s.chan c).took f tin := by
  obtain ⟨skip, eq⟩ := State.takeFrame_eq f tin found
  rw [eq, State.chan_congr (State.addSat_enc ..), State.chan_setChan_self]

theorem State.takeFrame_learns (s : State) (c : Nat) (f : Cand) (tin : Nat) : State.Learns c s (s.takeFrame c f tin) := by
  cases found : s.poolOfSource ((s.chan c).cfg.u16 4) with
  | none =>
    rw [State.takeFrame_none f tin found]
    exact .refl ..
  | some k =>
    obtain ⟨skip, eq⟩ := State.takeFrame_eq f tin found
    refine ⟨by rw [State.chan_takeFrame f tin found]; rfl, ?_⟩
    rw [eq, State.addSat_enc, State.keyCmds_setChan, (State.collect_keeps ..).enc, (State.modPool_keeps ..).enc]

/-- The reference pools stand as they were when a channel takes a frame. -/
theorem State.refPool_takeFrame (s : State) (c : Nat) (f : Cand) (tin e : Nat) :
    (s.takeFrame c f tin).pool (poolEnc e) = s.pool (poolEnc e) := by
  cases found : s.poolOfSource ((s.chan c).cfg.u16 4) with
  | none => rw [State.takeFrame_none f tin found]
  | some k =>
    obtain ⟨skip, eq⟩ := State.takeFrame_eq f tin found
    have other : k ≠ poolEnc e := by
      have := State.poolOfSource_lt found
      unfold poolEnc
      omega
    rw [eq, State.pool, State.addSat_pools]
    refine ((State.setChan_keeps ..).pool _).trans ?_
    unfold State.collect
    dsimp only
    rw [State.pool_setPool_ne _ _ other, (State.releaseAll_keeps ..).pool, State.pool_modPool_ne _ _ other]

/-! ### The status and the frame of a picture (R275) -/

/-- A picture takes no frame but the candidate. -/
theorem State.pictureStatus_candidate {s : State} {c tin last : Nat} {ready : Bool} {f : Cand}
    (takes : (s.pictureStatus c ready tin last).2 = some f) : s.candidate c ready = some f := by
  unfold State.pictureStatus at takes
  extract_lets x b k p cand back newer bad fmt use at takes
  split at takes
  · cases takes
  · have used : use = some f := takes
    have new : newer = some f := by
      unfold use at used
      split_ifs at used
      exact used
    exact (Option.filter_eq_some_iff.mp new).1

/-- A picture takes a frame only from a pool. -/
theorem State.pictureStatus_pool {s : State} {c tin last : Nat} {ready : Bool} {f : Cand}
    (takes : (s.pictureStatus c ready tin last).2 = some f) : ∃ k, s.poolOfSource ((s.chan c).cfg.u16 4) = some k := by
  have found := State.pictureStatus_candidate takes
  unfold State.candidate at found
  dsimp only at found
  split at found
  · cases found
  · next k source => exact ⟨k, source⟩

end Sys2Proof.Machine
end

section
/-! SUPPORT. What the start of a picture makes of its channel, counts and tells (07_encoder.md R274 to R276, R288, R292, R299, R305, R306). -/

namespace Sys2Proof.Machine

/-! ### What is told (R299, R305, R306) -/

/-- A channel without what it last told of its status and of its picture. -/
def EncChan.untold (x : EncChan) : EncChan := { x with shown := 0, told := {} }

/-- From s to t no more has happened to channel c than that pictures were told of: events, replies, the status register and the pair's
record. -/
structure State.Tells (c : Nat) (s t : State) : Prop where
  keeps : Keeps 524572 10894684960452116723287828617822776922112 s t
  untold : (t.chan c).untold = (s.chan c).untold

namespace State.Tells

variable {c F R : Nat} {s t u : State}

theorem refl (c : Nat) (s : State) : State.Tells c s s := ⟨KeepsLaws.refl .., rfl⟩

theorem trans (h : State.Tells c s u) (k : State.Tells c u t) : State.Tells c s t :=
  ⟨KeepsLaws.trans h.keeps k.keeps, k.untold.trans h.untold⟩

theorem of_keeps (k : Keeps F R s t) (inside : KeepsLaws.sub F 524572 R 10894684960452116723287828617822776922112 = true)
    (h : F.testBit Field.enc.ctorIdx = false := by rfl) : State.Tells c s t :=
  ⟨KeepsLaws.mono k inside, by rw [k.chan c h]⟩

theorem ite {p : Prop} {_ : Decidable p} {a b : State} (h : State.Tells c s a) (k : State.Tells c s b) : State.Tells c s (if p then a else b) := by
  split_ifs <;> assumption

end State.Tells

section

variable (s : State) (c : Nat)

theorem State.modChan_tells (f : EncChan → EncChan) (h : ∀ x, (f x).untold = x.untold) : State.Tells c s (s.modChan c f) :=
  ⟨KeepsLaws.mono (State.modChan_keeps ..) (KeepsLaws.subI rfl rfl), by rw [State.chan_modChan_self, h]⟩

theorem State.reportStatus_tells (st pic : Nat) (tag : Option Tag) : State.Tells c s (s.reportStatus c st pic tag) := by
  have shown : State.Tells c s (s.setBits .ENC_CH_STAT c 27 24 st) := .of_keeps (KeepsLaws.setReg ..) (KeepsLaws.subI rfl rfl)
  unfold State.reportStatus
  dsimp only
  refine .ite shown (.trans shown (.trans (.of_keeps (State.eventLimited_keeps ..) (KeepsLaws.subI rfl rfl)) (State.modChan_tells _ _ _ ?_)))
  exact fun _ => rfl

theorem State.reportStatus_keyCmds (st pic : Nat) (tag : Option Tag) : (s.reportStatus c st pic tag).enc.keyCmds = s.enc.keyCmds := by
  unfold State.reportStatus
  dsimp only
  split_ifs
  · rw [State.setBits_enc]
  · rw [State.keyCmds_modChan, (State.eventLimited_keeps ..).enc, State.setBits_enc]

theorem State.setChanState_tells (st cause : Nat) : State.Tells c s (s.setChanState c st cause) :=
  .of_keeps (State.setChanState_keeps ..) (KeepsLaws.subI rfl rfl)

end

/-! ### The ENC_KEY commands that wait (R288) -/

/-- An ENC_KEY once channel c has started its key picture, or has deferred it. -/
def KeyCmd.step (c t tk pic : Nat) (deferred : Bool) (w : KeyCmd) : KeyCmd :=
  if !w.left.contains c || decide (tk ≤ w.time) then w
  else if deferred then { w with deferred := w.deferred ||| 2 ^ c }
  else { w with left := w.left.erase c, taken := w.taken ||| 2 ^ c
                picture := if c = w.lowest then pic else w.picture
                tk := if c = w.lowest then t else w.tk }

/-- The reply body of ENC_KEY. -/
def KeyCmd.body (w : KeyCmd) : List Byte :=
  leBytes 2 w.taken ++ leBytes 2 w.coalesced ++ leBytes 2 w.deferred ++ leBytes 2 0 ++ leBytes 6 w.picture ++ leBytes 2 0 ++ timeBytes w.tk

/-- The ENC_KEY commands that no channel keeps waiting are answered. -/
def State.answerKeys (s : State) (l : List KeyCmd) : State := l.foldl (fun s w => s.replyR w.req 0x3802 0 0 w.restarted w.body) s

theorem State.answerKeys_keeps (s : State) (l : List KeyCmd) : Keeps 28 2686976 s (s.answerKeys l) :=
  KeepsLaws.foldl (fun _ _ => State.replyR_keeps ..) (KeepsLaws.refl ..)

section

variable (s : State) (c t tk pic : Nat) (deferred : Bool)

theorem State.keyCmdsStep_eq :
    let l := s.enc.keyCmds.map (KeyCmd.step c t tk pic deferred)
    s.keyCmdsStep c t tk pic deferred =
      State.answerKeys { s with enc := { s.enc with keyCmds := l.filter (fun w => !w.left.isEmpty) } } (l.filter (fun w => w.left.isEmpty)) := rfl

theorem State.keyCmdsStep_tells : State.Tells c s (s.keyCmdsStep c t tk pic deferred) := by
  refine ⟨KeepsLaws.mono (State.keyCmdsStep_keeps ..) (KeepsLaws.subI rfl rfl), ?_⟩
  rw [State.keyCmdsStep_eq, (State.answerKeys_keeps ..).chan c]
  rfl

end

/-- The one ENC_KEY that waits on channel c alone is answered when the channel starts its key picture. -/
theorem State.keyCmdsStep_answers {s u : State} {c tk : Nat} {w : KeyCmd} (t pic : Nat) (waits : u.enc.keyCmds = [w]) (left : w.left = [c])
    (lowest : w.lowest = c) (before : w.time < tk) (takes : u.evtEn w.req.port = true) (running : u.interp.restart = none)
    (out : s.out <:+ u.out) :
    (u.keyCmdsStep c t tk pic false).enc.keyCmds = [] ∧
      Answers s (u.keyCmdsStep c t tk pic false) w.req 0x3802 0 0
        (leBytes 2 (w.taken ||| 2 ^ c) ++ leBytes 2 w.coalesced ++ leBytes 2 w.deferred ++ leBytes 2 0 ++ leBytes 6 pic ++ leBytes 2 0 ++
          timeBytes t) := by
  have started : KeyCmd.step c t tk pic false w = { w with left := [], taken := w.taken ||| 2 ^ c, picture := pic, tk := t } := by
    simp [KeyCmd.step, left, lowest, before]
  rw [State.keyCmdsStep_eq, waits, List.map_singleton, started]
  refine ⟨congrArg Encoder.keyCmds (State.answerKeys_keeps ..).enc, ?_⟩
  exact answers_replyR (u := { u with enc := { u.enc with keyCmds := [] } }) out running takes

end Sys2Proof.Machine
end

section
/-! SUPPORT. The start of a picture (07_encoder.md R267, R274 to R276, R288 to R292). -/

namespace Sys2Proof.Machine

/-- A key picture. -/
def EncPic.key (p : EncPic) : Bool := p.kind == 1 || p.kind == 2

/-- The flags of the liveness SEI show repeat pictures in bit 7 and key pictures in bit 6 (R292). -/
theorem seiFlags_testBit (a b c d e f g : Bool) :
    let n := 128 * bit01 a + 64 * bit01 b + 32 * bit01 c + 16 * bit01 d + 8 * bit01 e + 4 * bit01 f + 2 * bit01 g
    n.testBit 7 = a ∧ n.testBit 6 = b := by
  revert a b c d e f g
  decide

/-- What channel x has become by starting picture p with the status and the frame of `own`; `unused` is a reference buffer that nothing
holds. -/
structure EncChan.Opens (x : EncChan) (c : Nat) (own : Nat × Option Cand) (unused : Option Nat) (p : EncPic) (y : EncChan) : Prop where
  pics : y.pics = x.pics ++ [p]
  pic : y.pic = (x.pic + 1) % 2 ^ 48
  nextK : y.nextK = x.nextK + 1
  num : p.num = x.pic
  tk : p.tk = eTk x.cfg x.nextK
  status : p.status = own.1
  sei : ∃ flags age, p.sei = seiNal (seiPayload own.1 flags c p.tag age x.pic x.prevFill x.prevLate (eTk x.cfg x.nextK)
      (if eVirtual x.cfg then 0 else x.cfg.u32 36)) ∧ (flags.testBit 7 = true ↔ p.kind = 3) ∧
      (flags.testBit 6 = true ↔ p.kind = 1 ∨ p.kind = 2)
  tag : ∀ f, eVirtual x.cfg = false → own.2 = some f → p.tag = some f.tag
  repeated : x.keyCause (eTk x.cfg x.nextK) = none → own.1 ∈ [5, 4, 8, 3, 1] → p.kind = 3
  keyed : ∀ q, x.keyCause (eTk x.cfg x.nextK) = some q → unused.isSome = true →
    (p.kind = 1 ∨ p.kind = 2) ∧ p.cause = q ∧ y.latch = x.latch.filter (fun k => decide (eTk x.cfg x.nextK ≤ k.time)) ∧ y.needKey = none

/-- The own status of a channel's next picture, and the frame it takes (R274, R275). -/
def State.nextStatus (s : State) (c : Nat) (ready : Bool) : Nat × Option Cand :=
  let x := s.chan c
  s.pictureStatus c ready (eTin x.cfg x.nextK 0) (eTout x.cfg x.nextK (eRows x.cfg - 1))

/-- The counter of a picture's kind has counted it (R305). -/
def State.countPic (s : State) (c : Nat) (p : EncPic) : State :=
  if p.kind = 3 then s.bumpSat .ENC_CH_REPEAT c else if p.key then s.bumpWrap .ENC_CH_KEYS c else s

/-- The frame of a channel's next picture is taken, where there is one. -/
def State.takeNext (s : State) (c : Nat) (f : Option Cand) (tin : Nat) : State :=
  match f with | some f => s.takeFrame c f tin | none => s

section

variable (s : State) (c : Nat) (f : Option Cand) (tin : Nat)

theorem State.takeNext_learns : State.Learns c s (s.takeNext c f tin) := by
  cases f with
  | none => exact .refl ..
  | some f => exact State.takeFrame_learns ..

theorem State.takeNext_keeps : Keeps 34177036 49005977748598278402217558698415744421888 s (s.takeNext c f tin) := by
  cases f with
  | none => exact KeepsLaws.refl ..
  | some f => exact KeepsLaws.mono (State.takeFrame_keeps ..) (KeepsLaws.subI rfl rfl)

theorem State.refPool_takeNext (e : Nat) : (s.takeNext c f tin).pool (poolEnc e) = s.pool (poolEnc e) := by
  cases f with
  | none => rfl
  | some f => exact State.refPool_takeFrame ..

end

/-- The next picture's frame is the channel's from then on. -/
theorem State.chan_takeNext {s : State} {c tin last : Nat} {ready : Bool} {f : Cand} (takes : (s.pictureStatus c ready tin last).2 = some f) :
    ((s.takeNext c (s.pictureStatus c ready tin last).2 tin).chan c).taken = some f.tag := by
  obtain ⟨n, source⟩ := State.pictureStatus_pool takes
  rw [takes]
  exact congrArg EncChan.taken (State.chan_takeFrame f tin source)

/-- What does not show the frames of a channel is the same of channels that differ by these alone. -/
theorem EncChan.of_untaken {α : Type} {x y : EncChan} (h : x.untaken = y.untaken) (g : EncChan → α)
    (hg : ∀ x, g x.untaken = g x := by intro; rfl) :
    g x = g y := by
  rw [← hg, h, hg]

theorem EncChan.keyCause_untaken {x y : EncChan} (h : x.untaken = y.untaken) (tk : Nat) : x.keyCause tk = y.keyCause tk :=
  EncChan.of_untaken h (·.keyCause tk)

/-- The kind of a picture: a repeat, a CRA or an IDR picture, or a P picture (R267, R276, R288). -/
def pictureKind (noBuf coded cra : Bool) (key : Option Nat) : Nat :=
  if noBuf || !coded then 3 else if key.isSome then (if cra then 2 else 1) else 0

theorem pictureKind_key {noBuf coded : Bool} {key : Option Nat} (cra : Bool) (h : key.isSome = true → noBuf = false ∧ coded = true) :
    (pictureKind noBuf coded cra key == 1 || pictureKind noBuf coded cra key == 2) = key.isSome := by
  unfold pictureKind
  cases keyed : key.isSome with
  | true =>
    obtain ⟨room, code⟩ := h keyed
    rw [room, code]
    cases cra <;> rfl
  | false => cases (noBuf || !coded) <;> rfl

/-- A picture that has started is told of: its status, the state of its channel and, on duty, the pair's record (R299, R305, R306). -/
def State.reportPicture (s : State) (c : Nat) (p : EncPic) (st0 : Nat) (resumed : Bool) (m : EncMirror) : State :=
  let s7 := s.reportStatus c p.status p.num p.tag
  let s8 := if st0 = 1 then s7.setChanState c 2 4 else if st0 = 3 && resumed then s7.setChanState c 2 3 else s7
  if s8.onDuty then (s8.modChan c (fun y => { y with told := m })).seam .encPicture (mirrorBytes c m) else s8

section

variable (s : State) (c : Nat) (p : EncPic) (st0 : Nat) (resumed : Bool) (m : EncMirror)

theorem State.reportPicture_tells : State.Tells c s (s.reportPicture c p st0 resumed m) := by
  unfold State.reportPicture
  extract_lets s7 s8
  have status : State.Tells c s s7 := State.reportStatus_tells ..
  have shown : State.Tells c s s8 := .ite (status.trans (State.setChanState_tells ..)) (.ite (status.trans (State.setChanState_tells ..)) status)
  clear_value s8
  refine .ite (shown.trans (.trans (State.modChan_tells _ _ _ ?_) (.of_keeps (State.seam_keeps ..) (KeepsLaws.subI rfl rfl)))) shown
  exact fun _ => rfl

theorem State.reportPicture_keyCmds : (s.reportPicture c p st0 resumed m).enc.keyCmds = s.enc.keyCmds := by
  unfold State.reportPicture
  extract_lets s7 s8
  have shown : s8.enc.keyCmds = s.enc.keyCmds := by
    refine Eq.trans ?_ (State.reportStatus_keyCmds s c p.status p.num p.tag)
    unfold s8
    split_ifs
    · rw [(State.setChanState_keeps ..).enc]
    · rw [(State.setChanState_keeps ..).enc]
    · rfl
  clear_value s8
  split_ifs
  · rw [(State.seam_keeps ..).enc, State.keyCmds_modChan, shown]
  · exact shown

end

theorem State.countPic_keeps (s : State) (c : Nat) (p : EncPic) :
    Keeps 0 (2 ^ Reg.ENC_CH_REPEAT.ctorIdx ||| 2 ^ Reg.ENC_CH_KEYS.ctorIdx) s (s.countPic c p) := by
  unfold State.countPic
  refine KeepsLaws.ite ?_ (KeepsLaws.ite ?_ (KeepsLaws.refl ..))
  · exact KeepsLaws.mono (State.bumpSat_keeps ..) (KeepsLaws.subI rfl rfl)
  · exact KeepsLaws.mono (State.bumpWrap_keeps ..) (KeepsLaws.subI rfl rfl)

/-- A picture without a buffer is counted and reported (R267). -/
def State.notePoolWait (s : State) (c : Nat) (noBuf : Bool) : State :=
  if noBuf then (s.bumpSat .ENC_CH_POOLWAIT c).eventPerSec 0x3809 c 1 (fun n => [BitVec.ofNat 8 c, 0#8, 0#8, 0#8] ++ leBytes 4 n) else s

theorem State.notePoolWait_keeps (s : State) (c : Nat) (noBuf : Bool) :
    Keeps 268 (593920 ||| 2 ^ Reg.ENC_CH_POOLWAIT.ctorIdx) s (s.notePoolWait c noBuf) := by
  unfold State.notePoolWait
  refine KeepsLaws.ite ?_ (KeepsLaws.refl ..)
  exact KeepsLaws.comp (KeepsLaws.mono (State.bumpSat_keeps ..) (KeepsLaws.subI rfl rfl)) (State.eventPerSec_keeps ..) (KeepsLaws.subI rfl rfl)

theorem State.notePoolWait_tells (s : State) (c : Nat) (noBuf : Bool) : State.Tells c s (s.notePoolWait c noBuf) :=
  .of_keeps (State.notePoolWait_keeps ..) (KeepsLaws.subI rfl rfl)

/-- Past the picture itself its start counts it, answers the ENC_KEY commands that it serves or defers, and tells of it. -/
def State.finishStart (s : State) (c : Nat) (p : EncPic) (noBuf wanted : Bool) (st0 : Nat) (resumed : Bool) (m : EncMirror) : State :=
  let s1 := (s.countPic c p).notePoolWait c noBuf
  let s2 := if p.key then s1.keyCmdsStep c p.tk p.tk p.num false else if noBuf && wanted then s1.keyCmdsStep c p.tk p.tk p.num true else s1
  s2.reportPicture c p st0 resumed m

section

variable (s : State) (c : Nat) (p : EncPic) (noBuf wanted : Bool) (st0 : Nat) (resumed : Bool) (m : EncMirror)

theorem State.finishStart_tells : State.Tells c (s.countPic c p) (s.finishStart c p noBuf wanted st0 resumed m) :=
  .trans (State.notePoolWait_tells ..)
    (.trans (.ite (State.keyCmdsStep_tells ..) (.ite (State.keyCmdsStep_tells ..) (.refl ..))) (State.reportPicture_tells ..))

theorem State.finishStart_untold : ((s.finishStart c p noBuf wanted st0 resumed m).chan c).untold = (s.chan c).untold := by
  rw [(s.finishStart_tells c p noBuf wanted st0 resumed m).untold, (s.countPic_keeps c p).chan c]

/-- The start of a repeat picture is counted (R276). -/
theorem State.finishStart_repeat (repeated : p.kind = 3) :
    (s.finishStart c p noBuf wanted st0 resumed m).getReg .ENC_CH_REPEAT c = (s.bumpSat .ENC_CH_REPEAT c).getReg .ENC_CH_REPEAT c := by
  rw [(State.finishStart_tells ..).keeps.reg, State.countPic, if_pos repeated]

end

section

variable {s u : State} {c : Nat} {p : EncPic} (noBuf wanted : Bool) (st0 : Nat) (resumed : Bool) (m : EncMirror)

/-- The start of a key picture is counted. -/
theorem State.finishStart_keys (hc : c < 16) (key : p.key = true) :
    (u.finishStart c p noBuf wanted st0 resumed m).getReg .ENC_CH_KEYS c = u.getReg .ENC_CH_KEYS c + 1 := by
  have coded : p.kind ≠ 3 := by
    intro h
    rw [EncPic.key, h] at key
    cases key
  rw [(State.finishStart_tells ..).keeps.reg, State.countPic, if_neg coded, if_pos key, State.getReg_bumpWrap_self _ hc]

/-- The start of a key picture answers the one ENC_KEY that waited on the channel alone (R288). -/
theorem State.finishStart_answers {w : KeyCmd} (key : p.key = true) (waits : u.enc.keyCmds = [w]) (left : w.left = [c]) (lowest : w.lowest = c)
    (before : w.time < p.tk) (takes : u.evtEn w.req.port = true) (running : u.interp.restart = none) (out : s.out <:+ u.out) :
    (u.finishStart c p noBuf wanted st0 resumed m).enc.keyCmds = [] ∧
      Answers s (u.finishStart c p noBuf wanted st0 resumed m) w.req 0x3802 0 0
        (leBytes 2 (w.taken ||| 2 ^ c) ++ leBytes 2 w.coalesced ++ leBytes 2 w.deferred ++ leBytes 2 0 ++ leBytes 6 p.num ++ leBytes 2 0 ++
          timeBytes p.tk) := by
  have count := u.countPic_keeps c p
  have note := (u.countPic c p).notePoolWait_keeps c noBuf
  obtain ⟨none_, replied⟩ := State.keyCmdsStep_answers (s := s) (u := (u.countPic c p).notePoolWait c noBuf) p.tk p.num
    (by rw [note.enc, count.enc, waits]) left lowest before (by rw [note.evtEn rfl, count.evtEn rfl, takes])
    (by rw [note.restart rfl, count.restart rfl, running]) (out.trans (count.out.trans note.out))
  unfold State.finishStart
  dsimp only
  rw [if_pos key]
  exact ⟨(State.reportPicture_keyCmds ..).trans none_, replied.keeps (State.reportPicture_tells ..).keeps⟩

end

/-- The start of a picture: the channel becomes what the picture makes of it, and the picture is finished off. -/
theorem State.startEncPicture_opens {s0 t : State} {c : Nat} {ready : Bool} {pre : List Nat} (alone : s0.isStandby = false)
    (starts : s0.startEncPicture c ready pre = t) :
    ∃ p u noBuf wanted st0 resumed m, t = u.finishStart c p noBuf wanted st0 resumed m ∧
      (s0.chan c).Opens c ((s0.checkTaken c).nextStatus c ready) (s0.pool (poolEnc c)).unusedBuf p (u.chan c) ∧
      Keeps 34177036 49005977748598278402217558698415744421888 s0 u ∧ u.enc.keyCmds = s0.enc.keyCmds := by
  unfold State.startEncPicture at starts
  extract_lets s x0 b k tk tin last st0 own mir decided s1 x newFrame wantKey cra suppressed resumes badSt pool coded buf noBuf key kind filled tag
    ageUs marked flags sei cplx budget prev q pool1 lat at starts
  have none_ : mir = none := State.mirrorOf_alone ((State.checkTaken_keeps ..).isStandby.trans alone) ..
  clear_value mir
  subst none_
  have checked : State.Learns c s0 s := State.checkTaken_learns ..
  have seen : Keeps 34177036 49005977748598278402217558698415744421888 s0 s := KeepsLaws.mono (State.checkTaken_keeps ..) (KeepsLaws.subI rfl rfl)
  have status : own = (s0.checkTaken c).nextStatus c ready := rfl
  have taken : State.Learns c s s1 := State.takeNext_learns s c own.2 tin
  have framed : Keeps 34177036 49005977748598278402217558698415744421888 s s1 := State.takeNext_keeps s c own.2 tin
  have frame : ∀ f, own.2 = some f → (s1.chan c).taken = some f.tag := fun f takes => State.chan_takeNext takes
  have stands : s1.pool (poolEnc c) = s0.pool (poolEnc c) := (s.refPool_takeNext c own.2 tin c).trans ((s0.checkTaken_keeps c).pool _)
  clear_value s1 own s
  split at starts
  next d s2 drawn =>
  have free : Keeps 0 0 s1 s2 := by
    refine KeepsLaws.ofSnd drawn (KeepsLaws.iteP ?_ ?_)
    · exact KeepsLaws.drawn ..
    · exact KeepsLaws.refl ..
  extract_lets p x1 s3 s4 s5 s6 s7 s8 m at starts
  have standing : s3.chan c = x1 := State.chan_setChan_self ..
  have keyWanted : key.isSome = true → noBuf = false ∧ wantKey.isSome = true := by
    unfold key
    cases noBuf
    · exact fun h => ⟨rfl, h⟩
    · exact fun h => absurd h (by simp)
  have codedKey : wantKey.isSome = true → coded = true := fun h => by unfold coded; rw [h]; rfl
  have kindKey : p.key = key.isSome := pictureKind_key cra fun h => ⟨(keyWanted h).1, codedKey (keyWanted h).2⟩
  have ending : t = s3.finishStart c p noBuf wantKey.isSome st0 x.resume.isSome m := by
    unfold State.finishStart State.countPic
    rw [kindKey]
    exact starts.symm
  refine ⟨p, s3, noBuf, wantKey.isSome, st0, x.resume.isSome, m, ending, ?opens, ?keeps, ?keyCmds⟩
  case opens =>
    have same : x.untaken = (s0.chan c).untaken := taken.untaken.trans checked.untaken
    have same0 : x0.untaken = (s0.chan c).untaken := checked.untaken
    have cfg : b = (s0.chan c).cfg := EncChan.of_untaken same0 (·.cfg)
    have grid : k = (s0.chan c).nextK := EncChan.of_untaken same0 (·.nextK)
    have time : tk = eTk (s0.chan c).cfg (s0.chan c).nextK := by unfold tk; rw [cfg, grid]
    have want : wantKey = (s0.chan c).keyCause (eTk (s0.chan c).cfg (s0.chan c).nextK) := by
      rw [← time]
      exact EncChan.keyCause_untaken same tk
    rw [standing]
    constructor
    case pics => exact congrArg (· ++ [p]) (EncChan.of_untaken same (·.pics))
    case pic => exact congrArg (fun n => (n + 1) % 2 ^ 48) (EncChan.of_untaken same (·.pic))
    case nextK => exact congrArg (· + 1) grid
    case num => exact EncChan.of_untaken same (·.pic)
    case tk => exact time
    case status => exact congrArg Prod.fst status
    case sei =>
      have bits := seiFlags_testBit (kind == 3) key.isSome filled x.prevMismatch x.prevConcealed marked (eVirtual b)
      refine ⟨flags, ageUs, ?_, ?_, ?_⟩
      · rw [← status, ← time, ← cfg, ← EncChan.of_untaken same (·.pic), ← EncChan.of_untaken same (·.prevFill),
          ← EncChan.of_untaken same (·.prevLate)]
      · rw [bits.1]
        exact beq_iff_eq
      · rw [bits.2, ← kindKey]
        simp [EncPic.key]
    case tag =>
      intro f real takes
      change (if eVirtual b = true then none else x.taken) = some f.tag
      rw [cfg, real, if_neg (by decide)]
      exact frame f (status ▸ takes)
    case repeated =>
      intro unasked bad
      rw [← status] at bad
      have uncoded : coded = false := by
        have inside : badSt = true := List.contains_iff_mem.mpr bad
        unfold coded
        rw [want, unasked, inside]
        rfl
      change kind = 3
      unfold kind
      rw [uncoded, Bool.not_false, Bool.or_true, if_pos rfl]
    case keyed =>
      intro q asked unused
      rw [← want] at asked
      have found : buf = (s0.pool (poolEnc c)).unusedBuf := by
        unfold buf
        rw [codedKey (by rw [asked]; rfl), if_pos rfl]
        exact congrArg Pool.unusedBuf stands
      have room : noBuf = false := by
        unfold noBuf
        rw [found, ← Option.not_isSome, unused]
        simp
      have keyed : key = some q := by
        unfold key
        rw [room, if_neg (by decide), asked]
      refine ⟨?_, ?_, ?_, ?_⟩
      · simpa [EncPic.key, keyed] using kindKey
      · change key.getD 0 = q
        rw [keyed]
        rfl
      · change lat = _
        unfold lat
        rw [keyed, if_pos (c := (some q).isSome = true) rfl, ← time, EncChan.of_untaken same (·.latch)]
      · change (if wantKey.isSome = true then none else x.needKey) = none
        rw [asked]
        rfl
  case keeps =>
    refine KeepsLaws.comp (KeepsLaws.comp (KeepsLaws.comp ?_ free (KeepsLaws.subI rfl rfl)) (State.setPool_keeps ..) (KeepsLaws.subI rfl rfl))
      (State.setChan_keeps ..) (KeepsLaws.subI rfl rfl)
    exact KeepsLaws.trans seen framed
  case keyCmds =>
    refine (State.keyCmds_setChan ..).trans ?_
    rw [(State.setPool_keeps ..).enc, free.enc, taken.keyCmds, checked.keyCmds]

end Sys2Proof.Machine
end

section
/-! SUPPORT. ENC_PICTURE_START (07_encoder.md R229, R274 to R276, R288, R301). -/

namespace Sys2Proof.Machine

/-- The picture that a channel starts stands last in it and its kind is counted; a key picture answers the ENC_KEY that waited on the channel
alone. -/
theorem State.startEncPicture_effect {s t : State} {c : Nat} {ready : Bool} {pre : List Nat} (hc : c < 16) (alone : s.isStandby = false)
    (starts : s.startEncPicture c ready pre = t) :
    ∃ p y, (s.chan c).Opens c ((s.checkTaken c).nextStatus c ready) (s.pool (poolEnc c)).unusedBuf p y ∧ (t.chan c).untold = y.untold ∧
      (p.kind = 3 → t.getReg .ENC_CH_REPEAT c = (s.bumpSat .ENC_CH_REPEAT c).getReg .ENC_CH_REPEAT c) ∧
      (p.kind = 1 ∨ p.kind = 2 → t.getReg .ENC_CH_KEYS c = s.getReg .ENC_CH_KEYS c + 1 ∧
        ∀ w, s.enc.keyCmds = [w] → w.left = [c] → w.lowest = c → w.time < p.tk → s.evtEn w.req.port = true → s.interp.restart = none →
          t.enc.keyCmds = [] ∧ Answers s t w.req 0x3802 0 0
            (leBytes 2 (w.taken ||| 2 ^ c) ++ leBytes 2 w.coalesced ++ leBytes 2 w.deferred ++ leBytes 2 0 ++ leBytes 6 p.num ++ leBytes 2 0 ++
              timeBytes p.tk)) := by
  obtain ⟨p, u, noBuf, wanted, st0, resumed, m, rfl, opens, before, keyCmds⟩ := State.startEncPicture_opens alone starts
  refine ⟨p, u.chan c, opens, State.finishStart_untold .., fun repeated => ?_, fun kind => ?_⟩
  · rw [State.finishStart_repeat (repeated := repeated)]
    exact State.getReg_bumpSat_congr before.reg
  · have key : p.key = true := by simpa [EncPic.key] using kind
    refine ⟨(State.finishStart_keys noBuf wanted st0 resumed m hc key).trans (congrArg (· + 1) before.reg), ?_⟩
    intro w waits left lowest early takes running
    exact State.finishStart_answers noBuf wanted st0 resumed m key (keyCmds.trans waits) left lowest early ((before.evtEn rfl).trans takes)
      ((before.restart rfl).trans running) before.out

theorem State.nextStatus_checkTaken (s : State) (c : Nat) (ready : Bool) : (s.checkTaken c).nextStatus c ready =
    (s.checkTaken c).pictureStatus c ready (eTin (s.chan c).cfg (s.chan c).nextK 0)
      (eTout (s.chan c).cfg (s.chan c).nextK (eRows (s.chan c).cfg - 1)) := by
  have same := (s.checkTaken_learns c).untaken
  unfold State.nextStatus
  dsimp only
  rw [EncChan.of_untaken same (·.cfg), EncChan.of_untaken same (·.nextK)]

/-- A reply given after other effects is given since the start. -/
theorem Answers.after {F R op st x : Nat} {s u t : State} {r : Req} {b : List Byte} (k : Keeps F R s u) (h : Answers u t r op st x b) :
    Answers s t r op st x b := by
  obtain ⟨new, i, y, out, inside, fields⟩ := h
  obtain ⟨q, before⟩ := k.out
  exact ⟨new ++ q, i, y, by rw [out, ← before, List.append_assoc], List.mem_append_left _ inside, fields⟩

theorem execEncPictureStart_starts {c : Fin 16} {s : State} (ready : Bool) (pre : List Nat) (bound : (s.chan c).bound = true)
    (stays : (s.chan c).eob = none) (settled : (s.chan c).next = none) (due : eTin (s.chan c).cfg (s.chan c).nextK 0 ≤ s.ptp) :
    execEncPictureStart c ready pre s = .next ((s.takeEngines c true).startEncPicture c ready pre) := by
  have goes : ¬ ((!(s.chan c).bound || (s.chan c).eob.isSome || decide (s.ptp < eTin (s.chan c).cfg (s.chan c).nextK 0)) = true) := by
    simpa [bound, stays] using due
  unfold execEncPictureStart
  dsimp only
  rw [if_neg goes, settled]
  exact if_neg goes

end Sys2Proof.Machine
end

section
/-! SUPPORT. A channel's row that waits alone goes to its PE (06_coding_fabric_decode.md R232, R234). -/

namespace Sys2Proof.Machine

section

variable {s : State} {o n : Nat} {j : Job}

/-- Where no job of a session waits, what the channels leave of the PEs and of the lists of rows stays. -/
theorem State.refill_rows (rows : s.refillChans.fab.dram.filter (fun e => decide (64 ≤ e.1)) = []) (entropy : s.refillChans.fab.dramEe = []) :
    s.refill.fab.pe = s.refillChans.fab.pe ∧ s.refill.fab.dram = s.refillChans.fab.dram := by
  have idle : s.refill = s.refillChans.refillEes.countJobs := by
    change (s.refillChans.refillPool
      ((s.refillChans.fab.dram.filter (fun e => decide (64 ≤ e.1))).map (fun e => e.2.length)).sum).refillEes.countJobs = _
    rw [rows]
    rfl
  rw [idle, (State.countJobs_keeps _).fab rfl]
  unfold State.refillEes
  rw [entropy]
  exact ⟨rfl, rfl⟩

/-- The one row of a channel that waits goes to the PE of its index where this has room, and waits on where it is full (R234). -/
theorem State.refill_row (rows : s.fab.dram = [(o, [j])]) (entropy : s.fab.dramEe = []) (chan : o < 64) (owner : j.owner = o)
    (pe : s.chanPe j = some n) :
    if (s.peSt n).queue.length < 16 then (s.refill.peSt n).queue = (s.peSt n).queue ++ [{ j with num := s.fab.nextNum }]
    else Tbl.get s.refill.fab.dram o = [j] := by
  have first : Tbl.get s.fab.dram o = [j] := by simp [rows, Tbl.get, Tbl.getD, Tbl.find]
  have gone : Tbl.set s.fab.dram o [] = [] := by
    rw [rows]
    exact (if_pos rfl).trans rfl
  obtain ⟨u, cleared, same, empty, num⟩ : ∃ u : State, { s with fab := { s.fab with dram := [] } } = u ∧ u.peSt n = s.peSt n ∧
      u.fab.dram = [] ∧ u.fab.nextNum = s.fab.nextNum := ⟨_, rfl, rfl, rfl, rfl⟩
  have offered : s.refillRows o = u.offerPe (some n) j := by
    rw [State.refillRows, first, gone, cleared, ← pe, ← cleared]
    rfl
  have lists := (s.refillRows_entropy o).2
  have moved : s.refillChans.fab = { (s.refillRows o).fab with dramEe := [] } := by
    have chans : ((s.fab.dram ++ s.fab.dramEe).map (fun e => e.1)).filter (fun o => decide (o < 64)) = [o] := by simp [rows, entropy, chan]
    rw [State.refillChans, chans, List.foldl_cons, List.foldl_nil, State.refillChan_eq, lists, entropy]
    rfl
  rw [offered] at moved
  split_ifs with room
  · rw [show u.offerPe (some n) j = u.pushPe n j from if_pos (same ▸ room), State.pushPe, State.setPe_fab] at moved
    obtain ⟨engines, -⟩ := State.refill_rows (s := s) (by rw [moved, ← cleared]; rfl) (by rw [moved])
    rw [State.peSt, engines, moved]
    dsimp only
    rw [Tbl.get_set_self, same, num]
  · rw [show u.offerPe (some n) j = u.toDram j from if_neg (same ▸ room), State.toDram, empty, Tbl.modify_append_nil, owner] at moved
    obtain ⟨-, waits⟩ := State.refill_rows (s := s) (by simp [moved, chan]) (by rw [moved])
    rw [waits, moved, ← rows]
    exact first

end

end Sys2Proof.Machine
end

section
/-! SUPPORT. ENC_ROW_INPUT_DEADLINE (07_encoder.md R233, R278, R284, R286). -/

namespace Sys2Proof.Machine

/-- A row's QP lies between MIN_QP and 51 (R286). -/
theorem EncChan.rowQp_bounds (x : EncChan) (p : EncPic) (aq : Int) (t : Nat) (h : x.cfg.u8 29 ≤ 51) :
    x.cfg.u8 29 ≤ x.rowQp p aq t ∧ x.rowQp p aq t ≤ 51 := by
  unfold EncChan.rowQp clampInt
  dsimp only
  split_ifs
  all_goals omega

/-- A channel whose picture of a number has one row more behind its input deadline. -/
def EncChan.joinRow (x : EncChan) (num : Nat) (e : EncRow) (margins : List (Nat × Int)) : EncChan :=
  { (x.modPic num (fun p => { p with rows := p.rows ++ [e] })) with margins := margins }

theorem EncChan.getLast?_joinRow {x : EncChan} {p : EncPic} (last : x.pics.getLast? = some p) (e : EncRow) (margins : List (Nat × Int)) :
    (x.joinRow p.num e margins).pics.getLast? = some { p with rows := p.rows ++ [e] } := EncChan.getLast?_modPic last rfl

/-- The row joins, and the least margin of the last second shows (R278). -/
def State.joinRow (s : State) (c num : Nat) (e : EncRow) (margins : List (Nat × Int)) (least : Word) : State :=
  (s.modChan c (fun x => x.joinRow num e margins)).setReg .ENC_CH_MARGIN_US c least

section

variable (s : State) (c num : Nat) (e : EncRow) (margins : List (Nat × Int)) (least : Word)

theorem State.joinRow_keeps :
    Keeps 524288 (5316911983139663491615228241121378304 ||| 2 ^ Reg.ENC_CH_MARGIN_US.ctorIdx) s (s.joinRow c num e margins least) :=
  KeepsLaws.comp (KeepsLaws.mono (State.modChan_keeps ..) (KeepsLaws.subI rfl rfl)) (KeepsLaws.setReg ..) (KeepsLaws.subI rfl rfl)

theorem State.chan_joinRow : (s.joinRow c num e margins least).chan c = (s.chan c).joinRow num e margins := by
  rw [State.joinRow, State.chan_congr (State.setReg_enc ..), State.chan_modChan_self]

end

/-- The job of a picture's next row (R232). -/
def EncPic.rowJob (p : EncPic) (c : Nat) (b : Body) : Job := { owner := c, pic := p.num, row := p.rows.length, rows := eRows b, cols := eCols b }

/-- A row that came in time waits for its PE; a late one is counted and stands as reconstructed (R233, R278). -/
def State.sendRow (s : State) (c : Nat) (p : EncPic) (b : Body) (late : Bool) : State :=
  if late then (((s.noteLate c p.num).noteRecon (c, p.num, p.rows.length)).settleRows c p.num).refill else (s.toDram (p.rowJob c b)).refill

/-- A key picture is reported with its first row, and the pair's record of the row is sent on duty (R299, R306). -/
def State.tellRow (s : State) (c : Nat) (p : EncPic) (qp : Nat) (late : Bool) : State :=
  let s1 := if p.rows.length = 0 && p.key then
    s.eventAt p.tk 0x3805 ([BitVec.ofNat 8 c, BitVec.ofNat 8 p.cause, BitVec.ofNat 8 qp, 0#8] ++ leBytes 6 p.num) else s
  if s1.onDuty then s1.seam .encRow (rowMirrorBytes c { pic := p.num, row := p.rows.length, late := late }) else s1

theorem State.tellRow_keeps (s : State) (c : Nat) (p : EncPic) (qp : Nat) (late : Bool) : Keeps 12 593920 s (s.tellRow c p qp late) := by
  have event : Keeps 12 593920 s (if p.rows.length = 0 && p.key then
      s.eventAt p.tk 0x3805 ([BitVec.ofNat 8 c, BitVec.ofNat 8 p.cause, BitVec.ofNat 8 qp, 0#8] ++ leBytes 6 p.num) else s) :=
    KeepsLaws.ite (State.eventAt_keeps ..) (KeepsLaws.refl ..)
  exact KeepsLaws.ite (KeepsLaws.comp event (State.seam_keeps ..) (KeepsLaws.subI rfl rfl)) event

/-- A row that is read joins its picture, with its margin, and goes on its way. -/
theorem execEncRowInputDeadline_reads {c : Fin 16} {told : Int} {p : EncPic} {s : State} (last : (s.chan c).pics.getLast? = some p)
    (inside : p.rows.length < eRows (s.chan c).cfg) (due : eTinAt (s.chan c).cfg p.tk p.rows.length ≤ s.ptp) (alone : s.isStandby = false)
    (coded : p.kind ≠ 3) (reads : p.filled = false) :
    ∃ w e, Keeps 524288 (5316911983139663491615228241121378304 ||| 2 ^ Reg.ENC_CH_MARGIN_US.ctorIdx) s w ∧
      (w.chan c).pics.getLast? = some { p with rows := p.rows ++ [e] } ∧
      (e.late = true ↔ s.rowMargin c p.rows.length (eTinAt (s.chan c).cfg p.tk p.rows.length) told < 0) ∧
      ((s.chan c).cfg.u8 29 ≤ 51 → (s.chan c).cfg.u8 29 ≤ e.qp ∧ e.qp ≤ 51) ∧
      execEncRowInputDeadline c p.rows.length told s =
        .next ((w.sendRow c p (s.chan c).cfg e.late).tellRow c p e.qp e.late) := by
  have goes : ¬ ((p.rows.length != p.rows.length || decide (eRows (s.chan c).cfg ≤ p.rows.length) ||
      decide (s.ptp < eTinAt (s.chan c).cfg p.tk p.rows.length)) = true) := by
    simpa using ⟨inside, due⟩
  generalize runs : execEncRowInputDeadline c p.rows.length told s = o
  unfold execEncRowInputDeadline at runs
  extract_lets x at runs
  split at runs
  next missing => exact absurd (last.symm.trans missing) (by simp)
  next q found =>
  obtain rfl : p = q := Option.some.inj (last.symm.trans found)
  rw [if_neg goes] at runs
  extract_lets reading margin late ms0 least at runs
  have read : reading = true := by simp [reading, coded, reads]
  clear_value reading
  subst read
  split at runs
  next aq u drawn =>
  have free : Keeps 0 0 s u := KeepsLaws.ofSnd drawn (KeepsLaws.iteP (State.rowAq_keeps ..) (KeepsLaws.refl ..))
  extract_lets qp s1 s2 s3 s4 at runs
  have own : late = decide (margin < 0) := by
    unfold late
    rw [State.rowMirror_alone alone]
    rfl
  clear_value late
  have told : o = .next (s3.tellRow c p qp late) := by
    clear_value s3
    exact runs.symm
  have sent : s3 = s2.sendRow c p x.cfg late := by
    unfold s3 State.sendRow
    exact if_congr Iff.rfl rfl (if_pos rfl)
  clear_value s3
  have bounds : (s.chan c).cfg.u8 29 ≤ 51 → (s.chan c).cfg.u8 29 ≤ qp ∧ qp ≤ 51 := EncChan.rowQp_bounds x p aq _
  clear_value qp
  obtain ⟨e, lateness, quantizer, joined⟩ : ∃ e : EncRow, e.late = late ∧ e.qp = qp ∧
      s2 = u.joinRow c p.num e ms0 (BitVec.ofInt 32 (least / 1000)) :=
    ⟨_, rfl, rfl, if_pos rfl⟩
  rw [told, sent, joined, ← lateness, ← quantizer]
  refine ⟨_, e, KeepsLaws.comp (KeepsLaws.mono free (KeepsLaws.subI rfl rfl)) (State.joinRow_keeps ..) (KeepsLaws.subI rfl rfl), ?_, ?_,
    quantizer ▸ bounds, rfl⟩
  · rw [State.chan_joinRow, free.chan c]
    exact EncChan.getLast?_joinRow last ..
  · rw [lateness, own]
    exact decide_eq_true_iff

end Sys2Proof.Machine
end

section
/-! SUPPORT. Late rows, and rows on their way to their PEs (06_coding_fabric_decode.md R233, R234; 07_encoder.md R278). -/

namespace Sys2Proof.Machine

/-- A channel with one late row more (R278). -/
def EncChan.oneLate (x : EncChan) (num : Nat) : EncChan :=
  { (x.modPic num (fun p => { p with lates := p.lates + 1 })) with prevLate := x.prevLate + 1 }

section

variable (s : State) (c num : Nat)

theorem State.chan_noteLate : (s.noteLate c num).chan c = (s.chan c).oneLate num := by
  unfold State.noteLate
  dsimp only
  rw [(State.eventPerSec_keeps ..).chan c, State.chan_congr (State.bumpSat_enc ..), State.chan_modChan_self]
  rfl

theorem State.noteLate_counts : (s.noteLate c num).getReg .ENC_CH_LATE c = (s.bumpSat .ENC_CH_LATE c).getReg .ENC_CH_LATE c := by
  unfold State.noteLate
  dsimp only
  rw [(State.eventPerSec_keeps ..).reg]
  exact State.getReg_bumpSat_congr (State.modChan_keeps ..).reg

end

section

variable {s : State} {c n : Nat} {p q : EncPic} {b : Body}

theorem State.sendRow_true (s : State) (c : Nat) (p : EncPic) (b : Body) : s.sendRow c p b true =
    (((s.noteLate c p.num).noteRecon (c, p.num, p.rows.length)).settleRows c p.num).refill := if_pos rfl

theorem State.sendRow_false (s : State) (c : Nat) (p : EncPic) (b : Body) : s.sendRow c p b false = (s.toDram (p.rowJob c b)).refill :=
  if_neg (by decide)

/-- Sending a row leaves the rows of its picture. -/
theorem State.sendRow_rows (last : (s.chan c).pics.getLast? = some q) (num : q.num = p.num) (late : Bool) :
    ∃ q', ((s.sendRow c p b late).chan c).pics.getLast? = some q' ∧ q'.rows = q.rows := by
  cases late with
  | false =>
    rw [State.sendRow_false, (State.refill_keeps ..).chan c, (State.toDram_keeps ..).chan c]
    exact ⟨q, last, rfl⟩
  | true =>
    rw [State.sendRow_true, (State.refill_keeps ..).chan c, (State.settleRows_keeps ..).chan c, (State.noteRecon_keeps ..).chan c,
      State.chan_noteLate]
    exact ⟨_, EncChan.getLast?_modPic last num, rfl⟩

/-- A late row is counted and stands as reconstructed (R233, R278). -/
theorem State.sendRow_late (s : State) (c : Nat) (p : EncPic) (b : Body) :
    (s.sendRow c p b true).getReg .ENC_CH_LATE c = (s.bumpSat .ENC_CH_LATE c).getReg .ENC_CH_LATE c ∧
      (c, p.num, p.rows.length) ∈ (s.sendRow c p b true).fab.rowsRecon := by
  obtain ⟨l, noted, here, -⟩ := (s.noteLate c p.num).noteRecon_fab (c, p.num, p.rows.length)
  obtain ⟨pe, done, settled⟩ := ((s.noteLate c p.num).noteRecon (c, p.num, p.rows.length)).settles_fold c p.num (List.range 32)
  rw [State.sendRow_true]
  constructor
  · rw [(State.refill_keeps ..).reg, (State.settleRows_keeps ..).reg, (State.noteRecon_keeps ..).reg, State.noteLate_counts]
  · rw [(State.refill_dispatched _).kept Fabric.rowsRecon fun _ => rfl, State.settleRows_eq, settled, noted]
    exact here

/-- A row that came in time joins the queue of the PE of its index, or the list in DRAM when this is full (R234). -/
theorem State.sendRow_sends (chan : c < 64) (rows : s.fab.dram = []) (entropy : s.fab.dramEe = [])
    (pe : (s.pesOf c)[p.rows.length % (s.pesOf c).length]? = some n) :
    ∃ j : Job, j.owner = c ∧ j.pic = p.num ∧ j.row = p.rows.length ∧ j.rows = eRows b ∧
      if (s.peSt n).queue.length < 16 then ((s.sendRow c p b false).peSt n).queue = (s.peSt n).queue ++ [j]
      else Tbl.get (s.sendRow c p b false).fab.dram c = [j] := by
  have waits : (s.toDram (p.rowJob c b)).fab.dram = [(c, [p.rowJob c b])] := by
    unfold State.toDram
    rw [rows]
    exact Tbl.modify_append_nil ..
  have same : (s.toDram (p.rowJob c b)).peSt n = s.peSt n := rfl
  have sent := State.refill_row (s := s.toDram (p.rowJob c b)) waits entropy chan rfl pe
  rw [same] at sent
  rw [State.sendRow_false]
  split_ifs at sent ⊢ with room
  · exact ⟨_, rfl, rfl, rfl, rfl, sent⟩
  · exact ⟨_, rfl, rfl, rfl, rfl, sent⟩

end

end Sys2Proof.Machine
end

section
/-! SUPPORT. ENC_ROW_OUTPUT (07_encoder.md R278, R280, R284, R291, R294, R299, R300). -/

namespace Sys2Proof.Machine

/-- What the bucket and the pictures of a channel show of its output. -/
def EncChan.outline (x : EncChan) : Nat × Nat × List (Nat × Nat) := (x.fill, x.lastOut, x.pics.map (fun p => (p.num, p.out)))

/-- From s to t channel c has put out nothing more. -/
structure State.Idles (c : Nat) (s t : State) : Prop where
  outline : (t.chan c).outline = (s.chan c).outline
  bucket : t.getReg .ENC_CH_BUCKET c = s.getReg .ENC_CH_BUCKET c
  count : t.getReg .ENC_CH_PICS c = s.getReg .ENC_CH_PICS c

namespace State.Idles

variable {c F R : Nat} {s t u : State}

theorem refl (c : Nat) (s : State) : State.Idles c s s := ⟨rfl, rfl, rfl⟩

theorem after (h : State.Idles c s u) (k : Keeps F R u t) (he : F.testBit Field.enc.ctorIdx = false := by rfl)
    (hb : R.testBit Reg.ENC_CH_BUCKET.ctorIdx = false := by rfl) (hp : R.testBit Reg.ENC_CH_PICS.ctorIdx = false := by rfl) :
    State.Idles c s t :=
  ⟨by rw [k.chan c he, h.outline], (k.reg hb).trans h.bucket, (k.reg hp).trans h.count⟩

theorem ite {p : Prop} {_ : Decidable p} {a b : State} (h : State.Idles c s a) (k : State.Idles c s b) : State.Idles c s (if p then a else b) := by
  split_ifs <;> assumption

end State.Idles

theorem State.noteLate_idles (s : State) (c num : Nat) : State.Idles c s (s.noteLate c num) := by
  refine ⟨?_, (State.noteLate_keeps ..).reg, (State.noteLate_keeps ..).reg⟩
  rw [State.chan_noteLate]
  simp only [EncChan.outline, EncChan.oneLate, EncChan.modPic, List.map_map]
  congr 2
  refine List.map_congr_left fun p _ => ?_
  dsimp only [Function.comp]
  split_ifs <;> rfl

/-! ### The end of a picture (R291, R294) -/

theorem State.writeStats_chan (s : State) (c : Nat) (p : EncPic) : (s.writeStats c p).enc.chan = s.enc.chan := by
  unfold State.writeStats
  extract_lets _ _
  split
  next _ sA first =>
  split
  next _ sB second =>
  have drawn : sB.enc = s.enc :=
    (KeepsLaws.ofSnd second (State.median_keeps ..)).enc.trans (KeepsLaws.ofSnd first (State.median_keeps ..)).enc
  extract_lets _ _ _ _ sent
  have kept : sent.enc.chan = s.enc.chan := congrArg Encoder.chan ((State.setBits_enc ..).trans ((State.emit_enc ..).trans drawn))
  split_ifs
  · rw [drawn]
  · rw [(State.eventPerSec_keeps ..).enc, State.bumpSat_enc, drawn]
  · exact kept

/-- A picture whose last row has left leaves the channel, and its jobs are dropped. -/
theorem State.endEncPicture_stages (s : State) (c : Nat) (p : EncPic) :
    ∃ u : State, u.chan c = { s.chan c with pics := (s.chan c).pics.filter (fun o => o.num != p.num) } ∧
      u.getReg .ENC_CH_PICS c = s.getReg .ENC_CH_PICS c ∧
      s.endEncPicture c p = ((u.dropJobs (fun o q => o == c && q == p.num)).refill).bumpWrap .ENC_CH_PICS c := by
  unfold State.endEncPicture
  extract_lets x b key mark hd s1 s2
  have buffered : Keeps 32768 0 s s1 := by
    unfold s1
    split
    · exact State.modPool_keeps ..
    · exact KeepsLaws.refl ..
  clear_value s1
  refine ⟨s2, ?_, ?_, rfl⟩
  · unfold s2
    rw [State.chan_modChan_self, State.chan, State.writeStats_chan, buffered.enc]
    rfl
  · unfold s2
    rw [(State.modChan_keeps ..).reg, (State.writeStats_keeps ..).reg, buffered.reg]

theorem State.chan_endEncPicture (s : State) (c : Nat) (p : EncPic) :
    (s.endEncPicture c p).chan c = { s.chan c with pics := (s.chan c).pics.filter (fun o => o.num != p.num) } := by
  obtain ⟨u, left, -, eq⟩ := s.endEncPicture_stages c p
  rw [eq, State.chan_congr (State.bumpWrap_enc ..), (State.refill_keeps ..).chan c, (State.dropJobs_keeps ..).chan c, left]

theorem State.endEncPicture_counts (s : State) {c : Nat} (p : EncPic) (hc : c < 16) :
    (s.endEncPicture c p).getReg .ENC_CH_PICS c = s.getReg .ENC_CH_PICS c + 1 := by
  obtain ⟨u, -, count, eq⟩ := s.endEncPicture_stages c p
  rw [eq, State.getReg_bumpWrap_self _ hc, (State.refill_keeps ..).reg, (State.dropJobs_keeps ..).reg, count]

/-! ### A row leaves (R280, R284) -/

/-- The NAL units before a picture's next row (R280, R292). -/
def EncPic.lead (p : EncPic) (b : Body) (row : RowCoded) : List (List Byte) :=
  if p.out = 0 then unitHead b (p.kind == 1 || p.kind == 2) row.sets p.sei else []

/-- Bits of a picture's next row with a NAL unit of its slice. -/
def EncPic.rowBits (p : EncPic) (b : Body) (row : RowCoded) (nal : List Byte) : Nat :=
  8 * (((p.lead b row).map (fun l => l.length)).sum + nal.length)

theorem execEncRowOutput_sends {c : Fin 16} {row : RowCoded} {p : EncPic} {rest : List EncPic} {er : EncRow} {s : State}
    (pics : (s.chan c).pics = p :: rest) (here : p.rows[p.out]? = some er) (due : eToutAt (s.chan c).cfg p.tk p.out ≤ s.ptp) :
    let x := s.chan c
    let f0 := (x.drained (eToutAt x.cfg p.tk p.out)).1
    ∃ (w : State) (p1 : EncPic) (n : Nat),
      execEncRowOutput c row s = .next (if p.out + 1 = eRows x.cfg then w.endEncPicture c p1 else w) ∧ p1.num = p.num ∧ p1.out = p.out + 1 ∧
      (n = p.rowBits x.cfg row (nalUnit (sliceType p.kind) row.fill) ∨
        n = p.rowBits x.cfg row (nalUnit (sliceType p.kind) row.slice) ∧ f0 + n + 8192 ≤ eBuf x.cfg ∧ p.kind ≠ 3 ∧ p.filled = false ∧
          er.late = false) ∧
      (w.chan c).outline = (f0 + n, eToutAt x.cfg p.tk p.out, (x.modPic p.num (fun _ => p1)).pics.map (fun q => (q.num, q.out))) ∧
      w.getReg .ENC_CH_BUCKET c = BitVec.ofNat 32 (f0 + n) ∧ w.getReg .ENC_CH_PICS c = s.getReg .ENC_CH_PICS c := by
  intro x f00
  generalize runs : execEncRowOutput c row s = o
  unfold execEncRowOutput at runs
  extract_lets b first at runs
  split at runs
  next missing => exact absurd (pics.symm.trans missing) (by simp)
  next q l found =>
  obtain ⟨rfl, -⟩ := List.cons.inj (pics.symm.trans found)
  extract_lets r t key readyBy pre coded bitsOf lastRow tsTime n at runs
  split at runs
  next missing => exact absurd (here.symm.trans missing) (by simp)
  next e found =>
  obtain rfl := Option.some.inj (here.symm.trans found)
  rw [if_neg (not_lt.mpr due)] at runs
  extract_lets reads slow0 slow at runs
  split at runs
  next f0 rem drained =>
  extract_lets tooBig isFill nal bits mode st pk crc p1 s1 s2 s3 old s3a l1 tot late s4 s5 agree s6 s7 s8 at runs
  have level : f00 = f0 := congrArg Prod.fst drained
  have admitted : bits = p.rowBits b row (nalUnit (sliceType p.kind) row.fill) ∨
      bits = p.rowBits b row (nalUnit (sliceType p.kind) row.slice) ∧ f0 + bits + 8192 ≤ eBuf b ∧ p.kind ≠ 3 ∧ p.filled = false ∧
        er.late = false := by
    cases fills : isFill with
    | true =>
      refine .inl ?_
      unfold bits nal
      rw [fills]
      rfl
    | false =>
      refine .inr ?_
      have sent : bits = p.rowBits b row (nalUnit (sliceType p.kind) row.slice) := by
        unfold bits nal
        rw [fills]
        rfl
      unfold isFill tooBig reads at fills
      simp only [Bool.or_eq_false_iff, Bool.not_eq_false', Bool.and_eq_true, bne_iff_ne, Bool.not_eq_true'] at fills
      obtain ⟨⟨⟨⟨codes, read⟩, intime⟩, quick⟩, room⟩ := fills
      refine ⟨sent, ?_, codes, read, intime⟩
      rw [sent]
      change f0 + bitsOf coded + 8192 ≤ eBuf b
      simpa [codes, read, intime, quick] using room
  have bucket : s2.getReg .ENC_CH_BUCKET c = BitVec.ofNat 32 (f0 + bits) := State.getReg_setReg_self _ _ c.isLt
  have count : s2.getReg .ENC_CH_PICS c = s.getReg .ENC_CH_PICS c := by
    unfold s2 s1
    rw [(KeepsLaws.setReg ..).reg, (State.modChan_keeps ..).reg]
  have outline : (s2.chan c).outline = (f0 + bits, eToutAt x.cfg p.tk p.out, (x.modPic p.num (fun _ => p1)).pics.map (fun q => (q.num, q.out))) := by
    unfold s2 s1
    rw [State.chan_congr (State.setReg_enc ..), State.chan_modChan_self]
    rfl
  have idles : State.Idles c s2 s8 := by
    have late : State.Idles c s2 s3 := .ite (State.noteLate_idles ..) (.refl ..)
    clear_value s2
    have filled : State.Idles c s2 s4 := by
      have counted : State.Idles c s2 s3a := late.after (State.addSatBits_keeps ..) (hb := by cases key <;> rfl)
      unfold s4
      exact .ite (.ite ((counted.after (State.setLim_keeps ..)).after (State.event_keeps ..)) (counted.after (State.setLim_keeps ..))) late
    have numbered : State.Idles c s2 s5 := .ite (filled.after (KeepsLaws.setReg ..)) filled
    clear_value s5
    have agreed : State.Idles c s2 s6 := by
      exact .ite (.ite (numbered.after (State.diverge_keeps ..)) (.ite (numbered.after (State.setChanState_keeps ..)) numbered)) numbered
    clear_value s6
    have told : State.Idles c s2 s7 := .ite (agreed.after (State.seam_keeps ..)) agreed
    clear_value s7
    exact .ite (told.after (State.queuePackets_keeps ..)) told
  refine ⟨s8, p1, bits, ?_, rfl, rfl, level ▸ admitted, ?_, ?_, ?_⟩
  · rw [← runs]
    exact congrArg Host.Outcome.next (if_congr beq_iff_eq rfl rfl)
  · rw [idles.outline, outline, level]
  · rw [idles.bucket, bucket, level]
  · rw [idles.count, count]

end Sys2Proof.Machine
end

section
/-! CLAIM. Pictures start on their clock, rows go by their deadlines, and the bucket holds what leaves (07_encoder.md R268, R269, R274 to
R276, R278, R280, R284, R286, R288, R292). -/

namespace Sys2Proof.Machine

/-- Settles O44: a picture by what its start makes of the channel and finishes off, a row at its input deadline by how it joins its picture and is
sent, a row at its output by the bucket behind it and by what ends a picture. -/
theorem picturesAreCodedOnTheirClock : Obligations.PicturesAreCodedOnTheirClock := by
  unfold Obligations.PicturesAreCodedOnTheirClock
  refine ⟨?picture, ?input, ?output⟩
  case picture =>
    intro c ready pre s x bound stays settled due alone _
    have engines := s.takeEngines_keeps c true
    obtain ⟨p, y, opens, told, repeated, keyed⟩ :=
      State.startEncPicture_effect (ready := ready) (pre := pre) c.isLt (engines.isStandby.trans alone) rfl
    rw [State.nextStatus_checkTaken, engines.chan c, engines.pool] at opens
    have field {α : Type} (g : EncChan → α) (hg : ∀ x, g x.untold = g x) :
        g (((s.takeEngines c true).startEncPicture c ready pre).chan c) = g y := by
      rw [← hg, told, hg]
    refine ⟨_, p, execEncPictureStart_starts ready pre bound stays settled due, (field (·.pics) fun _ => rfl).trans opens.pics,
      (field (·.pic) fun _ => rfl).trans opens.pic, (field (·.nextK) fun _ => rfl).trans opens.nextK, opens.num, opens.tk, ?_, ?_, ?_, ?_, ?_⟩
    · exact opens.status
    · exact opens.sei
    · exact opens.tag
    · intro unasked bad
      have kind := opens.repeated unasked bad
      exact ⟨kind, (repeated kind).trans (State.getReg_bumpSat_congr engines.reg)⟩
    · intro q asked unused
      obtain ⟨kind, cause, latch, need⟩ := opens.keyed q asked unused
      obtain ⟨count, answered⟩ := keyed kind
      refine ⟨kind, cause, (field (·.latch) fun _ => rfl).trans latch, (field (·.needKey) fun _ => rfl).trans need,
        count.trans (congrArg (· + 1) engines.reg), ?_⟩
      intro w waits left lowest early takes running
      obtain ⟨none_, replied⟩ := answered w (engines.enc ▸ waits) left lowest (opens.tk ▸ early) ((engines.evtEn rfl).trans takes)
        ((congrArg Interp.restart (engines.fields .interp rfl)).trans running)
      rw [opens.num, opens.tk] at replied
      exact ⟨none_, replied.after engines⟩
  case input =>
    intro c told p s last inside due alone coded reads margin
    obtain ⟨w, e, before, joined, late, qp, runs⟩ := execEncRowInputDeadline_reads (told := told) last inside due alone coded reads
    obtain ⟨p', stands, rows⟩ := State.sendRow_rows (p := p) (b := (s.chan c).cfg) joined rfl e.late
    have tells := State.tellRow_keeps (w.sendRow c p (s.chan c).cfg e.late) c p e.qp e.late
    have fabric : w.fab = s.fab := before.fab rfl
    refine ⟨_, p', runs, (congrArg (fun x : EncChan => x.pics.getLast?) (tells.chan c)).trans stands, ?_, ?_, ?_, ?_⟩
    · rw [rows, List.length_append, List.length_singleton]
    · intro e' here
      rw [rows, List.getElem?_concat_length] at here
      obtain rfl := Option.some.inj here
      exact ⟨late, qp⟩
    · intro negative
      rw [late.mpr negative] at tells ⊢
      obtain ⟨counted, recon⟩ := State.sendRow_late w c p (s.chan c).cfg
      rw [tells.reg, tells.fab rfl, counted]
      exact ⟨State.getReg_bumpSat_congr before.reg, recon⟩
    · intro intime held rows entropy n
      have punctual : e.late = false := by
        rw [← Bool.not_eq_true, late]
        exact not_lt.mpr intime
      rw [punctual] at tells ⊢
      have here : (w.pesOf c)[p.rows.length % (w.pesOf c).length]? = some n := by
        rw [State.pesOf, fabric]
        have inside : p.rows.length % (Tbl.get s.fab.places c).length < (Tbl.get s.fab.places c).length :=
          Nat.mod_lt _ (List.length_pos_of_ne_nil held)
        rw [List.getElem?_eq_getElem inside]
        exact congrArg some (List.getElem_eq_getD 0)
      obtain ⟨j, owner, pic, row, count, sent⟩ :=
        State.sendRow_sends (b := (s.chan c).cfg) (show c.val < 64 by omega) (fabric ▸ rows) (fabric ▸ entropy) here
      refine ⟨j, owner, pic, row, count, ?_⟩
      rw [State.peSt, State.peSt, tells.fab rfl, ← fabric]
      exact sent
  case output =>
    intro c row p rest er s x pics here due
    obtain ⟨w, p1, n, runs, num, out, admitted, outline, bucket, count⟩ := execEncRowOutput_sends (row := row) pics here due
    obtain ⟨fill, rest_⟩ := Prod.mk.inj outline
    obtain ⟨lastOut, listed⟩ := Prod.mk.inj rest_
    refine ⟨_, runs, ?_⟩
    intro pre bits f0
    have sent : ∀ z, z = f0 + n → (z = f0 + bits (nalUnit (sliceType p.kind) row.fill) ∨
        z = f0 + bits (nalUnit (sliceType p.kind) row.slice) ∧ z + 8192 ≤ eBuf x.cfg ∧ p.kind ≠ 3 ∧ p.filled = false ∧
          er.late = false) := by
      rintro z rfl
      exact admitted.imp (congrArg (f0 + ·)) (And.imp_left (congrArg (f0 + ·)))
    split_ifs with last
    · have ends := w.chan_endEncPicture c p1
      rw [ends, (State.endEncPicture_keeps w c p1).reg, w.endEncPicture_counts p1 c.isLt, bucket, count]
      refine ⟨sent _ fill, by rw [← fill], lastOut, rfl, fun o inside => ?_⟩
      rw [← num]
      simpa using (List.mem_filter.mp inside).2
    · refine ⟨sent _ fill, bucket.trans (by rw [← fill]), lastOut, ?_⟩
      have first : (x.modPic p.num (fun _ => p1)).pics.head? = some p1 := EncChan.head?_modPic (p := p) (by rw [pics]; rfl) rfl
      have next := congrArg (fun l => l.head?.map Prod.snd) listed
      rw [List.head?_map, List.head?_map, Option.map_map, Option.map_map, first] at next
      exact next.trans (congrArg some out)

end Sys2Proof.Machine
end
